-- ==== Sys2Proof/Word.lean ====
section
/-! DEFINITION. The word of a register (R5: 32 bits, little-endian) and the plainest arithmetic on it. -/

namespace Sys2Proof

/-- A register word (R5). -/
abbrev Word := BitVec 32

/-- Bits `hi` down to `lo` of a number. -/
def bitsOf (n hi lo : Nat) : Nat := n / 2 ^ lo % 2 ^ (hi + 1 - lo)

/-- `n` with bits `hi` down to `lo` replaced by the low bits of `v`. -/
def withBits (n hi lo v : Nat) : Nat :=
  n - bitsOf n hi lo * 2 ^ lo + v % 2 ^ (hi + 1 - lo) * 2 ^ lo

/-- Bit `k` of a number. -/
def bitAt (n k : Nat) : Bool := n / 2 ^ k % 2 = 1

/-- A two's complement number of `w` bits as an integer. -/
def toSigned (w n : Nat) : Int :=
  if n % 2 ^ w < 2 ^ (w - 1) then (n % 2 ^ w : Nat) else (n % 2 ^ w : Nat) - (2 ^ w : Nat)

/-- An integer as `w` bits of two's complement. -/
def ofSigned (w : Nat) (i : Int) : Nat := (i % (2 ^ w : Nat)).toNat

/-- `1` for true, `0` for false: a flag as a field value. -/
def bnat (b : Bool) : Nat := if b then 1 else 0

/-- An integer limited to a range. -/
def clampInt (lo hi x : Int) : Int := if x < lo then lo else if hi < x then hi else x

/-- A natural number limited to a range. -/
def clampNat (lo hi x : Nat) : Nat := if x < lo then lo else if hi < x then hi else x

/-- Little-endian bytes: `k` bytes of `n`, lowest first (R58). -/
def leBytes : Nat → Nat → List Nat
  | 0, _ => []
  | k + 1, n => n % 256 :: leBytes k (n / 256)

/-- The number that little-endian bytes spell. -/
def ofLeBytes : List Nat → Nat
  | [] => 0
  | b :: bs => b + 256 * ofLeBytes bs

/-- The positions below `w` at which a mask has a 1, lowest first. -/
def bitsSet (w mask : Nat) : List Nat := (List.range w).filter (fun k => bitAt mask k)

/-- The number of 1 bits of a mask below `w`. -/
def popCount (w mask : Nat) : Nat := (bitsSet w mask).length

/-- A mask with bit `k` set. -/
def maskSet (mask k : Nat) : Nat := mask ||| 2 ^ k

/-- A mask with bit `k` cleared. -/
def maskClear (mask k : Nat) : Nat := if bitAt mask k then mask - 2 ^ k else mask

/-- A mask with bit `k` set to `b`. -/
def maskPut (mask k : Nat) (b : Bool) : Nat := if b then maskSet mask k else maskClear mask k

/-- The bits of `a` that are not in `b`. -/
def maskDiff (a b : Nat) : Nat := a - (a &&& b)

end Sys2Proof
end

