-- ==== Sys2Proof/Machine/Maps.lean ====
section
/-! DEFINITION. Sparse maps in one canonical form: keys strictly rising, no entry equal to what an
unlisted key reads as. Registers, clusters, sites and the like are held this way. -/

namespace Sys2Proof.Machine

/-- A sparse map from a number (a byte offset, a cluster, a site) to a value. -/
abbrev SMap (α : Type) := List (Nat × α)

/-- The value at key `k`; `d` says what an unlisted key reads as. -/
def SMap.get {α : Type} (d : Nat → α) : SMap α → Nat → α
  | [], k => d k
  | (a, v) :: m, k => if a = k then v else SMap.get d m k

/-- The map without an entry for `k`. -/
def SMap.drop {α : Type} : SMap α → Nat → SMap α
  | [], _ => []
  | (a, v) :: m, k => if a = k then SMap.drop m k else (a, v) :: SMap.drop m k

/-- The map with `v` listed at `k`. -/
def SMap.enter {α : Type} : SMap α → Nat → α → SMap α
  | [], k, v => [(k, v)]
  | (a, w) :: m, k, v =>
    if a = k then (k, v) :: m else if k < a then (k, v) :: (a, w) :: m else (a, w) :: SMap.enter m k v

/-- The map with value `v` at `k`: listed only where it differs from the default. -/
def SMap.put {α : Type} [DecidableEq α] (d : Nat → α) (m : SMap α) (k : Nat) (v : α) : SMap α :=
  if v = d k then SMap.drop m k else SMap.enter m k v

/-- Is `k` listed? -/
def SMap.has {α : Type} (m : SMap α) (k : Nat) : Bool := m.any (fun p => p.1 == k)

/-- The listed value at `k`, if any. -/
def SMap.find {α : Type} : SMap α → Nat → Option α
  | [], _ => none
  | (a, v) :: m, k => if a = k then some v else SMap.find m k

/-- The canonical form: keys strictly rising, and no entry equal to the default. -/
abbrev SMap.wf {α : Type} [DecidableEq α] (d : Nat → α) (m : SMap α) : Prop :=
  m.Pairwise (fun a b => a.1 < b.1) ∧ ∀ p ∈ m, p.2 ≠ d p.1

/-- The list with the element at position `k` replaced. -/
def listSet {α : Type} : List α → Nat → α → List α
  | [], _, _ => []
  | _ :: xs, 0, v => v :: xs
  | x :: xs, k + 1, v => x :: listSet xs k v

/-- The element at position `k`, or `d` past the end. -/
def listGet {α : Type} (d : α) : List α → Nat → α
  | [], _ => d
  | x :: _, 0 => x
  | _ :: xs, k + 1 => listGet d xs k

/-- `f` folded over a list, the state threaded from its first element to its last. -/
def each {α σ : Type} (xs : List α) (f : α → σ → σ) (s : σ) : σ := xs.foldl (fun t x => f x t) s

end Sys2Proof.Machine
end

