-- ==== Sys2Proof/Machine/Inputs.lean ====
section
/-! DEFINITION. Operands of the commands: what comes in over the block's ports, as plain data. -/

namespace Sys2Proof.Machine

/-! ### Requesters of the register port (R52) -/

/-- Who sends a register access: reg_req_priv, with reg_req_ctx for a tenant. -/
inductive Who where
  | host | debug
  | tenant (ctx : Nat)
  | rsvd
deriving DecidableEq, Repr

/-! ### Rail ports (R72, R73, R77) -/

/-- What a phase reports by a control sample: a new current code if one came, temperature, fault. -/
structure PhaseIn where
  k : Nat
  i : Option Int := none
  temp : Nat := 0
  flt : Bool := false
deriving DecidableEq, Repr

/-- The inputs of a control sample: the codes of the two converters, none where a conversion is missing, and
the phases that have something new. -/
structure SampleIn where
  remote : Option Int := none
  loc : Option Int := none
  phases : List PhaseIn := []
deriving DecidableEq, Repr

/-- The response of a further AVSBus transaction of one row: its CRC and acknowledgement, and its status response. -/
structure AvsReply where
  good : Bool := true
  resp : Nat := 0
  alert : Bool := false
  fault : Bool := false
deriving DecidableEq, Repr

/-- What the board module answers to an AVSBus transaction (R213–R215): a good CRC and acknowledgement, the status
response with its alert bit and fault as told, the reading: VIN_IVR in mV, or current and temperature. `more` holds the
responses of the transactions that follow in the same row, in order; with none left the last one stands. -/
structure AvsIn where
  good : Bool := true
  resp : Nat := 0
  alert : Bool := false
  fault : Bool := false
  vin : Nat := 0
  iout : Nat := 0
  temp : Nat := 0
  more : List AvsReply := []
deriving DecidableEq, Repr

/-- What the module answers to the row's next transaction. -/
def AvsIn.next (a : AvsIn) : AvsIn :=
  match a.more with
  | [] => a
  | r :: rest => { a with good := r.good, resp := r.resp, alert := r.alert, fault := r.fault, more := rest }

/-! ### Sensor sites and memory stacks (R75, R78) -/

/-- A site at a sampling round: did site_done rise within 8 µs, and the raw code. -/
structure SiteIn where
  site : Nat
  done : Bool := true
  raw : Nat := 0
deriving DecidableEq, Repr

/-! ### Hedgerow (R320, R321) -/

/-- A flit as received: the source instance and the fields of R320; a bad CRC is told by `bad`. -/
structure FlitHdr where
  src : Nat := 0
  seq : Nat := 0
  more : Bool := false
  ack : Nat := 0
  ackVld : Bool := false
  nak : Bool := false
  tag : Nat := 0
  epoch : Nat := 0
  bad : Bool := false
deriving DecidableEq, Repr

/-- A forwarded command with its parameters (R336). `ctx`: the tenant context it is limited to. -/
inductive FwdCmd where
  | getInfo
  | getBudget (ctx : Option Nat)
  | readCounters (set source first count dest : Nat) (ctx : Option Nat)
  | armTrigger (action post sources units : Nat)
  | readRing (unit index first count dest : Nat) (ctx : Option Nat)
  | faultRead
  | faultClear (flags source : Nat)
  | faultForce (source syn : Nat)
  | captureRead (rail first count dest : Nat)
  /-- may an injection start there (R228)? -/
  | injectStart
deriving DecidableEq, Repr

/-- What an EVENT flit reports (R337, R353, R381). -/
inductive DieEvent where
  /-- a fault became pending: source, syndrome, flags and reactions as in R491, time of the latch -/
  | fault (src syn flags react time : Nat)
  /-- sources with INT, with ERR_PIN, and enabled ones with ERR_PIN are pending (R97, R461) -/
  | lines (int err pin : Bool)
  /-- a slow-down request: reason, index, deadline (R273) -/
  | slowDown (reason index deadline : Nat)
  /-- start-up stopped with a code; start-up reached READY (R111, R113) -/
  | stopped (code : Nat)
  | ready
  /-- the die's own rate r_d (R353) -/
  | rate (r : Nat)
  /-- a doorbell cause of R381: its bit -/
  | bell (bit : Nat)
  /-- the die's flags: [0] WARN, [1] THROTTLE, [2] SHUTDOWN, [3] thermal emergency, [7:4] CRIT of its stacks, [8] power
  emergency, [9] a rail is not stable, [31:16] the throttle reasons active, [47:32] those that have set since the last such
  report (R296, R300, R301, R407, R423, logs 151 and 155) -/
  | flags (w : Nat)
  /-- the outcome of a compartment fault: KIND, REASON, COMPARTMENT, counter and VERSION of R427 -/
  | firmware (kind reason comp counter version : Nat)
  /-- the die's block reset has ended (R362, log 173) -/
  | resetDone
deriving DecidableEq, Repr

/-- USER caps (R420, R421): pool, windows, contexts, die indices. -/
structure UserCaps where
  pool : Option Nat := none
  wins : List (Nat × Nat) := []
  ctxs : List (Nat × Nat) := []
  idx : List (Nat × Nat) := []
deriving DecidableEq, Repr

/-- What USER stages with cap_stage (R420). -/
inductive UserCap where
  | pool (q : Nat)
  | window (n mw : Nat)
  | ctx (c max : Nat)
  | index (die cap : Nat)
deriving DecidableEq, Repr

/-- What a DATA flit carries (R321). -/
inductive Bulk where
  /-- a block of an image being forwarded: the slot it is read from, 3 for a host-loaded image, its bytes; and the image's
  rejection (R415) -/
  | imageBlock (slot : Nat) (bytes : List Nat)
  | imageReject
  /-- an activation has begun: the cores restart into ROM (R424, log 178) -/
  | activate
  /-- profile records to load, or a first ID and a count to drop, with the next PREPARE (R145, R152) -/
  | load (recs : List (List Nat))
  | drop (first count : Nat)
  /-- a reservation: hint, profile or 0, T, package mask, tenant context it is limited to (R152) -/
  | reserve (hint : Bool) (profile t mask : Nat) (ctx : Option Nat)
  /-- a window decision: window, 1 lower, 2 raise, 0 hold (R262) -/
  | decision (w dec : Nat)
  /-- the Skylark value of the next millisecond pulse; `step`: a step is announced (R365, R366) -/
  | skylark (ns : Nat) (step : Bool)
  /-- access state, scope, method and timer in seconds (R471) -/
  | access (state scope method seconds : Nat)
  /-- the host epoch (R400), the die count of the package (R444) -/
  | hostEpoch (e : Nat)
  | dieCount (n : Nat)
  /-- a watch range (R449), and a die's sums of it in lines -/
  | watchRange (r : Nat) (en : Bool) (epl base limit : Nat)
  | watchSums (lines : List Nat)
  /-- a snapshot goes with the next PREPARE; it freezes the rings; a die is left out of it (R446, R448, R454) -/
  | snapshot (freeze left : Bool)
  /-- every staged value is discarded (R394); UNATTENDED is in force, or no longer (R402) -/
  | abortStage
  | session (unattended : Bool)
  /-- USER caps go with the next PREPARE (R421) -/
  | userCaps (c : UserCaps)
  /-- the next PREPARE brings the writes of a verified image (R416) -/
  | image
  /-- a follower's die sums of the slot, UTIL and NOMINAL counters (R433) -/
  | obsSums (sums : List Nat)
  /-- the measured energy of a gap of a follower's estimator, pJ, from and to a Skylark time (R254, R261) -/
  | gap (pj t0 t1 : Nat)
  /-- the temperatures of a follower's stacks, by stack (R300, R407, log 151) -/
  | stacks (ts : List (Nat × Int))
  /-- a follower's VIN_IVR reading, mV (R407, log 69) -/
  | vin (mv : Nat)
deriving DecidableEq, Repr

/-- The payload of a flit, by type (R321). -/
inductive Payload where
  | link
  | heartbeat (pstate : Nat) (stopped autonomous : Bool)
  | strap (dieId : Nat) (leader : Bool)
  | stage (off value : Nat)
  | prepare (id kind count crc : Nat)
  | prepareAck (id : Nat) (nack : Bool) (regions : Nat)
  | commit (t : Nat)
  | abort (id : Nat)
  | cmd (c : FwdCmd)
  | cmdDone (tag status : Nat) (result : List Nat)
  | event (e : DieEvent)
  | energy (uw : Nat)
  | thermal (tDie tMem : Int)
  | level (idx value : Nat)
  | data (d : Bulk)
deriving DecidableEq, Repr

/-! ### Edvik (R341, R342) -/

/-- A frame's header, with the NIC port and address it came from or goes to, its UDP ports and its DSCP (R83, R341). -/
structure FrameHdr where
  src : Nat := 0xFFFF
  dst : Nat := 0xFFFF
  epoch : Nat := 0
  seq : Nat := 0
  ackVld : Bool := false
  ack : Nat := 0
  retx : Bool := false
  port : Nat := 0
  addr : Nat := 0
  sport : Nat := 0
  dport : Nat := 0
  dscp : Nat := 0
deriving DecidableEq, Repr

/-- A frame's body. -/
inductive FrameBody where
  | hello (node port : Nat)
  | helloAck (node port : Nat)
  | ack (seqs : List Nat)
  | pace (group rate valid holder : Nat)
  | emerg (scope rate group valid origin : Nat)
  | relPrepare (id kind levels group newSet newRate valid : Nat)
  | relVote (id vote count : Nat)
  | relCommit (id t : Nat)
  | relAbort (id : Nat)
deriving DecidableEq, Repr

/-! ### Management endpoint (R406, R407) -/

/-- An MCTP control message that the endpoint supports, or another one (R406). -/
inductive CtlReq where
  | setEid (eid : Nat)
  | getEid
  | getVersion (type : Nat)
  | getTypes
  | getVendor
  | other
deriving DecidableEq, Repr

/-- A numeric sensor of R407: a die's T_die, the package maximum, a stack of a die, package and die power, a die's
VIN_IVR. -/
inductive Numeric where
  | tDie (d : Nat)
  | tPkg
  | tStack (d k : Nat)
  | pkgPower
  | diePower (d : Nat)
  | vin (d : Nat)
deriving DecidableEq, Repr

/-- A PLDM request (R300, R406, R407): discovery, a numeric sensor and its upper thresholds, a state sensor, the
effecter of a window's limit, the event receiver, the event queue. -/
inductive PldmReq where
  | getTid
  | setTid (tid : Nat)
  | getTypes
  | getVersion (type : Nat)
  | getCommands (type : Nat)
  | reading (x : Numeric)
  | thresholds (x : Numeric)
  | session
  | die (d : Nat)
  | throttle (d : Nat)
  | getLimit (n : Nat)
  | setLimit (n mw : Nat)
  | setReceiver (eid : Nat)
  | poll
  | other
deriving DecidableEq, Repr

/-! ### Images (R411, R412, R417) -/

/-- A section of an image (R412). -/
structure SectionIn where
  type : Nat := 0
  dieMask : Nat := 0xFF
  offset : Nat := 0
  length : Nat := 0
  load : Nat := 0
  /-- bytes 2–3, and 16–23 above them -/
  rsvd : Nat := 0
deriving DecidableEq, Repr

/-- A USER section: OEM key, signature, signed bytes (R412, R420). -/
structure UserIn where
  key : List Nat := []
  sig : Nat := 0
  signed : List Nat := []
deriving DecidableEq, Repr

/-- An image as a slot or host memory holds it: its bytes from the header's first (R411); bytes that are left out at the
end are 0. -/
structure ImageIn where
  bytes : List Nat := []
deriving DecidableEq, Repr

/-- Are two byte strings the same, bytes that are left out at the end being 0? -/
def sameBytes : List Nat → List Nat → Bool
  | [], bs => bs.all (fun b => b == 0)
  | as, [] => as.all (fun b => b == 0)
  | a :: as, b :: bs => a == b && sameBytes as bs

/-! ### What a core does that its region checker or MONITOR stops (R410) -/

/-- A region of a core's checker (R410): base, log2 of the size, permissions, the compartments that may use it. -/
structure Region where
  base : Nat := 0
  size : Nat := 8
  read : Bool := false
  write : Bool := false
  exec : Bool := false
  mask : Nat := 0
deriving DecidableEq, Repr

/-- How a core accesses memory. -/
inductive AccessKind where
  | read | write | exec
deriving DecidableEq, Repr

/-- What a compartment does on a core that may be a fault of it (R410): an access, an illegal instruction, a run without
yielding to MONITOR, in ns. -/
inductive CoreAct where
  | access (kind : AccessKind) (addr bytes : Nat)
  | illegal
  | run (ns : Nat)
deriving DecidableEq, Repr

end Sys2Proof.Machine
end

