-- ==== Sys2Proof/Syntax.lean ====
section
/-! DEFINITION. The commands of the block: one constructor for each row of the table of operations and events, with
what comes in with it. A row whose effect is due to a deadline takes no time: the model's clock moves to it (log 1). -/

namespace Sys2Proof

open Sys2Proof.Machine

/-- The commands. A command of a mailbox takes its source `m`: mailboxes 0–31, the management endpoint 32; its
parameters are those read from its packet. -/
inductive Instr where
  /-- VAON_POR_RELEASE: VAON rises above its POR threshold (R101). -/
  | vaonPorRelease
  /-- HEATH_POR: VAON falls below its POR threshold (R103). -/
  | heathPor
  /-- PORST_N_ASSERT: PORST_N falls (R110). -/
  | porstNAssert
  /-- PORST_N_DEASSERT: PORST_N rises with the straps as told (R28, R111). -/
  | porstNDeassert (leaderSel : Bool) (dieId : Nat)
  /-- PLL_LOCK: the PLL locks (R111). -/
  | pllLock
  /-- STRAP_EXCHANGE_CLOSE: the strap exchange closes (R29). -/
  | strapExchangeClose
  /-- SFDP_DISCOVERY: flash discovery ends: the flash's size in bytes, none where no flash answers (R98, R417). -/
  | sfdpDiscovery (density : Option Nat)
  /-- FLASH_ABSENT_TIMEOUT: 10 s without an image (R112). -/
  | flashAbsentTimeout
  /-- SLOT_VERIFY: the ROM has read and judges the slot it tries, or the host-loaded image (R414). -/
  | slotVerify (img : ImageIn)
  /-- FOLLOWER_IMAGE_VERIFY: a follower has verified its copy (R415). -/
  | followerImageVerify (img : ImageIn)
  /-- IMAGE_START: every die has verified the image (R416). -/
  | imageStart
  /-- VIN_SETTLE_TIMEOUT: VIN_IVR has not settled in 200 µs (R214). -/
  | vinSettleTimeout
  /-- RAIL_IN_REGULATION: a soft-starting rail is in regulation (R209). -/
  | railInRegulation (rail : Nat)
  /-- SOFTSTART_TIMEOUT: a soft-start bound passes (R209). -/
  | softstartTimeout (rail : Nat)
  /-- BLOCK_RESET_WRITE: a write of HEATH_RESET_CTRL (R106). -/
  | blockResetWrite (data : Nat) (who : Who)
  /-- BLOCK_RESET_COMPLETE: the block reset completes (R106). -/
  | blockResetComplete
  /-- STEWARD_DIGEST_CHECK: the ROM has hashed the retained SRAM (R106). -/
  | stewardDigestCheck (digest : Nat)
  /-- PS_REQUEST: ps_req_vld rises with ps_req (R89). -/
  | psRequest (req : Nat)
  /-- PS_TRANSITION_DONE: the leg under way is complete (R89). -/
  | psTransitionDone
  /-- PS_REQ_RELEASE: ps_req_vld falls (R89). -/
  | psReqRelease
  /-- HALF_OFF_REQUEST: half_off_req rises (R90). -/
  | halfOffRequest (half : Nat)
  /-- HALF_RESTART: half_off_req falls (R90). -/
  | halfRestart (half : Nat)
  /-- HALF_OFF_ACK_RELEASE: every agent of the half runs again (R90). -/
  | halfOffAckRelease (half : Nat)
  /-- HEATH_WAKE_EVENT: a wake event is latched: a bit of HEATH_WAKE_CAUSE (R14). -/
  | heathWakeEvent (cause : Nat)
  /-- LINGER_EXPIRY: LINGER of the block core domain (0) or the steward domain (1) ends (R19). -/
  | lingerExpiry (dom : Nat)
  /-- REGISTER_WRITE: a register write (R55). -/
  | registerWrite (off data : Nat) (who : Who)
  /-- LOW_WORD_READ: a read of a low word (R252). -/
  | lowWordRead (off : Nat) (who : Who)
  /-- MB_IN_W1H_WRITE: a write of word W1H of an inbound slot (R375). -/
  | mbInW1hWrite (m data : Nat) (who : Who)
  /-- MB_OUT_FULL_CLEAR: a write of MB_OUT_FULL (R377). -/
  | mbOutFullClear (data : Nat) (who : Who)
  /-- MB_DB_IN_WRITE: a write of MB_DB_IN (R380). -/
  | mbDbInWrite (data : Nat) (who : Who)
  /-- MB_DB_OUT_CLEAR: a write of MB_DB_OUT (R380). -/
  | mbDbOutClear (data : Nat) (who : Who)
  /-- CMD_MB_CTX_WRITE: a write of CMD_MB_CTX (R391). -/
  | cmdMbCtxWrite (m data : Nat) (who : Who)
  /-- RAIL_CAP_ARM: a write of a capture control register with ARM (R226). -/
  | railCapArm (rail data : Nat) (who : Who)
  /-- RAIL_CAP_STOP: a write of a capture control register with STOP (R227). -/
  | railCapStop (rail data : Nat) (who : Who)
  /-- RING_CTRL_ARM: a write of RING_CTRL with ARM (R441). -/
  | ringCtrlArm (data : Nat) (who : Who)
  /-- RING_CTRL_FORCE: a write of RING_CTRL with FORCE (R441). -/
  | ringCtrlForce (data : Nat) (who : Who)
  /-- RING_CTRL_RESUME: a write of RING_CTRL with RESUME (R443). -/
  | ringCtrlResume (data : Nat) (who : Who)
  /-- RING_LEN_WRITE: a write of RING_LEN or RING_SAMP (R438). -/
  | ringLenWrite (off data : Nat) (who : Who)
  /-- TIME_RESYNC: a write of TIME_CTRL (R366). -/
  | timeResync (data : Nat) (who : Who)
  /-- FH_SRC_FORCE: a write of FH_SRC with FORCE (R468). -/
  | fhSrcForce (i data : Nat) (who : Who)
  /-- FH_PEND_CLEAR: a write of FH_PEND (R464). -/
  | fhPendClear (j data : Nat) (who : Who)
  /-- FH_FIRST_CLEAR: a write of FH_FIRST (R463). -/
  | fhFirstClear (data : Nat) (who : Who)
  /-- PH_FAULT_READMIT: a write of a phase exclusion register (R189). -/
  | phFaultReadmit (rail : Nat) (hi : Bool) (data : Nat) (who : Who)
  /-- SITE_SUSPECT_CLEAR: a write of SITE_STATUS (R281). -/
  | siteSuspectClear (site data : Nat) (who : Who)
  /-- BUD_SLOW_CLEAR: a write of BUD_SLOW (R273). -/
  | budSlowClear (data : Nat) (who : Who)
  /-- FW_LOAD_GO: a write of HEATH_FW_LOAD_CTRL (R417). -/
  | fwLoadGo (data : Nat) (who : Who)
  /-- ACC_CTRL_RELOCK: a write of ACC_CTRL (R476). -/
  | accCtrlRelock (data : Nat) (who : Who)
  /-- ENG_CLASS_RISE: an engine's sampled class rises (R120). -/
  | engClassRise (c e cls : Nat)
  /-- ENG_CLASS_FALL: an engine's sampled class falls (R121). -/
  | engClassFall (c e cls : Nat)
  /-- HELD_QUANTA_EXPIRY: held quanta reach their hysteresis (R122). -/
  | heldQuantaExpiry (c : Nat)
  /-- CLUSTER_IDLE: every engine of a cluster has been idle for the idle time (R123). -/
  | clusterIdle (c : Nat)
  /-- CL_RUN_FALL: cl_run falls, with the activity counts of the partial interval (R70, R232). -/
  | clRunFall (c : Nat) (counts : List Nat)
  /-- CL_RUN_RISE: cl_run rises (R70). -/
  | clRunRise (c : Nat)
  /-- RECLAIM_MESSAGE: a reclaim reaches the agent (R140). -/
  | reclaimMessage (c : Nat)
  /-- GRANT_DELIVERY: a grant reaches the agent (R132). -/
  | grantDelivery (c e : Nat)
  /-- ACTIVITY_INTERVAL_CLOSE: an activity interval ends after so many clock edges at a droop code, with the activity
  counts (R231). -/
  | activityIntervalClose (c edges code : Nat) (counts : List Nat)
  /-- DROOP_DETECTION: one clock edge with a droop detector code (R162). -/
  | droopDetection (c code : Nat)
  /-- LADDER_TIMER_EXPIRY: clock edges up to the ladder timer's end (R170). -/
  | ladderTimerExpiry (c code : Nat)
  /-- LOCAL_STOP_EXPIRY: the local stop of grants ends (R174). -/
  | localStopExpiry (c : Nat)
  /-- FAST_CALIBRATION_WINDOW: a calibration window ends with a mean code (R166). -/
  | fastCalibrationWindow (c m : Nat)
  /-- MAINTENANCE_ROUND: a maintenance round ends with a mean code (R167). -/
  | maintenanceRound (c m start : Nat)
  /-- STUCK_DETECTOR: SEVERE has lasted for the stuck time (R182). -/
  | stuckDetector (c : Nat)
  /-- DETECTOR_REINSTATE: a stuck detector is reinstated (R182). -/
  | detectorReinstate (c : Nat)
  /-- GRANT_REQUEST: a forwarded request reaches the arbiter (R133). -/
  | grantRequest (c e : Nat)
  /-- PROACTIVE_FORCE_END: the proactive force of a stripe ends (R177). -/
  | proactiveForceEnd (stripe : Nat)
  /-- ARBITER_GRANT: an arbiter cycle (R136, R138). -/
  | arbiterGrant
  /-- WAVE_STEP_BOUNDARY: a step boundary of the arbiter (R130, R135). -/
  | waveStepBoundary
  /-- LOCAL_GRANT_REPORT: a report of local grants and releases reaches the arbiter (R125). -/
  | localGrantReport (c : Nat)
  /-- POCKET_REFILL: a pocket refill (R124). -/
  | pocketRefill (c : Nat)
  /-- REVOCATION_PASS: an arbiter cycle of a revocation pass (R140). -/
  | revocationPass
  /-- RESERVATION_START: a reservation starts (R147). -/
  | reservationStart (id : Nat)
  /-- RESERVATION_TIME_T: a reservation's T comes (R135). -/
  | reservationTimeT (id : Nat)
  /-- RESERVATION_END: a reservation ends (R147). -/
  | reservationEnd (id : Nat)
  /-- PREBIAS_START: a reservation's pre-bias begins (R150). -/
  | prebiasStart (id : Nat)
  /-- SEVERE_REPORT: a SEVERE report reaches the droop engine (R174). -/
  | severeReport (c : Nat)
  /-- FREEZE_EXPIRY: a stripe's freeze ends (R174). -/
  | freezeExpiry (stripe : Nat)
  /-- DIE_FORCE_RELEASE_STEP: a release step of a die force (R173). -/
  | dieForceReleaseStep
  /-- LIMITER_OPERAND_CHANGE: an operand of the limiter has changed (R258). -/
  | limiterOperandChange
  /-- OPP_STEP_START: the limiter starts a step (R265). -/
  | oppStepStart
  /-- OPP_FREQ_HANDSHAKE_START: opp_freq_req rises (R268). -/
  | oppFreqHandshakeStart
  /-- OPP_FREQ_ACK: opp_freq_ack rises (R268). -/
  | oppFreqAck
  /-- OPP_FREQ_ACK_FALL: opp_freq_ack falls (R268). -/
  | oppFreqAckFall
  /-- OPP_FREQ_TIMEOUT: opp_freq_req has been unanswered too long (R268). -/
  | oppFreqTimeout
  /-- WINDOW_SLOT_BOUNDARY: a slot boundary of an energy window (R261). -/
  | windowSlotBoundary (n : Nat)
  /-- WINDOW_DECISION_APPLY: a window decision is applied (R262). -/
  | windowDecisionApply (n : Nat)
  /-- WINDOW_AUTONOMOUS: an autonomous die decides alone (R263). -/
  | windowAutonomous (n : Nat)
  /-- FAST_LIMIT_LATCH: FAST_LIMIT_N low is latched (R270). -/
  | fastLimitLatch
  /-- FAST_LIMIT_RELEASE: FAST_LIMIT_N returns high (R271). -/
  | fastLimitRelease
  /-- EMERGENCY_HOLD_EXPIRY: the emergency hold ends (R271). -/
  | emergencyHoldExpiry
  /-- SUPPLY_HOLD_EXPIRY: a hold of the supply cap ends (R272). -/
  | supplyHoldExpiry
  /-- CONTROL_SAMPLE: a switching period of a rail keeper (R199). -/
  | controlSample (rail : Nat) (inp : SampleIn)
  /-- HOLD_EXPIRY: an open-loop hold reaches its limit (R206). -/
  | holdExpiry (rail : Nat)
  /-- PHASE_SHED: a rail sheds phases (R188). -/
  | phaseShed (rail : Nat)
  /-- ORDERED_SHUTDOWN_START: the first rail of an ordered shutdown goes down (R210). -/
  | orderedShutdownStart
  /-- RAIL_SHUTDOWN_DONE: a rail of an ordered shutdown is at 300 mV (R210). -/
  | railShutdownDone (rail : Nat)
  /-- NEXT_RAIL_SHUTDOWN: the next rail of an ordered shutdown goes down (R210). -/
  | nextRailShutdown
  /-- DPWM_RECALIBRATION: a DPWM recalibration: the delay lines measured, and the taps per DPWM cycle of each in the same
  order (R306). -/
  | dpwmRecalibration (lines taps : List Nat)
  /-- AVS_VIN_POLL: a VIN_IVR poll and its answer (R214). -/
  | avsVinPoll (a : AvsIn)
  /-- VIN_STALE: the VIN_IVR reading becomes stale (R215). -/
  | vinStale
  /-- AVS_STATUS_READ: a status read and its answer (R214). -/
  | avsStatusRead (a : AvsIn)
  /-- AVS_RETRY: a failed AVSBus transaction is tried again (R215). -/
  | avsRetry (a : AvsIn)
  /-- INJECTION_TIMEOUT: an injection passes its longest time (R223). -/
  | injectionTimeout (rail : Nat)
  /-- CAPTURE_FREEZE: a capture freezes (R226). -/
  | captureFreeze (rail : Nat)
  /-- ESTIMATOR_INTERVAL: an estimator interval (R233). -/
  | estimatorInterval
  /-- CALIBRATION_MILLISECOND: a calibration millisecond ends (R241). -/
  | calibrationMillisecond
  /-- THERMAL_ROUND: a sampling round with what the sites converted (R285). -/
  | thermalRound (sites : List SiteIn)
  /-- GRACE_DEADLINE: the grace deadline passes (R292). -/
  | graceDeadline
  /-- PREDICTION_UPDATE: a model update and prediction (R299). -/
  | predictionUpdate
  /-- ANALOG_TRIP: a site_trip line rises (R290). -/
  | analogTrip (site : Nat)
  /-- EXTERNAL_TRIP: an external trip (R291). -/
  | externalTrip
  /-- OSC_COMPENSATION_CONVERSION: the conversion of the Heath's site in OFF (R283). -/
  | oscCompensationConversion (raw : Nat) (done : Bool)
  /-- MEM_STACK_REPORT: a memory stack reports its temperature (R301). -/
  | memStackReport (k temp : Nat)
  /-- MEM_STACK_STALE: a memory stack's report is too old (R303). -/
  | memStackStale (k : Nat)
  /-- WATCH_RECORD: a byte-count record of a memory controller (R449). -/
  | watchRecord (k idx lines : Nat)
  /-- WATCH_SEND: the 100 µs of the watch sums (R449). -/
  | watchSend
  /-- LINK_FLIT: a LINK flit (R322). -/
  | linkFlit (h : FlitHdr)
  /-- HEARTBEAT_FLIT: a HEARTBEAT flit (R332). -/
  | heartbeatFlit (h : FlitHdr) (pstate : Nat) (stopped autonomous : Bool)
  /-- STRAP_FLIT: a STRAP flit (R29). -/
  | strapFlit (h : FlitHdr) (dieId : Nat) (leader : Bool)
  /-- STAGE_FLIT: a STAGE flit (R328). -/
  | stageFlit (h : FlitHdr) (off value : Nat)
  /-- PREPARE_FLIT: a PREPARE flit (R328). -/
  | prepareFlit (h : FlitHdr) (id kind count crc : Nat)
  /-- PREPARE_ACK_FLIT: a PREPARE_ACK flit (R328). -/
  | prepareAckFlit (h : FlitHdr) (id : Nat) (nack : Bool) (regions : Nat)
  /-- COMMIT_FLIT: a COMMIT flit (R328). -/
  | commitFlit (h : FlitHdr) (t : Nat)
  /-- ABORT_FLIT: an ABORT flit (R329). -/
  | abortFlit (h : FlitHdr) (id : Nat)
  /-- CMD_FLIT: a forwarded command (R336). -/
  | cmdFlit (h : FlitHdr) (c : FwdCmd)
  /-- CMD_DONE_FLIT: the end of a forwarded command (R336). -/
  | cmdDoneFlit (h : FlitHdr) (tag status : Nat) (result : List Nat)
  /-- EVENT_FLIT: an EVENT flit (R337). -/
  | eventFlit (h : FlitHdr) (ev : DieEvent)
  /-- ENERGY_FLIT: an ENERGY flit (R240). -/
  | energyFlit (h : FlitHdr) (uw : Nat)
  /-- THERMAL_FLIT: a THERMAL flit (R300). -/
  | thermalFlit (h : FlitHdr) (tDie tMem : Int)
  /-- LEVEL_FLIT: a LEVEL flit (R352). -/
  | levelFlit (h : FlitHdr) (idx value : Nat)
  /-- DATA_FLIT: a DATA flit (R321). -/
  | dataFlit (h : FlitHdr) (d : Bulk)
  /-- HDG_RETRY_TIMEOUT: RETRY passes toward an instance (R323). -/
  | hdgRetryTimeout (d : Nat)
  /-- HEARTBEAT_SEND: a heartbeat period begins (R332). -/
  | heartbeatSend
  /-- HEARTBEAT_MISS: a heartbeat of an instance is missed (R332). -/
  | heartbeatMiss (d : Nat)
  /-- HDG_WAKE_IN: hdg_wake_in rises (R82). -/
  | hdgWakeIn
  /-- HDG_AWAKE_IN: an instance's hdg_awake_in rises (R82). -/
  | hdgAwakeIn (d : Nat)
  /-- PREPARE_TIMEOUT: 5 µs after PREPARE (R329). -/
  | prepareTimeout
  /-- COMMIT_ORPHAN: 20 µs after PREPARE without COMMIT or ABORT (R330). -/
  | commitOrphan
  /-- CMD_DONE_TIMEOUT: a forwarded command is unanswered for 100 µs (R336). -/
  | cmdDoneTimeout (tag : Nat)
  /-- COMMIT_START: the next queued commit starts (R331). -/
  | commitStart
  /-- COMMIT_APPLY: T of the prepared set comes (R328). -/
  | commitApply
  /-- CATCH_UP_TIMEOUT: the OFF to IDLE bound passes without a catch-up (R335). -/
  | catchUpTimeout (d : Nat)
  /-- STILE_MESSAGE: a message to an agent enters a Stile queue (R316). -/
  | stileMessage (half : Nat)
  /-- STILE_QUEUE_DRAIN: a Stile queue drains (R316). -/
  | stileQueueDrain (half : Nat)
  /-- HELLO: a HELLO frame (R346). -/
  | hello (f : FrameHdr) (node port : Nat)
  /-- HELLO_ACK: a HELLO_ACK frame (R346). -/
  | helloAck (f : FrameHdr) (node port : Nat)
  /-- ACK_FRAME: an ACK frame (R343). -/
  | ackFrame (f : FrameHdr) (seqs : List Nat)
  /-- PACE: a PACE frame (R351). -/
  | pace (f : FrameHdr) (group rate valid holder : Nat)
  /-- EMERG: an EMERG frame (R356). -/
  | emerg (f : FrameHdr) (scope rate group valid origin : Nat)
  /-- REL_PREPARE: a REL_PREPARE frame (R357). -/
  | relPrepare (f : FrameHdr) (id kind levels group newSet newRate valid : Nat)
  /-- REL_VOTE: a REL_VOTE frame (R357). -/
  | relVote (f : FrameHdr) (id vote count : Nat)
  /-- REL_COMMIT: a REL_COMMIT frame (R358). -/
  | relCommit (f : FrameHdr) (id t : Nat)
  /-- REL_ABORT: a REL_ABORT frame (R359). -/
  | relAbort (f : FrameHdr) (id : Nat)
  /-- FAB_RETRANSMIT: a frame is unacknowledged for its retry time (R343). -/
  | fabRetransmit (peer seq : Nat)
  /-- DISCOVERY_PERIOD: a discovery period ends (R346). -/
  | discoveryPeriod
  /-- PEER_DEAD: a peer has been silent too long (R346). -/
  | peerDead (node : Nat)
  /-- PACE_REFRESH: a group's rate is refreshed (R354). -/
  | paceRefresh (slot : Nat)
  /-- LEVEL_WORD_EXPIRY: a level word expires (R350). -/
  | levelWordExpiry (idx : Nat)
  /-- LEVEL_WORD_RESEND: a saturated level word is sent again (R352). -/
  | levelWordResend (idx : Nat)
  /-- VOTE_WAIT_END: a node's wait for votes ends (R357). -/
  | voteWaitEnd (id : Nat)
  /-- ORIGINATOR_WAIT_END: the originator's wait ends (R359). -/
  | originatorWaitEnd (id : Nat)
  /-- RELEASE_BUFFER_HOLD_EXPIRY: a release buffer's hold ends (R360). -/
  | releaseBufferHoldExpiry (id : Nat)
  /-- RELEASE_RETRY: a release is tried again (R359). -/
  | releaseRetry (slot : Nat)
  /-- TP_PULSE: a time pulse: the value of the network interface where tp_vld is high, and the sixteenths of a ns its
  capture lies past the counter's whole ns (R364). -/
  | tpPulse (value : Option Nat) (sub : Nat)
  /-- PULSE_MISSING: an expected time pulse has not come (R366). -/
  | pulseMissing
  /-- SKYLARK_HOLDOVER: holdover reaches its limit (R365). -/
  | skylarkHoldover
  /-- RESYNC_APPLY: an announced time step is applied (R366). -/
  | resyncApply
  /-- MEM_RESPONSE: a memory-port response (R59, R61). -/
  | memResponse (tag err : Nat) (data : List Nat)
  /-- MEM_PORT_TIMEOUT: a memory transaction is unanswered for 100 µs (R62). -/
  | memPortTimeout (tag : Nat)
  /-- COMMAND_PICKUP: the steward picks up an inbound slot (R376). -/
  | commandPickup (m : Nat)
  /-- NOTICE_POST: a waiting notice is posted (R377). -/
  | noticePost (m : Nat)
  /-- HEARTBEAT_TIMEOUT: the heartbeat timer ends (R401). -/
  | heartbeatTimeout
  /-- MCTP_REQUEST: a vendor-defined MCTP request (R406). -/
  | mctpRequest (bytes : List Nat)
  /-- MCTP_CONTROL: an MCTP control message (R406). -/
  | mctpControl (req : CtlReq)
  /-- PLDM_REQUEST: a PLDM request (R407). -/
  | pldmRequest (req : PldmReq)
  /-- ATTACH: ATTACH executes (R400). -/
  | attach (m : Nat)
  /-- DETACH: DETACH executes (R403). -/
  | detach (m : Nat)
  /-- HEARTBEAT: HEARTBEAT executes (R393). -/
  | heartbeat (m : Nat)
  /-- GET_INFO: GET_INFO executes (R393). -/
  | getInfo (m : Nat)
  /-- STAGE_BUDGET: STAGE_BUDGET executes (R394). -/
  | stageBudget (m : Nat)
  /-- COMMIT: COMMIT executes (R394). -/
  | commit (m : Nat)
  /-- ABORT_STAGE: ABORT_STAGE executes (R394). -/
  | abortStage (m : Nat)
  /-- GET_BUDGET: GET_BUDGET executes (R394). -/
  | getBudget (m : Nat)
  /-- LOAD_PROFILE: LOAD_PROFILE executes (R395). -/
  | loadProfile (m : Nat)
  /-- DROP_PROFILE: DROP_PROFILE executes (R395). -/
  | dropProfile (m : Nat)
  /-- ANNOUNCE: ANNOUNCE executes (R395). -/
  | announce (m : Nat)
  /-- BARRIER_HINT: BARRIER_HINT executes (R395). -/
  | barrierHint (m : Nat)
  /-- SET_OPP_TABLE: SET_OPP_TABLE executes (R396). -/
  | setOppTable (m : Nat)
  /-- SET_THERMAL: SET_THERMAL executes (R396). -/
  | setThermal (m : Nat)
  /-- FABRIC_ASSIGN: FABRIC_ASSIGN executes (R397). -/
  | fabricAssign (m : Nat)
  /-- JOIN_GROUP: JOIN_GROUP executes (R397). -/
  | joinGroup (m : Nat)
  /-- LEAVE_GROUP: LEAVE_GROUP executes (R397). -/
  | leaveGroup (m : Nat)
  /-- FABRIC_STATUS: FABRIC_STATUS executes (R397). -/
  | fabricStatus (m : Nat)
  /-- SNAPSHOT: SNAPSHOT executes (R453). -/
  | snapshot (m : Nat)
  /-- SNAPSHOT_COMPLETE: the snapshot bank is complete (R446). -/
  | snapshotComplete
  /-- READ_COUNTERS: READ_COUNTERS executes (R454). -/
  | readCounters (m : Nat)
  /-- ARM_TRIGGER_ARM: ARM_TRIGGER with ACTION ARM executes (R455). -/
  | armTriggerArm (m : Nat)
  /-- ARM_TRIGGER_FORCE: ARM_TRIGGER with ACTION FORCE executes (R455). -/
  | armTriggerForce (m : Nat)
  /-- ARM_TRIGGER_RESUME: ARM_TRIGGER with ACTION RESUME executes (R455). -/
  | armTriggerResume (m : Nat)
  /-- RING_POST_TIMEOUT: POST_MAX after the trigger (R442). -/
  | ringPostTimeout
  /-- READ_RING: READ_RING executes (R456). -/
  | readRing (m : Nat)
  /-- SET_WATCH: SET_WATCH executes (R457). -/
  | setWatch (m : Nat)
  /-- STREAM_PERIOD: a stream period ends (R450). -/
  | streamPeriod
  /-- FW_STAGE_HOST: FW_STAGE mode HOST executes (R422). -/
  | fwStageHost (m : Nat)
  /-- FW_STAGE_BEGIN: FW_STAGE mode BEGIN executes (R422). -/
  | fwStageBegin (m : Nat)
  /-- FW_STAGE_CHUNK: FW_STAGE mode CHUNK executes (R422). -/
  | fwStageChunk (m : Nat)
  /-- FW_STAGE_END: FW_STAGE mode END executes (R422). -/
  | fwStageEnd (m : Nat)
  /-- FW_STAGE_CANCEL: FW_STAGE mode CANCEL executes (R422). -/
  | fwStageCancel (m : Nat)
  /-- FW_STAGE_READBACK: slot B is read back; none: the flash failed (R422). -/
  | fwStageReadback (img : Option ImageIn)
  /-- FW_ACTIVATE: FW_ACTIVATE executes (R423). -/
  | fwActivate (m : Nat)
  /-- ACTIVATION_START: a deferred activation starts (R424). -/
  | activationStart
  /-- ACTIVATION_TIMEOUT: 60 s pass without the activation (R423). -/
  | activationTimeout
  /-- ACTIVATION_COMPLETE: the ROMs have judged slot B and the firmware runs again (R424). -/
  | activationComplete (img : ImageIn) (followersOk : Bool)
  /-- SLOT_REPAIR_DONE: the repair of slot A is verified (R424). -/
  | slotRepairDone
  /-- FW_STATUS: FW_STATUS executes (R426). -/
  | fwStatus (m : Nat)
  /-- COMPARTMENT_FAULT: a compartment faults (R419). -/
  | compartmentFault (comp : Nat)
  /-- USER_READ: USER call read (R420). -/
  | userRead (off : Nat)
  /-- USER_CAP_STAGE: USER call cap_stage (R420). -/
  | userCapStage (cap : UserCap)
  /-- USER_CAP_COMMIT: USER call cap_commit (R420). -/
  | userCapCommit
  /-- USER_DOORBELL: USER call doorbell: outbound bits to set, inbound bits to clear (R420). -/
  | userDoorbell (set clear : Nat)
  /-- USER_TIMER_SET: USER call timer: the period in µs, 0 stops it (R420). -/
  | userTimerSet (us : Nat)
  /-- USER_TIMER_WAKE: the USER timer expires (R420). -/
  | userTimerWake
  /-- USER_LOG: USER call log (R420). -/
  | userLog (level code arg : Nat)
  /-- UNLOCK_CHALLENGE: UNLOCK_CHALLENGE executes (R473). -/
  | unlockChallenge (m : Nat)
  /-- UNLOCK_RESPONSE_PASSWORD: UNLOCK_RESPONSE with method PASSWORD executes (R472). -/
  | unlockResponsePassword (m : Nat)
  /-- UNLOCK_RESPONSE_SIGNATURE: UNLOCK_RESPONSE with method SIGNATURE executes (R472). -/
  | unlockResponseSignature (m : Nat)
  /-- RELOCK: RELOCK executes (R476). -/
  | relock (m : Nat)
  /-- ACCESS_TIMER_EXPIRY: ACC_TIMER reaches 0 (R476). -/
  | accessTimerExpiry
  /-- NONCE_LAPSE: the nonce lapses (R473). -/
  | nonceLapse
  /-- UNLOCK_BACKOFF_END: the unlock backoff ends (R474). -/
  | unlockBackoffEnd
  /-- FAULT_RAISE: a raise reaches the fault hub (R460). -/
  | faultRaise (i syn : Nat)
  /-- FAULT_READ: FAULT_READ executes (R467). -/
  | faultRead (m : Nat)
  /-- FAULT_CLEAR: FAULT_CLEAR executes (R467). -/
  | faultClear (m : Nat)
  /-- FAULT_FORCE: FAULT_FORCE executes (R468). -/
  | faultForce (m : Nat)
  /-- INJECT_START: INJECT_START executes (R228). -/
  | injectStart (m : Nat)
  /-- CAPTURE_READ: CAPTURE_READ executes (R229). -/
  | captureRead (m : Nat)
  /-- HDG_WAKE_TIMEOUT: a wake request is unanswered for 1 µs (R332). -/
  | hdgWakeTimeout (d : Nat)
  /-- HDG_FLIT_DISCARD: the 16 bytes of a flit from an instance that is not taken (R320, R322, R325). -/
  | hdgFlitDiscard (src : Nat) (bytes : List Nat)
  /-- EDVIK_FRAME_DISCARD: a datagram that is not taken: it ended with net_rx_err, and its bytes (R84, R341, R342). -/
  | edvikFrameDiscard (err : Bool) (bytes : List Nat)
  /-- CORE_NO_PROGRESS: a steward core makes no progress for 10 ms (R419). -/
  | coreNoProgress (core : Nat)
  /-- RST_STORM_END: the block resets in the window are below the limit again (R466). -/
  | rstStormEnd
  /-- RING_WAIT_TRIG_EXCEEDED: an open wait passes RING_WAIT_TRIG (R441). -/
  | ringWaitTrigExceeded (c e : Nat)
deriving DecidableEq, Repr

end Sys2Proof
end

