-- ==== Sys2Proof/Config.lean ====
section
/-! DEFINITION. What the spec leaves open and what lies outside the block: free values (no body, so nothing can
evaluate them) and the cryptographic functions of named standards (uninterpreted). -/

namespace Sys2Proof.Config

/-- A free value: the n-th one drawn. A meaning applies it to the counter `free` of the state and advances the
counter (assumption log 3). -/
opaque freeValue : Nat → Nat

/-- SHA-384 of a byte string, as a number (FIPS 180-4; R414, R472 name it, its computation is outside the spec;
assumption log 4). -/
opaque sha384 : List Nat → Nat

/-- Does an ECDSA P-384 signature over a digest verify under a public key? Key, digest, signature (FIPS 186;
R414, R472; assumption log 4). -/
opaque ecdsaVerify : Nat → Nat → Nat → Bool

/-- The trimmed code of a sensor site for a trip temperature, from the temperature and the site's trim word: R76 names
the code and states no conversion (assumption log 139). -/
opaque siteTset : Nat → Nat → Nat

/-- VERSION in the header of slot B of the flash before this run has read or written it (R426, log 171). -/
opaque slotBVersion : BitVec 32

/-- A payload byte of the n-th output, where that is a flit whose payload the spec only names (R320, R321, log 152). -/
opaque flitByte : Nat → Nat → BitVec 8

/-- How many flits follow the first of a message whose payload the spec only names, beyond those that R321 calls for: by its
place among what is sent, and its tag (R320, R321, log 152). -/
opaque moreFlits : Nat → Nat → BitVec 8

end Sys2Proof.Config
end

