-- ==== Sys2Proof/Machine/Regs.lean ====
section
/-! DEFINITION. The register window (R5, R477, R478): every register's place, reset value, access class,
reset domain and writable fields, as the chapters' field tables give them. Read-only fields need no row:
what a field list does not name is read-only or reserved (R6, R7). -/

namespace Sys2Proof.Machine

/-- Field types with a write effect (R6). `rwls` is an RWL field of a control-plane region, which is staged (R23). -/
inductive FieldType where
  | rw | w1c | w1s | rws | rwl | rwls | stk
deriving DecidableEq, Repr

/-- A writable field: its bits, its type and the range its chapter allows. -/
structure FieldDesc where
  hi : Nat
  lo : Nat
  ty : FieldType
  min : Nat
  max : Nat
deriving DecidableEq, Repr

/-- Who may use a register (R33, R52): any requester but RSVD; host and debug; host alone; those and the tenant
that owns the agent window, context or counter; the mailbox rule of R391. -/
inductive Access where
  | any | system | host | own | mailbox
deriving DecidableEq, Repr

/-- A run of registers: base, stride and count, reset word, who may read and write, the bits only the Heath POR
resets (R104, R477), whether it is a package-view register (R479), its field-access scope (R470), its fields. -/
structure RegDesc where
  base : Nat
  stride : Nat
  count : Nat
  reset : Nat
  rd : Access
  wr : Access
  porMask : Nat
  pkg : Bool
  scope : Nat
  fields : List FieldDesc
deriving DecidableEq, Repr

/-- Identity, Heath and mailboxes. -/
def regsHeath : List RegDesc :=
  [
    ⟨0x0, 0x4, 1, 0x4020000, .any, .any, 0xFFFFFFFF, false, 0, []⟩,
    ⟨0x4, 0x4, 1, 0x0, .any, .any, 0x0, false, 0, []⟩,
    ⟨0x1000, 0x4, 1, 0x0, .any, .host, 0xFFFF83FF, false, 0, [⟨15, 15, .w1c, 0, 1⟩]⟩,
    ⟨0x1004, 0x4, 1, 0x6400, .system, .system, 0x0, false, 0, [⟨15, 8, .rw, 0, 255⟩, ⟨1, 1, .rw, 0, 1⟩, ⟨0, 0, .rw, 0, 1⟩]⟩,
    ⟨0x1008, 0x4, 1, 0x0, .any, .host, 0x0, false, 0, [⟨7, 7, .w1c, 0, 1⟩, ⟨6, 6, .w1c, 0, 1⟩, ⟨5, 5, .w1c, 0, 1⟩, ⟨4, 4, .w1c, 0, 1⟩, ⟨3, 3, .w1c, 0, 1⟩, ⟨2, 2, .w1c, 0, 1⟩, ⟨1, 1, .w1c, 0, 1⟩, ⟨0, 0, .w1c, 0, 1⟩]⟩,
    ⟨0x100C, 0x4, 1, 0x1, .any, .host, 0xFFFFFFFF, false, 0, [⟨4, 4, .w1c, 0, 1⟩, ⟨3, 3, .w1c, 0, 1⟩, ⟨2, 2, .w1c, 0, 1⟩, ⟨1, 1, .w1c, 0, 1⟩, ⟨0, 0, .w1c, 0, 1⟩]⟩,
    ⟨0x1010, 0x4, 1, 0x0, .system, .system, 0x0, false, 0, [⟨0, 0, .w1s, 0, 1⟩]⟩,
    ⟨0x1014, 0x4, 1, 0x1, .any, .any, 0xFFFF, false, 0, []⟩,
    ⟨0x1018, 0x4, 1, 0x4, .any, .any, 0x0, false, 0, []⟩,
    ⟨0x101C, 0x4, 1, 0x0, .any, .any, 0x0, false, 0, []⟩,
    ⟨0x1020, 0x4, 1, 0x0, .system, .system, 0x0, false, 0, []⟩,
    ⟨0x1024, 0x4, 1, 0x0, .system, .system, 0x0, false, 0, []⟩,
    ⟨0x1028, 0x4, 1, 0x0, .system, .system, 0x0, false, 0, []⟩,
    ⟨0x102C, 0x4, 1, 0x0, .system, .system, 0x0, false, 0, []⟩,
    ⟨0x1030, 0x4, 1, 0x0, .system, .host, 0x0, false, 0, [⟨31, 6, .rw, 0, 67108863⟩]⟩,
    ⟨0x1034, 0x4, 1, 0x0, .system, .host, 0x0, false, 0, [⟨19, 0, .rw, 0, 1048575⟩]⟩,
    ⟨0x1038, 0x4, 1, 0x0, .system, .host, 0x0, false, 0, [⟨31, 31, .w1s, 0, 1⟩, ⟨12, 0, .rw, 0, 8191⟩]⟩,
    ⟨0x103C, 0x4, 1, 0x0, .system, .system, 0xFFFFFFFF, false, 0, []⟩,
    ⟨0x1040, 0x4, 1, 0x0, .system, .system, 0x0, false, 4, [⟨15, 8, .rwl, 0, 255⟩, ⟨7, 0, .rw, 0, 255⟩]⟩,
    ⟨0x2000, 0x10, 32, 0x0, .mailbox, .mailbox, 0xFFFFFFFF, false, 0, [⟨31, 6, .rw, 0, 67108863⟩, ⟨5, 0, .rw, 0, 63⟩]⟩,
    ⟨0x2004, 0x10, 32, 0x0, .mailbox, .mailbox, 0xFFFFFFFF, false, 0, [⟨19, 0, .rw, 0, 1048575⟩]⟩,
    ⟨0x2008, 0x10, 32, 0x0, .mailbox, .mailbox, 0xFFFFFFFF, false, 0, [⟨31, 16, .rw, 0, 65535⟩, ⟨12, 0, .rw, 0, 8191⟩]⟩,
    ⟨0x200C, 0x10, 32, 0x0, .mailbox, .mailbox, 0xFFFFFFFF, false, 0, [⟨31, 16, .rw, 0, 65535⟩, ⟨15, 0, .rw, 0, 65535⟩]⟩,
    ⟨0x2200, 0x10, 32, 0x0, .mailbox, .mailbox, 0xFFFFFFFF, false, 0, []⟩ ] ++
  [
    ⟨0x2204, 0x10, 32, 0x0, .mailbox, .mailbox, 0xFFFFFFFF, false, 0, []⟩,
    ⟨0x2208, 0x10, 32, 0x0, .mailbox, .mailbox, 0xFFFFFFFF, false, 0, []⟩,
    ⟨0x220C, 0x10, 32, 0x0, .mailbox, .mailbox, 0xFFFFFFFF, false, 0, []⟩,
    ⟨0x2400, 0x4, 1, 0x0, .mailbox, .mailbox, 0xFFFFFFFF, false, 0, []⟩,
    ⟨0x2404, 0x4, 1, 0x0, .mailbox, .mailbox, 0xFFFFFFFF, false, 0, [⟨31, 0, .w1c, 0, 4294967295⟩]⟩,
    ⟨0x2408, 0x4, 1, 0xFFFFFFFF, .system, .host, 0xFFFFFFFF, false, 0, [⟨31, 0, .rw, 0, 4294967295⟩]⟩,
    ⟨0x240C, 0x4, 1, 0x0, .mailbox, .mailbox, 0xFFFFFFFF, false, 0, [⟨31, 0, .w1c, 0, 4294967295⟩]⟩,
    ⟨0x2410, 0x4, 1, 0x0, .system, .host, 0xFFFFFFFF, false, 0, [⟨31, 0, .w1s, 0, 4294967295⟩]⟩,
    ⟨0x2414, 0x4, 1, 0x0, .system, .host, 0xFFFFFFFF, false, 0, [⟨31, 0, .w1c, 0, 4294967295⟩]⟩,
    ⟨0x2418, 0x4, 1, 0xFFFFFFFF, .system, .host, 0xFFFFFFFF, false, 0, [⟨31, 0, .rw, 0, 4294967295⟩]⟩ ]

/-- Command engine, fault hub and access. -/
def regsCommand : List RegDesc :=
  [
    ⟨0x3000, 0x4, 1, 0x640000, .system, .system, 0x0, false, 0, []⟩,
    ⟨0x3004, 0x4, 1, 0x0, .system, .system, 0x0, false, 0, []⟩,
    ⟨0x3008, 0x4, 1, 0x0, .system, .system, 0x0, false, 0, []⟩,
    ⟨0x300C, 0x4, 1, 0x0, .system, .system, 0x0, false, 0, []⟩,
    ⟨0x3010, 0x4, 1, 0x0, .system, .system, 0x0, false, 0, []⟩,
    ⟨0x3014, 0x4, 1, 0x0, .system, .system, 0x0, false, 0, []⟩,
    ⟨0x3018, 0x4, 1, 0x0, .system, .system, 0x0, false, 0, []⟩,
    ⟨0x301C, 0x4, 1, 0x0, .system, .system, 0x0, false, 0, []⟩,
    ⟨0x3080, 0x4, 32, 0x0, .system, .host, 0x0, false, 0, [⟨31, 31, .rw, 0, 1⟩, ⟨9, 0, .rw, 0, 1023⟩]⟩,
    ⟨0x4000, 0x4, 1, 0x8, .system, .host, 0x0, false, 0, [⟨4, 0, .rw, 1, 31⟩]⟩,
    ⟨0x4004, 0x4, 1, 0x0, .system, .system, 0x0, false, 0, []⟩,
    ⟨0x4008, 0x4, 1, 0x0, .system, .host, 0xFFFFFFFF, false, 0, [⟨31, 31, .w1c, 0, 1⟩]⟩,
    ⟨0x400C, 0x4, 2, 0x0, .system, .system, 0xFFFFFFFF, false, 0, []⟩,
    ⟨0x4014, 0x4, 2, 0x0, .system, .system, 0xFFFFFFFF, false, 0, []⟩,
    ⟨0x401C, 0x4, 1, 0x0, .system, .system, 0x0, true, 0, []⟩,
    ⟨0x4020, 0x4, 8, 0x0, .system, .host, 0x0, false, 0, [⟨31, 0, .w1c, 0, 4294967295⟩]⟩,
    ⟨0x4040, 0x4, 8, 0x0, .system, .host, 0xFFFFFFFF, false, 0, [⟨31, 0, .stk, 0, 4294967295⟩]⟩,
    ⟨0x4060, 0x4, 8, 0x0, .system, .host, 0x0, false, 0, [⟨31, 0, .w1c, 0, 4294967295⟩]⟩,
    ⟨0x4400, 0x4, 256, 0x0, .system, .host, 0x0, false, 2, [⟨24, 24, .rw, 0, 1⟩, ⟨16, 16, .rwl, 0, 1⟩, ⟨8, 8, .rwl, 0, 1⟩, ⟨4, 0, .rw, 0, 31⟩]⟩,
    ⟨0x6000, 0x4, 1, 0x0, .system, .system, 0x0, false, 0, []⟩,
    ⟨0x6004, 0x4, 1, 0x0, .system, .system, 0x0, false, 0, []⟩,
    ⟨0x6008, 0x4, 1, 0x0, .system, .system, 0xFFFFFFFF, false, 0, []⟩,
    ⟨0x600C, 0x4, 1, 0x0, .system, .system, 0x0, false, 0, []⟩,
    ⟨0x6010, 0x4, 4, 0x0, .system, .system, 0xFFFFFFFF, false, 0, []⟩ ] ++
  [
    ⟨0x6020, 0x4, 1, 0x0, .system, .system, 0xFFFFFFFF, false, 0, []⟩,
    ⟨0x6024, 0x4, 1, 0x0, .system, .host, 0x0, false, 0, [⟨0, 0, .w1s, 0, 1⟩]⟩ ]

/-- Thermal. -/
def regsThermal : List RegDesc :=
  [
    ⟨0x8000, 0x4, 1, 0xE, .system, .system, 0x0, false, 0, [⟨22, 16, .rws, 0, 95⟩, ⟨3, 3, .rws, 0, 1⟩, ⟨2, 2, .rws, 0, 1⟩, ⟨1, 1, .rws, 0, 1⟩]⟩,
    ⟨0x8004, 0x4, 1, 0x4376695F, .system, .system, 0x0, false, 0, [⟨31, 28, .rws, 1, 15⟩, ⟨27, 24, .rws, 1, 15⟩, ⟨23, 16, .rws, 90, 125⟩, ⟨15, 8, .rws, 70, 120⟩, ⟨7, 0, .rws, 60, 120⟩]⟩,
    ⟨0x8008, 0x4, 1, 0x640032, .system, .system, 0x0, false, 0, [⟨31, 16, .rws, 1, 1000⟩, ⟨9, 0, .rws, 0, 1000⟩]⟩,
    ⟨0x800C, 0x4, 1, 0x5000005, .system, .system, 0x0, false, 0, [⟨27, 24, .rws, 1, 15⟩, ⟨6, 0, .rws, 1, 100⟩]⟩,
    ⟨0x8010, 0x4, 1, 0x10000000, .system, .system, 0x0, false, 0, [⟨30, 16, .rws, 1, 16384⟩, ⟨4, 0, .rws, 0, 31⟩]⟩,
    ⟨0x8014, 0x4, 1, 0x2140002, .system, .system, 0x0, false, 0, [⟨27, 24, .rws, 0, 15⟩, ⟨21, 16, .rws, 1, 50⟩, ⟨3, 0, .rws, 0, 8⟩]⟩,
    ⟨0x8018, 0x4, 1, 0x2D0, .system, .system, 0x0, false, 0, [⟨31, 16, .rws, 0, 65535⟩, ⟨15, 0, .rws, 0, 65535⟩]⟩,
    ⟨0x801C, 0x4, 1, 0x695F5534, .system, .system, 0x0, false, 0, [⟨31, 24, .rws, 0, 255⟩, ⟨23, 16, .rws, 0, 255⟩, ⟨15, 8, .rws, 0, 255⟩, ⟨7, 4, .rws, 1, 15⟩, ⟨2, 0, .rws, 1, 7⟩]⟩,
    ⟨0x8040, 0x8, 16, 0x0, .system, .system, 0x0, false, 0, [⟨23, 0, .rws, 0, 16777215⟩]⟩,
    ⟨0x8044, 0x8, 16, 0x0, .system, .system, 0x0, false, 0, [⟨15, 0, .rws, 0, 65535⟩]⟩,
    ⟨0x8100, 0x4, 1, 0x0, .system, .system, 0xC0000000, false, 0, [⟨31, 31, .stk, 0, 1⟩, ⟨30, 30, .stk, 0, 1⟩]⟩,
    ⟨0x8104, 0x4, 1, 0x0, .system, .system, 0x0, false, 0, []⟩,
    ⟨0x8108, 0x4, 1, 0x0, .system, .system, 0x0, true, 0, []⟩,
    ⟨0x810C, 0x4, 1, 0xFF800000, .system, .system, 0x0, false, 0, []⟩,
    ⟨0x8110, 0x4, 1, 0x0, .system, .system, 0x0, false, 0, []⟩,
    ⟨0x8114, 0x4, 1, 0x0, .system, .system, 0x0, false, 0, []⟩,
    ⟨0x8118, 0x4, 1, 0x0, .system, .host, 0x0, false, 0, [⟨5, 0, .w1c, 0, 63⟩]⟩,
    ⟨0x811C, 0x4, 1, 0x0, .system, .system, 0x0, false, 0, []⟩,
    ⟨0x8120, 0x4, 1, 0xFF, .system, .system, 0x0, false, 0, []⟩,
    ⟨0x8140, 0x4, 16, 0x0, .system, .system, 0x0, false, 0, []⟩,
    ⟨0x8180, 0x4, 4, 0x0, .system, .system, 0x0, false, 0, []⟩,
    ⟨0x81C0, 0x4, 8, 0x0, .system, .system, 0xFFFFFFFF, false, 0, []⟩,
    ⟨0x81E0, 0x4, 8, 0x0, .system, .system, 0xFFFFFFFF, false, 0, []⟩ ]

/-- Budget and operating points. -/
def regsBudget : List RegDesc :=
  [
    ⟨0xA000, 0x4, 1, 0x4, .system, .system, 0x0, true, 0, [⟨11, 8, .rws, 0, 15⟩, ⟨5, 0, .rws, 1, 63⟩]⟩,
    ⟨0xA004, 0x4, 1, 0x20000, .system, .system, 0x0, true, 0, [⟨17, 0, .rws, 1, 131072⟩]⟩,
    ⟨0xA008, 0x4, 1, 0x4000, .system, .system, 0x0, true, 0, [⟨17, 0, .rws, 1, 131072⟩]⟩,
    ⟨0xA00C, 0x4, 1, 0xA8064, .system, .system, 0x0, true, 0, [⟨31, 16, .rws, 1, 1000⟩, ⟨15, 15, .rws, 0, 1⟩, ⟨13, 0, .rws, 10, 10000⟩]⟩,
    ⟨0xA010, 0x10, 4, 0x0, .system, .system, 0x0, true, 0, [⟨19, 0, .rws, 1, 600000⟩]⟩,
    ⟨0xA014, 0x10, 4, 0x989680, .system, .system, 0x0, true, 0, [⟨31, 0, .rws, 1, 4294967295⟩]⟩,
    ⟨0xA018, 0x10, 4, 0x0, .system, .system, 0x0, true, 0, []⟩,
    ⟨0xA01C, 0x10, 4, 0x1F0000, .system, .system, 0x0, false, 0, []⟩,
    ⟨0xA050, 0x4, 1, 0x0, .system, .system, 0x0, false, 0, []⟩,
    ⟨0xA054, 0x4, 1, 0x1F1F1F00, .system, .system, 0x0, false, 0, []⟩,
    ⟨0xA058, 0x4, 1, 0x0, .system, .system, 0x0, false, 0, []⟩,
    ⟨0xA060, 0x4, 4, 0x0, .system, .system, 0x0, false, 0, []⟩,
    ⟨0xA070, 0x4, 1, 0x0, .system, .host, 0x0, true, 0, [⟨15, 15, .w1c, 0, 1⟩]⟩,
    ⟨0xA074, 0x4, 1, 0x0, .system, .host, 0x0, false, 0, [⟨3, 0, .w1c, 0, 15⟩]⟩,
    ⟨0xA100, 0x4, 16, 0x0, .system, .system, 0x0, false, 0, []⟩,
    ⟨0xA200, 0x4, 32, 0x0, .system, .system, 0x0, false, 0, []⟩,
    ⟨0xC000, 0x4, 1, 0x11419, .system, .system, 0x0, false, 0, [⟨28, 24, .rws, 0, 31⟩, ⟨21, 16, .rws, 1, 32⟩, ⟨15, 8, .rws, 0, 255⟩, ⟨5, 0, .rws, 5, 50⟩]⟩,
    ⟨0xC004, 0x4, 1, 0x1F, .system, .system, 0x0, false, 0, [⟨4, 0, .rws, 0, 31⟩]⟩,
    ⟨0xC008, 0x4, 1, 0x0, .system, .system, 0x0, false, 0, []⟩,
    ⟨0xC00C, 0x4, 1, 0x0, .system, .system, 0x0, false, 0, []⟩,
    ⟨0xC010, 0x4, 1, 0x0, .system, .host, 0x0, false, 0, [⟨4, 0, .w1c, 0, 31⟩]⟩,
    ⟨0xC100, 0x8, 32, 0x0, .system, .system, 0x0, false, 0, [⟨27, 16, .rws, 0, 4095⟩, ⟨10, 0, .rws, 0, 2047⟩]⟩,
    ⟨0xC104, 0x8, 32, 0x0, .system, .system, 0x0, false, 0, [⟨30, 16, .rws, 0, 32767⟩, ⟨10, 0, .rws, 0, 2047⟩]⟩ ]

/-- Admission. -/
def regsAdmission : List RegDesc :=
  [
    ⟨0x10000, 0x4, 1, 0x431, .system, .system, 0x0, false, 0, [⟨11, 10, .rws, 0, 2⟩, ⟨5, 5, .rws, 0, 1⟩, ⟨4, 4, .rws, 0, 1⟩, ⟨0, 0, .rws, 0, 1⟩]⟩,
    ⟨0x10004, 0x4, 1, 0x85310, .system, .system, 0x0, false, 0, [⟨19, 16, .rws, 0, 15⟩, ⟨15, 12, .rws, 0, 15⟩, ⟨11, 8, .rws, 0, 15⟩, ⟨7, 4, .rws, 0, 15⟩, ⟨3, 0, .rws, 0, 15⟩]⟩,
    ⟨0x10008, 0x4, 1, 0x18, .system, .system, 0x0, false, 0, [⟨6, 0, .rws, 0, 64⟩]⟩,
    ⟨0x1000C, 0x4, 1, 0xC800640, .system, .system, 0x0, false, 0, [⟨29, 16, .rws, 64, 8192⟩, ⟨13, 0, .rws, 64, 8192⟩]⟩,
    ⟨0x10010, 0x4, 1, 0xC80, .system, .system, 0x0, false, 0, [⟨14, 0, .rws, 64, 16384⟩]⟩,
    ⟨0x10014, 0x4, 1, 0x100007D, .system, .system, 0x0, false, 0, [⟨27, 16, .rws, 1, 4095⟩, ⟨10, 0, .rws, 16, 2000⟩]⟩,
    ⟨0x10018, 0x4, 1, 0x8, .system, .system, 0x0, false, 0, [⟨8, 0, .rws, 1, 256⟩]⟩,
    ⟨0x1001C, 0x4, 1, 0xA140808, .system, .system, 0x0, false, 0, [⟨28, 24, .rws, 0, 30⟩, ⟨23, 16, .rws, 1, 255⟩, ⟨15, 9, .rws, 1, 64⟩, ⟨8, 0, .rws, 1, 256⟩]⟩,
    ⟨0x10020, 0x4, 1, 0x0, .system, .system, 0x0, false, 0, []⟩,
    ⟨0x10024, 0x4, 1, 0x0, .system, .system, 0x0, false, 0, []⟩,
    ⟨0x10028, 0x4, 2, 0x0, .system, .system, 0x0, false, 0, []⟩,
    ⟨0x10030, 0x4, 1, 0x0, .system, .host, 0x0, false, 0, [⟨9, 9, .w1c, 0, 1⟩, ⟨8, 8, .w1c, 0, 1⟩]⟩,
    ⟨0x10034, 0x4, 1, 0x0, .system, .system, 0x0, false, 0, []⟩,
    ⟨0x10038, 0x4, 1, 0x0, .system, .system, 0x0, false, 0, []⟩,
    ⟨0x1003C, 0x4, 1, 0x0, .system, .system, 0x0, false, 0, []⟩,
    ⟨0x10040, 0x4, 1, 0x0, .system, .host, 0x0, false, 0, [⟨7, 0, .w1c, 0, 255⟩]⟩,
    ⟨0x10044, 0x4, 1, 0x0, .system, .system, 0x0, false, 0, []⟩,
    ⟨0x11000, 0x8, 1024, 0x10000, .host, .host, 0x0, true, 0, [⟨16, 0, .rws, 1, 65536⟩]⟩,
    ⟨0x11004, 0x8, 1024, 0x0, .host, .host, 0x0, true, 0, [⟨16, 0, .rws, 0, 65536⟩]⟩,
    ⟨0x13000, 0x4, 1024, 0x0, .system, .system, 0x0, false, 0, []⟩ ]

/-- Droop. -/
def regsDroop : List RegDesc :=
  [
    ⟨0x14000, 0x4, 1, 0x81, .system, .system, 0x0, false, 0, [⟨7, 7, .rws, 0, 1⟩, ⟨6, 6, .rws, 0, 1⟩, ⟨5, 4, .rws, 0, 2⟩, ⟨0, 0, .rws, 0, 1⟩]⟩,
    ⟨0x14004, 0x4, 1, 0x640001F4, .system, .system, 0x0, false, 0, [⟨31, 24, .rws, 1, 255⟩, ⟨13, 0, .rws, 50, 10000⟩]⟩,
    ⟨0x14008, 0x4, 1, 0xA010030, .system, .system, 0x0, false, 0, [⟨31, 24, .rws, 1, 255⟩, ⟨17, 16, .rws, 0, 3⟩, ⟨5, 0, .rws, 16, 56⟩]⟩,
    ⟨0x1400C, 0x4, 1, 0x14120800, .system, .system, 0x0, false, 0, [⟨31, 24, .rws, 1, 255⟩, ⟨21, 20, .rws, 0, 3⟩, ⟨19, 16, .rws, 1, 8⟩, ⟨14, 0, .rws, 256, 16384⟩]⟩,
    ⟨0x14010, 0x4, 1, 0x0, .system, .system, 0x0, false, 0, [⟨17, 16, .rwls, 0, 3⟩, ⟨15, 0, .rwls, 0, 65535⟩]⟩,
    ⟨0x14014, 0x4, 1, 0x0, .system, .system, 0x0, false, 0, []⟩,
    ⟨0x14018, 0x4, 1, 0x0, .system, .system, 0x0, false, 0, []⟩,
    ⟨0x1401C, 0x4, 1, 0x0, .system, .system, 0x0, false, 0, []⟩,
    ⟨0x14020, 0x4, 1, 0x0, .system, .system, 0x0, false, 0, []⟩,
    ⟨0x14024, 0x4, 1, 0x0, .system, .system, 0x0, false, 0, []⟩,
    ⟨0x14028, 0x4, 1, 0x0, .system, .system, 0x0, false, 0, []⟩,
    ⟨0x1402C, 0x4, 1, 0x0, .system, .host, 0x0, false, 0, [⟨7, 0, .w1c, 0, 255⟩]⟩,
    ⟨0x14100, 0x4, 32, 0xE0A06, .system, .system, 0x0, false, 0, [⟨21, 16, .rws, 0, 63⟩, ⟨13, 8, .rws, 0, 63⟩, ⟨5, 0, .rws, 0, 63⟩]⟩ ]

/-- Rails. -/
def regsRail : List RegDesc :=
  [
    ⟨0x18000, 0x1000, 4, 0x2009, .system, .system, 0x0, false, 0, [⟨15, 8, .rws, 20, 80⟩, ⟨3, 3, .rws, 0, 1⟩, ⟨2, 2, .rws, 0, 1⟩, ⟨1, 1, .rws, 0, 1⟩, ⟨0, 0, .rws, 0, 1⟩]⟩,
    ⟨0x18004, 0x1000, 4, 0x1F40320, .system, .system, 0x0, false, 0, [⟨26, 16, .rws, 0, 2047⟩, ⟨10, 0, .rws, 0, 2047⟩]⟩,
    ⟨0x18008, 0x1000, 4, 0x0, .system, .system, 0x0, false, 1, [⟨23, 0, .rwls, 0, 16777215⟩]⟩,
    ⟨0x1800C, 0x1000, 4, 0x0, .system, .system, 0x0, false, 1, [⟨23, 0, .rwls, 0, 16777215⟩]⟩,
    ⟨0x18010, 0x1000, 4, 0x0, .system, .system, 0x0, false, 1, [⟨23, 0, .rwls, 0, 16777215⟩]⟩,
    ⟨0x18014, 0x1000, 4, 0x0, .system, .system, 0x0, false, 1, [⟨23, 0, .rwls, 0, 16777215⟩]⟩,
    ⟨0x18018, 0x1000, 4, 0x102, .system, .system, 0x0, false, 1, [⟨10, 8, .rwls, 0, 7⟩, ⟨2, 0, .rwls, 0, 7⟩]⟩,
    ⟨0x1801C, 0x1000, 4, 0xE6660CCD, .system, .system, 0x0, false, 0, [⟨31, 16, .rws, 0, 65535⟩, ⟨15, 0, .rws, 0, 65535⟩]⟩,
    ⟨0x18020, 0x1000, 4, 0x80640200, .system, .system, 0x0, false, 0, [⟨31, 31, .rws, 0, 1⟩, ⟨25, 16, .rws, 10, 1000⟩, ⟨15, 0, .rws, 0, 65535⟩]⟩,
    ⟨0x18024, 0x1000, 4, 0x32004B, .system, .system, 0x0, false, 0, [⟨23, 16, .rws, 25, 125⟩, ⟨7, 0, .rws, 25, 125⟩]⟩,
    ⟨0x18028, 0x1000, 4, 0x7D281404, .system, .system, 0x0, false, 0, [⟨31, 24, .rws, 0, 255⟩, ⟨23, 16, .rws, 1, 63⟩, ⟨15, 8, .rws, 1, 63⟩, ⟨5, 0, .rws, 1, 48⟩]⟩,
    ⟨0x1802C, 0x1000, 4, 0x5, .system, .system, 0x0, false, 0, [⟨4, 0, .rws, 1, 25⟩]⟩,
    ⟨0x18040, 0x1000, 4, 0x0, .system, .system, 0x0, false, 0, []⟩,
    ⟨0x18044, 0x1000, 4, 0x0, .system, .host, 0x0, false, 0, [⟨5, 5, .w1c, 0, 1⟩, ⟨4, 4, .w1c, 0, 1⟩, ⟨3, 3, .w1c, 0, 1⟩, ⟨2, 2, .w1c, 0, 1⟩, ⟨1, 1, .w1c, 0, 1⟩, ⟨0, 0, .w1c, 0, 1⟩]⟩,
    ⟨0x18048, 0x1000, 4, 0x0, .system, .system, 0x0, false, 0, []⟩,
    ⟨0x1804C, 0x1000, 4, 0x0, .system, .system, 0x0, false, 0, []⟩,
    ⟨0x18050, 0x1000, 4, 0x0, .system, .system, 0x0, false, 0, []⟩,
    ⟨0x18054, 0x1000, 4, 0x0, .system, .system, 0x0, false, 0, []⟩,
    ⟨0x18058, 0x1000, 4, 0x0, .system, .host, 0x0, false, 0, [⟨31, 0, .w1c, 0, 4294967295⟩]⟩,
    ⟨0x1805C, 0x1000, 4, 0x0, .system, .host, 0x0, false, 0, [⟨31, 0, .w1c, 0, 4294967295⟩]⟩,
    ⟨0x18060, 0x1000, 4, 0x0, .system, .system, 0x0, false, 0, []⟩,
    ⟨0x18064, 0x1000, 4, 0x0, .system, .host, 0x0, false, 0, [⟨11, 0, .w1c, 0, 4095⟩]⟩,
    ⟨0x18080, 0x1000, 4, 0x4000100, .system, .system, 0x0, false, 0, [⟨31, 16, .rwls, 0, 65535⟩, ⟨15, 8, .rwls, 1, 255⟩, ⟨7, 4, .rwls, 0, 15⟩, ⟨2, 1, .rwls, 0, 3⟩, ⟨0, 0, .rwls, 0, 1⟩]⟩,
    ⟨0x18084, 0x1000, 4, 0x0, .system, .system, 0x0, false, 0, [⟨15, 0, .rwls, 0, 65535⟩]⟩ ] ++
  [
    ⟨0x18088, 0x1000, 4, 0x3E8, .system, .system, 0x0, false, 0, [⟨31, 0, .rwls, 0, 4294967295⟩]⟩,
    ⟨0x1808C, 0x1000, 4, 0x32003C, .system, .system, 0x0, false, 0, [⟨25, 16, .rws, 1, 1000⟩, ⟨7, 0, .rws, 10, 255⟩]⟩,
    ⟨0x18090, 0x1000, 4, 0x0, .system, .host, 0x0, false, 0, [⟨2, 2, .w1c, 0, 1⟩, ⟨1, 1, .w1c, 0, 1⟩]⟩,
    ⟨0x180A0, 0x1000, 4, 0x0, .system, .system, 0x0, false, 0, [⟨28, 16, .rw, 0, 8191⟩, ⟨10, 8, .rw, 0, 7⟩, ⟨5, 4, .rw, 0, 3⟩, ⟨1, 1, .w1s, 0, 1⟩, ⟨0, 0, .w1s, 0, 1⟩]⟩,
    ⟨0x180A4, 0x1000, 4, 0x39, .system, .system, 0x0, false, 0, [⟨6, 6, .rw, 0, 1⟩, ⟨5, 5, .rw, 0, 1⟩, ⟨4, 4, .rw, 0, 1⟩, ⟨3, 3, .rw, 0, 1⟩, ⟨2, 2, .rw, 0, 1⟩, ⟨1, 1, .rw, 0, 1⟩, ⟨0, 0, .rw, 0, 1⟩]⟩,
    ⟨0x180A8, 0x1000, 4, 0x0, .system, .system, 0x0, false, 0, []⟩,
    ⟨0x180AC, 0x1000, 4, 0x0, .system, .system, 0x0, false, 0, []⟩,
    ⟨0x18800, 0x4, 1, 0xA0A0802, .system, .system, 0x0, false, 0, [⟨31, 24, .rws, 2, 255⟩, ⟨23, 16, .rws, 2, 100⟩, ⟨15, 8, .rws, 1, 64⟩, ⟨7, 4, .rws, 0, 14⟩, ⟨1, 0, .rws, 0, 3⟩]⟩,
    ⟨0x18804, 0x4, 1, 0x708, .system, .system, 0x0, false, 0, [⟨10, 0, .rws, 1600, 2000⟩]⟩,
    ⟨0x18808, 0x4, 1, 0xFFFF0000, .system, .system, 0x0, false, 0, []⟩,
    ⟨0x1880C, 0x4, 1, 0x0, .system, .system, 0x0, false, 0, []⟩,
    ⟨0x18810, 0x4, 1, 0x0, .system, .host, 0x0, false, 0, [⟨8, 8, .w1c, 0, 1⟩]⟩ ]

/-- Estimator. -/
def regsEstimator : List RegDesc :=
  [
    ⟨0x20000, 0x4, 1, 0x100, .system, .system, 0x0, false, 0, [⟨8, 8, .rws, 0, 1⟩, ⟨4, 4, .rws, 0, 1⟩]⟩,
    ⟨0x20004, 0x4, 1, 0x320464, .system, .system, 0x0, false, 0, [⟨25, 16, .rws, 1, 1023⟩, ⟨11, 8, .rws, 1, 15⟩, ⟨7, 4, .rws, 1, 12⟩, ⟨3, 0, .rws, 1, 10⟩]⟩,
    ⟨0x20008, 0x4, 1, 0x80002000, .system, .system, 0x0, false, 0, [⟨31, 16, .rws, 0, 65535⟩, ⟨15, 0, .rws, 0, 65535⟩]⟩,
    ⟨0x2000C, 0x4, 1, 0x0, .system, .system, 0x0, false, 0, [⟨31, 0, .rws, 0, 4294967295⟩]⟩,
    ⟨0x20010, 0x4, 1, 0x2, .system, .host, 0x0, false, 0, [⟨7, 4, .w1c, 0, 15⟩, ⟨2, 2, .w1c, 0, 1⟩]⟩,
    ⟨0x20014, 0x4, 1, 0x0, .system, .system, 0x0, false, 0, []⟩,
    ⟨0x20018, 0x4, 2, 0x0, .system, .system, 0x0, false, 0, []⟩,
    ⟨0x20020, 0x4, 2, 0x0, .system, .system, 0x0, false, 0, []⟩,
    ⟨0x20028, 0x4, 1, 0x0, .system, .system, 0x0, false, 0, []⟩,
    ⟨0x2002C, 0x4, 1, 0x0, .system, .host, 0x0, false, 0, [⟨4, 0, .w1c, 0, 31⟩]⟩,
    ⟨0x20030, 0x4, 1, 0x0, .system, .system, 0x0, true, 0, []⟩,
    ⟨0x20038, 0x4, 2, 0x0, .system, .system, 0x0, true, 0, []⟩,
    ⟨0x20040, 0x20, 4, 0x0, .system, .system, 0x0, false, 0, []⟩,
    ⟨0x20044, 0x20, 4, 0x0, .system, .system, 0x0, false, 0, []⟩,
    ⟨0x20048, 0x20, 4, 0x0, .system, .system, 0x0, false, 0, []⟩,
    ⟨0x2004C, 0x20, 4, 0x0, .system, .system, 0x0, false, 0, []⟩,
    ⟨0x20050, 0x20, 4, 0x4000, .system, .system, 0x0, false, 0, []⟩,
    ⟨0x20054, 0x20, 4, 0x0, .system, .system, 0x0, false, 0, []⟩,
    ⟨0x20058, 0x20, 4, 0x0, .system, .system, 0x0, false, 0, []⟩,
    ⟨0x20100, 0x4, 6, 0x0, .system, .system, 0x0, false, 0, [⟨31, 16, .rws, 0, 65535⟩, ⟨15, 0, .rws, 0, 65535⟩]⟩,
    ⟨0x20120, 0x4, 6, 0x0, .system, .system, 0x0, false, 0, [⟨31, 16, .rws, 0, 65535⟩, ⟨15, 0, .rws, 0, 65535⟩]⟩,
    ⟨0x20140, 0x4, 6, 0x0, .system, .system, 0x0, false, 0, [⟨31, 16, .rws, 0, 65535⟩, ⟨15, 0, .rws, 0, 65535⟩]⟩,
    ⟨0x20160, 0x4, 6, 0x0, .system, .system, 0x0, false, 0, [⟨31, 16, .rws, 0, 65535⟩, ⟨15, 0, .rws, 0, 65535⟩]⟩,
    ⟨0x20200, 0x4, 8, 0x0, .system, .system, 0x0, false, 0, [⟨31, 16, .rws, 0, 65535⟩, ⟨15, 0, .rws, 0, 65535⟩]⟩ ] ++
  [
    ⟨0x20220, 0x4, 8, 0x0, .system, .system, 0x0, false, 0, [⟨31, 16, .rws, 0, 65535⟩, ⟨15, 0, .rws, 0, 65535⟩]⟩,
    ⟨0x20240, 0x4, 8, 0x0, .system, .system, 0x0, false, 0, [⟨31, 16, .rws, 0, 65535⟩, ⟨15, 0, .rws, 0, 65535⟩]⟩,
    ⟨0x20260, 0x4, 8, 0x0, .system, .system, 0x0, false, 0, [⟨31, 16, .rws, 0, 65535⟩, ⟨15, 0, .rws, 0, 65535⟩]⟩,
    ⟨0x20280, 0x4, 8, 0x0, .system, .system, 0x0, false, 0, [⟨31, 16, .rws, 0, 65535⟩, ⟨15, 0, .rws, 0, 65535⟩]⟩,
    ⟨0x20400, 0x4, 1024, 0x0, .system, .system, 0x0, false, 0, [⟨23, 0, .rws, 0, 16777215⟩]⟩,
    ⟨0x22000, 0x4, 2048, 0x0, .own, .own, 0x0, false, 0, []⟩ ]

/-- Counters and snapshot. -/
def regsObserve : List RegDesc :=
  [
    ⟨0x24000, 0x4, 2, 0x0, .system, .system, 0x0, false, 0, []⟩,
    ⟨0x24008, 0x4, 2, 0x0, .system, .system, 0x0, false, 0, []⟩,
    ⟨0x24010, 0x4, 2, 0x0, .system, .system, 0x0, false, 0, []⟩,
    ⟨0x24018, 0x4, 2, 0x0, .system, .system, 0x0, false, 0, []⟩,
    ⟨0x24020, 0x4, 2, 0x0, .system, .system, 0x0, false, 0, []⟩,
    ⟨0x24028, 0x4, 2, 0x0, .system, .system, 0x0, false, 0, []⟩,
    ⟨0x24030, 0x4, 1, 0x0, .system, .system, 0x0, false, 0, []⟩,
    ⟨0x24034, 0x4, 1, 0x0, .system, .system, 0x0, false, 0, []⟩,
    ⟨0x24038, 0x4, 1, 0x0, .system, .system, 0x0, false, 0, []⟩,
    ⟨0x24040, 0x4, 2, 0x0, .system, .system, 0x0, true, 0, []⟩,
    ⟨0x24048, 0x4, 2, 0x0, .system, .system, 0x0, true, 0, []⟩,
    ⟨0x24050, 0x4, 2, 0x0, .system, .system, 0x0, true, 0, []⟩,
    ⟨0x24058, 0x4, 2, 0x0, .system, .system, 0x0, true, 0, []⟩,
    ⟨0x24060, 0x4, 2, 0x0, .system, .system, 0x0, true, 0, []⟩,
    ⟨0x24068, 0x4, 2, 0x0, .system, .system, 0x0, true, 0, []⟩,
    ⟨0x24100, 0x4, 1, 0x0, .system, .system, 0x0, false, 0, []⟩,
    ⟨0x24104, 0x4, 2, 0x0, .system, .system, 0x0, false, 0, []⟩,
    ⟨0x24200, 0x4, 1, 0x30064, .system, .host, 0x0, false, 0, [⟨31, 31, .rw, 0, 1⟩, ⟨30, 30, .w1c, 0, 1⟩, ⟨17, 17, .rw, 0, 1⟩, ⟨16, 16, .rw, 0, 1⟩, ⟨15, 0, .rw, 0, 65535⟩]⟩,
    ⟨0x24204, 0x4, 1, 0x0, .system, .host, 0x0, false, 0, [⟨31, 6, .rw, 0, 67108863⟩]⟩,
    ⟨0x24208, 0x4, 1, 0x0, .system, .host, 0x0, false, 0, [⟨19, 0, .rw, 0, 1048575⟩]⟩,
    ⟨0x2420C, 0x4, 1, 0x0, .system, .host, 0x0, false, 0, [⟨15, 0, .rw, 0, 65535⟩]⟩,
    ⟨0x24210, 0x4, 1, 0x0, .system, .host, 0x0, false, 0, [⟨15, 0, .rw, 0, 65535⟩]⟩,
    ⟨0x24214, 0x4, 1, 0x0, .system, .system, 0x0, false, 0, []⟩,
    ⟨0x24218, 0x4, 1, 0x0, .system, .system, 0x0, false, 0, []⟩ ] ++
  [
    ⟨0x24400, 0x10, 16, 0x0, .system, .system, 0x0, true, 0, []⟩,
    ⟨0x24404, 0x10, 16, 0x0, .system, .system, 0x0, true, 0, []⟩,
    ⟨0x24408, 0x10, 16, 0x0, .system, .system, 0x0, true, 0, []⟩,
    ⟨0x2440C, 0x10, 16, 0x0, .system, .system, 0x0, true, 0, []⟩,
    ⟨0x24600, 0x10, 16, 0x0, .system, .system, 0x0, true, 0, []⟩,
    ⟨0x24604, 0x10, 16, 0x0, .system, .system, 0x0, true, 0, []⟩,
    ⟨0x24608, 0x10, 16, 0x0, .system, .system, 0x0, true, 0, []⟩,
    ⟨0x2460C, 0x10, 16, 0x0, .system, .system, 0x0, true, 0, []⟩ ]

/-- Rings. -/
def regsRing : List RegDesc :=
  [
    ⟨0x28000, 0x4, 1, 0x20040040, .system, .system, 0x0, false, 0, [⟨29, 20, .rw, 0, 1023⟩, ⟨18, 8, .rw, 0, 2047⟩, ⟨6, 0, .rw, 0, 127⟩]⟩,
    ⟨0x28004, 0x4, 1, 0x1000000A, .system, .system, 0x0, false, 0, [⟨28, 16, .rw, 0, 8191⟩, ⟨4, 0, .rw, 0, 31⟩]⟩,
    ⟨0x28008, 0x4, 1, 0x40000000, .system, .system, 0x0, false, 0, [⟨31, 24, .rw, 0, 255⟩, ⟨10, 0, .rw, 0, 2047⟩]⟩,
    ⟨0x2800C, 0x4, 1, 0x3E8000F, .system, .system, 0x0, false, 0, [⟨31, 16, .rw, 0, 65535⟩, ⟨3, 0, .rw, 0, 15⟩]⟩,
    ⟨0x28010, 0x4, 1, 0x2710, .system, .system, 0x0, false, 0, [⟨31, 0, .rw, 0, 4294967295⟩]⟩,
    ⟨0x28014, 0x4, 1, 0x0, .system, .system, 0x0, false, 0, [⟨2, 2, .w1s, 0, 1⟩, ⟨1, 1, .w1s, 0, 1⟩, ⟨0, 0, .w1s, 0, 1⟩]⟩,
    ⟨0x28018, 0x4, 1, 0x0, .system, .system, 0x0, false, 0, []⟩,
    ⟨0x2801C, 0x4, 2, 0x0, .system, .system, 0x0, false, 0, []⟩,
    ⟨0x28024, 0x4, 1, 0x0, .system, .system, 0x0, false, 0, []⟩,
    ⟨0x28028, 0x4, 4, 0x0, .system, .system, 0x0, false, 0, []⟩,
    ⟨0x28038, 0x4, 1, 0x0, .system, .system, 0x0, false, 0, []⟩ ]

/-- Fabric and Skylark. -/
def regsFabric : List RegDesc :=
  [
    ⟨0x2C000, 0x4, 1, 0x300000, .system, .system, 0x0, true, 0, [⟨31, 31, .rws, 0, 1⟩, ⟨21, 16, .rws, 0, 63⟩, ⟨15, 0, .rws, 0, 65535⟩]⟩,
    ⟨0x2C004, 0x4, 1, 0xFFFFFFFF, .system, .system, 0x0, true, 0, [⟨31, 16, .rws, 0, 65535⟩, ⟨15, 0, .rws, 0, 65535⟩]⟩,
    ⟨0x2C008, 0x4, 1, 0x13064, .system, .system, 0x0, true, 0, [⟨31, 16, .rws, 0, 65535⟩, ⟨15, 12, .rws, 2, 15⟩, ⟨11, 0, .rws, 1, 4095⟩]⟩,
    ⟨0x2C010, 0x4, 4, 0x0, .system, .system, 0x0, true, 0, [⟨31, 0, .rws, 0, 4294967295⟩]⟩,
    ⟨0x2C020, 0x4, 1, 0x5030004, .system, .system, 0x0, true, 0, [⟨31, 24, .rws, 1, 255⟩, ⟨18, 16, .rws, 0, 7⟩, ⟨6, 0, .rws, 1, 100⟩]⟩,
    ⟨0x2C024, 0x4, 1, 0x320A08, .system, .system, 0x0, true, 0, [⟨31, 16, .rws, 1, 65535⟩, ⟨15, 8, .rws, 1, 255⟩, ⟨7, 0, .rws, 1, 128⟩]⟩,
    ⟨0x2C028, 0x4, 1, 0x28803220, .system, .system, 0x0, true, 0, [⟨31, 24, .rws, 1, 255⟩, ⟨23, 20, .rws, 1, 8⟩, ⟨15, 8, .rws, 10, 255⟩, ⟨6, 0, .rws, 1, 64⟩]⟩,
    ⟨0x2C02C, 0x4, 1, 0xA0014, .system, .system, 0x0, true, 0, [⟨31, 16, .rws, 1, 65535⟩, ⟨15, 0, .rws, 1, 65535⟩]⟩,
    ⟨0x2C040, 0x4, 1, 0x0, .system, .system, 0x0, true, 0, []⟩,
    ⟨0x2C044, 0x4, 1, 0xFFFF0000, .system, .system, 0x0, true, 0, []⟩,
    ⟨0x2C048, 0x4, 1, 0x0, .system, .system, 0x0, true, 0, []⟩,
    ⟨0x2C04C, 0x4, 1, 0x0, .system, .system, 0x0, true, 0, []⟩,
    ⟨0x2C050, 0x4, 1, 0x0, .system, .system, 0x0, true, 0, []⟩,
    ⟨0x2C054, 0x4, 1, 0x0, .system, .system, 0x0, true, 0, []⟩,
    ⟨0x2C058, 0x4, 1, 0x0, .system, .system, 0x0, true, 0, []⟩,
    ⟨0x2C05C, 0x4, 1, 0x0, .system, .system, 0x0, true, 0, []⟩,
    ⟨0x2C060, 0x4, 1, 0x0, .system, .system, 0x0, true, 0, []⟩,
    ⟨0x2C064, 0x4, 1, 0x0, .system, .host, 0x0, true, 0, [⟨5, 0, .w1c, 0, 63⟩]⟩,
    ⟨0x2C400, 0x8, 256, 0xFFFF0000, .system, .system, 0x0, true, 0, []⟩,
    ⟨0x2C404, 0x8, 256, 0x0, .system, .system, 0x0, true, 0, []⟩,
    ⟨0x2E000, 0x4, 1, 0xA0803, .system, .system, 0x0, false, 0, [⟨31, 31, .w1s, 0, 1⟩, ⟨23, 16, .rws, 1, 255⟩, ⟨11, 8, .rws, 4, 15⟩, ⟨3, 0, .rws, 1, 8⟩]⟩,
    ⟨0x2E004, 0x4, 2, 0x0, .any, .any, 0x0, false, 0, []⟩,
    ⟨0x2E00C, 0x4, 1, 0x0, .system, .host, 0x0, false, 0, [⟨3, 3, .w1c, 0, 1⟩]⟩,
    ⟨0x2E010, 0x4, 1, 0x0, .system, .system, 0x0, false, 0, []⟩ ]

/-- Hedgerow and Stile. -/
def regsHedgerow : List RegDesc :=
  [
    ⟨0x30000, 0x4, 1, 0xA400028, .system, .system, 0x0, true, 0, [⟨31, 24, .rws, 1, 100⟩, ⟨23, 16, .rws, 64, 250⟩, ⟨10, 0, .rws, 10, 2000⟩]⟩,
    ⟨0x30004, 0x4, 1, 0x0, .system, .system, 0x0, false, 0, []⟩,
    ⟨0x30008, 0x4, 1, 0x0, .system, .system, 0x0, true, 0, []⟩,
    ⟨0x3000C, 0x4, 1, 0x0, .system, .system, 0x0, true, 0, []⟩,
    ⟨0x30010, 0x4, 2, 0x0, .system, .system, 0x0, false, 0, []⟩,
    ⟨0x30018, 0x4, 1, 0x0, .system, .system, 0x0, false, 0, []⟩,
    ⟨0x3001C, 0x4, 1, 0x0, .system, .host, 0x0, false, 0, [⟨2, 0, .w1c, 0, 7⟩]⟩,
    ⟨0x30020, 0x4, 1, 0x0, .system, .system, 0x0, false, 0, []⟩,
    ⟨0x30040, 0x4, 8, 0x0, .system, .system, 0x0, false, 0, []⟩,
    ⟨0x31000, 0x4, 1, 0x1840, .system, .system, 0x0, false, 0, [⟨12, 12, .rws, 0, 1⟩, ⟨11, 8, .rws, 0, 15⟩, ⟨7, 0, .rws, 1, 255⟩]⟩,
    ⟨0x31004, 0x4, 1, 0x0, .system, .system, 0x0, false, 0, []⟩,
    ⟨0x31008, 0x4, 1, 0x0, .system, .system, 0x0, false, 0, []⟩,
    ⟨0x3100C, 0x4, 1, 0x0, .system, .system, 0x0, false, 0, []⟩ ]

/-- Agent window, offsets within one window. -/
def regsAgent : List RegDesc :=
  [
    ⟨0x40000, 0x4, 1, 0x10000, .own, .system, 0x0, false, 0, [⟨16, 16, .rws, 0, 1⟩, ⟨9, 0, .rws, 0, 1023⟩]⟩,
    ⟨0x40004, 0x4, 1, 0x0, .own, .own, 0x0, false, 0, []⟩,
    ⟨0x40008, 0x4, 1, 0x0, .own, .own, 0x0, false, 0, []⟩,
    ⟨0x4000C, 0x4, 1, 0x0, .own, .own, 0x0, false, 0, []⟩,
    ⟨0x40100, 0x4, 1, 0x10080, .own, .system, 0x0, false, 1, [⟨16, 16, .rws, 0, 1⟩, ⟨8, 8, .rwls, 0, 1⟩, ⟨7, 0, .rwls, 0, 255⟩]⟩,
    ⟨0x40104, 0x4, 1, 0x8000003F, .own, .own, 0x0, false, 0, []⟩,
    ⟨0x40108, 0x4, 1, 0x0, .own, .own, 0x0, false, 0, []⟩,
    ⟨0x40140, 0x4, 8, 0x80808080, .own, .own, 0x0, false, 0, []⟩,
    ⟨0x40200, 0x4, 6, 0x0, .own, .own, 0x0, false, 0, []⟩,
    ⟨0x40218, 0x4, 1, 0x0, .own, .own, 0x0, false, 0, []⟩,
    ⟨0x4021C, 0x4, 1, 0x0, .own, .own, 0x0, false, 0, []⟩,
    ⟨0x40300, 0x4, 2, 0x0, .own, .own, 0x0, false, 0, []⟩,
    ⟨0x40308, 0x4, 2, 0x0, .own, .own, 0x0, false, 0, []⟩,
    ⟨0x40310, 0x4, 2, 0x0, .own, .own, 0x0, false, 0, []⟩,
    ⟨0x40318, 0x4, 2, 0x0, .own, .own, 0x0, false, 0, []⟩,
    ⟨0x40320, 0x4, 2, 0x0, .own, .own, 0x0, false, 0, []⟩,
    ⟨0x40328, 0x4, 2, 0x0, .own, .own, 0x0, false, 0, []⟩,
    ⟨0x40330, 0x4, 1, 0x0, .own, .own, 0x0, false, 0, []⟩,
    ⟨0x40334, 0x4, 1, 0x0, .own, .own, 0x0, false, 0, []⟩,
    ⟨0x40338, 0x4, 1, 0x0, .own, .own, 0x0, false, 0, []⟩,
    ⟨0x4033C, 0x4, 1, 0x0, .own, .own, 0x0, false, 0, []⟩,
    ⟨0x40340, 0x4, 1, 0x0, .own, .own, 0x0, false, 0, []⟩,
    ⟨0x40344, 0x4, 1, 0x0, .own, .own, 0x0, false, 0, []⟩,
    ⟨0x40380, 0x4, 16, 0x0, .own, .own, 0x0, false, 0, []⟩ ] ++
  [
    ⟨0x403C0, 0x4, 1, 0x0, .own, .own, 0x0, false, 0, []⟩ ]

/-- Sensor sites. -/
def regsSite : List RegDesc :=
  [
    ⟨0x90000, 0x40, 96, 0x80000000, .system, .system, 0x0, false, 0, []⟩,
    ⟨0x90004, 0x40, 96, 0x0, .system, .system, 0x0, false, 0, []⟩,
    ⟨0x90008, 0x40, 96, 0x0, .system, .system, 0x0, false, 2, [⟨31, 31, .rwls, 0, 1⟩, ⟨3, 0, .rws, 0, 15⟩]⟩,
    ⟨0x9000C, 0x40, 96, 0x0, .system, .system, 0x0, false, 0, [⟨7, 7, .rws, 0, 1⟩, ⟨15, 15, .rws, 0, 1⟩, ⟨23, 23, .rws, 0, 1⟩, ⟨31, 31, .rws, 0, 1⟩, ⟨6, 0, .rws, 0, 127⟩, ⟨14, 8, .rws, 0, 127⟩, ⟨22, 16, .rws, 0, 127⟩, ⟨30, 24, .rws, 0, 127⟩]⟩,
    ⟨0x90010, 0x40, 96, 0x0, .system, .system, 0x0, false, 0, [⟨1, 1, .w1c, 0, 1⟩]⟩,
    ⟨0x90014, 0x40, 96, 0x0, .system, .system, 0xFFFFFFFF, false, 0, []⟩ ]

/-- The registers of the region an offset lies in. -/
def regionRegs (off : Nat) : List RegDesc :=
  if off < 0x3000 then regsHeath
  else if off < 0x8000 then regsCommand
  else if off < 0xA000 then regsThermal
  else if off < 0x10000 then regsBudget
  else if off < 0x14000 then regsAdmission
  else if off < 0x18000 then regsDroop
  else if off < 0x20000 then regsRail
  else if off < 0x24000 then regsEstimator
  else if off < 0x28000 then regsObserve
  else if off < 0x2C000 then regsRing
  else if off < 0x30000 then regsFabric
  else if off < 0x40000 then regsHedgerow
  else if off < 0x90000 then regsAgent
  else if off < 0x100000 then regsSite
  else []

/-- An offset as the tables list it: agent windows fold onto the first one (R477). -/
def foldOff (off : Nat) : Nat :=
  if 0x40000 ≤ off ∧ off < 0x90000 then 0x40000 + (off - 0x40000) % 0x400 else off

/-- Does the offset fall on a register of the run? -/
def RegDesc.covers (d : RegDesc) (off : Nat) : Bool :=
  d.base ≤ off && (off - d.base) / d.stride < d.count && (off - d.base) % d.stride == 0

/-- The run an offset belongs to; none is an unmapped offset (R478). -/
def findReg (off : Nat) : Option RegDesc :=
  if off = 0x3080 then none else (regionRegs off).find? (fun d => d.covers (foldOff off))

/-- The index of an offset in its run. -/
def RegDesc.index (d : RegDesc) (off : Nat) : Nat := (foldOff off - d.base) / d.stride

/-- Fault sources of 4.2.0 (R458): index, LEVEL kind, latched by default, default reactions. -/
def faultSources : List (Nat × Bool × Bool × Nat) := [
  (0x00, true, false, 17), (0x01, true, false, 17), (0x02, true, false, 17), (0x03, true, false, 17), (0x04, true, false, 17), (0x05, true, false, 17),
  (0x06, true, false, 17), (0x10, false, false, 1), (0x11, false, false, 1), (0x12, false, false, 1), (0x20, false, false, 1), (0x30, false, true, 17),
  (0x31, false, false, 1), (0x32, false, false, 1), (0x33, true, false, 17), (0x34, false, false, 17), (0x35, false, false, 17), (0x36, false, false, 1),
  (0x37, true, false, 1), (0x38, true, false, 1), (0x39, false, false, 1), (0x40, false, false, 1), (0x41, false, true, 17), (0x42, false, true, 17) ] ++ [
  (0x43, false, false, 1), (0x44, false, false, 1), (0x45, true, false, 17), (0x46, false, false, 1), (0x47, true, false, 1), (0x50, false, false, 1),
  (0x51, false, false, 17), (0x52, true, false, 16), (0x53, false, false, 1), (0x60, false, false, 1), (0x61, false, false, 1), (0x62, false, false, 1),
  (0x63, false, false, 1), (0x64, false, false, 1), (0x65, true, false, 17), (0x66, true, false, 1), (0x70, true, false, 1), (0x71, false, false, 1),
  (0x72, false, false, 17), (0x73, false, false, 5), (0x74, true, false, 17), (0x75, false, false, 1), (0x76, false, false, 1), (0x80, false, false, 1),
  (0x81, false, false, 1) ]

/-- Source STRAP_CONFLICT (R458). -/
abbrev srcStrapConflict : Nat := 0x00

/-- Source FLASH_ABSENT (R458). -/
abbrev srcFlashAbsent : Nat := 0x01

/-- Source FW_AUTH_FAIL (R458). -/
abbrev srcFwAuthFail : Nat := 0x02

/-- Source VIN_IVR_RANGE (R458). -/
abbrev srcVinIvrRange : Nat := 0x03

/-- Source AVS_NO_RESPONSE (R458). -/
abbrev srcAvsNoResponse : Nat := 0x04

/-- Source LATCHED_FAULT (R458). -/
abbrev srcLatchedFault : Nat := 0x05

/-- Source FOLLOWER_IMAGE (R458). -/
abbrev srcFollowerImage : Nat := 0x06

/-- Source MEM_PORT_ERR (R458). -/
abbrev srcMemPortErr : Nat := 0x10

/-- Source MEM_PORT_TIMEOUT (R458). -/
abbrev srcMemPortTimeout : Nat := 0x11

/-- Source OPP_FREQ_TIMEOUT (R458). -/
abbrev srcOppFreqTimeout : Nat := 0x12

/-- Source DRP_DET_STUCK (R458). -/
abbrev srcDrpDetStuck : Nat := 0x20

/-- Source RAIL_OV (R458). -/
abbrev srcRailOv : Nat := 0x30

/-- Source RAIL_UV (R458). -/
abbrev srcRailUv : Nat := 0x31

/-- Source RAIL_SENSE_SWITCH (R458). -/
abbrev srcRailSenseSwitch : Nat := 0x32

/-- Source RAIL_OPEN_LOOP (R458). -/
abbrev srcRailOpenLoop : Nat := 0x33

/-- Source RAIL_HOLD_EXPIRED (R458). -/
abbrev srcRailHoldExpired : Nat := 0x34

/-- Source RAIL_SOFTSTART (R458). -/
abbrev srcRailSoftstart : Nat := 0x35

/-- Source PHASE_FAULT (R458). -/
abbrev srcPhaseFault : Nat := 0x36

/-- Source AVS_LOST (R458). -/
abbrev srcAvsLost : Nat := 0x37

/-- Source VIN_RANGE (R458). -/
abbrev srcVinRange : Nat := 0x38

/-- Source RAIL_INJ_ABORT (R458). -/
abbrev srcRailInjAbort : Nat := 0x39

/-- Source THERM_WARN (R458). -/
abbrev srcThermWarn : Nat := 0x40

/-- Source THERM_SHUTDOWN (R458). -/
abbrev srcThermShutdown : Nat := 0x41

/-- Source THERM_ANALOG_TRIP (R458). -/
abbrev srcThermAnalogTrip : Nat := 0x42

/-- Source THERM_EXT_TRIP (R458). -/
abbrev srcThermExtTrip : Nat := 0x43

/-- Source THERM_SITE_SUSPECT (R458). -/
abbrev srcThermSiteSuspect : Nat := 0x44

/-- Source THERM_NO_SITES (R458). -/
abbrev srcThermNoSites : Nat := 0x45

/-- Source MEM_THERMAL_CRIT (R458). -/
abbrev srcMemThermalCrit : Nat := 0x46

/-- Source MEM_TEMP_STALE (R458). -/
abbrev srcMemTempStale : Nat := 0x47

/-- Source HDG_LINK_FAIL (R458). -/
abbrev srcHdgLinkFail : Nat := 0x50

/-- Source HDG_DIE_LOST (R458). -/
abbrev srcHdgDieLost : Nat := 0x51

/-- Source HDG_LEADER_LOST (R458). -/
abbrev srcHdgLeaderLost : Nat := 0x52

/-- Source HDG_COMMIT_ORPHAN (R458). -/
abbrev srcHdgCommitOrphan : Nat := 0x53

/-- Source FAB_RTX_FAIL (R458). -/
abbrev srcFabRtxFail : Nat := 0x60

/-- Source FAB_PEER_LOST (R458). -/
abbrev srcFabPeerLost : Nat := 0x61

/-- Source FAB_ID_CLASH (R458). -/
abbrev srcFabIdClash : Nat := 0x62

/-- Source FAB_REL_ORPHAN (R458). -/
abbrev srcFabRelOrphan : Nat := 0x63

/-- Source TIME_STEP (R458). -/
abbrev srcTimeStep : Nat := 0x64

/-- Source TIME_BACKSTEP (R458). -/
abbrev srcTimeBackstep : Nat := 0x65

/-- Source TIME_HOLDOVER (R458). -/
abbrev srcTimeHoldover : Nat := 0x66

/-- Source CMD_UNATTENDED (R458). -/
abbrev srcCmdUnattended : Nat := 0x70

/-- Source FW_COMP_RESTART (R458). -/
abbrev srcFwCompRestart : Nat := 0x71

/-- Source FW_COMP_DISABLED (R458). -/
abbrev srcFwCompDisabled : Nat := 0x72

/-- Source FW_ESSENTIAL (R458). -/
abbrev srcFwEssential : Nat := 0x73

/-- Source FW_HALTED (R458). -/
abbrev srcFwHalted : Nat := 0x74

/-- Source FW_USER_AUTH (R458). -/
abbrev srcFwUserAuth : Nat := 0x75

/-- Source FW_SLOT_REPAIR (R458). -/
abbrev srcFwSlotRepair : Nat := 0x76

/-- Source ACC_UNLOCK_FAIL (R458). -/
abbrev srcAccUnlockFail : Nat := 0x80

/-- Source ACC_UNLOCKED (R458). -/
abbrev srcAccUnlocked : Nat := 0x81

/-- The reset value of FH_SRC[i] (R458): IMPL and EN for a defined source, with its latch and reactions. -/
def fhSrcReset (i : Nat) : Nat :=
  match faultSources.find? (fun p => p.1 == i) with
  | some (_, _, l, r) => 2 ^ 31 + 2 ^ 24 + bnat l * 2 ^ 8 + r
  | none => 0

/-- Reset values that depend on the register's place in its run. -/
def indexedReset (d : RegDesc) (off : Nat) : Nat :=
  let k := d.index off
  match d.base with
  | 0x4400 => fhSrcReset k
  | 0xA010 => listGet 0 [0x14, 0xC8, 0x4E20, 0x927C0] k
  | 0xC100 => if k = 0 then 0x258 * 2 ^ 16 + 0x2BC else 0
  | 0xC104 => if k = 0 then 0x1000 * 2 ^ 16 + 0x2BC else 0
  | 0x18000 => d.reset + (if k = 0 then 2 else 0)
  | 0x18004 => if k < 2 then 0x1F40000 else d.reset
  | 0x20200 | 0x20220 | 0x20240 | 0x20260 => (400 + 50 * (2 * k + 1)) * 2 ^ 16 + (400 + 50 * (2 * k))
  | 0x20280 => 128 * (2 * k + 1) * 2 ^ 16 + 128 * (2 * k)
  | 0x90008 => k % 16
  | _ => d.reset

/-- What a register reads as after reset (0 at an unmapped offset). -/
def resetWord (off : Nat) : Word :=
  match findReg off with
  | some d => BitVec.ofNat 32 (indexedReset d off)
  | none => 0

end Sys2Proof.Machine
end

