-- ==== Sys2Proof/Machine/Fields.lean ====
section
/-! DEFINITION. Names of the register fields, as the field tables spell them: a field is its register's offset and
its bits. Runs of registers take an index; agent and site registers take the cluster or site. An index is taken within its run,
so that the name of a run names no other register. -/

namespace Sys2Proof.Machine

/-- A field: the byte offset of its register and its bits. -/
structure Fld where
  off : Nat
  hi : Nat
  lo : Nat
deriving DecidableEq, Repr

/-- The whole register at an offset. -/
abbrev whole (off : Nat) : Fld := ⟨off, 31, 0⟩

/-- ID_VERSION. -/
abbrev ID_VERSION : Nat := 0x0
abbrev ID_VERSION.MAJOR : Fld := ⟨ID_VERSION, 31, 24⟩
abbrev ID_VERSION.MINOR : Fld := ⟨ID_VERSION, 23, 16⟩
abbrev ID_VERSION.PATCH : Fld := ⟨ID_VERSION, 15, 0⟩
/-- ID_TOPOLOGY. -/
abbrev ID_TOPOLOGY : Nat := 0x4
abbrev ID_TOPOLOGY.DIE_MASK : Fld := ⟨ID_TOPOLOGY, 23, 16⟩
abbrev ID_TOPOLOGY.LEADER : Fld := ⟨ID_TOPOLOGY, 15, 15⟩
abbrev ID_TOPOLOGY.DIE_ID : Fld := ⟨ID_TOPOLOGY, 14, 12⟩
abbrev ID_TOPOLOGY.CLUSTERS : Fld := ⟨ID_TOPOLOGY, 8, 0⟩
/-- HEATH_DOMAIN_STATUS. -/
abbrev HEATH_DOMAIN_STATUS : Nat := 0x1000
abbrev HEATH_DOMAIN_STATUS.PSTATE_DENIED : Fld := ⟨HEATH_DOMAIN_STATUS, 15, 15⟩
abbrev HEATH_DOMAIN_STATUS.IN_TRANSIT : Fld := ⟨HEATH_DOMAIN_STATUS, 14, 14⟩
abbrev HEATH_DOMAIN_STATUS.PSTATE_TGT : Fld := ⟨HEATH_DOMAIN_STATUS, 13, 12⟩
abbrev HEATH_DOMAIN_STATUS.PSTATE : Fld := ⟨HEATH_DOMAIN_STATUS, 11, 10⟩
abbrev HEATH_DOMAIN_STATUS.PLL_LOCK : Fld := ⟨HEATH_DOMAIN_STATUS, 4, 4⟩
abbrev HEATH_DOMAIN_STATUS.STEWARD_ON : Fld := ⟨HEATH_DOMAIN_STATUS, 3, 3⟩
abbrev HEATH_DOMAIN_STATUS.DPWM_ON : Fld := ⟨HEATH_DOMAIN_STATUS, 2, 2⟩
abbrev HEATH_DOMAIN_STATUS.CORE_ON : Fld := ⟨HEATH_DOMAIN_STATUS, 1, 1⟩
abbrev HEATH_DOMAIN_STATUS.OSC_COMP : Fld := ⟨HEATH_DOMAIN_STATUS, 0, 0⟩
/-- HEATH_DOMAIN_CTRL. -/
abbrev HEATH_DOMAIN_CTRL : Nat := 0x1004
abbrev HEATH_DOMAIN_CTRL.LINGER : Fld := ⟨HEATH_DOMAIN_CTRL, 15, 8⟩
abbrev HEATH_DOMAIN_CTRL.FORCE_STEWARD : Fld := ⟨HEATH_DOMAIN_CTRL, 1, 1⟩
abbrev HEATH_DOMAIN_CTRL.FORCE_CORE : Fld := ⟨HEATH_DOMAIN_CTRL, 0, 0⟩
/-- HEATH_WAKE_CAUSE. -/
abbrev HEATH_WAKE_CAUSE : Nat := 0x1008
abbrev HEATH_WAKE_CAUSE.HEDGEROW : Fld := ⟨HEATH_WAKE_CAUSE, 7, 7⟩
abbrev HEATH_WAKE_CAUSE.EDVIK : Fld := ⟨HEATH_WAKE_CAUSE, 6, 6⟩
abbrev HEATH_WAKE_CAUSE.MAILBOX : Fld := ⟨HEATH_WAKE_CAUSE, 5, 5⟩
abbrev HEATH_WAKE_CAUSE.DOORBELL : Fld := ⟨HEATH_WAKE_CAUSE, 4, 4⟩
abbrev HEATH_WAKE_CAUSE.FAST_LIMIT : Fld := ⟨HEATH_WAKE_CAUSE, 3, 3⟩
abbrev HEATH_WAKE_CAUSE.THERMAL : Fld := ⟨HEATH_WAKE_CAUSE, 2, 2⟩
abbrev HEATH_WAKE_CAUSE.PSTATE_REQ : Fld := ⟨HEATH_WAKE_CAUSE, 1, 1⟩
abbrev HEATH_WAKE_CAUSE.TIMER : Fld := ⟨HEATH_WAKE_CAUSE, 0, 0⟩
/-- HEATH_RESET_CAUSE. -/
abbrev HEATH_RESET_CAUSE : Nat := 0x100C
abbrev HEATH_RESET_CAUSE.BLOCK_RESETS : Fld := ⟨HEATH_RESET_CAUSE, 31, 16⟩
abbrev HEATH_RESET_CAUSE.CHIP_REQ : Fld := ⟨HEATH_RESET_CAUSE, 4, 4⟩
abbrev HEATH_RESET_CAUSE.BLOCK_FAULT : Fld := ⟨HEATH_RESET_CAUSE, 3, 3⟩
abbrev HEATH_RESET_CAUSE.BLOCK_HOST : Fld := ⟨HEATH_RESET_CAUSE, 2, 2⟩
abbrev HEATH_RESET_CAUSE.PORST : Fld := ⟨HEATH_RESET_CAUSE, 1, 1⟩
abbrev HEATH_RESET_CAUSE.HEATH_POR : Fld := ⟨HEATH_RESET_CAUSE, 0, 0⟩
/-- HEATH_RESET_CTRL. -/
abbrev HEATH_RESET_CTRL : Nat := 0x1010
abbrev HEATH_RESET_CTRL.BLOCK_RESET : Fld := ⟨HEATH_RESET_CTRL, 0, 0⟩
/-- HEATH_EPOCH. -/
abbrev HEATH_EPOCH : Nat := 0x1014
abbrev HEATH_EPOCH.HOST_EPOCH : Fld := ⟨HEATH_EPOCH, 31, 16⟩
abbrev HEATH_EPOCH.BLOCK_EPOCH : Fld := ⟨HEATH_EPOCH, 15, 0⟩
/-- HEATH_BOOT_STATUS. -/
abbrev HEATH_BOOT_STATUS : Nat := 0x1018
abbrev HEATH_BOOT_STATUS.READY : Fld := ⟨HEATH_BOOT_STATUS, 31, 31⟩
abbrev HEATH_BOOT_STATUS.STOPPED : Fld := ⟨HEATH_BOOT_STATUS, 30, 30⟩
abbrev HEATH_BOOT_STATUS.MG_BIND : Fld := ⟨HEATH_BOOT_STATUS, 29, 28⟩
abbrev HEATH_BOOT_STATUS.SLOT : Fld := ⟨HEATH_BOOT_STATUS, 27, 26⟩
abbrev HEATH_BOOT_STATUS.FAIL : Fld := ⟨HEATH_BOOT_STATUS, 15, 8⟩
abbrev HEATH_BOOT_STATUS.STEP : Fld := ⟨HEATH_BOOT_STATUS, 3, 0⟩
/-- HEATH_PIN_STATUS. -/
abbrev HEATH_PIN_STATUS : Nat := 0x101C
abbrev HEATH_PIN_STATUS.BLT_ERR_OUT : Fld := ⟨HEATH_PIN_STATUS, 3, 3⟩
abbrev HEATH_PIN_STATUS.ALERT_OUT : Fld := ⟨HEATH_PIN_STATUS, 2, 2⟩
abbrev HEATH_PIN_STATUS.TRIP_PAD : Fld := ⟨HEATH_PIN_STATUS, 1, 1⟩
abbrev HEATH_PIN_STATUS.FAST_LIMIT_PAD : Fld := ⟨HEATH_PIN_STATUS, 0, 0⟩
/-- HEATH_FW_VERSION. -/
abbrev HEATH_FW_VERSION : Nat := 0x1020
abbrev HEATH_FW_VERSION.MAJOR : Fld := ⟨HEATH_FW_VERSION, 31, 24⟩
abbrev HEATH_FW_VERSION.MINOR : Fld := ⟨HEATH_FW_VERSION, 23, 16⟩
abbrev HEATH_FW_VERSION.PATCH : Fld := ⟨HEATH_FW_VERSION, 15, 0⟩
/-- HEATH_FW_STATUS. -/
abbrev HEATH_FW_STATUS : Nat := 0x1024
abbrev HEATH_FW_STATUS.HALTED : Fld := ⟨HEATH_FW_STATUS, 31, 31⟩
abbrev HEATH_FW_STATUS.USER_OK : Fld := ⟨HEATH_FW_STATUS, 30, 30⟩
abbrev HEATH_FW_STATUS.ACT : Fld := ⟨HEATH_FW_STATUS, 29, 28⟩
abbrev HEATH_FW_STATUS.STAGE : Fld := ⟨HEATH_FW_STATUS, 27, 26⟩
abbrev HEATH_FW_STATUS.REPAIR : Fld := ⟨HEATH_FW_STATUS, 25, 25⟩
abbrev HEATH_FW_STATUS.COUNTER : Fld := ⟨HEATH_FW_STATUS, 22, 16⟩
abbrev HEATH_FW_STATUS.STAGE_REASON : Fld := ⟨HEATH_FW_STATUS, 15, 8⟩
abbrev HEATH_FW_STATUS.ACT_REASON : Fld := ⟨HEATH_FW_STATUS, 7, 0⟩
/-- HEATH_FW_COMP. -/
abbrev HEATH_FW_COMP : Nat := 0x1028
abbrev HEATH_FW_COMP.RECENT (b : Nat) : Fld := ⟨HEATH_FW_COMP, 4 * b + 3, 4 * b + 2⟩
abbrev HEATH_FW_COMP.STATE (b : Nat) : Fld := ⟨HEATH_FW_COMP, 4 * b + 1, 4 * b + 0⟩
/-- HEATH_FW_RESTARTS. -/
abbrev HEATH_FW_RESTARTS : Nat := 0x102C
abbrev HEATH_FW_RESTARTS.ESSENTIAL : Fld := ⟨HEATH_FW_RESTARTS, 31, 16⟩
abbrev HEATH_FW_RESTARTS.COMP : Fld := ⟨HEATH_FW_RESTARTS, 15, 0⟩
/-- HEATH_FW_LOAD_LO. -/
abbrev HEATH_FW_LOAD_LO : Nat := 0x1030
abbrev HEATH_FW_LOAD_LO.ADDR_LO : Fld := ⟨HEATH_FW_LOAD_LO, 31, 6⟩
/-- HEATH_FW_LOAD_HI. -/
abbrev HEATH_FW_LOAD_HI : Nat := 0x1034
abbrev HEATH_FW_LOAD_HI.ADDR_HI : Fld := ⟨HEATH_FW_LOAD_HI, 19, 0⟩
/-- HEATH_FW_LOAD_CTRL. -/
abbrev HEATH_FW_LOAD_CTRL : Nat := 0x1038
abbrev HEATH_FW_LOAD_CTRL.GO : Fld := ⟨HEATH_FW_LOAD_CTRL, 31, 31⟩
abbrev HEATH_FW_LOAD_CTRL.DONE : Fld := ⟨HEATH_FW_LOAD_CTRL, 30, 30⟩
abbrev HEATH_FW_LOAD_CTRL.FAIL : Fld := ⟨HEATH_FW_LOAD_CTRL, 29, 29⟩
abbrev HEATH_FW_LOAD_CTRL.LEN : Fld := ⟨HEATH_FW_LOAD_CTRL, 12, 0⟩
/-- HEATH_LOG_HEAD. -/
abbrev HEATH_LOG_HEAD : Nat := 0x103C
abbrev HEATH_LOG_HEAD.WRAPS : Fld := ⟨HEATH_LOG_HEAD, 31, 12⟩
abbrev HEATH_LOG_HEAD.NEXT : Fld := ⟨HEATH_LOG_HEAD, 11, 0⟩
/-- HEATH_TRACE_MASK. -/
abbrev HEATH_TRACE_MASK : Nat := 0x1040
abbrev HEATH_TRACE_MASK.FULL : Fld := ⟨HEATH_TRACE_MASK, 15, 8⟩
abbrev HEATH_TRACE_MASK.BASIC : Fld := ⟨HEATH_TRACE_MASK, 7, 0⟩
/-- MB_IN_W0L. -/
abbrev MB_IN_W0L (k : Nat) : Nat := 0x2000 + 0x10 * (k % 32)
abbrev MB_IN_W0L.ADDR_LO (k : Nat) : Fld := ⟨MB_IN_W0L k, 31, 6⟩
abbrev MB_IN_W0L.KIND (k : Nat) : Fld := ⟨MB_IN_W0L k, 5, 0⟩
/-- MB_IN_W0H. -/
abbrev MB_IN_W0H (k : Nat) : Nat := 0x2004 + 0x10 * (k % 32)
abbrev MB_IN_W0H.ADDR_HI (k : Nat) : Fld := ⟨MB_IN_W0H k, 19, 0⟩
/-- MB_IN_W1L. -/
abbrev MB_IN_W1L (k : Nat) : Nat := 0x2008 + 0x10 * (k % 32)
abbrev MB_IN_W1L.SEQ (k : Nat) : Fld := ⟨MB_IN_W1L k, 31, 16⟩
abbrev MB_IN_W1L.LEN (k : Nat) : Fld := ⟨MB_IN_W1L k, 12, 0⟩
/-- MB_IN_W1H. -/
abbrev MB_IN_W1H (k : Nat) : Nat := 0x200C + 0x10 * (k % 32)
abbrev MB_IN_W1H.HOST_EPOCH (k : Nat) : Fld := ⟨MB_IN_W1H k, 31, 16⟩
abbrev MB_IN_W1H.BLOCK_EPOCH (k : Nat) : Fld := ⟨MB_IN_W1H k, 15, 0⟩
/-- MB_OUT_W0L. -/
abbrev MB_OUT_W0L (k : Nat) : Nat := 0x2200 + 0x10 * (k % 32)
abbrev MB_OUT_W0L.ADDR_LO (k : Nat) : Fld := ⟨MB_OUT_W0L k, 31, 6⟩
abbrev MB_OUT_W0L.KIND (k : Nat) : Fld := ⟨MB_OUT_W0L k, 5, 0⟩
/-- MB_OUT_W0H. -/
abbrev MB_OUT_W0H (k : Nat) : Nat := 0x2204 + 0x10 * (k % 32)
abbrev MB_OUT_W0H.ADDR_HI (k : Nat) : Fld := ⟨MB_OUT_W0H k, 19, 0⟩
/-- MB_OUT_W1L. -/
abbrev MB_OUT_W1L (k : Nat) : Nat := 0x2208 + 0x10 * (k % 32)
abbrev MB_OUT_W1L.SEQ (k : Nat) : Fld := ⟨MB_OUT_W1L k, 31, 16⟩
abbrev MB_OUT_W1L.LEN (k : Nat) : Fld := ⟨MB_OUT_W1L k, 12, 0⟩
/-- MB_OUT_W1H. -/
abbrev MB_OUT_W1H (k : Nat) : Nat := 0x220C + 0x10 * (k % 32)
abbrev MB_OUT_W1H.HOST_EPOCH (k : Nat) : Fld := ⟨MB_OUT_W1H k, 31, 16⟩
abbrev MB_OUT_W1H.BLOCK_EPOCH (k : Nat) : Fld := ⟨MB_OUT_W1H k, 15, 0⟩
/-- MB_IN_FULL. -/
abbrev MB_IN_FULL : Nat := 0x2400
/-- MB_OUT_FULL. -/
abbrev MB_OUT_FULL : Nat := 0x2404
/-- MB_OUT_MASK. -/
abbrev MB_OUT_MASK : Nat := 0x2408
/-- MB_IN_OVERRUN. -/
abbrev MB_IN_OVERRUN : Nat := 0x240C
/-- MB_DB_IN. -/
abbrev MB_DB_IN : Nat := 0x2410
/-- MB_DB_OUT. -/
abbrev MB_DB_OUT : Nat := 0x2414
/-- MB_DB_OUT_MASK. -/
abbrev MB_DB_OUT_MASK : Nat := 0x2418
/-- CMD_SESSION. -/
abbrev CMD_SESSION : Nat := 0x3000
abbrev CMD_SESSION.HB_TIMEOUT : Fld := ⟨CMD_SESSION, 31, 16⟩
abbrev CMD_SESSION.CAUSE : Fld := ⟨CMD_SESSION, 3, 2⟩
abbrev CMD_SESSION.STATE : Fld := ⟨CMD_SESSION, 1, 0⟩
/-- CMD_HB_AGE. -/
abbrev CMD_HB_AGE : Nat := 0x3004
abbrev CMD_HB_AGE.AGE : Fld := ⟨CMD_HB_AGE, 15, 0⟩
/-- CMD_STATUS. -/
abbrev CMD_STATUS : Nat := 0x3008
abbrev CMD_STATUS.HELD_LOST : Fld := ⟨CMD_STATUS, 31, 16⟩
abbrev CMD_STATUS.HELD : Fld := ⟨CMD_STATUS, 15, 8⟩
abbrev CMD_STATUS.QUEUED : Fld := ⟨CMD_STATUS, 7, 0⟩
/-- CMD_ACTIVE. -/
abbrev CMD_ACTIVE : Nat := 0x300C
/-- CMD_ERR. -/
abbrev CMD_ERR : Nat := 0x3010
abbrev CMD_ERR.STALE : Fld := ⟨CMD_ERR, 31, 24⟩
abbrev CMD_ERR.BAD_KIND : Fld := ⟨CMD_ERR, 23, 16⟩
abbrev CMD_ERR.MEM_ERR : Fld := ⟨CMD_ERR, 15, 8⟩
abbrev CMD_ERR.REJECTS : Fld := ⟨CMD_ERR, 7, 0⟩
/-- CMD_COUNT. -/
abbrev CMD_COUNT : Nat := 0x3014
/-- CMD_LAST. -/
abbrev CMD_LAST : Nat := 0x3018
abbrev CMD_LAST.OPCODE : Fld := ⟨CMD_LAST, 31, 16⟩
abbrev CMD_LAST.MAILBOX : Fld := ⟨CMD_LAST, 12, 8⟩
abbrev CMD_LAST.STATUS : Fld := ⟨CMD_LAST, 7, 0⟩
/-- CMD_EVT. -/
abbrev CMD_EVT : Nat := 0x301C
abbrev CMD_EVT.LOST : Fld := ⟨CMD_EVT, 31, 16⟩
abbrev CMD_EVT.POSTED : Fld := ⟨CMD_EVT, 15, 0⟩
/-- CMD_MB_CTX. -/
abbrev CMD_MB_CTX (k : Nat) : Nat := 0x3080 + 0x4 * (k % 32)
abbrev CMD_MB_CTX.EN (k : Nat) : Fld := ⟨CMD_MB_CTX k, 31, 31⟩
abbrev CMD_MB_CTX.CTX (k : Nat) : Fld := ⟨CMD_MB_CTX k, 9, 0⟩
/-- FH_CTRL. -/
abbrev FH_CTRL : Nat := 0x4000
abbrev FH_CTRL.RST_LIMIT : Fld := ⟨FH_CTRL, 4, 0⟩
/-- FH_STATUS. -/
abbrev FH_STATUS : Nat := 0x4004
abbrev FH_STATUS.NPEND : Fld := ⟨FH_STATUS, 24, 16⟩
abbrev FH_STATUS.RST_STORM : Fld := ⟨FH_STATUS, 3, 3⟩
abbrev FH_STATUS.LATCHED_ANY : Fld := ⟨FH_STATUS, 2, 2⟩
abbrev FH_STATUS.ERR_ANY : Fld := ⟨FH_STATUS, 1, 1⟩
abbrev FH_STATUS.INT_ANY : Fld := ⟨FH_STATUS, 0, 0⟩
/-- FH_FIRST. -/
abbrev FH_FIRST : Nat := 0x4008
abbrev FH_FIRST.VALID : Fld := ⟨FH_FIRST, 31, 31⟩
abbrev FH_FIRST.OVERFLOW : Fld := ⟨FH_FIRST, 30, 30⟩
abbrev FH_FIRST.FORCED : Fld := ⟨FH_FIRST, 29, 29⟩
abbrev FH_FIRST.DIE : Fld := ⟨FH_FIRST, 26, 24⟩
abbrev FH_FIRST.COUNT : Fld := ⟨FH_FIRST, 23, 8⟩
abbrev FH_FIRST.SOURCE : Fld := ⟨FH_FIRST, 7, 0⟩
/-- FH_FIRST_T. -/
abbrev FH_FIRST_T (k : Nat) : Nat := 0x400C + 0x4 * (k % 2)
/-- FH_FIRST_SYN. -/
abbrev FH_FIRST_SYN (k : Nat) : Nat := 0x4014 + 0x4 * (k % 2)
/-- FH_PKG. -/
abbrev FH_PKG : Nat := 0x401C
abbrev FH_PKG.ERR_DIE : Fld := ⟨FH_PKG, 15, 8⟩
abbrev FH_PKG.INT_DIE : Fld := ⟨FH_PKG, 7, 0⟩
/-- FH_PEND. -/
abbrev FH_PEND (k : Nat) : Nat := 0x4020 + 0x4 * (k % 8)
/-- FH_LATCHED. -/
abbrev FH_LATCHED (k : Nat) : Nat := 0x4040 + 0x4 * (k % 8)
/-- FH_SEEN. -/
abbrev FH_SEEN (k : Nat) : Nat := 0x4060 + 0x4 * (k % 8)
/-- FH_SRC. -/
abbrev FH_SRC (k : Nat) : Nat := 0x4400 + 0x4 * (k % 256)
abbrev FH_SRC.IMPL (k : Nat) : Fld := ⟨FH_SRC k, 31, 31⟩
abbrev FH_SRC.EN (k : Nat) : Fld := ⟨FH_SRC k, 24, 24⟩
abbrev FH_SRC.FORCE (k : Nat) : Fld := ⟨FH_SRC k, 16, 16⟩
abbrev FH_SRC.LATCH (k : Nat) : Fld := ⟨FH_SRC k, 8, 8⟩
abbrev FH_SRC.REACT (k : Nat) : Fld := ⟨FH_SRC k, 4, 0⟩
/-- ACC_STATE. -/
abbrev ACC_STATE : Nat := 0x6000
abbrev ACC_STATE.STATE : Fld := ⟨ACC_STATE, 31, 30⟩
abbrev ACC_STATE.METHOD : Fld := ⟨ACC_STATE, 29, 29⟩
abbrev ACC_STATE.SCOPE : Fld := ⟨ACC_STATE, 4, 0⟩
/-- ACC_TIMER. -/
abbrev ACC_TIMER : Nat := 0x6004
abbrev ACC_TIMER.SECONDS : Fld := ⟨ACC_TIMER, 16, 0⟩
/-- ACC_FAIL. -/
abbrev ACC_FAIL : Nat := 0x6008
abbrev ACC_FAIL.BACKOFF : Fld := ⟨ACC_FAIL, 31, 20⟩
abbrev ACC_FAIL.FAILS : Fld := ⟨ACC_FAIL, 15, 0⟩
/-- ACC_DENIED. -/
abbrev ACC_DENIED : Nat := 0x600C
/-- ACC_SERIAL. -/
abbrev ACC_SERIAL (k : Nat) : Nat := 0x6010 + 0x4 * (k % 4)
/-- ACC_OTP. -/
abbrev ACC_OTP : Nat := 0x6020
abbrev ACC_OTP.FIELD : Fld := ⟨ACC_OTP, 31, 31⟩
abbrev ACC_OTP.PW_SET : Fld := ⟨ACC_OTP, 30, 30⟩
abbrev ACC_OTP.KEY_SET : Fld := ⟨ACC_OTP, 29, 29⟩
abbrev ACC_OTP.PW_SCOPE : Fld := ⟨ACC_OTP, 4, 0⟩
/-- ACC_CTRL. -/
abbrev ACC_CTRL : Nat := 0x6024
abbrev ACC_CTRL.RELOCK : Fld := ⟨ACC_CTRL, 0, 0⟩
/-- THM_CTRL. -/
abbrev THM_CTRL : Nat := 0x8000
abbrev THM_CTRL.HEATH_SITE : Fld := ⟨THM_CTRL, 22, 16⟩
abbrev THM_CTRL.TRIP_FOLLOW : Fld := ⟨THM_CTRL, 3, 3⟩
abbrev THM_CTRL.XCHK_EN : Fld := ⟨THM_CTRL, 2, 2⟩
abbrev THM_CTRL.PRED_EN : Fld := ⟨THM_CTRL, 1, 1⟩
/-- THM_THR. -/
abbrev THM_THR : Nat := 0x8004
abbrev THM_THR.THROTTLE_HYST : Fld := ⟨THM_THR, 31, 28⟩
abbrev THM_THR.WARN_HYST : Fld := ⟨THM_THR, 27, 24⟩
abbrev THM_THR.SHUTDOWN : Fld := ⟨THM_THR, 23, 16⟩
abbrev THM_THR.THROTTLE : Fld := ⟨THM_THR, 15, 8⟩
abbrev THM_THR.WARN : Fld := ⟨THM_THR, 7, 0⟩
/-- THM_GRACE. -/
abbrev THM_GRACE : Nat := 0x8008
abbrev THM_GRACE.REARM : Fld := ⟨THM_GRACE, 31, 16⟩
abbrev THM_GRACE.GRACE : Fld := ⟨THM_GRACE, 9, 0⟩
/-- THM_ENF. -/
abbrev THM_ENF : Nat := 0x800C
abbrev THM_ENF.FAST_OFS : Fld := ⟨THM_ENF, 27, 24⟩
abbrev THM_ENF.STEP_TIME : Fld := ⟨THM_ENF, 6, 0⟩
/-- THM_SAFE. -/
abbrev THM_SAFE : Nat := 0x8010
abbrev THM_SAFE.SAFE_POOL : Fld := ⟨THM_SAFE, 30, 16⟩
abbrev THM_SAFE.SAFE_IDX : Fld := ⟨THM_SAFE, 4, 0⟩
/-- THM_PRED. -/
abbrev THM_PRED : Nat := 0x8014
abbrev THM_PRED.MARGIN : Fld := ⟨THM_PRED, 27, 24⟩
abbrev THM_PRED.HORIZON : Fld := ⟨THM_PRED, 21, 16⟩
abbrev THM_PRED.OBS_SHIFT : Fld := ⟨THM_PRED, 3, 0⟩
/-- THM_MODEL. -/
abbrev THM_MODEL : Nat := 0x8018
abbrev THM_MODEL.G_LAT : Fld := ⟨THM_MODEL, 31, 16⟩
abbrev THM_MODEL.T_SINK : Fld := ⟨THM_MODEL, 15, 0⟩
/-- THM_MEM_THR. -/
abbrev THM_MEM_THR : Nat := 0x801C
abbrev THM_MEM_THR.CRIT : Fld := ⟨THM_MEM_THR, 31, 24⟩
abbrev THM_MEM_THR.THROTTLE : Fld := ⟨THM_MEM_THR, 23, 16⟩
abbrev THM_MEM_THR.REFRESH : Fld := ⟨THM_MEM_THR, 15, 8⟩
abbrev THM_MEM_THR.HYST : Fld := ⟨THM_MEM_THR, 7, 4⟩
abbrev THM_MEM_THR.BW_MAX : Fld := ⟨THM_MEM_THR, 2, 0⟩
/-- THM_NODE_K. -/
abbrev THM_NODE_K (k : Nat) : Nat := 0x8040 + 0x8 * (k % 16)
abbrev THM_NODE_K.K (k : Nat) : Fld := ⟨THM_NODE_K k, 23, 0⟩
/-- THM_NODE_G. -/
abbrev THM_NODE_G (k : Nat) : Nat := 0x8044 + 0x8 * (k % 16)
abbrev THM_NODE_G.G_SINK (k : Nat) : Fld := ⟨THM_NODE_G k, 15, 0⟩
/-- THM_STATUS. -/
abbrev THM_STATUS : Nat := 0x8100
abbrev THM_STATUS.SHUT_LATCHED : Fld := ⟨THM_STATUS, 31, 31⟩
abbrev THM_STATUS.ATRIP_LATCHED : Fld := ⟨THM_STATUS, 30, 30⟩
abbrev THM_STATUS.EXT_TRIP : Fld := ⟨THM_STATUS, 29, 29⟩
abbrev THM_STATUS.NO_SITES : Fld := ⟨THM_STATUS, 28, 28⟩
abbrev THM_STATUS.RATE : Fld := ⟨THM_STATUS, 27, 26⟩
abbrev THM_STATUS.PRED_EARLY : Fld := ⟨THM_STATUS, 25, 25⟩
abbrev THM_STATUS.ENFORCING : Fld := ⟨THM_STATUS, 24, 24⟩
abbrev THM_STATUS.GRACE : Fld := ⟨THM_STATUS, 23, 23⟩
abbrev THM_STATUS.THROTTLE : Fld := ⟨THM_STATUS, 22, 22⟩
abbrev THM_STATUS.WARN : Fld := ⟨THM_STATUS, 21, 21⟩
abbrev THM_STATUS.SUSPECTS : Fld := ⟨THM_STATUS, 6, 0⟩
/-- THM_TEMP. -/
abbrev THM_TEMP : Nat := 0x8104
abbrev THM_TEMP.HOT_SITE : Fld := ⟨THM_TEMP, 22, 16⟩
abbrev THM_TEMP.T_DIE : Fld := ⟨THM_TEMP, 15, 0⟩
/-- THM_PKG_TEMP. -/
abbrev THM_PKG_TEMP : Nat := 0x8108
abbrev THM_PKG_TEMP.T_MEM : Fld := ⟨THM_PKG_TEMP, 31, 16⟩
abbrev THM_PKG_TEMP.T_DIE_MAX : Fld := ⟨THM_PKG_TEMP, 15, 0⟩
/-- THM_PRED_STATUS. -/
abbrev THM_PRED_STATUS : Nat := 0x810C
abbrev THM_PRED_STATUS.CROSS : Fld := ⟨THM_PRED_STATUS, 31, 23⟩
abbrev THM_PRED_STATUS.NODE : Fld := ⟨THM_PRED_STATUS, 19, 16⟩
abbrev THM_PRED_STATUS.PEAK : Fld := ⟨THM_PRED_STATUS, 15, 0⟩
/-- THM_ENF_STATUS. -/
abbrev THM_ENF_STATUS : Nat := 0x8110
abbrev THM_ENF_STATUS.GRACE_LEFT : Fld := ⟨THM_ENF_STATUS, 31, 16⟩
abbrev THM_ENF_STATUS.POOL_CUT : Fld := ⟨THM_ENF_STATUS, 15, 15⟩
abbrev THM_ENF_STATUS.POOL_CAP : Fld := ⟨THM_ENF_STATUS, 14, 0⟩
/-- THM_EPISODES. -/
abbrev THM_EPISODES : Nat := 0x8114
abbrev THM_EPISODES.ENFORCED : Fld := ⟨THM_EPISODES, 31, 16⟩
abbrev THM_EPISODES.ENTRIES : Fld := ⟨THM_EPISODES, 15, 0⟩
/-- THM_CHECK. -/
abbrev THM_CHECK : Nat := 0x8118
abbrev THM_CHECK.FAILED : Fld := ⟨THM_CHECK, 5, 0⟩
/-- THM_OTP. -/
abbrev THM_OTP : Nat := 0x811C
abbrev THM_OTP.HEATH_SITE : Fld := ⟨THM_OTP, 22, 16⟩
abbrev THM_OTP.ATRIP : Fld := ⟨THM_OTP, 7, 0⟩
/-- THM_DPWM_CAL. -/
abbrev THM_DPWM_CAL : Nat := 0x8120
abbrev THM_DPWM_CAL.COUNT : Fld := ⟨THM_DPWM_CAL, 31, 16⟩
abbrev THM_DPWM_CAL.MAX_ADJ : Fld := ⟨THM_DPWM_CAL, 15, 8⟩
abbrev THM_DPWM_CAL.AGE : Fld := ⟨THM_DPWM_CAL, 7, 0⟩
/-- THM_NODE_T. -/
abbrev THM_NODE_T (k : Nat) : Nat := 0x8140 + 0x4 * (k % 16)
abbrev THM_NODE_T.T (k : Nat) : Fld := ⟨THM_NODE_T k, 15, 0⟩
/-- THM_MEM. -/
abbrev THM_MEM (k : Nat) : Nat := 0x8180 + 0x4 * (k % 4)
abbrev THM_MEM.STALE (k : Nat) : Fld := ⟨THM_MEM k, 31, 31⟩
abbrev THM_MEM.CRIT (k : Nat) : Fld := ⟨THM_MEM k, 30, 30⟩
abbrev THM_MEM.THROTTLE (k : Nat) : Fld := ⟨THM_MEM k, 29, 29⟩
abbrev THM_MEM.REFRESH (k : Nat) : Fld := ⟨THM_MEM k, 28, 28⟩
abbrev THM_MEM.BW_CAP (k : Nat) : Fld := ⟨THM_MEM k, 26, 24⟩
abbrev THM_MEM.T (k : Nat) : Fld := ⟨THM_MEM k, 15, 0⟩
/-- THM_OSC_TAB. -/
abbrev THM_OSC_TAB (k : Nat) : Nat := 0x81C0 + 0x4 * (k % 8)
abbrev THM_OSC_TAB.CORR (k : Nat) : Fld := ⟨THM_OSC_TAB k, 31, 16⟩
abbrev THM_OSC_TAB.T (k : Nat) : Fld := ⟨THM_OSC_TAB k, 15, 0⟩
/-- THM_REF_TAB. -/
abbrev THM_REF_TAB (k : Nat) : Nat := 0x81E0 + 0x4 * (k % 8)
abbrev THM_REF_TAB.CORR (k : Nat) : Fld := ⟨THM_REF_TAB k, 31, 16⟩
abbrev THM_REF_TAB.T (k : Nat) : Fld := ⟨THM_REF_TAB k, 15, 0⟩
/-- BUD_CTRL. -/
abbrev BUD_CTRL : Nat := 0xA000
abbrev BUD_CTRL.WIN_EN : Fld := ⟨BUD_CTRL, 11, 8⟩
abbrev BUD_CTRL.REL_MARGIN : Fld := ⟨BUD_CTRL, 5, 0⟩
/-- BUD_POOL. -/
abbrev BUD_POOL : Nat := 0xA004
abbrev BUD_POOL.POOL : Fld := ⟨BUD_POOL, 17, 0⟩
/-- BUD_EMERG. -/
abbrev BUD_EMERG : Nat := 0xA008
abbrev BUD_EMERG.EMERG : Fld := ⟨BUD_EMERG, 17, 0⟩
/-- BUD_HOLD. -/
abbrev BUD_HOLD : Nat := 0xA00C
abbrev BUD_HOLD.SUPPLY_HOLD : Fld := ⟨BUD_HOLD, 31, 16⟩
abbrev BUD_HOLD.UV_EN : Fld := ⟨BUD_HOLD, 15, 15⟩
abbrev BUD_HOLD.FL_HOLD : Fld := ⟨BUD_HOLD, 13, 0⟩
/-- BUD_WIN_LEN. -/
abbrev BUD_WIN_LEN (k : Nat) : Nat := 0xA010 + 0x10 * (k % 4)
abbrev BUD_WIN_LEN.LEN (k : Nat) : Fld := ⟨BUD_WIN_LEN k, 19, 0⟩
/-- BUD_WIN_LIMIT. -/
abbrev BUD_WIN_LIMIT (k : Nat) : Nat := 0xA014 + 0x10 * (k % 4)
/-- BUD_WIN_FILL. -/
abbrev BUD_WIN_FILL (k : Nat) : Nat := 0xA018 + 0x10 * (k % 4)
abbrev BUD_WIN_FILL.OVER (k : Nat) : Fld := ⟨BUD_WIN_FILL k, 31, 31⟩
abbrev BUD_WIN_FILL.FILL (k : Nat) : Fld := ⟨BUD_WIN_FILL k, 23, 0⟩
/-- BUD_WIN_CAP. -/
abbrev BUD_WIN_CAP (k : Nat) : Nat := 0xA01C + 0x10 * (k % 4)
abbrev BUD_WIN_CAP.CAP (k : Nat) : Fld := ⟨BUD_WIN_CAP k, 20, 16⟩
abbrev BUD_WIN_CAP.POOL_CUT (k : Nat) : Fld := ⟨BUD_WIN_CAP k, 15, 15⟩
abbrev BUD_WIN_CAP.POOL_CAP (k : Nat) : Fld := ⟨BUD_WIN_CAP k, 14, 0⟩
/-- BUD_SHARE. -/
abbrev BUD_SHARE : Nat := 0xA050
abbrev BUD_SHARE.EMERG_Q : Fld := ⟨BUD_SHARE, 31, 16⟩
abbrev BUD_SHARE.POOL_Q : Fld := ⟨BUD_SHARE, 15, 0⟩
/-- BUD_CAPS. -/
abbrev BUD_CAPS : Nat := 0xA054
abbrev BUD_CAPS.THERMAL_CAP : Fld := ⟨BUD_CAPS, 28, 24⟩
abbrev BUD_CAPS.PACE_CAP : Fld := ⟨BUD_CAPS, 20, 16⟩
abbrev BUD_CAPS.SUPPLY_CAP : Fld := ⟨BUD_CAPS, 12, 8⟩
abbrev BUD_CAPS.TARGET : Fld := ⟨BUD_CAPS, 4, 0⟩
/-- BUD_RSN_ACTIVE. -/
abbrev BUD_RSN_ACTIVE : Nat := 0xA058
abbrev BUD_RSN_ACTIVE.ACTIVE : Fld := ⟨BUD_RSN_ACTIVE, 15, 0⟩
/-- BUD_SHARE_WIN. -/
abbrev BUD_SHARE_WIN (k : Nat) : Nat := 0xA060 + 0x4 * (k % 4)
/-- BUD_SLOW. -/
abbrev BUD_SLOW : Nat := 0xA070
abbrev BUD_SLOW.PENDING : Fld := ⟨BUD_SLOW, 15, 15⟩
abbrev BUD_SLOW.DIE : Fld := ⟨BUD_SLOW, 14, 12⟩
abbrev BUD_SLOW.REASON : Fld := ⟨BUD_SLOW, 11, 8⟩
abbrev BUD_SLOW.INDEX : Fld := ⟨BUD_SLOW, 4, 0⟩
/-- BUD_CHECK. -/
abbrev BUD_CHECK : Nat := 0xA074
abbrev BUD_CHECK.FAILED : Fld := ⟨BUD_CHECK, 3, 0⟩
/-- BUD_RSN_CNT. -/
abbrev BUD_RSN_CNT (k : Nat) : Nat := 0xA100 + 0x4 * (k % 16)
/-- BUD_RSN_NS. -/
abbrev BUD_RSN_NS (k : Nat) : Nat := 0xA200 + 0x4 * (k % 32)
/-- OPP_CTRL. -/
abbrev OPP_CTRL : Nat := 0xC000
abbrev OPP_CTRL.NOMINAL_TOP : Fld := ⟨OPP_CTRL, 28, 24⟩
abbrev OPP_CTRL.COUNT : Fld := ⟨OPP_CTRL, 21, 16⟩
abbrev OPP_CTRL.UP_DWELL : Fld := ⟨OPP_CTRL, 15, 8⟩
abbrev OPP_CTRL.SLEW : Fld := ⟨OPP_CTRL, 5, 0⟩
/-- OPP_HOST_CAP. -/
abbrev OPP_HOST_CAP : Nat := 0xC004
abbrev OPP_HOST_CAP.CAP : Fld := ⟨OPP_HOST_CAP, 4, 0⟩
/-- OPP_STATUS. -/
abbrev OPP_STATUS : Nat := 0xC008
abbrev OPP_STATUS.STEPPING : Fld := ⟨OPP_STATUS, 31, 31⟩
abbrev OPP_STATUS.UP : Fld := ⟨OPP_STATUS, 30, 30⟩
abbrev OPP_STATUS.FREQ_WAIT : Fld := ⟨OPP_STATUS, 29, 29⟩
abbrev OPP_STATUS.TARGET : Fld := ⟨OPP_STATUS, 28, 24⟩
abbrev OPP_STATUS.F_IDX : Fld := ⟨OPP_STATUS, 20, 16⟩
abbrev OPP_STATUS.V_IDX : Fld := ⟨OPP_STATUS, 12, 8⟩
abbrev OPP_STATUS.INDEX : Fld := ⟨OPP_STATUS, 4, 0⟩
/-- OPP_STEPS. -/
abbrev OPP_STEPS : Nat := 0xC00C
abbrev OPP_STEPS.DOWN : Fld := ⟨OPP_STEPS, 31, 16⟩
abbrev OPP_STEPS.UP : Fld := ⟨OPP_STEPS, 15, 0⟩
/-- OPP_CHECK. -/
abbrev OPP_CHECK : Nat := 0xC010
abbrev OPP_CHECK.FAILED : Fld := ⟨OPP_CHECK, 4, 0⟩
/-- OPP_PT_A. -/
abbrev OPP_PT_A (k : Nat) : Nat := 0xC100 + 0x8 * (k % 32)
abbrev OPP_PT_A.FREQ (k : Nat) : Fld := ⟨OPP_PT_A k, 27, 16⟩
abbrev OPP_PT_A.VCORE (k : Nat) : Fld := ⟨OPP_PT_A k, 10, 0⟩
/-- OPP_PT_B. -/
abbrev OPP_PT_B (k : Nat) : Nat := 0xC104 + 0x8 * (k % 32)
abbrev OPP_PT_B.POOL_MAX (k : Nat) : Fld := ⟨OPP_PT_B k, 30, 16⟩
abbrev OPP_PT_B.VCACHE (k : Nat) : Fld := ⟨OPP_PT_B k, 10, 0⟩
/-- ADM_CTRL. -/
abbrev ADM_CTRL : Nat := 0x10000
abbrev ADM_CTRL.TRICKLE : Fld := ⟨ADM_CTRL, 11, 10⟩
abbrev ADM_CTRL.WAVE_ROTATE : Fld := ⟨ADM_CTRL, 5, 5⟩
abbrev ADM_CTRL.WAVE_ORDER : Fld := ⟨ADM_CTRL, 4, 4⟩
abbrev ADM_CTRL.FLOOR_EN : Fld := ⟨ADM_CTRL, 0, 0⟩
/-- ADM_CLASS_Q. -/
abbrev ADM_CLASS_Q : Nat := 0x10004
abbrev ADM_CLASS_Q.FULL : Fld := ⟨ADM_CLASS_Q, 19, 16⟩
abbrev ADM_CLASS_Q.MEDIUM : Fld := ⟨ADM_CLASS_Q, 15, 12⟩
abbrev ADM_CLASS_Q.LIGHT : Fld := ⟨ADM_CLASS_Q, 11, 8⟩
abbrev ADM_CLASS_Q.TRICKLE : Fld := ⟨ADM_CLASS_Q, 7, 4⟩
abbrev ADM_CLASS_Q.IDLE : Fld := ⟨ADM_CLASS_Q, 3, 0⟩
/-- ADM_POCKET. -/
abbrev ADM_POCKET : Nat := 0x10008
abbrev ADM_POCKET.SIZE : Fld := ⟨ADM_POCKET, 6, 0⟩
/-- ADM_SLOPE. -/
abbrev ADM_SLOPE : Nat := 0x1000C
abbrev ADM_SLOPE.UP_ANN : Fld := ⟨ADM_SLOPE, 29, 16⟩
abbrev ADM_SLOPE.UP : Fld := ⟨ADM_SLOPE, 13, 0⟩
/-- ADM_SLOPE_DN. -/
abbrev ADM_SLOPE_DN : Nat := 0x10010
abbrev ADM_SLOPE_DN.DN : Fld := ⟨ADM_SLOPE_DN, 14, 0⟩
/-- ADM_WAVE. -/
abbrev ADM_WAVE : Nat := 0x10014
abbrev ADM_WAVE.THRESH : Fld := ⟨ADM_WAVE, 27, 16⟩
abbrev ADM_WAVE.STEP : Fld := ⟨ADM_WAVE, 10, 0⟩
/-- ADM_HYST. -/
abbrev ADM_HYST : Nat := 0x10018
abbrev ADM_HYST.HYST : Fld := ⟨ADM_HYST, 8, 0⟩
/-- ADM_LEAD. -/
abbrev ADM_LEAD : Nat := 0x1001C
abbrev ADM_LEAD.PREBIAS_MV : Fld := ⟨ADM_LEAD, 28, 24⟩
abbrev ADM_LEAD.HINT_HOLD : Fld := ⟨ADM_LEAD, 23, 16⟩
abbrev ADM_LEAD.BIAS : Fld := ⟨ADM_LEAD, 15, 9⟩
abbrev ADM_LEAD.RESERVE : Fld := ⟨ADM_LEAD, 8, 0⟩
/-- ADM_CEILING. -/
abbrev ADM_CEILING : Nat := 0x10020
abbrev ADM_CEILING.CEIL : Fld := ⟨ADM_CEILING, 15, 0⟩
/-- ADM_OUT. -/
abbrev ADM_OUT : Nat := 0x10024
abbrev ADM_OUT.GRANTED : Fld := ⟨ADM_OUT, 31, 16⟩
abbrev ADM_OUT.OUTSTANDING : Fld := ⟨ADM_OUT, 15, 0⟩
/-- ADM_HALF. -/
abbrev ADM_HALF (k : Nat) : Nat := 0x10028 + 0x4 * (k % 2)
abbrev ADM_HALF.FREE (k : Nat) : Fld := ⟨ADM_HALF k, 31, 16⟩
abbrev ADM_HALF.OUTSTANDING (k : Nat) : Fld := ⟨ADM_HALF k, 15, 0⟩
/-- ADM_STATUS. -/
abbrev ADM_STATUS : Nat := 0x10030
abbrev ADM_STATUS.WAITING : Fld := ⟨ADM_STATUS, 26, 16⟩
abbrev ADM_STATUS.WAVE_POS : Fld := ⟨ADM_STATUS, 15, 12⟩
abbrev ADM_STATUS.LATE : Fld := ⟨ADM_STATUS, 9, 9⟩
abbrev ADM_STATUS.REVOKED : Fld := ⟨ADM_STATUS, 8, 8⟩
abbrev ADM_STATUS.CREDIT_NEG : Fld := ⟨ADM_STATUS, 4, 4⟩
abbrev ADM_STATUS.REVOKING : Fld := ⟨ADM_STATUS, 3, 3⟩
abbrev ADM_STATUS.OVER : Fld := ⟨ADM_STATUS, 2, 2⟩
abbrev ADM_STATUS.WAVE : Fld := ⟨ADM_STATUS, 1, 1⟩
abbrev ADM_STATUS.OPEN : Fld := ⟨ADM_STATUS, 0, 0⟩
/-- ADM_CREDIT. -/
abbrev ADM_CREDIT : Nat := 0x10034
/-- ADM_ANN. -/
abbrev ADM_ANN : Nat := 0x10038
abbrev ADM_ANN.LATE_CNT : Fld := ⟨ADM_ANN, 31, 16⟩
abbrev ADM_ANN.PENDING : Fld := ⟨ADM_ANN, 6, 0⟩
/-- ADM_FF. -/
abbrev ADM_FF : Nat := 0x1003C
abbrev ADM_FF.PREBIAS_NOW : Fld := ⟨ADM_FF, 20, 16⟩
abbrev ADM_FF.FF_Q : Fld := ⟨ADM_FF, 15, 0⟩
/-- ADM_CHECK. -/
abbrev ADM_CHECK : Nat := 0x10040
abbrev ADM_CHECK.FAILED : Fld := ⟨ADM_CHECK, 7, 0⟩
/-- ADM_PROFILES. -/
abbrev ADM_PROFILES : Nat := 0x10044
abbrev ADM_PROFILES.LOADED : Fld := ⟨ADM_PROFILES, 14, 0⟩
/-- ADM_CTX_MAX. -/
abbrev ADM_CTX_MAX (k : Nat) : Nat := 0x11000 + 0x8 * (k % 1024)
abbrev ADM_CTX_MAX.MAX (k : Nat) : Fld := ⟨ADM_CTX_MAX k, 16, 0⟩
/-- ADM_CTX_MIN. -/
abbrev ADM_CTX_MIN (k : Nat) : Nat := 0x11004 + 0x8 * (k % 1024)
abbrev ADM_CTX_MIN.MIN (k : Nat) : Fld := ⟨ADM_CTX_MIN k, 16, 0⟩
/-- ADM_CTX_OUT. -/
abbrev ADM_CTX_OUT (k : Nat) : Nat := 0x13000 + 0x4 * (k % 1024)
abbrev ADM_CTX_OUT.CAP_Q (k : Nat) : Fld := ⟨ADM_CTX_OUT k, 31, 16⟩
abbrev ADM_CTX_OUT.OUTSTANDING (k : Nat) : Fld := ⟨ADM_CTX_OUT k, 15, 0⟩
/-- DRP_CTRL. -/
abbrev DRP_CTRL : Nat := 0x14000
abbrev DRP_CTRL.STUCK_EN : Fld := ⟨DRP_CTRL, 7, 7⟩
abbrev DRP_CTRL.PRO_EN : Fld := ⟨DRP_CTRL, 6, 6⟩
abbrev DRP_CTRL.FREEZE_SCOPE : Fld := ⟨DRP_CTRL, 5, 4⟩
abbrev DRP_CTRL.DET_EN : Fld := ⟨DRP_CTRL, 0, 0⟩
/-- DRP_HOLD. -/
abbrev DRP_HOLD : Nat := 0x14004
abbrev DRP_HOLD.STUCK_TIME : Fld := ⟨DRP_HOLD, 31, 24⟩
abbrev DRP_HOLD.GRANT_HOLD : Fld := ⟨DRP_HOLD, 13, 0⟩
/-- DRP_CAL. -/
abbrev DRP_CAL : Nat := 0x14008
abbrev DRP_CAL.PERIOD : Fld := ⟨DRP_CAL, 31, 24⟩
abbrev DRP_CAL.UNCAL_LEVEL : Fld := ⟨DRP_CAL, 17, 16⟩
abbrev DRP_CAL.TARGET : Fld := ⟨DRP_CAL, 5, 0⟩
/-- DRP_PRO. -/
abbrev DRP_PRO : Nat := 0x1400C
abbrev DRP_PRO.TIME : Fld := ⟨DRP_PRO, 31, 24⟩
abbrev DRP_PRO.LEVEL : Fld := ⟨DRP_PRO, 21, 20⟩
abbrev DRP_PRO.STRIPES : Fld := ⟨DRP_PRO, 19, 16⟩
abbrev DRP_PRO.THRESH : Fld := ⟨DRP_PRO, 14, 0⟩
/-- DRP_FORCE. -/
abbrev DRP_FORCE : Nat := 0x14010
abbrev DRP_FORCE.LEVEL : Fld := ⟨DRP_FORCE, 17, 16⟩
abbrev DRP_FORCE.STRIPES : Fld := ⟨DRP_FORCE, 15, 0⟩
/-- DRP_STATUS. -/
abbrev DRP_STATUS : Nat := 0x14014
abbrev DRP_STATUS.FREEZE : Fld := ⟨DRP_STATUS, 31, 16⟩
abbrev DRP_STATUS.FORCED_DIE : Fld := ⟨DRP_STATUS, 15, 14⟩
abbrev DRP_STATUS.FAST_LIMIT : Fld := ⟨DRP_STATUS, 13, 13⟩
abbrev DRP_STATUS.SENSE_LOSS : Fld := ⟨DRP_STATUS, 12, 12⟩
abbrev DRP_STATUS.PRO : Fld := ⟨DRP_STATUS, 11, 11⟩
abbrev DRP_STATUS.DEBUG : Fld := ⟨DRP_STATUS, 10, 10⟩
abbrev DRP_STATUS.STRETCHED : Fld := ⟨DRP_STATUS, 9, 0⟩
/-- DRP_CNT_MILD. -/
abbrev DRP_CNT_MILD : Nat := 0x14018
/-- DRP_CNT_DEEP. -/
abbrev DRP_CNT_DEEP : Nat := 0x1401C
/-- DRP_CNT_SEVERE. -/
abbrev DRP_CNT_SEVERE : Nat := 0x14020
/-- DRP_FREEZES. -/
abbrev DRP_FREEZES : Nat := 0x14024
/-- DRP_STUCK. -/
abbrev DRP_STUCK : Nat := 0x14028
abbrev DRP_STUCK.LAST : Fld := ⟨DRP_STUCK, 24, 16⟩
abbrev DRP_STUCK.COUNT : Fld := ⟨DRP_STUCK, 15, 0⟩
/-- DRP_CHECK. -/
abbrev DRP_CHECK : Nat := 0x1402C
abbrev DRP_CHECK.FAILED : Fld := ⟨DRP_CHECK, 7, 0⟩
/-- DRP_THR. -/
abbrev DRP_THR (k : Nat) : Nat := 0x14100 + 0x4 * (k % 32)
abbrev DRP_THR.SEVERE_OFS (k : Nat) : Fld := ⟨DRP_THR k, 21, 16⟩
abbrev DRP_THR.DEEP_OFS (k : Nat) : Fld := ⟨DRP_THR k, 13, 8⟩
abbrev DRP_THR.MILD_OFS (k : Nat) : Fld := ⟨DRP_THR k, 5, 0⟩
/-- RAIL_CTRL. -/
abbrev RAIL_CTRL (k : Nat) : Nat := 0x18000 + 0x1000 * (k % 4)
abbrev RAIL_CTRL.PER (k : Nat) : Fld := ⟨RAIL_CTRL k, 15, 8⟩
abbrev RAIL_CTRL.SHED_EN (k : Nat) : Fld := ⟨RAIL_CTRL k, 3, 3⟩
abbrev RAIL_CTRL.PRIMARY (k : Nat) : Fld := ⟨RAIL_CTRL k, 2, 2⟩
abbrev RAIL_CTRL.AFF_EN (k : Nat) : Fld := ⟨RAIL_CTRL k, 1, 1⟩
abbrev RAIL_CTRL.VFF_EN (k : Nat) : Fld := ⟨RAIL_CTRL k, 0, 0⟩
/-- RAIL_VSET. -/
abbrev RAIL_VSET (k : Nat) : Nat := 0x18004 + 0x1000 * (k % 4)
abbrev RAIL_VSET.VRET (k : Nat) : Fld := ⟨RAIL_VSET k, 26, 16⟩
abbrev RAIL_VSET.VSET (k : Nat) : Fld := ⟨RAIL_VSET k, 10, 0⟩
/-- RAIL_KP. -/
abbrev RAIL_KP (k : Nat) : Nat := 0x18008 + 0x1000 * (k % 4)
abbrev RAIL_KP.GAIN (k : Nat) : Fld := ⟨RAIL_KP k, 23, 0⟩
/-- RAIL_KI. -/
abbrev RAIL_KI (k : Nat) : Nat := 0x1800C + 0x1000 * (k % 4)
abbrev RAIL_KI.GAIN (k : Nat) : Fld := ⟨RAIL_KI k, 23, 0⟩
/-- RAIL_KD. -/
abbrev RAIL_KD (k : Nat) : Nat := 0x18010 + 0x1000 * (k % 4)
abbrev RAIL_KD.GAIN (k : Nat) : Fld := ⟨RAIL_KD k, 23, 0⟩
/-- RAIL_KA. -/
abbrev RAIL_KA (k : Nat) : Nat := 0x18014 + 0x1000 * (k % 4)
abbrev RAIL_KA.GAIN (k : Nat) : Fld := ⟨RAIL_KA k, 23, 0⟩
/-- RAIL_FILT. -/
abbrev RAIL_FILT (k : Nat) : Nat := 0x18018 + 0x1000 * (k % 4)
abbrev RAIL_FILT.OF_SHIFT (k : Nat) : Fld := ⟨RAIL_FILT k, 10, 8⟩
abbrev RAIL_FILT.DF_SHIFT (k : Nat) : Fld := ⟨RAIL_FILT k, 2, 0⟩
/-- RAIL_DUTY_LIM. -/
abbrev RAIL_DUTY_LIM (k : Nat) : Nat := 0x1801C + 0x1000 * (k % 4)
abbrev RAIL_DUTY_LIM.DUTY_MAX (k : Nat) : Fld := ⟨RAIL_DUTY_LIM k, 31, 16⟩
abbrev RAIL_DUTY_LIM.DUTY_MIN (k : Nat) : Fld := ⟨RAIL_DUTY_LIM k, 15, 0⟩
/-- RAIL_SENSE. -/
abbrev RAIL_SENSE (k : Nat) : Nat := 0x18020 + 0x1000 * (k % 4)
abbrev RAIL_SENSE.FROZEN_EN (k : Nat) : Fld := ⟨RAIL_SENSE k, 31, 31⟩
abbrev RAIL_SENSE.HOLD_TIME (k : Nat) : Fld := ⟨RAIL_SENSE k, 25, 16⟩
abbrev RAIL_SENSE.STUCK_THRESH (k : Nat) : Fld := ⟨RAIL_SENSE k, 15, 0⟩
/-- RAIL_PROT. -/
abbrev RAIL_PROT (k : Nat) : Nat := 0x18024 + 0x1000 * (k % 4)
abbrev RAIL_PROT.UV_MARGIN (k : Nat) : Fld := ⟨RAIL_PROT k, 23, 16⟩
abbrev RAIL_PROT.OV_MARGIN (k : Nat) : Fld := ⟨RAIL_PROT k, 7, 0⟩
/-- RAIL_PHASE. -/
abbrev RAIL_PHASE (k : Nat) : Nat := 0x18028 + 0x1000 * (k % 4)
abbrev RAIL_PHASE.TEMP_MAX (k : Nat) : Fld := ⟨RAIL_PHASE k, 31, 24⟩
abbrev RAIL_PHASE.I_PH_MAX (k : Nat) : Fld := ⟨RAIL_PHASE k, 23, 16⟩
abbrev RAIL_PHASE.I_PER_PH (k : Nat) : Fld := ⟨RAIL_PHASE k, 15, 8⟩
abbrev RAIL_PHASE.MIN_ACTIVE (k : Nat) : Fld := ⟨RAIL_PHASE k, 5, 0⟩
/-- RAIL_SS. -/
abbrev RAIL_SS (k : Nat) : Nat := 0x1802C + 0x1000 * (k % 4)
abbrev RAIL_SS.SLEW (k : Nat) : Fld := ⟨RAIL_SS k, 4, 0⟩
/-- RAIL_STATUS. -/
abbrev RAIL_STATUS (k : Nat) : Nat := 0x18040 + 0x1000 * (k % 4)
abbrev RAIL_STATUS.N_ACTIVE (k : Nat) : Fld := ⟨RAIL_STATUS k, 25, 20⟩
abbrev RAIL_STATUS.REMOTE (k : Nat) : Fld := ⟨RAIL_STATUS k, 19, 18⟩
abbrev RAIL_STATUS.LOCAL (k : Nat) : Fld := ⟨RAIL_STATUS k, 17, 16⟩
abbrev RAIL_STATUS.HOLD_FREEZE (k : Nat) : Fld := ⟨RAIL_STATUS k, 9, 9⟩
abbrev RAIL_STATUS.AT_TARGET (k : Nat) : Fld := ⟨RAIL_STATUS k, 8, 8⟩
abbrev RAIL_STATUS.STATE (k : Nat) : Fld := ⟨RAIL_STATUS k, 3, 0⟩
/-- RAIL_SAT. -/
abbrev RAIL_SAT (k : Nat) : Nat := 0x18044 + 0x1000 * (k % 4)
abbrev RAIL_SAT.SAT_OUT_LO (k : Nat) : Fld := ⟨RAIL_SAT k, 5, 5⟩
abbrev RAIL_SAT.SAT_OUT_HI (k : Nat) : Fld := ⟨RAIL_SAT k, 4, 4⟩
abbrev RAIL_SAT.SAT_SUM (k : Nat) : Fld := ⟨RAIL_SAT k, 3, 3⟩
abbrev RAIL_SAT.SAT_D (k : Nat) : Fld := ⟨RAIL_SAT k, 2, 2⟩
abbrev RAIL_SAT.SAT_I (k : Nat) : Fld := ⟨RAIL_SAT k, 1, 1⟩
abbrev RAIL_SAT.SAT_P (k : Nat) : Fld := ⟨RAIL_SAT k, 0, 0⟩
/-- RAIL_LOOP. -/
abbrev RAIL_LOOP (k : Nat) : Nat := 0x18048 + 0x1000 * (k % 4)
abbrev RAIL_LOOP.DUTY (k : Nat) : Fld := ⟨RAIL_LOOP k, 31, 16⟩
abbrev RAIL_LOOP.VREF (k : Nat) : Fld := ⟨RAIL_LOOP k, 15, 0⟩
/-- RAIL_INTEG. -/
abbrev RAIL_INTEG (k : Nat) : Nat := 0x1804C + 0x1000 * (k % 4)
/-- RAIL_SNS. -/
abbrev RAIL_SNS (k : Nat) : Nat := 0x18050 + 0x1000 * (k % 4)
abbrev RAIL_SNS.OFS (k : Nat) : Fld := ⟨RAIL_SNS k, 31, 16⟩
abbrev RAIL_SNS.ERR (k : Nat) : Fld := ⟨RAIL_SNS k, 15, 0⟩
/-- RAIL_IMEAS. -/
abbrev RAIL_IMEAS (k : Nat) : Nat := 0x18054 + 0x1000 * (k % 4)
abbrev RAIL_IMEAS.I_MEAS (k : Nat) : Fld := ⟨RAIL_IMEAS k, 15, 0⟩
/-- RAIL_PH_FAULT. -/
abbrev RAIL_PH_FAULT (k : Nat) : Nat := 0x18058 + 0x1000 * (k % 4)
/-- RAIL_PH_FAULT_HI. -/
abbrev RAIL_PH_FAULT_HI (k : Nat) : Nat := 0x1805C + 0x1000 * (k % 4)
/-- RAIL_EVENTS. -/
abbrev RAIL_EVENTS (k : Nat) : Nat := 0x18060 + 0x1000 * (k % 4)
abbrev RAIL_EVENTS.HOLDS (k : Nat) : Fld := ⟨RAIL_EVENTS k, 31, 16⟩
abbrev RAIL_EVENTS.SWITCHES (k : Nat) : Fld := ⟨RAIL_EVENTS k, 15, 0⟩
/-- RAIL_CHECK. -/
abbrev RAIL_CHECK (k : Nat) : Nat := 0x18064 + 0x1000 * (k % 4)
abbrev RAIL_CHECK.FAILED (k : Nat) : Fld := ⟨RAIL_CHECK k, 11, 0⟩
/-- RAIL_INJ_CTRL. -/
abbrev RAIL_INJ_CTRL (k : Nat) : Nat := 0x18080 + 0x1000 * (k % 4)
abbrev RAIL_INJ_CTRL.SETTLE (k : Nat) : Fld := ⟨RAIL_INJ_CTRL k, 31, 16⟩
abbrev RAIL_INJ_CTRL.CHIP (k : Nat) : Fld := ⟨RAIL_INJ_CTRL k, 15, 8⟩
abbrev RAIL_INJ_CTRL.WAVE (k : Nat) : Fld := ⟨RAIL_INJ_CTRL k, 7, 4⟩
abbrev RAIL_INJ_CTRL.POINT (k : Nat) : Fld := ⟨RAIL_INJ_CTRL k, 2, 1⟩
abbrev RAIL_INJ_CTRL.EN (k : Nat) : Fld := ⟨RAIL_INJ_CTRL k, 0, 0⟩
/-- RAIL_INJ_AMP. -/
abbrev RAIL_INJ_AMP (k : Nat) : Nat := 0x18084 + 0x1000 * (k % 4)
abbrev RAIL_INJ_AMP.AMP (k : Nat) : Fld := ⟨RAIL_INJ_AMP k, 15, 0⟩
/-- RAIL_INJ_FREQ. -/
abbrev RAIL_INJ_FREQ (k : Nat) : Nat := 0x18088 + 0x1000 * (k % 4)
/-- RAIL_INJ_GUARD. -/
abbrev RAIL_INJ_GUARD (k : Nat) : Nat := 0x1808C + 0x1000 * (k % 4)
abbrev RAIL_INJ_GUARD.MAX_TIME (k : Nat) : Fld := ⟨RAIL_INJ_GUARD k, 25, 16⟩
abbrev RAIL_INJ_GUARD.E_ABORT (k : Nat) : Fld := ⟨RAIL_INJ_GUARD k, 7, 0⟩
/-- RAIL_INJ_STATUS. -/
abbrev RAIL_INJ_STATUS (k : Nat) : Nat := 0x18090 + 0x1000 * (k % 4)
abbrev RAIL_INJ_STATUS.ABORTS (k : Nat) : Fld := ⟨RAIL_INJ_STATUS k, 31, 16⟩
abbrev RAIL_INJ_STATUS.REASON (k : Nat) : Fld := ⟨RAIL_INJ_STATUS k, 7, 4⟩
abbrev RAIL_INJ_STATUS.ABORTED (k : Nat) : Fld := ⟨RAIL_INJ_STATUS k, 2, 2⟩
abbrev RAIL_INJ_STATUS.DONE (k : Nat) : Fld := ⟨RAIL_INJ_STATUS k, 1, 1⟩
abbrev RAIL_INJ_STATUS.ACTIVE (k : Nat) : Fld := ⟨RAIL_INJ_STATUS k, 0, 0⟩
/-- RAIL_CAP_CTRL. -/
abbrev RAIL_CAP_CTRL (k : Nat) : Nat := 0x180A0 + 0x1000 * (k % 4)
abbrev RAIL_CAP_CTRL.PRE (k : Nat) : Fld := ⟨RAIL_CAP_CTRL k, 28, 16⟩
abbrev RAIL_CAP_CTRL.DECIM (k : Nat) : Fld := ⟨RAIL_CAP_CTRL k, 10, 8⟩
abbrev RAIL_CAP_CTRL.SRC (k : Nat) : Fld := ⟨RAIL_CAP_CTRL k, 5, 4⟩
abbrev RAIL_CAP_CTRL.STOP (k : Nat) : Fld := ⟨RAIL_CAP_CTRL k, 1, 1⟩
abbrev RAIL_CAP_CTRL.ARM (k : Nat) : Fld := ⟨RAIL_CAP_CTRL k, 0, 0⟩
/-- RAIL_CAP_EVT. -/
abbrev RAIL_CAP_EVT (k : Nat) : Nat := 0x180A4 + 0x1000 * (k % 4)
abbrev RAIL_CAP_EVT.PH_EXCL (k : Nat) : Fld := ⟨RAIL_CAP_EVT k, 6, 6⟩
abbrev RAIL_CAP_EVT.UV (k : Nat) : Fld := ⟨RAIL_CAP_EVT k, 5, 5⟩
abbrev RAIL_CAP_EVT.OV (k : Nat) : Fld := ⟨RAIL_CAP_EVT k, 4, 4⟩
abbrev RAIL_CAP_EVT.SWITCH (k : Nat) : Fld := ⟨RAIL_CAP_EVT k, 3, 3⟩
abbrev RAIL_CAP_EVT.SAT_LO (k : Nat) : Fld := ⟨RAIL_CAP_EVT k, 2, 2⟩
abbrev RAIL_CAP_EVT.SAT_HI (k : Nat) : Fld := ⟨RAIL_CAP_EVT k, 1, 1⟩
abbrev RAIL_CAP_EVT.OPEN_LOOP (k : Nat) : Fld := ⟨RAIL_CAP_EVT k, 0, 0⟩
/-- RAIL_CAP_STATUS. -/
abbrev RAIL_CAP_STATUS (k : Nat) : Nat := 0x180A8 + 0x1000 * (k % 4)
abbrev RAIL_CAP_STATUS.LATE_TRIG (k : Nat) : Fld := ⟨RAIL_CAP_STATUS k, 31, 16⟩
abbrev RAIL_CAP_STATUS.STATE (k : Nat) : Fld := ⟨RAIL_CAP_STATUS k, 1, 0⟩
/-- RAIL_CAP_FILL. -/
abbrev RAIL_CAP_FILL (k : Nat) : Nat := 0x180AC + 0x1000 * (k % 4)
abbrev RAIL_CAP_FILL.TRIG_POS (k : Nat) : Fld := ⟨RAIL_CAP_FILL k, 28, 16⟩
abbrev RAIL_CAP_FILL.VALID (k : Nat) : Fld := ⟨RAIL_CAP_FILL k, 13, 0⟩
/-- RAIL0_AVS_CTRL. -/
abbrev RAIL0_AVS_CTRL : Nat := 0x18800
abbrev RAIL0_AVS_CTRL.VIN_STALE : Fld := ⟨RAIL0_AVS_CTRL, 31, 24⟩
abbrev RAIL0_AVS_CTRL.VIN_POLL : Fld := ⟨RAIL0_AVS_CTRL, 23, 16⟩
abbrev RAIL0_AVS_CTRL.RETRY_GAP : Fld := ⟨RAIL0_AVS_CTRL, 15, 8⟩
abbrev RAIL0_AVS_CTRL.SELECT : Fld := ⟨RAIL0_AVS_CTRL, 7, 4⟩
abbrev RAIL0_AVS_CTRL.CLK : Fld := ⟨RAIL0_AVS_CTRL, 1, 0⟩
/-- RAIL0_AVS_VIN. -/
abbrev RAIL0_AVS_VIN : Nat := 0x18804
abbrev RAIL0_AVS_VIN.TARGET : Fld := ⟨RAIL0_AVS_VIN, 10, 0⟩
/-- RAIL0_AVS_READ. -/
abbrev RAIL0_AVS_READ : Nat := 0x18808
abbrev RAIL0_AVS_READ.AGE : Fld := ⟨RAIL0_AVS_READ, 31, 16⟩
abbrev RAIL0_AVS_READ.VIN : Fld := ⟨RAIL0_AVS_READ, 15, 0⟩
/-- RAIL0_AVS_IT. -/
abbrev RAIL0_AVS_IT : Nat := 0x1880C
abbrev RAIL0_AVS_IT.TEMP : Fld := ⟨RAIL0_AVS_IT, 31, 16⟩
abbrev RAIL0_AVS_IT.IOUT : Fld := ⟨RAIL0_AVS_IT, 15, 0⟩
/-- RAIL0_AVS_STATUS. -/
abbrev RAIL0_AVS_STATUS : Nat := 0x18810
abbrev RAIL0_AVS_STATUS.RETRIES : Fld := ⟨RAIL0_AVS_STATUS, 31, 16⟩
abbrev RAIL0_AVS_STATUS.LOST : Fld := ⟨RAIL0_AVS_STATUS, 9, 9⟩
abbrev RAIL0_AVS_STATUS.ALERT : Fld := ⟨RAIL0_AVS_STATUS, 8, 8⟩
abbrev RAIL0_AVS_STATUS.STATUS_RESP : Fld := ⟨RAIL0_AVS_STATUS, 4, 0⟩
/-- EST_CTRL. -/
abbrev EST_CTRL : Nat := 0x20000
abbrev EST_CTRL.CAL_EN : Fld := ⟨EST_CTRL, 8, 8⟩
abbrev EST_CTRL.MODE : Fld := ⟨EST_CTRL, 4, 4⟩
/-- EST_CAL_CFG. -/
abbrev EST_CAL_CFG : Nat := 0x20004
abbrev EST_CAL_CFG.O_LIM : Fld := ⟨EST_CAL_CFG, 25, 16⟩
abbrev EST_CAL_CFG.DYN_FRAC : Fld := ⟨EST_CAL_CFG, 11, 8⟩
abbrev EST_CAL_CFG.O_SHIFT : Fld := ⟨EST_CAL_CFG, 7, 4⟩
abbrev EST_CAL_CFG.G_SHIFT : Fld := ⟨EST_CAL_CFG, 3, 0⟩
/-- EST_CAL_LIM. -/
abbrev EST_CAL_LIM : Nat := 0x20008
abbrev EST_CAL_LIM.G_MAX : Fld := ⟨EST_CAL_LIM, 31, 16⟩
abbrev EST_CAL_LIM.G_MIN : Fld := ⟨EST_CAL_LIM, 15, 0⟩
/-- EST_MODEL_ID. -/
abbrev EST_MODEL_ID : Nat := 0x2000C
/-- EST_STATUS. -/
abbrev EST_STATUS : Nat := 0x20010
abbrev EST_STATUS.CONVERGED : Fld := ⟨EST_STATUS, 11, 8⟩
abbrev EST_STATUS.CAL_SAT : Fld := ⟨EST_STATUS, 7, 4⟩
abbrev EST_STATUS.PKG_PARTIAL : Fld := ⟨EST_STATUS, 3, 3⟩
abbrev EST_STATUS.GAP : Fld := ⟨EST_STATUS, 2, 2⟩
abbrev EST_STATUS.MEASURED : Fld := ⟨EST_STATUS, 1, 1⟩
abbrev EST_STATUS.MODEL_VALID : Fld := ⟨EST_STATUS, 0, 0⟩
/-- EST_DIE_P. -/
abbrev EST_DIE_P : Nat := 0x20014
/-- EST_DIE_E. -/
abbrev EST_DIE_E (k : Nat) : Nat := 0x20018 + 0x4 * (k % 2)
/-- EST_UNATTR_E. -/
abbrev EST_UNATTR_E (k : Nat) : Nat := 0x20020 + 0x4 * (k % 2)
/-- EST_CAL_SKIP. -/
abbrev EST_CAL_SKIP : Nat := 0x20028
abbrev EST_CAL_SKIP.SKIP (b : Nat) : Fld := ⟨EST_CAL_SKIP, 8 * b + 7, 8 * b + 0⟩
/-- EST_CHECK. -/
abbrev EST_CHECK : Nat := 0x2002C
abbrev EST_CHECK.FAILED : Fld := ⟨EST_CHECK, 4, 0⟩
/-- EST_PKG_P. -/
abbrev EST_PKG_P : Nat := 0x20030
/-- EST_PKG_E. -/
abbrev EST_PKG_E (k : Nat) : Nat := 0x20038 + 0x4 * (k % 2)
/-- EST_RAIL_P. -/
abbrev EST_RAIL_P (k : Nat) : Nat := 0x20040 + 0x20 * (k % 4)
/-- EST_RAIL_DYN. -/
abbrev EST_RAIL_DYN (k : Nat) : Nat := 0x20044 + 0x20 * (k % 4)
/-- EST_RAIL_LEAK. -/
abbrev EST_RAIL_LEAK (k : Nat) : Nat := 0x20048 + 0x20 * (k % 4)
/-- EST_RAIL_MEAS. -/
abbrev EST_RAIL_MEAS (k : Nat) : Nat := 0x2004C + 0x20 * (k % 4)
/-- EST_RAIL_GAIN. -/
abbrev EST_RAIL_GAIN (k : Nat) : Nat := 0x20050 + 0x20 * (k % 4)
abbrev EST_RAIL_GAIN.G (k : Nat) : Fld := ⟨EST_RAIL_GAIN k, 15, 0⟩
/-- EST_RAIL_OFS. -/
abbrev EST_RAIL_OFS (k : Nat) : Nat := 0x20054 + 0x20 * (k % 4)
/-- EST_RAIL_ERR. -/
abbrev EST_RAIL_ERR (k : Nat) : Nat := 0x20058 + 0x20 * (k % 4)
/-- EST_W0. -/
abbrev EST_W0 (k : Nat) : Nat := 0x20100 + 0x4 * (k % 6)
abbrev EST_W0.W_HI (k : Nat) : Fld := ⟨EST_W0 k, 31, 16⟩
abbrev EST_W0.W_LO (k : Nat) : Fld := ⟨EST_W0 k, 15, 0⟩
/-- EST_W1. -/
abbrev EST_W1 (k : Nat) : Nat := 0x20120 + 0x4 * (k % 6)
abbrev EST_W1.W_HI (k : Nat) : Fld := ⟨EST_W1 k, 31, 16⟩
abbrev EST_W1.W_LO (k : Nat) : Fld := ⟨EST_W1 k, 15, 0⟩
/-- EST_W2. -/
abbrev EST_W2 (k : Nat) : Nat := 0x20140 + 0x4 * (k % 6)
abbrev EST_W2.W_HI (k : Nat) : Fld := ⟨EST_W2 k, 31, 16⟩
abbrev EST_W2.W_LO (k : Nat) : Fld := ⟨EST_W2 k, 15, 0⟩
/-- EST_W3. -/
abbrev EST_W3 (k : Nat) : Nat := 0x20160 + 0x4 * (k % 6)
abbrev EST_W3.W_HI (k : Nat) : Fld := ⟨EST_W3 k, 31, 16⟩
abbrev EST_W3.W_LO (k : Nat) : Fld := ⟨EST_W3 k, 15, 0⟩
/-- EST_VAX0. -/
abbrev EST_VAX0 (k : Nat) : Nat := 0x20200 + 0x4 * (k % 8)
abbrev EST_VAX0.V_HI (k : Nat) : Fld := ⟨EST_VAX0 k, 31, 16⟩
abbrev EST_VAX0.V_LO (k : Nat) : Fld := ⟨EST_VAX0 k, 15, 0⟩
/-- EST_VAX1. -/
abbrev EST_VAX1 (k : Nat) : Nat := 0x20220 + 0x4 * (k % 8)
abbrev EST_VAX1.V_HI (k : Nat) : Fld := ⟨EST_VAX1 k, 31, 16⟩
abbrev EST_VAX1.V_LO (k : Nat) : Fld := ⟨EST_VAX1 k, 15, 0⟩
/-- EST_VAX2. -/
abbrev EST_VAX2 (k : Nat) : Nat := 0x20240 + 0x4 * (k % 8)
abbrev EST_VAX2.V_HI (k : Nat) : Fld := ⟨EST_VAX2 k, 31, 16⟩
abbrev EST_VAX2.V_LO (k : Nat) : Fld := ⟨EST_VAX2 k, 15, 0⟩
/-- EST_VAX3. -/
abbrev EST_VAX3 (k : Nat) : Nat := 0x20260 + 0x4 * (k % 8)
abbrev EST_VAX3.V_HI (k : Nat) : Fld := ⟨EST_VAX3 k, 31, 16⟩
abbrev EST_VAX3.V_LO (k : Nat) : Fld := ⟨EST_VAX3 k, 15, 0⟩
/-- EST_TAX. -/
abbrev EST_TAX (k : Nat) : Nat := 0x20280 + 0x4 * (k % 8)
abbrev EST_TAX.T_HI (k : Nat) : Fld := ⟨EST_TAX k, 31, 16⟩
abbrev EST_TAX.T_LO (k : Nat) : Fld := ⟨EST_TAX k, 15, 0⟩
/-- EST_LK. -/
abbrev EST_LK (k : Nat) : Nat := 0x20400 + 0x4 * (k % 1024)
abbrev EST_LK.LEAK (k : Nat) : Fld := ⟨EST_LK k, 23, 0⟩
/-- EST_CTX_E. -/
abbrev EST_CTX_E (k : Nat) : Nat := 0x22000 + 0x4 * (k % 2048)
/-- OBS_DIE_RET. -/
abbrev OBS_DIE_RET (k : Nat) : Nat := 0x24000 + 0x4 * (k % 2)
/-- OBS_DIE_WASTED. -/
abbrev OBS_DIE_WASTED (k : Nat) : Nat := 0x24008 + 0x4 * (k % 2)
/-- OBS_DIE_FRONT. -/
abbrev OBS_DIE_FRONT (k : Nat) : Nat := 0x24010 + 0x4 * (k % 2)
/-- OBS_DIE_BACK. -/
abbrev OBS_DIE_BACK (k : Nat) : Nat := 0x24018 + 0x4 * (k % 2)
/-- OBS_DIE_UTIL. -/
abbrev OBS_DIE_UTIL (k : Nat) : Nat := 0x24020 + 0x4 * (k % 2)
/-- OBS_DIE_NOMINAL. -/
abbrev OBS_DIE_NOMINAL (k : Nat) : Nat := 0x24028 + 0x4 * (k % 2)
/-- OBS_DIE_WAITS. -/
abbrev OBS_DIE_WAITS : Nat := 0x24030
/-- OBS_DIE_WAIT_MAX. -/
abbrev OBS_DIE_WAIT_MAX : Nat := 0x24034
/-- OBS_DIE_ERR. -/
abbrev OBS_DIE_ERR : Nat := 0x24038
/-- OBS_PKG_RET. -/
abbrev OBS_PKG_RET (k : Nat) : Nat := 0x24040 + 0x4 * (k % 2)
/-- OBS_PKG_WASTED. -/
abbrev OBS_PKG_WASTED (k : Nat) : Nat := 0x24048 + 0x4 * (k % 2)
/-- OBS_PKG_FRONT. -/
abbrev OBS_PKG_FRONT (k : Nat) : Nat := 0x24050 + 0x4 * (k % 2)
/-- OBS_PKG_BACK. -/
abbrev OBS_PKG_BACK (k : Nat) : Nat := 0x24058 + 0x4 * (k % 2)
/-- OBS_PKG_UTIL. -/
abbrev OBS_PKG_UTIL (k : Nat) : Nat := 0x24060 + 0x4 * (k % 2)
/-- OBS_PKG_NOMINAL. -/
abbrev OBS_PKG_NOMINAL (k : Nat) : Nat := 0x24068 + 0x4 * (k % 2)
/-- OBS_SNAP_STATUS. -/
abbrev OBS_SNAP_STATUS : Nat := 0x24100
abbrev OBS_SNAP_STATUS.SNAP_ID : Fld := ⟨OBS_SNAP_STATUS, 31, 16⟩
abbrev OBS_SNAP_STATUS.RINGS : Fld := ⟨OBS_SNAP_STATUS, 2, 2⟩
abbrev OBS_SNAP_STATUS.STATE : Fld := ⟨OBS_SNAP_STATUS, 1, 0⟩
/-- OBS_SNAP_T. -/
abbrev OBS_SNAP_T (k : Nat) : Nat := 0x24104 + 0x4 * (k % 2)
/-- OBS_STR_CTRL. -/
abbrev OBS_STR_CTRL : Nat := 0x24200
abbrev OBS_STR_CTRL.EN : Fld := ⟨OBS_STR_CTRL, 31, 31⟩
abbrev OBS_STR_CTRL.ERR : Fld := ⟨OBS_STR_CTRL, 30, 30⟩
abbrev OBS_STR_CTRL.DIE_REC : Fld := ⟨OBS_STR_CTRL, 17, 17⟩
abbrev OBS_STR_CTRL.CLUSTER_REC : Fld := ⟨OBS_STR_CTRL, 16, 16⟩
abbrev OBS_STR_CTRL.PERIOD : Fld := ⟨OBS_STR_CTRL, 15, 0⟩
/-- OBS_STR_BASE_LO. -/
abbrev OBS_STR_BASE_LO : Nat := 0x24204
abbrev OBS_STR_BASE_LO.ADDR_LO : Fld := ⟨OBS_STR_BASE_LO, 31, 6⟩
/-- OBS_STR_BASE_HI. -/
abbrev OBS_STR_BASE_HI : Nat := 0x24208
abbrev OBS_STR_BASE_HI.ADDR_HI : Fld := ⟨OBS_STR_BASE_HI, 19, 0⟩
/-- OBS_STR_LEN. -/
abbrev OBS_STR_LEN : Nat := 0x2420C
abbrev OBS_STR_LEN.VALUE : Fld := ⟨OBS_STR_LEN, 15, 0⟩
/-- OBS_STR_TAIL. -/
abbrev OBS_STR_TAIL : Nat := 0x24210
abbrev OBS_STR_TAIL.VALUE : Fld := ⟨OBS_STR_TAIL, 15, 0⟩
/-- OBS_STR_HEAD. -/
abbrev OBS_STR_HEAD : Nat := 0x24214
abbrev OBS_STR_HEAD.VALUE : Fld := ⟨OBS_STR_HEAD, 15, 0⟩
/-- OBS_STR_DROP. -/
abbrev OBS_STR_DROP : Nat := 0x24218
abbrev OBS_STR_DROP.FULL : Fld := ⟨OBS_STR_DROP, 31, 16⟩
abbrev OBS_STR_DROP.CAP : Fld := ⟨OBS_STR_DROP, 15, 0⟩
/-- OBS_WATCH_0. -/
abbrev OBS_WATCH_0 (k : Nat) : Nat := 0x24400 + 0x10 * (k % 16)
abbrev OBS_WATCH_0.EN (k : Nat) : Fld := ⟨OBS_WATCH_0 k, 31, 31⟩
abbrev OBS_WATCH_0.EPL (k : Nat) : Fld := ⟨OBS_WATCH_0 k, 15, 0⟩
/-- OBS_WATCH_4. -/
abbrev OBS_WATCH_4 (k : Nat) : Nat := 0x24404 + 0x10 * (k % 16)
/-- OBS_WATCH_8. -/
abbrev OBS_WATCH_8 (k : Nat) : Nat := 0x24408 + 0x10 * (k % 16)
abbrev OBS_WATCH_8.LIMIT_PG_HI (k : Nat) : Fld := ⟨OBS_WATCH_8 k, 15, 8⟩
abbrev OBS_WATCH_8.BASE_PG_HI (k : Nat) : Fld := ⟨OBS_WATCH_8 k, 7, 0⟩
/-- OBS_WATCH_C. -/
abbrev OBS_WATCH_C (k : Nat) : Nat := 0x2440C + 0x10 * (k % 16)
/-- OBS_WATCH_B_LO. -/
abbrev OBS_WATCH_B_LO (k : Nat) : Nat := 0x24600 + 0x10 * (k % 16)
/-- OBS_WATCH_B_HI. -/
abbrev OBS_WATCH_B_HI (k : Nat) : Nat := 0x24604 + 0x10 * (k % 16)
/-- OBS_WATCH_E_LO. -/
abbrev OBS_WATCH_E_LO (k : Nat) : Nat := 0x24608 + 0x10 * (k % 16)
/-- OBS_WATCH_E_HI. -/
abbrev OBS_WATCH_E_HI (k : Nat) : Nat := 0x2460C + 0x10 * (k % 16)
/-- RING_LEN. -/
abbrev RING_LEN : Nat := 0x28000
abbrev RING_LEN.RAIL : Fld := ⟨RING_LEN, 29, 20⟩
abbrev RING_LEN.ARB : Fld := ⟨RING_LEN, 18, 8⟩
abbrev RING_LEN.AGT : Fld := ⟨RING_LEN, 6, 0⟩
/-- RING_SAMP. -/
abbrev RING_SAMP : Nat := 0x28004
abbrev RING_SAMP.MODE : Fld := ⟨RING_SAMP, 31, 31⟩
abbrev RING_SAMP.LEN : Fld := ⟨RING_SAMP, 28, 16⟩
abbrev RING_SAMP.RATE_SHIFT : Fld := ⟨RING_SAMP, 4, 0⟩
/-- RING_TRIG. -/
abbrev RING_TRIG : Nat := 0x28008
abbrev RING_TRIG.POST : Fld := ⟨RING_TRIG, 31, 24⟩
abbrev RING_TRIG.SOURCES : Fld := ⟨RING_TRIG, 10, 0⟩
/-- RING_TRIG_UNITS. -/
abbrev RING_TRIG_UNITS : Nat := 0x2800C
abbrev RING_TRIG_UNITS.POST_MAX : Fld := ⟨RING_TRIG_UNITS, 31, 16⟩
abbrev RING_TRIG_UNITS.UNITS : Fld := ⟨RING_TRIG_UNITS, 3, 0⟩
/-- RING_WAIT_TRIG. -/
abbrev RING_WAIT_TRIG : Nat := 0x28010
/-- RING_CTRL. -/
abbrev RING_CTRL : Nat := 0x28014
abbrev RING_CTRL.RESUME : Fld := ⟨RING_CTRL, 2, 2⟩
abbrev RING_CTRL.FORCE : Fld := ⟨RING_CTRL, 1, 1⟩
abbrev RING_CTRL.ARM : Fld := ⟨RING_CTRL, 0, 0⟩
/-- RING_STATUS. -/
abbrev RING_STATUS : Nat := 0x28018
abbrev RING_STATUS.LATE : Fld := ⟨RING_STATUS, 31, 16⟩
abbrev RING_STATUS.SOURCE : Fld := ⟨RING_STATUS, 15, 12⟩
abbrev RING_STATUS.STATE : Fld := ⟨RING_STATUS, 1, 0⟩
/-- RING_TRIG_T. -/
abbrev RING_TRIG_T (k : Nat) : Nat := 0x2801C + 0x4 * (k % 2)
/-- RING_ARB_HEAD. -/
abbrev RING_ARB_HEAD : Nat := 0x28024
abbrev RING_ARB_HEAD.WRAPS : Fld := ⟨RING_ARB_HEAD, 31, 16⟩
abbrev RING_ARB_HEAD.NEXT : Fld := ⟨RING_ARB_HEAD, 15, 0⟩
/-- RING_RAIL_HEAD. -/
abbrev RING_RAIL_HEAD (k : Nat) : Nat := 0x28028 + 0x4 * (k % 4)
abbrev RING_RAIL_HEAD.WRAPS (k : Nat) : Fld := ⟨RING_RAIL_HEAD k, 31, 16⟩
abbrev RING_RAIL_HEAD.NEXT (k : Nat) : Fld := ⟨RING_RAIL_HEAD k, 15, 0⟩
/-- RING_SAMP_HEAD. -/
abbrev RING_SAMP_HEAD : Nat := 0x28038
abbrev RING_SAMP_HEAD.WRAPS : Fld := ⟨RING_SAMP_HEAD, 31, 16⟩
abbrev RING_SAMP_HEAD.NEXT : Fld := ⟨RING_SAMP_HEAD, 15, 0⟩
/-- FAB_CTRL. -/
abbrev FAB_CTRL : Nat := 0x2C000
abbrev FAB_CTRL.EN : Fld := ⟨FAB_CTRL, 31, 31⟩
abbrev FAB_CTRL.DSCP : Fld := ⟨FAB_CTRL, 21, 16⟩
abbrev FAB_CTRL.UDP_PORT : Fld := ⟨FAB_CTRL, 15, 0⟩
/-- FAB_NODE. -/
abbrev FAB_NODE : Nat := 0x2C004
abbrev FAB_NODE.MGR_NODE : Fld := ⟨FAB_NODE, 31, 16⟩
abbrev FAB_NODE.NODE_ID : Fld := ⟨FAB_NODE, 15, 0⟩
/-- FAB_DISC. -/
abbrev FAB_DISC : Nat := 0x2C008
abbrev FAB_DISC.PORTS : Fld := ⟨FAB_DISC, 31, 16⟩
abbrev FAB_DISC.DEAD : Fld := ⟨FAB_DISC, 15, 12⟩
abbrev FAB_DISC.PERIOD : Fld := ⟨FAB_DISC, 11, 0⟩
/-- FAB_DISC_ADDR. -/
abbrev FAB_DISC_ADDR (k : Nat) : Nat := 0x2C010 + 0x4 * (k % 4)
/-- FAB_RTX. -/
abbrev FAB_RTX : Nat := 0x2C020
abbrev FAB_RTX.MARGIN : Fld := ⟨FAB_RTX, 31, 24⟩
abbrev FAB_RTX.RETRIES : Fld := ⟨FAB_RTX, 18, 16⟩
abbrev FAB_RTX.INTERVAL : Fld := ⟨FAB_RTX, 6, 0⟩
/-- FAB_PACE. -/
abbrev FAB_PACE : Nat := 0x2C024
abbrev FAB_PACE.VALID : Fld := ⟨FAB_PACE, 31, 16⟩
abbrev FAB_PACE.REFRESH : Fld := ⟨FAB_PACE, 15, 8⟩
abbrev FAB_PACE.DEADBAND : Fld := ⟨FAB_PACE, 7, 0⟩
/-- FAB_REL. -/
abbrev FAB_REL : Nat := 0x2C028
abbrev FAB_REL.HOP_WAIT : Fld := ⟨FAB_REL, 31, 24⟩
abbrev FAB_REL.LEVELS : Fld := ⟨FAB_REL, 23, 20⟩
abbrev FAB_REL.LEAD : Fld := ⟨FAB_REL, 15, 8⟩
abbrev FAB_REL.BUFS : Fld := ⟨FAB_REL, 6, 0⟩
/-- FAB_REL_HOLD. -/
abbrev FAB_REL_HOLD : Nat := 0x2C02C
abbrev FAB_REL_HOLD.RETRY_GAP : Fld := ⟨FAB_REL_HOLD, 31, 16⟩
abbrev FAB_REL_HOLD.HOLD : Fld := ⟨FAB_REL_HOLD, 15, 0⟩
/-- FAB_STATUS. -/
abbrev FAB_STATUS : Nat := 0x2C040
abbrev FAB_STATUS.PEERS : Fld := ⟨FAB_STATUS, 28, 16⟩
abbrev FAB_STATUS.GROUPS : Fld := ⟨FAB_STATUS, 15, 7⟩
abbrev FAB_STATUS.REL_BUSY : Fld := ⟨FAB_STATUS, 3, 3⟩
abbrev FAB_STATUS.EMERG : Fld := ⟨FAB_STATUS, 2, 2⟩
abbrev FAB_STATUS.ASSIGNED : Fld := ⟨FAB_STATUS, 1, 1⟩
abbrev FAB_STATUS.RUNNING : Fld := ⟨FAB_STATUS, 0, 0⟩
/-- FAB_EMERG. -/
abbrev FAB_EMERG : Nat := 0x2C044
abbrev FAB_EMERG.HOLDER : Fld := ⟨FAB_EMERG, 31, 16⟩
abbrev FAB_EMERG.SET : Fld := ⟨FAB_EMERG, 15, 15⟩
abbrev FAB_EMERG.RATE : Fld := ⟨FAB_EMERG, 7, 0⟩
/-- FAB_EMERG_LEFT. -/
abbrev FAB_EMERG_LEFT : Nat := 0x2C048
/-- FAB_REL_STATUS. -/
abbrev FAB_REL_STATUS : Nat := 0x2C04C
abbrev FAB_REL_STATUS.ABORTS : Fld := ⟨FAB_REL_STATUS, 31, 16⟩
abbrev FAB_REL_STATUS.RESULT : Fld := ⟨FAB_REL_STATUS, 15, 12⟩
abbrev FAB_REL_STATUS.BUFS_FREE : Fld := ⟨FAB_REL_STATUS, 6, 0⟩
/-- FAB_TX. -/
abbrev FAB_TX : Nat := 0x2C050
/-- FAB_RX. -/
abbrev FAB_RX : Nat := 0x2C054
/-- FAB_RETX. -/
abbrev FAB_RETX : Nat := 0x2C058
/-- FAB_DROP. -/
abbrev FAB_DROP : Nat := 0x2C05C
abbrev FAB_DROP.DUP : Fld := ⟨FAB_DROP, 31, 16⟩
abbrev FAB_DROP.STALE : Fld := ⟨FAB_DROP, 15, 8⟩
abbrev FAB_DROP.REJECT : Fld := ⟨FAB_DROP, 7, 0⟩
/-- FAB_FAIL. -/
abbrev FAB_FAIL : Nat := 0x2C060
abbrev FAB_FAIL.ABANDONED : Fld := ⟨FAB_FAIL, 31, 16⟩
abbrev FAB_FAIL.ORPHANS : Fld := ⟨FAB_FAIL, 15, 0⟩
/-- FAB_CHECK. -/
abbrev FAB_CHECK : Nat := 0x2C064
abbrev FAB_CHECK.FAILED : Fld := ⟨FAB_CHECK, 5, 0⟩
/-- FAB_LEVEL0. -/
abbrev FAB_LEVEL0 (k : Nat) : Nat := 0x2C400 + 0x8 * (k % 256)
abbrev FAB_LEVEL0.HOLDER (k : Nat) : Fld := ⟨FAB_LEVEL0 k, 31, 16⟩
abbrev FAB_LEVEL0.SET (k : Nat) : Fld := ⟨FAB_LEVEL0 k, 15, 15⟩
abbrev FAB_LEVEL0.RATE (k : Nat) : Fld := ⟨FAB_LEVEL0 k, 7, 0⟩
/-- FAB_LEVEL1. -/
abbrev FAB_LEVEL1 (k : Nat) : Nat := 0x2C404 + 0x8 * (k % 256)
/-- TIME_CTRL. -/
abbrev TIME_CTRL : Nat := 0x2E000
abbrev TIME_CTRL.RESYNC : Fld := ⟨TIME_CTRL, 31, 31⟩
abbrev TIME_CTRL.STEP_LIMIT : Fld := ⟨TIME_CTRL, 23, 16⟩
abbrev TIME_CTRL.KI_SHIFT : Fld := ⟨TIME_CTRL, 11, 8⟩
abbrev TIME_CTRL.KP_SHIFT : Fld := ⟨TIME_CTRL, 3, 0⟩
/-- TIME_NOW. -/
abbrev TIME_NOW (k : Nat) : Nat := 0x2E004 + 0x4 * (k % 2)
/-- TIME_STATUS. -/
abbrev TIME_STATUS : Nat := 0x2E00C
abbrev TIME_STATUS.MISSED : Fld := ⟨TIME_STATUS, 31, 16⟩
abbrev TIME_STATUS.RESYNC_WAIT : Fld := ⟨TIME_STATUS, 5, 5⟩
abbrev TIME_STATUS.BACKSTEP : Fld := ⟨TIME_STATUS, 4, 4⟩
abbrev TIME_STATUS.STEPPED : Fld := ⟨TIME_STATUS, 3, 3⟩
abbrev TIME_STATUS.HOLDOVER : Fld := ⟨TIME_STATUS, 2, 2⟩
abbrev TIME_STATUS.LOCKED : Fld := ⟨TIME_STATUS, 1, 1⟩
abbrev TIME_STATUS.PTP_VALID : Fld := ⟨TIME_STATUS, 0, 0⟩
/-- TIME_ERR. -/
abbrev TIME_ERR : Nat := 0x2E010
abbrev TIME_ERR.RATE : Fld := ⟨TIME_ERR, 31, 16⟩
abbrev TIME_ERR.PHASE : Fld := ⟨TIME_ERR, 15, 0⟩
/-- HDG_CTRL. -/
abbrev HDG_CTRL : Nat := 0x30000
abbrev HDG_CTRL.HB_PERIOD : Fld := ⟨HDG_CTRL, 31, 24⟩
abbrev HDG_CTRL.RETRY : Fld := ⟨HDG_CTRL, 23, 16⟩
abbrev HDG_CTRL.COMMIT_LEAD : Fld := ⟨HDG_CTRL, 10, 0⟩
/-- HDG_STATUS. -/
abbrev HDG_STATUS : Nat := 0x30004
abbrev HDG_STATUS.QUEUED : Fld := ⟨HDG_STATUS, 11, 8⟩
abbrev HDG_STATUS.PREPARED : Fld := ⟨HDG_STATUS, 2, 2⟩
abbrev HDG_STATUS.COMMITTING : Fld := ⟨HDG_STATUS, 1, 1⟩
abbrev HDG_STATUS.AUTONOMOUS : Fld := ⟨HDG_STATUS, 0, 0⟩
/-- HDG_DIE_STATE. -/
abbrev HDG_DIE_STATE : Nat := 0x30008
abbrev HDG_DIE_STATE.STATE (b : Nat) : Fld := ⟨HDG_DIE_STATE, 2 * b + 1, 2 * b + 0⟩
/-- HDG_COMMIT_ID. -/
abbrev HDG_COMMIT_ID : Nat := 0x3000C
abbrev HDG_COMMIT_ID.ID : Fld := ⟨HDG_COMMIT_ID, 31, 16⟩
abbrev HDG_COMMIT_ID.RESULT : Fld := ⟨HDG_COMMIT_ID, 15, 12⟩
abbrev HDG_COMMIT_ID.KIND : Fld := ⟨HDG_COMMIT_ID, 11, 8⟩
abbrev HDG_COMMIT_ID.FAILED_DIES : Fld := ⟨HDG_COMMIT_ID, 7, 0⟩
/-- HDG_COMMIT_T. -/
abbrev HDG_COMMIT_T (k : Nat) : Nat := 0x30010 + 0x4 * (k % 2)
/-- HDG_COMMIT_CNT. -/
abbrev HDG_COMMIT_CNT : Nat := 0x30018
abbrev HDG_COMMIT_CNT.ABORTED : Fld := ⟨HDG_COMMIT_CNT, 31, 16⟩
abbrev HDG_COMMIT_CNT.APPLIED : Fld := ⟨HDG_COMMIT_CNT, 15, 0⟩
/-- HDG_CHECK. -/
abbrev HDG_CHECK : Nat := 0x3001C
abbrev HDG_CHECK.FAILED : Fld := ⟨HDG_CHECK, 2, 0⟩
/-- HDG_DISCARD. -/
abbrev HDG_DISCARD : Nat := 0x30020
abbrev HDG_DISCARD.STALE : Fld := ⟨HDG_DISCARD, 31, 16⟩
abbrev HDG_DISCARD.BAD_TYPE : Fld := ⟨HDG_DISCARD, 15, 0⟩
/-- HDG_LINK. -/
abbrev HDG_LINK (k : Nat) : Nat := 0x30040 + 0x4 * (k % 8)
abbrev HDG_LINK.RETRIES (k : Nat) : Fld := ⟨HDG_LINK k, 31, 16⟩
abbrev HDG_LINK.FAILS (k : Nat) : Fld := ⟨HDG_LINK k, 15, 8⟩
abbrev HDG_LINK.CRC_ERR (k : Nat) : Fld := ⟨HDG_LINK k, 7, 0⟩
/-- STILE_CTRL. -/
abbrev STILE_CTRL : Nat := 0x31000
abbrev STILE_CTRL.SLEEP_LEND : Fld := ⟨STILE_CTRL, 12, 12⟩
abbrev STILE_CTRL.LEND_MAX : Fld := ⟨STILE_CTRL, 11, 8⟩
abbrev STILE_CTRL.CHUNK : Fld := ⟨STILE_CTRL, 7, 0⟩
/-- STILE_LEDGER. -/
abbrev STILE_LEDGER : Nat := 0x31004
abbrev STILE_LEDGER.L : Fld := ⟨STILE_LEDGER, 15, 0⟩
/-- STILE_STATUS. -/
abbrev STILE_STATUS : Nat := 0x31008
abbrev STILE_STATUS.Q_S : Fld := ⟨STILE_STATUS, 31, 24⟩
abbrev STILE_STATUS.Q_N : Fld := ⟨STILE_STATUS, 23, 16⟩
abbrev STILE_STATUS.WAKE_S : Fld := ⟨STILE_STATUS, 3, 3⟩
abbrev STILE_STATUS.WAKE_N : Fld := ⟨STILE_STATUS, 2, 2⟩
abbrev STILE_STATUS.ASLEEP_S : Fld := ⟨STILE_STATUS, 1, 1⟩
abbrev STILE_STATUS.ASLEEP_N : Fld := ⟨STILE_STATUS, 0, 0⟩
/-- STILE_CNT. -/
abbrev STILE_CNT : Nat := 0x3100C
abbrev STILE_CNT.BORROWS : Fld := ⟨STILE_CNT, 31, 16⟩
abbrev STILE_CNT.FULL : Fld := ⟨STILE_CNT, 15, 8⟩
abbrev STILE_CNT.RST_DISCARD : Fld := ⟨STILE_CNT, 7, 0⟩
/-- AGT_CFG. -/
abbrev AGT_CFG (c : Nat) : Nat := 0x40000 + 0x400 * (c % 320)
abbrev AGT_CFG.POCKET_EN (c : Nat) : Fld := ⟨AGT_CFG c, 16, 16⟩
abbrev AGT_CFG.CTX (c : Nat) : Fld := ⟨AGT_CFG c, 9, 0⟩
/-- AGT_STATUS. -/
abbrev AGT_STATUS (c : Nat) : Nat := 0x40004 + 0x400 * (c % 320)
abbrev AGT_STATUS.RESERVED (c : Nat) : Fld := ⟨AGT_STATUS c, 31, 24⟩
abbrev AGT_STATUS.HELD (c : Nat) : Fld := ⟨AGT_STATUS c, 23, 16⟩
abbrev AGT_STATUS.POCKET (c : Nat) : Fld := ⟨AGT_STATUS c, 15, 8⟩
abbrev AGT_STATUS.ANNOUNCED (c : Nat) : Fld := ⟨AGT_STATUS c, 4, 4⟩
abbrev AGT_STATUS.ACTIVE (c : Nat) : Fld := ⟨AGT_STATUS c, 3, 3⟩
abbrev AGT_STATUS.FROZEN (c : Nat) : Fld := ⟨AGT_STATUS c, 2, 2⟩
abbrev AGT_STATUS.RUN (c : Nat) : Fld := ⟨AGT_STATUS c, 1, 1⟩
abbrev AGT_STATUS.PRESENT (c : Nat) : Fld := ⟨AGT_STATUS c, 0, 0⟩
/-- AGT_ENG. -/
abbrev AGT_ENG (c : Nat) : Nat := 0x40008 + 0x400 * (c % 320)
abbrev AGT_ENG.REVOKED (c : Nat) (b : Nat) : Fld := ⟨AGT_ENG c, 8 * b + 7, 8 * b + 7⟩
abbrev AGT_ENG.WAITING (c : Nat) (b : Nat) : Fld := ⟨AGT_ENG c, 8 * b + 6, 8 * b + 6⟩
abbrev AGT_ENG.GRANT (c : Nat) (b : Nat) : Fld := ⟨AGT_ENG c, 8 * b + 5, 8 * b + 3⟩
abbrev AGT_ENG.REQ (c : Nat) (b : Nat) : Fld := ⟨AGT_ENG c, 8 * b + 2, 8 * b + 0⟩
/-- AGT_LAST. -/
abbrev AGT_LAST (c : Nat) : Nat := 0x4000C + 0x400 * (c % 320)
abbrev AGT_LAST.LAST (c : Nat) (b : Nat) : Fld := ⟨AGT_LAST c, 3 * b + 2, 3 * b + 0⟩
/-- AGT_DRP_CFG. -/
abbrev AGT_DRP_CFG (c : Nat) : Nat := 0x40100 + 0x400 * (c % 320)
abbrev AGT_DRP_CFG.DET_EN (c : Nat) : Fld := ⟨AGT_DRP_CFG c, 16, 16⟩
abbrev AGT_DRP_CFG.TRIM_FIX (c : Nat) : Fld := ⟨AGT_DRP_CFG c, 8, 8⟩
abbrev AGT_DRP_CFG.TRIM (c : Nat) : Fld := ⟨AGT_DRP_CFG c, 7, 0⟩
/-- AGT_DRP_STATUS. -/
abbrev AGT_DRP_STATUS (c : Nat) : Nat := 0x40104 + 0x400 * (c % 320)
abbrev AGT_DRP_STATUS.TRIM (c : Nat) : Fld := ⟨AGT_DRP_STATUS c, 31, 24⟩
abbrev AGT_DRP_STATUS.CAL_VALID (c : Nat) : Fld := ⟨AGT_DRP_STATUS c, 23, 23⟩
abbrev AGT_DRP_STATUS.CAL_STALE (c : Nat) : Fld := ⟨AGT_DRP_STATUS c, 22, 22⟩
abbrev AGT_DRP_STATUS.STUCK (c : Nat) : Fld := ⟨AGT_DRP_STATUS c, 21, 21⟩
abbrev AGT_DRP_STATUS.LEVEL (c : Nat) : Fld := ⟨AGT_DRP_STATUS c, 17, 16⟩
abbrev AGT_DRP_STATUS.DET_LEVEL (c : Nat) : Fld := ⟨AGT_DRP_STATUS c, 15, 14⟩
abbrev AGT_DRP_STATUS.FORCED (c : Nat) : Fld := ⟨AGT_DRP_STATUS c, 13, 12⟩
abbrev AGT_DRP_STATUS.MEAN (c : Nat) : Fld := ⟨AGT_DRP_STATUS c, 11, 6⟩
abbrev AGT_DRP_STATUS.MIN_MARGIN (c : Nat) : Fld := ⟨AGT_DRP_STATUS c, 5, 0⟩
/-- AGT_DRP_TVALID. -/
abbrev AGT_DRP_TVALID (c : Nat) : Nat := 0x40108 + 0x400 * (c % 320)
/-- AGT_DRP_TRIM. -/
abbrev AGT_DRP_TRIM (c : Nat) (k : Nat) : Nat := 0x40140 + 0x400 * (c % 320) + 0x4 * (k % 8)
abbrev AGT_DRP_TRIM.TRIM (c : Nat) (k : Nat) (b : Nat) : Fld := ⟨AGT_DRP_TRIM c k, 8 * b + 7, 8 * b + 0⟩
/-- AGT_ACT. -/
abbrev AGT_ACT (c : Nat) (k : Nat) : Nat := 0x40200 + 0x400 * (c % 320) + 0x4 * (k % 6)
abbrev AGT_ACT.COUNT_HI (c : Nat) (k : Nat) : Fld := ⟨AGT_ACT c k, 31, 16⟩
abbrev AGT_ACT.COUNT_LO (c : Nat) (k : Nat) : Fld := ⟨AGT_ACT c k, 15, 0⟩
/-- AGT_PWR. -/
abbrev AGT_PWR (c : Nat) : Nat := 0x40218 + 0x400 * (c % 320)
/-- AGT_ACT_STATUS. -/
abbrev AGT_ACT_STATUS (c : Nat) : Nat := 0x4021C + 0x400 * (c % 320)
abbrev AGT_ACT_STATUS.SAT (c : Nat) : Fld := ⟨AGT_ACT_STATUS c, 1, 1⟩
abbrev AGT_ACT_STATUS.PARTIAL (c : Nat) : Fld := ⟨AGT_ACT_STATUS c, 0, 0⟩
/-- AGT_SLOT_RET. -/
abbrev AGT_SLOT_RET (c : Nat) (k : Nat) : Nat := 0x40300 + 0x400 * (c % 320) + 0x4 * (k % 2)
/-- AGT_SLOT_WASTED. -/
abbrev AGT_SLOT_WASTED (c : Nat) (k : Nat) : Nat := 0x40308 + 0x400 * (c % 320) + 0x4 * (k % 2)
/-- AGT_SLOT_FRONT. -/
abbrev AGT_SLOT_FRONT (c : Nat) (k : Nat) : Nat := 0x40310 + 0x400 * (c % 320) + 0x4 * (k % 2)
/-- AGT_SLOT_BACK. -/
abbrev AGT_SLOT_BACK (c : Nat) (k : Nat) : Nat := 0x40318 + 0x400 * (c % 320) + 0x4 * (k % 2)
/-- AGT_UTIL. -/
abbrev AGT_UTIL (c : Nat) (k : Nat) : Nat := 0x40320 + 0x400 * (c % 320) + 0x4 * (k % 2)
/-- AGT_NOMINAL. -/
abbrev AGT_NOMINAL (c : Nat) (k : Nat) : Nat := 0x40328 + 0x400 * (c % 320) + 0x4 * (k % 2)
/-- AGT_STRETCH. -/
abbrev AGT_STRETCH (c : Nat) : Nat := 0x40330 + 0x400 * (c % 320)
/-- AGT_DRP_ENTRIES. -/
abbrev AGT_DRP_ENTRIES (c : Nat) : Nat := 0x40334 + 0x400 * (c % 320)
abbrev AGT_DRP_ENTRIES.SEVERE (c : Nat) : Fld := ⟨AGT_DRP_ENTRIES c, 29, 20⟩
abbrev AGT_DRP_ENTRIES.DEEP (c : Nat) : Fld := ⟨AGT_DRP_ENTRIES c, 19, 10⟩
abbrev AGT_DRP_ENTRIES.MILD (c : Nat) : Fld := ⟨AGT_DRP_ENTRIES c, 9, 0⟩
/-- AGT_WAITS. -/
abbrev AGT_WAITS (c : Nat) : Nat := 0x40338 + 0x400 * (c % 320)
/-- AGT_WAIT_NS. -/
abbrev AGT_WAIT_NS (c : Nat) : Nat := 0x4033C + 0x400 * (c % 320)
/-- AGT_WAIT_MAX. -/
abbrev AGT_WAIT_MAX (c : Nat) : Nat := 0x40340 + 0x400 * (c % 320)
/-- AGT_ERR. -/
abbrev AGT_ERR (c : Nat) : Nat := 0x40344 + 0x400 * (c % 320)
abbrev AGT_ERR.REVOKES (c : Nat) : Fld := ⟨AGT_ERR c, 31, 24⟩
abbrev AGT_ERR.STUCK (c : Nat) : Fld := ⟨AGT_ERR c, 23, 16⟩
abbrev AGT_ERR.ACT_SAT (c : Nat) : Fld := ⟨AGT_ERR c, 15, 8⟩
abbrev AGT_ERR.BAD_CLASS (c : Nat) : Fld := ⟨AGT_ERR c, 7, 0⟩
/-- AGT_THR. -/
abbrev AGT_THR (c : Nat) (k : Nat) : Nat := 0x40380 + 0x400 * (c % 320) + 0x4 * (k % 16)
/-- AGT_RING_HEAD. -/
abbrev AGT_RING_HEAD (c : Nat) : Nat := 0x403C0 + 0x400 * (c % 320)
abbrev AGT_RING_HEAD.WRAPS (c : Nat) : Fld := ⟨AGT_RING_HEAD c, 31, 16⟩
abbrev AGT_RING_HEAD.NEXT (c : Nat) : Fld := ⟨AGT_RING_HEAD c, 6, 0⟩
/-- SITE_TEMP. -/
abbrev SITE_TEMP (k : Nat) : Nat := 0x90000 + 0x40 * (k % 96)
abbrev SITE_TEMP.SRC (k : Nat) : Fld := ⟨SITE_TEMP k, 31, 30⟩
abbrev SITE_TEMP.T (k : Nat) : Fld := ⟨SITE_TEMP k, 15, 0⟩
/-- SITE_RAW. -/
abbrev SITE_RAW (k : Nat) : Nat := 0x90004 + 0x40 * (k % 96)
abbrev SITE_RAW.RAW (k : Nat) : Fld := ⟨SITE_RAW k, 13, 0⟩
/-- SITE_CFG. -/
abbrev SITE_CFG (k : Nat) : Nat := 0x90008 + 0x40 * (k % 96)
abbrev SITE_CFG.ATRIP_MASK (k : Nat) : Fld := ⟨SITE_CFG k, 31, 31⟩
abbrev SITE_CFG.NODE (k : Nat) : Fld := ⟨SITE_CFG k, 3, 0⟩
/-- SITE_NBR. -/
abbrev SITE_NBR (k : Nat) : Nat := 0x9000C + 0x40 * (k % 96)
abbrev SITE_NBR.EN (k : Nat) (b : Nat) : Fld := ⟨SITE_NBR k, 8 * b + 7, 8 * b + 7⟩
abbrev SITE_NBR.IDX (k : Nat) (b : Nat) : Fld := ⟨SITE_NBR k, 8 * b + 6, 8 * b + 0⟩
/-- SITE_STATUS. -/
abbrev SITE_STATUS (k : Nat) : Nat := 0x90010 + 0x40 * (k % 96)
abbrev SITE_STATUS.DEV_RUN (k : Nat) : Fld := ⟨SITE_STATUS k, 25, 24⟩
abbrev SITE_STATUS.MISS_RUN (k : Nat) : Fld := ⟨SITE_STATUS k, 17, 16⟩
abbrev SITE_STATUS.TRIP (k : Nat) : Fld := ⟨SITE_STATUS k, 2, 2⟩
abbrev SITE_STATUS.SUSPECT (k : Nat) : Fld := ⟨SITE_STATUS k, 1, 1⟩
abbrev SITE_STATUS.MEASURED (k : Nat) : Fld := ⟨SITE_STATUS k, 0, 0⟩
/-- SITE_TRIM. -/
abbrev SITE_TRIM (k : Nat) : Nat := 0x90014 + 0x40 * (k % 96)
abbrev SITE_TRIM.GAIN (k : Nat) : Fld := ⟨SITE_TRIM k, 31, 16⟩
abbrev SITE_TRIM.OFFSET (k : Nat) : Fld := ⟨SITE_TRIM k, 15, 0⟩

end Sys2Proof.Machine
end

