-- ==== Sys2Proof/Machine/TypesCommand.lean ====
section
/-! DEFINITION. State of the memory port, the command engine, sessions and events (chapters 2 and 13). -/

namespace Sys2Proof.Machine

/-! ### Memory port (R58–R62) -/

/-- What a memory transaction is for: the header, parameters, result or reply of a command (by source: mailboxes 0–31, the
MCTP endpoint 32), an event record, a stream record (by its period) or the stream's head line, a firmware image, a result of
a forwarded command (by its tag). -/
inductive Job where
  | header (m : Nat) | param (m : Nat) | result (m : Nat) | reply (m : Nat)
  | event | record (period : Nat) | head | image
  | fwd (tag : Nat)
deriving DecidableEq, Repr

/-- A transaction: direction, byte address of its line, originating tenant context (none: privileged), data. -/
structure MemTxn where
  wr : Bool := false
  addr : Nat := 0
  ctx : Option Nat := none
  data : List Nat := []
  job : Job := .image
  /-- block time of its issue -/
  at_ : Nat := 0
deriving DecidableEq, Repr

/-- The memory port: transactions that wait for a tag, those outstanding by tag, tags whose response is still to come
although nothing waits for it: with the address of a transaction that timed out, without it where a reset has come
between (R59, R61, R62, R92). -/
structure MemPort where
  queue : List MemTxn := []
  out : SMap MemTxn := []
  dead : SMap (Option Nat) := []
  /-- those of them that were issued before the latest block reset -/
  resetDead : List Nat := []
deriving DecidableEq, Repr

/-! ### Notices and events (R373, R377, R404) -/

/-- An outbound notice on its way to a slot. -/
structure Notice where
  kind : Nat
  addr : Nat
  seq : Nat
  len : Nat
  hostEpoch : Nat
  /-- UNATTENDED follows once it is posted (R403) -/
  detach : Bool := false
deriving DecidableEq, Repr

/-- An event whose record is being written (R404). -/
structure EventRec where
  num : Nat
  addr : Nat
  /-- LOST as its record says -/
  lost : Nat := 0
deriving DecidableEq, Repr

/-- The session (R399–R404): ring, event count, events dropped since the last record; the heartbeat timer. -/
structure Session where
  evtBase : Nat := 0
  evtCount : Nat := 0
  evtNext : Nat := 0
  evtLost : Nat := 0
  /-- events whose records are being written, and events queued for a slot -/
  writing : List EventRec := []
  events : List Notice := []
  /-- reply notices queued per outbound mailbox -/
  replies : SMap (List Notice) := []
  /-- replies, and notices and events, held in UNATTENDED per outbound mailbox (R402) -/
  heldReplies : SMap Nat := []
  heldEvents : Nat := 0
  hbOn : Bool := false
  hbAt : Nat := 0
  /-- PLDM events waiting, oldest first (R407): sensor kind, die, value -/
  pldm : List (Nat × Nat × Int) := []
  /-- MCTP endpoint ID set by the bus owner, PLDM terminus ID, and a PLDM event receiver (R406, R407) -/
  eid : Nat := 0
  tid : Nat := 0
  receiver : Nat := 0
  /-- values of CMD_MB_CTX that wait for an idle mailbox and an empty slot -/
  ctxNext : SMap Nat := []
deriving DecidableEq, Repr

/-! ### Commands in execution (R376–R390) -/

/-- A packet header (R382). -/
structure PacketHdr where
  opcode : Nat := 0
  flags : Nat := 0
  seq : Nat := 0
  hostEpoch : Nat := 0
  plen : Nat := 0
  rlen : Nat := 32
  rsvd : Nat := 0
  reply : Nat := 0
  next : Nat := 0
deriving DecidableEq, Repr

/-- A command from pickup to its notice. -/
structure Active where
  hdr : PacketHdr := {}
  /-- epoch of its slot, address of the packet, Skylark time of pickup, position in its chain -/
  epoch : Nat := 0
  addr : Nat := 0
  pickup : Nat := 0
  chainPos : Nat := 0
  /-- its slot: LEN, SEQ and the address posted -/
  slotLen : Nat := 0
  slotSeq : Nat := 0
  posted : Nat := 0
  /-- posted with KIND ATTACH -/
  attach : Bool := false
  /-- 0 parameters are read, 1 ready to execute, 2 waits for a commit, a follower or the firmware, 3 results are
  written, 4 the reply is written, 5 the next packet of the chain is to be read, 6 a request to the endpoint waits for its
  turn -/
  stage : Nat := 0
  /-- parameter lines as they come, by their place in the packet, and the parameters once complete -/
  buf : SMap (List Nat) := []
  params : List Nat := []
  /-- it reads the snapshot bank (R447) -/
  bank : Bool := false
  /-- dies a forwarded command still waits for, as a mask, and what they have answered so far (R336, R455, R467) -/
  dies : Nat := 0
  acc : List Nat := []
  /-- transactions outstanding, one of them failed -/
  left : Nat := 0
  failed : Bool := false
  /-- outcome -/
  status : Nat := 0
  detail : Nat := 0
  t : Nat := 0
  result : List Nat := []
  /-- the host's epoch has ended: no reply is written (R400) -/
  mute : Bool := false
  /-- UNATTENDED follows the reply (R403) -/
  detach : Bool := false
deriving DecidableEq, Repr

end Sys2Proof.Machine
end

