-- ==== Sys2Proof/Machine/TypesLink.lean ====
section
/-! DEFINITION. State of the Hedgerow, the timed commit, the Stile's queues, the Edvik agent and the Skylark counter
(chapters 11 and 12). -/

namespace Sys2Proof.Machine

/-! ### Hedgerow (R320–R337) -/

/-- A flit that waits to be sent: tag, the message it belongs to, and does another flit of it follow (R320)? -/
structure OutFlit where
  tag : Nat
  payload : Payload
  more : Bool
deriving DecidableEq, Repr

/-- A flit sent and not acknowledged: sequence, tag, message, MORE, attempts so far. -/
structure TxFlit where
  seq : Nat
  tag : Nat
  payload : Payload
  more : Bool
  tries : Nat
  /-- block time of its latest transfer -/
  at_ : Nat
deriving DecidableEq, Repr

/-- The link to one instance (R322, R323, R325, R332). -/
structure Link where
  txSeq : Nat := 0
  /-- the sequence expected next from it; has any been received in order; newest epoch seen from it -/
  rxSeq : Nat := 0
  taken : Bool := false
  epoch : Option Nat := none
  unacked : List TxFlit := []
  /-- flits that wait for the instance to wake or for a credit -/
  queue : List OutFlit := []
  failed : Bool := false
  /-- hdg_awake_in; the wake request to it and when it rose (R82) -/
  awake : Bool := true
  wakeAt : Option Nat := none
  /-- periods without a heartbeat from it; heard in this period -/
  missed : Nat := 0
  /-- die power state, stopped, autonomous as its last heartbeat told -/
  pstate : Nat := 0
  stopped : Bool := false
  autonomous : Bool := false
  /-- the strap flit it sent at start-up: DIE_ID and LEADER_SEL (R29) -/
  strap : Option (Nat × Bool) := none
  /-- it reported READY; it has sources with INT and with ERR_PIN pending; a catch-up waits (R111, R337, R335) -/
  ready : Bool := false
deriving DecidableEq, Repr

/-- A group record (R348). -/
structure Group where
  id : Nat
  dieMask : Nat := 0
  depth : Nat := 0
  parent : Nat := 0xFFFF
  children : List Nat := []
deriving DecidableEq, Repr

/-- A fabric change staged by a command or carried by a commit (R345, R348, R357). -/
inductive FabAct where
  /-- node ID, NIC port, address of an explicit peer -/
  | peers (ps : List (Nat × Nat × Nat))
  | join (g : Group)
  | leave (slot : Nat)
deriving DecidableEq, Repr

/-- What a commit does at its effective time, beside the staged registers (R327). -/
inductive CommitAct where
  /-- CONFIG of everything staged; `catchUp` and `share` are the leader's own -/
  | config
  /-- it freezes the rings; a die is left out of it, as the leader tells its followers (R446, R454) -/
  | snapshot (freeze : Bool) (left : Bool := false)
  /-- profile records to load, or first ID and count to drop (R152) -/
  | load (recs : List (List Nat))
  | drop (first count : Nat)
  /-- a reservation: hint, profile, T, cluster mask, tenant context it is limited to (R152) -/
  | reserve (hint : Bool) (profile t mask : Nat) (ctx : Option Nat)
  | share
  | catchUp (die : Nat)
  /-- CONFIG commits of the block's own values: a release, REG_WRITES, USER caps, DRP_FORCE at a relock (R493) -/
  | release (id : Nat)
  /-- die mask, offset, value -/
  | regWrites (ws : List (Nat × Nat × Nat))
  | userCaps (c : UserCaps)
  | relock
deriving DecidableEq, Repr

/-- A commit that waits or runs at the leader (R327–R331): who asked (mailbox 0–31, MCTP 32, none for the block), the
host epoch of that command. -/
structure Commit where
  act : CommitAct
  who : Option Nat := none
  epoch : Nat := 0
  id : Nat := 0
  /-- 0 waits, 1 prepared and waiting for answers, 2 COMMIT sent -/
  phase : Nat := 0
  /-- participants asked and not yet answered; those that failed; failing regions; block time of PREPARE; T -/
  wait : Nat := 0
  bad : Nat := 0
  regions : Nat := 0
  /-- followers that take part, as a mask -/
  parts : Nat := 0
  /-- values it carries for each follower -/
  vals : SMap (List (Nat × Nat)) := []
  at_ : Nat := 0
  t : Nat := 0
deriving DecidableEq, Repr

/-- The prepared set of this die (R328, R330): register values, further acts, kind, commit ID, block time of PREPARE, T. -/
structure Prepared where
  id : Nat
  kind : Nat
  act : Option CommitAct := none
  regs : SMap Nat := []
  fab : List FabAct := []
  at_ : Nat := 0
  t : Option Nat := none
deriving DecidableEq, Repr

/-- A forwarded command at its follower: writes outstanding, one of them failed, what CMD_DONE will carry (R336). -/
structure Serve where
  left : Nat := 0
  failed : Bool := false
  status : Nat := 0
  result : List Nat := []
  /-- it reads the snapshot bank (R447) -/
  bank : Bool := false
deriving DecidableEq, Repr

/-- A message of the block's own to the agents of a half, as it waits in a Stile queue (R316): the rings arm, record again, or
clear; the sampling rate changes; a read
of an agent's ring by the command of source `m`, or for the forwarded command `tag`. -/
inductive StileMsg where
  | arm
  | resume
  | clear
  | tags (shift : Nat)
  | read (m cluster first count dest : Nat) (ctx : Option Nat)
  | readFor (tag cluster first count dest : Nat) (ctx : Option Nat)
deriving DecidableEq, Repr

/-- The Hedgerow port and the commit sequencer. -/
structure Hedgerow where
  links : SMap Link := []
  /-- commits at the leader: the running one first; commit IDs used -/
  running : Option Commit := none
  queue : List Commit := []
  nextId : Nat := 0
  prepared : Option Prepared := none
  /-- values staged for followers, and what is applied there (R394); fabric acts staged -/
  staged : SMap (SMap Nat) := []
  applied : SMap (SMap Nat) := []
  /-- values of commits that a die in OFF has missed (R335) -/
  missed : SMap (SMap Nat) := []
  fabStaged : List FabAct := []
  /-- STAGE values received since the last PREPARE, in order (R328) -/
  rx : List (Nat × Nat) := []
  /-- profile records and a reservation received in DATA flits for the next PREPARE -/
  rxAct : Option CommitAct := none
  /-- forwarded commands executed here whose results are being written (R336) -/
  serving : SMap Serve := []
  /-- forwarded commands: tag -> source (0–31, 32), die, block time; next tag (R336) -/
  fwd : SMap (Nat × Nat × Nat) := []
  nextTag : Nat := 0
  /-- dies with INT, and with ERR_PIN, sources pending, as reported -/
  hbAt : Nat := 0
  /-- hdg_wake_in is high (R82, log 61) -/
  wakeIn : Bool := false
  /-- commits of the block itself that wait for a place in the queue (R331) -/
  owed : List CommitAct := []
  /-- messages queued toward the north and the south half (R316) -/
  stileN : Nat := 0
  stileS : Nat := 0
  /-- those of them that act on the block's own state, in order, with their half (R316) -/
  stileQ : List (Nat × StileMsg) := []
  /-- dies leaving OFF that wait for their catch-up, and since when (R335) -/
  catching : SMap Nat := []
deriving DecidableEq, Repr

/-! ### Edvik (R340–R362) -/

/-- A level word (R349); RATE, SET and HOLDER are shown in FAB_LEVEL. `left` for a follower is in the expiry. -/
structure LevelWord where
  set : Bool := false
  rate : Nat := 0
  /-- Skylark ns -/
  expiry : Nat := 0
  holder : Nat := 0xFFFF
  /-- the last value sent to the followers, at a follower the last one heard, was saturated (R352) -/
  resend : Bool := false
deriving DecidableEq, Repr

/-- A reliable frame sent to a peer and not acknowledged (R343). -/
structure TxFrame where
  seq : Nat
  body : FrameBody
  tries : Nat
  at_ : Nat
deriving DecidableEq, Repr

/-- A peer (R343, R346): port, address, when last heard, reachable, sequences. -/
structure Peer where
  port : Nat := 0
  addr : Nat := 0
  explicit : Bool := false
  heardAt : Nat := 0
  reachable : Bool := true
  txSeq : Nat := 0
  /-- highest SEQ seen and those of the 64 below it that were -/
  rxHigh : Nat := 0
  rxSeen : List Nat := []
  epoch : Option Nat := none
  unacked : List TxFrame := []
  /-- frames held while it is unreachable -/
  queue : List FrameBody := []
deriving DecidableEq, Repr

/-- A release buffer (R357–R360). `orig`: originated here. -/
structure RelBuf where
  id : Nat
  kind : Nat := 0
  /-- group slot, 256 for the emergency word of the node -/
  slot : Nat := 256
  group : Nat := 0xFFFF
  newSet : Nat := 0
  newRate : Nat := 0
  valid : Nat := 0
  levels : Nat := 8
  orig : Bool := false
  /-- neighbour it came from; neighbours asked and not yet answered; READY count of the answers -/
  src : Nat := 0xFFFF
  wait : List Nat := []
  edges : List Nat := []
  ready : Nat := 0
  nobuf : Bool := false
  timeout : Bool := false
  voted : Bool := false
  at_ : Nat := 0
  /-- committed: T; queued as a commit -/
  t : Option Nat := none
  queued : Bool := false
  /-- the word fell since the vote -/
  fell : Bool := false
deriving DecidableEq, Repr

/-- The Edvik agent (R340–R362). -/
structure Fabric where
  peers : SMap Peer := []
  groups : SMap Group := []
  /-- words by slot; 256 is the node emergency word -/
  words : SMap LevelWord := []
  /-- r_d per die, and the rate last sent per slot (none outstanding: not listed) -/
  dieRate : SMap Nat := []
  sentRate : SMap Nat := []
  /-- t'_d, the emergency state and r_d as this die last told its leader (R353) -/
  told : Option (Nat × Bool × Nat) := none
  /-- when this node's own PACE of a slot was last sent -/
  paceAt : SMap Nat := []
  bufs : List RelBuf := []
  relCount : Nat := 0
  /-- slots whose release is tried again, at this Skylark time -/
  retryAt : SMap Nat := []
  helloAt : Nat := 0
deriving DecidableEq, Repr

/-! ### Skylark time (R363–R368) -/

/-- The Skylark counter: whole ns, fraction and rate adjustment in 2^-32 ns, the phase correction still to be spread. -/
structure Skylark where
  ns : Nat := 0
  frac : Nat := 0
  rate : Int := 0
  slew : Int := 0
  slewLeft : Nat := 0
  /-- expected value at the next pulse, once known -/
  expected : Option Nat := none
  /-- the counter at the latest edge of tp_pulse (R367) -/
  edge : Nat := 0
  lockRun : Nat := 0
  badRun : Nat := 0
  /-- missed pulses in a row, holdover since -/
  missRun : Nat := 0
  holdFrom : Option Nat := none
  /-- block time of the last pulse, missed ones counted in (R366) -/
  pulseAt : Nat := 0
  /-- a forward jump is to be announced; a step has been announced for the next pulse (R366) -/
  fwd : Bool := false
  step : Bool := false
  /-- value of the next whole-millisecond pulse as the leader told it, and when it last did (R365) -/
  flit : Option Nat := none
  flitAt : Nat := 0
  /-- the observation unit's next stamp carries GAP (R368) -/
  gap : Bool := false
  /-- the steward's next log record carries GAP after a step or a reset (R368, R428) -/
  logGap : Bool := false
  /-- block time since which the on-demand domains are idle with no wake event: block core, steward (R17); it moves with
  the clock while they are busy -/
  coreAt : Nat := 0
  stewAt : Nat := 0
deriving DecidableEq, Repr

/-- The counter after `n` ns while the block core domain is gated and pulses come: the Heath interpolates between their edges,
short of the next (R367). -/
def Skylark.coast (k : Skylark) (n : Nat) : Skylark := { k with ns := max k.ns (min (k.ns + n) (k.edge + 999)) }

/-- The counter after `n` ns of the block's clock: 1 ns each, scaled by the rate, with the phase correction spread
over its remaining time; it never decreases (R364). -/
def Skylark.run (k : Skylark) (n : Nat) : Skylark :=
  let m := min n k.slewLeft
  let d : Int := (k.frac : Int) + n * (4294967296 + k.rate) + (if k.slewLeft = 0 then 0 else k.slew * m / k.slewLeft)
  let d := if d < 0 then 0 else d
  { k with ns := k.ns + (d / 4294967296).toNat
           frac := (d % 4294967296).toNat
           slew := if k.slewLeft = 0 then 0 else k.slew - k.slew * m / k.slewLeft
           slewLeft := k.slewLeft - m }

end Sys2Proof.Machine
end

