-- ==== Sys2Proof/Machine/TypesFirmware.lean ====
section
/-! DEFINITION. State of the steward firmware, field access, the fault hub and the observation unit, where a register
is not its home (chapters 14, 15 and 16). -/

namespace Sys2Proof.Machine

/-! ### Firmware (R409–R429) -/

/-- The debug module of a core, as the RISC-V External Debug Support specification 0.13.2 gives it: active, its core halted,
the last resume acknowledged (R429, log 12). -/
structure DebugMod where
  active : Bool := false
  halted : Bool := false
  resumed : Bool := false
deriving DecidableEq, Repr

/-- The handover area of the service core's SRAM: what the old firmware leaves for the new one (R409, R424). -/
structure Handover where
  replies : SMap (List Notice) := []
  events : List Notice := []
  commits : List Commit := []
deriving DecidableEq, Repr

/-- How the ROM and the firmware read the flash: the command byte, its lanes, the clock in kHz, bytes of an address (R98). -/
structure FlashMode where
  cmd : Nat
  lanes : Nat
  kHz : Nat
  addrBytes : Nat
deriving DecidableEq, Repr

/-- Judging of images by the ROM, staging, activation, compartments and USER. Times are block time. -/
structure Firmware where
  /-- size of the flash in bytes, once it has answered SFDP (R411) -/
  flash : Option Nat := none
  /-- how it is read since, by the quad command that SFDP reports (R98) -/
  quad : Option FlashMode := none
  /-- what the ROM judges now: 0 nothing, 1 slot A, 2 slot B, 3 a host-loaded image; after a failed digest check
  (R418) rather than at start-up -/
  trying : Nat := 0
  reboot : Bool := false
  /-- the host-load wait began (R417) -/
  waitLoad : Option Nat := none
  /-- VERSION in the header of slot A and of slot B, 0 if none is valid (R426); of slot B none until it has been read or
  written -/
  verA : Nat := 0
  verB : Option Nat := none
  /-- the image verified and not yet started -/
  image : Option ImageIn := none
  /-- a follower's copy of the image its leader forwards: the slot it comes from, its bytes (R415) -/
  copy : Option (Nat × List Nat) := none
  /-- bytes that the lines of a host load have brought so far (R417) -/
  loaded : List Nat := []
  /-- the image that runs asks for a repair of slot A, which starts once start-up is over (R425) -/
  repairDue : Bool := false
  /-- digest of the code that runs (R416), the image was host-loaded, an image runs -/
  digest : Nat := 0
  hostLoaded : Bool := false
  running : Bool := false
  /-- the code sections in the SRAMs: core (1 policy, 2 service), offset, bytes (R412, R416) -/
  sram : List (Nat × Nat × List Nat) := []
  /-- the regions of the two cores' checkers, by core, and that MONITOR has locked them (R410) -/
  regions : List (Nat × Region) := []
  locked : Bool := false
  /-- bytes of the SRAMs outside the code, by 2 × address + core (0 policy, 1 service), 0 where nothing is listed (R409,
  R419) -/
  ram : SMap Nat := []
  /-- the handover area, from the restart into ROM until the new firmware takes it over (R409, R424) -/
  handover : Option Handover := none
  /-- the debug modules of the policy core and of the service core (R429) -/
  debugs : List DebugMod := [{}, {}]
  /-- lines of an image still to be read over the memory port: next address, lines left, one failed (R417, R422) -/
  readAt : Nat := 0
  readLeft : Nat := 0
  readFail : Bool := false
  /-- staging (R422): 0 none, 1 HOST reads, 2 BEGIN and CHUNKs, 3 the readback is to come; length, bytes so far -/
  mode : Nat := 0
  stageLen : Nat := 0
  stageAt : Nat := 0
  /-- bytes programmed into slot B by the staging (R422) -/
  prog : List Nat := []
  /-- slot B holds an image that passed staging -/
  passedB : Bool := false
  /-- activation: the source whose FW_ACTIVATE waits for its reply, pickup, since when it is stable (R423) -/
  actWho : Option Nat := none
  actAt : Nat := 0
  stableAt : Nat := 0
  /-- pickup is paused (R424 step 1) -/
  paused : Bool := false
  /-- times of each compartment's faults within 1 s, and of FW_ESSENTIAL within 10 s (R419) -/
  faults : SMap (List Nat) := []
  essential : List Nat := []
  /-- USER caps staged and committed (R420, R421) -/
  capsStaged : UserCaps := {}
  caps : UserCaps := {}
  /-- USER timer: period and next wake, ns (R420) -/
  timer : Option (Nat × Nat) := none
  /-- USER log records written in the second that began at `logAt` (R420) -/
  logAt : Nat := 0
  logCount : Nat := 0
  /-- records of the log ring by index, 128 bits (R428) -/
  log : SMap Nat := []
deriving DecidableEq, Repr

/-! ### Field access (R469–R476) -/

/-- The nonce outstanding: its value, the scope and duration of the challenge, block time at which it lapses. -/
structure Nonce where
  value : Nat
  scope : Nat
  duration : Nat
  lapseAt : Nat
deriving DecidableEq, Repr

/-- Field access beside its registers: the nonce, ends of ACC_TIMER and of the backoff. -/
structure AccessCtl where
  nonce : Option Nonce := none
  timerEnd : Nat := 0
  backoffEnd : Nat := 0
deriving DecidableEq, Repr

/-! ### Fault hub (R466) -/

/-- Block times of the block resets that the hub triggered in the last second; the syndromes of the LEVEL sources whose
condition holds, with which they are raised again (R458). -/
structure FaultHub where
  resets : List Nat := []
  syn : SMap Nat := []
  /-- dies with an enabled ERR_PIN source pending, as a mask (R97) -/
  pins : Nat := 0
  /-- Heath cycle, counted from VAON, in which the first-error record was filled (R463) -/
  firstAt : Nat := 0
deriving DecidableEq, Repr

/-! ### Observation (R433, R446–R451) -/

/-- The observation unit beside its registers. -/
structure Observe where
  /-- block time of the snapshot's T while it is pending; a die was left out of it (R446, R454) -/
  snapAt : Option Nat := none
  leftOut : Bool := false
  /-- the snapshot bank: copies of the counter words by register offset -/
  bank : SMap Word := []
  /-- slot, UTIL and NOMINAL sums of each other die, as last told (R433) -/
  pkg : SMap (List Nat) := []
  /-- streaming (R450, R451): line tokens and when they were last counted; start of the period under way; number of
  periods so far, by which a record's write is told; records so far; some were dropped before the next -/
  tokens : Nat := 32
  tokenAt : Nat := 0
  streamAt : Nat := 0
  period : Nat := 0
  recNo : Nat := 0
  recDropped : Bool := false
  /-- counters at the previous record, and at the record being written, by cluster, 320 for the die -/
  last : SMap (List Nat) := []
  lastNew : SMap (List Nat) := []
  /-- attributed energy since the period began, pJ, by cluster, 320 for the die -/
  energy : SMap Int := []
  /-- lines of the period that wait for a token; writes of its records unanswered; records HEAD will move by; the
  time of its end; the time of the newest record written -/
  streamQ : List MemTxn := []
  streamLeft : Nat := 0
  streamNew : Nat := 0
  streamEnd : Nat := 0
  streamT : Nat := 0
  /-- watch sums of this die in lines, by range, and pJ remainders at the leader (R449) -/
  lines : SMap Nat := []
  pj : SMap Nat := []
  watchAt : Nat := 0
deriving DecidableEq, Repr

end Sys2Proof.Machine
end

