-- ==== Sys2Proof/Machine/Outputs.lean ====
section
/-! DEFINITION. What the block puts on its ports, in order (assumption log 2). -/

namespace Sys2Proof.Machine

/-- How the management endpoint answers: done; busy; refused, as unsupported or out of range; unavailable. -/
inductive MgAnswer where
  | done | busy | refused | unavailable
deriving DecidableEq, Repr

/-- A transaction with the flash (R98, R411, R414, R422): SFDP is read; bytes are read, or programmed with the erase they
need, at an offset; one slot is copied over the other. -/
inductive FlashOp where
  | sfdp
  | read (off len : Nat)
  | program (off : Nat) (bytes : List Nat)
  | copy (src dst : Nat)
deriving DecidableEq, Repr

/-- An output of the block. -/
inductive Out where
  /-- a register-port response: the data, and reg_rsp_err 0 OK, 1 DENIED, 2 UNMAPPED, 3 NOT_READY (R53) -/
  | reg (data err : Nat)
  /-- a memory-port request with its tag (R58) -/
  | mem (tag : Nat) (x : MemTxn)
  /-- a PLDM event to the set receiver (R407, I3C binding) -/
  | pldm (kind die : Nat) (value : Int)
  /-- a flit to an instance (R320) -/
  | flit (dst : Nat) (hdr : FlitHdr) (p : Payload)
  /-- an Edvik frame to a node, or to the discovery address (R340–R342) -/
  | frame (hdr : FrameHdr) (body : FrameBody)
  /-- a watch range driven to the memory controllers (R449, R79) -/
  | watch (r : Nat) (en : Bool) (base limit : Nat)
  /-- what a USER call returns: an error, and a value (R420) -/
  | user (err : Bool) (value : Nat)
  /-- a non-maskable trap to both steward cores (R461) -/
  | trap (src : Nat)
  /-- a vendor-defined response of the management endpoint (R406) -/
  | mctp (bytes : List Nat)
  /-- any other answer of the management endpoint, and its values (R406, R407) -/
  | answer (a : MgAnswer) (vals : List Int)
  /-- a command frame of the AVSBus master (R213) -/
  | avs (frame : Nat)
  /-- a transaction on FL_CLK, FL_CS_N and FL_IO (R94, R98): how it is sent, and what it does -/
  | flash (mode : FlashMode) (op : FlashOp)
  /-- a message to an agent across the Stile (R316) -/
  | stile (half : Nat)
deriving DecidableEq, Repr

end Sys2Proof.Machine
end

