-- ==== Sys2Proof/Machine/TypesAdmission.lean ====
section
/-! DEFINITION. State of the cluster agents, the admission arbiter, the droop engine and the event rings
(chapters 4, 5 and 15). Times are nanoseconds of the block's clock (`State.now`) unless a Skylark time is named. -/

namespace Sys2Proof.Machine

/-- One matrix engine at its agent (R64, R66, R120, R432). -/
structure Engine where
  /-- sampled eng_class, and what it asks for: 5–7 count as full (R64) -/
  code : Nat := 0
  req : Nat := 0
  /-- eng_grant as driven -/
  grant : Nat := 0
  /-- an arbiter grant on its way: class decided, class it was decided from (R132) -/
  incoming : Option (Nat × Nat) := none
  /-- the grant was revoked during the current wait (R141) -/
  revoked : Bool := false
  /-- start of the open grant wait (R432) -/
  waitFrom : Option Nat := none
  /-- the wait drew on a reservation (R444) -/
  drew : Bool := false
  /-- wait cause is BACK (R435) -/
  back : Bool := false
  /-- the wait has passed RING_WAIT_TRIG (R441) -/
  exceeded : Bool := false
  /-- when the request was forwarded, when the arbiter received it, and when the half-pool and ledger test granted it
  (R445) -/
  sentAt : Nat := 0
  arbAt : Option Nat := none
  stileAt : Option Nat := none
  /-- last class granted since it was last idle, and last class granted before it went idle (AGT_LAST, R149, R161) -/
  granted : Nat := 0
  last : Nat := 0
  /-- position of the trickle pattern, in delivered cycles (R67) -/
  trickle : Nat := 0
deriving DecidableEq, Repr

/-- A fast calibration under way (R166): windows done, step and trim. -/
structure FastCal where
  window : Nat := 0
  step : Nat := 0x40
  trim : Nat := 0x80
deriving DecidableEq, Repr

/-- Detector, ladder and modulator of one agent (R162–R171, R182). -/
structure Detector where
  /-- detected level of the last sample -/
  d : Nat := 0
  /-- ladder level and its timer, in edges (R170) -/
  lvl : Nat := 0
  timer : Nat := 0
  /-- modulator: level in effect and position in its pattern (R171) -/
  patLvl : Nat := 0
  patPos : Nat := 0
  /-- changes on their way to the modulator: edges left, level, position at effect (R171) -/
  pipe : List (Nat × Nat × Nat) := []
  /-- det_trim driven, stored trims (0x80 where not listed) and their valid bits (R165) -/
  trim : Nat := 0x80
  trims : SMap Nat := []
  valid : Nat := 0
  /-- operating point whose trim is loaded -/
  point : Nat := 0
  cal : Option FastCal := none
  /-- mean code of the last calibration window -/
  mean : Nat := 0
  /-- block time of the last maintenance window; rounds in a row that were not quiet, CAL_STALE, last noisy time (R167) -/
  roundAt : Nat := 0
  notQuiet : Nat := 0
  stale : Bool := false
  noisyAt : Nat := 0
  /-- SEVERE without a break since (R182), STUCK -/
  severeSince : Option Nat := none
  stuck : Bool := false
  /-- samples in a row above the MILD threshold, at most 1,024 (R182) -/
  clear : Nat := 0
  /-- end of the local stop of grants after d left SEVERE (R174) -/
  stopUntil : Nat := 0
  /-- SEVERE reports on their way to the droop engine (R174) -/
  reports : Nat := 0
  /-- lowest code and highest d since the last interval close -/
  minCode : Nat := 63
  maxD : Nat := 0
deriving DecidableEq, Repr

/-- The counters of an agent (R431) with what they carry. -/
structure AgentCounters where
  ret : Nat := 0
  wasted : Nat := 0
  front : Nat := 0
  back : Nat := 0
  util : Nat := 0
  nominal : Nat := 0
  stretch : Nat := 0
  mild : Nat := 0
  deep : Nat := 0
  severe : Nat := 0
  waits : Nat := 0
  /-- total wait time in ns; AGT_WAIT_NS is this in units of 16 ns -/
  waitNs : Nat := 0
  waitMax : Nat := 0
  badClass : Nat := 0
  actSat : Nat := 0
  stuckCnt : Nat := 0
  revokes : Nat := 0
  /-- slots not RETIRED under each reason; AGT_THR is this in units of 16 (R437) -/
  thr : SMap Nat := []
  /-- slots classified since the last interval close (R436) -/
  slots : Nat := 0
deriving DecidableEq, Repr

/-- One cluster agent (R63, R120–R125, R231). -/
structure Agent where
  /-- cl_run, and the agent's report that its clock is live (R70, R90) -/
  run : Bool := false
  /-- cl_run was high at some time since the last estimator interval (R250) -/
  ran : Bool := false
  clkLive : Bool := false
  engines : List Engine := [{}, {}, {}, {}]
  /-- held quanta: lots of quanta and release time, oldest first (R122) -/
  held : List (Nat × Nat) := []
  pocket : Nat := 0
  /-- a reclaim message is on its way (R140 step 2) -/
  reclaim : Bool := false
  /-- every engine idle since (R123) -/
  idleSince : Option Nat := some 0
  /-- reports of local grants and releases on their way, signed quanta (R125) -/
  reports : List Int := []
  det : Detector := {}
  cnt : AgentCounters := {}
  /-- activity counts of the closed intervals the estimator has not taken yet (R231, R232) -/
  closed : List Nat := []
  closedSat : Bool := false
  closedPartial : Bool := false
  /-- the closed counts wait for the estimator -/
  fresh : Bool := false
  /-- counts of an interval that cl_run's fall has closed early, for the next report (R232) -/
  early : List Nat := []
  /-- Skylark time of the last interval close -/
  closeAt : Nat := 0
deriving DecidableEq, Repr

/-- A waiting request (R133); the list of them is in order of arrival. -/
structure ReqSlot where
  cluster : Nat
  engine : Nat
  cls : Nat
  back : Bool := false
deriving DecidableEq, Repr

/-- A reservation (R146–R151). Times are Skylark ns; `left` is in 1/1,024 quantum. -/
structure Reservation where
  id : Nat := 0
  hint : Bool := false
  profile : Nat := 0
  tag : Nat := 0
  t : Nat := 0
  startAt : Nat := 0
  endAt : Nat := 0
  slope : Nat := 0
  left : Int := 0
  /-- pre-bias wanted, and requested now (R150) -/
  prebias : Bool := false
  biasOn : Bool := false
  live : Bool := false
  /-- T has come: started or joined the wave (R135) -/
  joined : Bool := false
  /-- quanta of each cluster's share, what has been reserved of it, and what of that is not yet claimed -/
  shares : SMap Nat := []
  taken : SMap Nat := []
  unclaimed : SMap Nat := []
deriving DecidableEq, Repr

/-- A kernel power profile record (R145). -/
structure Profile where
  id : Nat := 0
  flags : Nat := 0
  ramp : Nat := 0
  duration : Nat := 0
  nTrickle : Nat := 0
  nLight : Nat := 0
  nMedium : Nat := 0
  nFull : Nat := 0
  resFrac : Nat := 0
  /-- bytes 18–19 and 24–31, which must be 0 -/
  rsvd : Nat := 0
  tag : Nat := 0
deriving DecidableEq, Repr

/-- The admission arbiter with the Stile's ledger (R127–R144, R310–R315). -/
structure Arbiter where
  slots : List ReqSlot := []
  /-- credit and unann, 1/1,024 quantum (R130) -/
  credit : Int := 0
  unann : Int := 0
  resvs : List Reservation := []
  nextId : Nat := 0
  /-- a wave is running; positions open; the order it started with and its offset; the stripe of the next wave's
  position 0 (R134, R135) -/
  wave : Bool := false
  open_ : Nat := 0
  order : Bool := false
  rot : Nat := 0
  nextStripe : Nat := 0
  /-- grants and quanta decided since the last step boundary (ring entry STEP) -/
  stepGrants : Nat := 0
  stepQuanta : Nat := 0
  /-- Skylark time of the last step boundary -/
  stepAt : Nat := 0
  /-- change in granted quanta not yet sent, and the last FF_Q sent (R143) -/
  ff : Int := 0
  ffLast : Int := 0
  /-- a revocation pass runs; what the downward slope still allows, 1/1,024 quantum; reclaimed so far (R140) -/
  revoking : Bool := false
  allow : Int := 0
  reclaimed : Nat := 0
  revAt : Nat := 0
  /-- the Stile's ledger: positive = north has borrowed (R310) -/
  ledger : Int := 0
  /-- profile store by ID (R145) -/
  profiles : SMap Profile := []
deriving DecidableEq, Repr

/-- The droop engine (R172–R177). -/
structure DroopEngine where
  /-- stripes frozen, and when each freeze ends (R174) -/
  freeze : Nat := 0
  freezeEnd : SMap Nat := []
  /-- stripes still under the gorse line's force, and under the open-loop holds' (R172, R173) -/
  gorse : Nat := 0
  openLoop : Nat := 0
  /-- the source itself holds, so no release step takes a stripe away -/
  gorseOn : Bool := false
  openOn : Bool := false
  /-- proactive force: stripes forced and until when (R177) -/
  pro : Nat := 0
  proEnd : SMap Nat := []
  /-- positions of the running wave the proactive force still covers -/
  proLeft : Nat := 0
  /-- the debug force of DRP_FORCE is in effect (R172, R183) -/
  debug : Bool := false
deriving DecidableEq, Repr

/-- One 16-byte ring entry (R439). -/
structure RingEntry where
  time : Nat
  type : Nat
  flags : Nat
  data : Nat
deriving DecidableEq, Repr

/-- One event ring (R438, R442): entries oldest first, heads, post entries left, frozen. -/
structure Ring where
  entries : List RingEntry := []
  next : Nat := 0
  wraps : Nat := 0
  post : Option Nat := none
  frozen : Bool := false
  /-- the next entry carries GAP (R368) -/
  gap : Bool := false
deriving DecidableEq, Repr

/-- The rings of the die and their trigger (R438–R445). -/
structure Rings where
  agent : SMap Ring := []
  arb : Ring := {}
  rail : SMap Ring := []
  samp : Ring := {}
  /-- block time of the trigger -/
  trigAt : Nat := 0
  /-- tagged requests: engine position -> stamps (R445) -/
  tagged : List Nat := []
  /-- RATE_SHIFT as the agents of the north and the south half were last told it (R316, R445) -/
  shift : List Nat := [10, 10]
deriving DecidableEq, Repr

end Sys2Proof.Machine
end

