-- ==== Sys2Proof/Machine/TypesPower.lean ====
section
/-! DEFINITION. State of the limiter, the energy windows, the estimator and the thermal manager
(chapters 8, 9 and 10), where a register is not its home. -/

namespace Sys2Proof.Machine

/-- The limiter's operating-point step under way (R265–R269). -/
structure OppStep where
  /-- 0 none, 1 up, 2 down, 3 table re-step, 4 to point 0 on the way to RETAIN -/
  kind : Nat := 0
  /-- point the step goes to -/
  goal : Nat := 0
  /-- a frequency handshake belongs to the step; it has been acknowledged -/
  hasFreq : Bool := true
  freqDone : Bool := false
  /-- re-step: the voltages go first -/
  voltFirst : Bool := false
deriving DecidableEq, Repr

/-- The limiter (R256–R275). win_cap, supply_cap and thermal_cap have their home in BUD_ registers. -/
structure Limiter where
  step : OppStep := {}
  /-- the four-phase handshake: opp_freq, opp_freq_req, opp_freq_ack, when the request rose, timed out (R268) -/
  freq : Nat := 0
  req : Bool := false
  ack : Bool := false
  reqAt : Nat := 0
  timedOut : Bool := false
  /-- the last down step's handshake (R265) -/
  downAt : Option Nat := none
  /-- a table change waits for the handshake under way (R269) -/
  restep : Bool := false
  /-- CORE and CACHE voltages a re-step still holds, mV (R269) -/
  voltOld : Option (Nat × Nat) := none
  /-- the point whose voltage targets wait for the end of a hold or of a block reset (R212, R267) -/
  voltGoal : Option Nat := none
  /-- a step is in progress, as the agents are told; the way to RETAIN waits for the handshake under way (R166, R267) -/
  agentStep : Bool := false
  toZero : Bool := false
  poolMaxLive : Nat := 0
  /-- FAST_LIMIT_N: the emergency, the latched pin, when it returned high (R270, R271) -/
  emergency : Bool := false
  pinLow : Bool := false
  highAt : Option Nat := none
  /-- FAST_LIMIT_N has fallen while PORST_N was low: the wake is still to be noted (R14, R99) -/
  edge : Bool := false
  /-- supply cap: last lowering, latest alert (R272) -/
  lowerAt : Option Nat := none
  alertAt : Option Nat := none
  /-- block time up to which the durations of BUD_RSN_NS have been counted (R274) -/
  rsnAt : Nat := 0
  /-- reasons that have set since the throttle sensor was last told of (R407, log 155) -/
  rsnEvents : Nat := 0
  /-- an emergency or a rail that is not stable stands against a deferred activation; since when none does (R423) -/
  barred : Bool := false
  calmFrom : Nat := 0
deriving DecidableEq, Repr

/-- An energy window (R261–R264): slots per die, newest first, in pJ, key 8 for the package; the slot under way;
the last boundary and the last decision received, Skylark ns; decisions on their way to this die: 1 lower, 2 raise. -/
structure Window where
  slots : SMap (List Nat) := []
  cur : SMap Nat := []
  lastAt : Nat := 0
  heardAt : Nat := 0
  /-- the boundary at which this die last judged the window alone (R263) -/
  aloneAt : Nat := 0
  decision : Option Nat := none
deriving DecidableEq, Repr

/-- The power estimator (R231–R254). -/
structure Estimator where
  /-- Skylark time of the last interval, and of the last calibration millisecond -/
  lastAt : Nat := 0
  calAt : Nat := 0
  /-- pJ that the last interval attributed to each cluster (R250) -/
  given : SMap Int := []
  /-- remainders of the energy counters in pJ, negative where energy is owed: contexts 0–1,023, 1,024
  unattributed, 1,025 die, 1,026 package (R249, R251) -/
  rem : SMap Int := []
  /-- sums of the calibration millisecond per rail: raw dynamic µW and leakage mW, intervals (R242) -/
  dynMs : SMap Nat := []
  leakMs : SMap Int := []
  nMs : Nat := 0
  /-- the power state or the model of all rails changed in the millisecond; rails whose model changed (R241) -/
  psChanged : Bool := false
  modelChanged : Nat := 0
  /-- CAL_EN changed in the millisecond (R241) -/
  calMoved : Bool := false
  /-- model registers that a commit has replaced, with the values that the interval under way still uses; Skylark time from
  which intervals begin with the new ones (R246) -/
  oldModel : List (Nat × Nat) := []
  modelFrom : Nat := 0
  /-- runs of good and bad counting milliseconds per rail (R243) -/
  good : SMap Nat := []
  bad : SMap Nat := []
  /-- sums toward the 100 µs delivery: die µW, stripe µW, intervals (R239) -/
  dieSum : Nat := 0
  stripeSum : SMap Int := []
  nSum : Nat := 0
  /-- latest power of each die, µW; 8 is the package (R240) -/
  dieP : SMap Nat := []
deriving DecidableEq, Repr

/-- The thermal manager (R277–R307). Temperatures are in 1/16 °C; times are block time. -/
structure Thermal where
  /-- Skylark time of the last regular round; an extra round is due (R283, R307) -/
  roundAt : Nat := 0
  extra : Bool := false
  /-- run counts of WARN, THROTTLE and SHUTDOWN (R286), of a slower band (R284), of rounds with a measured site (R282) -/
  warnRun : Nat := 0
  thrRun : Nat := 0
  shutRun : Nat := 0
  slowRun : Nat := 0
  backRun : Nat := 0
  /-- the threshold flag SHUTDOWN has set -/
  shutdown : Bool := false
  /-- the enforcement caps, without those of NO_SITES: thermal_cap (0x1F none) and thermal_pool_cap (R294) -/
  cap : Nat := 0x1F
  pool : Option Nat := none
  /-- grace deadline, last enforcement or release step, end of the last enforcement (R292–R295) -/
  deadline : Option Nat := none
  stepAt : Nat := 0
  releasing : Bool := false
  endedAt : Option Nat := none
  /-- the model: node temperatures with 16 further fraction bits, stripe powers in mW; nodes wait for the first
  round (R297) -/
  nodes : List Int := []
  stripeP : SMap Int := []
  /-- mean die power of the last 100 intervals, µW, as the estimator delivers it (R239) -/
  meanP : Nat := 0
  fresh : Bool := true
  /-- Skylark time of the last model update -/
  modelAt : Nat := 0
  /-- oscillator correction in force, ppm (R304) -/
  oscCorr : Int := 0
  /-- memory stacks: run counts of REFRESH, THROTTLE and CRIT in bits [1:0], [3:2], [5:4]; last report (R301, R303) -/
  memRuns : SMap Nat := []
  memAt : SMap Nat := []
  /-- stack reports received since the last round: stack and T, oldest first (R285) -/
  memIn : List (Nat × Nat) := []
  /-- T_die and hottest stack last reported by each die (R300) -/
  dieT : SMap (Int × Int) := []
  /-- thermal flags of each die as last told, as in DieEvent.flags (R296, R300, R301) -/
  dieFlags : SMap Nat := []
  /-- temperatures of the stacks of each other die, by stack, as last told (R300, R407) -/
  dieStacks : SMap (List (Nat × Int)) := []
  /-- site_trip lines that have risen (R290) -/
  trips : Nat := 0
deriving DecidableEq, Repr

end Sys2Proof.Machine
end

