-- ==== Sys2Proof/Machine/TypesRail.lean ====
section
/-! DEFINITION. State of the rail keepers, injection, capture and the AVSBus master (chapters 6 and 7). -/

namespace Sys2Proof.Machine

/-- A sense channel (R200–R203): its codes since the last gap (at most 256, newest first). -/
structure Channel where
  /-- 0 VALID, 1 LOST, 2 FROZEN -/
  state : Nat := 0
  miss : Nat := 0
  present : Nat := 0
  codes : List Int := []
  /-- FROZEN: the code it froze at, and whether it has since moved by more than 2 -/
  frozenAt : Int := 0
  moved : Bool := false
deriving DecidableEq, Repr

/-- What a keeper knows of one phase (R73, R189). -/
structure Phase where
  i : Int := 0
  /-- samples since the last current code, at most 3: older than 2 periods is missing -/
  age : Nat := 3
  temp : Nat := 0
  flt : Bool := false
  overRun : Nat := 0
deriving DecidableEq, Repr

/-- A running injection (R219–R223): settings, sample index, sine phase or shift register, start, guard run. -/
structure Injection where
  point : Nat := 0
  wave : Nat := 0
  amp : Int := 0
  chip : Nat := 1
  inc : Nat := 0
  freq : Nat := 0
  settle : Nat := 0
  k : Nat := 0
  phase : Nat := 0
  lfsr : Nat := 0
  startAt : Nat := 0
  guardRun : Nat := 0
  /-- rails whose captures were armed with source INJECT when it began (R221, R226) -/
  caps : Nat := 0
deriving DecidableEq, Repr

/-- A stored capture sample (R225): control sample and Skylark time of its first member, the four channels. -/
structure CapSample where
  count : Nat := 0
  time : Nat := 0
  err : Int := 0
  duty : Nat := 0
  /-- none where no code was present -/
  sense : Option Int := none
  cur : Int := 0
deriving DecidableEq, Repr

/-- A capture buffer (R225–R227). The state 0 idle, 1 armed, 2 triggered, 3 frozen is in RAILn_CAP_STATUS. -/
structure Capture where
  armed : Bool := false
  src : Nat := 0
  decim : Nat := 0
  pre : Nat := 0
  per : Nat := 32
  samples : List CapSample := []
  /-- control samples of the group under way, newest first -/
  group : List CapSample := []
  /-- stored samples still to come after the trigger -/
  left : Nat := 0
  trigPos : Nat := 0
  evt : Nat := 0
  /-- RAILn_CAP_EVT as it stood at the ARM; a trigger has come (R226, R227) -/
  evtMask : Nat := 0
  fired : Bool := false
  /-- a trigger from another rail waits for the next sample -/
  pendingTrig : Bool := false
  /-- control samples of this rail at sample 0 of the injection that its record knows of, and at its end, as of the freeze -/
  injAt : Option Nat := none
  injEnd : Option Nat := none
deriving DecidableEq, Repr

/-- Measured voltage and energy summed over control samples (R234, R241, R254): sensed voltage in 0.5 mV, samples,
current code × sensed voltage × period, periods in DPWM cycles. -/
structure Meter where
  v : Int := 0
  n : Nat := 0
  e : Int := 0
  t : Nat := 0
deriving DecidableEq, Repr

/-- A rail keeper (R185–R212). Voltages `vref`, `target` in 1/64 mV; duty quantities in 2^-32 of full duty. -/
structure Rail where
  /-- RAILn_STATUS.STATE encoding (R211) -/
  state : Nat := 0
  vref : Nat := 0
  /-- remainder of the slew, 1/25 of 1/64 mV -/
  slewRem : Nat := 0
  target : Nat := 0
  /-- CORE and CACHE: the voltage asked for as a block reset was triggered, mV, and whether the pre-bias adds to it (R212) -/
  base : Nat × Bool := (0, false)
  /-- sns_ref against which the codes of the next sample are measured (R190) -/
  snsRef : Nat := 0
  n : Nat := 0
  shedSince : Option Nat := none
  /-- phases whose ph_en is high, a mask over the rail's own phases -/
  enabled : Nat := 0
  phases : SMap Phase := []
  i : Int := 0
  d : Int := 0
  y : Int := 0
  carry : Int := 0
  ePrev : Int := 0
  prevHi : Bool := false
  prevLo : Bool := false
  duty : Nat := 0
  /-- duties loaded at the last 256 samples, newest first (R201) -/
  duties : List Nat := []
  remote : Channel := {}
  loc : Channel := {}
  /-- the local channel leads now, and from the next sample (R201) -/
  useLocal : Bool := false
  leadNext : Bool := false
  ofs : Int := 0
  /-- last error without x, in 0.5 mV -/
  eMeas : Int := 0
  /-- the duty follows v: hold, or a shutdown without a VALID channel; state to resume (R204, R206) -/
  openLoop : Bool := false
  resume : Nat := 2
  atRun : Nat := 0
  errRun : Nat := 0
  ovRun : Nat := 0
  uvRun : Nat := 0
  holdAt : Option Nat := none
  /-- soft-start: window of the search under way, time limit, samples in regulation (R209) -/
  ssSearch : Option Nat := none
  ssUntil : Nat := 0
  ssRun : Nat := 0
  /-- live pre-bias, mV (R150) -/
  bias : Nat := 0
  /-- control samples taken -/
  count : Nat := 0
  /-- since the last estimator interval, and since the last calibration millisecond; a current code was missing,
  or the rail was not REGULATING or had an injection, in that millisecond (R241) -/
  meter : Meter := {}
  meterMs : Meter := {}
  spoilt : Bool := false
  inj : Option Injection := none
  /-- injections that have aborted before their sample SETTLE: samples left until it, and the captures that it will
  trigger (R223) -/
  ghosts : List (Nat × Nat) := []
  /-- phases re-admitted since the last sample, a mask: the next sample sets the count with them (R188, R189) -/
  readmitted : Nat := 0
  cap : Capture := {}
  /-- control samples of this rail at sample 0 of the die's latest injection, and at its end (R229) -/
  injAt : Option Nat := none
  injEnd : Option Nat := none
  /-- e as the control law last used it, x included (R225) -/
  eLaw : Int := 0
  /-- on-time in DPWM steps and start of each active phase, as loaded for the next period (R186, R187, R199) -/
  onTime : Nat := 0
  starts : List (Nat × Nat) := []
  /-- tap scale of each phase's delay line, taps per DPWM cycle, and how far its on-time still lies from the one that this
  scale gives, in steps (R306) -/
  scale : SMap Nat := []
  ramp : SMap Int := []
deriving DecidableEq, Repr

/-- The AVSBus master (R213–R216). -/
structure Avs where
  /-- 0 none, 1 VIN_IVR read, 2 current read, 3 target write, 4 temperature read, 5 status read -/
  busy : Nat := 0
  attempts : Nat := 0
  retryAt : Nat := 0
  /-- block time of the last good VIN_IVR reading -/
  vinAt : Option Nat := none
  stale : Bool := true
  outRun : Nat := 0
  /-- start of the settle wait of step 6 -/
  settleAt : Option Nat := none
  needStatus : Bool := false
  /-- a follower's reading as it last told its leader; at the leader those of the other dies (R407) -/
  told : Option Nat := none
  dies : SMap Nat := []
deriving DecidableEq, Repr

end Sys2Proof.Machine
end

