-- ==== Sys2Proof/Machine/TypesSystem.lean ====
section
/-! DEFINITION. The installation (tie-offs and one-time programmable contents), and the state of the Heath's reset,
start-up and power-state sequencing (chapters 1–3). -/

namespace Sys2Proof.Machine

/-- Tie-offs: populated agent positions, built phases, built memory stacks, as masks (R71, R72, R78). -/
structure Tie where
  positions : Nat
  phases : Nat
  mems : Nat
deriving DecidableEq, Repr

/-- The one-time programmable memory (R111 step 2): register words it loads by offset, the MCTP binding, key and
password hashes, burned steps of the rollback counter, enterprise number (R95, R304, R305, R406, R413, R469, R472). -/
structure Otp where
  words : SMap Nat
  mgBind : Nat
  imageKey : Nat
  oemKey : Nat
  pwHash : Nat
  debugKey : Nat
  burned : Nat
  enterprise : Nat
deriving DecidableEq, Repr

/-- An ordered shutdown under way (R91, R210). -/
structure Shut where
  /-- 0 waits for the 2 µs after rails_ready fell, 1 a rail shuts down, 2 a rail is down and the next one waits -/
  phase : Nat := 0
  rail : Nat := 0
  /-- block time at which the phase began -/
  since : Nat := 0
  /-- 0 a power-state leg to OFF, 1 the die goes to OFF by itself, 2 start-up has stopped, 3 the transition out of
  OFF has failed (R40, R206, R207, R289, R113, R492) -/
  why : Nat := 0
deriving DecidableEq, Repr

/-- Reset, start-up and power-state sequencing (R17–R19, R40–R46, R89–R92, R101–R116). The start-up step, READY,
STOPPED, PSTATE and the like have their home in HEATH_ registers. -/
structure Power where
  /-- VAON is above its POR threshold; PORST_N is high -/
  vaon : Bool := false
  porst : Bool := false
  /-- PORST_N rose before VAON did, with these straps (R101) -/
  early : Option (Bool × Nat) := none
  /-- start-up is under way (R18); steps 6–8 are under way, in start-up or in a transition out of OFF -/
  booting : Bool := false
  bring : Bool := false
  /-- the rail that soft-starts now (R111 step 7) -/
  soft : Option Nat := none
  /-- the rails of this bring-up are past the read of VIN_IVR -/
  shut : Option Shut := none
  /-- ps_req with ps_req_vld high, ps_ack, ps_denied (R89) -/
  req : Option Nat := none
  ack : Bool := false
  denied : Bool := false
  /-- goal of the request being carried out and target of the leg in progress (R40) -/
  goal : Nat := 0
  leg : Nat := 0
  railsReady : Bool := false
  /-- the PLL runs but has not locked yet (R16) -/
  pllStarting : Bool := false
  /-- PLL lock at this die's start-up; the strap exchange is open (R29) -/
  exchange : Bool := false
  lockAt : Nat := 0
  /-- a follower waits for its catch-up before step 6; its catch-up failed; block time the transition began (R335) -/
  catchUp : Bool := false
  catchFailed : Bool := false
  outAt : Nat := 0
  /-- the die has left OFF and not been ACTIVE since (R297) -/
  fromOff : Bool := true
  /-- dies whose start-up has reported step 8, at the leader (R111) -/
  reported : Nat := 0
  /-- host_rst_req (R87, R108) -/
  hostRst : Bool := false
  /-- block time of the block reset trigger; the ROM's digest check is still to come (R106) -/
  resetAt : Nat := 0
  digestDue : Bool := false
  /-- the steward was woken while the PLL stood still: it starts at the lock (R14, R17) -/
  stewWake : Bool := false
  /-- block time of the latest fall of rails_ready (R91) -/
  fellAt : Option Nat := none
  /-- block time of the last thermal round, stack report, and so on are kept by their units; here: the latest
  conversion in OFF (R283) and the latest DPWM recalibration (R306) -/
  oscAt : Nat := 0
  dpwmAt : Option Nat := none
  /-- taps per DPWM cycle of each delay line, as last measured (R306) -/
  dpwmTaps : SMap Nat := []
  /-- the steward domain has started and has logged nothing since (R368, R428) -/
  logGap : Bool := false
deriving DecidableEq, Repr

end Sys2Proof.Machine
end

