-- ==== Sys2Proof/Machine/State.lean ====
section
/-! DEFINITION. The state of one Biluth die instance, as plain data, its faults and refusals, and the state after
reset. Registers live in `regs` wherever a field's home is a register; what the spec keeps behind them has a field of
its own here. -/

namespace Sys2Proof.Machine

/-- Faults. -/
inductive Fault where
  /-- A command names a unit that the hardware does not have: an agent position above 319, an engine above 3, a rail
  above 3, a site above 95, a stripe above 15, a half above 1, a mailbox above 31, a die above 7 and the like. Raised
  by the meanings that take such a number. Safe: no such event exists. -/
  | noSuchUnit
deriving DecidableEq, Repr

/-- Refusals. -/
inductive Refusal where
  /-- The arm of an instruction that has no meaning yet, by mnemonic. Raised by no arm: every row has its meaning. Safe. -/
  | notModelled (mnemonic : String)
deriving DecidableEq, Repr

/-- A raise on its way to the fault hub (R459): source, syndrome, forced (R468). -/
structure Raise where
  src : Nat
  syn : Nat
  forced : Bool := false
deriving DecidableEq, Repr

/-- A request at the register port (R52, R55). -/
structure PortReq where
  wr : Bool
  off : Nat
  data : Nat
  who : Who
deriving DecidableEq, Repr

/-- The state. -/
structure State where
  /-- registers by byte offset, where they differ from their reset word; staging copies where they differ from what is
  applied (R5, R6, R23, R477) -/
  regs : SMap Word := []
  staged : SMap Word := []
  /-- the clock of the model, ns since power-on (log 1); Skylark time (R363–R368) -/
  now : Nat := 0
  sky : Skylark := {}
  /-- counter of the free values drawn so far: the model's own (log 3) -/
  free : Nat := 0
  /-- the installation: tie-offs and OTP (R71, R72, R78, R111) -/
  tie : Tie
  otp : Otp
  /-- what the block has put on its ports, oldest first (log 2) -/
  out : List Out := []
  /-- raises on their way to the fault hub; LEVEL sources whose condition holds, as a mask (R458, R459) -/
  raises : List Raise := []
  levels : Nat := 0
  /-- cluster agents, arbiter, droop engine, event rings (chapters 4, 5, 15) -/
  agents : SMap Agent := []
  arb : Arbiter := {}
  drp : DroopEngine := {}
  rings : Rings := {}
  /-- half_off_req, as a mask (R90) -/
  halfReq : Nat := 0
  /-- rail keepers and AVSBus (chapters 6, 7) -/
  rails : SMap Rail := []
  avs : Avs := {}
  /-- the die's latest injection: rail and settings (R229) -/
  lastInj : Option (Nat × Injection) := none
  /-- power, reset and start-up (chapters 1–3) -/
  ps : Power := {}
  /-- Hedgerow, commits and the Stile's queues; Edvik (chapters 11, 12) -/
  hdg : Hedgerow := {}
  fab : Fabric := {}
  /-- memory port, sessions, commands in execution: mailboxes 0–31, the management endpoint 32 (chapters 2, 13) -/
  mem : MemPort := {}
  ses : Session := {}
  cmds : SMap Active := []
  /-- limiter, energy windows, estimator, thermal manager (chapters 8–10) -/
  lim : Limiter := {}
  win : SMap Window := []
  est : Estimator := {}
  thm : Thermal := {}
  /-- the session is UNATTACHED or UNATTENDED, as this die knows it (R402) -/
  unattended : Bool := true
  /-- pace_rate: the lowest RATE of the set level words that apply to this die (R352) -/
  rate : Option Nat := none
  /-- firmware, field access, fault hub, observation unit (chapters 14–16) -/
  fw : Firmware := {}
  acc : AccessCtl := {}
  hub : FaultHub := {}
  obs : Observe := {}
  /-- the register port's high-word latches: requester, low-word offset, high word (R252) -/
  latches : List (Who × Nat × Nat) := []
  /-- accesses that wait at the register port for the end of a block reset, oldest first (R92) -/
  held : List PortReq := []
  /-- commands that wait, first in first out -/
  pending : List Instr := []
deriving DecidableEq, Repr

/-- The tie-offs of State.reset: every agent position populated, every phase and memory stack built (log 6). -/
def Tie.full : Tie := ⟨2 ^ 320 - 1, 2 ^ 96 - 1, 0xF⟩

/-- The OTP contents of State.reset: blank but for the trip temperature, the unity gain of the site trims and the
SMBus binding (log 6). -/
def Otp.blank : Otp :=
  { words := (THM_OTP, 122) :: (List.range 96).map (fun k => (SITE_TRIM k, 0x40000000)),
    mgBind := 1, imageKey := 0, oemKey := 0, pwHash := 0, debugKey := 0, burned := 0, enterprise := 0 }

/-- The state right after reset: VAON below its threshold, so every register at its Heath-POR value, nothing running,
no command waiting (R101, R103, R104). -/
def State.reset : State := { tie := Tie.full, otp := Otp.blank }

end Sys2Proof.Machine
end

