-- ==== Sys2Proof/Machine/Ops.lean ====
section
/-! DEFINITION. The named operations over registers, time, the fault hub's inbox, the rings and the outputs.
Every meaning goes through these. -/

namespace Sys2Proof.Machine

/-! ### Registers -/

/-- The word of a register as the hardware holds it. -/
def State.reg (s : State) (off : Nat) : Nat := (SMap.get resetWord s.regs off).toNat

/-- The state with a register holding `v`. -/
def State.setReg (s : State) (off v : Nat) : State :=
  { s with regs := SMap.put resetWord s.regs off (BitVec.ofNat 32 v) }

/-- A field of a register. -/
def State.fld (s : State) (f : Fld) : Nat := bitsOf (s.reg f.off) f.hi f.lo

/-- The state with a field set (the value is cut to the field's width). -/
def State.setFld (s : State) (f : Fld) (v : Nat) : State :=
  s.setReg f.off (withBits (s.reg f.off) f.hi f.lo v)

/-- A one-bit field as a Bool. -/
def State.flag (s : State) (f : Fld) : Bool := s.fld f != 0

/-- The state with a one-bit field set to a Bool. -/
def State.setFlag (s : State) (f : Fld) (b : Bool) : State := s.setFld f (bnat b)

/-- The largest value a field holds. -/
def Fld.top (f : Fld) : Nat := 2 ^ (f.hi + 1 - f.lo) - 1

/-- A saturating counter field counts up by `n`. -/
def State.incSat (s : State) (f : Fld) (n : Nat := 1) : State := s.setFld f (min (s.fld f + n) f.top)

/-- A 64-bit counter in a low and a high word (R252). -/
def State.reg64 (s : State) (off : Nat) : Nat := s.reg off + 2 ^ 32 * s.reg (off + 4)

/-- The state with a 64-bit register pair holding `v`. -/
def State.setReg64 (s : State) (off v : Nat) : State :=
  (s.setReg off v).setReg (off + 4) (v / 2 ^ 32)

/-- The value a staged field has: its staging copy, or what is applied (R6, R23). -/
def State.stagedReg (s : State) (off : Nat) : Nat :=
  match SMap.find s.staged off with
  | some w => w.toNat
  | none => s.reg off

/-- Does a prepared set hold a value for a register (R330)? -/
def State.preparedHas (s : State) (off : Nat) : Bool := s.hdg.prepared.any (fun p => SMap.has p.regs off)

/-- The state with a staging copy: listed only where it differs from what is applied. A write that arrives while a commit
with the same register is prepared belongs to the next commit, so it is listed whatever its value (R331). -/
def State.setStaged (s : State) (off v : Nat) : State :=
  if BitVec.ofNat 32 v = SMap.get resetWord s.regs off ∧ s.preparedHas off = false then { s with staged := SMap.drop s.staged off }
  else { s with staged := SMap.enter s.staged off (BitVec.ofNat 32 v) }

/-- A field of a staging copy. -/
def State.stagedFld (s : State) (f : Fld) : Nat := bitsOf (s.stagedReg f.off) f.hi f.lo

/-- The state with a field of a staging copy set. -/
def State.setStagedFld (s : State) (f : Fld) (v : Nat) : State :=
  s.setStaged f.off (withBits (s.stagedReg f.off) f.hi f.lo v)

/-- Bit of source `i` in a row of eight registers. -/
def State.srcBit (s : State) (row : Nat → Nat) (i : Nat) : Bool := bitAt (s.reg (row (i / 32))) (i % 32)

/-! ### Time -/

/-- The next multiple of `p` at or after `t` (`t` itself where `p` is 0). -/
def ceilMult (t p : Nat) : Nat := if p = 0 then t else (t + p - 1) / p * p

/-- Has a link nothing under way: no flit waits or is unacknowledged? -/
def Link.idle (k : Link) : Bool := k.unacked.isEmpty && k.queue.isEmpty

/-- Has the block core domain nothing in hand (R17, R82, R328): no transaction at the memory port, no command, no commit
or prepared set, no flit or frame that is not acknowledged, no release, no stream line, and hdg_wake_in low (log 140)? -/
def State.coreIdle (s : State) : Bool :=
  s.mem.out.isEmpty && s.mem.queue.isEmpty && s.cmds.isEmpty && s.hdg.running.isNone && s.hdg.queue.isEmpty &&
  s.hdg.prepared.isNone && s.hdg.links.all (fun p => p.2.idle) && !s.hdg.wakeIn &&
  s.fab.peers.all (fun p => p.2.unacked.isEmpty) && s.fab.bufs.isEmpty && s.obs.streamQ.isEmpty

/-- Is a transaction one that the steward issued, and not the observation unit (R19)? -/
def Job.steward : Job → Bool
  | .record _ | .head => false
  | _ => true

/-- Are both cores in their wait-for-interrupt state with no transaction of theirs outstanding (R19): no command to carry
on with, no inbound slot to take, no image to read or judge, no digest to check? A command that waits for a commit or a
follower leaves them waiting (log 140). -/
def State.stewardIdle (s : State) : Bool :=
  s.mem.out.all (fun p => !p.2.job.steward) && s.mem.queue.all (fun x => !x.job.steward) &&
  s.reg MB_IN_FULL == 0 && s.cmds.all (fun p => p.2.stage == 2) && s.fw.trying == 0 && s.fw.readLeft == 0 && s.fw.mode == 0 && !s.ps.digestDue &&
  !s.fw.paused

/-- The idle times of the on-demand domains count from now: the block core domain's and, with `steward`, the steward
domain's (R17). -/
def State.lingerFrom (s : State) (steward : Bool) : State :=
  { s with sky := { s.sky with coreAt := s.now, stewAt := if steward then s.now else s.sky.stewAt } }

/-- Does the Heath keep the Skylark counter by the pulses: the block core domain is gated, pulses have come, and there is no
holdover (R366, R367)? -/
def State.skyGated (s : State) : Bool :=
  !s.flag HEATH_DOMAIN_STATUS.CORE_ON && s.sky.expected.isSome && s.sky.holdFrom.isNone

/-- The clock moves on by `n` ns; Skylark time moves with it at its own rate (R363), and so does the instant from which a
busy on-demand domain will have been idle (R17). -/
def State.advance (s : State) (n : Nat) : State :=
  let k := if s.skyGated then s.sky.coast n else s.sky.run n
  { s with
    now := s.now + n
    sky := { k with coreAt := if s.coreIdle then k.coreAt else s.now + n, stewAt := if s.stewardIdle then k.stewAt else s.now + n } }

/-- The clock moves on to `t`, unless it is already there: an event that is commanded has come (log 1). -/
def State.advanceTo (s : State) (t : Nat) : State := s.advance (t - s.now)

/-- Skylark time, whole ns (R363). -/
def State.skyNs (s : State) : Nat := s.sky.ns

/-- The clock moves on until Skylark time is at least `t` (log 1). -/
def State.advanceSky (s : State) (t : Nat) : State :=
  let s1 := s.advance (t - s.sky.ns)
  if s1.sky.ns < t then { s1 with sky := { s1.sky with ns := t, frac := 0 } } else s1

/-! ### Free values -/

/-- A free value, and the state with the counter of free values moved on (log 3). -/
def State.drawn (s : State) : Nat := Config.freeValue s.free

/-- The counter of free values moved on by one. -/
def State.spent (s : State) : State := { s with free := s.free + 1 }

/-- Is a core halted by its debug module: 0 the policy core, 1 the service core (R429)? -/
def State.halted (s : State) (core : Nat) : Bool := (listGet {} s.fw.debugs core).halted

/-- `n` free values have been used. -/
def State.spendN (s : State) (n : Nat) : State := { s with free := s.free + n }

/-! ### Outputs -/

/-- The state with something put on a port (log 2). -/
def State.emit (s : State) (o : Out) : State := { s with out := s.out ++ [o] }

/-- Where slot A (1) or slot B (2) begins in the flash (R411). -/
def State.slotBase (s : State) (slot : Nat) : Nat := if slot = 2 then s.fw.flash.getD 0 / 2 else 0

/-- A transaction with the flash in the mode that its SFDP gave; none where no flash answered (R94, R98). -/
def State.flashDo (s : State) (op : FlashOp) : State :=
  match s.fw.quad with
  | some k => s.emit (.flash k op)
  | none => s

/-! ### Raises on their way to the fault hub (R459) -/

/-- A unit raises a source: the raise is on its way to the hub, where FAULT_RAISE takes it (R459, R460). -/
def State.raise (s : State) (src syn : Nat) (forced : Bool := false) : State :=
  { s with raises := s.raises ++ [⟨src, syn, forced⟩] }

/-- A syndrome (R459): INDEX [15:0], CODE [31:16], VALUE [63:32]. -/
def syndrome (index code : Nat) (value : Int) : Nat :=
  index % 2 ^ 16 + code % 2 ^ 16 * 2 ^ 16 + ofSigned 32 value * 2 ^ 32

/-- The condition of a LEVEL source holds from now on: it is raised when it begins (R458). -/
def State.levelOn (s : State) (src syn : Nat) : State :=
  if bitAt s.levels src then s
  else { s.raise src syn with levels := maskSet s.levels src, hub := { s.hub with syn := SMap.enter s.hub.syn src syn } }

/-- The condition of a LEVEL source no longer holds. -/
def State.levelOff (s : State) (src : Nat) : State :=
  { s with levels := maskClear s.levels src, hub := { s.hub with syn := SMap.drop s.hub.syn src } }

/-! ### Installation -/

/-- Is agent position `c` populated (R71)? -/
def State.present (s : State) (c : Nat) : Bool := bitAt s.tie.positions c

/-- The populated positions, in ascending order. -/
def State.clusters (s : State) : List Nat := bitsSet 320 s.tie.positions

/-- Is this instance the leader (R28)? -/
def State.leader (s : State) : Bool := s.flag ID_TOPOLOGY.LEADER

/-- This instance's DIE_ID (R28). -/
def State.dieId (s : State) : Nat := s.fld ID_TOPOLOGY.DIE_ID

/-- The die instances found by the exchange, as a mask (R29). -/
def State.dieMask (s : State) : Nat := s.fld ID_TOPOLOGY.DIE_MASK

/-! ### Cluster agents -/

/-- What an unlisted cluster holds. -/
def agentDefault : Nat → Agent := fun _ => {}

/-- The agent of a cluster. -/
def State.agent (s : State) (c : Nat) : Agent := SMap.get agentDefault s.agents c

/-- The state with an agent replaced. -/
def State.setAgent (s : State) (c : Nat) (a : Agent) : State :=
  { s with agents := SMap.put agentDefault s.agents c a }

/-- An engine of an agent. -/
def Agent.engine (a : Agent) (e : Nat) : Engine := listGet {} a.engines e

/-- The agent with an engine replaced: a cluster has four (R4). -/
def Agent.setEngine (a : Agent) (e : Nat) (x : Engine) : Agent :=
  { a with engines := (List.range 4).map (fun k => if k = e then x else a.engine k) }

/-- The stripe of a cluster (R134). -/
def stripeOf (c : Nat) : Nat := c / 20

/-- The half of a stripe: 0 north, 1 south (R134). -/
def halfOfStripe (st : Nat) : Nat := if st < 8 then 0 else 1

/-- The half of a cluster: 0 north, 1 south (R134). -/
def halfOf (c : Nat) : Nat := if c < 160 then 0 else 1

/-! ### USER caps (R421) -/

/-- A host value under the USER cap listed for it, if any: the smaller of the two. -/
def underCap (m : List (Nat × Nat)) (k v : Nat) : Nat :=
  match m.find? (fun p => p.1 == k) with
  | some p => min v p.2
  | none => v

/-- ADM_CTX_MAX.MAX of a context under its USER cap. -/
def State.ctxMax (s : State) (x : Nat) : Nat := underCap s.fw.caps.ctxs x (s.fld (ADM_CTX_MAX.MAX x))

/-- BUD_POOL under the USER pool cap. -/
def State.packPool (s : State) : Nat :=
  match s.fw.caps.pool with
  | some q => min (s.fld BUD_POOL.POOL) q
  | none => s.fld BUD_POOL.POOL

/-- BUD_WINn_LIMIT under the USER window cap. -/
def State.winLimit (s : State) (w : Nat) : Nat := underCap s.fw.caps.wins w (s.reg (BUD_WIN_LIMIT w))

/-- OPP_HOST_CAP.CAP under the USER index cap of this die. -/
def State.hostCap (s : State) : Nat := underCap s.fw.caps.idx s.dieId (s.fld OPP_HOST_CAP.CAP)

/-! ### Event rings (R438–R443) -/

/-- ns between two values on the time bus: a Heath cycle while the block core domain is gated (R367). -/
def State.busNs (s : State) : Nat := if s.flag HEATH_DOMAIN_STATUS.CORE_ON then 16 else 40

/-- The stamp of Skylark time `t` in a region whose clock has a period of `ps` picoseconds: the last value of the time bus,
and the whole periods since, which stay within the bus interval (R367). The phases of bus and clock are a choice (log 35).
-/
def State.stampAt (s : State) (ps t : Nat) : Nat := t / s.busNs * s.busNs + t % s.busNs * 1000 / ps * ps / 1000

/-- INTERP of that stamp: a period has passed since the bus value (R367). -/
def State.interpAt (s : State) (ps t : Nat) : Bool := decide (0 < t % s.busNs * 1000 / ps)

/-- The later of a stamp of 48 bits and the previous one, in their wrapping order (R367). -/
def laterStamp (prev t : Nat) : Nat := if (prev + 2 ^ 48 - t) % 2 ^ 48 < 2 ^ 47 then prev else t

/-- Periods of the block core, DPWM and steward clocks, ps (R15). -/
def corePs : Nat := 1000
def dpwmPs : Nat := 625
def stewardPs : Nat := 2000

/-- The period at which an agent counts its edges, ps: that of opp_freq (R367), which is never below 600 MHz (R269). -/
def State.agentPs (s : State) : Nat := 1000000 / max 600 s.lim.freq

/-- An entry of a ring whose region has a clock of `ps` picoseconds, stamped with Skylark time, bits [47:0], and no earlier
than the entry before it but across a step (R367, R368); the ring adds GAP. -/
def State.entry (s : State) (r : Ring) (ps type data : Nat) : RingEntry :=
  let t := s.stampAt ps s.skyNs % 2 ^ 48
  let t1 := match r.entries.getLast? with
    | some x => if r.gap then t else laterStamp x.time t
    | none => t
  ⟨t1, type, bnat (s.interpAt ps s.skyNs), data⟩

/-- NEXT and WRAPS of a ring. -/
def Ring.head (r : Ring) : Nat := r.wraps * 65536 + r.next

/-- Append to a ring of length `len`: the newest entry overwrites the oldest; a frozen or disabled ring takes
nothing; a ring recording post entries counts them and freezes after the last (R438, R439, R442, R443). -/
def Ring.push (r : Ring) (len : Nat) (x : RingEntry) : Ring :=
  if len = 0 ∨ r.frozen then r
  else
    let x' := { x with flags := x.flags ||| (8 * bnat r.post.isSome + 2 * bnat r.gap) }
    let es := if r.entries.length < len then r.entries ++ [x'] else r.entries.drop (r.entries.length + 1 - len) ++ [x']
    let r1 := { r with gap := false, entries := es, next := (r.next + 1) % len,
                       wraps := if r.next + 1 = len then min (r.wraps + 1) 0xFFFF else r.wraps }
    match r.post with
    | none => r1
    | some k => { r1 with post := some (k - 1), frozen := k ≤ 1 }

/-- The ring of an agent. -/
def State.ringOf (s : State) (c : Nat) : Ring := SMap.get (fun _ => {}) s.rings.agent c

/-- The ring of a rail keeper. -/
def State.railRing (s : State) (n : Nat) : Ring := SMap.get (fun _ => {}) s.rings.rail n

/-- Length in force of the rings of a kind, 0 agent, 1 arbiter, 2 rail, 3 sample: what the register holds, up to the
capacity (R438, log 38). -/
def State.ringLen (s : State) : Nat → Nat
  | 0 => min 64 (s.fld RING_LEN.AGT)
  | 1 => min 1024 (s.fld RING_LEN.ARB)
  | 2 => min 512 (s.fld RING_LEN.RAIL)
  | _ => min 4096 (s.fld RING_SAMP.LEN)

/-- Have all rings that take part in the trigger frozen (R442)? An agent's ring that did not take it takes no part. -/
def State.ringsDone (s : State) : Bool :=
  let u := s.fld RING_TRIG_UNITS.UNITS
  (!bitAt u 0 || s.ringLen 0 == 0 || s.clusters.all (fun c => (s.ringOf c).frozen || (s.ringOf c).post.isNone)) &&
  (!bitAt u 1 || s.ringLen 1 == 0 || s.rings.arb.frozen) &&
  (!bitAt u 2 || s.ringLen 2 == 0 || (List.range 4).all (fun n => (s.railRing n).frozen)) &&
  (!bitAt u 3 || s.ringLen 3 == 0 || s.rings.samp.frozen)

/-- The trigger state becomes FROZEN once every ring that takes part has frozen (R442). -/
def State.settleRings (s : State) : State :=
  if s.fld RING_STATUS.STATE = 2 ∧ s.ringsDone then s.setFld RING_STATUS.STATE 3 else s

/-- An entry in the ring of cluster `c`. -/
def State.logAgent (s : State) (c type data : Nat) : State :=
  let r := (s.ringOf c).push (s.ringLen 0) (s.entry (s.ringOf c) s.agentPs type data)
  let s1 := { s with rings := { s.rings with agent := SMap.put (fun _ => {}) s.rings.agent c r } }
  if r.frozen then s1.settleRings else s1

/-- An entry in the arbiter's ring. -/
def State.logArb (s : State) (type data : Nat) : State :=
  let r := s.rings.arb.push (s.ringLen 1) (s.entry s.rings.arb corePs type data)
  let s1 := { s with rings := { s.rings with arb := r } }
  if r.frozen then s1.settleRings else s1

/-- An entry in the ring of rail keeper `n`. -/
def State.logRail (s : State) (n type data : Nat) : State :=
  let r := (s.railRing n).push (s.ringLen 2) (s.entry (s.railRing n) dpwmPs type data)
  let s1 := { s with rings := { s.rings with rail := SMap.put (fun _ => {}) s.rings.rail n r } }
  if r.frozen then s1.settleRings else s1

/-- An entry in the sample ring. -/
def State.logSample (s : State) (x : RingEntry) : State :=
  let r := s.rings.samp.push (s.ringLen 3) x
  let s1 := { s with rings := { s.rings with samp := r } }
  if r.frozen then s1.settleRings else s1

/-- Entry data from its bytes 8 onward. -/
def dataBytes (bs : List Nat) : Nat := ofLeBytes bs

/-- A ring starts its post entries: a TRIGGER entry with TRIG set, then `post` more (R442). -/
def Ring.trigger (r : Ring) (len post : Nat) (x : RingEntry) : Ring :=
  if len = 0 ∨ r.frozen then r
  else
    let r1 := r.push len { x with flags := x.flags ||| 4 }
    { r1 with post := some post, frozen := post = 0 }

/-- Do the agents of a half take a trigger: not while they sleep, since a stopped clock stamps nothing, nor while their ARM
waits in the Stile's queue (R316, R368)? -/
def State.takesTrigger (s : State) (h : Nat) : Bool :=
  !s.flag (if h = 0 then STILE_STATUS.ASLEEP_N else STILE_STATUS.ASLEEP_S) && !s.hdg.stileQ.any (fun p => p.1 == h && p.2 == .arm)

/-- The trigger fires: every ring of a kind set in UNITS writes its TRIGGER entry and begins its post entries
with share `share` of 256; a later trigger only counts (R442, R443). -/
def State.fireTrigger (s : State) (src share : Nat) : State :=
  let st := s.fld RING_STATUS.STATE
  if st = 2 ∨ st = 3 then s.incSat RING_STATUS.LATE
  else
    let u := s.fld RING_TRIG_UNITS.UNITS
    let x := s.entry {} corePs 0xF2 (dataBytes [src, s.dieId])
    let post (len : Nat) := len * share / 256
    let la := s.ringLen 0; let lb := s.ringLen 1
    let lr := s.ringLen 2; let ls := s.ringLen 3
    let rs := s.rings
    let rs := if bitAt u 0 then { rs with agent := each (s.clusters.filter (fun c => s.takesTrigger (halfOf c))) (fun c m =>
        SMap.put (fun _ => {}) m c ((SMap.get (fun _ => {}) m c).trigger la (post la) x)) rs.agent } else rs
    let rs := if bitAt u 1 then { rs with arb := rs.arb.trigger lb (post lb) x } else rs
    let rs := if bitAt u 2 then { rs with rail := each [0, 1, 2, 3] (fun n m =>
        SMap.put (fun _ => {}) m n ((SMap.get (fun _ => {}) m n).trigger lr (post lr) x)) rs.rail } else rs
    let rs := if bitAt u 3 then { rs with samp := rs.samp.trigger ls (post ls) x } else rs
    let s1 := { s with rings := { rs with trigAt := s.now } }
    ((((s1.setFld RING_STATUS.STATE 2).setFld RING_STATUS.SOURCE src).setReg64 (RING_TRIG_T 0) s.skyNs)).settleRings

/-- An event of a trigger source: it fires an armed trigger whose SOURCES bit is set, and counts as a later
trigger once the trigger has fired (R441, R443). -/
def State.ringEvent (s : State) (src : Nat) : State :=
  let st := s.fld RING_STATUS.STATE
  if !bitAt (s.fld RING_TRIG.SOURCES) src then s
  else if st = 1 then s.fireTrigger src (s.fld RING_TRIG.POST)
  else if st = 2 ∨ st = 3 then s.incSat RING_STATUS.LATE
  else s

end Sys2Proof.Machine
end

