-- ==== Sys2Proof/Machine/Admission.lean ====
section
/-! DEFINITION. Current admission (chapter 4) with the Stile's ledger (R310–R315): what the agents and the
arbiter count, the waves, the scan, revocation, reservations. The meanings of the rows stand at the end. -/

namespace Sys2Proof.Machine

/-! ### What is counted -/

/-- Quanta of a class under the committed ADM_CLASS_Q (R117). -/
def State.quanta (s : State) (cls : Nat) : Nat := bitsOf (s.reg ADM_CLASS_Q) (4 * cls + 3) (4 * cls)

/-- The class the arbiter counts an engine as granted at: a decided grant counts before it is delivered, unless a local
grant has gone beyond it. -/
def Engine.counted (x : Engine) : Nat :=
  match x.incoming with
  | some (c, _) => max c x.grant
  | none => x.grant

/-- Quanta an engine counts for: its grant, and what a grant on its way adds (R119 recounts by definition). -/
def State.engineQuanta (s : State) (x : Engine) : Nat :=
  s.quanta x.grant + match x.incoming with
    | some (c, f) => s.quanta c - s.quanta f
    | none => 0

/-- Quanta granted to a cluster's engines. -/
def State.grantedOf (s : State) (a : Agent) : Nat := (a.engines.map s.engineQuanta).sum

/-- Quanta that an engine gives up where its grant falls to 0b000: it still counts for those of the idle class (R117, R141).
-/
def State.freedBy (s : State) (x : Engine) : Nat := s.engineQuanta x - s.quanta 0

/-- Held quanta of an agent (R122). -/
def Agent.heldSum (a : Agent) : Nat := (a.held.map (fun p => p.1)).sum

/-- Held and pocket quanta as the arbiter counts them: a reclaim takes effect when it is decided (R140). -/
def Agent.stored (a : Agent) : Nat := if a.reclaim then 0 else a.heldSum + a.pocket

/-- Is an engine of the cluster above idle? -/
def Agent.active (a : Agent) : Bool := a.run && a.engines.any (fun x => x.req != 0)

/-- Engines of the cluster whose grant is below their class (R127). -/
def Agent.waiting (a : Agent) : Nat :=
  if a.run then (a.engines.filter (fun x => x.counted < x.req)).length else 0

/-- Unclaimed quanta of a reservation for the clusters that pass `p`. -/
def Reservation.open_ (r : Reservation) (p : Nat → Bool) : Nat :=
  ((r.unclaimed.filter (fun q => p q.1)).map (fun q => q.2)).sum

/-- Is a reservation fully claimed (R148, R150)? -/
def Reservation.claimed (r : Reservation) : Bool :=
  r.unclaimed.isEmpty && r.shares.all (fun p => decide (p.2 ≤ SMap.get (fun _ => 0) r.taken p.1))

/-- A reservation left with unclaimed quanta `u`: what it gives back it may take again once there is room (R147). -/
def Reservation.keeps (r : Reservation) (u : SMap Nat) : Reservation :=
  let back (p : Nat × Nat) : Nat × Nat :=
    (p.1, p.2 - (SMap.get (fun _ => 0) r.unclaimed p.1 - SMap.get (fun _ => 0) u p.1))
  { r with taken := (r.taken.map back).filter (fun p => p.2 != 0), unclaimed := u }

/-- A reservation whose unclaimed quanta go back to the half-pools; its counter starts at 0 again (R130). -/
def Reservation.drained (r : Reservation) : Reservation := { r.keeps [] with joined := false, left := 0 }

/-- Outstanding quanta of the clusters that pass `p`: grants, stores, unclaimed reservations (R127, R156). -/
def State.outstandingOf (s : State) (p : Nat → Bool) : Nat :=
  ((s.agents.filter (fun q => p q.1)).map (fun q => s.grantedOf q.2 + q.2.stored)).sum
    + (s.arb.resvs.map (fun r => r.open_ p)).sum

/-- Outstanding quanta of the die. -/
def State.outstanding (s : State) : Nat := s.outstandingOf (fun _ => true)

/-- Outstanding quanta of a half (R129). -/
def State.outHalf (s : State) (h : Nat) : Nat := s.outstandingOf (fun c => halfOf c == h)

/-- Granted quanta of the die. -/
def State.granted (s : State) : Nat := (s.agents.map (fun q => s.grantedOf q.2)).sum

/-- Engines waiting among the clusters that pass `p` (R127). -/
def State.waitingOf (s : State) (p : Nat → Bool) : Nat :=
  ((s.agents.filter (fun q => p q.1)).map (fun q => q.2.waiting)).sum

/-- trickle_allow for `n` waiting engines: ceil(q_trickle × rate × n), the rate 1/8, 1/4 or 1/2 (R127). -/
def State.trickleFor (s : State) (n : Nat) : Nat :=
  (s.quanta 1 * 2 ^ s.fld ADM_CTRL.TRICKLE * n + 7) / 8

/-- trickle_allow of the die (R127). -/
def State.trickleAllow (s : State) : Nat := s.trickleFor (s.waitingOf (fun _ => true))

/-- A half's share of trickle_allow: the same expression over its own waiting engines (DEDUCED, log 21). -/
def State.trickleHalf (s : State) (h : Nat) : Nat := s.trickleFor (s.waitingOf (fun c => halfOf c == h))

/-- The live die ceiling (R128). -/
def State.ceiling (s : State) : Nat := s.fld ADM_CEILING.CEIL

/-- B_N and B_S: half the ceiling, the odd quantum to the north half (R129). -/
def State.halfShare (s : State) (h : Nat) : Nat := if h = 0 then (s.ceiling + 1) / 2 else s.ceiling / 2

/-- bound_h: the half's share moved by the ledger (R310). -/
def State.halfBound (s : State) (h : Nat) : Int :=
  if h = 0 then s.halfShare 0 + s.arb.ledger else s.halfShare 1 - s.arb.ledger

/-- Free quanta of a half, never below 0 (R310). -/
def State.halfFree (s : State) (h : Nat) : Nat :=
  (s.halfBound h - s.outHalf h - s.trickleHalf h).toNat

/-- Does the half's test pass for `q` quanta (R310)? -/
def State.halfFits (s : State) (h q : Nat) : Bool :=
  decide ((s.outHalf h + s.trickleHalf h + q : Int) ≤ s.halfBound h)

/-- How far outstanding and trickle exceed the ceiling (R140). -/
def State.excess (s : State) : Nat := s.outstanding + s.trickleAllow - s.ceiling

/-! ### Budget contexts (R153–R156) -/

/-- The budget context of a cluster (R153). -/
def State.ctxOf (s : State) (c : Nat) : Nat := s.fld (AGT_CFG.CTX c)

/-- cap_q of a context (R154). -/
def State.capQ (s : State) (x : Nat) : Nat := s.ceiling * s.ctxMax x / 65536

/-- floor_q of a context, 0 while floors are off (R154, ADM_CTRL.FLOOR_EN). -/
def State.floorQ (s : State) (x : Nat) : Nat :=
  if s.flag ADM_CTRL.FLOOR_EN then s.ceiling * s.fld (ADM_CTX_MIN.MIN x) / 65536 else 0

/-- Outstanding quanta of a context (R156). -/
def State.ctxOut (s : State) (x : Nat) : Nat := s.outstandingOf (fun c => s.ctxOf c == x)

/-- The contexts with an engine above idle. -/
def State.activeCtxs (s : State) : List Nat :=
  ((s.agents.filter (fun q => q.2.active)).map (fun q => s.ctxOf q.1)).dedup

/-- The unmet floor of a context with an engine above idle (R155). -/
def State.unmetOf (s : State) (x : Nat) : Nat := s.floorQ x - s.ctxOut x

/-- unmet_floors as it stands against a request of context `x`: 0 below its own floor (R127). -/
def State.unmetAgainst (s : State) (x : Nat) : Nat :=
  let act := s.activeCtxs
  if act.contains x ∧ 0 < s.unmetOf x then 0
  else ((act.filter (fun y => y != x)).map s.unmetOf).sum

/-- room for a request of context `x` (R127). -/
def State.roomFor (s : State) (x : Nat) : Int :=
  (s.ceiling : Int) - s.outstanding - s.trickleAllow - s.unmetAgainst x

/-! ### Stripes, freezes, sleeping halves -/

/-- Stripes by position before rotation, in the order that ADM_CTRL.WAVE_ORDER chooses (R134). -/
def stripeOrder (alternate : Bool) : List Nat :=
  if alternate then [0, 8, 1, 9, 2, 10, 3, 11, 4, 12, 5, 13, 6, 14, 7, 15] else List.range 16

/-- The stripe at a position of the most recent wave, in the order it started with (R134, R135, R140). Before any wave has run
it is LINEAR order without rotation, a choice: R140 names the most recent wave alone (log 181). -/
def State.stripeAt (s : State) (pos : Nat) : Nat := listGet 0 (stripeOrder s.arb.order) ((pos + s.arb.rot) % 16)

/-- The place of a stripe in an order. -/
def placeOf (order : List Nat) (st : Nat) : Nat := (order.findIdx? (fun x => x == st)).getD 0

/-- Is the half asleep: half_off_ack high (R137, R314)? -/
def State.asleep (s : State) (h : Nat) : Bool :=
  if h = 0 then s.flag STILE_STATUS.ASLEEP_N else s.flag STILE_STATUS.ASLEEP_S

/-- A hold freeze presented by any rail keeper (R204). -/
def State.holdFreeze (s : State) : Bool := (List.range 4).any (fun n => s.flag (RAIL_STATUS.HOLD_FREEZE n))

/-- Is the stripe frozen for grants: by the droop engine or a hold freeze (R176, R204)? -/
def State.frozen (s : State) (st : Nat) : Bool := bitAt s.drp.freeze st || s.holdFreeze

/-- Are the half's stripes paused: half_off_req high (R90) or the half asleep (R137)? -/
def State.paused (s : State) (h : Nat) : Bool := bitAt s.halfReq h || s.asleep h

/-- A block reset is in progress (R106). -/
def State.inReset (s : State) : Bool := s.flag HEATH_RESET_CTRL.BLOCK_RESET

/-- Admission is open: ACTIVE with rails_ready high, no leg out of ACTIVE begun, and no block reset in progress (R40, R91,
R158, R138 order 1). -/
def State.admits (s : State) : Bool :=
  s.fld HEATH_DOMAIN_STATUS.PSTATE == 3 && !s.flag HEATH_DOMAIN_STATUS.IN_TRANSIT && s.ps.railsReady && !s.inReset

/-! ### Shadows (R57) -/

/-- AGT_ENG of an agent. -/
def Agent.engWord (a : Agent) : Nat :=
  ((List.range 4).map (fun e =>
    let x := a.engine e
    (x.code % 8 + 8 * x.grant + 64 * bnat (x.grant < x.req) + 128 * bnat x.revoked) * 2 ^ (8 * e))).sum

/-- AGT_STATUS of a cluster. -/
def State.agtStatusWord (s : State) (c : Nat) : Nat :=
  let a := s.agent c
  let un := (s.arb.resvs.map (fun r => r.open_ (fun k => k == c))).sum
  let ann := s.arb.resvs.any (fun r => r.live && SMap.has r.shares c)
  min un 255 * 2 ^ 24 + min a.heldSum 255 * 2 ^ 16 + min a.pocket 255 * 2 ^ 8 + 16 * bnat ann
    + 8 * bnat a.active + 4 * bnat (s.frozen (stripeOf c) || decide (s.skyNs < a.det.stopUntil) || a.det.d == 3)
    + 2 * bnat a.run + bnat (s.present c)

/-- The shadows of a cluster's grant state take their values of now. -/
def State.shadowNow (s : State) (c : Nat) : State :=
  let a := s.agent c
  (((s.setReg (AGT_STATUS c) (s.agtStatusWord c)).setReg (AGT_ENG c) a.engWord).setReg (AGT_LAST c)
    (((List.range 4).map (fun e => (a.engine e).last * 2 ^ (3 * e))).sum)).setReg (AGT_RING_HEAD c) (s.ringOf c).head

/-- The shadows of the grant state are refreshed, on every grant state change of a cluster whose clock runs; those of a
stopped cluster stay as they were when its clock stopped (R57). -/
def State.shadow (s : State) (c : Nat) : State := if (s.agent c).run then s.shadowNow c else s

/-! ### Grant waits (R432) and sampling (R444, R445) -/

/-- An entry in the sample ring for a wait that ended: one in 2^RATE_SHIFT, as the half was last told it, chosen by a free
value (the LFSR is not laid out; log 3). In TAGGED mode a request granted locally is not tagged (R445). -/
def State.sampleWait (s : State) (c e : Nat) (x : Engine) (start : Nat) (withdrawn viaArb : Bool) : State :=
  let pos := s.dieId * 2 ^ 11 + c * 4 + e
  let took := s.drawn % 2 ^ listGet 0 s.rings.shift (halfOf c) = 0
  let age := s.now - start
  let waitEntry : RingEntry := ⟨s.stampAt s.agentPs (s.skyNs - age) % 2 ^ 48, 0x60, bnat (s.interpAt s.agentPs (s.skyNs - age)),
    pos + (x.req + 8 * bnat x.back + 16 * bnat x.drew + 32 * bnat withdrawn) * 2 ^ 16 + min age 0xFFFFFFFF * 2 ^ 32⟩
  let off (t : Option Nat) := match t with | some u => min (u - x.sentAt) 0xFFFE | none => 0xFFFF
  let sent := s.skyNs - (s.now - x.sentAt)
  let tagEntry : RingEntry := ⟨s.stampAt s.agentPs sent % 2 ^ 48, 0x61, bnat (s.interpAt s.agentPs sent),
    pos + off x.arbAt * 2 ^ 16 + off x.stileAt * 2 ^ 32 + (if withdrawn then 0xFFFF else off (some s.now)) * 2 ^ 48⟩
  if !took then s.spent
  else if s.flag RING_SAMP.MODE then (if viaArb then s.spent.logSample tagEntry else s.spent) else s.spent.logSample waitEntry

/-- A grant wait of engine `e` begins where its class is above eng_grant (R432). -/
def Engine.beginWait (x : Engine) (now : Nat) : Engine :=
  match x.waitFrom with
  | some _ => x
  | none => { x with waitFrom := some now, back := false, drew := false, revoked := false, exceeded := false }

/-- The wait counters after a wait of `d` ns (R431, R432). -/
def AgentCounters.wait (k : AgentCounters) (d : Nat) : AgentCounters :=
  { k with waits := (k.waits + 1) % 2 ^ 32, waitNs := k.waitNs + d, waitMax := min (max k.waitMax d) (2 ^ 32 - 1) }

/-- The grant wait of engine `e` of cluster `c` ends, if one is open (R432, R444); one longer than RING_WAIT_TRIG has
exceeded it (R441). -/
def State.endWait (s : State) (c e : Nat) (withdrawn viaArb : Bool) : State :=
  let a := s.agent c
  let x := a.engine e
  match x.waitFrom with
  | none => s
  | some t =>
    let a' := { a.setEngine e { x with waitFrom := none, revoked := false } with cnt := a.cnt.wait (s.now - t) }
    let s1 := (s.setAgent c a').sampleWait c e x t withdrawn viaArb
    if !x.exceeded && decide (s.reg RING_WAIT_TRIG < s.now - t) then s1.ringEvent 7 else s1

/-- RING_WAIT_TRIG_EXCEEDED: an open wait passes RING_WAIT_TRIG (R441 source 7); the time is reached first. -/
def State.waitExceeds (s : State) (c e : Nat) : State :=
  let x := (s.agent c).engine e
  match x.waitFrom with
  | some t =>
    if x.exceeded then s
    else
      let s1 := s.advanceTo (t + s.reg RING_WAIT_TRIG + 1)
      (s1.setAgent c ((s1.agent c).setEngine e { x with exceeded := true })).ringEvent 7
  | none => s

/-! ### Agents -/

/-- Quanta taken from held lots, oldest first: what is left of the lots, and of the need. -/
def takeHeld : List (Nat × Nat) → Nat → List (Nat × Nat) × Nat
  | [], need => ([], need)
  | (q, t) :: ls, need => if need < q then ((q - need, t) :: ls, 0) else takeHeld ls (need - q)

/-- May the agent make local grants: admission is open, and neither its local stop nor a delivered freeze applies (R120,
R158, R174)? -/
def State.mayGrantLocally (s : State) (c : Nat) : Bool :=
  let a := s.agent c
  s.admits && !s.frozen (stripeOf c) && a.det.d != 3 && !decide (s.skyNs < a.det.stopUntil)

/-- All engines idle: the idle time starts, or is cleared (R123). -/
def Agent.noteIdle (a : Agent) (now : Nat) : Agent :=
  if a.engines.all (fun x => x.req == 0) then
    { a with idleSince := match a.idleSince with | some t => some t | none => some now }
  else { a with idleSince := none }

/-- Ring data of a class change. -/
def classData (e old new : Nat) (rest : List Nat := []) : Nat := dataBytes ([e, old, new] ++ rest)

/-- An engine's class as sampled (R64). -/
def Agent.noteCode (a : Agent) (e cls : Nat) : Agent := a.setEngine e { a.engine e with code := cls }

/-- The grant of an engine takes a class; one above idle is the last granted (R149, R161). -/
def Engine.take (x : Engine) (cls : Nat) : Engine := { x with grant := cls, granted := if 0 < cls then cls else x.granted }

/-- An engine's sampled class rises (R120, R66): covered from held quanta and the pocket, or forwarded. -/
def State.classRise (s : State) (c e cls : Nat) : State :=
  let a := (s.agent c).noteCode e cls
  let x := a.engine e
  let new := min cls 4
  if !s.present c || !a.run || decide (4 ≤ e) then s
  else
    if new ≤ x.req then (s.setAgent c a).shadow c
    else
      let x1 := { x with req := new }
      let need := s.quanta new - s.quanta x.grant
      if new ≤ x.grant then s.setAgent c ((a.setEngine e x1).noteIdle s.now)
      else if need ≤ a.heldSum + a.pocket ∧ s.mayGrantLocally c then
        let (lots, short) := takeHeld a.held need
        let x2 := (x1.take new).beginWait s.now
        let a2 := ({ a with held := lots, pocket := a.pocket - short,
                            reports := a.reports ++ [(need : Int)] }.setEngine e x2).noteIdle s.now
        (((s.setAgent c a2).endWait c e false false).logAgent c 0x01 (classData e x.grant new [0])).shadow c
      else
        let x2 := { x1.beginWait s.now with sentAt := s.now, arbAt := none, stileAt := none }
        (s.setAgent c ((a.setEngine e x2).noteIdle s.now)).shadow c

/-- An engine goes idle: the class granted to it last, whether or not it still has the grant, is what AGT_LAST shows (R161).
-/
def Engine.noteLast (x : Engine) : Engine := if 0 < x.granted then { x with last := x.granted, granted := 0 } else x

/-- An engine's sampled class falls (R121): the difference moves to held quanta and eng_grant falls. While cl_run is low the
agent takes every class as idle (R70). A wait that ends with the fall was for the class before it (R444). -/
def State.classFall (s : State) (c e cls : Nat) : State :=
  let a0 := (s.agent c).noteCode e cls
  let x0 := a0.engine e
  if !s.present c || !a0.run || decide (4 ≤ e) then s
  else if x0.req ≤ cls then (s.setAgent c a0).shadow c
  else
    let s1 := if cls ≤ x0.grant then s.endWait c e true true else s
    let a := (s1.agent c).noteCode e cls
    let x := a.engine e
    let diff := s.quanta x.grant - s.quanta cls
    let x1 : Engine := if cls < x.grant then { x with req := cls }.take cls else { x with req := cls }
    let x2 := if cls = 0 then x1.noteLast else x1
    let a1 := if cls < x.grant then
        { a with held := a.held ++ (if diff = 0 then [] else [(diff, s.now)]), reports := a.reports ++ [-(diff : Int)] } else a
    let s2 := s1.setAgent c ((a1.setEngine e x2).noteIdle s.now)
    (if cls < x.grant then s2.logAgent c 0x02 (classData e x.grant cls) else s2).shadow c

/-- Release hysteresis in ns (ADM_HYST). -/
def State.hyst (s : State) : Nat := 250 * s.fld ADM_HYST.HYST

/-- Held lots that have expired move to the pocket if an engine is above idle, the rest returns (R122). -/
def State.heldExpiry (s : State) (c : Nat) : State :=
  match (s.agent c).held with
  | [] => s
  | (_, t) :: _ =>
    let s := s.advanceTo (t + s.hyst)
    let a := s.agent c
    let due := a.held.filter (fun p => decide (p.2 + s.hyst ≤ s.now))
    let q := (due.map (fun p => p.1)).sum
    let size := s.fld ADM_POCKET.SIZE
    let pocket := if a.active then max a.pocket (min size (a.pocket + q)) else a.pocket
    (s.setAgent c { a with held := a.held.filter (fun p => decide (s.now < p.2 + s.hyst)), pocket := pocket }).shadow c

/-- Every engine idle for one hysteresis: pocket and held quanta return to the half-pool (R123). -/
def State.clusterIdle (s : State) (c : Nat) : State :=
  match (s.agent c).idleSince with
  | none => s
  | some t =>
    let s := s.advanceTo (t + s.hyst)
    (s.setAgent c { s.agent c with held := [], pocket := 0 }).shadow c

/-- The arbiter's slots without those of engine `e` of cluster `c`. -/
def dropSlot (sl : List ReqSlot) (c e : Nat) : List ReqSlot :=
  sl.filter (fun x => !(x.cluster == c && x.engine == e))

/-- A wait that opens without a new request has none of an earlier one's times: it dates from now, has not arrived and was not
granted (R445). -/
def Engine.askAgain (x : Engine) (now : Nat) : Engine :=
  if x.waitFrom.isSome then x else { x with sentAt := now, arbAt := none, stileAt := none }

/-- Every engine of a cluster falls to idle and its grant is dropped; what was granted is reported (R70, R157). -/
def State.dropGrants (s : State) (c : Nat) (clearReq : Bool) : State :=
  let a := s.agent c
  let q := (a.engines.map s.freedBy).sum
  let eng (x : Engine) : Engine :=
    let y := if clearReq then x.noteLast else x
    let z := { y with req := (if clearReq then 0 else x.req), code := (if clearReq then 0 else x.code), grant := 0, incoming := none }
    if 0 < z.req then (z.askAgain s.now).beginWait s.now else z
  let reports := if q = 0 then a.reports else a.reports ++ [-(q : Int)]
  s.setAgent c ({ a with engines := a.engines.map eng, held := [], pocket := 0, reclaim := false, reports := reports }.noteIdle s.now)

/-- A reclaim message reaches the agent: pocket and held quanta return (R140 step 2, R141). -/
def State.reclaimArrives (s : State) (c : Nat) : State :=
  let a := s.agent c
  if a.reclaim then (s.setAgent c { a with held := [], pocket := 0, reclaim := false }).shadow c else s

/-- An arbiter grant reaches the agent, which drives the granted class; what the engine no longer asks for
becomes held quanta (R66, R132). -/
def State.deliver (s : State) (c e : Nat) : State :=
  let a := s.agent c
  let x := a.engine e
  match x.incoming with
  | none => s
  | some (g, f) =>
    let n := s.quanta g - s.quanta f
    let t := min g x.req
    let need := s.quanta t - s.quanta x.grant
    let ok := decide (x.grant ≤ t) && decide (need ≤ n)
    let x1 : Engine := { x.take (if ok then t else x.grant) with incoming := none }
    let extra := if ok then n - need else n
    let a1 := { a with held := a.held ++ (if extra = 0 then [] else [(extra, s.now)]),
                       reports := if extra = 0 then a.reports else a.reports ++ [-(extra : Int)] }
    let s1 := s.setAgent c (a1.setEngine e x1)
    let s2 := if x1.req ≤ x1.grant then s1.endWait c e false true else s1
    (s2.logAgent c 0x01 (classData e x.grant x1.grant [if x.drew then 2 else 1])).shadow c

/-! ### Waves (R134–R137, R177) -/

/-- What a waiting request asks for. -/
def State.slotNeed (s : State) (sl : ReqSlot) : Nat :=
  s.quanta sl.cls - s.quanta ((s.agent sl.cluster).engine sl.engine).counted

/-- Quanta requested by the waiting engines (R135). -/
def State.requested (s : State) : Nat := (s.arb.slots.map s.slotNeed).sum

/-- What the waiting engines of a cluster request. -/
def State.requestedOf (s : State) (c : Nat) : Nat := ((s.arb.slots.filter (fun sl => sl.cluster == c)).map s.slotNeed).sum

/-- A position opens: the proactive force covers it while it lasts (R177). -/
def State.positionOpens (s : State) (pos : Nat) : State :=
  if pos < s.drp.proLeft then
    let st := s.stripeAt pos
    { s with drp := { s.drp with pro := maskSet s.drp.pro st,
                                 proEnd := SMap.enter s.drp.proEnd st (s.now + 25 * s.fld DRP_PRO.TIME) } }
  else s

/-- The next position opens, and after it the positions of a sleeping half (R135, R137). `fuel` bounds the skips. -/
def State.openNext : Nat → State → State
  | 0, s => s
  | fuel + 1, s =>
    if 16 ≤ s.arb.open_ then s
    else
      let pos := s.arb.open_
      let s1 := ({ s with arb := { s.arb with open_ := pos + 1 } }).positionOpens pos
      if s.asleep (halfOfStripe (s.stripeAt pos)) then State.openNext fuel s1 else s1

/-- Positions of a sleeping half that stand next in the order open immediately (R137). -/
def State.skipAsleep : Nat → State → State
  | 0, s => s
  | fuel + 1, s =>
    if 16 ≤ s.arb.open_ then s
    else if s.asleep (halfOfStripe (s.stripeAt s.arb.open_)) then
      State.skipAsleep fuel (({ s with arb := { s.arb with open_ := s.arb.open_ + 1 } }).positionOpens s.arb.open_)
    else s

/-- A mowing wave starts at position 0, with WAVE_ROTATE at the stripe that held position 1 of the wave before (R135); a
large one stretches its leading positions (R177). `reserved`: unclaimed
quanta beyond what their clusters request, so that no quantum counts twice (DEDUCED, log 39). -/
def State.startWave (s : State) (reserved : Nat) : State :=
  let alt := s.flag ADM_CTRL.WAVE_ORDER
  let rot := if s.flag ADM_CTRL.WAVE_ROTATE then placeOf (stripeOrder alt) s.arb.nextStripe else 0
  let total := s.requested + reserved
  let pro := s.flag DRP_CTRL.PRO_EN && decide (s.fld DRP_PRO.THRESH ≤ total)
  let s1 := { s with
    arb := { s.arb with wave := true, order := alt, rot := rot, nextStripe := listGet 0 (stripeOrder alt) ((rot + 1) % 16),
                        open_ := 0, stepGrants := 0, stepQuanta := 0 },
    drp := { s.drp with proLeft := if pro then s.fld DRP_PRO.STRIPES else 0 } }
  let s2 := s1.logArb 0x20 (dataBytes ([0, s1.stripeAt 0, 0, 0] ++ leBytes 4 total))
  State.skipAsleep 16 (State.openNext 16 s2)

/-- A wave starts when the waiting quanta reach THRESH (R135). -/
def State.checkWave (s : State) : State :=
  if !s.arb.wave && s.admits && !s.arb.slots.isEmpty && decide (s.fld ADM_WAVE.THRESH ≤ s.requested) then s.startWave 0 else s

/-- The wave ends when no request waits and no reservation that started or joined it has unclaimed quanta (R135). -/
def State.checkWaveEnd (s : State) : State :=
  if s.arb.wave && s.arb.slots.isEmpty && s.arb.resvs.all (fun r => !r.joined || r.open_ (fun _ => true) == 0) then
    ({ s with arb := { s.arb with wave := false, resvs := s.arb.resvs.map (fun (r : Reservation) => { r with joined := false }) } }).logArb 0x20
      (dataBytes [1, s.stripeAt 0])
  else s

/-- A forwarded request reaches the arbiter: its slot is entered, updated in place or withdrawn (R133). The cause
of a new one is FRONT until a scan reaches it (R435). -/
def State.requestArrives (s : State) (c e : Nat) : State :=
  let a := s.agent c
  let x := a.engine e
  if s.inReset || !s.present c || decide (4 ≤ e) then s
  else
    let sl := s.arb.slots
    let isNew := !sl.any (fun y => y.cluster == c && y.engine == e)
    let sl' :=
      if x.req ≤ x.counted ∨ a.run = false then dropSlot sl c e
      else if isNew then sl ++ [⟨c, e, x.req, false⟩]
      else sl.map (fun y => if y.cluster == c && y.engine == e then { y with cls := x.req } else y)
    ({ s.setAgent c (a.setEngine e { x with arbAt := some s.now, back := !isNew && x.back }) with
        arb := { s.arb with slots := sl' } }).checkWave.checkWaveEnd

/-! ### The scan (R131, R136, R148) -/

/-- Reasons under which a request that fails room waits with cause BACK (R435): bits of BUD_RSN_ACTIVE. -/
def backReasons : List Nat := [0, 1, 2, 3, 4, 5, 6, 7, 8, 9, 0xC, 0xE]

/-- The cause of a wait that failed room (R435). -/
def State.roomCause (s : State) : Bool := backReasons.any (fun k => bitAt (s.fld BUD_RSN_ACTIVE.ACTIVE) k)

/-- The reservation that holds unclaimed quanta for a cluster (R148, R151). -/
def State.resvFor (s : State) (c : Nat) : Option Reservation :=
  s.arb.resvs.find? (fun r => r.live && decide (0 < SMap.get (fun _ => 0) r.unclaimed c))

/-- The arbiter with a reservation replaced. -/
def Arbiter.setResv (a : Arbiter) (r : Reservation) : Arbiter :=
  { a with resvs := a.resvs.map (fun x => if x.id == r.id then r else x) }

/-- The most that a half may have lent: LEND_MAX / 16 of its own bound (R311). -/
def State.lendLimit (s : State) (lender : Nat) : Int := ((s.fld STILE_CTRL.LEND_MAX * s.halfShare lender / 16 : Nat) : Int)

/-- Is |L| beyond the limit of the half that has lent (R311, R313)? -/
def State.overLent (s : State) (l : Int) : Bool :=
  if 0 ≤ l then decide (s.lendLimit 1 < l) else decide (s.lendLimit 0 < -l)

/-- The Stile's borrow for what passes the die test and fails its half's (R311): the ledger after it. None takes place
while |L| is beyond the limit (R313). -/
def State.borrow (s : State) (h q : Nat) : Option Int :=
  let lender := 1 - h
  let short := ((s.outHalf h + s.trickleHalf h + q : Int) - s.halfBound h).toNat
  let sign : Int := if h = 0 then 1 else -1
  let most := (s.lendLimit lender - sign * s.arb.ledger).toNat
  let amount := min (min (max short (s.fld STILE_CTRL.CHUNK)) (s.halfFree lender)) most
  let l := s.arb.ledger + sign * amount
  if (s.asleep lender ∧ s.flag STILE_CTRL.SLEEP_LEND = false) ∨ amount < short ∨ s.overLent s.arb.ledger = true
      ∨ s.overLent l = true then none
  else some l

/-- A signed number as 2 bytes of ring data. -/
def le2 (i : Int) : List Nat := leBytes 2 (ofSigned 16 i)

/-- The ledger after a borrow, which is counted and logged (R311, R440). -/
def State.lend (s : State) (l : Int) : State :=
  (({ s with arb := { s.arb with ledger := l } }).incSat STILE_CNT.BORROWS).logArb 0x26 (dataBytes (le2 (l - s.arb.ledger) ++ le2 l))

/-- The outcome of one request's turn in the scan: passed over, the scan stops, granted. -/
inductive ScanResult where
  | passed | stop | granted
deriving DecidableEq, Repr

/-- The wait cause reaches the slot and the agent (R435). -/
def State.setCause (s : State) (sl : ReqSlot) (back : Bool) : State :=
  let a := s.agent sl.cluster
  let s1 := s.setAgent sl.cluster (a.setEngine sl.engine { a.engine sl.engine with back := back })
  { s1 with arb := { s1.arb with slots := s1.arb.slots.map (fun y =>
      if y.cluster == sl.cluster && y.engine == sl.engine then { y with back := back } else y) } }

/-- The grant of a request is decided: quanta counted, credit, unann and r.left charged (R131, R148). -/
def State.grantSlot (s : State) (sl : ReqSlot) (part rem : Nat) : State :=
  let a := s.agent sl.cluster
  let x := a.engine sl.engine
  let from_ := match x.incoming with | some (_, f) => f | none => x.grant
  let s1 := s.setAgent sl.cluster (a.setEngine sl.engine
    { x with incoming := some (sl.cls, from_), drew := x.drew || decide (0 < part), stileAt := some s.now })
  let arb := { s1.arb with
    slots := dropSlot s1.arb.slots sl.cluster sl.engine
    credit := s1.arb.credit - ((part + rem) * 1024 : Nat)
    unann := s1.arb.unann - (rem * 1024 : Nat)
    ff := s1.arb.ff + (part + rem : Nat)
    stepGrants := s1.arb.stepGrants + 1
    stepQuanta := s1.arb.stepQuanta + part + rem }
  let s2 := { s1 with arb := arb }
  match (if part = 0 then none else s.resvFor sl.cluster) with
  | none => s2
  | some r =>
    let un := SMap.put (fun _ => 0) r.unclaimed sl.cluster (SMap.get (fun _ => 0) r.unclaimed sl.cluster - part)
    let r0 : Reservation := { r with unclaimed := un }
    let r1 := { r0 with left := r.left - (part * 1024 : Nat), biasOn := r.biasOn && !r0.claimed }
    let s3 := { s2 with arb := s2.arb.setResv r1 }
    if r0.claimed then s3.logArb 0x24 (dataBytes ([1, 0] ++ leBytes 2 0 ++ leBytes 4 r.tag)) else s3

/-- One request's turn: its own tests, credit, r.left, unann, room, its half with the Stile (R136, R148, R311, R313). The
tests of its stripe, its half and its context cap stand first, and the cap is tested also where the request draws nothing but
reserved quanta, choices (log 183 for the latter): R136 does not say where they stand against credit
and room, so a request that fails one of them and room too is passed over (log 142). -/
def State.trySlot (s : State) (sl : ReqSlot) : ScanResult × State :=
  let c := sl.cluster
  let need := s.slotNeed sl
  let ctx := s.ctxOf c
  let part := match s.resvFor c with
    | some r => min need (SMap.get (fun _ => 0) r.unclaimed c)
    | none => 0
  let rem := need - part
  let leftOk := match s.resvFor c with | some r => decide (0 < r.left) | none => true
  if s.frozen (stripeOf c) || s.paused (halfOf c) then (.passed, s.setCause sl false)
  else if s.capQ ctx < s.ctxOut ctx + rem then (.passed, s.setCause sl true)
  else if s.arb.credit ≤ 0 then (.stop, s.setCause sl false)
  else if decide (0 < part) && !leftOk then (.passed, s.setCause sl false)
  else if (decide (0 < rem) || part == 0) && decide (s.arb.unann ≤ 0) then (.passed, s.setCause sl false)
  else if 0 < rem ∧ s.roomFor ctx < rem then (.stop, s.setCause sl s.roomCause)
  else if s.halfFits (halfOf c) rem then (.granted, s.grantSlot sl part rem)
  else
    match s.borrow (halfOf c) rem with
    | none => (.stop, s.setCause sl s.roomCause)
    | some l => (.granted, (s.lend l).grantSlot sl part rem)

/-- The requests a scan reaches, in order (R136): during a wave only those of open stripes (log 22). -/
def State.scanned (s : State) : List ReqSlot :=
  if s.arb.wave then
    (List.range s.arb.open_).flatMap (fun p => s.arb.slots.filter (fun sl => stripeOf sl.cluster == s.stripeAt p))
  else s.arb.slots

/-- Is the request's context below its floor (R136 order 1)? -/
def State.belowFloor (s : State) (sl : ReqSlot) : Bool := decide (0 < s.unmetOf (s.ctxOf sl.cluster))

/-- The scan over a list of requests with at most `n` grants (R132, R136): the grants left, whether it stopped. -/
def State.scan : List ReqSlot → Nat → State → Nat × Bool × State
  | [], n, s => (n, false, s)
  | _, 0, s => (0, true, s)
  | sl :: rest, n + 1, s =>
    match s.trySlot sl with
    | (.passed, s1) => State.scan rest (n + 1) s1
    | (.stop, s1) => (n + 1, true, s1)
    | (.granted, s1) => State.scan rest n s1

/-- The borrowing half repays from its free quanta after the grants (R312). -/
def State.repay (s : State) : State :=
  let l := s.arb.ledger
  if 0 < l then { s with arb := { s.arb with ledger := l - min l (s.halfFree 0) } }
  else if l < 0 then { s with arb := { s.arb with ledger := l + min (-l) (s.halfFree 1) } }
  else s

/-- Quanta a half can take of `q`, and the state after the borrow they need: all of them where they fit or the Stile
borrows, else what is free (R129, R311). -/
def State.halfTake (s : State) (h q : Nat) : Nat × State :=
  if s.halfFits h q then (q, s)
  else match s.borrow h q with
    | some l => (q, s.lend l)
    | none => (min q (s.halfFree h), s)

/-- A live reservation takes quanta freed since its start ahead of every request but floor requests, within the room, the
context's cap and the half's bound (R129, R147). Which reservation, and which of its clusters, is filled first where room is
short R147 does not say: by order of creation and by cluster index upward, a choice (log 159). -/
def State.fillResv (s : State) (r : Reservation) : State :=
  each r.shares (fun p t =>
    let c := p.1
    match t.arb.resvs.find? (fun y => y.id == r.id) with
    | none => t
    | some r1 =>
      let ctx := t.ctxOf c
      let got := SMap.get (fun _ => 0) r1.taken c
      let un := SMap.get (fun _ => 0) r1.unclaimed c
      let want := min (p.2 - got) (min (t.roomFor ctx).toNat (t.capQ ctx - t.ctxOut ctx))
      if want = 0 then t
      else
        let (most, u) := t.halfTake (halfOf c) want
        { u with arb := u.arb.setResv { r1 with
            taken := SMap.put (fun _ => 0) r1.taken c (got + most)
            unclaimed := SMap.put (fun _ => 0) r1.unclaimed c (un + most) } }) s

/-- During a wave the cause of a request whose position is not yet open is FRONT (R435). -/
def State.frontClosed (s : State) : State :=
  if s.arb.wave then
    each (s.arb.slots.filter (fun sl => sl.back && !s.scanned.contains sl)) (fun sl t => t.setCause sl false) s
  else s

/-- A revocation pass that runs is over, and the ring says so (R140, R440). -/
def State.endPass (s : State) : State :=
  if s.arb.revoking then
    ({ s with arb := { s.arb with revoking := false } }).logArb 0x23
      (dataBytes ([1, 0] ++ leBytes 2 s.arb.reclaimed ++ leBytes 2 s.outstanding))
  else s

/-- One block core cycle of the arbiter's scan (R138 orders 7 and 8): no grant while over the ceiling, but the Stile's
repayment in every cycle (R312). While a floor request waits for room or credit no reservation takes quanta (R147). A wave
starts as soon as the waiting quanta reach the threshold (R135). -/
def State.arbiterCycle (s : State) : State :=
  if !s.admits ∨ 0 < s.excess then s.repay
  else
    let s1 := s.endPass.checkWave.frontClosed
    let (n, stop, s2) := State.scan (s1.scanned.filter s1.belowFloor) 8 s1
    let s3 := if stop then s2 else each (s2.arb.resvs.filter (fun r => r.live)) (fun r t => t.fillResv r) s2
    let s4 := if stop then s3 else (State.scan (s3.scanned.filter (fun sl => !s1.belowFloor sl)) n s3).2.2
    s4.repay.checkWaveEnd

/-! ### Step boundaries (R130) -/

/-- 1/1,024 quanta that a slope in quanta/µs gives in `ns`, rounded down: R130 gives no rounding, a choice (log 143). -/
def slopeQuanta (slope ns : Nat) : Int := ((slope * ns * 1024 / 1000 : Nat) : Int)

/-- The highest effective announced slope: that of the live reservations (R130). -/
def State.announcedSlope (s : State) : Nat :=
  ((s.arb.resvs.filter (fun r => r.live)).map (fun r => r.slope)).foldl max 0

/-- Credit, unann and the reservation counters refill at a step boundary (R130). -/
def State.refill (s : State) : State :=
  let up := s.fld ADM_SLOPE.UP
  let step := s.fld ADM_WAVE.STEP
  let aUp := slopeQuanta up step
  let aMax := slopeQuanta (max up s.announcedSlope) step
  { s with arb := { s.arb with
      credit := min (s.arb.credit + aMax) aMax
      unann := min (s.arb.unann + aUp) aUp
      resvs := s.arb.resvs.map (fun r =>
        { r with left := min (r.left + slopeQuanta r.slope step) (slopeQuanta r.slope step) }) } }

/-- The next step boundary: the Skylark time moves on to it (R130). -/
def State.toStep (s : State) (last : Nat) : State :=
  let step := s.fld ADM_WAVE.STEP
  s.advanceSky (max (ceilMult s.skyNs step) (ceilMult (last + 1) step))

/-- A step boundary: the counters refill and the next wave position opens (R130, R135). -/
def State.stepBoundary (s : State) : State :=
  let s1 := s.toStep s.arb.stepAt
  if !s1.admits then { s1 with arb := { s1.arb with stepAt := s1.skyNs } }
  else
    let s2 := ({ s1 with arb := { s1.arb with stepAt := s1.skyNs } }).refill
    let s3 := if s2.arb.wave ∨ s2.arb.revoking then
        s2.logArb 0x21 (dataBytes (leBytes 2 s2.arb.stepGrants ++ leBytes 2 s2.arb.stepQuanta ++ leBytes 4 (ofSigned 32 s2.arb.credit)))
      else s2
    let s4 := { s3 with arb := { s3.arb with stepGrants := 0, stepQuanta := 0 } }
    if s4.arb.wave then State.skipAsleep 16 (State.openNext 16 s4) else s4

/-! ### Revocation (R140–R142) -/

/-- Reclaim unclaimed reservation quanta, up to the excess (R140 step 1). -/
def takeUnclaimed : SMap Nat → Nat → SMap Nat × Nat
  | [], n => ([], n)
  | (c, q) :: m, n => if n < q then ((c, q - n) :: m, 0) else takeUnclaimed m (n - q)

/-- Step 1 of the pass over all reservations. Which of them gives first R140 does not say: in order of creation, and within
one by cluster index upward, a choice (log 159). -/
def reclaimResvs : List Reservation → Nat → List Reservation × Nat
  | [], n => ([], n)
  | r :: rs, n =>
    let (u, n1) := takeUnclaimed r.unclaimed n
    let (rs', n2) := reclaimResvs rs n1
    (r.keeps u :: rs', n2)

/-- Clusters in reclaim order: reverse stripe position of the most recent wave, highest cluster first (R140). -/
def State.reclaimOrder (s : State) : List Nat :=
  (List.range 16).reverse.flatMap (fun p =>
    let st := s.stripeAt p
    (s.agents.map (fun q => q.1)).reverse.filter (fun c => stripeOf c == st))

/-- Step 2: reclaim messages to agents until the excess is gone (R140). Which agents give first R140 does not say: in the
order that it gives for steps 3–5, a choice (log 159). -/
def State.reclaimStores (s : State) : State :=
  each s.reclaimOrder (fun c t =>
    let a := t.agent c
    if t.excess = 0 ∨ a.stored = 0 then t
    else { t.setAgent c { a with reclaim := true } with arb := { t.arb with reclaimed := t.arb.reclaimed + a.stored } }) s

/-- The request of a revoked engine returns to the head of its stripe's queue (R141). -/
def headOfStripe (c e cls : Nat) : List ReqSlot → List ReqSlot
  | [] => [⟨c, e, cls, false⟩]
  | y :: ys => if stripeOf y.cluster == stripeOf c then ⟨c, e, cls, false⟩ :: y :: ys else y :: headOfStripe c e cls ys

/-- One engine's grant is revoked (R141): a new wait begins, whose request is at the arbiter already (R432, R445). REVOKED
shows it during the wait only (R161). -/
def State.revokeEngine (s : State) (c e : Nat) : State :=
  let a := s.agent c
  let x := a.engine e
  let q := s.freedBy x
  if q = 0 then s
  else
    let cls := x.counted
    let x1 : Engine := { x with grant := 0, incoming := none }
    let x2 := if x1.waitFrom.isSome then x1 else { x1 with sentAt := s.now, arbAt := some s.now, stileAt := none }
    let a1 := { a.setEngine e (if x.req = 0 then x1 else { x2.beginWait s.now with revoked := true }) with
      cnt := { a.cnt with revokes := (a.cnt.revokes + 1) % 256 } }
    let sl := dropSlot s.arb.slots c e
    let s1 := { s.setAgent c a1 with arb := { s.arb with
        slots := if x.req = 0 then sl else headOfStripe c e x.req sl
        ff := s.arb.ff - q
        allow := s.arb.allow - (q * 1024 : Nat)
        reclaimed := s.arb.reclaimed + q } }
    ((s1.setFlag ADM_STATUS.REVOKED true).logAgent c 0x03 (dataBytes [e, cls])).shadow c

/-- Steps 3–5 take, of the contexts of kind `k`, at no more than the downward slope (R140). Kinds: 0 above the
cap, 1 above the floor, 2 all others. -/
def State.revokeKind (s : State) (k : Nat) : State :=
  each s.reclaimOrder (fun c t =>
    each [3, 2, 1, 0] (fun e u =>
      let x := u.ctxOf c
      let fits := if k = 0 then decide (u.capQ x < u.ctxOut x)
        else if k = 1 then decide (u.floorQ x < u.ctxOut x) else true
      if decide (u.excess = 0) || decide (u.arb.allow ≤ 0) || !fits then u else u.revokeEngine c e) t) s

/-- One block core cycle of a revocation pass (R138 order 7, R140), with the Stile's repayment (R312). How R140's 'at no more
than the downward slope' is metered is a choice: a signed allowance in 1/1,024 quantum, which starts at 0 in every pass,
grows by DN with time and may go negative by one grant (log 144). -/
def State.revocationCycle (s : State) : State :=
  if s.excess = 0 then s.endPass.repay
  else
    let s0 := if s.arb.revoking then s
      else ((({ s with arb := { s.arb with revoking := true, allow := 0, reclaimed := 0, revAt := s.now } }).logArb 0x23
        (dataBytes ([0, 0] ++ leBytes 2 0 ++ leBytes 2 s.outstanding)))).ringEvent 4
    let s1 := s0.advance 1
    let dn := s1.fld ADM_SLOPE_DN.DN
    let s2 := { s1 with arb := { s1.arb with
        allow := s1.arb.allow + slopeQuanta dn (s1.now - s1.arb.revAt), revAt := s1.now } }
    let (rs, left) := reclaimResvs s2.arb.resvs s2.excess
    let s3 := { s2 with arb := { s2.arb with resvs := rs, reclaimed := s2.arb.reclaimed + (s2.excess - left) } }
    let s4 := (((s3.reclaimStores.revokeKind 0).revokeKind 1).revokeKind 2).checkWave
    (if s4.excess = 0 then s4.endPass else s4).repay

/-! ### Reports and refills -/

/-- An agent's report reaches the arbiter: a grant is charged, and both enter FF_Q (R125, R131, R143). -/
def State.reportArrives (s : State) (c : Nat) : State :=
  let a := s.agent c
  match a.reports with
  | [] => s
  | q :: rest =>
    let s1 := s.setAgent c { a with reports := rest }
    let up := if 0 < q then q * 1024 else 0
    { s1 with arb := { s1.arb with credit := s1.arb.credit - up, unann := s1.arb.unann - up, ff := s1.arb.ff + q } }

/-- The arbiter refills an agent's pocket when every condition of R124 holds. A refill whose whole amount its half cannot
hold, nor the Stile lend for, does not take place, a choice: R124 limits the amount by room and cap alone (log 182). -/
def State.refillPocket (s : State) (c : Nat) : State :=
  let a := s.agent c
  let ctx := s.ctxOf c
  let h := halfOf c
  let size := s.fld ADM_POCKET.SIZE
  let q := min (size - a.pocket) (min (s.roomFor ctx).toNat (s.capQ ctx - s.ctxOut ctx))
  if s.admits && s.present c && a.active && s.flag (AGT_CFG.POCKET_EN c) && decide (s.excess = 0)
      && s.arb.slots.all (fun sl => halfOf sl.cluster != h)
      && decide (s.ctxOut ctx < s.capQ ctx) && decide (0 < s.arb.credit) && decide (0 < q)
      && !s.frozen (stripeOf c) && !s.paused h && !a.reclaim then
    if s.halfFits h q then (s.setAgent c { a with pocket := a.pocket + q }).shadow c
    else
      match s.borrow h q with
      | none => s
      | some l => ((s.lend l).setAgent c { a with pocket := a.pocket + q }).shadow c
  else s

/-! ### Reservations (R146–R151) -/

/-- Each cluster's share under a profile: ceil(S × res_frac / 2^21) with RESERVE set (R146). -/
def State.shareOf (s : State) (p : Profile) : Nat :=
  if bitAt p.flags 2 then
    ((s.quanta 1 * p.nTrickle + s.quanta 2 * p.nLight + s.quanta 3 * p.nMedium + s.quanta 4 * p.nFull) * p.resFrac
      + 2097151) / 2097152
  else 0

/-- A cluster's share under a barrier hint: its engines' last classes above idle, RES_FRAC 256 (R146, R149). -/
def State.hintShare (s : State) (c : Nat) : Nat := ((s.agent c).engines.map (fun x => if x.last = 0 then 0 else s.quanta x.last)).sum

/-- A reservation's slope: min(ramp × 64, UP_ANN), a ramp of 0 gives UP_ANN (R146). -/
def State.resvSlope (s : State) (ramp : Nat) : Nat :=
  let up := s.fld ADM_SLOPE.UP_ANN
  if ramp = 0 then up else min (ramp * 64) up

/-- The late counter and flag of the arbiter. A reservation dropped as late sets ADM_STATUS.LATE too, a choice: the field's
meaning says so, while the row of R152 names LATE_CNT alone (log 145). -/
def State.noteLate (s : State) : State := (s.setFlag ADM_STATUS.LATE true).incSat ADM_ANN.LATE_CNT

/-- A reservation is created at its commit's effective time `now` (Skylark ns), or dropped as late (R146, R152). -/
def State.createResv (s : State) (r : Reservation) : State :=
  let t := s.skyNs
  if r.endAt ≤ t then s.noteLate
  else
    let late := r.startAt < t
    let r1 := { r with id := s.arb.nextId, startAt := max r.startAt t }
    let s1 := { s with arb := { s.arb with resvs := s.arb.resvs ++ [r1], nextId := s.arb.nextId + 1 } }
    if late then s1.noteLate else s1

/-- The shadows of the clusters of a reservation that run (R57: their grant state changes). -/
def State.shadowResv (s : State) (r : Reservation) : State :=
  each r.shares (fun p t => t.shadow p.1) s

/-- A reservation ends: its unclaimed quanta return and its pre-bias is withdrawn (R147, R148, R150). -/
def State.endResv (s : State) (r : Reservation) (how : Nat) : State :=
  (({ s with arb := { s.arb with resvs := s.arb.resvs.filter (fun x => x.id != r.id) } }).logArb 0x24
    (dataBytes ([how, 0] ++ leBytes 2 (r.open_ (fun _ => true)) ++ leBytes 4 r.tag))).shadowResv r

/-- A new reservation takes the shares of its clusters from older ones, live or pending; one left with no share ends, and the
pre-bias of one left fully claimed is withdrawn (R150, R151). -/
def State.replaceShares (s : State) (r : Reservation) : State :=
  let strip (y : Reservation) : Reservation :=
    if r.id ≤ y.id then y
    else
      let x : Reservation := { y with shares := y.shares.filter (fun p => !SMap.has r.shares p.1),
                                      unclaimed := y.unclaimed.filter (fun p => !SMap.has r.shares p.1) }
      { x with biasOn := x.biasOn && !x.claimed }
  let s1 := { s with arb := { s.arb with resvs := s.arb.resvs.map strip } }
  each (s1.arb.resvs.filter (fun y => decide (y.id < r.id) && y.shares.isEmpty)) (fun y t => t.endResv y 3) s1

/-- A reservation's start: quanta move from the half-pools into it, up to room and caps (R147). -/
def State.startResv (s : State) (id : Nat) : State :=
  match s.arb.resvs.find? (fun r => r.id == id && !r.live) with
  | none => s
  | some r0 =>
    let s := s.advanceSky r0.startAt
    let r := { r0 with live := true }
    let s1 := ({ s with arb := s.arb.setResv r }).replaceShares r
    let s2 := if s1.admits then s1.fillResv r else s1
    (s2.logArb 0x24 (dataBytes ([0, 0] ++ leBytes 2 ((r.shares.map (fun p => p.2)).sum) ++ leBytes 4 r.tag))).shadowResv r

/-- Time T of a reservation: it joins the wave that runs; with none, it starts one if it has unclaimed quanta (R135). -/
def State.resvTimeT (s : State) (id : Nat) : State :=
  match s.arb.resvs.find? (fun r => r.id == id && r.live && !r.joined) with
  | none => s
  | some r =>
    let s := s.advanceSky r.t
    let un := r.open_ (fun _ => true)
    if s.admits = false ∨ (un = 0 ∧ s.arb.wave = false) then s
    else
      let s1 := { s with arb := s.arb.setResv { r with joined := true } }
      if s1.arb.wave then s1 else s1.startWave ((r.unclaimed.map (fun p => p.2 - s1.requestedOf p.1)).sum)

/-- A reservation reaches its end (R148). -/
def State.resvEnd (s : State) (id : Nat) : State :=
  match s.arb.resvs.find? (fun r => r.id == id) with
  | none => s
  | some r => ((s.advanceSky r.endAt).endResv r 2).checkWaveEnd

/-- T − BIAS: a qualifying reservation requests the pre-bias (R150). -/
def State.startPrebias (s : State) (id : Nat) : State :=
  match s.arb.resvs.find? (fun r => r.id == id && r.live) with
  | none => s
  | some r =>
    let s := s.advanceSky (r.t - 250 * s.fld ADM_LEAD.BIAS)
    let total : Nat := (r.shares.map (fun p => p.2)).sum
    if r.prebias ∧ 0 < total ∧ r.claimed = false then { s with arb := s.arb.setResv { r with biasOn := true } } else s

/-- The pre-bias requested now: the highest among live reservations (R150). -/
def State.prebiasNow (s : State) : Nat :=
  if s.arb.resvs.any (fun r => r.live && r.biasOn) then s.fld ADM_LEAD.PREBIAS_MV else 0

/-! ### Voids (R40, R157) -/

/-- FF_Q left to send is limited to a signed 16-bit number at each sample (R143): what is sent, what remains. -/
def State.takeFF (s : State) : Int × State :=
  let q := clampInt (-32767) 32767 s.arb.ff
  (q, ({ s with arb := { s.arb with ff := s.arb.ff - q, ffLast := q } }).setFld ADM_FF.FF_Q (ofSigned 16 q) |>.setFld
    ADM_FF.PREBIAS_NOW s.prebiasNow)

/-- Every grant, pocket and held quantum is void; the void goes to the keeper as one negative step, and the credit and
counters are 0 (R40, R157). `clearReq` also takes the engines' classes as idle. A block reset, `reset`, ends every
reservation; otherwise the half-pools are drained and reservations stay pending (R104, log 39). The wave, the pass and the
reservations that end are logged (R440). -/
def State.voidAll (s : State) (clearReq reset : Bool) : State :=
  let q := s.granted
  let w := if s.arb.wave then s.endPass.logArb 0x20 (dataBytes [1, s.stripeAt 0]) else s.endPass
  let v := if reset then each (w.arb.resvs.filter (fun r => r.live)) (fun r t => t.endResv r 2) w else w
  let s1 := each (v.agents.map (fun p => p.1)) (fun c t => (t.dropGrants c clearReq)) v
  let s2 := each (s1.agents.map (fun p => p.1)) (fun c t => t.setAgent c { t.agent c with reports := [] }) s1
  let owed := (s.agents.map (fun p => p.2.reports.sum)).sum
  let s3 := { s2 with arb := { s2.arb with
      slots := [], credit := 0, unann := 0, resvs := if reset then [] else s2.arb.resvs.map Reservation.drained,
      wave := false, ff := s2.arb.ff + owed + (s2.granted : Int) - q, revoking := false, allow := 0 } }
  each (s3.agents.map (fun p => p.1)) (fun c t => t.shadow c) s3

end Sys2Proof.Machine
end

