-- ==== Sys2Proof/Machine/Droop.lean ====
section
/-! DEFINITION. Droop detection and clock stretch (chapter 5) with the slot accounting of an edge (R434–R437):
the detector, the ladder and the modulator of an agent, edge by edge of cl_clk_in; the droop engine. -/

namespace Sys2Proof.Machine

/-- No operating-point step is in progress, as the limiter's signals tell the agents (R166). -/
def State.noStep (s : State) : Bool := !s.lim.agentStep

/-! ### Levels -/

/-- Index of the operating point in force (R266). -/
def State.opIndex (s : State) : Nat := s.fld OPP_STATUS.INDEX

/-- Thresholds of the current operating point: is a code at or below TARGET less an offset (R164)? -/
def State.codeLevel (s : State) (code : Nat) : Nat :=
  let k := s.opIndex
  let target := s.fld DRP_CAL.TARGET
  let at_ (f : Fld) : Bool := decide (code + s.fld f ≤ target)
  if at_ (DRP_THR.SEVERE_OFS k) then 3 else if at_ (DRP_THR.DEEP_OFS k) then 2 else if at_ (DRP_THR.MILD_OFS k) then 1 else 0

/-- det_en (R163). -/
def State.detEn (s : State) (c : Nat) : Bool :=
  (s.agent c).run && s.flag (AGT_DRP_CFG.DET_EN c) && s.flag DRP_CTRL.DET_EN

/-- Is the trim of the point in force valid, or fixed by AGT_DRP_CFG (R165, R168)? -/
def State.calibrated (s : State) (c : Nat) : Bool :=
  let k := (s.agent c).det
  s.flag (AGT_DRP_CFG.TRIM_FIX c) || (bitAt k.valid k.point && k.cal.isNone)

/-- The detected level of a sample: NONE while det_en is low, the trim is not valid or the detector is stuck
(R163, R164, R166, R182). -/
def State.detected (s : State) (c code : Nat) : Nat :=
  if s.detEn c && s.calibrated c && !(s.agent c).det.stuck then s.codeLevel code else 0

/-- The debug force on a stripe (R172, R183). -/
def State.debugForce (s : State) (st : Nat) : Nat :=
  if s.drp.debug && bitAt (s.fld DRP_FORCE.STRIPES) st then s.fld DRP_FORCE.LEVEL else 0

/-- The forced level of a cluster: the highest of the sources of R172. The die-wide ones, the proactive one and the one of
an uncalibrated trim act on running clusters (R166, R172, R177); the debug force and that of a stuck detector on any. -/
def State.forcedLevel (s : State) (c : Nat) : Nat :=
  let st := stripeOf c
  let a := s.agent c
  let running :=
    max (if bitAt s.drp.gorse st then 3 else 0) <|
    max (if bitAt s.drp.openLoop st then 2 else 0) <|
    max (if bitAt s.drp.pro st then s.fld DRP_PRO.LEVEL else 0) (if s.calibrated c then 0 else s.fld DRP_CAL.UNCAL_LEVEL)
  max (if a.run then running else 0) (max (s.debugForce st) (if a.det.stuck then 2 else 0))

/-- Has the cluster a forced level whose reason is DROOP (R172, R181)? -/
def State.droopForced (s : State) (c : Nat) : Bool :=
  (s.agent c).run && (bitAt s.drp.pro (stripeOf c) || !s.calibrated c) || (s.agent c).det.stuck

/-! ### The modulator (R171) -/

/-- The spacing of removed pulses at a level (R169). -/
def removedEvery (lvl : Nat) : Nat := if lvl = 1 then 8 else if lvl = 2 then 4 else 2

/-- The modulator comes to its next edge: changes due take effect at their position (R171). -/
def Detector.nextEdge (k : Detector) : Detector :=
  let pipe := k.pipe.map (fun (n, l, p) => (n - 1, l, p))
  let due := pipe.filter (fun (n, _, _) => n == 0)
  let rest := pipe.filter (fun (n, _, _) => n != 0)
  match due.getLast? with
  | some (_, l, p) => { k with pipe := rest, patLvl := l, patPos := p }
  | none => { k with pipe := rest }

/-- Is the pulse of this edge removed (R68, R169)? -/
def Detector.removed (k : Detector) : Bool := k.patLvl != 0 && k.patPos % removedEvery k.patLvl == 0

/-- The ladder's update at a sample with combined level `e` (R170), and the change it sends to the modulator. -/
def Detector.ladder (k : Detector) (e : Nat) : Detector :=
  if k.lvl < e then { k with lvl := e, timer := 16, pipe := k.pipe ++ [(2, e, 0)] }
  else if e = k.lvl then (if 0 < k.lvl then { k with timer := 16 } else k)
  else if k.timer ≤ 1 then
    { k with lvl := k.lvl - 1, timer := if k.lvl = 1 then 0 else 32, pipe := k.pipe ++ [(2, k.lvl - 1, 1)] }
  else { k with timer := k.timer - 1 }

/-! ### Slots of an edge (R434, R437) -/

/-- Cycles between trickle issues: 8, 4 or 2 (R67). -/
def State.trickleEvery (s : State) : Nat := 8 / 2 ^ min (s.fld ADM_CTRL.TRICKLE) 3

/-- Non-RETIRED slots count toward every active reason (R437). -/
def AgentCounters.lost (k : AgentCounters) (active n : Nat) : AgentCounters :=
  if n = 0 then k
  else { k with thr := each (bitsSet 16 active) (fun r m => SMap.put (fun _ => 0) m r (SMap.get (fun _ => 0) m r + n)) k.thr }

/-- One engine's slot at an edge (R434) and its trickle pattern, which counts delivered cycles (R67). -/
def slotOf (removed : Bool) (every active : Nat) (x : Engine) (k : AgentCounters) : Engine × AgentCounters :=
  if x.req = 0 then ({ x with trickle := 0 }, k)
  else
    let k := { k with slots := k.slots + 1 }
    let waits := decide (x.grant < x.req)
    let high := waits && !removed && x.trickle % every == 0
    let x' := if removed then x else { x with trickle := if waits then (x.trickle + 1) % every else 0 }
    if removed then (x', ({ k with wasted := (k.wasted + 1) % 2 ^ 64 }).lost active 1)
    else if !waits then (x', { k with ret := (k.ret + 1) % 2 ^ 64 })
    else if high then (x', ({ k with wasted := (k.wasted + 1) % 2 ^ 64 }).lost active 1)
    else if x.back then (x', ({ k with back := (k.back + 1) % 2 ^ 64 }).lost active 1)
    else (x', ({ k with front := (k.front + 1) % 2 ^ 64 }).lost active 1)

/-- The slots of all engines of a cluster at an edge. -/
def slotsOf (removed : Bool) (every active : Nat) : List Engine → AgentCounters → List Engine × AgentCounters
  | [], k => ([], k)
  | x :: xs, k =>
    let (x', k1) := slotOf removed every active x k
    let (xs', k2) := slotsOf removed every active xs k1
    (x' :: xs', k2)

/-! ### One edge of cl_clk_in -/

/-- A rise of the detected level counts its entry (R180). -/
def AgentCounters.entryTo (k : AgentCounters) (d : Nat) : AgentCounters :=
  if d = 1 then { k with mild := (k.mild + 1) % 1024 }
  else if d = 2 then { k with deep := (k.deep + 1) % 1024 }
  else if d = 3 then { k with severe := (k.severe + 1) % 1024 } else k

/-- The die totals of detected entries (DRP_CNT_MILD to DRP_CNT_SEVERE). -/
def State.countEntry (s : State) (d : Nat) : State :=
  if d = 1 then s.incSat (whole DRP_CNT_MILD) else if d = 2 then s.incSat (whole DRP_CNT_DEEP)
  else if d = 3 then s.incSat (whole DRP_CNT_SEVERE) else s

/-- One edge of cl_clk_in at cluster `c` with margin code `code`: the modulator, the slots, the sample, the
ladder and the local stop, in the order of R179 (R162–R171, R174, R180, R434). The edges that come while cl_run is low
count at the ladder as any other (R70, R170), but give no slot and no nominal cycle (R431, R434); the code is sampled only
while det_en is high (R162). -/
def State.edge (s : State) (c code : Nat) : State :=
  let a := s.agent c
  if !s.present c then s
  else
    let k0 := a.det.nextEdge
    let removed := k0.removed
    let active := s.fld BUD_RSN_ACTIVE.ACTIVE
    let cnt0 := { a.cnt with
      nominal := if a.run then (a.cnt.nominal + 1) % 2 ^ 64 else a.cnt.nominal
      util := if a.run && a.engines.any (fun x => x.req != 0) then (a.cnt.util + 1) % 2 ^ 64 else a.cnt.util
      stretch := if removed then (a.cnt.stretch + 1) % 2 ^ 32 else a.cnt.stretch
      badClass := if a.run && a.engines.any (fun x => decide (4 < x.code)) then (a.cnt.badClass + 1) % 256 else a.cnt.badClass }
    let (engs, cnt1) := if a.run then slotsOf removed s.trickleEvery active a.engines cnt0 else (a.engines, cnt0)
    let d := s.detected c code
    let f := s.forcedLevel c
    let e := max d f
    let k1 := { k0 with patPos := if k0.patLvl = 0 then 0 else (k0.patPos + 1) % 8 }
    let k2 := k1.ladder e
    let rose := decide (k0.d < d)
    let k3 := { k2 with
      d := d
      minCode := if s.detEn c then min k2.minCode code else k2.minCode
      maxD := max k2.maxD d
      noisyAt := if k2.lvl = 0 ∧ d = 0 ∧ s.noStep = true then k2.noisyAt else s.now
      severeSince := if d = 3 then (match k2.severeSince with | some t => some t | none => some s.now) else none
      clear := if s.detEn c = false then k2.clear else if s.codeLevel code = 0 then min 1024 (k2.clear + 1) else 0
      stopUntil := if d = 3 then s.skyNs + s.fld DRP_HOLD.GRANT_HOLD else k2.stopUntil
      reports := if rose && d == 3 then k2.reports + 1 else k2.reports }
    let cnt2 := if rose then cnt1.entryTo d else cnt1
    let s1 := s.setAgent c { a with engines := engs, det := k3, cnt := cnt2 }
    let s2 := if rose then s1.countEntry d else s1
    let s3 := if k3.lvl ≠ a.det.lvl then s2.logAgent c 0x04 (dataBytes [k3.lvl, d, f, code]) else s2
    if rose ∧ d = 3 then s3.ringEvent 0 else s3

/-! ### DROOP active (R181) -/

/-- DROOP is active while a cluster has d above NONE or a forced level whose reason is DROOP (R181). -/
def State.droopActive (s : State) : Bool := s.agents.any (fun p => decide (0 < p.2.det.d) || s.droopForced p.1)

/-! ### The droop engine -/

/-- The stripes in the scope of a SEVERE report (R174). -/
def State.freezeScope (s : State) (c : Nat) : List Nat :=
  match s.fld DRP_CTRL.FREEZE_SCOPE with
  | 0 => [stripeOf c]
  | 1 => if halfOf c = 0 then [0, 1, 2, 3, 4, 5, 6, 7] else [8, 9, 10, 11, 12, 13, 14, 15]
  | _ => List.range 16

/-- A freeze changes at the agents of a stripe: their rings and shadows follow (R57, R440). -/
def State.noteFreeze (s : State) (st on hold : Nat) : State :=
  each ((s.agents.map (fun p => p.1)).filter (fun c => stripeOf c == st))
    (fun c t => (t.logAgent c 0x05 (dataBytes [on, hold])).shadow c) s

/-- A SEVERE report reaches the droop engine: the freeze of its scope is set, or restarts (R174). -/
def State.severeReport (s : State) (c : Nat) : State :=
  let a := s.agent c
  if a.det.reports = 0 ∨ s.inReset then s
  else
    let s0 := s.setAgent c { a with det := { a.det with reports := a.det.reports - 1 } }
    let st := s0.freezeScope c
    let newOnes := st.filter (fun k => !bitAt s0.drp.freeze k)
    let mask := each st (fun k m => maskSet m k) s0.drp.freeze
    let until_ := s0.now + s0.fld DRP_HOLD.GRANT_HOLD
    let ends := each st (fun k m => SMap.enter m k until_) s0.drp.freezeEnd
    let s1 := { s0 with drp := { s0.drp with freeze := mask, freezeEnd := ends } }
    if newOnes.isEmpty then s1
    else
      let s2 := (s1.incSat (whole DRP_FREEZES)).logArb 0x25 (dataBytes (leBytes 2 mask ++ [bnat s1.holdFreeze]))
      each newOnes (fun k t => t.noteFreeze k 1 0) s2

/-- GRANT_HOLD passes without a further report: the freeze of a stripe, with every stripe whose hold ends by
then, is over (R174). -/
def State.freezeExpiry (s : State) (st : Nat) : State :=
  match SMap.find s.drp.freezeEnd st with
  | none => s
  | some t =>
    if bitAt s.drp.freeze st then
      let s := s.advanceTo t
      let over_ := (bitsSet 16 s.drp.freeze).filter (fun k => match SMap.find s.drp.freezeEnd k with
        | some u => decide (u ≤ s.now) | none => true)
      let mask := each over_ (fun k m => maskClear m k) s.drp.freeze
      let ends := each over_ (fun k m => SMap.drop m k) s.drp.freezeEnd
      let s1 := { s with drp := { s.drp with freeze := mask, freezeEnd := ends } }
      let s2 := s1.logArb 0x25 (dataBytes (leBytes 2 mask ++ [bnat s1.holdFreeze]))
      each over_ (fun k t => t.noteFreeze k 0 0) s2
    else s

/-- DRP_PRO.TIME passes for a position's stripe (R177). -/
def State.proEnds (s : State) (st : Nat) : State :=
  match SMap.find s.drp.proEnd st with
  | none => s
  | some t =>
    let s := s.advanceTo t
    { s with drp := { s.drp with pro := maskClear s.drp.pro st, proEnd := SMap.drop s.drp.proEnd st } }

/-- One more stripe position is released after a die-wide force has ended (R173), at a step boundary. -/
def releasePosition (order : List Nat) (mask : Nat) : Nat :=
  match order.find? (fun st => bitAt mask st) with
  | some st => maskClear mask st
  | none => mask

/-- A release step of the die-wide forces (R173): the step boundary at which it falls is reached first. -/
def State.forceReleaseStep (s : State) : State :=
  let g := !s.drp.gorseOn && s.drp.gorse != 0
  let o := !s.drp.openOn && s.drp.openLoop != 0
  if g || o then
    let s := s.advanceSky (ceilMult (s.skyNs + 1) (s.fld ADM_WAVE.STEP))
    { s with drp := { s.drp with
        gorse := if g then releasePosition (stripeOrder (s.flag ADM_CTRL.WAVE_ORDER)) s.drp.gorse else s.drp.gorse
        openLoop := if o then releasePosition (stripeOrder (s.flag ADM_CTRL.WAVE_ORDER)) s.drp.openLoop else s.drp.openLoop } }
  else s

/-- The gorse line's force begins: SEVERE on every running cluster (R172). -/
def State.gorseForce (s : State) : State := { s with drp := { s.drp with gorse := 0xFFFF, gorseOn := true } }

/-- The gorse line's source ends; its force goes stripe by stripe, position 0 first (R173). -/
def State.gorseEnds (s : State) : State :=
  { s with drp := { s.drp with gorse := releasePosition (stripeOrder (s.flag ADM_CTRL.WAVE_ORDER)) s.drp.gorse, gorseOn := false } }

/-- The open-loop force begins: DEEP on every running cluster (R172, R204). -/
def State.openForce (s : State) : State := { s with drp := { s.drp with openLoop := 0xFFFF, openOn := true } }

/-- The last open-loop hold ends; its force goes stripe by stripe (R173, R205). -/
def State.openEnds (s : State) : State :=
  { s with drp := { s.drp with openLoop := releasePosition (stripeOrder (s.flag ADM_CTRL.WAVE_ORDER)) s.drp.openLoop, openOn := false } }

/-! ### Calibration (R165–R168, R182) -/

/-- A fast calibration starts where the point in force has no valid trim and nothing stands against it (R166). -/
def State.startCal (s : State) (c : Nat) : State :=
  let a := s.agent c
  if s.present c && a.run && s.noStep && !s.flag (AGT_DRP_CFG.TRIM_FIX c) && !bitAt a.det.valid a.det.point then
    match a.det.cal with
    | some _ => s
    | none => s.setAgent c { a with det := { a.det with cal := some {}, trim := 0x80 } }
  else s

/-- The trim after a calibration window with mean `m` (R166): windows 1–7 search, window 8 corrects by one. -/
def calTrim (k : FastCal) (m target : Nat) : Nat :=
  if k.window < 7 then (if target < m then min 255 (k.trim + k.step) else k.trim - k.step)
  else if target + 1 < m then min 255 (k.trim + 1) else if m + 1 < target then k.trim - 1 else k.trim

/-- A calibration window ends with mean code `m`; after window 8 the trim is stored and valid (R166). -/
def State.calWindow (s : State) (c m : Nat) : State :=
  let s := s.startCal c
  let a := s.agent c
  match a.det.cal with
  | none => s
  | some k =>
    let t := calTrim k m (s.fld DRP_CAL.TARGET)
    if k.window < 7 then
      s.setAgent c { a with det := { a.det with cal := some ⟨k.window + 1, k.step / 2, t⟩, trim := t, mean := m } }
    else
      let p := a.det.point
      let det := { a.det with cal := none, trim := t, mean := m, valid := maskSet a.det.valid p,
                              trims := SMap.put (fun _ => 0x80) a.det.trims p t }
      (s.setAgent c { a with det := det }).logAgent c 0x07 (dataBytes [p, t, 0])

/-- A step's start is signalled to the agents: a calibration under way is abandoned, and no window is quiet (R166,
R167). -/
def State.stepBegins (s : State) : State :=
  each s.clusters (fun c t =>
    let a := t.agent c
    t.setAgent c { a with det := { a.det with cal := none, noisyAt := t.now } }) { s with lim := { s.lim with agentStep := true } }

/-- Is a maintenance round due whose window began at `from_`: has a period boundary passed since the window before it?
Period boundaries stand at the multiples of DRP_CAL.PERIOD of the block's time, a choice (R167, log 149). -/
def State.roundDue (s : State) (k : Detector) (from_ : Nat) : Bool :=
  let period := 100000 * s.fld DRP_CAL.PERIOD
  decide (from_ ≤ s.now) && decide (k.roundAt / period < from_ / period)

/-- A maintenance round over the window that began at `from_`, with mean `m` (R167). AGT_DRP_STATUS.MEAN takes the mean of
a round as it does that of a calibration window, a choice (log 160). -/
def State.maintenance (s : State) (c m from_ : Nat) : State :=
  let a := s.agent c
  let k := a.det
  if !s.present c || !a.run || !bitAt k.valid k.point || k.cal.isSome || s.flag (AGT_DRP_CFG.TRIM_FIX c)
      || !s.roundDue k from_ then s
  else if decide (k.noisyAt < from_ ∨ k.noisyAt = 0) && k.lvl == 0 && k.d == 0 && s.noStep then
    let target := s.fld DRP_CAL.TARGET
    let t := if target + 2 < m then min 255 (k.trim + 1) else if m + 2 < target then k.trim - 1 else k.trim
    let det := { k with trim := t, mean := m, notQuiet := 0, stale := false, roundAt := from_,
                        trims := SMap.put (fun _ => 0x80) k.trims k.point t }
    let s1 := s.setAgent c { a with det := det }
    if t = k.trim then s1 else s1.logAgent c 0x07 (dataBytes [k.point, t, 1])
  else
    let n := k.notQuiet + 1
    s.setAgent c { a with det := { k with mean := m, roundAt := from_, notQuiet := n, stale := k.stale || decide (8 ≤ n) } }

/-- The limiter signals the frequency change: the agent loads the trim of the new point (R165, R168). -/
def State.loadTrim (s : State) (c k : Nat) : State :=
  let a := s.agent c
  let t := if s.flag (AGT_DRP_CFG.TRIM_FIX c) then s.fld (AGT_DRP_CFG.TRIM c) else SMap.get (fun _ => 0x80) a.det.trims k
  s.setAgent c { a with det := { a.det with point := k, trim := t, cal := none } }

/-- The detected level has been SEVERE for STUCK_TIME: the detector is ignored, DEEP is forced and the source is
raised (R182). -/
def State.stuckDetector (s : State) (c : Nat) : State :=
  let a := s.agent c
  match a.det.severeSince with
  | none => s
  | some t =>
    if s.flag DRP_CTRL.STUCK_EN && !a.det.stuck then
      let s := s.advanceTo (t + 1000 * s.fld DRP_HOLD.STUCK_TIME)
      let s1 := s.setAgent c { a with
        det := { a.det with stuck := true, clear := 0, d := 0, severeSince := none, stopUntil := s.skyNs + s.fld DRP_HOLD.GRANT_HOLD }
        cnt := { a.cnt with stuckCnt := (a.cnt.stuckCnt + 1) % 256 } }
      let s2 := ((s1.incSat DRP_STUCK.COUNT).setFld DRP_STUCK.LAST c).logAgent c 0x07 (dataBytes [a.det.point, a.det.trim, 2])
      s2.raise srcDrpDetStuck (syndrome c 0 a.det.minCode)
    else s

/-- 1,024 consecutive samples above the MILD threshold reinstate the detector (R182). -/
def State.reinstate (s : State) (c : Nat) : State :=
  let a := s.agent c
  if a.det.stuck ∧ a.det.clear = 1024 then
    (s.setAgent c { a with det := { a.det with stuck := false } }).logAgent c 0x07
      (dataBytes [a.det.point, a.det.trim, 3])
  else s

/-- The local stop of grants ends GRANT_HOLD of Skylark time after the last SEVERE edge (R174). -/
def State.localStopEnds (s : State) (c : Nat) : State :=
  if s.skyNs < (s.agent c).det.stopUntil ∧ (s.agent c).det.d ≠ 3 then
    (s.advanceSky (s.agent c).det.stopUntil).shadow c
  else s

end Sys2Proof.Machine
end

