-- ==== Sys2Proof/Machine/Rail.lean ====
section
/-! DEFINITION. The rail keepers (chapter 6) with injection and capture (chapter 7): one control sample in the
order of R199, exact in the formats of R194, and the operations that start, shed, shut down and trip a rail. -/

namespace Sys2Proof.Machine

/-! ### Arithmetic -/

/-- Rounded quotient, ties away from zero (R225; used wherever the spec says round, log 31). -/
def roundDiv (a : Int) (b : Nat) : Int :=
  if b = 0 then 0 else if 0 ≤ a then (2 * a + b) / (2 * b) else -((2 * (-a) + b) / (2 * b))

/-- Limit to ±m; does it limit (R193)? -/
def satFlag (x m : Int) : Int × Bool := (clampInt (-m) m x, decide (x < -m ∨ m < x))

/-- Arithmetic shift right, toward minus infinity (R193). -/
def ashr (x : Int) (k : Nat) : Int := x / ((2 ^ k : Nat) : Int)

/-- 1.0 of full duty in 2^-32. -/
def dutyOne : Int := 4294967296

/-! ### Rails and phases -/

/-- The first phase number of a rail (R185). -/
def phaseBase (n : Nat) : Nat := if n = 0 then 0 else 32 + 16 * n

/-- How many phases a rail may have (R185). -/
def phaseMax (n : Nat) : Nat := if n = 0 then 48 else 16

/-- A rail keeper. -/
def State.rail (s : State) (n : Nat) : Rail := SMap.get (fun _ => {}) s.rails n

/-- The state with a rail keeper replaced. -/
def State.setRail (s : State) (n : Nat) (r : Rail) : State :=
  { s with rails := SMap.put (fun _ => {}) s.rails n r }

/-- Built phases of a rail, as a mask over its own phases (R72). -/
def State.built (s : State) (n : Nat) : Nat :=
  if n < 4 then s.tie.phases / 2 ^ phaseBase n % 2 ^ phaseMax n else 0

/-- A rail with no built phase is unused (R185). -/
def State.railUsed (s : State) (n : Nat) : Bool := s.built n != 0

/-- Excluded phases (R189). -/
def State.excluded (s : State) (n : Nat) : Nat := s.reg (RAIL_PH_FAULT n) + 2 ^ 32 * s.reg (RAIL_PH_FAULT_HI n)

/-- Available phases: built and not excluded (R188). -/
def State.avail (s : State) (n : Nat) : List Nat :=
  (bitsSet 48 (s.built n)).filter (fun k => !bitAt (s.excluded n) k)

/-- The first `n` available phases in order of phase number are the active ones (R187, log 32). -/
def firstPhases (ks : List Nat) (n : Nat) : Nat := (ks.take n).foldl maskSet 0

/-- The phase count of a keeper changes: ph_en follows, and the ring notes it (R187, R188). -/
def State.setPhases (s : State) (n cnt changed why : Nat) : State :=
  let r := s.rail n
  let en := firstPhases (s.avail n) cnt
  if cnt = r.n ∧ en = r.enabled then s
  else (s.setRail n { r with n := cnt, enabled := en }).logRail n 0x43 (dataBytes [cnt, changed, why])

/-- Every ph_en of a rail low (R74, R207, R210); a count that falls to 0 is recorded (R438, R440). -/
def State.dropPhases (s : State) (n : Nat) : State :=
  let s1 := s.setRail n { s.rail n with enabled := 0, n := 0 }
  if (s.rail n).n = 0 then s1 else s1.logRail n 0x43 (dataBytes [0, 0xFF, 0])

/-- I_MEAS: the sum of the active phases' codes (R73, R188). -/
def Rail.imeas (r : Rail) : Int :=
  ((bitsSet 48 r.enabled).map (fun k => (SMap.get (fun _ => {}) r.phases k).i)).sum

/-- The target phase count of R188. -/
def State.phaseTarget (s : State) (n : Nat) : Nat :=
  let r := s.rail n
  let av := (s.avail n).length
  if s.flag (RAIL_CTRL.SHED_EN n) then
    let need := if n = 0 then max r.imeas (s.outstanding : Int) else r.imeas
    let per := 8 * s.fld (RAIL_PHASE.I_PER_PH n)
    min (max ((need.toNat + per - 1) / per) (s.fld (RAIL_PHASE.MIN_ACTIVE n))) av
  else av

/-! ### Targets (R191) -/

/-- Operating-point voltage of a rail at point `k`, mV: CORE and CACHE follow the table; a re-step may still hold
the voltages it replaces (R269). -/
def State.pointVolt (s : State) (n k : Nat) : Nat :=
  match s.lim.voltOld with
  | some (a, b) => if n = 0 then a else b
  | none => if n = 0 then s.fld (OPP_PT_A.VCORE k) else s.fld (OPP_PT_B.VCACHE k)

/-- Is the rail going to or in retention? On the way there the handshake to point 0 comes first (R40, R191, R267); on the
way from RETAIN to OFF the state is still RETAIN. -/
def State.retaining (s : State) : Bool :=
  if s.flag HEATH_DOMAIN_STATUS.IN_TRANSIT then
    s.ps.leg == 1 && s.lim.step.kind == 0 || s.ps.leg == 0 && s.fld HEATH_DOMAIN_STATUS.PSTATE == 1
  else s.fld HEATH_DOMAIN_STATUS.PSTATE == 1

/-- What the block core domain asks of CORE or CACHE (R191): a voltage in mV, and whether the pre-bias adds to it. -/
def State.railBase (s : State) (n : Nat) : Nat × Bool :=
  if s.retaining then (s.fld (RAIL_VSET.VRET n), false) else (s.pointVolt n (s.fld OPP_STATUS.V_IDX), n == 0)

/-- CORE and CACHE keep what is asked of them now: a block reset is triggered, or step 7 begins (R111, R212). -/
def State.holdBases (s : State) : State := each [0, 1] (fun n t => t.setRail n { t.rail n with base := t.railBase n }) s

/-- The target of a rail in mV without soft-start and shutdown (R191). During a block reset the targets of CORE and CACHE
hold their last values, and only the pre-bias goes (R212). -/
def State.railTarget (s : State) (n : Nat) : Nat :=
  if n < 2 then
    let b := if s.inReset then (s.rail n).base else s.railBase n
    clampNat 400 1200 (b.1 + (if b.2 then (s.rail 0).bias else 0))
  else s.fld (RAIL_VSET.VSET n)

/-- A slew moves Vref toward the target by slew × period: slew mV/µs over PER / 1.6 ns is slew × PER / 25 of
1/64 mV, the remainder carried (R186, R191). -/
def slewTo (vref target rem slew per : Nat) : Nat × Nat :=
  let t := rem + slew * per
  let d := t / 25
  if vref < target then (if target ≤ vref + d then (target, 0) else (vref + d, t % 25))
  else if target < vref then (if vref ≤ target + d then (target, 0) else (vref - d, t % 25))
  else (vref, 0)

/-- The state of a keeper and its image in RAILn_STATUS (R211). -/
def State.railTo (s : State) (n st : Nat) : State :=
  (s.setRail n { s.rail n with state := st }).setFld (RAIL_STATUS.STATE n) st

/-! ### Events of a rail -/

/-- The die's injection ends on its rail: EN clears in both copies (R221). -/
def State.clearInjEn (s : State) (n : Nat) : State :=
  let f := RAIL_INJ_CTRL.EN n
  let st := withBits (s.stagedReg f.off) 0 0 0
  (s.setFld f 0).setStaged f.off st

/-- The die's injection is over: every rail notes at which of its samples (R229). -/
def State.injGone (s : State) : State := each [0, 1, 2, 3] (fun m t => t.setRail m { t.rail m with injEnd := some (t.rail m).count }) s

/-- The injection of a rail aborts with a reason (R223); captures that wait for its sample SETTLE trigger as they would
have done. -/
def State.abortInj (s : State) (n reason : Nat) : State :=
  let r := s.rail n
  match r.inj with
  | none => s
  | some j =>
    let ghosts := if reason ≠ 0xA ∧ j.k ≤ j.settle ∧ j.caps ≠ 0 then r.ghosts ++ [(j.settle - j.k, j.caps)] else r.ghosts
    let s1 := (s.setRail n { r with inj := none, ghosts := ghosts }).injGone.clearInjEn n
    let s2 := ((s1.setFlag (RAIL_INJ_STATUS.ABORTED n) true).setFld (RAIL_INJ_STATUS.REASON n) reason).setFlag
      (RAIL_INJ_STATUS.ACTIVE n) false
    let s3 := (s2.incSat (RAIL_INJ_STATUS.ABORTS n)).logRail n 0x46 (dataBytes [2, reason])
    s3.raise srcRailInjAbort (syndrome (0xFF00 + n) reason r.ePrev)

/-- Every injection of the die aborts with a reason: a die has at most one (R219, R223). -/
def State.abortAllInj (s : State) (reason : Nat) : State := each [0, 1, 2, 3] (fun n t => t.abortInj n reason) s

/-- The injection of a rail ends normally (R221). -/
def State.endInj (s : State) (n : Nat) : State :=
  let s1 := (s.setRail n { s.rail n with inj := none }).injGone.clearInjEn n
  ((s1.setFlag (RAIL_INJ_STATUS.DONE n) true).setFlag (RAIL_INJ_STATUS.ACTIVE n) false).logRail n 0x46 (dataBytes [1, 0])

/-! ### Capture (R225–R227) -/

/-- The capture state of a rail. -/
def State.capState (s : State) (n : Nat) : Nat := s.fld (RAIL_CAP_STATUS.STATE n)

/-- CAP_FILL follows the buffer. -/
def State.noteFill (s : State) (n : Nat) : State :=
  let c := (s.rail n).cap
  (s.setFld (RAIL_CAP_FILL.VALID n) c.samples.length).setFld (RAIL_CAP_FILL.TRIG_POS n) c.trigPos

/-- A running capture freezes, with what its record knows of the injection (R226, R227, R229). -/
def State.freezeCap (s : State) (n : Nat) : State :=
  let st := s.capState n
  if st = 1 ∨ st = 2 then
    let r := s.rail n
    ((s.setRail n { r with cap := { r.cap with group := [], pendingTrig := false, injAt := r.injAt, injEnd := r.injEnd } }).setFld
      (RAIL_CAP_STATUS.STATE n) 3).noteFill n
  else s

/-- The trigger of a capture: the group under way is dropped so that the trigger sample begins its group, and at
most PRE stored samples are kept before it (R225, R226); after the first one a trigger only counts (R227). -/
def State.trigCap (s : State) (n evt : Nat) : State :=
  let st := s.capState n
  if st = 1 then
    let r := s.rail n
    let c := r.cap
    let kept := c.samples.drop (c.samples.length - c.pre)
    (s.setRail n { r with cap := { c with samples := kept, group := [], left := 8192 - c.pre, trigPos := kept.length, evt := evt, fired := true } }).setFld
      (RAIL_CAP_STATUS.STATE n) 2
  else if (st = 2 ∨ st = 3) ∧ (s.rail n).cap.fired = true then s.incSat (RAIL_CAP_STATUS.LATE_TRIG n)
  else s

/-- An event that RAILn_CAP_EVT named at the ARM triggers the rail's capture of source EVENT (R226). -/
def State.capEvent (s : State) (n bit : Nat) : State :=
  let st := s.capState n
  let c := (s.rail n).cap
  if st = 0 ∨ c.src ≠ 1 ∨ bitAt c.evtMask bit = false then s else s.trigCap n bit

/-- The mean of a group's members for the four channels (R225). -/
def groupMean (g : List CapSample) : CapSample :=
  let k := g.length
  let first := g.getLast?.getD {}
  let seen := g.filterMap (fun x => x.sense)
  { count := first.count, time := first.time
    err := roundDiv ((g.map (fun x => x.err)).sum) k
    duty := (roundDiv ((g.map (fun x => (x.duty : Int))).sum) k).toNat
    sense := if seen.isEmpty then none else some (roundDiv seen.sum seen.length)
    cur := roundDiv ((g.map (fun x => x.cur)).sum) k }

/-- One control sample enters a running capture (R225, R226). -/
def State.capPush (s : State) (n : Nat) (x : CapSample) : State :=
  let st := s.capState n
  if (st ≠ 1 ∧ st ≠ 2) ∨ (st = 2 ∧ (s.rail n).cap.left = 0) then s
  else
    let r := s.rail n
    let c := r.cap
    let g := x :: c.group
    if g.length < 2 ^ c.decim then s.setRail n { r with cap := { c with group := g } }
    else
      let all := c.samples ++ [groupMean g]
      let keep := if st = 1 then all.drop (all.length - 8192) else all
      let left := if st = 2 then c.left - 1 else c.left
      (s.setRail n { r with cap := { c with samples := keep, group := [], left := left } }).noteFill n

/-! ### Injection (R219–R221) -/

/-- The terms of the sine series from `t` = ang^k / k! on, k odd: t − t·ang²/((k+1)(k+2)) + …, all in units of 2^-128;
`sq` is ang². `fuel` counts the terms. -/
def sineSum : Nat → Nat → Int → Int → Int
  | 0, _, _, _ => 0
  | fuel + 1, k, t, sq => t + sineSum fuel (k + 2) (-(t * sq / 2 ^ 128) / ((k + 1) * (k + 2) : Nat)) sq

/-- sin(2π φ / 2^32) in units of 2^-128, by 20 terms of its series over an angle folded to a quarter turn: the error is
below 2^-110, so that round(A × sin) is the exact one (log 33). -/
def sinFixed (phi : Nat) : Int :=
  let q := phi % 4294967296
  let h := q % 2147483648
  let x := if h ≤ 1073741824 then h else 2147483648 - h
  -- 2π in units of 2^-128
  let ang : Int := (x * 2138057168129933495719360746323741566601 / 4294967296 : Nat)
  let v := sineSum 20 1 ang (ang * ang / 2 ^ 128)
  if q < 2147483648 then v else -v

/-- The injection value at the sample under way (R220): SINE, PRBS11, PRBS15, STEP. The sequences follow their
polynomials with the oldest bit as output (log 34). -/
def Injection.value (j : Injection) : Int :=
  if j.wave = 0 then roundDiv (j.amp * sinFixed j.phase) (2 ^ 128)
  else if j.wave = 1 then (if bitAt j.lfsr 10 then j.amp else -j.amp)
  else if j.wave = 2 then (if bitAt j.lfsr 14 then j.amp else -j.amp)
  else j.amp

/-- A shift register of `w` bits steps: s[n + w] = s[n + tap] xor s[n] (R220). -/
def lfsrStep (w tap v : Nat) : Nat :=
  let fb := bnat (bitAt v (w - 1) != bitAt v (w - 1 - tap))
  (v * 2 + fb) % 2 ^ w

/-- The injection after its sample. -/
def Injection.next (j : Injection) : Injection :=
  let k := j.k + 1
  let step := j.chip ≠ 0 ∧ k % j.chip = 0
  { j with
    k := k
    phase := (j.phase + j.inc) % 4294967296
    lfsr := if step then (if j.wave = 1 then lfsrStep 11 9 j.lfsr else if j.wave = 2 then lfsrStep 15 14 j.lfsr else j.lfsr) else j.lfsr }

/-- inc = round(FREQ × 2^32 × PER / 1.6 GHz) (R220). -/
def sineInc (freq per : Nat) : Nat := (roundDiv ((freq * 4294967296 * per : Nat) : Int) 1600000000).toNat

/-- Does a capture wait for the sample SETTLE of an injection that has aborted (R223)? -/
def State.awaited (s : State) (m : Nat) : Bool := [0, 1, 2, 3].any (fun n => (s.rail n).ghosts.any (fun g => bitAt g.2 m))

/-- The injection of a rail starts at the effective time, or ends at once with NOT_REGULATING (R219, R222). It takes its
settings once: a commit that changes them while it runs with EN kept at 1 does not reach it, a choice (R220, log 164). The
captures whose freeze it waits for are those that its own sample SETTLE triggers: one of source INJECT that an earlier
injection has triggered, or an aborted one will trigger, is not among them, a choice (R221, log 187). -/
def State.startInj (s : State) (n : Nat) : State :=
  let r := s.rail n
  let ps := s.fld HEATH_DOMAIN_STATUS.PSTATE
  let thr := [5, 6].any (fun k => bitAt (s.fld BUD_RSN_ACTIVE.ACTIVE) k)
  let j : Injection :=
    { point := s.fld (RAIL_INJ_CTRL.POINT n), wave := s.fld (RAIL_INJ_CTRL.WAVE n)
      amp := toSigned 16 (s.fld (RAIL_INJ_AMP.AMP n)), chip := s.fld (RAIL_INJ_CTRL.CHIP n)
      inc := sineInc (s.reg (RAIL_INJ_FREQ n)) (s.fld (RAIL_CTRL.PER n))
      freq := s.reg (RAIL_INJ_FREQ n)
      settle := s.fld (RAIL_INJ_CTRL.SETTLE n)
      lfsr := if s.fld (RAIL_INJ_CTRL.WAVE n) = 1 then 2047 else 32767
      startAt := s.now
      caps := ([0, 1, 2, 3].filter (fun m => s.fld (RAIL_CAP_STATUS.STATE m) == 1 && (s.rail m).cap.src == 0 && !s.awaited m)).foldl maskSet 0 }
  let s1 := (((s.setFlag (RAIL_INJ_STATUS.ACTIVE n) true).setFlag (RAIL_INJ_STATUS.DONE n) false).setFlag
    (RAIL_INJ_STATUS.ABORTED n) false).setFld (RAIL_INJ_STATUS.REASON n) 0
  let s1 := each [0, 1, 2, 3] (fun m t =>
    let q := t.rail m
    t.setRail m { q with injAt := some q.count, injEnd := none }) s1
  let s2 := ({ s1.setRail n { s1.rail n with inj := some j } with lastInj := some (n, j) }).logRail n 0x46 (dataBytes [0, 0])
  if (ps = 2 ∨ ps = 3) ∧ r.state = 2 ∧ s.flag (RAIL_STATUS.AT_TARGET n) = true ∧ thr = false then s2 else s2.abortInj n 0xA

/-! ### Channels (R200–R203) -/

/-- Do the codes lie within 1 of each other? -/
def within1 : List Int → Bool
  | [] => true
  | x :: xs => decide (xs.foldl max x - xs.foldl min x ≤ 1)

/-- The range of a list of duties. -/
def dutyRange : List Nat → Nat
  | [] => 0
  | x :: xs => xs.foldl max x - xs.foldl min x

/-- A channel's sample: missing, or a code (R201, R203). Two choices stand here. A FROZEN channel's code change of more than
2 LSB is measured from the code at its declaration, and the 64 present samples after it are consecutive (log 146). A FROZEN
channel that misses 4 samples becomes LOST and returns as a LOST one does (log 147). -/
def Channel.sample (ch : Channel) (code : Option Int) (frozenEn : Bool) (thresh : Nat) (duties : List Nat) : Channel :=
  match code with
  | none =>
    let m := ch.miss + 1
    { ch with miss := m, present := 0, codes := [], state := if 4 ≤ m then 1 else ch.state }
  | some c =>
    let ch1 := { ch with miss := 0, present := ch.present + 1, codes := (c :: ch.codes).take 256 }
    if ch.state = 1 then (if 64 ≤ ch1.present then { ch1 with state := 0 } else ch1)
    else if ch.state = 2 then
      if ch.moved then (if 64 ≤ ch1.present then { ch1 with state := 0, moved := false, codes := [] } else ch1)
      else if 2 < (c - ch.frozenAt).natAbs then { ch1 with moved := true, present := 0 } else ch1
    else if frozenEn && ch1.codes.length == 256 && within1 ch1.codes && decide (thresh < dutyRange duties) then
      { ch1 with state := 2, frozenAt := c, moved := false, present := 0 }
    else ch1

/-- The code in use at a sample, with the offset of R202 where it stands in for the primary channel's: the other channel's
where the channel in use misses, none where both miss (R200). -/
def codeInUse (primaryLocal useLocal : Bool) (ofs : Int) (rem_ loc : Option Int) : Option Int :=
  let o := roundDiv ofs 16
  let asLocal := loc.map (fun c => if primaryLocal then c else c + o)
  let asRemote := rem_.map (fun c => if primaryLocal then c - o else c)
  if useLocal then asLocal.or asRemote else asRemote.or asLocal

/-- A channel change: its ring entry, and the injection aborts when a channel fails (R201, R223). That a channel already is
LOST or FROZEN as an injection starts does not abort it: the change does, a choice (R223, log 188). The entry shows the
channel that leads from the next sample on, the switch included: DEDUCED, since the entry records the switch (R440, log
163). -/
def State.noteChannel (s : State) (n which old new : Nat) (lead : Bool) : State :=
  if old = new then s
  else
    let s1 := s.logRail n 0x40 (dataBytes [which, new, bnat lead])
    if new = 0 then s1 else s1.abortAllInj 2

/-- A change of the channel that leads (R201): counted, recorded; raised where the leading channel failed. -/
def State.noteSwitch (s : State) (n : Nat) (failed : Bool) : State :=
  let s1 := (s.incSat (RAIL_EVENTS.SWITCHES n)).capEvent n 3
  if failed then s1.raise srcRailSenseSwitch (syndrome (0xFF00 + n) 0 (s.rail n).ePrev) else s1

/-- Order 2 of a sample: channel validity and selection. What leads at this sample was settled at the sample
before, but for a return during the hold (R199, R201, R203, R205). A switch is the failure of the channel that leads or the
return of the one that led or of the primary one, not a commit of PRIMARY (R201). -/
def State.sampleChannels (s : State) (n : Nat) (inp : SampleIn) : State :=
  let r := s.rail n
  let en := s.flag (RAIL_SENSE.FROZEN_EN n)
  let th := s.fld (RAIL_SENSE.STUCK_THRESH n)
  let a := r.remote.sample inp.remote en th r.duties
  let b := r.loc.sample inp.loc en th r.duties
  let ofs := match inp.remote, inp.loc with
    | some x, some y => if a.state = 0 ∧ b.state = 0 then r.ofs + ashr ((x - y) * 16 - r.ofs) 8 else r.ofs
    | _, _ => r.ofs
  let s1 := s.setRail n { r with remote := a, loc := b, ofs := ofs }
  let prim := s.flag (RAIL_CTRL.PRIMARY n)
  let primOk := if prim then b.state == 0 else a.state == 0
  let otherOk := if prim then a.state == 0 else b.state == 0
  let lead := if primOk then prim else if otherOk then !prim else r.useLocal
  let s2 := s1.noteChannel n 0 r.remote.state a.state lead
  let s3 := s2.noteChannel n 1 r.loc.state b.state lead
  let s4 := (s3.setFld (RAIL_STATUS.REMOTE n) a.state).setFld (RAIL_STATUS.LOCAL n) b.state
  let fails := if r.useLocal then r.loc.state == 0 && b.state != 0 else r.remote.state == 0 && a.state != 0
  let returned := if lead then r.loc.state != 0 && b.state == 0 else r.remote.state != 0 && a.state == 0
  let back := returned && (lead == r.useLocal || primOk)
  let s5 := if fails || back then s4.noteSwitch n fails else s4
  s5.setRail n { s5.rail n with leadNext := lead }

/-! ### The open-loop hold (R204, R205) -/

/-- Entry to the hold (R204). -/
def State.enterHold (s : State) (n : Nat) : State :=
  let r := s.rail n
  let s1 := s.setRail n { r with state := 3, resume := r.state, openLoop := true, holdAt := some s.now, bias := if n = 0 then 0 else r.bias, atRun := 0 }
  let s2 := ((s1.setFld (RAIL_STATUS.STATE n) 3).setFlag (RAIL_STATUS.HOLD_FREEZE n) true).setFlag (RAIL_STATUS.AT_TARGET n) false
  let s3 := ((s2.incSat (RAIL_EVENTS.HOLDS n)).logRail n 0x41 (dataBytes ([0, 0] ++ leBytes 2 r.duty))).openForce
  let s4 := ((s3.levelOn srcRailOpenLoop (syndrome (0xFF00 + n) 0 r.ePrev)).ringEvent 2).capEvent n 0
  let s5 := (s4.abortAllInj 2).logArb 0x25 (dataBytes (leBytes 2 s4.drp.freeze ++ [1]))
  each (List.range 16) (fun st t => t.noteFreeze st 1 1) s5

/-- The hold of a rail is over: freeze and force end with the last hold of the die (R205, R173). -/
def State.leaveHold (s : State) (n : Nat) : State :=
  let s1 := (s.setRail n { s.rail n with holdAt := none }).setFlag (RAIL_STATUS.HOLD_FREEZE n) false
  if s1.holdFreeze then s1
  else
    let s2 := (s1.openEnds.levelOff srcRailOpenLoop).logArb 0x25 (dataBytes (leBytes 2 s1.drp.freeze ++ [0]))
    each (List.range 16) (fun st t => t.noteFreeze st 0 1) s2

/-- v = floor(Vref × 2^32 / VIN) with the latest valid reading, or TARGET while it is stale (R194, R197). -/
def State.dutyV (s : State) (vref : Nat) : Int :=
  let vin := if s.avs.stale then s.fld RAIL0_AVS_VIN.TARGET else s.fld RAIL0_AVS_READ.VIN
  if vin = 0 then 4294967296 else ((min (vref * 4294967296 / (64 * vin)) 4294967296 : Nat) : Int)

/-- Duty bounds of a rail. -/
def State.dutyClamp (s : State) (n : Nat) (d : Int) : Nat :=
  (clampInt (s.fld (RAIL_DUTY_LIM.DUTY_MIN n)) (s.fld (RAIL_DUTY_LIM.DUTY_MAX n)) d).toNat

/-! ### Phases at a sample (R188, R189) -/

/-- The phase count changes by an exclusion (why 1) or re-admission (why 2) of phase `k`: ph_en follows, and one entry tells
the count that it leaves, changed or not (R188, R189, R440). -/
def State.countWith (s : State) (n cnt k why : Nat) : State :=
  (s.setRail n { s.rail n with n := cnt, enabled := firstPhases (s.avail n) cnt }).logRail n 0x43 (dataBytes [cnt, k, why])

/-- A phase is excluded: ph_en drops, a spare one takes its place, its bit sets and PHASE_FAULT is raised with its cause
(R189). -/
def State.excludePhase (s : State) (n k cause : Nat) : State :=
  let f : Fld := if k < 32 then ⟨RAIL_PH_FAULT n, k, k⟩ else ⟨RAIL_PH_FAULT_HI n, k - 32, k - 32⟩
  let s1 := (s.setFld f 1).raise srcPhaseFault (syndrome ((phaseBase n + k) * 256 + n) cause (s.rail n).eMeas)
  (s1.countWith n (min (s1.rail n).n (s1.avail n).length) k 1).capEvent n 6

/-- Does a keeper set its phase count: it runs, and its soft-start has found the output voltage (R188, R209)? -/
def Rail.counting (r : Rail) : Bool := r.state != 0 && r.state != 5 && r.ssSearch.isNone

/-- The phases re-admitted since the last sample count from this one on (R188, R189); each is recorded (R440). -/
def State.noteReadmitted (s : State) (n : Nat) : State :=
  let back := (s.rail n).readmitted
  let s1 := s.setRail n { s.rail n with readmitted := 0 }
  each (bitsSet 48 back) (fun k t =>
    let r := t.rail n
    let cnt := if r.counting then max (min r.n (t.avail n).length) (t.phaseTarget n) else r.n
    t.countWith n cnt k 2) s1

/-- What a phase tells by a sample: a new code or the last one, which is missing once older than 2 periods, its
temperature and its fault; the run of codes above I_PH_MAX counts only codes that are not missing (R73, R189). -/
def State.notePhase (s : State) (n : Nat) (p : PhaseIn) : State :=
  let r := s.rail n
  let old := SMap.get (fun _ => {}) r.phases p.k
  let lim : Int := 8 * s.fld (RAIL_PHASE.I_PH_MAX n)
  let age : Nat := if p.i.isSome then 0 else min 3 (old.age + 1)
  let i := p.i.getD old.i
  let run := if 2 < age then 0 else if lim < i then min 2 (old.overRun + 1) else 0
  let ph : Phase := { i := i, age := age, temp := p.temp, flt := p.flt, overRun := run }
  s.setRail n { r with phases := SMap.put (fun _ => {}) r.phases p.k ph }

/-- Why a phase is to be excluded: 1 fault, 2 current, 3 temperature, 0 nothing (R189). -/
def State.phaseCause (s : State) (n : Nat) (p : Phase) : Nat :=
  if p.flt then 1 else if 2 ≤ p.overRun then 2
  else if s.fld (RAIL_PHASE.TEMP_MAX n) ≤ p.temp ∧ p.temp ≠ 0xFF then 3 else 0

/-- A built phase at a sample, in any state of its rail: what it tells, then the tests of R189. -/
def State.phaseReport (s : State) (n : Nat) (p : PhaseIn) : State :=
  let s1 := s.notePhase n p
  let ph := SMap.get (fun _ => {}) (s1.rail n).phases p.k
  let why := s1.phaseCause n ph
  if bitAt (s.excluded n) p.k || why == 0 then s1
  else s1.excludePhase n p.k why

/-- What phase `k` tells at a sample. -/
def State.phaseIn (s : State) (n k : Nat) (inp : SampleIn) : PhaseIn :=
  match inp.phases.find? (fun p => p.k == k) with
  | some p => p
  | none =>
    let old := SMap.get (fun _ => {}) (s.rail n).phases k
    { k := k, temp := old.temp, flt := old.flt }

/-- Order 4, exclusions: every built phase, after the re-admissions that software has made (R189). -/
def State.sampleExclusions (s : State) (n : Nat) (inp : SampleIn) : State :=
  each (bitsSet 48 (s.built n)) (fun k t => t.phaseReport n (t.phaseIn n k inp)) (s.noteReadmitted n)

/-- Order 4, phase count (R188): added at once, shed one by one, each after 10 µs without break (PHASE_SHED). -/
def State.samplePhases (s : State) (n : Nat) : State :=
  let r := s.rail n
  let t := s.phaseTarget n
  let cur := min r.n (s.avail n).length
  if !s.flag (RAIL_CTRL.SHED_EN n) || decide (cur < t) then
    let s2 := s.setPhases n t 0xFF 0
    s2.setRail n { s2.rail n with shedSince := none }
  else
    let s2 := s.setPhases n cur 0xFF 0
    s2.setRail n { s2.rail n with shedSince := if t < cur then some (r.shedSince.getD s.now) else none }

/-- 10 µs with a lower target have passed: one phase is shed and the 10 µs restart (R188). -/
def State.phaseShed (s : State) (n : Nat) : State :=
  let r := s.rail n
  match r.shedSince with
  | none => s
  | some t0 =>
    let s := s.advanceTo (t0 + 10000)
    let t := s.phaseTarget n
    if t < r.n then
      let s2 := s.setPhases n (r.n - 1) 0xFF 0
      s2.setRail n { s2.rail n with shedSince := if t < r.n - 1 then some s.now else none }
    else s.setRail n { r with shedSince := none }

/-- Phases are re-admitted where their condition is gone at the moment of the write; the rest of the write is
ignored (R189). The next sample counts them. `hi` chooses the second register. -/
def State.readmit (s : State) (n : Nat) (hi : Bool) (data : Nat) : State :=
  let off := if hi then RAIL_PH_FAULT_HI n else RAIL_PH_FAULT n
  each (bitsSet 32 data) (fun b t =>
    let k := if hi then 32 + b else b
    if t.phaseCause n (SMap.get (fun _ => {}) (t.rail n).phases k) = 0 ∧ bitAt (t.reg off) b = true then
      (t.setFld ⟨off, b, b⟩ 0).setRail n { t.rail n with readmitted := maskSet (t.rail n).readmitted k }
    else t) s

/-! ### Vref (order 5) -/

/-- The TARGET entry of a rail whose target has changed: the new one and the pre-bias, mV (R438, R440). -/
def State.logTarget (s : State) (n : Nat) : State :=
  s.logRail n 0x45 (dataBytes (leBytes 2 ((s.rail n).target / 64) ++ leBytes 2 (s.rail n).bias))

/-- Order 5: target, slew, pre-bias (R191, R209, R210). -/
def State.sampleVref (s : State) (n : Nat) : State :=
  let r := s.rail n
  let bias := if n = 0 ∧ r.state ≠ 3 then s.prebiasNow else if n = 0 then 0 else r.bias
  let s0 := s.setRail n { r with bias := bias }
  let r := s0.rail n
  let mv := if r.state = 4 then 300 else s0.railTarget n
  let t := 64 * mv
  let s1 := if t = r.target then s0
    else
      let u := (s0.setRail n { r with target := t }).logTarget n
      if r.inj.isSome then u.abortInj n 3 else u
  let r := s1.rail n
  let slew := if r.state = 1 ∨ r.state = 4 ∨ (r.state = 3 ∧ r.resume = 1) then s1.fld (RAIL_SS.SLEW n) else s1.fld OPP_CTRL.SLEW
  let (v, m) := if r.state = 4 ∧ r.vref ≤ t then (r.vref, 0) else slewTo r.vref t r.slewRem slew (s1.fld (RAIL_CTRL.PER n))
  s1.setRail n { r with vref := v, slewRem := m }

/-! ### The control law (order 6) -/

/-- Sticky flags of RAILn_SAT, with the ring entry and capture events of those newly set (R193). -/
def State.noteSat (s : State) (n flags : Nat) : State :=
  let old := s.reg (RAIL_SAT n)
  let new := maskDiff flags old
  let s1 := if new = 0 then s else (s.setReg (RAIL_SAT n) (old ||| flags)).logRail n 0x44 (dataBytes [new])
  let s2 := if bitAt flags 4 then s1.capEvent n 1 else s1
  if bitAt flags 5 then s2.capEvent n 2 else s2

/-- Gain of a coefficient register (R194). -/
def State.gain (s : State) (off : Nat) : Int := toSigned 24 (s.reg off)

/-- The value an injection adds at a point, and the injection moved past its sample (R219, R220). -/
def injAt (j : Option Injection) (point : Nat) : Int :=
  match j with
  | some x => if x.point = point then x.value else 0
  | none => 0

/-- What order 6 leaves: error, terms, duty. -/
structure LawOut where
  rail : Rail
  flags : Nat
  /-- error as the law used it, with x -/
  eLaw : Int
deriving DecidableEq, Repr

/-- Order 6 in closed loop (R193–R197): `e` without x (none where both channels miss), `ff` the FF_Q of the
sample, `v` the input-voltage term. The product ka · FF_Q · n_built is exact here, also where it leaves the signed 40-bit
format: a choice, since R194 and R196 do not say whether it wraps or saturates (log 161). Two more choices stand here. +0.5
has no code in the signed 32-bit i, so that sat(i, 0.5) ends at 2^31 − 1 and a sum of exactly +0.5 sets SAT_I (R193, R194,
log 185). Where both channels miss, the e that repeats holds the x of its own sample, and the x of this sample is not added at
REFERENCE (R219, log 186). -/
def controlLaw (r : Rail) (e : Option Int) (ff v kp ki kd ka : Int) (df of_ nBuilt : Nat) (aff vff : Bool)
    (dmin dmax : Int) : LawOut :=
  let e0 := match e with | some x => x + injAt r.inj 0 | none => r.ePrev
  let (p, fp) := satFlag (kp * e0) dutyOne
  let dr := match e with | some _ => kd * (e0 - r.ePrev) | none => 0
  let (d, fd) := satFlag (r.d + ashr (dr - r.d) df) dutyOne
  let sum := r.i + ki * e0
  let ic := clampInt (-2147483648) 2147483647 sum
  let fi := decide (ic ≠ sum)
  let hold := (r.prevHi && decide (0 < ki * e0)) || (r.prevLo && decide (ki * e0 < 0))
  let i := if hold then r.i else ic
  let y := r.y + ashr (p + i + d - r.y) of_
  let overshot := (decide (0 < r.carry) && decide (e0 ≤ -40)) || (decide (r.carry < 0) && decide (40 ≤ e0))
  let carry0 := if overshot then 0 else r.carry
  let a := if aff then (if r.n = 0 then 0 else (ka * ff * nBuilt).tdiv r.n) + carry0 else 0
  let vt := if vff then v else 0
  let x := injAt r.inj 1 * 65536
  let (s0, fs) := satFlag (y + a + vt) (2 * dutyOne)
  let sm := s0 + x
  let hiB := dmax * 65536
  let loB := dmin * 65536
  let raw := if hiB < sm then min (sm - hiB) (max a 0) else if sm < loB then max (sm - loB) (min a 0) else 0
  let (carry, fc) := satFlag (if aff then raw else 0) (8 * dutyOne)
  let dq := ashr sm 16
  let hi := decide (dmax < dq)
  let lo := decide (dq < dmin)
  { rail := { r with i := i, d := d, y := y, carry := carry, prevHi := hi, prevLo := lo, ePrev := e0
                     duty := (clampInt dmin dmax dq).toNat }
    flags := bnat fp + 2 * bnat fi + 4 * bnat fd + 8 * bnat (fs || fc) + 16 * bnat hi + 32 * bnat lo
    eLaw := e0 }

/-! ### Protection (order 7) -/

/-- Readings of the VALID channels that are present, 1/64 mV (R207, R208). -/
def Rail.readings (r : Rail) (inp : SampleIn) : List Int :=
  ((if r.remote.state = 0 then inp.remote.toList else []) ++ (if r.loc.state = 0 then inp.loc.toList else [])).map
    (fun c => 64 * (r.snsRef : Int) + 32 * c)

/-- The overvoltage shutdown of a rail (R207): its phases drop, rails_ready falls, RAIL_OV is raised, the other
rails shut down at once in order. What the power-state sequencer adds stands in its own file. -/
def State.tripRail (s : State) (n : Nat) (e : Int) : State :=
  let s1 := ((s.dropPhases n).setRail n { (s.dropPhases n).rail n with state := 5, holdAt := none, duty := 0, openLoop := false,
                                                                         ssSearch := none, ovRun := 0, uvRun := 0 }).setFld (RAIL_STATUS.STATE n) 5
  let s2 := (s1.setFlag (RAIL_STATUS.AT_TARGET n) false).logRail n 0x42 (dataBytes ([0, 0] ++ leBytes 2 (ofSigned 16 e)))
  let s3 := ((s2.ringEvent 3).capEvent n 4).raise srcRailOv (syndrome (0xFF00 + n) 0 e)
  let s4 := if s3.flag (RAIL_STATUS.HOLD_FREEZE n) then s3.leaveHold n else s3
  (s4.abortAllInj 2)

/-! ### A sample as a whole (R199) -/

/-- What a control sample hands to other units: a soft-start that failed at once (R209), a detected overvoltage
(R207), a detected undervoltage (R208). -/
structure SampleEvents where
  ssFailed : Bool := false
  ov : Bool := false
  uv : Bool := false
deriving DecidableEq, Repr

/-- Order 3: entry to the hold, or, while it lasts, the resumption of closed loop from the values of R205; at a shutdown a
keeper without a VALID channel goes open-loop, and no hold starts. After the hold's expiry the rail stays open-loop
(R206). -/
def State.sampleHold (s : State) (n : Nat) : State :=
  let r := s.rail n
  let valid := r.remote.state == 0 || r.loc.state == 0
  if !valid then
    if (r.state = 1 ∧ r.ssSearch = none) ∨ r.state = 2 then s.enterHold n
    else if r.state = 4 then s.setRail n { r with openLoop := true } else s
  else if r.openLoop ∧ r.state = 3 ∧ r.holdAt.isSome then
    let v := if s.flag (RAIL_CTRL.VFF_EN n) then s.dutyV r.vref else 0
    let sum := r.duty * 65536 - v
    let i := clampInt (-2147483648) 2147483647 sum
    let s1 := (s.setRail n { r with i := i, y := i, d := 0, carry := 0, openLoop := false, useLocal := r.leadNext }).noteSat n
      (2 * bnat (decide (i ≠ sum)))
    ((s1.railTo n r.resume).leaveHold n).logRail n 0x41 (dataBytes ([1, 0] ++ leBytes 2 r.duty))
  else s

/-- Order 6: the error of the sample, then the control law, or v alone in open loop, clamped with its flags (R190,
R193–R200, R204).
`resumed`: closed loop resumes in this sample, so e_prev takes its error. -/
def State.sampleLaw (s : State) (n : Nat) (code : Option Int) (resumed : Bool) : State :=
  let p := if n = 0 then s.takeFF else (0, s)
  let s := p.2
  let r := s.rail n
  let eRef := roundDiv ((r.vref : Int) - 64 * r.snsRef) 32
  let e := code.map (fun c => eRef - c)
  let eMeas := e.getD r.eMeas
  let r1 := { r with eMeas := eMeas }
  let v := s.dutyV r.vref
  if r.openLoop then
    let d := ashr v 16
    let hi := decide ((s.fld (RAIL_DUTY_LIM.DUTY_MAX n) : Int) < d)
    let lo := decide (d < s.fld (RAIL_DUTY_LIM.DUTY_MIN n))
    (s.setRail n { r1 with duty := s.dutyClamp n d, prevHi := hi, prevLo := lo, eLaw := eMeas }).noteSat n (16 * bnat hi + 32 * bnat lo)
  else
    let ePrev := if resumed then eMeas + injAt r.inj 0 else r.ePrev
    let o := controlLaw { r1 with ePrev := ePrev } e p.1 v (s.gain (RAIL_KP n)) (s.gain (RAIL_KI n)) (s.gain (RAIL_KD n))
      (s.gain (RAIL_KA n)) (s.fld (RAIL_FILT.DF_SHIFT n)) (s.fld (RAIL_FILT.OF_SHIFT n)) (popCount 48 (s.built n))
      (n == 0 && s.flag (RAIL_CTRL.AFF_EN n)) (s.flag (RAIL_CTRL.VFF_EN n))
      (s.fld (RAIL_DUTY_LIM.DUTY_MIN n)) (s.fld (RAIL_DUTY_LIM.DUTY_MAX n))
    (s.setRail n { o.rail with eLaw := o.eLaw }).noteSat n o.flags

/-- Is a VALID reading of the sample above Vref + OV_MARGIN (R207)? -/
def State.readsOver (s : State) (n : Nat) (inp : SampleIn) : Bool :=
  ((s.rail n).readings inp).any (fun x => decide (((s.rail n).vref : Int) + 128 * s.fld (RAIL_PROT.OV_MARGIN n) < x))

/-- Is one below Vref − UV_MARGIN (R208)? -/
def State.readsUnder (s : State) (n : Nat) (inp : SampleIn) : Bool :=
  ((s.rail n).readings inp).any (fun x => decide (x < ((s.rail n).vref : Int) - 128 * s.fld (RAIL_PROT.UV_MARGIN n)))

/-- A protection test that is true aborts the die's injection before the control law, so that x is 0 in this sample
(R223). -/
def State.sampleGuard (s : State) (n : Nat) (inp : SampleIn) : State :=
  if s.readsOver n inp || s.readsUnder n inp then s.abortAllInj 2 else s

/-- Order 7: the tests of R207 and R208 on the VALID readings of the sample. -/
def State.sampleProtect (s : State) (n : Nat) (inp : SampleIn) : State × SampleEvents :=
  let r := s.rail n
  let over_ := s.readsOver n inp
  let under := s.readsUnder n inp
  let s1 := s
  let ov := if over_ then r.ovRun + 1 else 0
  let uv := if under then min 17 (r.uvRun + 1) else 0
  let s2 := s1.setRail n { s1.rail n with ovRun := ov, uvRun := uv }
  let s3 := if uv = 16 then
      (((s2.logRail n 0x42 (dataBytes ([1, 0] ++ leBytes 2 (ofSigned 16 r.eMeas)))).ringEvent 3).capEvent n 5).raise srcRailUv
        (syndrome (0xFF00 + n) 0 r.eMeas)
    else s2
  if 2 ≤ ov then (s3.tripRail n r.eMeas, { ov := true, uv := uv = 16 }) else (s3, { uv := uv = 16 })

/-- AT_TARGET (R192) and the regulation run of a soft-start (R209). -/
def State.sampleTarget (s : State) (n : Nat) : State :=
  let r := s.rail n
  let ok := r.vref == r.target
  if r.state = 2 then
    let at_ := if ok && decide (r.eMeas.natAbs ≤ 20) then min 8 (r.atRun + 1) else 0
    let er := if 20 < r.eMeas.natAbs then min 8 (r.errRun + 1) else 0
    let f := if !ok || er == 8 then false else if at_ = 8 then true else s.flag (RAIL_STATUS.AT_TARGET n)
    (s.setRail n { r with atRun := at_, errRun := er, ssRun := 0 }).setFlag (RAIL_STATUS.AT_TARGET n) f
  else
    let ss := if r.state = 1 ∧ ok ∧ r.eMeas.natAbs ≤ 40 then min 64 (r.ssRun + 1) else 0
    (s.setRail n { r with atRun := 0, errRun := 0, ssRun := ss }).setFlag (RAIL_STATUS.AT_TARGET n) false

/-- The instant of the injected sample SETTLE on rail `n`: the captures that waited for it trigger, those of other rails at
their next sample; one of source INJECT that has triggered before counts it (R226, R227). -/
def State.injTrigger (s : State) (n caps : Nat) : State :=
  each [0, 1, 2, 3] (fun m t =>
    if bitAt caps m then
      (if m = n then t.trigCap m 0 else t.setRail m { t.rail m with cap := { (t.rail m).cap with pendingTrig := true } })
    else if (t.rail m).cap.src = 0 ∧ t.capState m ≠ 1 then t.trigCap m 0 else t) s

/-- The samples of injections that have aborted go on until their sample SETTLE, beside one that has begun since (R223). -/
def State.sampleGhosts (s : State) (n : Nat) : State :=
  let gs := (s.rail n).ghosts
  let due := gs.filter (fun g => g.1 == 0)
  let s1 := s.setRail n { s.rail n with ghosts := (gs.filter (fun g => g.1 != 0)).map (fun g => (g.1 - 1, g.2)) }
  each due (fun g t => t.injTrigger n g.2) s1

/-- The sample under way is counted; what ends an injection before that ends it at this sample, what ends it later at the
next (R223, R229). -/
def State.countSample (s : State) (n : Nat) : State := s.setRail n { s.rail n with count := (s.rail n).count + 1 }

/-- Injections at the end of a sample: the capture triggers of aborted ones, then of a running one the capture trigger of the
sample with index SETTLE, the error guard, and the step to the next sample (R219, R223, R226). -/
def State.sampleInj (s0 : State) (n : Nat) : State :=
  let s := (s0.countSample n).sampleGhosts n
  match (s.rail n).inj with
  | none => s
  | some j =>
    let s1 := if j.k = j.settle then s.injTrigger n j.caps else s
    let r := s1.rail n
    let g := if s.fld (RAIL_INJ_GUARD.E_ABORT n) < r.eMeas.natAbs then j.guardRun + 1 else 0
    let s2 := s1.setRail n { r with inj := some { j.next with guardRun := g } }
    if 4 ≤ g then s2.abortInj n 1 else s2

/-- The end of an injection, at the first sample after its captures have frozen, or, with none armed, after
SETTLE + 8,192 samples (R221). -/
def State.injOver (s : State) (n : Nat) : State :=
  match (s.rail n).inj with
  | none => s
  | some j =>
    let armed := [0, 1, 2, 3].filter (fun m => bitAt j.caps m)
    if (if armed.isEmpty then decide (j.settle + 8192 ≤ j.k) else armed.all (fun m => s.capState m == 3)) then s.endInj n else s

/-- Triggers of a capture that fall at a sample: IMMEDIATE, or the instant of another rail's injection (R226). -/
def State.capDue (s : State) (n : Nat) : State :=
  let c := (s.rail n).cap
  if s.capState n = 1 ∧ (c.src = 2 ∨ c.pendingTrig) then
    let s1 := s.trigCap n 0
    s1.setRail n { s1.rail n with cap := { (s1.rail n).cap with pendingTrig := false } }
  else s

/-- What RAILn_ status registers show after a sample. -/
def State.showRail (s : State) (n : Nat) : State :=
  let r := s.rail n
  let s1 := (s.setFld (RAIL_STATUS.N_ACTIVE n) r.n).setFld (RAIL_LOOP.DUTY n) r.duty
  let s2 := (s1.setFld (RAIL_LOOP.VREF n) (r.vref / 2)).setReg (RAIL_INTEG n) (ofSigned 32 r.i)
  let s3 := (s2.setFld (RAIL_SNS.OFS n) (ofSigned 16 r.ofs)).setFld (RAIL_SNS.ERR n) (ofSigned 16 r.eMeas)
  s3.setFld (RAIL_IMEAS.I_MEAS n) (ofSigned 16 r.imeas)

/-- A meter with one more sample: voltage in 1/64 mV, current code, period. -/
def Meter.add (m : Meter) (v i : Int) (per : Nat) : Meter := ⟨m.v + v, m.n + 1, m.e + v * i * per, m.t + per⟩

/-- Measured voltage and energy of a sample (R234, R241): the sensed voltage against the sns_ref of the code, or
Vref where no channel is VALID or none gave a code. A missing phase code spoils the calibration millisecond where that phase
is enabled; one of a built phase that is shed does not, a choice (R73, log 184). -/
def State.sampleMeter (s : State) (n : Nat) (code : Option Int) (snsRef : Nat) : State :=
  let r := s.rail n
  let valid := r.remote.state == 0 || r.loc.state == 0
  let v : Int := match code with
    | some c => if valid then 64 * snsRef + 32 * c else r.vref
    | none => r.vref
  let per := s.fld (RAIL_CTRL.PER n)
  let missing := (bitsSet 48 r.enabled).any (fun k => (SMap.get (fun _ => {}) r.phases k).age == 3)
  s.setRail n { r with meter := r.meter.add v r.imeas per, meterMs := r.meterMs.add v r.imeas per,
                       spoilt := r.spoilt || missing || r.state != 2 || r.inj.isSome }

/-- The search of a soft-start for the output voltage: a code inside the window of the local channel, or of the
remote one where the local converter completes no conversion, sets Vref; else the next window, and after
1,280 mV the soft-start has failed (R209). Two choices: the starting duty v lies within [DUTY_MIN, DUTY_MAX] as every duty
does and counts as at neither bound, and i, d, y, the carry and e_prev begin at 0 at every soft-start (log 162). -/
def State.sampleSearch (s : State) (n w : Nat) (inp : SampleIn) : State × SampleEvents :=
  let r := s.rail n
  let code := match inp.loc with | some c => some c | none => inp.remote
  let inside := match code with | some c => decide (-512 < c ∧ c < 511) | none => false
  if inside then
    let v := (64 * (256 * (w : Int)) + 32 * code.getD 0).toNat
    let tgt := 64 * s.railTarget n
    let slew := s.fld (RAIL_SS.SLEW n)
    let span := if v < tgt then (tgt - v) * 1000 / (64 * slew) else (v - tgt) * 1000 / (64 * slew)
    let s1 := s.setRail n { r with vref := v, slewRem := 0, target := tgt, ssSearch := none, ssUntil := s.now + span + 100000
                                   snsRef := (roundDiv v 64).toNat, ssRun := 0, i := 0, d := 0, y := 0, carry := 0, ePrev := 0
                                   prevHi := false, prevLo := false, eMeas := 0
                                   duty := s.dutyClamp n (ashr (s.dutyV v) 16) }
    let s2 := if tgt = r.target then s1 else s1.logTarget n
    (s2.setPhases n (s2.phaseTarget n) 0xFF 0, {})
  else if w < 5 then (s.setRail n { r with ssSearch := some (w + 1), snsRef := 256 * (w + 1) }, {})
  else (s, { ssFailed := true })

/-- The FF_Q of a sample in which the law does not run: it enters no later one (R143, R196). -/
def State.dropFF (s : State) (n : Nat) : State := if n = 0 then s.takeFF.2 else s

/-- What one control sample records in a capture (R225). -/
def State.sampleCap (s : State) (n count : Nat) (code : Option Int) : State :=
  let r := s.rail n
  (s.capDue n).capPush n { count := count, time := s.skyNs, err := r.eLaw, duty := r.duty, sense := code, cur := r.imeas }

/-- The change of an on-time of `steps` where a line's scale goes from `a` to `b` taps per DPWM cycle, in steps of
15.625 ps (R306). -/
def onTimeChange (steps a b : Nat) : Nat :=
  if a = 0 ∨ b = 0 then 0 else (roundDiv ((steps * (if a ≤ b then b - a else a - b) : Nat) : Int) b).toNat


/-- One step nearer to 0. -/
def stepNearer (x : Int) : Int := if 0 < x then x - 1 else if x < 0 then x + 1 else 0

/-- What is left of an on-time's change at a switching-period boundary, in steps: a new scale `b` in place of `a` that changes
the on-time by more than 2 steps is applied at 1 step per period, any other at once (R306). -/
def rampAfter (steps a b : Nat) (left : Int) : Int :=
  let d := onTimeChange steps a b
  if a = b then stepNearer left
  else if d ≤ 2 then 0
  else stepNearer (if a ≤ b then -(d : Int) else d)

/-- New tap scales are loaded at the period boundary (R306). -/
def State.loadScales (s : State) (n : Nat) : State :=
  let load (k : Nat) (r : Rail) : Rail :=
    match SMap.find s.ps.dpwmTaps (phaseBase n + k) with
    | some b =>
      let left := rampAfter r.onTime (SMap.get (fun _ => 0) r.scale k) b (SMap.get (fun _ => 0) r.ramp k)
      { r with scale := SMap.put (fun _ => 0) r.scale k b, ramp := SMap.put (fun _ => 0) r.ramp k left }
    | none => r
  s.setRail n (each (bitsSet 48 (s.built n)) load (s.rail n))

/-- Order 8: tap scales, on-time and phase starts for the next period: each active phase, ranked j of N by its number, starts
round(j × 40 × PER / N) steps after the period's start, for round(duty × 40 × PER / 65,536) steps (R186, R187, R199, R306). -/
def State.loadPulses (s0 : State) (n : Nat) : State :=
  let s := s0.loadScales n
  let r := s.rail n
  let steps := 40 * s.fld (RAIL_CTRL.PER n)
  let active := bitsSet 48 r.enabled
  s.setRail n { r with
    onTime := (roundDiv ((r.duty * steps : Nat) : Int) 65536).toNat
    starts := active.zipIdx.map (fun p => (p.1, (roundDiv ((p.2 * steps : Nat) : Int) active.length).toNat)) }

/-- ph_pwm of phase `k` of a rail: start and length of its pulse in the period; an on-time of 0 gives none, nor has a phase
one whose ph_en is low (R74, R186); its on-time follows a new tap scale step by step (R306). -/
def Rail.pulse (r : Rail) (k : Nat) : Option (Nat × Nat) :=
  let len := ((r.onTime : Int) + SMap.get (fun _ => 0) r.ramp k).toNat
  if len = 0 ∨ r.onTime = 0 ∨ bitAt r.enabled k = false then none else (SMap.find r.starts k).map (fun t => (t, len))

/-- A sample of a rail that is OFF or TRIPPED: it delivers nothing, and is not REGULATING in its millisecond (R241); an OFF
one is metered at 0 V, the voltage of a TRIPPED one as sensed (R234). -/
def State.sampleIdle (s : State) (n : Nat) (code : Option Int) : State :=
  let r0 := s.rail n
  let s1 := (s.setRail n { r0 with duty := 0, duties := (0 :: r0.duties).take 256, useLocal := r0.leadNext }).loadPulses n
  if r0.state = 0 then
    let r := s1.rail n
    let per := s.fld (RAIL_CTRL.PER n)
    s1.setRail n { r with meter := r.meter.add 0 0 per, meterMs := r.meterMs.add 0 0 per, spoilt := true }
  else s1.sampleMeter n code r0.snsRef

/-- One control sample of a used rail, in the order of R199. -/
def State.sample (s0 : State) (n : Nat) (inp : SampleIn) : State × SampleEvents :=
  let r0 := s0.rail n
  let prim := s0.flag (RAIL_CTRL.PRIMARY n)
  if r0.state = 0 ∨ r0.state = 5 then
    let s1 := (s0.sampleChannels n inp).dropFF n
    let code := codeInUse prim r0.useLocal (s1.rail n).ofs inp.remote inp.loc
    ((((s1.sampleExclusions n inp).sampleIdle n code).sampleInj n).sampleCap n r0.count code, {})
  else
    let s1 := s0.injOver n
    let s2 := s1.sampleChannels n inp
    let r2 := s2.rail n
    match r2.ssSearch with
    | some w =>
      let code := codeInUse prim r2.useLocal r2.ofs inp.remote inp.loc
      let p := (((s2.dropFF n).sampleExclusions n inp).sampleMeter n code r2.snsRef).sampleSearch n w inp
      ((((p.1.setRail n { p.1.rail n with useLocal := r2.leadNext }).sampleInj n).sampleCap n r0.count code).loadPulses n |>.showRail n, p.2)
    | none =>
      let s3 := s2.sampleHold n
      let r3 := s3.rail n
      let resumed := r2.openLoop && !r3.openLoop
      let code := codeInUse prim r3.useLocal r3.ofs inp.remote inp.loc
      let s4 := (s3.sampleExclusions n inp).samplePhases n
      let s5 := (s4.sampleVref n).sampleGuard n inp
      let s6 := s5.sampleLaw n code resumed
      let s6 := s6.sampleMeter n code r3.snsRef
      let p := s6.sampleProtect n inp
      let s7 := (if p.2.ov then p.1 else p.1.sampleTarget n).sampleInj n
      let s8 := s7.sampleCap n r0.count code
      let r8 := s8.rail n
      let s9 := s8.setRail n { r8 with duties := (r8.duty :: r8.duties).take 256, useLocal := r8.leadNext
                                       snsRef := (roundDiv r8.vref 64).toNat }
      ((s9.loadPulses n).showRail n, p.2)

/-! ### Start, shutdown and stop of a rail (R209, R210) -/

/-- A used rail begins its soft-start: the search at window 0 with every ph_en low (R209 step 1). -/
def State.railStart (s : State) (n : Nat) : State :=
  let s1 := (s.dropPhases n).railTo n 1
  s1.setRail n { s1.rail n with ssSearch := some 0, snsRef := 0, ssRun := 0, openLoop := false, duty := 0, ovRun := 0, uvRun := 0 }

/-- A rail begins its ordered shutdown (R210); an open-loop rail stays open-loop (R206). -/
def State.railDown (s : State) (n : Nat) : State :=
  let s1 := (s.railTo n 4).setFlag (RAIL_STATUS.AT_TARGET n) false
  let s2 := s1.setRail n { s1.rail n with ssSearch := none, holdAt := none, slewRem := 0 }
  if s2.flag (RAIL_STATUS.HOLD_FREEZE n) then s2.leaveHold n else s2

/-- A rail has reached 300 mV: every ph_en drops and the keeper is OFF (R210). -/
def State.railOff (s : State) (n : Nat) : State :=
  let s1 := (s.dropPhases n).railTo n 0
  let r := s1.rail n
  (s1.setRail n { r with duty := 0, openLoop := false, ssSearch := none, vref := 0, slewRem := 0, ovRun := 0, uvRun := 0 }).showRail n

/-- The hold of a rail expires (R206), as far as the keeper goes: it is raised and recorded. -/
def State.holdExpires (s : State) (n : Nat) : State :=
  match (s.rail n).holdAt with
  | none => s
  | some t0 =>
    let s := s.advanceTo (t0 + 1000 * s.fld (RAIL_SENSE.HOLD_TIME n))
    let r := s.rail n
    ((s.setRail n { r with holdAt := none }).logRail n 0x41 (dataBytes ([2, 0] ++ leBytes 2 r.duty))).raise
      srcRailHoldExpired (syndrome (0xFF00 + n) 0 r.eMeas)

end Sys2Proof.Machine
end

