-- ==== Sys2Proof/Machine/Limiter.lean ====
section
/-! DEFINITION. The limiter (chapter 9): target index and live ceiling, operating-point steps, the gorse line,
supply alerts, throttle reasons and the energy windows. -/

namespace Sys2Proof.Machine

/-! ### Operands (R256, R257) -/

/-- The die power state (R40): 0 OFF, 1 RETAIN, 2 IDLE, 3 ACTIVE. -/
def State.pstate (s : State) : Nat := s.fld HEATH_DOMAIN_STATUS.PSTATE

/-- The highest point in use. -/
def State.topPoint (s : State) : Nat := s.fld OPP_CTRL.COUNT - 1

/-- top of R256: UNATTENDED revokes the boost points. -/
def State.top (s : State) : Nat :=
  if s.unattended then min s.topPoint (s.fld OPP_CTRL.NOMINAL_TOP) else s.topPoint

/-- u of R256. -/
def State.uncapped (s : State) : Nat :=
  let w := (List.range 4).map (fun n => s.fld (BUD_WIN_CAP.CAP n))
  ([s.hostCap, s.fld BUD_CAPS.THERMAL_CAP, s.fld BUD_CAPS.SUPPLY_CAP] ++ w).foldl min s.top

/-- pace_cap of R256: the highest point whose frequency is at most the paced one; 0 if none; top without PACE. -/
def State.paceCap (s : State) : Nat :=
  match s.rate with
  | none => s.top
  | some r =>
    let lim := s.fld (OPP_PT_A.FREQ s.top) * r
    ((List.range (s.top + 1)).filter (fun k => decide (s.fld (OPP_PT_A.FREQ k) * 256 ≤ lim))).foldl max 0

/-- The target index t (R256). -/
def State.target (s : State) : Nat := min s.uncapped s.paceCap

/-- The phase ceiling of the CORE keeper in quanta (R189). -/
def State.phaseCeiling (s : State) : Nat := (s.avail 0).length * s.fld (RAIL_PHASE.I_PH_MAX 0) * 8

/-- A pool cap in quanta; 16,384 where it is absent (R257). -/
def State.winPool (s : State) (n : Nat) : Nat :=
  if s.flag (BUD_WIN_CAP.POOL_CUT n) then s.fld (BUD_WIN_CAP.POOL_CAP n) else 16384

/-- thermal_pool_cap; 16,384 where it is absent. -/
def State.thermalPool (s : State) : Nat :=
  if s.flag THM_ENF_STATUS.POOL_CUT then s.fld THM_ENF_STATUS.POOL_CAP else 16384

/-- The live die ceiling (R257). -/
def State.liveCeiling (s : State) : Nat :=
  let c := ([s.lim.poolMaxLive, s.fld BUD_SHARE.POOL_Q, s.phaseCeiling, s.thermalPool] ++
    (List.range 4).map s.winPool).foldl min 16384
  if s.lim.emergency then min c (s.fld BUD_SHARE.EMERG_Q) else c

/-! ### Throttle reasons (R274, R275) -/

/-- An index cap binds: it equals t and is below top. -/
def State.capBinds (s : State) (cap : Nat) : Bool := cap == s.target && decide (cap < s.top)

/-- A current cap binds: it equals the ceiling and is below pool_max_live. -/
def State.poolBinds (s : State) (cap : Nat) : Bool := cap == s.liveCeiling && decide (cap < s.lim.poolMaxLive)

/-- A memory-thermal request is in force on a stack (R78). -/
def State.memThrottled (s : State) : Bool :=
  (List.range 4).any (fun k => s.flag (THM_MEM.STALE k) || s.flag (THM_MEM.REFRESH k) || s.fld (THM_MEM.BW_CAP k) != 0)

/-- A USER cap on the pool, a window or a context binds (R421). -/
def State.userBinds (s : State) : Bool :=
  (decide (s.packPool < s.fld BUD_POOL.POOL) && s.poolBinds (s.fld BUD_SHARE.POOL_Q)) ||
  (List.range 4).any (fun n => decide (s.winLimit n < s.reg (BUD_WIN_LIMIT n)) &&
    (s.capBinds (s.fld (BUD_WIN_CAP.CAP n)) || (s.flag (BUD_WIN_CAP.POOL_CUT n) && s.poolBinds (s.winPool n)))) ||
  s.fw.caps.ctxs.any (fun p => decide (p.2 < s.fld (ADM_CTX_MAX.MAX p.1)) && decide (s.capQ p.1 ≤ s.ctxOut p.1))

/-- The reasons active now, one bit per code (R274). -/
def State.reasonsNow (s : State) : Nat :=
  let wins := (List.range 4).map (fun n =>
    s.capBinds (s.fld (BUD_WIN_CAP.CAP n)) || (s.flag (BUD_WIN_CAP.POOL_CUT n) && s.poolBinds (s.winPool n)))
  let rest := [
    s.poolBinds (s.fld BUD_SHARE.POOL_Q) || s.poolBinds s.phaseCeiling,
    s.lim.emergency,
    s.capBinds (s.fld BUD_CAPS.THERMAL_CAP) || (s.flag THM_ENF_STATUS.POOL_CUT && s.poolBinds s.thermalPool) ||
      (s.flag THM_STATUS.PRED_EARLY && s.flag THM_STATUS.ENFORCING),
    s.flag THM_STATUS.PRED_EARLY && s.flag THM_STATUS.ENFORCING,
    s.capBinds s.hostCap || s.userBinds,
    s.rate.isSome && s.capBinds s.paceCap,
    s.droopActive,
    s.holdFreeze,
    s.capBinds (s.fld BUD_CAPS.SUPPLY_CAP),
    s.memThrottled,
    s.unattended && s.fld OPP_CTRL.NOMINAL_TOP == s.target && decide (s.fld OPP_CTRL.NOMINAL_TOP < s.topPoint),
    s.drp.debug && s.fld DRP_FORCE.LEVEL != 0 && s.fld DRP_FORCE.STRIPES != 0]
  ((wins ++ rest).zipIdx.filter (fun p => p.1)).foldl (fun m p => maskSet m p.2) 0

/-- Durations of the reasons active until now accrue (R274). -/
def State.accrueReasons (s : State) : State :=
  let dt := s.now - s.lim.rsnAt
  let s1 := { s with lim := { s.lim with rsnAt := s.now } }
  each (bitsSet 16 (s.fld BUD_RSN_ACTIVE.ACTIVE)) (fun c t =>
    t.setReg64 (BUD_RSN_NS (2 * c)) (min (t.reg64 (BUD_RSN_NS (2 * c)) + dt) (2 ^ 64 - 1))) s1

/-- A power emergency of this die (R423): the emergency of R270, an open-loop hold, a supply_cap in force. -/
def State.powerEmergency (s : State) : Bool :=
  s.lim.emergency || (List.range 4).any (fun n => (s.rail n).openLoop) || s.fld BUD_CAPS.SUPPLY_CAP != 0x1F

/-- The flags another die of the package has told of. -/
def State.othersFlags (s : State) : List Nat := (s.thm.dieFlags.filter (fun p => p.1 != s.dieId)).map (fun p => p.2)

/-- A power or thermal emergency of this die, or one that a follower has told of (R296, R423). -/
def State.emergencyNow (s : State) : Bool :=
  s.powerEmergency || s.flag THM_STATUS.ENFORCING || s.flag THM_STATUS.SHUT_LATCHED || s.flag THM_STATUS.ATRIP_LATCHED ||
  s.othersFlags.any (fun w => bitAt w 3 || bitAt w 8)

/-- Are this die's own rails stable (R423): every one with built phases REGULATING, both channels VALID, no undervoltage of
R208 on it? The hub's bits are not asked: a forced RAIL_UV is none (R468). -/
def State.ownStable (s : State) : Bool :=
  (List.range 4).all (fun n => !s.railUsed n ||
    ((s.rail n).state == 2 && (s.rail n).remote.state == 0 && (s.rail n).loc.state == 0 && decide ((s.rail n).uvRun < 16)))

/-- Are the rails stable, of this die and of the others as they have told (R423)? -/
def State.railsStable (s : State) : Bool := s.ownStable && s.othersFlags.all (fun w => !bitAt w 9)

/-- The 10 ms of a deferred activation start again with the end of an emergency, or of an unstable rail (R423, log 96). -/
def State.noteCalm (s : State) : State :=
  let bad := s.emergencyNow || s.pstate == 0 || !s.railsStable
  if bad = s.lim.barred then s
  else { s with lim := { s.lim with barred := bad, calmFrom := if bad then s.lim.calmFrom else s.now } }

/-- The reasons are looked at anew: a change from inactive to active counts an event, which the throttle sensor will tell;
durations accrue (R274, R407). -/
def State.noteReasons (s : State) : State :=
  let s := s.noteCalm
  let new := s.reasonsNow
  let old := s.fld BUD_RSN_ACTIVE.ACTIVE
  if new = old then s
  else
    let s1 := { s.accrueReasons with lim := { s.accrueReasons.lim with rsnEvents := s.lim.rsnEvents ||| maskDiff new old } }
    each (bitsSet 16 (maskDiff new old)) (fun c t => t.incSat (whole (BUD_RSN_CNT c))) (s1.setFld BUD_RSN_ACTIVE.ACTIVE new)

/-! ### Edges (R434, R437) -/

/-- `n` edges with the same code; the active reasons follow every edge (R437). -/
def State.edges : Nat → State → Nat → Nat → State
  | 0, s, _, _ => s
  | n + 1, s, c, code => State.edges n (s.edge c code).noteReasons c code

/-- Edges until the ladder drops a step; `fuel` bounds them (the timer is at most 32). -/
def State.edgesToDrop : Nat → State → Nat → Nat → State
  | 0, s, _, _ => s
  | fuel + 1, s, c, code =>
    let lvl := (s.agent c).det.lvl
    let s1 := (s.edge c code).noteReasons
    if lvl = 0 ∨ (s1.agent c).det.lvl ≠ lvl then s1 else State.edgesToDrop fuel s1 c code

/-- The lowest reason code whose current cap is the ceiling, 0xFF if none (ring entry CEILING). -/
def State.ceilingReason (s : State) (c : Nat) : Nat :=
  let m := [s.winPool 0, s.winPool 1, s.winPool 2, s.winPool 3, min (s.fld BUD_SHARE.POOL_Q) s.phaseCeiling,
    (if s.lim.emergency then s.fld BUD_SHARE.EMERG_Q else 16385), s.thermalPool]
  match m.zipIdx.find? (fun p => p.1 == c && decide (c < s.lim.poolMaxLive)) with
  | some p => p.2
  | none => 0xFF

/-- The limiter computes t and the ceiling; both are shown, and a changed ceiling is recorded (R256–R258). -/
def State.compute (s : State) : State :=
  let c := s.liveCeiling
  let s1 := (((s.setFld OPP_STATUS.TARGET s.target).setFld BUD_CAPS.TARGET s.target).setFld BUD_CAPS.PACE_CAP
    (if s.rate.isSome then s.paceCap else 0x1F))
  if c = s.ceiling then s1
  else (s1.logArb 0x22 (dataBytes (leBytes 2 s.ceiling ++ leBytes 2 c ++ [s.ceilingReason c]))).setFld ADM_CEILING.CEIL c

/-! ### Operating-point steps (R265–R269) -/

/-- Are steps barred (R266, R267)? -/
def State.stepsBarred (s : State) : Bool :=
  s.holdFreeze || s.flag HEATH_DOMAIN_STATUS.IN_TRANSIT || decide (s.pstate < 2) || s.lim.timedOut

/-- Both stepping rails unused, or AT_TARGET at the target of now: right after a target has moved the flag is still that of
the one before (R192, R265). -/
def State.voltsAtTarget (s : State) : Bool :=
  [0, 1].all (fun n => !s.railUsed n || (s.flag (RAIL_STATUS.AT_TARGET n) && (s.rail n).vref == 64 * s.railTarget n))

/-- Vref of both stepping rails equals the target of the index in force. -/
def State.voltsSettled (s : State) : Bool :=
  s.fld OPP_STATUS.V_IDX == s.opIndex && [0, 1].all (fun n => !s.railUsed n || (s.rail n).vref == 64 * s.railTarget n)

/-- The step under way, for OPP_STATUS. -/
def State.setStep (s : State) (k : OppStep) : State :=
  (({ s with lim := { s.lim with step := k } }).setFlag OPP_STATUS.STEPPING (k.kind != 0)).setFlag OPP_STATUS.UP (k.kind == 1)

/-- The voltage targets of a point, unless a hold or a block reset keeps them as they are (R212, R265, R267). -/
def State.moveVolts (s : State) (k : Nat) : State :=
  if s.holdFreeze || s.inReset then { s with lim := { s.lim with voltGoal := some k } }
  else ({ s with lim := { s.lim with voltOld := none, voltGoal := none } }).setFld OPP_STATUS.V_IDX k

/-- An up step that has not begun its handshake is cancelled when t falls below its goal (R266). -/
def State.cancelUp (s : State) : State :=
  let k := s.lim.step
  if k.kind = 1 ∧ s.lim.req = false ∧ k.freqDone = false ∧ s.target < k.goal then (s.setStep {}).moveVolts s.opIndex
  else s

/-- A cap or share operand has changed (R258): t and the ceiling are recomputed, an up step may be cancelled, the
reasons follow. -/
def State.operandChange (s : State) : State := (s.compute.cancelUp).noteReasons

/-- A step begins (R265): up, the voltages first; down, pool_max_live first. An up step waits UP_DWELL after the
last down step's handshake. -/
def State.stepStart (s : State) : State :=
  let i := s.opIndex
  let t := s.target
  if s.lim.step.kind ≠ 0 ∨ s.stepsBarred ∨ s.inReset ∨ s.lim.restep ∨ t = i then s
  else if t < i then
    let p := min (s.fld (OPP_PT_B.POOL_MAX i)) (s.fld (OPP_PT_B.POOL_MAX (i - 1)))
    ({ s with lim := { s.lim with poolMaxLive := p } }).setStep { kind := 2, goal := i - 1 }
  else if s.voltsSettled then
    let s1 := match s.lim.downAt with
      | some d => s.advanceTo (d + 1000 * s.fld OPP_CTRL.UP_DWELL)
      | none => s
    ((s1.setStep { kind := 1, goal := i + 1 }).moveVolts (i + 1)).stepBegins
  else s

/-- May the handshake of the step under way begin: up and voltage-first re-steps wait for AT_TARGET; the last
handshake has ended; no hold or power-state transition bars it, but the one to point 0 (R265, R267, R268). -/
def State.handshakeReady (s : State) : Bool :=
  let k := s.lim.step
  k.kind != 0 && k.hasFreq && !k.freqDone && !s.lim.req && !s.lim.ack && !s.lim.timedOut &&
    (k.kind == 4 || !s.holdFreeze && !s.flag HEATH_DOMAIN_STATUS.IN_TRANSIT && decide (2 ≤ s.pstate)) &&
    (if k.kind = 1 || (k.kind == 3 && k.voltFirst) then s.voltsAtTarget else true)

/-- opp_freq is set and opp_freq_req rises (R268); for the agents a step is in progress from here on, or from its earlier
voltage targets (R166). -/
def State.handshakeStart (s : State) : State :=
  if s.handshakeReady then
    (({ s with lim := { s.lim with freq := s.fld (OPP_PT_A.FREQ s.lim.step.goal), req := true, reqAt := s.now } }).setFlag
      OPP_STATUS.FREQ_WAIT true).stepBegins
  else s

/-- A step is complete. -/
def State.stepDone (s : State) : State := s.setStep {}

/-- A re-step whose frequency is in force and whose voltages are at target is complete: pool_max_live becomes
that of the point (R269). -/
def State.finishRestep (s : State) : State :=
  let k := s.lim.step
  if k.kind = 3 ∧ (k.hasFreq = false ∨ k.freqDone) ∧ s.lim.voltOld = none ∧ s.inReset = false ∧ s.voltsAtTarget then
    ({ s with lim := { s.lim with poolMaxLive := s.fld (OPP_PT_B.POOL_MAX k.goal) } }).stepDone
  else s

/-- The agents load the trims of a point, where it is not the one they have (R165). -/
def State.loadTrims (s : State) (k : Nat) : State :=
  each s.clusters (fun c t => if (t.agent c).det.point = k then t else t.loadTrim c k) s

/-- Fast calibrations start at every cluster without a valid trim for its point (R166). -/
def State.startCals (s : State) : State := each s.clusters (fun c t => t.startCal c) s

/-- The limiter signals a step's end: the index in force and the targeted voltages belong to one point, and CORE and CACHE
are AT_TARGET; fast calibrations start where they are due, and a window that has seen the step is not quiet (R166, R167). -/
def State.settleStep (s : State) : State :=
  if s.lim.agentStep ∧ s.lim.step.kind = 0 ∧ s.fld OPP_STATUS.V_IDX = s.opIndex ∧ s.lim.voltOld = none ∧ s.voltsAtTarget = true then
    let s1 : State := each s.clusters (fun c t => t.setAgent c { t.agent c with det := { (t.agent c).det with noisyAt := t.now } })
      { s with lim := { s.lim with agentStep := false } }
    s1.startCals
  else s

/-- A re-step to min(i, COUNT − 1) begins after a table change (R269). `old`: CORE and CACHE voltages replaced. -/
def State.restepStart (s : State) (old : Nat × Nat) : State :=
  let g := min s.opIndex s.topPoint
  let nv := (s.fld (OPP_PT_A.VCORE g), s.fld (OPP_PT_B.VCACHE g))
  let freqDiff := s.fld (OPP_PT_A.FREQ g) != s.lim.freq
  let up := decide (old.1 < nv.1 ∨ old.2 < nv.2)
  let pool := min s.lim.poolMaxLive (s.fld (OPP_PT_B.POOL_MAX g))
  let s1 := { s with lim := { s.lim with poolMaxLive := pool, restep := false } }
  if freqDiff = false ∧ nv = old then
    ((({ s1 with lim := { s1.lim with poolMaxLive := s.fld (OPP_PT_B.POOL_MAX g), voltOld := none, voltGoal := none } }).setFld
      OPP_STATUS.INDEX g |>.setFld OPP_STATUS.V_IDX g).stepDone.loadTrims g).startCals
  else if freqDiff = false ∨ up then
    let s2 := (((({ s1 with lim := { s1.lim with voltOld := some old } }).moveVolts g).setFld OPP_STATUS.INDEX
      (if freqDiff then s.opIndex else g)).setStep { kind := 3, goal := g, hasFreq := freqDiff, voltFirst := up }).stepBegins
    if freqDiff then s2 else s2.loadTrims g
  else ({ s1 with lim := { s1.lim with voltOld := some old } }).setStep { kind := 3, goal := g, hasFreq := true, voltFirst := false }

/-- A re-step that waited begins: the voltages it replaces are those held since the table change (R269). -/
def State.restepNow (s : State) : State :=
  s.restepStart (s.lim.voltOld.getD
    (s.fld (OPP_PT_A.VCORE (s.fld OPP_STATUS.V_IDX)), s.fld (OPP_PT_B.VCACHE (s.fld OPP_STATUS.V_IDX))))

/-- May a re-step begin: no handshake is under way, none to point 0 is due, and steps are taken in the die's power state
(R267, R269)? -/
def State.restepMay (s : State) : Bool :=
  !s.lim.req && s.lim.step.kind != 4 && !s.flag HEATH_DOMAIN_STATUS.IN_TRANSIT && decide (2 ≤ s.pstate)

/-- A re-step that waited begins as soon as it may. -/
def State.restepDue (s : State) : State := if s.lim.restep && s.restepMay then s.restepNow else s

/-- The index in force is 0 on the way to RETAIN: the targets are those of point 0. Where the table has changed since its
frequency was set, a re-step stays due for the return to IDLE, and with it the lower of the two values of pool_max_live (R40,
R267, R269). -/
def State.atZero (s : State) : State :=
  let due := s.lim.freq != s.fld (OPP_PT_A.FREQ 0)
  let p := s.fld (OPP_PT_B.POOL_MAX 0)
  (({ s with lim := { s.lim with restep := due, poolMaxLive := if due then min s.lim.poolMaxLive p else p } }).setStep {}).moveVolts 0

/-- On the way to RETAIN the step under way gives way to the one handshake to point 0, where the index is above it (R40,
R267). A re-step under way or due gives way with it: the handshake brings FREQ[0] of the new table. -/
def State.retainStep (s : State) : State :=
  let s1 := { s with lim := { s.lim with toZero := false } }
  if 0 < s1.opIndex then { s1 with lim := { s1.lim with restep := false } }.setStep { kind := 4, goal := 0 } else s1.atZero

/-- The host raises opp_freq_ack: the request falls, the trims are loaded, the step finishes (R265, R268). Where a table
change has come in between, the voltages stay as they are until its re-step moves them (R269). -/
def State.freqAck (s : State) : State :=
  if s.lim.req then
    let k := s.lim.step
    let s1 := ({ s with lim := { s.lim with req := false, ack := true, timedOut := false } }).setFlag OPP_STATUS.FREQ_WAIT false
    let s2 := ((s1.setFld OPP_STATUS.F_IDX k.goal).setFld OPP_STATUS.INDEX k.goal).loadTrims k.goal
    let volts (t : State) : State := if t.lim.restep then t else t.moveVolts k.goal
    let pool := s.fld (OPP_PT_B.POOL_MAX k.goal)
    let s3 :=
      if k.kind = 1 then
        (({ s2 with lim := { s2.lim with poolMaxLive := if s2.lim.restep then min s2.lim.poolMaxLive pool else pool } }).incSat
          OPP_STEPS.UP).stepDone
      else if k.kind = 2 then
        (volts (({ s2 with lim := { s2.lim with downAt := some s.now } }).incSat OPP_STEPS.DOWN)).stepDone
      else if k.kind = 3 then
        (((if k.voltFirst then s2 else volts s2).setStep { k with freqDone := true })).finishRestep
      else s2.atZero
    (if s3.lim.toZero then s3.retainStep else s3).restepDue.settleStep
  else s

/-- opp_freq_ack falls: the handshake has ended (R268). -/
def State.freqAckFall (s : State) : State := if s.lim.ack then { s with lim := { s.lim with ack := false } } else s

/-- 20 µs without the acknowledgement: OPP_FREQ_TIMEOUT is raised and no further step is taken until it comes (R268). -/
def State.freqTimeout (s : State) : State :=
  if s.lim.req && !s.lim.timedOut then
    let s1 := s.advanceTo (s.lim.reqAt + 20000)
    ({ s1 with lim := { s1.lim with timedOut := true } }).raise srcOppFreqTimeout (syndrome 0 0 s.lim.freq)
  else s

/-- After a sample: voltage targets that waited for a hold or a block reset move, a re-step may be complete, and a step's
end is signalled (R166, R212, R267, R269). -/
def State.stepSample (s : State) : State :=
  if s.inReset then s
  else
    let s1 := match s.lim.voltGoal with
      | some k => s.moveVolts k
      | none => s
    s1.finishRestep.settleStep

/-- opp_freq becomes FREQ[0] without a handshake at step 8 of start-up and of an OFF to IDLE transition, and the agents have
the trims of point 0 (R165, R267, R268). -/
def State.freqReset (s : State) : State :=
  let s1 := { s with lim := { s.lim with freq := s.fld (OPP_PT_A.FREQ 0), poolMaxLive := s.fld (OPP_PT_B.POOL_MAX 0)
                                         step := {}, req := false, timedOut := false, voltOld := none, voltGoal := none,
                                         agentStep := false, toZero := false, restep := false } }
  (((((s1.setFld OPP_STATUS.INDEX 0).setFld OPP_STATUS.V_IDX 0).setFld OPP_STATUS.F_IDX 0).setFlag OPP_STATUS.STEPPING false).setFlag
    OPP_STATUS.FREQ_WAIT false).loadTrims 0

/-! ### The gorse line (R270, R271) -/

/-- The Heath latches FAST_LIMIT_N low: the emergency, the SEVERE force, the ring trigger, and the injection gives
way; the ceiling follows when the limiter computes (R270, R172, R223, R441). -/
def State.fastLimit (s : State) : State :=
  if s.lim.pinLow then s
  else
    let s1 := { s with lim := { s.lim with emergency := true, pinLow := true, highAt := none } }
    ((s1.gorseForce.ringEvent 1).abortAllInj 4).noteReasons

/-- The pin returns high: the hold begins (R271). -/
def State.fastLimitHigh (s : State) : State :=
  if s.lim.pinLow then { s with lim := { s.lim with pinLow := false, highAt := some s.now } } else s

/-- FL_HOLD has passed since the pin returned high: the emergency ends and its force goes stripe by stripe (R271, R173).
Under PORST_N the Heath's own part of it ends all the same (R13, R99). -/
def State.emergencyOver (s : State) : State :=
  match s.lim.highAt with
  | none => s
  | some t =>
    let s1 := s.advanceTo (t + 10000 * s.fld BUD_HOLD.FL_HOLD)
    let s2 := { s1 with lim := { s1.lim with emergency := false, highAt := none } }
    if s2.ps.porst then s2.gorseEnds.compute.noteReasons else s2

/-! ### Supply alerts (R272) -/

/-- A supply alert lowers supply_cap below the index in force, at most once a millisecond (R272). -/
def State.supplyAlert (s : State) : State :=
  let s1 := { s with lim := { s.lim with alertAt := some s.now } }
  let due := match s.lim.lowerAt with | none => true | some t => decide (t + 1000000 ≤ s.now)
  if due then
    (({ s1 with lim := { s1.lim with lowerAt := some s.now } }).setFld BUD_CAPS.SUPPLY_CAP
      (min (s.fld BUD_CAPS.SUPPLY_CAP) (s.opIndex - 1))).noteReasons
  else s1

/-- An undervoltage of CORE or CACHE acts as a supply alert where UV_EN is set (R272). -/
def State.uvAlert (s : State) (n : Nat) : State := if n < 2 ∧ s.flag BUD_HOLD.UV_EN then s.supplyAlert else s

/-- SUPPLY_HOLD has passed since the latest alert: the cap is removed (R272). -/
def State.supplyOver (s : State) : State :=
  match s.lim.alertAt with
  | none => s
  | some t =>
    let s1 := s.advanceTo (t + 1000000 * s.fld BUD_HOLD.SUPPLY_HOLD)
    (({ s1 with lim := { s1.lim with alertAt := none, lowerAt := none } }).setFld BUD_CAPS.SUPPLY_CAP 0x1F).noteReasons

/-! ### Shares (R260) -/

/-- The participants: dies found by the exchange that are not LOST (R260). -/
def State.participants (s : State) : List Nat :=
  (bitsSet 8 s.dieMask).filter (fun d => s.fld (HDG_DIE_STATE.STATE d) != 3)

/-- The share of the participant of rank `i` among `n` (R260). -/
def shareOfRank (v n i : Nat) : Nat := if n = 0 then 0 else v / n + bnat (decide (i < v % n))

/-- Share registers of die `d` from the package values (R260): offset and value. -/
def State.shareRegs (s : State) (d : Nat) : List (Nat × Nat) :=
  let ps := s.participants
  let i := ps.idxOf d
  let n := ps.length
  if i < n then
    (BUD_SHARE, withBits (withBits 0 BUD_SHARE.POOL_Q.hi BUD_SHARE.POOL_Q.lo (min 16384 (shareOfRank s.packPool n i)))
      BUD_SHARE.EMERG_Q.hi BUD_SHARE.EMERG_Q.lo (min 16384 (shareOfRank (s.fld BUD_EMERG.EMERG) n i))) ::
    (List.range 4).map (fun w => (BUD_SHARE_WIN w, shareOfRank (s.winLimit w) n i))
  else []

/-- This die takes its shares from the package values. -/
def State.takeShares (s : State) : State := each (s.shareRegs s.dieId) (fun r t => t.setReg r.1 r.2) s

/-- The share of window `w` that die `d` has (R260). -/
def State.winShare (s : State) (w d : Nat) : Nat :=
  let ps := s.participants
  shareOfRank (s.winLimit w) ps.length (ps.idxOf d)

/-! ### Energy windows (R261–R264) -/

/-- An energy window. -/
def State.window (s : State) (w : Nat) : Window := SMap.get (fun _ => {}) s.win w

/-- The state with a window replaced. -/
def State.setWindow (s : State) (w : Nat) (x : Window) : State := { s with win := SMap.put (fun _ => {}) s.win w x }

/-- Is a window enabled? -/
def State.winOn (s : State) (w : Nat) : Bool := bitAt (s.fld BUD_CTRL.WIN_EN) w

/-- Slot length in ns (R261). -/
def State.slotNs (s : State) (w : Nat) : Nat := 1000 * s.fld (BUD_WIN_LEN.LEN w)

/-- The last 50 complete slots of a die, or of the package (key 8). -/
def Window.energy (x : Window) (d : Nat) : Nat := (SMap.get (fun _ => []) x.slots d).sum

/-- The slot under way is complete: it enters the 50 of every die. -/
def Window.close (x : Window) : Window :=
  let ks := (x.slots.map (fun p => p.1)) ++ ((x.cur.map (fun p => p.1)).filter (fun k => !SMap.has x.slots k))
  { x with slots := each ks (fun k m =>
      SMap.put (fun _ => []) m k ((SMap.get (fun _ => 0) x.cur k :: SMap.get (fun _ => []) m k).take 50)) x.slots
           cur := [] }

/-- `n` slots are complete, the first of them the one under way. -/
def Window.closeN : Nat → Window → Window
  | 0, x => x
  | n + 1, x => Window.closeN n x.close

/-- Energy enters the slot under way of every key named. -/
def Window.addTo (x : Window) (ds : List Nat) (pj : Nat) : Window :=
  { x with cur := each ds (fun d m => SMap.put (fun _ => 0) m d (SMap.get (fun _ => 0) m d + pj)) x.cur }

/-- Energy enters the complete slot `j` places back of every key named. -/
def Window.addBack (x : Window) (ds : List Nat) (j pj : Nat) : Window :=
  { x with slots := each ds (fun d m =>
      let ys := SMap.get (fun _ => []) m d
      let zs := ys ++ List.replicate (j + 1 - ys.length) 0
      SMap.put (fun _ => []) m d (listSet zs j (listGet 0 zs j + pj))) x.slots }

/-- Energy up to Skylark time `e` enters the slot, of length `len`, in which that time falls: one of the last 50 complete
ones, or the one under way, after those before it have been completed (R261). -/
def Window.bookAt (x : Window) (ds : List Nat) (len pj e : Nat) : Window :=
  if len = 0 then x.addTo ds pj
  else if e ≤ x.lastAt then
    (if (x.lastAt - e) / len < 50 then x.addBack ds ((x.lastAt - e) / len) pj else x)
  else
    let k := (e - x.lastAt - 1) / len
    Window.addTo { Window.closeN (min k 51) x with lastAt := x.lastAt + k * len } ds pj

/-- Energy of a die's interval is booked into the slot of every enabled window in which the interval ended; the booking comes
less than 1 µs after that end (R240, R261). -/
def State.bookWindows (s : State) (ds : List Nat) (pj : Nat) : State :=
  each (List.range 4) (fun w t =>
    if t.winOn w then t.setWindow w ((t.window w).bookAt ds (t.slotNs w) pj (t.skyNs / 1000 * 1000)) else t) s

/-- A gap booking spread over the slots it covers, in proportion to time (R254, R261): energy `pj` of the keys `ds` from
Skylark time `t0` to `t1`, slot length `len`; `fuel` bounds the boundaries crossed. -/
def Window.spread (x : Window) (ds : List Nat) (len pj t0 t1 : Nat) : Nat → Window
  | 0 => x
  | fuel + 1 =>
    let b := (t0 / len + 1) * len
    if t1 ≤ t0 ∨ len = 0 ∨ t1 ≤ b then x.bookAt ds len pj t1
    else
      let e := pj * (b - t0) / (t1 - t0)
      Window.spread (x.bookAt ds len e b) ds len (pj - e) b t1 fuel

/-- A gap's energy is booked into every enabled window, for the die and, at the leader, for the package (R254, R261,
R264). -/
def State.bookGap (s : State) (ds : List Nat) (pj t0 t1 : Nat) : State :=
  each (List.range 4) (fun w t =>
    let x := t.window w
    let len := t.slotNs w
    let k := if len = 0 then 1 else (t1 - t0) / len + 2
    if t.winOn w then t.setWindow w (x.spread ds len pj t0 t1 k) else t) s

/-- W over for an energy in pJ and a limit in mW (R261): limit × L is in nJ. -/
def State.winOver (s : State) (w pj mw : Nat) : Bool := decide (mw * 50 * s.fld (BUD_WIN_LEN.LEN w) * 1000 < pj)

/-- The decision of R262 from the package (or own) energy and power, the die's energy and power, the limits:
1 lower, 2 raise, 0 hold. Energies in pJ, powers in µW, limits in mW. -/
def State.winDecide (s : State) (w ePkg pPkg limit eDie pDie share : Nat) : Nat :=
  let rel := 256 - s.fld BUD_CTRL.REL_MARGIN
  if s.winOver w ePkg limit && s.winOver w eDie share && decide (share * 1000 < pDie) then 1
  else if decide (ePkg * 256 ≤ limit * 50 * s.fld (BUD_WIN_LEN.LEN w) * 1000 * rel) && decide (pPkg * 256 ≤ limit * 1000 * rel) then 2
  else 0

/-- A decision is applied at this die (R262); a cap that it has lowered is a ring trigger (R441). -/
def State.winApply (s : State) (w dec : Nat) : State :=
  let pool0 := s.fld (OPP_PT_B.POOL_MAX 0)
  let cut := s.flag (BUD_WIN_CAP.POOL_CUT w)
  let pc := s.fld (BUD_WIN_CAP.POOL_CAP w)
  let cap := s.fld (BUD_WIN_CAP.CAP w)
  if dec = 1 then
    let s1 :=
      if cut then s.setFld (BUD_WIN_CAP.POOL_CAP w) (max (pc - pool0 / 16) (min pc (s.fld BUD_SHARE.EMERG_Q)))
      else if 0 < cap then s.setFld (BUD_WIN_CAP.CAP w) (min cap s.opIndex - 1)
      else (s.setFlag (BUD_WIN_CAP.POOL_CUT w) true).setFld (BUD_WIN_CAP.POOL_CAP w) (pool0 - pool0 / 16)
    if s1.reg (BUD_WIN_CAP w) = s.reg (BUD_WIN_CAP w) then s1 else s1.ringEvent 6
  else if dec = 2 then
    if cut then
      let p := pc + pool0 / 16
      if pool0 ≤ p then (s.setFlag (BUD_WIN_CAP.POOL_CUT w) false).setFld (BUD_WIN_CAP.POOL_CAP w) 0
      else s.setFld (BUD_WIN_CAP.POOL_CAP w) p
    else if cap = 0x1F then s
    else s.setFld (BUD_WIN_CAP.CAP w) (if s.top ≤ cap + 1 then 0x1F else cap + 1)
  else s

/-- Power of a die's latest interval, µW; 8 is the package (R238, R240). -/
def State.dieP (s : State) (d : Nat) : Nat := SMap.get (fun _ => 0) s.est.dieP d

/-- The leader's decision for a die at a boundary (R262). -/
def State.decisionFor (s : State) (w d : Nat) : Nat :=
  let x := s.window w
  s.winDecide w (x.energy 8) (s.dieP 8) (s.winLimit w) (x.energy d) (s.dieP d) (s.winShare w d)

/-- OVER and FILL at a boundary (R261). -/
def State.showFill (s : State) (w : Nat) : State :=
  let e := (s.window w).energy 8
  let full := s.winLimit w * 50 * s.fld (BUD_WIN_LEN.LEN w) * 1000
  let f := if full = 0 then 0xFFFFFF else min 0xFFFFFF (e * 65536 / full)
  (s.setFlag (BUD_WIN_FILL.OVER w) (s.winOver w e (s.winLimit w))).setFld (BUD_WIN_FILL.FILL w) f

/-- A slot boundary of an enabled window is reached: the slot is complete (R261). -/
def State.slotBoundary (s : State) (w : Nat) : State :=
  let len := s.slotNs w
  if s.winOn w ∧ 0 < len then
    let x := s.window w
    let s1 := s.advanceSky (max (ceilMult s.skyNs len) (x.lastAt + len))
    s1.setWindow w { x.close with lastAt := s1.skyNs / len * len }
  else s

/-- A commit enables a window or changes its LEN: its slots are filled with the newest interval, scaled (R264); its
boundaries stand at the multiples of LEN (R261). -/
def State.fillWindow (s : State) (w : Nat) : State :=
  let us := s.fld (BUD_WIN_LEN.LEN w)
  let slots := s.est.dieP.foldl (fun m p => SMap.put (fun _ => []) m p.1 (List.replicate 50 (p.2 * us))) []
  let at_ := s.skyNs / (1000 * max us 1) * (1000 * max us 1)
  s.setWindow w { slots := slots, lastAt := at_, heardAt := s.skyNs }

/-- Disabling a window removes its caps (R264). -/
def State.dropWindow (s : State) (w : Nat) : State :=
  (((s.setFld (BUD_WIN_CAP.CAP w) 0x1F).setFlag (BUD_WIN_CAP.POOL_CUT w) false).setFld (BUD_WIN_CAP.POOL_CAP w) 0).setWindow w {}

end Sys2Proof.Machine
end

