-- ==== Sys2Proof/Machine/Estimator.lean ====
section
/-! DEFINITION. The power estimator (chapter 8): one interval, calibration, energy accounting, gaps. -/

namespace Sys2Proof.Machine

/-! ### The model -/

/-- Weight of count `k` on rail `r`, 1/16 pF per count (R233). -/
def State.weight (s : State) (r k : Nat) : Nat :=
  let off := EST_W0 (k / 2) + 0x20 * r
  if k % 2 = 0 then s.fld ⟨off, 15, 0⟩ else s.fld ⟨off, 31, 16⟩

/-- Voltage breakpoint `i` of rail `r`, mV. -/
def State.vAxis (s : State) (r i : Nat) : Int :=
  let off := EST_VAX0 (i / 2) + 0x20 * r
  ((if i % 2 = 0 then s.fld ⟨off, 15, 0⟩ else s.fld ⟨off, 31, 16⟩ : Nat) : Int)

/-- Temperature breakpoint `j`, 1/16 °C. -/
def State.tAxis (s : State) (j : Nat) : Int :=
  toSigned 16 (if j % 2 = 0 then s.fld (EST_TAX.T_LO (j / 2)) else s.fld (EST_TAX.T_HI (j / 2)))

/-- The cell of an axis of 16 points that brackets an input, clamped to its end points: index of the lower corner and
the 8-bit fraction (R236). -/
def axisCell (ax : Nat → Int) (x : Int) : Nat × Int :=
  if x ≤ ax 0 then (0, 0)
  else if ax 15 ≤ x then (14, 256)
  else
    let i := ((List.range 15).filter (fun k => decide (ax k ≤ x))).foldl max 0
    let d := ax (i + 1) - ax i
    (i, if d ≤ 0 then 0 else (x - ax i) * 256 / d)

/-- Leakage of rail `r` at a voltage and a temperature, mW (R236). -/
def State.leakage (s : State) (r : Nat) (v t : Int) : Int :=
  let (i, fv) := axisCell (s.vAxis r) v
  let (j, ft) := axisCell s.tAxis t
  let l (a b : Nat) : Int := s.fld (EST_LK.LEAK (256 * r + 16 * a + b))
  let lo := l i j * (256 - fv) + l (i + 1) j * fv
  let hi := l i (j + 1) * (256 - fv) + l (i + 1) (j + 1) * fv
  ashr (lo * (256 - ft) + hi * ft + 32768) 16

/-- The reported temperature of a site. -/
def State.siteT (s : State) (k : Nat) : Int := toSigned 16 (s.fld (SITE_TEMP.T k))

/-- T of R237: the mean of the 96 reported values, or the highest breakpoint where the die has no valid site. The mean is
rounded down to 1/16 °C, a choice (log 190). -/
def State.meanT (s : State) : Int :=
  if (List.range 96).all (fun k => s.fld (SITE_TEMP.SRC k) == 2) then s.tAxis 15
  else ((List.range 96).map s.siteT).sum / 96

/-- MODEL_VALID: a nonzero weight and a nonzero leakage entry are in force (R247). -/
def State.modelValid (s : State) : Bool :=
  (s.regs.any (fun p => decide (0x20100 ≤ p.1 ∧ p.1 < 0x20180) && p.2 != 0)) &&
  (s.regs.any (fun p => decide (0x20400 ≤ p.1 ∧ p.1 < 0x21400) && p.2.toNat % 2 ^ 24 != 0))

/-- Is the measured mode in use (R247)? -/
def State.measured (s : State) : Bool := !s.flag EST_STATUS.MODEL_VALID || s.flag EST_CTRL.MODE

/-- MODEL_VALID and MEASURED follow the model in force. -/
def State.noteModel (s : State) : State :=
  let s1 := s.setFlag EST_STATUS.MODEL_VALID s.modelValid
  s1.setFlag EST_STATUS.MEASURED s1.measured

/-- A commit changed a rail's model: gain and offset start again (R244). -/
def State.resetGain (s : State) (r : Nat) : State :=
  let s1 := ((s.setFld (EST_RAIL_GAIN.G r) 0x4000).setReg (EST_RAIL_OFS r) 0).setFld EST_STATUS.CONVERGED
    (maskClear (s.fld EST_STATUS.CONVERGED) r)
  { s1 with est := { s1.est with modelChanged := maskSet s1.est.modelChanged r, good := SMap.put (fun _ => 0) s1.est.good r 0,
                                 bad := SMap.put (fun _ => 0) s1.est.bad r 0 } }

/-! ### Measured quantities of an interval (R234, R241) -/

/-- v_mv of a rail over the interval: the mean over its samples, each as it was metered; where no sample fell in it Vref, of
an OFF rail 0. -/
def Rail.meanMv (r : Rail) : Int :=
  if r.meter.n = 0 then (if r.state = 0 then 0 else roundDiv r.vref 64) else roundDiv r.meter.v (64 * r.meter.n)

/-- Mean power of a meter, µW: current in 125 mA times voltage in 1/64 mV is 125/64 µW. -/
def Meter.power (m : Meter) : Nat := if m.t = 0 then 0 else (m.e * 125 / (64 * m.t : Nat)).toNat

/-- Energy of a meter, pJ: 125/64 µW over a DPWM cycle of 0.625 ns is 5/4,096 pJ. -/
def Meter.energy (m : Meter) : Nat := (m.e * 5 / 4096).toNat

/-- The interval's meters start again. -/
def State.clearMeters (s : State) : State :=
  each (List.range 4) (fun n t => t.setRail n { t.rail n with meter := {} }) s

/-! ### Energy accounts (R249, R251) -/

/-- An energy counter register pair by account: contexts, 1,024 unattributed, 1,025 die, 1,026 package. -/
def accountReg (k : Nat) : Nat :=
  if k < 1024 then EST_CTX_E (2 * k) else if k = 1024 then EST_UNATTR_E 0 else if k = 1025 then EST_DIE_E 0 else EST_PKG_E 0

/-- An amount in pJ enters an account: whole µJ in the register, the rest as its remainder; a negative balance is
carried and set against later amounts (R249, R251). -/
def State.book (s : State) (k : Nat) (pj : Int) : State :=
  let t := SMap.get (fun _ => 0) s.est.rem k + pj
  let uj := if t < 0 then 0 else (t / 1000000).toNat
  let rem := t - 1000000 * uj
  let s1 := { s with est := { s.est with rem := SMap.put (fun _ => 0) s.est.rem k rem } }
  if uj = 0 then s1 else s1.setReg64 (accountReg k) (min (s.reg64 (accountReg k) + uj) (2 ^ 64 - 1))

/-! ### One interval (R233–R240, R247, R250) -/

/-- What the interval gives for one rail. -/
structure RailPower where
  /-- raw dynamic power µW and per cluster pJ, leakage mW, p µW -/
  dyn : Nat := 0
  edyn : SMap Nat := []
  leak : Int := 0
  p : Nat := 0
deriving DecidableEq, Repr

/-- Has a cluster counts for the interval: of a whole one, or of one that was closed early (R231, R232)? -/
def Agent.hasCounts (a : Agent) : Bool := a.fresh || !a.early.isEmpty

/-- The raw counts of a cluster for the interval: what it closed, zeros where nothing new came (R231, R232). -/
def Agent.actCounts (a : Agent) : List Nat := if a.fresh then a.closed else a.early

/-- The estimator has taken an agent's counts: those of an early close that came after the whole interval stay, and with them
that the cluster ran in the interval they belong to (R232, R250). -/
def Agent.taken (a : Agent) : Agent :=
  { a with fresh := false, early := if a.fresh then a.early else [], ran := a.run || (a.fresh && !a.early.isEmpty) }

/-- s[c][r] and edyn[c][r] of R233. -/
def State.edyn (s : State) (r : Nat) (v : Int) (counts : List Nat) : Nat :=
  let x := ((counts.zipIdx).map (fun q => s.weight r q.2 * q.1)).sum
  x * v.toNat * v.toNat / 16000000

/-- The power of rail `r` in the interval (R238), in measured mode the measured power (R247). -/
def State.railPower (s : State) (r : Nat) : RailPower :=
  let k := s.rail r
  let v := k.meanMv
  let off := k.state == 0 && k.meter.v == 0
  let es := (s.agents.filter (fun q => q.2.hasCounts)).map (fun q => (q.1, s.edyn r v q.2.actCounts))
  let dyn := (es.map (fun q => q.2)).sum
  let leak := if off then 0 else s.leakage r v s.meanT
  let g := s.fld (EST_RAIL_GAIN.G r)
  let o := toSigned 32 (s.reg (EST_RAIL_OFS r))
  if s.measured then { dyn := dyn, leak := leak, p := k.meter.power }
  else { dyn := dyn, edyn := es, leak := leak, p := ((g * dyn / 16384 : Nat) + 1000 * (leak + o)).toNat }

/-- Attribution of one rail's energy (R250): calibrated dynamic energy to each cluster's context, the rest equally
among the clusters that ran, remainders unattributed. Answers the state and what each cluster was given. -/
def State.attribute (s : State) (r : Nat) (x : RailPower) (ran : List Nat) (given : SMap Int) : State × SMap Int :=
  let g := s.fld (EST_RAIL_GAIN.G r)
  let dynOf (c : Nat) : Int := ((SMap.get (fun _ => 0) x.edyn c * g / 16384 : Nat) : Int)
  let dynAll : Int := ((x.dyn * g / 16384 : Nat) : Int)
  let rest : Int := x.p - (if x.edyn.isEmpty then 0 else dynAll)
  let share : Int := if ran.isEmpty then 0 else rest.tdiv ran.length
  let cs := (x.edyn.map (fun q => q.1)) ++ ran.filter (fun c => !SMap.has x.edyn c)
  let step (c : Nat) (p : State × SMap Int) : State × SMap Int :=
    let e := dynOf c + (if ran.contains c then share else 0)
    (p.1.book (p.1.ctxOf c) e, SMap.put (fun _ => 0) p.2 c (SMap.get (fun _ => 0) p.2 c + e))
  let out := each cs step (s, given)
  let sum : Int := (cs.map (fun c => dynOf c + (if ran.contains c then share else 0))).sum
  (out.1.book 1024 (x.p - sum), out.2)

/-- Stripe shares of a rail, µW (R239): calibrated dynamic power of the stripe's clusters, and the rest in
proportion to the populated clusters. -/
def State.stripeShares (s : State) (r : Nat) (x : RailPower) (m : SMap Int) : SMap Int :=
  let g := s.fld (EST_RAIL_GAIN.G r)
  let dynOf (st : Nat) : Int :=
    (((x.edyn.filter (fun q => stripeOf q.1 == st)).map (fun q => q.2)).sum * g / 16384 : Nat)
  let rest : Int := x.p - ((List.range 16).map dynOf).sum
  let pop := s.clusters.length
  each (List.range 16) (fun st acc =>
    let k := (s.clusters.filter (fun c => stripeOf c == st)).length
    SMap.put (fun _ => 0) acc st (SMap.get (fun _ => 0) acc st + dynOf st + (if pop = 0 then 0 else rest * k / pop))) m

/-- Every 100 intervals the mean powers go to the thermal manager (R239). -/
def State.deliverPower (s : State) : State :=
  if s.est.nSum = 100 then
    let m := each (List.range 16) (fun st acc => SMap.put (fun _ => 0) acc st (SMap.get (fun _ => 0) s.est.stripeSum st / 100000)) []
    { s with thm := { s.thm with stripeP := m, meanP := s.est.dieSum / 100 }, est := { s.est with dieSum := 0, stripeSum := [], nSum := 0 } }
  else s

/-- The package power, and the held power of LOST dies, at the leader (R240). -/
def State.packagePower (s : State) : State :=
  let ds := bitsSet 8 s.dieMask
  let p := (ds.map (fun d => if s.fld (HDG_DIE_STATE.STATE d) = 2 then 0 else s.dieP d)).sum
  let s1 := { s with est := { s.est with dieP := SMap.put (fun _ => 0) s.est.dieP 8 p } }
  (s1.setReg EST_PKG_P (p / 1000)).setFlag EST_STATUS.PKG_PARTIAL (ds.any (fun d => s.fld (HDG_DIE_STATE.STATE d) == 3))

/-- A die's interval energy arrives at the leader's accounts and windows (R240, R261). -/
def State.bookDie (s : State) (d uw : Nat) : State :=
  let s1 := { s with est := { s.est with dieP := SMap.put (fun _ => 0) s.est.dieP d uw } }
  ((s1.packagePower).book 1026 uw).bookWindows [d, 8] uw

/-- The energy of a gap of another die arrives at the leader: it enters the package counter and the windows over its length
(R254, R261). -/
def State.bookGapOf (s : State) (d pj t0 t1 : Nat) : State := (s.book 1026 pj).bookGap [d, 8] pj t0 t1

/-- The state as the model was when the interval that ends at Skylark time `t` began: a commit's model applies from the
first interval that begins at or after its effective time (R246). -/
def State.modelAt (s : State) (t : Nat) : State :=
  if t < s.est.modelFrom + 1000 ∧ s.est.oldModel ≠ [] then (each s.est.oldModel (fun p u => u.setReg p.1 p.2) s).noteModel else s

/-- One estimator interval: the boundary is reached, the counts in, power and energy follow. Answers the state and
the die's energy in pJ (R233–R240, R250). AGT_PWR of a stopped cluster stays as it was when its clock stopped (R57). -/
def State.interval (s : State) : State × Nat :=
  let s := s.advanceSky (max (ceilMult s.skyNs 1000) (s.est.lastAt + 1000))
  let m := s.modelAt s.skyNs
  let xs := (List.range 4).map (fun r => (r, m.railPower r))
  let ran := (s.agents.filter (fun q => q.2.ran || q.2.run)).map (fun q => q.1)
  let die : Nat := (xs.map (fun x => x.2.p)).sum
  let att := xs.foldl (fun p x => p.1.attribute x.1 x.2 ran p.2) (s, ([] : SMap Int))
  let s1 := att.1.book 1025 die
  let s2 := xs.foldl (fun t x => ((t.setReg (EST_RAIL_P x.1) (x.2.p / 1000)).setReg (EST_RAIL_DYN x.1) (x.2.dyn / 1000)).setReg
    (EST_RAIL_LEAK x.1) (ofSigned 32 x.2.leak)) s1
  let s3 := (s2.setReg EST_DIE_P (die / 1000)).clearMeters
  let s4 := each (s3.clusters.filter (fun c => (s3.agent c).run)) (fun c t =>
    t.setReg (AGT_PWR c) (SMap.get (fun _ => 0) att.2 c).toNat) s3
  let s5 := each (s4.agents.map (fun q => q.1)) (fun c t => t.setAgent c (t.agent c).taken) s4
  let e := s5.est
  let e1 := { e with
    lastAt := s5.skyNs
    given := att.2
    oldModel := if s5.skyNs < e.modelFrom then e.oldModel else []
    dynMs := xs.foldl (fun m x => SMap.put (fun _ => 0) m x.1 (SMap.get (fun _ => 0) m x.1 + x.2.dyn)) e.dynMs
    leakMs := xs.foldl (fun m x => SMap.put (fun _ => 0) m x.1 (SMap.get (fun _ => 0) m x.1 + x.2.leak)) e.leakMs
    nMs := e.nMs + 1
    dieSum := e.dieSum + die
    stripeSum := xs.foldl (fun m x => s.stripeShares x.1 x.2 m) e.stripeSum
    nSum := e.nSum + 1
    dieP := SMap.put (fun _ => 0) e.dieP s.dieId die }
  (({ s5 with est := e1 }).deliverPower, die)

/-! ### Calibration (R241–R243) -/

/-- Did the calibration millisecond count for a rail (R241)? -/
def State.counts (s : State) (r : Nat) : Bool :=
  s.railUsed r && !(s.rail r).spoilt && (s.rail r).meterMs.n != 0 && s.est.nMs != 0 && !s.est.psChanged &&
    !bitAt s.est.modelChanged r && s.flag EST_CTRL.CAL_EN && !s.est.calMoved

/-- CONVERGED of a rail from its error (R243). -/
def State.converge (s : State) (r : Nat) (err : Int) (p : Nat) : State :=
  let good := if err.natAbs * 50 ≤ p then min 8 (SMap.get (fun _ => 0) s.est.good r + 1) else 0
  let bad := if p < err.natAbs * 20 then min 2 (SMap.get (fun _ => 0) s.est.bad r + 1) else 0
  let s1 := { s with est := { s.est with good := SMap.put (fun _ => 0) s.est.good r good, bad := SMap.put (fun _ => 0) s.est.bad r bad } }
  let c := s.fld EST_STATUS.CONVERGED
  s1.setFld EST_STATUS.CONVERGED (if 8 ≤ good then maskSet c r else if 2 ≤ bad then maskClear c r else c)

/-- The update of a rail for a millisecond that counts (R242): / truncates toward zero, >> is arithmetic. With d and l both 0
the test holds and its quotient has no value: the offset is updated then, a choice (log 191). -/
def State.calibrate (s : State) (r : Nat) : State :=
  let pm := (s.rail r).meterMs.power / 1000
  let d : Int := (SMap.get (fun _ => 0) s.est.dynMs r / (1000 * s.est.nMs) : Nat)
  let l : Int := (SMap.get (fun _ => 0) s.est.leakMs r).tdiv s.est.nMs
  let g : Int := s.fld (EST_RAIL_GAIN.G r)
  let o := toSigned 32 (s.reg (EST_RAIL_OFS r))
  let err : Int := (pm : Int) - ((g * d).tdiv 16384 + l + o)
  let s1 := (s.setReg (EST_RAIL_MEAS r) pm).setReg (EST_RAIL_ERR r) (ofSigned 32 err)
  let byGain := decide (s.fld EST_CAL_CFG.DYN_FRAC * (d + l) ≤ d * 16) && d != 0
  let s2 :=
    if byGain then
      let n := g + ashr ((err * 16384).tdiv d) (s.fld EST_CAL_CFG.G_SHIFT)
      let lo : Int := s.fld EST_CAL_LIM.G_MIN
      let hi : Int := s.fld EST_CAL_LIM.G_MAX
      let t := s1.setFld (EST_RAIL_GAIN.G r) (clampInt lo hi n).toNat
      if n ≤ lo ∨ hi ≤ n then t.setFld EST_STATUS.CAL_SAT (maskSet (t.fld EST_STATUS.CAL_SAT) r) else t
    else
      let lim : Int := 1000 * s.fld EST_CAL_CFG.O_LIM
      let n := o + ashr err (s.fld EST_CAL_CFG.O_SHIFT)
      let t := s1.setReg (EST_RAIL_OFS r) (ofSigned 32 (clampInt (-lim) lim n))
      if n ≤ -lim ∨ lim ≤ n then t.setFld EST_STATUS.CAL_SAT (maskSet (t.fld EST_STATUS.CAL_SAT) r) else t
  s2.converge r err pm

/-- A Skylark millisecond is reached: every rail is updated or skipped, and the sums start again (R241, R242);
calibration is suspended in measured mode (R247). -/
def State.calibration (s : State) : State :=
  let s := s.advanceSky (max (ceilMult s.skyNs 1000000) (s.est.calAt + 1000000))
  let s1 := if s.measured then s
    else each (List.range 4) (fun r t => if s.counts r then t.calibrate r else t.incSat (EST_CAL_SKIP.SKIP r)) s
  let s2 := each (List.range 4) (fun n t => t.setRail n { t.rail n with meterMs := {}, spoilt := false }) s1
  { s2 with est := { s2.est with calAt := s2.skyNs, dynMs := [], leakMs := [], nMs := 0, psChanged := false, modelChanged := 0, calMoved := false } }

/-! ### Gaps (R254) -/

/-- The measured energy of a gap in pJ, its beginning and its end in Skylark time (R254). -/
def State.gapSpan (s : State) : Nat × Nat × Nat :=
  (((List.range 4).map (fun r => (s.rail r).meter.energy)).sum, s.est.lastAt, s.skyNs / 1000 * 1000)

/-- The estimator starts again after a gap: the measured energy of the gap goes to the die and the unattributed
counter, and the gap is presented to the limiter with its length (R254). Counts of intervals that ended in the gap are
gone: their energy is booked with it, and who ran in them has no share in the next interval's (R250). -/
def State.gapBooking (s0 : State) : State :=
  let (pj, t0, t1) := s0.gapSpan
  let s := each (s0.agents.map (fun q => q.1)) (fun c t => t.setAgent c { t.agent c with fresh := false, early := [], ran := (t.agent c).run }) s0
  let s1 := ((((s.book 1025 pj).book 1024 pj).clearMeters).setFlag EST_STATUS.GAP true).bookGap (if s.leader then [s.dieId, 8] else [s.dieId]) pj t0 t1
  let s2 := if s.leader then s1.book 1026 pj else s1
  { s2 with est := { s2.est with lastAt := t1 } }

end Sys2Proof.Machine
end

