-- ==== Sys2Proof/Machine/Events.lean ====
section
/-! DEFINITION. What the units send: memory-port requests, Hedgerow flits, doorbells, event records, notices, PLDM
events and slow-down requests (R58–R60, R273, R322, R377, R381, R404, R407). -/

namespace Sys2Proof.Machine

/-! ### Memory port -/

/-- The lowest free tag of the 32 (R59): none outstanding, none still owed a response. -/
def MemPort.freeTag (p : MemPort) : Option Nat :=
  (List.range 32).find? (fun t => !SMap.has p.out t && !SMap.has p.dead t)

/-- Waiting transactions are issued while tags are free; `fuel` bounds the loop. -/
def State.issueMem : Nat → State → State
  | 0, s => s
  | fuel + 1, s =>
    match s.mem.queue, s.mem.freeTag with
    | x :: xs, some t =>
      let y := { x with at_ := s.now }
      State.issueMem fuel (({ s with mem := { s.mem with queue := xs, out := SMap.enter s.mem.out t y } }).emit (.mem t y))
    | _, _ => s

/-- May requests be issued: while the clock of the port runs (R50), not during a block reset, and after it once every tag
issued before it has returned or 100 µs have passed since its trigger (R92)? -/
def State.memGo (s : State) : Bool :=
  s.flag HEATH_DOMAIN_STATUS.CORE_ON && !s.inReset && (s.mem.resetDead.isEmpty || decide (s.ps.resetAt + 100000 ≤ s.now))

/-- Waiting transactions are issued as tags allow. -/
def State.memPump (s : State) : State := if s.memGo then State.issueMem 32 s else s

/-- Transactions are queued and issued as tags allow (R59, R92). -/
def State.memSend (s : State) (xs : List MemTxn) : State :=
  ({ s with mem := { s.mem with queue := s.mem.queue ++ xs } }).memPump

/-- A byte string cut into 64-byte lines; `fuel` bounds the loop. A write carries whole lines and has no byte enables (R58):
what the bytes of the last line past the data hold the spec leaves open, and they are 0 here, a choice (log 150). -/
def cutLines : Nat → List Nat → List (List Nat)
  | 0, _ => []
  | _, [] => []
  | fuel + 1, bs => (bs.take 64 ++ List.replicate (64 - (bs.take 64).length) 0) :: cutLines fuel (bs.drop 64)

/-- The writes of a byte string at an address (64-byte aligned), one transaction a line. -/
def writeLines (addr : Nat) (ctx : Option Nat) (job : Job) (bs : List Nat) : List MemTxn :=
  (cutLines (bs.length / 64 + 1) bs).zipIdx.map (fun p =>
    { wr := true, addr := addr + 64 * p.2, ctx := ctx, data := p.1, job := job })

/-! ### Hedgerow -/

/-- The link to an instance. -/
def State.link (s : State) (d : Nat) : Link := SMap.get (fun _ => {}) s.hdg.links d

/-- The state with a link replaced. -/
def State.setLink (s : State) (d : Nat) (k : Link) : State :=
  { s with hdg := { s.hdg with links := SMap.put (fun _ => {}) s.hdg.links d k } }

/-- The block epoch (R105). -/
def State.blockEpoch (s : State) : Nat := s.fld HEATH_EPOCH.BLOCK_EPOCH

/-- The header of a flit to an instance: numbered, with the acknowledgement of what has been received in order, once
something has (R320, R322). -/
def State.flitHdr (s : State) (d seq tag : Nat) : FlitHdr :=
  { src := s.dieId, seq := seq, ack := ((s.link d).rxSeq + 63) % 64, ackVld := (s.link d).taken, tag := tag, epoch := s.blockEpoch }

/-- One flit goes out (R320, R322). LINK flits take no sequence and no credit. -/
def State.transmit (s : State) (d : Nat) (f : OutFlit) : State :=
  let k := s.link d
  let hdr : FlitHdr := { s.flitHdr d k.txSeq f.tag with more := f.more }
  match f.payload with
  | .link => s.emit (.flit d hdr f.payload)
  | _ => ((s.setLink d { k with txSeq := (k.txSeq + 1) % 64, unacked := k.unacked ++ [⟨k.txSeq, f.tag, f.payload, f.more, 1, s.now⟩] })).emit
      (.flit d hdr f.payload)

/-- Priority of a flit among those ready for one destination, 0 first (R326). A PREPARE is ready once what was staged
before it has gone. -/
def Payload.rank (stageWaits : Bool) : Payload → Nat
  | .link => 0
  | .level _ _ => 1
  | .abort _ | .commit _ | .prepareAck _ _ _ => 2
  | .prepare _ _ _ _ => if stageWaits then 4 else 2
  | .heartbeat _ _ _ => 3
  | _ => 4
/-- Is a bulk message one that a commit brings to its participants (R327)? -/
def Bulk.staging : Bulk → Bool
  | .load _ | .drop _ _ | .reserve _ _ _ _ _ | .snapshot _ _ | .userCaps _ | .image => true
  | _ => false
/-- Is the payload one that a PREPARE counts on? -/
def Payload.staging : Payload → Bool
  | .stage _ _ => true
  | .data b => b.staging
  | _ => false
/-- The flit that goes next among those that wait: the first of the best priority, and the others (R326). -/
def nextFlit (q : List OutFlit) : Option (OutFlit × List OutFlit) :=
  let waits := q.any (fun f => f.payload.staging)
  match (List.range 5).findSome? (fun r => q.findIdx? (fun f => f.payload.rank waits == r)) with
  | none => none
  | some i => (q[i]?).map (fun f => (f, q.eraseIdx i))
/-- Is one LEVEL value tighter than another (R26, R326): a lower rate, or valid longer? -/
def levelTighter (new old : Nat) : Bool := decide (new % 256 < old % 256) || decide (old / 512 < new / 512)
/-- A flit joins those that wait; one LEVEL flit waits for each word, the tighter one (R326). -/
def joinQueue (q : List OutFlit) (f : OutFlit) : List OutFlit :=
  match f.payload with
  | .level i v =>
    match q.findIdx? (fun x => match x.payload with | .level j _ => i == j | _ => false) with
    | some k => q.mapIdx (fun n x => match x.payload with
        | .level _ old => if n == k && levelTighter v old then f else x
        | _ => x)
    | none => q ++ [f]
  | _ => q ++ [f]
/-- A flit is sent to an instance: at once while this die's block core clock runs, the instance is awake and a credit is
free, else it waits and a sleeping instance is woken (R50, R82, R322). Nothing goes over a failed link, to the instance
itself, or to a die in OFF, whose clocks stand still (R17, R334). -/
def State.sendFlit (s : State) (d : Nat) (f : OutFlit) : State :=
  let k := s.link d
  if d = s.dieId ∨ k.failed ∨ (s.leader = true ∧ s.fld (HDG_DIE_STATE.STATE d) = 2 ∧ k.awake = false) then s
  else if s.flag HEATH_DOMAIN_STATUS.CORE_ON && k.awake && decide (k.unacked.length < 16) && k.queue.isEmpty then s.transmit d f
  else s.setLink d { k with queue := joinQueue k.queue f, wakeAt := if k.awake then k.wakeAt else some (k.wakeAt.getD s.now) }
/-- How many flits of a message precede its last one (R320, R321): a CMD takes several; of the other messages whose payload
the spec only names `v` says it; every other message is one flit (log 152). -/
def Payload.extra (v : Nat) : Payload → Nat
  | .cmd _ => v + 1
  | .event _ | .data _ | .cmdDone _ _ _ => v
  | _ => 0
/-- A message is sent to an instance, as one flit or several, all but the last with MORE (R320). Nothing but the links and the
outputs changes. -/
def State.send (s : State) (d tag : Nat) (p : Payload) : State :=
  let n := p.extra (Config.moreFlits (s.out.length + (s.link d).queue.length) tag).toNat
  let t := (each (List.range n) (fun _ t => t.sendFlit d ⟨tag, p, true⟩) s).sendFlit d ⟨tag, p, false⟩
  { s with hdg := t.hdg, out := t.out }
/-- Flits that waited go out as the instance and the credits allow, by priority; `fuel` bounds the loop. -/
def State.drainLink : Nat → State → Nat → State
  | 0, s, _ => s
  | fuel + 1, s, d =>
    let k := s.link d
    if s.flag HEATH_DOMAIN_STATUS.CORE_ON && k.awake && decide (k.unacked.length < 16) then
      match nextFlit k.queue with
      | some (x, rest) => State.drainLink fuel ((s.setLink d { k with queue := rest }).transmit d x) d
      | none => s
    else s
/-- May an on-demand domain be woken now: the PLL is locked (R16)? -/
def State.canWake (s : State) : Bool := s.flag HEATH_DOMAIN_STATUS.PLL_LOCK

/-- Flits that waited on every link go out as the instances and the credits allow (R50, R322). -/
def State.drainAll (s : State) : State := each (List.range 8) (fun d t => State.drainLink 16 t d) s

/-- Node updates that fell into a gap of the block core clock are not made up for (R17, R297). -/
def State.modelResumes (s : State) : State := { s with thm := { s.thm with modelAt := max s.thm.modelAt s.skyNs } }

/-- The units that stamp on the block core clock mark their next entry GAP: arbiter and sample rings, streamed records
(R368). -/
def State.gapCore (s : State) : State :=
  { s with sky := { s.sky with gap := true }, rings := { s.rings with arb := { s.rings.arb with gap := true }, samp := { s.rings.samp with gap := true } } }

/-- The DIE_ID of the leader as a follower knows it: the instance whose strap flit said so (R29). -/
def State.leaderDie (s : State) : Nat :=
  match s.hdg.links.find? (fun p => match p.2.strap with | some x => x.2 | none => false) with
  | some p => p.1
  | none => 0

/-- Has this instance heard which one leads (R29)? -/
def State.leaderKnown (s : State) : Bool := s.hdg.links.any (fun p => match p.2.strap with | some x => x.2 | none => false)

/-- A follower tells its leader the gap that its estimator has just booked (R254, R261). -/
def State.tellGap (s : State) (g : Nat × Nat × Nat) : State :=
  if s.leader || s.flag HDG_STATUS.AUTONOMOUS || !s.leaderKnown || g.1 == 0 then s
  else s.send s.leaderDie 0 (.data (.gap g.1 g.2.1 g.2.2))

/-- The block core domain starts, if it does not run already: after a gap the estimator books what it measured, rings stamp
with GAP, and what waits for the memory port and on the links goes out (R17, R50, R254, R368). -/
def State.startCore (s : State) : State :=
  if s.flag HEATH_DOMAIN_STATUS.CORE_ON then s else (s.setFlag HEATH_DOMAIN_STATUS.CORE_ON true).gapBooking.gapCore.modelResumes.memPump.drainAll.tellGap s.gapSpan

/-- The Heath starts a gated block core domain for flits of its own that wait (R17, R50). -/
def State.wakeLinks (s : State) : State :=
  if s.canWake && s.hdg.links.any (fun p => !p.2.queue.isEmpty) then s.startCore else s

/-- The other instances of the package the leader talks to: found by the exchange, not LOST. -/
def State.followers (s : State) : List Nat := s.participants.filter (fun d => d != s.dieId)

/-- A flit to every follower. -/
def State.toFollowers (s : State) (p : Payload) : State := each s.followers (fun d t => t.send d 0 p) s

/-- The other instances that this one exchanges heartbeats with: those the strap exchange has shown (R332). -/
def State.instances (s : State) : List Nat :=
  (s.hdg.links.filter (fun p => p.1 != s.dieId && p.2.strap.isSome && !p.2.failed)).map (fun p => p.1)

/-- A heartbeat to every awake instance (R332). -/
def State.sendBeat (s : State) (pstate : Nat) : State :=
  each (s.instances.filter (fun d => (s.link d).awake)) (fun d t =>
    t.send d 0 (.heartbeat pstate (t.flag HEATH_BOOT_STATUS.STOPPED) (t.flag HDG_STATUS.AUTONOMOUS))) s

/-- An EVENT flit from a follower to the leader (R337); an AUTONOMOUS follower has none, nor has one that has not heard
of it yet. -/
def State.report (s : State) (e : DieEvent) : State :=
  if s.leader || s.flag HDG_STATUS.AUTONOMOUS || !s.leaderKnown then s else s.send s.leaderDie 0 (.event e)

/-! ### Doorbells (R380, R381) -/

/-- An outbound doorbell bit: set at the leader; a follower reports the cause (R381). -/
def State.bell (s : State) (b : Nat) : State :=
  if s.leader then s.setReg MB_DB_OUT (maskSet (s.reg MB_DB_OUT) b) else s.report (.bell b)

/-! ### PLDM events (R407) -/

/-- Sensor kinds of a PLDM event: 0 die temperature state, 1 session, 2 die, 3 throttle, 4 stack, 5 slow-down. -/
def State.pldmEvent (s : State) (kind die : Nat) (value : Int) : State :=
  if s.leader then
    let s1 := { s with ses := { s.ses with pldm := if s.ses.pldm.length < 32 then s.ses.pldm ++ [(kind, die, value)] else s.ses.pldm } }
    if s.fld HEATH_BOOT_STATUS.MG_BIND = 2 ∧ s.ses.receiver ≠ 0 then s1.emit (.pldm kind die value) else s1
  else s

/-- The flags of a die reach the leader, with the throttle reasons that have set: each change of a thermal flag is a PLDM
event, and so is the setting of reasons; what bars an activation is looked at anew (R286, R300, R301, R407, R423). -/
def State.takeFlags (s : State) (d w : Nat) : State :=
  let old := SMap.get (fun _ => 0) s.thm.dieFlags d
  let t := if w / 2 ^ 32 = 0 then s else s.pldmEvent 3 d ((w / 2 ^ 32 : Nat) : Int)
  let s1 := ({ t with thm := { t.thm with dieFlags := SMap.put (fun _ => 0) t.thm.dieFlags d (w % 2 ^ 32) } }).noteCalm
  each (bitsSet 8 ((old ^^^ w) % 256)) (fun b t =>
    if b < 3 then t.pldmEvent 0 d ((2 * b + bnat (bitAt w b) : Nat) : Int)
    else if 4 ≤ b ∧ bitAt w b = true then t.pldmEvent 4 d ((b - 4 : Nat) : Int) else t) s1

/-! ### Events and notices (R377, R402, R404) -/

/-- The session state (R402): 0 UNATTACHED, 1 ATTACHED, 2 UNATTENDED. -/
def State.sessionState (s : State) : Nat := s.fld CMD_SESSION.STATE

/-- The host epoch. -/
def State.hostEpoch (s : State) : Nat := s.fld HEATH_EPOCH.HOST_EPOCH

/-- Bytes of a record from its fields: (bytes, value) in order. -/
def pack : List (Nat × Nat) → List Nat
  | [] => []
  | (n, v) :: xs => leBytes n v ++ pack xs

/-- The 64-byte event record (R404). `body` is bytes 16–63. -/
def eventRecord (type die epoch lost time : Nat) (body : List Nat) : List Nat :=
  pack [(2, type), (1, die), (1, 0), (2, epoch), (2, min lost 0xFFFF), (8, time)] ++ (body ++ List.replicate 48 0).take 48

/-- An event of the package at the leader (R404): its record is written to the ring and its notice follows; it is
held in UNATTENDED (R402), dropped where the queue of 64 is full, and reaches only registers where no ring is set. -/
def State.newEvent (s : State) (type die time : Nat) (body : List Nat) : State :=
  if !s.leader then s
  else if s.sessionState ≠ 1 then
    if s.ses.heldEvents + s.ses.events.length + s.ses.writing.length < 64 then { s with ses := { s.ses with heldEvents := s.ses.heldEvents + 1 } }
    else s.incSat CMD_STATUS.HELD_LOST
  else if s.ses.evtCount = 0 then s
  else if 64 ≤ s.ses.events.length + s.ses.writing.length then
    ({ s with ses := { s.ses with evtLost := min (s.ses.evtLost + 1) 0xFFFF } }).incSat CMD_EVT.LOST
  else
    let n := s.ses.evtNext
    let epoch := if die = s.dieId then s.blockEpoch else (s.link die).epoch.getD 0
    let addr := s.ses.evtBase + n % s.ses.evtCount * 64
    let s1 := ({ s with ses := { s.ses with evtNext := n + 1, evtLost := 0, writing := s.ses.writing ++ [EventRec.mk n addr s.ses.evtLost] } }).setFld
      CMD_EVT.POSTED (n + 1)
    s1.memSend (writeLines addr none .event (eventRecord type die epoch s.ses.evtLost time body))

/-- The record of an event has been written, or its write failed: the notice is queued, or the event dropped, and
what its record told as LOST is told by the next (R404).
Records complete in the order of their responses. -/
def State.eventWritten (s : State) (addr : Nat) (ok : Bool) : State :=
  match s.ses.writing.find? (fun e => e.addr == addr) with
  | none => s
  | some e =>
    let rest := s.ses.writing.filter (fun x => !(x == e))
    if ok then
      let n : Notice := { kind := 0x13, addr := addr, seq := e.num % 65536, len := 64, hostEpoch := s.hostEpoch }
      { s with ses := { s.ses with writing := rest, events := s.ses.events ++ [n] } }
    else ({ s with ses := { s.ses with writing := rest, evtLost := min (s.ses.evtLost + e.lost + 1) 0xFFFF } }).incSat CMD_EVT.LOST

/-! ### Slow-down requests (R273) -/

/-- The leader acts on a slow-down request of a die: BUD_SLOW, the event record, the PLDM event. -/
def State.slowDownAt (s : State) (die reason index deadline : Nat) : State :=
  let s1 := (((s.setFld BUD_SLOW.DIE die).setFld BUD_SLOW.REASON reason).setFld BUD_SLOW.INDEX index).setFlag BUD_SLOW.PENDING true
  (s1.newEvent 0x01 die s.skyNs (pack [(1, reason), (1, index), (6, 0), (8, deadline)])).pldmEvent 5 die reason

/-- This die raises a slow-down request: at the leader at once, at a follower over the Hedgerow (R273, R337). -/
def State.slowDown (s : State) (reason index deadline : Nat) : State :=
  if s.leader then s.slowDownAt s.dieId reason index deadline else s.report (.slowDown reason index deadline)

end Sys2Proof.Machine
end

