-- ==== Sys2Proof/Machine/Power.lean ====
section
/-! DEFINITION. Start-up steps 6–8, stops, the power-state handshake, ordered shutdowns, the domains and AVSBus
(R16–R19, R40–R46, R89–R91, R111–R116, R206, R207, R209, R210, R213–R216, R289, R492). -/

namespace Sys2Proof.Machine

/-! ### Registers of the sequence -/

/-- The start-up step shown in HEATH_BOOT_STATUS. -/
def State.bootStep (s : State) : Nat := s.fld HEATH_BOOT_STATUS.STEP

/-- Has start-up stopped (R113)? -/
def State.stopped (s : State) : Bool := s.flag HEATH_BOOT_STATUS.STOPPED

/-- Has start-up reached READY? -/
def State.ready (s : State) : Bool := s.flag HEATH_BOOT_STATUS.READY

/-- A latched rail overvoltage: the hub's latch of RAIL_OV (R464). -/
def State.ovLatched (s : State) : Bool := s.flag ⟨FH_LATCHED (srcRailOv / 32), srcRailOv % 32, srcRailOv % 32⟩

/-- A latched thermal shutdown: SHUT_LATCHED or ATRIP_LATCHED (R289, R290). -/
def State.thermLatched (s : State) : Bool := s.flag THM_STATUS.SHUT_LATCHED || s.flag THM_STATUS.ATRIP_LATCHED

/-- The source a failure code raises (R113, R458); RAIL_SOFTSTART is the keeper's own raise. -/
def failSource (code : Nat) : Option Nat :=
  match code with
  | 1 => some srcStrapConflict
  | 2 => some srcFlashAbsent
  | 3 => some srcFwAuthFail
  | 4 => some srcVinIvrRange
  | 5 => some srcAvsNoResponse
  | 7 => some srcLatchedFault
  | 8 => some srcFollowerImage
  | _ => none

/-! ### Domains (R16–R18) -/

/-- The steward domain starts, if it does not run already; its next log record carries GAP (R368). -/
def State.startSteward (s : State) : State :=
  if s.flag HEATH_DOMAIN_STATUS.STEWARD_ON then s
  else ({ s with ps := { s.ps with logGap := true } }).setFlag HEATH_DOMAIN_STATUS.STEWARD_ON true

/-- A wake event latched in the Heath (R14, R17): its cause bit sets and the domains it needs start; the block core
domain for every one, the steward for those it serves, which a steward in OFF starts for once the PLL has locked. -/
def State.wake (s : State) (bit : Nat) (steward : Bool) : State :=
  let s1 := s.setReg HEATH_WAKE_CAUSE (maskSet (s.reg HEATH_WAKE_CAUSE) bit)
  if s1.canWake then (if steward then s1.startCore.startSteward else s1.startCore).lingerFrom steward
  else if steward then { s1 with ps := { s1.ps with stewWake := true } } else s1

/-- Out of OFF, the PLL has locked: the steward starts where it was woken in the meantime, or is to run in every state
but OFF (R14, R17, R19). -/
def State.startWoken (s : State) : State :=
  if s.ps.stewWake || s.flag HEATH_DOMAIN_CTRL.FORCE_STEWARD then
    (({ s with ps := { s.ps with stewWake := false } } : State).startSteward).lingerFrom true
  else s

/-- The clocks of a die in OFF stop (R16, R17); work that the steward has not served yet wakes it when the PLL locks again
(R14). In start-up and at a stopped instance the domains keep what R18 gives
them: the DPWM domain runs on from step 6. -/
def State.stopClocks (s : State) : State :=
  if s.ps.booting || s.stopped then s
  else
    let s1 := { s with ps := { s.ps with
      pllStarting := false, stewWake := s.ps.stewWake || (s.flag HEATH_DOMAIN_STATUS.STEWARD_ON && !s.stewardIdle) } }
    ((((s1.setFlag HEATH_DOMAIN_STATUS.PLL_LOCK false).setFlag HEATH_DOMAIN_STATUS.STEWARD_ON false).setFlag
      HEATH_DOMAIN_STATUS.DPWM_ON false).setFlag HEATH_DOMAIN_STATUS.CORE_ON false)

/-- LINGER_EXPIRY of the block core domain (`dom` 0) or the steward domain: an on-demand domain that has been idle for
LINGER gates (R17, R19); one with work in hand does not, nor does the steward in start-up while its ROM executes (R18). -/
def State.linger (s : State) (dom : Nat) : State :=
  let span := 10000 * s.fld HEATH_DOMAIN_CTRL.LINGER
  if dom = 0 then
    if s.pstate = 1 ∧ s.flag HEATH_DOMAIN_STATUS.IN_TRANSIT = false ∧ s.flag HEATH_DOMAIN_CTRL.FORCE_CORE = false
        ∧ s.flag HEATH_DOMAIN_STATUS.CORE_ON = true ∧ s.coreIdle = true then
      (s.advanceTo (s.sky.coreAt + span)).setFlag HEATH_DOMAIN_STATUS.CORE_ON false
    else s
  else
    if (s.ps.booting = false ∨ s.fw.running = true) ∧ s.flag HEATH_DOMAIN_CTRL.FORCE_STEWARD = false
        ∧ s.flag HEATH_DOMAIN_STATUS.STEWARD_ON = true ∧ s.stewardIdle = true then
      (s.advanceTo (s.sky.stewAt + span)).setFlag HEATH_DOMAIN_STATUS.STEWARD_ON false
    else s

/-! ### The handshake (R42–R44, R89) -/

/-- Request done: ps_ack with ps_denied low; a re-step that waited for the transition begins (R269). -/
def State.psDone (s : State) : State :=
  (({ s with ps := { s.ps with ack := true, denied := false } }).setFlag HEATH_DOMAIN_STATUS.IN_TRANSIT false).restepDue

/-- Request refused: PSTATE_DENIED, ps_ack with ps_denied (R43). -/
def State.psRefuse (s : State) : State :=
  (({ s with ps := { s.ps with ack := true, denied := true } }).setFlag HEATH_DOMAIN_STATUS.IN_TRANSIT false).setFlag
    HEATH_DOMAIN_STATUS.PSTATE_DENIED true

/-- Some participating follower's die is not OFF (R43 case 1). -/
def State.followerUp (s : State) : Bool := s.followers.any (fun d => s.fld (HDG_DIE_STATE.STATE d) != 2)

/-- Does some populated position have cl_run high (R40, R43)? -/
def State.anyRun (s : State) : Bool := s.agents.any (fun p => s.present p.1 && p.2.run)

/-- Is a request for `g` refused (R43)? -/
def State.refuses (s : State) (g : Nat) : Bool :=
  (s.leader && g == 0 && s.followerUp) ||
  (s.thermLatched && g != 0) ||
  (s.pstate == 0 && s.ovLatched && g != 0) ||
  (s.pstate == 3 && s.anyRun && decide (g < 3)) ||
  (s.stopped && g != 0) ||
  (s.ps.catchFailed && g != 0)

/-- Target of the next leg from state `p` toward `g` (R40). -/
def nextLeg (p g : Nat) : Nat :=
  if g < p then (if g = 0 ∧ p ≤ 2 then 0 else p - 1) else if p = 0 then 2 else p + 1

/-- The frequency handshake to point 0 that precedes retention; one under way completes first (R40, R267). -/
def State.retainHandshake (s : State) : State :=
  if s.lim.req then { s with lim := { s.lim with toZero := true } } else s.retainStep

/-! ### Ordered shutdown (R91, R210) -/

/-- Is a rail up: neither OFF nor TRIPPED? -/
def State.railUp (s : State) (n : Nat) : Bool := (s.rail n).state != 0 && (s.rail n).state != 5

/-- The first rail that is up, in the order CORE, CACHE, FABRIC, AUX. -/
def State.firstUp (s : State) : Option Nat := [0, 1, 2, 3].find? s.railUp

/-- A shutdown's end leaves the die in OFF; clocks stop as R17 and R18 have it. -/
def State.enterOff (s : State) : State :=
  let s1 := { s with
    ps := { s.ps with shut := none, bring := false, soft := none, railsReady := false, fellAt := none }
    est := { s.est with psChanged := true }
    avs := { s.avs with busy := 0, attempts := 0, settleAt := none } }
  let s2 := (s1.setFld HEATH_DOMAIN_STATUS.PSTATE 0).setFlag HEATH_DOMAIN_STATUS.IN_TRANSIT false
  (if s2.ps.booting || s2.stopped then s2 else s2.sendBeat 0).stopClocks

/-- All rails are down: the shutdown ends as its cause says (R40, R113, R206, R207, R289, R492). -/
def State.shutDone (s : State) (why : Nat) : State :=
  let s1 := s.enterOff
  if why = 3 then s1.psRefuse
  else if why = 0 then
    if s.ps.goal = 0 then s1.psDone else s1
  else s1

/-- The next rail that is up begins its shutdown, or the die is down. -/
def State.shutNext (s : State) (why : Nat) : State :=
  match s.firstUp with
  | some n => ({ s with ps := { s.ps with shut := some ⟨1, n, s.now, why⟩ } }).railDown n
  | none => s.shutDone why

/-- rails_ready is low from now on; the instant of its fall is kept (R91). -/
def State.railsFall (s : State) : State :=
  { s with ps := { s.ps with railsReady := false, fellAt := if s.ps.railsReady then some s.now else s.ps.fellAt } }

/-- A shutdown begins: rails_ready falls and every grant is void; the rails follow once it has been low for 2 µs, or at once
where a rail overvoltage is the cause (R91, R207). -/
def State.beginShut (s : State) (why : Nat) (atOnce : Bool) : State :=
  let wasReady := s.ps.railsReady
  let s1 := (if wasReady then s.voidAll false false else s).railsFall
  let s2 := { s1 with ps := { s1.ps with bring := false, soft := none } }
  match s2.ps.fellAt with
  | some t => if s2.now < t + 2000 ∧ atOnce = false then { s2 with ps := { s2.ps with shut := some ⟨0, 0, t, why⟩ } } else s2.shutNext why
  | none => s2.shutNext why

/-! ### Stops (R113, R492) -/

/-- A request that waits at a stopped instance is answered: OFF is the state in force (R42, R43). -/
def State.answerStopped (s : State) : State :=
  match s.ps.req with
  | some g => if s.ps.ack then s else if g = 0 then s.psDone else s.psRefuse
  | none => s

/-- Start-up is over: what its step 5 was reading, trying or waiting for is dropped (R107, R113). -/
def State.bootEnds (s : State) : State :=
  { s with
    ps := { s.ps with booting := false }
    fw := { s.fw with trying := 0, image := none, waitLoad := none, readLeft := 0, copy := none, loaded := [] } }

/-- Start-up stops with a failure code (R113): STOPPED, FAIL and the source; rails started so far shut down in order;
the leader hears of it. -/
def State.stopWith (s : State) (code : Nat) : State :=
  let s1 := (s.setFlag HEATH_BOOT_STATUS.STOPPED true).setFld HEATH_BOOT_STATUS.FAIL code
  let s2 := match failSource code with
    | some k => s1.levelOn k (syndrome 0 code s.bootStep)
    | none => s1
  ((s2.bootEnds.beginShut 2 false).report (.stopped code)).answerStopped

/-- Steps 6–8 fail: start-up stops, or the transition out of OFF fails and the die stays OFF (R113, R492). The condition of
its LEVEL source holds until the next step 6 begins (R458, log 53). -/
def State.bringFail (s : State) (code : Nat) : State :=
  if s.ps.booting then s.stopWith code
  else
    let s1 := match failSource code with
      | some k => s.levelOn k (syndrome 0 code (if s.ps.soft.isSome then 7 else 6))
      | none => s
    s1.beginShut 3 true

/-- A block reset reaction before READY stops start-up at its step (R107): rails in regulation stay regulated, those not
started stay off, rails_ready is low as at every stopped instance (R113), and a wait for VIN_IVR is over. A rail in the
middle of its soft-start keeps its soft-start state and its ramp: a choice, since R107 names only the other two. So is the
power state it shows: OFF, which R18 gives a stopped instance, also where step 8 had made it IDLE (log 51). A follower
reports its stop (R337). -/
def State.haltStartUp (s : State) : State :=
  let s0 := s.bootEnds.railsFall
  let s1 : State := { s0 with
    ps := { s0.ps with bring := false, soft := none }
    avs := { s0.avs with busy := 0, attempts := 0, settleAt := none } }
  (((s1.setFlag HEATH_BOOT_STATUS.STOPPED true).setFld HEATH_DOMAIN_STATUS.PSTATE 0).report
    (.stopped (s1.fld HEATH_BOOT_STATUS.FAIL))).answerStopped

/-- The die shuts itself down and goes to OFF (R206, R207, R289–R291); within steps 6–8 they fail with `code` instead (R113,
R492). One that occurs in step 6 after its entry fails start-up at once, a choice: the table of R113 names the entry to step
6 and the time of step 7 (log 179). An overvoltage on the rail that an ordered shutdown has reached takes that rail down,
and the next one follows at once (R207). -/
def State.goDown (s : State) (code : Nat) (atOnce : Bool) : State :=
  if s.ps.bring then s.bringFail code
  else match s.ps.shut with
    | some k => if atOnce ∧ (k.phase = 0 ∨ (k.phase = 1 ∧ s.railUp k.rail = false)) then s.shutNext k.why else s
    | none =>
      if s.stopped then (if s.firstUp.isSome then s.beginShut 2 atOnce else s)
      else if s.pstate = 0 ∧ s.firstUp = none then s
      else (s.beginShut 1 atOnce).setFlag HEATH_DOMAIN_STATUS.IN_TRANSIT true

/-! ### Legs of a request (R40) -/

/-- The die leaves OFF: EXT_TRIP clears where the THERM_TRIP_N pad is high again, and stays where another die still drives it
low (R291). No row tells the rise of the pad: which of the two it is, is a free value (log 21). -/
def State.dropExtTrip (s : State) : State :=
  if s.flag THM_STATUS.EXT_TRIP then s.spent.setFlag THM_STATUS.EXT_TRIP (s.drawn % 2 == 1) else s

/-- A leg begins. -/
def State.legBegin (s : State) (t : Nat) : State :=
  let p := s.pstate
  let s1 := (({ s with ps := { s.ps with leg := t } }).setFld HEATH_DOMAIN_STATUS.PSTATE_TGT t).setFlag
    HEATH_DOMAIN_STATUS.IN_TRANSIT true
  if t = 0 then s1.beginShut 0 false
  else if t = 1 then s1.retainHandshake
  else if t = 3 then s1
  else if p = 3 then s1.voidAll true false
  else if p = 1 then s1.startCore
  else
    let s2 := { s1 with
      ps := { s1.ps with pllStarting := true, fromOff := true, outAt := s1.now,
                         catchUp := !s1.leader && !s1.flag HDG_STATUS.AUTONOMOUS }
      thm := { s1.thm with extra := true } }
    s2.dropExtTrip

/-- A waiting request is looked at once nothing stands in its way: a transition, start-up, an activation (R42–R44, R424). -/
def State.tryRequest (s : State) : State :=
  match s.ps.req with
  | none => s
  | some g =>
    if s.ps.ack || s.flag HEATH_DOMAIN_STATUS.IN_TRANSIT || s.ps.booting || !s.ps.porst || s.fld HEATH_FW_STATUS.ACT == 2 then s
    else if s.ps.shut.isSome ∨ s.ps.bring then s
    else if g = s.pstate then s.psDone
    else if s.refuses g then s.psRefuse
    else ({ s with ps := { s.ps with goal := g } }).legBegin (nextLeg s.pstate g)

/-- ps_req_vld rises (R89). A second request under way is no request. -/
def State.psRequest (s : State) (g : Nat) : State :=
  match s.ps.req with
  | some _ => s
  | none => (({ s with ps := { s.ps with req := some (g % 4) } }).wake 1 false).tryRequest

/-- The die has arrived in a power state. On the way to RETAIN the block core domain gates, unless it has work in hand: it
then gates as any on-demand domain does (R17, R40, R328). -/
def State.arrive (s : State) (t : Nat) : State :=
  let s1 := ({ s with est := { s.est with psChanged := true } }).setFld HEATH_DOMAIN_STATUS.PSTATE t
  if t = 3 ∧ s1.ps.fromOff then { s1 with ps := { s1.ps with fromOff := false }, thm := { s1.thm with fresh := true } }
  else if t = 1 ∧ s1.flag HEATH_DOMAIN_CTRL.FORCE_CORE = false then
    let s2 := s1.sendBeat 1
    if s1.coreIdle then s2.setFlag HEATH_DOMAIN_STATUS.CORE_ON false else s2.lingerFrom false
  else s1

/-- Steps 6–8 are over: the leg out of OFF is done, or a request that waited is looked at (R40, R42). -/
def State.afterBring (s : State) : State :=
  if s.flag HEATH_DOMAIN_STATUS.IN_TRANSIT then
    (if s.ps.goal = 2 then s.psDone else s.legBegin (nextLeg 2 s.ps.goal))
  else s.tryRequest

/-! ### Steps 6–8 (R111) -/

/-- Step 7: the rails soft-start in the order AUX, FABRIC, CACHE, CORE; a rail without built phases has none to
start (R209, R111). -/
def State.softNext (s : State) (order : List Nat) : Option Nat := order.find? s.railUsed

/-- Rails that follow a rail in the soft-start order. -/
def softAfter (n : Nat) : List Nat := (List.range n).reverse

/-- Start-up is over: the new firmware starts the repair of slot A that it owes (R425). -/
def State.repairDue (s : State) : State :=
  if s.fw.repairDue then
    ((({ s with fw := { s.fw with repairDue := false } }).flashDo (.copy (s.slotBase 2) 0)).setFlag HEATH_FW_STATUS.REPAIR true).raise srcFwSlotRepair
      (syndrome 0 0 (s.reg HEATH_FW_VERSION))
  else s

/-- The leader reaches READY when every instance of DIE_MASK that is not LOST has reported (R111): READY, the doorbell;
the sample ring's mode follows from the die count, which the followers are told (R444). -/
def State.checkReady (s : State) : State :=
  if s.leader ∧ s.ps.booting ∧ s.bootStep = 8 ∧ s.participants.all (fun d => bitAt s.ps.reported d) then
    let n := popCount 8 s.dieMask
    let s1 := (({ s with ps := { s.ps with booting := false } }).setFlag HEATH_BOOT_STATUS.READY true).setFld HEATH_BOOT_STATUS.STEP 9
    (((s1.setFlag RING_SAMP.MODE (decide (2 < n))).toFollowers (.data (.dieCount n))).bell 0).repairDue
  else s

/-- A report or a loss may have brought the leader to READY: a request held through start-up is acted on (R42, R89). -/
def State.reachReady (s : State) : State := s.checkReady.tryRequest

/-- Step 8: rails_ready rises, opp_freq becomes FREQ[0], the die is IDLE; a follower reports, the leader may be
READY (R18, R91, R111, R268). -/
def State.stepEight (s : State) : State :=
  let s1 := ({ s with ps := { s.ps with railsReady := true, fellAt := none, bring := false, soft := none } }).freqReset
  let s2 := (s1.arrive 2).compute
  if s.ps.booting then
    let s3 := s2.setFld HEATH_BOOT_STATUS.STEP 8
    if s3.leader then ({ s3 with ps := { s3.ps with reported := maskSet s3.ps.reported s3.dieId } }).checkReady
    else ((({ s3 with ps := { s3.ps with booting := false } }).setFlag HEATH_BOOT_STATUS.READY true).setFld
      HEATH_BOOT_STATUS.STEP 9).report .ready
  else s2

/-- The next rail of the order soft-starts, or step 8 follows. -/
def State.softStart (s : State) (order : List Nat) : State :=
  match s.softNext order with
  | some n => ({ s with ps := { s.ps with soft := some n } }).railStart n
  | none => s.stepEight.afterBring

/-- Step 7 begins: the targets are the lowest operating point's (R111). -/
def State.stepSeven (s : State) : State :=
  let s1 := { s with avs := { s.avs with settleAt := none } }
  let s2 := if s1.ps.booting then s1.setFld HEATH_BOOT_STATUS.STEP 7 else s1
  if s2.thermLatched then s2.bringFail 7
  else ((s2.setFld OPP_STATUS.V_IDX 0).setFld OPP_STATUS.INDEX 0).holdBases.softStart [3, 2, 1, 0]

/-- The 3-bit CRC of an AVSBus frame over its 29 other bits: x³ + x + 1, most significant bit first (R213, log 148). -/
def avsCrc (w : Nat) : Nat :=
  (List.range 32).foldl (fun r k =>
    let x := 2 * r + (8 * w) / 2 ^ (31 - k) % 2
    if 8 ≤ x then x ^^^ 11 else x) 0

/-- A 32-bit command frame of the AVSBus master: start code 01, command (0 write and commit, 3 read), the standard command
group, data type, the rail select, data, CRC (R213, log 148). -/
def avsFrameWord (cmd type sel data : Nat) : Nat :=
  let w := ((((1 * 4 + cmd % 4) * 2 + 0) * 16 + type % 16) * 16 + sel % 16) * 65536 + data % 65536
  8 * w + avsCrc w

/-- The command frame of a transaction goes out on AVS_MDATA, to the rail that SELECT names: a read of the voltage (1), the
current (2), the temperature (4) or the status (5), or the write-and-commit of TARGET (3) (R213, R214). -/
def State.avsSend (s : State) (kind : Nat) : State :=
  let sel := s.fld RAIL0_AVS_CTRL.SELECT
  match kind with
  | 1 => s.emit (.avs (avsFrameWord 3 0 sel 0xFFFF))
  | 2 => s.emit (.avs (avsFrameWord 3 2 sel 0xFFFF))
  | 4 => s.emit (.avs (avsFrameWord 3 3 sel 0xFFFF))
  | 5 => s.emit (.avs (avsFrameWord 3 14 sel 0xFFFF))
  | _ => s.emit (.avs (avsFrameWord 0 0 sel (s.fld RAIL0_AVS_VIN.TARGET)))

/-- The rail keepers start on the DPWM clock: their rings' next entries carry GAP (R368). -/
def State.gapDpwm (s : State) : State :=
  if s.flag HEATH_DOMAIN_STATUS.DPWM_ON then s
  else { s with rings := { s.rings with rail := [0, 1, 2, 3].foldl (fun m n =>
    SMap.put (fun _ => {}) m n { s.railRing n with gap := true }) s.rings.rail } }

/-- Step 6 begins: a latched fault stops it; else the write-and-commit of TARGET goes out over AVSBus and the wait for
VIN_IVR runs (R111, R113, R214). -/
def State.stepSix (s : State) : State :=
  let s1 := (({ s with ps := { s.ps with bring := true } }).gapDpwm).setFlag HEATH_DOMAIN_STATUS.DPWM_ON true
  let s2 := if s1.ps.booting then s1.setFld HEATH_BOOT_STATUS.STEP 6
    else ((s1.levelOff srcVinIvrRange).levelOff srcAvsNoResponse).levelOff srcLatchedFault
  if s2.thermLatched || s2.ovLatched then s2.bringFail 7
  else ({ s2 with avs := { s2.avs with busy := 3, attempts := 0, settleAt := some s2.now } }).avsSend 3

/-- Out of OFF, step 6 begins once the PLL has locked, the extra thermal round is done and a follower is caught up
(R307, R335). -/
def State.tryStepSix (s : State) : State :=
  if s.flag HEATH_DOMAIN_STATUS.IN_TRANSIT ∧ s.pstate = 0 ∧ s.ps.leg = 2 ∧ s.ps.shut = none ∧ s.ps.bring = false
      ∧ s.flag HEATH_DOMAIN_STATUS.PLL_LOCK = true ∧ s.thm.extra = false ∧ s.ps.catchUp = false then s.stepSix
  else s

/-! ### The ends of legs (R40, R89) -/

/-- Has the leg under way done what R40 asks of it? OFF and the way out of OFF end with their rails. The voltages of RETAIN
and of IDLE after it are reached only once a block reset lets the targets move (R212). -/
def State.legReady (s : State) : Bool :=
  match s.ps.leg with
  | 3 => true
  | 2 => s.pstate == 3 || (s.pstate == 1 && !s.inReset && s.voltsAtTarget)
  | 1 => !s.inReset && s.lim.step.kind == 0 && [0, 1].all (fun n => !s.railUsed n || (s.rail n).vref == 64 * s.railTarget n)
  | _ => false

/-- A leg is complete: the state, then the acknowledgement or the next leg (R40, R89). -/
def State.legDone (s : State) : State :=
  let s1 := s.arrive s.ps.leg
  if s.ps.leg = s.ps.goal then s1.psDone else s1.legBegin (nextLeg s.ps.leg s.ps.goal)

/-- PS_TRANSITION_DONE. -/
def State.transitionDone (s : State) : State :=
  if s.flag HEATH_DOMAIN_STATUS.IN_TRANSIT ∧ s.ps.shut = none ∧ s.ps.bring = false ∧ s.legReady then s.legDone else s

/-- ps_req_vld falls, so ps_ack falls (R89). -/
def State.psRelease (s : State) : State :=
  if s.ps.ack then { s with ps := { s.ps with req := none, ack := false, denied := false } } else s

/-- A soft-starting rail is in regulation (R209): the next one starts, or step 8 follows and with it the leg. -/
def State.inRegulation (s : State) (n : Nat) : State :=
  if s.ps.soft = some n ∧ (s.rail n).state = 1 ∧ (s.rail n).ssSearch = none ∧ (s.rail n).ssRun = 64 then
    ((s.railTo n 2).showRail n).softStart (softAfter n)
  else s

/-- The soft-start of a rail has failed: the keeper reports RAIL_SOFTSTART (R209). -/
def State.softFail (s : State) (n : Nat) : State :=
  if s.ps.soft = some n then (s.raise srcRailSoftstart (syndrome (0xFF00 + n) 0 (s.rail n).eMeas)).bringFail 6 else s

/-- A rail is not in regulation within its bound (R209): the bound is reached first. -/
def State.softTimeout (s : State) (n : Nat) : State :=
  if s.ps.soft = some n ∧ (s.rail n).ssSearch = none ∧ (s.rail n).ssRun < 64 then (s.advanceTo (s.rail n).ssUntil).softFail n
  else s

/-! ### Shutdown events (R91, R210) -/

/-- 2 µs have passed since rails_ready fell: the first rail shuts down. -/
def State.shutStart (s : State) : State :=
  match s.ps.shut with
  | some k => if k.phase = 0 then (s.advanceTo (k.since + 2000)).shutNext k.why else s
  | none => s

/-- A rail has reached 300 mV: its phases drop (R210). -/
def State.shutRailDone (s : State) (n : Nat) : State :=
  match s.ps.shut with
  | some k =>
    if k.phase = 1 ∧ k.rail = n ∧ (s.rail n).vref ≤ 64 * 300 then
      (({ s with ps := { s.ps with shut := some { k with phase := 2, since := s.now } } }).railOff n)
    else s
  | none => s

/-- 10 µs later the next rail follows, or the die is OFF; what waited goes on (R210, R42). -/
def State.shutContinue (s : State) : State :=
  match s.ps.shut with
  | some k =>
    if k.phase = 2 then
      let s1 := (s.advanceTo (k.since + 10000)).shutNext k.why
      if s1.ps.shut = none then s1.tryRequest else s1
    else s
  | none => s

/-- A shutdown that is over leaves a request that waited to be looked at (R42). -/
def State.afterDown (s : State) : State := if s.ps.shut = none then s.tryRequest else s

/-- A rail overvoltage (R207): the die goes to OFF, the other rails at once. -/
def State.railOver (s : State) : State := (s.goDown 7 true).afterDown

/-- A hold expires (R206). -/
def State.holdOver (s : State) (n : Nat) : State :=
  if (s.rail n).holdAt.isNone then s else ((s.holdExpires n).goDown 6 false).afterDown

/-- The thermal shutdown of R289: rails_ready falls, the shutdown follows. -/
def State.thermDown (s : State) : State := (s.goDown 7 false).afterDown

/-! ### AVSBus (R213–R216) -/

/-- A transaction has failed: it is retried up to 3 times; then AVS_LOST, or steps 6–8 fail (R215). -/
def State.avsBad (s : State) (kind : Nat) (a : AvsIn) : State :=
  let n := s.avs.attempts + 1
  if n < 4 then
    ({ s with avs := { s.avs with busy := kind, attempts := n, retryAt := s.now + 250 * s.fld RAIL0_AVS_CTRL.RETRY_GAP } }).incSat
      RAIL0_AVS_STATUS.RETRIES
  else
    let s1 := { s with avs := { s.avs with busy := 0, attempts := 0 } }
    if s1.ps.bring then s1.bringFail 5
    else (s1.setFlag RAIL0_AVS_STATUS.LOST true).levelOn srcAvsLost (syndrome 0xFF00 a.resp 0)

/-- A follower tells its leader each change of its VIN_IVR reading while its block core domain runs, for the leader's sensors
(R407, log 69). -/
def State.tellVin (s : State) (mv : Nat) : State :=
  if s.leader || s.flag HDG_STATUS.AUTONOMOUS || !s.leaderKnown || !s.flag HEATH_DOMAIN_STATUS.CORE_ON || s.avs.told == some mv then s
  else ({ s with avs := { s.avs with told := some mv } }).send s.leaderDie 0 (.data (.vin mv))

/-- A good VIN_IVR reading (R214, R216); within step 6 one that lies within ±30 mV of TARGET, and in 1.60–2.00 V, ends the
wait (R113, R214). -/
def State.avsVin (s : State) (a : AvsIn) : State :=
  let inside := decide (1600 ≤ a.vin ∧ a.vin ≤ 2000)
  let run := if inside then 0 else min 3 (s.avs.outRun + 1)
  let s1 := (({ s with avs := { s.avs with vinAt := some s.now, stale := false, outRun := run } }).setFld RAIL0_AVS_READ.VIN a.vin).tellVin a.vin
  let s2 := if inside then s1.levelOff srcVinRange
    else if run = 3 then s1.levelOn srcVinRange (syndrome 0xFF00 a.resp a.vin) else s1
  let t := s.fld RAIL0_AVS_VIN.TARGET
  if s2.avs.settleAt.isSome ∧ inside = true ∧ a.vin ≤ t + 30 ∧ t ≤ a.vin + 30 then s2.stepSeven else s2

/-- What a good frame of any kind does: the status response, the end of AVS_LOST, a module alert (R214, R215). -/
def State.avsFrame (s : State) (a : AvsIn) : State :=
  let s1 := (({ s with avs := { s.avs with busy := 0, attempts := 0 } }).setFld RAIL0_AVS_STATUS.STATUS_RESP a.resp).setFlag
    RAIL0_AVS_STATUS.LOST false |>.levelOff srcAvsLost
  if a.alert then
    (({ s1 with avs := { s1.avs with needStatus := true } }).setFlag RAIL0_AVS_STATUS.ALERT true).supplyAlert
  else s1

/-- The answer to one transaction (R214, R215). -/
def State.avsOne (s : State) (kind : Nat) (a : AvsIn) : State :=
  if a.good then
    let s1 := s.avsFrame a
    if a.fault && s1.avs.settleAt.isSome then s1.bringFail 4
    else match kind with
    | 1 => s1.avsVin a
    | 2 => s1.setFld RAIL0_AVS_IT.IOUT a.iout
    | 4 => s1.setFld RAIL0_AVS_IT.TEMP a.temp
    | 5 => { s1 with avs := { s1.avs with needStatus := a.alert } }
    | _ => s1
  else s.avsBad kind a

/-- May the next transaction of the periodic reads follow one with that answer: it has not failed, and ended no wait? -/
def State.avsFollows (s : State) (a : AvsIn) : Bool := a.good && !(a.fault && s.avs.settleAt.isSome)

/-- Transactions one after another, each with its own response; the first that fails ends them (R214, R215). -/
def State.avsChain (ks : List Nat) (a : AvsIn) (s : State) : State :=
  match ks with
  | [] => s
  | k :: rest =>
    let t := (s.avsSend k).avsOne k a
    if s.avsFollows a then t.avsChain rest a.next else t

/-- The answer to a transaction; after the read of the current come those of temperature and status, each a transaction of
its own with its own response, which fails and is retried alone (R214, R215). -/
def State.avsAnswer (s : State) (kind : Nat) (a : AvsIn) : State :=
  let s1 := s.avsOne kind a
  if s.avsFollows a then s1.avsChain (if kind = 2 then [4, 5] else if kind = 4 then [5] else []) a.next else s1

/-- Does the AVSBus master run: in the DPWM domain, from step 6 on (R18, R214)? -/
def State.avsOn (s : State) : Bool := s.flag HEATH_DOMAIN_STATUS.DPWM_ON

/-- A VIN_IVR poll (R214), unless a failed transaction waits for its retry. Where the write of TARGET is still
unanswered, its answer comes first: a bad one is a failed write, which is tried again as a write (R215); after a good one
the poll follows (log 52). -/
def State.avsPoll (s : State) (a : AvsIn) : State :=
  if s.avsOn = false then s
  else if s.avs.busy = 0 then (s.avsSend 1).avsAnswer 1 a
  else if s.avs.busy = 3 ∧ s.avs.attempts = 0 then
    let s1 := s.avsAnswer 3 (if a.more.isEmpty then { a with alert := false } else a)
    if a.good ∧ s1.avs.settleAt.isSome then (s1.avsSend 1).avsAnswer 1 a.next else s1
  else s

/-- The read of current, temperature and status (R214). -/
def State.avsStatus (s : State) (a : AvsIn) : State :=
  if s.avsOn ∧ s.avs.busy = 0 then (s.avsSend 2).avsAnswer 2 a else s

/-- RETRY_GAP has passed: the failed transaction is sent again, as what it was (R215). -/
def State.avsAgain (s : State) (a : AvsIn) : State :=
  if s.avsOn ∧ 0 < s.avs.attempts then ((s.advanceTo s.avs.retryAt).avsSend s.avs.busy).avsAnswer s.avs.busy a else s

/-- 200 µs of step 6 have passed without a reading near TARGET (R214). -/
def State.vinTimeout (s : State) : State :=
  match s.avs.settleAt with
  | none => s
  | some t =>
    let s1 := s.advanceTo (t + 200000)
    ({ s1 with avs := { s1.avs with settleAt := none, busy := 0, attempts := 0 } }).bringFail 4

/-- The VIN_IVR reading is older than VIN_STALE (R215). -/
def State.vinStale (s : State) : State :=
  match s.avs.vinAt with
  | none => s
  | some t =>
    if s.avs.stale then s
    else
      let s1 := s.advanceTo (t + 10000 * s.fld RAIL0_AVS_CTRL.VIN_STALE)
      { s1 with avs := { s1.avs with stale := true } }

end Sys2Proof.Machine
end

