-- ==== Sys2Proof/Machine/Thermal.lean ====
section
/-! DEFINITION. The thermal manager (chapter 10): rounds, thresholds, grace and enforcement, the predictive model,
trips, memory stacks, compensation. -/

namespace Sys2Proof.Machine

/-! ### Tables (R304, R305) -/

/-- Linear interpolation of a table of (temperature, correction), clamped at its end points, rounded to the nearest
with ties away from zero. -/
def interpolate : List (Int × Int) → Int → Int
  | [], _ => 0
  | [p], _ => p.2
  | p :: q :: rest, x =>
    if x ≤ p.1 then p.2
    else if x < q.1 then roundDiv (p.2 * (q.1 - p.1) + (q.2 - p.2) * (x - p.1)) (q.1 - p.1).toNat
    else interpolate (q :: rest) x

/-- The points of THM_REF_TAB. -/
def State.refTab (s : State) : List (Int × Int) :=
  (List.range 8).map (fun j => (toSigned 16 (s.fld (THM_REF_TAB.T j)), toSigned 16 (s.fld (THM_REF_TAB.CORR j))))

/-- The points of THM_OSC_TAB. -/
def State.oscTab (s : State) : List (Int × Int) :=
  (List.range 8).map (fun j => (toSigned 16 (s.fld (THM_OSC_TAB.T j)), toSigned 16 (s.fld (THM_OSC_TAB.CORR j))))

/-! ### Conversion (R278) -/

/-- Temperature of a raw code at a site, 1/16 °C (R278). -/
def State.convert (s : State) (k raw : Nat) : Int :=
  let tu := ashr (((raw : Int) - 8192) * s.fld (SITE_TRIM.GAIN k)) 14 + toSigned 16 (s.fld (SITE_TRIM.OFFSET k))
  tu + interpolate s.refTab tu

/-- What a site gives in a round before the cross-check: its measured value, if it has one (R278). -/
def State.siteValue (s : State) (x : SiteIn) : Option Int :=
  let t := s.convert x.site x.raw
  if x.done && decide (1 ≤ x.raw ∧ x.raw ≤ 16382 ∧ -640 ≤ t ∧ t ≤ 2400) && !s.flag (SITE_STATUS.SUSPECT x.site) then some t
  else none

/-- The input of a site: one that is not named has not converted in time. -/
def siteIn (xs : List SiteIn) (k : Nat) : SiteIn := (xs.find? (fun x => x.site == k)).getD { site := k, done := false }

/-! ### Cross-check and substitution (R279–R282) -/

/-- Enabled neighbours of a site. -/
def State.neighbours (s : State) (k : Nat) : List Nat :=
  ((List.range 4).filter (fun b => s.flag (SITE_NBR.EN k b))).map (fun b => s.fld (SITE_NBR.IDX k b))

/-- A value inserted into an ascending list. -/
def insertInt (x : Int) : List Int → List Int
  | [] => [x]
  | y :: ys => if x ≤ y then x :: y :: ys else y :: insertInt x ys

/-- The median: with an even count the mean of the middle two, rounded down. -/
def median (xs : List Int) : Option Int :=
  let ys := xs.foldr insertInt []
  let n := ys.length
  if n = 0 then none
  else if n % 2 = 1 then some (listGet 0 ys (n / 2))
  else some ((listGet 0 ys (n / 2 - 1) + listGet 0 ys (n / 2)) / 2)

/-- Measured values by site. -/
abbrev Readings := List (Nat × Int)

/-- The measured value of a site among readings. -/
def Readings.at_ (m : Readings) (k : Nat) : Option Int := SMap.find m k

/-- Does a site deviate from its measured neighbours (R279)? -/
def State.deviates (s : State) (m : Readings) (k : Nat) : Bool :=
  match m.at_ k, median ((s.neighbours k).filterMap m.at_) with
  | some t, some x => s.flag THM_CTRL.XCHK_EN && decide (160 < (t - x).natAbs)
  | _, _ => false

/-- The run counts of a site after a round, and suspicion (R279): a suspect site is not compared, so it does not deviate.
Answers the state and whether the site is newly
suspect. -/
def State.siteRuns (s : State) (m : Readings) (k : Nat) : State × Bool :=
  if s.flag (SITE_STATUS.SUSPECT k) then ((s.setFld (SITE_STATUS.DEV_RUN k) 0).setFlag (SITE_STATUS.MEASURED k) false, false)
  else
    let dev := if s.deviates m k then min 3 (s.fld (SITE_STATUS.DEV_RUN k) + 1) else 0
    let miss := if (m.at_ k).isNone then min 3 (s.fld (SITE_STATUS.MISS_RUN k) + 1) else 0
    let sus := dev == 3 || miss == 3
    let s1 := (((s.setFld (SITE_STATUS.DEV_RUN k) dev).setFld (SITE_STATUS.MISS_RUN k) miss).setFlag (SITE_STATUS.SUSPECT k) sus).setFlag
      (SITE_STATUS.MEASURED k) ((m.at_ k).isSome && !sus)
    (if sus then s1.raise srcThermSiteSuspect (syndrome k 0 ((m.at_ k).getD (s.siteT k))) else s1, sus)

/-- The run counts of all sites; the sites newly suspect drop out of the readings. -/
def State.allRuns (s : State) (m : Readings) : State × Readings :=
  (List.range 96).foldl (fun p k =>
    let q := p.1.siteRuns m k
    (q.1, if q.2 then SMap.drop p.2 k else p.2)) (s, m)

/-- Highest of a list. -/
def maxInt : List Int → Option Int
  | [] => none
  | x :: xs => some (xs.foldl max x)

/-- The reported value of a site and its SRC (R280). -/
def State.reported (s : State) (m : Readings) (k : Nat) : Int × Nat :=
  match m.at_ k with
  | some t => (t, 0)
  | none =>
    match maxInt ((s.neighbours k).filterMap m.at_) with
    | some t => (t + 32, 1)
    | none => (((maxInt (m.map (fun p => p.2))).getD 0) + 32, 1)

/-- Number of suspect sites. -/
def State.suspects (s : State) : Nat := ((List.range 96).filter (fun k => s.flag (SITE_STATUS.SUSPECT k))).length

/-- The thermal caps as the limiter reads them: the enforcement's, under the safe caps of NO_SITES (R282, R296). -/
def State.showCaps (s : State) : State :=
  let no := s.flag THM_STATUS.NO_SITES
  let cap := if no then min s.thm.cap (s.fld THM_SAFE.SAFE_IDX) else s.thm.cap
  let pool := if no then some (min (s.thm.pool.getD 16384) (s.fld THM_SAFE.SAFE_POOL)) else s.thm.pool
  ((s.setFld BUD_CAPS.THERMAL_CAP cap).setFlag THM_ENF_STATUS.POOL_CUT pool.isSome).setFld THM_ENF_STATUS.POOL_CAP (pool.getD 0)

/-- T_die. -/
def State.tDie (s : State) : Int := toSigned 16 (s.fld THM_TEMP.T_DIE)

/-- Every site's reported value, T_die and HOT_SITE (R280). -/
def State.report280 (s : State) (m : Readings) : State :=
  let rs := (List.range 96).map (fun k => (k, s.reported m k))
  let s1 := rs.foldl (fun t r => (t.setFld (SITE_TEMP.T r.1) (ofSigned 16 r.2.1)).setFld (SITE_TEMP.SRC r.1) r.2.2) s
  let top := (maxInt (rs.map (fun r => r.2.1))).getD 0
  let hot := ((rs.find? (fun r => r.2.1 == top)).map (fun r => r.1)).getD 0
  (s1.setFld THM_TEMP.T_DIE (ofSigned 16 top)).setFld THM_TEMP.HOT_SITE hot

/-- NO_SITES: entry, stay and leaving (R282). -/
def State.noSites (s : State) (m : Readings) : State :=
  let none_ (t : State) : State := each (List.range 96) (fun k u => u.setFld (SITE_TEMP.SRC k) 2) t
  if m.isEmpty then
    let s1 := { s with thm := { s.thm with backRun := 0 } }
    (none_ ((s1.setFlag THM_STATUS.NO_SITES true).levelOn srcThermNoSites (syndrome 0 0 s.tDie))).showCaps
  else if s.flag THM_STATUS.NO_SITES then
    let n := s.thm.backRun + 1
    if 3 ≤ n then
      ((({ s with thm := { s.thm with backRun := 0 } }).setFlag THM_STATUS.NO_SITES false).levelOff srcThermNoSites).showCaps.report280 m
    else none_ { s with thm := { s.thm with backRun := n } }
  else s.report280 m

/-! ### Threshold flags (R286) -/

/-- A flag with its run after a round at temperature `t`: sets at `thr`, clears at `thr − hyst`, after 3 rounds each. -/
def dwell (flag : Bool) (run : Nat) (t thr hyst : Int) : Bool × Nat :=
  let meets := if flag then decide (t ≤ thr - hyst) else decide (thr ≤ t)
  if meets then (if 2 ≤ run then (!flag, 0) else (flag, run + 1)) else (flag, 0)

/-- A threshold of THM_THR in 1/16 °C. -/
def State.thr (s : State) (f : Fld) : Int := 16 * (s.fld f : Int)

/-- The SHUTDOWN flag (R286, R289). -/
def State.shutdownFlag (s : State) : State :=
  if s.thm.shutdown then s
  else
    let run := if s.thr THM_THR.SHUTDOWN ≤ s.tDie then s.thm.shutRun + 1 else 0
    if run < 3 then { s with thm := { s.thm with shutRun := run } }
    else
      let s1 := ({ s with thm := { s.thm with shutRun := 0, shutdown := true } }).setFlag THM_STATUS.SHUT_LATCHED true
      (s1.raise srcThermShutdown (syndrome (s.fld THM_TEMP.HOT_SITE) 0 s.tDie)).thermDown

/-- The WARN flag: THERM_WARN on setting; the PLDM event of a change follows at the end of the round (R286). -/
def State.warnFlag (s : State) : State :=
  let old := s.flag THM_STATUS.WARN
  let r := dwell old s.thm.warnRun s.tDie (s.thr THM_THR.WARN) (s.thr THM_THR.WARN_HYST)
  let s1 := ({ s with thm := { s.thm with warnRun := r.2 } }).setFlag THM_STATUS.WARN r.1
  if r.1 = old then s1
  else if r.1 then s1.raise srcThermWarn (syndrome (s.fld THM_TEMP.HOT_SITE) 0 s.tDie) else s1

/-- The THROTTLE flag (R286). -/
def State.throttleFlag (s : State) : State :=
  let old := s.flag THM_STATUS.THROTTLE
  let r := dwell old s.thm.thrRun s.tDie (s.thr THM_THR.THROTTLE) (s.thr THM_THR.THROTTLE_HYST)
  let s1 := ({ s with thm := { s.thm with thrRun := r.2 } }).setFlag THM_STATUS.THROTTLE r.1
  if r.1 && !old then s1.incSat THM_EPISODES.ENTRIES else s1

/-- This die's flags (DieEvent.flags) but for the reasons that have set: a thermal emergency is enforcement, or a latch of a
thermal shutdown (R296, R423). -/
def State.thermFlags (s : State) : Nat :=
  bnat (s.flag THM_STATUS.WARN) + 2 * bnat (s.flag THM_STATUS.THROTTLE) + 4 * bnat s.thm.shutdown +
  8 * bnat (s.flag THM_STATUS.ENFORCING || s.thermLatched) +
  ((List.range 4).map (fun k => 2 ^ (4 + k) * bnat (s.flag (THM_MEM.CRIT k)))).sum + 2 ^ 8 * bnat s.powerEmergency +
  2 ^ 9 * bnat (!s.ownStable) + 2 ^ 16 * s.fld BUD_RSN_ACTIVE.ACTIVE

/-- A change of the die's thermal flags is told, with the throttle reasons that have set since: the leader acts on its own
at once, a follower reports it (R296, R300, R301, R407, logs 151 and 155). -/
def State.tellFlags (s : State) : State :=
  let w := s.thermFlags
  let r := s.lim.rsnEvents
  if SMap.get (fun _ => 0) s.thm.dieFlags s.dieId = w ∧ r = 0 then s
  else if s.leader then ({ s with lim := { s.lim with rsnEvents := 0 } }).takeFlags s.dieId (w + 2 ^ 32 * r)
  else
    ({ s with lim := { s.lim with rsnEvents := 0 },
              thm := { s.thm with dieFlags := SMap.put (fun _ => 0) s.thm.dieFlags s.dieId w } }).report (.flags (w + 2 ^ 32 * r))

/-! ### Grace, enforcement and release (R292–R296) -/

/-- Is enforcement in force? -/
def State.enforcing (s : State) : Bool := s.flag THM_STATUS.ENFORCING

/-- An enforcement step (R294). -/
def State.enforceStep (s : State) : State :=
  let j := min (if s.thm.cap = 0x1F then s.top else s.thm.cap) s.opIndex
  let p0 := s.fld (OPP_PT_B.POOL_MAX 0)
  let s1 :=
    match s.thm.pool with
    | none =>
      if 0 < j then { s with thm := { s.thm with cap := j - 1 } }
      else { s with thm := { s.thm with pool := some (p0 - p0 / 16) } }
    | some p => { s with thm := { s.thm with pool := some (max (p - p0 / 16) (s.fld BUD_SHARE.EMERG_Q)) } }
  ({ s1 with thm := { s1.thm with stepAt := s1.now } }).showCaps

/-- A release step; enforcement ends when both caps are gone (R295). -/
def State.releaseStep (s : State) : State :=
  let p0 := s.fld (OPP_PT_B.POOL_MAX 0)
  let s1 :=
    match s.thm.pool with
    | some p =>
      let q := p + p0 / 16
      { s with thm := { s.thm with pool := if p0 ≤ q then none else some q } }
    | none =>
      let q := s.thm.cap + 1
      { s with thm := { s.thm with cap := if s.thm.cap = 0x1F ∨ s.top ≤ q then 0x1F else q } }
  let s2 := ({ s1 with thm := { s1.thm with stepAt := s1.now } }).showCaps
  if s2.thm.pool = none ∧ s2.thm.cap = 0x1F then
    (((({ s2 with thm := { s2.thm with releasing := false, endedAt := some s2.now } }).setFlag THM_STATUS.ENFORCING false).setFlag
      THM_STATUS.PRED_EARLY false)).incSat THM_EPISODES.ENFORCED
  else s2

/-- Enforcement begins: the grace is over, one step is taken, an injection gives way, the rings may trigger (R294,
R296, R441). -/
def State.enforceBegin (s : State) : State :=
  let s1 := ({ s with thm := { s.thm with deadline := none, releasing := false } }).setFlag THM_STATUS.GRACE false
  ((((s1.setFlag THM_STATUS.ENFORCING true).enforceStep).abortAllInj 5).ringEvent 5)

/-- The index a slow-down request names (R292). -/
def State.slowIndex (s : State) : Nat := min (if s.thm.cap = 0x1F then s.top else s.thm.cap) s.opIndex - 1

/-- THROTTLE has set (R292, R295). -/
def State.throttleSet (s : State) : State :=
  let again := s.enforcing || (match s.thm.endedAt with
    | some t => decide (s.now < t + 1000000 * s.fld THM_GRACE.REARM)
    | none => false)
  let grace := if again then 0 else 100000 * s.fld THM_GRACE.GRACE
  let s1 := s.slowDown 6 s.slowIndex (s.skyNs + grace)
  if grace = 0 then s1.enforceBegin
  else ({ s1 with thm := { s1.thm with deadline := some (s1.now + grace) } }).setFlag THM_STATUS.GRACE true

/-- THROTTLE has cleared: a grace ends without enforcement, an enforcement is released (R292, R295). -/
def State.throttleCleared (s : State) : State :=
  let s1 := ({ s with thm := { s.thm with deadline := none } }).setFlag THM_STATUS.GRACE false
  if s1.enforcing then ({ s1 with thm := { s1.thm with releasing := true } }).releaseStep else s1

/-- The prediction crosses no later than the grace ends (R293). -/
def State.predictsEarly (s : State) : Bool :=
  match s.thm.deadline with
  | none => false
  | some t =>
    let c := s.fld THM_PRED_STATUS.CROSS
    s.flag THM_CTRL.PRED_EN && c != 0x1FF && decide (c * 100000 ≤ t - s.now)

/-- Early enforcement on the prediction (R293). -/
def State.earlyEnforce (s : State) : State :=
  if s.predictsEarly then ((s.slowDown 7 s.slowIndex s.skyNs).setFlag THM_STATUS.PRED_EARLY true).enforceBegin else s

/-- Steps of an enforcement in force at a round (R294, R295). -/
def State.enforceRound (s : State) : State :=
  let due := decide (s.thm.stepAt + 100000 * s.fld THM_ENF.STEP_TIME ≤ s.now)
  if s.thm.releasing then (if due then s.releaseStep else s)
  else
    let hot := decide (s.thr THM_THR.THROTTLE ≤ s.tDie)
    let fast := decide (s.thr THM_THR.THROTTLE + 16 * (s.fld THM_ENF.FAST_OFS : Int) ≤ s.tDie)
    if hot && (due || fast) then s.enforceStep else s

/-- Order 5 of a round (R285): grace, enforcement and release, given the THROTTLE flag before the round. -/
def State.enforcement (s : State) (was : Bool) : State :=
  let is := s.flag THM_STATUS.THROTTLE
  if is && !was then s.throttleSet.earlyEnforce
  else if was && !is then s.throttleCleared
  else if s.enforcing then s.enforceRound
  else s.earlyEnforce

/-- Is the thermal manager at work: out of PORST_N with its domain startable, and in OFF only from the extra round of a
transition out of OFF on, in start-up, or in a stopped instance; else flags and caps hold (R283, R307)? -/
def State.thermOn (s : State) : Bool :=
  s.canWake && (s.pstate != 0 || s.ps.booting || s.stopped || s.thm.extra || (s.flag HEATH_DOMAIN_STATUS.IN_TRANSIT && s.ps.leg == 2))

/-- The grace deadline passes with THROTTLE still set (R292); in a block reset and in OFF it waits (R307). In RETAIN it
starts a block core domain that has gated, as a round does (R17, log 140). -/
def State.graceDeadline (s : State) : State :=
  match s.thm.deadline with
  | none => s
  | some t =>
    if s.inReset || !s.thermOn then s
    else
      let s0 := s.advanceTo t
      let s1 := if s0.flag HEATH_DOMAIN_STATUS.CORE_ON then s0 else s0.wake 2 false
      if s1.flag THM_STATUS.THROTTLE ∧ s1.thm.shutdown = false then s1.enforceBegin.tellFlags.noteReasons
      else ({ s1 with thm := { s1.thm with deadline := none } }).setFlag THM_STATUS.GRACE false

/-! ### Observer, rate, compensation, report (R284, R298, R300, R304) -/

/-- A node temperature in 1/16 °C. -/
def nodeT (t : Int) : Int := ashr t 16

/-- The node temperatures shown in THM_NODE_T. -/
def State.showNodes (s : State) : State :=
  s.thm.nodes.zipIdx.foldl (fun t p => t.setFld (THM_NODE_T.T p.2) (ofSigned 16 (nodeT p.1))) s

/-- Every node starts at T_die of the first round after a start, and its updates follow from then on (R297, R307). -/
def State.startNodes (s : State) : State :=
  if s.thm.fresh then { s with thm := { s.thm with
    nodes := List.replicate 16 (s.tDie * 65536), fresh := false, modelAt := max s.thm.modelAt s.skyNs } } else s

/-- The observer corrects every node that has a site (R298). -/
def State.observe (s : State) : State :=
  let nodes := s.thm.nodes.zipIdx.map (fun p =>
    match maxInt (((List.range 96).filter (fun k => s.fld (SITE_CFG.NODE k) == p.2)).map s.siteT) with
    | some m => p.1 + ashr (m * 65536 - p.1) (s.fld THM_PRED.OBS_SHIFT)
    | none => p.1)
  ({ s with thm := { s.thm with nodes := nodes } }).showNodes

/-- The band of T_die (R284). -/
def State.rateBand (s : State) : Nat :=
  if s.thr THM_THR.SHUTDOWN - 32 ≤ s.tDie then 2 else if s.thr THM_THR.THROTTLE - 80 ≤ s.tDie then 1 else 0

/-- Period for the next round (R284). -/
def State.nextRate (s : State) : State :=
  if s.flag THM_STATUS.NO_SITES then ({ s with thm := { s.thm with slowRun := 0 } }).setFld THM_STATUS.RATE 1
  else
    let r := s.fld THM_STATUS.RATE
    let b := s.rateBand
    if r < b then ({ s with thm := { s.thm with slowRun := 0 } }).setFld THM_STATUS.RATE b
    else if b < r then
      (if 2 ≤ s.thm.slowRun then ({ s with thm := { s.thm with slowRun := 0 } }).setFld THM_STATUS.RATE b
       else { s with thm := { s.thm with slowRun := s.thm.slowRun + 1 } })
    else { s with thm := { s.thm with slowRun := 0 } }

/-- Round period in ns (R284). -/
def State.roundNs (s : State) : Nat :=
  match s.fld THM_STATUS.RATE with
  | 2 => 20000
  | 1 => 100000
  | _ => 1000000

/-- The Heath corrects its oscillator from a temperature of HEATH_SITE (R304). -/
def State.oscCorrect (s : State) (t : Int) : State :=
  ({ s with thm := { s.thm with oscCorr := interpolate s.oscTab t } }).setFlag HEATH_DOMAIN_STATUS.OSC_COMP true

/-- The hottest memory stack of this die (R300); 0 where no stack is built. -/
def State.hotStack (s : State) : Int :=
  (maxInt ((bitsSet 4 s.tie.mems).map (fun k => toSigned 16 (s.fld (THM_MEM.T k))))).getD 0

/-- Does a die count in the package temperatures: a member, neither LOST nor OFF (R300)? -/
def State.dieCounts (s : State) (d : Nat) : Bool :=
  if d = s.dieId then s.pstate != 0 else s.participants.contains d && s.fld (HDG_DIE_STATE.STATE d) != 2

/-- A die's T_die and hottest stack reach the leader (R300). -/
def State.dieReport (s : State) (d : Nat) (tDie tMem : Int) : State :=
  let m := SMap.put (fun _ => (0, 0)) s.thm.dieT d (tDie, tMem)
  let s1 := { s with thm := { s.thm with dieT := m } }
  let ds := s1.participants.filter s1.dieCounts
  let val (d : Nat) : Int × Int := SMap.get (fun _ => (0, 0)) m d
  (s1.setFld THM_PKG_TEMP.T_DIE_MAX (ofSigned 16 ((maxInt (ds.map (fun d => (val d).1))).getD 0))).setFld THM_PKG_TEMP.T_MEM
    (ofSigned 16 ((maxInt (ds.map (fun d => (val d).2))).getD 0))

/-- The report to the leader (R300); a follower with stacks tells their temperatures beside it, for the leader's sensors
(R407, log 151). -/
def State.thermReport (s : State) : State :=
  if s.leader then s.dieReport s.dieId s.tDie s.hotStack
  else if s.flag HDG_STATUS.AUTONOMOUS then s
  else
    let s1 := s.send s.leaderDie 0 (.thermal s.tDie s.hotStack)
    if s.tie.mems = 0 then s1
    else s1.send s.leaderDie 0 (.data (.stacks ((bitsSet 4 s.tie.mems).map (fun k => (k, toSigned 16 (s.fld (THM_MEM.T k)))))))

/-! ### Memory stacks (R301–R303) -/

/-- Run count `j` (0 REFRESH, 1 THROTTLE, 2 CRIT) of a stack. -/
def memRun (w j : Nat) : Nat := bitsOf w (2 * j + 1) (2 * j)

/-- mc_refresh_2x of a stack: the REFRESH flag, or stale (R301, R303). -/
def State.refresh2x (s : State) (k : Nat) : Bool := s.flag (THM_MEM.REFRESH k) || s.flag (THM_MEM.STALE k)

/-- A report of a stack is tested (R301, R302). -/
def State.testStack (s : State) (k t : Nat) : State :=
  let x := toSigned 16 t
  let w := SMap.get (fun _ => 0) s.thm.memRuns k
  let h := s.thr THM_MEM_THR.HYST
  let old := s.flag (THM_MEM.CRIT k)
  let a := dwell (s.flag (THM_MEM.REFRESH k)) (memRun w 0) x (s.thr THM_MEM_THR.REFRESH) h
  let b := dwell (s.flag (THM_MEM.THROTTLE k)) (memRun w 1) x (s.thr THM_MEM_THR.THROTTLE) h
  let c := dwell old (memRun w 2) x (s.thr THM_MEM_THR.CRIT) h
  let cap := s.fld (THM_MEM.BW_CAP k)
  let cap' := if b.1 then (if s.thr THM_MEM_THR.THROTTLE ≤ x then max cap (min (cap + 1) (s.fld THM_MEM_THR.BW_MAX)) else cap)
    else cap - 1
  let s1 := { s with thm := { s.thm with memRuns := SMap.put (fun _ => 0) s.thm.memRuns k (a.2 + 4 * b.2 + 16 * c.2) } }
  let s2 := (((s1.setFlag (THM_MEM.REFRESH k) a.1).setFlag (THM_MEM.THROTTLE k) b.1).setFlag (THM_MEM.CRIT k) c.1).setFld
    (THM_MEM.BW_CAP k) cap'
  if c.1 && !old then s2.raise srcMemThermalCrit (syndrome k 0 x) else s2

/-- Order 7 of a round: the stack reports received since the previous one are tested (R285). -/
def State.testStacks (s : State) : State :=
  each s.thm.memIn (fun p t => t.testStack p.1 p.2) { s with thm := { s.thm with memIn := [] } }

/-- A temperature report of a stack is taken, for the next round to test; a stale state ends with it (R285, R301, R303).
None is taken while bc_clk stands still (R50, R79). -/
def State.stackReport (s : State) (k t : Nat) : State :=
  if s.flag HEATH_DOMAIN_STATUS.CORE_ON = true ∧ bitAt s.tie.mems k ∧ k < 4 ∧ s.inReset = false then
    let s1 := { s with thm := { s.thm with memAt := SMap.put (fun _ => 0) s.thm.memAt k s.now
                                           memIn := s.thm.memIn ++ [(k, t)] } }
    let s2 := (s1.setFld (THM_MEM.T k) t).setFlag (THM_MEM.STALE k) false
    (if (List.range 4).any (fun j => s2.flag (THM_MEM.STALE j)) then s2 else s2.levelOff srcMemTempStale).noteReasons
  else s

/-- No report of a stack for 3 ms: it is stale (R303); a block reset holds the requests to the memory (R92). -/
def State.stackStale (s : State) (k : Nat) : State :=
  if s.flag HEATH_DOMAIN_STATUS.CORE_ON ∧ bitAt s.tie.mems k ∧ k < 4 ∧ s.inReset = false ∧ s.flag (THM_MEM.STALE k) = false then
    let s1 := s.advanceTo (SMap.get (fun _ => 0) s.thm.memAt k + 3000000)
    ((s1.setFlag (THM_MEM.STALE k) true).levelOn srcMemTempStale (syndrome k 0 (toSigned 16 (s.fld (THM_MEM.T k))))).noteReasons
  else s

/-! ### A round (R283, R285, R307) -/

/-- Does the thermal manager run rounds now: at work, and not in a block reset (R283, R307)? -/
def State.roundsRun (s : State) : Bool := s.thermOn && !s.inReset

/-- The evaluation of a round in the order of R285. In NO_SITES the flags are not evaluated (R282); grace, enforcement and
release go on, with the last T_die (R293–R295). -/
def State.evaluate (s : State) (xs : List SiteIn) : State :=
  let ins := (List.range 96).map (siteIn xs)
  let s1 := ins.foldl (fun t x => if x.done then t.setFld (SITE_RAW.RAW x.site) x.raw else t) s
  let m0 : Readings := ins.filterMap (fun x => (s1.siteValue x).map (fun t => (x.site, t)))
  let q := s1.allRuns m0
  let s2 := (q.1.setFld THM_STATUS.SUSPECTS q.1.suspects).noSites q.2
  let site := s2.fld THM_CTRL.HEATH_SITE
  let s3 :=
    if s2.flag THM_STATUS.NO_SITES then (if s2.thm.shutdown then s2 else s2.enforcement (s2.flag THM_STATUS.THROTTLE))
    else
      let was := s2.flag THM_STATUS.THROTTLE
      let t := (s2.startNodes).shutdownFlag
      let t1 := (t.throttleFlag).warnFlag
      (if t1.thm.shutdown then t1 else t1.enforcement was).observe
  let s4 := s3.testStacks.nextRate
  let s5 := if s4.flag THM_STATUS.NO_SITES then s4
    else match Readings.at_ q.2 site with
      | some t => s4.oscCorrect t
      | none => s4
  s5.thermReport.tellFlags.noteReasons

/-- THERMAL_ROUND: the round that is due is reached; in RETAIN the block core domain starts for it. The extra round
of a transition out of OFF comes at once, and step 6 may follow it. -/
def State.thermalRound (s : State) (xs : List SiteIn) : State :=
  if s.roundsRun then
    if s.thm.extra then
      let s1 := ({ s with thm := { s.thm with extra := false, roundAt := s.skyNs } }).startCore
      (s1.evaluate xs).tryStepSix
    else
      let p := s.roundNs
      let due := (s.thm.roundAt / p + 1) * p
      let s1 := s.advanceSky due
      let s2 := { s1 with thm := { s1.thm with roundAt := due } }
      let s3 := if s2.pstate = 1 then s2.wake 2 false else s2
      s3.evaluate xs
  else s

/-! ### The predictive model (R297, R299) -/

/-- Neighbours of a node: stripe i ± 1 in its own half, stripe i ± 8 across the seam. -/
def nodeNbrs (i : Nat) : List Nat :=
  (if i % 8 = 0 then [] else [i - 1]) ++ (if i % 8 = 7 then [] else [i + 1]) ++ [(i + 8) % 16]

/-- One update of all nodes from their previous values (R297). -/
def State.nodeStep (s : State) (nodes : List Int) : List Int :=
  let ts := toSigned 16 (s.fld THM_MODEL.T_SINK) * 65536
  let gl : Int := s.fld THM_MODEL.G_LAT
  nodes.zipIdx.map (fun p =>
    let pw := SMap.get (fun _ => 0) s.thm.stripeP p.2
    let gs : Int := s.fld (THM_NODE_G.G_SINK p.2)
    let k : Int := s.fld (THM_NODE_K.K p.2)
    let lat := ((nodeNbrs p.2).map (fun j => p.1 - listGet 0 nodes j)).sum
    let q := pw * 1048576 - gs * (p.1 - ts) - gl * lat
    p.1 + (q * k).tdiv (1000 * 16777216))

/-- The highest node and its temperature. -/
def hottest (nodes : List Int) : Nat × Int :=
  match maxInt nodes with
  | some m => (nodes.idxOf m, m)
  | none => (0, 0)

/-- The run ahead (R299): `k` steps to go, `n` taken; first crossing (step, node), peak (node, temperature). -/
def State.runAhead (s : State) (lim : Int) : Nat → Nat → List Int → Option (Nat × Nat) → Nat × Int → Option (Nat × Nat) × (Nat × Int)
  | 0, _, _, c, pk => (c, pk)
  | k + 1, n, nodes, c, pk =>
    let ns := s.nodeStep nodes
    let h := hottest ns
    let pk' := if pk.2 < h.2 then h else pk
    let c' := match c with
      | some x => some x
      | none => if lim ≤ h.2 then some (n + 1, h.1) else none
    State.runAhead s lim k (n + 1) ns c' pk'

/-- PREDICTION_UPDATE: the update that is due is reached; the nodes update, the copy runs ahead (R297, R299). -/
def State.predict (s : State) : State :=
  if s.thm.nodes = [] ∨ s.thm.fresh ∨ s.inReset ∨ s.flag HEATH_DOMAIN_STATUS.CORE_ON = false then s
  else
    let due := (s.thm.modelAt / 100000 + 1) * 100000
    let s1 := s.advanceSky due
    let nodes := s1.nodeStep s1.thm.nodes
    let s2 := ({ s1 with thm := { s1.thm with nodes := nodes, modelAt := due } }).showNodes
    let lim := (s2.thr THM_THR.SHUTDOWN - 16 * (s2.fld THM_PRED.MARGIN : Int)) * 65536
    -- with every K at 0 no crossing is ever predicted
    let moves := (List.range 16).any (fun i => s2.fld (THM_NODE_K.K i) != 0)
    let q := s2.runAhead lim (10 * s2.fld THM_PRED.HORIZON) 0 nodes none (hottest nodes)
    let r := (if moves then q.1 else none, q.2)
    let s3 := s2.setFld THM_PRED_STATUS.PEAK (ofSigned 16 (nodeT r.2.2))
    match r.1 with
    | some c => (s3.setFld THM_PRED_STATUS.CROSS c.1).setFld THM_PRED_STATUS.NODE c.2
    | none => (s3.setFld THM_PRED_STATUS.CROSS 0x1FF).setFld THM_PRED_STATUS.NODE r.2.1

/-! ### Trips (R290, R291) -/

/-- A site_trip rises (R290): unmasked, it latches and the die shuts down, whatever its domains do. It does so while PORST_N
is asserted too, a choice: R290 has every rise latched, while R99 has the block ignore its inputs then (log 158). -/
def State.analogTrip (s : State) (k : Nat) : State :=
  if s.ps.vaon = false ∨ 96 ≤ k then s
  else
    let s1 := ({ s with thm := { s.thm with trips := maskSet s.thm.trips k } }).setFlag (SITE_STATUS.TRIP k) true
    if s1.flag (SITE_CFG.ATRIP_MASK k) then s1
    else ((((s1.setFlag THM_STATUS.ATRIP_LATCHED true).raise srcThermAnalogTrip (syndrome k 0 (s.siteT k))).wake 2 false).thermDown).tellFlags

/-- Has this die a trip of its own: a latch, or an unmasked site_trip that is high (R291)? -/
def State.ownTrip (s : State) : Bool :=
  s.thermLatched || (List.range 96).any (fun k => bitAt s.thm.trips k && !s.flag (SITE_CFG.ATRIP_MASK k))

/-- The pad has been low for 1 µs without a trip of the die's own (R291). -/
def State.externalTrip (s : State) : State :=
  if s.ownTrip || !s.flag THM_CTRL.TRIP_FOLLOW || !s.ps.porst then s
  else (((s.setFlag THM_STATUS.EXT_TRIP true).raise srcThermExtTrip (syndrome 0 0 s.tDie)).wake 2 false).thermDown

/-! ### Compensation (R283, R304, R306) -/

/-- In OFF the Heath converts HEATH_SITE every 1 ms and corrects its oscillator; while NO_SITES lasts, or with no value, the
last correction stays (R283, R304). -/
def State.oscConversion (s : State) (raw : Nat) (done : Bool) : State :=
  if s.pstate = 0 ∧ s.ps.vaon ∧ s.ps.booting = false ∧ s.stopped = false then
    let s1 := s.advanceTo (s.ps.oscAt + 1000000)
    let s2 := { s1 with ps := { s1.ps with oscAt := s1.now } }
    let x : SiteIn := { site := s2.fld THM_CTRL.HEATH_SITE, done := done, raw := raw }
    let s3 := if done then s2.setFld (SITE_RAW.RAW x.site) raw else s2
    match (if s3.flag THM_STATUS.NO_SITES then none else s3.siteValue x) with
    | some t => s3.oscCorrect t
    | none => s3
  else s

/-- The rail and the phase in it of a delay line. -/
def lineOf (k : Nat) : Nat × Nat :=
  match [3, 2, 1, 0].find? (fun n => decide (phaseBase n ≤ k)) with
  | some n => (n, k - phaseBase n)
  | none => (0, k)

/-- DPWM_RECALIBRATION (R306): taps per DPWM cycle measured for each delay line. The rails load the scales that follow at
their period boundaries; MAX_ADJ shows the largest change of an on-time. -/
def State.dpwmCal (s : State) (taps : List (Nat × Nat)) : State :=
  if s.flag HEATH_DOMAIN_STATUS.DPWM_ON then
    let s1 := match s.ps.dpwmAt with
      | some t => s.advanceTo (t + 1000000)
      | none => s
    let m := taps.foldl (fun m p => if p.1 < 96 ∧ bitAt s.tie.phases p.1 then SMap.put (fun _ => 0) m p.1 p.2 else m) s1.ps.dpwmTaps
    let adj := (m.map (fun p => let r := s1.rail (lineOf p.1).1
      onTimeChange r.onTime (SMap.get (fun _ => 0) r.scale (lineOf p.1).2) p.2)).foldl max 0
    (({ s1 with ps := { s1.ps with dpwmAt := some s1.now, dpwmTaps := m } }).incSat THM_DPWM_CAL.COUNT).setFld
      THM_DPWM_CAL.MAX_ADJ (min adj 255)
  else s

end Sys2Proof.Machine
end

