-- ==== Sys2Proof/Machine/Checks.lean ====
section
/-! DEFINITION. Field-access scopes (R469–R471), and the commit checks of every region (R160, R184, R218, R230, R248,
R276, R309, R339, R371). The checks read a state whose registers hold the applied values overlaid with the staged
ones (R328). -/

namespace Sys2Proof.Machine

/-! ### Scopes (R469–R471) -/

/-- The scopes held now, as a mask: all in OPEN, those of ACC_STATE in UNLOCKED, none in AUTONOMOUS. -/
def State.scopes (s : State) : Nat :=
  if s.flag HDG_STATUS.AUTONOMOUS then 0
  else match s.fld ACC_STATE.STATE with
    | 0 => 31
    | 2 => s.fld ACC_STATE.SCOPE
    | _ => 0

/-- Is scope `k` held (0 INJECT, 1 RAW_COEFF, 2 FAULT_FORCE, 3 FW_DEBUG, 4 FULL_TRACE)? -/
def State.hasScope (s : State) (k : Nat) : Bool := bitAt s.scopes k

/-! ### Ranges (R160) -/

/-- Is the field staged? -/
def FieldDesc.isStaged (f : FieldDesc) : Bool := f.ty == .rws || f.ty == .rwls

/-- A word whose staged fields come from `v` and whose other bits stay (R6). -/
def RegDesc.stageWord (d : RegDesc) (old v : Nat) : Nat :=
  d.fields.foldl (fun w f => if f.isStaged then withBits w f.hi f.lo (bitsOf v f.hi f.lo) else w) old

/-- Every staged field of a word within its range. -/
def RegDesc.inRange (d : RegDesc) (w : Nat) : Bool :=
  d.fields.all (fun f => !f.isStaged || decide (f.min ≤ bitsOf w f.hi f.lo ∧ bitsOf w f.hi f.lo ≤ f.max))

/-- Is the word of the register at `off` within the ranges of its staged fields? -/
def wordInRange (off w : Nat) : Bool :=
  match findReg off with
  | some d => d.inRange w
  | none => true

/-- A register between two offsets is out of range. A register not listed holds its reset word, which is in range. -/
def State.rangeBad (s : State) (lo hi : Nat) : Bool :=
  s.regs.any (fun r => decide (lo ≤ r.1 ∧ r.1 < hi) && !wordInRange r.1 r.2.toNat)

/-! ### Shapes -/

/-- Strictly rising along `n` positions. -/
def rising (f : Nat → Int) (n : Nat) : Bool := (List.range (n - 1)).all (fun k => decide (f k < f (k + 1)))

/-- Not falling along `n` positions. -/
def notFalling (f : Nat → Nat) (n : Nat) : Bool := (List.range (n - 1)).all (fun k => decide (f k ≤ f (k + 1)))

/-- Points in use. -/
def State.points (s : State) : List Nat := List.range (s.fld OPP_CTRL.COUNT)

/-- Budget contexts that have a populated cluster on this die. -/
def State.ctxsHere (s : State) : List Nat := (s.clusters.map s.ctxOf).dedup

/-- A mask from its conditions, bit 0 first. -/
def maskOf (bs : List Bool) : Nat := (bs.zipIdx.filter (fun p => p.1)).foldl (fun m p => maskSet m p.2) 0

/-! ### The checks, one bit each -/

/-- ADM_CHECK (R160). `old` holds the applied values. -/
def State.checkAdm (s : State) : Nat :=
  let q := fun (f : Fld) => s.fld f
  let maxPool := (s.points.map (fun k => s.fld (OPP_PT_B.POOL_MAX k))).foldl max 0
  let maxV := (s.points.map (fun k => s.fld (OPP_PT_A.VCORE k))).foldl max 0
  maskOf [
    !decide (q ADM_CLASS_Q.IDLE ≤ q ADM_CLASS_Q.TRICKLE ∧ q ADM_CLASS_Q.TRICKLE ≤ q ADM_CLASS_Q.LIGHT ∧
      q ADM_CLASS_Q.LIGHT ≤ q ADM_CLASS_Q.MEDIUM ∧ q ADM_CLASS_Q.MEDIUM ≤ q ADM_CLASS_Q.FULL),
    s.rangeBad 0x10000 0x14000 || s.clusters.any (fun c => !wordInRange (AGT_CFG c) (s.reg (AGT_CFG c))),
    decide (q ADM_SLOPE.UP_ANN < q ADM_SLOPE.UP),
    decide (8 * q ADM_SLOPE_DN.DN < maxPool - q BUD_SHARE.EMERG_Q),
    decide (65536 < (s.ctxsHere.map (fun x => s.fld (ADM_CTX_MIN.MIN x))).sum),
    s.regs.any (fun r => decide (0x11000 ≤ r.1 ∧ r.1 < 0x13000) &&
      decide (s.fld (ADM_CTX_MAX.MAX ((r.1 - 0x11000) / 8)) < s.fld (ADM_CTX_MIN.MIN ((r.1 - 0x11000) / 8)))),
    decide (1200 < q ADM_LEAD.PREBIAS_MV + maxV),
    decide (q ADM_LEAD.RESERVE < q ADM_LEAD.BIAS)]

/-- DRP_CHECK (R184). The writes of a verified image (`image`) reach locked fields without an unlock (R416). -/
def State.checkDrp (s old : State) (image : Bool) : Nat :=
  maskOf [
    (List.range 32).any (fun k => !decide (0 < s.fld (DRP_THR.MILD_OFS k) ∧
      s.fld (DRP_THR.MILD_OFS k) < s.fld (DRP_THR.DEEP_OFS k) ∧ s.fld (DRP_THR.DEEP_OFS k) < s.fld (DRP_THR.SEVERE_OFS k) ∧
      s.fld (DRP_THR.SEVERE_OFS k) ≤ s.fld DRP_CAL.TARGET)),
    s.rangeBad 0x14000 0x18000 || s.clusters.any (fun c => !wordInRange (AGT_DRP_CFG c) (s.reg (AGT_DRP_CFG c))),
    !decide (s.fld DRP_PRO.LEVEL = 1 ∨ s.fld DRP_PRO.LEVEL = 2),
    decide (s.fld DRP_CAL.UNCAL_LEVEL = 0),
    !image && !old.hasScope 1 && s.clusters.any (fun c =>
      decide (s.fld (AGT_DRP_CFG.TRIM_FIX c) ≠ old.fld (AGT_DRP_CFG.TRIM_FIX c) ∨ s.fld (AGT_DRP_CFG.TRIM c) ≠ old.fld (AGT_DRP_CFG.TRIM c)))]

/-- Soft-start target of a rail over its SLEW, times 26,771,144,400, the least number that every SLEW divides. -/
def State.softShare (s : State) (n : Nat) : Nat :=
  let v := if n = 0 then s.fld (OPP_PT_A.VCORE 0) else if n = 1 then s.fld (OPP_PT_B.VCACHE 0) else s.fld (RAIL_VSET.VSET n)
  v * (26771144400 / max 1 (s.fld (RAIL_SS.SLEW n)))

/-- The timeout rule of AVSBus holds (R215), in ns. -/
def State.avsTimeoutOk (s : State) : Bool :=
  decide (1000 * s.fld RAIL0_AVS_CTRL.VIN_POLL + 4 * (10240 / 2 ^ s.fld RAIL0_AVS_CTRL.CLK + 250 * s.fld RAIL0_AVS_CTRL.RETRY_GAP) + 2000
    ≤ 10000 * s.fld RAIL0_AVS_CTRL.VIN_STALE)

/-- RAILn_CHECK (R218, R230). -/
def State.checkRail (s : State) (n : Nat) : Nat :=
  let within := fun (v : Nat) => decide (400 ≤ v ∧ v ≤ 1200)
  let low := if n = 0 then s.fld (OPP_PT_A.VCORE 0) else s.fld (OPP_PT_B.VCACHE 0)
  let amp := (toSigned 16 (s.fld (RAIL_INJ_AMP.AMP n))).natAbs
  let top := if s.fld (RAIL_INJ_CTRL.POINT n) = 0 then 40 else 4096
  let freq := s.reg (RAIL_INJ_FREQ n)
  let en := s.flag (RAIL_INJ_CTRL.EN n)
  let reserved := decide (1 < s.fld (RAIL_INJ_CTRL.POINT n)) || decide (3 < s.fld (RAIL_INJ_CTRL.WAVE n))
  maskOf [
    !decide (s.fld (RAIL_DUTY_LIM.DUTY_MIN n) < s.fld (RAIL_DUTY_LIM.DUTY_MAX n)),
    s.rangeBad (RAIL_CTRL n) (RAIL_CTRL n + 0x1000) || reserved,
    !within (s.fld (RAIL_VSET.VRET n)) || (n < 2 && decide (low ≤ s.fld (RAIL_VSET.VRET n))) || (!(n < 2) && !within (s.fld (RAIL_VSET.VSET n))),
    n = 0 && decide (1500 * 26771144400 < ((List.range 4).map s.softShare).sum),
    n ≠ 0 && s.flag (RAIL_CTRL.AFF_EN n),
    n = 0 && !s.avsTimeoutOk,
    decide (popCount 48 (s.built n) < s.fld (RAIL_PHASE.MIN_ACTIVE n)),
    (en && !decide (1 ≤ amp ∧ amp ≤ top)) || reserved,
    s.fld (RAIL_INJ_CTRL.WAVE n) = 0 && !decide (1000 ≤ freq ∧ freq ≤ 20000000 ∧ 10 * freq * s.fld (RAIL_CTRL.PER n) ≤ 6400000000),
    (s.fld (RAIL_INJ_CTRL.WAVE n) = 1 || s.fld (RAIL_INJ_CTRL.WAVE n) = 2) && s.fld (RAIL_INJ_CTRL.CHIP n) = 0,
    en && decide (1 < ((List.range 4).filter (fun k => s.flag (RAIL_INJ_CTRL.EN k))).length),
    !wordInRange (RAIL_INJ_GUARD n) (s.reg (RAIL_INJ_GUARD n))]

/-- EST_CHECK (R248). -/
def State.checkEst (s : State) : Nat :=
  maskOf [
    (List.range 4).any (fun r => !rising (s.vAxis r) 16 || (List.range 16).any (fun i => !decide (300 ≤ s.vAxis r i ∧ s.vAxis r i ≤ 1200))),
    !rising s.tAxis 16 || (List.range 16).any (fun j => !decide (-640 ≤ s.tAxis j ∧ s.tAxis j ≤ 2400)),
    s.rangeBad 0x20000 0x24000,
    !decide (s.fld EST_CAL_LIM.G_MIN < 0x4000 ∧ 0x4000 < s.fld EST_CAL_LIM.G_MAX),
    s.regs.any (fun r => decide (0x20400 ≤ r.1 ∧ r.1 < 0x21400) && decide (0xF42400 < bitsOf r.2.toNat 23 0))]

/-- The applied or staged word of another die's register at the leader, as the leader knows it. -/
def State.dieStaged (s : State) (d off : Nat) : Nat :=
  match SMap.find (SMap.get (fun _ => []) s.hdg.staged d) off with
  | some v => v
  | none => match SMap.find (SMap.get (fun _ => []) s.hdg.applied d) off with
    | some v => v
    | none => (resetWord off).toNat

/-- The applied word of another die's register at the leader, as the leader knows it. -/
def State.dieApplied (s : State) (d off : Nat) : Nat :=
  match SMap.find (SMap.get (fun _ => []) s.hdg.applied d) off with
  | some v => v
  | none => (resetWord off).toNat

/-- Is DRP_FORCE other than NONE at the leader or, as last applied there, at a follower (R476)? -/
def State.forcedAnywhere (s : State) : Bool :=
  s.fld DRP_FORCE.LEVEL != 0 ||
  s.followers.any (fun d => bitsOf (s.dieApplied d DRP_FORCE) DRP_FORCE.LEVEL.hi DRP_FORCE.LEVEL.lo != 0)

/-- Is an offset RAILn_INJ_CTRL? Its EN clears by itself at a die, so what the leader last applied there tells nothing of
what it holds (R221, R228). -/
def injCtrlOff (off : Nat) : Bool := (List.range 4).any (fun n => off == RAIL_INJ_CTRL n)

/-- A register of a die of the package in a commit: this die's from the overlay, another's as the leader knows it. -/
def State.pkgReg (s : State) (d off : Nat) : Nat := if d = s.dieId then s.reg off else s.dieStaged d off

/-- Package floor power, mW (R276): the sum over the participants of POOL_MAX[0] × 125 mA × VCORE[0]. -/
def State.floorPower (s : State) : Nat :=
  (s.participants.map (fun d =>
    bitsOf (s.pkgReg d (OPP_PT_B 0)) 30 16 * 125 * bitsOf (s.pkgReg d (OPP_PT_A 0)) 10 0)).sum / 1000

/-- BUD_CHECK (R276). -/
def State.checkBud (s : State) : Nat :=
  maskOf [
    s.rangeBad 0xA000 0xA050,
    decide (s.fld BUD_POOL.POOL < s.fld BUD_EMERG.EMERG),
    decide (s.fld BUD_SHARE.EMERG_Q < s.trickleFor (4 * s.fld ID_TOPOLOGY.CLUSTERS)),
    s.leader && (List.range 4).any (fun w => s.winOn w && decide (s.fld (BUD_WIN_LEN.LEN w) < 20) &&
      decide (s.reg (BUD_WIN_LIMIT w) < s.floorPower))]

/-- OPP_CHECK (R276). -/
def State.checkOpp (s : State) : Nat :=
  let n := s.fld OPP_CTRL.COUNT
  let volt := fun (f : Nat → Fld) => !notFalling (fun k => s.fld (f k)) n ||
    s.points.any (fun k => !decide (400 ≤ s.fld (f k) ∧ s.fld (f k) ≤ 1200))
  maskOf [
    !decide (1 ≤ n ∧ n ≤ 32) || !rising (fun k => (s.fld (OPP_PT_A.FREQ k) : Int)) n ||
      s.points.any (fun k => !decide (600 ≤ s.fld (OPP_PT_A.FREQ k) ∧ s.fld (OPP_PT_A.FREQ k) ≤ 2400)),
    volt OPP_PT_A.VCORE || volt OPP_PT_B.VCACHE,
    s.points.any (fun k => !decide (1 ≤ s.fld (OPP_PT_B.POOL_MAX k) ∧ s.fld (OPP_PT_B.POOL_MAX k) ≤ 16384)),
    decide (n ≤ s.fld OPP_CTRL.NOMINAL_TOP),
    s.rangeBad 0xC000 0x10000]

/-- Enabled SITE_NBR entries of a site break R309. -/
def State.nbrBad (s : State) (k : Nat) : Bool :=
  let xs := s.neighbours k
  xs.any (fun x => x == k || decide (95 < x)) || !decide xs.Nodup

/-- THM_CHECK (R309). -/
def State.checkThm (s : State) : Nat :=
  maskOf [
    s.rangeBad 0x8000 0x8100 || s.rangeBad 0x90000 0x92000,
    !decide (s.fld THM_THR.WARN < s.fld THM_THR.THROTTLE ∧ s.fld THM_THR.THROTTLE < s.fld THM_THR.SHUTDOWN ∧
      s.fld THM_THR.SHUTDOWN + 2 ≤ s.fld THM_OTP.ATRIP),
    (List.range 96).any s.nbrBad,
    !decide (s.fld THM_MEM_THR.REFRESH < s.fld THM_MEM_THR.THROTTLE ∧ s.fld THM_MEM_THR.THROTTLE < s.fld THM_MEM_THR.CRIT),
    decide (s.fld (OPP_PT_B.POOL_MAX 0) < s.fld THM_SAFE.SAFE_POOL) || decide (s.fld OPP_CTRL.COUNT ≤ s.fld THM_SAFE.SAFE_IDX),
    decide (95 < s.fld THM_CTRL.HEATH_SITE)]

/-- HDG_CHECK (R324, R339). -/
def State.checkHdg (s : State) : Nat :=
  let least := 4 * s.fld HDG_CTRL.RETRY + 200
  maskOf [
    s.rangeBad 0x30000 0x40000,
    !decide (least < 50 * s.fld HDG_CTRL.COMMIT_LEAD),
    decide (15 < s.fld STILE_CTRL.LEND_MAX)]

/-! ### Fabric (R344, R348, R371). Times in µs. -/

/-- W of R344. -/
def State.fabW (s : State) : Nat := (s.fld FAB_RTX.RETRIES + 1) * s.fld FAB_RTX.INTERVAL + s.fld FAB_RTX.MARGIN

/-- A group record's own faults (R348). -/
def State.groupBad (s : State) (g : Group) : Bool :=
  let nbrs := (if g.parent = 0xFFFF then [] else [g.parent]) ++ g.children
  decide (16 < g.children.length) || decide (4 < g.depth) || (g.parent == 0xFFFF) != (g.depth == 0)
    || !decide nbrs.Nodup || nbrs.contains (s.fld FAB_NODE.NODE_ID)
    || (bitsSet 8 g.dieMask).any (fun d => !s.participants.contains d)

/-- The lowest empty slot of 256. -/
def freeSlot (gs : SMap Group) : Option Nat := (List.range 256).find? (fun k => !SMap.has gs k)

/-- The slot that holds a group. -/
def slotOfGroup (gs : SMap Group) (id : Nat) : Option Nat := (gs.find? (fun p => p.2.id == id)).map (fun p => p.1)

/-- The group slots after the changes of a commit; a join that breaks R348 counts as a fault. -/
def State.groupsAfter (s : State) : List FabAct → SMap Group × Bool → SMap Group × Bool
  | [], p => p
  | .join g :: xs, p =>
    let bad := s.groupBad g || (slotOfGroup p.1 g.id).isSome
    match freeSlot p.1 with
    | some k => s.groupsAfter xs (SMap.enter p.1 k g, p.2 || bad)
    | none => s.groupsAfter xs (p.1, true)
  | .leave k :: xs, p => s.groupsAfter xs (SMap.drop p.1 k, p.2)
  | _ :: xs, p => s.groupsAfter xs p

/-- Does a neighbour of a group that stays joined equal NODE_ID (R348)? A commit that moves NODE_ID is judged by it. -/
def State.ownNeighbour (s : State) (gs : SMap Group) : Bool :=
  gs.any (fun p => (p.2.parent != 0xFFFF && p.2.parent == s.fld FAB_NODE.NODE_ID) || p.2.children.contains (s.fld FAB_NODE.NODE_ID))

/-- FAB_CHECK (R371): the agent's checks are the leader's, where its registers are in use; the range of every field is
checked at each die. -/
def State.checkFab (s : State) (acts : List FabAct) : Nat :=
  let w := s.fabW
  let hop := s.fld FAB_REL.HOP_WAIT
  maskOf [
    s.rangeBad 0x2C000 0x30000,
    s.flag FAB_CTRL.EN && decide (s.fld FAB_CTRL.UDP_PORT = 0 ∨ s.fld FAB_NODE.NODE_ID = 0xFFFF),
    !decide (2 * (s.fld FAB_RTX.RETRIES + 1) * s.fld FAB_RTX.INTERVAL + s.fld FAB_RTX.MARGIN < hop),
    !decide (s.fld FAB_REL.LEVELS * hop + s.fld FAB_REL.LEAD + w < 100 * s.fld FAB_REL_HOLD.HOLD),
    !decide (200 * s.fld FAB_PACE.REFRESH + 8 * w ≤ 100 * s.fld FAB_PACE.VALID) ||
      !decide (w < 10000 * s.fld FAB_DISC.DEAD * s.fld FAB_DISC.PERIOD),
    (s.groupsAfter acts (s.fab.groups, false)).2 || s.ownNeighbour (s.groupsAfter acts (s.fab.groups, false)).1]

/-! ### All checks -/

/-- The check registers, in the order of the region bits of R394. -/
def checkFlds : List Fld :=
  [ADM_CHECK.FAILED, DRP_CHECK.FAILED, RAIL_CHECK.FAILED 0, RAIL_CHECK.FAILED 1, RAIL_CHECK.FAILED 2, RAIL_CHECK.FAILED 3,
    EST_CHECK.FAILED, BUD_CHECK.FAILED, OPP_CHECK.FAILED, THM_CHECK.FAILED, HDG_CHECK.FAILED, FAB_CHECK.FAILED]

/-- The failing checks of an overlay, one mask per check register. -/
def State.checkAll (s old : State) (acts : List FabAct) (image : Bool) : List Nat :=
  [s.checkAdm, s.checkDrp old image, s.checkRail 0, s.checkRail 1, s.checkRail 2, s.checkRail 3, s.checkEst, s.checkBud, s.checkOpp,
    s.checkThm, s.checkHdg, if s.leader then s.checkFab acts else bnat (s.rangeBad 0x2C000 0x30000)]

/-- The region bits of failing checks (R394). -/
def regionsOf (ms : List Nat) : Nat := maskOf (ms.map (fun m => m != 0))

/-- Failing checks accumulate in their *_CHECK registers. -/
def State.noteChecks (s : State) (ms : List Nat) : State :=
  (checkFlds.zip ms).foldl (fun t p => t.setFld p.1 (t.fld p.1 ||| p.2)) s

end Sys2Proof.Machine
end

