-- ==== Sys2Proof/Machine/Commands.lean ====
section
/-! DEFINITION. Mailboxes, pickup, replies, notices, sessions and the management endpoint's requests (R372–R392,
R399–R406): everything about a command but what its opcode does. -/

namespace Sys2Proof.Machine

/-! ### Status codes (R386) -/

/-- OK. -/
abbrev stOk : Nat := 0x00
/-- OK_EMPTY. -/
abbrev stEmpty : Nat := 0x01
/-- DEFERRED. -/
abbrev stDeferred : Nat := 0x02
/-- INVALID. -/
abbrev stInvalid : Nat := 0x10
/-- DENIED. -/
abbrev stDenied : Nat := 0x11
/-- LOCKED. -/
abbrev stLocked : Nat := 0x12
/-- BUSY. -/
abbrev stBusy : Nat := 0x13
/-- NOT_FOUND. -/
abbrev stNotFound : Nat := 0x14
/-- CONFLICT. -/
abbrev stConflict : Nat := 0x15
/-- ABORTED. -/
abbrev stAborted : Nat := 0x16
/-- TIMEOUT. -/
abbrev stTimeout : Nat := 0x18
/-- STALE_EPOCH. -/
abbrev stStale : Nat := 0x19

/-! ### Opcodes (R393) -/

/-- An opcode: code, source classes allowed ([0] ADMIN, [1] PRIV, [2] TENANT, [3] MCTP), least parameter bytes. -/
def opcodes : List (Nat × Nat × Nat) := [
  (0x0001, 1, 16), (0x0002, 1, 0), (0x0003, 3, 0), (0x0004, 15, 8), (0x0101, 11, 8), (0x0102, 11, 0), (0x0103, 11, 0),
  (0x0104, 15, 8), (0x0201, 3, 32), (0x0202, 3, 4), (0x0203, 7, 336), (0x0204, 7, 336), (0x0301, 11, 8),
  (0x0302, 11, 8), (0x0401, 1, 48), (0x0402, 3, 48), (0x0403, 3, 4), (0x0404, 11, 16), (0x0501, 3, 8)] ++ [
  (0x0502, 7, 16), (0x0503, 3, 16), (0x0504, 7, 16), (0x0505, 3, 24), (0x0601, 9, 16), (0x0602, 9, 8), (0x0603, 11, 0),
  (0x0701, 9, 8), (0x0702, 9, 80), (0x0703, 9, 0), (0x0801, 11, 8), (0x0802, 9, 8), (0x0803, 1, 16), (0x0901, 1, 16),
  (0x0902, 3, 16)]

/-- What an opcode is, if it is one. -/
def opcodeOf (code : Nat) : Option (Nat × Nat) := (opcodes.find? (fun p => p.1 == code)).map (fun p => p.2)

/-! ### Commands in execution -/

/-- The management endpoint as a source. -/
abbrev srcMctp : Nat := 32

/-- The command of a source, if one is in execution. -/
def State.cmd (s : State) (m : Nat) : Option Active := SMap.find s.cmds m

/-- The state with a command replaced. -/
def State.setCmd (s : State) (m : Nat) (a : Active) : State := { s with cmds := SMap.enter s.cmds m a }

/-- The state without the command of a source. -/
def State.dropCmd (s : State) (m : Nat) : State := { s with cmds := SMap.drop s.cmds m }

/-- Source class (R391, R406): 0 ADMIN, 1 PRIV, 2 TENANT, 3 MCTP. -/
def State.classOf (s : State) (m : Nat) : Nat :=
  if m = srcMctp then 3 else if m = 0 then 0 else if s.flag (CMD_MB_CTX.EN m) then 2 else 1

/-- The tenant context of a source, none for any other class (R391). -/
def State.tenantOf (s : State) (m : Nat) : Option Nat :=
  if s.classOf m = 2 then some (s.fld (CMD_MB_CTX.CTX m)) else none

/-- Byte `k` of the parameters. -/
def pByte (ps : List Nat) (k : Nat) : Nat := listGet 0 ps k

/-- `n` bytes of the parameters from byte `k`, little-endian. -/
def pNum (ps : List Nat) (k n : Nat) : Nat := ofLeBytes ((ps.drop k).take n)

/-- The first byte that is not 0 among `n` from `k`, if any. -/
def pNonzero (ps : List Nat) (k n : Nat) : Option Nat := ((List.range n).find? (fun j => pByte ps (k + j) != 0)).map (fun j => k + j)

/-! ### Notices (R373, R377, R402) -/

/-- Reply notices queued for an outbound mailbox. -/
def State.replyQueue (s : State) (m : Nat) : List Notice := SMap.get (fun _ => []) s.ses.replies m

/-- A reply or reject notice is queued for its slot; outside ATTACHED it is held, or counted where the queue of 16 is
full (R377, R402). -/
def State.queueNotice (s : State) (m : Nat) (n : Notice) : State :=
  if s.sessionState = 1 then
    { s with ses := { s.ses with replies := SMap.put (fun _ => []) s.ses.replies m (s.replyQueue m ++ [n]) } }
  else
    let k := SMap.get (fun _ => 0) s.ses.heldReplies m
    if k + (s.replyQueue m).length < 16 then { s with ses := { s.ses with heldReplies := SMap.put (fun _ => 0) s.ses.heldReplies m (k + 1) } }
    else s.incSat CMD_STATUS.HELD_LOST

/-- A REJECT notice (R374): the command is over without a reply. -/
def State.reject (s : State) (m : Nat) (addr seq reason : Nat) (detach : Bool := false) : State :=
  let s1 := s.incSat CMD_ERR.REJECTS
  s1.queueNotice m { kind := 0x12, addr := addr, seq := seq, len := reason, hostEpoch := s.hostEpoch, detach := detach }

/-- A command in execution ends with a REJECT notice, which carries the mark of a DETACH executed before in its chain; one
whose host epoch has ended ends without a notice (R390, R400, R403). -/
def State.rejectCmd (s : State) (m : Nat) (a : Active) (reason : Nat) : State :=
  if a.mute then s.dropCmd m else (s.dropCmd m).reject m a.posted a.slotSeq reason a.detach

/-- NOTICE_POST: a waiting notice goes into its empty slot, replies before events (R377). -/
def State.postNotice (s : State) (m : Nat) : Option (Notice × State) :=
  match s.replyQueue m with
  | n :: rest => some (n, { s with ses := { s.ses with replies := SMap.put (fun _ => []) s.ses.replies m rest } })
  | [] =>
    if m = 0 then
      match s.ses.events with
      | n :: rest => some (n, { s with ses := { s.ses with events := rest } })
      | [] => none
    else none

/-- The words of a posted notice (R373). -/
def State.fillSlot (s : State) (m : Nat) (n : Notice) : State :=
  let w0 := n.addr / 64 * 64 % 2 ^ 32 + n.kind % 64
  let s1 := ((s.setReg (MB_OUT_W0L m) w0).setReg (MB_OUT_W0H m) (n.addr / 2 ^ 32 % 2 ^ 20)).setReg (MB_OUT_W1L m)
    (n.seq % 65536 * 65536 + n.len % 8192)
  (s1.setReg (MB_OUT_W1H m) (n.hostEpoch * 65536 + s.blockEpoch)).setReg MB_OUT_FULL (maskSet (s.reg MB_OUT_FULL) m)

/-! ### Sessions (R401–R403) -/

/-- A message to every follower that takes part in the package. -/
def State.sendAll (s : State) (p : Payload) : State := each s.followers (fun d t => t.send d 0 p) s

/-! ### Replies (R385) -/

/-- Is a status one that STOP_ON_ERR lets pass (R384)? -/
def goesOn (status : Nat) : Bool := status == stOk || status == stEmpty || status == stDeferred

/-- Will the chain go on after this packet: there is a next one that can be read (R382, R384, R402)? -/
def State.chains (s : State) (a : Active) (status : Nat) : Bool :=
  bitAt a.hdr.flags 0 && a.hdr.next != 0 && a.hdr.next % 64 == 0 && decide (a.hdr.next < 2 ^ 52) && decide (a.chainPos < 255) &&
  (!bitAt a.hdr.flags 1 || goesOn status) && s.sessionState == 1 && !a.mute

/-- The bytes of a reply. -/
def State.replyBytes (s : State) (a : Active) : List Nat :=
  let room := a.hdr.rlen - 32
  let res := a.result.take room
  let chained := bitAt a.hdr.flags 0 || a.chainPos != 0
  let flags := bnat chained + 2 * bnat (chained && !s.chains a a.status) + 4 * bnat (decide (room < a.result.length)) +
    8 * bnat (bitAt a.hdr.flags 0 && decide (255 ≤ a.chainPos))
  pack [(2, a.hdr.opcode), (1, a.status), (1, flags), (4, a.hdr.seq), (2, a.hdr.hostEpoch), (2, s.blockEpoch), (2, res.length),
    (2, a.detail), (8, a.t), (8, a.pickup)] ++ res

/-- CMD_COUNT and CMD_LAST of a completed command. -/
def State.countDone (s : State) (m : Nat) (a : Active) : State :=
  (((s.incSat (whole CMD_COUNT)).setFld CMD_LAST.OPCODE a.hdr.opcode).setFld CMD_LAST.MAILBOX m).setFld CMD_LAST.STATUS a.status

/-- The read of a packet's header line. -/
def State.readHeader (s : State) (m addr : Nat) : State :=
  s.memSend [{ wr := false, addr := addr, ctx := s.tenantOf m, job := .header m }]

/-- A command completes with an outcome: its reply is written, answered inline, or held (R385, R400, R402, R406). An
ATTACH that changed nothing lets the heartbeat timer go on from where it stood, or from a restart since (R401). -/
def State.finish (s : State) (m status detail t : Nat) (result : List Nat) : State :=
  match s.cmd m with
  | none => s
  | some a0 =>
    let a := { a0 with status := status, detail := detail, t := t, result := result }
    let s0 := if a.attach ∧ status ≠ stOk then { s with ses := { s.ses with hbAt := s.ses.hbAt + min (s.skyNs - a.pickup) (s.now - s.ses.hbAt) } } else s
    let s1 := s0.countDone m a
    if m = srcMctp then (s1.emit (.mctp (s1.replyBytes a))).dropCmd m
    else if a.mute then s1.dropCmd m
    else if s1.sessionState ≠ 1 then
      (s1.dropCmd m).queueNotice m { kind := 0x11, addr := a.hdr.reply, seq := a.hdr.seq % 65536, len := 0, hostEpoch := s.hostEpoch }
    else
      let xs := writeLines a.hdr.reply (s1.tenantOf m) (.reply m) (s1.replyBytes a)
      (s1.setCmd m { a with stage := 4, left := xs.length, failed := false }).memSend xs

/-- A command completes without a result. -/
def State.done (s : State) (m status : Nat) (detail : Nat := 0) : State := s.finish m status detail 0 []

/-- A command completes with OK and a result. -/
def State.doneWith (s : State) (m : Nat) (result : List Nat) : State := s.finish m stOk 0 0 result

/-- A command's results go to DEST first; its outcome waits for them (R385, R390). Outside ATTACHED nothing is written to host
memory (R402). -/
def State.finishAfter (s : State) (m : Nat) (xs : List MemTxn) (status : Nat) (result : List Nat) (bank : Bool := false) : State :=
  match s.cmd m with
  | none => s
  | some a =>
    if xs = [] ∨ s.sessionState ≠ 1 then s.finish m status 0 0 result
    else (s.setCmd m { a with stage := 3, left := xs.length, failed := false, status := status, result := result, bank := bank }).memSend xs

/-- Does a transaction write to host memory for a command or an event (R402)? -/
def MemTxn.held (x : MemTxn) : Bool :=
  x.wr && match x.job with
    | .reply _ | .result _ | .event | .fwd _ => true
    | _ => false

/-- The results of a command have been written, or not (R385, R390). -/
def State.resultsWritten (s : State) (m : Nat) (a : Active) : State :=
  if a.failed then ((s.setCmd m a).incSat CMD_ERR.MEM_ERR).finish m stAborted 0 a.t []
  else (s.setCmd m a).finish m a.status a.detail a.t a.result

/-- A write that has not been issued as the session becomes UNATTENDED (R402): a reply and a notice are held, an event is
held, a command whose results were on their way ends, its reply held. -/
def State.withdraw (s : State) (x : MemTxn) : State :=
  match x.job with
  | .event => { s with ses := { s.ses with
      writing := s.ses.writing.filter (fun e => e.addr != x.addr), heldEvents := s.ses.heldEvents + 1 } }
  | .reply m | .result m =>
    match s.cmd m with
    | none => s
    | some a0 =>
      let a := { a0 with left := a0.left - 1 }
      if 0 < a.left then s.setCmd m a
      else if a.stage = 3 then s.resultsWritten m a
      else if a.failed then (s.incSat CMD_ERR.MEM_ERR).rejectCmd m a 3
      else if a.mute ∨ (bitAt a.hdr.flags 2 = true ∧ (a.status = stOk ∨ a.status = stEmpty)) then s.dropCmd m
      else (s.dropCmd m).queueNotice m { kind := 0x11, addr := a.hdr.reply, seq := a.hdr.seq % 65536, len := 0, hostEpoch := s.hostEpoch }
  | _ => s

/-- Every write to host memory for a command or an event that has not been issued is withdrawn (R402). -/
def State.withdrawWrites (s : State) : State :=
  each (s.mem.queue.filter MemTxn.held) (fun x t => t.withdraw x)
    { s with mem := { s.mem with queue := s.mem.queue.filter (fun x => !x.held) } }

/-- Entry to UNATTENDED (R402): cause 1 HEARTBEAT, 2 DETACH. What still waits to be written to host memory for a command or an
event is not written: it is held. -/
def State.enterUnattended (s : State) (cause : Nat) : State :=
  let s1 := ((({ s with unattended := true, ses := { s.ses with hbOn := false } }).setFld CMD_SESSION.STATE 2).setFld
    CMD_SESSION.CAUSE cause).bell 2
  (((s1.withdrawWrites.levelOn srcCmdUnattended (syndrome 0 0 0)).pldmEvent 1 s.dieId 2).sendAll (.data (.session true))).noteReasons

/-- The reply has been written, or its write failed: the chain goes on, or the notice is queued (R384, R385, R390). -/
def State.replyWritten (s : State) (m : Nat) (a : Active) : State :=
  if a.failed then (s.incSat CMD_ERR.MEM_ERR).rejectCmd m a 3
  else if s.chains a a.status then
    (s.setCmd m { a with stage := 5, addr := a.hdr.next, chainPos := a.chainPos + 1, pickup := s.skyNs, buf := [], params := [] }).readHeader
      m a.hdr.next
  else
    let n : Notice := { kind := 0x11, addr := a.hdr.reply, seq := a.hdr.seq % 65536, len := min a.hdr.rlen (32 + a.result.length),
                        hostEpoch := s.hostEpoch, detach := a.detach }
    let quiet := bitAt a.hdr.flags 2 && decide (a.status = stOk ∨ a.status = stEmpty)
    let s1 := s.dropCmd m
    if a.mute then s1
    else if quiet then (if a.detach then s1.enterUnattended 2 else s1)
    else s1.queueNotice m n

/-! ### Headers (R382, R383, R392) -/

/-- A header from its 32 bytes. -/
def parseHeader (bs : List Nat) : PacketHdr :=
  { opcode := pNum bs 0 2, flags := pNum bs 2 2, seq := pNum bs 4 4, hostEpoch := pNum bs 8 2, plen := pNum bs 10 2,
    rlen := pNum bs 12 2, rsvd := pNum bs 14 2, reply := pNum bs 16 8, next := pNum bs 24 8 }

/-- The outcome a header has before its parameters matter (R376, R383, R392), none where the command goes on. -/
def State.judgeHeader (s : State) (m : Nat) (a : Active) : Option Nat :=
  let h := a.hdr
  if m ≠ srcMctp ∧ h.hostEpoch ≠ a.epoch then some stStale
  else if 8 ≤ h.flags ∨ h.rsvd ≠ 0 ∨ (bitAt h.flags 0 = true ∧ h.next = 0) ∨ h.next % 64 ≠ 0 ∨ 2 ^ 52 ≤ h.next
      ∨ (bitAt h.flags 0 = false ∧ h.next ≠ 0) ∨ 2 ^ 52 ≤ h.reply ∨ 4096 < h.rlen then some stInvalid
  else if a.attach ∧ h.opcode ≠ 1 then some stInvalid
  else match opcodeOf h.opcode with
    | none => some stInvalid
    | some (classes, need) =>
      if h.opcode = 1 ∧ a.attach = false then some stDenied
      else if !bitAt classes (s.classOf m) then some stDenied
      else if h.plen < need then some stInvalid
      else none

/-- Does the detail of an outcome name the header (R385)? -/
def headerDetail (status : Nat) : Nat := if status = stInvalid then 0xFFFF else 0

/-- Is a header invalid, so that it gets no reply (R383)? -/
def badHeader (a : Active) : Bool :=
  let h := a.hdr
  h.reply == 0 || h.reply % 64 != 0 || decide (h.rlen < 32) || decide (4064 < h.plen) ||
  (a.chainPos == 0 && decide (a.slotLen < 32 + h.plen))

/-- The parameters once every line is in: the packet's bytes after the header. -/
def gatherParams (a : Active) : List Nat :=
  let n := (32 + a.hdr.plen + 63) / 64
  (((List.range n).flatMap (fun k => SMap.get (fun _ => []) a.buf k)).drop 32).take a.hdr.plen

/-- The header line has come. -/
def State.headerRead (s : State) (m : Nat) (a0 : Active) (line : List Nat) : State :=
  let a := { a0 with hdr := parseHeader line, buf := [(0, line)] }
  if badHeader a then s.rejectCmd m a 2
  else
    let s1 := s.setCmd m a
    match s1.judgeHeader m a with
    | some st => s1.done m st (headerDetail st)
    | none =>
      let n := (32 + a.hdr.plen + 63) / 64 - 1
      if n = 0 then s1.setCmd m { a with stage := 1, params := gatherParams a }
      else (s1.setCmd m { a with stage := 0, left := n, failed := false }).memSend
        ((List.range n).map (fun k => { wr := false, addr := a.addr + 64 * (k + 1), ctx := s1.tenantOf m, job := .param m }))

/-! ### Answers of the memory port (R59–R62, R390) -/

/-- A line of a command has been answered. -/
def State.cmdLine (s : State) (m : Nat) (x : MemTxn) (ok : Bool) (data : List Nat) : State :=
  match s.cmd m with
  | none => s
  | some a =>
    match x.job with
    | .header _ =>
      if ok then s.headerRead m a data
      else (s.incSat CMD_ERR.MEM_ERR).rejectCmd m a 1
    | .param _ =>
      let a1 := { a with left := a.left - 1, failed := a.failed || !ok, buf := SMap.enter a.buf ((x.addr - a.addr) / 64) data }
      if 0 < a1.left then s.setCmd m a1
      else if a1.failed then ((s.setCmd m a1).incSat CMD_ERR.MEM_ERR).done m stAborted 0xFFFE
      else s.setCmd m { a1 with stage := 1, params := gatherParams a1 }
    | .result _ =>
      let a1 := { a with left := a.left - 1, failed := a.failed || !ok }
      if 0 < a1.left then s.setCmd m a1 else s.resultsWritten m a1
    | _ =>
      let a1 := { a with left := a.left - 1, failed := a.failed || !ok }
      if 0 < a1.left then s.setCmd m a1 else (s.setCmd m a1).replyWritten m a1

/-! ### Pickup (R376, R388) -/

/-- Does the steward's command engine run: its domain is clocked, it is out of reset, checked, not halted, not paused
(R15, R92, R106, R419, R424), its compartment not disabled (R409)? -/
def State.steward (s : State) : Bool :=
  s.leader && s.ready && s.ps.porst && s.flag HEATH_DOMAIN_STATUS.STEWARD_ON && !s.inReset && !s.ps.digestDue &&
  !s.flag HEATH_FW_STATUS.HALTED && !s.fw.paused && s.fld (HEATH_FW_COMP.STATE 1) != 3 && !s.halted 1

/-- Is inbound slot `m` ready to be picked up (R377, R402)? -/
def State.slotReady (s : State) (m : Nat) : Bool :=
  s.steward && bitAt (s.reg MB_IN_FULL) m && (s.cmd m).isNone && decide ((s.replyQueue m).length < 16) &&
  (s.sessionState == 1 || (m == 0 && s.fld (MB_IN_W0L.KIND 0) == 2))

/-- Can inbound slot `m` be picked up now: among the mailboxes that are ready it is the first (R388)? -/
def State.pickable (s : State) (m : Nat) : Bool := s.slotReady m && (List.range m).all (fun k => !s.slotReady k)

/-- COMMAND_PICKUP of a slot (R376): its bit clears and it is judged. -/
def State.pickup (s : State) (m : Nat) : State :=
  let kind := s.fld (MB_IN_W0L.KIND m)
  let epoch := s.fld (MB_IN_W1H.HOST_EPOCH m)
  let addr := s.fld (MB_IN_W0L.ADDR_LO m) * 64 + s.fld (MB_IN_W0H.ADDR_HI m) * 2 ^ 32
  let seq := s.fld (MB_IN_W1L.SEQ m)
  let s1 := s.setReg MB_IN_FULL (maskClear (s.reg MB_IN_FULL) m)
  let s2 := if s1.sessionState = 1 ∧ s1.classOf m < 2 then { s1 with ses := { s1.ses with hbAt := s1.now } } else s1
  let go (attach : Bool) : State :=
    (s2.setCmd m { epoch := epoch, addr := addr, pickup := s2.skyNs, slotLen := s.fld (MB_IN_W1L.LEN m), slotSeq := seq,
                   posted := addr, attach := attach, stage := 5 }).readHeader m addr
  if kind = 1 then
    if epoch = 0 ∨ epoch ≠ s.hostEpoch then s2.incSat CMD_ERR.STALE else go false
  else if kind = 2 ∧ m = 0 then go true
  else (s2.incSat CMD_ERR.BAD_KIND).reject m addr seq 4

/-! ### The management endpoint (R406) -/

/-- Does the endpoint answer: the steward of the leader runs and its MCTP compartment is not disabled (R406, R409)? -/
def State.endpointUp (s : State) : Bool :=
  s.leader && s.ps.porst && s.canWake && !s.inReset && !s.ps.digestDue && !s.flag HEATH_FW_STATUS.HALTED && !s.fw.paused &&
  s.fw.running && s.fld (HEATH_FW_COMP.STATE 6) != 3 && !s.halted 1

/-- A vendor-defined request in its turn is judged, and executes (R406): reply, next and length, then as any header. -/
def State.mctpJudge (s : State) (a : Active) : State :=
  let h := a.hdr
  let s1 := s.setCmd srcMctp { a with stage := 1 }
  if 992 < a.slotLen ∨ a.slotLen < h.plen ∨ h.reply ≠ 0 ∨ h.next ≠ 0 ∨ h.rlen < 32 then s1.done srcMctp stInvalid 0xFFFF
  else match s1.judgeHeader srcMctp a with
    | some st => s1.done srcMctp st (headerDetail st)
    | none => s1

/-- A vendor-defined request that waits takes its turn once no mailbox is ready (R388, R406). -/
def State.takeTurn (s : State) : State :=
  match s.cmd srcMctp with
  | some a => if a.stage = 6 ∧ (List.range 32).all (fun m => !s.slotReady m) then s.mctpJudge a else s
  | none => s

/-- A vendor-defined request arrives: refused while one is executing, else it waits for its turn, the domains that it needs
running (R17, R406). -/
def State.mctpRequest (s : State) (bs : List Nat) : State :=
  if !s.endpointUp then s
  else if (s.cmd srcMctp).isSome then s.emit (.answer .busy [])
  else
    let h := parseHeader bs
    let a : Active := { hdr := h, pickup := s.skyNs, slotLen := bs.length - 32, params := (bs.drop 32).take h.plen, stage := 6 }
    ((s.startCore.startSteward.lingerFrom true).setCmd srcMctp a).takeTurn

/-! ### Executing an opcode -/

/-- The command of source `m` if it is ready to execute opcode `op`, and the steward that executes it is clocked (R15). -/
def State.ready_ (s : State) (m op : Nat) : Option Active :=
  match s.cmd m with
  | some a => if a.stage = 1 ∧ a.hdr.opcode = op ∧ s.flag HEATH_DOMAIN_STATUS.STEWARD_ON = true then some a else none
  | none => none

/-- An opcode executes: `f` has the command and its parameters. Nothing happens where the source has no such command
ready. -/
def State.runOp (s : State) (m op : Nat) (f : Active → List Nat → State) : State :=
  match s.ready_ m op with
  | some a => f a a.params
  | none => s

/-- INVALID with the byte offset of the first faulty parameter. -/
def State.invalid (s : State) (m byte : Nat) : State := s.done m stInvalid byte

/-- A command waits for a commit, a follower or the firmware. -/
def State.waits (s : State) (m : Nat) (a : Active) : State := s.setCmd m { a with stage := 2 }

end Sys2Proof.Machine
end

