-- ==== Sys2Proof/Machine/Observe.lean ====
section
/-! DEFINITION. The observation unit and the agents' intervals (chapter 15; R70, R90, R231, R232): interval closes,
cl_run, sleeping halves, rings and their trigger, the snapshot bank, watch windows, streaming. -/

namespace Sys2Proof.Machine

/-! ### The counters part of an agent window (R431) -/

/-- A 64-bit value as the words of a register pair. -/
def pairAt (off v : Nat) : List (Nat × Nat) := [(off, v % 2 ^ 32), (off + 4, v / 2 ^ 32 % 2 ^ 32)]

/-- What the counter registers of a cluster hold. -/
def State.counterWords (s : State) (c : Nat) : List (Nat × Nat) :=
  let k := (s.agent c).cnt
  let r := s.ringOf c
  pairAt (AGT_SLOT_RET c 0) k.ret ++ pairAt (AGT_SLOT_WASTED c 0) k.wasted ++ pairAt (AGT_SLOT_FRONT c 0) k.front ++
  pairAt (AGT_SLOT_BACK c 0) k.back ++ pairAt (AGT_UTIL c 0) k.util ++ pairAt (AGT_NOMINAL c 0) k.nominal ++
  [(AGT_STRETCH c, k.stretch), (AGT_DRP_ENTRIES c, k.mild + 1024 * k.deep + 1048576 * k.severe), (AGT_WAITS c, k.waits),
   (AGT_WAIT_NS c, k.waitNs / 16), (AGT_WAIT_MAX c, k.waitMax),
   (AGT_ERR c, k.badClass + 2 ^ 8 * k.actSat + 2 ^ 16 * k.stuckCnt + 2 ^ 24 * k.revokes)] ++
  (List.range 16).map (fun j => (AGT_THR c j, SMap.get (fun _ => 0) k.thr j / 16)) ++
  [(AGT_RING_HEAD c, r.wraps * 65536 + r.next)]

/-- What the droop and activity registers of a cluster hold at an interval close. -/
def State.intervalWords (s : State) (c : Nat) (shown : List Nat) : List (Nat × Nat) :=
  let a := s.agent c
  let k := a.det
  let f := s.forcedLevel c
  let status := k.trim * 2 ^ 24 + bnat (bitAt k.valid k.point) * 2 ^ 23 + bnat k.stale * 2 ^ 22 + bnat k.stuck * 2 ^ 21 +
    k.lvl * 2 ^ 16 + k.maxD * 2 ^ 14 + f * 2 ^ 12 + k.mean * 2 ^ 6 + k.minCode
  [(AGT_DRP_STATUS c, status), (AGT_DRP_TVALID c, k.valid),
   (AGT_ACT_STATUS c, 2 * bnat a.closedSat + bnat a.closedPartial)] ++
  (List.range 8).map (fun j => (AGT_DRP_TRIM c j, ((List.range 4).map (fun b =>
    SMap.get (fun _ => 0x80) k.trims (4 * j + b) * 2 ^ (8 * b))).sum)) ++
  (List.range 6).map (fun j => (AGT_ACT c j, listGet 0 shown (2 * j) + 65536 * listGet 0 shown (2 * j + 1)))

/-- Registers take the values listed. -/
def State.setRegs (s : State) (xs : List (Nat × Nat)) : State := each xs (fun p t => t.setReg p.1 p.2) s

/-! ### Sums (R433) -/

/-- Sum of a 64-bit counter over the clusters. -/
def State.sum64 (s : State) (f : Nat → Nat) : Nat := (s.clusters.map (fun c => s.reg64 (f c))).sum

/-- Byte `b` of the sums of AGT_ERR. -/
def State.sumErr (s : State) (b : Nat) : Nat := (s.clusters.map (fun c => s.reg (AGT_ERR c) / 2 ^ (8 * b) % 256)).sum % 256 * 2 ^ (8 * b)

/-- The six sums of this die that OBS_PKG_ adds up. -/
def State.dieSums (s : State) : List Nat :=
  [s.sum64 (fun c => AGT_SLOT_RET c 0), s.sum64 (fun c => AGT_SLOT_WASTED c 0), s.sum64 (fun c => AGT_SLOT_FRONT c 0),
   s.sum64 (fun c => AGT_SLOT_BACK c 0), s.sum64 (fun c => AGT_UTIL c 0), s.sum64 (fun c => AGT_NOMINAL c 0)]

/-- OBS_PKG_ at the leader: this die's sums and what every other die has told last. -/
def State.pkgSums (s : State) : State :=
  if s.leader then
    each (List.range 6) (fun j t =>
      let v := t.reg64 (OBS_DIE_RET 0 + 8 * j) + (t.obs.pkg.map (fun p => listGet 0 p.2 j)).sum
      t.setReg64 (OBS_PKG_RET 0 + 8 * j) v) s
  else s

/-- The die's sums are brought up to date from the agents' shadows. -/
def State.refreshDieSums (s : State) : State :=
  let s1 := s.dieSums.zipIdx.foldl (fun t p => t.setReg64 (OBS_DIE_RET 0 + 8 * p.2) p.1) s
  let s2 := s1.setReg OBS_DIE_WAITS (s1.clusters.map (fun c => s1.reg (AGT_WAITS c))).sum
  let s3 := s2.setReg OBS_DIE_WAIT_MAX ((s2.clusters.map (fun c => s2.reg (AGT_WAIT_MAX c))).foldl max 0)
  s3.setReg OBS_DIE_ERR (s3.sumErr 0 + s3.sumErr 1 + s3.sumErr 2 + s3.sumErr 3)

/-- The sums are brought up to date from the agents' shadows, at the leader the package's too. -/
def State.refreshSums (s : State) : State := s.refreshDieSums.pkgSums

/-! ### Interval closes (R231, R232, R436) -/

/-- The acknowledged opp_freq, MHz (R268). -/
def State.ackFreq (s : State) : Nat := if s.lim.req then s.fld (OPP_PT_A.FREQ (s.fld OPP_STATUS.F_IDX)) else s.lim.freq

/-- The BACK_STARVED slots that lost frequency adds for `n` classified slots (R436). -/
def lostSlots (n top f : Nat) : Nat := if f = 0 then 0 else (2 * n * (top - f) + f) / (2 * f)

/-- Two lists of 12 counts added, each saturating at 16 bits. -/
def addCounts (a b : List Nat) : List Nat := (List.range 12).map (fun k => min 65535 (listGet 0 a k + listGet 0 b k))

/-- An agent closes its interval, early where cl_run falls; its shadows and the sums follow (R57, R231, R232, R436). The
counts of a partial interval go with the next report, which may be that of a later whole interval; a whole interval takes the
place of one that the estimator, in reset, has not taken. -/
def State.closeInterval (s : State) (c : Nat) (counts : List Nat) (early : Bool) : State :=
  let a := s.agent c
  let sat := counts.any (fun x => decide (65535 < x))
  let all := addCounts a.early counts
  let extra := lostSlots a.cnt.slots (s.fld (OPP_PT_A.FREQ s.topPoint)) s.ackFreq
  let k0 := ({ a.cnt with back := (a.cnt.back + extra) % 2 ^ 64, slots := 0 }).lost (s.fld BUD_RSN_ACTIVE.ACTIVE) extra
  let k := if sat then { k0 with actSat := (k0.actSat + 1) % 256 } else k0
  let s1 := s.setAgent c { a with
    cnt := k, closedSat := sat, closedPartial := early, closed := if early then a.closed else all,
    fresh := a.fresh || !early, early := if early then all else [] }
  let s2 := s1.setRegs (s1.counterWords c ++ s1.intervalWords c all)
  let a2 := s2.agent c
  ((s2.setAgent c { a2 with det := { a2.det with minCode := 63, maxD := 0 } }).shadow c).refreshSums

/-- The words that edges count at the die: the entries of each level and the events of each reason (R180, R274). -/
def edgeWords : List Nat := [DRP_CNT_MILD, DRP_CNT_DEEP, DRP_CNT_SEVERE] ++ (List.range 16).map (fun k => BUD_RSN_CNT k)

/-- The snapshot bank takes what edges up to T have counted at a cluster (R446): its counters but those of waits, which ended
when they ended, the die's sums of them and at the leader the package's, and what the die's own counters have gained since
`old`. -/
def State.bankAgent (s old : State) (c : Nat) : State :=
  let keep (p : Nat × Nat) : Bool := decide (p.1 ∉ [AGT_WAITS c, AGT_WAIT_NS c, AGT_WAIT_MAX c, AGT_RING_HEAD c, AGT_ERR c])
  let b : State := { s with regs := s.obs.bank }
  let b1 := b.setRegs ((s.counterWords c).filter keep)
  let b2 := b1.setReg (AGT_ERR c) (withBits (b1.reg (AGT_ERR c)) 15 0 ((s.agent c).cnt.badClass + 256 * (s.agent c).cnt.actSat))
  let b3 := b2.setRegs (edgeWords.map (fun o => (o, min 0xFFFFFFFF (b2.reg o + (s.reg o - old.reg o)))))
  let b4 := b3.refreshDieSums
  let b5 := if s.leader then
      each (List.range 6) (fun j t => t.setReg64 (OBS_PKG_RET 0 + 8 * j)
        (t.reg64 (OBS_PKG_RET 0 + 8 * j) + (b4.reg64 (OBS_DIE_RET 0 + 8 * j) + 2 ^ 64 - b3.reg64 (OBS_DIE_RET 0 + 8 * j)) % 2 ^ 64)) b4
    else b4
  { s with obs := { s.obs with bank := b5.regs } }

/-- Has a snapshot that is not yet complete a T at or after Skylark time `t` (R446)? -/
def State.bankTakes (s : State) (t : Nat) : Bool := s.obs.snapAt.isSome && decide (t ≤ s.reg64 (OBS_SNAP_T 0))

/-- The edges of an interval of a cluster that ends at Skylark time `t`. The bank of a snapshot that is not yet complete takes
those up to its T: all of an interval that ends by then; where T falls within the interval they stand evenly in it, a choice
(R446, log 177). -/
def State.intervalEdges (s : State) (c edges code t : Nat) : State :=
  let from_ := (s.agent c).closeAt
  let at_ := s.reg64 (OBS_SNAP_T 0)
  if s.bankTakes from_ then
    let n := if t ≤ at_ then edges else edges * (at_ - from_) / (t - from_)
    State.edges (edges - n) ((State.edges n s c code).bankAgent s c) c code
  else State.edges edges s c code

/-- ACTIVITY_INTERVAL_CLOSE: the edges of the interval at one droop code, the boundary, the close. The agent of a
stopped cluster reports nothing. -/
def State.intervalClose (s : State) (c edges code : Nat) (counts : List Nat) : State :=
  if !s.present c || !(s.agent c).run then s
  else
    let t := max (ceilMult s.skyNs 1000) ((s.agent c).closeAt + 1000)
    let s2 := (s.intervalEdges c edges code t).advanceSky t
    let s3 := s2.setAgent c { s2.agent c with closeAt := s2.skyNs / 1000 * 1000 }
    let s4 := s3.closeInterval c counts false
    if s4.bankTakes t then s4.bankAgent s4 c else s4

/-! ### cl_run and sleeping halves (R70, R90, R314, R315) -/

/-- The register bit of half_off_ack. -/
def ackBit (h : Nat) : Fld := if h = 0 then STILE_STATUS.ASLEEP_N else STILE_STATUS.ASLEEP_S

/-- The populated clusters of a half. -/
def State.halfClusters (s : State) (h : Nat) : List Nat := s.clusters.filter (fun c => halfOf c == h)

/-- half_off_ack rises once half_off_req is high and no agent of the half runs (R90); the positions that the half's stripes
would take next in a running wave open at once (R137). -/
def State.halfAck (s : State) (h : Nat) : State :=
  if bitAt s.halfReq h && (s.halfClusters h).all (fun c => !(s.agent c).run) then
    let s1 := s.setFlag (ackBit h) true
    if s1.arb.wave then State.skipAsleep 16 s1 else s1
  else s

/-- half_off_ack falls once half_off_req is low and every populated agent reports its clock live (R90). -/
def State.halfAckFalls (s : State) (h : Nat) : State :=
  if !bitAt s.halfReq h && (s.halfClusters h).all (fun c => (s.agent c).clkLive) then s.setFlag (ackBit h) false else s

/-- Every grant of a cluster is released: its ring says so (R70, R440). -/
def State.logReleases (s : State) (c : Nat) : State :=
  each (List.range 4) (fun e t =>
    let g := ((t.agent c).engine e).grant
    if 0 < g then t.logAgent c 0x02 (classData e g 0) else t) s

/-- CL_RUN_FALL: waits end, the partial interval closes, grants and stores return (R70, R232, R432). -/
def State.runFall (s : State) (c : Nat) (counts : List Nat) : State :=
  if !s.present c || !(s.agent c).run then s
  else
    let s1 := each (List.range 4) (fun e t => t.endWait c e true true) s
    let s2 := (s1.logReleases c).dropGrants c true
    let s3 := { s2 with arb := { s2.arb with slots := s2.arb.slots.filter (fun x => x.cluster != c) } }
    let a := s3.agent c
    let s4 := s3.setAgent c { a with det := { a.det with d := 0, severeSince := none, cal := none } }
    let s5 := s4.closeInterval c counts true
    let s6 := (s5.setAgent c { s5.agent c with run := false, clkLive := false }).logAgent c 0x06 (dataBytes [0])
    (((s6.shadowNow c).checkWaveEnd).halfAck (halfOf c)).noteReasons

/-- CL_RUN_RISE: the cluster runs; a fast calibration starts where its point has no valid trim (R70, R166). -/
def State.runRise (s : State) (c : Nat) : State :=
  if !s.present c || (s.agent c).run then s
  else
    let s0 := { s with rings := { s.rings with agent := SMap.put (fun _ => {}) s.rings.agent c { s.ringOf c with gap := true } } }
    let s1 := (s0.setAgent c { s.agent c with
      run := true, ran := true, clkLive := true, idleSince := some s.now, det := { (s.agent c).det with roundAt := s.now } }).logAgent c 0x06 (dataBytes [1])
    ((s1.startCal c).shadow c).noteReasons

/-- HALF_OFF_REQUEST: the half's stripes pause, pockets and held quanta return (R90). -/
def State.halfOff (s : State) (h : Nat) : State :=
  let s1 := { s with halfReq := maskSet s.halfReq h }
  let s2 := each (s1.halfClusters h) (fun c t =>
    (t.setAgent c { t.agent c with held := [], pocket := 0, reclaim := false }).shadow c) s1
  s2.halfAck h

/-- HALF_RESTART: half_off_req falls (R90). -/
def State.halfRestart (s : State) (h : Nat) : State := ({ s with halfReq := maskClear s.halfReq h }).halfAckFalls h

/-! ### The Stile's queues (R316) -/

/-- Messages that wait toward a half. -/
def State.stileCount (s : State) (h : Nat) : Nat := if h = 0 then s.hdg.stileN else s.hdg.stileS

/-- The number of waiting messages put to a value. -/
def State.setStile (s : State) (h n : Nat) : State :=
  if h = 0 then { s with hdg := { s.hdg with stileN := n } } else { s with hdg := { s.hdg with stileS := n } }

/-- The register bit that says a queue waits. -/
def stileWake (h : Nat) : Fld := if h = 0 then STILE_STATUS.WAKE_N else STILE_STATUS.WAKE_S

/-- STILE_MESSAGE: a message to an agent enters the queue of the agent's half; it passes at once while the half runs and
waits while it sleeps. One that finds the 64 entries taken is not dropped: it waits at its sender, and follows in its
turn (the count goes on past 64). -/
def State.stileMessage (s : State) (h : Nat) : State :=
  if s.inReset || !s.ps.porst then s
  else if !s.asleep h && s.stileCount h == 0 then s.emit (.stile h)
  else
    let s1 := s.setStile h (s.stileCount h + 1)
    if 64 ≤ s.stileCount h then (s1.incSat STILE_CNT.FULL).ringEvent 8
    else (s1.setFlag (stileWake h) true).bell 4

/-- Must a message to the agents of a half wait: the half sleeps, or others wait before it (R316)? -/
def State.stileHolds (s : State) (h : Nat) : Bool := s.asleep h || s.stileCount h != 0

/-- A message of the block's own enters the queue of a half, to act on its agents when the queue drains (R316). -/
def State.stileWait (s : State) (h : Nat) (m : StileMsg) : State :=
  ({ s with hdg := { s.hdg with stileQ := s.hdg.stileQ ++ [(h, m)] } }).stileMessage h

/-! ### Rings and trigger (R438–R443) -/

/-- The agents' rings are told to arm, a sleeping half's by its Stile queue (R316): one message to a half (log 176). Until
it is delivered those agents take no trigger (`State.takesTrigger`). -/
def State.armAgents (s : State) : State := each [0, 1] (fun h t => if t.stileHolds h then t.stileWait h .arm else t) s

/-- ARM: in IDLE or ARMED only (R443). -/
def State.ringArm (s : State) : State :=
  if s.fld RING_STATUS.STATE < 2 then
    (if bitAt (s.fld RING_TRIG_UNITS.UNITS) 0 then s.armAgents else s).setFld RING_STATUS.STATE 1
  else s

/-- FORCE: trigger source 9, armed or not (R441). -/
def State.ringForce (s : State) : State := s.fireTrigger 9 (s.fld RING_TRIG.POST)

/-- A ring records again. -/
def Ring.thaw (r : Ring) : Ring := { r with frozen := false, post := none }

/-- Every ring but the agents' records again. -/
def Rings.thaw (r : Rings) : Rings :=
  { r with arb := r.arb.thaw, rail := r.rail.map (fun p => (p.1, p.2.thaw)), samp := r.samp.thaw }

/-- The agent rings of a half record again. -/
def State.thawHalf (s : State) (h : Nat) : State :=
  { s with rings := { s.rings with agent := s.rings.agent.map (fun p => if halfOf p.1 = h then (p.1, p.2.thaw) else p) } }

/-- The agents' rings are told to record again, a sleeping half's by its Stile queue (R316, R443). -/
def State.thawAgents (s : State) : State :=
  each [0, 1] (fun h t => if t.stileHolds h then t.stileWait h .resume else t.thawHalf h) s

/-- The agents are told the sampling rate, those of a sleeping half by its Stile queue (R316, R445). -/
def State.tellTags (s : State) (shift : Nat) : State :=
  each [0, 1] (fun h t =>
    if t.stileHolds h then t.stileWait h (.tags shift) else { t with rings := { t.rings with shift := listSet t.rings.shift h shift } }) s

/-- RESUME: rings unfreeze, LATE clears, the trigger is IDLE (R443). -/
def State.ringResume (s : State) : State :=
  (({ s with rings := s.rings.thaw }).thawAgents.setFld RING_STATUS.LATE 0).setFld RING_STATUS.STATE 0

/-- RING_POST_TIMEOUT: rings that still record post entries freeze (R442). -/
def State.ringTimeout (s : State) : State :=
  if s.fld RING_STATUS.STATE = 2 then
    let s1 := s.advanceTo (s.rings.trigAt + 1000 * s.fld RING_TRIG_UNITS.POST_MAX)
    let stop (r : Ring) : Ring := if r.post.isSome then { r with frozen := true } else r
    let all (m : SMap Ring) : SMap Ring := m.map (fun p => (p.1, stop p.2))
    let r := s1.rings
    ({ s1 with rings := { r with agent := all r.agent, arb := stop r.arb, rail := all r.rail, samp := stop r.samp } }).setFld
      RING_STATUS.STATE 3
  else s

/-- A ring without its entries; its freeze stays. -/
def Ring.clear (r : Ring) : Ring := { r with entries := [], next := 0, wraps := 0 }

/-- The agent rings of a half are cleared. -/
def State.clearHalf (s : State) (h : Nat) : State :=
  { s with rings := { s.rings with agent := s.rings.agent.map (fun p => if halfOf p.1 = h then (p.1, p.2.clear) else p) } }

/-- The agents' rings are told to clear, a sleeping half's by its Stile queue (R316, R438). -/
def State.clearAgents (s : State) : State :=
  each [0, 1] (fun h t => if t.stileHolds h then t.stileWait h .clear else t.clearHalf h) s

/-- A change of RING_LEN or RING_SAMP clears the rings of the kinds whose length changed (R438); a new RATE_SHIFT goes to the
agents (R316). `old` and `new` are words
of RING_LEN (0x28000) or RING_SAMP (0x28004). -/
def State.ringLengths (s : State) (off old new : Nat) : State :=
  let r := s.rings
  if off = RING_LEN then
    let d (f : Fld) : Bool := bitsOf old f.hi f.lo != bitsOf new f.hi f.lo
    let all (m : SMap Ring) : SMap Ring := m.map (fun p => (p.1, p.2.clear))
    let s1 : State := { s with rings := { r with arb := if d RING_LEN.ARB then r.arb.clear else r.arb
                                                 rail := if d RING_LEN.RAIL then all r.rail else r.rail } }
    if d RING_LEN.AGT then s1.clearAgents else s1
  else
    let s1 : State := if bitsOf old 28 16 ≠ bitsOf new 28 16 then { s with rings := { r with samp := r.samp.clear } } else s
    if bitsOf old 4 0 ≠ bitsOf new 4 0 then s1.tellTags (bitsOf new 4 0) else s1

/-- Every ring's next entry, and the next log record, carries GAP: after a block reset, a Skylark step or a resync (R368). -/
def State.gapAll (s : State) : State :=
  let g (r : Ring) : Ring := { r with gap := true }
  let r := s.rings
  { s with sky := { s.sky with gap := true, logGap := true }
           rings := { r with agent := s.clusters.foldl (fun m c => SMap.put (fun _ => {}) m c (g (SMap.get (fun _ => {}) m c))) r.agent
                             arb := g r.arb, samp := g r.samp
                             rail := [0, 1, 2, 3].foldl (fun m n => SMap.put (fun _ => {}) m n (g (SMap.get (fun _ => {}) m n))) r.rail } }

/-- An entry in every recording ring of the die (BLOCK_RESET, R440); a region whose clock stands still stamps nothing
(R368). -/
def State.logAll (s : State) (type data : Nat) : State :=
  let s1 := each (s.clusters.filter (fun c => (s.agent c).run)) (fun c t => t.logAgent c type data) s
  let s2 := (s1.logArb type data)
  (each (List.range 4) (fun n t => t.logRail n type data) s2).logSample (s2.entry s2.rings.samp corePs type data)

/-! ### Snapshots (R446–R448) -/

/-- Does the snapshot bank hold a copy of the word at this offset (R446)? -/
def bankHolds (leader : Bool) (off : Nat) : Bool :=
  decide (OBS_DIE_RET 0 ≤ off ∧ off < OBS_PKG_RET 0) ||
  decide (0x40000 ≤ off ∧ off < 0x90000 ∧ 0x300 ≤ off % 0x400) ||
  decide (BUD_RSN_CNT 0 ≤ off ∧ off < BUD_RSN_CNT 16) || decide (BUD_RSN_NS 0 ≤ off ∧ off < BUD_RSN_NS 32) ||
  decide (DRP_CNT_MILD ≤ off ∧ off ≤ DRP_FREEZES) || (List.range 4).any (fun n => off == RAIL_EVENTS n) ||
  decide (EST_DIE_E 0 ≤ off ∧ off < EST_DIE_E 0 + 8) || decide (EST_UNATTR_E 0 ≤ off ∧ off < EST_UNATTR_E 0 + 8) ||
  decide (EST_CTX_E 0 ≤ off ∧ off < EST_CTX_E 0 + 8192) ||
  (leader && (decide (OBS_PKG_RET 0 ≤ off ∧ off < OBS_PKG_RET 0 + 48) || decide (EST_PKG_E 0 ≤ off ∧ off < EST_PKG_E 0 + 8) ||
    decide (OBS_WATCH_B_LO 0 ≤ off ∧ off < OBS_WATCH_B_LO 16)))

/-- The counters as they stand, in the registers that show them. -/
def State.countersNow (s : State) : State :=
  (each s.clusters (fun c t => t.setRegs (t.counterWords c)) s.accrueReasons).refreshSums

/-- Registers that pass `p` enter the bank of a snapshot whose T is not before the end of the estimator's interval that they
have just been brought up to: they come late, but are stamped at or before T (R446). -/
def State.bankLate (s : State) (p : Nat → Bool) : State :=
  if s.bankTakes (s.skyNs / 1000 * 1000) then
    let new := s.regs.filter (fun q => p q.1 && bankHolds s.leader q.1)
    let old := s.obs.bank.filter (fun q => !p q.1)
    { s with obs := { s.obs with bank := each new (fun q m => SMap.enter m q.1 q.2) old } }
  else s

/-- The bank's package sums follow what another die has told of an interval that ended at or before T (R433, R446). -/
def State.bankPkg (s : State) : State :=
  if s.bankTakes (s.skyNs / 1000 * 1000) then
    let b : State := { s with regs := s.obs.bank }
    { s with obs := { s.obs with bank := b.pkgSums.regs } }
  else s

/-- A register of the energy counters (R249). -/
def energyOff (off : Nat) : Bool :=
  decide (EST_DIE_E 0 ≤ off ∧ off < EST_DIE_E 0 + 8) || decide (EST_UNATTR_E 0 ≤ off ∧ off < EST_UNATTR_E 0 + 8) ||
  decide (EST_CTX_E 0 ≤ off ∧ off < EST_CTX_E 0 + 8192) || decide (EST_PKG_E 0 ≤ off ∧ off < EST_PKG_E 0 + 8)

/-- The bank's copies stop at the snapshot's T, Skylark time `at_`; the longest waits start again; the rings may freeze (R446,
R448). -/
def State.snapFreeze (s : State) (id at_ : Nat) (rings : Bool) : State :=
  let s0 := s.accrueReasons
  let now := s0.countersNow
  let s1 := { s0 with obs := { s0.obs with snapAt := some s0.now
                                           bank := now.regs.filter (fun p => bankHolds s0.leader p.1) } }
  let s2 := each (s1.agents.map (fun p => p.1)) (fun c t =>
    let a := t.agent c
    t.setAgent c { a with cnt := { a.cnt with waitMax := 0 } }) s1
  let s3 := (((s2.setFld OBS_SNAP_STATUS.SNAP_ID id).setFlag OBS_SNAP_STATUS.RINGS rings).setFld OBS_SNAP_STATUS.STATE 1).setReg64
    (OBS_SNAP_T 0) at_
  if rings then s3.fireTrigger 10 0 else s3

/-- SNAPSHOT_COMPLETE: the bank is complete at T + 2 µs (R446). -/
def State.snapComplete (s : State) : State :=
  match s.obs.snapAt with
  | some t =>
    let s1 := s.advanceTo (t + 2000)
    ({ s1 with obs := { s1.obs with snapAt := none } }).setFld OBS_SNAP_STATUS.STATE 2
  | none => s

/-- Is a snapshot pending or prepared (R447)? -/
def State.snapOpen (s : State) : Bool :=
  s.obs.snapAt.isSome || (match s.hdg.prepared with
    | some p => (match p.act with | some (.snapshot _ _) => true | _ => false)
    | none => false)

/-- A reset aborts a snapshot that is pending or prepared (R447). -/
def State.snapAbort (s : State) : State :=
  if s.snapOpen then
    ({ s with obs := { s.obs with snapAt := none } }).setFld OBS_SNAP_STATUS.STATE 3
  else s

/-! ### READ_COUNTERS (R454) -/

/-- A word of the bank (`source` 0) or a live word. -/
def State.counterWord (s : State) (source off : Nat) : Nat :=
  if source = 0 then (SMap.get (fun _ => 0) s.obs.bank off).toNat else s.reg off

/-- The words of a run of registers as bytes. -/
def State.counterBytes (s : State) (source base words : Nat) : List Nat :=
  (List.range words).flatMap (fun k => leBytes 4 (s.counterWord source (base + 4 * k)))

/-- The records of a set (R454); a tenant's record of a cluster of another context is zeros. -/
def State.setBytes (s : State) (set source first count : Nat) (ctx : Option Nat) : List Nat :=
  if set = 0 then
    ((List.range count).map (fun k => first + k)).flatMap (fun c =>
      if ctx.isNone || ctx == some (s.ctxOf c) then s.counterBytes source (AGT_SLOT_RET c 0) 64 else List.replicate 256 0)
  else if set = 1 then
    s.counterBytes source (OBS_DIE_RET 0) 16 ++ List.replicate 64 0 ++ s.counterBytes source (BUD_RSN_CNT 0) 16 ++
    s.counterBytes source (BUD_RSN_NS 0) 32 ++ s.counterBytes source DRP_CNT_MILD 4 ++ s.counterBytes source (EST_DIE_E 0) 2 ++
    s.counterBytes source (EST_UNATTR_E 0) 2 ++ (List.range 4).flatMap (fun n => s.counterBytes source (RAIL_EVENTS n) 1) ++
    List.replicate 16 0
  else if set = 2 then ((List.range count).map (fun k => first + k)).flatMap (fun x => s.counterBytes source (EST_CTX_E (2 * x)) 2)
  else
    s.counterBytes source (OBS_PKG_RET 0) 12 ++ s.counterBytes source (EST_PKG_E 0) 2 ++ List.replicate 8 0 ++
    s.counterBytes source (OBS_WATCH_B_LO 0) 64

/-- Status of a READ_COUNTERS whose fields are in range (R454); `first` and `count` matter for sets 0 and 2. -/
def State.countersStatus (s : State) (set source first count : Nat) (ctx : Option Nat) : Nat :=
  let st := s.fld OBS_SNAP_STATUS.STATE
  let wide := set == 0 || set == 2
  if wide && count == 0 then stEmpty
  else if ctx.isSome && (set == 1 || set == 3 || (set == 2 && !(ctx == some first && count == 1))) then stDenied
  else if source = 0 ∧ st = 1 then stBusy
  else if source = 0 ∧ st ≠ 2 then stNotFound
  else stOk

/-- The 64-byte header and the records (R454). -/
def State.countersOut (s : State) (set source first count : Nat) (ctx : Option Nat) : List Nat :=
  let bank := source == 0
  let n := if set == 0 || set == 2 then count else 1
  let flags := bnat (bank && s.fld OBS_SNAP_STATUS.STATE == 2) + 2 * bnat (bank && s.obs.leftOut)
  let live := if bank then s else s.accrueReasons
  pack [(8, if bank then s.reg64 (OBS_SNAP_T 0) else s.skyNs), (2, if bank then s.fld OBS_SNAP_STATUS.SNAP_ID else 0), (1, set),
    (1, source), (1, s.dieId), (1, flags), (2, n), (2, first), (46, 0)] ++ live.setBytes set source first n ctx

/-! ### READ_RING (R456) -/

/-- The ring of a unit: 0 agent, 1 arbiter, 2 rail, 3 sample, and its length. -/
def State.ringUnit (s : State) (u i : Nat) : Ring × Nat :=
  match u with
  | 0 => (s.ringOf i, s.ringLen 0)
  | 1 => (s.rings.arb, s.ringLen 1)
  | 2 => (s.railRing i, s.ringLen 2)
  | _ => (s.rings.samp, s.ringLen 3)

/-- An entry's 16 bytes (R439). -/
def RingEntry.bytes (x : RingEntry) : List Nat := pack [(6, x.time), (1, x.type), (1, x.flags), (8, x.data)]

/-- Status of a READ_RING whose fields are in range (R456). -/
def State.ringStatus (s : State) (u i count : Nat) (ctx : Option Nat) : Nat :=
  if count = 0 ∨ (s.ringUnit u i).2 = 0 then stEmpty
  else if ctx.isSome && (u != 0 || !(ctx == some (s.ctxOf i))) then stDenied
  else stOk

/-- The 32-byte header and the entries, oldest first (R456). The trigger it names is the one that stands, if any. -/
def State.ringOut (s : State) (u i first count : Nat) : List Nat :=
  let r := (s.ringUnit u i).1
  let st := s.fld RING_STATUS.STATE
  let trig := if st < 2 then none else (r.entries.zipIdx.reverse.find? (fun p => bitAt p.1.flags 2)).map (fun p => p.2)
  pack [(8, if st < 2 then 0 else s.reg64 (RING_TRIG_T 0)), (2, r.entries.length), (2, trig.getD 0xFFFF), (2, s.fld RING_STATUS.LATE),
    (1, st), (1, u), (2, 0), (2, (s.ringUnit u i).2), (8, s.skyNs), (4, 0)] ++
  ((r.entries.drop first).take count).flatMap RingEntry.bytes

/-! ### ARM_TRIGGER (R455) -/

/-- ARM_TRIGGER on this die: its status and the state after it. -/
def State.armTrigger (s : State) (action post sources units : Nat) : Nat × State :=
  if action = 0 then
    if sources = 0 ∨ units = 0 then (stEmpty, s)
    else if 2 ≤ s.fld RING_STATUS.STATE then (stBusy, s)
    else (stOk, (((s.setFld RING_TRIG.POST post).setFld RING_TRIG.SOURCES sources).setFld RING_TRIG_UNITS.UNITS units).ringArm)
  else if action = 1 then (stOk, s.ringForce)
  else (stOk, s.ringResume)

/-! ### Watch windows (R449) -/

/-- WATCH_RECORD: a byte-count record of stack `k` for range `r`, in lines; none is taken while bc_clk stands still
(R50, R79). -/
def State.watchRecord (s : State) (k r lines : Nat) : State :=
  if bitAt s.tie.mems k ∧ k < 4 ∧ r < 16 ∧ s.flag HEATH_DOMAIN_STATUS.CORE_ON = true ∧ s.inReset = false then
    { s with obs := { s.obs with lines := SMap.put (fun _ => 0) s.obs.lines r (SMap.get (fun _ => 0) s.obs.lines r + lines) } }
  else s

/-- A die's sums enter the counters of the leader: lines, and lines × EPL in µJ with the pJ remainder kept. -/
def State.addWatch (s : State) (lines : List Nat) : State :=
  each (List.range 16) (fun r t =>
    let n := listGet 0 lines r
    let pj := SMap.get (fun _ => 0) t.obs.pj r + n * t.fld (OBS_WATCH_0.EPL r)
    let t1 := { t with obs := { t.obs with pj := SMap.put (fun _ => 0) t.obs.pj r (pj % 1000000) } }
    if n = 0 then t
    else (t1.setReg64 (OBS_WATCH_B_LO r) (t.reg64 (OBS_WATCH_B_LO r) + n)).setReg64 (OBS_WATCH_E_LO r)
      (t.reg64 (OBS_WATCH_E_LO r) + pj / 1000000)) s

/-- WATCH_SEND: every 100 µs a die's sums go to the leader, or into its own counters. -/
def State.watchSend (s : State) : State :=
  if s.inReset || !s.flag HEATH_DOMAIN_STATUS.CORE_ON then s
  else
    let due := (s.obs.watchAt / 100000 + 1) * 100000
    let s1 := s.advanceSky due
    let xs := (List.range 16).map (fun r => SMap.get (fun _ => 0) s1.obs.lines r)
    let s2 := { s1 with obs := { s1.obs with watchAt := due, lines := [] } }
    if s2.leader then s2.addWatch xs
    else if s2.flag HDG_STATUS.AUTONOMOUS then s2 else s2.send s2.leaderDie 0 (.data (.watchSums xs))

/-- A range is driven to the memory controllers. -/
def State.driveWatch (s : State) (r : Nat) (en : Bool) (base limit : Nat) : State := s.emit (.watch r en base limit)

/-- The range that the registers of a watch hold is driven: base and last page, 40 bits each. -/
def State.driveRange (s : State) (r : Nat) : State :=
  s.driveWatch r (s.flag (OBS_WATCH_0.EN r)) (s.reg (OBS_WATCH_4 r) + 2 ^ 32 * s.fld (OBS_WATCH_8.BASE_PG_HI r))
    (s.reg (OBS_WATCH_C r) + 2 ^ 32 * s.fld (OBS_WATCH_8.LIMIT_PG_HI r))

/-- A watch range is set on this die: its registers take the pages, and it is driven (R449, R457). -/
def State.setRange (s : State) (r : Nat) (en : Bool) (epl base limit : Nat) : State :=
  let s1 := s.setReg (OBS_WATCH_0 r) (epl % 65536 + 2 ^ 31 * bnat en)
  let s2 := (s1.setReg (OBS_WATCH_4 r) (base % 2 ^ 32)).setReg (OBS_WATCH_C r) (limit % 2 ^ 32)
  (s2.setReg (OBS_WATCH_8 r) (base / 2 ^ 32 % 256 + 256 * (limit / 2 ^ 32 % 256))).driveRange r

/-! ### Streaming (R450, R451) -/

/-- Counters of a cluster that its stream record takes increases of. -/
def State.streamNow (s : State) (c : Nat) : List Nat :=
  [s.reg64 (AGT_SLOT_RET c 0), s.reg64 (AGT_SLOT_WASTED c 0), s.reg64 (AGT_SLOT_FRONT c 0), s.reg64 (AGT_SLOT_BACK c 0),
   s.reg (AGT_STRETCH c), s.reg (AGT_WAIT_NS c)]

/-- The same of the die. -/
def State.streamDie (s : State) : List Nat :=
  [s.reg64 (OBS_DIE_RET 0), s.reg64 (OBS_DIE_WASTED 0), s.reg64 (OBS_DIE_FRONT 0), s.reg64 (OBS_DIE_BACK 0),
   (s.clusters.map (fun c => s.reg (AGT_STRETCH c))).sum, (s.clusters.map (fun c => s.reg (AGT_WAIT_NS c))).sum]

/-- A value in a field of 32 bits; one that does not fit has no stated result and is a free value (log 3). -/
def fit32 (s : State) (k v : Nat) : Nat := if v < 2 ^ 32 then v else Config.freeValue (s.free + k) % 2 ^ 32

/-- A stream record (R450). `unit` is a cluster, or 320 for the die; `num` its number. -/
def State.streamRecord (s : State) (unit num : Nat) (now : List Nat) (dropped : Bool) : List Nat :=
  let old := SMap.get (fun _ => []) s.obs.last unit
  let inc (k w : Nat) : Nat := (listGet 0 now k + 2 ^ w - listGet 0 old k % 2 ^ w) % 2 ^ w
  let wide (k : Nat) : Nat := if unit = 320 then fit32 s k (listGet 0 now k - listGet 0 old k) else inc k 32
  let e := (SMap.get (fun _ => 0) s.obs.energy unit).toNat / 1000
  pack [(6, s.skyNs), (1, s.dieId), (1, bnat (s.interpAt corePs s.skyNs) + 2 * bnat s.sky.gap + 4 * bnat dropped),
    (2, if unit = 320 then 0xFFFF else unit), (2, num), (4, s.fld BUD_RSN_ACTIVE.ACTIVE), (8, inc 0 64), (8, inc 1 64), (8, inc 2 64),
    (8, inc 3 64), (4, fit32 s 6 e), (4, wide 4), (4, wide 5), (4, 0)]

/-- Line tokens accrue: 3 each 100 ns, at most 32 (R451). -/
def State.gainTokens (s : State) : State :=
  let n := (s.now - s.obs.tokenAt) / 100
  { s with obs := { s.obs with tokens := min 32 (s.obs.tokens + 3 * n), tokenAt := s.obs.tokenAt + 100 * n } }

/-- Stream lines go out as tokens allow. -/
def State.streamPump (s : State) : State :=
  if s.obs.streamQ.isEmpty then s
  else
    let s1 := s.gainTokens
    let n := min s1.obs.tokens s1.obs.streamQ.length
    ({ s1 with obs := { s1.obs with tokens := s1.obs.tokens - n, streamQ := s1.obs.streamQ.drop n } }).memSend (s1.obs.streamQ.take n)

/-- Address of the host ring. -/
def State.streamBase (s : State) : Nat := s.fld OBS_STR_BASE_LO.ADDR_LO * 64 + s.fld OBS_STR_BASE_HI.ADDR_HI * 2 ^ 32

/-- The head line (R450): the next index, the dropped count, the time of the newest record. -/
def State.headLine (s : State) (head : Nat) : MemTxn :=
  { wr := true, addr := s.streamBase, job := .head
    data := pack [(4, head), (4, s.fld OBS_STR_DROP.FULL + s.fld OBS_STR_DROP.CAP), (8, s.obs.streamT), (48, 0)] }

/-- Records free before the host's tail: the slot before it stays empty (R451). -/
def State.streamRoom (s : State) : Nat :=
  let n := s.fld OBS_STR_LEN.VALUE
  if n = 0 then 0 else (s.fld OBS_STR_TAIL.VALUE % n + n - s.fld OBS_STR_HEAD.VALUE % n + n - 1) % n

/-- The period's records are dropped: they are not written in time, or a write has failed (R451). -/
def State.dropPeriod (s : State) : State :=
  { s with mem := { s.mem with queue := s.mem.queue.filter (fun x => x.job != .record s.obs.period) }
           obs := { s.obs with
             streamQ := s.obs.streamQ.filter (fun x => x.job == .head), streamLeft := 0, streamNew := 0, lastNew := []
             recDropped := s.obs.recDropped || s.obs.streamNew != 0 } }

/-- A write of the stream has failed: the stream ends and the period under way is dropped (R61, R451). -/
def State.streamError (s : State) : State :=
  ((s.setFlag OBS_STR_CTRL.EN false).setFlag OBS_STR_CTRL.ERR true).dropPeriod

/-- The head line follows the lines that wait (R450). -/
def State.queueHead (s : State) : State :=
  { s with obs := { s.obs with streamQ := s.obs.streamQ ++ [s.headLine (s.fld OBS_STR_HEAD.VALUE)] } }

/-- STREAM_PERIOD: the records of the period, or its head line at once where it has none to write (R450, R451). -/
def State.streamPeriod (s : State) : State :=
  let len := s.fld OBS_STR_LEN.VALUE
  if !s.flag OBS_STR_CTRL.EN || len == 0 || s.inReset || !s.flag HEATH_DOMAIN_STATUS.CORE_ON then s
  else
    let s1 := s.advanceTo (s.obs.streamAt + 10000 * s.fld OBS_STR_CTRL.PERIOD)
    let s2 := if s1.obs.streamNew = 0 then s1 else (s1.incSat OBS_STR_DROP.CAP s1.obs.streamNew).dropPeriod
    let units := (if s2.flag OBS_STR_CTRL.CLUSTER_REC then s2.clusters else []) ++ (if s2.flag OBS_STR_CTRL.DIE_REC then [320] else [])
    let room := s2.streamRoom
    let taken := units.take room
    let s3 := s2.incSat OBS_STR_DROP.FULL (units.length - taken.length)
    let now (u : Nat) : List Nat := if u = 320 then s3.streamDie else s3.streamNow u
    let p := s3.obs.period + 1
    let txns : List MemTxn := taken.zipIdx.map (fun q =>
      { wr := true, addr := s3.streamBase + 64 + 64 * ((s3.fld OBS_STR_HEAD.VALUE + q.2) % len), job := .record p
        data := s3.streamRecord q.1 (s3.obs.recNo + q.2) (now q.1) (q.2 == 0 && s3.obs.recDropped) })
    let o := s3.obs
    let s4 : State := { s3 with
      free := s3.free + 8
      sky := { s3.sky with gap := s3.sky.gap && taken.isEmpty }
      obs := { o with
        streamAt := s3.now, period := p, recNo := (o.recNo + taken.length) % 65536
        recDropped := if taken.isEmpty then o.recDropped || !units.isEmpty else decide (taken.length < units.length)
        lastNew := taken.foldl (fun m u => SMap.put (fun _ => []) m u (now u)) o.last
        energy := [], streamQ := o.streamQ ++ txns, streamLeft := txns.length, streamNew := txns.length
        streamEnd := s3.skyNs } }
    (if taken.isEmpty then s4.queueHead else s4).streamPump

/-- A record's write has been answered: after the last of its period the head line is written; an error of any of them, of a
dropped period too, ends the stream (R450, R451). -/
def State.recordWritten (s : State) (period : Nat) (ok : Bool) : State :=
  if !ok then s.streamError
  else if period ≠ s.obs.period ∨ s.obs.streamLeft = 0 then s
  else
    let s1 := { s with obs := { s.obs with streamLeft := s.obs.streamLeft - 1 } }
    if 0 < s1.obs.streamLeft then s1.streamPump
    else
      let head := (s1.fld OBS_STR_HEAD.VALUE + s1.obs.streamNew) % max 1 (s1.fld OBS_STR_LEN.VALUE)
      let s2 := ({ s1 with obs := { s1.obs with streamNew := 0, last := s1.obs.lastNew, lastNew := [], streamT := s1.obs.streamEnd } }).setFld
        OBS_STR_HEAD.VALUE head
      s2.queueHead.streamPump

/-- The head line has been answered: the doorbell, or the stream's end on an error (R450, R451). -/
def State.headWritten (s : State) (ok : Bool) : State :=
  if ok then s.bell 3 else s.streamError

/-- Energy attributed in an interval accrues toward the stream's records (R450). -/
def State.streamEnergy (s : State) (die : Nat) : State :=
  let add (k n : Nat) (m : SMap Int) : SMap Int := SMap.put (fun _ => 0) m k (SMap.get (fun _ => 0) m k + (n : Int))
  { s with obs := { s.obs with energy := add 320 die (each s.clusters (fun c m => add c (SMap.get (fun _ => 0) s.est.given c).toNat m) s.obs.energy) } }

end Sys2Proof.Machine
end

