-- ==== Sys2Proof/Machine/Fabric.lean ====
section
/-! DEFINITION. The commit queue as its users see it (R331), and the Edvik agent: frames, peers, level words, rates and
releases (R340–R362). What a release does at its commit is here too; the commit itself is in Commit. -/

namespace Sys2Proof.Machine

/-! ### The commit queue (R331) -/

/-- Has the act a reserved place: SHARE, or the relock commit? -/
def CommitAct.reserved : CommitAct → Bool
  | .share | .relock => true
  | _ => false

/-- Commits of the 8 places that wait: with none running the first in the queue is about to run. -/
def State.waitingCommits (s : State) : List Commit :=
  let q := if s.hdg.running.isNone then s.hdg.queue.drop 1 else s.hdg.queue
  q.filter (fun c => !c.act.reserved)

/-- Is there a place for a further commit (R331)? -/
def State.queueRoom (s : State) : Bool :=
  (s.hdg.queue.isEmpty && s.hdg.running.isNone) || decide (s.waitingCommits.length < 8)

/-- A commit joins the queue, in arrival order. -/
def State.enqueue (s : State) (c : Commit) : State := { s with hdg := { s.hdg with queue := s.hdg.queue ++ [c] } }

/-- A commit with a reserved place joins the queue; one of its kind waits at most (R331). -/
def State.enqueueReserved (s : State) (act : CommitAct) : State :=
  if s.hdg.queue.any (fun c => c.act == act) then s else s.enqueue { act := act }

/-- Commits of the block itself that found no place take one as the queue has room, in order (R331). -/
def State.queueOwed (s : State) : State :=
  each s.hdg.owed (fun act t =>
    if t.queueRoom then ({ t with hdg := { t.hdg with owed := t.hdg.owed.drop 1 } }).enqueue { act := act } else t) s

/-- The block wants a commit of its own: it takes a place in the queue, or waits for one (R331). -/
def State.owe (s : State) (act : CommitAct) : State := ({ s with hdg := { s.hdg with owed := s.hdg.owed ++ [act] } }).queueOwed

/-! ### The agent -/

/-- NODE_ID (R345). -/
def State.nodeId (s : State) : Nat := s.fld FAB_NODE.NODE_ID

/-- RUNNING: EN is applied and the node is assigned (R345). -/
def State.fabOn (s : State) : Bool := s.leader && s.flag FAB_CTRL.EN && s.nodeId != 0xFFFF

/-- Does the agent act on frames now: RUNNING, out of PORST_N and of a block reset, its domain clocked (R15, R345, R362)?
A frame that comes while the block core domain is gated stays at the NIC, whose net_rx_wake is the wake event 6 of
HEATH_WAKE_EVENT (R50, R84). -/
def State.fabRuns (s : State) : Bool := s.fabOn && s.ps.porst && !s.inReset && s.flag HEATH_DOMAIN_STATUS.CORE_ON

/-- Is the FABRIC compartment down, so that votes are NOBUF and no release is originated (R409)? -/
def State.fabDown (s : State) : Bool := s.fld (HEATH_FW_COMP.STATE 4) == 3 || s.flag HEATH_FW_STATUS.HALTED

/-- The peer of a node ID, if it is in the table. -/
def State.peer (s : State) (n : Nat) : Option Peer := SMap.find s.fab.peers n

/-- The state with a peer replaced. -/
def State.setPeer (s : State) (n : Nat) (p : Peer) : State :=
  { s with fab := { s.fab with peers := SMap.enter s.fab.peers n p } }

/-- Tree neighbours of a group (R348). -/
def Group.neighbours (g : Group) : List Nat := (if g.parent = 0xFFFF then [] else [g.parent]) ++ g.children

/-- The group of a slot. -/
def State.groupAt (s : State) (slot : Nat) : Option Group := SMap.find s.fab.groups slot

/-- Tree neighbours of the group of a slot. -/
def State.treeOf (s : State) (slot : Nat) : List Nat :=
  match s.groupAt slot with
  | some g => g.neighbours
  | none => []

/-- A frame goes out, from and to the Edvik port and with its DSCP (R83, R340, R341). -/
def State.sendFrame (s : State) (h : FrameHdr) (b : FrameBody) : State :=
  (s.emit (.frame { h with src := s.nodeId, epoch := s.blockEpoch, sport := s.fld FAB_CTRL.UDP_PORT,
                           dport := s.fld FAB_CTRL.UDP_PORT, dscp := s.fld FAB_CTRL.DSCP } b)).incSat (whole FAB_TX)

/-- A frame is taken: it is counted, and the block core domain is not idle (R17, R342). -/
def State.frameTaken (s : State) : State := (s.lingerFrom false).incSat (whole FAB_RX)

/-- A frame that is not reliable, to a peer. -/
def State.sendPlain (s : State) (n : Nat) (h : FrameHdr) (b : FrameBody) : State :=
  match s.peer n with
  | some p => s.sendFrame { h with dst := n, port := p.port, addr := p.addr } b
  | none => s

/-- Is a body the PACE of a group? -/
def FrameBody.paceOf (group : Nat) : FrameBody → Bool
  | .pace g _ _ _ => g == group
  | _ => false

/-- Is a body the group-scope EMERG of a group? -/
def FrameBody.emergOf (group : Nat) : FrameBody → Bool
  | .emerg scope _ g _ _ => scope == 1 && g == group
  | _ => false

/-- Does a new body replace an older one that is still to be sent or acknowledged: the PACE of the same group, or its
group-scope EMERG, which is forwarded in the same way (R351)? -/
def FrameBody.replaces (new old : FrameBody) : Bool :=
  match new with
  | .pace g _ _ _ => old.paceOf g
  | .emerg scope _ g _ _ => scope == 1 && old.emergOf g
  | _ => false

/-- A reliable frame to a peer (R343): numbered, kept until acknowledged; held while the peer is unreachable (R346); a
newer PACE or group-scope EMERG of a group takes the place of the one before it (R351). -/
def State.sendReliable (s : State) (n : Nat) (b : FrameBody) : State :=
  match s.peer n with
  | none => s
  | some p =>
    let un := p.unacked.filter (fun x => !b.replaces x.body)
    let q := p.queue.filter (fun x => !b.replaces x)
    if p.reachable then
      let seq := p.txSeq + 1
      ((s.setPeer n { p with txSeq := seq, queue := q, unacked := un ++ [⟨seq, b, 0, s.now⟩] }).sendFrame
        { dst := n, seq := seq, port := p.port, addr := p.addr } b)
    else s.setPeer n { p with unacked := un, queue := q ++ [b] }

/-- A reliable frame to each of several nodes. -/
def State.sendEach (s : State) (ns : List Nat) (b : FrameBody) : State := each ns (fun n t => t.sendReliable n b) s

/-- The held frames of a peer that is heard again go out (R346). -/
def State.flushPeer (s : State) (n : Nat) : State :=
  match s.peer n with
  | some p => each p.queue (fun b t => t.sendReliable n b) (s.setPeer n { p with queue := [] })
  | none => s

/-- Something arrived from a peer (R346). -/
def State.heard (s : State) (n : Nat) : State :=
  match s.peer n with
  | some p =>
    let s1 := s.setPeer n { p with heardAt := s.now, reachable := true }
    if p.reachable then s1 else s1.flushPeer n
  | none => s

/-- A node enters the peer table, or its entry is brought up to date; a full table takes nobody. One that was entered by a
frame has been heard by it, an explicit peer has not (R346). -/
def State.enterPeer (s : State) (n port addr : Nat) (explicit : Bool := false) : State :=
  match s.peer n with
  | some p =>
    let t := s.setPeer n { p with port := port, addr := addr, explicit := p.explicit || explicit }
    if explicit then t else t.heard n
  | none =>
    if 4096 ≤ s.fab.peers.length then s.incSat FAB_DROP.REJECT
    else s.setPeer n { port := port, addr := addr, explicit := explicit, heardAt := s.now }

/-- A syndrome of the fabric: peer node ID, group ID or 0, value (R459). -/
abbrev fabSyn (node group : Nat) (value : Int) : Nat := syndrome node group value

/-! ### Acceptance of a frame (R343, R347) -/

/-- A refused frame (R347). -/
def State.refuseFrame (s : State) : State := s.incSat FAB_DROP.REJECT

/-- Does a frame come to this node from a known peer (R347)? -/
def State.fromPeer (s : State) (f : FrameHdr) : Bool :=
  f.dst == s.nodeId &&
  match s.peer f.src with
  | some p => p.port == f.port && p.addr == f.addr
  | none => false

/-- SEQs acknowledged by a peer (R343). -/
def State.acked (s : State) (n : Nat) (seqs : List Nat) : State :=
  match s.peer n with
  | some p => s.setPeer n { p with unacked := p.unacked.filter (fun x => !seqs.contains x.seq) }
  | none => s

/-- The ACK field of a frame from a peer (R341, R343). -/
def State.ackedBy (s : State) (n : Nat) (f : FrameHdr) : State := s.acked n (if f.ackVld then [f.ack] else [])

/-- What every accepted frame does: its peer was heard, its ACK field counts. -/
def State.takeHeader (s : State) (f : FrameHdr) : State := (s.heard f.src).ackedBy f.src f

/-- Is an epoch older than another: 1–32,767 behind it in the wrapping order (R105, R325)? -/
def olderEpoch (e newest : Nat) : Bool :=
  let d := (newest % 65536 + 65535 - e % 65536) % 65535
  decide (1 ≤ d ∧ d ≤ 32767)

/-- A newer epoch from a peer, in whatever frame, clears its map (R343); an older one changes nothing. -/
def State.notePeerEpoch (s : State) (n epoch : Nat) : State :=
  match s.peer n with
  | some p =>
    if p.epoch = some epoch ∨ p.epoch.any (fun e => olderEpoch epoch e) then s
    else s.setPeer n { p with epoch := some epoch, rxHigh := 0, rxSeen := [] }
  | none => s

/-- Acknowledge a reliable frame at once (R343). -/
def State.ackFrame (s : State) (n seq : Nat) : State := s.sendPlain n { ackVld := true, ack := seq } (.ack [])

/-- A reliable frame from a peer against its epoch and map (R343): the state, and is the frame new and to be acted on. The
header of one that is discarded is not taken. -/
def State.takeReliable (s : State) (f : FrameHdr) : State × Bool :=
  match s.peer f.src with
  | none => (s, false)
  | some p =>
    if p.epoch.any (fun e => olderEpoch f.epoch e) then (s.incSat FAB_DROP.STALE, false)
    else
      let newer := p.epoch != some f.epoch
      let p1 := if newer then { p with epoch := some f.epoch, rxHigh := 0, rxSeen := [] } else p
      if f.seq + 64 < p1.rxHigh then (s.incSat FAB_DROP.DUP, false)
      else if p1.rxSeen.contains f.seq then (((s.setPeer f.src p1).takeHeader f).ackFrame f.src f.seq, false)
      else
        let hi := max p1.rxHigh f.seq
        let p2 := { p1 with rxHigh := hi, rxSeen := f.seq :: p1.rxSeen.filter (fun x => decide (hi ≤ x + 64)) }
        (((s.setPeer f.src p2).takeHeader f).ackFrame f.src f.seq, true)

/-- A reliable frame is received: counted, tested (`ok` is the frame's own test of R347), and acted on if it is new. -/
def State.onReliable (s : State) (f : FrameHdr) (ok : Bool) (act : State → State) : State :=
  if !s.fabRuns then s
  else
    let s1 := s.frameTaken
    if !s1.fromPeer f || !ok then s1.refuseFrame
    else
      let r := s1.takeReliable f
      if r.2 then act r.1 else r.1

/-! ### Level words (R349–R352) -/

/-- Key of the node emergency word. -/
abbrev emergIdx : Nat := 256

/-- The registers that show a word: FAB_LEVEL of its slot, FAB_EMERG and FAB_EMERG_LEFT for the emergency word. -/
def wordRegs (i : Nat) : Nat × Nat := if i = emergIdx then (FAB_EMERG, FAB_EMERG_LEFT) else (FAB_LEVEL0 i, FAB_LEVEL1 i)

/-- A level word. -/
def State.word (s : State) (i : Nat) : LevelWord := SMap.get (fun _ => {}) s.fab.words i

/-- The state with a word replaced. -/
def State.setWord (s : State) (i : Nat) (w : LevelWord) : State :=
  { s with fab := { s.fab with words := SMap.put (fun _ => {}) s.fab.words i w } }

/-- Does a word apply to this die (R352)? A follower holds only words that do. -/
def State.wordApplies (s : State) (i : Nat) : Bool :=
  i == emergIdx || !s.leader || (match s.groupAt i with | some g => bitAt g.dieMask s.dieId | none => false)

/-- pace_rate follows the words that apply (R352). -/
def State.repace (s : State) : State :=
  let rs := (s.fab.words.filter (fun p => p.2.set && s.wordApplies p.1)).map (fun p => p.2.rate)
  ({ s with rate := rs.min? }).noteReasons

/-- Merge of a rate, a validity in µs and a holder (R349). -/
def LevelWord.merge (w : LevelWord) (now r v h : Nat) : LevelWord :=
  let e := now + v * 1000
  if w.set then { w with rate := min r w.rate, holder := if r < w.rate then h else w.holder, expiry := max w.expiry e }
  else { w with set := true, rate := r, expiry := e, holder := h }

/-- Did a merge change the word: its rate fell or its expiry moved later (R349)? -/
def wordChanged (old new : LevelWord) : Bool := !old.set || decide (new.rate < old.rate) || decide (old.expiry < new.expiry)

/-- Did its rate fall (R358)? -/
def wordFell (old new : LevelWord) : Bool := !old.set || decide (new.rate < old.rate)

/-- Remaining validity of a word, whole µs. -/
def State.leftOf (s : State) (w : LevelWord) : Nat := if w.set then (w.expiry - s.skyNs) / 1000 else 0

/-- Dies that carry a word, beside the leader (R337, R352). -/
def State.wordDies (s : State) (i : Nat) : List Nat :=
  s.followers.filter (fun d => i == emergIdx || (match s.groupAt i with | some g => bitAt g.dieMask d | none => false))

/-- Remaining validity as a LEVEL flit carries it, µs: rounded up, so that a follower never expires a word before its leader
(R352). -/
def State.leftUp (s : State) (w : LevelWord) : Nat := if w.set then (w.expiry - s.skyNs + 999) / 1000 else 0

/-- The LEVEL value of a word (R352). -/
def State.levelValue (s : State) (w : LevelWord) : Nat := w.rate + 256 * bnat w.set + 512 * min (s.leftUp w) 0x7FFFFF

/-- The leader carries a word to some followers (R337, R352); a saturated validity is sent again later. -/
def State.tellLevelTo (s : State) (i : Nat) (ds : List Nat) : State :=
  let w := s.word i
  if w.set then
    each ds (fun d t => t.send d 0 (.level i (s.levelValue w)))
      (s.setWord i { w with resend := decide (0x7FFFFF ≤ s.leftUp w) })
  else s

/-- The leader carries a word to the followers that carry it. -/
def State.tellLevel (s : State) (i : Nat) : State := s.tellLevelTo i (s.wordDies i)

/-- Prepared releases of a word that has fallen leave it unchanged (R358, R360). -/
def State.noteFell (s : State) (i : Nat) : State :=
  { s with fab := { s.fab with bufs := s.fab.bufs.map (fun b => if b.slot = i then { b with fell := true } else b) } }

/-- A merge into a word; the state and whether the word changed. -/
def State.mergeWord (s : State) (i r v h : Nat) : State × Bool :=
  let old := s.word i
  let new := old.merge s.skyNs r v h
  let s1 := s.setWord i new
  let s2 := if wordFell old new then s1.noteFell i else s1
  if wordChanged old new then ((s2.tellLevel i).repace, true) else (s2, false)

/-- A group's word as a PACE (R351). -/
def State.wordPace (s : State) (i : Nat) (g : Group) : FrameBody :=
  let w := s.word i
  .pace g.id w.rate (s.leftOf w) w.holder

/-- PACE arrives (R347, R349, R351, R354): a node never merges its own. -/
def State.onPace (s : State) (f : FrameHdr) (group rate valid holder : Nat) : State :=
  match slotOfGroup s.fab.groups group with
  | none => s.onReliable f false id
  | some i =>
    s.onReliable f ((s.treeOf i).contains f.src) (fun t =>
      if holder = t.nodeId then t
      else
        let r := t.mergeWord i rate valid holder
        match r.1.groupAt i with
        | some g => if r.2 then r.1.sendEach (g.neighbours.filter (fun n => n != f.src)) (r.1.wordPace i g) else r.1
        | none => r.1)

/-- EMERG arrives (R347, R351, R356). SCOPE 0 node, 1 group. -/
def State.onEmerg (s : State) (f : FrameHdr) (scope rate group valid origin : Nat) : State :=
  let slot := slotOfGroup s.fab.groups group
  let tree := match slot with | some i => s.treeOf i | none => []
  s.onReliable f (origin == s.fld FAB_NODE.MGR_NODE && (scope == 0 || tree.contains f.src)) (fun t =>
    let r := t.mergeWord emergIdx rate valid origin
    if scope ≠ 0 ∧ r.2 then
      let w := r.1.word emergIdx
      r.1.sendEach (tree.filter (fun n => n != f.src)) (.emerg 1 w.rate group (r.1.leftOf w) origin)
    else r.1)

/-- A word clears (R350). -/
def State.clearWord (s : State) (i : Nat) : State := (s.setWord i {}).repace

/-- LEVEL_WORD_EXPIRY: a word's expiry is reached (R350). -/
def State.wordExpires (s : State) (i : Nat) : State :=
  if (s.word i).set then (s.advanceSky (s.word i).expiry).clearWord i else s

/-- LEVEL_WORD_RESEND: a word sent with a saturated validity falls below 0x40_0000 µs and is sent again (R352). -/
def State.wordResend (s : State) (i : Nat) : State :=
  let w := s.word i
  if s.leader && w.set && w.resend then (s.advanceSky (w.expiry - 0x400000 * 1000 + 1)).tellLevel i else s

/-- A level word at a follower with a LEVEL flit merged in. A saturated validity says only that the word lives on until the
leader sends it again: until then it is held for the longest validity there is; one in range is then the word's own
(R352, log 174). -/
def LevelWord.told (w : LevelWord) (now rate left : Nat) : LevelWord :=
  if left = 0x7FFFFF then { w.merge now rate (2 ^ 32 - 1) 0xFFFF with resend := true }
  else
    let x := w.merge now rate left 0xFFFF
    if w.resend then { x with expiry := now + 1000 * left, resend := false } else x

/-- A LEVEL flit at a follower (R321, R352): a word tightens, or its validity grows. A prepared release of a word that
falls leaves it as it is (R360). Only a set word travels (R26, R326): a flit with SET = 0 has no effect, since a word clears
as R350 says. -/
def State.takeLevel (s : State) (i v : Nat) : State :=
  if bitAt v 8 then
    let old := s.word i
    let new := old.told s.skyNs (v % 256) (v / 512)
    let s1 := s.setWord i new
    let drop (p : Prepared) : Prepared :=
      { p with regs := SMap.drop (SMap.drop p.regs (wordRegs i).1) (wordRegs i).2 }
    let s2 := if wordFell old new then { s1 with hdg := { s1.hdg with prepared := s1.hdg.prepared.map drop } } else s1
    s2.repace
  else s

/-! ### Rates (R353, R354) -/

/-- This die's rate r_d (R353). -/
def State.ownRate (s : State) : Nat :=
  let f := s.fld (OPP_PT_A.FREQ s.uncapped)
  let top := s.fld (OPP_PT_A.FREQ s.top)
  let r := if top = 0 then 256 else min 256 ((256 * f + top - 1) / top)
  if s.lim.emergency then min r 128 else r

/-- r_d of a die of the node. -/
def State.rateOf (s : State) (d : Nat) : Nat := if d = s.dieId then s.ownRate else SMap.get (fun _ => 256) s.fab.dieRate d

/-- The node's rate for a group: the lowest r_d of its dies that are neither LOST nor OFF (R353). -/
def State.nodeRate (s : State) (g : Group) : Nat :=
  let ds := (bitsSet 8 g.dieMask).filter (fun d =>
    s.participants.contains d && (if d = s.dieId then s.pstate != 0 else s.fld (HDG_DIE_STATE.STATE d) == 1))
  (ds.map s.rateOf).foldl min 256

/-- Is a rate one that PACE tells (R354)? -/
def State.capped (s : State) (r : Nat) : Bool := decide (r + s.fld FAB_PACE.DEADBAND ≤ 256)

/-- The node's own PACE of a slot (R354). -/
def State.sendPace (s : State) (i : Nat) (g : Group) (r : Nat) : State :=
  let s1 := { s with fab := { s.fab with
    sentRate := SMap.enter s.fab.sentRate i r
    paceAt := SMap.put (fun _ => 0) s.fab.paceAt i s.now } }
  s1.sendEach g.neighbours (.pace g.id r (100 * s.fld FAB_PACE.VALID) s.nodeId)

/-! ### Releases (R357–R360) -/

/-- The release buffer of a REL_ID. -/
def State.buf (s : State) (id : Nat) : Option RelBuf := s.fab.bufs.find? (fun b => b.id == id)

/-- The state with a buffer replaced. -/
def State.setBuf (s : State) (b : RelBuf) : State :=
  { s with fab := { s.fab with bufs := s.fab.bufs.map (fun x => if x.id = b.id then b else x) } }

/-- The state without a buffer. -/
def State.freeBuf (s : State) (id : Nat) : State :=
  { s with fab := { s.fab with bufs := s.fab.bufs.filter (fun b => b.id != id) } }

/-- Buffers taken of FAB_REL.BUFS: releases received (R357). -/
def State.bufsUsed (s : State) : Nat := (s.fab.bufs.filter (fun b => !b.orig)).length

/-- Committed releases whose T is known join the commit queue while it has room (R331, R358). -/
def State.queueReleases (s : State) : State :=
  each (s.fab.bufs.map (fun b => b.id)) (fun id t =>
    match t.buf id with
    | some b => if b.t.isSome && !b.queued && t.queueRoom then (t.setBuf { b with queued := true }).enqueue { act := .release id } else t
    | none => t) s

/-- The originator aborts a release (R359): PARTIAL_ABORT, and another try later. -/
def State.abortRelease (s : State) (b : RelBuf) : State :=
  let s1 := ((s.sendEach b.edges (.relAbort b.id)).freeBuf b.id).incSat FAB_REL_STATUS.ABORTS
  ({ s1 with fab := { s1.fab with retryAt := SMap.enter s1.fab.retryAt b.slot (s1.now + 100000 * s1.fld FAB_REL_HOLD.RETRY_GAP) } }).setFld
    FAB_REL_STATUS.RESULT 2

/-- The originator commits a release (R358). -/
def State.commitRelease (s : State) (b : RelBuf) : State :=
  let t := s.skyNs + 1000 * s.fld FAB_REL.LEAD
  ((s.sendEach b.edges (.relCommit b.id t)).setBuf { b with t := some t, wait := [] }).queueReleases

/-- This node originates a release for a slot whose rate rose to `r` (R357). -/
def State.originateRelease (s : State) (i : Nat) (g : Group) (r : Nat) : State :=
  let newSet := bnat (s.capped r)
  let b : RelBuf := {
    id := s.nodeId * 65536 + s.fab.relCount, slot := i, group := g.id, newSet := newSet,
    newRate := if newSet = 1 then r else 0, valid := if newSet = 1 then 100 * s.fld FAB_PACE.VALID else 0,
    levels := s.fld FAB_REL.LEVELS, orig := true, wait := g.neighbours, edges := g.neighbours, at_ := s.now }
  let s1 := ({ s with fab := { s.fab with
    relCount := (s.fab.relCount + 1) % 65536
    retryAt := SMap.drop s.fab.retryAt i
    bufs := s.fab.bufs ++ [b] } }).setFld FAB_REL_STATUS.RESULT 3
  if g.neighbours.isEmpty then s1.commitRelease b
  else s1.sendEach g.neighbours (.relPrepare b.id 0 b.levels g.id b.newSet b.newRate b.valid)

/-- The node looks at its rate for a group (R354, R357): a PACE where it fell, a release where it rose and none is in
flight or waits to be tried again. -/
def State.originate (s : State) (i : Nat) : State :=
  if !s.fabRuns then s
  else match s.groupAt i with
  | none => s
  | some g =>
    let r := s.nodeRate g
    match SMap.find s.fab.sentRate i with
    | none => if s.capped r then s.sendPace i g r else s
    | some l =>
      if r < l ∧ s.capped r = true then s.sendPace i g r
      else if l < r ∧ s.fabDown = false ∧
          (s.fab.bufs.any (fun b => b.orig && b.slot == i)) = false ∧ SMap.has s.fab.retryAt i = false then
        s.originateRelease i g r
      else s

/-- Every group's rate is looked at. -/
def State.originateAll (s : State) : State := each (s.fab.groups.map (fun p => p.1)) (fun i t => t.originate i) s

/-- This die's rate has been looked at: the leader acts on it, a follower tells its leader each change of its target index
without pace_cap and of its emergency state, by the rate that they give, and each change of that rate under a new table (R353,
R354). -/
def State.noteRate (s : State) : State :=
  if s.leader then s.originateAll
  else
    let x := (s.uncapped, s.lim.emergency, s.ownRate)
    if s.fab.told = some x ∨ s.ps.exchange then s
    else ({ s with fab := { s.fab with told := some x } }).report (.rate s.ownRate)

/-- PACE_REFRESH: while the rate stays at what was sent or lower, it is sent again (R354). -/
def State.paceRefresh (s : State) (i : Nat) : State :=
  if !s.fabRuns then s
  else match s.groupAt i, SMap.find s.fab.sentRate i with
  | some g, some l =>
    if s.nodeRate g ≤ l then
      (s.advanceTo (SMap.get (fun _ => 0) s.fab.paceAt i + 100000 * s.fld FAB_PACE.REFRESH)).sendPace i g l
    else s
  | _, _ => s

/-- RELEASE_RETRY: RETRY_GAP has passed since a PARTIAL_ABORT (R359). -/
def State.releaseRetry (s : State) (i : Nat) : State :=
  match SMap.find s.fab.retryAt i with
  | some t =>
    let s1 := s.advanceTo t
    ({ s1 with fab := { s1.fab with retryAt := SMap.drop s1.fab.retryAt i } }).originate i
  | none => s

/-- A node votes to the neighbour a prepare came from (R357): 0 READY, 1 NOBUF, 2 TIMEOUT. With FABRIC down every vote is
NOBUF (R409). -/
def State.vote (s : State) (b : RelBuf) : State :=
  let v := if b.nobuf || s.fabDown then 1 else if b.timeout then 2 else 0
  (s.setBuf { b with voted := true }).sendReliable b.src (.relVote b.id v (if v = 0 then b.ready + 1 else 0))

/-- REL_PREPARE arrives (R347, R357). -/
def State.onPrepare (s : State) (f : FrameHdr) (id kind levels group newSet newRate valid : Nat) : State :=
  let slot := slotOfGroup s.fab.groups group
  let tree := match slot with | some i => s.treeOf i | none => []
  let named := if group = 0xFFFF then kind == 1 else tree.contains f.src
  s.onReliable f (named && (kind == 0 || id / 65536 == s.fld FAB_NODE.MGR_NODE)) (fun t =>
    if (t.buf id).isSome then t
    else if t.fabDown ∨ t.fld FAB_REL.BUFS ≤ t.bufsUsed then t.sendReliable f.src (.relVote id 1 0)
    else
      let others := if 1 < levels then tree.filter (fun n => n != f.src) else []
      let b : RelBuf := {
        id := id, kind := kind, slot := if kind = 1 then emergIdx else slot.getD emergIdx, group := group, newSet := newSet,
        newRate := newRate, valid := valid, levels := levels, src := f.src, wait := others, edges := others, at_ := t.now }
      let t1 := { t with fab := { t.fab with bufs := t.fab.bufs ++ [b] } }
      if others.isEmpty then t1.vote b
      else t1.sendEach others (.relPrepare id kind (levels - 1) group newSet newRate valid))

/-- REL_VOTE arrives (R357–R359). -/
def State.onVote (s : State) (f : FrameHdr) (id v count : Nat) : State :=
  s.onReliable f true (fun t =>
    match t.buf id with
    | none => t
    | some b =>
      if !b.wait.contains f.src then t
      else
        let b1 := { b with
          wait := b.wait.filter (fun n => n != f.src), ready := b.ready + (if v = 0 then count else 0),
          nobuf := b.nobuf || v == 1, timeout := b.timeout || v == 2 }
        let t1 := t.setBuf b1
        if b1.orig then
          (if b1.nobuf || b1.timeout then t1.abortRelease b1 else if b1.wait.isEmpty then t1.commitRelease b1 else t1)
        else if b1.wait.isEmpty && !b1.voted then t1.vote b1 else t1)

/-- VOTE_WAIT_END: a node's wait for votes ends (R357). -/
def State.voteWaitEnd (s : State) (id : Nat) : State :=
  match s.buf id with
  | some b =>
    if b.orig || b.voted then s
    else (s.advanceTo (b.at_ + 1000 * ((b.levels - 1) * s.fld FAB_REL.HOP_WAIT))).vote { b with timeout := true, wait := [] }
  | none => s

/-- ORIGINATOR_WAIT_END: the originator's own wait ends (R357, R359). -/
def State.originatorWaitEnd (s : State) (id : Nat) : State :=
  match s.buf id with
  | some b =>
    if b.orig && b.t.isNone then (s.advanceTo (b.at_ + 1000 * (b.levels * s.fld FAB_REL.HOP_WAIT))).abortRelease b else s
  | none => s

/-- REL_COMMIT arrives (R358): forwarded first, then queued. -/
def State.onCommit (s : State) (f : FrameHdr) (id at_ : Nat) : State :=
  s.onReliable f true (fun t =>
    match t.buf id with
    | some b =>
      if b.orig || b.src != f.src || b.t.isSome then t
      else ((t.sendEach b.edges (.relCommit id at_)).setBuf { b with t := some at_ }).queueReleases
    | none => t)

/-- REL_ABORT arrives (R359). -/
def State.onAbort (s : State) (f : FrameHdr) (id : Nat) : State :=
  s.onReliable f true (fun t =>
    match t.buf id with
    | some b => if b.orig || b.src != f.src || b.t.isSome then t else (t.sendEach b.edges (.relAbort id)).freeBuf id
    | none => t)

/-- RELEASE_BUFFER_HOLD_EXPIRY (R360). -/
def State.bufExpires (s : State) (id : Nat) : State :=
  match s.buf id with
  | some b =>
    if b.orig || b.t.isSome then s
    else (((s.advanceTo (b.at_ + 100000 * s.fld FAB_REL_HOLD.HOLD)).freeBuf id).incSat FAB_FAIL.ORPHANS).raise srcFabRelOrphan
      (fabSyn b.src (if b.group = 0xFFFF then 0 else b.group) 0)
  | none => s

/-- Does a release still change its word: set, held by the originator (MGR_NODE for an EMERG_RELEASE), and not fallen
since the vote (R358)? -/
def State.releaseHolds (s : State) (b : RelBuf) : Bool :=
  let w := s.word b.slot
  w.set && !b.fell && w.holder == (if b.kind = 1 then s.fld FAB_NODE.MGR_NODE else b.id / 65536)

/-- A release's word after it, at the effective time (R357, R358). -/
def State.releasedWord (s : State) (b : RelBuf) : LevelWord :=
  if b.newSet = 1 then { s.word b.slot with rate := b.newRate, expiry := s.skyNs + 1000 * b.valid, resend := false } else {}

/-- The end of a release at its effective time, or without one where its word is not changed (R358): the buffer is free,
the originator's result is OK, and a member still capped sends a new PACE. -/
def State.applyRelease (s : State) (id : Nat) : State :=
  match s.buf id with
  | none => s
  | some b =>
    let ok := s.releaseHolds b
    let s1 := (if ok then (s.setWord b.slot (s.releasedWord b)).repace else s).freeBuf id
    let s2 := if b.orig then
        ({ s1 with fab := { s1.fab with
          sentRate := if b.newSet = 1 then SMap.enter s1.fab.sentRate b.slot b.newRate else SMap.drop s1.fab.sentRate b.slot } }).setFld
          FAB_REL_STATUS.RESULT 1
      else s1
    match s2.groupAt b.slot with
    | some g => if ok && s2.fabRuns && s2.capped (s2.nodeRate g) then s2.sendPace b.slot g (s2.nodeRate g) else s2.originate b.slot
    | none => s2

/-! ### Peers (R343, R345, R346) -/

/-- HELLO frames go out on every discovery port and to every explicit peer (R346). -/
def State.sendHellos (s : State) : State :=
  if !s.fabRuns then s
  else
    let addr := s.reg (FAB_DISC_ADDR 0) + 2 ^ 32 * s.reg (FAB_DISC_ADDR 1) + 2 ^ 64 * s.reg (FAB_DISC_ADDR 2) + 2 ^ 96 * s.reg (FAB_DISC_ADDR 3)
    let s1 := { s with fab := { s.fab with helloAt := s.now } }
    let s2 := each (bitsSet 16 (s.fld FAB_DISC.PORTS)) (fun p t => t.sendFrame { port := p, addr := addr } (.hello t.nodeId p)) s1
    each (s2.fab.peers.filter (fun p => p.2.explicit)) (fun p t =>
      t.sendFrame { port := p.2.port, addr := p.2.addr } (.hello t.nodeId p.2.port)) s2

/-- DISCOVERY_PERIOD (R346). -/
def State.discovery (s : State) : State :=
  if s.fabRuns then (s.advanceTo (s.fab.helloAt + 10000000 * s.fld FAB_DISC.PERIOD)).sendHellos else s

/-- HELLO arrives (R345, R346). -/
def State.onHello (s : State) (f : FrameHdr) (node : Nat) : State :=
  if !s.fabRuns then s
  else
    let s1 := s.frameTaken
    if node = s1.nodeId then s1.raise srcFabIdClash (fabSyn node 0 0)
    else
      let s2 := s1.sendFrame { dst := node, port := f.port, addr := f.addr } (.helloAck s1.nodeId f.port)
      if node = 0xFFFF then s2 else ((s2.enterPeer node f.port f.addr).notePeerEpoch node f.epoch).ackedBy node f

/-- HELLO_ACK arrives (R346, R347). -/
def State.onHelloAck (s : State) (f : FrameHdr) (node : Nat) : State :=
  if !s.fabRuns then s
  else
    let s1 := s.frameTaken
    if f.dst ≠ s1.nodeId ∨ node = 0xFFFF ∨ node = s1.nodeId then s1.refuseFrame
    else ((s1.enterPeer node f.port f.addr).notePeerEpoch node f.epoch).ackedBy node f

/-- An ACK frame arrives (R343). -/
def State.onAck (s : State) (f : FrameHdr) (seqs : List Nat) : State :=
  if !s.fabRuns then s
  else
    let s1 := s.frameTaken
    if s1.fromPeer f then ((s1.notePeerEpoch f.src f.epoch).takeHeader f).acked f.src seqs else s1.refuseFrame

/-- FAB_RETRANSMIT: INTERVAL has passed without an acknowledgement (R343). -/
def State.retransmit (s : State) (n seq : Nat) : State :=
  match s.peer n with
  | none => s
  | some p =>
    match p.unacked.find? (fun x => x.seq == seq) with
    | none => s
    | some x =>
      if !s.fabRuns then s
      else
        let s1 := s.advanceTo (x.at_ + 1000 * s.fld FAB_RTX.INTERVAL)
        if x.tries < s1.fld FAB_RTX.RETRIES then
          ((s1.setPeer n { p with unacked := p.unacked.map (fun y => if y.seq = seq then { y with tries := y.tries + 1, at_ := s1.now } else y) }).incSat
            (whole FAB_RETX)).sendFrame { dst := n, seq := seq, retx := true, port := p.port, addr := p.addr } x.body
        else
          ((s1.setPeer n { p with unacked := p.unacked.filter (fun y => y.seq != seq) }).incSat FAB_FAIL.ABANDONED).raise srcFabRtxFail
            (fabSyn n (match x.body with | .pace g _ _ _ | .relPrepare _ _ _ g _ _ _ | .emerg _ _ g _ _ => g | _ => 0) 0)

/-- PEER_DEAD: nothing has come from a peer for DEAD × PERIOD (R346); what is still unacknowledged is held. -/
def State.peerDead (s : State) (n : Nat) : State :=
  match s.peer n with
  | none => s
  | some p =>
    if !s.fabRuns || !p.reachable then s
    else
      let s1 := s.advanceTo (p.heardAt + 10000000 * (s.fld FAB_DISC.DEAD * s.fld FAB_DISC.PERIOD))
      (s1.setPeer n { p with reachable := false, queue := p.unacked.map (fun x => x.body) ++ p.queue, unacked := [] }).raise
        srcFabPeerLost (fabSyn n 0 0)

/-! ### Frames as bytes (R340–R342) -/

/-- The type code of a frame (R342). -/
def FrameBody.code : FrameBody → Nat
  | .hello _ _ => 0x01
  | .helloAck _ _ => 0x02
  | .ack _ => 0x03
  | .pace _ _ _ _ => 0x10
  | .emerg _ _ _ _ _ => 0x11
  | .relPrepare _ _ _ _ _ _ _ => 0x20
  | .relVote _ _ _ => 0x21
  | .relCommit _ _ => 0x22
  | .relAbort _ => 0x23

/-- Big-endian bytes of fields: (bytes, value) in order (R340). -/
def packBe (fs : List (Nat × Nat)) : List Nat := fs.flatMap (fun p => (leBytes p.1 p.2).reverse)

/-- A big-endian field of `n` bytes from byte `off` (R340). -/
def beNum (bs : List Nat) (off n : Nat) : Nat := pNum ((bs.drop off).take n).reverse 0 n

/-- The body of a frame (R342). -/
def FrameBody.bytes : FrameBody → List Nat
  | .hello node port | .helloAck node port => packBe [(2, node), (1, port), (1, 0)]
  | .ack seqs => packBe (seqs.map (fun q => (4, q)))
  | .pace group rate valid holder => packBe [(2, group), (1, rate), (1, 0), (4, valid), (2, holder)]
  | .emerg scope rate group valid origin => packBe [(1, scope), (1, rate), (2, group), (4, valid), (2, origin)]
  | .relPrepare id kind levels group newSet newRate valid =>
    packBe [(4, id), (1, kind), (1, levels), (2, group), (1, newSet), (1, newRate), (2, 0), (4, valid)]
  | .relVote id vote count => packBe [(4, id), (1, vote), (3, 0), (4, count)]
  | .relCommit id t => packBe [(4, id), (8, t)]
  | .relAbort id => packBe [(4, id)]

/-- A frame as the UDP payload that carries it: the header of R341, then the body. -/
def frameBytes (h : FrameHdr) (b : FrameBody) : List Nat :=
  packBe [(1, 0x10), (1, b.code), (2, 0x8000 * bnat h.ackVld + 0x4000 * bnat h.retx), (2, h.src), (2, h.dst), (2, h.epoch),
    (2, b.bytes.length), (4, h.seq), (4, h.ack)] ++ b.bytes

/-- The frames put out at the network port, each as the bytes of its payload, with the NIC port it leaves by (R340–R342). -/
def State.framesOut (s : State) : List (Nat × List Nat) :=
  s.out.filterMap (fun o => match o with
    | .frame h b => some (h.port, frameBytes h b)
    | _ => none)

/-- The body of a received frame of a type; none where the type is not used or the length is not the type's (R342). -/
def bodyOfBytes (code : Nat) (bs : List Nat) : Option FrameBody :=
  let n := bs.length
  match code with
  | 0x01 => if n = 4 then some (.hello (beNum bs 0 2) (pByte bs 2)) else none
  | 0x02 => if n = 4 then some (.helloAck (beNum bs 0 2) (pByte bs 2)) else none
  | 0x03 => if n % 4 = 0 ∧ n ≤ 256 then some (.ack ((List.range (n / 4)).map (fun k => beNum bs (4 * k) 4))) else none
  | 0x10 => if n = 10 then some (.pace (beNum bs 0 2) (pByte bs 2) (beNum bs 4 4) (beNum bs 8 2)) else none
  | 0x11 => if n = 10 then some (.emerg (pByte bs 0) (pByte bs 1) (beNum bs 2 2) (beNum bs 4 4) (beNum bs 8 2)) else none
  | 0x20 => if n = 16 then some (.relPrepare (beNum bs 0 4) (pByte bs 4) (pByte bs 5) (beNum bs 6 2) (pByte bs 8) (pByte bs 9)
      (beNum bs 12 4)) else none
  | 0x21 => if n = 12 then some (.relVote (beNum bs 0 4) (pByte bs 4) (beNum bs 8 4)) else none
  | 0x22 => if n = 12 then some (.relCommit (beNum bs 0 4) (beNum bs 4 8)) else none
  | 0x23 => if n = 4 then some (.relAbort (beNum bs 0 4)) else none
  | _ => none

/-- A received payload as a frame: none where it is longer than 1,024 bytes, shorter than a header, of another version, of
an unused type, or where LEN is not the length of the body (R84, R341, R342, log 153). -/
def frameOfBytes (bs : List Nat) : Option (FrameHdr × FrameBody) :=
  if 1024 < bs.length ∨ bs.length < 20 ∨ pByte bs 0 ≠ 0x10 ∨ beNum bs 10 2 ≠ bs.length - 20 then none
  else
    (bodyOfBytes (pByte bs 1) (bs.drop 20)).map (fun b =>
      ({ src := beNum bs 4 2, dst := beNum bs 6 2, epoch := beNum bs 8 2, seq := beNum bs 12 4, ackVld := bitAt (pByte bs 2) 7,
         ack := beNum bs 16 4, retx := bitAt (pByte bs 2) 6 }, b))

/-- EDVIK_FRAME_DISCARD: a datagram that is not taken (R84, R340, R342, R347). One that ends with net_rx_err or is no frame
is counted as refused; a frame, which fails the acceptance tests of R347 then, is counted as received too. -/
def State.discardFrame (s : State) (err : Bool) (bs : List Nat) : State :=
  if !s.fabRuns then s
  else if err || (frameOfBytes bs).isNone then s.incSat FAB_DROP.REJECT
  else s.frameTaken.refuseFrame

/-! ### Resets (R362) -/

/-- A block reset at the leader frees release buffers and drops unacknowledged frames; words, peers and groups stay. -/
def State.fabBlockReset (s : State) : State :=
  let ended := s.fab.bufs.any (fun b => b.orig)
  let s1 := { s with fab := { s.fab with
    bufs := [], retryAt := []
    peers := s.fab.peers.map (fun p => (p.1, { p.2 with unacked := [], queue := [] })) } }
  if ended then s1.setFld FAB_REL_STATUS.RESULT 0 else s1

/-- After it every set group word goes to every tree neighbour again, and every word to the followers (R362). -/
def State.fabResend (s : State) : State :=
  each (s.fab.words.filter (fun p => p.2.set)) (fun p t =>
    let t1 := t.tellLevel p.1
    match t1.groupAt p.1 with
    | some g => if t1.fabRuns then t1.sendEach g.neighbours (t1.wordPace p.1 g) else t1
    | none => t1) s

end Sys2Proof.Machine
end

