-- ==== Sys2Proof/Machine/Skylark.lean ====
section
/-! DEFINITION. The Skylark counter's discipline, steps and holdover (R363–R366, R368). Phase errors and rates are in
2^-32 ns; a capture is the counter's whole ns and sixteenths (R86). -/

namespace Sys2Proof.Machine

/-- 200 ppm in 2^-32 ns per ns (R364). -/
def rateLimit : Int := 858993

/-- Phase error of a pulse in 1/16 ns: the expected value less the captured one, which is the counter with its fraction and
the sixteenths of the edge within the cycle (R86, R364). -/
def State.phaseError (s : State) (expected sub : Nat) : Int :=
  16 * (expected : Int) - (16 * (s.sky.ns : Int) + s.sky.frac / 268435456 + sub)

/-- STEP_LIMIT in 1/16 ns. -/
def State.stepLimit (s : State) : Int := 16000 * (s.fld TIME_CTRL.STEP_LIMIT : Int)

/-- TIME_ERR after a pulse: the rate in 0.01 ppm, the phase error in 1/16 ns. -/
def State.showErr (s : State) (e : Int) : State :=
  (s.setFld TIME_ERR.RATE (ofSigned 16 (roundDiv (s.sky.rate * 100000000) 4294967296))).setFld TIME_ERR.PHASE
    (ofSigned 16 (clampInt (-32768) 32767 e))

/-- LOCKED after a pulse with phase error `e` in 1/16 ns (R364). -/
def State.noteLock (s : State) (e : Int) : State :=
  let lock := if e.natAbs ≤ 16 then min 1000 (s.sky.lockRun + 1) else 0
  let bad := if 32 < e.natAbs then min 10 (s.sky.badRun + 1) else 0
  let s1 := { s with sky := { s.sky with lockRun := lock, badRun := bad } }
  if lock = 1000 then s1.setFlag TIME_STATUS.LOCKED true
  else if bad = 10 then s1.setFlag TIME_STATUS.LOCKED false
  else s1

/-- What a pulse with phase error `e` shows where the loop does not act on it (R364). -/
def State.noteErr (s : State) (e : Int) : State := (s.showErr e).noteLock e

/-- The loop's update at a pulse with phase error `e` in 1/16 ns (R364). -/
def State.discipline (s : State) (e : Int) : State :=
  let x := e * 268435456
  let s1 := { s with sky := { s.sky with
    rate := clampInt (-rateLimit) rateLimit (s.sky.rate + ashr x (s.fld TIME_CTRL.KI_SHIFT))
    slew := ashr x (s.fld TIME_CTRL.KP_SHIFT)
    slewLeft := 1000 } }
  s1.noteErr e

/-- Holdover is over: pulses are back (R366). -/
def State.leaveHoldover (s : State) : State :=
  (({ s with sky := { s.sky with holdFrom := none, missRun := 0 } }).setFlag TIME_STATUS.HOLDOVER false).levelOff srcTimeHoldover

/-- Holdover begins, unless it runs (R365, R366). -/
def State.enterHoldover (s : State) : State :=
  match s.sky.holdFrom with
  | some _ => s
  | none => ({ s with sky := { s.sky with holdFrom := some s.now } }).setFlag TIME_STATUS.HOLDOVER true

/-- After 1 ms in holdover TIME_HOLDOVER is raised; a backward jump has its own source (R366). -/
def State.noteHoldover (s : State) : State :=
  match s.sky.holdFrom with
  | some t =>
    if t + 1000000 ≤ s.now ∧ s.flag TIME_STATUS.BACKSTEP = false then s.levelOn srcTimeHoldover (fabSyn 0 0 s.sky.missRun) else s
  | none => s

/-- The counter takes a value at a pulse; every region's next stamp carries GAP (R366, R368). Wave steps, thermal rounds and
node updates fall at the next multiples of their periods from the new value on (R130, R283, R297). -/
def State.jump (s : State) (v : Nat) : State :=
  ({ s with
    sky := { s.sky with ns := v, frac := 0, slew := 0, slewLeft := 0, expected := some v, edge := v }
    arb := { s.arb with stepAt := min s.arb.stepAt (v - 1) }
    thm := { s.thm with roundAt := v, modelAt := v } }).gapAll

/-- Is the pulse after value `v` the first of a new millisecond (R365)? -/
def lastOfMs (v : Nat) : Bool := decide (v / 1000000 < (v + 1000) / 1000000)

/-- The leader tells every follower the value of the next whole-millisecond pulse, and of a step it then takes, every 1 ms
whether or not a pulse brings a value (R365, R366). -/
def State.tellTime (s : State) (v : Nat) : State :=
  if lastOfMs v then
    ({ s with sky := { s.sky with step := s.sky.fwd } }).toFollowers (.data (.skylark (v + 1000) s.sky.fwd))
  else s

/-- Skylark time of this pulse by the leader's own counter, to the nearest whole µs: what the package goes by while a
backward jump waits, since no instance steps then (R366, log 154). -/
def State.ownPulse (s : State) : Nat := (s.sky.ns + 500) / 1000 * 1000

/-- The value of this pulse by which the package goes: the one the NIC has given or, where it gives none, the last one
carried on; the leader's own time while a backward jump waits (R365, R366). -/
def State.pulseValue (s : State) : Nat :=
  if s.flag TIME_STATUS.BACKSTEP then s.ownPulse else s.sky.expected.getD s.ownPulse

/-- The expected value carried on over the pulses since the last one, a whole number of µs (R365). -/
def State.carryOn (s : State) : State :=
  let n := max 1 ((s.now - s.sky.pulseAt + 500) / 1000)
  { s with sky := { s.sky with expected := s.sky.expected.map (fun v => v + 1000 * n) } }

/-- A pulse without a value at the leader: an announced step is taken at it all the same (R365, R366). -/
def State.plainPulse (s : State) : State :=
  let s1 : State :=
    match s.sky.step, s.sky.expected with
    | true, some v => ((({ s with sky := { s.sky with fwd := false, step := false } }).jump v).setFlag TIME_STATUS.STEPPED true).raise
        srcTimeStep (fabSyn 0 0 (((v : Int) - s.sky.ns)))
    | _, _ => s
  s1.tellTime s1.pulseValue

/-- A pulse with a value at the leader (R363–R366). -/
def State.leaderPulse (s : State) (v sub : Nat) : State :=
  let s0 := s.setFlag TIME_STATUS.PTP_VALID true
  let e := s0.phaseError v sub
  let s1 : State :=
    match s0.sky.expected with
    | none => s0.jump v
    | some _ =>
      let t := { s0 with sky := { s0.sky with expected := some v } }
      if t.flag TIME_STATUS.BACKSTEP then t.noteErr e
      else if t.sky.step then
        (((({ t with sky := { t.sky with fwd := false, step := false } }).noteErr e).jump v).setFlag TIME_STATUS.STEPPED true).raise srcTimeStep
          (fabSyn 0 0 (e / 16))
      else if t.stepLimit < e then ({ t with sky := { t.sky with fwd := true } }).noteErr e
      else if e < -t.stepLimit then
        (({ t with sky := { t.sky with fwd := false } }).enterHoldover.setFlag TIME_STATUS.BACKSTEP true |>.levelOn srcTimeBackstep
          (fabSyn 0 0 (e / 16))).noteErr e
      else ({ t with sky := { t.sky with fwd := false } }).discipline e
  s1.tellTime s1.pulseValue

/-- A pulse at a follower: the value the leader told for it, or the previous one plus 1,000 ns (R365). -/
def State.followerPulse (s : State) (sub : Nat) : State :=
  let next : Option Nat := s.sky.expected.map (fun v => v + 1000)
  let told := s.sky.flit
  let stepped := s.sky.step
  let s1 := { s with sky := { s.sky with flit := none, step := false } }
  match told, next with
  | some v, some x =>
    if stepped ∨ 16 * ((v : Int) - (x : Int)) < -s.stepLimit ∨ s.stepLimit < 16 * ((v : Int) - (x : Int)) then
      (s1.noteErr (s1.phaseError v sub)).jump v
    else ({ s1 with sky := { s1.sky with expected := some v } }).discipline (s1.phaseError v sub)
  | some v, none => s1.jump v
  | none, some x =>
    let s2 := { s1 with sky := { s1.sky with expected := some x } }
    if s2.sky.flitAt + 3000000 ≤ s2.now then s2.noteErr (s2.phaseError x sub) else s2.discipline (s2.phaseError x sub)
  | none, none => s1

/-- Does holdover end at a pulse: not while a backward jump waits, nor while a follower hears nothing of the leader? -/
def State.holdoverEnds (s : State) : Bool :=
  !s.flag TIME_STATUS.BACKSTEP && (s.leader || decide (s.now < s.sky.flitAt + 3000000))

/-- A pulse while the block core domain is gated: the Heath advances the value by 1,000 ns; a value that the leader announced
for it is taken (R365–R367). -/
def State.heathPulse (s : State) (value : Option Nat) : State :=
  let next := max s.sky.ns (s.sky.edge + 1000)
  let s1 := { s with sky := { s.sky with ns := next, frac := 0, edge := next, flit := none, step := s.leader && s.sky.step } }
  if s.leader then
    (if s1.sky.step then s1.plainPulse else ((s1.setFlag TIME_STATUS.PTP_VALID value.isSome).tellTime s1.pulseValue))
  else match s.sky.flit with
    | some v =>
      if s.sky.step ∨ s.stepLimit < 16 * ((v : Int) - next).natAbs then s1.jump v else { s1 with sky := { s1.sky with expected := some v } }
    | none => s1

/-- TP_PULSE (R364): the counter is captured and disciplined, or, while the block core domain is gated, advanced by the Heath
(R367). -/
def State.tpPulse (s : State) (value : Option Nat) (sub : Nat) : State :=
  if !s.ps.porst then s
  else
    let gated := s.skyGated
    let sC := if s.leader && value.isSome then s else if s.leader || gated then s.carryOn else s
    let s1 := { sC with sky := { sC.sky with pulseAt := s.now } }
    let s2 := if s1.holdoverEnds then s1.leaveHoldover else s1.noteHoldover
    if gated then
      (match s2.leader, value with
        | true, some v => { s2 with sky := { s2.sky with expected := some v } }
        | _, _ => s2).heathPulse value
    else
      let s3 : State := if s2.leader then
          (match value with
          | some v => s2.leaderPulse v (sub % 16)
          | none => (s2.setFlag TIME_STATUS.PTP_VALID false).plainPulse)
        else s2.followerPulse (sub % 16)
      { s3 with sky := { s3.sky with edge := s3.sky.ns } }

/-- The leader tells the time where no pulse comes (R365): 1.5 µs after the missing one the next is 500 ns away. A
millisecond whose own pulse has gone by too is told by that next pulse, a choice (log 175). -/
def State.tellMissing (s : State) : State :=
  let v := if s.flag TIME_STATUS.BACKSTEP then (s.sky.ns - 1000) / 1000 * 1000 else s.sky.expected.getD ((s.sky.ns - 1000) / 1000 * 1000)
  if s.leader then (if lastOfMs v then { s with sky := { s.sky with step := s.sky.fwd } } |>.toFollowers (.data (.skylark (v + 2000) s.sky.fwd))
    else s.tellTime (v + 1000)) else s

/-- PULSE_MISSING: no pulse within 1.5 µs of the expected time (R366). The expected value, and one announced for the missing
pulse, are carried on to the next; at the leader no value is arriving. -/
def State.pulseMissing (s : State) : State :=
  if !s.ps.porst then s
  else
    let s1 := s.advanceTo (s.sky.pulseAt + 2500)
    let due := s1.sky.pulseAt + 1000
    let u := s1.enterHoldover
    let s2 := { u with sky := { u.sky with
      pulseAt := due
      missRun := s1.sky.missRun + 1
      ns := if s.skyGated then max u.sky.ns (u.sky.edge + 2500) else u.sky.ns
      edge := u.sky.edge + 1000
      flit := if s1.sky.flitAt < due then s1.sky.flit.map (fun v => v + 1000) else s1.sky.flit
      expected := s1.sky.expected.map (fun v => v + 1000) } }
    ((if s2.leader then s2.setFlag TIME_STATUS.PTP_VALID false else s2).incSat TIME_STATUS.MISSED).noteHoldover.tellMissing

/-- SKYLARK_HOLDOVER: a follower has had no millisecond flit for 3 ms (R365). -/
def State.skylarkHoldover (s : State) : State :=
  if s.leader ∨ s.ps.porst = false then s else (s.advanceTo (s.sky.flitAt + 3000000)).enterHoldover

/-- A write of 1 to TIME_CTRL.RESYNC at the leader accepts the backward step that waits (R366). -/
def State.resyncWrite (s : State) : State :=
  let s1 := s.setFlag TIME_CTRL.RESYNC true
  if s.leader ∧ s.flag TIME_STATUS.BACKSTEP = true then s1.setFlag TIME_STATUS.RESYNC_WAIT true else s1

/-- RESYNC_APPLY: the first millisecond pulse at which no commit runs or is queued and no release buffer is held: the step
back is announced at the pulse before it, and every instance takes it at that pulse (R366). -/
def State.resyncApply (s : State) : State :=
  match s.sky.expected with
  | none => s
  | some v =>
    if s.flag TIME_STATUS.RESYNC_WAIT = false ∨ s.hdg.running.isSome = true ∨ s.hdg.queue ≠ [] ∨ s.fab.bufs ≠ [] then s
    else
      let m := (v / 1000000 + 1) * 1000000
      let at_ := s.sky.pulseAt + (m - v)
      let s1 := ((s.advanceTo (at_ - 1000)).toFollowers (.data (.skylark m true))).advanceTo at_
      let s2 := ({ s1 with sky := { s1.sky with pulseAt := s1.now } }).jump m
      ((((s2.setFlag TIME_CTRL.RESYNC false).setFlag TIME_STATUS.RESYNC_WAIT false).setFlag TIME_STATUS.BACKSTEP false).levelOff
        srcTimeBackstep).leaveHoldover

end Sys2Proof.Machine
end

