-- ==== Sys2Proof/Machine/Hub.lean ====
section
/-! DEFINITION. The fault hub's latch, record, lines and clears (R458–R465), and field access: state, scopes and what
ends when a scope is lost (R469–R476). The edge reactions of a raise are with the resets, in Reset. -/

namespace Sys2Proof.Machine

/-! ### The hub's bits -/

/-- The bit of source `i` put to a value. -/
def State.putSrc (s : State) (row : Nat → Nat) (i : Nat) (b : Bool) : State :=
  s.setReg (row (i / 32)) (maskPut (s.reg (row (i / 32))) (i % 32) b)

/-- Sources set in a row. -/
def State.srcSet (s : State) (row : Nat → Nat) : List Nat := (List.range 256).filter (fun i => s.srcBit row i)

/-- Is the reaction bit of some pending source set (R461)? -/
def State.lineOf (s : State) (bit : Nat) : Bool := (s.srcSet FH_PEND).any (fun i => bitAt (s.fld (FH_SRC.REACT i)) bit)

/-- INT: some source of this die with INT is pending. -/
def State.intAny (s : State) : Bool := s.lineOf 0

/-- ERR_PIN: some source of this die with ERR_PIN is pending. -/
def State.errAny (s : State) : Bool := s.lineOf 4

/-- The pin's part in ERR_PIN: some enabled source of this die with ERR_PIN is pending (R97). -/
def State.pinAny (s : State) : Bool :=
  (s.srcSet FH_PEND).any (fun i => s.flag (FH_SRC.EN i) && bitAt (s.fld (FH_SRC.REACT i)) 4)

/-- What die `d` shows at the fault hub's lines: INT, ERR_PIN, and ERR_PIN of enabled sources (R97, R461). -/
def State.putLines (s : State) (d : Nat) (int err pin : Bool) : State :=
  let s1 := (s.setFld FH_PKG.INT_DIE (maskPut (s.fld FH_PKG.INT_DIE) d int)).setFld FH_PKG.ERR_DIE
    (maskPut (s.fld FH_PKG.ERR_DIE) d err)
  { s1 with hub := { s1.hub with pins := maskPut s1.hub.pins d pin } }

/-- The level reactions follow the pending state and the masks (R461): FH_PKG at the leader, a report at a follower. -/
def State.noteLines (s : State) : State :=
  let i := s.intAny
  let e := s.errAny
  let p := s.pinAny
  let d := s.dieId
  if bitAt (s.fld FH_PKG.INT_DIE) d == i && bitAt (s.fld FH_PKG.ERR_DIE) d == e && bitAt s.hub.pins d == p then s
  else (s.putLines d i e p).report (.lines i e p)

/-- Does a raise of source `i` fill the first-error record (R463): it is empty, or a source of a higher index has filled it in
this Heath cycle of 40 ns? -/
def State.fillsFirst (s : State) (i : Nat) : Bool :=
  !s.flag FH_FIRST.VALID || (s.hub.firstAt == s.now / 40 && decide (i < s.fld FH_FIRST.SOURCE))

/-- The first-error record after an enabled raise (R463). -/
def State.recordFirst (s : State) (i syn : Nat) (forced : Bool) : State :=
  let s1 := if s.flag FH_FIRST.VALID then (s.incSat FH_FIRST.COUNT).setFlag FH_FIRST.OVERFLOW true
    else ((s.setFlag FH_FIRST.VALID true).setFlag FH_FIRST.OVERFLOW false).setFld FH_FIRST.COUNT 1
  if s.fillsFirst i then
    let s2 := ((s1.setFlag FH_FIRST.FORCED forced).setFld FH_FIRST.DIE s.dieId).setFld FH_FIRST.SOURCE i
    let s3 := (s2.setReg64 (FH_FIRST_T 0) s.skyNs).setReg64 (FH_FIRST_SYN 0) syn
    { s3 with hub := { s3.hub with firstAt := s3.now / 40 } }
  else s1

/-- The record is emptied (R463). -/
def State.clearFirst (s : State) : State := s.setReg FH_FIRST 0

/-- Body of a FAULT event record (R491). -/
def faultBody (i flags react syn : Nat) : List Nat := pack [(1, i), (1, flags), (1, react), (5, 0), (8, syn)]

/-- The leader presents a fault of a die to the host (R404, R461, R491). -/
def State.faultEvent (s : State) (die i syn flags react time : Nat) : State := s.newEvent 0x02 die time (faultBody i flags react syn)

/-- The hub latches a raise (R460, R463, R468): seen, pending, latched, the record, the level reactions. Answers the
state and the reactions that act; a disabled source has none. -/
def State.hubLatch (s : State) (i syn : Nat) (forced : Bool) : State × Nat :=
  if !s.flag (FH_SRC.IMPL i) then (s, 0)
  else
    let s1 := s.putSrc FH_SEEN i true
    if !s1.flag (FH_SRC.EN i) then (s1, 0)
    else
      let was := s1.srcBit FH_PEND i
      let first := s1.fillsFirst i
      let react := s1.fld (FH_SRC.REACT i)
      let s2 := s1.putSrc FH_PEND i true
      let s3 := if s2.flag (FH_SRC.LATCH i) && !forced then s2.putSrc FH_LATCHED i true else s2
      let s4 := s3.recordFirst i syn forced
      let flags := bnat forced + 2 * bnat (s4.srcBit FH_LATCHED i) + 4 * bnat first
      let s5 := if !was && bitAt react 0 then
          (if s4.leader then s4.faultEvent s4.dieId i syn flags react s4.skyNs else s4.report (.fault i syn flags react s4.skyNs))
        else s4
      (s5.noteLines, react)

/-- A source is cleared, unless it is latched (R464); a LEVEL source whose condition holds is raised again (R458). -/
def State.clearSource (s : State) (i : Nat) : State :=
  if !s.srcBit FH_PEND i || s.srcBit FH_LATCHED i then s
  else
    let s1 := s.putSrc FH_PEND i false
    if bitAt s1.levels i then s1.raise i (SMap.get (fun _ => 0) s1.hub.syn i) else s1

/-- Several sources are cleared. -/
def State.clearSources (s : State) (is : List Nat) : State := (each is (fun i t => t.clearSource i) s).noteLines

/-- FAULT_CLEAR on this die (R467): the state, sources cleared, sources left because latched. -/
def State.faultClear (s : State) (flags source : Nat) : State × Nat × Nat :=
  let pend := if bitAt flags 1 then s.srcSet FH_PEND
    else [source].filter (fun i => s.srcBit FH_PEND i)
  let kept := pend.filter (fun i => s.srcBit FH_LATCHED i)
  let s1 := s.clearSources pend
  (if bitAt flags 0 then s1.clearFirst else s1, pend.length - kept.length, kept.length)

/-- FAULT_READ of this die: its 96 bytes (R467). -/
def State.faultReadOut (s : State) : List Nat :=
  pack ([(1, s.fld FH_FIRST.SOURCE),
    (1, s.fld FH_FIRST.VALID + 2 * s.fld FH_FIRST.OVERFLOW + 4 * s.fld FH_FIRST.FORCED), (2, s.fld FH_FIRST.COUNT),
    (1, s.fld FH_FIRST.DIE), (3, 0), (8, s.reg64 (FH_FIRST_T 0)), (8, s.reg64 (FH_FIRST_SYN 0))] ++
    (List.range 8).map (fun j => (4, s.reg (FH_PEND j))) ++ (List.range 8).map (fun j => (4, s.reg (FH_LATCHED j))) ++ [(8, 0)])

/-! ### Scopes lost (R476) -/

/-- A word with the RWL fields of its register back at what is applied. -/
def RegDesc.dropLocked (d : RegDesc) (staged applied : Nat) : Nat :=
  d.fields.foldl (fun w f => if f.ty == .rwls then withBits w f.hi f.lo (bitsOf applied f.hi f.lo) else w) staged

/-- Does a register's RWL fields' scope lie among those lost? DRP_FORCE and the injection fields have scope INJECT. -/
def RegDesc.losesScope (d : RegDesc) (lost : Nat) : Bool := bitAt lost d.scope && d.fields.any (fun f => f.ty == .rwls)

/-- Staged RWL values of lost scopes are discarded, at this die and in what is staged for the others. -/
def State.dropStaged (s : State) (lost : Nat) : State :=
  let s1 := each s.staged (fun p t =>
    match findReg p.1 with
    | some d => if d.losesScope lost then t.setStaged p.1 (d.dropLocked p.2.toNat (t.reg p.1)) else t
    | none => t) s
  let fix (d : Nat) (m : SMap Nat) : SMap Nat := m.map (fun p =>
    match findReg p.1 with
    | some x => if x.losesScope lost then (p.1, x.dropLocked p.2
        (match SMap.find (SMap.get (fun _ => []) s1.hdg.applied d) p.1 with | some v => v | none => (resetWord p.1).toNat)) else p
    | none => p)
  { s1 with hdg := { s1.hdg with staged := s1.hdg.staged.map (fun p => (p.1, fix p.1 p.2)) } }

/-- What lost scopes were doing ends (R476). -/
def State.loseScopes (s : State) (lost : Nat) : State :=
  if lost = 0 then s
  else
    let s1 := if bitAt lost 0 then
        let t := s.abortAllInj 9
        let u := { t with drp := { t.drp with debug := false } }
        if u.leader ∧ u.forcedAnywhere = true then u.enqueueReserved .relock else u
      else s
    let s2 := if bitAt lost 2 then
        let t := each (List.range 256) (fun i t => t.setFlag (FH_SRC.LATCH i) (bitAt (fhSrcReset i) 8)) s1
        each (List.range 96) (fun k t => t.setFlag (SITE_CFG.ATRIP_MASK k) false) t
      else s1
    let s3 := if bitAt lost 4 then s2.setFld HEATH_TRACE_MASK.FULL 0 else s2
    let s4 : State := if bitAt lost 3 then { s3 with fw := { s3.fw with debugs := [{}, {}] } } else s3
    (s4.dropStaged lost).noteReasons

/-! ### Access state (R469–R472) -/

/-- Seconds left of ACC_TIMER. -/
def State.accLeft (s : State) : Nat := if s.fld ACC_STATE.STATE = 2 then (s.acc.timerEnd - s.now + 999999999) / 1000000000 else 0

/-- The access state changes on this die; scopes no longer held are lost. -/
def State.takeAccess (s : State) (state scope method seconds : Nat) : State :=
  let old := s.scopes
  let s1 := ((s.setFld ACC_STATE.STATE state).setFld ACC_STATE.SCOPE scope).setFld ACC_STATE.METHOD method
  let s2 := { s1 with acc := { s1.acc with timerEnd := if state = 2 then s1.now + 1000000000 * seconds else 0 } }
  s2.loseScopes (maskDiff old s2.scopes)

/-- The package's access state changes at the leader, which tells every follower (R471). -/
def State.setAccess (s : State) (state scope method seconds : Nat) : State :=
  (s.takeAccess state scope method seconds).toFollowers (.data (.access state scope method seconds))

/-- The state returns to LOCKED (R476). -/
def State.relock (s : State) : State := if s.leader ∧ s.fld ACC_STATE.STATE = 2 then s.setAccess 1 0 0 0 else s

end Sys2Proof.Machine
end

