-- ==== Sys2Proof/Machine/Commit.lean ====
section
/-! DEFINITION. The timed commit (R327–R331, R493): its values, Prepare, decision, effect and end; the loss of a die
(R332, R333) and the catch-up of one that leaves OFF (R335). -/

namespace Sys2Proof.Machine

/-! ### Commit kinds and the stage CRC (R327, R328) -/

/-- The kind code of a commit (R327). -/
def CommitAct.kind : CommitAct → Nat
  | .snapshot _ _ => 1
  | .load _ | .drop _ _ => 2
  | .reserve _ _ _ _ _ => 3
  | .share => 4
  | .catchUp _ => 5
  | _ => 0

/-- Does a command start the commit, so that it applies everything staged (R493)? -/
def CommitAct.hostStarted : CommitAct → Bool
  | .config | .snapshot _ _ | .load _ | .drop _ _ | .reserve _ _ _ _ _ => true
  | _ => false

/-- One bit into a CRC-16 with the polynomial 0x1021. -/
def crcBit (crc : Nat) (b : Bool) : Nat :=
  let sh := crc * 2 % 65536
  if bitAt crc 15 != b then sh ^^^ 0x1021 else sh

/-- CRC-16 of bytes: 0x1021, initial value 0xFFFF, no final inversion, most significant bit first (R320). -/
def crc16 (bs : List Nat) : Nat := bs.foldl (fun c x => [7, 6, 5, 4, 3, 2, 1, 0].foldl (fun c k => crcBit c (bitAt x k)) c) 0xFFFF

/-- The stage CRC: over the payloads of the STAGE flits in order (R321, R328). -/
def stageCrc (vs : List (Nat × Nat)) : Nat := crc16 (vs.flatMap (fun p => leBytes 4 p.1 ++ leBytes 4 p.2))

/-! ### What a commit carries (R26, R260, R328, R493) -/

/-- A package value the leader passes on to every follower: BUD configuration, the context limits, HDG_CTRL (R31). -/
def pkgOff (off : Nat) : Bool := decide (0xA000 ≤ off ∧ off < 0xA050) || decide (0x11000 ≤ off ∧ off < 0x13000) || off == HDG_CTRL

/-- A package value of which the dies have shares, or on which they depend (R260). -/
def sharedOff (off : Nat) : Bool := decide (0xA000 ≤ off ∧ off < 0xA050)

/-- Values listed, over registers: later values win. -/
def overRegs (vs : List (Nat × Nat)) (s : State) : State := each vs (fun p t => t.setReg p.1 p.2) s

/-- Values as a map. -/
def asMap (vs : List (Nat × Nat)) : SMap Nat := vs.foldl (fun m p => SMap.enter m p.1 p.2) []

/-- This die's staging copies as values. -/
def State.stagedVals (s : State) : List (Nat × Nat) := s.staged.map (fun p => (p.1, p.2.toNat))

/-- Do the shares follow from what is staged? -/
def State.sharesMove (s : State) : Bool := s.staged.any (fun p => sharedOff p.1)

/-- The state the shares are computed from: the staged values over the applied ones, with new USER caps if the commit
brings them (R260, R421). -/
def State.shareBase (s : State) (act : CommitAct) : State :=
  let o := if act.hostStarted then overRegs s.stagedVals s else s
  match act with
  | .userCaps c => { o with fw := { o.fw with caps := c } }
  | _ => o

/-- A REG_WRITES entry as the value that is staged for die `d`: the staged fields from the entry, every other bit as it is
applied there; none where no staged register is at the offset (R6, R7, R416, log 166). -/
def State.imageValue (s : State) (d : Nat) (w : Nat × Nat) : Option (Nat × Nat) :=
  match findReg w.1 with
  | some r =>
    if r.fields.any FieldDesc.isStaged then some (w.1, r.stageWord (if d = s.dieId then s.reg w.1 else s.dieApplied d w.1) w.2) else none
  | none => none

/-- Values a commit carries for die `d` (R328, R493). -/
def State.valuesFor (s : State) (act : CommitAct) (d : Nat) : List (Nat × Nat) :=
  let base := s.shareBase act
  match act with
  | .share | .userCaps _ => base.shareRegs d
  | .catchUp x =>
    if d = x then SMap.get (fun _ => []) s.hdg.missed d else []
  | .release id =>
    match s.buf id with
    | some b =>
      if d != s.dieId && s.releaseHolds b then
        [((wordRegs b.slot).1, b.newRate + 32768 * b.newSet), ((wordRegs b.slot).2, b.valid)]
      else []
    | none => []
  | .regWrites ws =>
    let mine := (ws.filter (fun w => bitAt w.1 s.dieId)).filterMap (fun w => s.imageValue s.dieId w.2)
    let theirs := (ws.filter (fun w => bitAt w.1 d)).filterMap (fun w => s.imageValue d w.2)
    let own := if d = s.dieId then mine
      else mine.filter (fun p => pkgOff p.1 && !theirs.any (fun q => q.1 == p.1)) ++ theirs
    if mine.any (fun p => sharedOff p.1) then own ++ (overRegs mine s).shareRegs d else own
  | .relock => [(DRP_FORCE, withBits (if d = s.dieId then s.reg DRP_FORCE else s.dieApplied d DRP_FORCE) DRP_FORCE.LEVEL.hi DRP_FORCE.LEVEL.lo 0)]
  | _ =>
    let left : List (Nat × Nat) := s.hdg.fabStaged.filterMap (fun a => match a with | .leave k => some (FAB_LEVEL1 k, 0) | _ => none)
    let own := if d = s.dieId then s.stagedVals
      else s.stagedVals.filter (fun p => pkgOff p.1) ++ SMap.get (fun _ => []) s.hdg.staged d ++ left
    if s.sharesMove then own ++ base.shareRegs d else own

/-- Followers that take part in a commit: members, neither OFF nor LOST (R46, R328); of a catch-up the die alone; of a
release those that carry the word. -/
def State.commitDies (s : State) (act : CommitAct) : List Nat :=
  let up := s.followers.filter (fun d => s.fld (HDG_DIE_STATE.STATE d) == 1)
  match act with
  | .catchUp d => [d]
  | .release id => match s.buf id with
    | some b => up.filter (fun d => (s.wordDies b.slot).contains d)
    | none => []
  | _ => up

/-- Is some other die of the package not among the participants `parts` (R454)? -/
def State.leavesOut (s : State) (parts : List Nat) : Bool :=
  (bitsSet 8 s.dieMask).any (fun d => d != s.dieId && !parts.contains d)

/-- DATA flits that go with a commit before its PREPARE (R328). -/
def State.commitData (s : State) (act : CommitAct) : List Bulk :=
  match act with
  | .snapshot f _ => [.snapshot f (s.leavesOut (s.commitDies act))]
  | .load recs => [.load recs]
  | .drop a n => [.drop a n]
  | .reserve h p t m c => [.reserve h p t m c]
  | .userCaps c => [.userCaps c]
  | .regWrites _ => [.image]
  | .catchUp _ => [.userCaps s.fw.caps, .load (s.arb.profiles.map (fun p => pack [(2, p.2.id), (1, p.2.flags), (1, p.2.ramp), (4, p.2.duration),
      (2, p.2.nTrickle), (2, p.2.nLight), (2, p.2.nMedium), (2, p.2.nFull), (2, p.2.resFrac), (2, 0), (4, p.2.tag), (8, 0)]))]
  | _ => []

/-! ### Profiles and reservations (R145–R152) -/

/-- A profile from its 32 bytes. -/
def parseProfile (r : List Nat) : Profile :=
  { id := pNum r 0 2, flags := pByte r 2, ramp := pByte r 3, duration := pNum r 4 4, nTrickle := pNum r 8 2, nLight := pNum r 10 2,
    nMedium := pNum r 12 2, nFull := pNum r 14 2, resFrac := pNum r 16 2, rsvd := pNum r 18 2 + 65536 * pNum r 24 8, tag := pNum r 20 4 }

/-- Does a record keep the format of R145? -/
def Profile.good (p : Profile) : Bool :=
  decide (p.id < 16384) && decide (p.flags < 8) && bitAt p.flags 0 && decide (0 < p.duration) &&
  decide (p.nTrickle + p.nLight + p.nMedium + p.nFull ≤ 32768) && decide (p.resFrac ≤ 256) && p.rsvd == 0

/-- Does a live or pending reservation use a profile (R152)? -/
def State.profileUsed (s : State) (id : Nat) : Bool := s.arb.resvs.any (fun r => !r.hint && r.profile == id)

/-- This die's clusters in a package mask (R152). -/
def maskOfDie (mask d : Nat) : Nat := bitsOf mask (320 * d + 319) (320 * d)

/-- Does someone read this die's snapshot bank (R447)? -/
def State.bankRead (s : State) : Bool := s.cmds.any (fun p => p.2.bank) || s.hdg.serving.any (fun p => p.2.bank)

/-- What Prepare finds against an act on this die (R152, R447): 2^12 BUSY, 2^13 INVALID, 2^14 DENIED, 2^15 NOT_FOUND;
2^16 a snapshot refused without region bits. -/
def State.actFaults (s : State) (act : CommitAct) : Nat :=
  match act with
  | .snapshot _ _ => if s.obs.snapAt.isSome || s.bankRead then 2 ^ 16 else 0
  | .load recs =>
    let ps := recs.map parseProfile
    2 ^ 13 * bnat (ps.any (fun p => !p.good)) + 2 ^ 12 * bnat (ps.any (fun p => s.profileUsed p.id))
  | .drop a n =>
    let ids := (List.range n).map (fun k => a + k)
    2 ^ 15 * bnat (ids.any (fun k => !SMap.has s.arb.profiles k)) + 2 ^ 12 * bnat (ids.any s.profileUsed)
  | .reserve hint p _ mask ctx =>
    let own := maskOfDie mask s.dieId
    let lostDie := s.leader && (List.range 8).any (fun d =>
      maskOfDie mask d != 0 && !(if d = s.dieId then s.pstate != 0 else s.fld (HDG_DIE_STATE.STATE d) == 1))
    2 ^ 15 * bnat (!hint && !SMap.has s.arb.profiles p) +
    2 ^ 13 * bnat (lostDie || own &&& s.tie.positions != own) +
    2 ^ 14 * bnat (match ctx with | some x => (bitsSet 320 own).any (fun c => s.ctxOf c != x) | none => false) +
    2 ^ 12 * bnat (own != 0 && decide (64 ≤ s.arb.resvs.length))
  | _ => 0

/-- The reservation an act creates on this die, if it names a cluster of it (R146, R147, R149). -/
def State.newResv (s : State) (hint : Bool) (p t mask : Nat) : Option Reservation :=
  let cs := bitsSet 320 (maskOfDie mask s.dieId)
  if cs.isEmpty then none
  else
    let prof := SMap.get (fun _ => {}) s.arb.profiles p
    let shares : SMap Nat := cs.map (fun c => (c, if hint then s.hintShare c else s.shareOf prof))
    let total : Nat := (shares.map (fun q => q.2)).sum
    some {
      hint := hint, profile := p, tag := if hint then 0 else prof.tag, t := t
      startAt := t - 250 * s.fld ADM_LEAD.RESERVE
      endAt := t + (if hint then 1000 * s.fld ADM_LEAD.HINT_HOLD else prof.duration)
      slope := s.resvSlope (if hint then 0 else prof.ramp)
      prebias := (hint || bitAt prof.flags 1) && decide (0 < total)
      shares := shares }

/-! ### Prepare on one die (R328) -/

/-- Is an offset one of a level word, which a STAGE flit carries for a release? -/
def wordOff (off : Nat) : Bool := decide (FAB_LEVEL0 0 ≤ off ∧ off ≤ FAB_LEVEL1 255) || off == FAB_EMERG || off == FAB_EMERG_LEFT

/-- The checks of Prepare: failing masks per check register, region bits with the faults of the act. A follower's values
of level words are no registers. -/
def State.prepareFaults (s : State) (vs : List (Nat × Nat)) (act : Option CommitAct) (fab : List FabAct) : List Nat × Nat :=
  let o := overRegs (vs.filter (fun p => !wordOff p.1)) s
  let ms := o.checkAll s fab (match act with | some (.regWrites _) => true | _ => false)
  (ms, regionsOf ms + (match act with | some a => s.actFaults a | none => 0))

/-! ### Effects (R328) -/

/-- The applied values a commit changed: did a register between two offsets change? -/
def changedIn (old new : State) (lo hi : Nat) : Bool :=
  (old.regs ++ new.regs).any (fun p => decide (lo ≤ p.1 ∧ p.1 < hi) && old.reg p.1 != new.reg p.1)

/-- The limiter's part: a table change acts as a re-step, or waits for the handshake under way and for a power state in which
steps are taken (R267, R269). A handshake to point 0 that has not begun takes the new table itself. The voltages in force are
kept until the re-step moves them, unless the rails stand at their retention setpoints. -/
def State.applyTable (s old : State) : State :=
  if changedIn old s OPP_CTRL (OPP_CTRL + 4) || changedIn old s (OPP_PT_A 0) (OPP_PT_B 31 + 4) then
    let k := old.fld OPP_STATUS.V_IDX
    let v := old.lim.voltOld.getD (old.fld (OPP_PT_A.VCORE k), old.fld (OPP_PT_B.VCACHE k))
    if !s.ps.railsReady then s
    else if s.restepMay then s.restepStart v
    else
      let p := s.fld (OPP_PT_B.POOL_MAX (min s.opIndex s.topPoint))
      { s with lim := { s.lim with
        restep := s.lim.req || s.lim.step.kind != 4
        voltOld := if s.retaining then none else some v
        poolMaxLive := min s.lim.poolMaxLive p } }
  else s

/-- Energy windows: enabled, changed in length, or disabled (R264). -/
def State.applyWindows (s old : State) : State :=
  each [0, 1, 2, 3] (fun w t =>
    if t.winOn w then
      (if !old.winOn w || old.fld (BUD_WIN_LEN.LEN w) != t.fld (BUD_WIN_LEN.LEN w) then t.fillWindow w else t)
    else if old.winOn w then t.dropWindow w else t) s

/-- A register of the estimator's model: weights, axes, leakage, temperature axis (R233, R236). -/
def modelOff (off : Nat) : Bool :=
  decide (0x20100 ≤ off ∧ off < 0x20180) || decide (0x20200 ≤ off ∧ off < 0x20280) || decide (0x20400 ≤ off ∧ off < 0x21400) ||
  decide (EST_TAX 0 ≤ off ∧ off < EST_TAX 8)

/-- What a commit replaces of the model stays in use for the interval under way (R246); a commit that comes before that
interval has been computed leaves what stands there already. -/
def State.keepModel (s old : State) : State :=
  let offs := ((old.regs ++ s.regs).map (fun p => p.1)).filter (fun o =>
    modelOff o && old.reg o != s.reg o && !s.est.oldModel.any (fun p => p.1 == o))
  if offs.isEmpty then s
  else { s with est := { s.est with
    oldModel := s.est.oldModel ++ offs.dedup.map (fun o => (o, old.reg o)), modelFrom := ceilMult s.skyNs 1000 } }

/-- The estimator: a changed model starts its rail's gain again and is used from the next interval on (R244, R246, R247); a
change of CAL_EN spoils the calibration millisecond (R241). -/
def State.applyModel (s0 old : State) : State :=
  let moved := s0.flag EST_CTRL.CAL_EN != old.flag EST_CTRL.CAL_EN
  let s := ({ s0 with est := { s0.est with calMoved := s0.est.calMoved || moved } }).keepModel old
  let tax := changedIn old s (EST_TAX 0) (EST_TAX 8)
  (each [0, 1, 2, 3] (fun r t =>
    if tax || changedIn old s (0x20100 + 0x20 * r) (0x20120 + 0x20 * r) || changedIn old s (0x20200 + 0x20 * r) (0x20220 + 0x20 * r)
      || changedIn old s (0x20400 + 0x400 * r) (0x20800 + 0x400 * r)
    then t.resetGain r else t) s).noteModel

/-- Injections stop at the fall of EN and start at its rise, so that one commit may move it to another rail (R219, R222,
R223). -/
def State.applyInj (s old : State) : State :=
  let was (n : Nat) := old.flag (RAIL_INJ_CTRL.EN n)
  let is (n : Nat) := s.flag (RAIL_INJ_CTRL.EN n)
  let stopped := each [0, 1, 2, 3] (fun n t => if was n && !is n then t.abortInj n 8 else t) s
  each [0, 1, 2, 3] (fun n t => if !was n && is n then t.startInj n else t) stopped

/-- Trims written with TRIM_FIX replace calibration from the effective time (R168). -/
def State.applyTrims (s old : State) : State :=
  if changedIn old s 0x40000 0x90000 then
    each s.clusters (fun c t =>
      if (old.flag (AGT_DRP_CFG.TRIM_FIX c) || t.flag (AGT_DRP_CFG.TRIM_FIX c)) && old.reg (AGT_DRP_CFG c) % 512 != t.reg (AGT_DRP_CFG c) % 512 then
        (t.loadTrim c (t.agent c).det.point).startCal c
      else t) s
  else s

/-- Fabric acts, and HELLOs where EN has come on (R346, R348, R350); then the rates are looked at, of groups joined and under
the new target index (R353, R354). -/
def State.applyFab (s old : State) (fab : List FabAct) : State :=
  let one (t : State) (a : FabAct) : State :=
    match a with
    | .peers ps => each ps (fun p u => u.enterPeer p.1 p.2.1 p.2.2 true) t
    | .join g => match freeSlot t.fab.groups with
      | some k => { t with fab := { t.fab with groups := SMap.enter t.fab.groups k g } }
      | none => t
    | .leave k =>
      let gone := { t with fab := { t.fab with
        groups := SMap.drop t.fab.groups k, sentRate := SMap.drop t.fab.sentRate k, retryAt := SMap.drop t.fab.retryAt k } }
      gone.clearWord k
  let s1 := (fab.foldl one s)
  let s2 := if !old.fabOn && s1.fabOn then s1.sendHellos else s1
  (if fab.isEmpty then s2 else s2.repace).noteRate

/-- A release's STAGE entries at a follower's words (R352, R358): SET with RATE and a validity, or clear. A word that has
expired since they came stays clear. -/
def State.applyWords (s : State) (vs : SMap Nat) : State :=
  each (vs.filter (fun p => wordOff p.1)) (fun p t =>
    let i := if p.1 = FAB_EMERG ∨ p.1 = FAB_EMERG_LEFT then emergIdx else (p.1 - FAB_LEVEL0 0) / 8
    if p.1 = FAB_EMERG ∨ (p.1 ≠ FAB_EMERG_LEFT ∧ (p.1 - FAB_LEVEL0 0) % 8 = 0) then
      (if !bitAt p.2 15 then t.clearWord i
        else if (t.word i).set then (t.setWord i { t.word i with rate := p.2 % 256 }).repace else t)
    else if (t.word i).set then
      (if p.2 = 0 then t.clearWord i else t.setWord i { t.word i with expiry := t.skyNs + 1000 * p.2, resend := false })
    else t) s

/-- What applied values set going (R119, R172, R182, R286, R296). -/
def State.applyEffects (s old : State) : State :=
  let s1 := (((s.applyTable old).applyWindows old).applyModel old).applyTrims old
  let s2 := s1.applyInj old
  let s3 := { s2 with drp := { s2.drp with debug := s2.fld DRP_FORCE.LEVEL != 0 && s2.hasScope 0 && !s2.inReset } }
  let s4 := if old.reg THM_THR != s3.reg THM_THR then { s3 with thm := { s3.thm with warnRun := 0, thrRun := 0, shutRun := 0 } } else s3
  let s5 := if old.reg THM_SAFE != s4.reg THM_SAFE then s4.showCaps else s4
  s5.operandChange

/-- The act of a prepared set at its effective time `at_`. -/
def State.applyAct (s : State) (id kind at_ : Nat) (act : CommitAct) : State :=
  match act with
  | .snapshot f left =>
    let s1 := s.snapFreeze id at_ f
    { s1 with obs := { s1.obs with leftOut := left } }
  | .load recs =>
    let ps := recs.map parseProfile
    let base := if kind = 5 then [] else s.arb.profiles
    { s with arb := { s.arb with profiles := ps.foldl (fun m p => SMap.enter m p.id p) base } }
  | .drop a n => { s with arb := { s.arb with profiles := s.arb.profiles.filter (fun p => !decide (a ≤ p.1 ∧ p.1 < a + n)) } }
  | .reserve h p t m _ =>
    match s.newResv h p t m with
    | some r => s.createResv r
    | none => s
  | .userCaps c => (({ s with fw := { s.fw with caps := c } }).operandChange).noteRate
  | .release rid => s.applyRelease rid
  | _ => s

/-- Staging copies that now equal what is applied are no longer staged (R328). -/
def State.settleStaged (s : State) : State :=
  { s with staged := s.staged.filter (fun p => p.2 != SMap.get resetWord s.regs p.1) }

/-- The same for what the leader holds staged for its followers. -/
def State.settleDies (s : State) : State :=
  let settle (h : Hedgerow) (d : Nat) : Hedgerow :=
    { h with staged := SMap.put (fun _ => []) h.staged d (
        (SMap.get (fun _ => []) h.staged d).filter (fun p => injCtrlOff p.1 || p.2 != s.dieApplied d p.1)) }
  { s with hdg := s.followers.foldl settle s.hdg }

/-- The prepared set takes effect on this die (R328). -/
def State.applySet (s : State) (p : Prepared) : State :=
  let old := s
  let vs := p.regs.filter (fun q => !wordOff q.1)
  let s1 := (overRegs vs s).settleStaged
  let s2 := (s1.applyEffects old).applyFab old p.fab
  let s3 := s2.applyWords p.regs
  let s4 := match p.act with
    | some a => s3.applyAct p.id p.kind (p.t.getD s3.skyNs) a
    | none => s3
  let s5 := { s4 with hdg := { s4.hdg with prepared := none } }
  let s6 := s5.incSat HDG_COMMIT_CNT.APPLIED
  if p.kind = 5 ∧ s6.leader = false then ({ s6 with ps := { s6.ps with catchUp := false } }).tryStepSix else s6

/-! ### The end of a commit at the leader (R329–R331) -/

/-- Catch-ups that wait join the queue while it has room (R335). -/
def State.queueCatchUps (s : State) : State :=
  each (s.hdg.catching.map (fun p => p.1)) (fun d t =>
    let waits := t.hdg.queue.any (fun c => c.act == .catchUp d) ||
      (match t.hdg.running with | some c => c.act == .catchUp d | none => false)
    if !waits && t.queueRoom then t.enqueue { act := .catchUp d } else t) s

/-- HDG_COMMIT_ID of an attempt. -/
def State.showCommit (s : State) (id result kind bad : Nat) : State :=
  (((s.setFld HDG_COMMIT_ID.ID id).setFld HDG_COMMIT_ID.RESULT result).setFld HDG_COMMIT_ID.KIND kind).setFld HDG_COMMIT_ID.FAILED_DIES bad

/-- The result a command's reply carries once its commit has ended (R228, R394, R397, R453). -/
def commitResult (c : Commit) (opcode status : Nat) : List Nat :=
  if opcode = 0x0102 then pack [(2, c.id), (1, c.bad), (1, 0), (4, c.regions % 4096)]
  else if status ≠ stOk then []
  else if opcode = 0x0501 then pack [(2, c.id), (2, c.id), (4, 0), (8, c.t)]
  else if opcode = 0x0901 then pack [(8, c.t)]
  else []

/-- The first bad byte of a profile record (R145). -/
def Profile.badByte (p : Profile) : Nat :=
  if 16384 ≤ p.id then 0
  else if 8 ≤ p.flags ∨ bitAt p.flags 0 = false then 2
  else if p.duration = 0 then 4
  else if 32768 < p.nTrickle + p.nLight + p.nMedium + p.nFull then 8
  else if 256 < p.resFrac then 16
  else if p.rsvd % 65536 ≠ 0 then 18 else 24

/-- The first faulty parameter byte of a command that its commit's Prepare finds INVALID (R152, R385): the first bad
profile record, or the first byte of the mask with a cluster of a die that is not there or an unpopulated position. -/
def State.invalidByte (s : State) (c : Commit) : Nat :=
  match c.act with
  | .load recs =>
    match (recs.map parseProfile).findIdx? (fun p => !p.good) with
    | some i => 32 + 32 * i + (match recs[i]? with | some r => (parseProfile r).badByte | none => 0)
    | none => 0
  | .reserve _ _ _ mask _ =>
    let wrong (k : Nat) : Bool := bitAt mask k && (if k / 320 = s.dieId then s.pstate == 0 || !s.present (k % 320)
      else s.fld (HDG_DIE_STATE.STATE (k / 320)) != 1 || bitAt c.bad (k / 320))
    16 + (((List.range 2560).find? wrong).getD 0) / 8
  | _ => 0

/-- The command that asked for a commit completes. JOIN_GROUP returns the slot that its group has (R397). -/
def State.answerCommit (s : State) (c : Commit) (status : Nat) : State :=
  match c.who with
  | none =>
    match c.act with
    | .userCaps _ => if s.fld (HEATH_FW_COMP.STATE 7) = 1 then s.emit (.user (status != stOk) status) else s
    | _ => s
  | some m =>
    match s.cmd m with
    | none => s
    | some a =>
      if a.stage ≠ 2 then s
      else
        let joined := if a.hdr.opcode = 0x0402 ∧ (status = stOk ∨ status = stEmpty) then slotOfGroup s.fab.groups (pNum a.params 0 2) else none
        let res := match joined with
          | some k => leBytes 4 k
          | none => commitResult c a.hdr.opcode status
        s.finish m status (if status = stConflict then c.regions % 4096 else if status = stInvalid then s.invalidByte c else 0)
          (if status = stOk then c.t else 0) res

/-- The leader is free for the next commit; what waited for room joins the queue. -/
def State.endCommit (s : State) : State :=
  ({ s with hdg := { s.hdg with running := none } }).queueOwed.queueReleases.queueCatchUps

/-- A catch-up failed: the leader marks the die LOST with what follows elsewhere; its own part here is that the die no
longer waits. -/
def State.dropCatch (s : State) (d : Nat) : State := { s with hdg := { s.hdg with catching := SMap.drop s.hdg.catching d } }

/-- The running commit ends without effect (R329): ABORT to every participant that holds the set. -/
def State.abortCommit (s : State) (status : Nat) : State :=
  match s.hdg.running with
  | none => s
  | some c =>
    let held := maskDiff c.parts c.bad ||| (c.parts &&& c.wait)
    let s1 := each (bitsSet 8 held) (fun d t => t.send d (c.id % 256) (.abort c.id)) s
    let s2 := ({ s1 with hdg := { s1.hdg with prepared := none } }).settleStaged.settleDies
    let s3 := (s2.showCommit c.id (if status = stTimeout then 4 else 3) c.act.kind c.bad).incSat HDG_COMMIT_CNT.ABORTED
    let s4 : State := match c.act with
      | .release id =>
        match s3.buf id with
        | some b =>
          if b.orig then (s3.freeBuf id).incSat FAB_REL_STATUS.ABORTS |>.setFld FAB_REL_STATUS.RESULT 2 else s3.freeBuf id
        | none => s3
      | .catchUp d => s3.dropCatch d
      | .relock => if s3.forcedAnywhere then s3.enqueueReserved .relock else s3
      | _ => s3
    (s4.answerCommit c status).endCommit

/-- The status of a commit whose participants answered badly (R152, R329). -/
def badStatus (regions : Nat) : Nat :=
  if regions % 4096 ≠ 0 then stConflict
  else if bitAt regions 15 then stNotFound
  else if bitAt regions 13 then stInvalid
  else if bitAt regions 14 then stDenied
  else if bitAt regions 12 then stBusy
  else stConflict

/-- COMMIT_LEAD in ns. -/
def State.commitLead (s : State) : Nat := 50 * s.fld HDG_CTRL.COMMIT_LEAD

/-- The effective time the leader chooses (R328, R358). -/
def State.chooseT (s : State) (act : CommitAct) : Nat :=
  let t := s.skyNs + s.commitLead
  match act with
  | .release id => match s.buf id with
    | some b => max t (b.t.getD 0)
    | none => t
  | _ => t

/-- Once every participant has answered: COMMIT with T, or the end without effect (R328, R329). In a block reset nothing is
decided: the commit will be aborted as the reset completes (R330). -/
def State.decideCommit (s : State) : State :=
  match s.hdg.running with
  | none => s
  | some c =>
    if c.phase ≠ 1 ∨ c.wait ≠ 0 ∨ s.inReset = true then s
    else if c.bad ≠ 0 then s.abortCommit (badStatus c.regions)
    else
      let t := s.chooseT c.act
      let s1 := each (bitsSet 8 c.parts) (fun d u => u.send d (c.id % 256) (.commit t)) s
      ({ s1 with hdg := { s1.hdg with
          running := some { c with phase := 2, t := t }
          prepared := s1.hdg.prepared.map (fun (p : Prepared) => { p with t := some t }) } }).setReg64 (HDG_COMMIT_T 0) t

/-! ### The start of a commit (R328, R331) -/

/-- Everything staged on any die, or carried by the act: is there nothing to do? -/
def State.nothingStaged (s : State) : Bool :=
  s.staged.isEmpty && s.hdg.staged.all (fun p => p.2.isEmpty) && s.hdg.fabStaged.isEmpty

/-- Prepare at the leader, then STAGE, DATA and PREPARE to every participant (R328). -/
def State.runCommit (s : State) (c0 : Commit) : State :=
  let id := (s.hdg.nextId + 1) % 65536
  let own := s.valuesFor c0.act s.dieId
  let fab := if c0.act.hostStarted then s.hdg.fabStaged else []
  let parts := s.commitDies c0.act
  let alone := match c0.act with | .catchUp _ => true | _ => false
  let found := if alone then ([], 0) else s.prepareFaults own (some c0.act) fab
  let mask := parts.foldl maskSet 0
  let c := { c0 with id := id, phase := 1, wait := mask, parts := mask, regions := found.2,
                     bad := if found.2 = 0 then 0 else maskSet 0 s.dieId, at_ := s.now,
                     vals := s.followers.map (fun d => (d, s.valuesFor c0.act d)) }
  let s1 := { s with hdg := { s.hdg with
    nextId := id, running := some c
    prepared := some { id := id, kind := c.act.kind, act := some c.act, regs := asMap own, fab := fab, at_ := s.now } } }
  let s2 := (s1.noteChecks found.1).showCommit id 5 c.act.kind 0
  let s3 := each parts (fun d t =>
    let vs := SMap.get (fun _ => []) c.vals d
    let t1 := each vs (fun p u => u.send d (id % 256) (.stage p.1 p.2)) t
    let t2 := each (s.commitData c.act) (fun b u => u.send d (id % 256) (.data b)) t1
    t2.send d (id % 256) (.prepare id c.act.kind vs.length (stageCrc vs))) s2
  s3.decideCommit

/-- May a queued commit start? One that the block originates needs the POLICY compartment (R409). -/
def State.mayStart (s : State) (c : Commit) : Bool := c.who.isSome || s.fld (HEATH_FW_COMP.STATE 2) != 3

/-- COMMIT_START: the commit at the head of the queue starts once none runs (R331), of those that may. A commit with nothing
staged ends at once; a release whose word no longer changes is over. -/
def State.commitStart (s : State) : State :=
  if !s.leader || s.inReset || !s.ps.porst || s.fw.paused || s.hdg.running.isSome then s
  else match s.hdg.queue.find? s.mayStart with
  | none => s
  | some c =>
    let s1 := { s with hdg := { s.hdg with queue := s.hdg.queue.erase c } }
    match c.act with
    | .config =>
      if s1.nothingStaged then
        let id := (s1.hdg.nextId + 1) % 65536
        let s2 := ({ s1 with hdg := { s1.hdg with nextId := id } }).showCommit id 2 0 0
        (s2.answerCommit { c with id := id } stEmpty).endCommit
      else s1.runCommit c
    | .release id =>
      match s1.buf id with
      | some b => if s1.releaseHolds b then s1.runCommit c else s1.applyRelease id
      | none => s1
    | .catchUp d => if SMap.has s1.hdg.catching d then s1.runCommit c else s1
    | _ => s1.runCommit c

/-! ### The effective time (R328) -/

/-- What the leader knows of the followers after a commit: applied values, what stays staged, what a die in OFF missed. -/
def State.noteApplied (s : State) (c : Commit) : State :=
  let set (h : Hedgerow) (d : Nat) : Hedgerow :=
    let vs := SMap.get (fun _ => []) c.vals d
    if bitAt c.parts d then
      let ap := vs.foldl (fun m p => SMap.enter m p.1 p.2) (SMap.get (fun _ => []) h.applied d)
      let st := (SMap.get (fun _ => []) h.staged d).filter (fun p => SMap.find ap p.1 != some p.2)
      { h with
        applied := SMap.put (fun _ => []) h.applied d ap
        staged := SMap.put (fun _ => []) h.staged d st
        missed := if c.act = .catchUp d then SMap.drop h.missed d else h.missed }
    else if s.fld (HDG_DIE_STATE.STATE d) = 2 then
      let ms := vs.foldl (fun m p => SMap.enter m p.1 p.2) (SMap.get (fun _ => []) h.missed d)
      { h with
        missed := SMap.put (fun _ => []) h.missed d ms
        staged := SMap.put (fun _ => []) h.staged d ((SMap.get (fun _ => []) h.staged d).filter (fun p => !vs.contains p)) }
    else h
  { s with hdg := s.followers.foldl set s.hdg }

/-- COMMIT_APPLY: the first cycle at or after T (R328). The leader's commit ends with it. -/
def State.commitApply (s : State) : State :=
  match s.hdg.prepared with
  | none => s
  | some p =>
    match p.t with
    | none => s
    | some t =>
      let s1 := s.advanceSky t
      match s1.hdg.running with
      | some c =>
        if s1.leader ∧ c.phase = 2 then
          let left := s1.leavesOut (bitsSet 8 c.parts)
          let s2 := (s1.noteApplied c).applySet (match c.act with | .catchUp _ => { p with regs := [], act := none } | _ => p)
          let s3 := { s2 with hdg := { s2.hdg with fabStaged := s2.hdg.fabStaged.drop p.fab.length } }
          let s4 := s3.showCommit c.id 1 c.act.kind 0
          let s5 : State := match c.act with
            | .catchUp d => s4.dropCatch d
            | .snapshot _ _ => { s4 with obs := { s4.obs with leftOut := left } }
            | _ => s4
          (s5.answerCommit c stOk).endCommit
        else s1.applySet p
      | none => s1.applySet p

/-! ### Loss of a die (R332, R333) -/

/-! ### GET_BUDGET (R394) -/

/-- A word of this die as GET_BUDGET shows it: staged where SOURCE asks for it. -/
def State.budgetWord (s : State) (ps : List Nat) (off : Nat) : Nat := if pByte ps 1 = 1 then s.stagedReg off else s.reg off

/-- The 120-byte result: the package's words, then the ten words of the die; OPP_HOST_CAP is the staged one where
SOURCE asks for it. -/
def State.budgetWith (s : State) (ps dieWords : List Nat) : List Nat :=
  let own := (List.range 20).flatMap (fun k => leBytes 4 (s.budgetWord ps (BUD_CTRL + 4 * k)))
  let d := pByte ps 0
  let cap := match (if pByte ps 1 ≠ 1 then none else if d = s.dieId then some (s.stagedReg OPP_HOST_CAP)
      else SMap.find (SMap.get (fun _ => []) s.hdg.staged d) OPP_HOST_CAP) with
    | some v => leBytes 4 v
    | none => (dieWords.drop 28).take 4
  own ++ dieWords.take 28 ++ cap ++ (dieWords.drop 32).take 8

/-- A tenant's 40-byte result: the limits of its context, then its outstanding quanta on the dies 0 to 7. -/
def State.ctxBudget (s : State) (m : Nat) (ps acc : List Nat) : List Nat :=
  let x := (s.tenantOf m).getD 0
  leBytes 4 (s.budgetWord ps (ADM_CTX_MAX x)) ++ leBytes 4 (s.budgetWord ps (ADM_CTX_MIN x)) ++
  (List.range 8).flatMap (fun d => leBytes 4 (listGet 0 acc (d + 1)))

/-! ### Values and commits that commands stage (R327, R331, R394) -/

/-- The staged value of a register of a die as the leader knows it. -/
def State.stagedOf (s : State) (d off : Nat) : Nat := if d = s.dieId then s.stagedReg off else s.dieStaged d off

/-- A value is staged for a die: in this die's staging copy, or at the leader for a follower's. What a running commit carries
to that die already is listed whatever its value: it belongs to the next commit (R331). -/
def State.stageAt (s : State) (d off v : Nat) : State :=
  match findReg off with
  | none => s
  | some r =>
    let w := r.stageWord (s.stagedOf d off) v
    if d = s.dieId then s.setStaged off w
    else
      let m := SMap.get (fun _ => []) s.hdg.staged d
      let runs := match s.hdg.running with
        | some c => SMap.has (SMap.get (fun _ => []) c.vals d) off
        | none => false
      let m1 := if w = s.dieApplied d off ∧ injCtrlOff off = false ∧ runs = false then SMap.drop m off else SMap.enter m off w
      { s with hdg := { s.hdg with staged := SMap.put (fun _ => []) s.hdg.staged d m1 } }

/-- A commit of a command takes its place in the queue; `stage` is what the command stages first. BUSY where there is no
place. -/
def State.commitFor (s : State) (m : Nat) (a : Active) (act : CommitAct) (stage : State → State) : State :=
  if !s.queueRoom then s.done m stBusy
  else ((stage s).waits m a).enqueue { act := act, who := some m, epoch := a.hdr.hostEpoch }

/-- INJECT_START stages the injection fields of its rail and commits them (R228). -/
def State.injectCommit (s : State) (m : Nat) (a : Active) : State :=
  let ps := a.params
  let d := pByte ps 0
  let n := pByte ps 1
  s.commitFor m a .config (fun t =>
    let ctrl := withBits (withBits (withBits (withBits 1 2 1 (pByte ps 2)) 7 4 (pByte ps 3)) 15 8 (pByte ps 6)) 31 16 (pNum ps 12 2)
    let t1 := (t.stageAt d (RAIL_INJ_CTRL n) ctrl).stageAt d (RAIL_INJ_AMP n) (pNum ps 4 2)
    if pByte ps 3 = 0 then t1.stageAt d (RAIL_INJ_FREQ n) (pNum ps 8 4) else t1)

/-- DETAIL of a forwarded command that is INVALID at its follower: the first faulty parameter (R385). -/
def fwdDetail (opcode : Nat) : Nat := if opcode = 0x0504 ∨ opcode = 0x0802 ∨ opcode = 0x0803 then 2 else 0

/-- A forwarded command ends at one die; one for every die ends with its last (R336, R455, R467). `acc` of such a
command holds the worst status and two counts. -/
def State.fwdEnd (s : State) (tag status : Nat) (result : List Nat) : State :=
  match SMap.find s.hdg.fwd tag with
  | none => s
  | some (m, d, _) =>
    let s1 := { s with hdg := { s.hdg with fwd := SMap.drop s.hdg.fwd tag } }
    match s1.cmd m with
    | none => s1
    | some a =>
      if a.hdr.opcode = 0x0901 ∧ status = stOk then s1.injectCommit m a
      else if a.acc.isEmpty then
        s1.finish m status (if status = stInvalid then fwdDetail a.hdr.opcode else 0) 0
          (if a.hdr.opcode = 0x0104 ∧ status = stOk then s1.budgetWith a.params result else result)
      else if a.hdr.opcode = 0x0104 then
        let acc := listSet (listSet a.acc 0 (max (listGet 0 a.acc 0) status)) (d + 1) (pNum result 0 4)
        let left := maskClear a.dies d
        if left ≠ 0 then s1.setCmd m { a with dies := left, acc := acc } else s1.finish m (listGet 0 acc 0) 0 0 (s1.ctxBudget m a.params acc)
      else
        let acc := [max (listGet 0 a.acc 0) status, listGet 0 a.acc 1 + pNum result 0 2, listGet 0 a.acc 2 + pNum result 2 2]
        let left := maskClear a.dies d
        if left ≠ 0 then s1.setCmd m { a with dies := left, acc := acc }
        else s1.finish m (listGet 0 acc 0) 0 0
          (if a.hdr.opcode = 0x0802 then pack [(2, listGet 0 acc 1), (2, listGet 0 acc 2)] else [])

/-- Forwarded commands in progress at a die end with TIMEOUT. -/
def State.failForwarded (s : State) (d : Nat) : State :=
  each ((s.hdg.fwd.filter (fun p => p.2.2.1 == d)).map (fun p => p.1)) (fun tag t => t.fwdEnd tag stTimeout []) s

/-- Does the link still owe the delivery of a COMMIT? -/
def Link.owesCommit (k : Link) : Bool :=
  k.unacked.any (fun x => match x.payload with | .commit _ => true | _ => false) ||
  k.queue.any (fun x => match x.payload with | .commit _ => true | _ => false)

/-- The running commit where one of its participants is lost (R329). -/
def State.commitLoses (s : State) (d : Nat) (owed : Bool) : State :=
  match s.hdg.running with
  | none => s
  | some c =>
    if bitAt c.parts d ∧ (c.phase = 1 ∨ owed = true) then
      ({ s with hdg := { s.hdg with running := some { c with bad := maskSet c.bad d, wait := maskClear c.wait d,
                                                             parts := maskClear c.parts d } } }).abortCommit stTimeout
    else s

/-- The leader marks a follower LOST (R332). -/
def State.markLost (s : State) (d : Nat) : State :=
  if !s.leader || d = s.dieId || s.fld (HDG_DIE_STATE.STATE d) = 3 || 7 < d then s
  else
    let k := s.link d
    let s1 := (s.setFld (HDG_DIE_STATE.STATE d) 3).raise srcHdgDieLost (syndrome d 0 0)
    let s2 : State := { s1.setLink d { k with failed := true, unacked := [], queue := [], wakeAt := none } with
      thm := { s1.thm with dieFlags := SMap.drop s1.thm.dieFlags d, dieStacks := SMap.drop s1.thm.dieStacks d } }
    let s3 := ((s2.dropCatch d).failForwarded d).commitLoses d k.owesCommit
    let s4 := s3.enqueueReserved .share
    ((s4.newEvent 0x03 d s4.skyNs (pack [(1, 2)])).pldmEvent 2 d 2).reachReady.originateAll

/-- A catch-up that never came, or a lost leader, ends a follower's way out of OFF (R335): the die stays OFF, where its
clocks stop again (R16, R17). -/
def State.catchUpFails (s : State) : State :=
  if s.ps.catchUp then ({ s with ps := { s.ps with catchUp := false, catchFailed := true } }).psRefuse.stopClocks else s

/-- A follower enters AUTONOMOUS (R333, R471); it applies no release any more (R362); in start-up it has no leader to report
to and stops (R113). -/
def State.autonomous (s : State) : State :=
  if s.leader || s.flag HDG_STATUS.AUTONOMOUS then s
  else
    let s0 := s.takeAccess 1 0 0 0
    let s1 := ({ s0 with hdg := { s0.hdg with prepared := s0.hdg.prepared.map (fun (p : Prepared) =>
      { p with regs := p.regs.filter (fun q => !wordOff q.1) }) } }).setFlag HDG_STATUS.AUTONOMOUS true
    let s2 := ((s1.levelOn srcHdgLeaderLost (syndrome s1.leaderDie 0 0)).catchUpFails).noteReasons
    if s2.ps.booting then s2.stopWith 1 else s2

/-- The link to an instance has failed (R323, R332, R333). -/
def State.linkFails (s : State) (d : Nat) : State :=
  if (s.link d).failed then s
  else
    let s1 := (s.incSat (HDG_LINK.FAILS d)).raise srcHdgLinkFail (syndrome d 0 0)
    if s1.leader then s1.markLost d
    else
      let s2 := s1.setLink d { s1.link d with failed := true, unacked := [], queue := [], wakeAt := none }
      if d = s2.leaderDie then s2.autonomous else s2

/-! ### Answers and bounds (R328–R330, R335) -/

/-- PREPARE_ACK at the leader (R328). -/
def State.prepareAnswer (s : State) (d id : Nat) (nack : Bool) (regions : Nat) : State :=
  match s.hdg.running with
  | none => s
  | some c =>
    if c.phase ≠ 1 ∨ c.id ≠ id ∨ bitAt c.wait d = false then s
    else
      ({ s with hdg := { s.hdg with running := some { c with
          wait := maskClear c.wait d
          bad := if nack then maskSet c.bad d else c.bad
          regions := if nack then c.regions ||| regions else c.regions } } }).decideCommit

/-- PREPARE_TIMEOUT: 5 µs after PREPARE a participant has not answered (R329). -/
def State.prepareTimeout (s : State) : State :=
  match s.hdg.running with
  | none => s
  | some c =>
    if c.phase ≠ 1 ∨ c.wait = 0 ∨ s.inReset = true then s
    else
      let s1 := s.advanceTo (c.at_ + 5000)
      let lost := match c.act with | .catchUp d => some d | _ => none
      let s2 := ({ s1 with hdg := { s1.hdg with running := some { c with bad := c.bad ||| c.wait } } }).abortCommit stTimeout
      match lost with
      | some d => s2.markLost d
      | none => s2

/-- A NACK to a catch-up is its failure (R335). -/
def State.catchNack (s : State) (d : Nat) (nack : Bool) : State :=
  match s.hdg.running with
  | some c => if nack ∧ c.act = .catchUp d then s.markLost d else s
  | none => s

/-- COMMIT_ORPHAN: 20 µs after PREPARE without COMMIT or ABORT (R330). -/
def State.commitOrphan (s : State) : State :=
  match s.hdg.prepared with
  | none => s
  | some p =>
    if s.leader ∨ p.t.isSome = true then s
    else
      let s1 := s.advanceTo (p.at_ + 20000)
      (({ s1 with hdg := { s1.hdg with prepared := none } }).settleStaged.incSat HDG_COMMIT_CNT.ABORTED).raise srcHdgCommitOrphan
        (syndrome s1.leaderDie p.id 0)

/-- CATCH_UP_TIMEOUT: the bound of 2 ms passes without a catch-up applied (R335): at the leader for die `d`, at a
follower for its own. -/
def State.catchUpTimeout (s : State) (d : Nat) : State :=
  if s.leader then
    match SMap.find s.hdg.catching d with
    | some t => (s.advanceTo (t + 2000000)).markLost d
    | none => s
  else if d = s.dieId ∧ s.ps.catchUp = true then (s.advanceTo (s.ps.outAt + 2000000)).autonomous
  else s

/-! ### PREPARE, COMMIT, ABORT at a follower (R328, R329) -/

/-- PREPARE: the stage count and CRC, the checks, the prepared set and the answer. -/
def State.onPrepareFlit (s : State) (id kind count crc : Nat) : State :=
  let vs := s.hdg.rx
  let act := s.hdg.rxAct
  let s1 := { s with hdg := { s.hdg with rx := [], rxAct := none } }
  let reply (t : State) (nack : Bool) (regions : Nat) : State := t.send t.leaderDie (id % 256) (.prepareAck id nack regions)
  if vs.length ≠ count ∨ stageCrc vs ≠ crc then reply s1 true 0
  else
    let found := s1.prepareFaults vs (if kind = 5 then none else act) []
    if found.2 ≠ 0 then reply (s1.noteChecks found.1) true (found.2 % 65536)
    else
      reply { s1 with hdg := { s1.hdg with
        prepared := some { id := id, kind := kind, act := act, regs := asMap vs, at_ := s1.now } } } false 0

/-- COMMIT with T: the set will apply at T. -/
def State.onCommitFlit (s : State) (t : Nat) : State :=
  match s.hdg.prepared with
  | some p =>
    if p.t.isSome then s
    else ({ s with hdg := { s.hdg with prepared := some { p with t := some t } } }).setReg64 (HDG_COMMIT_T 0) t
  | none => s

/-- ABORT: the set is discarded. -/
def State.onAbortFlit (s : State) (id : Nat) : State :=
  match s.hdg.prepared with
  | some p =>
    if p.id = id then ({ s with hdg := { s.hdg with prepared := none } }).settleStaged.incSat HDG_COMMIT_CNT.ABORTED else s
  | none => s

end Sys2Proof.Machine
end

