-- ==== Sys2Proof/Machine/Firmware.lean ====
section
/-! DEFINITION. The steward firmware: judging images, start of an image, staging and activation, compartments, the
log and USER (R409–R429). -/

namespace Sys2Proof.Machine

/-! ### The log ring (R428) -/

/-- A record in the log ring; the first after a clock restart, a block reset or a Skylark step carries GAP (R368, R428). -/
def State.logRecord (s : State) (src flags code arg : Nat) : State :=
  let n := s.fld HEATH_LOG_HEAD.NEXT
  let w := s.stampAt stewardPs s.skyNs % 2 ^ 48 + 2 ^ 48 * (src + bnat (s.interpAt stewardPs s.skyNs) + 2 * bnat (s.sky.logGap || s.ps.logGap)) +
    2 ^ 56 * flags + 2 ^ 64 * (code % 65536) + 2 ^ 80 * (arg % 2 ^ 48)
  let s1 := { s with fw := { s.fw with log := SMap.enter s.fw.log n w }, sky := { s.sky with logGap := false },
                     ps := { s.ps with logGap := false } }
  let s2 := s1.setFld HEATH_LOG_HEAD.NEXT ((n + 1) % 4096)
  if n = 4095 then s2.incSat HEATH_LOG_HEAD.WRAPS else s2

/-- The ROM writes a record of its judgement of an image (R428): INFO where it passes, else ERROR. Code and argument are free
values, and that it writes one here is a choice (log 167). -/
def State.romLog (s : State) (ok : Bool) : State :=
  (s.spendN 2).logRecord (16 * bnat s.leader + (if ok then 8 else 0)) 1 (Config.freeValue s.free) (Config.freeValue (s.free + 1))

/-- MONITOR writes a record of a compartment's fault (R419, R428, log 167): ERROR, on the compartment's core. -/
def State.monitorLog (s : State) (comp : Nat) : State :=
  (s.spendN 2).logRecord (16 * bnat (!decide (comp = 2 ∨ comp = 3 ∨ comp = 7))) 0 (Config.freeValue s.free)
    (Config.freeValue (s.free + 1))

/-! ### Region checkers (R410) -/

/-- A region as MONITOR programs it: its contents are free values, its size one of those there are (log 168). -/
def State.drawRegion (s : State) (k : Nat) : Region :=
  let v (i : Nat) : Nat := Config.freeValue (s.free + 6 * k + i)
  { base := v 0, size := 8 + v 1 % 12, read := bitAt (v 2) 0, write := bitAt (v 3) 0, exec := bitAt (v 4) 0, mask := v 5 % 256 }

/-- MONITOR programs the regions of the cores, which takes effect while they are not locked (R410). -/
def State.setRegions (s : State) (rs : List (Nat × Region)) : State :=
  if s.fw.locked then s else { s with fw := { s.fw with regions := rs } }

/-- As an image starts MONITOR programs the 16 regions of each core and locks them (R410). A restart of the cores has unlocked
them. -/
def State.lockRegions (s : State) : State :=
  let s1 := ({ s.spendN 192 with fw := { s.fw with locked := false } }).setRegions ((List.range 32).map (fun k => (k / 16, s.drawRegion k)))
  { s1 with fw := { s1.fw with locked := true } }

/-- Does a region allow an access of a compartment (R410)? -/
def Region.allows (r : Region) (comp : Nat) (k : AccessKind) (addr bytes : Nat) : Bool :=
  bitAt r.mask comp && (match k with | .read => r.read | .write => r.write | .exec => r.exec) &&
  decide (r.base ≤ addr ∧ addr + bytes ≤ r.base + 2 ^ r.size)

/-- Is what a compartment does on a core a fault of it (R410): an access outside its regions or misaligned, an illegal
instruction, a run of more than 1 ms? An instruction of RV32IMC is aligned to 2 bytes. -/
def State.actFault (s : State) (core comp : Nat) (a : CoreAct) : Bool :=
  match a with
  | .access k addr bytes =>
    addr % (if k = .exec then 2 else max 1 bytes) != 0 || !s.fw.regions.any (fun p => p.1 == core && p.2.allows comp k addr bytes)
  | .illegal => true
  | .run ns => decide (1000000 < ns)

/-! ### The layout of an image (R411, R412) -/

/-- A little-endian field of an image. -/
def ImageIn.num (img : ImageIn) (off n : Nat) : Nat := pNum img.bytes off n

/-- `n` bytes of an image from byte `off`. -/
def ImageIn.slice (img : ImageIn) (off n : Nat) : List Nat := (List.range n).map (fun k => pByte img.bytes (off + k))

/-- MAGIC. -/
def ImageIn.magic (img : ImageIn) : Nat := img.num 0 4

/-- HDR_VER. -/
def ImageIn.hdrVer (img : ImageIn) : Nat := img.num 4 2

/-- FLAGS: [0] USER_PRESENT. -/
def ImageIn.flags (img : ImageIn) : Nat := img.num 6 2

/-- VERSION. -/
def ImageIn.version (img : ImageIn) : Nat := img.num 8 4

/-- BODY_LEN. -/
def ImageIn.bodyLen (img : ImageIn) : Nat := img.num 12 4

/-- ROLLBACK. -/
def ImageIn.rollback (img : ImageIn) : Nat := img.num 16 1

/-- BLOCK_MAJOR. -/
def ImageIn.blockMajor (img : ImageIn) : Nat := img.num 17 1

/-- Entry `k` of the section table (R412). -/
def ImageIn.sectionAt (img : ImageIn) (k : Nat) : SectionIn :=
  let o := 32 + 24 * k
  { type := img.num o 1, dieMask := img.num (o + 1) 1, offset := img.num (o + 4) 4, length := img.num (o + 8) 4,
    load := img.num (o + 12) 4, rsvd := img.num (o + 2) 2 + 65536 * img.num (o + 16) 8 }

/-- The sections: SECTIONS of them, of which a valid table has at most 32. -/
def ImageIn.sections (img : ImageIn) : List SectionIn := (List.range (min 33 (img.num 18 2))).map img.sectionAt

/-- KEY. -/
def ImageIn.key (img : ImageIn) : List Nat := img.slice 1024 97

/-- SIG. -/
def ImageIn.sig (img : ImageIn) : Nat := ofLeBytes (img.slice 1152 96)

/-- What SIG signs: bytes 0–1151 followed by the body. -/
def ImageIn.signed (img : ImageIn) : List Nat := img.slice 0 1152 ++ img.slice 4096 img.bodyLen

/-- The bytes of a section. -/
def ImageIn.content (img : ImageIn) (x : SectionIn) : List Nat := img.slice (4096 + x.offset) x.length

/-- The entries of the REG_WRITES sections: die mask, offset, value (R412). -/
def ImageIn.writes (img : ImageIn) : List (Nat × Nat × Nat) :=
  (img.sections.filter (fun x => x.type == 3)).flatMap (fun x =>
    let b := img.content x
    (List.range (x.length / 8)).map (fun k => (x.dieMask, pNum b (8 * k) 3, pNum b (8 * k + 4) 4)))

/-- The section table's code sections as they lie in the SRAMs: core, offset, bytes; of USER its code, from byte 224
(R412, R416). -/
def ImageIn.sram (img : ImageIn) : List (Nat × Nat × List Nat) :=
  (img.sections.filter (fun x => x.type == 1 || x.type == 2 || x.type == 4)).map (fun x =>
    (if x.type = 2 then 2 else 1, x.load, if x.type = 4 then (img.content x).drop 224 else img.content x))

/-- The USER section, if there is one (R412). -/
def ImageIn.user (img : ImageIn) : Option UserIn :=
  (img.sections.find? (fun x => x.type == 4)).map (fun x =>
    let b := img.content x
    { key := b.take 97, sig := ofLeBytes ((b.drop 128).take 96), signed := b.drop 224 })

/-! ### Judging an image (R411, R412, R414, R420) -/

/-- SRAM bytes of a core outside the handover area: the policy core, the service core (R409). -/
def sramOf (type : Nat) : Nat := if type = 2 then 368 * 1024 else 384 * 1024

/-- The type of core a section is loaded into: 1 policy, 2 service, 0 none. -/
def coreOf (type : Nat) : Nat := if type = 1 ∨ type = 4 then 1 else if type = 2 then 2 else 0

/-- Do two ranges overlap? -/
def overlaps (a la b lb : Nat) : Bool := decide (a < b + lb ∧ b < a + la ∧ 0 < la ∧ 0 < lb)

/-- Bytes of a section that are loaded into SRAM: all of a code section, of USER those from byte 224 (R412). -/
def SectionIn.loads (x : SectionIn) : Nat := if x.type = 4 then x.length - 224 else x.length

/-- A section's own faults (R412). -/
def SectionIn.good (x : SectionIn) (body : Nat) : Bool :=
  decide (1 ≤ x.type ∧ x.type ≤ 4) && (x.type == 3 || x.dieMask == 0xFF) && x.rsvd == 0 && x.offset % 8 == 0 &&
  decide (x.offset + x.length ≤ body) &&
  (if x.type = 3 then x.load == 0 else decide (x.load + x.loads ≤ sramOf (coreOf x.type)))

/-- Is a REG_WRITES section a list of its entries: 8 bytes each, the offset word-aligned, byte 3 zero (R412)? -/
def ImageIn.entriesOk (img : ImageIn) (x : SectionIn) : Bool :=
  let b := img.content x
  x.length % 8 == 0 && (List.range (x.length / 8)).all (fun k => pByte b (8 * k) % 4 == 0 && pByte b (8 * k + 3) == 0)

/-- Is a USER section laid out as R412 says: room for key and signature, bytes 97–127 zero? -/
def ImageIn.userLaid (img : ImageIn) (x : SectionIn) : Bool :=
  decide (224 ≤ x.length) && (((img.content x).drop 97).take 31).all (fun b => b == 0)

/-- Is the section table valid (R412): every section good, none overlapping another in the body or in SRAM? -/
def ImageIn.tableOk (img : ImageIn) : Bool :=
  let xs := img.sections
  decide (1 ≤ xs.length ∧ xs.length ≤ 32) && xs.all (fun x =>
    x.good img.bodyLen && (x.type != 3 || img.entriesOk x) && (x.type != 4 || img.userLaid x)) &&
  decide (xs.Pairwise (fun a b => overlaps a.offset a.length b.offset b.length = false ∧
    ((coreOf a.type = coreOf b.type ∧ coreOf a.type ≠ 0) → overlaps a.load a.loads b.load b.loads = false)))

/-- Does a USER section verify (R420)? -/
def State.userOk (s : State) (u : UserIn) : Bool :=
  Config.sha384 u.key == s.otp.oemKey && Config.ecdsaVerify (ofLeBytes u.key) (Config.sha384 u.signed) u.sig

/-- Largest body of a slot (R411): half the flash less the header. -/
def State.slotRoom (s : State) : Nat := s.fw.flash.getD 0 / 2 - 4096

/-- The checks of a header (R414): 0 it passes, else the reason of R427. -/
def State.judgeHead (s : State) (img : ImageIn) : Nat :=
  if img.magic ≠ 0xB170F14E ∨ img.hdrVer ≠ 1 ∨ img.blockMajor ≠ 4 ∨ img.tableOk = false then 4
  else if img.rollback < s.fld HEATH_FW_STATUS.COUNTER ∨ 64 < img.rollback then 3
  else if Config.sha384 img.key ≠ s.otp.imageKey then 2
  else 0

/-- Bytes of an image that the ROM reads, and forwards as it reads them (R414, R415): the header, and all of an image whose
header passes. -/
def State.readOf (s : State) (img : ImageIn) : List Nat := img.bytes.take (if s.judgeHead img = 0 then 4096 + img.bodyLen else 4096)

/-- The judgement of an image: 0 it passes, else the reason of R427 (2 signature, 3 rollback, 4 format, 5 too large, 6 USER
signature where that counts). `slot`: it lies in a slot; `user`: USER counts (R422). -/
def State.judge (s : State) (img : ImageIn) (slot user : Bool) : Nat :=
  let writes := if s.leader then s.valuesFor (.regWrites img.writes) s.dieId
    else (img.writes.filter (fun w => bitAt w.1 s.dieId)).filterMap (fun w => s.imageValue s.dieId w.2)
  if img.magic ≠ 0xB170F14E ∨ img.hdrVer ≠ 1 ∨ img.blockMajor ≠ 4 ∨ img.tableOk = false then 4
  else if slot = true ∧ s.slotRoom < img.bodyLen then 5
  else if img.rollback < s.fld HEATH_FW_STATUS.COUNTER ∨ 64 < img.rollback then 3
  else if Config.sha384 img.key ≠ s.otp.imageKey ∨ Config.ecdsaVerify (ofLeBytes img.key) (Config.sha384 img.signed) img.sig = false then 2
  else if (s.prepareFaults writes (some (.regWrites img.writes)) []).2 ≠ 0 then 4
  else if user = true ∧ (match img.user with | some u => !s.userOk u | none => false) = true then 6
  else 0

/-- The code that is loaded: the sections of the two cores, in the order of the table (R416). -/
def ImageIn.code (img : ImageIn) : List Nat :=
  (img.sections.filter (fun x => x.type == 1 || x.type == 2)).flatMap img.content

/-! ### Events and versions (R427) -/

/-- The running image's VERSION. -/
def State.fwVersion (s : State) : Nat := s.reg HEATH_FW_VERSION

/-- The body of a FIRMWARE event record (R427). -/
def fwBody (kind reason comp counter version : Nat) : List Nat := pack [(1, kind), (1, reason), (1, comp), (1, counter), (4, version)]

/-- A FIRMWARE event: a record at the leader, a follower reports it there (R337, R427). -/
def State.fwEvent (s : State) (kind reason comp version : Nat) : State :=
  if s.leader then s.newEvent 0x04 s.dieId s.skyNs (fwBody kind reason comp (s.fld HEATH_FW_STATUS.COUNTER) version)
  else s.report (.firmware kind reason comp (s.fld HEATH_FW_STATUS.COUNTER) version)

/-- A firmware syndrome: mailbox or compartment, KIND of R427, VERSION (R459). -/
def State.fwSyn (s : State) (index kind : Nat) : Nat := syndrome index kind s.fwVersion

/-! ### The image runs (R416, R420, R421, R425) -/

/-- The USER compartment runs, or is left out (R420); its caps go where it does not run (R409). -/
def State.startUser (s : State) (img : ImageIn) : State :=
  match (if bitAt img.flags 0 then img.user else none) with
  | some u =>
    if s.userOk u then (s.setFld (HEATH_FW_COMP.STATE 7) 1).setFlag HEATH_FW_STATUS.USER_OK true
    else ((s.setFld (HEATH_FW_COMP.STATE 7) 0).setFlag HEATH_FW_STATUS.USER_OK false).raise srcFwUserAuth (s.fwSyn 7 0)
  | none => (s.setFld (HEATH_FW_COMP.STATE 7) 0).setFlag HEATH_FW_STATUS.USER_OK false

/-- POLICY removes the USER caps by a CONFIG commit (R421). -/
def State.removeCaps (s : State) : State :=
  let none_ : UserCaps := {}
  let s1 := { s with fw := { s.fw with capsStaged := {}, timer := none } }
  if s.leader ∧ s.fw.caps ≠ none_ then s1.owe (.userCaps {}) else s1

/-- Is a compartment disabled: until the next activation or PORST_N, a boot after a block reset included (R418, R419)? -/
def State.staysOff (s : State) (comp : Nat) : Bool := s.fw.reboot && s.fld (HEATH_FW_COMP.STATE comp) == 3

/-- An image is loaded and runs (R416): the code in the SRAMs, the digest, the burned counter, the region checkers, the
compartments; the leader's REG_WRITES. -/
def State.runImage (s0 : State) (img : ImageIn) (hostLoaded : Bool) : State :=
  let s := s0.lockRegions
  let s1 := { s with fw := { s.fw with
    digest := Config.sha384 img.code, sram := img.sram, ram := [], image := none, copy := none, loaded := [], running := true,
    hostLoaded := hostLoaded, faults := if s.fw.reboot then s.fw.faults else [] } }
  let c := max (s1.fld HEATH_FW_STATUS.COUNTER) img.rollback
  let s2 : State := { s1.setFld HEATH_FW_STATUS.COUNTER c with otp := { s1.otp with burned := c } }
  let s3 := s2.setReg HEATH_FW_VERSION img.version
  let s4 : State := each [0, 1, 2, 3, 4, 5, 6] (fun k t => if t.staysOff k then t else t.setFld (HEATH_FW_COMP.STATE k) 1) s3
  let s5 := if s4.staysOff 7 then s4 else s4.startUser img
  let s6 : State := if s5.flag HEATH_FW_STATUS.USER_OK then s5 else s5.removeCaps
  if s6.leader = true ∧ img.writes.isEmpty = false then s6.owe (.regWrites img.writes) else s6

/-- The steward halts (R418, R419): nothing is picked up until PORST_N, commands in execution are gone. -/
def State.haltSteward (s : State) : State :=
  let s1 := { s with cmds := [], fw := { s.fw with
    running := false, trying := 0, reboot := false, image := none, copy := none, loaded := [], readLeft := 0 } }
  (s1.setFlag HEATH_FW_STATUS.HALTED true).levelOn srcFwHalted (s.fwSyn 0 0)

/-! ### Boot (R414–R418) -/

/-- How the flash is read once SFDP has been: by the quad command and at the clock, up to 50 MHz, that it reports, which are
free values, with 4 address bytes above 16 MiB (R98). -/
def State.quadMode (s : State) (density : Nat) : FlashMode :=
  { cmd := Config.freeValue s.free % 256, lanes := 4, kHz := 1 + Config.freeValue (s.free + 1) % 50000
    addrBytes := if 2 ^ 24 < density then 4 else 3 }

/-- SFDP_DISCOVERY (R98, R411, R417): SFDP is read over one lane at 12.5 MHz. The flash answers and slot A is read, or the
wait for a host-loaded image begins. -/
def State.sfdp (s : State) (density : Option Nat) : State :=
  if s.leader ∧ s.ps.booting = true ∧ s.bootStep = 5 ∧ s.inReset = false ∧ s.flag HEATH_DOMAIN_STATUS.PLL_LOCK = true ∧
      s.fw.trying = 0 ∧ s.fw.image = none ∧ s.fw.waitLoad = none then
    let s1 := s.emit (.flash { cmd := 0x5A, lanes := 1, kHz := 12500, addrBytes := 3 } .sfdp)
    match density with
    | some n => { s1.spendN 2 with fw := { s1.fw with flash := some n, trying := 1, quad := some (s.quadMode n) } }
    | none => { s1 with fw := { s1.fw with flash := none, quad := none, waitLoad := some s.now } }
  else s

/-- FLASH_ABSENT_TIMEOUT: 10 s without an image (R112, R113, R417). -/
def State.flashAbsent (s : State) : State :=
  match s.fw.waitLoad with
  | some t =>
    if s.ps.booting then
      let s1 := s.advanceTo (t + 10000000000)
      ({ s1 with fw := { s1.fw with waitLoad := none, trying := 0, readLeft := 0 } }).stopWith 2
    else s
  | none => s

/-- Outcome of a host load in HEATH_FW_LOAD_CTRL (R417). -/
def State.loadDone (s : State) (ok : Bool) : State :=
  ((s.setFlag HEATH_FW_LOAD_CTRL.GO false).setFlag HEATH_FW_LOAD_CTRL.DONE ok).setFlag HEATH_FW_LOAD_CTRL.FAIL (!ok)

/-- May the ROM act on an image: the steward is clocked, not halted nor in reset, the instance has not stopped, and
start-up, where it lasts, is in its step 5 with the straps exchanged (R15, R106, R107, R111, R113, R416, R419)? -/
def State.romActs (s : State) : Bool :=
  !s.inReset && !s.stopped && !s.flag HEATH_FW_STATUS.HALTED && s.flag HEATH_DOMAIN_STATUS.STEWARD_ON && (!s.ps.booting || (s.bootStep == 5 && !s.ps.exchange))

/-- Step 5 of an activation has ended at a die: its cores run again, and a power-state request that waited is looked at (R42,
R424). -/
def State.coresReturn (s : State) : State :=
  (({ s with fw := { s.fw with paused := false } }).setFld HEATH_FW_STATUS.ACT 0).tryRequest

/-- What the ROM tries next once an image has failed: slot B after slot A; after that start-up stops, a host may load again,
or the steward halts (R414, R417, R418). -/
def State.slotFails (s : State) (k : Nat) : State :=
  if k = 1 then { s with fw := { s.fw with trying := 2 } }
  else
    let s2 := { s with fw := { s.fw with trying := 0, loaded := [] } }
    let s3 := if k = 3 then s2.loadDone false else s2
    if s3.fw.reboot then s3.haltSteward
    else if k = 3 then s3
    else s3.stopWith 3

/-- SLOT_VERIFY: the ROM judges what it tries, forwarding each block as it reads it (R414, R415, R417, R418). A host-loaded
image is what the memory port returned, and no larger (log 169). -/
def State.slotVerify (s : State) (img : ImageIn) : State :=
  let k := s.fw.trying
  if k = 0 ∨ s.leader = false ∨ s.romActs = false ∨ (k = 3 ∧ sameBytes s.fw.loaded img.bytes = false) then s
  else
    let ok := s.judge img (k != 3) false == 0 && (k != 3 || decide (4096 + img.bodyLen ≤ s.fw.loaded.length))
    let ver := if ok then img.version else 0
    let s0 := { s with fw := { s.fw with
      verA := if k = 1 then ver else s.fw.verA
      verB := if k = 2 then some ver else s.fw.verB } }
    let sR := if k = 3 then s0 else s0.flashDo (.read (s.slotBase k) (s.readOf img).length)
    let s1 := (sR.toFollowers (.data (.imageBlock k (s.readOf img)))).romLog ok
    if ok then
      let s2 := ({ s1 with fw := { s1.fw with trying := 0, image := some img, waitLoad := none } }).setFld HEATH_BOOT_STATUS.SLOT k
      if k = 3 then s2.loadDone true else s2
    else (s1.toFollowers (.data .imageReject)).slotFails k

/-- FOLLOWER_IMAGE_VERIFY: a follower judges the copy its leader forwarded: in start-up, after a block reset, or in an
activation (R415, R418, R424). -/
def State.followerVerify (s : State) (img : ImageIn) : State :=
  match s.fw.copy with
  | none => s
  | some c =>
    if s.leader ∨ s.romActs = false ∨ sameBytes c.2 img.bytes = false then s
    else
      let ok := s.judge img false false == 0
      let s1 := s.romLog ok
      if ok then { s1 with fw := { s1.fw with image := some img } }
      else if s1.ps.booting then s1.stopWith 8
      else if s1.fw.reboot then s1.haltSteward
      else { s1 with fw := { s1.fw with copy := none } }

/-- The slot an image to be started comes from: the one the leader tried, the one a follower's copy was read from. -/
def State.slotOf (s : State) : Nat :=
  match s.fw.copy with
  | some c => if s.leader then s.fld HEATH_BOOT_STATUS.SLOT else c.1
  | none => s.fld HEATH_BOOT_STATUS.SLOT

/-- IMAGE_START: every die has verified the image (R416). Start-up goes on with step 6; after a block reset pickup
resumes (R106, R418). A repair of slot A that is due starts at once, or after start-up (R425). -/
def State.imageStart (s : State) : State :=
  match s.fw.image with
  | none => s
  | some img =>
    if s.romActs = false then s
    else
    let slot := s.slotOf
    let due := s.leader && (slot == 2 || (slot == 1 && s.fw.verA != img.version))
    let s1 := (s.setFld HEATH_BOOT_STATUS.SLOT slot).runImage img (slot == 3)
    let s2 := { s1 with fw := { s1.fw with repairDue := due } }
    if s2.fw.reboot then
      (({ s2 with fw := { s2.fw with reboot := false }, ps := { s2.ps with digestDue := false } }).bell 0).repairDue
    else if s2.ps.booting then s2.stepSix
    else if s2.fld HEATH_FW_STATUS.ACT = 2 then s2.coresReturn
    else s2

/-- The lines of an image are read one after another over the memory port (R417, R422). -/
def State.readImage (s : State) (addr lines : Nat) : State :=
  let s1 := { s with fw := { s.fw with readAt := addr, readLeft := lines, readFail := false, loaded := [] } }
  if lines = 0 then s1 else s1.memSend [{ wr := false, addr := addr, job := .image }]

/-- Where a host-loaded image lies and how many lines it has (R417). -/
def State.loadAddr (s : State) : Nat := s.fld HEATH_FW_LOAD_LO.ADDR_LO * 64 + s.fld HEATH_FW_LOAD_HI.ADDR_HI * 2 ^ 32

/-- GO starts a host load, in the wait only and while none is under way (R417). LEN 0 is no image. -/
def State.loadGo (s : State) : State :=
  if s.fw.waitLoad.isSome ∧ s.fw.trying = 0 ∧ s.fw.readLeft = 0 ∧ s.inReset = false then
    if s.fld HEATH_FW_LOAD_CTRL.LEN = 0 ∨ s.fld HEATH_FW_LOAD_CTRL.LEN = 8191 + 1 then s.loadDone false
    else
      (((s.setFlag HEATH_FW_LOAD_CTRL.GO true).setFlag HEATH_FW_LOAD_CTRL.DONE false).setFlag HEATH_FW_LOAD_CTRL.FAIL false).readImage
        s.loadAddr (64 * s.fld HEATH_FW_LOAD_CTRL.LEN)
  else s

/-- A staging fails; the event names the image's VERSION where it is known (R422, R427). -/
def State.stageFails (s : State) (reason : Nat) (version : Nat := 0) : State :=
  let s1 := { s with fw := { s.fw with mode := 0, readLeft := 0, passedB := false, verB := some 0 } }
  ((s1.setFld HEATH_FW_STATUS.STAGE 3).setFld HEATH_FW_STATUS.STAGE_REASON reason).fwEvent 0x02 reason 0 version

/-- Bytes are programmed into slot B after those before them (R422). -/
def State.program (s : State) (bytes : List Nat) : State :=
  ({ s with fw := { s.fw with prog := s.fw.prog ++ bytes, stageAt := s.fw.stageAt + bytes.length } }).flashDo
    (.program (s.slotBase 2 + s.fw.stageAt) bytes)

/-- A line of an image has been answered: its bytes are kept for the ROM, or programmed into slot B, and the next one is read;
after the last the ROM judges a host load, or slot B is read back (R417, R418, R422). -/
def State.imageLine (s : State) (ok : Bool) (data : List Nat) : State :=
  if s.fw.readLeft = 0 then s
  else if !ok then
    let s1 := { s with fw := { s.fw with readLeft := 0 } }
    if s1.fw.mode = 1 then s1.stageFails 8
    else if s1.fw.reboot then s1.haltSteward
    else s1.loadDone false
  else
    let s0 := if s.fw.mode = 1 then s.program (data.take (s.fw.stageLen - s.fw.stageAt))
      else { s with fw := { s.fw with loaded := s.fw.loaded ++ data } }
    let s1 := { s0 with fw := { s0.fw with readLeft := s.fw.readLeft - 1, readAt := s.fw.readAt + 64 } }
    if 0 < s1.fw.readLeft then s1.memSend [{ wr := false, addr := s1.fw.readAt, job := .image }]
    else if s1.fw.mode = 1 then { s1 with fw := { s1.fw with mode := 3 } }
    else { s1 with fw := { s1.fw with trying := 3 } }

/-- STEWARD_DIGEST_CHECK: the retained SRAM is what was loaded, and pickup resumes; else the ROM boots again (R106,
R418). -/
def State.digestCheck (s : State) (digest : Nat) : State :=
  if s.ps.digestDue = false ∨ s.inReset = true ∨ s.fw.reboot = true ∨ s.flag HEATH_FW_STATUS.HALTED = true ∨
      s.flag HEATH_DOMAIN_STATUS.STEWARD_ON = false then s
  else if digest = s.fw.digest ∧ s.fw.running = true then ({ s with ps := { s.ps with digestDue := false } }).bell 0
  else
    let s1 := { s with fw := { s.fw with reboot := true } }
    if s1.fw.hostLoaded then s1.readImage s1.loadAddr (64 * s1.fld HEATH_FW_LOAD_CTRL.LEN)
    else if s1.leader then { s1 with fw := { s1.fw with trying := 1 } }
    else s1

/-! ### Staging (R422) -/

/-- Is a staging, an activation or a repair in progress (R422)? -/
def State.fwBusy (s : State) : Bool :=
  s.fw.mode != 0 || s.fld HEATH_FW_STATUS.ACT != 0 || s.flag HEATH_FW_STATUS.REPAIR

/-- A staging begins: slot B is erased as it is programmed (R422). -/
def State.stageBegins (s : State) (mode len : Nat) : State :=
  ({ s with fw := { s.fw with mode := mode, stageLen := len, stageAt := 0, prog := [], passedB := false, verB := some 0 } }).setFld HEATH_FW_STATUS.STAGE 1

/-- FW_STAGE_READBACK: slot B is read back and judged, USER included; where the flash failed, or returns other bytes than were
programmed, the reason is a flash error (R422, R427, log 170). -/
def State.readback (s : State) (img : Option ImageIn) : State :=
  if s.fw.mode ≠ 3 then s
  else let s := s.flashDo (.read (s.slotBase 2) s.fw.stageLen)
  match img with
  | none => s.stageFails 1
  | some x =>
    let r := if sameBytes s.fw.prog (x.bytes.take s.fw.prog.length) then s.judge x true true else 1
    if r ≠ 0 then s.stageFails r x.version
    else
      let s1 := { s with fw := { s.fw with mode := 0, passedB := true, verB := some x.version } }
      (s1.setFld HEATH_FW_STATUS.STAGE 2).fwEvent 0x01 0 0 x.version

/-! ### Activation (R423, R424) -/

/-- A power or thermal emergency, as far as the leader sees it, or a participant in OFF (R296, R423). -/
def State.actBarred (s : State) : Bool :=
  s.emergencyNow || s.pstate == 0 || s.followers.any (fun d => s.fld (HDG_DIE_STATE.STATE d) == 2)

/-- Since when the rails have been stable without an emergency, for a deferred activation (R423). -/
def State.calmSince (s : State) : Nat := if s.lim.barred then s.now else max s.fw.stableAt s.lim.calmFrom

/-- The cores of a die that takes part in an activation restart into ROM: the region checkers are unlocked, the SRAM is lost
but for the handover area (R409, R424 step 2). -/
def State.coresRestart (s : State) : State :=
  ({ s with fw := { s.fw with paused := true, locked := false, ram := [] } }).startSteward.setFld HEATH_FW_STATUS.ACT 2

/-- The activation runs (R424 steps 1 and 2): pickup is paused, the heartbeat timer stops, the old firmware leaves its held
notices, held replies and commit queue in the handover area, and every die's cores restart. -/
def State.activate (s : State) : State :=
  let area : Handover := { replies := s.ses.replies, events := s.ses.events, commits := s.hdg.queue }
  let s1 := { s with fw := { s.fw with handover := some area }, ses := { s.ses with hbOn := false } }
  (s1.toFollowers (.data .activate)).coresRestart

/-- The new firmware takes over the handover area: what it holds, then what has joined since (R424 step 5). -/
def State.takeOver (s : State) : State :=
  match s.fw.handover with
  | some h => { s with
      fw := { s.fw with handover := none }
      ses := { s.ses with events := h.events ++ s.ses.events.drop h.events.length }
      hdg := { s.hdg with queue := h.commits ++ s.hdg.queue.drop h.commits.length } }
  | none => s

/-- ACTIVATION_START: a deferred activation starts once the rails have been stable for 10 ms without emergency (R423). -/
def State.activationStart (s : State) : State :=
  if s.fld HEATH_FW_STATUS.ACT = 1 ∧ s.actBarred = false ∧ s.railsStable = true then (s.advanceTo (s.calmSince + 10000000)).activate
  else s

/-- Pickup and the heartbeat timer go on after an activation, and a power-state request that waited is looked at (R42, R424
step 5). -/
def State.resumePickup (s : State) : State :=
  let s1 := s.takeOver
  ({ s1 with fw := { s1.fw with actWho := none }, ses := { s1.ses with hbOn := s1.sessionState == 1, hbAt := s1.now } }).coresReturn

/-- An activation is given up (R423, R427): the reason is shown and told; an FW_ACTIVATE not yet answered gets ABORTED. -/
def State.abortActivation (s : State) (reason : Nat) : State :=
  let who := s.fw.actWho
  let s1 := ((s.resumePickup).setFld HEATH_FW_STATUS.ACT_REASON reason).fwEvent 0x04 reason 0 (s.fw.verB.getD 0)
  match who with
  | some m => s1.done m stAborted
  | none => s1

/-- ACTIVATION_TIMEOUT: 60 s after the pickup of FW_ACTIVATE (R423). -/
def State.activationTimeout (s : State) : State :=
  if s.fld HEATH_FW_STATUS.ACT = 1 then (s.advanceTo (s.fw.actAt + 60000000000)).abortActivation 1 else s

/-- The ROMs boot as in R414 after an activation that did not pass: the leader tries slot A, pickup waits for the image
(R424 step 4). -/
def State.bootAgain (s : State) : State :=
  { s with
    fw := { s.fw with reboot := true, image := none, copy := none, trying := if s.leader then 1 else 0 }
    ps := { s.ps with digestDue := true } }

/-- ACTIVATION_COMPLETE: the ROMs have judged slot B, which the leader forwarded as it read it (R424 steps 3–6). -/
def State.activationComplete (s : State) (img : ImageIn) (followersOk : Bool) : State :=
  if s.fld HEATH_FW_STATUS.ACT ≠ 2 then s
  else
    let ok := s.judge img true false == 0
    let sR := s.flashDo (.read (s.slotBase 2) (s.readOf img).length)
    let s0 := (sR.toFollowers (.data (.imageBlock 2 (s.readOf img)))).romLog ok
    if !ok || !followersOk then ((s0.toFollowers (.data .imageReject)).abortActivation (if ok then 3 else 2)).bootAgain
    else
      let who := s0.fw.actWho
      let s1 := ((s0.runImage img false).setFld HEATH_BOOT_STATUS.SLOT 2).resumePickup
      let s2 := s1.fwEvent 0x03 0 0 img.version
      let s3 := match who with
        | some m => s2.done m stOk
        | none => s2
      (s3.flashDo (.copy (s.slotBase 2) 0)).setFlag HEATH_FW_STATUS.REPAIR true

/-- SLOT_REPAIR_DONE: slot A has been read back and verified (R424 step 6). -/
def State.repairDone (s : State) : State :=
  if s.flag HEATH_FW_STATUS.REPAIR then
    (({ s with fw := { s.fw with verA := s.fwVersion } }).setFlag HEATH_FW_STATUS.REPAIR false).fwEvent 0x07 0 0 s.fwVersion
  else s

/-! ### Compartments (R419) -/

/-- FW_ESSENTIAL (R419): the third within 10 s halts the steward. -/
def State.essential (s : State) (index : Nat) : State :=
  let recent := (s.fw.essential.filter (fun t => decide (s.now < t + 10000000000))) ++ [s.now]
  let s1 := (({ s with fw := { s.fw with essential := recent } }).incSat HEATH_FW_RESTARTS.ESSENTIAL).raise srcFwEssential (s.fwSyn index 0)
  if 3 ≤ recent.length then s1.haltSteward else s1

/-- Does a command execute in a compartment: 1 COMMAND, 4 FABRIC, 5 TELEMETRY, 6 MCTP? -/
def runsIn (comp m opcode : Nat) : Bool :=
  match comp with
  | 1 => m != srcMctp
  | 4 => opcode / 256 == 4
  | 5 => opcode / 256 == 5
  | 6 => m == srcMctp
  | _ => false

/-- Commands executing in a restarted compartment complete with ABORTED (R419); one whose result is being written completes
so once the memory port has answered, without a result. -/
def State.abortIn (s : State) (comp : Nat) : State :=
  each (s.cmds.filter (fun p => decide (1 ≤ p.2.stage ∧ p.2.stage ≤ 3) && runsIn comp p.1 p.2.hdr.opcode)) (fun p t =>
    if p.2.stage = 3 then t.setCmd p.1 { p.2 with status := stAborted, detail := 0, result := [] } else t.done p.1 stAborted) s

/-- Faults of a compartment in the last second. -/
def State.recentFaults (s : State) (comp : Nat) : List Nat :=
  (SMap.get (fun _ => []) s.fw.faults comp).filter (fun t => decide (s.now < t + 1000000000))

/-- Do the steward's cores execute an image: its domain is on, one runs, it is not halted, and no ROM is at work (R15, R106,
R419, R424)? -/
def State.coresRun (s : State) : Bool :=
  s.flag HEATH_DOMAIN_STATUS.STEWARD_ON && s.fw.running && !s.flag HEATH_FW_STATUS.HALTED && !s.inReset && !s.ps.digestDue &&
  !s.fw.paused

/-- The core a compartment executes on: 0 policy, 1 service; MONITOR executes on both (R409). -/
def compCore (comp : Nat) : Nat := if comp = 2 ∨ comp = 3 ∨ comp = 7 then 0 else 1

/-- Does a compartment execute now: its core does, and it is enabled (R409)? -/
def State.compRuns (s : State) (comp : Nat) : Bool :=
  s.coresRun && s.fld (HEATH_FW_COMP.STATE comp) == 1 && !s.halted (compCore comp)

/-- Is the byte at an SRAM address of a core in a data region of a compartment: one that it may write (R410, R419)? -/
def State.dataOf (s : State) (comp core addr : Nat) : Bool :=
  s.fw.regions.any (fun p => p.1 == core && p.2.allows comp .write addr 1)

/-- A compartment stores a byte at an address of its core, as its region checker allows; what the checker does not allow is a
fault of it, which COMPARTMENT_FAULT reports (R410). -/
def State.compStore (s : State) (comp addr byte : Nat) : State :=
  let core := compCore comp
  if !s.compRuns comp || s.actFault core comp (.access .write addr 1) || decide (sramOf (core + 1) ≤ addr) then s
  else { s with fw := { s.fw with ram := SMap.put (fun _ => 0) s.fw.ram (2 * addr + core) (byte % 256) } }

/-- MONITOR clears a compartment's data regions to 0 (R419). -/
def State.clearData (s : State) (comp : Nat) : State :=
  { s with fw := { s.fw with ram := s.fw.ram.filter (fun p => !s.dataOf comp (p.1 % 2) (p.1 / 2)) } }

/-- Is a trace point of a compartment on (R429)? -/
def State.traces (s : State) (comp : Nat) : Bool :=
  bitAt (s.fld HEATH_TRACE_MASK.BASIC) comp || bitAt (s.fld HEATH_TRACE_MASK.FULL) comp

/-- A compartment writes a log record (R428); TRACE is written where its trace point is on (R429). -/
def State.compLog (s : State) (comp level code arg : Nat) : State :=
  if !s.compRuns comp || (level == 3 && !s.traces comp) then s
  else s.logRecord (comp * 32 + 16 * compCore comp + 4 * level) 0 code arg

/-- What the compartments do of themselves as time passes: which one stores a byte or writes a record, and what, are free
values (R409, R410, R428, log 167). USER writes through its call alone (R420). -/
def State.coresAct (s : State) : State :=
  if !s.coresRun then s
  else
    let v (i : Nat) : Nat := Config.freeValue (s.free + i)
    let s1 := (s.spendN 8).compStore (v 0 % 8) (v 1) (v 2)
    if v 3 % 2 = 0 then s1 else s1.compLog (v 4 % 7) (v 5 % 4) (v 6) (v 7)

/-- COMPARTMENT_FAULT (R410, R419): its data regions are cleared, and it is restarted, or disabled at the third fault within
1 s. -/
def State.compFault (s0 : State) (comp : Nat) : State :=
  if s0.coresRun = false ∨ s0.fld (HEATH_FW_COMP.STATE comp) ≠ 1 then s0
  else
    let s := (s0.monitorLog comp).clearData comp
    let fs := s.recentFaults comp ++ [s.now]
    let s1 := { s with fw := { s.fw with faults := SMap.put (fun _ => []) s.fw.faults comp fs } }
    if comp = 0 then s1.essential 0
    else if fs.length < 3 then
      ((((s1.incSat HEATH_FW_RESTARTS.COMP).abortIn comp).raise srcFwCompRestart (s.fwSyn comp 5))).fwEvent 0x05 0 comp s.fwVersion
    else
      let s2 := ((((s1.setFld (HEATH_FW_COMP.STATE comp) 3).abortIn comp).raise srcFwCompDisabled (s.fwSyn comp 6))).fwEvent 0x06 0 comp s.fwVersion
      if comp ≤ 2 then s2.essential comp
      else if comp = 7 then (s2.setFlag HEATH_FW_STATUS.USER_OK false).removeCaps
      else s2

/-- CORE_NO_PROGRESS: a core makes no progress for 10 ms (R419). -/
def State.coreStuck (s : State) : State :=
  if s.coresRun then s.essential 0 else s

/-! ### USER (R420, R421) -/

/-- Is there a USER that runs once its core is clocked (R409, R420)? -/
def State.userLives (s : State) : Bool :=
  s.fld (HEATH_FW_COMP.STATE 7) == 1 && s.fw.running && !s.flag HEATH_FW_STATUS.HALTED && !s.fw.paused && !s.inReset && !s.ps.digestDue &&
  !s.halted 0

/-- Does USER run, and can it act now: its core is clocked (R15)? -/
def State.userRuns (s : State) : Bool := s.userLives && s.flag HEATH_DOMAIN_STATUS.STEWARD_ON

/-- What a call returns: an error, a value. -/
def State.userSays (s : State) (err : Bool) (value : Nat) : State := s.emit (.user err value)

/-- A value within the range of a register's field (R160, R276). -/
def fieldTakes (off hi v : Nat) : Bool :=
  match findReg off with
  | some d => d.fields.any (fun f => f.hi == hi && decide (f.min ≤ v ∧ v ≤ f.max))
  | none => false

/-- A cap listed for a key, in place of an older one. -/
def listCap (m : List (Nat × Nat)) (k v : Nat) : List (Nat × Nat) := SMap.enter m k v

/-- cap_stage (R420). -/
def State.userStage (s : State) (cap : UserCap) : State :=
  if !s.userRuns then s
  else
    let c := s.fw.capsStaged
    let r : Option UserCaps := match cap with
      | .pool q => if fieldTakes BUD_POOL BUD_POOL.POOL.hi q then some { c with pool := some q } else none
      | .window n mw => if n < 4 ∧ fieldTakes (BUD_WIN_LIMIT n) 31 mw = true then some { c with wins := listCap c.wins n mw } else none
      | .ctx x v => if x < 1024 ∧ fieldTakes (ADM_CTX_MAX x) 16 v = true then some { c with ctxs := listCap c.ctxs x v } else none
      | .index d v => if d < 8 ∧ fieldTakes OPP_HOST_CAP OPP_HOST_CAP.CAP.hi v = true then some { c with idx := listCap c.idx d v } else none
    match r with
    | some c1 => ({ s with fw := { s.fw with capsStaged := c1 } }).userSays false 0
    | none => s.userSays true 0

/-- cap_commit (R420): it takes a place in the queue; its status is returned when the commit ends. -/
def State.userCommit (s : State) : State :=
  if !s.userRuns then s
  else if !s.leader ∨ s.queueRoom = false then s.userSays true stBusy
  else s.enqueue { act := .userCaps s.fw.capsStaged }

/-- doorbell (R420): outbound bits 16–31 are set, at a follower by a report to its leader (R381); inbound bits 16–31 are
read and cleared. -/
def State.userDoorbell (s : State) (set clear : Nat) : State :=
  if !s.userRuns then s
  else
    let inb := s.reg MB_DB_IN
    let s1 := each (bitsSet 32 (set &&& 0xFFFF0000)) (fun b t => t.bell b) s
    (s1.setReg MB_DB_IN (maskDiff inb (clear &&& 0xFFFF0000))).userSays false (inb &&& 0xFFFF0000)

/-- timer (R420): 100 µs to 10 s; any other period is outside its limits, an error and nothing more. -/
def State.userTimer (s : State) (us : Nat) : State :=
  if !s.userRuns then s
  else if 100 ≤ us ∧ us ≤ 10000000 then
    ({ s with fw := { s.fw with timer := some (1000 * us, s.now + 1000 * us) } }).userSays false 0
  else s.userSays true 0

/-- USER_TIMER_WAKE: the timer's time is reached; the steward domain wakes for it (R14, R420). -/
def State.userWake (s : State) : State :=
  match s.fw.timer with
  | some (p, t) =>
    if s.userLives then
      let s1 := s.advanceTo t
      ({ s1 with fw := { s1.fw with timer := some (p, t + p) } }).wake 0 true
    else s
  | none => s

/-- log (R420): level INFO or less severe (2 INFO, 3 TRACE), 1,000 records a second; TRACE where its trace point is on
(R429). -/
def State.userLog (s : State) (level code arg : Nat) : State :=
  if !s.userRuns then s
  else if level ≠ 2 ∧ level ≠ 3 then s.userSays true 0
  else
    let fresh := s.fw.logAt + 1000000000 ≤ s.now
    let s1 := if fresh then { s with fw := { s.fw with logAt := s.now, logCount := 0 } } else s
    if 1000 ≤ s1.fw.logCount then s1.userSays false 0
    else if level = 3 ∧ s1.traces 7 = false then s1.userSays false 0
    else
      (({ s1 with fw := { s1.fw with logCount := s1.fw.logCount + 1 } }).logRecord (7 * 32 + 4 * level) 0 code arg).userSays false 0

end Sys2Proof.Machine
end

