-- ==== Sys2Proof/Machine/Views.lean ====
section
/-! DEFINITION. What a read of a register shows where the register itself does not hold it: live status (R57, R477),
and the levels of the block's pins and level signals (R87, R88, R97, R291, R461). -/

namespace Sys2Proof.Machine

/-! ### Pins and level signals -/

/-- Does the block drive BLT_ERR_N high (R97)? -/
def State.errPinHigh (s : State) : Bool :=
  s.ps.porst && !(s.ps.booting && decide (s.bootStep ≤ 5)) && !s.stopped && s.hub.pins == 0

/-- ALERT_N is not pulled low: no PLDM event waits (R407). -/
def State.alertHigh (s : State) : Bool := s.ses.pldm.isEmpty

/-- Does the block pull THERM_TRIP_N low (R99, R291)? Under PORST_N and below the threshold of VAON the pin is open. -/
def State.tripDriven (s : State) : Bool := s.ps.porst && s.ownTrip

/-- The level of the THERM_TRIP_N pad as far as it has been told (R291, log 21). -/
def State.tripPad (s : State) : Bool := !s.tripDriven && !s.flag THM_STATUS.EXT_TRIP

/-- site_tset of a site (R75, R76): 0xFF, which no site can reach, until the OTP has been read; then the site's trimmed
code for THM_OTP.ATRIP. It is static after its load, so PORST_N leaves it (log 139). -/
def State.siteTset (s : State) (k : Nat) : Nat :=
  if s.ps.vaon then Config.siteTset (s.fld THM_OTP.ATRIP) (s.reg (SITE_TRIM k)) % 256 else 0xFF

/-- hdg_awake_out: the block core domain of this instance runs (R80). -/
def State.hdgAwakeOut (s : State) : Bool := s.ps.porst && s.flag HEATH_DOMAIN_STATUS.CORE_ON

/-- hdg_wake_out, a bit for each instance that a flit waits for (R80, R82). -/
def State.hdgWakeOut (s : State) : Nat := (s.hdg.links.filter (fun p => p.2.wakeAt.isSome && !p.2.awake)).foldl (fun m p => maskSet m p.1) 0

/-- hdg_rx_rdy: high whenever the block core domain runs (R322). -/
def State.hdgRxRdy (s : State) : Bool := s.hdgAwakeOut

/-- blt_irq (R87, R88): notices, doorbells, the fault hub, a slow-down request; 0 at a follower. While PORST_N is asserted
it has its Reset value 0b0000 (R48, R87), though mailbox and doorbell bits outlive PORST_N: a bit whose cause is still
pending is high again from the deassertion on, so R88's "stays high" is read of the time outside PORST_N (log 135). -/
def State.irq (s : State) : Nat :=
  if !s.leader || !s.ps.porst then 0
  else
    bnat (s.reg MB_OUT_FULL &&& s.reg MB_OUT_MASK != 0) + 2 * bnat (s.reg MB_DB_OUT &&& s.reg MB_DB_OUT_MASK != 0) +
    4 * bnat (s.fld FH_PKG.INT_DIE != 0) + 8 * bnat (s.flag BUD_SLOW.PENDING)

/-! ### Live words -/

/-- Notices waiting for an empty slot, and those held (R377, R402). -/
def State.noticesQueued (s : State) : Nat := (s.ses.replies.map (fun p => p.2.length)).sum + s.ses.events.length

/-- CMD_STATUS. -/
def State.cmdStatusWord (s : State) : Nat :=
  s.fld CMD_STATUS.HELD_LOST * 65536 + min 255 ((s.ses.heldReplies.map (fun p => p.2)).sum + s.ses.heldEvents) * 256 +
  min 255 s.noticesQueued

/-- CMD_HB_AGE (R401). -/
def State.hbAgeWord (s : State) : Nat := if s.sessionState = 0 then 0 else min 0xFFFF ((s.now - s.ses.hbAt) / 1000000)

/-- FH_STATUS. -/
def State.fhStatusWord (s : State) : Nat :=
  (s.srcSet FH_PEND).length * 65536 + 8 * s.fld FH_STATUS.RST_STORM + 4 * bnat (!(s.srcSet FH_LATCHED).isEmpty) +
  2 * bnat s.errAny + bnat s.intAny

/-- ADM_STATUS. -/
def State.admStatusWord (s : State) : Nat :=
  s.arb.slots.length % 2048 * 65536 + (s.arb.open_ - 1) % 16 * 4096 + s.fld ADM_STATUS.LATE * 512 + s.fld ADM_STATUS.REVOKED * 256 +
  16 * bnat (decide (s.arb.credit < 0)) + 8 * bnat s.arb.revoking + 4 * bnat (decide (0 < s.excess)) + 2 * bnat s.arb.wave + bnat s.admits

/-- DRP_STATUS. -/
def State.drpStatusWord (s : State) : Nat :=
  s.drp.freeze * 65536 + (if s.drp.gorse ≠ 0 then 3 else if s.drp.openLoop ≠ 0 then 2 else 0) * 16384 + bnat (s.drp.gorse != 0) * 8192 +
  bnat (s.drp.openLoop != 0) * 4096 + bnat (s.drp.pro != 0) * 2048 + bnat s.drp.debug * 1024 +
  (s.agents.filter (fun p => s.present p.1 && p.2.run && p.2.det.patLvl != 0)).length

/-- FAB_STATUS. -/
def State.fabStatusWord (s : State) : Nat :=
  s.fab.peers.length * 65536 + s.fab.groups.length * 128 + 8 * bnat (s.fab.bufs.any (fun b => b.orig)) +
  4 * bnat (s.word emergIdx).set + 2 * bnat (s.nodeId != 0xFFFF) + bnat (s.fabOn && s.ps.porst && !s.inReset)

/-- Word 0 of a level word. -/
def levelWord0 (w : LevelWord) : Nat := w.holder * 65536 + bnat w.set * 32768 + w.rate

/-- STILE_STATUS. -/
def State.stileStatusWord (s : State) : Nat :=
  min s.hdg.stileS 64 * 16777216 + min s.hdg.stileN 64 * 65536 + 8 * s.fld STILE_STATUS.WAKE_S + 4 * s.fld STILE_STATUS.WAKE_N +
  2 * s.fld STILE_STATUS.ASLEEP_S + s.fld STILE_STATUS.ASLEEP_N

/-- STATE of a compartment as shown: restarting for the 1 ms in which a restart completes (R419, log 172). -/
def State.compShown (s : State) (k : Nat) : Nat :=
  if s.fld (HEATH_FW_COMP.STATE k) = 1 ∧ k ≠ 0 ∧ (s.recentFaults k).any (fun t => decide (s.now < t + 1000000)) = true then 2
  else s.fld (HEATH_FW_COMP.STATE k)

/-- HEATH_FW_COMP with the recent faults. -/
def State.fwCompWord (s : State) : Nat :=
  ((List.range 8).map (fun k => (s.compShown k + 4 * min 3 (s.recentFaults k).length) * 16 ^ k)).sum

/-- Live words of the Heath, command, fault and thermal regions. -/
def State.liveHeath (s : State) (off : Nat) : Option Nat :=
  if off = HEATH_PIN_STATUS then
    some (8 * bnat s.errPinHigh + 4 * bnat s.alertHigh + 2 * bnat s.tripPad + bnat (!s.lim.pinLow))
  else if off = HEATH_FW_COMP then some s.fwCompWord
  else if off = CMD_HB_AGE then some s.hbAgeWord
  else if off = CMD_STATUS then some s.cmdStatusWord
  else if off = CMD_ACTIVE then some ((s.cmds.filter (fun p => decide (p.1 < 32))).foldl (fun m p => maskSet m p.1) 0)
  else if off = FH_STATUS then some s.fhStatusWord
  else if off = ACC_TIMER then some s.accLeft
  else if off = ACC_FAIL then
    some ((s.acc.backoffEnd - s.now + 999999999) / 1000000000 % 4096 * 1048576 + s.fld ACC_FAIL.FAILS)
  else if off = THM_ENF_STATUS then
    some (withBits (s.reg off) 31 16 (match s.thm.deadline with | some t => min 0xFFFF ((t - s.now) / 100000) | none => 0))
  else if off = THM_DPWM_CAL then
    some (withBits (s.reg off) 7 0 (match s.ps.dpwmAt with | some t => min 255 ((s.now - t) / 1000000) | none => 255))
  else none

/-- Live words of the admission, droop, limiter and rail regions. -/
def State.livePower (s : State) (off : Nat) : Option Nat :=
  if BUD_RSN_NS 0 ≤ off ∧ off ≤ BUD_RSN_NS 31 then some (s.accrueReasons.reg off)
  else if off = ADM_OUT then some (s.granted % 65536 * 65536 + s.outstanding % 65536)
  else if off = ADM_HALF 0 then some (s.halfFree 0 % 65536 * 65536 + s.outHalf 0 % 65536)
  else if off = ADM_HALF 1 then some (s.halfFree 1 % 65536 * 65536 + s.outHalf 1 % 65536)
  else if off = ADM_STATUS then some s.admStatusWord
  else if off = ADM_CREDIT then some (ofSigned 32 s.arb.credit)
  else if off = ADM_ANN then some (withBits (s.reg off) 6 0 s.arb.resvs.length)
  else if off = ADM_PROFILES then some s.arb.profiles.length
  else if ADM_CTX_OUT 0 ≤ off ∧ off ≤ ADM_CTX_OUT 1023 then
    some (s.capQ ((off - ADM_CTX_OUT 0) / 4) % 65536 * 65536 + s.ctxOut ((off - ADM_CTX_OUT 0) / 4) % 65536)
  else if off = DRP_STATUS then some s.drpStatusWord
  else if off = RAIL0_AVS_READ then
    some (withBits (s.reg off) 31 16 (match s.avs.vinAt with | some t => min 0xFFFF ((s.now - t) / 1000) | none => 0xFFFF))
  else none

/-- Live words of the rings, the fabric, Skylark, the Hedgerow and the Stile. -/
def State.liveFabric (s : State) (off : Nat) : Option Nat :=
  if off = RING_ARB_HEAD then some s.rings.arb.head
  else if RING_RAIL_HEAD 0 ≤ off ∧ off ≤ RING_RAIL_HEAD 3 then some (s.railRing ((off - RING_RAIL_HEAD 0) / 4)).head
  else if off = RING_SAMP_HEAD then some s.rings.samp.head
  else if off = FAB_STATUS then some s.fabStatusWord
  else if off = FAB_EMERG then some (levelWord0 (s.word emergIdx))
  else if off = FAB_EMERG_LEFT then some (s.leftOf (s.word emergIdx) % 2 ^ 32)
  else if off = FAB_REL_STATUS then some (withBits (s.reg off) 6 0 (s.fld FAB_REL.BUFS - s.bufsUsed))
  else if FAB_LEVEL0 0 ≤ off ∧ off ≤ FAB_LEVEL1 255 then
    some (if (off - FAB_LEVEL0 0) % 8 = 0 then levelWord0 (s.word ((off - FAB_LEVEL0 0) / 8))
      else s.leftOf (s.word ((off - FAB_LEVEL0 0) / 8)) % 2 ^ 32)
  else if off = TIME_NOW 0 then some (s.skyNs % 2 ^ 32)
  else if off = TIME_NOW 1 then some (s.skyNs / 2 ^ 32 % 2 ^ 32)
  else if off = HDG_STATUS then
    some (min 15 s.hdg.queue.length * 256 + 4 * bnat s.hdg.prepared.isSome + 2 * bnat s.hdg.running.isSome + s.fld HDG_STATUS.AUTONOMOUS)
  else if off = STILE_LEDGER then some (ofSigned 16 s.arb.ledger)
  else if off = STILE_STATUS then some s.stileStatusWord
  else if 0x40000 ≤ off ∧ off < 0x90000 ∧ off % 0x400 = AGT_STATUS 0 % 0x400 then
    some (withBits (s.reg off) 0 0 (bnat (s.present ((off - 0x40000) / 0x400))))
  else none

/-- What a register reads as (R5, R57): its live word where it has one, else the word it holds. -/
def State.readReg (s : State) (off : Nat) : Nat :=
  match s.liveHeath off with
  | some v => v
  | none => match s.livePower off with
    | some v => v
    | none => (s.liveFabric off).getD (s.reg off)

end Sys2Proof.Machine
end

