-- ==== Sys2Proof/Machine/Serve.lean ====
section
/-! DEFINITION. What a die answers to a command about itself, whether it came from its own mailboxes or over the
Hedgerow (R229, R336, R393, R394, R454–R456, R467). -/

namespace Sys2Proof.Machine

/-! ### GET_INFO and GET_BUDGET (R393, R394) -/

/-- The 24 bytes of GET_INFO. -/
def State.infoOut (s : State) : List Nat :=
  [ID_VERSION, ID_TOPOLOGY, HEATH_EPOCH, HEATH_BOOT_STATUS, HEATH_DOMAIN_STATUS, CMD_SESSION].flatMap (fun r => leBytes 4 (s.readReg r))

/-- The ten words of a die in GET_BUDGET, or the outstanding quanta of one context. -/
def State.budgetOut (s : State) (ctx : Option Nat) : List Nat :=
  match ctx with
  | some x => leBytes 4 (s.readReg (ADM_CTX_OUT x))
  | none =>
    [BUD_SHARE, BUD_CAPS, BUD_RSN_ACTIVE, BUD_SHARE_WIN 0, BUD_SHARE_WIN 1, BUD_SHARE_WIN 2, BUD_SHARE_WIN 3, OPP_HOST_CAP, OPP_STATUS,
      ADM_CEILING].flatMap (fun r => leBytes 4 (s.readReg r))

/-! ### CAPTURE_READ (R229) -/

/-- Status of a CAPTURE_READ whose fields are in range. -/
def State.captureStatus (s : State) (n first count : Nat) : Nat :=
  if count = 0 then stEmpty
  else if 8192 < first + count then stInvalid
  else if s.capState n = 1 ∨ s.capState n = 2 then stBusy
  else if (s.rail n).cap.armed = false then stNotFound
  else stOk

/-- A stored sample's 8 bytes (R225). -/
def CapSample.bytes (x : CapSample) : List Nat :=
  pack [(2, ofSigned 16 x.err), (2, x.duty), (2, match x.sense with | some c => ofSigned 16 c | none => 0x8000), (2, ofSigned 16 x.cur)]

/-- INJ_OFS: control samples from the record's first to injected sample 0, negative where the injection began before the
record; 0x8000_0000 where no injected sample lies in the record (R229). -/
def Capture.injOfs (c : Capture) : Nat :=
  match c.injAt, c.samples.head?, c.samples.getLast? with
  | some k, some x, some z =>
    let over_ := match c.injEnd with | some e => decide (e ≤ x.count ∨ e ≤ k) | none => false
    if k < z.count + 2 ^ c.decim ∧ over_ = false then ofSigned 32 ((k : Int) - x.count) else 0x80000000
  | _, _, _ => 0x80000000

/-- The 32-byte header and the samples. Where another injection has begun between the freeze and the read, INJ_OFS is of the
one at the freeze and ABORT to AMP are of the latest at the read, a choice (R229, log 189). What stands in the buffer past
the valid samples is not stated: free values (log 3). -/
def State.captureOut (s : State) (n first count : Nat) : List Nat :=
  let c := (s.rail n).cap
  let inj : Injection := match s.lastInj with | some (_, j) => j | none => { chip := 0 }
  let why := match s.lastInj with | some (m, _) => s.fld (RAIL_INJ_STATUS.REASON m) | none => 0
  pack [(8, match c.samples.head? with | some x => x.time | none => 0), (2, s.fld (RAIL_CAP_FILL.VALID n)),
    (2, s.fld (RAIL_CAP_FILL.TRIG_POS n)), (1, c.src + 4 * c.evt), (1, c.decim), (1, c.per), (1, why), (4, c.injOfs),
    (2, s.fld (RAIL_CAP_STATUS.LATE_TRIG n)), (1, inj.wave * 16 + inj.point), (1, inj.chip), (4, inj.freq), (2, ofSigned 16 inj.amp),
    (2, 0)] ++
  (List.range count).flatMap (fun k => match c.samples[first + k]? with
    | some x => x.bytes
    | none => leBytes 8 (Config.freeValue (s.free + k)))

/-! ### Is a unit there? -/

/-- The fields of READ_COUNTERS are in range (R454). -/
def State.countersFit (s : State) (set source first count : Nat) : Bool :=
  decide (set ≤ 3 ∧ source ≤ 1) && (set != 0 || decide (first + count ≤ 320)) && (set != 2 || decide (first + count ≤ 1024)) &&
  (set != 3 || s.leader)

/-- The fields of READ_RING are in range, and the unit is there (R456). -/
def State.ringFits (s : State) (u i : Nat) : Bool :=
  match u with
  | 0 => decide (i < 320) && s.present i
  | 1 | 3 => i == 0
  | 2 => decide (i < 4)
  | _ => false

/-- Status of a READ_COUNTERS by the table of R454. -/
def State.countersJudge (s : State) (set source first count : Nat) (ctx : Option Nat) : Nat :=
  if (set = 0 ∨ set = 2) ∧ count = 0 then stEmpty
  else if !s.countersFit set source first count then stInvalid
  else s.countersStatus set source first count ctx

/-- Status of a READ_RING by the table of R456. -/
def State.ringJudge (s : State) (u i count : Nat) (ctx : Option Nat) : Nat :=
  if u ≤ 3 ∧ (count = 0 ∨ (s.ringUnit u i).2 = 0) then stEmpty
  else if !s.ringFits u i then stInvalid
  else s.ringStatus u i count ctx

/-! ### A forwarded command at its follower (R336) -/

/-- A forwarded command is done: CMD_DONE. -/
def State.cmdDone (s : State) (tag status : Nat) (result : List Nat) : State :=
  s.send s.leaderDie (tag % 256) (.cmdDone tag status result)

/-- Results go to host memory first, and CMD_DONE follows their last write (R336, R390). While the session is UNATTENDED
nothing is written to host memory for a command (R402). -/
def State.cmdDoneAfter (s : State) (tag dest : Nat) (ctx : Option Nat) (bytes : List Nat) (bank : Bool) : State :=
  let xs := writeLines dest ctx (.fwd tag) bytes
  if s.unattended then s.cmdDone tag stOk []
  else ({ s with hdg := { s.hdg with serving := SMap.enter s.hdg.serving tag { left := xs.length, status := stOk, bank := bank } } }).memSend xs

/-- A write of a forwarded command's results has been answered. -/
def State.fwdLine (s : State) (tag : Nat) (ok : Bool) : State :=
  match SMap.find s.hdg.serving tag with
  | none => s
  | some v =>
    let v1 := { v with left := v.left - 1, failed := v.failed || !ok }
    if 0 < v1.left then { s with hdg := { s.hdg with serving := SMap.enter s.hdg.serving tag v1 } }
    else
      ({ s with hdg := { s.hdg with serving := SMap.drop s.hdg.serving tag } }).cmdDone tag (if v1.failed then stAborted else v1.status) v1.result

end Sys2Proof.Machine
end

