-- ==== Sys2Proof/Machine/Reset.lean ====
section
/-! DEFINITION. Resets and start-up steps 1–5 up to the image (R101–R116, R28, R29), the block reset (R92, R104–R107,
R157, R183, R319, R330, R362, R405, R447), and the edge reactions of a raise at the fault hub (R460, R461, R466). -/

namespace Sys2Proof.Machine

/-! ### Block reset (R103–R107) -/

/-- The block epoch moves on: after 0xFFFF it wraps to 0x0001 (R105). -/
def State.nextEpoch (s : State) : State :=
  s.setFld HEATH_EPOCH.BLOCK_EPOCH (if s.blockEpoch = 0xFFFF then 1 else s.blockEpoch + 1)

/-- Heartbeat timer: an ATTACH that had not executed held it stopped (R401). -/
def State.attachGone (s : State) : State :=
  match s.cmd 0 with
  | some a => if a.attach ∧ a.stage ≠ 4 then { s with ses := { s.ses with hbAt := s.ses.hbAt + (s.skyNs - a.pickup) } } else s
  | none => s

/-- The tags that are still owed a response after a reset, which will be taken and discarded (R92). -/
def MemPort.forget (p : MemPort) : SMap (Option Nat) :=
  (List.range 32).filterMap (fun t => if SMap.has p.out t || SMap.has p.dead t then some (t, none) else none)

/-- Commands in flight and notices not yet posted are discarded; so are the transactions that wait, and the responses
to those outstanding (R92, R104, R405). -/
def State.dropCommands (s : State) : State :=
  let s1 := s.attachGone
  let owed := s1.mem.forget
  { s1 with
    cmds := []
    mem := { s1.mem with queue := [], out := [], dead := owed, resetDead := owed.map (fun p => p.1) }
    ses := { s1.ses with writing := [], events := [], replies := [], heldReplies := [], heldEvents := 0 }
    hdg := { s1.hdg with serving := [], fwd := [] } }

/-- Is a COMMIT still to be transferred to every participant (R330)? -/
def State.commitHeld (s : State) (c : Commit) : Bool :=
  c.parts != 0 && (bitsSet 8 c.parts).all (fun d => (s.link d).queue.any (fun x => match x.payload with | .commit _ => true | _ => false))

/-- A block reset before the first COMMIT flit has been transferred: the flits that wait are withdrawn, and the commit will be
aborted as the reset completes (R330). -/
def State.withdrawCommit (s : State) : State :=
  match s.hdg.running with
  | some c =>
    if c.phase = 2 ∧ s.commitHeld c = true then
      let plain (x : OutFlit) : Bool := match x.payload with | .commit _ => false | _ => true
      let s1 := each (bitsSet 8 c.parts) (fun d t => t.setLink d { t.link d with queue := (t.link d).queue.filter plain }) s
      { s1 with hdg := { s1.hdg with
          running := some { c with phase := 1 }
          prepared := s1.hdg.prepared.map (fun (p : Prepared) => { p with t := none }) } }
    else s
  | none => s

/-- Queued commits of the commands are gone with them, and those of releases with their buffers; the running one goes
on without an answer (R330, R331, R362). -/
def State.dropCommits (s : State) : State :=
  let stays (c : Commit) : Bool := c.who.isNone && (match c.act with | .release _ => false | _ => true)
  { s with hdg := { s.hdg with
    queue := s.hdg.queue.filter stays
    running := s.hdg.running.map (fun (c : Commit) => { c with who := none })
    staged := [], fabStaged := [], rx := [], rxAct := none }
           staged := [] }

/-- A snapshot that is pending or prepared is aborted (R447). -/
def State.dropSnapshot (s : State) : State :=
  let s1 := s.snapAbort
  match s1.hdg.prepared with
  | some p =>
    match p.act with
    | some (.snapshot _ _) => { s1 with hdg := { s1.hdg with prepared := some { p with act := none } } }
    | _ => s1
  | none => s1

/-- The Stile's ledger and queues (R319); what waits at a sender is gone with the sender's unit (R104). The queues are
empty, so neither wakes a half (R316). -/
def State.stileReset (s : State) : State :=
  let n := min s.hdg.stileN 64 + min s.hdg.stileS 64
  let s1 := ({ s with arb := { s.arb with ledger := 0 }, hdg := { s.hdg with stileN := 0, stileS := 0, stileQ := [] } }).incSat STILE_CNT.RST_DISCARD n
  (s1.setFlag STILE_STATUS.WAKE_N false).setFlag STILE_STATUS.WAKE_S false

/-- The droop engine at the trigger: the freeze mask and the forces of its own are over, and the rings say so (R183, R440). -/
def State.droopReset (s : State) : State :=
  let s1 := { s with drp := { s.drp with freeze := 0, freezeEnd := [], pro := 0, proEnd := [], proLeft := 0, debug := false } }
  if s.drp.freeze = 0 then s1
  else each (bitsSet 16 s.drp.freeze) (fun k t => t.noteFreeze k 0 0)
    (s1.logArb 0x25 (dataBytes (leBytes 2 0 ++ [bnat s1.holdFreeze])))

/-- Stream lines that wait are gone: the period is dropped (R450, R451). -/
def State.streamReset (s : State) : State :=
  { s with obs := { s.obs with streamQ := [], streamLeft := 0, streamNew := 0, recDropped := s.obs.recDropped || s.obs.streamLeft != 0 } }

/-- The steward's cores restart from ROM: what they were doing ends (R104, R106, R418, R422–R424). -/
def State.stewardReset (s : State) : State :=
  let fw := { s.fw with
    readLeft := 0, trying := 0, image := none, copy := none, loaded := [], reboot := false, capsStaged := {}, locked := false,
    ram := [], handover := none, debugs := s.fw.debugs.map (fun d => { d with halted := false }) }
  let s1 := { s with fw := fw, ps := { s.ps with digestDue := true } }
  let s2 := if s1.fw.mode = 1 then s1.stageFails 8 else s1
  if s2.fld HEATH_FW_STATUS.ACT = 2 then
    let s3 := if s2.leader then s2.abortActivation 4 else s2.coresReturn
    s3.bootAgain
  else s2

/-- The ring entries of a block reset: every recording ring writes one; what is in the reset domain stamps its next
entry with GAP (R368, R440, R443). -/
def State.logReset (s : State) : State :=
  let s1 := s.logAll 0xF0 (dataBytes (leBytes 2 s.blockEpoch))
  { s1 with
    sky := { s1.sky with gap := true, logGap := true }
    rings := { s1.rings with arb := { s1.rings.arb with gap := true }, samp := { s1.rings.samp with gap := true } } }

/-- A block reset is triggered by the host or by a fault; a further trigger extends it (R103–R107). One that only extends
it sets no RESET_CAUSE bit and is not counted in BLOCK_RESETS, a choice: R105 speaks of the epoch alone (log 138). -/
def State.blockReset (s : State) (byHost : Bool) : State :=
  if s.inReset then { s with ps := { s.ps with resetAt := s.now } }
  else
    let s1 := ({ s.holdBases with ps := { s.holdBases.ps with resetAt := s.now } }).setFlag HEATH_RESET_CTRL.BLOCK_RESET true
    let s2 := (s1.setFlag (if byHost then HEATH_RESET_CAUSE.BLOCK_HOST else HEATH_RESET_CAUSE.BLOCK_FAULT) true).incSat
      HEATH_RESET_CAUSE.BLOCK_RESETS
    let s3 := (s2.nextEpoch.bell 1).logReset
    let s4 := ((s3.abortAllInj 7).voidAll false true).droopReset.stileReset
    let s5 := s4.dropCommands.withdrawCommit.dropCommits.dropSnapshot.streamReset
    let s6 := if s5.leader then s5.fabBlockReset else s5
    s6.stewardReset.noteReasons

/-- Requests of engines whose class is above their grant enter the arbiter in ascending order (R157). -/
def State.replayRequests (s : State) : State :=
  let want : List ReqSlot := s.clusters.flatMap (fun c =>
    let a := s.agent c
    ([0, 1, 2, 3].filter (fun e => a.run && decide ((a.engine e).grant < (a.engine e).req))).map (fun e => ReqSlot.mk c e (a.engine e).req false))
  let s1 := each want (fun w t =>
    let a := t.agent w.cluster
    t.setAgent w.cluster (a.setEngine w.engine { a.engine w.engine with sentAt := t.now, arbAt := t.now, stileAt := none })) s
  ({ s1 with arb := { s1.arb with slots := want } }).checkWave

/-- SEVERE detections of the reset act if they still hold; others are over (R183). -/
def State.replaySevere (s : State) : State :=
  each (s.clusters.filter (fun c => decide (0 < (s.agent c).det.reports))) (fun c t =>
    let a := t.agent c
    if a.det.d = 3 then
      let t1 := t.severeReport c
      let b := t1.agent c
      t1.setAgent c { b with det := { b.det with reports := 0 } }
    else t.setAgent c { a with det := { a.det with reports := 0 } }) s

/-- The ranges are driven again (R92). -/
def State.rewatch (s : State) : State :=
  each (List.range 16) (fun r t => t.driveRange r) s

/-- The units that leave a block reset are clocked: gated domains start, or, in OFF, will once the PLL locks (R14, R17, R106,
log 180). -/
def State.clocksForReset (s : State) : State :=
  if s.canWake then s.startCore.startSteward.lingerFrom true else { s with ps := { s.ps with stewWake := true } }

/-- BLOCK_RESET_COMPLETE: every unit that the reset reached leaves it (R106). -/
def State.resetComplete (s : State) : State :=
  if !s.inReset then s
  else
    let s0 := s.clocksForReset
    let s1 := (s0.setFlag HEATH_RESET_CTRL.BLOCK_RESET false).gapBooking.tellGap s0.gapSpan
    let s2 : State := { s1 with thm := { s1.thm with fresh := true } }
    let s3 := s2.replaySevere
    let s4 : State := { s3 with drp := { s3.drp with debug := s3.fld DRP_FORCE.LEVEL != 0 && s3.hasScope 0 } }
    let s5 := s4.replayRequests
    let s6 : State := match s5.hdg.running with
      | some c =>
        if s5.leader = true ∧ c.phase = 1 then
          (match c.act with
           | .catchUp d => (s5.abortCommit stConflict).markLost d
           | _ => s5.abortCommit stConflict)
        else s5
      | none => s5
    let s7 := if s6.leader then s6.fabResend else s6.report .resetDone
    s7.rewatch.noteReasons.memPump.queueOwed

/-! ### The edge reactions of a raise (R460, R461, R466) -/

/-- A non-maskable trap to the steward's cores, which starts their domain (R14, R461). -/
def State.trapCores (s : State) (i : Nat) : State :=
  if s.flag HEATH_FW_STATUS.HALTED then s else (if s.canWake then s.startCore.startSteward.lingerFrom true else s).emit (.trap i)

/-- host_rst_req rises (R103, R108). -/
def State.chipReset (s : State) : State :=
  ({ s with ps := { s.ps with hostRst := true } }).setFlag HEATH_RESET_CAUSE.CHIP_REQ true

/-- Block resets that the hub triggered in the last second (R466). -/
def State.recentResets (s : State) : List Nat := s.hub.resets.filter (fun t => decide (s.now < t + 1000000000))

/-- A BLOCK_RST reaction (R107, R466): before READY it stops start-up; beyond the limit it is suppressed. -/
def State.hubReset (s : State) : State :=
  if !s.ready then (if s.ps.booting then s.haltStartUp else s)
  else
    let recent := s.recentResets
    if s.fld FH_CTRL.RST_LIMIT ≤ recent.length then s.setFlag FH_STATUS.RST_STORM true
    else ({ s with hub := { s.hub with resets := recent ++ [s.now] } }).blockReset false

/-- A raise reaches the hub: it is latched and its edge reactions act (R460, R461). -/
def State.hubRaise (s : State) (i syn : Nat) (forced : Bool) : State :=
  let r := s.hubLatch i syn forced
  let s1 := if bitAt r.2 1 then r.1.trapCores i else r.1
  let s2 := if bitAt r.2 3 then s1.chipReset else s1
  if bitAt r.2 2 then s2.hubReset else s2

/-- The queue of raises without its first of source `i`. -/
def dropRaise (i : Nat) : List Raise → List Raise
  | [] => []
  | r :: rs => if r.src = i then rs else r :: dropRaise i rs

/-- FAULT_RAISE: the first raise of source `i` on its way arrives; where none is on its way one comes as told (R459,
R460). -/
def State.faultRaise (s : State) (i syn : Nat) : State :=
  if !s.ps.porst then s
  else match s.raises.find? (fun r => r.src == i) with
    | some r => (({ s with raises := dropRaise i s.raises }).hubRaise i r.syn r.forced).wakeLinks
    | none =>
      let s1 := s.hubRaise i (syn % 2 ^ 64) false
      if s.flag (FH_SRC.EN i) then s1.wakeLinks else s1

/-- RST_STORM_END: enough resets have left the window (R466). -/
def State.stormEnd (s : State) : State :=
  if s.flag FH_STATUS.RST_STORM then
    let k := s.hub.resets.length - s.fld FH_CTRL.RST_LIMIT
    let s1 := match s.hub.resets[k]? with
      | some t => s.advanceTo (t + 1000000000)
      | none => s
    s1.setFlag FH_STATUS.RST_STORM false
  else s

/-! ### One-time programmable contents (R111 step 2) -/

/-- What the registers take from the OTP: register words, the rollback counter, the compensation site, the access
state (R304, R413, R469). -/
def State.loadOtp (s : State) : State :=
  let s1 := each s.otp.words (fun p t => t.setReg p.1 p.2) s
  let s2 := (s1.setFld HEATH_FW_STATUS.COUNTER s1.otp.burned).setFld THM_CTRL.HEATH_SITE (s1.fld THM_OTP.HEATH_SITE)
  (s2.setFld ACC_STATE.STATE (bnat (s2.flag ACC_OTP.FIELD))).setFld ID_TOPOLOGY.CLUSTERS s2.clusters.length

/-! ### PORST_N (R103, R104, R465) -/

/-- A register word after PORST_N: bits of the Heath's own reset domain keep their value; a pending or seen bit stays
where its source is latched (R465). -/
def State.keptWord (s : State) (off w : Nat) : Nat :=
  let fresh := (resetWord off).toNat
  if FH_PEND 0 ≤ off ∧ off ≤ FH_PEND 7 then w &&& s.reg (FH_LATCHED ((off - FH_PEND 0) / 4))
  else if FH_SEEN 0 ≤ off ∧ off ≤ FH_SEEN 7 then w &&& s.reg (FH_LATCHED ((off - FH_SEEN 0) / 4))
  else match findReg off with
    | some d => (w &&& d.porMask) + maskDiff fresh d.porMask
    | none => fresh

/-- The registers after PORST_N. -/
def State.keptRegs (s : State) : SMap Word :=
  (s.regs.map (fun p => (p.1, BitVec.ofNat 32 (s.keptWord p.1 p.2.toNat)))).filter (fun p => p.2 != resetWord p.1)

/-- Everything outside the Heath, and the Heath's fields of that reset domain, as PORST_N leaves it (R103, R104). The
Skylark counter runs on in holdover; the host's request lines and the trip lines keep their levels; the Heath keeps the
emergency and its hold (R13, R99). What was programmed into the flash stays there (R426). -/
def State.powerOnReset (s : State) : State :=
  let t : State := { tie := s.tie, otp := s.otp }
  { t with
    regs := s.keptRegs
    now := s.now
    sky := { s.sky with holdFrom := none, missRun := 0 }
    free := s.free
    out := s.out
    halfReq := s.halfReq
    mem := { dead := s.mem.forget }
    lim := { emergency := s.lim.emergency, pinLow := s.lim.pinLow, highAt := s.lim.highAt, edge := s.lim.edge }
    thm := { trips := s.thm.trips, shutdown := s.thm.shutdown, oscCorr := s.thm.oscCorr }
    fw := { log := s.fw.log, verB := s.fw.verB }
    acc := { backoffEnd := s.acc.backoffEnd }
    ps := { vaon := true }
    pending := s.pending }

/-- Domains stop; the sampled straps stay until the next deassertion (R28, R103). -/
def State.stopDomains (s : State) : State :=
  (((s.setFlag HEATH_DOMAIN_STATUS.PLL_LOCK false).setFlag HEATH_DOMAIN_STATUS.STEWARD_ON false).setFlag
    HEATH_DOMAIN_STATUS.DPWM_ON false).setFlag HEATH_DOMAIN_STATUS.CORE_ON false

/-- PORST_N_ASSERT (R103, R104, R109, R110). While VAON is below its threshold it only undoes an early rise.
RESET_CAUSE.PORST is set at this edge only: where PORST_N is already low as the Heath leaves POR, no assertion is seen and
the bit stays 0, a choice (log 137). A snapshot that it aborts is shown so (R447). -/
def State.porstAssert (s : State) : State :=
  if !s.ps.vaon then { s with ps := { s.ps with early := none } }
  else if !s.ps.porst then s
  else
    let top := s.reg ID_TOPOLOGY
    let s1 := (s.powerOnReset.loadOtp.setReg ID_TOPOLOGY top).setFld ID_TOPOLOGY.DIE_MASK 0
    let s2 := (s1.setFlag HEATH_RESET_CAUSE.PORST true).stopDomains
    let s3 := if s.snapOpen then s2.setFld OBS_SNAP_STATUS.STATE 3 else s2
    if s3.sky.expected.isSome then s3.enterHoldover else s3

/-- PORST_N rises (R28, R29, R97, R99, R105, R111 step 4, R114, R363): the straps are sampled, the PLL starts; an event of
FAST_LIMIT_N that was latched under PORST_N acts, and sources that outlived PORST_N hold their lines. -/
def State.porstRelease (s : State) (leaderSel : Bool) (dieId : Nat) : State :=
  let s1 := { s with ps := { s.ps with porst := true, booting := true, pllStarting := true, exchange := true, early := none } }
  let s2 := (s1.setFlag ID_TOPOLOGY.LEADER leaderSel).setFld ID_TOPOLOGY.DIE_ID dieId
  let s3 := (s2.setFld ID_TOPOLOGY.CLUSTERS s2.clusters.length).setFld HEATH_BOOT_STATUS.STEP 4
  let s4 := s3.setFld HEATH_BOOT_STATUS.MG_BIND (if leaderSel then s3.otp.mgBind else 0)
  let s5 := if leaderSel then s4.nextEpoch.bell 1 else s4.nextEpoch
  let s6 : State := { s5 with sky := { s5.sky with
    ns := if s5.sky.expected.isSome then s5.sky.ns else 0, flitAt := s5.now, pulseAt := s5.now } }
  let s7 := if s6.lim.edge then
      { s6.setReg HEATH_WAKE_CAUSE (maskSet (s6.reg HEATH_WAKE_CAUSE) 3) with lim := { s6.lim with edge := false } } else s6
  let s8 := s7.noteLines
  if s8.lim.emergency then s8.gorseForce.noteReasons else s8

/-- PORST_N_DEASSERT: where it comes before VAON, the block acts at the end of start-up step 2 (R101). -/
def State.porstDeassert (s : State) (leaderSel : Bool) (dieId : Nat) : State :=
  if !s.ps.vaon then { s with ps := { s.ps with early := some (leaderSel, dieId % 8) } }
  else if s.ps.porst then s
  else s.porstRelease leaderSel (dieId % 8)

/-- VAON_POR_RELEASE: the Heath leaves POR, its watcher sees the level of FAST_LIMIT_N (R100), and the OTP is read (R101,
R111 steps 1 and 2). -/
def State.vaonRelease (s : State) : State :=
  if s.ps.vaon then s
  else
    let s1 := ({ s with ps := { s.ps with vaon := true }, lim := { s.lim with emergency := s.lim.pinLow, edge := s.lim.pinLow } }).loadOtp
    match s1.ps.early with
    | some x => s1.porstRelease x.1 x.2
    | none => s1

/-- HEATH_POR: everything is at its default, the Heath included (R103, R104). -/
def State.heathPor (s : State) : State :=
  let straps := if s.ps.porst then some (s.leader, s.dieId) else s.ps.early
  let t : State := { tie := s.tie, otp := s.otp }
  { t with
    now := s.now
    free := s.free
    out := s.out
    halfReq := s.halfReq
    mem := { dead := s.mem.forget }
    lim := { pinLow := s.lim.pinLow }
    thm := { trips := s.thm.trips }
    ps := { early := straps }
    pending := s.pending }

/-! ### Start-up step 4 (R29, R111) -/

/-- What runs on the PLL's clock starts its schedules from now. -/
def State.startClocks (s : State) : State :=
  let t := s.skyNs
  { s with
    est := { s.est with lastAt := t / 1000 * 1000, calAt := t / 1000000 * 1000000 }
    thm := { s.thm with roundAt := t, modelAt := t, memAt := each (List.range 4) (fun k m => SMap.put (fun _ => 0) m k s.now) [] }
    obs := { s.obs with watchAt := t }
    arb := { s.arb with stepAt := t }
    sky := { s.sky with flitAt := s.now } }

/-- This instance's strap flit to every other DIE_ID (R29). -/
def State.sendStraps (s : State) : State :=
  each ((List.range 8).filter (fun d => d != s.dieId)) (fun d t =>
    t.send d 0 (.strap t.dieId t.leader)) s

/-- The exchange is over: nothing waits any longer for the instances that were not heard (R29, log 141). -/
def State.dropUnheard (s : State) : State :=
  each ((List.range 8).filter (fun d => (s.link d).strap.isNone)) (fun d t =>
    t.setLink d { t.link d with unacked := [], queue := [] }) s

/-- PLL_LOCK (R16, R111): in start-up step 4 follows; out of OFF step 6 may begin. -/
def State.pllLock (s : State) : State :=
  if !s.ps.porst ∨ s.ps.pllStarting = false then s
  else
    let s1 := ({ s with ps := { s.ps with pllStarting := false } }).setFlag HEATH_DOMAIN_STATUS.PLL_LOCK true
    if s1.ps.booting then
      let s2 := ((s1.startClocks).setFlag HEATH_DOMAIN_STATUS.CORE_ON true).gapCore.startSteward
      ({ s2 with ps := { s2.ps with lockAt := s2.now, stewWake := false } }).sendStraps
    else s1.startCore.startWoken.tryStepSix

/-- Straps of this instance and of every one heard. -/
def State.straps (s : State) : List (Nat × Bool) := (s.dieId, s.leader) :: s.hdg.links.filterMap (fun p => p.2.strap)

/-- No leader, more than one, or a repeated DIE_ID (R29). -/
def State.strapConflict (s : State) : Bool :=
  (s.straps.filter (fun x => x.2)).length != 1 || !decide ((s.straps.map (fun x => x.1)).Nodup)

/-- STRAP_EXCHANGE_CLOSE: 1 ms after the leader's lock the straps are judged; step 5 follows (R29, R111, R113). -/
def State.strapClose (s : State) : State :=
  if !s.ps.booting ∨ s.ps.exchange = false ∨ s.flag HEATH_DOMAIN_STATUS.PLL_LOCK = false then s
  else
    let s0 := (if s.leader then s.advanceTo (s.ps.lockAt + 1000000) else s).dropUnheard
    let s1 : State := { s0 with ps := { s0.ps with exchange := false } }
    if s1.strapConflict then s1.stopWith 1
    else
      let ids := (s1.straps.filter (fun x => s1.leader || x.2 || x.1 == s1.dieId)).map (fun x => x.1)
      let s2 := s1.setFld ID_TOPOLOGY.DIE_MASK (ids.foldl maskSet 0)
      let s3 := each ids (fun d t => t.setFld (HDG_DIE_STATE.STATE d) 1) s2
      let s4 := (s3.setFld HEATH_BOOT_STATUS.STEP 5).takeShares
      let s5 : State := { s4 with hdg := { s4.hdg with hbAt := s4.now } }
      if s5.leader then (if 1 < ids.length then s5.enqueueReserved .share else s5)
      else if s5.intAny || s5.errAny then s5.report (.lines s5.intAny s5.errAny s5.pinAny)
      else s5

end Sys2Proof.Machine
end

