-- ==== Sys2Proof/Machine/Hedgerow.lean ====
section
/-! DEFINITION. The Hedgerow: its link layer, heartbeats and wakes, what each flit does, forwarded commands at both
ends (R29, R82, R320–R337), and the Stile's message queues (R316). -/

namespace Sys2Proof.Machine

/-! ### A forwarded command at its follower (R336) -/

/-- FAULT_FORCE on this die: the raise, unless the scope is not held (R467, R468). -/
def State.forceFault (s : State) (source syn : Nat) : Nat × State :=
  if 255 < source ∨ s.flag (FH_SRC.IMPL source) = false then (stInvalid, s)
  else if !s.hasScope 2 then (stLocked, s.incSat (whole ACC_DENIED))
  else (stOk, s.hubRaise source syn true)

/-- Is an injection running on this die (R228)? -/
def State.injecting (s : State) : Bool := (List.range 4).any (fun k => (s.rail k).inj.isSome)

/-- CMD: the follower executes the command (R336, R398). -/
def State.serve (s : State) (tag : Nat) (c : FwdCmd) : State :=
  match c with
  | .getInfo => s.cmdDone tag stOk s.infoOut
  | .getBudget ctx => s.cmdDone tag stOk (s.budgetOut ctx)
  | .readCounters set source first count dest ctx =>
    let st := s.countersJudge set source first count ctx
    if st = stOk then s.cmdDoneAfter tag dest ctx (s.countersOut set source first count ctx) (source == 0) else s.cmdDone tag st []
  | .armTrigger action post sources units =>
    let r := s.armTrigger action post sources units
    r.2.cmdDone tag r.1 []
  | .readRing u i first count dest ctx =>
    let st := s.ringJudge u i count ctx
    if st ≠ stOk then s.cmdDone tag st []
    else if u = 0 ∧ s.stileHolds (halfOf i) = true then s.stileWait (halfOf i) (.readFor tag i first count dest ctx)
    else s.cmdDoneAfter tag dest ctx (s.ringOut u i first count) false
  | .faultRead => s.cmdDone tag stOk s.faultReadOut
  | .faultClear flags source =>
    if !bitAt flags 1 ∧ (255 < source ∨ s.flag (FH_SRC.IMPL source) = false) then s.cmdDone tag stInvalid []
    else
      let r := s.faultClear flags source
      r.1.cmdDone tag stOk (pack [(2, r.2.1), (2, r.2.2)])
  | .faultForce source syn =>
    let r := s.forceFault source syn
    if r.2.inReset && !s.inReset then r.2 else r.2.cmdDone tag r.1 []
  | .injectStart => s.cmdDone tag (if s.injecting then stBusy else stOk) []
  | .captureRead n first count dest =>
    let st := s.captureStatus n first count
    if st = stOk then (s.cmdDoneAfter tag dest none (s.captureOut n first count) false).spendN 8192 else s.cmdDone tag st []

/-! ### Flits as bytes (R320, R321) -/

/-- The type code of a flit (R321). -/
def Payload.code : Payload → Nat
  | .link => 0x00
  | .heartbeat _ _ _ => 0x01
  | .strap _ _ => 0x02
  | .stage _ _ => 0x03
  | .prepare _ _ _ _ => 0x04
  | .prepareAck _ _ _ => 0x05
  | .commit _ => 0x06
  | .abort _ => 0x07
  | .cmd _ => 0x08
  | .cmdDone _ _ _ => 0x09
  | .event _ => 0x0A
  | .energy _ => 0x0B
  | .thermal _ _ => 0x0C
  | .level _ _ => 0x0D
  | .data _ => 0x0E

/-- The 8 payload bytes of a flit where R321 lays them out; none for a type whose payload the spec only names, whose bytes are
free values (log 152). -/
def Payload.bytes : Payload → Option (List Nat)
  | .link => some (leBytes 8 0)
  | .heartbeat p stopped autonomous => some (pack [(1, p), (1, bnat stopped + 2 * bnat autonomous), (6, 0)])
  | .stage off v => some (pack [(4, off), (4, v)])
  | .prepare id kind count crc => some (pack [(2, id), (1, kind), (1, 0), (2, count), (2, crc)])
  | .prepareAck id nack regions => some (pack [(2, id), (1, bnat nack), (1, 0), (4, regions)])
  | .commit t => some (pack [(8, t)])
  | .abort id => some (pack [(2, id), (6, 0)])
  | .cmdDone tag status _ => some (pack [(2, tag), (1, status), (5, 0)])
  | .level i v => some (pack [(2, i), (4, v), (2, 0)])
  | .strap _ _ | .cmd _ | .event _ | .energy _ | .thermal _ _ | .data _ => none

/-- The 16 bytes of a flit: type, sequence and MORE, acknowledgement, tag, epoch, payload, CRC-16 over the 14 before it
(R320). `n`: its place among the outputs, which a payload whose bytes are free values depends on (log 152). -/
def flitBytes (n : Nat) (h : FlitHdr) (p : Payload) : List Nat :=
  let load := p.bytes.getD ((List.range 8).map (fun k => (Config.flitByte n k).toNat))
  let body := pack [(1, p.code), (1, 4 * (h.seq % 64) + 2 * bnat h.more),
    (1, 4 * (h.ack % 64) + 2 * bnat h.ackVld + bnat h.nak), (1, h.tag), (2, h.epoch)] ++ load
  body ++ leBytes 2 (crc16 body)

/-- The flits put out on the Hedgerow's ports, each as the 16 bytes that R320 gives it, with the instance it goes to. -/
def State.flitsOut (s : State) : List (Nat × List Nat) :=
  s.out.zipIdx.filterMap (fun o => match o.1 with
    | .flit d h p => some (d, flitBytes o.2 h p)
    | _ => none)

/-- The header of 16 received bytes (R320). -/
def hdrOfBytes (src : Nat) (bs : List Nat) : FlitHdr :=
  { src := src, seq := pByte bs 1 / 4 % 64, more := bitAt (pByte bs 1) 1, ack := pByte bs 2 / 4 % 64, ackVld := bitAt (pByte bs 2) 1,
    nak := bitAt (pByte bs 2) 0, tag := pByte bs 3, epoch := pNum bs 4 2, bad := crc16 (bs.take 14) != pNum bs 14 2 }

/-! ### Link layer (R322, R323, R325) -/

/-- Everything unacknowledged is sent again, from the oldest; after its fourth transfer the link has failed (R323). While
the strap exchange is open no link fails, a choice: an instance that is not there takes no flit (log 141). -/
def State.retryLink (s : State) (d : Nat) : State :=
  let k := s.link d
  match k.unacked with
  | [] => s
  | x :: _ =>
    if 4 ≤ x.tries ∧ s.ps.exchange = false then s.linkFails d
    else
      let again := k.unacked.map (fun (y : TxFlit) => { y with tries := y.tries + 1, at_ := s.now })
      let s1 := (s.setLink d { k with unacked := again }).incSat (HDG_LINK.RETRIES d) again.length
      each again (fun y t => t.emit (.flit d { t.flitHdr d y.seq y.tag with more := y.more } y.payload)) s1

/-- What an acknowledgement up to a sequence leaves. -/
def ackedUpTo (q : List TxFlit) (a : Nat) : List TxFlit :=
  match q.findIdx? (fun x => x.seq == a) with
  | some i => q.drop (i + 1)
  | none => q

/-- A SET_WATCH ends once every participant has its range (R457). -/
def State.settleWatch (s : State) : State :=
  let waits (p : Nat × Active) : Bool := p.2.hdr.opcode == 0x0505 && p.2.stage == 2
  let isRange (p : Payload) : Bool := match p with | .data (.watchRange _ _ _ _ _) => true | _ => false
  if s.cmds.any waits && s.hdg.links.all (fun l => !l.2.unacked.any (fun x => isRange x.payload) && !l.2.queue.any (fun x => isRange x.payload)) then
    each (s.cmds.filter waits) (fun p t => t.done p.1 stOk) s
  else s

/-- hdg_awake_in of an instance in RETAIN to which nothing more is to go may have fallen; the spec gives its fall no event, so
whether it has is a free value (R82, R332, log 24). -/
def State.linkRests (s : State) (d : Nat) : State :=
  let k := s.link d
  if k.pstate = 1 ∧ k.idle = true ∧ k.awake = true then s.spent.setLink d { k with awake := bitAt s.drawn 0 } else s

/-- The ACK and NAK of a flit (R320, R322, R323). -/
def State.takeAck (s : State) (h : FlitHdr) : State :=
  let k := s.link h.src
  let s1 := if h.ackVld then s.setLink h.src { k with unacked := ackedUpTo k.unacked (h.ack % 64) } else s
  let s2 := if h.nak then s1.retryLink h.src else s1
  ((State.drainLink 64 s2 h.src).linkRests h.src).settleWatch

/-- A LINK flit goes to an instance: an acknowledgement, or a NAK. -/
def State.sendLink (s : State) (d : Nat) (nak : Bool) : State :=
  s.emit (.flit d { s.flitHdr d (s.link d).txSeq 0 with nak := nak } .link)

/-- Has something gone to an instance since the outputs had `n` entries? -/
def State.spokeTo (s : State) (n d : Nat) : Bool :=
  (s.out.drop n).any (fun o => match o with | .flit x _ _ => x == d | _ => false)

/-- A good flit of the sequence is acted on and acknowledged, in the next flit to its source or in a LINK flit (R322). A
message of several flits is acted on with its last one, the first whose MORE is 0 (R320). -/
def State.takeFlit (s : State) (h : FlitHdr) (act : State → State) : State :=
  let n := s.out.length
  let k := s.link h.src
  let s0 := s.setLink h.src { k with rxSeq := (k.rxSeq + 1) % 64, taken := true }
  let s1 := if h.more then s0 else act s0
  if s1.spokeTo n h.src then s1 else s1.sendLink h.src false

/-- Can this instance take a flit of that source: out of PORST_N, its block core domain clocked, the source neither
lost nor itself (R322, R332)? -/
def State.hears (s : State) (h : FlitHdr) : Bool :=
  s.ps.porst && s.flag HEATH_DOMAIN_STATUS.CORE_ON && h.src != s.dieId && !(s.link h.src).failed

/-- The epoch of a flit is the newest from its source (R325); one that has changed rings EPOCH at the leader (R381). -/
def State.noteEpoch (s : State) (h : FlitHdr) : State :=
  let s1 := s.setLink h.src { s.link h.src with epoch := some h.epoch }
  if s.leader && (s.link h.src).epoch.any (fun e => e != h.epoch) then s1.bell 1 else s1

/-- The leader sends every set word again to a follower whose block reset has ended (R362). -/
def State.resendWords (s : State) (d : Nat) : State :=
  each (s.fab.words.filter (fun p => p.2.set && (s.wordDies p.1).contains d)) (fun p t => t.tellLevelTo p.1 [d]) s

/-- hdg_wake_in may have fallen with the flit that came: the spec gives its fall no event, so whether it has is a free value
(R82, log 61). -/
def State.wakeFalls (s : State) : State :=
  if s.hdg.wakeIn then { s.spent with hdg := { s.hdg with wakeIn := bitAt s.drawn 0 } } else s

/-- A flit is received (R322–R325): CRC, epoch, acknowledgement, sequence. LINK flits (`plain`) take no sequence. -/
def State.receive (s : State) (h : FlitHdr) (plain : Bool) (act : State → State) : State :=
  if !s.hears h then s
  else
    let s0 := (s.lingerFrom false).wakeFalls
    let k := s0.link h.src
    if h.bad then (s0.incSat (HDG_LINK.CRC_ERR h.src)).sendLink h.src true
    else if (match k.epoch with | some e => olderEpoch h.epoch e | none => false) then s0.incSat HDG_DISCARD.STALE
    else
      let s1 := (s0.noteEpoch h).takeAck h
      let back := (k.rxSeq + 64 - h.seq % 64) % 64
      if plain then act s1
      else if back = 0 then s1.takeFlit h act
      else if back ≤ 32 then s1.sendLink h.src false
      else s1.sendLink h.src true

/-- A STRAP flit is received: in sequence as any other; one out of sequence after start-up tells of an instance that has
been through PORST_N alone and is acted on as it stands (R322, R332, log 141). -/
def State.receiveStrap (s : State) (h : FlitHdr) (act : State → State) : State :=
  s.receive h (!s.ps.exchange && h.seq % 64 != (s.link h.src).rxSeq % 64) act

/-- HDG_FLIT_DISCARD: 16 bytes are received from an instance. A bad CRC is counted and answered with a NAK; an older epoch
and an unused type are counted; a gap in the sequence is answered with a NAK (R320–R322, R325). A flit that is none of these
is no discard: it comes as the row of its type. -/
def State.flitDiscard (s : State) (src : Nat) (bs : List Nat) : State :=
  let h := hdrOfBytes src bs
  let k := s.link src
  if !s.hears h then s
  else if h.bad then (s.incSat (HDG_LINK.CRC_ERR src)).sendLink src true
  else if (match k.epoch with | some e => olderEpoch h.epoch e | none => false) then s.incSat HDG_DISCARD.STALE
  else if 0x0E < pByte bs 0 then s.incSat HDG_DISCARD.BAD_TYPE
  else if pByte bs 0 ≠ 0 ∧ 32 < (k.rxSeq + 64 - h.seq) % 64 then s.sendLink src true
  else s

/-- HDG_RETRY_TIMEOUT: RETRY passes after the transfer of the oldest unacknowledged flit (R323). -/
def State.retryTimeout (s : State) (d : Nat) : State :=
  match (s.link d).unacked with
  | [] => s
  | x :: _ => (((s.advanceTo (x.at_ + s.fld HDG_CTRL.RETRY)).retryLink d)).settleWatch

/-! ### Wakes and heartbeats (R82, R332–R335) -/

/-- A die that leaves OFF is brought up to date beside its CATCH_UP: words, access state, session, host epoch, watch
ranges (R335, R352, R400, R402, R449, R471). -/
def State.refreshDie (s : State) (d : Nat) : State :=
  let s1 := s.resendWords d
  let acc := Payload.data (.access (s1.fld ACC_STATE.STATE) (s1.fld ACC_STATE.SCOPE) (s1.fld ACC_STATE.METHOD) s1.accLeft)
  let s2 := (((s1.send d 0 acc).send d 0 (.data (.session s1.unattended))).send d 0 (.data (.hostEpoch s1.hostEpoch)))
  each ((List.range 16).filter (fun r => s2.reg (OBS_WATCH_0 r) != 0 || s2.reg (OBS_WATCH_C r) != 0)) (fun r t =>
    t.send d 0 (.data (.watchRange r (t.flag (OBS_WATCH_0.EN r)) (t.fld (OBS_WATCH_0.EPL r))
      (t.reg (OBS_WATCH_4 r) + 2 ^ 32 * t.fld (OBS_WATCH_8.BASE_PG_HI r))
      (t.reg (OBS_WATCH_C r) + 2 ^ 32 * t.fld (OBS_WATCH_8.LIMIT_PG_HI r))))) s2

/-- HDG_AWAKE_IN: an instance is awake; what waits for it goes out; a die that leaves OFF waits for its catch-up (R82,
R332, R335). -/
def State.awakeIn (s : State) (d : Nat) : State :=
  if !s.ps.porst || d == s.dieId || (s.link d).failed then s
  else
    let s1 := s.setLink d { s.link d with awake := true, wakeAt := none, missed := 0 }
    let s2 := State.drainLink 64 s1 d
    if s2.leader ∧ s2.fld (HDG_DIE_STATE.STATE d) = 2 ∧ SMap.has s2.hdg.catching d = false then
      (({ s2 with hdg := { s2.hdg with catching := SMap.enter s2.hdg.catching d s2.now } }).refreshDie d).queueCatchUps
    else s2

/-- HDG_WAKE_TIMEOUT: a wake is not answered within 1 µs (R332). -/
def State.wakeTimeout (s : State) (d : Nat) : State :=
  match (s.link d).wakeAt with
  | some t => if (s.link d).awake then s else ((s.advanceTo (t + 1000)).linkFails d).settleWatch
  | none => s

/-- HEARTBEAT_SEND: HB_PERIOD has passed since the last heartbeats (R332). -/
def State.heartbeatSend (s : State) : State :=
  if !s.ps.porst || s.ps.exchange || !s.flag HEATH_DOMAIN_STATUS.CORE_ON then s
  else
    let s1 := s.advanceTo (s.hdg.hbAt + 1000 * s.fld HDG_CTRL.HB_PERIOD)
    ({ s1 with hdg := { s1.hdg with hbAt := s1.now } }).sendBeat s1.pstate

/-- HEARTBEAT_MISS: a heartbeat period has passed without one of an awake instance; three in a row lose it (R332–R334). -/
def State.heartbeatMiss (s : State) (d : Nat) : State :=
  let k := s.link d
  if !s.ps.porst || s.ps.exchange || !s.instances.contains d || !k.awake || s.fld (HDG_DIE_STATE.STATE d) == 2 then s
  else
    let s1 := s.setLink d { k with missed := k.missed + 1 }
    if k.missed < 2 then s1
    else if s1.leader then (s1.markLost d).settleWatch
    else if d = s1.leaderDie then s1.autonomous
    else s1

/-- A heartbeat has come (R332, R334). A follower whose power state falls to OFF is no longer a member and sleeps until
hdg_awake_in rises; one in RETAIN may sleep (log 24). A follower that hears in start-up that its leader has stopped has no
leader to report to (R113). A die that leaves OFF starts the 10 ms of a deferred activation again (R423). -/
def State.onHeartbeat (s : State) (d pstate : Nat) (stopped autonomous : Bool) : State :=
  let k := s.link d
  let s1 := (s.setLink d { k with missed := 0, pstate := pstate, stopped := stopped, autonomous := autonomous,
                                  awake := k.awake && !decide (k.pstate ≠ 0 ∧ pstate = 0) }).linkRests d
  if s1.leader then
    if stopped then s1.markLost d
    else if k.pstate ≠ 0 ∧ pstate = 0 then (s1.setFld (HDG_DIE_STATE.STATE d) 2).originateAll
    else if pstate ≠ 0 ∧ s1.fld (HDG_DIE_STATE.STATE d) = 2 then
      (({ s1 with lim := { s1.lim with calmFrom := s1.now } }).setFld (HDG_DIE_STATE.STATE d) 1).originateAll
    else s1
  else if stopped && d == s1.leaderDie && s1.ps.booting then s1.autonomous
  else s1

/-! ### Straps (R29, R109) -/

/-- STRAP (R29): noted while the exchange is open; after start-up it shows the leader that an instance has been through
PORST_N alone (R109, R332). -/
def State.onStrap (s : State) (d dieId : Nat) (leader : Bool) : State :=
  if s.ps.exchange then s.setLink d { s.link d with strap := some (dieId, leader) }
  else if s.leader && !s.ps.booting && bitAt s.dieMask d then s.markLost d
  else s

/-! ### EVENT and DATA (R321, R337) -/

/-- A follower's report reaches the leader (R273, R337, R353, R381, R404, R461). -/
def State.onEvent (s : State) (d : Nat) (e : DieEvent) : State :=
  match e with
  | .fault i syn flags react time => s.faultEvent d i syn flags react time
  | .lines int err pin => s.putLines d int err pin
  | .slowDown reason index deadline => s.slowDownAt d reason index deadline
  | .stopped code => (s.newEvent 0x03 d s.skyNs (pack [(1, 1), (1, code)])).markLost d
  | .ready =>
    let s1 := s.setLink d { s.link d with ready := true }
    (({ s1 with ps := { s1.ps with reported := maskSet s1.ps.reported d } }).newEvent 0x03 d s1.skyNs (pack [(1, 0), (1, 0)])).reachReady
  | .rate r => ({ s with fab := { s.fab with dieRate := SMap.enter s.fab.dieRate d r } }).originateAll
  | .bell bit => s.bell bit
  | .flags w => s.takeFlags d w
  | .resetDone => s.resendWords d
  | .firmware kind reason comp counter version => s.newEvent 0x04 d s.skyNs (fwBody kind reason comp counter version)

/-- DATA from a follower at the leader (R433, R449). -/
def State.dataToLeader (s : State) (d : Nat) (b : Bulk) : State :=
  match b with
  | .watchSums lines => s.addWatch lines
  | .gap pj t0 t1 => (s.bookGapOf d pj t0 t1).bankLate energyOff
  | .stacks ts => { s with thm := { s.thm with dieStacks := SMap.put (fun _ => []) s.thm.dieStacks d ts } }
  | .vin mv => { s with avs := { s.avs with dies := SMap.enter s.avs.dies d mv } }
  | .obsSums sums =>
    ({ s with obs := { s.obs with pkg := SMap.put (fun _ => []) s.obs.pkg d sums } }).pkgSums.bankPkg
  | _ => s

/-- A forwarded block joins the copy; the first of another slot starts it anew (R415). An instance that has stopped takes none
(R107, R113). -/
def State.takeBlock (s : State) (slot : Nat) (bytes : List Nat) : State :=
  if s.stopped then s
  else
  let old : List Nat := match s.fw.copy with
    | some c => if c.1 = slot then c.2 else []
    | none => []
  { s with fw := { s.fw with copy := some (slot, old ++ bytes) } }

/-- The image is rejected: a follower discards what it received (R415). One that took part in an activation boots as in
R414 with the image its leader forwards next (R424 step 4). -/
def State.dropCopy (s : State) : State :=
  if s.stopped then s
  else if s.ps.booting ∨ s.fw.reboot = true then { s with fw := { s.fw with image := none, copy := none } }
  else s.coresReturn.bootAgain

/-- The session is UNATTENDED: results of forwarded commands that have not been issued are not written, and their commands end
(R402). -/
def State.withdrawServed (s : State) : State :=
  each (s.mem.queue.filter MemTxn.held) (fun x t => match x.job with | .fwd tag => t.fwdLine tag true | _ => t)
    { s with mem := { s.mem with queue := s.mem.queue.filter (fun x => !x.held) } }

/-- DATA from the leader at a follower (R145, R262, R327, R365, R394, R400, R402, R415, R421, R444, R446, R449, R471). -/
def State.dataToFollower (s : State) (b : Bulk) : State :=
  let bring (a : CommitAct) : State := { s with hdg := { s.hdg with rxAct := some a } }
  match b with
  | .imageBlock k bytes => s.takeBlock k bytes
  | .imageReject => s.dropCopy
  | .activate => s.coresRestart
  | .load recs => bring (.load recs)
  | .drop a n => bring (.drop a n)
  | .reserve h p t m c => bring (.reserve h p t m c)
  | .snapshot f left => bring (.snapshot f left)
  | .userCaps c => if s.ps.catchUp then { s with fw := { s.fw with caps := c } } else bring (.userCaps c)
  | .image => bring (.regWrites [])
  | .decision w dec =>
    if w < 4 then s.setWindow w { s.window w with decision := if dec = 0 then none else some dec, heardAt := s.skyNs } else s
  | .skylark ns step => { s with sky := { s.sky with flit := some ns, step := step, flitAt := s.now } }
  | .access state scope method seconds => s.takeAccess state scope method seconds
  | .hostEpoch e => s.setFld HEATH_EPOCH.HOST_EPOCH e
  | .dieCount n => s.setFlag RING_SAMP.MODE (decide (2 < n))
  | .watchRange r en epl base limit => if r < 16 then s.setRange r en epl base limit else s
  | .abortStage => { s with staged := [] }
  | .session u =>
    let s1 := ({ s with unattended := u }).noteReasons
    if u then s1.withdrawServed else s1
  | .vin _ => s
  | .watchSums _ | .obsSums _ | .stacks _ | .gap _ _ _ => s

/-! ### Flits (R321) -/

/-- A flit that only a follower's leader sends. -/
def State.fromLeader (s : State) (h : FlitHdr) (act : State → State) : State :=
  s.receive h false (fun t => if t.leader || h.src != t.leaderDie || t.flag HDG_STATUS.AUTONOMOUS then t else act t)

/-- A flit that only a follower sends to its leader. -/
def State.toLeader (s : State) (h : FlitHdr) (act : State → State) : State :=
  (s.receive h false (fun t => if t.leader && bitAt t.dieMask h.src then act t else t)).settleWatch

/-- The value a STAGE flit carries joins the staging copies and the set of the next PREPARE; a level word and a share
only the latter (R328). -/
def State.onStage (s : State) (off value : Nat) : State :=
  let s1 := { s with hdg := { s.hdg with rx := s.hdg.rx ++ [(off, value)] } }
  if wordOff off || (findReg off).isNone || decide (BUD_SHARE ≤ off ∧ off ≤ BUD_SHARE_WIN 3) then s1 else s1.setStaged off value

/-- A forwarded command is executed unless this die's units are in reset (R104, R336). -/
def State.onCmd (s : State) (tag : Nat) (c : FwdCmd) : State := if s.inReset then s else s.serve tag c

/-- CMD_DONE_TIMEOUT: 100 µs without CMD_DONE (R336). -/
def State.cmdDoneTimeout (s : State) (tag : Nat) : State :=
  match SMap.find s.hdg.fwd tag with
  | some (_, _, t) => (s.advanceTo (t + 100000)).fwdEnd tag stTimeout []
  | none => s

/-! ### The Stile's queues (R316) -/

/-- A message that has waited reaches the agents of its half; with an ARM they take the trigger from now on. A read whose
command is gone does nothing. -/
def State.stileAct (s : State) (h : Nat) (m : StileMsg) : State :=
  match m with
  | .arm => s
  | .resume => s.thawHalf h
  | .tags k => { s with rings := { s.rings with shift := listSet s.rings.shift h k } }
  | .clear => s.clearHalf h
  | .read k c first n dest ctx =>
    if (s.cmd k).any (fun a => a.hdr.opcode == 0x0504 && a.stage == 2) then
      s.finishAfter k (writeLines dest ctx (.result k) (s.ringOut 0 c first n)) stOk []
    else s
  | .readFor tag c first n dest ctx => s.cmdDoneAfter tag dest ctx (s.ringOut 0 c first n) false

/-- STILE_QUEUE_DRAIN: every agent of the half reports its clock live, and the queue drains in order. -/
def State.stileDrain (s : State) (h : Nat) : State :=
  if (s.halfClusters h).all (fun c => (s.agent c).clkLive) then
    let s1 := each (List.range (s.stileCount h)) (fun _ t => t.emit (.stile h)) s
    let s2 := (s1.setStile h 0).setFlag (stileWake h) false
    let mine := s2.hdg.stileQ.filter (fun p => p.1 == h)
    each mine (fun p t => t.stileAct h p.2) { s2 with hdg := { s2.hdg with stileQ := s2.hdg.stileQ.filter (fun p => p.1 != h) } }
  else s

end Sys2Proof.Machine
end

