-- ==== Sys2Proof/Machine/Opcodes.lean ====
section
/-! DEFINITION. Opcodes of the sessions, staging, budgets, profiles, tables and the fabric (R393–R400, R403). A command
is judged in one order: reserved bytes and named dies, then the conditions of its own table as they are listed. -/

namespace Sys2Proof.Machine

/-! ### Judging parameters (R385, R386, R398) -/

/-- The first faulty byte among conditions paired with the byte they are about. -/
def firstBad (xs : List (Bool × Nat)) : Option Nat := ((xs.filter (fun p => p.1)).map (fun p => p.2)).min?

/-- `n` bytes from `k` that must be 0. -/
def rsv (ps : List Nat) (k n : Nat) : List (Bool × Nat) := (List.range n).map (fun j => (pByte ps (k + j) != 0, k + j))

/-- A host address: 64-byte aligned, below 2^52 (R382). -/
def addrBad (a : Nat) : Bool := a % 64 != 0 || decide (2 ^ 52 ≤ a)

/-- INVALID with the first faulty byte, if there is one; else what follows. -/
def State.judged (s : State) (m : Nat) (bad : List (Bool × Nat)) (next : State → State) : State :=
  match firstBad bad with
  | some b => s.invalid m b
  | none => next s

/-- Does a die that a command names answer: found by the exchange, neither LOST nor OFF (R398)? -/
def State.named (s : State) (d : Nat) : Bool :=
  decide (d < 8) && bitAt s.dieMask d && (if d = s.dieId then s.pstate != 0 else s.fld (HDG_DIE_STATE.STATE d) == 1)

/-- The followers that take part now (R46). -/
def State.followersUp (s : State) : List Nat := s.followers.filter (fun d => s.fld (HDG_DIE_STATE.STATE d) == 1)

/-! ### Forwarding (R336) -/

/-- A tag for a forwarded command: the next one that is free. -/
def State.nextTag (s : State) : Nat :=
  (((List.range 256).map (fun k => (s.hdg.nextTag + k) % 256)).find? (fun t => !SMap.has s.hdg.fwd t)).getD (s.hdg.nextTag % 256)

/-- A command goes to a follower in a CMD flit with a forward tag. -/
def State.forward (s : State) (m d : Nat) (c : FwdCmd) : State :=
  let tag := s.nextTag
  let s1 := { s with hdg := { s.hdg with fwd := SMap.enter s.hdg.fwd tag (m, d, s.now), nextTag := (tag + 1) % 256 } }
  s1.send d tag (.cmd c)

/-- A command runs on the die it names: here, or at the follower. -/
def State.atDie (s : State) (m : Nat) (a : Active) (d : Nat) (c : FwdCmd) (own : State → State) : State :=
  if d = s.dieId then own s else (s.waits m { a with acc := [] }).forward m d c

/-- A command for every participant: `own` is what this die answers, a status and counts. -/
def State.atAll (s : State) (m : Nat) (a : Active) (own : List Nat) (c : FwdCmd) (last : List Nat → List Nat) : State :=
  let ds := s.followersUp
  if ds.isEmpty then s.finish m (listGet 0 own 0) 0 0 (last own)
  else each ds (fun d t => t.forward m d c) (s.waits m { a with acc := own, dies := ds.foldl maskSet 0 })

/-! ### Sessions (R399, R400, R403) -/

/-- Every staged value on every die is discarded; what a prepared set carries is past staging (R394). -/
def State.discardStaged (s : State) : State :=
  let kept := match s.hdg.prepared with | some p => s.hdg.fabStaged.take p.fab.length | none => []
  ({ s with staged := [], hdg := { s.hdg with staged := [], fabStaged := kept } }).toFollowers (.data .abortStage)

/-- Faults of the parameters of ATTACH. -/
def attachBad (ps : List Nat) : List (Bool × Nat) :=
  let hb := pNum ps 2 2
  let count := pNum ps 4 2
  [(decide (1 < pByte ps 0), 0), (pByte ps 1 != 0, 1),
    (if bitAt (pByte ps 0) 0 then !decide (10 ≤ hb ∧ hb ≤ 60000) else hb != 0, 2), (decide (4096 < count), 4)] ++ rsv ps 6 2 ++
  [(count != 0 && addrBad (pNum ps 8 8), 8)]

/-- Steps 3 and 4 of R400: full slots of another epoch are freed. Their numbers come with the state: inbound, outbound. -/
def State.flushSlots (s : State) (epoch : Nat) : State × Nat × Nat :=
  let inb := (bitsSet 32 (s.reg MB_IN_FULL)).filter (fun k => s.fld (MB_IN_W1H.HOST_EPOCH k) != epoch)
  let outb := (bitsSet 32 (s.reg MB_OUT_FULL)).filter (fun k => s.fld (MB_OUT_W1H.HOST_EPOCH k) != epoch)
  let s1 := s.setReg MB_IN_FULL (inb.foldl maskClear (s.reg MB_IN_FULL))
  (s1.setReg MB_OUT_FULL (outb.foldl maskClear (s1.reg MB_OUT_FULL)), inb.length, outb.length)

/-- Steps 5 and 7 of R400: notices, held replies and queued commits of the old epoch go; its other commands finish
without a reply. The number of notices and replies discarded comes with the state. -/
def State.flushOld (s : State) (m : Nat) : State × Nat :=
  let n := (s.ses.replies.map (fun p => p.2.length)).sum + s.ses.events.length + s.ses.writing.length +
    (s.ses.heldReplies.map (fun p => p.2)).sum + s.ses.heldEvents
  let old (c : Commit) : Bool := match c.who with | some k => k != srcMctp && k != m | none => false
  let gone := (s.hdg.queue.filter old).filterMap (fun c => c.who)
  let s1 := { s with ses := { s.ses with replies := [], events := [], writing := [], heldReplies := [], heldEvents := 0 },
                     hdg := { s.hdg with queue := s.hdg.queue.filter (fun c => !old c) } }
  let rest := (s1.cmds.filter (fun p => !gone.contains p.1)).map (fun p =>
    if p.1 = m ∨ p.1 = srcMctp then p else (p.1, { p.2 with mute := true }))
  ({ s1 with cmds := rest }, n)

/-- ATTACH (R399, R400). -/
def State.attach (s : State) (m : Nat) : State :=
  s.runOp m 0x0001 (fun a ps =>
    let e := a.hdr.hostEpoch
    if e = 0 ∨ e = s.hostEpoch then s.invalid m 0xFFFF
    else s.judged m (attachBad ps) (fun s =>
      let s1 := { s with ses := { s.ses with hbOn := false } }
      let s2 := (s1.setFld HEATH_EPOCH.HOST_EPOCH e).toFollowers (.data (.hostEpoch e))
      let f := s2.flushSlots e
      let o := f.1.flushOld m
      let s3 := o.1.discardStaged
      let s4 := { s3 with unattended := false, ses := { s3.ses with
        hbOn := true, hbAt := s3.now, evtBase := pNum ps 8 8, evtCount := pNum ps 4 2, evtNext := 0, evtLost := 0 } }
      let s5 := if bitAt (pByte ps 0) 0 then s4.setFld CMD_SESSION.HB_TIMEOUT (pNum ps 2 2) else s4
      let s6 := (((s5.setFld CMD_SESSION.STATE 1).setFld CMD_SESSION.CAUSE 0).setFld CMD_EVT.POSTED 0).levelOff srcCmdUnattended
      let s7 := s6.toFollowers (.data (.session false))
      let s8 := if s.sessionState = 1 then s7 else s7.pldmEvent 1 s7.dieId 1
      s8.noteReasons.doneWith m (pack [(4, s.readReg ID_VERSION), (4, s.readReg ID_TOPOLOGY), (2, s.blockEpoch), (2, s.hostEpoch),
        (2, f.2.1), (2, f.2.2 + o.2), (4, s.readReg HEATH_BOOT_STATUS), (1, s.sessionState), (1, s.fld CMD_SESSION.CAUSE), (2, 0),
        (8, s2.skyNs)])))

/-- DETACH (R403): UNATTENDED follows once its reply and notice are posted. -/
def State.detach (s : State) (m : Nat) : State :=
  s.runOp m 0x0002 (fun a _ => (s.setCmd m { a with detach := true }).done m stOk)

/-- HEARTBEAT (R393, R401). -/
def State.heartbeatCmd (s : State) (m : Nat) : State :=
  s.runOp m 0x0003 (fun _ _ => s.doneWith m (leBytes 4 (s.readReg CMD_SESSION) ++ leBytes 4 (s.readReg CMD_STATUS)))

/-- The bits of a register that some field has; its other bits read 0. -/
def definedBits (off : Nat) : Nat :=
  match findReg off with
  | some d => d.fields.foldl (fun m f => m ||| (2 ^ (f.hi + 1) - 2 ^ f.lo)) 0
  | none => 0

/-- What GET_INFO answers for a die that is LOST or OFF: ID_VERSION, which is the same at every instance (R2); DIE_ID,
LEADER and DIE_MASK of a follower (R29); the PSTATE of a die in OFF; reserved bits 0. The other fields the spec does not
state: free values (R398, log 100). -/
def State.infoAway (s : State) (d : Nat) : List Nat :=
  let word (k off : Nat) : Nat := Config.freeValue (s.free + k) % 2 ^ 32 &&& definedBits off
  let put (v : Nat) (f : Fld) (x : Nat) : Nat := withBits v f.hi f.lo x
  let topo := put (put (put (word 0 ID_TOPOLOGY) ID_TOPOLOGY.DIE_MASK (maskSet (maskSet 0 d) s.dieId)) ID_TOPOLOGY.LEADER 0)
    ID_TOPOLOGY.DIE_ID d
  let dom := word 3 HEATH_DOMAIN_STATUS
  [s.readReg ID_VERSION, topo, word 1 HEATH_EPOCH, word 2 HEATH_BOOT_STATUS,
    if s.fld (HDG_DIE_STATE.STATE d) = 2 then put dom HEATH_DOMAIN_STATUS.PSTATE 0 else dom, word 4 CMD_SESSION].flatMap (leBytes 4)

/-- GET_INFO (R393, R398): any die of DIE_MASK. -/
def State.getInfo (s : State) (m : Nat) : State :=
  s.runOp m 0x0004 (fun a ps =>
    let d := pByte ps 0
    s.judged m ((!(decide (d < 8) && bitAt s.dieMask d), 0) :: rsv ps 1 7) (fun s =>
      if d = s.dieId then s.doneWith m s.infoOut
      else if s.named d then s.atDie m a d .getInfo id
      else (s.spendN 5).doneWith m (s.infoAway d)))

/-! ### Staging by commands (R6, R160, R394) -/

/-- Has a register a field that is staged? -/
def stagedReg? (off : Nat) : Bool :=
  off % 4 == 0 && (match findReg off with | some d => d.fields.any FieldDesc.isStaged | none => false)

/-- Is a register one of the package values of STAGE_BUDGET? -/
def pkgStage (off : Nat) : Bool :=
  (decide (BUD_CTRL ≤ off ∧ off < 0xA050) || decide (ADM_CTX_MAX 0 ≤ off ∧ off < 0x13000)) && stagedReg? off

/-- Is a register one of the configuration registers of SET_THERMAL? -/
def thmStage (off : Nat) : Bool := (decide (0x8000 ≤ off ∧ off < 0x8100) || decide (0x90000 ≤ off ∧ off < 0x92000)) && stagedReg? off

/-- Is a register one of the per-die configuration registers of STAGE_BUDGET? -/
def dieStage (off : Nat) : Bool :=
  thmStage off || (stagedReg? off && (decide (OPP_CTRL ≤ off ∧ off < 0x11000) || decide (0x14000 ≤ off ∧ off < 0x1C000) ||
    decide (0x20000 ≤ off ∧ off < 0x24000) || off == STILE_CTRL || decide (0x40000 ≤ off ∧ off < 0x90000)))

/-- Does a word change an RWL field of a register (R6)? -/
def RegDesc.changesLocked (d : RegDesc) (old v : Nat) : Bool :=
  d.fields.any (fun f => (f.ty == .rwls || f.ty == .rwl) && bitsOf old f.hi f.lo != bitsOf v f.hi f.lo)

/-- An entry of STAGE_BUDGET or SET_THERMAL: byte offset, die, value. -/
def entryAt (ps : List Nat) (k : Nat) : Nat × Nat × Nat := (pNum ps (8 + 8 * k) 3, pByte ps (11 + 8 * k), pNum ps (12 + 8 * k) 4)

/-- Entries staged one after another; does one change an RWL field whose scope is not held? Package values are the
leader's. -/
def State.stageEntries (s : State) : List (Nat × Nat × Nat) → State × Bool
  | [] => (s, false)
  | (off, d, v) :: xs =>
    let die := if pkgStage off then s.dieId else d
    let locked := match findReg off with
      | some r => r.changesLocked (s.stagedOf die off) (r.stageWord (s.stagedOf die off) v) && !s.hasScope r.scope
      | none => false
    if locked then (s, true) else (s.stageAt die off v).stageEntries xs

/-- Is the value of a register within the ranges of its staged fields (R160)? -/
def stageFits (off v : Nat) : Bool := match findReg off with | some r => r.inRange (r.stageWord 0 v) | none => false

/-- STAGE_BUDGET (R394). -/
def State.stageBudget (s : State) (m : Nat) : State :=
  s.runOp m 0x0101 (fun a ps =>
    let n := pNum ps 0 2
    if n = 0 ∧ (rsv ps 2 6).all (fun p => !p.1) = true then s.done m stEmpty
    else if a.params.length < 8 + 8 * n then s.invalid m 0xFFFF
    else
      let es := (List.range n).map (entryAt ps)
      let bad := es.zipIdx.flatMap (fun p =>
        let o := 8 + 8 * p.2
        let pkg := pkgStage p.1.1
        [(!pkg && !dieStage p.1.1, o), (if pkg then p.1.2.1 != 0 else !s.named p.1.2.1, o + 3),
          (!stageFits p.1.1 p.1.2.2, o + 4)])
      s.judged m (rsv ps 2 6 ++ bad) (fun s =>
        let r := s.stageEntries es
        if r.2 then (s.incSat (whole ACC_DENIED)).done m stLocked else r.1.done m stOk))

/-- COMMIT (R394). -/
def State.commitCmd (s : State) (m : Nat) : State := s.runOp m 0x0102 (fun a _ => s.commitFor m a .config id)

/-- ABORT_STAGE (R394). -/
def State.abortStage (s : State) (m : Nat) : State :=
  s.runOp m 0x0103 (fun _ _ =>
    let running := match s.hdg.prepared with | some p => p.fab.length | none => 0
    if s.staged.isEmpty && s.hdg.staged.all (fun p => p.2.isEmpty) && decide (s.hdg.fabStaged.length ≤ running) then s.done m stEmpty
    else s.discardStaged.done m stOk)

/-- What the dies answer a tenant's GET_BUDGET so far: status, then a word for each die. A die that is LOST is not stated:
a free value (log 3). -/
def State.tenantBudget (s : State) (x : Nat) : List Nat :=
  stOk :: (List.range 8).map (fun d =>
    if d = s.dieId then s.readReg (ADM_CTX_OUT x)
    else if bitAt s.dieMask d && s.fld (HDG_DIE_STATE.STATE d) == 3 then Config.freeValue s.free % 2 ^ 32 else 0)

/-- GET_BUDGET (R394): the package's words with those of a die, or a tenant's own. -/
def State.getBudget (s : State) (m : Nat) : State :=
  s.runOp m 0x0104 (fun a ps =>
    let d := pByte ps 0
    let bad := (decide (1 < pByte ps 1), 1) :: rsv ps 2 6
    match s.tenantOf m with
    | some x => s.judged m bad (fun s =>
        (s.spendN 1).atAll m a (s.tenantBudget x) (.getBudget (some x)) (fun acc => s.ctxBudget m ps acc))
    | none => s.judged m ((!s.named d, 0) :: bad) (fun s =>
        s.atDie m a d (.getBudget none) (fun s => s.doneWith m (s.budgetWith ps (s.budgetOut none)))))

/-! ### Profiles and announcements (R395) -/

/-- LOAD_PROFILE. -/
def State.loadProfile (s : State) (m : Nat) : State :=
  s.runOp m 0x0201 (fun a ps =>
    let n := pNum ps 0 2
    s.judged m ((decide (126 < n), 0) :: rsv ps 2 30) (fun s =>
      if n = 0 then s.done m stEmpty
      else if ps.length < 32 + 32 * n then s.invalid m 0xFFFF
      else s.commitFor m a (.load ((List.range n).map (fun k => (ps.drop (32 + 32 * k)).take 32))) id))

/-- DROP_PROFILE. -/
def State.dropProfile (s : State) (m : Nat) : State :=
  s.runOp m 0x0202 (fun a ps => if pNum ps 2 2 = 0 then s.done m stEmpty else s.commitFor m a (.drop (pNum ps 0 2) (pNum ps 2 2)) id)

/-- ANNOUNCE. -/
def State.announce (s : State) (m : Nat) : State :=
  s.runOp m 0x0203 (fun a ps =>
    let mask := pNum ps 16 320
    s.judged m (rsv ps 2 6) (fun s =>
      if mask = 0 then s.done m stEmpty else s.commitFor m a (.reserve false (pNum ps 0 2) (pNum ps 8 8) mask (s.tenantOf m)) id))

/-- BARRIER_HINT. -/
def State.barrierHint (s : State) (m : Nat) : State :=
  s.runOp m 0x0204 (fun a ps =>
    let mask := pNum ps 16 320
    s.judged m (rsv ps 8 8) (fun s =>
      if mask = 0 then s.done m stEmpty else s.commitFor m a (.reserve true 0 (pNum ps 0 8) mask (s.tenantOf m)) id))

/-! ### Tables (R396) -/

/-- The words of an operating-point table: OPP_CTRL, then each point's. -/
def tableWords (ps : List Nat) : List (Nat × Nat × Nat) :=
  let ctrl := withBits (withBits (withBits (withBits 0 28 24 (pByte ps 2)) 21 16 (pByte ps 1)) 15 8 (pByte ps 3)) 5 0 (pByte ps 4)
  (OPP_CTRL, ctrl, 1) :: (List.range (pByte ps 1)).flatMap (fun k =>
    [(OPP_PT_A k, pNum ps (8 + 12 * k) 4, 8 + 12 * k), (OPP_PT_B k, pNum ps (12 + 12 * k) 4, 12 + 12 * k),
      (DRP_THR k, pNum ps (16 + 12 * k) 4, 16 + 12 * k)])

/-- SET_OPP_TABLE. -/
def State.setOppTable (s : State) (m : Nat) : State :=
  s.runOp m 0x0301 (fun a ps =>
    let d := pByte ps 0
    let n := pByte ps 1
    let ws := tableWords ps
    let own := if n = 0 then [] else
      [(decide (31 < pByte ps 2), 2), (!decide (5 ≤ pByte ps 4 ∧ pByte ps 4 ≤ 50), 4)] ++
        (ws.drop 1).map (fun w => (!stageFits w.1 w.2.1, w.2.2))
    if !s.named d ∨ 32 < n then s.judged m [(!s.named d, 0), (decide (32 < n), 1)] id
    else if ps.length < 8 + 12 * n then s.invalid m 0xFFFF
    else s.judged m (rsv ps 5 3 ++ own) (fun s =>
      if n = 0 then s.done m stEmpty
      else s.commitFor m a .config (fun t => each ws (fun w t => t.stageAt d w.1 w.2.1) t)))

/-- SET_THERMAL. -/
def State.setThermal (s : State) (m : Nat) : State :=
  s.runOp m 0x0302 (fun a ps =>
    let n := pNum ps 0 2
    let d := pByte ps 2
    s.judged m ((!s.named d, 2) :: rsv ps 3 5) (fun s =>
      if n = 0 then s.done m stEmpty
      else if ps.length < 8 + 8 * n then s.invalid m 0xFFFF
      else
        let es := (List.range n).map (entryAt ps)
        s.judged m (es.zipIdx.flatMap (fun p =>
            let o := 8 + 8 * p.2
            [(!thmStage p.1.1, o), (p.1.2.1 != d, o + 3), (!stageFits p.1.1 p.1.2.2, o + 4)])) (fun s =>
          if (s.stageEntries es).2 then (s.incSat (whole ACC_DENIED)).done m stLocked
          else s.commitFor m a .config (fun t => (t.stageEntries es).1))))

/-! ### The fabric (R345, R348, R397) -/

/-- The words of FABRIC_ASSIGN with the bytes they stand at. -/
def assignWords (ps : List Nat) : List (Nat × Nat × Nat) :=
  [(FAB_NODE, pNum ps 0 4, 0), (FAB_CTRL, pNum ps 4 4, 4), (FAB_DISC, pNum ps 8 4, 8)] ++
  (List.range 4).map (fun k => (FAB_DISC_ADDR k, pNum ps (12 + 4 * k) 4, 12 + 4 * k)) ++
  [(FAB_RTX, pNum ps 28 4, 28), (FAB_PACE, pNum ps 32 4, 32), (FAB_REL, pNum ps 36 4, 36), (FAB_REL_HOLD, pNum ps 40 4, 40)]

/-- FABRIC_ASSIGN. -/
def State.fabricAssign (s : State) (m : Nat) : State :=
  s.runOp m 0x0401 (fun a ps =>
    let n := pNum ps 44 2
    if 64 < n then s.judged m [(pNum ps 0 2 == 0xFFFF, 0), (true, 44)] id
    else if ps.length < 48 + 20 * n then s.invalid m 0xFFFF
    else
      let at_ (k : Nat) : Nat := 48 + 20 * k
      let peerBad := (List.range n).flatMap (fun k =>
        [(pNum ps (at_ k) 2 == 0xFFFF, at_ k), (decide (15 < pByte ps (at_ k + 2)), at_ k + 2), (pByte ps (at_ k + 3) != 0, at_ k + 3)])
      let ws := assignWords ps
      s.judged m ((pNum ps 0 2 == 0xFFFF, 0) :: ws.map (fun w => (!stageFits w.1 w.2.1, w.2.2)) ++ rsv ps 46 2 ++ peerBad) (fun s =>
        let peers := (List.range n).map (fun k => (pNum ps (at_ k) 2, pByte ps (at_ k + 2), pNum ps (at_ k + 4) 16))
        s.commitFor m a .config (fun t =>
          let t1 := each ws (fun w t => t.stageAt t.dieId w.1 w.2.1) t
          if n = 0 then t1 else { t1 with hdg := { t1.hdg with fabStaged := t1.hdg.fabStaged ++ [.peers peers] } })))

/-- A group record (R348). -/
def parseGroup (ps : List Nat) : Group :=
  { id := pNum ps 0 2, dieMask := pByte ps 2, depth := pByte ps 3 % 8, parent := pNum ps 4 2,
    children := (List.range (pByte ps 6)).map (fun k => pNum ps (8 + 2 * k) 2) }

/-- JOIN_GROUP: reserved bits must be 0, unused children 0xFFFF; all else is judged at the commit (R371). -/
def State.joinGroup (s : State) (m : Nat) : State :=
  s.runOp m 0x0402 (fun a ps =>
    let spare := ((List.range 16).filter (fun k => decide (pByte ps 6 ≤ k))).map (fun k => (pNum ps (8 + 2 * k) 2 != 0xFFFF, 8 + 2 * k))
    s.judged m ([(decide (8 ≤ pByte ps 3), 3)] ++ rsv ps 7 1 ++ spare ++ rsv ps 40 8) (fun s =>
      s.commitFor m a .config (fun t => { t with hdg := { t.hdg with fabStaged := t.hdg.fabStaged ++ [.join (parseGroup ps)] } })))

/-- LEAVE_GROUP. -/
def State.leaveGroup (s : State) (m : Nat) : State :=
  s.runOp m 0x0403 (fun a ps =>
    s.judged m (rsv ps 2 2) (fun s =>
      match slotOfGroup s.fab.groups (pNum ps 0 2) with
      | none => s.done m stNotFound
      | some k => s.commitFor m a .config (fun t => { t with hdg := { t.hdg with fabStaged := t.hdg.fabStaged ++ [.leave k] } })))

/-- A peer entry of FABRIC_STATUS. -/
def State.peerBytes (s : State) (p : Nat × Peer) : List Nat :=
  pack [(2, p.1), (1, p.2.port), (1, bnat p.2.reachable), (16, p.2.addr), (4, min (2 ^ 32 - 1) ((s.now - p.2.heardAt) / 1000000))]

/-- The 32-byte result of FABRIC_STATUS. -/
def State.fabricWords (s : State) : List Nat :=
  [FAB_STATUS, FAB_EMERG, FAB_EMERG_LEFT, FAB_REL_STATUS, FAB_TX, FAB_RX, FAB_DROP, FAB_FAIL].flatMap (fun r => leBytes 4 (s.readReg r))

/-- FABRIC_STATUS. Entries of the table past its peers are free values; past its 4,096 places it is INVALID (log 36). -/
def State.fabricStatus (s : State) (m : Nat) : State :=
  s.runOp m 0x0404 (fun _ ps =>
    let first := pNum ps 0 2
    let n := pNum ps 2 2
    let own := if n = 0 then [] else [(decide (4096 < first + n), 0), (m == srcMctp || addrBad (pNum ps 8 8), 8)]
    s.judged m (rsv ps 4 4 ++ own) (fun s =>
      if n = 0 then s.finish m stEmpty 0 0 s.fabricWords
      else
        let entries := (List.range n).flatMap (fun k => match s.fab.peers[first + k]? with
          | some p => s.peerBytes p
          | none => leBytes 24 (Config.freeValue (s.free + k)))
        (s.spendN n).finishAfter m (writeLines (pNum ps 8 8) none (.result m) entries) stOk s.fabricWords))

end Sys2Proof.Machine
end

