-- ==== Sys2Proof/Machine/OpcodesUnit.lean ====
section
/-! DEFINITION. Opcodes of the observation unit, the firmware, field access, the fault hub and injection (R228, R229,
R422–R426, R453–R457, R467, R472–R475), and the ends of access and session timers. -/

namespace Sys2Proof.Machine

/-! ### Observation (R409, R453–R457) -/

/-- An observation opcode executes; BUSY while the TELEMETRY compartment is disabled (R409). -/
def State.telemetry (s : State) (m op : Nat) (f : Active → List Nat → State) : State :=
  s.runOp m op (fun a ps => if s.fld (HEATH_FW_COMP.STATE 5) = 3 then s.done m stBusy else f a ps)

/-- SNAPSHOT. -/
def State.snapshot (s : State) (m : Nat) : State :=
  s.telemetry m 0x0501 (fun a ps =>
    s.judged m ((decide (1 < pByte ps 0), 0) :: rsv ps 1 7) (fun s => s.commitFor m a (.snapshot (bitAt (pByte ps 0) 0)) id))

/-- READ_COUNTERS. -/
def State.readCounters (s : State) (m : Nat) : State :=
  s.telemetry m 0x0502 (fun a ps =>
    let d := pByte ps 0
    let set := pByte ps 1
    let src := pByte ps 2
    let first := pNum ps 4 2
    let n := pNum ps 6 2
    let dest := pNum ps 8 8
    let ctx := s.tenantOf m
    let none_ := (set == 0 || set == 2) && n == 0
    let own := if none_ then [] else [(decide (3 < set), 1), (decide (1 < src), 2), (set == 3 && d != s.dieId, 0),
      ((set == 0 && decide (320 < first + n)) || (set == 2 && decide (1024 < first + n)), 4)]
    s.judged m ([(!s.named d, 0), (pByte ps 3 != 0, 3), (addrBad dest, 8)] ++ own) (fun s =>
      if none_ then s.done m stEmpty
      else s.atDie m a d (.readCounters set src first n dest ctx) (fun s =>
        let st := s.countersJudge set src first n ctx
        if st = stOk then
          s.finishAfter m (writeLines dest ctx (.result m) (s.countersOut set src first n ctx)) stOk [] (src == 0)
        else s.done m st)))

/-- ARM_TRIGGER with an action. A reserved action is judged with ARM. -/
def State.armTriggerCmd (s : State) (m : Nat) (mine : Nat → Bool) : State :=
  s.telemetry m 0x0503 (fun a ps =>
    let d := pByte ps 0
    let action := pByte ps 1
    let sources := pNum ps 4 2
    let units := pByte ps 8
    if !mine action then s
    else s.judged m ([(d != 0xFF && !s.named d, 0), (decide (2 < action), 1), (pByte ps 3 != 0, 3), (decide (2047 < sources), 4)] ++
        rsv ps 6 2 ++ [(decide (15 < units), 8)] ++ rsv ps 9 7) (fun s =>
      let c : FwdCmd := .armTrigger action (pByte ps 2) sources units
      let own (s : State) : Nat × State := s.armTrigger action (pByte ps 2) sources units
      if d = 0xFF then (own s).2.atAll m a [(own s).1, 0, 0] c (fun _ => [])
      else s.atDie m a d c (fun s => (own s).2.done m (own s).1)))

/-- Is the unit of a READ_RING out of range, as far as this die can tell of die `d` (R456)? What a follower alone knows, its
own judgement says. -/
def State.ringOut_ (s : State) (d u i : Nat) : Bool :=
  if d = s.dieId then !s.ringFits u i
  else match u with
    | 0 => decide (320 ≤ i)
    | 2 => decide (4 ≤ i)
    | _ => i != 0

/-- READ_RING. A read of an agent's ring whose half sleeps waits in the half's Stile queue (R316). -/
def State.readRing (s : State) (m : Nat) : State :=
  s.telemetry m 0x0504 (fun a ps =>
    let d := pByte ps 0
    let u := pByte ps 1
    let i := pNum ps 2 2
    let first := pNum ps 4 2
    let n := pNum ps 6 2
    let dest := pNum ps 8 8
    let ctx := s.tenantOf m
    let none_ := n == 0 || (d == s.dieId && decide (u ≤ 3) && (s.ringUnit u i).2 == 0)
    let own := if none_ then [] else [(decide (3 < u), 1), (decide (u ≤ 3) && s.ringOut_ d u i, 2)]
    s.judged m ([(!s.named d, 0), (addrBad dest, 8)] ++ own) (fun s =>
      if none_ then s.done m stEmpty
      else s.atDie m a d (.readRing u i first n dest ctx) (fun s =>
        let st := s.ringJudge u i n ctx
        if st ≠ stOk then s.done m st (if st = stInvalid then 2 else 0)
        else if u = 0 ∧ s.stileHolds (halfOf i) = true then (s.waits m a).stileWait (halfOf i) (.read m i first n dest ctx)
        else s.finishAfter m (writeLines dest ctx (.result m) (s.ringOut u i first n)) stOk [])))

/-- A range's counters put to 0 (R457). -/
def State.clearRange (s : State) (r : Nat) : State :=
  let s1 := (s.setReg64 (OBS_WATCH_B_LO r) 0).setReg64 (OBS_WATCH_E_LO r) 0
  { s1 with obs := { s1.obs with pj := SMap.put (fun _ => 0) s1.obs.pj r 0 } }

/-- SET_WATCH (R449, R457): it completes once every participant has its range. -/
def State.setWatch (s : State) (m : Nat) : State :=
  s.telemetry m 0x0505 (fun a ps =>
    let r := pByte ps 0
    let base := pNum ps 8 8
    let limit := pNum ps 16 8
    s.judged m ([(decide (15 < r), 0), (decide (3 < pByte ps 1), 1)] ++ rsv ps 2 2 ++ rsv ps 6 2 ++
        [(base % 4096 != 0 || decide (2 ^ 52 ≤ base), 8), (decide (limit < base) || decide (2 ^ 52 ≤ limit), 16)]) (fun s =>
      let en := bitAt (pByte ps 1) 0
      let s1 := if bitAt (pByte ps 1) 1 then s.clearRange r else s
      let s2 := s1.setRange r en (pNum ps 4 2) (base / 4096) (limit / 4096)
      ((s2.toFollowers (.data (.watchRange r en (pNum ps 4 2) (base / 4096) (limit / 4096)))).waits m a).settleWatch))

/-! ### Firmware (R422–R426) -/

/-- FW_STAGE in one of its modes: the conditions before the mode's own, the faults of its parameters `own` among them, judged
where none of the other conditions ends the command (R385, R422). -/
def State.fwStage (s : State) (m : Nat) (mine : Nat → Bool) (own : List Nat → List (Bool × Nat))
    (next : Active → List Nat → State → State) : State :=
  s.runOp m 0x0601 (fun a ps =>
    let mode := pByte ps 0
    let none_ := decide (mode ≤ 2) && pNum ps 4 4 == 0
    let gone := s.fw.hostLoaded || s.fw.flash.isNone
    let busy := decide (mode < 2) && s.fwBusy
    let bad := (decide (4 < mode), 0) :: rsv ps 1 3
    if !mine mode then s
    else s.judged m (if none_ || gone || busy then bad else bad ++ own ps) (fun s =>
      if none_ then s.done m stEmpty
      else if gone then s.done m stNotFound
      else if busy then s.done m stBusy
      else next a ps s))

/-- FW_STAGE HOST: the image is read over the memory port. A reserved mode is judged here. -/
def State.fwStageHost (s : State) (m : Nat) : State :=
  s.fwStage m (fun k => k == 0 || decide (4 < k))
    (fun ps => [(decide (s.slotRoom < pNum ps 4 4), 4), (m == srcMctp || addrBad (pNum ps 8 8), 8)])
    (fun _ ps s =>
      let len := pNum ps 4 4
      ((s.stageBegins 1 len).readImage (pNum ps 8 8) ((len + 63) / 64)).done m stDeferred)

/-- FW_STAGE BEGIN. -/
def State.fwStageBegin (s : State) (m : Nat) : State :=
  s.fwStage m (fun k => k == 1) (fun ps => (decide (s.slotRoom < pNum ps 4 4), 4) :: rsv ps 8 8)
    (fun _ ps s => (s.stageBegins 2 (pNum ps 4 4)).done m stOk)

/-- FW_STAGE CHUNK: it continues where the one before ended. -/
def State.fwStageChunk (s : State) (m : Nat) : State :=
  let most := if m = srcMctp then 976 else 4048
  s.fwStage m (fun k => k == 2)
    (fun ps => [(s.fw.mode != 2, 0), (decide (most < pNum ps 4 4) || decide (s.fw.stageLen < s.fw.stageAt + pNum ps 4 4), 4),
      (pNum ps 8 4 != s.fw.stageAt, 8)] ++ rsv ps 12 4)
    (fun a ps s =>
      let len := pNum ps 4 4
      if a.hdr.plen < 16 + len then s.invalid m 0xFFFF
      else (s.program ((ps.drop 16).take len)).done m stOk)

/-- FW_STAGE END: slot B is to be read back. -/
def State.fwStageEnd (s : State) (m : Nat) : State :=
  s.fwStage m (fun k => k == 3) (fun ps => (s.fw.mode != 2, 0) :: rsv ps 4 4 ++ rsv ps 8 8)
    (fun _ _ s => ({ s with fw := { s.fw with mode := 3 } }).done m stDeferred)

/-- FW_STAGE CANCEL: the staging is over; it has failed with reason 7 (R422, R427). -/
def State.fwStageCancel (s : State) (m : Nat) : State :=
  s.fwStage m (fun k => k == 4) (fun ps => (s.fw.mode != 2, 0) :: rsv ps 4 4 ++ rsv ps 8 8)
    (fun _ _ s => (s.stageFails 7).done m stOk)

/-- FW_ACTIVATE (R423): at once, or deferred while an emergency lasts or a die is OFF. -/
def State.fwActivate (s : State) (m : Nat) : State :=
  s.runOp m 0x0602 (fun a ps =>
    s.judged m (rsv ps 4 4) (fun s =>
      if !s.fw.passedB then s.done m stNotFound
      else if some (pNum ps 0 4) ≠ s.fw.verB then s.invalid m 0
      else if s.fwBusy then s.done m stBusy
      else
        let since := s.now - (s.skyNs - a.pickup)
        if s.actBarred then
          (({ s with fw := { s.fw with actWho := none, actAt := since, stableAt := s.now } }).setFld HEATH_FW_STATUS.ACT 1).done m stDeferred
        else (({ s with fw := { s.fw with actWho := some m, actAt := since } }).waits m a).activate))

/-- A USER cap in FW_STATUS: all ones where there is none. -/
def capOut (bytes : Nat) (v : Option Nat) : Nat × Nat := (bytes, v.getD (256 ^ bytes - 1))

/-- A listed USER cap. -/
def capAt (m : List (Nat × Nat)) (k : Nat) : Option Nat := (m.find? (fun p => p.1 == k)).map (fun p => p.2)

/-- VERSION in slot B's header (R426): a free value, the same each time, while slot B has been neither read nor written
(log 171). -/
def State.slotBVersion (s : State) : Nat :=
  if s.fw.flash.isNone then 0
  else match s.fw.verB with
  | some v => v
  | none => Config.slotBVersion.toNat

/-- FW_STATUS (R426). -/
def State.fwStatus (s : State) (m : Nat) : State :=
  s.runOp m 0x0603 (fun _ _ =>
    let left := if s.fld HEATH_FW_STATUS.ACT = 1 then (s.fw.actAt + 60000000000 - s.now) / 1000000 else 0
    let c := s.fw.caps
    s.doneWith m (pack ([(4, s.readReg HEATH_FW_VERSION), (4, s.readReg HEATH_FW_STATUS), (4, s.readReg HEATH_FW_COMP), (4, s.fw.verA),
      (4, s.slotBVersion), (4, if s.fw.mode = 0 then 0 else s.fw.stageAt), (4, left), capOut 4 c.pool] ++
      (List.range 4).map (fun w => capOut 4 (capAt c.wins w)) ++ (List.range 8).map (fun d => capOut 1 (capAt c.idx d)) ++ [(8, 0)])))

/-! ### Field access (R472–R476) -/

/-- ACC_SERIAL as bytes. -/
def State.serial (s : State) : List Nat := (List.range 4).flatMap (fun k => leBytes 4 (s.readReg (ACC_SERIAL k)))

/-- UNLOCK_CHALLENGE: a fresh nonce, whose value is a free one (log 3). -/
def State.unlockChallenge (s : State) (m : Nat) : State :=
  s.runOp m 0x0701 (fun _ ps =>
    let scope := pNum ps 0 2
    let dur := pNum ps 4 4
    let none_ := scope == 0 || s.fld ACC_STATE.STATE == 0
    let own := if none_ then [] else [(decide (31 < scope), 0), (!decide (1 ≤ dur ∧ dur ≤ 86400), 4)]
    s.judged m (rsv ps 2 2 ++ own) (fun s =>
      if none_ then s.done m stEmpty
      else if !s.flag ACC_OTP.KEY_SET then s.done m stNotFound
      else
        let v := s.drawn % 2 ^ 256
        let s1 := { s.spent with acc := { s.acc with nonce := some ⟨v, scope, dur, s.now + 60000000000⟩ } }
        s1.doneWith m (leBytes 32 v ++ s.serial ++ pack [(2, scope), (2, 0), (4, dur), (8, s.skyNs + 60000000000)])))

/-- Seconds that responses are refused after the n-th failure in a row (R474). -/
def backoffFor (n : Nat) : Nat := min (2 ^ (n - 1)) 3600

/-- A response fails (R474). -/
def State.unlockFails (s : State) (m method : Nat) : State :=
  let s0 := s.incSat ACC_FAIL.FAILS
  let s1 := s0.raise srcAccUnlockFail (syndrome 0 method (s0.fld ACC_FAIL.FAILS))
  ({ s1 with acc := { s1.acc with backoffEnd := s1.now + 1000000000 * backoffFor (s1.fld ACC_FAIL.FAILS) } }).done m stDenied

/-- A response succeeds (R472, R474): UNLOCKED with the scope and the timer. -/
def State.unlockDone (s : State) (m scope method dur : Nat) : State :=
  let s1 := (s.setFld ACC_FAIL.FAILS 0).setAccess 2 scope method dur
  (s1.raise srcAccUnlocked (syndrome 0 method 0)).done m stOk

/-- Does the backoff run (R474)? -/
def State.backoff (s : State) : Bool := decide (s.now < s.acc.backoffEnd)

/-- UNLOCK_RESPONSE with a password (R472). A reserved method is judged here. -/
def State.unlockPassword (s : State) (m : Nat) : State :=
  s.runOp m 0x0702 (fun _ ps =>
    let scope := pNum ps 2 2
    let dur := pNum ps 4 4
    let len := pNum ps 8 2
    let none_ := scope == 0 || s.fld ACC_STATE.STATE == 0
    let own := if none_ then [] else [(decide (31 < scope) || maskDiff scope (s.fld ACC_OTP.PW_SCOPE) != 0, 2),
      (!decide (1 ≤ dur ∧ dur ≤ 86400), 4), (!decide (8 ≤ len ∧ len ≤ 64), 8)] ++ rsv ps (16 + len) (64 - len)
    if pByte ps 0 = 1 then s
    else s.judged m ([(decide (1 < pByte ps 0), 0), (pByte ps 1 != 0, 1)] ++ rsv ps 10 6 ++ own) (fun s =>
      if none_ then s.done m stEmpty
      else if !s.flag ACC_OTP.PW_SET then s.done m stNotFound
      else if s.backoff then s.done m stDenied
      else if Config.sha384 (s.serial ++ (ps.drop 16).take len) = s.otp.pwHash then s.unlockDone m scope 0 dur
      else s.unlockFails m 0))

/-- UNLOCK_RESPONSE with a signature (R472, R473): the nonce is used up by any such response. -/
def State.unlockSignature (s : State) (m : Nat) : State :=
  s.runOp m 0x0702 (fun _ ps =>
    let scope := pNum ps 2 2
    if pByte ps 0 ≠ 1 then s
    else if ps.length < 208 then s.invalid m 0xFFFF
    else
      let nonce := s.acc.nonce
      let none_ := scope == 0 || s.fld ACC_STATE.STATE == 0
      ({ s with acc := { s.acc with nonce := none } }).judged m ([(pByte ps 1 != 0, 1), (!none_ && decide (31 < scope), 2)] ++
          rsv ps 4 4 ++ rsv ps 105 7) (fun s =>
        if none_ then s.done m stEmpty
        else match (if s.flag ACC_OTP.KEY_SET then nonce else none) with
          | none => s.done m stNotFound
          | some x =>
            let key := (ps.drop 8).take 97
            let message := leBytes 32 x.value ++ s.serial ++ leBytes 2 scope
            if s.backoff then s.done m stDenied
            else if Config.sha384 key = s.otp.debugKey ∧
                Config.ecdsaVerify (ofLeBytes key) (Config.sha384 message) (pNum ps 112 96) = true ∧ scope = x.scope then
              s.unlockDone m scope 1 x.duration
            else s.unlockFails m 1))

/-- RELOCK. -/
def State.relockCmd (s : State) (m : Nat) : State :=
  s.runOp m 0x0703 (fun _ _ => if s.fld ACC_STATE.STATE = 2 then s.relock.done m stOk else s.done m stEmpty)

/-- ACCESS_TIMER_EXPIRY: ACC_TIMER reaches 0 (R476). A follower's own timer does the same there. -/
def State.accessExpires (s : State) : State :=
  if s.fld ACC_STATE.STATE = 2 then
    let s1 := s.advanceTo s.acc.timerEnd
    (if s1.leader then s1.relock else s1.takeAccess 1 0 0 0).wakeLinks
  else s

/-- NONCE_LAPSE (R473). -/
def State.nonceLapse (s : State) : State :=
  match s.acc.nonce with
  | some x => let s1 := s.advanceTo x.lapseAt; { s1 with acc := { s1.acc with nonce := none } }
  | none => s

/-- UNLOCK_BACKOFF_END (R474). -/
def State.backoffEnds (s : State) : State := s.advanceTo s.acc.backoffEnd

/-! ### Faults (R467) -/

/-- FAULT_READ. -/
def State.faultReadCmd (s : State) (m : Nat) : State :=
  s.runOp m 0x0801 (fun a ps =>
    let d := pByte ps 0
    s.judged m ((!s.named d, 0) :: rsv ps 1 7) (fun s => s.atDie m a d .faultRead (fun s => s.doneWith m s.faultReadOut)))

/-- FAULT_CLEAR. -/
def State.faultClearCmd (s : State) (m : Nat) : State :=
  s.runOp m 0x0802 (fun a ps =>
    let d := pByte ps 0
    let flags := pByte ps 1
    let src := pNum ps 2 2
    let all := bitAt flags 1
    let own := if flags = 0 then [] else [(d != 0xFF && !s.named d, 0),
      (!all && (decide (255 < src) || ((d == 0xFF || d == s.dieId) && !s.flag (FH_SRC.IMPL src))), 2)]
    s.judged m ((decide (3 < flags), 1) :: rsv ps 4 4 ++ own) (fun s =>
      if flags = 0 then s.done m stEmpty
      else
        let r := s.faultClear flags src
        if d = 0xFF then r.1.atAll m a [stOk, r.2.1, r.2.2] (.faultClear flags src)
          (fun acc => pack [(2, listGet 0 acc 1), (2, listGet 0 acc 2)])
        else s.atDie m a d (.faultClear flags src) (fun _ => r.1.doneWith m (pack [(2, r.2.1), (2, r.2.2)]))))

/-- FAULT_FORCE (R467, R468): the raise comes before the reply, and a block reset it triggers discards the command. -/
def State.faultForceCmd (s : State) (m : Nat) : State :=
  s.runOp m 0x0803 (fun a ps =>
    let d := pByte ps 0
    let src := pNum ps 2 2
    s.judged m ([(!s.named d, 0), (pByte ps 1 != 0, 1), (decide (255 < src), 2)] ++ rsv ps 4 4) (fun s =>
      s.atDie m a d (.faultForce src (pNum ps 8 8)) (fun s =>
        let r := s.forceFault src (pNum ps 8 8)
        r.2.done m r.1 (if r.1 = stInvalid then 2 else 0))))

/-! ### Injection and capture (R228, R229) -/

/-- INJECT_START: the injection fields of a rail are staged and committed. -/
def State.injectStart (s : State) (m : Nat) : State :=
  s.runOp m 0x0901 (fun a ps =>
    let d := pByte ps 0
    let n := pByte ps 1
    let point := pByte ps 2
    let wave := pByte ps 3
    let amp := (toSigned 16 (pNum ps 4 2)).natAbs
    let chip := pByte ps 6
    let freq := pNum ps 8 4
    if !s.hasScope 0 then (s.incSat (whole ACC_DENIED)).done m stLocked
    else s.judged m ([(!s.named d, 0), (decide (3 < n), 1), (decide (1 < point), 2), (decide (3 < wave), 3),
        (!decide (1 ≤ amp ∧ amp ≤ if point = 0 then 40 else 4096), 4), (chip == 0, 6), (pByte ps 7 != 0, 7),
        (wave == 0 && !decide (1000 ≤ freq ∧ freq ≤ 20000000), 8)] ++ rsv ps 14 2) (fun s =>
      s.atDie m a d .injectStart (fun s => if s.injecting then s.done m stBusy else s.injectCommit m a)))

/-- CAPTURE_READ. -/
def State.captureRead (s : State) (m : Nat) : State :=
  s.runOp m 0x0902 (fun a ps =>
    let d := pByte ps 0
    let n := pByte ps 1
    let first := pNum ps 2 2
    let count := pNum ps 4 2
    let dest := pNum ps 8 8
    s.judged m ([(!s.named d, 0), (decide (3 < n), 1), (decide (8191 < first) || (count != 0 && decide (8192 < first + count)), 2),
        (decide (8192 < count), 4)] ++ rsv ps 6 2 ++ [(addrBad dest, 8)]) (fun s =>
      if count = 0 then s.done m stEmpty
      else s.atDie m a d (.captureRead n first count dest) (fun s =>
        let st := s.captureStatus n first count
        if st = stOk then
          (s.finishAfter m (writeLines dest none (.result m) (s.captureOut n first count)) stOk []).spendN 8192
        else s.done m st)))

/-! ### The session's timer (R401) -/

/-- Is an ATTACH executing, which stops the heartbeat timer (R401)? -/
def State.attaching (s : State) : Bool := s.cmds.any (fun p => p.2.attach && p.2.stage != 4)

/-- HEARTBEAT_TIMEOUT: the timer reaches CMD_SESSION.HB_TIMEOUT. -/
def State.heartbeatLapse (s : State) : State :=
  if s.leader && s.ses.hbOn && s.sessionState == 1 && !s.attaching then
    ((s.advanceTo (s.ses.hbAt + 1000000 * s.fld CMD_SESSION.HB_TIMEOUT)).enterUnattended 1).wakeLinks
  else s

end Sys2Proof.Machine
end

