-- ==== Sys2Proof/Machine/Mgmt.lean ====
section
/-! DEFINITION. The management endpoint's control and PLDM messages (R300, R406, R407). How their frames are coded is
left to the standards that the spec names, so requests and answers are structured (log 37). -/

namespace Sys2Proof.Machine

/-- An answer of the endpoint. -/
def State.answer (s : State) (a : MgAnswer) (vals : List Int := []) : State := s.emit (.answer a vals)

/-- An answer with one free value: what is asked for is not stated (log 3, log 37). -/
def State.answerFree (s : State) : State := s.spent.answer .done [(s.drawn : Int)]

/-- A request to the endpoint: no answer while it is down, busy while another one executes (R406). -/
def State.endpoint (s : State) (serve : State → State) : State :=
  if !s.endpointUp then s
  else if (s.cmd srcMctp).isSome then s.answer .busy
  else serve s

/-- MCTP message types beside control: PLDM, and Vendor Defined – IANA (PRESUMED codes of DSP0239, log 37). -/
def mctpTypes : List Int := [0x01, 0x7F]

/-- PLDM types: base discovery, and platform monitoring and control (PRESUMED codes of DSP0245, log 37). -/
def pldmTypes : List Int := [0, 2]

/-- MCTP_CONTROL. -/
def State.mctpControl (s : State) (r : CtlReq) : State :=
  s.endpoint (fun s =>
    match r with
    | .setEid e => ({ s with ses := { s.ses with eid := e } }).answer .done [(e : Int)]
    | .getEid => s.answer .done [(s.ses.eid : Int)]
    | .getVersion t => if t = 0 ∨ mctpTypes.contains (t : Int) = true then s.answerFree else s.answer .refused
    | .getTypes => s.answer .done mctpTypes
    | .getVendor => s.answer .done [(s.otp.enterprise : Int)]
    | .other => s.answer .refused)

/-- Is a sensor one of temperature, which THERMAL_MODEL serves (R409)? -/
def Numeric.thermal : Numeric → Bool
  | .tDie _ | .tPkg | .tStack _ _ => true
  | _ => false

/-- The die a sensor belongs to; those of the package belong to the leader. -/
def Numeric.die (leader : Nat) : Numeric → Nat
  | .tDie d | .tStack d _ | .diePower d | .vin d => d
  | .tPkg | .pkgPower => leader

/-- Can a sensor be read now: its die answers, its stack is there, its compartment runs (R300, R409)? -/
def State.sensorUp (s : State) (x : Numeric) : Bool :=
  s.named (x.die s.dieId) && !(x.thermal && s.fld (HEATH_FW_COMP.STATE 3) == 3) &&
  (match x with
   | .tStack d k => decide (k < 4) &&
      (if d = s.dieId then bitAt s.tie.mems k else (SMap.get (fun _ => []) s.thm.dieStacks d).any (fun p => p.1 == k))
   | _ => true)

/-- A sensor's value where the leader has it: temperatures in 1/16 °C, power in µW and mV (R240, R300, R407). -/
def State.sensor (s : State) (x : Numeric) : Option Int :=
  match x with
  | .tDie d => some (if d = s.dieId then s.tDie else (SMap.get (fun _ => (0, 0)) s.thm.dieT d).1)
  | .tPkg => some (toSigned 16 (s.fld THM_PKG_TEMP.T_DIE_MAX))
  | .tStack d k => if d = s.dieId then some (toSigned 16 (s.fld (THM_MEM.T k)))
    else match (SMap.get (fun _ => []) s.thm.dieStacks d).find? (fun p => p.1 == k) with
      | some p => some p.2
      | none => none
  | .pkgPower => some (s.dieP 8)
  | .diePower d => some (s.dieP d)
  | .vin d => if d = s.dieId then some (s.fld RAIL0_AVS_READ.VIN) else (SMap.find s.avs.dies d).map (fun v => (v : Int))

/-- The upper warning, critical and fatal thresholds of a temperature sensor, °C: as applied on its die (R300). -/
def State.sensorThr (s : State) (x : Numeric) : Option (List Int) :=
  let d := x.die s.dieId
  let word (off : Nat) : Nat := if d = s.dieId then s.reg off else s.dieApplied d off
  let at_ (f : Fld) : Int := bitsOf (word f.off) f.hi f.lo
  if x.thermal then some [at_ THM_THR.WARN, at_ THM_THR.THROTTLE, at_ THM_THR.SHUTDOWN] else none

/-- PLDM_REQUEST. Readings of a follower that it does not send the leader are not stated: free values. -/
def State.pldmRequest (s : State) (r : PldmReq) : State :=
  s.endpoint (fun s =>
    match r with
    | .getTid => s.answer .done [(s.ses.tid : Int)]
    | .setTid t => ({ s with ses := { s.ses with tid := t } }).answer .done
    | .getTypes => s.answer .done pldmTypes
    | .getVersion t | .getCommands t => if pldmTypes.contains (t : Int) then s.answerFree else s.answer .refused
    | .reading x =>
      if !s.sensorUp x then s.answer .unavailable
      else match s.sensor x with
        | some v => s.answer .done [v]
        | none => s.answerFree
    | .thresholds x =>
      if !s.sensorUp x then s.answer .unavailable
      else match s.sensorThr x with
        | some vs => s.answer .done vs
        | none => s.answer .refused
    | .session => s.answer .done [(s.sessionState : Int)]
    | .die d =>
      if !bitAt s.dieMask d ∨ 7 < d then s.answer .refused
      else if d = s.dieId then s.answer .done [if s.pstate = 0 then 2 else 1, (bnat s.stopped : Int)]
      else s.answer .done [(s.fld (HDG_DIE_STATE.STATE d) : Int), (bnat (s.link d).stopped : Int)]
    | .throttle d =>
      if !s.named d then s.answer .unavailable
      else if d = s.dieId then s.answer .done [(s.fld BUD_RSN_ACTIVE.ACTIVE : Int)]
      else s.answer .done [(bitsOf (SMap.get (fun _ => 0) s.thm.dieFlags d) 31 16 : Int)]
    | .getLimit n => if n < 4 then s.answer .done [(s.reg (BUD_WIN_LIMIT n) : Int)] else s.answer .refused
    | .setLimit n mw =>
      if 4 ≤ n ∨ !stageFits (BUD_WIN_LIMIT n) mw ∨ 2 ^ 32 ≤ mw then s.answer .refused
      else if !s.queueRoom then s.answer .busy
      else ((s.stageAt s.dieId (BUD_WIN_LIMIT n) mw).enqueue { act := .config }).answer .done
    | .setReceiver e => ({ s with ses := { s.ses with receiver := e } }).answer .done
    | .poll =>
      match s.ses.pldm with
      | [] => s.answer .done
      | (kind, d, v) :: rest => ({ s with ses := { s.ses with pldm := rest } }).answer .done [(kind : Int), (d : Int), v]
    | .other => s.answer .refused)

end Sys2Proof.Machine
end

