-- ==== Sys2Proof/Machine/RegPort.lean ====
section
/-! DEFINITION. The register port (R5–R7, R30–R33, R52–R57, R92, R252, R391, R470, R477–R479): who may reach what, what a
read returns, what a write does; and the responses of the memory port (R59–R62). -/

namespace Sys2Proof.Machine

/-! ### Who may reach what -/

/-- The mailboxes of a tenant, as a mask (R391). -/
def State.boxesOf (s : State) (x : Nat) : Nat :=
  (List.range 32).foldl (fun m k =>
    if k ≠ 0 ∧ s.flag (CMD_MB_CTX.EN k) = true ∧ s.fld (CMD_MB_CTX.CTX k) = x then maskSet m k else m) 0

/-- Is an offset one of the mailbox bit registers: MB_IN_FULL, MB_OUT_FULL, MB_IN_OVERRUN? -/
def boxBits (off : Nat) : Bool := off == MB_IN_FULL || off == MB_OUT_FULL || off == MB_IN_OVERRUN

/-- The mailbox of a slot word. -/
def boxOf (off : Nat) : Nat := (off - 0x2000) % 0x200 / 16

/-- The cluster of an agent window. -/
def windowOf (off : Nat) : Nat := (off - 0x40000) / 0x400

/-- Does a register belong to a tenant (R33): the window of a cluster of its context, or its EST_CTX_E? -/
def State.ownsReg (s : State) (x off : Nat) : Bool :=
  if off < 0x40000 then (off - 0x22000) / 8 == x else s.present (windowOf off) && s.ctxOf (windowOf off) == x

/-- May a requester use a register, to read it or, with `wr`, to write it (R33, R52, R391)? Of the registers that any
privilege may read a tenant has only the read. -/
def State.allowed (s : State) (wr : Bool) (acc : Access) (off : Nat) : Who → Bool
  | .rsvd => false
  | .host => true
  | .debug => match acc with
    | .any | .system | .own => true
    | .host | .mailbox => false
  | .tenant x => match acc with
    | .any => !wr
    | .own => s.ownsReg x off
    | .mailbox => if boxBits off then s.boxesOf x != 0 else boxOf off != 0 && bitAt (s.boxesOf x) (boxOf off)
    | .system | .host => false

/-- Bits of a register that a requester reaches: of the mailbox bits a tenant reaches those of its mailboxes (R33). -/
def State.reach (s : State) (off : Nat) : Who → Nat
  | .tenant x => if boxBits off then s.boxesOf x else 2 ^ 32 - 1
  | _ => 2 ^ 32 - 1

/-- A refused access (R33, R53): it reads 0 and is counted. -/
def State.deny (s : State) : State := (s.incSat (whole ACC_DENIED)).emit (.reg 0 1)

/-- An access that has been performed: its response. -/
def State.okay (s : State) (data : Nat) : State := s.emit (.reg data 0)

/-- Is a register one of a window that is not there (R478): an unpopulated agent position, or a rail with no built
phase? The AVSBus registers in the window of rail 0 are not the rail's. -/
def State.absent (s : State) (off : Nat) : Bool :=
  if 0x40000 ≤ off ∧ off < 0x90000 then !s.present (windowOf off)
  else if 0x18000 ≤ off ∧ off < 0x1C000 ∧ off % 0x1000 < 0x800 then s.built ((off - 0x18000) / 0x1000) == 0
  else false

/-! ### Reads -/

/-- Is a word the low word of a 64-bit register (R252)? -/
def isLowWord (off : Nat) : Bool :=
  [0x400C, 0x4014, 0x20018, 0x20020, 0x20038, 0x24104, 0x2801C, 0x2E004, 0x30010].contains off ||
  (0x0A200 ≤ off && off < 0x0A280 && off % 8 == 0) || (0x22000 ≤ off && off < 0x24000 && off % 8 == 0) ||
  (0x24000 ≤ off && off < 0x24030 && off % 8 == 0) || (0x24040 ≤ off && off < 0x24070 && off % 8 == 0) ||
  (0x24600 ≤ off && off < 0x24700 && off % 8 == 0) ||
  (0x40000 ≤ off && off < 0x90000 && 0x300 ≤ off % 0x400 && off % 0x400 < 0x330 && off % 8 == 0)

/-- What a register of a leader, or one that is no package view, reads as: staged fields from the staging copy, a value of
CMD_MB_CTX that waits, and the setpoint that CORE and CACHE do not have (R6, R55, RAILn_VSET). -/
def State.portWord (s : State) (d : RegDesc) (off : Nat) : Nat :=
  if s.absent off then (resetWord off).toNat
  else
    let w := d.stageWord (s.readReg off) (s.stagedReg off)
    if off = RAIL_VSET 0 ∨ off = RAIL_VSET 1 then withBits w 10 0 0
    else if CMD_MB_CTX 0 ≤ off ∧ off ≤ CMD_MB_CTX 31 then (SMap.find s.ses.ctxNext ((off - CMD_MB_CTX 0) / 4)).getD w
    else w

/-- The latch of a requester (R252): the low word's offset and the high word. -/
def State.latchOf (s : State) (who : Who) : Option (Nat × Nat) := (s.latches.find? (fun p => decide (p.1 = who))).map (fun p => p.2)

/-- The requester's latch replaced (R252). -/
def State.setLatch (s : State) (who : Who) (off hi : Nat) : State :=
  { s with latches := s.latches.filter (fun p => decide (p.1 ≠ who)) ++ [(who, off, hi)] }

/-- A read that is allowed: the value, and the latches of 64-bit registers (R31, R252). -/
def State.readWord (s : State) (d : RegDesc) (off : Nat) (who : Who) : State :=
  let view (o : Nat) : Nat := if d.pkg ∧ s.leader = false then 0 else s.portWord d o &&& s.reach o who
  if isLowWord off then (s.setLatch who off (view (off + 4))).okay (view off)
  else if isLowWord (off - 4) then
    match s.latchOf who with
    | some (o, hi) => s.okay (if o = off - 4 then hi else view off)
    | none => s.okay (view off)
  else s.okay (view off)

/-- The log ring (R428): 4,096 records of 16 bytes, read-only, for the host and debug. -/
def State.logAccess (s : State) (wr : Bool) (off : Nat) (who : Who) : State :=
  if who = .host ∨ who = .debug then
    if wr then s.okay 0 else s.okay (SMap.get (fun _ => 0) s.fw.log ((off - 0xA0000) / 16) / 2 ^ (8 * (off % 16)) % 2 ^ 32)
  else s.deny

/-! ### What the steward takes up by itself -/

/-- Values of CMD_MB_CTX that can take effect: the mailbox is idle and its slot empty. -/
def State.settleBoxes (s : State) : State :=
  each s.ses.ctxNext (fun p t =>
    if (t.cmd p.1).isNone && !bitAt (t.reg MB_IN_FULL) p.1 then
      ({ t with ses := { t.ses with ctxNext := SMap.drop t.ses.ctxNext p.1 } }).setReg (CMD_MB_CTX p.1) p.2
    else t) s

/-- The steward acts on an inbound HEARTBEAT doorbell, which clears it; outside ATTACHED it stays latched (R380, R401,
R402). -/
def State.takeHeartbeat (s : State) : State :=
  if bitAt (s.reg MB_DB_IN) 0 && s.steward && s.sessionState == 1 then
    s.setReg MB_DB_IN (maskClear (s.reg MB_DB_IN) 0)
  else s

/-- What waits for the steward, for an idle mailbox, or for its turn after the mailboxes. -/
def State.settleSteward (s : State) : State := s.settleBoxes.takeHeartbeat.takeTurn

/-- A row at which READY is reached: what was latched before it is taken up (R115). `was` is READY before the row. -/
def State.settleReady (s : State) (was : Bool) : State := if s.ready && !was then s.settleSteward else s

/-! ### Writes -/

/-- One field of a written word (R6): the word held, the staging copy, was the write of an RWL field refused? An RW value
outside min and max leaves the field: RST_LIMIT ignores a write of 0. -/
def FieldDesc.write (f : FieldDesc) (scope : Bool) (data : Nat) (x : Nat × Nat × Bool) : Nat × Nat × Bool :=
  let v := bitsOf data f.hi f.lo
  match f.ty with
  | .rw => if f.min ≤ v ∧ v ≤ f.max then (withBits x.1 f.hi f.lo v, x.2.1, x.2.2) else x
  | .w1c => (withBits x.1 f.hi f.lo (maskDiff (bitsOf x.1 f.hi f.lo) v), x.2.1, x.2.2)
  | .rws => (x.1, withBits x.2.1 f.hi f.lo v, x.2.2)
  | .rwl => if v = bitsOf x.1 f.hi f.lo then x else if scope then (withBits x.1 f.hi f.lo v, x.2.1, x.2.2) else (x.1, x.2.1, true)
  | .rwls => if v = bitsOf x.2.1 f.hi f.lo then x else if scope then (x.1, withBits x.2.1 f.hi f.lo v, x.2.2) else (x.1, x.2.1, true)
  | .w1s | .stk => x

/-- The fields of a written word: the state and whether an RWL field was refused. -/
def State.writeFields (s : State) (d : RegDesc) (off data : Nat) : State × Bool :=
  let r := d.fields.foldl (fun x f => f.write (s.hasScope d.scope) data x) (s.reg off, s.stagedReg off, false)
  let staged := d.fields.any (fun f => f.isStaged)
  ((if staged then s.setStaged off r.2.1 else s.setReg off r.1), r.2.2)

/-- Only the RW fields of a written word (R32). -/
def State.writePlain (s : State) (d : RegDesc) (off data : Nat) : State :=
  s.setReg off ((d.fields.filter (fun f => f.ty == .rw)).foldl (fun x f => f.write false data x) (s.reg off, 0, false)).1

/-- HEATH_ registers after their fields have been written; `old` is the state before. -/
def State.actHeath (s old : State) (off data : Nat) : State :=
  if off = HEATH_DOMAIN_CTRL then
    let s1 := if s.fld HEATH_DOMAIN_CTRL.LINGER = 0 then s.setFld HEATH_DOMAIN_CTRL.LINGER (old.fld HEATH_DOMAIN_CTRL.LINGER) else s
    let s2 := if s1.flag HEATH_DOMAIN_CTRL.FORCE_CORE ∧ s1.canWake = true then s1.startCore else s1
    if s2.flag HEATH_DOMAIN_CTRL.FORCE_STEWARD ∧ s2.canWake = true then s2.startCore.startSteward else s2
  else if off = HEATH_RESET_CTRL ∧ bitAt data 0 = true ∧ s.ready = true then s.blockReset true
  else if off = HEATH_FW_LOAD_CTRL ∧ bitAt data 31 = true then s.loadGo
  else s

/-- MB_ registers after their fields have been written. A set of HEARTBEAT restarts the heartbeat timer of an ATTACHED
session at once, whatever the steward does (R401). -/
def State.actBox (s : State) (off data : Nat) : State :=
  if off < 0x2200 ∧ off % 16 = 0xC then (s.setReg MB_IN_FULL (maskSet (s.reg MB_IN_FULL) (boxOf off))).wake 5 true
  else if off = MB_DB_IN then
    let s1 := if bitAt data 0 = true ∧ s.sessionState = 1 then { s with ses := { s.ses with hbAt := s.now } } else s
    ((s1.setReg MB_DB_IN (s1.reg MB_DB_IN ||| (data &&& 0xFFFF0001))).wake 4 true).settleSteward
  else s

/-- A capture that is armed anew waits for the next injection, not for the one under way on rail `m`, whose end it holds no
longer: with no other capture it ends as one that no capture waits for (R221, R226), a choice (log 165). -/
def State.forgetCap (s : State) (m n : Nat) : State :=
  let r := s.rail m
  s.setRail m { r with
    inj := r.inj.map (fun (j : Injection) => { j with caps := maskClear j.caps n })
    ghosts := (r.ghosts.map (fun g => (g.1, maskClear g.2 n))).filter (fun g => g.2 != 0) }

/-- A new capture under the settings that stand (R226). -/
def State.armCap (s : State) (n : Nat) : State :=
  let src := s.fld (RAIL_CAP_CTRL.SRC n)
  let c : Capture := { armed := true, src := if src = 3 then 0 else src, decim := s.fld (RAIL_CAP_CTRL.DECIM n),
                       pre := s.fld (RAIL_CAP_CTRL.PRE n), per := s.fld (RAIL_CTRL.PER n), evtMask := s.reg (RAIL_CAP_EVT n) }
  let s := each [0, 1, 2, 3] (fun m t => t.forgetCap m n) s
  (((s.setRail n { s.rail n with cap := c }).setFld (RAIL_CAP_STATUS.STATE n) 1).setFld (RAIL_CAP_STATUS.LATE_TRIG n) 0).noteFill n

/-- RAILn_ registers after their fields have been written. A word with STOP and ARM stops, then arms (log 38). -/
def State.actRail (s : State) (off data : Nat) : State :=
  let n := (off - 0x18000) / 0x1000
  if off = RAIL_CAP_CTRL n then
    let s1 := if bitAt data 1 then s.freezeCap n else s
    if bitAt data 0 then s1.armCap n else s1
  else s

/-- FH_SRC after its fields have been written: the level reactions follow, and FORCE raises the source and reads 0 (R461,
R468). -/
def State.actSource (s : State) (off : Nat) : State :=
  let i := (off - 0x4400) / 4
  if s.flag (FH_SRC.FORCE i) then
    let s1 := (s.setFld (FH_SRC.FORCE i) 0).noteLines
    if s1.flag (FH_SRC.IMPL i) then s1.hubRaise i 0 true else s1
  else s.noteLines

/-- RING_CTRL: RESUME, then ARM, then FORCE where a word carries several (log 38). -/
def State.actRing (s : State) (data : Nat) : State :=
  let s1 := if bitAt data 2 then s.ringResume else s
  let s2 := if bitAt data 0 then s1.ringArm else s1
  if bitAt data 1 then s2.ringForce else s2

/-- OBS_STR_CTRL: a PERIOD below 2 is ignored; EN starts the first period. -/
def State.actStream (s old : State) : State :=
  let s1 := if s.fld OBS_STR_CTRL.PERIOD < 2 then s.setFld OBS_STR_CTRL.PERIOD (old.fld OBS_STR_CTRL.PERIOD) else s
  if s1.flag OBS_STR_CTRL.EN ∧ old.flag OBS_STR_CTRL.EN = false then { s1 with obs := { s1.obs with streamAt := s1.now } } else s1

/-- A cleared SUSPECT starts the site's deviation runs again (R281). -/
def State.actSite (s : State) (off data : Nat) : State :=
  let k := (off - 0x90000) / 0x40
  if off = SITE_STATUS k ∧ bitAt data 1 = true then (s.setFld (SITE_STATUS.DEV_RUN k) 0).setFld (SITE_STATUS.MISS_RUN k) 0 else s

/-- What a written word sets going beside its fields. -/
def State.writeActs (s old : State) (off data : Nat) (who : Who) : State :=
  if off < 0x2000 then s.actHeath old off data
  else if off < 0x3000 then s.actBox off data
  else if 0x4400 ≤ off ∧ off < 0x4800 then s.actSource off
  else if off = ACC_CTRL then (if bitAt data 0 then s.relock else s)
  else if 0x18000 ≤ off ∧ off < 0x1C000 then s.actRail off data
  else if off = OBS_STR_CTRL then s.actStream old
  else if off = RING_LEN ∨ off = RING_SAMP then s.ringLengths off (old.reg off) (s.reg off)
  else if off = RING_CTRL then s.actRing data
  else if off = TIME_CTRL then (if bitAt data 31 = true ∧ who = .host then s.resyncWrite else s)
  else if 0x90000 ≤ off then s.actSite off data
  else s

/-- A word whose fields have been written: its effects, then the response; the refusal of an RWL field is counted once
(R53). The state before it is `old`. -/
def State.written (old : State) (d : RegDesc) (off data : Nat) (who : Who) : State :=
  let r := old.writeFields d off data
  let s1 := r.1.writeActs old off data who
  if r.2 then s1.deny else s1.okay 0

/-- Registers whose W1C bits the units clear themselves: FH_PEND, FH_FIRST, phase exclusions, and the mailbox bits of the
requester; CMD_MB_CTX while its mailbox is busy. None: the register is like any other. -/
def State.writeOwn (s : State) (off data : Nat) (who : Who) : Option State :=
  let n := (off - 0x18000) / 0x1000
  if FH_PEND 0 ≤ off ∧ off ≤ FH_PEND 7 then
    some (s.clearSources ((bitsSet 32 data).map (fun b => 32 * ((off - FH_PEND 0) / 4) + b)))
  else if off = FH_FIRST then some (if bitAt data 31 then s.clearFirst else s)
  else if 0x18000 ≤ off ∧ off = RAIL_PH_FAULT n then some (s.readmit n false data)
  else if 0x18000 ≤ off ∧ off = RAIL_PH_FAULT_HI n then some (s.readmit n true data)
  else if off = MB_OUT_FULL ∨ off = MB_IN_OVERRUN then
    some ((s.setReg off (maskDiff (s.reg off) (data &&& s.reach off who))).settleSteward)
  else if CMD_MB_CTX 1 ≤ off ∧ off ≤ CMD_MB_CTX 31 then
    let w := data &&& 0x800003FF
    some ({ s with ses := { s.ses with ctxNext := SMap.enter s.ses.ctxNext ((off - CMD_MB_CTX 0) / 4) w } }).settleSteward
  else none

/-- Is a write one that a register ignores as a whole: HEATH_FW_LOAD_ outside the wait (R417), a window that is not there
(R478)? -/
def State.ignores (s : State) (off : Nat) : Bool :=
  s.absent off || (decide (HEATH_FW_LOAD_LO ≤ off ∧ off ≤ HEATH_FW_LOAD_CTRL) && s.fw.waitLoad.isNone)

/-- A write that is allowed, at the leader. A full inbound slot refuses every write (R375). -/
def State.writeWord (s : State) (d : RegDesc) (off data : Nat) (who : Who) : State :=
  if 0x2000 ≤ off ∧ off < 0x2200 ∧ bitAt (s.reg MB_IN_FULL) (boxOf off) = true then
    (s.setReg MB_IN_OVERRUN (maskSet (s.reg MB_IN_OVERRUN) (boxOf off))).deny
  else if s.ignores off then s.okay 0
  else match s.writeOwn off data who with
    | some t => t.okay 0
    | none => s.written d off data who

/-- A write at a follower (R30–R33): refused for a tenant without the right to it; else only debug and only on RW fields,
whose other effects on the register are its own (LINGER, ring lengths, streaming). -/
def State.writeFollower (s : State) (d : RegDesc) (off data : Nat) (who : Who) : State :=
  match who with
  | .rsvd => s.deny
  | .host => s.okay 0
  | .tenant _ => if s.allowed true d.wr off who then s.okay 0 else s.deny
  | .debug =>
    if !s.allowed true d.wr off who || d.pkg || s.ignores off then s.okay 0
    else ((s.writePlain d off data).writeActs s off 0 who).okay 0

/-! ### The port -/

/-- The debug modules' window (R429, R477). -/
def inDebugModule (off : Nat) : Bool := 0xB0000 ≤ off && off < 0xB2000

/-- dmstatus of a debug module: version 2, authenticated, its one hart halted or running, the last resume acknowledged; the
other bits are free values (R429, log 12). -/
def DebugMod.status (d : DebugMod) (free : Nat) : Nat :=
  2 + 128 + 0x300 * bnat d.halted + 0xC00 * bnat (!d.halted) + 0x30000 * bnat d.resumed + 2 ^ 18 * (free % 2 ^ 14) +
  16 * (free / 2 ^ 14 % 8)

/-- A write of dmcontrol: dmactive; while it is set a halt request halts the hart, a resume request resumes it (R429, log
12). -/
def DebugMod.control (d : DebugMod) (v : Nat) : DebugMod :=
  if !bitAt v 0 then { d with active := false, resumed := false }
  else if bitAt v 31 then { active := true, halted := true, resumed := d.resumed }
  else if bitAt v 30 then { active := true, halted := false, resumed := true }
  else { d with active := true }

/-- An access to a core's debug module: denied without the firmware-debug scope, which the host and debug may hold. With it
it is performed as any other: dmcontrol and dmstatus, at 4 times their number in the RISC-V specification that R429 names,
as that gives them; what any other register returns is a free value, and what it does lies in the core (R53, R429, log 12). -/
def State.debugAccess (s : State) (wr : Bool) (off data : Nat) (who : Who) : State :=
  let core := off / 0x1000 % 2
  let d := listGet {} s.fw.debugs core
  let reg := off % 0x1000 / 4
  if !((who == .host || who == .debug) && s.hasScope 3) then s.deny
  else if wr then
    (if reg = 0x10 then { s with fw := { s.fw with debugs := listSet s.fw.debugs core (d.control data) } } else s).okay 0
  else if reg = 0x10 then s.okay (bnat d.active)
  else if reg = 0x11 then s.spent.okay (d.status s.drawn)
  else s.spent.okay (s.drawn % 2 ^ 32)

/-- An access that is performed (R53): the domain it needs starts (R56), then the offset and the requester are judged. -/
def State.perform (s0 : State) (q : PortReq) : State :=
  let s := if 0x3000 ≤ q.off ∧ s0.canWake = true then s0.startCore.lingerFrom false else s0
  if q.off % 4 ≠ 0 then s.emit (.reg 0 2)
  else if inDebugModule q.off then s.debugAccess q.wr q.off (q.data % 2 ^ 32) q.who
  else if 0xA0000 ≤ q.off ∧ q.off < 0xB0000 then s.logAccess q.wr q.off q.who
  else match findReg q.off with
    | none => if q.who = .rsvd then s.deny else s.emit (.reg 0 2)
    | some d =>
      if q.wr then
        if !s.leader then s.writeFollower d q.off (q.data % 2 ^ 32) q.who
        else if s.allowed true d.wr q.off q.who then s.writeWord d q.off (q.data % 2 ^ 32) q.who
        else s.deny
      else if s.allowed false d.rd q.off q.who then s.readWord d q.off q.who
      else s.deny

/-- NOT_READY: PORST_N is asserted, or the instance has stopped under R29, in the strap exchange of step 4 (R53). A follower
that stops with the same code after step 5, for want of a leader, keeps its port (R113). -/
def State.portClosed (s : State) : Bool :=
  !s.ps.porst || (s.stopped && s.fld HEATH_BOOT_STATUS.FAIL == 1 && decide (s.bootStep ≤ 4))

/-- A request at the register port (R52–R56, R92): while it is closed only the identity region and HEATH_DOMAIN_STATUS can
be read (R54); during a block reset what lies outside the Heath waits, and so does what comes after it (R53). With 4
requests waiting no further one is accepted: it changes nothing, and its requester keeps it. A read of the identity region
or of HEATH_DOMAIN_STATUS under the reserved privilege while the port is closed is answered NOT_READY: a choice between
R52, which calls it denied, and R54, which lets such a read complete (log 134). -/
def State.access (s : State) (q : PortReq) : State :=
  if !s.ps.vaon then s
  else if s.portClosed then
    if !q.wr ∧ (q.off < 0x1000 ∨ q.off = HEATH_DOMAIN_STATUS) ∧ q.who ≠ .rsvd then s.perform q else s.emit (.reg 0 3)
  else if s.inReset && (decide (0x3000 ≤ q.off) || !s.held.isEmpty) then
    if 4 ≤ s.held.length then s else { s with held := s.held ++ [q] }
  else s.perform q

/-- Accesses that waited for the end of a block reset go on in their order; one of them may trigger the next reset. -/
def State.releaseHeld (s : State) : State :=
  each s.held (fun q t => t.access q) { s with held := [] }

/-- The port is closed while accesses wait: NOT_READY (R53, R54). -/
def State.refuseHeld (s : State) : State :=
  each s.held (fun _ t => t.emit (.reg 0 3)) { s with held := [] }

/-- A write of a register (R55). -/
def State.portWrite (s : State) (off data : Nat) (who : Who) : State := s.access ⟨true, off, data, who⟩

/-- A read of a register (R57, R252). -/
def State.portRead (s : State) (off : Nat) (who : Who) : State := s.access ⟨false, off, 0, who⟩

/-! ### The USER call read (R420) -/

/-- Registers USER may read: those of the BUD_, OPP_, THM_ and EST_ regions without configuration fields, ADM_CEILING,
ADM_OUT and ADM_CTX_OUT. -/
def userMay (off : Nat) : Bool :=
  match findReg off with
  | none => false
  | some d =>
    off == ADM_CEILING || off == ADM_OUT || (ADM_CTX_OUT 0 ≤ off && off ≤ ADM_CTX_OUT 1023) ||
    (((0x8000 ≤ off && off < 0x10000) || (0x20000 ≤ off && off < 0x24000)) &&
      d.fields.all (fun f => f.ty == .w1c || f.ty == .stk))

/-- USER_READ: a register's value, or an error. -/
def State.userRead (s : State) (off : Nat) : State :=
  if !s.userRuns then s
  else match findReg off with
    | some d => if userMay off then s.userSays false (if d.pkg ∧ s.leader = false then 0 else s.readReg off) else s.userSays true 0
    | none => s.userSays true 0

/-! ### Responses of the memory port (R58–R62) -/

/-- What a transaction was for takes its answer. -/
def State.memAnswer (s : State) (x : MemTxn) (ok : Bool) (data : List Nat) : State :=
  match x.job with
  | .header m | .param m | .result m | .reply m => s.cmdLine m x ok data
  | .event => s.eventWritten x.addr ok
  | .record p => s.recordWritten p ok
  | .head => s.headWritten ok
  | .image => s.imageLine ok data
  | .fwd tag => s.fwdLine tag ok

/-- A line of data as the port carries it: 64 bytes. -/
def lineBytes (data : List Nat) : List Nat := (List.range 64).map (fun k => listGet 0 data k % 256)

/-- Syndrome of a memory-port source: tag, error, line address (R459). -/
def memSyn (tag err addr : Nat) : Nat := syndrome tag err ((addr / 64 % 2 ^ 32 : Nat) : Int)

/-- MEM_RESPONSE: a response to an outstanding tag, or one that nothing waits for any more (R59–R62, R92): after a timeout
an error is still raised, and the tag is free. -/
def State.memResponse (s : State) (tag err : Nat) (data : List Nat) : State :=
  match SMap.find s.mem.out tag with
  | some x =>
    let s1 := { s with mem := { s.mem with out := SMap.drop s.mem.out tag } }
    let s2 := if err = 0 then s1 else s1.raise srcMemPortErr (memSyn tag err x.addr)
    ((s2.memAnswer x (err == 0) (lineBytes data)).settleSteward).memPump
  | none =>
    match SMap.find s.mem.dead tag with
    | some a =>
      let s1 := { s with mem := { s.mem with dead := SMap.drop s.mem.dead tag, resetDead := s.mem.resetDead.filter (fun t => t != tag) } }
      let s2 := match a with
        | some addr => if err = 0 then s1 else s1.raise srcMemPortErr (memSyn tag err addr)
        | none => s1
      s2.memPump
    | none => s

/-- MEM_PORT_TIMEOUT: 100 µs without a response (R62): the transaction has failed with a data error, and its tag is not used
until a response comes. -/
def State.memTimeout (s : State) (tag : Nat) : State :=
  match SMap.find s.mem.out tag with
  | some x =>
    let s1 := s.advanceTo (x.at_ + 100000)
    let s2 := { s1 with mem := { s1.mem with out := SMap.drop s1.mem.out tag, dead := SMap.enter s1.mem.dead tag (some x.addr) } }
    (((s2.raise srcMemPortTimeout (memSyn tag 2 x.addr)).memAnswer x false (lineBytes [])).settleSteward).memPump
  | none => s

/-! ### Pickup and notices with what waits for them -/

/-- COMMAND_PICKUP of a slot that can be picked up. -/
def State.pickupSlot (s : State) (m : Nat) : State := if s.pickable m then (s.pickup m).settleSteward else s

/-- May a notice be posted: the steward runs, the session is ATTACHED, and the slot is empty (R377, R402)? -/
def State.mayPost (s : State) (m : Nat) : Bool := s.steward && s.sessionState == 1 && !bitAt (s.reg MB_OUT_FULL) m

/-- NOTICE_POST (R377, R403). -/
def State.noticePost (s : State) (m : Nat) : State :=
  if s.mayPost m then
    match s.postNotice m with
    | some (n, t) => (if n.detach then (t.fillSlot m n).enterUnattended 2 else t.fillSlot m n).settleSteward
    | none => s
  else s

end Sys2Proof.Machine
end

