-- ==== Sys2Proof/Machine/Rows.lean ====
section
/-! DEFINITION. What the meanings of the rows share: the guards on units and domains, and the rows that put several
units' operations together. -/

namespace Sys2Proof.Machine

/-! ### Guards -/

/-- The outcome of a row that names a unit: `ok` says that the hardware has that unit. -/
def ofUnit (ok : Bool) (t : State) : Host.Outcome State Fault Refusal := if ok then .next t else .fault .noSuchUnit

/-- Do the units of the block core domain that a block reset reaches run: out of PORST_N and of a block reset, their
domain clocked (R17, R103, R104)? -/
def State.coreRuns (s : State) : Bool := s.ps.porst && s.flag HEATH_DOMAIN_STATUS.CORE_ON && !s.inReset

/-- Do the rail keepers run: out of PORST_N, the DPWM domain clocked (R17, R18, R212)? -/
def State.dpwmRuns (s : State) : Bool := s.ps.porst && s.flag HEATH_DOMAIN_STATUS.DPWM_ON

/-- Is cluster `c` one of this die's (R71)? -/
def State.hasCluster (s : State) (c : Nat) : Bool := decide (c < 320) && s.present c

/-! ### Resets and pins -/

/-- PORST_N_ASSERT: accesses that wait are refused as the port closes (R53, R103). -/
def State.porstLow (s : State) : State := (if s.ps.vaon && s.ps.porst then s.refuseHeld else s).porstAssert

/-- PLL_LOCK: with the block core domain running, a half that is to be off acknowledges (R90, R111). -/
def State.lockPll (s : State) : State := (s.pllLock.halfAck 0).halfAck 1

/-- BLOCK_RESET_COMPLETE: the limiter takes up what the reset held back, the rate is looked at, and the accesses that waited
go on (R92, R106, R353). -/
def State.resetEnds (s : State) : State := if s.inReset then s.resetComplete.operandChange.noteRate.releaseHeld.settleSteward else s

/-- half_off_req rises (R90); while PORST_N is low only its level is kept. -/
def State.halfOffPin (s : State) (h : Nat) : State :=
  if s.ps.porst then s.halfOff h else { s with halfReq := maskSet s.halfReq h }

/-- half_off_req falls (R90). -/
def State.halfOnPin (s : State) (h : Nat) : State :=
  if s.ps.porst then s.halfRestart h else { s with halfReq := maskClear s.halfReq h }

/-- FAST_LIMIT_N is latched low (R270, R98): the Heath wakes the block core domain, and the limiter applies emerg_share.
While PORST_N is low the Heath latches the event all the same, and it acts at the deassertion (R14, R99, R114); below the
threshold of VAON only the level is there. -/
def State.pinFalls (s : State) : State :=
  if s.lim.pinLow then s
  else if s.ps.porst then
    let t := s.fastLimit.wake 3 false
    if t.coreRuns then t.operandChange.noteRate else t
  else { s with lim := { s.lim with emergency := s.ps.vaon, pinLow := true, highAt := none, edge := s.ps.vaon } }

/-- FAST_LIMIT_N returns high (R271): the hold begins, under PORST_N too (R13). -/
def State.pinRises (s : State) : State :=
  if s.ps.vaon then s.fastLimitHigh else { s with lim := { s.lim with pinLow := false } }

/-! ### Energy windows (R261–R263) -/

/-- The leader's decision on window `w` for participant `d` is on its way (R262). -/
def State.tellDecision (s : State) (w d : Nat) : State :=
  let dec := s.decisionFor w d
  if d = s.dieId then
    s.setWindow w { s.window w with decision := if dec = 0 then none else some dec, heardAt := s.skyNs }
  else s.send d 0 (.data (.decision w dec))

/-- WINDOW_SLOT_BOUNDARY: the slot closes; the leader evaluates the window and decides for every participant. -/
def State.windowBoundary (s : State) (w : Nat) : State :=
  if s.winOn w then
    let s1 := s.slotBoundary w
    if s1.leader then each s1.participants (fun d t => t.tellDecision w d) (s1.showFill w) else s1
  else s

/-- WINDOW_DECISION_APPLY: the decision that has reached this die is applied (R262). -/
def State.windowApply (s : State) (w : Nat) : State :=
  match (s.window w).decision with
  | none => s
  | some dec =>
    let s1 := s.setWindow w { s.window w with decision := none }
    if s1.winOn w then (s1.winApply w dec).operandChange.noteRate else s1

/-- A follower reaches a boundary at which it judges a window alone, the first 2 slots after the last decision it has
heard; the slot that ends there is complete (R261, R263). -/
def State.aloneBoundary (s : State) (w : Nat) : State :=
  let len := s.slotNs w
  let x := s.window w
  let due := max (max (ceilMult (x.heardAt + 2 * len) len) (x.aloneAt + len)) (s.skyNs / len * len)
  let s1 := s.advanceSky due
  s1.setWindow w { (if x.lastAt < due then { x.close with lastAt := due } else x) with aloneAt := due }

/-- WINDOW_AUTONOMOUS: a follower that has had no decision for 2 slots applies the table to itself at a boundary, its own
committed share as the limit (R263). -/
def State.windowAlone (s : State) (w : Nat) : State :=
  if s.winOn w && !s.leader && decide (0 < s.slotNs w) then
    let s1 := s.aloneBoundary w
    let share := s1.reg (BUD_SHARE_WIN w)
    let e := (s1.window w).energy s1.dieId
    let p := s1.dieP s1.dieId
    (s1.winApply w (s1.winDecide w e p share e p share)).operandChange.noteRate
  else s

/-! ### The estimator's interval (R233, R240, R261) -/

/-- ESTIMATOR_INTERVAL: this die's power, booked at the leader with that of the dies held as LOST, or sent to it with the
sums that OBS_PKG_ adds up (R240, R433, log 69). -/
def State.estimate (s : State) : State :=
  let p := s.interval
  let s1 := p.1.streamEnergy p.2
  if s1.leader then
    let lost := (bitsSet 8 s1.dieMask).filter (fun d => s1.fld (HDG_DIE_STATE.STATE d) == 3)
    (each lost (fun d t => t.bookDie d (t.dieP d)) (s1.bookDie s1.dieId p.2)).bankLate energyOff
  else
    let s2 := (s1.bookWindows [s1.dieId] p.2).bankLate energyOff
    if s2.flag HDG_STATUS.AUTONOMOUS || !s2.leaderKnown then s2
    else (s2.send s2.leaderDie 0 (.energy p.2)).send s2.leaderDie 0 (.data (.obsSums s2.dieSums))

/-! ### Rails (R199, R207–R209, R223, R226, R272) -/

/-- What a control sample sets going outside its keeper. -/
def State.sampleActs (s : State) (n : Nat) (e : SampleEvents) : State :=
  let s1 := s.stepSample
  let s2 := if e.uv then s1.uvAlert n else s1
  let s3 := if e.ssFailed then s2.softFail n else s2
  (if e.ov then s3.railOver else s3).noteReasons

/-- CONTROL_SAMPLE of rail `n`, if it is used and its domain runs (R185, R199). -/
def State.controlSample (s : State) (n : Nat) (inp : SampleIn) : State :=
  if s.dpwmRuns && s.railUsed n then (s.sample n inp).1.sampleActs n (s.sample n inp).2 else s

/-- INJECTION_TIMEOUT: a running injection is older than MAX_TIME (R223). -/
def State.injTimeout (s : State) (n : Nat) : State :=
  match (s.rail n).inj with
  | none => s
  | some j => (s.advanceTo (j.startAt + 1000000 * s.fld (RAIL_INJ_GUARD.MAX_TIME n))).abortInj n 6

/-- CAPTURE_FREEZE: the last sample after the trigger has been stored (R226). -/
def State.capFull (s : State) (n : Nat) : State :=
  if s.capState n = 2 ∧ (s.rail n).cap.left = 0 then s.freezeCap n else s

/-! ### Hedgerow (R321, R328, R335) -/

/-- HDG_WAKE_IN: the level rises and the Heath wakes the block core domain, which runs while it is high (R82). -/
def State.hdgWake (s : State) : State :=
  if s.ps.porst then { s.wake 7 false with hdg := { (s.wake 7 false).hdg with wakeIn := true } } else s

/-- PREPARE_ACK at the leader: a NACK of a catch-up loses the die (R328, R335). -/
def State.acknowledged (s : State) (d id : Nat) (nack : Bool) (regions : Nat) : State :=
  (s.catchNack d nack).prepareAnswer d id nack regions

/-- DATA at this instance (R321). -/
def State.onData (s : State) (h : FlitHdr) (b : Bulk) : State :=
  if s.leader then s.toLeader h (fun u => u.dataToLeader h.src b) else s.fromLeader h (fun u => u.dataToFollower b)

/-! ### ARM_TRIGGER (R455) -/

/-- ARM_TRIGGER with ACTION ARM; a reserved action is judged here. -/
def State.armTriggerArm (s : State) (m : Nat) : State := s.armTriggerCmd m (fun k => k != 1 && k != 2)

/-- ARM_TRIGGER with ACTION FORCE. -/
def State.armTriggerForce (s : State) (m : Nat) : State := s.armTriggerCmd m (fun k => k == 1)

/-- ARM_TRIGGER with ACTION RESUME. -/
def State.armTriggerResume (s : State) (m : Nat) : State := s.armTriggerCmd m (fun k => k == 2)

end Sys2Proof.Machine
end

