-- ==== Sys2Proof/Machine/ExecAgent.lean ====
section
/-! DEFINITION. Meanings of the admission rows (chapter 4). A row that names a unit which the hardware does not have
faults. -/

namespace Sys2Proof.Machine

/-- ENG_CLASS_RISE. An engine's sampled class rises (R120). -/
def execEngClassRise (c : Nat) (e : Nat) (cls : Nat) (s : State) : Host.Outcome State Fault Refusal :=
  ofUnit (s.hasCluster c && decide (e < 4) && decide (cls < 8)) (if s.ps.porst then s.classRise c e cls else s)

/-- ENG_CLASS_FALL. An engine's sampled class falls (R121). -/
def execEngClassFall (c : Nat) (e : Nat) (cls : Nat) (s : State) : Host.Outcome State Fault Refusal :=
  ofUnit (s.hasCluster c && decide (e < 4) && decide (cls < 8)) (if s.ps.porst then s.classFall c e cls else s)

/-- HELD_QUANTA_EXPIRY. Held quanta reach their hysteresis (R122). -/
def execHeldQuantaExpiry (c : Nat) (s : State) : Host.Outcome State Fault Refusal :=
  ofUnit (s.hasCluster c) (if s.ps.porst then s.heldExpiry c else s)

/-- CLUSTER_IDLE. Every engine of a cluster has been idle for the idle time (R123). -/
def execClusterIdle (c : Nat) (s : State) : Host.Outcome State Fault Refusal :=
  ofUnit (s.hasCluster c) (if s.ps.porst then s.clusterIdle c else s)

/-- CL_RUN_FALL. cl_run falls, with the activity counts of the partial interval (R70, R232). -/
def execClRunFall (c : Nat) (counts : List Nat) (s : State) : Host.Outcome State Fault Refusal :=
  ofUnit (s.hasCluster c) (if s.ps.porst then s.runFall c counts else s)

/-- CL_RUN_RISE. cl_run rises (R70). -/
def execClRunRise (c : Nat) (s : State) : Host.Outcome State Fault Refusal :=
  ofUnit (s.hasCluster c) (if s.ps.porst then s.runRise c else s)

/-- RECLAIM_MESSAGE. A reclaim reaches the agent (R140). -/
def execReclaimMessage (c : Nat) (s : State) : Host.Outcome State Fault Refusal :=
  ofUnit (s.hasCluster c) (if s.ps.porst then s.reclaimArrives c else s)

/-- GRANT_DELIVERY. A grant reaches the agent (R132). -/
def execGrantDelivery (c : Nat) (e : Nat) (s : State) : Host.Outcome State Fault Refusal :=
  ofUnit (s.hasCluster c && decide (e < 4)) (if s.ps.porst then s.deliver c e else s)

/-- GRANT_REQUEST. A forwarded request reaches the arbiter (R133). -/
def execGrantRequest (c : Nat) (e : Nat) (s : State) : Host.Outcome State Fault Refusal :=
  ofUnit (s.hasCluster c && decide (e < 4)) (if s.coreRuns then (s.requestArrives c e).noteReasons else s)

/-- ARBITER_GRANT. An arbiter cycle (R136, R138). -/
def execArbiterGrant (s : State) : Host.Outcome State Fault Refusal := .next (if s.coreRuns then s.arbiterCycle.noteReasons else s)

/-- WAVE_STEP_BOUNDARY. A step boundary of the arbiter (R130, R135). -/
def execWaveStepBoundary (s : State) : Host.Outcome State Fault Refusal := .next (if s.coreRuns then s.stepBoundary.noteReasons else s)

/-- LOCAL_GRANT_REPORT. A report of local grants and releases reaches the arbiter (R125). -/
def execLocalGrantReport (c : Nat) (s : State) : Host.Outcome State Fault Refusal :=
  ofUnit (s.hasCluster c) (if s.coreRuns then s.reportArrives c else s)

/-- POCKET_REFILL. A pocket refill (R124). -/
def execPocketRefill (c : Nat) (s : State) : Host.Outcome State Fault Refusal :=
  ofUnit (s.hasCluster c) (if s.coreRuns then s.refillPocket c else s)

/-- REVOCATION_PASS. An arbiter cycle of a revocation pass (R140). -/
def execRevocationPass (s : State) : Host.Outcome State Fault Refusal := .next (if s.coreRuns then s.revocationCycle.noteReasons else s)

/-- RESERVATION_START. A reservation starts (R147). -/
def execReservationStart (id : Nat) (s : State) : Host.Outcome State Fault Refusal :=
  .next (if s.coreRuns then s.startResv id else s)

/-- RESERVATION_TIME_T. A reservation's T comes (R135). -/
def execReservationTimeT (id : Nat) (s : State) : Host.Outcome State Fault Refusal :=
  .next (if s.coreRuns then (s.resvTimeT id).noteReasons else s)

/-- RESERVATION_END. A reservation ends (R147). -/
def execReservationEnd (id : Nat) (s : State) : Host.Outcome State Fault Refusal := .next (if s.coreRuns then s.resvEnd id else s)

/-- PREBIAS_START. A reservation's pre-bias begins (R150). -/
def execPrebiasStart (id : Nat) (s : State) : Host.Outcome State Fault Refusal :=
  .next (if s.coreRuns then s.startPrebias id else s)

/-- STILE_MESSAGE. A message to an agent enters a Stile queue (R316). -/
def execStileMessage (half : Nat) (s : State) : Host.Outcome State Fault Refusal :=
  ofUnit (decide (half < 2)) (if s.coreRuns then s.stileMessage half else s)

/-- STILE_QUEUE_DRAIN. A Stile queue drains (R316). -/
def execStileQueueDrain (half : Nat) (s : State) : Host.Outcome State Fault Refusal :=
  ofUnit (decide (half < 2)) (if s.coreRuns then s.stileDrain half else s)

/-- RING_WAIT_TRIG_EXCEEDED. An open wait passes RING_WAIT_TRIG (R441). -/
def execRingWaitTrigExceeded (c : Nat) (e : Nat) (s : State) : Host.Outcome State Fault Refusal :=
  ofUnit (s.hasCluster c && decide (e < 4)) (if s.ps.porst then s.waitExceeds c e else s)

/-- ACTIVITY_INTERVAL_CLOSE. An activity interval ends after so many clock edges at a droop code, with the activity
counts (R231). -/
def execActivityIntervalClose (c : Nat) (edges : Nat) (code : Nat) (counts : List Nat) (s : State) : Host.Outcome State Fault Refusal :=
  ofUnit (s.hasCluster c) (if s.ps.porst then (s.intervalClose c edges code counts).noteReasons else s)

end Sys2Proof.Machine
end

