-- ==== Sys2Proof/Machine/ExecCommand.lean ====
section
/-! DEFINITION. Meanings of the command rows: mailboxes, the memory port and the opcodes (chapter 13, with those of
other chapters). A row that names a unit which the hardware does not have faults. -/

namespace Sys2Proof.Machine

/-- MEM_RESPONSE. A memory-port response (R59, R61). -/
def execMemResponse (tag : Nat) (err : Nat) (data : List Nat) (s : State) : Host.Outcome State Fault Refusal :=
  ofUnit (decide (tag < 32)) (s.memResponse tag err data)

/-- MEM_PORT_TIMEOUT. A memory transaction is unanswered for 100 µs (R62). -/
def execMemPortTimeout (tag : Nat) (s : State) : Host.Outcome State Fault Refusal := ofUnit (decide (tag < 32)) (s.memTimeout tag)

/-- COMMAND_PICKUP. The steward picks up an inbound slot (R376). -/
def execCommandPickup (m : Nat) (s : State) : Host.Outcome State Fault Refusal := ofUnit (decide (m < 32)) (s.pickupSlot m)

/-- NOTICE_POST. A waiting notice is posted (R377). -/
def execNoticePost (m : Nat) (s : State) : Host.Outcome State Fault Refusal := ofUnit (decide (m < 32)) (s.noticePost m)

/-- HEARTBEAT_TIMEOUT. The heartbeat timer ends (R401). -/
def execHeartbeatTimeout (s : State) : Host.Outcome State Fault Refusal := .next (if s.ps.porst then s.heartbeatLapse else s)

/-- MCTP_REQUEST. A vendor-defined MCTP request (R406). -/
def execMctpRequest (bytes : List Nat) (s : State) : Host.Outcome State Fault Refusal := .next (s.mctpRequest bytes)

/-- MCTP_CONTROL. An MCTP control message (R406). -/
def execMctpControl (req : CtlReq) (s : State) : Host.Outcome State Fault Refusal := .next (s.mctpControl req)

/-- PLDM_REQUEST. A PLDM request (R407). -/
def execPldmRequest (req : PldmReq) (s : State) : Host.Outcome State Fault Refusal := .next (s.pldmRequest req)

/-- ATTACH. ATTACH executes (R400). -/
def execAttach (m : Nat) (s : State) : Host.Outcome State Fault Refusal := ofUnit (decide (m < 33)) ((s.attach m).settleSteward)

/-- DETACH. DETACH executes (R403). -/
def execDetach (m : Nat) (s : State) : Host.Outcome State Fault Refusal := ofUnit (decide (m < 33)) ((s.detach m).settleSteward)

/-- HEARTBEAT. HEARTBEAT executes (R393). -/
def execHeartbeat (m : Nat) (s : State) : Host.Outcome State Fault Refusal :=
  ofUnit (decide (m < 33)) ((s.heartbeatCmd m).settleSteward)

/-- GET_INFO. GET_INFO executes (R393). -/
def execGetInfo (m : Nat) (s : State) : Host.Outcome State Fault Refusal := ofUnit (decide (m < 33)) ((s.getInfo m).settleSteward)

/-- STAGE_BUDGET. STAGE_BUDGET executes (R394). -/
def execStageBudget (m : Nat) (s : State) : Host.Outcome State Fault Refusal :=
  ofUnit (decide (m < 33)) ((s.stageBudget m).settleSteward)

/-- COMMIT. COMMIT executes (R394). -/
def execCommit (m : Nat) (s : State) : Host.Outcome State Fault Refusal :=
  ofUnit (decide (m < 33)) ((s.commitCmd m).settleSteward)

/-- ABORT_STAGE. ABORT_STAGE executes (R394). -/
def execAbortStage (m : Nat) (s : State) : Host.Outcome State Fault Refusal :=
  ofUnit (decide (m < 33)) ((s.abortStage m).settleSteward)

/-- GET_BUDGET. GET_BUDGET executes (R394). -/
def execGetBudget (m : Nat) (s : State) : Host.Outcome State Fault Refusal :=
  ofUnit (decide (m < 33)) ((s.getBudget m).settleSteward)

/-- LOAD_PROFILE. LOAD_PROFILE executes (R395). -/
def execLoadProfile (m : Nat) (s : State) : Host.Outcome State Fault Refusal :=
  ofUnit (decide (m < 33)) ((s.loadProfile m).settleSteward)

/-- DROP_PROFILE. DROP_PROFILE executes (R395). -/
def execDropProfile (m : Nat) (s : State) : Host.Outcome State Fault Refusal :=
  ofUnit (decide (m < 33)) ((s.dropProfile m).settleSteward)

/-- ANNOUNCE. ANNOUNCE executes (R395). -/
def execAnnounce (m : Nat) (s : State) : Host.Outcome State Fault Refusal :=
  ofUnit (decide (m < 33)) ((s.announce m).settleSteward)

/-- BARRIER_HINT. BARRIER_HINT executes (R395). -/
def execBarrierHint (m : Nat) (s : State) : Host.Outcome State Fault Refusal :=
  ofUnit (decide (m < 33)) ((s.barrierHint m).settleSteward)

/-- SET_OPP_TABLE. SET_OPP_TABLE executes (R396). -/
def execSetOppTable (m : Nat) (s : State) : Host.Outcome State Fault Refusal :=
  ofUnit (decide (m < 33)) ((s.setOppTable m).settleSteward)

/-- SET_THERMAL. SET_THERMAL executes (R396). -/
def execSetThermal (m : Nat) (s : State) : Host.Outcome State Fault Refusal :=
  ofUnit (decide (m < 33)) ((s.setThermal m).settleSteward)

/-- FABRIC_ASSIGN. FABRIC_ASSIGN executes (R397). -/
def execFabricAssign (m : Nat) (s : State) : Host.Outcome State Fault Refusal :=
  ofUnit (decide (m < 33)) ((s.fabricAssign m).settleSteward)

/-- JOIN_GROUP. JOIN_GROUP executes (R397). -/
def execJoinGroup (m : Nat) (s : State) : Host.Outcome State Fault Refusal :=
  ofUnit (decide (m < 33)) ((s.joinGroup m).settleSteward)

/-- LEAVE_GROUP. LEAVE_GROUP executes (R397). -/
def execLeaveGroup (m : Nat) (s : State) : Host.Outcome State Fault Refusal :=
  ofUnit (decide (m < 33)) ((s.leaveGroup m).settleSteward)

/-- FABRIC_STATUS. FABRIC_STATUS executes (R397). -/
def execFabricStatus (m : Nat) (s : State) : Host.Outcome State Fault Refusal :=
  ofUnit (decide (m < 33)) ((s.fabricStatus m).settleSteward)

/-- SNAPSHOT. SNAPSHOT executes (R453). -/
def execSnapshot (m : Nat) (s : State) : Host.Outcome State Fault Refusal :=
  ofUnit (decide (m < 33)) ((s.snapshot m).settleSteward)

/-- READ_COUNTERS. READ_COUNTERS executes (R454). -/
def execReadCounters (m : Nat) (s : State) : Host.Outcome State Fault Refusal :=
  ofUnit (decide (m < 33)) ((s.readCounters m).settleSteward)

/-- READ_RING. READ_RING executes (R456). -/
def execReadRing (m : Nat) (s : State) : Host.Outcome State Fault Refusal :=
  ofUnit (decide (m < 33)) ((s.readRing m).settleSteward)

/-- SET_WATCH. SET_WATCH executes (R457). -/
def execSetWatch (m : Nat) (s : State) : Host.Outcome State Fault Refusal :=
  ofUnit (decide (m < 33)) ((s.setWatch m).settleSteward)

/-- FAULT_READ. FAULT_READ executes (R467). -/
def execFaultRead (m : Nat) (s : State) : Host.Outcome State Fault Refusal :=
  ofUnit (decide (m < 33)) ((s.faultReadCmd m).settleSteward)

/-- FAULT_CLEAR. FAULT_CLEAR executes (R467). -/
def execFaultClear (m : Nat) (s : State) : Host.Outcome State Fault Refusal :=
  ofUnit (decide (m < 33)) ((s.faultClearCmd m).settleSteward)

/-- FAULT_FORCE. FAULT_FORCE executes (R468). -/
def execFaultForce (m : Nat) (s : State) : Host.Outcome State Fault Refusal :=
  ofUnit (decide (m < 33)) ((s.faultForceCmd m).settleSteward)

/-- INJECT_START. INJECT_START executes (R228). -/
def execInjectStart (m : Nat) (s : State) : Host.Outcome State Fault Refusal :=
  ofUnit (decide (m < 33)) ((s.injectStart m).settleSteward)

/-- CAPTURE_READ. CAPTURE_READ executes (R229). -/
def execCaptureRead (m : Nat) (s : State) : Host.Outcome State Fault Refusal :=
  ofUnit (decide (m < 33)) ((s.captureRead m).settleSteward)

/-- UNLOCK_CHALLENGE. UNLOCK_CHALLENGE executes (R473). -/
def execUnlockChallenge (m : Nat) (s : State) : Host.Outcome State Fault Refusal :=
  ofUnit (decide (m < 33)) ((s.unlockChallenge m).settleSteward)

/-- UNLOCK_RESPONSE_PASSWORD. UNLOCK_RESPONSE with method PASSWORD executes (R472). -/
def execUnlockResponsePassword (m : Nat) (s : State) : Host.Outcome State Fault Refusal :=
  ofUnit (decide (m < 33)) ((s.unlockPassword m).settleSteward)

/-- UNLOCK_RESPONSE_SIGNATURE. UNLOCK_RESPONSE with method SIGNATURE executes (R472). -/
def execUnlockResponseSignature (m : Nat) (s : State) : Host.Outcome State Fault Refusal :=
  ofUnit (decide (m < 33)) ((s.unlockSignature m).settleSteward)

/-- RELOCK. RELOCK executes (R476). -/
def execRelock (m : Nat) (s : State) : Host.Outcome State Fault Refusal :=
  ofUnit (decide (m < 33)) ((s.relockCmd m).settleSteward)

/-- ARM_TRIGGER_ARM. ARM_TRIGGER with ACTION ARM executes (R455). -/
def execArmTriggerArm (m : Nat) (s : State) : Host.Outcome State Fault Refusal :=
  ofUnit (decide (m < 33)) ((s.armTriggerArm m).settleSteward)

/-- ARM_TRIGGER_FORCE. ARM_TRIGGER with ACTION FORCE executes (R455). -/
def execArmTriggerForce (m : Nat) (s : State) : Host.Outcome State Fault Refusal :=
  ofUnit (decide (m < 33)) ((s.armTriggerForce m).settleSteward)

/-- ARM_TRIGGER_RESUME. ARM_TRIGGER with ACTION RESUME executes (R455). -/
def execArmTriggerResume (m : Nat) (s : State) : Host.Outcome State Fault Refusal :=
  ofUnit (decide (m < 33)) ((s.armTriggerResume m).settleSteward)

end Sys2Proof.Machine
end

