-- ==== Sys2Proof/Machine/ExecDroop.lean ====
section
/-! DEFINITION. Meanings of the droop rows (chapter 5). A row that names a unit which the hardware does not have
faults. -/

namespace Sys2Proof.Machine

/-- DROOP_DETECTION. One clock edge with a droop detector code (R162). -/
def execDroopDetection (c : Nat) (code : Nat) (s : State) : Host.Outcome State Fault Refusal :=
  ofUnit (s.hasCluster c) (if s.ps.porst then (s.edge c code).noteReasons else s)

/-- LADDER_TIMER_EXPIRY. Clock edges up to the ladder timer's end (R170). -/
def execLadderTimerExpiry (c : Nat) (code : Nat) (s : State) : Host.Outcome State Fault Refusal :=
  ofUnit (s.hasCluster c) (if s.ps.porst then State.edgesToDrop 33 s c code else s)

/-- LOCAL_STOP_EXPIRY. The local stop of grants ends (R174). -/
def execLocalStopExpiry (c : Nat) (s : State) : Host.Outcome State Fault Refusal :=
  ofUnit (s.hasCluster c) (if s.ps.porst then s.localStopEnds c else s)

/-- FAST_CALIBRATION_WINDOW. A calibration window ends with a mean code (R166). -/
def execFastCalibrationWindow (c : Nat) (m : Nat) (s : State) : Host.Outcome State Fault Refusal :=
  ofUnit (s.hasCluster c) (if s.ps.porst then (s.calWindow c m).noteReasons else s)

/-- MAINTENANCE_ROUND. A maintenance round ends with a mean code (R167). -/
def execMaintenanceRound (c : Nat) (m : Nat) (start : Nat) (s : State) : Host.Outcome State Fault Refusal :=
  ofUnit (s.hasCluster c) (if s.ps.porst then s.maintenance c m start else s)

/-- STUCK_DETECTOR. SEVERE has lasted for the stuck time (R182). -/
def execStuckDetector (c : Nat) (s : State) : Host.Outcome State Fault Refusal :=
  ofUnit (s.hasCluster c) (if s.ps.porst then (s.stuckDetector c).noteReasons else s)

/-- DETECTOR_REINSTATE. A stuck detector is reinstated (R182). -/
def execDetectorReinstate (c : Nat) (s : State) : Host.Outcome State Fault Refusal :=
  ofUnit (s.hasCluster c) (if s.ps.porst then (s.reinstate c).noteReasons else s)

/-- PROACTIVE_FORCE_END. The proactive force of a stripe ends (R177). -/
def execProactiveForceEnd (stripe : Nat) (s : State) : Host.Outcome State Fault Refusal :=
  ofUnit (decide (stripe < 16)) (if s.coreRuns then (s.proEnds stripe).noteReasons else s)

/-- SEVERE_REPORT. A SEVERE report reaches the droop engine (R174). -/
def execSevereReport (c : Nat) (s : State) : Host.Outcome State Fault Refusal :=
  ofUnit (s.hasCluster c) (if s.coreRuns then s.severeReport c else s)

/-- FREEZE_EXPIRY. A stripe's freeze ends (R174). -/
def execFreezeExpiry (stripe : Nat) (s : State) : Host.Outcome State Fault Refusal :=
  ofUnit (decide (stripe < 16)) (if s.coreRuns then s.freezeExpiry stripe else s)

/-- DIE_FORCE_RELEASE_STEP. A release step of a die force (R173). -/
def execDieForceReleaseStep (s : State) : Host.Outcome State Fault Refusal :=
  .next (if s.coreRuns then s.forceReleaseStep.noteReasons else s)

end Sys2Proof.Machine
end

