-- ==== Sys2Proof/Machine/ExecFabric.lean ====
section
/-! DEFINITION. Meanings of the Edvik rows (chapter 12). A row that names a unit which the hardware does not have
faults. -/

namespace Sys2Proof.Machine

/-- HELLO. A HELLO frame (R346). -/
def execHello (f : FrameHdr) (node : Nat) (_port : Nat) (s : State) : Host.Outcome State Fault Refusal := .next (s.onHello f node)

/-- HELLO_ACK. A HELLO_ACK frame (R346). -/
def execHelloAck (f : FrameHdr) (node : Nat) (_port : Nat) (s : State) : Host.Outcome State Fault Refusal :=
  .next (s.onHelloAck f node)

/-- ACK_FRAME. An ACK frame (R343). -/
def execAckFrame (f : FrameHdr) (seqs : List Nat) (s : State) : Host.Outcome State Fault Refusal := .next (s.onAck f seqs)

/-- PACE. A PACE frame (R351). -/
def execPace (f : FrameHdr) (group : Nat) (rate : Nat) (valid : Nat) (holder : Nat) (s : State) : Host.Outcome State Fault Refusal :=
  .next (s.onPace f group rate valid holder)

/-- EMERG. An EMERG frame (R356). -/
def execEmerg (f : FrameHdr) (scope : Nat) (rate : Nat) (group : Nat) (valid : Nat) (origin : Nat) (s : State) : Host.Outcome State Fault Refusal :=
  .next (s.onEmerg f scope rate group valid origin)

/-- REL_PREPARE. A REL_PREPARE frame (R357). -/
def execRelPrepare (f : FrameHdr) (id : Nat) (kind : Nat) (levels : Nat) (group : Nat) (newSet : Nat) (newRate : Nat)
    (valid : Nat) (s : State) : Host.Outcome State Fault Refusal :=
  .next (s.onPrepare f id kind levels group newSet newRate valid)

/-- REL_VOTE. A REL_VOTE frame (R357). -/
def execRelVote (f : FrameHdr) (id : Nat) (vote : Nat) (count : Nat) (s : State) : Host.Outcome State Fault Refusal :=
  .next (s.onVote f id vote count)

/-- REL_COMMIT. A REL_COMMIT frame (R358). -/
def execRelCommit (f : FrameHdr) (id : Nat) (t : Nat) (s : State) : Host.Outcome State Fault Refusal := .next (s.onCommit f id t)

/-- REL_ABORT. A REL_ABORT frame (R359). -/
def execRelAbort (f : FrameHdr) (id : Nat) (s : State) : Host.Outcome State Fault Refusal := .next (s.onAbort f id)

/-- FAB_RETRANSMIT. A frame is unacknowledged for its retry time (R343). -/
def execFabRetransmit (peer : Nat) (seq : Nat) (s : State) : Host.Outcome State Fault Refusal :=
  .next (if s.ps.porst then s.retransmit peer seq else s)

/-- DISCOVERY_PERIOD. A discovery period ends (R346). -/
def execDiscoveryPeriod (s : State) : Host.Outcome State Fault Refusal := .next (s.discovery)

/-- PEER_DEAD. A peer has been silent too long (R346). -/
def execPeerDead (node : Nat) (s : State) : Host.Outcome State Fault Refusal := .next (if s.ps.porst then s.peerDead node else s)

/-- PACE_REFRESH. A group's rate is refreshed (R354). -/
def execPaceRefresh (slot : Nat) (s : State) : Host.Outcome State Fault Refusal := .next (s.paceRefresh slot)

/-- LEVEL_WORD_EXPIRY. A level word expires (R350). -/
def execLevelWordExpiry (idx : Nat) (s : State) : Host.Outcome State Fault Refusal :=
  .next (if s.ps.porst then s.wordExpires idx else s)

/-- LEVEL_WORD_RESEND. A saturated level word is sent again (R352). -/
def execLevelWordResend (idx : Nat) (s : State) : Host.Outcome State Fault Refusal :=
  .next (if s.ps.porst then s.wordResend idx else s)

/-- VOTE_WAIT_END. A node's wait for votes ends (R357). -/
def execVoteWaitEnd (id : Nat) (s : State) : Host.Outcome State Fault Refusal := .next (s.voteWaitEnd id)

/-- ORIGINATOR_WAIT_END. The originator's wait ends (R359). -/
def execOriginatorWaitEnd (id : Nat) (s : State) : Host.Outcome State Fault Refusal := .next (s.originatorWaitEnd id)

/-- RELEASE_BUFFER_HOLD_EXPIRY. A release buffer's hold ends (R360). -/
def execReleaseBufferHoldExpiry (id : Nat) (s : State) : Host.Outcome State Fault Refusal := .next (s.bufExpires id)

/-- RELEASE_RETRY. A release is tried again (R359). -/
def execReleaseRetry (slot : Nat) (s : State) : Host.Outcome State Fault Refusal := .next (s.releaseRetry slot)

/-- EDVIK_FRAME_DISCARD. A datagram that is not taken: whether it ended with net_rx_err, and its bytes (R342). -/
def execEdvikFrameDiscard (err : Bool) (bytes : List Nat) (s : State) : Host.Outcome State Fault Refusal :=
  .next (s.discardFrame err bytes)

end Sys2Proof.Machine
end

