-- ==== Sys2Proof/Machine/ExecFirmware.lean ====
section
/-! DEFINITION. Meanings of the firmware, USER, access-timer and fault rows (chapters 14 and 16). A row that names a
unit which the hardware does not have faults. -/

namespace Sys2Proof.Machine

/-- FW_STAGE_HOST. FW_STAGE mode HOST executes (R422). -/
def execFwStageHost (m : Nat) (s : State) : Host.Outcome State Fault Refusal :=
  ofUnit (decide (m < 33)) ((s.fwStageHost m).settleSteward)

/-- FW_STAGE_BEGIN. FW_STAGE mode BEGIN executes (R422). -/
def execFwStageBegin (m : Nat) (s : State) : Host.Outcome State Fault Refusal :=
  ofUnit (decide (m < 33)) ((s.fwStageBegin m).settleSteward)

/-- FW_STAGE_CHUNK. FW_STAGE mode CHUNK executes (R422). -/
def execFwStageChunk (m : Nat) (s : State) : Host.Outcome State Fault Refusal :=
  ofUnit (decide (m < 33)) ((s.fwStageChunk m).settleSteward)

/-- FW_STAGE_END. FW_STAGE mode END executes (R422). -/
def execFwStageEnd (m : Nat) (s : State) : Host.Outcome State Fault Refusal :=
  ofUnit (decide (m < 33)) ((s.fwStageEnd m).settleSteward)

/-- FW_STAGE_CANCEL. FW_STAGE mode CANCEL executes (R422). -/
def execFwStageCancel (m : Nat) (s : State) : Host.Outcome State Fault Refusal :=
  ofUnit (decide (m < 33)) ((s.fwStageCancel m).settleSteward)

/-- FW_ACTIVATE. FW_ACTIVATE executes (R423). -/
def execFwActivate (m : Nat) (s : State) : Host.Outcome State Fault Refusal :=
  ofUnit (decide (m < 33)) ((s.fwActivate m).settleSteward)

/-- FW_STATUS. FW_STATUS executes (R426). -/
def execFwStatus (m : Nat) (s : State) : Host.Outcome State Fault Refusal :=
  ofUnit (decide (m < 33)) ((s.fwStatus m).settleSteward)

/-- FW_STAGE_READBACK. Slot B is read back; none: the flash failed (R422). -/
def execFwStageReadback (img : Option ImageIn) (s : State) : Host.Outcome State Fault Refusal := .next (s.readback img)

/-- ACTIVATION_START. A deferred activation starts (R424). -/
def execActivationStart (s : State) : Host.Outcome State Fault Refusal := .next (s.activationStart)

/-- ACTIVATION_TIMEOUT. 60 s pass without the activation (R423). -/
def execActivationTimeout (s : State) : Host.Outcome State Fault Refusal := .next (s.activationTimeout)

/-- ACTIVATION_COMPLETE. The ROMs have judged slot B and the firmware runs again (R424). -/
def execActivationComplete (img : ImageIn) (followersOk : Bool) (s : State) : Host.Outcome State Fault Refusal :=
  .next (s.activationComplete img followersOk)

/-- SLOT_REPAIR_DONE. The repair of slot A is verified (R424). -/
def execSlotRepairDone (s : State) : Host.Outcome State Fault Refusal := .next (s.repairDone)

/-- COMPARTMENT_FAULT. A compartment faults (R419). -/
def execCompartmentFault (comp : Nat) (s : State) : Host.Outcome State Fault Refusal :=
  ofUnit (decide (comp < 8)) (s.compFault comp)

/-- CORE_NO_PROGRESS. A steward core makes no progress for 10 ms (R419). -/
def execCoreNoProgress (core : Nat) (s : State) : Host.Outcome State Fault Refusal := ofUnit (decide (core < 2)) (s.coreStuck)

/-- USER_READ. USER call read (R420). -/
def execUserRead (off : Nat) (s : State) : Host.Outcome State Fault Refusal := .next (s.userRead off)

/-- USER_CAP_STAGE. USER call cap_stage (R420). -/
def execUserCapStage (cap : UserCap) (s : State) : Host.Outcome State Fault Refusal := .next (s.userStage cap)

/-- USER_CAP_COMMIT. USER call cap_commit (R420). -/
def execUserCapCommit (s : State) : Host.Outcome State Fault Refusal := .next (s.userCommit)

/-- USER_DOORBELL. USER call doorbell: outbound bits to set, inbound bits to clear (R420). -/
def execUserDoorbell (set : Nat) (clear : Nat) (s : State) : Host.Outcome State Fault Refusal := .next (s.userDoorbell set clear)

/-- USER_TIMER_SET. USER call timer: the period in µs, 0 stops it (R420). -/
def execUserTimerSet (us : Nat) (s : State) : Host.Outcome State Fault Refusal := .next (s.userTimer us)

/-- USER_TIMER_WAKE. The USER timer expires (R420). -/
def execUserTimerWake (s : State) : Host.Outcome State Fault Refusal := .next (s.userWake)

/-- USER_LOG. USER call log (R420). -/
def execUserLog (level : Nat) (code : Nat) (arg : Nat) (s : State) : Host.Outcome State Fault Refusal :=
  .next (s.userLog level code arg)

/-- ACCESS_TIMER_EXPIRY. ACC_TIMER reaches 0 (R476). -/
def execAccessTimerExpiry (s : State) : Host.Outcome State Fault Refusal := .next (s.accessExpires)

/-- NONCE_LAPSE. The nonce lapses (R473). -/
def execNonceLapse (s : State) : Host.Outcome State Fault Refusal := .next (s.nonceLapse)

/-- UNLOCK_BACKOFF_END. The unlock backoff ends (R474). -/
def execUnlockBackoffEnd (s : State) : Host.Outcome State Fault Refusal := .next (s.backoffEnds)

/-- FAULT_RAISE. A raise reaches the fault hub (R460). -/
def execFaultRaise (i : Nat) (syn : Nat) (s : State) : Host.Outcome State Fault Refusal :=
  ofUnit (decide (i < 256)) (s.faultRaise i syn)

/-- RST_STORM_END. The block resets in the window are below the limit again (R466). -/
def execRstStormEnd (s : State) : Host.Outcome State Fault Refusal := .next (s.stormEnd)

end Sys2Proof.Machine
end

