-- ==== Sys2Proof/Machine/ExecLimiter.lean ====
section
/-! DEFINITION. Meanings of the budget, limit and operating-point rows (chapter 9). A row that names a unit which
the hardware does not have faults. -/

namespace Sys2Proof.Machine

/-- LIMITER_OPERAND_CHANGE. An operand of the limiter has changed (R258). -/
def execLimiterOperandChange (s : State) : Host.Outcome State Fault Refusal :=
  .next (if s.coreRuns then s.operandChange.noteRate else s)

/-- OPP_STEP_START. The limiter starts a step (R265). -/
def execOppStepStart (s : State) : Host.Outcome State Fault Refusal := .next (if s.coreRuns then s.stepStart.noteReasons else s)

/-- OPP_FREQ_HANDSHAKE_START. opp_freq_req rises (R268). -/
def execOppFreqHandshakeStart (s : State) : Host.Outcome State Fault Refusal := .next (if s.coreRuns then s.handshakeStart else s)

/-- OPP_FREQ_ACK. opp_freq_ack rises (R268). -/
def execOppFreqAck (s : State) : Host.Outcome State Fault Refusal := .next (if s.ps.porst then s.freqAck.noteReasons else s)

/-- OPP_FREQ_ACK_FALL. opp_freq_ack falls (R268). -/
def execOppFreqAckFall (s : State) : Host.Outcome State Fault Refusal := .next (if s.ps.porst then s.freqAckFall else s)

/-- OPP_FREQ_TIMEOUT. opp_freq_req has been unanswered too long (R268). -/
def execOppFreqTimeout (s : State) : Host.Outcome State Fault Refusal := .next (if s.ps.porst then s.freqTimeout else s)

/-- WINDOW_SLOT_BOUNDARY. A slot boundary of an energy window (R261). -/
def execWindowSlotBoundary (n : Nat) (s : State) : Host.Outcome State Fault Refusal :=
  ofUnit (decide (n < 4)) (if s.coreRuns then s.windowBoundary n else s)

/-- WINDOW_DECISION_APPLY. A window decision is applied (R262). -/
def execWindowDecisionApply (n : Nat) (s : State) : Host.Outcome State Fault Refusal :=
  ofUnit (decide (n < 4)) (if s.coreRuns then s.windowApply n else s)

/-- WINDOW_AUTONOMOUS. An autonomous die decides alone (R263). -/
def execWindowAutonomous (n : Nat) (s : State) : Host.Outcome State Fault Refusal :=
  ofUnit (decide (n < 4)) (if s.coreRuns then s.windowAlone n else s)

/-- FAST_LIMIT_LATCH. FAST_LIMIT_N low is latched (R270). -/
def execFastLimitLatch (s : State) : Host.Outcome State Fault Refusal := .next (s.pinFalls)

/-- FAST_LIMIT_RELEASE. FAST_LIMIT_N returns high (R271). -/
def execFastLimitRelease (s : State) : Host.Outcome State Fault Refusal := .next (s.pinRises)

/-- EMERGENCY_HOLD_EXPIRY. The emergency hold ends (R271). -/
def execEmergencyHoldExpiry (s : State) : Host.Outcome State Fault Refusal :=
  .next (if s.ps.porst then s.emergencyOver.noteRate else if s.ps.vaon then s.emergencyOver else s)

/-- SUPPLY_HOLD_EXPIRY. A hold of the supply cap ends (R272). -/
def execSupplyHoldExpiry (s : State) : Host.Outcome State Fault Refusal := .next (if s.coreRuns then s.supplyOver.noteRate else s)

end Sys2Proof.Machine
end

