-- ==== Sys2Proof/Machine/ExecLink.lean ====
section
/-! DEFINITION. Meanings of the Hedgerow and Skylark rows (chapters 11 and 12). A row that names a unit which the
hardware does not have faults. -/

namespace Sys2Proof.Machine

/-- LINK_FLIT. A LINK flit (R322). -/
def execLinkFlit (h : FlitHdr) (s : State) : Host.Outcome State Fault Refusal :=
  ofUnit (decide (h.src < 8)) (((s.receive h true (fun u => u)).settleWatch).settleReady s.ready)

/-- HEARTBEAT_FLIT. A HEARTBEAT flit (R332). -/
def execHeartbeatFlit (h : FlitHdr) (pstate : Nat) (stopped : Bool) (autonomous : Bool) (s : State) : Host.Outcome State Fault Refusal :=
  ofUnit (decide (h.src < 8)) (((s.receive h false (fun u => u.onHeartbeat h.src pstate stopped autonomous)).settleWatch).settleReady s.ready)

/-- STRAP_FLIT. A STRAP flit (R29). -/
def execStrapFlit (h : FlitHdr) (dieId : Nat) (leader : Bool) (s : State) : Host.Outcome State Fault Refusal :=
  ofUnit (decide (h.src < 8)) (((s.receiveStrap h (fun u => u.onStrap h.src dieId leader)).settleWatch).settleReady s.ready)

/-- STAGE_FLIT. A STAGE flit (R328). -/
def execStageFlit (h : FlitHdr) (off : Nat) (value : Nat) (s : State) : Host.Outcome State Fault Refusal :=
  ofUnit (decide (h.src < 8)) ((s.fromLeader h (fun u => u.onStage off value)).settleReady s.ready)

/-- PREPARE_FLIT. A PREPARE flit (R328). -/
def execPrepareFlit (h : FlitHdr) (id : Nat) (kind : Nat) (count : Nat) (crc : Nat) (s : State) : Host.Outcome State Fault Refusal :=
  ofUnit (decide (h.src < 8)) ((s.fromLeader h (fun u => u.onPrepareFlit id kind count crc)).settleReady s.ready)

/-- PREPARE_ACK_FLIT. A PREPARE_ACK flit (R328). -/
def execPrepareAckFlit (h : FlitHdr) (id : Nat) (nack : Bool) (regions : Nat) (s : State) : Host.Outcome State Fault Refusal :=
  ofUnit (decide (h.src < 8)) ((s.toLeader h (fun u => u.acknowledged h.src id nack regions)).settleReady s.ready)

/-- COMMIT_FLIT. A COMMIT flit (R328). -/
def execCommitFlit (h : FlitHdr) (t : Nat) (s : State) : Host.Outcome State Fault Refusal :=
  ofUnit (decide (h.src < 8)) ((s.fromLeader h (fun u => u.onCommitFlit t)).settleReady s.ready)

/-- ABORT_FLIT. An ABORT flit (R329). -/
def execAbortFlit (h : FlitHdr) (id : Nat) (s : State) : Host.Outcome State Fault Refusal :=
  ofUnit (decide (h.src < 8)) ((s.fromLeader h (fun u => u.onAbortFlit id)).settleReady s.ready)

/-- CMD_FLIT. A forwarded command (R336). -/
def execCmdFlit (h : FlitHdr) (c : FwdCmd) (s : State) : Host.Outcome State Fault Refusal :=
  ofUnit (decide (h.src < 8)) ((s.fromLeader h (fun u => u.onCmd h.tag c)).settleReady s.ready)

/-- CMD_DONE_FLIT. The end of a forwarded command (R336). -/
def execCmdDoneFlit (h : FlitHdr) (tag : Nat) (status : Nat) (result : List Nat) (s : State) : Host.Outcome State Fault Refusal :=
  ofUnit (decide (h.src < 8)) ((s.toLeader h (fun u => u.fwdEnd tag status result)).settleReady s.ready)

/-- EVENT_FLIT. An EVENT flit (R337). -/
def execEventFlit (h : FlitHdr) (ev : DieEvent) (s : State) : Host.Outcome State Fault Refusal :=
  ofUnit (decide (h.src < 8)) ((s.toLeader h (fun u => u.onEvent h.src ev)).settleReady s.ready)

/-- ENERGY_FLIT. An ENERGY flit (R240). -/
def execEnergyFlit (h : FlitHdr) (uw : Nat) (s : State) : Host.Outcome State Fault Refusal :=
  ofUnit (decide (h.src < 8)) ((s.toLeader h (fun u => (u.bookDie h.src uw).bankLate energyOff)).settleReady s.ready)

/-- THERMAL_FLIT. A THERMAL flit (R300). -/
def execThermalFlit (h : FlitHdr) (tDie : Int) (tMem : Int) (s : State) : Host.Outcome State Fault Refusal :=
  ofUnit (decide (h.src < 8)) ((s.toLeader h (fun u => u.dieReport h.src tDie tMem)).settleReady s.ready)

/-- LEVEL_FLIT. A LEVEL flit (R352). -/
def execLevelFlit (h : FlitHdr) (idx : Nat) (value : Nat) (s : State) : Host.Outcome State Fault Refusal :=
  ofUnit (decide (h.src < 8)) ((s.fromLeader h (fun u => u.takeLevel idx value)).settleReady s.ready)

/-- DATA_FLIT. A DATA flit (R321). -/
def execDataFlit (h : FlitHdr) (d : Bulk) (s : State) : Host.Outcome State Fault Refusal :=
  ofUnit (decide (h.src < 8)) (((s.onData h d).settleWatch).settleReady s.ready)

/-- HDG_RETRY_TIMEOUT. RETRY passes toward an instance (R323). -/
def execHdgRetryTimeout (d : Nat) (s : State) : Host.Outcome State Fault Refusal :=
  ofUnit (decide (d < 8)) ((if s.ps.porst then (s.retryTimeout d).settleWatch else s).settleReady s.ready)

/-- HEARTBEAT_SEND. A heartbeat period begins (R332). -/
def execHeartbeatSend (s : State) : Host.Outcome State Fault Refusal := .next (s.heartbeatSend)

/-- HEARTBEAT_MISS. A heartbeat of an instance is missed (R332). -/
def execHeartbeatMiss (d : Nat) (s : State) : Host.Outcome State Fault Refusal :=
  ofUnit (decide (d < 8)) (((s.heartbeatMiss d).settleWatch).settleReady s.ready)

/-- HDG_WAKE_IN. hdg_wake_in rises (R82). -/
def execHdgWakeIn (s : State) : Host.Outcome State Fault Refusal := .next (s.hdgWake)

/-- HDG_AWAKE_IN. An instance's hdg_awake_in rises (R82). -/
def execHdgAwakeIn (d : Nat) (s : State) : Host.Outcome State Fault Refusal := ofUnit (decide (d < 8)) (s.awakeIn d)

/-- HDG_WAKE_TIMEOUT. A wake request is unanswered for 1 µs (R332). -/
def execHdgWakeTimeout (d : Nat) (s : State) : Host.Outcome State Fault Refusal :=
  ofUnit (decide (d < 8)) (((s.wakeTimeout d).settleWatch).settleReady s.ready)

/-- HDG_FLIT_DISCARD. The 16 bytes of a flit that is not taken: a bad CRC, a gap, an unused type, an older epoch (R321,
R322, R325). -/
def execHdgFlitDiscard (src : Nat) (bytes : List Nat) (s : State) : Host.Outcome State Fault Refusal :=
  ofUnit (decide (src < 8)) (s.flitDiscard src bytes)

/-- PREPARE_TIMEOUT. 5 µs after PREPARE (R329). -/
def execPrepareTimeout (s : State) : Host.Outcome State Fault Refusal :=
  .next (if s.ps.porst then s.prepareTimeout.settleWatch else s)

/-- COMMIT_ORPHAN. 20 µs after PREPARE without COMMIT or ABORT (R330). -/
def execCommitOrphan (s : State) : Host.Outcome State Fault Refusal := .next (if s.ps.porst then s.commitOrphan else s)

/-- CMD_DONE_TIMEOUT. A forwarded command is unanswered for 100 µs (R336). -/
def execCmdDoneTimeout (tag : Nat) (s : State) : Host.Outcome State Fault Refusal :=
  .next (if s.ps.porst then s.cmdDoneTimeout tag else s)

/-- COMMIT_START. The next queued commit starts (R331). -/
def execCommitStart (s : State) : Host.Outcome State Fault Refusal := .next (s.commitStart)

/-- COMMIT_APPLY. T of the prepared set comes (R328). -/
def execCommitApply (s : State) : Host.Outcome State Fault Refusal :=
  .next (if s.ps.porst then s.commitApply.settleSteward else s)

/-- CATCH_UP_TIMEOUT. The OFF to IDLE bound passes without a catch-up (R335). -/
def execCatchUpTimeout (d : Nat) (s : State) : Host.Outcome State Fault Refusal :=
  ofUnit (decide (d < 8)) ((if s.ps.porst then (s.catchUpTimeout d).settleWatch else s).settleReady s.ready)

/-- TP_PULSE. A time pulse: the value of the network interface where tp_vld is high, and the sixteenths of a ns its
capture lies past the counter's whole ns (R364). -/
def execTpPulse (value : Option Nat) (sub : Nat) (s : State) : Host.Outcome State Fault Refusal := .next (s.tpPulse value sub)

/-- PULSE_MISSING. An expected time pulse has not come (R366). -/
def execPulseMissing (s : State) : Host.Outcome State Fault Refusal := .next (s.pulseMissing)

/-- SKYLARK_HOLDOVER. Holdover reaches its limit (R365). -/
def execSkylarkHoldover (s : State) : Host.Outcome State Fault Refusal := .next (s.skylarkHoldover)

/-- RESYNC_APPLY. An announced time step is applied (R366). -/
def execResyncApply (s : State) : Host.Outcome State Fault Refusal := .next (if s.ps.porst then s.resyncApply else s)

end Sys2Proof.Machine
end

