-- ==== Sys2Proof/Machine/ExecPort.lean ====
section
/-! DEFINITION. Meanings of the register-port rows: each is an access of chapter 2 with the value the row names. A
row that names a unit which the hardware does not have faults. -/

namespace Sys2Proof.Machine

/-- BLOCK_RESET_WRITE. A write of HEATH_RESET_CTRL (R106). -/
def execBlockResetWrite (data : Nat) (who : Who) (s : State) : Host.Outcome State Fault Refusal :=
  .next (s.portWrite HEATH_RESET_CTRL (data ||| 1) who)

/-- REGISTER_WRITE. A register write (R55). -/
def execRegisterWrite (off : Nat) (data : Nat) (who : Who) (s : State) : Host.Outcome State Fault Refusal :=
  .next (s.portWrite off data who)

/-- LOW_WORD_READ. A read of a low word (R252). -/
def execLowWordRead (off : Nat) (who : Who) (s : State) : Host.Outcome State Fault Refusal :=
  .next (s.portRead off who)

/-- MB_IN_W1H_WRITE. A write of word W1H of an inbound slot (R375). -/
def execMbInW1hWrite (m : Nat) (data : Nat) (who : Who) (s : State) : Host.Outcome State Fault Refusal :=
  ofUnit (decide (m < 32)) (s.portWrite (MB_IN_W1H m) data who)

/-- MB_OUT_FULL_CLEAR. A write of MB_OUT_FULL (R377). -/
def execMbOutFullClear (data : Nat) (who : Who) (s : State) : Host.Outcome State Fault Refusal :=
  .next (s.portWrite MB_OUT_FULL data who)

/-- MB_DB_IN_WRITE. A write of MB_DB_IN (R380). -/
def execMbDbInWrite (data : Nat) (who : Who) (s : State) : Host.Outcome State Fault Refusal :=
  .next (s.portWrite MB_DB_IN data who)

/-- MB_DB_OUT_CLEAR. A write of MB_DB_OUT (R380). -/
def execMbDbOutClear (data : Nat) (who : Who) (s : State) : Host.Outcome State Fault Refusal :=
  .next (s.portWrite MB_DB_OUT data who)

/-- CMD_MB_CTX_WRITE. A write of CMD_MB_CTX (R391). -/
def execCmdMbCtxWrite (m : Nat) (data : Nat) (who : Who) (s : State) : Host.Outcome State Fault Refusal :=
  ofUnit (decide (m < 32)) (s.portWrite (CMD_MB_CTX m) data who)

/-- RAIL_CAP_ARM. A write of a capture control register with ARM (R226). -/
def execRailCapArm (rail : Nat) (data : Nat) (who : Who) (s : State) : Host.Outcome State Fault Refusal :=
  ofUnit (decide (rail < 4)) (s.portWrite (RAIL_CAP_CTRL rail) (data ||| 1) who)

/-- RAIL_CAP_STOP. A write of a capture control register with STOP (R227). -/
def execRailCapStop (rail : Nat) (data : Nat) (who : Who) (s : State) : Host.Outcome State Fault Refusal :=
  ofUnit (decide (rail < 4)) (s.portWrite (RAIL_CAP_CTRL rail) (data ||| 2) who)

/-- RING_CTRL_ARM. A write of RING_CTRL with ARM (R441). -/
def execRingCtrlArm (data : Nat) (who : Who) (s : State) : Host.Outcome State Fault Refusal :=
  .next (s.portWrite RING_CTRL (data ||| 1) who)

/-- RING_CTRL_FORCE. A write of RING_CTRL with FORCE (R441). -/
def execRingCtrlForce (data : Nat) (who : Who) (s : State) : Host.Outcome State Fault Refusal :=
  .next (s.portWrite RING_CTRL (data ||| 2) who)

/-- RING_CTRL_RESUME. A write of RING_CTRL with RESUME (R443). -/
def execRingCtrlResume (data : Nat) (who : Who) (s : State) : Host.Outcome State Fault Refusal :=
  .next (s.portWrite RING_CTRL (data ||| 4) who)

/-- RING_LEN_WRITE. A write of RING_LEN or RING_SAMP (R438). -/
def execRingLenWrite (off : Nat) (data : Nat) (who : Who) (s : State) : Host.Outcome State Fault Refusal :=
  ofUnit (off == RING_LEN || off == RING_SAMP) (s.portWrite off data who)

/-- TIME_RESYNC. A write of TIME_CTRL (R366). -/
def execTimeResync (data : Nat) (who : Who) (s : State) : Host.Outcome State Fault Refusal :=
  .next (s.portWrite TIME_CTRL (data ||| 0x80000000) who)

/-- FH_SRC_FORCE. A write of FH_SRC with FORCE (R468). -/
def execFhSrcForce (i : Nat) (data : Nat) (who : Who) (s : State) : Host.Outcome State Fault Refusal :=
  ofUnit (decide (i < 256)) (s.portWrite (FH_SRC i) (data ||| 0x10000) who)

/-- FH_PEND_CLEAR. A write of FH_PEND (R464). -/
def execFhPendClear (j : Nat) (data : Nat) (who : Who) (s : State) : Host.Outcome State Fault Refusal :=
  ofUnit (decide (j < 8)) (s.portWrite (FH_PEND j) data who)

/-- FH_FIRST_CLEAR. A write of FH_FIRST (R463). -/
def execFhFirstClear (data : Nat) (who : Who) (s : State) : Host.Outcome State Fault Refusal :=
  .next (s.portWrite FH_FIRST (data ||| 0x80000000) who)

/-- PH_FAULT_READMIT. A write of a phase exclusion register (R189). -/
def execPhFaultReadmit (rail : Nat) (hi : Bool) (data : Nat) (who : Who) (s : State) : Host.Outcome State Fault Refusal :=
  ofUnit (decide (rail < 4)) (s.portWrite (if hi then RAIL_PH_FAULT_HI rail else RAIL_PH_FAULT rail) data who)

/-- SITE_SUSPECT_CLEAR. A write of SITE_STATUS (R281). -/
def execSiteSuspectClear (site : Nat) (data : Nat) (who : Who) (s : State) : Host.Outcome State Fault Refusal :=
  ofUnit (decide (site < 96)) (s.portWrite (SITE_STATUS site) (data ||| 2) who)

/-- BUD_SLOW_CLEAR. A write of BUD_SLOW (R273). -/
def execBudSlowClear (data : Nat) (who : Who) (s : State) : Host.Outcome State Fault Refusal :=
  .next (s.portWrite BUD_SLOW (data ||| 0x8000) who)

/-- FW_LOAD_GO. A write of HEATH_FW_LOAD_CTRL (R417). -/
def execFwLoadGo (data : Nat) (who : Who) (s : State) : Host.Outcome State Fault Refusal :=
  .next (s.portWrite HEATH_FW_LOAD_CTRL (data ||| 0x80000000) who)

/-- ACC_CTRL_RELOCK. A write of ACC_CTRL (R476). -/
def execAccCtrlRelock (data : Nat) (who : Who) (s : State) : Host.Outcome State Fault Refusal :=
  .next (s.portWrite ACC_CTRL (data ||| 1) who)

end Sys2Proof.Machine
end

