-- ==== Sys2Proof/Machine/ExecPower.lean ====
section
/-! DEFINITION. Meanings of the power, reset and start-up rows (chapters 1 to 3). A row that names a unit which the
hardware does not have faults. -/

namespace Sys2Proof.Machine

/-- VAON_POR_RELEASE. VAON rises above its POR threshold (R101). -/
def execVaonPorRelease (s : State) : Host.Outcome State Fault Refusal := .next (s.vaonRelease)

/-- HEATH_POR. VAON falls below its POR threshold (R103). -/
def execHeathPor (s : State) : Host.Outcome State Fault Refusal := .next (s.heathPor)

/-- PORST_N_ASSERT. PORST_N falls (R110). -/
def execPorstNAssert (s : State) : Host.Outcome State Fault Refusal := .next (s.porstLow)

/-- PORST_N_DEASSERT. PORST_N rises with the straps as told (R28, R111). -/
def execPorstNDeassert (leaderSel : Bool) (dieId : Nat) (s : State) : Host.Outcome State Fault Refusal :=
  ofUnit (decide (dieId < 8)) (s.porstDeassert leaderSel dieId)

/-- PLL_LOCK. The PLL locks (R111). -/
def execPllLock (s : State) : Host.Outcome State Fault Refusal := .next (s.lockPll)

/-- STRAP_EXCHANGE_CLOSE. The strap exchange closes (R29). -/
def execStrapExchangeClose (s : State) : Host.Outcome State Fault Refusal := .next (s.strapClose)

/-- SFDP_DISCOVERY. Flash discovery ends: the flash's size in bytes, none where no flash answers (R98, R417). -/
def execSfdpDiscovery (density : Option Nat) (s : State) : Host.Outcome State Fault Refusal := .next (s.sfdp density)

/-- FLASH_ABSENT_TIMEOUT. 10 s without an image (R112). -/
def execFlashAbsentTimeout (s : State) : Host.Outcome State Fault Refusal := .next (s.flashAbsent)

/-- SLOT_VERIFY. The ROM has read and judges the slot it tries, or the host-loaded image (R414). -/
def execSlotVerify (img : ImageIn) (s : State) : Host.Outcome State Fault Refusal := .next (s.slotVerify img)

/-- FOLLOWER_IMAGE_VERIFY. A follower has verified its copy (R415). -/
def execFollowerImageVerify (img : ImageIn) (s : State) : Host.Outcome State Fault Refusal := .next (s.followerVerify img)

/-- IMAGE_START. Every die has verified the image (R416). -/
def execImageStart (s : State) : Host.Outcome State Fault Refusal := .next (s.imageStart)

/-- VIN_SETTLE_TIMEOUT. VIN_IVR has not settled in 200 µs (R214). -/
def execVinSettleTimeout (s : State) : Host.Outcome State Fault Refusal := .next (if s.ps.porst then s.vinTimeout else s)

/-- RAIL_IN_REGULATION. A soft-starting rail is in regulation (R209). -/
def execRailInRegulation (rail : Nat) (s : State) : Host.Outcome State Fault Refusal :=
  ofUnit (decide (rail < 4)) (if s.ps.porst then (s.inRegulation rail).settleReady s.ready else s)

/-- SOFTSTART_TIMEOUT. A soft-start bound passes (R209). -/
def execSoftstartTimeout (rail : Nat) (s : State) : Host.Outcome State Fault Refusal :=
  ofUnit (decide (rail < 4)) (if s.ps.porst then s.softTimeout rail else s)

/-- BLOCK_RESET_COMPLETE. The block reset completes (R106). -/
def execBlockResetComplete (s : State) : Host.Outcome State Fault Refusal := .next (s.resetEnds)

/-- STEWARD_DIGEST_CHECK. The ROM has hashed the retained SRAM (R106). -/
def execStewardDigestCheck (digest : Nat) (s : State) : Host.Outcome State Fault Refusal :=
  .next (if s.ps.porst then (s.digestCheck digest).settleSteward else s)

/-- PS_REQUEST. ps_req_vld rises with ps_req (R89). -/
def execPsRequest (req : Nat) (s : State) : Host.Outcome State Fault Refusal :=
  ofUnit (decide (req < 4)) (if s.ps.porst then s.psRequest req else s)

/-- PS_TRANSITION_DONE. The leg under way is complete (R89). -/
def execPsTransitionDone (s : State) : Host.Outcome State Fault Refusal := .next (if s.ps.porst then s.transitionDone else s)

/-- PS_REQ_RELEASE. ps_req_vld falls (R89). -/
def execPsReqRelease (s : State) : Host.Outcome State Fault Refusal := .next (if s.ps.porst then s.psRelease else s)

/-- HALF_OFF_REQUEST. half_off_req rises (R90). -/
def execHalfOffRequest (half : Nat) (s : State) : Host.Outcome State Fault Refusal :=
  ofUnit (decide (half < 2)) (s.halfOffPin half)

/-- HALF_RESTART. half_off_req falls (R90). -/
def execHalfRestart (half : Nat) (s : State) : Host.Outcome State Fault Refusal := ofUnit (decide (half < 2)) (s.halfOnPin half)

/-- HALF_OFF_ACK_RELEASE. Every agent of the half runs again (R90). -/
def execHalfOffAckRelease (half : Nat) (s : State) : Host.Outcome State Fault Refusal :=
  ofUnit (decide (half < 2)) (if s.ps.porst then s.halfAckFalls half else s)

/-- HEATH_WAKE_EVENT. A wake event is latched: a bit of HEATH_WAKE_CAUSE (R14). -/
def execHeathWakeEvent (cause : Nat) (s : State) : Host.Outcome State Fault Refusal :=
  ofUnit (decide (cause < 8)) (if s.ps.porst then s.wake cause (cause == 0 || cause == 4 || cause == 5) else s)

/-- LINGER_EXPIRY. LINGER of the block core domain (0) or the steward domain (1) ends (R19). -/
def execLingerExpiry (dom : Nat) (s : State) : Host.Outcome State Fault Refusal :=
  ofUnit (decide (dom < 2)) (if s.ps.porst then s.linger dom else s)

/-- ORDERED_SHUTDOWN_START. The first rail of an ordered shutdown goes down (R210). -/
def execOrderedShutdownStart (s : State) : Host.Outcome State Fault Refusal := .next (s.shutStart)

/-- RAIL_SHUTDOWN_DONE. A rail of an ordered shutdown is at 300 mV (R210). -/
def execRailShutdownDone (rail : Nat) (s : State) : Host.Outcome State Fault Refusal :=
  ofUnit (decide (rail < 4)) (s.shutRailDone rail)

/-- NEXT_RAIL_SHUTDOWN. The next rail of an ordered shutdown goes down (R210). -/
def execNextRailShutdown (s : State) : Host.Outcome State Fault Refusal := .next (s.shutContinue)

end Sys2Proof.Machine
end

