-- ==== Sys2Proof/Machine/ExecRail.lean ====
section
/-! DEFINITION. Meanings of the rail-control and loop-tuning rows (chapters 6 and 7). A row that names a unit which
the hardware does not have faults. -/

namespace Sys2Proof.Machine

/-- CONTROL_SAMPLE. A switching period of a rail keeper (R199). -/
def execControlSample (rail : Nat) (inp : SampleIn) (s : State) : Host.Outcome State Fault Refusal :=
  ofUnit (decide (rail < 4)) (s.controlSample rail inp)

/-- HOLD_EXPIRY. An open-loop hold reaches its limit (R206). -/
def execHoldExpiry (rail : Nat) (s : State) : Host.Outcome State Fault Refusal :=
  ofUnit (decide (rail < 4)) (if s.dpwmRuns then (s.holdOver rail).noteReasons else s)

/-- PHASE_SHED. A rail sheds phases (R188). -/
def execPhaseShed (rail : Nat) (s : State) : Host.Outcome State Fault Refusal :=
  ofUnit (decide (rail < 4)) (if s.dpwmRuns then (s.phaseShed rail).noteReasons else s)

/-- DPWM_RECALIBRATION. A DPWM recalibration: the taps of each delay line (R306). -/
def execDpwmRecalibration (lines taps : List Nat) (s : State) : Host.Outcome State Fault Refusal :=
  .next (s.dpwmCal (lines.zip taps))

/-- AVS_VIN_POLL. A VIN_IVR poll and its answer (R214). -/
def execAvsVinPoll (a : AvsIn) (s : State) : Host.Outcome State Fault Refusal := .next (if s.ps.porst then (s.avsPoll a).settleReady s.ready else s)

/-- VIN_STALE. The VIN_IVR reading becomes stale (R215). -/
def execVinStale (s : State) : Host.Outcome State Fault Refusal := .next (if s.ps.porst then s.vinStale else s)

/-- AVS_STATUS_READ. A status read and its answer (R214). -/
def execAvsStatusRead (a : AvsIn) (s : State) : Host.Outcome State Fault Refusal :=
  .next (if s.ps.porst then s.avsStatus a else s)

/-- AVS_RETRY. A failed AVSBus transaction is tried again (R215). -/
def execAvsRetry (a : AvsIn) (s : State) : Host.Outcome State Fault Refusal := .next (if s.ps.porst then (s.avsAgain a).settleReady s.ready else s)

/-- INJECTION_TIMEOUT. An injection passes its longest time (R223). -/
def execInjectionTimeout (rail : Nat) (s : State) : Host.Outcome State Fault Refusal :=
  ofUnit (decide (rail < 4)) (if s.dpwmRuns then s.injTimeout rail else s)

/-- CAPTURE_FREEZE. A capture freezes (R226). -/
def execCaptureFreeze (rail : Nat) (s : State) : Host.Outcome State Fault Refusal :=
  ofUnit (decide (rail < 4)) (if s.dpwmRuns then s.capFull rail else s)

end Sys2Proof.Machine
end

