-- ==== Sys2Proof/Machine/ExecThermal.lean ====
section
/-! DEFINITION. Meanings of the estimation, thermal and observation rows (chapters 8, 10 and 15). A row that names a
unit which the hardware does not have faults. -/

namespace Sys2Proof.Machine

/-- ESTIMATOR_INTERVAL. An estimator interval (R233). -/
def execEstimatorInterval (s : State) : Host.Outcome State Fault Refusal := .next (if s.coreRuns then s.estimate else s)

/-- CALIBRATION_MILLISECOND. A calibration millisecond ends (R241). -/
def execCalibrationMillisecond (s : State) : Host.Outcome State Fault Refusal := .next (if s.coreRuns then s.calibration else s)

/-- THERMAL_ROUND. A sampling round with what the sites converted (R285). -/
def execThermalRound (sites : List SiteIn) (s : State) : Host.Outcome State Fault Refusal := .next (s.thermalRound sites)

/-- GRACE_DEADLINE. The grace deadline passes (R292). -/
def execGraceDeadline (s : State) : Host.Outcome State Fault Refusal := .next (if s.ps.porst then s.graceDeadline else s)

/-- PREDICTION_UPDATE. A model update and prediction (R299). -/
def execPredictionUpdate (s : State) : Host.Outcome State Fault Refusal := .next (s.predict)

/-- ANALOG_TRIP. A site_trip line rises (R290). -/
def execAnalogTrip (site : Nat) (s : State) : Host.Outcome State Fault Refusal := ofUnit (decide (site < 96)) (s.analogTrip site)

/-- EXTERNAL_TRIP. An external trip (R291). -/
def execExternalTrip (s : State) : Host.Outcome State Fault Refusal := .next (s.externalTrip)

/-- OSC_COMPENSATION_CONVERSION. The conversion of the Heath's site in OFF (R283). -/
def execOscCompensationConversion (raw : Nat) (done : Bool) (s : State) : Host.Outcome State Fault Refusal :=
  .next (s.oscConversion raw done)

/-- MEM_STACK_REPORT. A memory stack reports its temperature (R301). -/
def execMemStackReport (k : Nat) (temp : Nat) (s : State) : Host.Outcome State Fault Refusal :=
  ofUnit (decide (k < 4)) (s.stackReport k temp)

/-- MEM_STACK_STALE. A memory stack's report is too old (R303). -/
def execMemStackStale (k : Nat) (s : State) : Host.Outcome State Fault Refusal :=
  ofUnit (decide (k < 4)) (if s.ps.porst then s.stackStale k else s)

/-- WATCH_RECORD. A byte-count record of a memory controller (R449). -/
def execWatchRecord (k : Nat) (idx : Nat) (lines : Nat) (s : State) : Host.Outcome State Fault Refusal :=
  ofUnit (decide (k < 4) && decide (idx < 16)) (s.watchRecord k idx lines)

/-- WATCH_SEND. The 100 µs of the watch sums (R449). -/
def execWatchSend (s : State) : Host.Outcome State Fault Refusal := .next (s.watchSend)

/-- STREAM_PERIOD. A stream period ends (R450). -/
def execStreamPeriod (s : State) : Host.Outcome State Fault Refusal := .next (s.streamPeriod)

/-- SNAPSHOT_COMPLETE. The snapshot bank is complete (R446). -/
def execSnapshotComplete (s : State) : Host.Outcome State Fault Refusal := .next (if s.coreRuns then s.snapComplete else s)

/-- RING_POST_TIMEOUT. POST_MAX after the trigger (R442). -/
def execRingPostTimeout (s : State) : Host.Outcome State Fault Refusal := .next (if s.ps.porst then s.ringTimeout else s)

end Sys2Proof.Machine
end

