-- ==== Sys2Proof/Machine/Dispatch.lean ====
section
/-! DEFINITION. The meaning of every command: one arm per constructor. -/

namespace Sys2Proof.Machine

def exec (i : Instr) (s : State) : Host.Outcome State Fault Refusal :=
  match i with
  | .vaonPorRelease => Sys2Proof.Machine.execVaonPorRelease s
  | .heathPor => Sys2Proof.Machine.execHeathPor s
  | .porstNAssert => Sys2Proof.Machine.execPorstNAssert s
  | .porstNDeassert leaderSel dieId => Sys2Proof.Machine.execPorstNDeassert leaderSel dieId s
  | .pllLock => Sys2Proof.Machine.execPllLock s
  | .strapExchangeClose => Sys2Proof.Machine.execStrapExchangeClose s
  | .sfdpDiscovery density => Sys2Proof.Machine.execSfdpDiscovery density s
  | .flashAbsentTimeout => Sys2Proof.Machine.execFlashAbsentTimeout s
  | .slotVerify img => Sys2Proof.Machine.execSlotVerify img s
  | .followerImageVerify img => Sys2Proof.Machine.execFollowerImageVerify img s
  | .imageStart => Sys2Proof.Machine.execImageStart s
  | .vinSettleTimeout => Sys2Proof.Machine.execVinSettleTimeout s
  | .railInRegulation rail => Sys2Proof.Machine.execRailInRegulation rail s
  | .softstartTimeout rail => Sys2Proof.Machine.execSoftstartTimeout rail s
  | .blockResetWrite data who => Sys2Proof.Machine.execBlockResetWrite data who s
  | .blockResetComplete => Sys2Proof.Machine.execBlockResetComplete s
  | .stewardDigestCheck digest => Sys2Proof.Machine.execStewardDigestCheck digest s
  | .psRequest req => Sys2Proof.Machine.execPsRequest req s
  | .psTransitionDone => Sys2Proof.Machine.execPsTransitionDone s
  | .psReqRelease => Sys2Proof.Machine.execPsReqRelease s
  | .halfOffRequest half => Sys2Proof.Machine.execHalfOffRequest half s
  | .halfRestart half => Sys2Proof.Machine.execHalfRestart half s
  | .halfOffAckRelease half => Sys2Proof.Machine.execHalfOffAckRelease half s
  | .heathWakeEvent cause => Sys2Proof.Machine.execHeathWakeEvent cause s
  | .lingerExpiry dom => Sys2Proof.Machine.execLingerExpiry dom s
  | .registerWrite off data who => Sys2Proof.Machine.execRegisterWrite off data who s
  | .lowWordRead off who => Sys2Proof.Machine.execLowWordRead off who s
  | .mbInW1hWrite m data who => Sys2Proof.Machine.execMbInW1hWrite m data who s
  | .mbOutFullClear data who => Sys2Proof.Machine.execMbOutFullClear data who s
  | .mbDbInWrite data who => Sys2Proof.Machine.execMbDbInWrite data who s
  | .mbDbOutClear data who => Sys2Proof.Machine.execMbDbOutClear data who s
  | .cmdMbCtxWrite m data who => Sys2Proof.Machine.execCmdMbCtxWrite m data who s
  | .railCapArm rail data who => Sys2Proof.Machine.execRailCapArm rail data who s
  | .railCapStop rail data who => Sys2Proof.Machine.execRailCapStop rail data who s
  | .ringCtrlArm data who => Sys2Proof.Machine.execRingCtrlArm data who s
  | .ringCtrlForce data who => Sys2Proof.Machine.execRingCtrlForce data who s
  | .ringCtrlResume data who => Sys2Proof.Machine.execRingCtrlResume data who s
  | .ringLenWrite off data who => Sys2Proof.Machine.execRingLenWrite off data who s
  | .timeResync data who => Sys2Proof.Machine.execTimeResync data who s
  | .fhSrcForce src data who => Sys2Proof.Machine.execFhSrcForce src data who s
  | .fhPendClear j data who => Sys2Proof.Machine.execFhPendClear j data who s
  | .fhFirstClear data who => Sys2Proof.Machine.execFhFirstClear data who s
  | .phFaultReadmit rail hi data who => Sys2Proof.Machine.execPhFaultReadmit rail hi data who s
  | .siteSuspectClear site data who => Sys2Proof.Machine.execSiteSuspectClear site data who s
  | .budSlowClear data who => Sys2Proof.Machine.execBudSlowClear data who s
  | .fwLoadGo data who => Sys2Proof.Machine.execFwLoadGo data who s
  | .accCtrlRelock data who => Sys2Proof.Machine.execAccCtrlRelock data who s
  | .engClassRise c e cls => Sys2Proof.Machine.execEngClassRise c e cls s
  | .engClassFall c e cls => Sys2Proof.Machine.execEngClassFall c e cls s
  | .heldQuantaExpiry c => Sys2Proof.Machine.execHeldQuantaExpiry c s
  | .clusterIdle c => Sys2Proof.Machine.execClusterIdle c s
  | .clRunFall c counts => Sys2Proof.Machine.execClRunFall c counts s
  | .clRunRise c => Sys2Proof.Machine.execClRunRise c s
  | .reclaimMessage c => Sys2Proof.Machine.execReclaimMessage c s
  | .grantDelivery c e => Sys2Proof.Machine.execGrantDelivery c e s
  | .activityIntervalClose c edges code counts => Sys2Proof.Machine.execActivityIntervalClose c edges code counts s
  | .droopDetection c code => Sys2Proof.Machine.execDroopDetection c code s
  | .ladderTimerExpiry c code => Sys2Proof.Machine.execLadderTimerExpiry c code s
  | .localStopExpiry c => Sys2Proof.Machine.execLocalStopExpiry c s
  | .fastCalibrationWindow c m => Sys2Proof.Machine.execFastCalibrationWindow c m s
  | .maintenanceRound c m start => Sys2Proof.Machine.execMaintenanceRound c m start s
  | .stuckDetector c => Sys2Proof.Machine.execStuckDetector c s
  | .detectorReinstate c => Sys2Proof.Machine.execDetectorReinstate c s
  | .grantRequest c e => Sys2Proof.Machine.execGrantRequest c e s
  | .proactiveForceEnd stripe => Sys2Proof.Machine.execProactiveForceEnd stripe s
  | .arbiterGrant => Sys2Proof.Machine.execArbiterGrant s
  | .waveStepBoundary => Sys2Proof.Machine.execWaveStepBoundary s
  | .localGrantReport c => Sys2Proof.Machine.execLocalGrantReport c s
  | .pocketRefill c => Sys2Proof.Machine.execPocketRefill c s
  | .revocationPass => Sys2Proof.Machine.execRevocationPass s
  | .reservationStart id => Sys2Proof.Machine.execReservationStart id s
  | .reservationTimeT id => Sys2Proof.Machine.execReservationTimeT id s
  | .reservationEnd id => Sys2Proof.Machine.execReservationEnd id s
  | .prebiasStart id => Sys2Proof.Machine.execPrebiasStart id s
  | .severeReport c => Sys2Proof.Machine.execSevereReport c s
  | .freezeExpiry stripe => Sys2Proof.Machine.execFreezeExpiry stripe s
  | .dieForceReleaseStep => Sys2Proof.Machine.execDieForceReleaseStep s
  | .limiterOperandChange => Sys2Proof.Machine.execLimiterOperandChange s
  | .oppStepStart => Sys2Proof.Machine.execOppStepStart s
  | .oppFreqHandshakeStart => Sys2Proof.Machine.execOppFreqHandshakeStart s
  | .oppFreqAck => Sys2Proof.Machine.execOppFreqAck s
  | .oppFreqAckFall => Sys2Proof.Machine.execOppFreqAckFall s
  | .oppFreqTimeout => Sys2Proof.Machine.execOppFreqTimeout s
  | .windowSlotBoundary n => Sys2Proof.Machine.execWindowSlotBoundary n s
  | .windowDecisionApply n => Sys2Proof.Machine.execWindowDecisionApply n s
  | .windowAutonomous n => Sys2Proof.Machine.execWindowAutonomous n s
  | .fastLimitLatch => Sys2Proof.Machine.execFastLimitLatch s
  | .fastLimitRelease => Sys2Proof.Machine.execFastLimitRelease s
  | .emergencyHoldExpiry => Sys2Proof.Machine.execEmergencyHoldExpiry s
  | .supplyHoldExpiry => Sys2Proof.Machine.execSupplyHoldExpiry s
  | .controlSample rail inp => Sys2Proof.Machine.execControlSample rail inp s
  | .holdExpiry rail => Sys2Proof.Machine.execHoldExpiry rail s
  | .phaseShed rail => Sys2Proof.Machine.execPhaseShed rail s
  | .orderedShutdownStart => Sys2Proof.Machine.execOrderedShutdownStart s
  | .railShutdownDone rail => Sys2Proof.Machine.execRailShutdownDone rail s
  | .nextRailShutdown => Sys2Proof.Machine.execNextRailShutdown s
  | .dpwmRecalibration lines taps => Sys2Proof.Machine.execDpwmRecalibration lines taps s
  | .avsVinPoll a => Sys2Proof.Machine.execAvsVinPoll a s
  | .vinStale => Sys2Proof.Machine.execVinStale s
  | .avsStatusRead a => Sys2Proof.Machine.execAvsStatusRead a s
  | .avsRetry a => Sys2Proof.Machine.execAvsRetry a s
  | .injectionTimeout rail => Sys2Proof.Machine.execInjectionTimeout rail s
  | .captureFreeze rail => Sys2Proof.Machine.execCaptureFreeze rail s
  | .estimatorInterval => Sys2Proof.Machine.execEstimatorInterval s
  | .calibrationMillisecond => Sys2Proof.Machine.execCalibrationMillisecond s
  | .thermalRound sites => Sys2Proof.Machine.execThermalRound sites s
  | .graceDeadline => Sys2Proof.Machine.execGraceDeadline s
  | .predictionUpdate => Sys2Proof.Machine.execPredictionUpdate s
  | .analogTrip site => Sys2Proof.Machine.execAnalogTrip site s
  | .externalTrip => Sys2Proof.Machine.execExternalTrip s
  | .oscCompensationConversion raw done => Sys2Proof.Machine.execOscCompensationConversion raw done s
  | .memStackReport k temp => Sys2Proof.Machine.execMemStackReport k temp s
  | .memStackStale k => Sys2Proof.Machine.execMemStackStale k s
  | .watchRecord k idx lines => Sys2Proof.Machine.execWatchRecord k idx lines s
  | .watchSend => Sys2Proof.Machine.execWatchSend s
  | .linkFlit h => Sys2Proof.Machine.execLinkFlit h s
  | .heartbeatFlit h pstate stopped autonomous => Sys2Proof.Machine.execHeartbeatFlit h pstate stopped autonomous s
  | .strapFlit h dieId leader => Sys2Proof.Machine.execStrapFlit h dieId leader s
  | .stageFlit h off value => Sys2Proof.Machine.execStageFlit h off value s
  | .prepareFlit h id kind count crc => Sys2Proof.Machine.execPrepareFlit h id kind count crc s
  | .prepareAckFlit h id nack regions => Sys2Proof.Machine.execPrepareAckFlit h id nack regions s
  | .commitFlit h t => Sys2Proof.Machine.execCommitFlit h t s
  | .abortFlit h id => Sys2Proof.Machine.execAbortFlit h id s
  | .cmdFlit h c => Sys2Proof.Machine.execCmdFlit h c s
  | .cmdDoneFlit h tag status result => Sys2Proof.Machine.execCmdDoneFlit h tag status result s
  | .eventFlit h ev => Sys2Proof.Machine.execEventFlit h ev s
  | .energyFlit h uw => Sys2Proof.Machine.execEnergyFlit h uw s
  | .thermalFlit h tDie tMem => Sys2Proof.Machine.execThermalFlit h tDie tMem s
  | .levelFlit h idx value => Sys2Proof.Machine.execLevelFlit h idx value s
  | .dataFlit h d => Sys2Proof.Machine.execDataFlit h d s
  | .hdgRetryTimeout d => Sys2Proof.Machine.execHdgRetryTimeout d s
  | .heartbeatSend => Sys2Proof.Machine.execHeartbeatSend s
  | .heartbeatMiss d => Sys2Proof.Machine.execHeartbeatMiss d s
  | .hdgWakeIn => Sys2Proof.Machine.execHdgWakeIn s
  | .hdgAwakeIn d => Sys2Proof.Machine.execHdgAwakeIn d s
  | .prepareTimeout => Sys2Proof.Machine.execPrepareTimeout s
  | .commitOrphan => Sys2Proof.Machine.execCommitOrphan s
  | .cmdDoneTimeout tag => Sys2Proof.Machine.execCmdDoneTimeout tag s
  | .commitStart => Sys2Proof.Machine.execCommitStart s
  | .commitApply => Sys2Proof.Machine.execCommitApply s
  | .catchUpTimeout d => Sys2Proof.Machine.execCatchUpTimeout d s
  | .stileMessage half => Sys2Proof.Machine.execStileMessage half s
  | .stileQueueDrain half => Sys2Proof.Machine.execStileQueueDrain half s
  | .hello f node port => Sys2Proof.Machine.execHello f node port s
  | .helloAck f node port => Sys2Proof.Machine.execHelloAck f node port s
  | .ackFrame f seqs => Sys2Proof.Machine.execAckFrame f seqs s
  | .pace f group rate valid holder => Sys2Proof.Machine.execPace f group rate valid holder s
  | .emerg f scope rate group valid origin => Sys2Proof.Machine.execEmerg f scope rate group valid origin s
  | .relPrepare f id kind levels group newSet newRate valid => Sys2Proof.Machine.execRelPrepare f id kind levels group newSet newRate valid s
  | .relVote f id vote count => Sys2Proof.Machine.execRelVote f id vote count s
  | .relCommit f id t => Sys2Proof.Machine.execRelCommit f id t s
  | .relAbort f id => Sys2Proof.Machine.execRelAbort f id s
  | .fabRetransmit peer seq => Sys2Proof.Machine.execFabRetransmit peer seq s
  | .discoveryPeriod => Sys2Proof.Machine.execDiscoveryPeriod s
  | .peerDead node => Sys2Proof.Machine.execPeerDead node s
  | .paceRefresh slot => Sys2Proof.Machine.execPaceRefresh slot s
  | .levelWordExpiry idx => Sys2Proof.Machine.execLevelWordExpiry idx s
  | .levelWordResend idx => Sys2Proof.Machine.execLevelWordResend idx s
  | .voteWaitEnd id => Sys2Proof.Machine.execVoteWaitEnd id s
  | .originatorWaitEnd id => Sys2Proof.Machine.execOriginatorWaitEnd id s
  | .releaseBufferHoldExpiry id => Sys2Proof.Machine.execReleaseBufferHoldExpiry id s
  | .releaseRetry slot => Sys2Proof.Machine.execReleaseRetry slot s
  | .tpPulse value sub => Sys2Proof.Machine.execTpPulse value sub s
  | .pulseMissing => Sys2Proof.Machine.execPulseMissing s
  | .skylarkHoldover => Sys2Proof.Machine.execSkylarkHoldover s
  | .resyncApply => Sys2Proof.Machine.execResyncApply s
  | .memResponse tag err data => Sys2Proof.Machine.execMemResponse tag err data s
  | .memPortTimeout tag => Sys2Proof.Machine.execMemPortTimeout tag s
  | .commandPickup m => Sys2Proof.Machine.execCommandPickup m s
  | .noticePost m => Sys2Proof.Machine.execNoticePost m s
  | .heartbeatTimeout => Sys2Proof.Machine.execHeartbeatTimeout s
  | .mctpRequest bytes => Sys2Proof.Machine.execMctpRequest bytes s
  | .mctpControl req => Sys2Proof.Machine.execMctpControl req s
  | .pldmRequest req => Sys2Proof.Machine.execPldmRequest req s
  | .attach m => Sys2Proof.Machine.execAttach m s
  | .detach m => Sys2Proof.Machine.execDetach m s
  | .heartbeat m => Sys2Proof.Machine.execHeartbeat m s
  | .getInfo m => Sys2Proof.Machine.execGetInfo m s
  | .stageBudget m => Sys2Proof.Machine.execStageBudget m s
  | .commit m => Sys2Proof.Machine.execCommit m s
  | .abortStage m => Sys2Proof.Machine.execAbortStage m s
  | .getBudget m => Sys2Proof.Machine.execGetBudget m s
  | .loadProfile m => Sys2Proof.Machine.execLoadProfile m s
  | .dropProfile m => Sys2Proof.Machine.execDropProfile m s
  | .announce m => Sys2Proof.Machine.execAnnounce m s
  | .barrierHint m => Sys2Proof.Machine.execBarrierHint m s
  | .setOppTable m => Sys2Proof.Machine.execSetOppTable m s
  | .setThermal m => Sys2Proof.Machine.execSetThermal m s
  | .fabricAssign m => Sys2Proof.Machine.execFabricAssign m s
  | .joinGroup m => Sys2Proof.Machine.execJoinGroup m s
  | .leaveGroup m => Sys2Proof.Machine.execLeaveGroup m s
  | .fabricStatus m => Sys2Proof.Machine.execFabricStatus m s
  | .snapshot m => Sys2Proof.Machine.execSnapshot m s
  | .snapshotComplete => Sys2Proof.Machine.execSnapshotComplete s
  | .readCounters m => Sys2Proof.Machine.execReadCounters m s
  | .armTriggerArm m => Sys2Proof.Machine.execArmTriggerArm m s
  | .armTriggerForce m => Sys2Proof.Machine.execArmTriggerForce m s
  | .armTriggerResume m => Sys2Proof.Machine.execArmTriggerResume m s
  | .ringPostTimeout => Sys2Proof.Machine.execRingPostTimeout s
  | .readRing m => Sys2Proof.Machine.execReadRing m s
  | .setWatch m => Sys2Proof.Machine.execSetWatch m s
  | .streamPeriod => Sys2Proof.Machine.execStreamPeriod s
  | .fwStageHost m => Sys2Proof.Machine.execFwStageHost m s
  | .fwStageBegin m => Sys2Proof.Machine.execFwStageBegin m s
  | .fwStageChunk m => Sys2Proof.Machine.execFwStageChunk m s
  | .fwStageEnd m => Sys2Proof.Machine.execFwStageEnd m s
  | .fwStageCancel m => Sys2Proof.Machine.execFwStageCancel m s
  | .fwStageReadback img => Sys2Proof.Machine.execFwStageReadback img s
  | .fwActivate m => Sys2Proof.Machine.execFwActivate m s
  | .activationStart => Sys2Proof.Machine.execActivationStart s
  | .activationTimeout => Sys2Proof.Machine.execActivationTimeout s
  | .activationComplete img followersOk => Sys2Proof.Machine.execActivationComplete img followersOk s
  | .slotRepairDone => Sys2Proof.Machine.execSlotRepairDone s
  | .fwStatus m => Sys2Proof.Machine.execFwStatus m s
  | .compartmentFault comp => Sys2Proof.Machine.execCompartmentFault comp s
  | .userRead off => Sys2Proof.Machine.execUserRead off s
  | .userCapStage cap => Sys2Proof.Machine.execUserCapStage cap s
  | .userCapCommit => Sys2Proof.Machine.execUserCapCommit s
  | .userDoorbell set clear => Sys2Proof.Machine.execUserDoorbell set clear s
  | .userTimerSet us => Sys2Proof.Machine.execUserTimerSet us s
  | .userTimerWake => Sys2Proof.Machine.execUserTimerWake s
  | .userLog level code arg => Sys2Proof.Machine.execUserLog level code arg s
  | .unlockChallenge m => Sys2Proof.Machine.execUnlockChallenge m s
  | .unlockResponsePassword m => Sys2Proof.Machine.execUnlockResponsePassword m s
  | .unlockResponseSignature m => Sys2Proof.Machine.execUnlockResponseSignature m s
  | .relock m => Sys2Proof.Machine.execRelock m s
  | .accessTimerExpiry => Sys2Proof.Machine.execAccessTimerExpiry s
  | .nonceLapse => Sys2Proof.Machine.execNonceLapse s
  | .unlockBackoffEnd => Sys2Proof.Machine.execUnlockBackoffEnd s
  | .faultRaise src syn => Sys2Proof.Machine.execFaultRaise src syn s
  | .faultRead m => Sys2Proof.Machine.execFaultRead m s
  | .faultClear m => Sys2Proof.Machine.execFaultClear m s
  | .faultForce m => Sys2Proof.Machine.execFaultForce m s
  | .injectStart m => Sys2Proof.Machine.execInjectStart m s
  | .captureRead m => Sys2Proof.Machine.execCaptureRead m s
  | .hdgWakeTimeout d => Sys2Proof.Machine.execHdgWakeTimeout d s
  | .hdgFlitDiscard src bs => Sys2Proof.Machine.execHdgFlitDiscard src bs s
  | .edvikFrameDiscard err bytes => Sys2Proof.Machine.execEdvikFrameDiscard err bytes s
  | .coreNoProgress core => Sys2Proof.Machine.execCoreNoProgress core s
  | .rstStormEnd => Sys2Proof.Machine.execRstStormEnd s
  | .ringWaitTrigExceeded c e => Sys2Proof.Machine.execRingWaitTrigExceeded c e s

end Sys2Proof.Machine
end

