-- ==== Sys2Proof/Machine/Step.lean ====
section
/-! DEFINITION. The step: the command at the front of the queue, or a nanosecond of idling. -/

namespace Sys2Proof.Machine

/-- An idle step: the clock moves on by 1 ns, and what only waits for time goes on: stream lines as their tokens
accrue, memory requests after a block reset, and what the firmware's compartments do of themselves (R92, R409, R428, R451,
log 1). -/
def State.idle (s : State) : State := (s.advance 1).streamPump.memPump.coresAct

/-- One step: the command at the front of `pending` is executed on the state with the rest of the queue; with no
command waiting the block idles (log 1). -/
def step (s : State) : Host.Outcome State Fault Refusal :=
  match s.pending with
  | [] => .next s.idle
  | c :: rest => exec c { s with pending := rest }

/-- The state with the command that a table word spells at the front of its queue; no word spells one. -/
def State.withFetchWord (s : State) (nbits w : Nat) : State :=
  match decodeTableWord nbits w with
  | some c => { s with pending := c :: s.pending }
  | none => s

end Sys2Proof.Machine
end

