-- ==== Sys2Proof/Safety.lean ====
section
/-! DEFINITION. What every state of a run keeps, and what every command may change, in the terms the statements use. -/

namespace Sys2Proof.Machine

/-- The register store is in its canonical form: offsets strictly rising, and no word listed that equals the reset
word of its register; so equal register contents are equal data. -/
def State.regsCanonical (s : State) : Prop := SMap.wf resetWord s.regs

/-- While VAON is below its threshold nothing is out of PORST_N: the Heath leaves its reset before anything else does
(R101, R103). -/
def State.heathFirst (s : State) : Prop := s.ps.vaon = false → s.ps.porst = false

/-- The invariant of the machine. -/
def State.Inv (s : State) : Prop := s.regsCanonical ∧ s.heathFirst

/-! ### Conditions that the statements name -/

/-- The register port of a leader takes accesses: VAON and PORST_N are up, no stop and no block reset closes it (R52 to
R54). -/
abbrev State.portOpen (s : State) : Prop :=
  s.ps.vaon = true ∧ s.portClosed = false ∧ s.inReset = false ∧ s.leader = true

/-- A register whose write sets nothing going beside its fields: none of the domain, reset and load controls, of the mailbox
words and bits that the mailboxes act on, of CMD_MB_CTX, of the fault hub's sources, of relock, the captures, the phase
exclusions, the streams, the rings, RESYNC and the sites. -/
def plainReg (off : Nat) : Bool :=
  !([HEATH_DOMAIN_CTRL, HEATH_RESET_CTRL, HEATH_FW_LOAD_LO, HEATH_FW_LOAD_HI, HEATH_FW_LOAD_CTRL, MB_OUT_FULL, MB_IN_OVERRUN,
      MB_DB_IN, FH_FIRST, ACC_CTRL, OBS_STR_CTRL, RING_LEN, RING_SAMP, RING_CTRL, TIME_CTRL].contains off ||
    decide (0x2000 ≤ off ∧ off < 0x2200) || decide (CMD_MB_CTX 0 ≤ off ∧ off ≤ CMD_MB_CTX 31) ||
    decide (FH_PEND 0 ≤ off ∧ off ≤ FH_PEND 7) || decide (0x4400 ≤ off ∧ off < 0x4800) ||
    (List.range 4).any (fun n => off == RAIL_CAP_CTRL n || off == RAIL_PH_FAULT n || off == RAIL_PH_FAULT_HI n) ||
    decide (0x90000 ≤ off))

/-- The values that wait for CMD_MB_CTX are in their canonical form, each for one of the 32 mailboxes. -/
abbrev State.ctxWaits (s : State) : Prop :=
  s.ses.ctxNext.Pairwise (fun a b => a.1 < b.1) ∧ ∀ p ∈ s.ses.ctxNext, p.1 < 32

/-- A flit is taken, and its message acted on: its instance hears it, its CRC is good, a NAK of it fails no link, its epoch is
not older than the link's, it is the next one in order, and the last of its message (R320, R322, R323). -/
abbrev State.takes (s : State) (h : FlitHdr) : Prop :=
  h.src < 8 ∧ s.hears h = true ∧ h.bad = false ∧ (h.nak = true → ∀ x ∈ (s.link h.src).unacked, x.tries < 4) ∧
    (∀ e, (s.link h.src).epoch = some e → olderEpoch h.epoch e = false) ∧ h.seq % 64 = (s.link h.src).rxSeq % 64 ∧
    h.more = false

/-- A flit is taken by a follower that is not autonomous, from its leader. -/
abbrev State.fromItsLeader (s : State) (h : FlitHdr) : Prop :=
  s.takes h ∧ s.leader = false ∧ h.src = s.leaderDie ∧ s.flag HDG_STATUS.AUTONOMOUS = false

/-- A flit is taken by the leader, from an instance of DIE_MASK. -/
abbrev State.fromAFollower (s : State) (h : FlitHdr) : Prop :=
  s.takes h ∧ s.leader = true ∧ bitAt s.dieMask h.src = true

/-- A frame is one that its peer has not sent before: of no older epoch, within the window, not among those seen
(R343). -/
abbrev State.newFrame (s : State) (f : FrameHdr) : Prop :=
  s.fabRuns = true ∧ s.fromPeer f = true ∧ ∃ p, s.peer f.src = some p ∧
    (∀ e, p.epoch = some e → olderEpoch f.epoch e = false) ∧
    (p.epoch = some f.epoch → p.rxHigh ≤ f.seq + 64 ∧ f.seq ∉ p.rxSeen)

/-- `n` bytes of the parameters from byte `k` are 0. -/
abbrev zeros (ps : List Nat) (k n : Nat) : Prop := ∀ j, j < n → pByte ps (k + j) = 0

/-- No request of the management endpoint waits for its turn, which comes once no mailbox is ready (R388, R406). -/
abbrev State.noTurn (s : State) : Prop := (s.cmd srcMctp).map (fun a => a.stage) ≠ some 6

/-- The command of source `m` is ready to execute opcode `op`: it has been judged, its parameters are complete, the steward
runs (R15), and no request waits whose turn would come as this command ends. -/
abbrev State.runs (s : State) (m op : Nat) (a : Active) : Prop :=
  s.flag HEATH_DOMAIN_STATUS.STEWARD_ON = true ∧ m < 33 ∧ s.cmd m = some a ∧ a.stage = 1 ∧ a.hdr.opcode = op ∧ s.noTurn

/-- A payload has been put on its way to instance `d`: it waits for an acknowledgement, or for the link. -/
abbrev State.sends (t : State) (d : Nat) (p : Payload) : Prop :=
  (((t.link d).unacked.map (fun x => x.payload)) ++ ((t.link d).queue.map (fun x => x.payload))).contains p = true

/-- From `s` to `t` a command of source `m` has completed with a status: it is counted, and CMD_LAST shows it. -/
abbrev State.completes (s t : State) (m op status : Nat) : Prop :=
  t.reg CMD_COUNT = min (s.reg CMD_COUNT + 1) (2 ^ 32 - 1) ∧ t.fld CMD_LAST.OPCODE = op ∧
    t.fld CMD_LAST.MAILBOX = m % 32 ∧ t.fld CMD_LAST.STATUS = status

/-- In an attached session the reply of a mailbox's command is being written, with this status and result (R385). -/
abbrev State.replies (s t : State) (m : Nat) (a : Active) (status : Nat) (result : List Nat) : Prop :=
  m < 32 → a.mute = false → s.sessionState = 1 →
    ∃ b, t.cmd m = some b ∧ b.stage = 4 ∧ b.status = status ∧ b.result = result

/-- From `s` to `t` a command has put its commit last in the queue and waits for it (R327, R331). -/
abbrev State.commits (s t : State) (m : Nat) (a : Active) (act : CommitAct) : Prop :=
  t.cmd m = some { a with stage := 2 } ∧
    t.hdg.queue = s.hdg.queue ++ [{ act := act, who := some m, epoch := a.hdr.hostEpoch }]

/-- A forwarded command's result lines have been handed to the memory port, and its CMD_DONE waits for the last of them; while
the session is UNATTENDED nothing is written and it is done at once (R336, R402). -/
abbrev State.serves (s t : State) (h : FlitHdr) (dest : Nat) (ctx : Option Nat) (bytes : List Nat) (bank : Bool) : Prop :=
  (s.unattended = true → t.sends h.src (.cmdDone h.tag stOk [])) ∧
    (s.unattended = false → SMap.find t.hdg.serving h.tag =
      some { left := (writeLines dest ctx (.fwd h.tag) bytes).length, status := stOk, bank := bank })

/-- Is the message one that a follower sends to its leader (R321)? -/
def Bulk.ofFollower : Bulk → Bool
  | .watchSums _ | .obsSums _ | .gap _ _ _ | .stacks _ | .vin _ => true
  | _ => false

/-- A DATA flit has carried nothing for this instance: none of what such flits change has changed. -/
abbrev State.dataIgnored (s t : State) : Prop :=
  t.staged = s.staged ∧ t.fw = s.fw ∧ t.win = s.win ∧ t.acc = s.acc ∧ t.est = s.est ∧ t.obs = s.obs ∧ t.thm = s.thm ∧
    t.avs = s.avs ∧ t.unattended = s.unattended ∧ t.hdg.rxAct = s.hdg.rxAct ∧ t.hostEpoch = s.hostEpoch

/-- From `s` to `t` the leader has taken an event record of die `d`: with a session it goes into the host's ring at the next
place, and its line is on its way to host memory; without one it is held (R402, R404). -/
abbrev State.records (s t : State) (type d epoch time : Nat) (body : List Nat) : Prop :=
  (s.sessionState ≠ 1 →
    (s.ses.heldEvents + s.ses.events.length + s.ses.writing.length < 64 → t.ses.heldEvents = s.ses.heldEvents + 1) ∧
    (64 ≤ s.ses.heldEvents + s.ses.events.length + s.ses.writing.length →
      t.fld CMD_STATUS.HELD_LOST = min (s.fld CMD_STATUS.HELD_LOST + 1) CMD_STATUS.HELD_LOST.top)) ∧
  (s.sessionState = 1 → s.ses.evtCount ≠ 0 → s.ses.events.length + s.ses.writing.length < 64 →
    t.ses.evtNext = s.ses.evtNext + 1 ∧ t.ses.evtLost = 0 ∧
      ∃ x : MemTxn, (x ∈ t.mem.queue ∨ x ∈ t.mem.out.map (fun p => p.2)) ∧ x.wr = true ∧
        x.addr = s.ses.evtBase + s.ses.evtNext % s.ses.evtCount * 64 ∧
        x.data = eventRecord type d epoch s.ses.evtLost time body)

/-- The throttle flag of a stack with its run count, and its mc_bw_cap, after one report of `temp` with the thresholds
given: THROTTLE follows its dwell; the cap rises by one, up to `top`, while THROTTLE is set and the report is at or above
the threshold, falls by one while it is clear, and else holds (R301, R302). -/
def bwAfter (thr hyst : Int) (top : Nat) (x : Bool × Nat × Nat) (temp : Nat) : Bool × Nat × Nat :=
  let b := dwell x.1 x.2.1 (toSigned 16 temp) thr hyst
  (b.1, b.2, if b.1 = true ∧ thr ≤ toSigned 16 temp then (if x.2.2 < top then x.2.2 + 1 else x.2.2)
    else if b.1 = true then x.2.2 else x.2.2 - 1)

/-! ### Frames -/

/-- A place that a command may change: a part of the state, or a register (a run of registers under one name). -/
inductive Place where
  | staged | now | sky | free | tie | otp | out | raises | levels | agents | arb | drp | rings | halfReq | rails
  | avs | lastInj | ps | hdg | fab | mem | ses | cmds | lim | win | est | thm | unattended | rate | fw | acc
  | hub | obs | latches | held | pending | ID_TOPOLOGY | HEATH_DOMAIN_STATUS | HEATH_DOMAIN_CTRL
  | HEATH_WAKE_CAUSE | HEATH_RESET_CAUSE | HEATH_RESET_CTRL | HEATH_EPOCH | HEATH_BOOT_STATUS | HEATH_FW_VERSION
  | HEATH_FW_STATUS | HEATH_FW_COMP | HEATH_FW_RESTARTS | HEATH_FW_LOAD_CTRL | HEATH_LOG_HEAD | HEATH_TRACE_MASK
  | MB_OUT_W0L | MB_OUT_W0H | MB_OUT_W1L | MB_OUT_W1H | MB_IN_FULL | MB_OUT_FULL | MB_IN_OVERRUN | MB_DB_IN
  | MB_DB_OUT | CMD_SESSION | CMD_STATUS | CMD_ERR | CMD_COUNT | CMD_LAST | CMD_EVT | CMD_MB_CTX | FH_STATUS
  | FH_FIRST | FH_FIRST_T | FH_FIRST_SYN | FH_PKG | FH_PEND | FH_LATCHED | FH_SEEN | FH_SRC | ACC_STATE
  | ACC_FAIL | ACC_DENIED | THM_CTRL | THM_STATUS | THM_TEMP | THM_PKG_TEMP | THM_PRED_STATUS | THM_ENF_STATUS
  | THM_EPISODES | THM_CHECK | THM_DPWM_CAL | THM_NODE_T | THM_MEM | BUD_WIN_FILL | BUD_WIN_CAP | BUD_SHARE
  | BUD_CAPS | BUD_RSN_ACTIVE | BUD_SHARE_WIN | BUD_SLOW | BUD_CHECK | BUD_RSN_CNT | BUD_RSN_NS | OPP_STATUS
  | OPP_STEPS | OPP_CHECK | ADM_CEILING | ADM_STATUS | ADM_ANN | ADM_FF | ADM_CHECK | DRP_CNT_MILD
  | DRP_CNT_DEEP | DRP_CNT_SEVERE | DRP_FREEZES | DRP_STUCK | DRP_CHECK | RAIL_STATUS | RAIL_SAT | RAIL_LOOP
  | RAIL_INTEG | RAIL_SNS | RAIL_IMEAS | RAIL_PH_FAULT | RAIL_PH_FAULT_HI | RAIL_EVENTS | RAIL_CHECK
  | RAIL_INJ_CTRL | RAIL_INJ_STATUS | RAIL_CAP_STATUS | RAIL_CAP_FILL | RAIL0_AVS_READ | RAIL0_AVS_IT
  | RAIL0_AVS_STATUS | EST_STATUS | EST_DIE_P | EST_DIE_E | EST_UNATTR_E | EST_CAL_SKIP | EST_CHECK | EST_PKG_P
  | EST_PKG_E | EST_RAIL_P | EST_RAIL_DYN | EST_RAIL_LEAK | EST_RAIL_MEAS | EST_RAIL_GAIN | EST_RAIL_OFS
  | EST_RAIL_ERR | EST_CTX_E | OBS_DIE_RET | OBS_DIE_WAITS | OBS_DIE_WAIT_MAX | OBS_DIE_ERR | OBS_PKG_RET
  | OBS_SNAP_STATUS | OBS_SNAP_T | OBS_STR_CTRL | OBS_STR_HEAD | OBS_STR_DROP | OBS_WATCH_0 | OBS_WATCH_4
  | OBS_WATCH_8 | OBS_WATCH_C | OBS_WATCH_B_LO | OBS_WATCH_B_HI | OBS_WATCH_E_LO | OBS_WATCH_E_HI | RING_SAMP
  | RING_TRIG | RING_TRIG_UNITS | RING_STATUS | RING_TRIG_T | FAB_REL_STATUS | FAB_TX | FAB_RX | FAB_RETX
  | FAB_DROP | FAB_FAIL | FAB_CHECK | TIME_CTRL | TIME_STATUS | TIME_ERR | HDG_STATUS | HDG_DIE_STATE
  | HDG_COMMIT_ID | HDG_COMMIT_T | HDG_COMMIT_CNT | HDG_CHECK | HDG_DISCARD | HDG_LINK | STILE_STATUS
  | STILE_CNT | AGT_STATUS | AGT_ENG | AGT_LAST | AGT_PWR | SITE_TEMP | SITE_RAW | SITE_CFG | SITE_STATUS
  | anyReg | AGT_RING_HEAD
deriving DecidableEq, Repr

/-- Is a place that is a part of the state the same in both states? A register is no part. -/
def samePlace (p : Place) (s t : State) : Prop :=
  match p with
  | .staged => t.staged = s.staged
  | .now => t.now = s.now
  | .sky => t.sky = s.sky
  | .free => t.free = s.free
  | .tie => t.tie = s.tie
  | .otp => t.otp = s.otp
  | .out => t.out = s.out
  | .raises => t.raises = s.raises
  | .levels => t.levels = s.levels
  | .agents => t.agents = s.agents
  | .arb => t.arb = s.arb
  | .drp => t.drp = s.drp
  | .rings => t.rings = s.rings
  | .halfReq => t.halfReq = s.halfReq
  | .rails => t.rails = s.rails
  | .avs => t.avs = s.avs
  | .lastInj => t.lastInj = s.lastInj
  | .ps => t.ps = s.ps
  | .hdg => t.hdg = s.hdg
  | .fab => t.fab = s.fab
  | .mem => t.mem = s.mem
  | .ses => t.ses = s.ses
  | .cmds => t.cmds = s.cmds
  | .lim => t.lim = s.lim
  | .win => t.win = s.win
  | .est => t.est = s.est
  | .thm => t.thm = s.thm
  | .unattended => t.unattended = s.unattended
  | .rate => t.rate = s.rate
  | .fw => t.fw = s.fw
  | .acc => t.acc = s.acc
  | .hub => t.hub = s.hub
  | .obs => t.obs = s.obs
  | .latches => t.latches = s.latches
  | .held => t.held = s.held
  | .pending => t.pending = s.pending
  | _ => True

/-- Is the register at `off` one of the place's? -/
abbrev inPlace (p : Place) (off : Nat) : Prop :=
  match p with
  | .ID_TOPOLOGY => off = ID_TOPOLOGY
  | .HEATH_DOMAIN_STATUS => off = HEATH_DOMAIN_STATUS
  | .HEATH_DOMAIN_CTRL => off = HEATH_DOMAIN_CTRL
  | .HEATH_WAKE_CAUSE => off = HEATH_WAKE_CAUSE
  | .HEATH_RESET_CAUSE => off = HEATH_RESET_CAUSE
  | .HEATH_RESET_CTRL => off = HEATH_RESET_CTRL
  | .HEATH_EPOCH => off = HEATH_EPOCH
  | .HEATH_BOOT_STATUS => off = HEATH_BOOT_STATUS
  | .HEATH_FW_VERSION => off = HEATH_FW_VERSION
  | .HEATH_FW_STATUS => off = HEATH_FW_STATUS
  | .HEATH_FW_COMP => off = HEATH_FW_COMP
  | .HEATH_FW_RESTARTS => off = HEATH_FW_RESTARTS
  | .HEATH_FW_LOAD_CTRL => off = HEATH_FW_LOAD_CTRL
  | .HEATH_LOG_HEAD => off = HEATH_LOG_HEAD
  | .HEATH_TRACE_MASK => off = HEATH_TRACE_MASK
  | .MB_OUT_W0L => ∃ k, off = MB_OUT_W0L k
  | .MB_OUT_W0H => ∃ k, off = MB_OUT_W0H k
  | .MB_OUT_W1L => ∃ k, off = MB_OUT_W1L k
  | .MB_OUT_W1H => ∃ k, off = MB_OUT_W1H k
  | .MB_IN_FULL => off = MB_IN_FULL
  | .MB_OUT_FULL => off = MB_OUT_FULL
  | .MB_IN_OVERRUN => off = MB_IN_OVERRUN
  | .MB_DB_IN => off = MB_DB_IN
  | .MB_DB_OUT => off = MB_DB_OUT
  | .CMD_SESSION => off = CMD_SESSION
  | .CMD_STATUS => off = CMD_STATUS
  | .CMD_ERR => off = CMD_ERR
  | .CMD_COUNT => off = CMD_COUNT
  | .CMD_LAST => off = CMD_LAST
  | .CMD_EVT => off = CMD_EVT
  | .CMD_MB_CTX => ∃ k, off = CMD_MB_CTX k
  | .FH_STATUS => off = FH_STATUS
  | .FH_FIRST => off = FH_FIRST
  | .FH_FIRST_T => ∃ k, off = FH_FIRST_T k
  | .FH_FIRST_SYN => ∃ k, off = FH_FIRST_SYN k
  | .FH_PKG => off = FH_PKG
  | .FH_PEND => ∃ k, off = FH_PEND k
  | .FH_LATCHED => ∃ k, off = FH_LATCHED k
  | .FH_SEEN => ∃ k, off = FH_SEEN k
  | .FH_SRC => ∃ k, off = FH_SRC k
  | .ACC_STATE => off = ACC_STATE
  | .ACC_FAIL => off = ACC_FAIL
  | .ACC_DENIED => off = ACC_DENIED
  | .THM_CTRL => off = THM_CTRL
  | .THM_STATUS => off = THM_STATUS
  | .THM_TEMP => off = THM_TEMP
  | .THM_PKG_TEMP => off = THM_PKG_TEMP
  | .THM_PRED_STATUS => off = THM_PRED_STATUS
  | .THM_ENF_STATUS => off = THM_ENF_STATUS
  | .THM_EPISODES => off = THM_EPISODES
  | .THM_CHECK => off = THM_CHECK
  | .THM_DPWM_CAL => off = THM_DPWM_CAL
  | .THM_NODE_T => ∃ k, off = THM_NODE_T k
  | .THM_MEM => ∃ k, off = THM_MEM k
  | .BUD_WIN_FILL => ∃ k, off = BUD_WIN_FILL k
  | .BUD_WIN_CAP => ∃ k, off = BUD_WIN_CAP k
  | .BUD_SHARE => off = BUD_SHARE
  | .BUD_CAPS => off = BUD_CAPS
  | .BUD_RSN_ACTIVE => off = BUD_RSN_ACTIVE
  | .BUD_SHARE_WIN => ∃ k, off = BUD_SHARE_WIN k
  | .BUD_SLOW => off = BUD_SLOW
  | .BUD_CHECK => off = BUD_CHECK
  | .BUD_RSN_CNT => ∃ k, off = BUD_RSN_CNT k
  | .BUD_RSN_NS => ∃ k, off = BUD_RSN_NS k
  | .OPP_STATUS => off = OPP_STATUS
  | .OPP_STEPS => off = OPP_STEPS
  | .OPP_CHECK => off = OPP_CHECK
  | .ADM_CEILING => off = ADM_CEILING
  | .ADM_STATUS => off = ADM_STATUS
  | .ADM_ANN => off = ADM_ANN
  | .ADM_FF => off = ADM_FF
  | .ADM_CHECK => off = ADM_CHECK
  | .DRP_CNT_MILD => off = DRP_CNT_MILD
  | .DRP_CNT_DEEP => off = DRP_CNT_DEEP
  | .DRP_CNT_SEVERE => off = DRP_CNT_SEVERE
  | .DRP_FREEZES => off = DRP_FREEZES
  | .DRP_STUCK => off = DRP_STUCK
  | .DRP_CHECK => off = DRP_CHECK
  | .RAIL_STATUS => ∃ k, off = RAIL_STATUS k
  | .RAIL_SAT => ∃ k, off = RAIL_SAT k
  | .RAIL_LOOP => ∃ k, off = RAIL_LOOP k
  | .RAIL_INTEG => ∃ k, off = RAIL_INTEG k
  | .RAIL_SNS => ∃ k, off = RAIL_SNS k
  | .RAIL_IMEAS => ∃ k, off = RAIL_IMEAS k
  | .RAIL_PH_FAULT => ∃ k, off = RAIL_PH_FAULT k
  | .RAIL_PH_FAULT_HI => ∃ k, off = RAIL_PH_FAULT_HI k
  | .RAIL_EVENTS => ∃ k, off = RAIL_EVENTS k
  | .RAIL_CHECK => ∃ k, off = RAIL_CHECK k
  | .RAIL_INJ_CTRL => ∃ k, off = RAIL_INJ_CTRL k
  | .RAIL_INJ_STATUS => ∃ k, off = RAIL_INJ_STATUS k
  | .RAIL_CAP_STATUS => ∃ k, off = RAIL_CAP_STATUS k
  | .RAIL_CAP_FILL => ∃ k, off = RAIL_CAP_FILL k
  | .RAIL0_AVS_READ => off = RAIL0_AVS_READ
  | .RAIL0_AVS_IT => off = RAIL0_AVS_IT
  | .RAIL0_AVS_STATUS => off = RAIL0_AVS_STATUS
  | .EST_STATUS => off = EST_STATUS
  | .EST_DIE_P => off = EST_DIE_P
  | .EST_DIE_E => ∃ k, off = EST_DIE_E k
  | .EST_UNATTR_E => ∃ k, off = EST_UNATTR_E k
  | .EST_CAL_SKIP => off = EST_CAL_SKIP
  | .EST_CHECK => off = EST_CHECK
  | .EST_PKG_P => off = EST_PKG_P
  | .EST_PKG_E => ∃ k, off = EST_PKG_E k
  | .EST_RAIL_P => ∃ k, off = EST_RAIL_P k
  | .EST_RAIL_DYN => ∃ k, off = EST_RAIL_DYN k
  | .EST_RAIL_LEAK => ∃ k, off = EST_RAIL_LEAK k
  | .EST_RAIL_MEAS => ∃ k, off = EST_RAIL_MEAS k
  | .EST_RAIL_GAIN => ∃ k, off = EST_RAIL_GAIN k
  | .EST_RAIL_OFS => ∃ k, off = EST_RAIL_OFS k
  | .EST_RAIL_ERR => ∃ k, off = EST_RAIL_ERR k
  | .EST_CTX_E => ∃ k, off = EST_CTX_E k
  | .OBS_DIE_RET => ∃ k, off = OBS_DIE_RET 0 + 4 * (k % 12)
  | .OBS_DIE_WAITS => off = OBS_DIE_WAITS
  | .OBS_DIE_WAIT_MAX => off = OBS_DIE_WAIT_MAX
  | .OBS_DIE_ERR => off = OBS_DIE_ERR
  | .OBS_PKG_RET => ∃ k, off = OBS_PKG_RET 0 + 4 * (k % 12)
  | .OBS_SNAP_STATUS => off = OBS_SNAP_STATUS
  | .OBS_SNAP_T => ∃ k, off = OBS_SNAP_T k
  | .OBS_STR_CTRL => off = OBS_STR_CTRL
  | .OBS_STR_HEAD => off = OBS_STR_HEAD
  | .OBS_STR_DROP => off = OBS_STR_DROP
  | .OBS_WATCH_0 => ∃ k, off = OBS_WATCH_0 k
  | .OBS_WATCH_4 => ∃ k, off = OBS_WATCH_4 k
  | .OBS_WATCH_8 => ∃ k, off = OBS_WATCH_8 k
  | .OBS_WATCH_C => ∃ k, off = OBS_WATCH_C k
  | .OBS_WATCH_B_LO => ∃ k, off = OBS_WATCH_B_LO k
  | .OBS_WATCH_B_HI => ∃ k, off = OBS_WATCH_B_HI k
  | .OBS_WATCH_E_LO => ∃ k, off = OBS_WATCH_E_LO k
  | .OBS_WATCH_E_HI => ∃ k, off = OBS_WATCH_E_HI k
  | .RING_SAMP => off = RING_SAMP
  | .RING_TRIG => off = RING_TRIG
  | .RING_TRIG_UNITS => off = RING_TRIG_UNITS
  | .RING_STATUS => off = RING_STATUS
  | .RING_TRIG_T => ∃ k, off = RING_TRIG_T k
  | .FAB_REL_STATUS => off = FAB_REL_STATUS
  | .FAB_TX => off = FAB_TX
  | .FAB_RX => off = FAB_RX
  | .FAB_RETX => off = FAB_RETX
  | .FAB_DROP => off = FAB_DROP
  | .FAB_FAIL => off = FAB_FAIL
  | .FAB_CHECK => off = FAB_CHECK
  | .TIME_CTRL => off = TIME_CTRL
  | .TIME_STATUS => off = TIME_STATUS
  | .TIME_ERR => off = TIME_ERR
  | .HDG_STATUS => off = HDG_STATUS
  | .HDG_DIE_STATE => off = HDG_DIE_STATE
  | .HDG_COMMIT_ID => off = HDG_COMMIT_ID
  | .HDG_COMMIT_T => ∃ k, off = HDG_COMMIT_T k
  | .HDG_COMMIT_CNT => off = HDG_COMMIT_CNT
  | .HDG_CHECK => off = HDG_CHECK
  | .HDG_DISCARD => off = HDG_DISCARD
  | .HDG_LINK => ∃ k, off = HDG_LINK k
  | .STILE_STATUS => off = STILE_STATUS
  | .STILE_CNT => off = STILE_CNT
  | .AGT_STATUS => ∃ k, off = AGT_STATUS k
  | .AGT_ENG => ∃ k, off = AGT_ENG k
  | .AGT_LAST => ∃ k, off = AGT_LAST k
  | .AGT_PWR => ∃ k, off = AGT_PWR k
  | .SITE_TEMP => ∃ k, off = SITE_TEMP k
  | .SITE_RAW => ∃ k, off = SITE_RAW k
  | .SITE_CFG => ∃ k, off = SITE_CFG k
  | .SITE_STATUS => ∃ k, off = SITE_STATUS k
  | .anyReg => True
  | .AGT_RING_HEAD => ∃ k, off = AGT_RING_HEAD k
  | _ => False

/-- Everything but the places of `l` is in `t` as in `s`: every part of the state, and every register. -/
def State.changesOnly (l : List Place) (s t : State) : Prop :=
  (∀ p, p ∉ l → samePlace p s t) ∧ ∀ off, (∀ p ∈ l, ¬ inPlace p off) → t.reg off = s.reg off

/-! ### Registers by name -/

/-- Is the register at `off` one of those of some places? -/
abbrev inPlaces (ps : List Place) (off : Nat) : Prop := ∃ p ∈ ps, inPlace p off

/-- What an access at the register port may set going beside the register it names (R53, R55, R56). -/
def portPlaces : List Place :=
  [.HEATH_DOMAIN_STATUS, .HEATH_DOMAIN_CTRL, .HEATH_WAKE_CAUSE, .HEATH_RESET_CAUSE, .HEATH_RESET_CTRL, .HEATH_EPOCH,
    .HEATH_BOOT_STATUS, .HEATH_FW_STATUS, .HEATH_FW_LOAD_CTRL, .HEATH_TRACE_MASK, .MB_IN_FULL, .MB_IN_OVERRUN,
    .MB_DB_IN, .MB_DB_OUT, .CMD_STATUS, .CMD_COUNT, .CMD_LAST, .CMD_EVT, .CMD_MB_CTX, .FH_STATUS, .FH_FIRST,
    .FH_FIRST_T, .FH_FIRST_SYN, .FH_PKG, .FH_PEND, .FH_LATCHED, .FH_SEEN, .FH_SRC, .ACC_STATE, .ACC_DENIED,
    .THM_STATUS, .BUD_RSN_ACTIVE, .BUD_RSN_CNT, .BUD_RSN_NS, .OPP_STATUS, .RAIL_STATUS, .RAIL_PH_FAULT,
    .RAIL_PH_FAULT_HI, .RAIL_INJ_CTRL, .RAIL_INJ_STATUS, .RAIL_CAP_STATUS, .RAIL_CAP_FILL, .EST_STATUS, .EST_DIE_E,
    .EST_UNATTR_E, .EST_PKG_E, .EST_CTX_E, .OBS_SNAP_STATUS, .OBS_STR_CTRL, .RING_STATUS, .RING_TRIG_T,
    .FAB_REL_STATUS, .TIME_CTRL, .TIME_STATUS, .STILE_STATUS, .STILE_CNT, .AGT_STATUS, .AGT_ENG, .AGT_LAST,
    .SITE_CFG, .SITE_STATUS, .AGT_RING_HEAD]

/-- What the end of a block reset may change, beside the registers of the accesses that waited for it (R53, R106). -/
def resetEndPlaces : List Place :=
  [.HEATH_DOMAIN_STATUS, .HEATH_DOMAIN_CTRL, .HEATH_WAKE_CAUSE, .HEATH_RESET_CAUSE, .HEATH_RESET_CTRL, .HEATH_EPOCH,
    .HEATH_BOOT_STATUS, .HEATH_FW_STATUS, .HEATH_FW_LOAD_CTRL, .HEATH_TRACE_MASK, .MB_IN_FULL, .MB_IN_OVERRUN,
    .MB_DB_IN, .MB_DB_OUT, .CMD_STATUS, .CMD_COUNT, .CMD_LAST, .CMD_EVT, .CMD_MB_CTX, .FH_STATUS, .FH_FIRST,
    .FH_FIRST_T, .FH_FIRST_SYN, .FH_PKG, .FH_PEND, .FH_LATCHED, .FH_SEEN, .FH_SRC, .ACC_STATE, .ACC_DENIED,
    .THM_STATUS, .BUD_CAPS, .BUD_RSN_ACTIVE, .BUD_RSN_CNT, .BUD_RSN_NS, .OPP_STATUS, .ADM_CEILING, .DRP_FREEZES,
    .RAIL_STATUS, .RAIL_PH_FAULT, .RAIL_PH_FAULT_HI, .RAIL_INJ_CTRL, .RAIL_INJ_STATUS, .RAIL_CAP_STATUS,
    .RAIL_CAP_FILL, .EST_STATUS, .EST_DIE_E, .EST_UNATTR_E, .EST_PKG_E, .EST_CTX_E, .OBS_SNAP_STATUS, .OBS_STR_CTRL,
    .RING_SAMP, .RING_STATUS, .RING_TRIG_T, .FAB_REL_STATUS, .FAB_TX, .TIME_CTRL, .TIME_STATUS, .HDG_DIE_STATE,
    .HDG_COMMIT_ID, .HDG_COMMIT_CNT, .STILE_STATUS, .STILE_CNT, .AGT_STATUS, .AGT_ENG, .AGT_LAST, .SITE_CFG,
    .SITE_STATUS, .AGT_RING_HEAD]

/-- What an applied set may change beside the registers it stages (R328). -/
def applyPlaces : List Place :=
  [.HEATH_DOMAIN_STATUS, .HEATH_BOOT_STATUS, .MB_DB_IN, .CMD_STATUS, .CMD_COUNT, .CMD_LAST, .CMD_MB_CTX,
    .THM_ENF_STATUS, .BUD_WIN_CAP, .BUD_CAPS, .BUD_RSN_ACTIVE, .BUD_RSN_CNT, .BUD_RSN_NS, .OPP_STATUS, .ADM_CEILING,
    .ADM_STATUS, .ADM_ANN, .RAIL_STATUS, .RAIL_INJ_CTRL, .RAIL_INJ_STATUS, .EST_STATUS, .EST_RAIL_GAIN,
    .EST_RAIL_OFS, .OBS_DIE_RET, .OBS_DIE_WAITS, .OBS_DIE_WAIT_MAX, .OBS_DIE_ERR, .OBS_PKG_RET, .OBS_SNAP_STATUS,
    .OBS_SNAP_T, .RING_STATUS, .RING_TRIG_T, .FAB_REL_STATUS, .FAB_TX, .FAB_DROP, .HDG_COMMIT_ID, .HDG_COMMIT_CNT,
    .AGT_STATUS, .AGT_ENG, .AGT_LAST, .AGT_RING_HEAD]

/-- What an agent's interval that ends early may change beside the agent's own counters (R70, R232). -/
def runFallPlaces : List Place :=
  [.BUD_RSN_ACTIVE, .BUD_RSN_CNT, .BUD_RSN_NS, .OBS_DIE_RET, .OBS_DIE_WAITS, .OBS_DIE_WAIT_MAX, .OBS_DIE_ERR,
    .OBS_PKG_RET, .RING_STATUS, .RING_TRIG_T, .STILE_STATUS, .AGT_STATUS, .AGT_ENG, .AGT_LAST, .AGT_RING_HEAD]

/-- What an agent's interval may change beside the agent's own counters (R231, R436). -/
def closePlaces : List Place :=
  [.BUD_RSN_ACTIVE, .BUD_RSN_CNT, .BUD_RSN_NS, .DRP_CNT_MILD, .DRP_CNT_DEEP, .DRP_CNT_SEVERE, .OBS_DIE_RET,
    .OBS_DIE_WAITS, .OBS_DIE_WAIT_MAX, .OBS_DIE_ERR, .OBS_PKG_RET, .RING_STATUS, .RING_TRIG_T, .AGT_STATUS,
    .AGT_ENG, .AGT_LAST, .AGT_RING_HEAD]

/-- What the Heath's release may change beside the words of the OTP (R101, R413, R469). -/
def vaonPlaces : List Place :=
  [.ID_TOPOLOGY, .HEATH_WAKE_CAUSE, .HEATH_EPOCH, .HEATH_BOOT_STATUS, .HEATH_FW_STATUS, .MB_DB_OUT, .FH_PKG,
    .ACC_STATE, .THM_CTRL, .BUD_RSN_ACTIVE, .BUD_RSN_CNT, .BUD_RSN_NS]

/-- What PORST_N changes in the registers beside what it resets and the words of the OTP (R104, R111, R469). -/
def porstPlaces : List Place :=
  [.ID_TOPOLOGY, .HEATH_DOMAIN_STATUS, .HEATH_RESET_CAUSE, .HEATH_FW_STATUS, .ACC_STATE, .THM_CTRL,
    .OBS_SNAP_STATUS, .TIME_STATUS]

/-- The registers that show an agent's counters and its last interval. -/
def State.agentShows (s : State) (c off : Nat) : Prop :=
  off ∈ (s.counterWords c).map (fun p => p.1) ∨ off ∈ (s.intervalWords c []).map (fun p => p.1)

/-- From `s` to `t` a prepared set has been applied: each register that it stages holds its value, the others are as before,
but for those that the applied values set going; of an injection's control register all but EN is as staged (R222, R328). -/
def State.takesSet (s t : State) (vs : SMap Nat) : Prop :=
  (∀ off, wordOff off = false → ¬ inPlaces applyPlaces off →
    t.reg off = match (vs.filter (fun q => q.1 == off)).getLast? with | some q => q.2 % 2 ^ 32 | none => s.reg off) ∧
  ∀ n, n < 4 → ∀ q, (vs.filter (fun q => q.1 == RAIL_INJ_CTRL n)).getLast? = some q →
    bitsOf (t.reg (RAIL_INJ_CTRL n)) 31 1 = bitsOf (q.2 % 2 ^ 32) 31 1

/-- From `s` to `t` no agent has been asked for its stores, and no grant of an engine has been lowered. -/
def State.reclaimsNothing (s t : State) : Prop :=
  ∀ c, s.hasCluster c = true → (t.agent c).reclaim = (s.agent c).reclaim ∧
    ∀ e, e < 4 → ((t.agent c).engine e).grant = ((s.agent c).engine e).grant

/-- From `s` to `t` a grant of an engine has been revoked: it and what was on its way are gone. -/
def State.revokedIn (s t : State) (c e : Nat) : Prop :=
  s.freedBy ((s.agent c).engine e) ≠ 0 ∧ ((t.agent c).engine e).grant = 0 ∧ ((t.agent c).engine e).incoming = none ∧
    ((s.agent c).engine e).counted ≠ 0

end Sys2Proof.Machine

namespace Sys2Proof

open Sys2Proof.Machine

/-- The places that a command may change. -/
def Instr.touches (i : Instr) : List Place :=
  match i with
  | .vaonPorRelease =>
    [.sky, .out, .drp, .ps, .hdg, .lim, .hub, .anyReg]
  | .heathPor =>
    [.staged, .sky, .raises, .levels, .agents, .arb, .drp, .rings, .rails, .avs, .lastInj, .ps, .hdg, .fab,
     .mem, .ses, .cmds, .lim, .win, .est, .thm, .unattended, .rate, .fw, .acc, .hub, .obs, .latches, .held,
     .anyReg]
  | .porstNAssert =>
    [.staged, .sky, .out, .raises, .levels, .agents, .arb, .drp, .rings, .rails, .avs, .lastInj, .ps, .hdg,
     .fab, .mem, .ses, .cmds, .lim, .win, .est, .thm, .unattended, .rate, .fw, .acc, .hub, .obs, .latches,
     .held, .anyReg]
  | .porstNDeassert .. =>
    [.sky, .out, .drp, .ps, .hdg, .lim, .hub, .ID_TOPOLOGY, .HEATH_WAKE_CAUSE, .HEATH_EPOCH, .HEATH_BOOT_STATUS,
     .MB_DB_OUT, .FH_PKG, .BUD_RSN_ACTIVE, .BUD_RSN_CNT, .BUD_RSN_NS]
  | .pllLock =>
    [.sky, .out, .raises, .levels, .agents, .arb, .drp, .rings, .rails, .avs, .ps, .hdg, .mem, .lim, .win, .est,
     .thm, .fw, .hub, .obs, .HEATH_DOMAIN_STATUS, .HEATH_BOOT_STATUS, .OPP_STATUS, .RAIL_STATUS, .EST_STATUS,
     .EST_DIE_E, .EST_UNATTR_E, .EST_PKG_E, .EST_CTX_E, .RING_STATUS, .STILE_STATUS, .AGT_STATUS, .AGT_ENG,
     .AGT_LAST, .AGT_RING_HEAD]
  | .strapExchangeClose =>
    [.now, .sky, .out, .raises, .levels, .agents, .arb, .drp, .rings, .rails, .avs, .ps, .hdg, .lim, .est, .fw,
     .hub, .ID_TOPOLOGY, .HEATH_DOMAIN_STATUS, .HEATH_BOOT_STATUS, .BUD_SHARE, .BUD_SHARE_WIN, .OPP_STATUS,
     .RAIL_STATUS, .RING_STATUS, .HDG_DIE_STATE, .AGT_STATUS, .AGT_ENG, .AGT_LAST, .AGT_RING_HEAD]
  | .sfdpDiscovery .. =>
    [.free, .out, .fw]
  | .flashAbsentTimeout | .vinSettleTimeout | .softstartTimeout .. =>
    [.now, .sky, .out, .raises, .levels, .agents, .arb, .drp, .rings, .rails, .avs, .ps, .hdg, .lim, .est, .fw,
     .hub, .HEATH_DOMAIN_STATUS, .HEATH_BOOT_STATUS, .OPP_STATUS, .RAIL_STATUS, .RING_STATUS, .AGT_STATUS,
     .AGT_ENG, .AGT_LAST, .AGT_RING_HEAD]
  | .slotVerify .. =>
    [.sky, .free, .out, .raises, .levels, .agents, .arb, .drp, .rings, .rails, .avs, .ps, .hdg, .cmds, .lim,
     .est, .fw, .hub, .HEATH_DOMAIN_STATUS, .HEATH_BOOT_STATUS, .HEATH_FW_STATUS, .HEATH_FW_LOAD_CTRL,
     .HEATH_LOG_HEAD, .OPP_STATUS, .RAIL_STATUS, .RING_STATUS, .AGT_STATUS, .AGT_ENG, .AGT_LAST, .AGT_RING_HEAD]
  | .followerImageVerify .. =>
    [.sky, .free, .out, .raises, .levels, .agents, .arb, .drp, .rings, .rails, .avs, .ps, .hdg, .cmds, .lim,
     .est, .fw, .hub, .HEATH_DOMAIN_STATUS, .HEATH_BOOT_STATUS, .HEATH_FW_STATUS, .HEATH_LOG_HEAD, .OPP_STATUS,
     .RAIL_STATUS, .RING_STATUS, .AGT_STATUS, .AGT_ENG, .AGT_LAST, .AGT_RING_HEAD]
  | .imageStart =>
    [.sky, .free, .otp, .out, .raises, .levels, .agents, .arb, .drp, .rings, .rails, .avs, .ps, .hdg, .mem,
     .lim, .win, .est, .thm, .fw, .hub, .HEATH_DOMAIN_STATUS, .HEATH_BOOT_STATUS, .HEATH_FW_VERSION,
     .HEATH_FW_STATUS, .HEATH_FW_COMP, .MB_DB_OUT, .THM_STATUS, .OPP_STATUS, .RAIL_STATUS, .EST_STATUS,
     .EST_DIE_E, .EST_UNATTR_E, .EST_PKG_E, .EST_CTX_E, .RING_STATUS, .AGT_STATUS, .AGT_ENG, .AGT_LAST,
     .AGT_RING_HEAD]
  | .railInRegulation .. =>
    [.sky, .free, .out, .raises, .levels, .agents, .arb, .drp, .rings, .rails, .avs, .ps, .hdg, .mem, .ses,
     .cmds, .lim, .win, .est, .thm, .fw, .hub, .HEATH_DOMAIN_STATUS, .HEATH_BOOT_STATUS, .HEATH_FW_STATUS,
     .MB_DB_IN, .MB_DB_OUT, .CMD_STATUS, .CMD_COUNT, .CMD_LAST, .CMD_MB_CTX, .THM_STATUS, .BUD_CAPS,
     .OPP_STATUS, .ADM_CEILING, .RAIL_STATUS, .RAIL_LOOP, .RAIL_INTEG, .RAIL_SNS, .RAIL_IMEAS, .EST_STATUS,
     .EST_DIE_E, .EST_UNATTR_E, .EST_PKG_E, .EST_CTX_E, .RING_SAMP, .RING_STATUS, .AGT_STATUS, .AGT_ENG,
     .AGT_LAST, .AGT_RING_HEAD]
  | .blockResetWrite .. | .registerWrite .. | .lowWordRead .. | .mbInW1hWrite .. | .mbOutFullClear ..
  | .mbDbInWrite .. | .mbDbOutClear .. | .cmdMbCtxWrite .. | .railCapArm .. | .railCapStop .. | .ringCtrlArm ..
  | .ringCtrlForce .. | .ringCtrlResume .. | .ringLenWrite .. | .timeResync .. | .fhSrcForce ..
  | .fhPendClear .. | .fhFirstClear .. | .phFaultReadmit .. | .siteSuspectClear .. | .budSlowClear ..
  | .fwLoadGo .. | .accCtrlRelock .. | .blockResetComplete =>
    [.staged, .sky, .free, .out, .raises, .levels, .agents, .arb, .drp, .rings, .rails, .avs, .ps, .hdg, .fab,
     .mem, .ses, .cmds, .lim, .win, .est, .thm, .fw, .acc, .hub, .obs, .latches, .held, .anyReg]
  | .stewardDigestCheck .. =>
    [.out, .ps, .hdg, .mem, .ses, .cmds, .fw, .MB_DB_IN, .MB_DB_OUT, .CMD_STATUS, .CMD_COUNT, .CMD_LAST,
     .CMD_MB_CTX]
  | .psRequest .. =>
    [.sky, .free, .out, .levels, .agents, .arb, .drp, .rings, .rails, .avs, .ps, .hdg, .mem, .lim, .win, .est,
     .thm, .hub, .HEATH_DOMAIN_STATUS, .HEATH_WAKE_CAUSE, .THM_STATUS, .OPP_STATUS, .RAIL_STATUS, .EST_STATUS,
     .EST_DIE_E, .EST_UNATTR_E, .EST_PKG_E, .EST_CTX_E, .RING_STATUS, .AGT_STATUS, .AGT_ENG, .AGT_LAST,
     .AGT_RING_HEAD]
  | .psTransitionDone =>
    [.sky, .free, .out, .levels, .agents, .arb, .drp, .rings, .rails, .avs, .ps, .hdg, .mem, .lim, .win, .est,
     .thm, .hub, .HEATH_DOMAIN_STATUS, .THM_STATUS, .OPP_STATUS, .RAIL_STATUS, .EST_STATUS, .EST_DIE_E,
     .EST_UNATTR_E, .EST_PKG_E, .EST_CTX_E, .RING_STATUS, .AGT_STATUS, .AGT_ENG, .AGT_LAST, .AGT_RING_HEAD]
  | .psReqRelease =>
    [.ps]
  | .halfOffRequest .. =>
    [.agents, .arb, .drp, .halfReq, .STILE_STATUS, .AGT_STATUS, .AGT_ENG, .AGT_LAST, .AGT_RING_HEAD]
  | .halfRestart .. =>
    [.halfReq, .STILE_STATUS]
  | .halfOffAckRelease .. =>
    [.STILE_STATUS]
  | .heathWakeEvent .. | .hdgWakeIn =>
    [.sky, .out, .agents, .rings, .rails, .ps, .hdg, .mem, .win, .est, .thm, .HEATH_DOMAIN_STATUS,
     .HEATH_WAKE_CAUSE, .EST_STATUS, .EST_DIE_E, .EST_UNATTR_E, .EST_PKG_E, .EST_CTX_E]
  | .lingerExpiry .. =>
    [.now, .sky, .HEATH_DOMAIN_STATUS]
  | .engClassRise .. | .engClassFall .. | .grantDelivery .. =>
    [.free, .agents, .rings, .RING_STATUS, .RING_TRIG_T, .AGT_STATUS, .AGT_ENG, .AGT_LAST, .AGT_RING_HEAD]
  | .heldQuantaExpiry .. | .clusterIdle .. =>
    [.now, .sky, .agents, .AGT_STATUS, .AGT_ENG, .AGT_LAST, .AGT_RING_HEAD]
  | .clRunFall .. =>
    [.free, .agents, .arb, .drp, .rings, .lim, .anyReg]
  | .clRunRise .. =>
    [.agents, .rings, .lim, .BUD_RSN_ACTIVE, .BUD_RSN_CNT, .BUD_RSN_NS, .RING_STATUS, .AGT_STATUS, .AGT_ENG,
     .AGT_LAST, .AGT_RING_HEAD]
  | .reclaimMessage .. =>
    [.agents, .AGT_STATUS, .AGT_ENG, .AGT_LAST, .AGT_RING_HEAD]
  | .activityIntervalClose .. =>
    [.now, .sky, .agents, .rings, .lim, .obs, .anyReg]
  | .droopDetection .. | .ladderTimerExpiry .. =>
    [.agents, .rings, .lim, .BUD_RSN_ACTIVE, .BUD_RSN_CNT, .BUD_RSN_NS, .DRP_CNT_MILD, .DRP_CNT_DEEP,
     .DRP_CNT_SEVERE, .RING_STATUS, .RING_TRIG_T]
  | .localStopExpiry .. =>
    [.now, .sky, .AGT_STATUS, .AGT_ENG, .AGT_LAST, .AGT_RING_HEAD]
  | .fastCalibrationWindow .. | .detectorReinstate .. =>
    [.agents, .rings, .lim, .BUD_RSN_ACTIVE, .BUD_RSN_CNT, .BUD_RSN_NS, .RING_STATUS]
  | .maintenanceRound .. =>
    [.agents, .rings, .RING_STATUS]
  | .stuckDetector .. =>
    [.now, .sky, .raises, .agents, .rings, .lim, .BUD_RSN_ACTIVE, .BUD_RSN_CNT, .BUD_RSN_NS, .DRP_STUCK,
     .RING_STATUS]
  | .grantRequest .. =>
    [.agents, .arb, .drp, .rings, .lim, .BUD_RSN_ACTIVE, .BUD_RSN_CNT, .BUD_RSN_NS, .RING_STATUS]
  | .proactiveForceEnd .. | .dieForceReleaseStep =>
    [.now, .sky, .drp, .lim, .BUD_RSN_ACTIVE, .BUD_RSN_CNT, .BUD_RSN_NS]
  | .arbiterGrant =>
    [.agents, .arb, .drp, .rings, .lim, .BUD_RSN_ACTIVE, .BUD_RSN_CNT, .BUD_RSN_NS, .RING_STATUS, .STILE_CNT]
  | .waveStepBoundary | .reservationTimeT .. =>
    [.now, .sky, .arb, .drp, .rings, .lim, .BUD_RSN_ACTIVE, .BUD_RSN_CNT, .BUD_RSN_NS, .RING_STATUS]
  | .localGrantReport .. =>
    [.agents, .arb]
  | .pocketRefill .. =>
    [.agents, .arb, .rings, .RING_STATUS, .STILE_CNT, .AGT_STATUS, .AGT_ENG, .AGT_LAST, .AGT_RING_HEAD]
  | .revocationPass =>
    [.now, .sky, .agents, .arb, .drp, .rings, .lim, .BUD_RSN_ACTIVE, .BUD_RSN_CNT, .BUD_RSN_NS, .ADM_STATUS,
     .RING_STATUS, .RING_TRIG_T, .AGT_STATUS, .AGT_ENG, .AGT_LAST, .AGT_RING_HEAD]
  | .reservationStart .. =>
    [.now, .sky, .arb, .rings, .RING_STATUS, .STILE_CNT, .AGT_STATUS, .AGT_ENG, .AGT_LAST, .AGT_RING_HEAD]
  | .reservationEnd .. =>
    [.now, .sky, .arb, .rings, .RING_STATUS, .AGT_STATUS, .AGT_ENG, .AGT_LAST, .AGT_RING_HEAD]
  | .prebiasStart .. =>
    [.now, .sky, .arb]
  | .severeReport .. =>
    [.agents, .drp, .rings, .DRP_FREEZES, .RING_STATUS, .AGT_STATUS, .AGT_ENG, .AGT_LAST, .AGT_RING_HEAD]
  | .freezeExpiry .. =>
    [.now, .sky, .drp, .rings, .RING_STATUS, .AGT_STATUS, .AGT_ENG, .AGT_LAST, .AGT_RING_HEAD]
  | .limiterOperandChange =>
    [.out, .rings, .hdg, .fab, .lim, .BUD_CAPS, .BUD_RSN_ACTIVE, .BUD_RSN_CNT, .BUD_RSN_NS, .OPP_STATUS,
     .ADM_CEILING, .RING_STATUS, .FAB_REL_STATUS, .FAB_TX]
  | .oppStepStart =>
    [.now, .sky, .agents, .lim, .BUD_RSN_ACTIVE, .BUD_RSN_CNT, .BUD_RSN_NS, .OPP_STATUS]
  | .oppFreqHandshakeStart =>
    [.agents, .lim, .OPP_STATUS]
  | .oppFreqAckFall | .fastLimitRelease =>
    [.lim]
  | .oppFreqAck =>
    [.agents, .lim, .BUD_RSN_ACTIVE, .BUD_RSN_CNT, .BUD_RSN_NS, .OPP_STATUS, .OPP_STEPS]
  | .oppFreqTimeout =>
    [.now, .sky, .raises, .lim]
  | .windowSlotBoundary .. =>
    [.now, .sky, .out, .hdg, .win, .BUD_WIN_FILL]
  | .windowDecisionApply .. =>
    [.out, .rings, .hdg, .fab, .lim, .win, .BUD_WIN_CAP, .BUD_CAPS, .BUD_RSN_ACTIVE, .BUD_RSN_CNT, .BUD_RSN_NS,
     .OPP_STATUS, .ADM_CEILING, .RING_STATUS, .RING_TRIG_T, .FAB_REL_STATUS, .FAB_TX]
  | .windowAutonomous .. =>
    [.now, .sky, .out, .rings, .hdg, .fab, .lim, .win, .BUD_WIN_CAP, .BUD_CAPS, .BUD_RSN_ACTIVE, .BUD_RSN_CNT,
     .BUD_RSN_NS, .OPP_STATUS, .ADM_CEILING, .RING_STATUS, .RING_TRIG_T, .FAB_REL_STATUS, .FAB_TX]
  | .fastLimitLatch =>
    [.staged, .sky, .out, .raises, .agents, .drp, .rings, .rails, .ps, .hdg, .fab, .mem, .lim, .win, .est, .thm,
     .HEATH_DOMAIN_STATUS, .HEATH_WAKE_CAUSE, .BUD_CAPS, .BUD_RSN_ACTIVE, .BUD_RSN_CNT, .BUD_RSN_NS,
     .OPP_STATUS, .ADM_CEILING, .RAIL_INJ_CTRL, .RAIL_INJ_STATUS, .EST_STATUS, .EST_DIE_E, .EST_UNATTR_E,
     .EST_PKG_E, .EST_CTX_E, .RING_STATUS, .RING_TRIG_T, .FAB_REL_STATUS, .FAB_TX]
  | .emergencyHoldExpiry =>
    [.now, .sky, .out, .drp, .rings, .hdg, .fab, .lim, .BUD_CAPS, .BUD_RSN_ACTIVE, .BUD_RSN_CNT, .BUD_RSN_NS,
     .OPP_STATUS, .ADM_CEILING, .RING_STATUS, .FAB_REL_STATUS, .FAB_TX]
  | .supplyHoldExpiry =>
    [.now, .sky, .out, .hdg, .fab, .lim, .BUD_CAPS, .BUD_RSN_ACTIVE, .BUD_RSN_CNT, .BUD_RSN_NS, .FAB_REL_STATUS,
     .FAB_TX]
  | .controlSample .. =>
    [.staged, .sky, .free, .out, .raises, .levels, .agents, .arb, .drp, .rings, .rails, .avs, .ps, .hdg, .mem,
     .lim, .win, .est, .thm, .fw, .hub, .HEATH_DOMAIN_STATUS, .HEATH_BOOT_STATUS, .THM_STATUS, .BUD_CAPS,
     .BUD_RSN_ACTIVE, .BUD_RSN_CNT, .BUD_RSN_NS, .OPP_STATUS, .ADM_FF, .RAIL_STATUS, .RAIL_SAT, .RAIL_LOOP,
     .RAIL_INTEG, .RAIL_SNS, .RAIL_IMEAS, .RAIL_PH_FAULT, .RAIL_PH_FAULT_HI, .RAIL_EVENTS, .RAIL_INJ_CTRL,
     .RAIL_INJ_STATUS, .RAIL_CAP_STATUS, .RAIL_CAP_FILL, .EST_STATUS, .EST_DIE_E, .EST_UNATTR_E, .EST_PKG_E,
     .EST_CTX_E, .RING_STATUS, .RING_TRIG_T, .AGT_STATUS, .AGT_ENG, .AGT_LAST, .AGT_RING_HEAD]
  | .holdExpiry .. =>
    [.now, .sky, .free, .out, .raises, .levels, .agents, .arb, .drp, .rings, .rails, .avs, .ps, .hdg, .mem,
     .lim, .win, .est, .thm, .fw, .hub, .HEATH_DOMAIN_STATUS, .HEATH_BOOT_STATUS, .THM_STATUS, .BUD_RSN_ACTIVE,
     .BUD_RSN_CNT, .BUD_RSN_NS, .OPP_STATUS, .RAIL_STATUS, .EST_STATUS, .EST_DIE_E, .EST_UNATTR_E, .EST_PKG_E,
     .EST_CTX_E, .RING_STATUS, .AGT_STATUS, .AGT_ENG, .AGT_LAST, .AGT_RING_HEAD]
  | .phaseShed .. =>
    [.now, .sky, .rings, .rails, .lim, .BUD_RSN_ACTIVE, .BUD_RSN_CNT, .BUD_RSN_NS, .RING_STATUS]
  | .orderedShutdownStart =>
    [.now, .sky, .out, .levels, .agents, .drp, .rings, .rails, .avs, .ps, .hdg, .lim, .est, .hub,
     .HEATH_DOMAIN_STATUS, .OPP_STATUS, .RAIL_STATUS, .RING_STATUS, .AGT_STATUS, .AGT_ENG, .AGT_LAST,
     .AGT_RING_HEAD]
  | .railShutdownDone .. =>
    [.rings, .rails, .ps, .RAIL_STATUS, .RAIL_LOOP, .RAIL_INTEG, .RAIL_SNS, .RAIL_IMEAS, .RING_STATUS]
  | .nextRailShutdown =>
    [.now, .sky, .free, .out, .levels, .agents, .arb, .drp, .rings, .rails, .avs, .ps, .hdg, .mem, .lim, .win,
     .est, .thm, .hub, .HEATH_DOMAIN_STATUS, .THM_STATUS, .OPP_STATUS, .RAIL_STATUS, .EST_STATUS, .EST_DIE_E,
     .EST_UNATTR_E, .EST_PKG_E, .EST_CTX_E, .RING_STATUS, .AGT_STATUS, .AGT_ENG, .AGT_LAST, .AGT_RING_HEAD]
  | .dpwmRecalibration .. =>
    [.now, .sky, .ps, .THM_DPWM_CAL]
  | .avsVinPoll .. =>
    [.sky, .free, .out, .raises, .levels, .agents, .arb, .drp, .rings, .rails, .avs, .ps, .hdg, .mem, .ses,
     .cmds, .lim, .win, .est, .thm, .fw, .hub, .HEATH_DOMAIN_STATUS, .HEATH_BOOT_STATUS, .HEATH_FW_STATUS,
     .MB_DB_IN, .MB_DB_OUT, .CMD_STATUS, .CMD_COUNT, .CMD_LAST, .CMD_MB_CTX, .THM_STATUS, .BUD_CAPS,
     .BUD_RSN_ACTIVE, .BUD_RSN_CNT, .BUD_RSN_NS, .OPP_STATUS, .ADM_CEILING, .RAIL_STATUS, .RAIL0_AVS_READ,
     .RAIL0_AVS_IT, .RAIL0_AVS_STATUS, .EST_STATUS, .EST_DIE_E, .EST_UNATTR_E, .EST_PKG_E, .EST_CTX_E,
     .RING_SAMP, .RING_STATUS, .AGT_STATUS, .AGT_ENG, .AGT_LAST, .AGT_RING_HEAD]
  | .avsStatusRead .. =>
    [.sky, .free, .out, .raises, .levels, .agents, .arb, .drp, .rings, .rails, .avs, .ps, .hdg, .mem, .lim,
     .win, .est, .thm, .fw, .hub, .HEATH_DOMAIN_STATUS, .HEATH_BOOT_STATUS, .HEATH_FW_STATUS, .MB_DB_OUT,
     .THM_STATUS, .BUD_CAPS, .BUD_RSN_ACTIVE, .BUD_RSN_CNT, .BUD_RSN_NS, .OPP_STATUS, .ADM_CEILING,
     .RAIL_STATUS, .RAIL0_AVS_READ, .RAIL0_AVS_IT, .RAIL0_AVS_STATUS, .EST_STATUS, .EST_DIE_E, .EST_UNATTR_E,
     .EST_PKG_E, .EST_CTX_E, .RING_SAMP, .RING_STATUS, .AGT_STATUS, .AGT_ENG, .AGT_LAST, .AGT_RING_HEAD]
  | .vinStale =>
    [.now, .sky, .avs]
  | .avsRetry .. =>
    [.now, .sky, .free, .out, .raises, .levels, .agents, .arb, .drp, .rings, .rails, .avs, .ps, .hdg, .mem,
     .ses, .cmds, .lim, .win, .est, .thm, .fw, .hub, .HEATH_DOMAIN_STATUS, .HEATH_BOOT_STATUS, .HEATH_FW_STATUS,
     .MB_DB_IN, .MB_DB_OUT, .CMD_STATUS, .CMD_COUNT, .CMD_LAST, .CMD_MB_CTX, .THM_STATUS, .BUD_CAPS,
     .BUD_RSN_ACTIVE, .BUD_RSN_CNT, .BUD_RSN_NS, .OPP_STATUS, .ADM_CEILING, .RAIL_STATUS, .RAIL0_AVS_READ,
     .RAIL0_AVS_IT, .RAIL0_AVS_STATUS, .EST_STATUS, .EST_DIE_E, .EST_UNATTR_E, .EST_PKG_E, .EST_CTX_E,
     .RING_SAMP, .RING_STATUS, .AGT_STATUS, .AGT_ENG, .AGT_LAST, .AGT_RING_HEAD]
  | .injectionTimeout .. =>
    [.staged, .now, .sky, .raises, .rings, .rails, .RAIL_INJ_CTRL, .RAIL_INJ_STATUS, .RING_STATUS]
  | .captureFreeze .. =>
    [.rails, .RAIL_CAP_STATUS, .RAIL_CAP_FILL]
  | .estimatorInterval =>
    [.now, .sky, .out, .agents, .rails, .hdg, .win, .est, .thm, .obs, .EST_STATUS, .EST_DIE_P, .EST_DIE_E,
     .EST_UNATTR_E, .EST_PKG_P, .EST_PKG_E, .EST_RAIL_P, .EST_RAIL_DYN, .EST_RAIL_LEAK, .EST_CTX_E, .AGT_PWR]
  | .calibrationMillisecond =>
    [.now, .sky, .rails, .est, .EST_STATUS, .EST_CAL_SKIP, .EST_RAIL_MEAS, .EST_RAIL_GAIN, .EST_RAIL_OFS,
     .EST_RAIL_ERR]
  | .thermalRound .. =>
    [.staged, .now, .sky, .free, .out, .raises, .levels, .agents, .arb, .drp, .rings, .rails, .avs, .ps, .hdg,
     .mem, .ses, .cmds, .lim, .win, .est, .thm, .fw, .hub, .HEATH_DOMAIN_STATUS, .HEATH_WAKE_CAUSE,
     .HEATH_BOOT_STATUS, .CMD_STATUS, .CMD_COUNT, .CMD_LAST, .CMD_EVT, .THM_STATUS, .THM_TEMP, .THM_PKG_TEMP,
     .THM_ENF_STATUS, .THM_EPISODES, .THM_NODE_T, .THM_MEM, .BUD_CAPS, .BUD_RSN_ACTIVE, .BUD_SLOW, .BUD_RSN_CNT,
     .BUD_RSN_NS, .OPP_STATUS, .RAIL_STATUS, .RAIL_INJ_CTRL, .RAIL_INJ_STATUS, .EST_STATUS, .EST_DIE_E,
     .EST_UNATTR_E, .EST_PKG_E, .EST_CTX_E, .RING_STATUS, .RING_TRIG_T, .AGT_STATUS, .AGT_ENG, .AGT_LAST,
     .SITE_TEMP, .SITE_RAW, .SITE_STATUS, .AGT_RING_HEAD]
  | .graceDeadline =>
    [.staged, .now, .sky, .out, .raises, .agents, .rings, .rails, .ps, .hdg, .mem, .ses, .lim, .win, .est, .thm,
     .HEATH_DOMAIN_STATUS, .HEATH_WAKE_CAUSE, .THM_STATUS, .THM_ENF_STATUS, .BUD_CAPS, .BUD_RSN_ACTIVE,
     .BUD_RSN_CNT, .BUD_RSN_NS, .RAIL_INJ_CTRL, .RAIL_INJ_STATUS, .EST_STATUS, .EST_DIE_E, .EST_UNATTR_E,
     .EST_PKG_E, .EST_CTX_E, .RING_STATUS, .RING_TRIG_T]
  | .predictionUpdate =>
    [.now, .sky, .thm, .THM_PRED_STATUS, .THM_NODE_T]
  | .analogTrip .. =>
    [.sky, .free, .out, .raises, .levels, .agents, .arb, .drp, .rings, .rails, .avs, .ps, .hdg, .mem, .ses,
     .lim, .win, .est, .thm, .fw, .hub, .HEATH_DOMAIN_STATUS, .HEATH_WAKE_CAUSE, .HEATH_BOOT_STATUS,
     .THM_STATUS, .OPP_STATUS, .RAIL_STATUS, .EST_STATUS, .EST_DIE_E, .EST_UNATTR_E, .EST_PKG_E, .EST_CTX_E,
     .RING_STATUS, .AGT_STATUS, .AGT_ENG, .AGT_LAST, .SITE_STATUS, .AGT_RING_HEAD]
  | .externalTrip =>
    [.sky, .free, .out, .raises, .levels, .agents, .arb, .drp, .rings, .rails, .avs, .ps, .hdg, .mem, .lim,
     .win, .est, .thm, .fw, .hub, .HEATH_DOMAIN_STATUS, .HEATH_WAKE_CAUSE, .HEATH_BOOT_STATUS, .THM_STATUS,
     .OPP_STATUS, .RAIL_STATUS, .EST_STATUS, .EST_DIE_E, .EST_UNATTR_E, .EST_PKG_E, .EST_CTX_E, .RING_STATUS,
     .AGT_STATUS, .AGT_ENG, .AGT_LAST, .AGT_RING_HEAD]
  | .oscCompensationConversion .. =>
    [.now, .sky, .ps, .thm, .HEATH_DOMAIN_STATUS, .SITE_RAW]
  | .memStackReport .. =>
    [.levels, .lim, .thm, .hub, .THM_MEM, .BUD_RSN_ACTIVE, .BUD_RSN_CNT, .BUD_RSN_NS]
  | .memStackStale .. =>
    [.now, .sky, .raises, .levels, .lim, .hub, .THM_MEM, .BUD_RSN_ACTIVE, .BUD_RSN_CNT, .BUD_RSN_NS]
  | .watchRecord .. =>
    [.obs]
  | .watchSend =>
    [.now, .sky, .out, .hdg, .obs, .OBS_WATCH_B_LO, .OBS_WATCH_B_HI, .OBS_WATCH_E_LO, .OBS_WATCH_E_HI]
  | .linkFlit .. | .heartbeatFlit .. | .strapFlit .. | .stageFlit .. | .abortFlit .. | .cmdDoneFlit .. =>
    [.staged, .sky, .free, .out, .raises, .levels, .agents, .arb, .drp, .rings, .rails, .avs, .ps, .hdg, .fab,
     .mem, .ses, .cmds, .lim, .win, .est, .thm, .fw, .acc, .hub, .HEATH_DOMAIN_STATUS, .HEATH_BOOT_STATUS,
     .HEATH_FW_STATUS, .HEATH_TRACE_MASK, .MB_DB_IN, .MB_DB_OUT, .CMD_STATUS, .CMD_COUNT, .CMD_LAST, .CMD_EVT,
     .CMD_MB_CTX, .FH_SRC, .ACC_STATE, .THM_STATUS, .BUD_RSN_ACTIVE, .BUD_RSN_CNT, .BUD_RSN_NS, .OPP_STATUS,
     .RAIL_STATUS, .RAIL_INJ_CTRL, .RAIL_INJ_STATUS, .EST_STATUS, .EST_DIE_E, .EST_UNATTR_E, .EST_PKG_E,
     .EST_CTX_E, .RING_SAMP, .RING_STATUS, .FAB_REL_STATUS, .FAB_TX, .HDG_STATUS, .HDG_DIE_STATE,
     .HDG_COMMIT_ID, .HDG_COMMIT_CNT, .HDG_DISCARD, .HDG_LINK, .AGT_STATUS, .AGT_ENG, .AGT_LAST, .SITE_CFG,
     .AGT_RING_HEAD]
  | .prepareFlit .. =>
    [.staged, .sky, .free, .out, .raises, .levels, .agents, .arb, .drp, .rings, .rails, .avs, .ps, .hdg, .fab,
     .mem, .ses, .cmds, .lim, .win, .est, .thm, .fw, .acc, .hub, .HEATH_DOMAIN_STATUS, .HEATH_BOOT_STATUS,
     .HEATH_FW_STATUS, .HEATH_TRACE_MASK, .MB_DB_IN, .MB_DB_OUT, .CMD_STATUS, .CMD_COUNT, .CMD_LAST, .CMD_EVT,
     .CMD_MB_CTX, .FH_SRC, .ACC_STATE, .THM_STATUS, .THM_CHECK, .BUD_RSN_ACTIVE, .BUD_CHECK, .BUD_RSN_CNT,
     .BUD_RSN_NS, .OPP_STATUS, .OPP_CHECK, .ADM_CHECK, .DRP_CHECK, .RAIL_STATUS, .RAIL_CHECK, .RAIL_INJ_CTRL,
     .RAIL_INJ_STATUS, .EST_STATUS, .EST_DIE_E, .EST_UNATTR_E, .EST_CHECK, .EST_PKG_E, .EST_CTX_E, .RING_SAMP,
     .RING_STATUS, .FAB_REL_STATUS, .FAB_TX, .FAB_CHECK, .HDG_STATUS, .HDG_DIE_STATE, .HDG_COMMIT_ID,
     .HDG_COMMIT_CNT, .HDG_CHECK, .HDG_DISCARD, .HDG_LINK, .AGT_STATUS, .AGT_ENG, .AGT_LAST, .SITE_CFG,
     .AGT_RING_HEAD]
  | .prepareAckFlit .. | .commitFlit .. =>
    [.staged, .sky, .free, .out, .raises, .levels, .agents, .arb, .drp, .rings, .rails, .avs, .ps, .hdg, .fab,
     .mem, .ses, .cmds, .lim, .win, .est, .thm, .fw, .acc, .hub, .HEATH_DOMAIN_STATUS, .HEATH_BOOT_STATUS,
     .HEATH_FW_STATUS, .HEATH_TRACE_MASK, .MB_DB_IN, .MB_DB_OUT, .CMD_STATUS, .CMD_COUNT, .CMD_LAST, .CMD_EVT,
     .CMD_MB_CTX, .FH_SRC, .ACC_STATE, .THM_STATUS, .BUD_RSN_ACTIVE, .BUD_RSN_CNT, .BUD_RSN_NS, .OPP_STATUS,
     .RAIL_STATUS, .RAIL_INJ_CTRL, .RAIL_INJ_STATUS, .EST_STATUS, .EST_DIE_E, .EST_UNATTR_E, .EST_PKG_E,
     .EST_CTX_E, .RING_SAMP, .RING_STATUS, .FAB_REL_STATUS, .FAB_TX, .HDG_STATUS, .HDG_DIE_STATE,
     .HDG_COMMIT_ID, .HDG_COMMIT_T, .HDG_COMMIT_CNT, .HDG_DISCARD, .HDG_LINK, .AGT_STATUS, .AGT_ENG, .AGT_LAST,
     .SITE_CFG, .AGT_RING_HEAD]
  | .cmdFlit .. =>
    [.staged, .sky, .free, .out, .raises, .levels, .agents, .arb, .drp, .rings, .rails, .avs, .ps, .hdg, .fab,
     .mem, .ses, .cmds, .lim, .win, .est, .thm, .fw, .acc, .hub, .obs, .HEATH_DOMAIN_STATUS, .HEATH_RESET_CAUSE,
     .HEATH_RESET_CTRL, .HEATH_EPOCH, .HEATH_BOOT_STATUS, .HEATH_FW_STATUS, .HEATH_TRACE_MASK, .MB_DB_IN,
     .MB_DB_OUT, .CMD_STATUS, .CMD_COUNT, .CMD_LAST, .CMD_EVT, .CMD_MB_CTX, .FH_STATUS, .FH_FIRST, .FH_FIRST_T,
     .FH_FIRST_SYN, .FH_PKG, .FH_PEND, .FH_LATCHED, .FH_SEEN, .FH_SRC, .ACC_STATE, .ACC_DENIED, .THM_STATUS,
     .BUD_RSN_ACTIVE, .BUD_RSN_CNT, .BUD_RSN_NS, .OPP_STATUS, .RAIL_STATUS, .RAIL_INJ_CTRL, .RAIL_INJ_STATUS,
     .EST_STATUS, .EST_DIE_E, .EST_UNATTR_E, .EST_PKG_E, .EST_CTX_E, .OBS_SNAP_STATUS, .RING_SAMP, .RING_TRIG,
     .RING_TRIG_UNITS, .RING_STATUS, .RING_TRIG_T, .FAB_REL_STATUS, .FAB_TX, .HDG_STATUS, .HDG_DIE_STATE,
     .HDG_COMMIT_ID, .HDG_COMMIT_CNT, .HDG_DISCARD, .HDG_LINK, .STILE_STATUS, .STILE_CNT, .AGT_STATUS, .AGT_ENG,
     .AGT_LAST, .SITE_CFG, .AGT_RING_HEAD]
  | .eventFlit .. =>
    [.staged, .sky, .free, .out, .raises, .levels, .agents, .arb, .drp, .rings, .rails, .avs, .ps, .hdg, .fab,
     .mem, .ses, .cmds, .lim, .win, .est, .thm, .fw, .acc, .hub, .HEATH_DOMAIN_STATUS, .HEATH_BOOT_STATUS,
     .HEATH_FW_STATUS, .HEATH_TRACE_MASK, .MB_DB_IN, .MB_DB_OUT, .CMD_STATUS, .CMD_COUNT, .CMD_LAST, .CMD_EVT,
     .CMD_MB_CTX, .FH_PKG, .FH_SRC, .ACC_STATE, .THM_STATUS, .BUD_RSN_ACTIVE, .BUD_SLOW, .BUD_RSN_CNT,
     .BUD_RSN_NS, .OPP_STATUS, .RAIL_STATUS, .RAIL_INJ_CTRL, .RAIL_INJ_STATUS, .EST_STATUS, .EST_DIE_E,
     .EST_UNATTR_E, .EST_PKG_E, .EST_CTX_E, .RING_SAMP, .RING_STATUS, .FAB_REL_STATUS, .FAB_TX, .HDG_STATUS,
     .HDG_DIE_STATE, .HDG_COMMIT_ID, .HDG_COMMIT_CNT, .HDG_DISCARD, .HDG_LINK, .AGT_STATUS, .AGT_ENG, .AGT_LAST,
     .SITE_CFG, .AGT_RING_HEAD]
  | .energyFlit .. =>
    [.staged, .sky, .free, .out, .raises, .levels, .agents, .arb, .drp, .rings, .rails, .avs, .ps, .hdg, .fab,
     .mem, .ses, .cmds, .lim, .win, .est, .thm, .fw, .acc, .hub, .obs, .HEATH_DOMAIN_STATUS, .HEATH_BOOT_STATUS,
     .HEATH_FW_STATUS, .HEATH_TRACE_MASK, .MB_DB_IN, .MB_DB_OUT, .CMD_STATUS, .CMD_COUNT, .CMD_LAST, .CMD_EVT,
     .CMD_MB_CTX, .FH_SRC, .ACC_STATE, .THM_STATUS, .BUD_RSN_ACTIVE, .BUD_RSN_CNT, .BUD_RSN_NS, .OPP_STATUS,
     .RAIL_STATUS, .RAIL_INJ_CTRL, .RAIL_INJ_STATUS, .EST_STATUS, .EST_DIE_E, .EST_UNATTR_E, .EST_PKG_P,
     .EST_PKG_E, .EST_CTX_E, .RING_SAMP, .RING_STATUS, .FAB_REL_STATUS, .FAB_TX, .HDG_STATUS, .HDG_DIE_STATE,
     .HDG_COMMIT_ID, .HDG_COMMIT_CNT, .HDG_DISCARD, .HDG_LINK, .AGT_STATUS, .AGT_ENG, .AGT_LAST, .SITE_CFG,
     .AGT_RING_HEAD]
  | .thermalFlit .. =>
    [.staged, .sky, .free, .out, .raises, .levels, .agents, .arb, .drp, .rings, .rails, .avs, .ps, .hdg, .fab,
     .mem, .ses, .cmds, .lim, .win, .est, .thm, .fw, .acc, .hub, .HEATH_DOMAIN_STATUS, .HEATH_BOOT_STATUS,
     .HEATH_FW_STATUS, .HEATH_TRACE_MASK, .MB_DB_IN, .MB_DB_OUT, .CMD_STATUS, .CMD_COUNT, .CMD_LAST, .CMD_EVT,
     .CMD_MB_CTX, .FH_SRC, .ACC_STATE, .THM_STATUS, .THM_PKG_TEMP, .BUD_RSN_ACTIVE, .BUD_RSN_CNT, .BUD_RSN_NS,
     .OPP_STATUS, .RAIL_STATUS, .RAIL_INJ_CTRL, .RAIL_INJ_STATUS, .EST_STATUS, .EST_DIE_E, .EST_UNATTR_E,
     .EST_PKG_E, .EST_CTX_E, .RING_SAMP, .RING_STATUS, .FAB_REL_STATUS, .FAB_TX, .HDG_STATUS, .HDG_DIE_STATE,
     .HDG_COMMIT_ID, .HDG_COMMIT_CNT, .HDG_DISCARD, .HDG_LINK, .AGT_STATUS, .AGT_ENG, .AGT_LAST, .SITE_CFG,
     .AGT_RING_HEAD]
  | .levelFlit .. =>
    [.staged, .sky, .free, .out, .raises, .levels, .agents, .arb, .drp, .rings, .rails, .avs, .ps, .hdg, .fab,
     .mem, .ses, .cmds, .lim, .win, .est, .thm, .rate, .fw, .acc, .hub, .HEATH_DOMAIN_STATUS,
     .HEATH_BOOT_STATUS, .HEATH_FW_STATUS, .HEATH_TRACE_MASK, .MB_DB_IN, .MB_DB_OUT, .CMD_STATUS, .CMD_COUNT,
     .CMD_LAST, .CMD_EVT, .CMD_MB_CTX, .FH_SRC, .ACC_STATE, .THM_STATUS, .BUD_RSN_ACTIVE, .BUD_RSN_CNT,
     .BUD_RSN_NS, .OPP_STATUS, .RAIL_STATUS, .RAIL_INJ_CTRL, .RAIL_INJ_STATUS, .EST_STATUS, .EST_DIE_E,
     .EST_UNATTR_E, .EST_PKG_E, .EST_CTX_E, .RING_SAMP, .RING_STATUS, .FAB_REL_STATUS, .FAB_TX, .HDG_STATUS,
     .HDG_DIE_STATE, .HDG_COMMIT_ID, .HDG_COMMIT_CNT, .HDG_DISCARD, .HDG_LINK, .AGT_STATUS, .AGT_ENG, .AGT_LAST,
     .SITE_CFG, .AGT_RING_HEAD]
  | .dataFlit .. =>
    [.staged, .sky, .free, .out, .raises, .levels, .agents, .arb, .drp, .rings, .rails, .avs, .ps, .hdg, .fab,
     .mem, .ses, .cmds, .lim, .win, .est, .thm, .unattended, .fw, .acc, .hub, .obs, .HEATH_DOMAIN_STATUS,
     .HEATH_EPOCH, .HEATH_BOOT_STATUS, .HEATH_FW_STATUS, .HEATH_TRACE_MASK, .MB_DB_IN, .MB_DB_OUT, .CMD_STATUS,
     .CMD_COUNT, .CMD_LAST, .CMD_EVT, .CMD_MB_CTX, .FH_SRC, .ACC_STATE, .THM_STATUS, .BUD_RSN_ACTIVE,
     .BUD_RSN_CNT, .BUD_RSN_NS, .OPP_STATUS, .RAIL_STATUS, .RAIL_INJ_CTRL, .RAIL_INJ_STATUS, .EST_STATUS,
     .EST_DIE_E, .EST_UNATTR_E, .EST_PKG_E, .EST_CTX_E, .OBS_PKG_RET, .OBS_WATCH_0, .OBS_WATCH_4, .OBS_WATCH_8,
     .OBS_WATCH_C, .OBS_WATCH_B_LO, .OBS_WATCH_B_HI, .OBS_WATCH_E_LO, .OBS_WATCH_E_HI, .RING_SAMP, .RING_STATUS,
     .FAB_REL_STATUS, .FAB_TX, .HDG_STATUS, .HDG_DIE_STATE, .HDG_COMMIT_ID, .HDG_COMMIT_CNT, .HDG_DISCARD,
     .HDG_LINK, .AGT_STATUS, .AGT_ENG, .AGT_LAST, .SITE_CFG, .AGT_RING_HEAD]
  | .hdgRetryTimeout .. | .hdgWakeTimeout .. =>
    [.staged, .now, .sky, .free, .out, .raises, .levels, .agents, .arb, .drp, .rings, .rails, .avs, .ps, .hdg,
     .fab, .mem, .ses, .cmds, .lim, .win, .est, .thm, .fw, .acc, .hub, .HEATH_DOMAIN_STATUS, .HEATH_BOOT_STATUS,
     .HEATH_FW_STATUS, .HEATH_TRACE_MASK, .MB_DB_IN, .MB_DB_OUT, .CMD_STATUS, .CMD_COUNT, .CMD_LAST, .CMD_EVT,
     .CMD_MB_CTX, .FH_SRC, .ACC_STATE, .THM_STATUS, .BUD_RSN_ACTIVE, .BUD_RSN_CNT, .BUD_RSN_NS, .OPP_STATUS,
     .RAIL_STATUS, .RAIL_INJ_CTRL, .RAIL_INJ_STATUS, .EST_STATUS, .EST_DIE_E, .EST_UNATTR_E, .EST_PKG_E,
     .EST_CTX_E, .RING_SAMP, .RING_STATUS, .FAB_REL_STATUS, .FAB_TX, .HDG_STATUS, .HDG_DIE_STATE,
     .HDG_COMMIT_ID, .HDG_COMMIT_CNT, .HDG_LINK, .AGT_STATUS, .AGT_ENG, .AGT_LAST, .SITE_CFG, .AGT_RING_HEAD]
  | .heartbeatSend =>
    [.now, .sky, .out, .hdg]
  | .heartbeatMiss .. =>
    [.staged, .sky, .free, .out, .raises, .levels, .agents, .arb, .drp, .rings, .rails, .avs, .ps, .hdg, .fab,
     .mem, .ses, .cmds, .lim, .win, .est, .thm, .fw, .acc, .hub, .HEATH_DOMAIN_STATUS, .HEATH_BOOT_STATUS,
     .HEATH_FW_STATUS, .HEATH_TRACE_MASK, .MB_DB_IN, .MB_DB_OUT, .CMD_STATUS, .CMD_COUNT, .CMD_LAST, .CMD_EVT,
     .CMD_MB_CTX, .FH_SRC, .ACC_STATE, .THM_STATUS, .BUD_RSN_ACTIVE, .BUD_RSN_CNT, .BUD_RSN_NS, .OPP_STATUS,
     .RAIL_STATUS, .RAIL_INJ_CTRL, .RAIL_INJ_STATUS, .EST_STATUS, .EST_DIE_E, .EST_UNATTR_E, .EST_PKG_E,
     .EST_CTX_E, .RING_SAMP, .RING_STATUS, .FAB_REL_STATUS, .FAB_TX, .HDG_STATUS, .HDG_DIE_STATE,
     .HDG_COMMIT_ID, .HDG_COMMIT_CNT, .AGT_STATUS, .AGT_ENG, .AGT_LAST, .SITE_CFG, .AGT_RING_HEAD]
  | .hdgAwakeIn .. =>
    [.out, .hdg, .fab]
  | .prepareTimeout =>
    [.staged, .now, .sky, .free, .out, .raises, .levels, .agents, .arb, .drp, .rings, .rails, .avs, .ps, .hdg,
     .fab, .mem, .ses, .cmds, .lim, .win, .est, .thm, .fw, .hub, .HEATH_DOMAIN_STATUS, .HEATH_BOOT_STATUS,
     .HEATH_FW_STATUS, .MB_DB_OUT, .CMD_STATUS, .CMD_COUNT, .CMD_LAST, .CMD_EVT, .THM_STATUS, .OPP_STATUS,
     .RAIL_STATUS, .EST_STATUS, .EST_DIE_E, .EST_UNATTR_E, .EST_PKG_E, .EST_CTX_E, .RING_SAMP, .RING_STATUS,
     .FAB_REL_STATUS, .FAB_TX, .HDG_DIE_STATE, .HDG_COMMIT_ID, .HDG_COMMIT_CNT, .AGT_STATUS, .AGT_ENG,
     .AGT_LAST, .AGT_RING_HEAD]
  | .commitOrphan =>
    [.staged, .now, .sky, .raises, .hdg, .HDG_COMMIT_CNT]
  | .cmdDoneTimeout .. =>
    [.staged, .now, .sky, .out, .hdg, .mem, .ses, .cmds, .CMD_STATUS, .CMD_COUNT, .CMD_LAST]
  | .commitStart =>
    [.staged, .out, .hdg, .fab, .mem, .ses, .cmds, .lim, .rate, .CMD_STATUS, .CMD_COUNT, .CMD_LAST, .THM_CHECK,
     .BUD_RSN_ACTIVE, .BUD_CHECK, .BUD_RSN_CNT, .BUD_RSN_NS, .OPP_CHECK, .ADM_CHECK, .DRP_CHECK, .RAIL_CHECK,
     .EST_CHECK, .FAB_REL_STATUS, .FAB_TX, .FAB_CHECK, .HDG_COMMIT_ID, .HDG_COMMIT_T, .HDG_COMMIT_CNT,
     .HDG_CHECK]
  | .commitApply =>
    [.staged, .now, .sky, .out, .raises, .levels, .agents, .arb, .drp, .rings, .rails, .avs, .lastInj, .ps,
     .hdg, .fab, .mem, .ses, .cmds, .lim, .win, .est, .thm, .rate, .fw, .hub, .obs, .anyReg]
  | .catchUpTimeout .. =>
    [.staged, .now, .sky, .free, .out, .raises, .levels, .agents, .arb, .drp, .rings, .rails, .avs, .ps, .hdg,
     .fab, .mem, .ses, .cmds, .lim, .win, .est, .thm, .fw, .acc, .hub, .HEATH_DOMAIN_STATUS, .HEATH_BOOT_STATUS,
     .HEATH_FW_STATUS, .HEATH_TRACE_MASK, .MB_DB_IN, .MB_DB_OUT, .CMD_STATUS, .CMD_COUNT, .CMD_LAST, .CMD_EVT,
     .CMD_MB_CTX, .FH_SRC, .ACC_STATE, .THM_STATUS, .BUD_RSN_ACTIVE, .BUD_RSN_CNT, .BUD_RSN_NS, .OPP_STATUS,
     .RAIL_STATUS, .RAIL_INJ_CTRL, .RAIL_INJ_STATUS, .EST_STATUS, .EST_DIE_E, .EST_UNATTR_E, .EST_PKG_E,
     .EST_CTX_E, .RING_SAMP, .RING_STATUS, .FAB_REL_STATUS, .FAB_TX, .HDG_STATUS, .HDG_DIE_STATE,
     .HDG_COMMIT_ID, .HDG_COMMIT_CNT, .AGT_STATUS, .AGT_ENG, .AGT_LAST, .SITE_CFG, .AGT_RING_HEAD]
  | .stileMessage .. =>
    [.out, .rings, .hdg, .MB_DB_OUT, .RING_STATUS, .RING_TRIG_T, .STILE_STATUS, .STILE_CNT]
  | .stileQueueDrain .. =>
    [.out, .rings, .hdg, .mem, .ses, .cmds, .CMD_STATUS, .CMD_COUNT, .CMD_LAST, .STILE_STATUS]
  | .hello .. =>
    [.sky, .out, .raises, .fab, .FAB_TX, .FAB_RX, .FAB_DROP]
  | .helloAck .. | .ackFrame .. | .relPrepare .. | .relAbort .. =>
    [.sky, .out, .fab, .FAB_TX, .FAB_RX, .FAB_DROP]
  | .pace .. | .emerg .. =>
    [.sky, .out, .hdg, .fab, .lim, .rate, .BUD_RSN_ACTIVE, .BUD_RSN_CNT, .BUD_RSN_NS, .FAB_TX, .FAB_RX,
     .FAB_DROP]
  | .relVote .. =>
    [.sky, .out, .hdg, .fab, .FAB_REL_STATUS, .FAB_TX, .FAB_RX, .FAB_DROP]
  | .relCommit .. =>
    [.sky, .out, .hdg, .fab, .FAB_TX, .FAB_RX, .FAB_DROP]
  | .fabRetransmit .. =>
    [.now, .sky, .out, .raises, .fab, .FAB_TX, .FAB_RETX, .FAB_FAIL]
  | .discoveryPeriod | .paceRefresh .. | .voteWaitEnd .. =>
    [.now, .sky, .out, .fab, .FAB_TX]
  | .peerDead .. =>
    [.now, .sky, .raises, .fab]
  | .levelWordExpiry .. =>
    [.now, .sky, .fab, .lim, .rate, .BUD_RSN_ACTIVE, .BUD_RSN_CNT, .BUD_RSN_NS]
  | .levelWordResend .. =>
    [.now, .sky, .out, .hdg, .fab]
  | .originatorWaitEnd .. =>
    [.now, .sky, .out, .fab, .FAB_REL_STATUS, .FAB_TX]
  | .releaseBufferHoldExpiry .. =>
    [.now, .sky, .raises, .fab, .FAB_FAIL]
  | .releaseRetry .. =>
    [.now, .sky, .out, .hdg, .fab, .FAB_REL_STATUS, .FAB_TX]
  | .tpPulse .. =>
    [.sky, .out, .raises, .levels, .arb, .rings, .hdg, .thm, .hub, .TIME_STATUS, .TIME_ERR]
  | .pulseMissing =>
    [.now, .sky, .out, .raises, .levels, .hdg, .hub, .TIME_STATUS]
  | .skylarkHoldover =>
    [.now, .sky, .TIME_STATUS]
  | .resyncApply =>
    [.now, .sky, .out, .levels, .arb, .rings, .hdg, .thm, .hub, .TIME_CTRL, .TIME_STATUS]
  | .memResponse .. =>
    [.staged, .out, .raises, .levels, .hdg, .mem, .ses, .cmds, .lim, .unattended, .fw, .hub, .obs,
     .HEATH_FW_STATUS, .HEATH_FW_LOAD_CTRL, .MB_DB_IN, .MB_DB_OUT, .CMD_SESSION, .CMD_STATUS, .CMD_ERR,
     .CMD_COUNT, .CMD_LAST, .CMD_EVT, .CMD_MB_CTX, .BUD_RSN_ACTIVE, .BUD_RSN_CNT, .BUD_RSN_NS, .OBS_STR_CTRL,
     .OBS_STR_HEAD]
  | .memPortTimeout .. =>
    [.staged, .now, .sky, .out, .raises, .levels, .hdg, .mem, .ses, .cmds, .lim, .unattended, .fw, .hub, .obs,
     .HEATH_FW_STATUS, .HEATH_FW_LOAD_CTRL, .MB_DB_IN, .MB_DB_OUT, .CMD_SESSION, .CMD_STATUS, .CMD_ERR,
     .CMD_COUNT, .CMD_LAST, .CMD_EVT, .CMD_MB_CTX, .BUD_RSN_ACTIVE, .BUD_RSN_CNT, .BUD_RSN_NS, .OBS_STR_CTRL,
     .OBS_STR_HEAD]
  | .commandPickup .. =>
    [.out, .mem, .ses, .cmds, .MB_IN_FULL, .MB_DB_IN, .CMD_STATUS, .CMD_ERR, .CMD_COUNT, .CMD_LAST, .CMD_MB_CTX]
  | .noticePost .. =>
    [.out, .raises, .levels, .hdg, .mem, .ses, .cmds, .lim, .unattended, .hub, .MB_OUT_W0L, .MB_OUT_W0H,
     .MB_OUT_W1L, .MB_OUT_W1H, .MB_OUT_FULL, .MB_DB_IN, .MB_DB_OUT, .CMD_SESSION, .CMD_STATUS, .CMD_ERR,
     .CMD_COUNT, .CMD_LAST, .CMD_MB_CTX, .BUD_RSN_ACTIVE, .BUD_RSN_CNT, .BUD_RSN_NS]
  | .heartbeatTimeout =>
    [.now, .sky, .out, .raises, .levels, .agents, .rings, .rails, .hdg, .mem, .ses, .cmds, .lim, .win, .est,
     .thm, .unattended, .hub, .HEATH_DOMAIN_STATUS, .MB_DB_OUT, .CMD_SESSION, .CMD_STATUS, .CMD_ERR, .CMD_COUNT,
     .CMD_LAST, .BUD_RSN_ACTIVE, .BUD_RSN_CNT, .BUD_RSN_NS, .EST_STATUS, .EST_DIE_E, .EST_UNATTR_E, .EST_PKG_E,
     .EST_CTX_E]
  | .mctpRequest .. =>
    [.sky, .out, .agents, .rings, .rails, .ps, .hdg, .mem, .ses, .cmds, .win, .est, .thm, .HEATH_DOMAIN_STATUS,
     .CMD_STATUS, .CMD_COUNT, .CMD_LAST, .EST_STATUS, .EST_DIE_E, .EST_UNATTR_E, .EST_PKG_E, .EST_CTX_E]
  | .mctpControl .. =>
    [.free, .out, .ses]
  | .pldmRequest .. =>
    [.staged, .free, .out, .hdg, .ses]
  | .attach .. =>
    [.staged, .out, .levels, .hdg, .mem, .ses, .cmds, .lim, .unattended, .hub, .HEATH_EPOCH, .MB_IN_FULL,
     .MB_OUT_FULL, .MB_DB_IN, .CMD_SESSION, .CMD_STATUS, .CMD_COUNT, .CMD_LAST, .CMD_EVT, .CMD_MB_CTX,
     .BUD_RSN_ACTIVE, .BUD_RSN_CNT, .BUD_RSN_NS]
  | .detach .. | .heartbeat .. =>
    [.out, .mem, .ses, .cmds, .MB_DB_IN, .CMD_STATUS, .CMD_COUNT, .CMD_LAST, .CMD_MB_CTX]
  | .fwStatus .. | .abortStage .. | .setOppTable .. | .fabricAssign .. =>
    [.staged, .out, .hdg, .mem, .ses, .cmds, .MB_DB_IN, .CMD_STATUS, .CMD_COUNT, .CMD_LAST, .CMD_MB_CTX]
  | .getInfo .. | .getBudget .. | .captureRead .. =>
    [.free, .out, .hdg, .mem, .ses, .cmds, .MB_DB_IN, .CMD_STATUS, .CMD_COUNT, .CMD_LAST, .CMD_MB_CTX]
  | .stageBudget .. | .setThermal .. | .injectStart .. =>
    [.staged, .out, .hdg, .mem, .ses, .cmds, .MB_DB_IN, .CMD_STATUS, .CMD_COUNT, .CMD_LAST, .CMD_MB_CTX,
     .ACC_DENIED]
  | .commit .. | .loadProfile .. | .dropProfile .. | .announce .. | .barrierHint .. | .joinGroup ..
  | .leaveGroup .. | .snapshot .. | .faultRead .. | .readCounters .. =>
    [.out, .hdg, .mem, .ses, .cmds, .MB_DB_IN, .CMD_STATUS, .CMD_COUNT, .CMD_LAST, .CMD_MB_CTX]
  | .readRing .. =>
    [.out, .rings, .hdg, .mem, .ses, .cmds, .MB_DB_IN, .MB_DB_OUT, .CMD_STATUS, .CMD_COUNT, .CMD_LAST,
     .CMD_MB_CTX, .RING_STATUS, .RING_TRIG_T, .STILE_STATUS, .STILE_CNT]
  | .fabricStatus .. =>
    [.free, .out, .mem, .ses, .cmds, .MB_DB_IN, .CMD_STATUS, .CMD_COUNT, .CMD_LAST, .CMD_MB_CTX]
  | .snapshotComplete =>
    [.now, .sky, .obs, .OBS_SNAP_STATUS]
  | .armTriggerArm .. | .armTriggerForce .. | .armTriggerResume .. =>
    [.out, .rings, .hdg, .mem, .ses, .cmds, .MB_DB_IN, .MB_DB_OUT, .CMD_STATUS, .CMD_COUNT, .CMD_LAST,
     .CMD_MB_CTX, .RING_TRIG, .RING_TRIG_UNITS, .RING_STATUS, .RING_TRIG_T, .STILE_STATUS, .STILE_CNT]
  | .ringPostTimeout =>
    [.now, .sky, .rings, .RING_STATUS]
  | .setWatch .. =>
    [.out, .hdg, .mem, .ses, .cmds, .obs, .MB_DB_IN, .CMD_STATUS, .CMD_COUNT, .CMD_LAST, .CMD_MB_CTX,
     .OBS_WATCH_0, .OBS_WATCH_4, .OBS_WATCH_8, .OBS_WATCH_C, .OBS_WATCH_B_LO, .OBS_WATCH_B_HI, .OBS_WATCH_E_LO,
     .OBS_WATCH_E_HI]
  | .streamPeriod =>
    [.now, .sky, .free, .out, .mem, .obs, .OBS_STR_DROP]
  | .fwStageHost .. | .fwStageBegin .. =>
    [.out, .mem, .ses, .cmds, .fw, .HEATH_FW_STATUS, .MB_DB_IN, .CMD_STATUS, .CMD_COUNT, .CMD_LAST, .CMD_MB_CTX]
  | .fwActivate .. =>
    [.out, .ps, .hdg, .mem, .ses, .cmds, .fw, .HEATH_DOMAIN_STATUS, .HEATH_FW_STATUS, .MB_IN_FULL, .MB_DB_IN,
     .CMD_STATUS, .CMD_ERR, .CMD_COUNT, .CMD_LAST, .CMD_MB_CTX]
  | .fwStageCancel .. =>
    [.out, .hdg, .mem, .ses, .cmds, .fw, .HEATH_FW_STATUS, .MB_DB_IN, .CMD_STATUS, .CMD_COUNT, .CMD_LAST,
     .CMD_EVT, .CMD_MB_CTX]
  | .fwStageChunk .. | .fwStageEnd .. =>
    [.out, .mem, .ses, .cmds, .fw, .MB_DB_IN, .CMD_STATUS, .CMD_COUNT, .CMD_LAST, .CMD_MB_CTX]
  | .fwStageReadback .. | .slotRepairDone =>
    [.out, .hdg, .mem, .ses, .fw, .HEATH_FW_STATUS, .CMD_STATUS, .CMD_EVT]
  | .activationStart =>
    [.now, .sky, .out, .ps, .hdg, .ses, .fw, .HEATH_DOMAIN_STATUS, .HEATH_FW_STATUS]
  | .activationTimeout =>
    [.now, .sky, .free, .out, .levels, .agents, .arb, .drp, .rings, .rails, .avs, .ps, .hdg, .mem, .ses, .cmds,
     .lim, .win, .est, .thm, .fw, .hub, .HEATH_DOMAIN_STATUS, .HEATH_FW_STATUS, .CMD_STATUS, .CMD_COUNT,
     .CMD_LAST, .CMD_EVT, .THM_STATUS, .OPP_STATUS, .RAIL_STATUS, .EST_STATUS, .EST_DIE_E, .EST_UNATTR_E,
     .EST_PKG_E, .EST_CTX_E, .RING_STATUS, .AGT_STATUS, .AGT_ENG, .AGT_LAST, .AGT_RING_HEAD]
  | .activationComplete .. =>
    [.sky, .free, .otp, .out, .raises, .levels, .agents, .arb, .drp, .rings, .rails, .avs, .ps, .hdg, .mem,
     .ses, .cmds, .lim, .win, .est, .thm, .fw, .hub, .HEATH_DOMAIN_STATUS, .HEATH_BOOT_STATUS,
     .HEATH_FW_VERSION, .HEATH_FW_STATUS, .HEATH_FW_COMP, .HEATH_LOG_HEAD, .CMD_STATUS, .CMD_COUNT, .CMD_LAST,
     .CMD_EVT, .THM_STATUS, .OPP_STATUS, .RAIL_STATUS, .EST_STATUS, .EST_DIE_E, .EST_UNATTR_E, .EST_PKG_E,
     .EST_CTX_E, .RING_STATUS, .AGT_STATUS, .AGT_ENG, .AGT_LAST, .AGT_RING_HEAD]
  | .compartmentFault .. =>
    [.sky, .free, .out, .raises, .levels, .ps, .hdg, .mem, .ses, .cmds, .fw, .hub, .HEATH_FW_STATUS,
     .HEATH_FW_COMP, .HEATH_FW_RESTARTS, .HEATH_LOG_HEAD, .CMD_STATUS, .CMD_COUNT, .CMD_LAST, .CMD_EVT]
  | .userRead .. =>
    [.out]
  | .userCapStage .. | .userTimerSet .. =>
    [.out, .fw]
  | .userCapCommit =>
    [.out, .hdg]
  | .userDoorbell .. =>
    [.out, .hdg, .MB_DB_IN, .MB_DB_OUT]
  | .userTimerWake =>
    [.now, .sky, .out, .agents, .rings, .rails, .ps, .hdg, .mem, .win, .est, .thm, .fw, .HEATH_DOMAIN_STATUS,
     .HEATH_WAKE_CAUSE, .EST_STATUS, .EST_DIE_E, .EST_UNATTR_E, .EST_PKG_E, .EST_CTX_E]
  | .userLog .. =>
    [.sky, .out, .ps, .fw, .HEATH_LOG_HEAD]
  | .unlockChallenge .. =>
    [.free, .out, .mem, .ses, .cmds, .acc, .MB_DB_IN, .CMD_STATUS, .CMD_COUNT, .CMD_LAST, .CMD_MB_CTX]
  | .unlockResponsePassword .. | .unlockResponseSignature .. =>
    [.staged, .out, .raises, .drp, .rings, .rails, .hdg, .mem, .ses, .cmds, .lim, .fw, .acc, .HEATH_TRACE_MASK,
     .MB_DB_IN, .CMD_STATUS, .CMD_COUNT, .CMD_LAST, .CMD_MB_CTX, .FH_SRC, .ACC_STATE, .ACC_FAIL,
     .BUD_RSN_ACTIVE, .BUD_RSN_CNT, .BUD_RSN_NS, .RAIL_INJ_CTRL, .RAIL_INJ_STATUS, .RING_STATUS, .SITE_CFG]
  | .relock .. =>
    [.staged, .out, .raises, .drp, .rings, .rails, .hdg, .mem, .ses, .cmds, .lim, .fw, .acc, .HEATH_TRACE_MASK,
     .MB_DB_IN, .CMD_STATUS, .CMD_COUNT, .CMD_LAST, .CMD_MB_CTX, .FH_SRC, .ACC_STATE, .BUD_RSN_ACTIVE,
     .BUD_RSN_CNT, .BUD_RSN_NS, .RAIL_INJ_CTRL, .RAIL_INJ_STATUS, .RING_STATUS, .SITE_CFG]
  | .accessTimerExpiry =>
    [.staged, .now, .sky, .out, .raises, .agents, .drp, .rings, .rails, .hdg, .mem, .lim, .win, .est, .thm, .fw,
     .acc, .HEATH_DOMAIN_STATUS, .HEATH_TRACE_MASK, .FH_SRC, .ACC_STATE, .BUD_RSN_ACTIVE, .BUD_RSN_CNT,
     .BUD_RSN_NS, .RAIL_INJ_CTRL, .RAIL_INJ_STATUS, .EST_STATUS, .EST_DIE_E, .EST_UNATTR_E, .EST_PKG_E,
     .EST_CTX_E, .RING_STATUS, .SITE_CFG]
  | .nonceLapse =>
    [.now, .sky, .acc]
  | .unlockBackoffEnd =>
    [.now, .sky]
  | .faultRaise .. =>
    [.staged, .sky, .free, .out, .raises, .levels, .agents, .arb, .drp, .rings, .rails, .avs, .ps, .hdg, .fab,
     .mem, .ses, .cmds, .lim, .win, .est, .thm, .fw, .hub, .obs, .HEATH_DOMAIN_STATUS, .HEATH_RESET_CAUSE,
     .HEATH_RESET_CTRL, .HEATH_EPOCH, .HEATH_BOOT_STATUS, .HEATH_FW_STATUS, .MB_DB_OUT, .CMD_STATUS, .CMD_COUNT,
     .CMD_LAST, .CMD_EVT, .FH_STATUS, .FH_FIRST, .FH_FIRST_T, .FH_FIRST_SYN, .FH_PKG, .FH_PEND, .FH_LATCHED,
     .FH_SEEN, .THM_STATUS, .BUD_RSN_ACTIVE, .BUD_RSN_CNT, .BUD_RSN_NS, .OPP_STATUS, .RAIL_STATUS,
     .RAIL_INJ_CTRL, .RAIL_INJ_STATUS, .EST_STATUS, .EST_DIE_E, .EST_UNATTR_E, .EST_PKG_E, .EST_CTX_E,
     .OBS_SNAP_STATUS, .RING_STATUS, .FAB_REL_STATUS, .STILE_STATUS, .STILE_CNT, .AGT_STATUS, .AGT_ENG,
     .AGT_LAST, .AGT_RING_HEAD]
  | .faultClear .. =>
    [.out, .raises, .hdg, .mem, .ses, .cmds, .hub, .MB_DB_IN, .CMD_STATUS, .CMD_COUNT, .CMD_LAST, .CMD_MB_CTX,
     .FH_FIRST, .FH_PKG, .FH_PEND]
  | .faultForce .. =>
    [.staged, .sky, .free, .out, .raises, .levels, .agents, .arb, .drp, .rings, .rails, .avs, .ps, .hdg, .fab,
     .mem, .ses, .cmds, .lim, .win, .est, .thm, .fw, .hub, .obs, .HEATH_DOMAIN_STATUS, .HEATH_RESET_CAUSE,
     .HEATH_RESET_CTRL, .HEATH_EPOCH, .HEATH_BOOT_STATUS, .HEATH_FW_STATUS, .MB_DB_IN, .MB_DB_OUT, .CMD_STATUS,
     .CMD_COUNT, .CMD_LAST, .CMD_EVT, .CMD_MB_CTX, .FH_STATUS, .FH_FIRST, .FH_FIRST_T, .FH_FIRST_SYN, .FH_PKG,
     .FH_PEND, .FH_LATCHED, .FH_SEEN, .ACC_DENIED, .THM_STATUS, .BUD_RSN_ACTIVE, .BUD_RSN_CNT, .BUD_RSN_NS,
     .OPP_STATUS, .RAIL_STATUS, .RAIL_INJ_CTRL, .RAIL_INJ_STATUS, .EST_STATUS, .EST_DIE_E, .EST_UNATTR_E,
     .EST_PKG_E, .EST_CTX_E, .OBS_SNAP_STATUS, .RING_STATUS, .FAB_REL_STATUS, .STILE_STATUS, .STILE_CNT,
     .AGT_STATUS, .AGT_ENG, .AGT_LAST, .AGT_RING_HEAD]
  | .hdgFlitDiscard .. =>
    [.out, .HDG_DISCARD, .HDG_LINK]
  | .edvikFrameDiscard .. =>
    [.sky, .FAB_RX, .FAB_DROP]
  | .coreNoProgress .. =>
    [.raises, .levels, .cmds, .fw, .hub, .HEATH_FW_STATUS, .HEATH_FW_RESTARTS]
  | .rstStormEnd =>
    [.now, .sky, .FH_STATUS]
  | .ringWaitTrigExceeded .. =>
    [.now, .sky, .agents, .rings, .RING_STATUS, .RING_TRIG_T]

/-! ### Registers of the commands that reach a register by its offset -/

/-- The register that a write of the register port names. -/
def Instr.portOff (i : Instr) : Option Nat :=
  match i with
  | .registerWrite off _ _ | .ringLenWrite off _ _ => some off
  | .blockResetWrite .. => some HEATH_RESET_CTRL
  | .fwLoadGo .. => some HEATH_FW_LOAD_CTRL
  | .mbInW1hWrite m _ _ => some (MB_IN_W1H m)
  | .mbOutFullClear .. => some MB_OUT_FULL
  | .mbDbInWrite .. => some MB_DB_IN
  | .mbDbOutClear .. => some MB_DB_OUT
  | .cmdMbCtxWrite m _ _ => some (CMD_MB_CTX m)
  | .railCapArm n _ _ | .railCapStop n _ _ => some (RAIL_CAP_CTRL n)
  | .phFaultReadmit n hi _ _ => some (if hi then RAIL_PH_FAULT_HI n else RAIL_PH_FAULT n)
  | .ringCtrlArm .. | .ringCtrlForce .. | .ringCtrlResume .. => some RING_CTRL
  | .timeResync .. => some TIME_CTRL
  | .fhSrcForce k _ _ => some (FH_SRC k)
  | .fhPendClear j _ _ => some (FH_PEND j)
  | .fhFirstClear .. => some FH_FIRST
  | .siteSuspectClear k _ _ => some (SITE_STATUS k)
  | .budSlowClear .. => some BUD_SLOW
  | .accCtrlRelock .. => some ACC_CTRL
  | _ => none

/-- The registers that a command may change where one of its places is any register: the register that it names, those of the
set or of the accesses that it carries out, those of its agent or of the OTP, and the others that are listed by name. -/
def Instr.mayWrite (i : Instr) (s : State) (off : Nat) : Prop :=
  match i with
  | .lowWordRead .. => inPlaces portPlaces off
  | .blockResetComplete => off ∈ s.held.map (fun q => q.off) ∨ inPlaces resetEndPlaces off
  | .commitApply => (∃ p, s.hdg.prepared = some p ∧ off ∈ p.regs.map (fun q => q.1)) ∨ inPlaces applyPlaces off
  | .clRunFall c _ => s.agentShows c off ∨ inPlaces runFallPlaces off
  | .activityIntervalClose c _ _ _ => s.agentShows c off ∨ inPlaces closePlaces off
  | .vaonPorRelease => off ∈ s.otp.words.map (fun p => p.1) ∨ inPlaces vaonPlaces off
  | _ => (∃ o, i.portOff = some o ∧ (off = o ∨ inPlaces portPlaces off)) ∨ i.portOff = none

/-! ### Completion -/

/-- Does the hardware have every unit that the command names? -/
def Instr.unitsExist (i : Instr) (s : State) : Bool :=
  match i with
  | .vaonPorRelease | .heathPor | .porstNAssert | .pllLock | .strapExchangeClose | .sfdpDiscovery ..
  | .flashAbsentTimeout | .slotVerify .. | .followerImageVerify .. | .imageStart | .vinSettleTimeout
  | .blockResetWrite .. | .blockResetComplete | .stewardDigestCheck .. | .psTransitionDone | .psReqRelease
  | .registerWrite .. | .lowWordRead .. | .mbOutFullClear .. | .mbDbInWrite .. | .mbDbOutClear ..
  | .ringCtrlArm .. | .ringCtrlForce .. | .ringCtrlResume .. | .timeResync .. | .fhFirstClear ..
  | .budSlowClear .. | .fwLoadGo .. | .accCtrlRelock .. | .arbiterGrant | .waveStepBoundary | .revocationPass
  | .reservationStart .. | .reservationTimeT .. | .reservationEnd .. | .prebiasStart .. | .dieForceReleaseStep
  | .limiterOperandChange | .oppStepStart | .oppFreqHandshakeStart | .oppFreqAck | .oppFreqAckFall
  | .oppFreqTimeout | .fastLimitLatch | .fastLimitRelease | .emergencyHoldExpiry | .supplyHoldExpiry
  | .orderedShutdownStart | .nextRailShutdown | .dpwmRecalibration .. | .avsVinPoll .. | .vinStale
  | .avsStatusRead .. | .avsRetry .. | .estimatorInterval | .calibrationMillisecond | .thermalRound ..
  | .graceDeadline | .predictionUpdate | .externalTrip | .oscCompensationConversion .. | .watchSend
  | .heartbeatSend | .hdgWakeIn | .prepareTimeout | .commitOrphan | .cmdDoneTimeout .. | .commitStart
  | .commitApply | .hello .. | .helloAck .. | .ackFrame .. | .pace .. | .emerg .. | .relPrepare ..
  | .relVote .. | .relCommit .. | .relAbort .. | .fabRetransmit .. | .discoveryPeriod | .peerDead ..
  | .paceRefresh .. | .levelWordExpiry .. | .levelWordResend .. | .voteWaitEnd .. | .originatorWaitEnd ..
  | .releaseBufferHoldExpiry .. | .releaseRetry .. | .tpPulse .. | .pulseMissing | .skylarkHoldover
  | .resyncApply | .heartbeatTimeout | .mctpRequest .. | .mctpControl .. | .pldmRequest .. | .snapshotComplete
  | .ringPostTimeout | .streamPeriod | .fwStageReadback .. | .activationStart | .activationTimeout
  | .activationComplete .. | .slotRepairDone | .userRead .. | .userCapStage .. | .userCapCommit
  | .userDoorbell .. | .userTimerSet .. | .userTimerWake | .userLog .. | .accessTimerExpiry | .nonceLapse
  | .unlockBackoffEnd | .rstStormEnd | .edvikFrameDiscard .. => true
  | .porstNDeassert _ dieId => decide (dieId < 8)
  | .railInRegulation rail | .softstartTimeout rail | .railCapArm rail _ _ | .railCapStop rail _ _
  | .phFaultReadmit rail _ _ _ | .controlSample rail _ | .holdExpiry rail | .phaseShed rail
  | .railShutdownDone rail | .injectionTimeout rail | .captureFreeze rail => decide (rail < 4)
  | .psRequest req => decide (req < 4)
  | .halfOffRequest half | .halfRestart half | .halfOffAckRelease half | .stileMessage half
  | .stileQueueDrain half => decide (half < 2)
  | .heathWakeEvent cause => decide (cause < 8)
  | .lingerExpiry dom => decide (dom < 2)
  | .mbInW1hWrite m _ _ | .cmdMbCtxWrite m _ _ | .commandPickup m | .noticePost m => decide (m < 32)
  | .ringLenWrite off _ _ => off == RING_LEN || off == RING_SAMP
  | .fhSrcForce i _ _ | .faultRaise i _ => decide (i < 256)
  | .fhPendClear j _ _ => decide (j < 8)
  | .siteSuspectClear site _ _ | .analogTrip site => decide (site < 96)
  | .engClassRise c e cls | .engClassFall c e cls => s.hasCluster c && decide (e < 4) && decide (cls < 8)
  | .heldQuantaExpiry c | .clusterIdle c | .clRunFall c _ | .clRunRise c | .reclaimMessage c
  | .activityIntervalClose c _ _ _ | .droopDetection c _ | .ladderTimerExpiry c _ | .localStopExpiry c
  | .fastCalibrationWindow c _ | .maintenanceRound c _ _ | .stuckDetector c | .detectorReinstate c
  | .localGrantReport c | .pocketRefill c | .severeReport c => s.hasCluster c
  | .grantDelivery c e | .grantRequest c e | .ringWaitTrigExceeded c e => s.hasCluster c && decide (e < 4)
  | .proactiveForceEnd stripe | .freezeExpiry stripe => decide (stripe < 16)
  | .windowSlotBoundary n | .windowDecisionApply n | .windowAutonomous n => decide (n < 4)
  | .memStackReport k _ | .memStackStale k => decide (k < 4)
  | .watchRecord k idx _ => decide (k < 4) && decide (idx < 16)
  | .linkFlit h | .heartbeatFlit h _ _ _ | .strapFlit h _ _ | .stageFlit h _ _ | .prepareFlit h _ _ _ _
  | .prepareAckFlit h _ _ _ | .commitFlit h _ | .abortFlit h _ | .cmdFlit h _ | .cmdDoneFlit h _ _ _
  | .eventFlit h _ | .energyFlit h _ | .thermalFlit h _ _ | .levelFlit h _ _ | .dataFlit h _ => decide (h.src < 8)
  | .hdgRetryTimeout d | .heartbeatMiss d | .hdgAwakeIn d | .catchUpTimeout d | .hdgWakeTimeout d => decide (d < 8)
  | .memResponse tag _ _ | .memPortTimeout tag => decide (tag < 32)
  | .attach m | .detach m | .heartbeat m | .getInfo m | .stageBudget m | .commit m | .abortStage m
  | .getBudget m | .loadProfile m | .dropProfile m | .announce m | .barrierHint m | .setOppTable m
  | .setThermal m | .fabricAssign m | .joinGroup m | .leaveGroup m | .fabricStatus m | .snapshot m
  | .readCounters m | .armTriggerArm m | .armTriggerForce m | .armTriggerResume m | .readRing m | .setWatch m
  | .fwStageHost m | .fwStageBegin m | .fwStageChunk m | .fwStageEnd m | .fwStageCancel m | .fwActivate m
  | .fwStatus m | .unlockChallenge m | .unlockResponsePassword m | .unlockResponseSignature m | .relock m
  | .faultRead m | .faultClear m | .faultForce m | .injectStart m | .captureRead m => decide (m < 33)
  | .compartmentFault comp => decide (comp < 8)
  | .hdgFlitDiscard src _ => decide (src < 8)
  | .coreNoProgress core => decide (core < 2)

/-- Can the command be executed: do the units that it names exist? -/
def Instr.executable (i : Instr) (s : State) : Prop := i.unitsExist s = true

end Sys2Proof
end

