-- ==== Sys2Proof/Certificates/Slice0/Obligations.lean ====
section
/-! DEFINITION. The statements for the provers. -/

open Sys2Proof Sys2Proof.Machine

/-- With a command at the front of the queue, a step is that command's effect on the state with the queue's rest. -/
def Obligations.StepRunsTheFrontCommand : Prop :=
  ∀ (c : Instr) (rest : List Instr) (s : State),
    step { s with pending := c :: rest } = exec c { s with pending := rest }

/-- With no command waiting, a step answers a next state in which the clock is 1 ns further, no command waits, and nothing
but the clock, the time bus, the observation unit's stream queue, the memory port, the outputs and what the firmware writes
of itself (its data in the SRAMs, its log ring with HEATH_LOG_HEAD, R409, R428) has changed. That an idle step lasts 1 ns
and that the firmware acts in it are the model's choices (logs 1 and 167). -/
def Obligations.IdleStepPassesANanosecond : Prop :=
  ∀ s : State, s.pending = [] → ∃ t : State, step s = .next t ∧ t.now = s.now + 1 ∧ t.pending = [] ∧
    s.changesOnly [.now, .sky, .free, .obs, .mem, .out, .ps, .fw, .HEATH_LOG_HEAD] t

/-- The state right after reset meets the invariant: its register store is in canonical form, and nothing is out of
PORST_N while VAON is low. -/
def Obligations.ResetMeetsTheInvariant : Prop :=
  State.Inv State.reset

/-- Every step from a state that meets the invariant leaves a state that meets it: the register store stays in
canonical form whatever is written, and the block never runs while VAON is below its threshold. -/
def Obligations.StepKeepsTheInvariant : Prop :=
  ∀ s t : State, s.Inv → step s = .next t → t.Inv

/-- Whatever a command answers as a next state, every part of the state and every register that is not among the command's
places (Instr.touches) is as before; the installation, the queue of commands and every register of another unit are among
what stays. Where one of the places is any register, the command's registers are those of Instr.mayWrite: the one that it
names, those of the accesses, the set, the agent or the OTP that it carries out, and the others listed by name. As PORST_N
falls every other register takes what its reset domain leaves of it; HEATH_POR leaves each at its reset word. -/
def Obligations.EveryCommandKeepsItsFrame : Prop :=
  ∀ (i : Instr) (s t : State), exec i s = .next t → s.changesOnly i.touches t ∧
    (i ≠ .porstNAssert → i ≠ .heathPor → ∀ off, ¬ i.mayWrite s off → t.reg off = s.reg off) ∧
    (i = .porstNAssert → s.ps.vaon = true → s.ps.porst = true → s.regsCanonical → ∀ off,
      off ∉ s.otp.words.map (fun p => p.1) → ¬ inPlaces porstPlaces off → t.reg off = s.keptWord off (s.reg off)) ∧
    (i = .heathPor → ∀ off, t.reg off = (resetWord off).toNat)

/-- A command whose units the hardware has answers a next state that leaves the installation and the queue of commands
alone; ordinary data never ends a run. The model's choices behind it are those of log 5. -/
def Obligations.CommandsCompleteWhereTheirUnitsExist : Prop :=
  ∀ (i : Instr) (s : State), i.executable s → ∃ t : State, exec i s = .next t ∧ t.tie = s.tie ∧ t.pending = s.pending

/-- A command faults exactly where it names a unit that the hardware does not have. That such a command faults, and not
something else, is the model's choice (log 5). -/
def Obligations.OnlyAMissingUnitFaults : Prop :=
  ∀ (i : Instr) (s : State),
    exec i s = .fault .noSuchUnit ↔ i.unitsExist s = false

/-- No command is ever refused: one that the hardware has the unit for has a next state. -/
def Obligations.NoCommandIsRefused : Prop :=
  ∀ (i : Instr) (s : State),
    (∀ r : Refusal, exec i s ≠ .refused r) ∧ (i.unitsExist s = true → ∃ t, exec i s = .next t)

/-- No command takes back or changes what the block has put on its ports: what a command puts out follows what was put
out before. -/
def Obligations.CommandsOnlyAppendOutputs : Prop :=
  ∀ (i : Instr) (s t : State), exec i s = .next t → ∃ more : List Out, t.out = s.out ++ more

/-- No command sets the clock of the model back, and none changes the installation or the commands that wait. -/
def Obligations.TimeNeverRunsBack : Prop :=
  ∀ (i : Instr) (s t : State), exec i s = .next t →
    s.now ≤ t.now ∧ s.free ≤ t.free ∧ t.tie = s.tie ∧ t.pending = s.pending

/-- HEATH_POR leaves every register at its reset word, nothing staged, no command in execution, no raise, grant, rail,
event ring or session, and the block below VAON and in PORST_N; the tie-offs, OTP and the temperature trip lines stay.
-/
def Obligations.HeathPorClearsEverything : Prop :=
  ∀ s : State, ∃ t : State, exec .heathPor s = .next t ∧
    (∀ off, t.reg off = (resetWord off).toNat) ∧ t.staged = [] ∧ t.cmds = [] ∧ t.raises = [] ∧ t.levels = 0 ∧
    t.agents = [] ∧ t.rails = [] ∧ t.rings = {} ∧ t.ses = {} ∧ t.hub = {} ∧ t.fw = {} ∧ t.sky = {} ∧
    t.ps.vaon = false ∧ t.ps.porst = false ∧ t.tie = s.tie ∧ t.otp = s.otp ∧ t.thm.trips = s.thm.trips ∧
    t.out = s.out

/-- R105: the block epoch increments by 1 at each block reset, whether the host or the fault hub triggers it, and at each
PORST_N deassertion. After 0xFFFF it wraps to 0x0001, and 0x0000 is never used. A trigger that arrives while a block reset
is in progress extends the reset, by counting from that trigger, and does not increment the epoch again. (A write behind an
access that waits for the end of the reset waits with it, R53: it has not arrived.) -/
def Obligations.EveryResetMovesTheBlockEpochOn : Prop :=
  ∀ s : State, s.ps.vaon = true →
    (∀ (l : Bool) (d : Nat), d < 8 → s.ps.porst = false → ∃ t, exec (.porstNDeassert l d) s = .next t ∧
      t.blockEpoch = (if s.blockEpoch = 0xFFFF then 1 else s.blockEpoch + 1) ∧ t.blockEpoch ≠ 0) ∧
    (∀ data, s.portClosed = false → s.leader = true → s.ready = true → (s.inReset = true → s.held = []) →
      ∃ t, exec (.blockResetWrite data .host) s = .next t ∧ t.inReset = true ∧ t.ps.resetAt = s.now ∧
      (s.inReset = false → t.blockEpoch = (if s.blockEpoch = 0xFFFF then 1 else s.blockEpoch + 1) ∧ t.blockEpoch ≠ 0) ∧
      (s.inReset = true → t.blockEpoch = s.blockEpoch)) ∧
    (∀ i syn, i < 256 → s.ps.porst = true → s.ready = true → s.flag (FH_SRC.IMPL i) = true → s.flag (FH_SRC.EN i) = true →
      bitAt (s.fld (FH_SRC.REACT i)) 2 = true → s.recentResets.length < s.fld FH_CTRL.RST_LIMIT →
      ∃ t, exec (.faultRaise i syn) s = .next t ∧ t.inReset = true ∧ t.ps.resetAt = s.now ∧
        (s.inReset = false → t.blockEpoch = (if s.blockEpoch = 0xFFFF then 1 else s.blockEpoch + 1) ∧ t.blockEpoch ≠ 0) ∧
        (s.inReset = true → t.blockEpoch = s.blockEpoch))

/-- R101, R103, R104, R15, R16, R111 step 2, R413, R469: as VAON rises above its POR threshold the Heath leaves its reset and
reads the OTP: the rollback counter, the access state and the number of populated positions follow from it; where PORST_N had
risen before VAON, the block acts as though it rose now. As PORST_N falls, everything outside the Heath is reset: no agent,
rail, command, staged value or raise is left, every domain stops, and PORST is recorded as the cause. That the bits of
HEATH_DOMAIN_STATUS which say that the PLL is locked and which domains run are 0 from then on is deduced: the field's reset
domain is Heath POR, and R15 and R16 stop the PLL and every domain it feeds (log 114). -/
def Obligations.VaonRisesAndPorstFalls : Prop :=
  (∀ s : State, s.ps.vaon = false →
    (s.ps.early = none → ∃ t, exec .vaonPorRelease s = .next t ∧ t.ps = { s.ps with vaon := true } ∧ t.otp = s.otp ∧
      t.fld HEATH_FW_STATUS.COUNTER = s.otp.burned % 2 ^ 7 ∧
      t.fld ACC_STATE.STATE = bnat (t.flag ACC_OTP.FIELD) ∧
      t.fld ID_TOPOLOGY.CLUSTERS = s.clusters.length % 2 ^ 9) ∧
    (∀ l d, s.ps.early = some (l, d) → ∃ t, exec .vaonPorRelease s = .next t ∧ t.ps.vaon = true ∧ t.ps.porst = true ∧
      t.leader = l ∧ t.dieId = d % 8 ∧ t.bootStep = 4)) ∧
  (∀ s : State, s.ps.vaon = true → s.ps.porst = true → ∃ t, exec .porstNAssert s = .next t ∧ t.ps = { vaon := true } ∧
    t.flag HEATH_RESET_CAUSE.PORST = true ∧ t.flag HEATH_DOMAIN_STATUS.PLL_LOCK = false ∧
    t.flag HEATH_DOMAIN_STATUS.CORE_ON = false ∧ t.flag HEATH_DOMAIN_STATUS.STEWARD_ON = false ∧
    t.flag HEATH_DOMAIN_STATUS.DPWM_ON = false ∧ t.agents = [] ∧ t.rails = [] ∧ t.cmds = [] ∧ t.staged = [] ∧
    t.raises = [] ∧ t.levels = 0 ∧ t.now = s.now ∧ t.otp = s.otp)

/-- R28, R105, R111 step 4: as PORST_N rises the straps are sampled, the block epoch moves on (after 0xFFFF to 0x0001),
the PLL starts and start-up is in step 4. A rise before VAON is only remembered. -/
def Obligations.PorstRiseSamplesTheStraps : Prop :=
  ∀ (s : State) (l : Bool) (d : Nat), d < 8 →
    (s.ps.vaon = true → s.ps.porst = false → ∃ t, exec (.porstNDeassert l d) s = .next t ∧
      t.ps = { s.ps with porst := true, booting := true, pllStarting := true, exchange := true, early := none } ∧
      t.leader = l ∧ t.dieId = d ∧ t.bootStep = 4 ∧
      t.blockEpoch = (if s.blockEpoch = 0xFFFF then 1 else s.blockEpoch + 1)) ∧
    (s.ps.vaon = false → exec (.porstNDeassert l d) s = .next { s with ps := { s.ps with early := some (l, d) } })

/-- R111 step 4, R29: with the PLL locked the block core and steward domains run in start-up, and the strap exchange
ends in step 5, or stops start-up with code 0x01 where the straps conflict. -/
def Obligations.StepFourLocksAndJudgesTheStraps : Prop :=
  (∀ s : State, s.ps.porst = true → s.ps.pllStarting = true → s.ps.booting = true → ∃ t, exec .pllLock s = .next t ∧
    t.ps.pllStarting = false ∧ t.ps.lockAt = s.now ∧ t.flag HEATH_DOMAIN_STATUS.PLL_LOCK = true ∧
    t.flag HEATH_DOMAIN_STATUS.CORE_ON = true ∧ t.flag HEATH_DOMAIN_STATUS.STEWARD_ON = true) ∧
  (∀ s : State, s.ps.booting = true → s.ps.exchange = true → s.flag HEATH_DOMAIN_STATUS.PLL_LOCK = true →
    ∃ t, exec .strapExchangeClose s = .next t ∧
      (if s.strapConflict then t.stopped = true ∧ t.fld HEATH_BOOT_STATUS.FAIL = 1
       else t.bootStep = 5 ∧ t.ps.booting = true ∧ t.ps.exchange = false))

/-- R112, R113, R414, R415, R417: the outcome of flash discovery sends the leader's ROM to slot A or to the wait for a
host-loaded image; 10 s of that wait stop start-up with code 0x02. An image that passes is kept and its slot shown; a bad slot
A sends the ROM to slot B, a bad slot B stops start-up with code 0x03, a follower's bad copy with code 0x08. That the SFDP
read has the opcode 0x5A at one lane and three address bytes, and that the quad command which it reports is a free value, is
log 192; that a host-loaded image longer than the bytes that were read fails its judgement is the model's reading (log 169).
-/
def Obligations.ImagesAreFoundAndJudged : Prop :=
  (∀ (s : State) (n : Nat), s.leader = true → s.ps.booting = true → s.bootStep = 5 → s.inReset = false →
    s.flag HEATH_DOMAIN_STATUS.PLL_LOCK = true → s.fw.trying = 0 → s.fw.image = none → s.fw.waitLoad = none →
    (∃ t, exec (.sfdpDiscovery (some n)) s = .next t ∧
      t.fw = { s.fw with flash := some n, trying := 1, quad := some (s.quadMode n) } ∧
      t.out = s.out ++ [.flash { cmd := 0x5A, lanes := 1, kHz := 12500, addrBytes := 3 } .sfdp]) ∧
    (∃ t, exec (.sfdpDiscovery none) s = .next t ∧
      t.fw = { s.fw with flash := none, quad := none, waitLoad := some s.now } ∧
      t.out = s.out ++ [.flash { cmd := 0x5A, lanes := 1, kHz := 12500, addrBytes := 3 } .sfdp])) ∧
  (∀ (s : State) (w : Nat), s.fw.waitLoad = some w → s.ps.booting = true → ∃ t, exec .flashAbsentTimeout s = .next t ∧
    t.stopped = true ∧ t.fld HEATH_BOOT_STATUS.FAIL = 2) ∧
  (∀ (s : State) (img : ImageIn) (k : Nat), s.leader = true → s.romActs = true → s.fw.trying = k → 1 ≤ k → k ≤ 3 →
    (k = 3 → sameBytes s.fw.loaded img.bytes = true) →
    (s.judge img (k != 3) false = 0 → (k = 3 → 4096 + img.bodyLen ≤ s.fw.loaded.length) →
      ∃ t, exec (.slotVerify img) s = .next t ∧ t.fw.image = some img ∧
      t.fw.trying = 0 ∧ t.fw.waitLoad = none ∧ t.fld HEATH_BOOT_STATUS.SLOT = k ∧
      (k = 2 → t.fw.verB = some img.version)) ∧
    ((s.judge img (k != 3) false ≠ 0 ∨ k = 3 ∧ s.fw.loaded.length < 4096 + img.bodyLen) →
      ∃ t, exec (.slotVerify img) s = .next t ∧
      (k = 1 → t.fw.trying = 2) ∧
      (k = 2 → s.fw.reboot = false → t.stopped = true ∧ t.fld HEATH_BOOT_STATUS.FAIL = 3) ∧
      (k = 3 → s.fw.reboot = false → t.flag HEATH_FW_LOAD_CTRL.FAIL = true) ∧
      (k ≠ 1 → s.fw.reboot = true → t.flag HEATH_FW_STATUS.HALTED = true))) ∧
  (∀ (s : State) (img : ImageIn) (slot : Nat) (bytes : List Nat), s.leader = false → s.romActs = true →
    s.fw.copy = some (slot, bytes) → sameBytes bytes img.bytes = true →
    (s.judge img false false = 0 → ∃ t, exec (.followerImageVerify img) s = .next t ∧ t.fw.image = some img ∧
      t.raises = s.raises) ∧
    (s.judge img false false ≠ 0 → s.ps.booting = true → ∃ t, exec (.followerImageVerify img) s = .next t ∧
      t.stopped = true ∧ t.fld HEATH_BOOT_STATUS.FAIL = 8))

/-- R416, R111: the image that every die has verified is loaded, in start-up once the strap exchange of step 4 has closed:
its version is shown, it is no longer waited for, its code is in the SRAMs, and every compartment of the firmware but USER
runs; one that was disabled before a block reset stays so (R418, R419). -/
def Obligations.ImageStartRunsTheFirmware : Prop :=
  ∀ (s : State) (img : ImageIn), s.fw.image = some img → s.romActs = true →
    ∃ t, exec .imageStart s = .next t ∧
    t.fw.running = true ∧ t.fw.image = none ∧ t.fw.sram = img.sram ∧ t.reg HEATH_FW_VERSION = img.version % 2 ^ 32 ∧
    ∀ k, k < 7 → t.fld (HEATH_FW_COMP.STATE k) =
      if s.fw.reboot = true ∧ s.fld (HEATH_FW_COMP.STATE k) = 3 then 3 else 1

/-- R209, R213, R214, R111 steps 6 to 8: 200 µs without a reading near TARGET stop start-up with code 0x04; a rail in
regulation lets the next one of the order soft-start, and after the last rails_ready rises and the die is IDLE; a rail
that misses its bound stops start-up with code 0x06. -/
def Obligations.RailsComeUpInOrder : Prop :=
  (∀ (s : State) (w : Nat), s.ps.porst = true → s.avs.settleAt = some w → s.ps.booting = true →
    ∃ t, exec .vinSettleTimeout s = .next t ∧ t.stopped = true ∧ t.fld HEATH_BOOT_STATUS.FAIL = 4) ∧
  (∀ (s : State) (n : Nat), n < 4 → s.ps.porst = true → s.ps.soft = some n → (s.rail n).state = 1 →
    (s.rail n).ssSearch = none → (s.rail n).ssRun = 64 →
    (∀ m, s.softNext (softAfter n) = some m → ∃ t, exec (.railInRegulation n) s = .next t ∧ t.ps.soft = some m) ∧
    (s.softNext (softAfter n) = none → s.flag HEATH_DOMAIN_STATUS.IN_TRANSIT = false → s.ps.req = none →
      ∃ t, exec (.railInRegulation n) s = .next t ∧ t.ps.railsReady = true ∧ t.ps.soft = none ∧ t.pstate = 2)) ∧
  (∀ (s : State) (n : Nat), n < 4 → s.ps.porst = true → s.ps.soft = some n → (s.rail n).ssSearch = none →
    (s.rail n).ssRun < 64 → s.ps.booting = true →
    ∃ t, exec (.softstartTimeout n) s = .next t ∧ t.stopped = true ∧ t.fld HEATH_BOOT_STATUS.FAIL = 6)

/-- R104, R106, R107: a host's write of BLOCK_RESET once the block is READY starts a block reset: it is shown with its
cause, and commands and staged values are gone. Its completion ends it. A digest that matches what was loaded lets the
firmware go on; another one makes the leader's ROM boot from slot A again. -/
def Obligations.BlockResetRunsAndEnds : Prop :=
  (∀ (s : State) (data : Nat), s.ps.vaon = true → s.portClosed = false → s.leader = true → s.ready = true →
    s.inReset = false → ∃ t, exec (.blockResetWrite data .host) s = .next t ∧ t.inReset = true ∧
      t.flag HEATH_RESET_CAUSE.BLOCK_HOST = true ∧ t.cmds = [] ∧ t.staged = [] ∧ t.ps.resetAt = s.now) ∧
  (∀ s : State, s.inReset = true → s.held = [] → ∃ t, exec .blockResetComplete s = .next t ∧ t.inReset = false ∧ t.held = []) ∧
  (∀ (s : State) (digest : Nat), s.ps.porst = true → s.ps.digestDue = true → s.inReset = false → s.fw.reboot = false →
    s.flag HEATH_FW_STATUS.HALTED = false → s.flag HEATH_DOMAIN_STATUS.STEWARD_ON = true →
    (digest = s.fw.digest → s.fw.running = true → ∃ t, exec (.stewardDigestCheck digest) s = .next t ∧
      t.ps.digestDue = false ∧ t.fw = s.fw) ∧
    (digest ≠ s.fw.digest → s.fw.hostLoaded = false → s.leader = true → ∃ t, exec (.stewardDigestCheck digest) s = .next t ∧
      t.fw = { s.fw with reboot := true, trying := 1 } ∧ t.ps = s.ps))

/-- R42, R43, R89: a power-state request that nothing stands in the way of is acknowledged at once where the die is in that
state, refused with ps_denied and PSTATE_DENIED where R43 refuses it, and else begins its first leg. At a leg's end the die is
in the leg's state; the request is acknowledged there, or its next leg begins. Once the block has raised ps_ack, the fall of
ps_req_vld ends the four-phase handshake: ps_ack and ps_denied fall, no request is held, and nothing else changes. -/
def Obligations.PowerStateRequestsAreAnswered : Prop :=
  (∀ (s : State) (g : Nat), g < 4 → s.ps.porst = true → s.ps.req = none → s.ps.ack = false → s.ps.booting = false →
    s.ps.shut = none → s.ps.bring = false → s.flag HEATH_DOMAIN_STATUS.IN_TRANSIT = false →
    s.fld HEATH_FW_STATUS.ACT ≠ 2 → ∃ t, exec (.psRequest g) s = .next t ∧ t.ps.req = some g ∧
      (if g = s.pstate then t.ps.ack = true ∧ t.ps.denied = false
       else if s.refuses g then t.ps.ack = true ∧ t.ps.denied = true ∧ t.flag HEATH_DOMAIN_STATUS.PSTATE_DENIED = true
       else t.ps.goal = g ∧ t.ps.leg = nextLeg s.pstate g)) ∧
  (∀ s : State, s.ps.porst = true → s.flag HEATH_DOMAIN_STATUS.IN_TRANSIT = true → s.ps.shut = none →
    s.ps.bring = false → s.legReady = true → ∃ t, exec .psTransitionDone s = .next t ∧
      (if s.ps.leg = s.ps.goal then t.pstate = s.ps.leg ∧ t.ps.ack = true ∧ t.ps.denied = false
       else t.ps.leg = nextLeg s.ps.leg s.ps.goal)) ∧
  (∀ s : State, s.ps.porst = true → s.ps.ack = true →
    exec .psReqRelease s = .next { s with ps := { s.ps with req := none, ack := false, denied := false } })

/-- R14, R17, R19, R82, R90: half_off_req pauses a half, and half_off_ack rises once no agent of it runs; both fall again
with the request, the acknowledgement once every agent reports its clock live. A wake event latches its cause and, with
the PLL locked, starts the block core domain; an on-demand domain that has been idle for LINGER gates, one with work in hand
does not. -/
def Obligations.HalvesAndOnDemandDomains : Prop :=
  (∀ (s : State) (h : Nat), h < 2 → s.ps.porst = true → ∃ t, exec (.halfOffRequest h) s = .next t ∧
    t.halfReq = maskSet s.halfReq h ∧
    ((s.halfClusters h).all (fun c => !(s.agent c).run) = true → t.flag (ackBit h) = true)) ∧
  (∀ (s : State) (h : Nat), h < 2 → s.ps.porst = true → ∃ t, exec (.halfRestart h) s = .next t ∧
    t.halfReq = maskClear s.halfReq h) ∧
  (∀ (s : State) (h : Nat), h < 2 → s.ps.porst = true → bitAt s.halfReq h = false →
    (s.halfClusters h).all (fun c => (s.agent c).clkLive) = true →
    exec (.halfOffAckRelease h) s = .next (s.setFlag (ackBit h) false)) ∧
  (∀ (s : State) (cause : Nat), cause < 8 → s.ps.porst = true → ∃ t, exec (.heathWakeEvent cause) s = .next t ∧
    t.reg HEATH_WAKE_CAUSE = maskSet (s.reg HEATH_WAKE_CAUSE) cause % 2 ^ 32 ∧
    (s.flag HEATH_DOMAIN_STATUS.PLL_LOCK = true → t.flag HEATH_DOMAIN_STATUS.CORE_ON = true ∧ t.sky.coreAt = s.now)) ∧
  (∀ s : State, s.ps.porst = true → ∃ t, exec .hdgWakeIn s = .next t ∧
    t.reg HEATH_WAKE_CAUSE = maskSet (s.reg HEATH_WAKE_CAUSE) 7 % 2 ^ 32 ∧
    t.hdg.wakeIn = true ∧
    (s.flag HEATH_DOMAIN_STATUS.PLL_LOCK = true → t.flag HEATH_DOMAIN_STATUS.CORE_ON = true ∧ t.sky.coreAt = s.now)) ∧
  (∀ s : State, s.ps.porst = true →
    (s.pstate = 1 → s.flag HEATH_DOMAIN_STATUS.IN_TRANSIT = false → s.flag HEATH_DOMAIN_CTRL.FORCE_CORE = false →
      s.flag HEATH_DOMAIN_STATUS.CORE_ON = true → s.coreIdle = true → ∃ t, exec (.lingerExpiry 0) s = .next t ∧
        t.flag HEATH_DOMAIN_STATUS.CORE_ON = false ∧
        t.now = max s.now (s.sky.coreAt + 10000 * s.fld HEATH_DOMAIN_CTRL.LINGER)) ∧
    (s.ps.booting = false ∨ s.fw.running = true → s.flag HEATH_DOMAIN_CTRL.FORCE_STEWARD = false →
      s.flag HEATH_DOMAIN_STATUS.STEWARD_ON = true → s.stewardIdle = true →
      ∃ t, exec (.lingerExpiry 1) s = .next t ∧ t.flag HEATH_DOMAIN_STATUS.STEWARD_ON = false ∧
        t.now = max s.now (s.sky.stewAt + 10000 * s.fld HEATH_DOMAIN_CTRL.LINGER)) ∧
    (s.coreIdle = false → exec (.lingerExpiry 0) s = .next s) ∧
    (s.stewardIdle = false → exec (.lingerExpiry 1) s = .next s))

/-- R91, R210: in an ordered shutdown the first rail that is up goes down 2 µs after rails_ready has fallen; at 300 mV its
phases drop and it is OFF; 10 µs later the next rail follows, and with none left the die is in OFF. -/
def Obligations.OrderedShutdownTakesRailByRail : Prop :=
  (∀ (s : State) (k : Shut) (n : Nat), s.ps.shut = some k → k.phase = 0 → s.firstUp = some n →
    ∃ t, exec .orderedShutdownStart s = .next t ∧
      t.ps.shut = some ⟨1, n, max s.now (k.since + 2000), k.why⟩) ∧
  (∀ (s : State) (k : Shut), s.ps.shut = some k → k.phase = 1 → k.rail < 4 → (s.rail k.rail).vref ≤ 64 * 300 →
    ∃ t, exec (.railShutdownDone k.rail) s = .next t ∧ t.ps.shut = some { k with phase := 2, since := s.now } ∧
      (t.rail k.rail).state = 0) ∧
  (∀ (s : State) (k : Shut), s.ps.shut = some k → k.phase = 2 →
    (∀ n, s.firstUp = some n → ∃ t, exec .nextRailShutdown s = .next t ∧
      t.ps.shut = some ⟨1, n, max s.now (k.since + 10000), k.why⟩) ∧
    (s.firstUp = none → s.ps.req = none → k.why ≠ 3 → ∃ t, exec .nextRailShutdown s = .next t ∧ t.ps.shut = none ∧
      t.ps.railsReady = false ∧ t.pstate = 0))

/-- R54: while PORST_N is asserted, reads of the identity region and of HEATH_DOMAIN_STATUS complete with OK and return their
values, at an offset of that region without a register with UNMAPPED (R53); every other access completes with NOT_READY, and
none changes anything. A read of those registers under the reserved privilege code, which R52 calls a denied access, is
answered NOT_READY here, the model's choice (log 134). -/
def Obligations.PortWhilePorstIsAsserted : Prop :=
  ∀ (s : State) (off data : Nat) (who : Who), s.ps.vaon = true → s.ps.porst = false →
    ((off < 0x1000 ∨ off = HEATH_DOMAIN_STATUS) → (findReg off).isSome = true → who ≠ .rsvd →
      exec (.lowWordRead off who) s = .next (s.emit (.reg (s.reg off) 0))) ∧
    (off < 0x1000 → findReg off = none → who ≠ .rsvd → exec (.lowWordRead off who) s = .next (s.emit (.reg 0 2))) ∧
    (¬ (off < 0x1000 ∨ off = HEATH_DOMAIN_STATUS) ∨ who = .rsvd → exec (.lowWordRead off who) s = .next (s.emit (.reg 0 3))) ∧
    exec (.registerWrite off data who) s = .next (s.emit (.reg 0 3))

/-- R375: a write to W1H of an empty inbound slot fills it, is held in the slot and sets its bit in MB_IN_FULL,
with the wake cause of a mailbox write; a write to any word of a full slot is ignored, completes with DENIED, counts as a
denied access and sets the slot's bit in MB_IN_OVERRUN. -/
def Obligations.InboundSlotsFillOnceAndThenRefuse : Prop :=
  ∀ (s : State) (m data : Nat) (who : Who), m < 32 → s.portOpen → s.allowed true .mailbox (MB_IN_W1H m) who = true →
    (bitAt (s.reg MB_IN_FULL) m = false → ∃ t, exec (.mbInW1hWrite m data who) s = .next t ∧
      t.reg (MB_IN_W1H m) = data % 2 ^ 32 ∧ t.reg MB_IN_FULL = maskSet (s.reg MB_IN_FULL) m ∧
      bitAt (t.reg HEATH_WAKE_CAUSE) 5 = true ∧ t.out.getLast? = some (.reg 0 0)) ∧
    (bitAt (s.reg MB_IN_FULL) m = true →
      exec (.mbInW1hWrite m data who) s =
        .next ((s.setReg MB_IN_OVERRUN (maskSet (s.reg MB_IN_OVERRUN) m)).deny) ∧
      ∀ j, j < 4 → exec (.registerWrite (0x2000 + 16 * m + 4 * j) data who) s =
        .next ((s.setReg MB_IN_OVERRUN (maskSet (s.reg MB_IN_OVERRUN) m)).deny))

/-- R377, R380, R391: the host frees outbound slots and clears outbound doorbells by writing 1, sets inbound doorbells
by writing 1, and gives an idle inbound mailbox its source class. -/
def Obligations.MailboxBitsFollowTheHost : Prop :=
  ∀ (s : State) (data : Nat), s.portOpen →
    (s.noTurn → ∃ t, exec (.mbOutFullClear data .host) s = .next t ∧
      t.reg MB_OUT_FULL = maskDiff (s.reg MB_OUT_FULL) (data % 2 ^ 32) ∧ t.out = s.out ++ [.reg 0 0]) ∧
    (∃ t, exec (.mbDbOutClear data .host) s = .next t ∧
      t.reg MB_DB_OUT = maskDiff (s.reg MB_DB_OUT) (data % 2 ^ 32) ∧ t.out = s.out ++ [.reg 0 0]) ∧
    (∃ t, exec (.mbDbInWrite data .host) s = .next t ∧ bitAt (t.reg HEATH_WAKE_CAUSE) 4 = true ∧
      ∀ k, 16 ≤ k → k < 32 → bitAt (t.reg MB_DB_IN) k = (bitAt (s.reg MB_DB_IN) k || bitAt data k)) ∧
    (∀ m, 1 ≤ m → m < 32 → s.ctxWaits → (s.cmd m).isNone = true → bitAt (s.reg MB_IN_FULL) m = false →
      ∃ t, exec (.cmdMbCtxWrite m data .host) s = .next t ∧
        t.fld (CMD_MB_CTX.CTX m) = data % 2 ^ 10 ∧ t.flag (CMD_MB_CTX.EN m) = bitAt data 31)

/-- R6, R23, R33, R52, R53, R55, R252: a write completes with one of the codes OK, DENIED and UNMAPPED, for every requester,
offset and value. A write of a register that sets nothing going beside its fields changes each field by its type: an RW field
takes the value its range allows, W1C bits clear, a staged field's value reaches its staging copy and leaves what is applied
alone, RWL fields need their scope; no other register changes. A requester without the right to write is denied and counted,
and an offset without a register is answered UNMAPPED. A read of a low word answers it and latches its high word for that
requester. That an offset which is not a multiple of 4, or has no register, is answered UNMAPPED before the requester is
judged (but the reserved code at an aligned one, which is denied) is the model's choice (log 38). -/
def Obligations.RegisterPortReadsAndWrites : Prop :=
  ∀ s : State, s.portOpen →
    (∀ data, ∃ t, exec (.registerWrite MB_OUT_MASK data .host) s = .next t ∧ t.reg MB_OUT_MASK = data % 2 ^ 32 ∧
      t.out = s.out ++ [.reg 0 0]) ∧
    (∀ (off data : Nat) (d : RegDesc) (f : FieldDesc), findReg off = some d → off % 4 = 0 → f ∈ d.fields → f.ty = .rws →
      s.absent off = false → ∃ t, exec (.registerWrite off data .host) s = .next t ∧
        bitsOf (t.stagedReg off) f.hi f.lo = bitsOf data f.hi f.lo ∧
        bitsOf (t.reg off) f.hi f.lo = bitsOf (s.reg off) f.hi f.lo) ∧
    (∀ (off data : Nat) (who : Who), ∃ t, exec (.registerWrite off data who) s = .next t ∧
      ∃ code, code < 3 ∧ t.out.getLast? = some (.reg 0 code)) ∧
    (∀ (off data : Nat) (who : Who) (d : RegDesc), findReg off = some d → off % 4 = 0 → plainReg off = true →
      s.absent off = false → (0x3000 ≤ off → s.flag HEATH_DOMAIN_STATUS.CORE_ON = true) →
      (s.allowed true d.wr off who = true → ∃ t, exec (.registerWrite off data who) s = .next t ∧
        (∀ f ∈ d.fields, match f.ty with
          | .rw => bitsOf (t.reg off) f.hi f.lo = if f.min ≤ bitsOf data f.hi f.lo ∧ bitsOf data f.hi f.lo ≤ f.max then
              bitsOf data f.hi f.lo else bitsOf (s.reg off) f.hi f.lo
          | .w1c => bitsOf (t.reg off) f.hi f.lo = maskDiff (bitsOf (s.reg off) f.hi f.lo) (bitsOf data f.hi f.lo)
          | .rwl => bitsOf (t.reg off) f.hi f.lo =
              if s.hasScope d.scope = true then bitsOf data f.hi f.lo else bitsOf (s.reg off) f.hi f.lo
          | .rws => bitsOf (t.stagedReg off) f.hi f.lo = bitsOf data f.hi f.lo ∧
              bitsOf (t.reg off) f.hi f.lo = bitsOf (s.reg off) f.hi f.lo
          | .rwls => bitsOf (t.stagedReg off) f.hi f.lo =
              (if s.hasScope d.scope = true then bitsOf data f.hi f.lo else bitsOf (s.stagedReg off) f.hi f.lo) ∧
              bitsOf (t.reg off) f.hi f.lo = bitsOf (s.reg off) f.hi f.lo
          | .w1s | .stk => bitsOf (t.reg off) f.hi f.lo = bitsOf (s.reg off) f.hi f.lo) ∧
        (∀ o, o ≠ off → o ≠ ACC_DENIED → t.reg o = s.reg o)) ∧
      (s.allowed true d.wr off who = false → ∃ t, exec (.registerWrite off data who) s = .next t ∧
        t.out = s.out ++ [.reg 0 1] ∧ t.fld (whole ACC_DENIED) = min (s.fld (whole ACC_DENIED) + 1) (whole ACC_DENIED).top ∧
        (∀ o, o ≠ ACC_DENIED → t.reg o = s.reg o) ∧ t.staged = s.staged)) ∧
    (∀ (off data : Nat) (who : Who), (off % 4 ≠ 0 ∨ findReg off = none ∧ who ≠ .rsvd ∧ (off < 0xA0000 ∨ 0xB2000 ≤ off)) →
      (0x3000 ≤ off → s.flag HEATH_DOMAIN_STATUS.CORE_ON = true) → ∃ t, exec (.registerWrite off data who) s = .next t ∧
        t.out = s.out ++ [.reg 0 2] ∧ t.regs = s.regs ∧ t.staged = s.staged) ∧
    (∀ (off : Nat) (d : RegDesc), findReg off = some d → off % 4 = 0 → isLowWord off = true → s.flag HEATH_DOMAIN_STATUS.CORE_ON = true →
      ∃ t, exec (.lowWordRead off .host) s = .next t ∧ t.out = s.out ++ [.reg (s.portWord d off % 2 ^ 32) 0] ∧
        t.latchOf .host = some (off, s.portWord d (off + 4) % 2 ^ 32))

/-- R226, R227, R438, R441, R443: ARM clears a capture's buffer and starts recording, STOP freezes a running capture; the ring
trigger is armed, fired with source FORCE and set to record again from its control register, and a change of a ring's length
clears the rings of its kind. A word with both STOP and ARM stops and then arms, an order that is the model's choice (log 38).
-/
def Obligations.CaptureAndRingControls : Prop :=
  ∀ (s : State) (data : Nat), s.portOpen →
    (∀ n, n < 4 → s.built n ≠ 0 → ∃ t, exec (.railCapArm n data .host) s = .next t ∧ t.capState n = 1 ∧
      (t.rail n).cap.armed = true ∧ (t.rail n).cap.samples = [] ∧ t.fld (RAIL_CAP_STATUS.LATE_TRIG n) = 0) ∧
    (∀ n, n < 4 → s.built n ≠ 0 → bitAt data 0 = false → s.capState n = 1 ∨ s.capState n = 2 →
      ∃ t, exec (.railCapStop n data .host) s = .next t ∧ t.capState n = 3 ∧
        (t.rail n).cap.samples = (s.rail n).cap.samples) ∧
    (s.fld RING_STATUS.STATE < 2 → ∃ t, exec (.ringCtrlArm 0 .host) s = .next t ∧ t.fld RING_STATUS.STATE = 1) ∧
    (s.fld RING_STATUS.STATE < 2 → ∃ t, exec (.ringCtrlForce 0 .host) s = .next t ∧ 2 ≤ t.fld RING_STATUS.STATE ∧
      t.fld RING_STATUS.SOURCE = 9 ∧ t.rings.trigAt = s.now) ∧
    (2 ≤ s.fld RING_STATUS.STATE → ∃ t, exec (.ringCtrlForce 0 .host) s = .next t ∧
      t.fld RING_STATUS.LATE = min (s.fld RING_STATUS.LATE + 1) RING_STATUS.LATE.top) ∧
    (∃ t, exec (.ringCtrlResume 0 .host) s = .next t ∧ t.fld RING_STATUS.STATE = 0 ∧ t.fld RING_STATUS.LATE = 0 ∧
      t.rings.arb.frozen = false ∧ t.rings.samp.frozen = false) ∧
    (bitsOf data 18 8 ≠ s.fld RING_LEN.ARB → bitsOf data 18 8 ≤ 1024 → ∃ t, exec (.ringLenWrite RING_LEN data .host) s = .next t ∧
      t.fld RING_LEN.ARB = bitsOf data 18 8 ∧ t.rings.arb.entries = [] ∧ t.rings.arb.next = 0)

/-- R463, R464, R468: a forced raise makes an enabled source pending and never latched; a pending source that is not latched
is cleared by writing 1; where its level condition holds it is raised again, which the model does by a raise on its way to
the hub (log 7); writing 1 to VALID empties the first-error record and leaves the sources pending. -/
def Obligations.HubWritesForceAndClear : Prop :=
  ∀ (s : State) (data : Nat), s.portOpen →
    (∀ i, i < 256 → s.flag (FH_SRC.IMPL i) = true → bitAt data 24 = true → s.hasScope 2 = true →
      ∃ t, exec (.fhSrcForce i data .host) s = .next t ∧ t.srcBit FH_PEND i = true ∧ t.srcBit FH_SEEN i = true ∧
        t.srcBit FH_LATCHED i = s.srcBit FH_LATCHED i ∧ t.flag FH_FIRST.VALID = true ∧
        (s.flag FH_FIRST.VALID = false → t.flag FH_FIRST.FORCED = true ∧ t.fld FH_FIRST.SOURCE = i)) ∧
    (∀ j, j < 8 → ∃ t, exec (.fhPendClear j data .host) s = .next t ∧
      ∀ b, b < 32 → bitAt (t.reg (FH_PEND j)) b =
          (bitAt (s.reg (FH_PEND j)) b && (!bitAt data b || bitAt (s.reg (FH_LATCHED j)) b)) ∧
        (bitAt data b = true → bitAt (s.reg (FH_PEND j)) b = true → bitAt (s.reg (FH_LATCHED j)) b = false →
          (bitAt s.levels (32 * j + b) = true →
            ⟨32 * j + b, SMap.get (fun _ => 0) s.hub.syn (32 * j + b), false⟩ ∈ t.raises) ∧
          (bitAt s.levels (32 * j + b) = false → ∀ r ∈ t.raises, r.src = 32 * j + b → r ∈ s.raises))) ∧
    (∃ t, exec (.fhFirstClear data .host) s = .next t ∧ t.reg FH_FIRST = 0 ∧
      ∀ j, j < 8 → t.reg (FH_PEND j) = s.reg (FH_PEND j))

/-- R189, R273, R281, R366, R417, R476: a host's write of 1 ends the exclusion of a phase whose condition is gone, the
suspicion of a site, a slow-down request and an unlock; it lets a backward step of Skylark time be announced, and starts
the read of a host-loaded image. -/
def Obligations.HostEndsWhatItAcknowledges : Prop :=
  ∀ (s : State) (data : Nat), s.portOpen →
    (∀ n b, n < 4 → s.built n ≠ 0 → b < 32 → ∃ t, exec (.phFaultReadmit n false (2 ^ b) .host) s = .next t ∧
      (s.phaseCause n (SMap.get (fun _ => {}) (s.rail n).phases b) = 0 → t.fld ⟨RAIL_PH_FAULT n, b, b⟩ = 0) ∧
      (s.phaseCause n (SMap.get (fun _ => {}) (s.rail n).phases b) ≠ 0 → t.reg (RAIL_PH_FAULT n) = s.reg (RAIL_PH_FAULT n))) ∧
    (∀ k, k < 96 → ∃ t, exec (.siteSuspectClear k data .host) s = .next t ∧ t.flag (SITE_STATUS.SUSPECT k) = false ∧
      t.fld (SITE_STATUS.DEV_RUN k) = 0 ∧ t.fld (SITE_STATUS.MISS_RUN k) = 0) ∧
    (∃ t, exec (.budSlowClear data .host) s = .next t ∧ t.flag BUD_SLOW.PENDING = false) ∧
    (s.flag TIME_STATUS.BACKSTEP = true → ∃ t, exec (.timeResync data .host) s = .next t ∧
      t.flag TIME_STATUS.RESYNC_WAIT = true) ∧
    (s.fw.waitLoad.isSome = true → s.fw.trying = 0 → s.fw.readLeft = 0 → data % 2 ^ 13 ≠ 0 →
      ∃ t, exec (.fwLoadGo data .host) s = .next t ∧ t.flag HEATH_FW_LOAD_CTRL.GO = true ∧
        t.fw.readLeft = 64 * (data % 2 ^ 13) ∧ t.fw.readAt = s.loadAddr) ∧
    (s.fld ACC_STATE.STATE = 2 → ∃ t, exec (.accCtrlRelock data .host) s = .next t ∧ t.fld ACC_STATE.STATE = 1 ∧
      t.fld ACC_STATE.SCOPE = 0 ∧ t.acc.timerEnd = 0)

/-- R64, R70, R120, R121: a class that rises is granted locally where the stores cover the whole difference and nothing stops
the agent, and is forwarded with its wait begun otherwise; a class that falls below its grant lowers the grant and moves
the difference to held quanta; an agent whose cluster does not run takes every class as idle. -/
def Obligations.ClassesRiseAndFallAtTheAgent : Prop :=
  ∀ (s : State) (c e cls : Nat), s.ps.porst = true → s.hasCluster c = true → e < 4 → cls < 8 →
    ((s.agent c).run = true → ((s.agent c).engine e).req < min cls 4 → ((s.agent c).engine e).grant < min cls 4 →
      ((s.quanta (min cls 4) - s.quanta ((s.agent c).engine e).grant ≤ (s.agent c).heldSum + (s.agent c).pocket ∧
          s.mayGrantLocally c = true) →
        ∃ t, exec (.engClassRise c e cls) s = .next t ∧ ((t.agent c).engine e).req = min cls 4 ∧
          ((t.agent c).engine e).grant = min cls 4 ∧
          (t.agent c).heldSum + (t.agent c).pocket + (s.quanta (min cls 4) - s.quanta ((s.agent c).engine e).grant) =
            (s.agent c).heldSum + (s.agent c).pocket) ∧
      ((s.mayGrantLocally c = false ∨ (s.agent c).heldSum + (s.agent c).pocket <
          s.quanta (min cls 4) - s.quanta ((s.agent c).engine e).grant) →
        ∃ t, exec (.engClassRise c e cls) s = .next t ∧ ((t.agent c).engine e).req = min cls 4 ∧
          ((t.agent c).engine e).grant = ((s.agent c).engine e).grant ∧ ((t.agent c).engine e).sentAt = s.now ∧
          ((t.agent c).engine e).waitFrom.isSome = true ∧ (t.agent c).held = (s.agent c).held ∧
          (t.agent c).pocket = (s.agent c).pocket)) ∧
    ((s.agent c).run = true → cls < ((s.agent c).engine e).req → cls < ((s.agent c).engine e).grant →
      ∃ t, exec (.engClassFall c e cls) s = .next t ∧ ((t.agent c).engine e).req = cls ∧
        ((t.agent c).engine e).grant = cls ∧
        (t.agent c).heldSum = (s.agent c).heldSum + (s.quanta ((s.agent c).engine e).grant - s.quanta cls)) ∧
    ((s.agent c).run = false → exec (.engClassRise c e cls) s = .next s ∧ exec (.engClassFall c e cls) s = .next s)

/-- R70, R122, R123, R140: held quanta that have expired leave the agent, to its pocket or to the half-pool; a cluster
that has been idle for one hysteresis, is reclaimed or stops keeps none, and a cluster that stops has no class and no
grant left; a cluster starts with its clock live. -/
def Obligations.StoresReturnToTheHalfPool : Prop :=
  ∀ (s : State) (c : Nat), s.ps.porst = true → s.hasCluster c = true →
    (∀ q t0 ls, (s.agent c).held = (q, t0) :: ls → ∃ t, exec (.heldQuantaExpiry c) s = .next t ∧
      t.now = max s.now (t0 + s.hyst) ∧ (t.agent c).heldSum ≤ (s.agent c).heldSum ∧
      (∀ p ∈ (t.agent c).held, t.now < p.2 + s.hyst) ∧
      ((s.agent c).active = false → (t.agent c).pocket = (s.agent c).pocket)) ∧
    (∀ t0, (s.agent c).idleSince = some t0 → ∃ t, exec (.clusterIdle c) s = .next t ∧ t.now = max s.now (t0 + s.hyst) ∧
      (t.agent c).held = [] ∧ (t.agent c).pocket = 0) ∧
    ((s.agent c).reclaim = true → ∃ t, exec (.reclaimMessage c) s = .next t ∧ (t.agent c).held = [] ∧
      (t.agent c).pocket = 0 ∧ (t.agent c).reclaim = false) ∧
    (∀ counts, (s.agent c).run = true → ∃ t, exec (.clRunFall c counts) s = .next t ∧ (t.agent c).run = false ∧
      (t.agent c).held = [] ∧ (t.agent c).pocket = 0 ∧
      ∀ e, e < 4 → ((t.agent c).engine e).grant = 0 ∧ ((t.agent c).engine e).req = 0) ∧
    ((s.agent c).run = false → ∃ t, exec (.clRunRise c) s = .next t ∧ (t.agent c).run = true ∧
      (t.agent c).clkLive = true ∧ (t.agent c).idleSince = some s.now)

/-- R125, R131, R132, R133: a request that reaches the arbiter enters its slot with the class it asks for, and is withdrawn
where its class is no more above its grant; a grant that reaches the agent is no longer on its way, and raises the driven
class as far as the engine still asks; a local grant that is reported is charged against credit and unann. -/
def Obligations.RequestsGrantsAndReportsArrive : Prop :=
  (∀ (s : State) (c e : Nat), s.coreRuns = true → s.hasCluster c = true → e < 4 →
    ((s.agent c).run = true → ((s.agent c).engine e).counted < ((s.agent c).engine e).req →
      ∃ t, exec (.grantRequest c e) s = .next t ∧
        (t.arb.slots.any (fun y => y.cluster == c && y.engine == e && y.cls == ((s.agent c).engine e).req)) = true) ∧
    (((s.agent c).engine e).req ≤ ((s.agent c).engine e).counted →
      ∃ t, exec (.grantRequest c e) s = .next t ∧ t.arb.slots = dropSlot s.arb.slots c e)) ∧
  (∀ (s : State) (c e g f : Nat), s.ps.porst = true → s.hasCluster c = true → e < 4 →
    ((s.agent c).engine e).incoming = some (g, f) → ∃ t, exec (.grantDelivery c e) s = .next t ∧
      ((t.agent c).engine e).incoming = none ∧
      (f = ((s.agent c).engine e).grant → f ≤ min g ((s.agent c).engine e).req →
        s.quanta (min g ((s.agent c).engine e).req) ≤ s.quanta g →
        ((t.agent c).engine e).grant = min g ((s.agent c).engine e).req)) ∧
  (∀ (s : State) (c : Nat) (q : Int) (rest : List Int), s.coreRuns = true → s.hasCluster c = true →
    (s.agent c).reports = q :: rest → ∃ t, exec (.localGrantReport c) s = .next t ∧ (t.agent c).reports = rest ∧
      t.arb = { s.arb with credit := s.arb.credit - (if 0 < q then q * 1024 else 0),
                           unann := s.arb.unann - (if 0 < q then q * 1024 else 0), ff := s.arb.ff + q })

/-- R124, R127, R131, R136, R140: with no wave, a single waiting request that passes every test is granted and charged, and
its slot is empty; a pocket is refilled without a charge; a revocation pass runs for a nanosecond of downward slope, and one
with nothing left above the ceiling ends. The pass takes unclaimed quanta of reservations first, then asks every store back,
and only then revokes grants, of contexts above their cap first, above their floor next, and of the others last, within the
allowance that the downward slope gives (how that is metered is the model's choice, log 144). -/
def Obligations.ArbiterGrantsRefillsAndRevokes : Prop :=
  (∀ (s : State) (sl : ReqSlot), s.coreRuns = true → s.admits = true → s.excess = 0 → s.arb.slots = [sl] → s.arb.resvs = [] →
    s.arb.wave = false → s.requested < s.fld ADM_WAVE.THRESH → s.frozen (stripeOf sl.cluster) = false →
    s.paused (halfOf sl.cluster) = false → sl.engine < 4 →
    s.ctxOut (s.ctxOf sl.cluster) + s.slotNeed sl ≤ s.capQ (s.ctxOf sl.cluster) → 0 < s.arb.credit → 0 < s.arb.unann →
    (s.slotNeed sl : Int) ≤ s.roomFor (s.ctxOf sl.cluster) → s.halfFits (halfOf sl.cluster) (s.slotNeed sl) = true →
    ∃ t, exec .arbiterGrant s = .next t ∧ t.arb.slots = [] ∧
      (((t.agent sl.cluster).engine sl.engine).incoming.map (fun p => p.1)) = some sl.cls ∧
      t.arb.credit = s.arb.credit - (s.slotNeed sl * 1024 : Nat) ∧ t.arb.unann = s.arb.unann - (s.slotNeed sl * 1024 : Nat)) ∧
  (∀ (s : State) (c : Nat), s.coreRuns = true → s.hasCluster c = true → s.admits = true → (s.agent c).active = true →
    s.flag (AGT_CFG.POCKET_EN c) = true → s.excess = 0 → s.arb.slots = [] → s.ctxOut (s.ctxOf c) < s.capQ (s.ctxOf c) →
    0 < s.arb.credit → s.frozen (stripeOf c) = false → s.paused (halfOf c) = false → (s.agent c).reclaim = false →
    0 < min (s.fld ADM_POCKET.SIZE - (s.agent c).pocket) (min (s.roomFor (s.ctxOf c)).toNat (s.capQ (s.ctxOf c) - s.ctxOut (s.ctxOf c))) →
    s.halfFits (halfOf c) (min (s.fld ADM_POCKET.SIZE - (s.agent c).pocket)
      (min (s.roomFor (s.ctxOf c)).toNat (s.capQ (s.ctxOf c) - s.ctxOut (s.ctxOf c)))) = true →
    ∃ t, exec (.pocketRefill c) s = .next t ∧ t.arb = s.arb ∧
      (t.agent c).pocket = (s.agent c).pocket + min (s.fld ADM_POCKET.SIZE - (s.agent c).pocket)
        (min (s.roomFor (s.ctxOf c)).toNat (s.capQ (s.ctxOf c) - s.ctxOut (s.ctxOf c)))) ∧
  (∀ s : State, s.coreRuns = true →
    (s.excess = 0 → s.arb.revoking = true → ∃ t, exec .revocationPass s = .next t ∧ t.arb.revoking = false ∧ t.agents = s.agents) ∧
    (0 < s.excess → ∃ t, exec .revocationPass s = .next t ∧ t.now = s.now + 1 ∧ t.arb.revoking = decide (0 < t.excess) ∧
      (s.excess ≤ (s.arb.resvs.map (fun r => (r.unclaimed.map (fun p => p.2)).sum)).sum → t.excess = 0 ∧ s.reclaimsNothing t) ∧
      (∀ c e, s.hasCluster c = true → e < 4 → s.revokedIn t c e →
        0 < (if s.arb.revoking then s.arb.allow else 0) + slopeQuanta (s.fld ADM_SLOPE_DN.DN) (if s.arb.revoking then s.now + 1 - s.arb.revAt else 1) ∧
        (∀ d, s.hasCluster d = true → (t.agent d).stored = 0 ∨ (t.agent d).reclaim = true) ∧
        (s.ctxOut (s.ctxOf c) ≤ s.capQ (s.ctxOf c) → ∀ d f, s.hasCluster d = true → f < 4 →
          t.freedBy ((t.agent d).engine f) ≠ 0 → t.ctxOut (t.ctxOf d) ≤ t.capQ (t.ctxOf d)) ∧
        (s.ctxOut (s.ctxOf c) ≤ s.capQ (s.ctxOf c) → s.ctxOut (s.ctxOf c) ≤ s.floorQ (s.ctxOf c) → ∀ d f, s.hasCluster d = true → f < 4 →
          t.freedBy ((t.agent d).engine f) ≠ 0 → t.ctxOut (t.ctxOf d) ≤ t.floorQ (t.ctxOf d)))))

/-- R130, R135, R147, R148, R150: at a step boundary credit and unann refill up to what one step gives and the grants of the
step are counted anew; a reservation becomes live at its start, begins a wave or joins one at its T, requests its pre-bias
before that, and is gone at its end. -/
def Obligations.StepsAndReservationsRunTheirCourse : Prop :=
  (∀ s : State, s.coreRuns = true → s.admits = true → ∃ t, exec .waveStepBoundary s = .next t ∧ t.arb.stepAt = t.skyNs ∧
    t.arb.stepGrants = 0 ∧ t.arb.stepQuanta = 0 ∧
    t.arb.credit = min (s.arb.credit + slopeQuanta (max (s.fld ADM_SLOPE.UP) s.announcedSlope) (s.fld ADM_WAVE.STEP))
      (slopeQuanta (max (s.fld ADM_SLOPE.UP) s.announcedSlope) (s.fld ADM_WAVE.STEP)) ∧
    t.arb.unann = min (s.arb.unann + slopeQuanta (s.fld ADM_SLOPE.UP) (s.fld ADM_WAVE.STEP))
      (slopeQuanta (s.fld ADM_SLOPE.UP) (s.fld ADM_WAVE.STEP))) ∧
  (∀ (s : State) (id : Nat) (r : Reservation), s.coreRuns = true → s.arb.resvs.find? (fun x => x.id == id && !x.live) = some r →
    ∃ t, exec (.reservationStart id) s = .next t ∧ r.startAt ≤ t.skyNs ∧
      t.arb.resvs.any (fun x => x.id == id && x.live) = true) ∧
  (∀ (s : State) (id : Nat) (r : Reservation), s.coreRuns = true → s.admits = true →
    s.arb.resvs.find? (fun x => x.id == id && x.live && !x.joined) = some r →
    (0 < r.open_ (fun _ => true) ∨ s.arb.wave = true) →
    ∃ t, exec (.reservationTimeT id) s = .next t ∧ r.t ≤ t.skyNs ∧ t.arb.wave = true ∧
      t.arb.resvs.any (fun x => x.id == id && x.joined) = true) ∧
  (∀ (s : State) (id : Nat) (r : Reservation), s.coreRuns = true → s.arb.resvs.find? (fun x => x.id == id && x.live) = some r →
    r.prebias = true → 0 < (r.shares.map (fun p => p.2)).sum → r.claimed = false →
    ∃ t, exec (.prebiasStart id) s = .next t ∧ t.arb.resvs.any (fun x => x.id == id && x.biasOn) = true) ∧
  (∀ (s : State) (id : Nat) (r : Reservation), s.coreRuns = true → s.arb.resvs.find? (fun x => x.id == id) = some r →
    ∃ t, exec (.reservationEnd id) s = .next t ∧ r.endAt ≤ t.skyNs ∧ t.arb.resvs.any (fun x => x.id == id) = false)

/-- R231, R232, R316, R441: a message to an agent of a running half goes through; to a stopped half it waits in the queue,
whose wake bit is set, and the queue drains, in order, once every agent of the half reports its clock live. An interval
closes with its counts, to which those of an interval that ended early are added, and a grant wait longer than
RING_WAIT_TRIG is an event of the ring trigger. -/
def Obligations.StileQueuesIntervalsAndLongWaits : Prop :=
  (∀ (s : State) (h : Nat), h < 2 → s.coreRuns = true →
    (s.asleep h = false → s.stileCount h = 0 → exec (.stileMessage h) s = .next (s.emit (.stile h))) ∧
    (s.asleep h = true → s.stileCount h < 64 → ∃ t, exec (.stileMessage h) s = .next t ∧
      t.stileCount h = s.stileCount h + 1 ∧ t.flag (stileWake h) = true) ∧
    ((s.halfClusters h).all (fun c => (s.agent c).clkLive) = true → ∃ t, exec (.stileQueueDrain h) s = .next t ∧
      t.stileCount h = 0 ∧ t.flag (stileWake h) = false ∧ t.hdg.stileQ = s.hdg.stileQ.filter (fun p => p.1 != h) ∧
      (s.hdg.stileQ.filter (fun p => p.1 == h) = [] → t.out = s.out ++ List.replicate (s.stileCount h) (.stile h)))) ∧
  (∀ (s : State) (c edges code : Nat) (counts : List Nat), s.ps.porst = true → s.hasCluster c = true → (s.agent c).run = true →
    ∃ t, exec (.activityIntervalClose c edges code counts) s = .next t ∧ (t.agent c).fresh = true ∧
      (t.agent c).closed = addCounts (s.agent c).early counts ∧ (t.agent c).early = [] ∧
      (t.agent c).closedPartial = false) ∧
  (∀ (s : State) (c e t0 : Nat), s.ps.porst = true → s.hasCluster c = true → e < 4 →
    ((s.agent c).engine e).waitFrom = some t0 → ((s.agent c).engine e).exceeded = false →
    ∃ t, exec (.ringWaitTrigExceeded c e) s = .next t ∧ ((t.agent c).engine e).exceeded = true ∧
      t.now = max s.now (t0 + s.reg RING_WAIT_TRIG + 1) ∧
      (s.fld RING_STATUS.STATE = 1 → bitAt (s.fld RING_TRIG.SOURCES) 7 = true → 2 ≤ t.fld RING_STATUS.STATE ∧
        t.fld RING_STATUS.SOURCE = 7))

/-- R164, R170, R174: at an edge, also one while cl_run is low, the detected level follows the code (NOMINAL counts only
while it is high), and the ladder rises at once to the higher of the detected and the forced level, holds there, or counts
its timer down and drops a step; the timer's end drops one step, and the local stop of grants ends GRANT_HOLD of Skylark
time after the last SEVERE edge. -/
def Obligations.EdgesMoveTheLadder : Prop :=
  ∀ (s : State) (c code : Nat), s.ps.porst = true → s.hasCluster c = true →
    (∃ t, exec (.droopDetection c code) s = .next t ∧ (t.agent c).det.d = s.detected c code ∧
      (t.agent c).cnt.nominal =
        (if (s.agent c).run then ((s.agent c).cnt.nominal + 1) % 2 ^ 64 else (s.agent c).cnt.nominal) ∧
      (if (s.agent c).det.lvl < max (s.detected c code) (s.forcedLevel c) then
         (t.agent c).det.lvl = max (s.detected c code) (s.forcedLevel c) ∧ (t.agent c).det.timer = 16
       else if max (s.detected c code) (s.forcedLevel c) = (s.agent c).det.lvl then
         (t.agent c).det.lvl = (s.agent c).det.lvl ∧ (0 < (s.agent c).det.lvl → (t.agent c).det.timer = 16)
       else if (s.agent c).det.timer ≤ 1 then (t.agent c).det.lvl = (s.agent c).det.lvl - 1
       else (t.agent c).det.lvl = (s.agent c).det.lvl ∧ (t.agent c).det.timer = (s.agent c).det.timer - 1)) ∧
    (0 < (s.agent c).det.lvl → (s.agent c).det.timer ≤ 32 → s.detected c code = 0 →
      s.forcedLevel c = 0 → ∃ t, exec (.ladderTimerExpiry c code) s = .next t ∧
        (t.agent c).det.lvl = (s.agent c).det.lvl - 1) ∧
    (s.skyNs < (s.agent c).det.stopUntil → (s.agent c).det.d ≠ 3 → ∃ t, exec (.localStopExpiry c) s = .next t ∧
      (s.agent c).det.stopUntil ≤ t.skyNs ∧ t.agents = s.agents)

/-- R166, R167, R182: a window of a fast calibration moves the trim by its step toward the target, and the eighth stores the
trim and makes it valid; a quiet maintenance round moves the trim by at most one, and one that is not quiet is counted; a
detector that has been SEVERE for too long is ignored and told, and reinstated after 1,024 clear samples. What the mean of a
maintenance round is taken over (log 160) and where the period boundaries lie (log 149) are the model's choices. -/
def Obligations.DetectorsAreCalibratedAndJudged : Prop :=
  ∀ (s : State) (c m : Nat), s.ps.porst = true → s.hasCluster c = true →
    (∀ k : FastCal, (s.agent c).det.cal = some k →
      (k.window < 7 → ∃ t, exec (.fastCalibrationWindow c m) s = .next t ∧ (t.agent c).det.mean = m ∧
        (t.agent c).det.trim = (if s.fld DRP_CAL.TARGET < m then min 255 (k.trim + k.step) else k.trim - k.step) ∧
        (t.agent c).det.cal = some ⟨k.window + 1, k.step / 2, (t.agent c).det.trim⟩) ∧
      (7 ≤ k.window → ∃ t, exec (.fastCalibrationWindow c m) s = .next t ∧ (t.agent c).det.cal = none ∧
        (t.agent c).det.trim = calTrim k m (s.fld DRP_CAL.TARGET) ∧
        (t.agent c).det.valid = maskSet (s.agent c).det.valid (s.agent c).det.point)) ∧
    (∀ start, (s.agent c).run = true → bitAt (s.agent c).det.valid (s.agent c).det.point = true →
      (s.agent c).det.cal = none → s.flag (AGT_DRP_CFG.TRIM_FIX c) = false →
      (s.roundDue (s.agent c).det start = true → (s.agent c).det.noisyAt < start ∨ (s.agent c).det.noisyAt = 0 →
        (s.agent c).det.lvl = 0 → (s.agent c).det.d = 0 → s.noStep = true →
        ∃ t, exec (.maintenanceRound c m start) s = .next t ∧ (t.agent c).det.notQuiet = 0 ∧
          (t.agent c).det.stale = false ∧ (t.agent c).det.mean = m ∧
          (t.agent c).det.trim = (if s.fld DRP_CAL.TARGET + 2 < m then min 255 ((s.agent c).det.trim + 1)
            else if m + 2 < s.fld DRP_CAL.TARGET then (s.agent c).det.trim - 1 else (s.agent c).det.trim)) ∧
      (s.roundDue (s.agent c).det start = false → exec (.maintenanceRound c m start) s = .next s) ∧
      (s.roundDue (s.agent c).det start = true → 0 < (s.agent c).det.lvl →
        ∃ t, exec (.maintenanceRound c m start) s = .next t ∧
          (t.agent c).det.notQuiet = (s.agent c).det.notQuiet + 1 ∧ (t.agent c).det.trim = (s.agent c).det.trim ∧
          (8 ≤ (s.agent c).det.notQuiet + 1 → (t.agent c).det.stale = true))) ∧
    (∀ t0, (s.agent c).det.severeSince = some t0 → s.flag DRP_CTRL.STUCK_EN = true → (s.agent c).det.stuck = false →
      ∃ t, exec (.stuckDetector c) s = .next t ∧ t.now = max s.now (t0 + 1000 * s.fld DRP_HOLD.STUCK_TIME) ∧
        (t.agent c).det.stuck = true ∧ (t.agent c).det.d = 0 ∧ t.fld DRP_STUCK.LAST = c ∧
        t.raises = s.raises ++ [⟨srcDrpDetStuck, syndrome c 0 (s.agent c).det.minCode, false⟩]) ∧
    ((s.agent c).det.stuck = true → (s.agent c).det.clear = 1024 → ∃ t, exec (.detectorReinstate c) s = .next t ∧
      (t.agent c).det.stuck = false)

/-- R172 to R174, R177: a SEVERE report freezes the stripes of its scope for GRANT_HOLD and is counted where one of them
was not frozen; the freeze ends with its hold, a stripe's proactive force with its time, and a die-wide force whose source
has ended is taken from one stripe position at each step. -/
def Obligations.DroopEngineFreezesAndReleases : Prop :=
  (∀ (s : State) (c : Nat), s.coreRuns = true → s.hasCluster c = true → 0 < (s.agent c).det.reports →
    ∃ t, exec (.severeReport c) s = .next t ∧ (t.agent c).det.reports = (s.agent c).det.reports - 1 ∧
      (∀ st ∈ s.freezeScope c, bitAt t.drp.freeze st = true ∧
        SMap.find t.drp.freezeEnd st = some (s.now + s.fld DRP_HOLD.GRANT_HOLD)) ∧
      ((s.freezeScope c).any (fun st => !bitAt s.drp.freeze st) = true →
        t.reg DRP_FREEZES = min (s.reg DRP_FREEZES + 1) (2 ^ 32 - 1))) ∧
  (∀ (s : State) (st e : Nat), s.coreRuns = true → st < 16 → SMap.find s.drp.freezeEnd st = some e →
    bitAt s.drp.freeze st = true → ∃ t, exec (.freezeExpiry st) s = .next t ∧ t.now = max s.now e ∧
      bitAt t.drp.freeze st = false) ∧
  (∀ (s : State) (st e : Nat), s.coreRuns = true → st < 16 → SMap.find s.drp.proEnd st = some e →
    ∃ t, exec (.proactiveForceEnd st) s = .next t ∧ t.now = max s.now e ∧ bitAt t.drp.pro st = false) ∧
  (∀ s : State, s.coreRuns = true → s.drp.gorseOn = false → s.drp.gorse ≠ 0 →
    ∃ t, exec .dieForceReleaseStep s = .next t ∧ t.drp.gorse = releasePosition (stripeOrder (s.flag ADM_CTRL.WAVE_ORDER)) s.drp.gorse ∧
      s.skyNs < t.skyNs)

/-- R185, R188, R191, R199, R206, R306: a control sample of a used rail is counted; with the rail OFF or TRIPPED it moves
nothing of the loop, a choice (log 29), and in REGULATING with a VALID channel Vref slews toward the target by OPP_CTRL.SLEW
over the period. At the end of a hold rails_ready falls, the ordered shutdown waits its 2 µs and the keeper raises
RAIL_HOLD_EXPIRED, whose syndrome's VALUE is the signed e, a choice (log 43); after 10 µs with a lower target one phase is
shed; a recalibration is counted and its adjustment shown. That MAX_ADJ is the largest change of a pulse is the model's
reading (log 63). -/
def Obligations.SamplesHoldsShedsAndRecalibrations : Prop :=
  (∀ (s : State) (n : Nat) (inp : SampleIn), s.dpwmRuns = true → n < 4 → s.railUsed n = true →
    (((s.rail n).state = 0 ∨ (s.rail n).state = 5) → ∃ t, exec (.controlSample n inp) s = .next t ∧
      (t.rail n).count = (s.rail n).count + 1 ∧ (t.rail n).vref = (s.rail n).vref ∧ (t.rail n).duty = 0 ∧
      (t.rail n).onTime = 0 ∧ (t.rail n).state = (s.rail n).state) ∧
    ((s.rail n).state = 2 → (s.rail n).ssSearch = none → (s.rail n).remote.state = 0 → inp.remote.isSome = true →
      s.flag (RAIL_SENSE.FROZEN_EN n) = false → ∃ t, exec (.controlSample n inp) s = .next t ∧
      (t.rail n).count = (s.rail n).count + 1 ∧ (n ≠ 0 → (t.rail n).target = 64 * s.railTarget n) ∧
      (t.rail n).vref = (slewTo (s.rail n).vref (t.rail n).target (s.rail n).slewRem (s.fld OPP_CTRL.SLEW)
        (s.fld (RAIL_CTRL.PER n))).1)) ∧
  (∀ (s : State) (n t0 : Nat), s.dpwmRuns = true → n < 4 → (s.rail n).holdAt = some t0 →
    s.ps.bring = false → s.ps.shut = none → s.stopped = false → s.pstate ≠ 0 → s.ps.railsReady = true →
    ∃ t, exec (.holdExpiry n) s = .next t ∧ t.now = max s.now (t0 + 1000 * s.fld (RAIL_SENSE.HOLD_TIME n)) ∧
      (t.rail n).holdAt = none ∧ t.ps.railsReady = false ∧ t.ps.shut = some ⟨0, 0, t.now, 1⟩ ∧
      t.flag HEATH_DOMAIN_STATUS.IN_TRANSIT = true ∧
      ⟨srcRailHoldExpired, syndrome (0xFF00 + n) 0 (s.rail n).eMeas, false⟩ ∈ t.raises) ∧
  (∀ (s : State) (n t0 : Nat), s.dpwmRuns = true → n < 4 → (s.rail n).shedSince = some t0 →
    ∃ t, exec (.phaseShed n) s = .next t ∧ t.now = max s.now (t0 + 10000) ∧
      (s.phaseTarget n < (s.rail n).n → (t.rail n).n = (s.rail n).n - 1 ∧
        (t.rail n).enabled = firstPhases (s.avail n) ((s.rail n).n - 1)) ∧
      ((s.rail n).n ≤ s.phaseTarget n → (t.rail n).n = (s.rail n).n ∧ (t.rail n).shedSince = none)) ∧
  (∀ (s : State) (lines taps : List Nat), s.flag HEATH_DOMAIN_STATUS.DPWM_ON = true →
    ∃ t, exec (.dpwmRecalibration lines taps) s = .next t ∧ t.ps.dpwmAt = some t.now ∧
      (∀ t0, s.ps.dpwmAt = some t0 → t.now = max s.now (t0 + 1000000)) ∧
      t.fld THM_DPWM_CAL.COUNT = min (s.fld THM_DPWM_CAL.COUNT + 1) 65535 ∧
      t.fld THM_DPWM_CAL.MAX_ADJ = min ((t.ps.dpwmTaps.map (fun p => onTimeChange (s.rail (lineOf p.1).1).onTime
        (SMap.get (fun _ => 0) (s.rail (lineOf p.1).1).scale (lineOf p.1).2) p.2)).foldl max 0) 255)

/-- R214, R215, R216: a good VIN_IVR reading is shown and is no longer stale, and the third in a row outside 1,600 to
2,000 mV raises VIN_RANGE; a failed transaction waits for its retry, and the fourth failure loses AVSBus; current, temperature
and status are read one after another, each shown when its own transaction is good, and the one that fails waits for its own
retry; a retry comes after its gap; a reading older than VIN_STALE is stale. -/
def Obligations.AvsbusReadsRetriesAndLosses : Prop :=
  ∀ (s : State) (a : AvsIn), s.ps.porst = true →
    (s.flag HEATH_DOMAIN_STATUS.DPWM_ON = true → s.avs.busy = 0 →
      (a.good = true → s.avs.settleAt = none → a.vin < 65536 → ∃ t, exec (.avsVinPoll a) s = .next t ∧
        t.fld RAIL0_AVS_READ.VIN = a.vin ∧ t.avs.stale = false ∧ t.avs.vinAt = some s.now ∧ t.avs.busy = 0 ∧
        t.flag RAIL0_AVS_STATUS.LOST = false ∧
        (1600 ≤ a.vin → a.vin ≤ 2000 → t.avs.outRun = 0 ∧ bitAt t.levels srcVinRange = false) ∧
        ((a.vin < 1600 ∨ 2000 < a.vin) → 2 ≤ s.avs.outRun → bitAt t.levels srcVinRange = true)) ∧
      (a.good = true → s.avs.settleAt = none → a.iout < 65536 → a.temp < 65536 →
        (a.next.good = true → a.next.next.good = true → ∃ t, exec (.avsStatusRead a) s = .next t ∧ t.avs.busy = 0 ∧
          t.fld RAIL0_AVS_IT.IOUT = a.iout ∧ t.fld RAIL0_AVS_IT.TEMP = a.temp ∧ t.avs.needStatus = a.next.next.alert) ∧
        (a.next.good = false → ∃ t, exec (.avsStatusRead a) s = .next t ∧ t.avs.busy = 4 ∧ t.avs.attempts = 1 ∧
          t.fld RAIL0_AVS_IT.IOUT = a.iout ∧ t.fld RAIL0_AVS_IT.TEMP = s.fld RAIL0_AVS_IT.TEMP) ∧
        (a.next.good = true → a.next.next.good = false → ∃ t, exec (.avsStatusRead a) s = .next t ∧ t.avs.busy = 5 ∧
          t.avs.attempts = 1 ∧ t.fld RAIL0_AVS_IT.IOUT = a.iout ∧ t.fld RAIL0_AVS_IT.TEMP = a.temp)) ∧
      (a.good = false → s.avs.attempts < 3 → ∃ t, exec (.avsVinPoll a) s = .next t ∧ t.avs.busy = 1 ∧
        t.avs.attempts = s.avs.attempts + 1 ∧ t.avs.retryAt = s.now + 250 * s.fld RAIL0_AVS_CTRL.RETRY_GAP) ∧
      (a.good = false → 3 ≤ s.avs.attempts → s.ps.bring = false → ∃ t, exec (.avsVinPoll a) s = .next t ∧ t.avs.busy = 0 ∧
        t.avs.attempts = 0 ∧ t.flag RAIL0_AVS_STATUS.LOST = true ∧ bitAt t.levels srcAvsLost = true)) ∧
    (s.flag HEATH_DOMAIN_STATUS.DPWM_ON = true → 0 < s.avs.attempts → a.good = true → a.next.good = true →
      a.next.next.good = true → s.avs.settleAt = none → ∃ t, exec (.avsRetry a) s = .next t ∧ t.now = max s.now s.avs.retryAt ∧ t.avs.attempts = 0 ∧ t.avs.busy = 0 ∧
        t.flag RAIL0_AVS_STATUS.LOST = false) ∧
    (∀ t0, s.avs.vinAt = some t0 → s.avs.stale = false → ∃ t, exec .vinStale s = .next t ∧ t.avs.stale = true ∧
      t.now = max s.now (t0 + 10000 * s.fld RAIL0_AVS_CTRL.VIN_STALE))

/-- R221, R223, R226: an injection older than MAX_TIME aborts with TIMEOUT, its EN clear in both copies, and is raised; a
capture whose last sample after the trigger is stored freezes with what it holds. That the VALUE of RAIL_INJ_ABORT's syndrome
is the signed e (log 43), and that a group not yet complete at the freeze is dropped (log 42), are the model's choices. -/
def Obligations.InjectionsAndCapturesEnd : Prop :=
  ∀ (s : State) (n : Nat), s.dpwmRuns = true → n < 4 →
    (∀ j : Injection, (s.rail n).inj = some j → ∃ t, exec (.injectionTimeout n) s = .next t ∧
      t.now = max s.now (j.startAt + 1000000 * s.fld (RAIL_INJ_GUARD.MAX_TIME n)) ∧ (t.rail n).inj = none ∧
      t.flag (RAIL_INJ_STATUS.ABORTED n) = true ∧ t.fld (RAIL_INJ_STATUS.REASON n) = 6 ∧
      t.flag (RAIL_INJ_STATUS.ACTIVE n) = false ∧ t.flag (RAIL_INJ_CTRL.EN n) = false ∧
      t.stagedFld (RAIL_INJ_CTRL.EN n) = 0 ∧
      t.raises = s.raises ++ [⟨srcRailInjAbort, syndrome (0xFF00 + n) 6 (s.rail n).ePrev, false⟩]) ∧
    (s.capState n = 2 → (s.rail n).cap.left = 0 → ∃ t, exec (.captureFreeze n) s = .next t ∧ t.capState n = 3 ∧
      (t.rail n).cap.samples = (s.rail n).cap.samples ∧ (t.rail n).cap.group = [] ∧
      t.fld (RAIL_CAP_FILL.VALID n) = (s.rail n).cap.samples.length % 16384)

/-- R256, R257, R258, R265, R268: a changed operand moves the target index and the ceiling at once; a step starts down with
pool_max_live or up with the voltages; the four-phase frequency handshake runs, ends the step, lets the re-step of a table
change begin that has waited for it, and times out after 20 µs. -/
def Obligations.LimiterStepsTheOperatingPoint : Prop :=
  ∀ s : State,
    (s.coreRuns = true →
      (∃ t, exec .limiterOperandChange s = .next t ∧ t.fld OPP_STATUS.TARGET = s.target % 32 ∧ t.ceiling = s.liveCeiling) ∧
      (s.lim.step.kind = 0 → s.stepsBarred = false → s.lim.restep = false →
        (s.target < s.opIndex → ∃ t, exec .oppStepStart s = .next t ∧ t.lim.step.kind = 2 ∧
          t.lim.step.goal = s.opIndex - 1 ∧ t.opIndex = s.opIndex ∧
          t.lim.poolMaxLive = min (s.fld (OPP_PT_B.POOL_MAX s.opIndex)) (s.fld (OPP_PT_B.POOL_MAX (s.opIndex - 1)))) ∧
        (s.opIndex < s.target → s.voltsSettled = true → ∃ t, exec .oppStepStart s = .next t ∧ t.lim.step.kind = 1 ∧
          t.lim.step.goal = s.opIndex + 1 ∧ t.fld OPP_STATUS.V_IDX = s.opIndex + 1 ∧
          (∀ d, s.lim.downAt = some d → t.now = max s.now (d + 1000 * s.fld OPP_CTRL.UP_DWELL)))) ∧
      (s.handshakeReady = true → ∃ t, exec .oppFreqHandshakeStart s = .next t ∧ t.lim.req = true ∧
        t.lim.freq = s.fld (OPP_PT_A.FREQ s.lim.step.goal) ∧ t.lim.reqAt = s.now ∧
        t.flag OPP_STATUS.FREQ_WAIT = true)) ∧
    (s.ps.porst = true → s.lim.req = true → s.lim.restep = false → s.lim.toZero = false →
      (∃ t, exec .oppFreqAck s = .next t ∧ t.lim.req = false ∧ t.lim.ack = true ∧ t.lim.timedOut = false ∧
        t.flag OPP_STATUS.FREQ_WAIT = false) ∧
      (s.lim.step.kind = 1 → ∃ t, exec .oppFreqAck s = .next t ∧ t.opIndex = s.lim.step.goal % 32 ∧
        t.lim.poolMaxLive = s.fld (OPP_PT_B.POOL_MAX s.lim.step.goal) ∧ t.lim.step.kind = 0 ∧
        t.fld OPP_STEPS.UP = min (s.fld OPP_STEPS.UP + 1) 65535) ∧
      (s.lim.step.kind = 2 → ∃ t, exec .oppFreqAck s = .next t ∧ t.opIndex = s.lim.step.goal % 32 ∧
        t.lim.downAt = some s.now ∧ t.lim.step.kind = 0 ∧ t.fld OPP_STEPS.DOWN = min (s.fld OPP_STEPS.DOWN + 1) 65535)) ∧
    (s.ps.porst = true → s.lim.req = true → s.lim.restep = true → s.lim.toZero = false → s.lim.step.kind ≠ 4 →
      s.flag HEATH_DOMAIN_STATUS.IN_TRANSIT = false → 2 ≤ s.pstate →
      ∃ t, exec .oppFreqAck s = .next t ∧ t.lim.req = false ∧ t.lim.ack = true ∧ t.lim.restep = false) ∧
    (s.ps.porst = true → s.lim.ack = true → exec .oppFreqAckFall s = .next { s with lim := { s.lim with ack := false } }) ∧
    (s.ps.porst = true → s.lim.req = true → s.lim.timedOut = false → ∃ t, exec .oppFreqTimeout s = .next t ∧
      t.now = max s.now (s.lim.reqAt + 20000) ∧ t.lim.timedOut = true ∧
      t.raises = s.raises ++ [⟨srcOppFreqTimeout, syndrome 0 0 s.lim.freq, false⟩])

/-- R261, R262, R263: at a slot boundary the slot under way is complete and, at the leader, OVER follows the 50 slots; a
decision that is applied lowers or raises the window's cap, first the index and then the pool; a follower that has heard
nothing for two slots lowers its own cap while its own energy and power are over its share. -/
def Obligations.WindowsCloseDecideAndApply : Prop :=
  ∀ (s : State) (n : Nat), n < 4 → s.coreRuns = true → s.winOn n = true →
    (0 < s.slotNs n → ∃ t, exec (.windowSlotBoundary n) s = .next t ∧ (t.window n).slots = (s.window n).close.slots ∧
      (t.window n).cur = [] ∧ (s.window n).lastAt + s.slotNs n ≤ t.skyNs ∧
      (t.window n).lastAt = t.skyNs / s.slotNs n * s.slotNs n ∧
      (s.leader = true → t.flag (BUD_WIN_FILL.OVER n) = s.winOver n ((s.window n).close.energy 8) (s.winLimit n))) ∧
    ((s.window n).decision = some 1 →
      (s.flag (BUD_WIN_CAP.POOL_CUT n) = true → ∃ t, exec (.windowDecisionApply n) s = .next t ∧
        (t.window n).decision = none ∧ t.fld (BUD_WIN_CAP.POOL_CAP n) =
          max (s.fld (BUD_WIN_CAP.POOL_CAP n) - s.fld (OPP_PT_B.POOL_MAX 0) / 16)
            (min (s.fld (BUD_WIN_CAP.POOL_CAP n)) (s.fld BUD_SHARE.EMERG_Q))) ∧
      (s.flag (BUD_WIN_CAP.POOL_CUT n) = false → 0 < s.fld (BUD_WIN_CAP.CAP n) →
        ∃ t, exec (.windowDecisionApply n) s = .next t ∧ (t.window n).decision = none ∧
          t.fld (BUD_WIN_CAP.CAP n) = min (s.fld (BUD_WIN_CAP.CAP n)) s.opIndex - 1) ∧
      (s.flag (BUD_WIN_CAP.POOL_CUT n) = false → s.fld (BUD_WIN_CAP.CAP n) = 0 →
        ∃ t, exec (.windowDecisionApply n) s = .next t ∧ (t.window n).decision = none ∧
          t.flag (BUD_WIN_CAP.POOL_CUT n) = true ∧
          t.fld (BUD_WIN_CAP.POOL_CAP n) = s.fld (OPP_PT_B.POOL_MAX 0) - s.fld (OPP_PT_B.POOL_MAX 0) / 16)) ∧
    ((s.window n).decision = some 2 → s.flag (BUD_WIN_CAP.POOL_CUT n) = false → s.fld (BUD_WIN_CAP.CAP n) ≠ 31 →
      ∃ t, exec (.windowDecisionApply n) s = .next t ∧ (t.window n).decision = none ∧ t.fld (BUD_WIN_CAP.CAP n) =
        if s.top ≤ s.fld (BUD_WIN_CAP.CAP n) + 1 then 31 else s.fld (BUD_WIN_CAP.CAP n) + 1) ∧
    (s.leader = false → 0 < s.slotNs n →
      s.winOver n (((s.aloneBoundary n).window n).energy s.dieId) (s.reg (BUD_SHARE_WIN n)) = true →
      s.reg (BUD_SHARE_WIN n) * 1000 < s.dieP s.dieId → s.flag (BUD_WIN_CAP.POOL_CUT n) = false →
      0 < s.fld (BUD_WIN_CAP.CAP n) → ∃ t, exec (.windowAutonomous n) s = .next t ∧
        (s.window n).heardAt + 2 * s.slotNs n ≤ t.skyNs ∧
        t.fld (BUD_WIN_CAP.CAP n) = min (s.fld (BUD_WIN_CAP.CAP n)) s.opIndex - 1)

/-- R172, R257, R270, R271, R272: FAST_LIMIT_N latched low begins the emergency, forces every running cluster to SEVERE and
holds the ceiling of a running limiter at emerg_share; the pin's rise begins the hold, whose end ends the emergency; the end
of the supply hold removes supply_cap. -/
def Obligations.TheGorseLineAndTheSupplyCap : Prop :=
  ∀ s : State,
    (s.ps.vaon = true → s.lim.pinLow = false → ∃ t, exec .fastLimitLatch s = .next t ∧ t.lim.emergency = true ∧
      t.lim.pinLow = true ∧ t.lim.highAt = none ∧
      (s.ps.porst = true → t.drp.gorseOn = true ∧
        (∀ c, s.hasCluster c = true → (s.agent c).run = true → t.forcedLevel c = 3) ∧
        (s.coreRuns = true → t.ceiling ≤ s.fld BUD_SHARE.EMERG_Q))) ∧
    (s.ps.porst = true → s.lim.pinLow = true →
      exec .fastLimitRelease s = .next { s with lim := { s.lim with pinLow := false, highAt := some s.now } }) ∧
    (∀ t0, s.ps.porst = true → s.lim.highAt = some t0 → ∃ t, exec .emergencyHoldExpiry s = .next t ∧
      t.now = max s.now (t0 + 10000 * s.fld BUD_HOLD.FL_HOLD) ∧ t.lim.emergency = false ∧ t.lim.highAt = none ∧
      t.drp.gorseOn = false) ∧
    (∀ t0, s.coreRuns = true → s.lim.alertAt = some t0 → ∃ t, exec .supplyHoldExpiry s = .next t ∧
      t.now = max s.now (t0 + 1000000 * s.fld BUD_HOLD.SUPPLY_HOLD) ∧ t.lim.alertAt = none ∧
      t.fld BUD_CAPS.SUPPLY_CAP = 31)

/-- R233, R238, R241, R242, R246: an interval shows each rail's power and the die's sum of them, by the model that was in
force as it began, at least 1 µs after the last; a calibration millisecond skips the rails that do not count, measures those
that do, and starts its sums again. -/
def Obligations.IntervalsMeasureAndCalibrate : Prop :=
  ∀ s : State, s.coreRuns = true →
    (∃ t, exec .estimatorInterval s = .next t ∧ s.est.lastAt + 1000 ≤ t.skyNs ∧ t.est.lastAt = t.skyNs ∧
      t.reg EST_DIE_P = ((List.range 4).map (fun r => ((s.modelAt t.skyNs).railPower r).p)).sum / 1000 % 2 ^ 32 ∧
      ∀ r, r < 4 → t.reg (EST_RAIL_P r) = ((s.modelAt t.skyNs).railPower r).p / 1000 % 2 ^ 32 ∧ (t.rail r).meter = {}) ∧
    (∃ t, exec .calibrationMillisecond s = .next t ∧ s.est.calAt + 1000000 ≤ t.skyNs ∧ t.est.calAt = t.skyNs ∧
      t.est.nMs = 0 ∧ t.est.dynMs = [] ∧
      ∀ r, r < 4 → (t.rail r).meterMs = {} ∧ (s.measured = false →
        (s.counts r = true → t.reg (EST_RAIL_MEAS r) = (s.rail r).meterMs.power / 1000 % 2 ^ 32) ∧
        (s.counts r = false → t.fld (EST_CAL_SKIP.SKIP r) = min (s.fld (EST_CAL_SKIP.SKIP r) + 1) 255)))

/-- R278, R280, R282, R283, R297, R299: a round that is due is reached and shows the raw code of every site that converted;
without the cross-check a measured site reports its own value and T_die is no lower; with no site measured NO_SITES sets; an
extra round comes at once. An update of the model moves every node by the spec's step, and with no node moving and none at
the limit it predicts no crossing. -/
def Obligations.ThermalRoundsAndPredictions : Prop :=
  (∀ (s : State) (xs : List SiteIn), s.roundsRun = true →
    (s.thm.extra = false → ∃ t, exec (.thermalRound xs) s = .next t ∧
      t.thm.roundAt = (s.thm.roundAt / s.roundNs + 1) * s.roundNs ∧ t.thm.roundAt ≤ t.skyNs ∧
      (∀ k, k < 96 → (siteIn xs k).done = true → t.fld (SITE_RAW.RAW k) = (siteIn xs k).raw % 2 ^ 14) ∧
      (s.flag THM_CTRL.XCHK_EN = false → s.flag THM_STATUS.NO_SITES = false → ∀ k v, k < 96 →
        s.siteValue (siteIn xs k) = some v →
        t.siteT k = v ∧ t.fld (SITE_TEMP.SRC k) = 0 ∧ v ≤ t.tDie) ∧
      ((∀ k, k < 96 → s.siteValue (siteIn xs k) = none) → t.flag THM_STATUS.NO_SITES = true ∧
        bitAt t.levels srcThermNoSites = true ∧ ∀ k, k < 96 → t.fld (SITE_TEMP.SRC k) = 2)) ∧
    (s.thm.extra = true → ∃ t, exec (.thermalRound xs) s = .next t ∧ t.thm.extra = false ∧ t.thm.roundAt = s.skyNs)) ∧
  (∀ s : State, s.thm.nodes.length = 16 → s.thm.fresh = false → s.inReset = false →
    s.flag HEATH_DOMAIN_STATUS.CORE_ON = true →
    ∃ t, exec .predictionUpdate s = .next t ∧ t.thm.nodes = s.nodeStep s.thm.nodes ∧
      t.thm.modelAt = (s.thm.modelAt / 100000 + 1) * 100000 ∧ t.thm.modelAt ≤ t.skyNs ∧
      ((∀ i, i < 16 → s.fld (THM_NODE_K.K i) = 0) →
        (hottest s.thm.nodes).2 < (s.thr THM_THR.SHUTDOWN - 16 * (s.fld THM_PRED.MARGIN : Int)) * 65536 →
        t.thm.nodes = s.thm.nodes ∧ t.fld THM_PRED_STATUS.CROSS = 0x1FF))

/-- R290 to R292, R294, R303, R304: at the grace deadline enforcement begins with one step if THROTTLE is still set and the
grace just ends if not; an unmasked analog trip latches and takes rails_ready down, an external trip does so without a latch;
the Heath's conversion in OFF corrects the oscillator; a stack without a report for 3 ms is stale, its cap held. The trip
lines act whenever VAON is up, also with PORST_N low, where R99 leaves it open: the model's choice (log 158). -/
def Obligations.TripsGraceAndCompensation : Prop :=
  (∀ (s : State) (t0 : Nat), s.ps.porst = true → s.inReset = false → s.thermOn = true →
    s.flag HEATH_DOMAIN_STATUS.CORE_ON = true → s.thm.deadline = some t0 →
    (s.flag THM_STATUS.THROTTLE = true → s.thm.shutdown = false → ∃ t, exec .graceDeadline s = .next t ∧
      t.now = max s.now t0 ∧ t.flag THM_STATUS.ENFORCING = true ∧ t.flag THM_STATUS.GRACE = false ∧ t.thm.deadline = none ∧
      (s.thm.pool = none → 0 < min (if s.thm.cap = 0x1F then s.top else s.thm.cap) s.opIndex →
        t.thm.cap = min (if s.thm.cap = 0x1F then s.top else s.thm.cap) s.opIndex - 1 ∧ t.thm.pool = none)) ∧
    (s.flag THM_STATUS.THROTTLE = false → ∃ t, exec .graceDeadline s = .next t ∧ t.now = max s.now t0 ∧
      t.flag THM_STATUS.ENFORCING = s.flag THM_STATUS.ENFORCING ∧ t.flag THM_STATUS.GRACE = false ∧
      t.thm.deadline = none)) ∧
  (∀ (s : State) (k : Nat), s.ps.vaon = true → k < 96 → ∃ t, exec (.analogTrip k) s = .next t ∧
    t.flag (SITE_STATUS.TRIP k) = true ∧ bitAt t.thm.trips k = true ∧ (s.flag (SITE_CFG.ATRIP_MASK k) = false →
      t.flag THM_STATUS.ATRIP_LATCHED = true ∧ ⟨srcThermAnalogTrip, syndrome k 0 (s.siteT k), false⟩ ∈ t.raises ∧
      (s.ps.shut = none → s.ps.bring = false → s.stopped = false → s.pstate ≠ 0 → t.ps.railsReady = false))) ∧
  (∀ s : State, s.ps.porst = true → s.ownTrip = false → s.flag THM_CTRL.TRIP_FOLLOW = true →
    (s.ps.req = none ∨ s.ps.bring = false ∧ (s.ps.shut.isSome = true ∨ s.ps.railsReady = true ∧ s.pstate ≠ 0)) →
    ∃ t, exec .externalTrip s = .next t ∧ t.flag THM_STATUS.EXT_TRIP = true ∧ t.thermLatched = false ∧
      ⟨srcThermExtTrip, syndrome 0 0 s.tDie, false⟩ ∈ t.raises ∧
      (s.ps.shut = none → s.ps.bring = false → s.stopped = false → s.pstate ≠ 0 → t.ps.railsReady = false)) ∧
  (∀ (s : State) (raw : Nat) (v : Int), s.pstate = 0 → s.ps.vaon = true → s.ps.booting = false → s.stopped = false →
    s.flag THM_STATUS.NO_SITES = false → s.fld THM_CTRL.HEATH_SITE < 96 →
    s.siteValue ⟨s.fld THM_CTRL.HEATH_SITE, true, raw⟩ = some v →
    ∃ t, exec (.oscCompensationConversion raw true) s = .next t ∧ t.now = max s.now (s.ps.oscAt + 1000000) ∧
      t.ps.oscAt = t.now ∧ t.fld (SITE_RAW.RAW (s.fld THM_CTRL.HEATH_SITE)) = raw ∧
      t.thm.oscCorr = interpolate s.oscTab v ∧ t.flag HEATH_DOMAIN_STATUS.OSC_COMP = true) ∧
  (∀ (s : State) (k : Nat), k < 4 → s.ps.porst = true → s.flag HEATH_DOMAIN_STATUS.CORE_ON = true → s.inReset = false →
    bitAt s.tie.mems k = true →
    s.flag (THM_MEM.STALE k) = false → ∃ t, exec (.memStackStale k) s = .next t ∧ t.flag (THM_MEM.STALE k) = true ∧
      t.refresh2x k = true ∧ t.fld (THM_MEM.BW_CAP k) = s.fld (THM_MEM.BW_CAP k) ∧ t.reg THM_STATUS = s.reg THM_STATUS ∧
      bitAt t.levels srcMemTempStale = true ∧ t.now = max s.now (SMap.get (fun _ => 0) s.thm.memAt k + 3000000))

/-- R285, R301, R302, R303: a round tests the reports of a stack that came since the last one, each in turn: THROTTLE
follows its dwell, and mc_bw_cap rises by one, up to BW_MAX, while THROTTLE is set and the report is at or above THROTTLE;
falls by one until it reaches 0 while THROTTLE is clear; and holds otherwise, and in a round without a report of the stack.
A report that arrives is kept for the next round, ends a stale state and leaves mc_bw_cap as it is. -/
def Obligations.MemoryBandwidthCapFollowsThrottle : Prop :=
  (∀ (s : State) (k : Nat) (xs : List SiteIn), k < 4 → s.roundsRun = true →
    (∃ t, exec (.thermalRound xs) s = .next t ∧ t.thm.memIn = [] ∧
      (t.flag (THM_MEM.THROTTLE k), memRun (SMap.get (fun _ => 0) t.thm.memRuns k) 1, t.fld (THM_MEM.BW_CAP k)) =
        ((s.thm.memIn.filter (fun p => p.1 == k)).map (fun p => p.2)).foldl
          (bwAfter (16 * (s.fld THM_MEM_THR.THROTTLE : Int)) (16 * (s.fld THM_MEM_THR.HYST : Int)) (s.fld THM_MEM_THR.BW_MAX))
          (s.flag (THM_MEM.THROTTLE k), memRun (SMap.get (fun _ => 0) s.thm.memRuns k) 1, s.fld (THM_MEM.BW_CAP k))) ∧
    (s.thm.memIn.filter (fun p => p.1 == k) = [] →
      ∃ t, exec (.thermalRound xs) s = .next t ∧ t.thm.memIn = [] ∧ t.reg (THM_MEM k) = s.reg (THM_MEM k))) ∧
  (∀ (s : State) (k temp : Nat), k < 4 → s.flag HEATH_DOMAIN_STATUS.CORE_ON = true → s.inReset = false →
    bitAt s.tie.mems k = true → ∃ t, exec (.memStackReport k temp) s = .next t ∧
      t.thm.memIn = s.thm.memIn ++ [(k, temp)] ∧ t.fld (THM_MEM.T k) = temp % 2 ^ 16 ∧ t.flag (THM_MEM.STALE k) = false ∧
      t.fld (THM_MEM.BW_CAP k) = s.fld (THM_MEM.BW_CAP k))

/-- R31, R260, R320 to R330, R336, R352, R400, R402: a flit of the leader that a follower takes has its effect there. A
STAGE value joins those of the next PREPARE; a PREPARE whose count and CRC agree and whose set is legal is held; COMMIT
gives it its T and ABORT discards it; every forwarded command is carried out, its results written before its CMD_DONE; a
LEVEL value with SET = 1 is merged and one with SET = 0 has no effect; every DATA payload does what it carries, and one that
only a follower sends does nothing. Flits are taken while a block reset runs, but no command is carried out then, a choice
(log 113). A saturated validity holds until it is sent again (log 174), an activation reaches a follower by DATA (log 178),
and how long a message is, where the spec only names its payload, is a free value (log 152). -/
def Obligations.TheLeadersFlitsActAtAFollower : Prop :=
  ∀ (s : State) (h : FlitHdr), s.fromItsLeader h →
    (∀ off v, ∃ t, exec (.stageFlit h off v) s = .next t ∧ t.hdg.rx = s.hdg.rx ++ [(off, v)]) ∧
    (∀ id kind count crc, ∃ t, exec (.prepareFlit h id kind count crc) s = .next t ∧ t.hdg.rx = [] ∧ t.hdg.rxAct = none ∧
      ((s.hdg.rx.length ≠ count ∨ stageCrc s.hdg.rx ≠ crc) → t.hdg.prepared = s.hdg.prepared) ∧
      (s.hdg.rx.length = count → stageCrc s.hdg.rx = crc → s.cmds = [] → h.nak = false →
        (s.prepareFaults s.hdg.rx (if kind = 5 then none else s.hdg.rxAct) []).2 = 0 → t.hdg.prepared =
          some { id := id, kind := kind, act := s.hdg.rxAct, regs := asMap s.hdg.rx, at_ := s.now })) ∧
    (∀ T (p : Prepared), s.hdg.prepared = some p → p.t = none → ∃ t, exec (.commitFlit h T) s = .next t ∧
      t.hdg.prepared = some { p with t := some T } ∧ t.reg64 (HDG_COMMIT_T 0) = T % 2 ^ 64) ∧
    (∀ (p : Prepared), s.hdg.prepared = some p → ∃ t, exec (.abortFlit h p.id) s = .next t ∧ t.hdg.prepared = none ∧
      t.fld HDG_COMMIT_CNT.ABORTED = min (s.fld HDG_COMMIT_CNT.ABORTED + 1) HDG_COMMIT_CNT.ABORTED.top) ∧
    (s.inReset = true → ∀ c, ∃ t, exec (.cmdFlit h c) s = .next t ∧ t.hdg.serving = s.hdg.serving ∧
      t.hdg.stileQ = s.hdg.stileQ ∧ t.rings = s.rings ∧ t.hub = s.hub) ∧
    (s.inReset = false →
      (∃ t, exec (.cmdFlit h .getInfo) s = .next t ∧ t.sends h.src (.cmdDone h.tag stOk s.infoOut)) ∧
      (∀ ctx, ∃ t, exec (.cmdFlit h (.getBudget ctx)) s = .next t ∧ t.sends h.src (.cmdDone h.tag stOk (s.budgetOut ctx))) ∧
      (∀ set src first count dest ctx, ∃ t, exec (.cmdFlit h (.readCounters set src first count dest ctx)) s = .next t ∧
        (s.countersJudge set src first count ctx ≠ stOk →
          t.sends h.src (.cmdDone h.tag (s.countersJudge set src first count ctx) [])) ∧
        (s.countersJudge set src first count ctx = stOk →
          s.serves t h dest ctx (s.countersOut set src first count ctx) (src == 0))) ∧
      (∀ action post sources units, ∃ t, exec (.cmdFlit h (.armTrigger action post sources units)) s = .next t ∧
        t.sends h.src (.cmdDone h.tag (s.armTrigger action post sources units).1 []) ∧
        (action = 0 → (s.armTrigger action post sources units).1 = stOk → t.fld RING_STATUS.STATE = 1 ∧
          t.fld RING_TRIG.POST = post % 256 ∧ t.fld RING_TRIG.SOURCES = sources % 2 ^ 11 ∧
          t.fld RING_TRIG_UNITS.UNITS = units % 2 ^ 4) ∧
        (action = 1 → s.fld RING_STATUS.STATE < 2 → 2 ≤ t.fld RING_STATUS.STATE ∧ t.fld RING_STATUS.SOURCE = 9) ∧
        (2 ≤ action → t.fld RING_STATUS.STATE = 0)) ∧
      (∀ unit i first count dest ctx, ∃ t, exec (.cmdFlit h (.readRing unit i first count dest ctx)) s = .next t ∧
        (s.ringJudge unit i count ctx ≠ stOk → t.sends h.src (.cmdDone h.tag (s.ringJudge unit i count ctx) [])) ∧
        (s.ringJudge unit i count ctx = stOk →
          (unit = 0 ∧ s.stileHolds (halfOf i) = true →
            t.hdg.stileQ = s.hdg.stileQ ++ [(halfOf i, .readFor h.tag i first count dest ctx)]) ∧
          (¬ (unit = 0 ∧ s.stileHolds (halfOf i) = true) → s.serves t h dest ctx (s.ringOut unit i first count) false))) ∧
      (∃ t, exec (.cmdFlit h .faultRead) s = .next t ∧ t.sends h.src (.cmdDone h.tag stOk s.faultReadOut)) ∧
      (∀ flags source, ∃ t, exec (.cmdFlit h (.faultClear flags source)) s = .next t ∧
        (bitAt flags 1 = false → (255 < source ∨ s.flag (FH_SRC.IMPL source) = false) →
          t.sends h.src (.cmdDone h.tag stInvalid [])) ∧
        (bitAt flags 1 = true ∨ source ≤ 255 ∧ s.flag (FH_SRC.IMPL source) = true →
          t.sends h.src (.cmdDone h.tag stOk (pack [(2, (s.faultClear flags source).2.1), (2, (s.faultClear flags source).2.2)])) ∧
          (bitAt flags 0 = true → t.reg FH_FIRST = 0) ∧
          ∀ k, k < 256 → (bitAt flags 1 = true ∨ k = source) → s.srcBit FH_LATCHED k = false → t.srcBit FH_PEND k = false)) ∧
      (∀ source syn, ∃ t, exec (.cmdFlit h (.faultForce source syn)) s = .next t ∧
        ((255 < source ∨ s.flag (FH_SRC.IMPL source) = false) → t.sends h.src (.cmdDone h.tag stInvalid [])) ∧
        (source ≤ 255 → s.flag (FH_SRC.IMPL source) = true →
          (s.hasScope 2 = false → t.sends h.src (.cmdDone h.tag stLocked []) ∧
            t.fld (whole ACC_DENIED) = min (s.fld (whole ACC_DENIED) + 1) (whole ACC_DENIED).top) ∧
          (s.hasScope 2 = true → t.srcBit FH_SEEN source = true ∧
            (s.flag (FH_SRC.EN source) = true → t.srcBit FH_PEND source = true) ∧
            (t.inReset = false → t.sends h.src (.cmdDone h.tag stOk []))))) ∧
      (∃ t, exec (.cmdFlit h .injectStart) s = .next t ∧
        t.sends h.src (.cmdDone h.tag (if s.injecting then stBusy else stOk) [])) ∧
      (∀ n first count dest, ∃ t, exec (.cmdFlit h (.captureRead n first count dest)) s = .next t ∧
        (s.captureStatus n first count ≠ stOk → t.sends h.src (.cmdDone h.tag (s.captureStatus n first count) [])) ∧
        (s.captureStatus n first count = stOk → s.serves t h dest none (s.captureOut n first count) false))) ∧
    (∀ i v, ∃ t, exec (.levelFlit h i v) s = .next t ∧
      t.word i = if bitAt v 8 then (s.word i).told s.skyNs (v % 256) (v / 512) else s.word i) ∧
    (∀ w dec, w < 4 → ∃ t, exec (.dataFlit h (.decision w dec)) s = .next t ∧
      (t.window w).decision = (if dec = 0 then none else some dec) ∧ (t.window w).heardAt = s.skyNs) ∧
    (∀ ns step, ∃ t, exec (.dataFlit h (.skylark ns step)) s = .next t ∧ t.sky.flit = some ns ∧ t.sky.step = step ∧
      t.sky.flitAt = s.now) ∧
    (∀ e, e < 65536 → ∃ t, exec (.dataFlit h (.hostEpoch e)) s = .next t ∧ t.hostEpoch = e) ∧
    (∃ t, exec (.dataFlit h .abortStage) s = .next t ∧ t.staged = []) ∧
    (∀ u, ∃ t, exec (.dataFlit h (.session u)) s = .next t ∧ t.unattended = u) ∧
    (∀ k bytes, ∃ t, exec (.dataFlit h (.imageBlock k bytes)) s = .next t ∧
      (s.stopped = true → t.fw = s.fw) ∧
      (s.stopped = false →
        (∀ old, s.fw.copy = some (k, old) → t.fw.copy = some (k, old ++ bytes)) ∧
        ((∀ old, s.fw.copy ≠ some (k, old)) → t.fw.copy = some (k, bytes)))) ∧
    (∃ t, exec (.dataFlit h .imageReject) s = .next t ∧ (s.stopped = true → t.fw = s.fw) ∧
      (s.stopped = false → t.fw.image = none ∧ t.fw.copy = none ∧
        (s.ps.booting = false → s.fw.reboot = false → t.fw.reboot = true ∧ t.fw.paused = false ∧ t.ps.digestDue = true))) ∧
    (∃ t, exec (.dataFlit h .activate) s = .next t ∧ t.fld HEATH_FW_STATUS.ACT = 2 ∧ t.fw.paused = true ∧ t.fw.locked = false ∧
      t.fw.ram = [] ∧ t.flag HEATH_DOMAIN_STATUS.STEWARD_ON = true) ∧
    (∀ recs, ∃ t, exec (.dataFlit h (.load recs)) s = .next t ∧ t.hdg.rxAct = some (.load recs)) ∧
    (∀ a n, ∃ t, exec (.dataFlit h (.drop a n)) s = .next t ∧ t.hdg.rxAct = some (.drop a n)) ∧
    (∀ hint p T m c, ∃ t, exec (.dataFlit h (.reserve hint p T m c)) s = .next t ∧
      t.hdg.rxAct = some (.reserve hint p T m c)) ∧
    (∀ f left, ∃ t, exec (.dataFlit h (.snapshot f left)) s = .next t ∧ t.hdg.rxAct = some (.snapshot f left)) ∧
    (∀ c, ∃ t, exec (.dataFlit h (.userCaps c)) s = .next t ∧
      (s.ps.catchUp = true → t.fw.caps = c) ∧ (s.ps.catchUp = false → t.hdg.rxAct = some (.userCaps c))) ∧
    (∃ t, exec (.dataFlit h .image) s = .next t ∧ t.hdg.rxAct = some (.regWrites [])) ∧
    (∀ state scope method seconds, ∃ t, exec (.dataFlit h (.access state scope method seconds)) s = .next t ∧
      t.fld ACC_STATE.STATE = state % 4 ∧ t.fld ACC_STATE.SCOPE = scope % 32 ∧ t.fld ACC_STATE.METHOD = method % 2 ∧
      t.acc.timerEnd = if state = 2 then s.now + 1000000000 * seconds else 0) ∧
    (∀ n, ∃ t, exec (.dataFlit h (.dieCount n)) s = .next t ∧ t.flag RING_SAMP.MODE = decide (2 < n)) ∧
    (∀ r en epl base limit, r < 16 → base < 2 ^ 40 → limit < 2 ^ 40 →
      ∃ t, exec (.dataFlit h (.watchRange r en epl base limit)) s = .next t ∧
        t.flag (OBS_WATCH_0.EN r) = en ∧ t.fld (OBS_WATCH_0.EPL r) = epl % 65536 ∧
        t.reg (OBS_WATCH_4 r) = base % 2 ^ 32 ∧ t.fld (OBS_WATCH_8.BASE_PG_HI r) = base / 2 ^ 32 ∧
        t.reg (OBS_WATCH_C r) = limit % 2 ^ 32 ∧ t.fld (OBS_WATCH_8.LIMIT_PG_HI r) = limit / 2 ^ 32) ∧
    (∀ b : Bulk, b.ofFollower = true → ∃ t, exec (.dataFlit h b) s = .next t ∧ s.dataIgnored t)

/-- R240, R254, R261, R273, R300, R328, R329, R336, R337, R353, R362, R381, R402, R404, R427, R433, R449, R461: a flit of a
follower that the leader takes has its effect there. An answer to PREPARE leaves the commit waiting for the others, sends
COMMIT with its T, or ends it, and in a block reset nothing is decided (R330, where the commit ends as the reset does);
CMD_DONE ends the forwarded command; reports of energy, temperature, rate, lines, readiness, doorbells and counters are
noted; a fault and the outcome of a compartment fault become event records, a slow-down request one in BUD_SLOW beside it;
after a block reset every set level word is sent to the die again. The spec names what a follower reports, not the message:
EVENT flags and DATA stacks (log 151), EVENT resetDone (log 173), the sums, the VIN_IVR reading and the third of the lines
(log 69) are the model's own messages; DATA that only the leader sends does nothing here. -/
def Obligations.AFollowersFlitsActAtTheLeader : Prop :=
  ∀ (s : State) (h : FlitHdr), s.fromAFollower h →
    (∀ (c : Commit) nack regions, s.hdg.running = some c → c.phase = 1 → bitAt c.wait h.src = true →
      (maskClear c.wait h.src ≠ 0 ∨ s.inReset = true → c.act ≠ .catchUp h.src →
        ∃ t, exec (.prepareAckFlit h c.id nack regions) s = .next t ∧
        t.hdg.running = some { c with wait := maskClear c.wait h.src, bad := if nack then maskSet c.bad h.src else c.bad,
                                      regions := if nack then c.regions ||| regions else c.regions }) ∧
      (maskClear c.wait h.src = 0 → s.inReset = false → nack = false → c.bad = 0 → (∀ id, c.act ≠ .release id) →
        ∃ t, exec (.prepareAckFlit h c.id nack regions) s = .next t ∧
        t.hdg.running = some { c with wait := 0, phase := 2, t := s.skyNs + s.commitLead } ∧
        t.reg64 (HDG_COMMIT_T 0) = (s.skyNs + s.commitLead) % 2 ^ 64) ∧
      (maskClear c.wait h.src = 0 → s.inReset = false → nack = true → c.act ≠ .catchUp h.src →
        ∃ t, exec (.prepareAckFlit h c.id nack regions) s = .next t ∧ t.hdg.running = none ∧ t.hdg.prepared = none ∧
        t.fld HDG_COMMIT_CNT.ABORTED = min (s.fld HDG_COMMIT_CNT.ABORTED + 1) HDG_COMMIT_CNT.ABORTED.top)) ∧
    (∀ tag status result m d t0 (a : Active), SMap.find s.hdg.fwd tag = some (m, d, t0) → s.cmd m = some a → a.acc = [] →
      s.cmds.any (fun p => p.2.hdr.opcode == 0x0505) = false → status < 256 → ∃ t,
        exec (.cmdDoneFlit h tag status result) s = .next t ∧ SMap.find t.hdg.fwd tag = none ∧
        t.reg CMD_COUNT = min (s.reg CMD_COUNT + 1) (2 ^ 32 - 1) ∧ t.fld CMD_LAST.OPCODE = a.hdr.opcode % 65536 ∧
        t.fld CMD_LAST.STATUS = status) ∧
    (∀ uw, ∃ t, exec (.energyFlit h uw) s = .next t ∧ t.dieP h.src = uw) ∧
    (∀ a b, ∃ t, exec (.thermalFlit h a b) s = .next t ∧ SMap.get (fun _ => (0, 0)) t.thm.dieT h.src = (a, b)) ∧
    (∀ int err pin, ∃ t, exec (.eventFlit h (.lines int err pin)) s = .next t ∧ bitAt (t.fld FH_PKG.INT_DIE) h.src = int ∧
      bitAt (t.fld FH_PKG.ERR_DIE) h.src = err ∧ bitAt t.hub.pins h.src = pin) ∧
    (∀ r, ∃ t, exec (.eventFlit h (.rate r)) s = .next t ∧ SMap.find t.fab.dieRate h.src = some r) ∧
    (∃ t, exec (.eventFlit h .ready) s = .next t ∧ (t.link h.src).ready = true ∧ bitAt t.ps.reported h.src = true) ∧
    (∀ b, b < 32 → ∃ t, exec (.eventFlit h (.bell b)) s = .next t ∧ bitAt (t.reg MB_DB_OUT) b = true) ∧
    (∀ w, ∃ t, exec (.eventFlit h (.flags w)) s = .next t ∧ SMap.get (fun _ => 0) t.thm.dieFlags h.src = w % 2 ^ 32) ∧
    (∀ code, ∃ t, exec (.eventFlit h (.stopped code)) s = .next t ∧ t.fld (HDG_DIE_STATE.STATE h.src) = 3) ∧
    (∀ i syn flags react time, ∃ t, exec (.eventFlit h (.fault i syn flags react time)) s = .next t ∧
      s.records t 0x02 h.src h.epoch time (faultBody i flags react syn)) ∧
    (∀ kind reason comp counter version, ∃ t, exec (.eventFlit h (.firmware kind reason comp counter version)) s = .next t ∧
      s.records t 0x04 h.src h.epoch s.skyNs (fwBody kind reason comp counter version)) ∧
    (∀ reason index deadline, ∃ t, exec (.eventFlit h (.slowDown reason index deadline)) s = .next t ∧
      t.fld BUD_SLOW.DIE = h.src ∧ t.fld BUD_SLOW.REASON = reason % 16 ∧ t.fld BUD_SLOW.INDEX = index % 32 ∧
      t.flag BUD_SLOW.PENDING = true ∧
      s.records t 0x01 h.src h.epoch s.skyNs (pack [(1, reason), (1, index), (6, 0), (8, deadline)])) ∧
    (∀ i, (s.word i).set = true → (s.wordDies i).contains h.src = true → (s.link h.src).queue = [] →
      s.fld (HDG_DIE_STATE.STATE h.src) ≠ 2 → ∃ t, exec (.eventFlit h .resetDone) s = .next t ∧
      t.sends h.src (.level i (s.levelValue (s.word i)))) ∧
    (∀ sums, ∃ t, exec (.dataFlit h (.obsSums sums)) s = .next t ∧ SMap.get (fun _ => []) t.obs.pkg h.src = sums) ∧
    (∀ lines, ∃ t, exec (.dataFlit h (.watchSums lines)) s = .next t ∧ ∀ r, r < 16 →
      t.reg64 (OBS_WATCH_B_LO r) = (s.reg64 (OBS_WATCH_B_LO r) + listGet 0 lines r) % 2 ^ 64 ∧
      t.reg64 (OBS_WATCH_E_LO r) = (s.reg64 (OBS_WATCH_E_LO r) + (SMap.get (fun _ => 0) s.obs.pj r +
        listGet 0 lines r * s.fld (OBS_WATCH_0.EPL r)) / 1000000 * min 1 (listGet 0 lines r)) % 2 ^ 64) ∧
    (∀ pj t0 t1, ∃ t, exec (.dataFlit h (.gap pj t0 t1)) s = .next t ∧
      t.reg64 (EST_PKG_E 0) = min (s.reg64 (EST_PKG_E 0) + ((SMap.get (fun _ => 0) s.est.rem 1026 + pj) / 1000000).toNat)
        (2 ^ 64 - 1) ∧
      ∀ w, w < 4 → t.window w = if s.winOn w then (s.window w).spread [h.src, 8] (s.slotNs w) pj t0 t1
        (if s.slotNs w = 0 then 1 else (t1 - t0) / s.slotNs w + 2) else s.window w) ∧
    (∀ ts, ∃ t, exec (.dataFlit h (.stacks ts)) s = .next t ∧ SMap.get (fun _ => []) t.thm.dieStacks h.src = ts) ∧
    (∀ mv, ∃ t, exec (.dataFlit h (.vin mv)) s = .next t ∧ SMap.find t.avs.dies h.src = some mv) ∧
    (∀ b : Bulk, b.ofFollower = false → ∃ t, exec (.dataFlit h b) s = .next t ∧ s.dataIgnored t)

/-- R29, R82, R322, R323, R325, R332 to R334: an acknowledgement frees what it covers; a bad or stale flit is counted and not
taken; a heartbeat is noted and strap flits are while the exchange is open; what is unacknowledged is sent again after RETRY
and the link fails after four transfers; heartbeats go to the awake instances; three missed in a row lose a die, or the
leader; a wake is answered or times out. -/
def Obligations.LinksCarryRetryAndFail : Prop :=
  (∀ (s : State) (h : FlitHdr), h.src < 8 → s.hears h = true →
    (h.bad = true → ∃ t, exec (.linkFlit h) s = .next t ∧
      t.fld (HDG_LINK.CRC_ERR h.src) = min (s.fld (HDG_LINK.CRC_ERR h.src) + 1) (HDG_LINK.CRC_ERR h.src).top) ∧
    (h.bad = false → (s.link h.src).epoch = some h.epoch → h.ackVld = true → h.nak = false → (s.link h.src).queue = [] →
      ∃ t, exec (.linkFlit h) s = .next t ∧
        (t.link h.src).unacked = ackedUpTo (s.link h.src).unacked (h.ack % 64)) ∧
    (∀ d ldr, h.bad = false → (s.link h.src).epoch = some h.epoch → h.nak = false → s.ps.exchange = true →
      ∃ t, exec (.strapFlit h d ldr) s = .next t ∧ (t.link h.src).strap = some (d, ldr)) ∧
    (∀ bs : List Nat,
      (crc16 (bs.take 14) ≠ pNum bs 14 2 → ∃ t, exec (.hdgFlitDiscard h.src bs) s = .next t ∧
        t.fld (HDG_LINK.CRC_ERR h.src) = min (s.fld (HDG_LINK.CRC_ERR h.src) + 1) (HDG_LINK.CRC_ERR h.src).top) ∧
      (crc16 (bs.take 14) = pNum bs 14 2 → (∀ e, (s.link h.src).epoch = some e → olderEpoch (pNum bs 4 2) e = false) →
        0x0E < pByte bs 0 → ∃ t, exec (.hdgFlitDiscard h.src bs) s = .next t ∧
        t.fld HDG_DISCARD.BAD_TYPE = min (s.fld HDG_DISCARD.BAD_TYPE + 1) HDG_DISCARD.BAD_TYPE.top) ∧
      (∀ e, crc16 (bs.take 14) = pNum bs 14 2 → (s.link h.src).epoch = some e → olderEpoch (pNum bs 4 2) e = true →
        ∃ t, exec (.hdgFlitDiscard h.src bs) s = .next t ∧
        t.fld HDG_DISCARD.STALE = min (s.fld HDG_DISCARD.STALE + 1) HDG_DISCARD.STALE.top))) ∧
  (∀ (s : State) (h : FlitHdr) (p : Nat) (st au : Bool), s.takes h → ∃ t, exec (.heartbeatFlit h p st au) s = .next t ∧
    (t.link h.src).missed = 0 ∧ (t.link h.src).pstate = p ∧ (t.link h.src).stopped = st ∧ (t.link h.src).autonomous = au ∧
    (s.leader = true → st = true → t.fld (HDG_DIE_STATE.STATE h.src) = 3)) ∧
  (∀ (s : State) (d : Nat) (x : TxFlit) (xs : List TxFlit), d < 8 → s.ps.porst = true → (s.link d).unacked = x :: xs →
    (x.tries < 4 ∨ s.ps.exchange = true → ∃ t, exec (.hdgRetryTimeout d) s = .next t ∧ t.now = max s.now (x.at_ + s.fld HDG_CTRL.RETRY) ∧
      (t.link d).unacked = (x :: xs).map (fun y => { y with tries := y.tries + 1, at_ := t.now })) ∧
    (4 ≤ x.tries → s.ps.exchange = false → (s.link d).failed = false → (s.leader = true → d ≠ s.dieId ∧ s.fld (HDG_DIE_STATE.STATE d) ≠ 3) →
      ∃ t, exec (.hdgRetryTimeout d) s = .next t ∧ (t.link d).failed = true ∧ (t.link d).unacked = [])) ∧
  (∀ s : State, s.ps.porst = true → s.ps.exchange = false → s.flag HEATH_DOMAIN_STATUS.CORE_ON = true →
    ∃ t, exec .heartbeatSend s = .next t ∧ t.now = max s.now (s.hdg.hbAt + 1000 * s.fld HDG_CTRL.HB_PERIOD) ∧
      t.hdg.hbAt = t.now ∧ ∀ d, d ∈ s.instances → (s.link d).awake = true → (s.link d).unacked.length < 16 →
        (s.link d).queue = [] → ((t.link d).unacked.map (fun x => x.payload)).contains
          (.heartbeat s.pstate s.stopped (s.flag HDG_STATUS.AUTONOMOUS)) = true) ∧
  (∀ (s : State) (d : Nat), d < 8 → s.ps.porst = true → s.ps.exchange = false → d ∈ s.instances → (s.link d).awake = true →
    s.fld (HDG_DIE_STATE.STATE d) ≠ 2 →
    ((s.link d).missed < 2 → ∃ t, exec (.heartbeatMiss d) s = .next t ∧ (t.link d).missed = (s.link d).missed + 1) ∧
    (2 ≤ (s.link d).missed → s.leader = true → ∃ t, exec (.heartbeatMiss d) s = .next t ∧
      t.fld (HDG_DIE_STATE.STATE d) = 3) ∧
    (2 ≤ (s.link d).missed → s.leader = false → d = s.leaderDie → ∃ t, exec (.heartbeatMiss d) s = .next t ∧
      t.flag HDG_STATUS.AUTONOMOUS = true)) ∧
  (∀ (s : State) (d : Nat), d < 8 → (s.link d).failed = false →
    (s.ps.porst = true → d ≠ s.dieId → ∃ t, exec (.hdgAwakeIn d) s = .next t ∧ (t.link d).awake = true ∧
      (t.link d).missed = 0 ∧ (t.link d).wakeAt = none) ∧
    (∀ t0, (s.link d).wakeAt = some t0 → (s.link d).awake = false →
      (s.leader = true → d ≠ s.dieId ∧ s.fld (HDG_DIE_STATE.STATE d) ≠ 3) → ∃ t, exec (.hdgWakeTimeout d) s = .next t ∧
        t.now = max s.now (t0 + 1000) ∧ (t.link d).failed = true))

/-- R328 to R331, R335, R336: the commit at the head of the queue starts, and one with nothing staged is over at once; a
participant that does not answer within 5 µs, a set without COMMIT for 20 µs, a forwarded command without CMD_DONE for 100 µs
and a catch-up that does not come end as the spec says; at T every register of the prepared set takes its value, no other
register but those listed by name changes, and the leader is free again. -/
def Obligations.CommitsStartApplyAndTimeOut : Prop :=
  (∀ (s : State) (c : Commit) (rest : List Commit), s.leader = true → s.inReset = false → s.ps.porst = true →
    s.fw.paused = false → s.hdg.running = none → s.hdg.queue = c :: rest → s.mayStart c = true →
    (c.act = .config → s.nothingStaged = true → ∃ t, exec .commitStart s = .next t ∧ t.hdg.running = none ∧
      t.hdg.nextId = (s.hdg.nextId + 1) % 65536 ∧ t.fld HDG_COMMIT_ID.RESULT = 2) ∧
    ((∀ id, c.act ≠ .release id) → (∀ d, c.act ≠ .catchUp d) → (c.act = .config → s.nothingStaged = false) →
      (s.prepareFaults (s.valuesFor c.act s.dieId) (some c.act) (if c.act.hostStarted then s.hdg.fabStaged else [])).2 = 0 →
      ∃ t, exec .commitStart s = .next t ∧ t.hdg.nextId = (s.hdg.nextId + 1) % 65536 ∧
        t.hdg.prepared.map (fun p => (p.id, p.kind)) = some ((s.hdg.nextId + 1) % 65536, c.act.kind) ∧
        t.hdg.running.map (fun x => (x.id, x.act)) = some ((s.hdg.nextId + 1) % 65536, c.act) ∧ t.hdg.queue = rest)) ∧
  (∀ (s : State) (c : Commit), s.ps.porst = true → s.inReset = false → s.hdg.running = some c → c.phase = 1 →
    c.wait ≠ 0 → (∀ d, c.act ≠ .catchUp d) → ∃ t, exec .prepareTimeout s = .next t ∧ t.now = max s.now (c.at_ + 5000) ∧
      t.hdg.running = none ∧ t.hdg.prepared = none ∧ t.fld HDG_COMMIT_ID.RESULT = 4) ∧
  (∀ (s : State) (p : Prepared), s.ps.porst = true → s.leader = false → s.hdg.prepared = some p → p.t = none →
    ∃ t, exec .commitOrphan s = .next t ∧ t.now = max s.now (p.at_ + 20000) ∧ t.hdg.prepared = none ∧
      t.raises = s.raises ++ [⟨srcHdgCommitOrphan, syndrome s.leaderDie p.id 0, false⟩] ∧
      t.fld HDG_COMMIT_CNT.ABORTED = min (s.fld HDG_COMMIT_CNT.ABORTED + 1) HDG_COMMIT_CNT.ABORTED.top) ∧
  (∀ (s : State) (tag m d t0 : Nat) (a : Active), s.ps.porst = true → SMap.find s.hdg.fwd tag = some (m, d, t0) →
    s.cmd m = some a → a.acc = [] → ∃ t, exec (.cmdDoneTimeout tag) s = .next t ∧ t.now = max s.now (t0 + 100000) ∧
      SMap.find t.hdg.fwd tag = none ∧ t.fld CMD_LAST.STATUS = stTimeout) ∧
  (∀ (s : State) (p : Prepared) (T : Nat), s.ps.porst = true → s.hdg.prepared = some p → p.t = some T →
    (s.hdg.running = none → ∃ t, exec .commitApply s = .next t ∧ T ≤ t.skyNs ∧ t.hdg.prepared = none ∧
      t.fld HDG_COMMIT_CNT.APPLIED = min (s.fld HDG_COMMIT_CNT.APPLIED + 1) HDG_COMMIT_CNT.APPLIED.top ∧
      s.takesSet t p.regs) ∧
    (∀ c : Commit, s.hdg.running = some c → c.phase = 2 → s.leader = true → ∃ t, exec .commitApply s = .next t ∧
      T ≤ t.skyNs ∧ t.hdg.running = none ∧ t.hdg.prepared = none ∧ t.fld HDG_COMMIT_ID.RESULT = 1 ∧
      ((∀ d, c.act ≠ .catchUp d) → s.takesSet t p.regs))) ∧
  (∀ (s : State) (d : Nat), d < 8 → s.ps.porst = true →
    (∀ t0, s.leader = true → d ≠ s.dieId → SMap.find s.hdg.catching d = some t0 → s.fld (HDG_DIE_STATE.STATE d) ≠ 3 →
      ∃ t, exec (.catchUpTimeout d) s = .next t ∧ t.now = max s.now (t0 + 2000000) ∧
        t.fld (HDG_DIE_STATE.STATE d) = 3 ∧ SMap.find t.hdg.catching d = none) ∧
    (s.leader = false → d = s.dieId → s.ps.catchUp = true → s.flag HDG_STATUS.AUTONOMOUS = false →
      ∃ t, exec (.catchUpTimeout d) s = .next t ∧ t.now = max s.now (s.ps.outAt + 2000000) ∧
        t.flag HDG_STATUS.AUTONOMOUS = true ∧ t.ps.catchUp = false))

/-- R343, R345 to R351, R356 to R359: discovery enters a node among the peers; an accepted ACK frees what it names; a new PACE
of a tree neighbour merges into the group's word, and an EMERG of the manager into the node's; a release is prepared, voted
on, committed and aborted at the buffer of its REL_ID. A peer is entered with the port on which its frame arrived, whatever
port the frame names, which is deduced (log 126). -/
def Obligations.EdvikFramesAct : Prop :=
  (∀ (s : State) (f : FrameHdr) (node port : Nat), s.fabRuns = true →
    (node = s.nodeId → ∃ t, exec (.hello f node port) s = .next t ∧ t.fab.peers = s.fab.peers ∧
      t.raises = s.raises ++ [⟨srcFabIdClash, fabSyn node 0 0, false⟩]) ∧
    (node ≠ s.nodeId → node ≠ 0xFFFF → (s.peer node = none → s.fab.peers.length < 4096) →
      (∃ t p, exec (.hello f node port) s = .next t ∧ t.peer node = some p ∧ p.port = f.port ∧ p.addr = f.addr ∧
        p.heardAt = s.now ∧ p.reachable = true) ∧
      (f.dst = s.nodeId → ∃ t p, exec (.helloAck f node port) s = .next t ∧ t.peer node = some p ∧ p.port = f.port ∧
        p.addr = f.addr ∧ p.heardAt = s.now ∧ p.reachable = true))) ∧
  (∀ (s : State) (f : FrameHdr) (seqs : List Nat), s.fabRuns = true → s.fromPeer f = true →
    ∃ t p, exec (.ackFrame f seqs) s = .next t ∧ t.peer f.src = some p ∧ p.heardAt = s.now ∧ p.reachable = true ∧
      ∀ x ∈ p.unacked, x.seq ∉ seqs) ∧
  (∀ (s : State) (f : FrameHdr), s.newFrame f →
    (∀ group rate valid holder i, slotOfGroup s.fab.groups group = some i → (s.treeOf i).contains f.src = true →
      holder ≠ s.nodeId → ∃ t, exec (.pace f group rate valid holder) s = .next t ∧ (t.word i).set = true ∧
        (t.word i).rate = ((s.word i).merge s.skyNs rate valid holder).rate ∧
        (t.word i).expiry = ((s.word i).merge s.skyNs rate valid holder).expiry ∧
        (t.word i).holder = ((s.word i).merge s.skyNs rate valid holder).holder) ∧
    (∀ rate group valid, ∃ t, exec (.emerg f 0 rate group valid (s.fld FAB_NODE.MGR_NODE)) s = .next t ∧
      (t.word emergIdx).set = true ∧ (t.word emergIdx).rate =
        ((s.word emergIdx).merge s.skyNs rate valid (s.fld FAB_NODE.MGR_NODE)).rate) ∧
    (∀ id levels group newSet newRate valid i, slotOfGroup s.fab.groups group = some i → group ≠ 0xFFFF →
      (s.treeOf i).contains f.src = true → s.buf id = none → s.fabDown = false →
      (s.bufsUsed < s.fld FAB_REL.BUFS → ∃ t b, exec (.relPrepare f id 0 levels group newSet newRate valid) s = .next t ∧
        t.buf id = some b ∧ b.slot = i ∧ b.src = f.src ∧ b.newSet = newSet ∧ b.newRate = newRate ∧ b.valid = valid ∧
        b.orig = false ∧ b.voted = b.wait.isEmpty ∧
        b.wait = if 1 < levels then (s.treeOf i).filter (fun n => n != f.src) else []) ∧
      (s.fld FAB_REL.BUFS ≤ s.bufsUsed → ∃ t, exec (.relPrepare f id 0 levels group newSet newRate valid) s = .next t ∧
        t.fab.bufs = s.fab.bufs)) ∧
    (∀ (b : RelBuf) v count, s.buf b.id = some b → b.wait.contains f.src = true →
      (b.orig = false → b.voted = false → ∃ t x, exec (.relVote f b.id v count) s = .next t ∧ t.buf b.id = some x ∧
        x.wait = b.wait.filter (fun n => n != f.src) ∧ x.ready = b.ready + (if v = 0 then count else 0) ∧
        x.voted = x.wait.isEmpty) ∧
      (b.orig = true → v = 1 → ∃ t, exec (.relVote f b.id v count) s = .next t ∧ t.buf b.id = none ∧
        t.fld FAB_REL_STATUS.RESULT = 2) ∧
      (b.orig = true → v = 0 → b.nobuf = false → b.timeout = false → b.wait.all (fun n => n == f.src) = true →
        ∃ t x, exec (.relVote f b.id v count) s = .next t ∧ t.buf b.id = some x ∧
        x.t = some (s.skyNs + 1000 * s.fld FAB_REL.LEAD))) ∧
    (∀ b : RelBuf, s.buf b.id = some b → b.orig = false → b.src = f.src → b.t = none →
      (∀ T, ∃ t x, exec (.relCommit f b.id T) s = .next t ∧ t.buf b.id = some x ∧ x.t = some T) ∧
      (∃ t, exec (.relAbort f b.id) s = .next t ∧ t.buf b.id = none)))

/-- R84, R342, R343, R346, R350, R352, R354, R357, R359, R360, R363 to R366: unacknowledged frames are sent again and then
abandoned; HELLOs go out at their period and a silent peer is lost; a rate is refreshed; level words expire and saturated ones
are told again; the waits and holds of a release end; a time pulse disciplines the counter, a missing one begins holdover, and
a resync steps every instance back. A datagram that is discarded before its frame is judged is counted in FAB_RX or
FAB_DROP.REJECT as logs 84 and 153 choose, and the first valid time value loads the counter (log 87): the model's choices.
While the core domain is gated the counter takes 1,000 ns at each edge of tp_pulse (R367). -/
def Obligations.FabricTimersAndSkylark : Prop :=
  (∀ s : State, s.ps.porst = true → s.fabRuns = true →
    (∀ n p x, s.peer n = some p → p.unacked.find? (fun y => y.seq == x.seq) = some x →
      (x.tries < s.fld FAB_RTX.RETRIES → ∃ t q, exec (.fabRetransmit n x.seq) s = .next t ∧ t.peer n = some q ∧
        t.now = max s.now (x.at_ + 1000 * s.fld FAB_RTX.INTERVAL) ∧
        q.unacked.find? (fun y => y.seq == x.seq) = some { x with tries := x.tries + 1, at_ := t.now }) ∧
      (s.fld FAB_RTX.RETRIES ≤ x.tries → ∃ t q, exec (.fabRetransmit n x.seq) s = .next t ∧ t.peer n = some q ∧
        q.unacked.find? (fun y => y.seq == x.seq) = none ∧
        t.fld FAB_FAIL.ABANDONED = min (s.fld FAB_FAIL.ABANDONED + 1) FAB_FAIL.ABANDONED.top)) ∧
    (∃ t, exec .discoveryPeriod s = .next t ∧ t.now = max s.now (s.fab.helloAt + 10000000 * s.fld FAB_DISC.PERIOD) ∧
      t.fab.helloAt = t.now ∧ t.out.length = s.out.length + (bitsSet 16 (s.fld FAB_DISC.PORTS)).length +
        (s.fab.peers.filter (fun p => p.2.explicit)).length) ∧
    (∀ n p, s.peer n = some p → p.reachable = true → ∃ t q, exec (.peerDead n) s = .next t ∧ t.peer n = some q ∧
      q.reachable = false ∧ q.unacked = [] ∧ q.queue = p.unacked.map (fun x => x.body) ++ p.queue ∧
      t.raises = s.raises ++ [⟨srcFabPeerLost, fabSyn n 0 0, false⟩]) ∧
    (∀ i g l, s.groupAt i = some g → SMap.find s.fab.sentRate i = some l → s.nodeRate g ≤ l →
      ∃ t, exec (.paceRefresh i) s = .next t ∧ SMap.get (fun _ => 0) t.fab.paceAt i = t.now ∧
        t.now = max s.now (SMap.get (fun _ => 0) s.fab.paceAt i + 100000 * s.fld FAB_PACE.REFRESH)) ∧
    (∀ err bs, ∃ t, exec (.edvikFrameDiscard err bs) s = .next t ∧
      t.fld FAB_DROP.REJECT = min (s.fld FAB_DROP.REJECT + 1) FAB_DROP.REJECT.top ∧
      (err = true ∨ 1024 < bs.length ∨ bs.length < 20 ∨ bodyOfBytes (pByte bs 1) (bs.drop 20) = none → t.reg FAB_RX = s.reg FAB_RX) ∧
      (err = false → (frameOfBytes bs).isSome = true → t.reg FAB_RX = min (s.reg FAB_RX + 1) (2 ^ 32 - 1)))) ∧
  (∀ (s : State) (i : Nat), s.ps.porst = true → (s.word i).set = true →
    (∃ t, exec (.levelWordExpiry i) s = .next t ∧ t.word i = {} ∧ (s.word i).expiry ≤ t.skyNs) ∧
    (s.leader = true → (s.word i).resend = true → ∃ t, exec (.levelWordResend i) s = .next t ∧
      t.word i = { s.word i with resend := false })) ∧
  (∀ (s : State) (b : RelBuf), s.buf b.id = some b →
    (b.orig = false → b.voted = false → ∃ t x, exec (.voteWaitEnd b.id) s = .next t ∧ t.buf b.id = some x ∧
      x.voted = true ∧ x.timeout = true ∧ x.wait = [] ∧
      t.now = max s.now (b.at_ + 1000 * ((b.levels - 1) * s.fld FAB_REL.HOP_WAIT))) ∧
    (b.orig = true → b.t = none → ∃ t, exec (.originatorWaitEnd b.id) s = .next t ∧ t.buf b.id = none ∧
      t.fld FAB_REL_STATUS.RESULT = 2 ∧ t.now = max s.now (b.at_ + 1000 * (b.levels * s.fld FAB_REL.HOP_WAIT)) ∧
      SMap.find t.fab.retryAt b.slot = some (t.now + 100000 * s.fld FAB_REL_HOLD.RETRY_GAP)) ∧
    (b.orig = false → b.t = none → ∃ t, exec (.releaseBufferHoldExpiry b.id) s = .next t ∧ t.buf b.id = none ∧
      t.now = max s.now (b.at_ + 100000 * s.fld FAB_REL_HOLD.HOLD) ∧
      t.fld FAB_FAIL.ORPHANS = min (s.fld FAB_FAIL.ORPHANS + 1) FAB_FAIL.ORPHANS.top)) ∧
  (∀ (s : State) (i t0 : Nat), SMap.find s.fab.retryAt i = some t0 → ∃ t, exec (.releaseRetry i) s = .next t ∧
    t.now = max s.now t0 ∧ SMap.find t.fab.retryAt i = none) ∧
  (∀ s : State, s.ps.porst = true →
    (∀ v sub, s.leader = true → s.flag TIME_STATUS.BACKSTEP = false →
      (s.sky.expected = none → ∃ t, exec (.tpPulse (some v) sub) s = .next t ∧ t.skyNs = v ∧ t.sky.expected = some v ∧
        t.flag TIME_STATUS.PTP_VALID = true) ∧
      (s.sky.expected.isSome = true → s.skyGated = false → s.sky.step = false → (s.phaseError v (sub % 16)).natAbs ≤ s.stepLimit.toNat →
        ∃ t, exec (.tpPulse (some v) sub) s = .next t ∧ t.sky.expected = some v ∧ t.sky.slewLeft = 1000 ∧
        t.sky.rate = clampInt (-rateLimit) rateLimit (s.sky.rate +
          ashr (s.phaseError v (sub % 16) * 268435456) (s.fld TIME_CTRL.KI_SHIFT)))) ∧
    (∀ sub, s.skyGated = true → s.leader = false → s.sky.flit = none → ∃ t, exec (.tpPulse none sub) s = .next t ∧
      t.skyNs = max s.skyNs (s.sky.edge + 1000) ∧ t.sky.edge = t.skyNs) ∧
    (s.sky.holdFrom = none → ∃ t, exec .pulseMissing s = .next t ∧ t.now = max s.now (s.sky.pulseAt + 2500) ∧
      t.flag TIME_STATUS.HOLDOVER = true ∧ t.sky.holdFrom = some t.now ∧ t.sky.missRun = s.sky.missRun + 1 ∧
      t.fld TIME_STATUS.MISSED = min (s.fld TIME_STATUS.MISSED + 1) TIME_STATUS.MISSED.top) ∧
    (s.sky.holdFrom = none → s.leader = false → ∃ t, exec .skylarkHoldover s = .next t ∧
      t.now = max s.now (s.sky.flitAt + 3000000) ∧ t.flag TIME_STATUS.HOLDOVER = true ∧ t.sky.holdFrom = some t.now) ∧
    (∀ v, s.sky.expected = some v → s.flag TIME_STATUS.RESYNC_WAIT = true → s.hdg.running = none → s.hdg.queue = [] →
      s.fab.bufs = [] → ∃ t, exec .resyncApply s = .next t ∧ t.skyNs = (v / 1000000 + 1) * 1000000 ∧
        t.flag TIME_STATUS.RESYNC_WAIT = false ∧ t.flag TIME_STATUS.BACKSTEP = false ∧
        t.flag TIME_STATUS.HOLDOVER = false))

/-- R59, R61, R62, R373, R376, R377, R401, R406, R407, R459: a response ends its transaction, and an error of it is raised;
after 100 µs a transaction fails and its tag waits for the late response; a posted command of the host's epoch is picked up,
one of another epoch or kind is counted, and an ATTACH is taken from mailbox 0; a waiting notice goes into its empty slot; a
session without heartbeat is UNATTENDED; the management endpoint takes one request at a time, in its turn after the mailboxes,
and answers its control and PLDM messages (how these are coded is the model's choice, log 37). That CODE 2 in the syndrome of
MEM_PORT_ERR stands for a timeout, and that a late error response of a tag that has timed out raises it with the address that
was kept, is deduced (log 123). -/
def Obligations.MemoryPortMailboxesAndManagement : Prop :=
  (∀ (s : State) (tag err m : Nat) (data : List Nat) (x : MemTxn) (a : Active), tag < 32 → s.noTurn → s.cmd m = some a →
    (SMap.find s.mem.out tag = some x → x.job = .reply m → 1 < a.left →
      (∃ t, exec (.memResponse tag err data) s = .next t ∧ SMap.find t.mem.dead tag = SMap.find s.mem.dead tag ∧
        t.cmd m = some { a with left := a.left - 1, failed := a.failed || err != 0 } ∧
        t.raises = s.raises ++ (if err = 0 then [] else [⟨srcMemPortErr, memSyn tag err x.addr, false⟩])) ∧
      (∃ t, exec (.memPortTimeout tag) s = .next t ∧ t.now = max s.now (x.at_ + 100000) ∧
        SMap.find t.mem.out tag = none ∧ SMap.find t.mem.dead tag = some (some x.addr) ∧
        t.cmd m = some { a with left := a.left - 1, failed := true } ∧
        t.raises = s.raises ++ [⟨srcMemPortTimeout, memSyn tag 2 x.addr, false⟩])) ∧
    (SMap.find s.mem.out tag = some x → x.job = .header m → err ≠ 0 → ∃ t, exec (.memResponse tag err data) s = .next t ∧
      t.cmd m = none ∧ t.fld CMD_ERR.MEM_ERR = min (s.fld CMD_ERR.MEM_ERR + 1) CMD_ERR.MEM_ERR.top ∧
      t.fld CMD_ERR.REJECTS =
        if a.mute then s.fld CMD_ERR.REJECTS else min (s.fld CMD_ERR.REJECTS + 1) CMD_ERR.REJECTS.top) ∧
    (SMap.find s.mem.out tag = none → SMap.find s.mem.dead tag = some (some x.addr) →
      ∃ t, exec (.memResponse tag err data) s = .next t ∧ SMap.find t.mem.dead tag = none ∧ t.cmds = s.cmds ∧
        t.raises = s.raises ++ (if err = 0 then [] else [⟨srcMemPortErr, memSyn tag err x.addr, false⟩]))) ∧
  (∀ (s : State) (m : Nat), m < 32 → s.noTurn →
    (s.pickable m = true → s.fld (MB_IN_W0L.KIND m) = 1 →
      (s.hostEpoch ≠ 0 → s.fld (MB_IN_W1H.HOST_EPOCH m) = s.hostEpoch → ∃ t a, exec (.commandPickup m) s = .next t ∧
        bitAt (t.reg MB_IN_FULL) m = false ∧ t.cmd m = some a ∧ a.stage = 5 ∧ a.epoch = s.hostEpoch ∧ a.attach = false ∧
        a.addr = s.fld (MB_IN_W0L.ADDR_LO m) * 64 + s.fld (MB_IN_W0H.ADDR_HI m) * 2 ^ 32 ∧
        a.slotSeq = s.fld (MB_IN_W1L.SEQ m) ∧ a.slotLen = s.fld (MB_IN_W1L.LEN m) ∧ a.pickup = s.skyNs) ∧
      (s.hostEpoch = 0 ∨ s.fld (MB_IN_W1H.HOST_EPOCH m) ≠ s.hostEpoch → ∃ t, exec (.commandPickup m) s = .next t ∧
        bitAt (t.reg MB_IN_FULL) m = false ∧ t.cmds = s.cmds ∧
        t.fld CMD_ERR.STALE = min (s.fld CMD_ERR.STALE + 1) CMD_ERR.STALE.top)) ∧
    (s.pickable m = true → s.fld (MB_IN_W0L.KIND m) ≠ 1 →
      (s.fld (MB_IN_W0L.KIND m) = 2 → m = 0 → ∃ t a, exec (.commandPickup m) s = .next t ∧
        bitAt (t.reg MB_IN_FULL) m = false ∧ t.cmd m = some a ∧ a.stage = 5 ∧ a.attach = true) ∧
      (s.fld (MB_IN_W0L.KIND m) ≠ 2 ∨ m ≠ 0 → ∃ t, exec (.commandPickup m) s = .next t ∧
        bitAt (t.reg MB_IN_FULL) m = false ∧ t.cmds = s.cmds ∧
        t.fld CMD_ERR.BAD_KIND = min (s.fld CMD_ERR.BAD_KIND + 1) CMD_ERR.BAD_KIND.top ∧
        t.fld CMD_ERR.REJECTS = min (s.fld CMD_ERR.REJECTS + 1) CMD_ERR.REJECTS.top)) ∧
    (∀ n rest, s.mayPost m = true → s.replyQueue m = n :: rest → n.detach = false →
      ∃ t, exec (.noticePost m) s = .next t ∧ t.replyQueue m = rest ∧ bitAt (t.reg MB_OUT_FULL) m = true ∧
        t.reg (MB_OUT_W0L m) = n.addr / 64 * 64 % 2 ^ 32 + n.kind % 64 ∧
        t.reg (MB_OUT_W1L m) = n.seq % 65536 * 65536 + n.len % 8192) ∧
    (∀ n rest, s.mayPost m = true → s.replyQueue m = n :: rest → n.detach = true →
      ∃ t, exec (.noticePost m) s = .next t ∧ t.replyQueue m = rest ∧ bitAt (t.reg MB_OUT_FULL) m = true ∧
        t.sessionState = 2 ∧ t.fld CMD_SESSION.CAUSE = 2 ∧ t.unattended = true) ∧
    (∀ n rest, s.mayPost 0 = true → s.replyQueue 0 = [] → s.ses.events = n :: rest → n.detach = false →
      ∃ t, exec (.noticePost 0) s = .next t ∧ t.ses.events = rest ∧ bitAt (t.reg MB_OUT_FULL) 0 = true)) ∧
  (∀ s : State, s.ps.porst = true → s.leader = true → s.attaching = false → s.ses.hbOn = true → s.sessionState = 1 →
    ∃ t, exec .heartbeatTimeout s = .next t ∧ t.now = max s.now (s.ses.hbAt + 1000000 * s.fld CMD_SESSION.HB_TIMEOUT) ∧
      t.sessionState = 2 ∧ t.fld CMD_SESSION.CAUSE = 1 ∧ t.unattended = true ∧ t.ses.hbOn = false) ∧
  (∀ s : State, s.endpointUp = true →
    (∀ bs, (s.cmd srcMctp).isSome = true → exec (.mctpRequest bs) s = .next { s with out := s.out ++ [.answer .busy []] }) ∧
    (s.cmd srcMctp = none →
      (∀ bs classes need, bs.length ≤ 1024 → 32 + (parseHeader bs).plen ≤ bs.length → (parseHeader bs).reply = 0 →
        (parseHeader bs).next = 0 → 32 ≤ (parseHeader bs).rlen → (parseHeader bs).flags < 8 →
        bitAt (parseHeader bs).flags 0 = false → (parseHeader bs).rsvd = 0 → (parseHeader bs).opcode ≠ 1 →
        opcodeOf (parseHeader bs).opcode = some (classes, need) → bitAt classes 3 = true → need ≤ (parseHeader bs).plen →
        ∃ t a, exec (.mctpRequest bs) s = .next t ∧ t.cmd srcMctp = some a ∧ a.hdr = parseHeader bs ∧
          a.params = (bs.drop 32).take (parseHeader bs).plen ∧
          (s.flag HEATH_DOMAIN_STATUS.CORE_ON = true → t.out = s.out) ∧
          ((∀ k, k < 32 → bitAt (s.reg MB_IN_FULL) k = false) → a.stage = 1) ∧
          ((∃ k, k < 32 ∧ s.slotReady k = true) → a.stage = 6)) ∧
      (∀ e, ∃ t, exec (.mctpControl (.setEid e)) s = .next t ∧ t.ses.eid = e ∧ t.out = s.out ++ [.answer .done [(e : Int)]]) ∧
      exec (.mctpControl .getEid) s = .next { s with out := s.out ++ [.answer .done [(s.ses.eid : Int)]] } ∧
      exec (.mctpControl .getVendor) s = .next { s with out := s.out ++ [.answer .done [(s.otp.enterprise : Int)]] } ∧
      (∀ n, ∃ t, exec (.pldmRequest (.setTid n)) s = .next t ∧ t.ses.tid = n ∧ t.out = s.out ++ [.answer .done []]) ∧
      exec (.pldmRequest .session) s = .next { s with out := s.out ++ [.answer .done [(s.sessionState : Int)]] } ∧
      (∀ n, n < 4 → exec (.pldmRequest (.getLimit n)) s =
        .next { s with out := s.out ++ [.answer .done [(s.reg (BUD_WIN_LIMIT n) : Int)]] }) ∧
      (∀ kind d v rest, s.ses.pldm = (kind, d, v) :: rest → exec (.pldmRequest .poll) s = .next
        { s with ses := { s.ses with pldm := rest }, out := s.out ++ [.answer .done [(kind : Int), (d : Int), v]] })))

/-- R393 to R397, R399, R400, R403: what the opcodes of sessions, staging, budgets, profiles, tables and the fabric do.
ATTACH takes over the session with the new host epoch, and DETACH marks its notice; HEARTBEAT, GET_INFO, GET_BUDGET and
FABRIC_STATUS answer with the registers they name; STAGE_BUDGET and ABORT_STAGE change what is staged; every other one
stages what it carries and takes its place in the commit queue. -/
def Obligations.SessionStagingAndFabricOpcodesExecute : Prop :=
  (∀ (s : State) (m : Nat) (a : Active), s.runs m 0x0001 a → a.hdr.hostEpoch ≠ 0 → a.hdr.hostEpoch < 65536 →
    a.hdr.hostEpoch ≠ s.hostEpoch → pByte a.params 0 ≤ 1 → pByte a.params 1 = 0 →
    (if pByte a.params 0 = 1 then 10 ≤ pNum a.params 2 2 ∧ pNum a.params 2 2 ≤ 60000 else pNum a.params 2 2 = 0) →
    pNum a.params 4 2 ≤ 4096 → zeros a.params 6 2 → (pNum a.params 4 2 = 0 ∨ addrBad (pNum a.params 8 8) = false) →
    ∃ t, exec (.attach m) s = .next t ∧ s.completes t m 0x0001 stOk ∧ t.hostEpoch = a.hdr.hostEpoch ∧ t.sessionState = 1 ∧
      t.fld CMD_SESSION.CAUSE = 0 ∧ t.fld CMD_EVT.POSTED = 0 ∧ t.unattended = false ∧ t.ses.hbOn = true ∧
      t.ses.evtBase = pNum a.params 8 8 ∧ t.ses.evtCount = pNum a.params 4 2 ∧ t.ses.evtNext = 0 ∧ t.staged = [] ∧
      t.hdg.staged = [] ∧ (pByte a.params 0 = 1 → t.fld CMD_SESSION.HB_TIMEOUT = pNum a.params 2 2) ∧
      ∀ k, k < 32 →
        (bitAt (t.reg MB_IN_FULL) k = true ↔
          bitAt (s.reg MB_IN_FULL) k = true ∧ s.fld (MB_IN_W1H.HOST_EPOCH k) = a.hdr.hostEpoch) ∧
        (bitAt (t.reg MB_OUT_FULL) k = true ↔
          bitAt (s.reg MB_OUT_FULL) k = true ∧ s.fld (MB_OUT_W1H.HOST_EPOCH k) = a.hdr.hostEpoch)) ∧
  (∀ (s : State) (m : Nat) (a : Active), s.runs m 0x0002 a → a.attach = false → ∃ t, exec (.detach m) s = .next t ∧
    s.completes t m 0x0002 stOk ∧ s.replies t m a stOk [] ∧ (m < 32 → a.mute = false → s.sessionState = 1 →
      (t.cmd m).map (fun b => b.detach) = some true)) ∧
  (∀ (s : State) (m : Nat) (a : Active), s.runs m 0x0003 a → ∃ t, exec (.heartbeat m) s = .next t ∧
    s.completes t m 0x0003 stOk ∧
    s.replies t m a stOk (leBytes 4 (s.readReg CMD_SESSION) ++ leBytes 4 (s.readReg CMD_STATUS))) ∧
  (∀ (s : State) (m : Nat) (a : Active), s.runs m 0x0004 a → pByte a.params 0 = s.dieId → bitAt s.dieMask s.dieId = true →
    zeros a.params 1 7 → ∃ t, exec (.getInfo m) s = .next t ∧ s.completes t m 0x0004 stOk ∧ s.replies t m a stOk s.infoOut) ∧
  (∀ (s : State) (m : Nat) (a : Active), s.runs m 0x0101 a → pNum a.params 0 2 ≠ 0 → zeros a.params 2 6 →
    8 + 8 * pNum a.params 0 2 ≤ a.params.length →
    (∀ k, k < pNum a.params 0 2 → stageFits (entryAt a.params k).1 (entryAt a.params k).2.2 = true ∧
      (pkgStage (entryAt a.params k).1 = true ∧ (entryAt a.params k).2.1 = 0 ∨
        pkgStage (entryAt a.params k).1 = false ∧ dieStage (entryAt a.params k).1 = true ∧
          s.named (entryAt a.params k).2.1 = true)) →
    (s.stageEntries ((List.range (pNum a.params 0 2)).map (entryAt a.params))).2 = false →
    ∃ t, exec (.stageBudget m) s = .next t ∧ s.completes t m 0x0101 stOk ∧
      t.staged = (s.stageEntries ((List.range (pNum a.params 0 2)).map (entryAt a.params))).1.staged ∧
      t.hdg.staged = (s.stageEntries ((List.range (pNum a.params 0 2)).map (entryAt a.params))).1.hdg.staged) ∧
  (∀ (s : State) (m : Nat) (a : Active), s.runs m 0x0102 a →
    (s.queueRoom = true → ∃ t, exec (.commit m) s = .next t ∧ s.commits t m a .config) ∧
    (s.queueRoom = false → ∃ t, exec (.commit m) s = .next t ∧ s.completes t m 0x0102 stBusy ∧ t.hdg = s.hdg)) ∧
  (∀ (s : State) (m : Nat) (a : Active), s.runs m 0x0103 a → s.staged ≠ [] → ∃ t, exec (.abortStage m) s = .next t ∧
    s.completes t m 0x0103 stOk ∧ t.staged = [] ∧ t.hdg.staged = []) ∧
  (∀ (s : State) (m : Nat) (a : Active), s.runs m 0x0104 a → s.tenantOf m = none → pByte a.params 0 = s.dieId →
    s.named s.dieId = true → pByte a.params 1 ≤ 1 → zeros a.params 2 6 → ∃ t, exec (.getBudget m) s = .next t ∧
      s.completes t m 0x0104 stOk ∧ s.replies t m a stOk (s.budgetWith a.params (s.budgetOut none))) ∧
  (∀ (s : State) (m : Nat) (a : Active), s.queueRoom = true →
    (s.runs m 0x0201 a → pNum a.params 0 2 ≠ 0 → pNum a.params 0 2 ≤ 126 → zeros a.params 2 30 →
      32 + 32 * pNum a.params 0 2 ≤ a.params.length → ∃ t, exec (.loadProfile m) s = .next t ∧ s.commits t m a
        (.load ((List.range (pNum a.params 0 2)).map (fun k => (a.params.drop (32 + 32 * k)).take 32)))) ∧
    (s.runs m 0x0202 a → pNum a.params 2 2 ≠ 0 → ∃ t, exec (.dropProfile m) s = .next t ∧
      s.commits t m a (.drop (pNum a.params 0 2) (pNum a.params 2 2))) ∧
    (s.runs m 0x0203 a → zeros a.params 2 6 → pNum a.params 16 320 ≠ 0 → ∃ t, exec (.announce m) s = .next t ∧
      s.commits t m a (.reserve false (pNum a.params 0 2) (pNum a.params 8 8) (pNum a.params 16 320) (s.tenantOf m))) ∧
    (s.runs m 0x0204 a → zeros a.params 8 8 → pNum a.params 16 320 ≠ 0 → ∃ t, exec (.barrierHint m) s = .next t ∧
      s.commits t m a (.reserve true 0 (pNum a.params 0 8) (pNum a.params 16 320) (s.tenantOf m))) ∧
    (s.runs m 0x0301 a → s.named (pByte a.params 0) = true → zeros a.params 5 3 → 1 ≤ pByte a.params 1 →
      pByte a.params 1 ≤ 32 → 8 + 12 * pByte a.params 1 ≤ a.params.length → pByte a.params 2 ≤ 31 → 5 ≤ pByte a.params 4 →
      pByte a.params 4 ≤ 50 → (∀ w ∈ (tableWords a.params).drop 1, stageFits w.1 w.2.1 = true) →
      ∃ t, exec (.setOppTable m) s = .next t ∧ s.commits t m a .config ∧
        t.staged = (each (tableWords a.params) (fun w t => t.stageAt (pByte a.params 0) w.1 w.2.1) s).staged ∧
        t.hdg.staged = (each (tableWords a.params) (fun w t => t.stageAt (pByte a.params 0) w.1 w.2.1) s).hdg.staged) ∧
    (s.runs m 0x0302 a → s.named (pByte a.params 2) = true → zeros a.params 3 5 → pNum a.params 0 2 ≠ 0 →
      8 + 8 * pNum a.params 0 2 ≤ a.params.length →
      (∀ k, k < pNum a.params 0 2 → thmStage (entryAt a.params k).1 = true ∧ (entryAt a.params k).2.1 = pByte a.params 2 ∧
        stageFits (entryAt a.params k).1 (entryAt a.params k).2.2 = true) →
      (s.stageEntries ((List.range (pNum a.params 0 2)).map (entryAt a.params))).2 = false →
      ∃ t, exec (.setThermal m) s = .next t ∧ s.commits t m a .config ∧
        t.staged = (s.stageEntries ((List.range (pNum a.params 0 2)).map (entryAt a.params))).1.staged ∧
        t.hdg.staged = (s.stageEntries ((List.range (pNum a.params 0 2)).map (entryAt a.params))).1.hdg.staged) ∧
    (s.runs m 0x0401 a → pNum a.params 44 2 ≤ 64 → 48 + 20 * pNum a.params 44 2 ≤ a.params.length →
      pNum a.params 0 2 ≠ 0xFFFF → zeros a.params 46 2 → (∀ w ∈ assignWords a.params, stageFits w.1 w.2.1 = true) →
      (∀ k, k < pNum a.params 44 2 → pNum a.params (48 + 20 * k) 2 ≠ 0xFFFF ∧ pByte a.params (50 + 20 * k) ≤ 15 ∧
        pByte a.params (51 + 20 * k) = 0) →
      ∃ t, exec (.fabricAssign m) s = .next t ∧ s.commits t m a .config ∧
        t.staged = (each (assignWords a.params) (fun w t => t.stageAt t.dieId w.1 w.2.1) s).staged ∧
        t.hdg.fabStaged = s.hdg.fabStaged ++ (if pNum a.params 44 2 = 0 then [] else
          [.peers ((List.range (pNum a.params 44 2)).map (fun k => (pNum a.params (48 + 20 * k) 2,
            pByte a.params (50 + 20 * k), pNum a.params (52 + 20 * k) 16)))])) ∧
    (s.runs m 0x0402 a → pByte a.params 3 < 8 → pByte a.params 7 = 0 →
      (∀ k, k < 16 → pByte a.params 6 ≤ k → pNum a.params (8 + 2 * k) 2 = 0xFFFF) → zeros a.params 40 8 →
      ∃ t, exec (.joinGroup m) s = .next t ∧ s.commits t m a .config ∧
        t.hdg.fabStaged = s.hdg.fabStaged ++ [.join (parseGroup a.params)]) ∧
    (∀ k, s.runs m 0x0403 a → zeros a.params 2 2 → slotOfGroup s.fab.groups (pNum a.params 0 2) = some k →
      ∃ t, exec (.leaveGroup m) s = .next t ∧ s.commits t m a .config ∧
        t.hdg.fabStaged = s.hdg.fabStaged ++ [.leave k])) ∧
  (∀ (s : State) (m : Nat) (a : Active), s.runs m 0x0404 a → zeros a.params 4 4 → pNum a.params 2 2 = 0 →
    ∃ t, exec (.fabricStatus m) s = .next t ∧ s.completes t m 0x0404 stEmpty ∧ s.replies t m a stEmpty s.fabricWords)

/-- R228, R229, R316, R422, R423, R426, R446, R449, R453 to R457, R467, R468, R472, R473, R476: what the opcodes of the units
do, on the die they are sent to. SNAPSHOT and INJECT_START take their place in the commit queue; READ_COUNTERS, READ_RING and
CAPTURE_READ write their results before the reply, though outside ATTACHED nothing goes to host memory, and a read of an agent
whose half sleeps waits in its Stile queue; an injection on a follower is forwarded; ARM_TRIGGER, SET_WATCH, the modes of
FW_STAGE, FW_ACTIVATE, UNLOCK, RELOCK and the fault opcodes change the unit they name. How a message waits for a sleeping half
is log 176; that END before all bytes, and CANCEL, end the mode with reason 7 is log 121: the model's choices. -/
def Obligations.UnitOpcodesExecute : Prop :=
  (∀ (s : State) (m : Nat) (a : Active), s.fld (HEATH_FW_COMP.STATE 5) ≠ 3 → s.ctxWaits →
    (s.runs m 0x0501 a → pByte a.params 0 ≤ 1 → zeros a.params 1 7 → s.queueRoom = true →
      ∃ t, exec (.snapshot m) s = .next t ∧ s.commits t m a (.snapshot (pByte a.params 0 == 1))) ∧
    (s.runs m 0x0502 a → pByte a.params 0 = s.dieId → s.named s.dieId = true → pByte a.params 3 = 0 →
      addrBad (pNum a.params 8 8) = false → s.countersJudge (pByte a.params 1) (pByte a.params 2) (pNum a.params 4 2)
        (pNum a.params 6 2) (s.tenantOf m) = stOk →
      (s.sessionState ≠ 1 → ∃ t, exec (.readCounters m) s = .next t ∧ s.completes t m 0x0502 stOk) ∧
      (s.sessionState = 1 → ∃ t b, exec (.readCounters m) s = .next t ∧ t.cmd m = some b ∧ b.stage = 3 ∧ b.status = stOk ∧
        b.left = (writeLines (pNum a.params 8 8) (s.tenantOf m) (.result m) (s.countersOut (pByte a.params 1)
          (pByte a.params 2) (pNum a.params 4 2) (pNum a.params 6 2) (s.tenantOf m))).length)) ∧
    (s.runs m 0x0503 a → pByte a.params 0 = s.dieId → s.named s.dieId = true → pByte a.params 3 = 0 →
      pNum a.params 4 2 ≤ 2047 → zeros a.params 6 2 → pByte a.params 8 ≤ 15 → zeros a.params 9 7 →
      (pByte a.params 1 = 0 → pNum a.params 4 2 ≠ 0 → pByte a.params 8 ≠ 0 → s.fld RING_STATUS.STATE < 2 →
        ∃ t, exec (.armTriggerArm m) s = .next t ∧ s.completes t m 0x0503 stOk ∧ t.fld RING_STATUS.STATE = 1 ∧
          t.fld RING_TRIG.POST = pByte a.params 2 % 256 ∧ t.fld RING_TRIG.SOURCES = pNum a.params 4 2 ∧
          t.fld RING_TRIG_UNITS.UNITS = pByte a.params 8) ∧
      (pByte a.params 1 = 1 → s.fld RING_STATUS.STATE < 2 → ∃ t, exec (.armTriggerForce m) s = .next t ∧
        s.completes t m 0x0503 stOk ∧ 2 ≤ t.fld RING_STATUS.STATE ∧ t.fld RING_STATUS.SOURCE = 9) ∧
      (pByte a.params 1 = 2 → ∃ t, exec (.armTriggerResume m) s = .next t ∧ s.completes t m 0x0503 stOk ∧
        t.fld RING_STATUS.STATE = 0 ∧ t.fld RING_STATUS.LATE = 0)) ∧
    (s.runs m 0x0504 a → pByte a.params 0 = s.dieId → s.named s.dieId = true → addrBad (pNum a.params 8 8) = false →
      pNum a.params 6 2 ≠ 0 → pByte a.params 1 ≤ 3 → s.ringJudge (pByte a.params 1) (pNum a.params 2 2)
        (pNum a.params 6 2) (s.tenantOf m) = stOk →
      (pByte a.params 1 = 0 → s.stileHolds (halfOf (pNum a.params 2 2)) = true → ∃ t, exec (.readRing m) s = .next t ∧
        t.cmd m = some { a with stage := 2 } ∧ t.hdg.stileQ = s.hdg.stileQ ++ [(halfOf (pNum a.params 2 2),
          .read m (pNum a.params 2 2) (pNum a.params 4 2) (pNum a.params 6 2) (pNum a.params 8 8) (s.tenantOf m))]) ∧
      ((pByte a.params 1 = 0 → s.stileHolds (halfOf (pNum a.params 2 2)) = false) →
        (s.sessionState ≠ 1 → ∃ t, exec (.readRing m) s = .next t ∧ s.completes t m 0x0504 stOk) ∧
        (s.sessionState = 1 → ∃ t b, exec (.readRing m) s = .next t ∧ t.cmd m = some b ∧ b.stage = 3 ∧ b.status = stOk ∧
          b.left = (writeLines (pNum a.params 8 8) (s.tenantOf m) (.result m) (s.ringOut (pByte a.params 1)
            (pNum a.params 2 2) (pNum a.params 4 2) (pNum a.params 6 2))).length))) ∧
    (s.runs m 0x0505 a → pByte a.params 0 ≤ 15 → pByte a.params 1 ≤ 3 → zeros a.params 2 2 → zeros a.params 6 2 →
      pNum a.params 8 8 % 4096 = 0 → pNum a.params 8 8 ≤ pNum a.params 16 8 → pNum a.params 16 8 < 2 ^ 52 →
      ∃ t, exec (.setWatch m) s = .next t ∧
        t.flag (OBS_WATCH_0.EN (pByte a.params 0)) = bitAt (pByte a.params 1) 0 ∧
        t.fld (OBS_WATCH_0.EPL (pByte a.params 0)) = pNum a.params 4 2 % 65536 ∧
        t.reg (OBS_WATCH_4 (pByte a.params 0)) = pNum a.params 8 8 / 4096 % 2 ^ 32 ∧
        t.reg (OBS_WATCH_C (pByte a.params 0)) = pNum a.params 16 8 / 4096 % 2 ^ 32 ∧
        (2 ≤ pByte a.params 1 → t.reg64 (OBS_WATCH_B_LO (pByte a.params 0)) = 0 ∧
          t.reg64 (OBS_WATCH_E_LO (pByte a.params 0)) = 0))) ∧
  (∀ (s : State) (m : Nat) (a : Active), s.runs m 0x0601 a → zeros a.params 1 3 → s.fw.hostLoaded = false →
    s.fw.flash.isSome = true →
    (s.fwBusy = false → pNum a.params 4 4 ≠ 0 → pNum a.params 4 4 ≤ s.slotRoom →
      (pByte a.params 0 = 0 → m < 32 → addrBad (pNum a.params 8 8) = false → ∃ t, exec (.fwStageHost m) s = .next t ∧
        s.completes t m 0x0601 stDeferred ∧ t.fw.mode = 1 ∧ t.fw.stageLen = pNum a.params 4 4 ∧ t.fw.passedB = false ∧
        t.fw.readAt = pNum a.params 8 8 ∧ t.fw.readLeft = (pNum a.params 4 4 + 63) / 64 ∧
        t.fld HEATH_FW_STATUS.STAGE = 1) ∧
      (pByte a.params 0 = 1 → zeros a.params 8 8 → ∃ t, exec (.fwStageBegin m) s = .next t ∧
        s.completes t m 0x0601 stOk ∧ t.fw.mode = 2 ∧ t.fw.stageLen = pNum a.params 4 4 ∧ t.fw.stageAt = 0 ∧
        t.fw.passedB = false ∧ t.fld HEATH_FW_STATUS.STAGE = 1)) ∧
    (s.fw.mode = 2 →
      (pByte a.params 0 = 2 → pNum a.params 4 4 ≠ 0 → pNum a.params 4 4 ≤ (if m = srcMctp then 976 else 4048) →
        s.fw.stageAt + pNum a.params 4 4 ≤ s.fw.stageLen → pNum a.params 8 4 = s.fw.stageAt → zeros a.params 12 4 →
        16 + pNum a.params 4 4 ≤ a.hdr.plen → ∃ t, exec (.fwStageChunk m) s = .next t ∧ s.completes t m 0x0601 stOk ∧
          t.fw = { s.fw with prog := s.fw.prog ++ (a.params.drop 16).take (pNum a.params 4 4),
                             stageAt := s.fw.stageAt + ((a.params.drop 16).take (pNum a.params 4 4)).length }) ∧
      (pByte a.params 0 = 3 → zeros a.params 4 4 → zeros a.params 8 8 → ∃ t, exec (.fwStageEnd m) s = .next t ∧
        s.completes t m 0x0601 stDeferred ∧ t.fw = { s.fw with mode := 3 }) ∧
      (pByte a.params 0 = 4 → zeros a.params 4 4 → zeros a.params 8 8 → ∃ t, exec (.fwStageCancel m) s = .next t ∧
        s.completes t m 0x0601 stOk ∧ t.fw = { s.fw with mode := 0, readLeft := 0, passedB := false, verB := some 0 } ∧
        t.fld HEATH_FW_STATUS.STAGE = 3 ∧ t.fld HEATH_FW_STATUS.STAGE_REASON = 7))) ∧
  (∀ (s : State) (m : Nat) (a : Active),
    (s.runs m 0x0602 a → zeros a.params 4 4 → s.fw.passedB = true → s.fw.verB = some (pNum a.params 0 4) → s.fwBusy = false →
      (s.actBarred = true → ∃ t, exec (.fwActivate m) s = .next t ∧ s.completes t m 0x0602 stDeferred ∧
        t.fld HEATH_FW_STATUS.ACT = 1 ∧ t.fw.actAt = s.now - (s.skyNs - a.pickup)) ∧
      (s.actBarred = false → ∃ t, exec (.fwActivate m) s = .next t ∧ t.fld HEATH_FW_STATUS.ACT = 2 ∧ t.fw.paused = true ∧
        t.ses.hbOn = false ∧ t.cmd m = some { a with stage := 2 })) ∧
    (s.runs m 0x0603 a → ∃ t, exec (.fwStatus m) s = .next t ∧ s.completes t m 0x0603 stOk ∧
      (m < 32 → a.mute = false → s.sessionState = 1 → (t.cmd m).map (fun b => b.result.take 12) =
        some (leBytes 4 (s.readReg HEATH_FW_VERSION) ++ leBytes 4 (s.readReg HEATH_FW_STATUS) ++
          leBytes 4 (s.readReg HEATH_FW_COMP)))) ∧
    (s.runs m 0x0701 a → zeros a.params 2 2 → pNum a.params 0 2 ≠ 0 → pNum a.params 0 2 ≤ 31 → s.fld ACC_STATE.STATE ≠ 0 →
      1 ≤ pNum a.params 4 4 → pNum a.params 4 4 ≤ 86400 → s.flag ACC_OTP.KEY_SET = true →
      ∃ t x, exec (.unlockChallenge m) s = .next t ∧ s.completes t m 0x0701 stOk ∧ t.acc.nonce = some x ∧
        x.scope = pNum a.params 0 2 ∧ x.duration = pNum a.params 4 4 ∧ x.lapseAt = s.now + 60000000000) ∧
    (s.runs m 0x0702 a → pByte a.params 0 = 0 → pByte a.params 1 = 0 → zeros a.params 10 6 → pNum a.params 2 2 ≠ 0 →
      s.fld ACC_STATE.STATE ≠ 0 → pNum a.params 2 2 ≤ 31 → maskDiff (pNum a.params 2 2) (s.fld ACC_OTP.PW_SCOPE) = 0 →
      1 ≤ pNum a.params 4 4 → pNum a.params 4 4 ≤ 86400 → 8 ≤ pNum a.params 8 2 → pNum a.params 8 2 ≤ 64 →
      zeros a.params (16 + pNum a.params 8 2) (64 - pNum a.params 8 2) → s.flag ACC_OTP.PW_SET = true → s.backoff = false →
      (Config.sha384 (s.serial ++ (a.params.drop 16).take (pNum a.params 8 2)) = s.otp.pwHash →
        ∃ t, exec (.unlockResponsePassword m) s = .next t ∧ s.completes t m 0x0702 stOk ∧ t.fld ACC_STATE.STATE = 2 ∧
          t.fld ACC_STATE.SCOPE = pNum a.params 2 2 ∧ t.fld ACC_STATE.METHOD = 0 ∧ t.fld ACC_FAIL.FAILS = 0 ∧
          t.acc.timerEnd = s.now + 1000000000 * pNum a.params 4 4) ∧
      (Config.sha384 (s.serial ++ (a.params.drop 16).take (pNum a.params 8 2)) ≠ s.otp.pwHash →
        ∃ t, exec (.unlockResponsePassword m) s = .next t ∧ s.completes t m 0x0702 stDenied ∧
          t.fld ACC_FAIL.FAILS = min (s.fld ACC_FAIL.FAILS + 1) ACC_FAIL.FAILS.top ∧
          t.fld ACC_STATE.STATE = s.fld ACC_STATE.STATE)) ∧
    (∀ x, s.runs m 0x0702 a → pByte a.params 0 = 1 → 208 ≤ a.params.length → pByte a.params 1 = 0 → zeros a.params 4 4 →
      zeros a.params 105 7 → pNum a.params 2 2 ≠ 0 → pNum a.params 2 2 ≤ 31 → s.fld ACC_STATE.STATE ≠ 0 →
      s.flag ACC_OTP.KEY_SET = true → s.acc.nonce = some x → s.backoff = false →
      ((Config.sha384 ((a.params.drop 8).take 97) = s.otp.debugKey ∧ x.scope = pNum a.params 2 2 ∧
          Config.ecdsaVerify (ofLeBytes ((a.params.drop 8).take 97)) (Config.sha384 (leBytes 32 x.value ++ s.serial ++
            leBytes 2 (pNum a.params 2 2))) (pNum a.params 112 96) = true) →
        ∃ t, exec (.unlockResponseSignature m) s = .next t ∧ s.completes t m 0x0702 stOk ∧ t.fld ACC_STATE.STATE = 2 ∧
          t.fld ACC_STATE.SCOPE = pNum a.params 2 2 ∧ t.fld ACC_STATE.METHOD = 1 ∧ t.fld ACC_FAIL.FAILS = 0 ∧
          t.acc.nonce = none ∧ t.acc.timerEnd = s.now + 1000000000 * x.duration) ∧
      (x.scope ≠ pNum a.params 2 2 → ∃ t, exec (.unlockResponseSignature m) s = .next t ∧
        s.completes t m 0x0702 stDenied ∧ t.acc.nonce = none ∧
        t.fld ACC_FAIL.FAILS = min (s.fld ACC_FAIL.FAILS + 1) ACC_FAIL.FAILS.top)) ∧
    (s.runs m 0x0703 a → s.leader = true → s.fld ACC_STATE.STATE = 2 → ∃ t, exec (.relock m) s = .next t ∧
      s.completes t m 0x0703 stOk ∧ t.fld ACC_STATE.STATE = 1 ∧ t.fld ACC_STATE.SCOPE = 0 ∧ t.acc.timerEnd = 0) ∧
    (s.runs m 0x0801 a → pByte a.params 0 = s.dieId → s.named s.dieId = true → zeros a.params 1 7 →
      ∃ t, exec (.faultRead m) s = .next t ∧ s.completes t m 0x0801 stOk ∧ s.replies t m a stOk s.faultReadOut) ∧
    (s.runs m 0x0802 a → pByte a.params 0 = s.dieId → s.named s.dieId = true → pByte a.params 1 = 1 →
      zeros a.params 4 4 → pNum a.params 2 2 ≤ 255 → s.flag (FH_SRC.IMPL (pNum a.params 2 2)) = true →
      bitAt s.levels (pNum a.params 2 2) = false → s.srcBit FH_LATCHED (pNum a.params 2 2) = false →
      ∃ t, exec (.faultClear m) s = .next t ∧ s.completes t m 0x0802 stOk ∧ t.reg FH_FIRST = 0 ∧
        t.srcBit FH_PEND (pNum a.params 2 2) = false) ∧
    (s.runs m 0x0803 a → pByte a.params 0 = s.dieId → s.named s.dieId = true → pByte a.params 1 = 0 →
      zeros a.params 4 4 → pNum a.params 2 2 ≤ 255 → s.flag (FH_SRC.IMPL (pNum a.params 2 2)) = true → s.hasScope 2 = true →
      ∃ t, exec (.faultForce m) s = .next t ∧ t.srcBit FH_SEEN (pNum a.params 2 2) = true ∧
        (s.flag (FH_SRC.EN (pNum a.params 2 2)) = true → t.srcBit FH_PEND (pNum a.params 2 2) = true) ∧
        (s.flag (FH_SRC.EN (pNum a.params 2 2)) = false → s.completes t m 0x0803 stOk)) ∧
    (s.runs m 0x0901 a → s.hasScope 0 = true → s.named (pByte a.params 0) = true → pByte a.params 1 ≤ 3 →
      pByte a.params 2 ≤ 1 → pByte a.params 3 ≤ 3 → 1 ≤ (toSigned 16 (pNum a.params 4 2)).natAbs →
      (toSigned 16 (pNum a.params 4 2)).natAbs ≤ (if pByte a.params 2 = 0 then 40 else 4096) → pByte a.params 6 ≠ 0 →
      pByte a.params 7 = 0 → (pByte a.params 3 = 0 → 1000 ≤ pNum a.params 8 4 ∧ pNum a.params 8 4 ≤ 20000000) →
      zeros a.params 14 2 →
      (pByte a.params 0 = s.dieId → s.injecting = true → ∃ t, exec (.injectStart m) s = .next t ∧
        s.completes t m 0x0901 stBusy ∧ t.hdg = s.hdg) ∧
      (pByte a.params 0 = s.dieId → s.injecting = false → s.queueRoom = true →
        ∃ t, exec (.injectStart m) s = .next t ∧ s.commits t m a .config ∧
          bitsOf (t.stagedReg (RAIL_INJ_CTRL (pByte a.params 1))) 7 4 = pByte a.params 3 ∧
          bitsOf (t.stagedReg (RAIL_INJ_AMP (pByte a.params 1))) 15 0 = pNum a.params 4 2) ∧
      (pByte a.params 0 ≠ s.dieId → ∃ t, exec (.injectStart m) s = .next t ∧
        t.cmd m = some { a with stage := 2, acc := [] } ∧
        SMap.find t.hdg.fwd s.nextTag = some (m, pByte a.params 0, s.now))) ∧
    (s.runs m 0x0902 a → pByte a.params 0 = s.dieId → s.named s.dieId = true → pByte a.params 1 ≤ 3 →
      pNum a.params 2 2 + pNum a.params 4 2 ≤ 8192 → pNum a.params 2 2 ≤ 8191 → zeros a.params 6 2 →
      addrBad (pNum a.params 8 8) = false → s.captureStatus (pByte a.params 1) (pNum a.params 2 2) (pNum a.params 4 2) = stOk →
      (s.sessionState ≠ 1 → ∃ t, exec (.captureRead m) s = .next t ∧ s.completes t m 0x0902 stOk) ∧
      (s.sessionState = 1 → ∃ t b, exec (.captureRead m) s = .next t ∧ t.cmd m = some b ∧ b.stage = 3 ∧ b.status = stOk ∧
        b.left = (writeLines (pNum a.params 8 8) none (.result m)
          (s.captureOut (pByte a.params 1) (pNum a.params 2 2) (pNum a.params 4 2))).length)))

/-- The values that wait for CMD_MB_CTX stay in their canonical form, each for one of the 32 mailboxes, whatever command is
executed. -/
def Obligations.ContextChangesWaitForRealMailboxes : Prop :=
  ∀ (i : Instr) (s t : State), s.ctxWaits → exec i s = .next t → t.ctxWaits

/-- R419 to R424, R427, R428, R473, R474, R476: slot B is judged when it has been read back; a deferred activation starts, is
given up after 60 s, or makes the judged image run and repairs slot A, or sends the ROM back to slot A; a compartment that
faults is restarted, and disabled at its third fault within 1 s; what the USER calls do; the timers of field access end the
unlocked state, the nonce and the backoff. That a readback which differs fails with reason 1 (log 170), and that a failed
activation boots again from slot A (log 178), are the model's choices. -/
def Obligations.FirmwareUserAndAccessAct : Prop :=
  (∀ s : State, s.fw.mode = 3 →
    (∃ t, exec (.fwStageReadback none) s = .next t ∧ t.fw.mode = 0 ∧ t.fw.passedB = false ∧ t.fw.verB = some 0 ∧
      t.fld HEATH_FW_STATUS.STAGE = 3 ∧ t.fld HEATH_FW_STATUS.STAGE_REASON = 1) ∧
    (∀ x, sameBytes s.fw.prog (x.bytes.take s.fw.prog.length) = false → ∃ t, exec (.fwStageReadback (some x)) s = .next t ∧
      t.fw.passedB = false ∧ t.fld HEATH_FW_STATUS.STAGE = 3 ∧ t.fld HEATH_FW_STATUS.STAGE_REASON = 1) ∧
    (∀ x, sameBytes s.fw.prog (x.bytes.take s.fw.prog.length) = true →
      (s.judge x true true = 0 → ∃ t, exec (.fwStageReadback (some x)) s = .next t ∧ t.fw.mode = 0 ∧
        t.fw.passedB = true ∧ t.fw.verB = some x.version ∧ t.fld HEATH_FW_STATUS.STAGE = 2) ∧
      (s.judge x true true ≠ 0 → ∃ t, exec (.fwStageReadback (some x)) s = .next t ∧ t.fw.mode = 0 ∧
        t.fw.passedB = false ∧ t.fld HEATH_FW_STATUS.STAGE = 3 ∧
        t.fld HEATH_FW_STATUS.STAGE_REASON = s.judge x true true))) ∧
  (∀ s : State, s.fld HEATH_FW_STATUS.ACT = 1 →
    (s.actBarred = false → s.railsStable = true → ∃ t, exec .activationStart s = .next t ∧
      t.now = max s.now (s.calmSince + 10000000) ∧ t.fld HEATH_FW_STATUS.ACT = 2 ∧ t.fw.paused = true ∧
      t.ses.hbOn = false) ∧
    (∃ t, exec .activationTimeout s = .next t ∧ t.now = max s.now (s.fw.actAt + 60000000000) ∧
      t.fld HEATH_FW_STATUS.ACT = 0 ∧ t.fld HEATH_FW_STATUS.ACT_REASON = 1 ∧ t.fw.paused = false ∧ t.fw.actWho = none ∧
      ∀ m a, s.fw.actWho = some m → s.cmd m = some a → s.completes t m (a.hdr.opcode % 65536) stAborted)) ∧
  (∀ (s : State) (img : ImageIn), s.fld HEATH_FW_STATUS.ACT = 2 →
    (s.judge img true false = 0 → ∃ t, exec (.activationComplete img true) s = .next t ∧ t.fw.running = true ∧
      t.reg HEATH_FW_VERSION = img.version % 2 ^ 32 ∧ t.fld HEATH_FW_STATUS.ACT = 0 ∧ t.fw.paused = false ∧
      t.fw.sram = img.sram ∧ t.fld HEATH_BOOT_STATUS.SLOT = 2 ∧ t.flag HEATH_FW_STATUS.REPAIR = true) ∧
    (s.judge img true false ≠ 0 → ∃ t, exec (.activationComplete img true) s = .next t ∧
      t.reg HEATH_FW_VERSION = s.reg HEATH_FW_VERSION ∧ t.fld HEATH_FW_STATUS.ACT = 0 ∧
      t.fld HEATH_FW_STATUS.ACT_REASON = 2 ∧ t.fw.paused = false ∧ t.fw.reboot = true ∧ t.ps.digestDue = true ∧
      (s.leader = true → t.fw.trying = 1))) ∧
  (∀ s : State, s.flag HEATH_FW_STATUS.REPAIR = true → ∃ t, exec .slotRepairDone s = .next t ∧
    t.flag HEATH_FW_STATUS.REPAIR = false ∧ t.fw.verA = s.reg HEATH_FW_VERSION) ∧
  (∀ s : State, s.coresRun = true →
    (∀ comp, 1 ≤ comp → comp < 8 → s.fld (HEATH_FW_COMP.STATE comp) = 1 →
      ((s.recentFaults comp).length < 2 → ∃ t, exec (.compartmentFault comp) s = .next t ∧
        t.fld (HEATH_FW_COMP.STATE comp) = 1 ∧ s.raises ++ [⟨srcFwCompRestart, s.fwSyn comp 5, false⟩] = t.raises ∧
        t.fld HEATH_FW_RESTARTS.COMP = min (s.fld HEATH_FW_RESTARTS.COMP + 1) HEATH_FW_RESTARTS.COMP.top) ∧
      (2 ≤ (s.recentFaults comp).length → ∃ t, exec (.compartmentFault comp) s = .next t ∧
        t.fld (HEATH_FW_COMP.STATE comp) = 3 ∧ ⟨srcFwCompDisabled, s.fwSyn comp 6, false⟩ ∈ t.raises)) ∧
    (∀ core, core < 2 → ∃ t, exec (.coreNoProgress core) s = .next t ∧
      ⟨srcFwEssential, s.fwSyn 0 0, false⟩ ∈ t.raises ∧
      t.fld HEATH_FW_RESTARTS.ESSENTIAL = min (s.fld HEATH_FW_RESTARTS.ESSENTIAL + 1) HEATH_FW_RESTARTS.ESSENTIAL.top ∧
      (t.flag HEATH_FW_STATUS.HALTED = true ↔
        2 ≤ (s.fw.essential.filter (fun x => decide (s.now < x + 10000000000))).length))) ∧
  (∀ s : State, s.userRuns = true →
    (∀ off d, findReg off = some d → d.pkg = false → userMay off = true →
      exec (.userRead off) s = .next { s with out := s.out ++ [.user false (s.readReg off)] }) ∧
    (∀ q, fieldTakes BUD_POOL BUD_POOL.POOL.hi q = true → ∃ t, exec (.userCapStage (.pool q)) s = .next t ∧
      t.fw.capsStaged = { s.fw.capsStaged with pool := some q } ∧ t.out = s.out ++ [.user false 0]) ∧
    (∀ q, fieldTakes BUD_POOL BUD_POOL.POOL.hi q = false →
      exec (.userCapStage (.pool q)) s = .next { s with out := s.out ++ [.user true 0] }) ∧
    (s.leader = true → s.queueRoom = true → ∃ t, exec .userCapCommit s = .next t ∧
      t.hdg.queue = s.hdg.queue ++ [{ act := .userCaps s.fw.capsStaged }]) ∧
    (∀ set clear, ∃ t, exec (.userDoorbell set clear) s = .next t ∧
      t.reg MB_DB_OUT = (if s.leader then s.reg MB_DB_OUT ||| (set &&& 0xFFFF0000) else s.reg MB_DB_OUT) ∧
      t.reg MB_DB_IN = maskDiff (s.reg MB_DB_IN) (clear &&& 0xFFFF0000) ∧
      t.out.getLast? = some (.user false (s.reg MB_DB_IN &&& 0xFFFF0000))) ∧
    (∀ us, 100 ≤ us → us ≤ 10000000 → ∃ t, exec (.userTimerSet us) s = .next t ∧
      t.fw.timer = some (1000 * us, s.now + 1000 * us) ∧ t.out = s.out ++ [.user false 0]) ∧
    (∀ us, us < 100 ∨ 10000000 < us → exec (.userTimerSet us) s = .next { s with out := s.out ++ [.user true 0] }) ∧
    (∀ p t0, s.fw.timer = some (p, t0) → ∃ t, exec .userTimerWake s = .next t ∧ t.now = max s.now t0 ∧
      t.fw.timer = some (p, t0 + p) ∧ bitAt (t.reg HEATH_WAKE_CAUSE) 0 = true) ∧
    (∀ code arg, (s.fw.logCount < 1000 ∨ s.fw.logAt + 1000000000 ≤ s.now) → ∃ t, exec (.userLog 2 code arg) s = .next t ∧
      t.fld HEATH_LOG_HEAD.NEXT = (s.fld HEATH_LOG_HEAD.NEXT + 1) % 4096 ∧
      (SMap.find t.fw.log (s.fld HEATH_LOG_HEAD.NEXT)).isSome = true ∧ t.out = s.out ++ [.user false 0])) ∧
  (∀ s : State, s.fld ACC_STATE.STATE = 2 → ∃ t, exec .accessTimerExpiry s = .next t ∧
    t.now = max s.now s.acc.timerEnd ∧ t.fld ACC_STATE.STATE = 1 ∧ t.fld ACC_STATE.SCOPE = 0) ∧
  (∀ (s : State) (x : Nonce), s.acc.nonce = some x → ∃ t, exec .nonceLapse s = .next t ∧
    t.now = max s.now x.lapseAt ∧ t.acc = { s.acc with nonce := none }) ∧
  (∀ s : State, ∃ t, exec .unlockBackoffEnd s = .next t ∧ t.now = max s.now s.acc.backoffEnd ∧ t.backoff = false)

/-- R442, R446, R449 to R451, R458, R460, R463, R466: a byte-count record adds its lines to its range, and every 100 µs a
leader adds what its stacks have counted to the range's counters; a stream period ends; the snapshot bank is complete 2 µs
after T; the rings freeze POST_MAX after their trigger; a raise of a disabled source sets only its FH_SEEN bit, one of an
enabled source its FH_PEND and FH_LATCHED bits and the first-error record too; a reset storm ends. -/
def Obligations.ObservationAndTheFaultHubAct : Prop :=
  (∀ s : State, s.flag HEATH_DOMAIN_STATUS.CORE_ON = true → s.inReset = false →
    (∀ k r lines, k < 4 → r < 16 → bitAt s.tie.mems k = true → ∃ t, exec (.watchRecord k r lines) s = .next t ∧
      SMap.get (fun _ => 0) t.obs.lines r = SMap.get (fun _ => 0) s.obs.lines r + lines) ∧
    (∃ t, exec .watchSend s = .next t ∧ t.obs.watchAt = (s.obs.watchAt / 100000 + 1) * 100000 ∧ t.obs.lines = [] ∧
      t.obs.watchAt ≤ t.skyNs ∧ (s.leader = true → ∀ r, r < 16 →
        t.reg64 (OBS_WATCH_B_LO r) =
          (s.reg64 (OBS_WATCH_B_LO r) + SMap.get (fun _ => 0) s.obs.lines r) % 2 ^ 64 ∧
        t.reg64 (OBS_WATCH_E_LO r) = (s.reg64 (OBS_WATCH_E_LO r) + (SMap.get (fun _ => 0) s.obs.pj r +
          SMap.get (fun _ => 0) s.obs.lines r * s.fld (OBS_WATCH_0.EPL r)) / 1000000 *
            min 1 (SMap.get (fun _ => 0) s.obs.lines r)) % 2 ^ 64))) ∧
  (∀ s : State, s.flag OBS_STR_CTRL.EN = true → s.fld OBS_STR_LEN.VALUE ≠ 0 → s.inReset = false →
    s.flag HEATH_DOMAIN_STATUS.CORE_ON = true →
    ∃ t, exec .streamPeriod s = .next t ∧ t.now = max s.now (s.obs.streamAt + 10000 * s.fld OBS_STR_CTRL.PERIOD) ∧
      t.obs.streamAt = t.now ∧ t.obs.period = s.obs.period + 1 ∧
      t.obs.recNo = (s.obs.recNo + min ((if s.flag OBS_STR_CTRL.CLUSTER_REC then s.clusters.length else 0) +
        (if s.flag OBS_STR_CTRL.DIE_REC then 1 else 0)) s.streamRoom) % 65536 ∧
      (t.obs.recNo = s.obs.recNo → s.obs.recNo < 65536 → ∃ x : MemTxn, x.job = .head ∧
        (x ∈ t.obs.streamQ ∨ x ∈ t.mem.queue ∨ x ∈ t.mem.out.map (fun p => p.2)))) ∧
  (∀ (s : State) (t0 : Nat), s.coreRuns = true → s.obs.snapAt = some t0 → ∃ t, exec .snapshotComplete s = .next t ∧
    t.now = max s.now (t0 + 2000) ∧ t.fld OBS_SNAP_STATUS.STATE = 2 ∧ t.obs = { s.obs with snapAt := none }) ∧
  (∀ s : State, s.ps.porst = true → s.fld RING_STATUS.STATE = 2 → ∃ t, exec .ringPostTimeout s = .next t ∧
    t.now = max s.now (s.rings.trigAt + 1000 * s.fld RING_TRIG_UNITS.POST_MAX) ∧ t.fld RING_STATUS.STATE = 3) ∧
  (∀ (s : State) (i syn : Nat), i < 256 → s.ps.porst = true → s.flag (FH_SRC.IMPL i) = true →
    (s.raises.find? (fun r => r.src == i) = none → s.flag (FH_SRC.EN i) = false →
      exec (.faultRaise i syn) s = .next (s.putSrc FH_SEEN i true)) ∧
    (s.flag (FH_SRC.EN i) = true → ∃ t, exec (.faultRaise i syn) s = .next t ∧ t.srcBit FH_SEEN i = true ∧
      t.srcBit FH_PEND i = true ∧ t.flag FH_FIRST.VALID = true ∧
      (s.raises.find? (fun r => r.src == i) = none → s.flag (FH_SRC.LATCH i) = true → t.srcBit FH_LATCHED i = true) ∧
      (s.raises.find? (fun r => r.src == i) = none → s.flag FH_FIRST.VALID = false → t.fld FH_FIRST.SOURCE = i ∧
        t.fld FH_FIRST.DIE = s.dieId ∧ t.fld FH_FIRST.COUNT = 1 ∧ t.reg64 (FH_FIRST_SYN 0) = syn % 2 ^ 64))) ∧
  (∀ s : State, s.flag FH_STATUS.RST_STORM = true → ∃ t, exec .rstStormEnd s = .next t ∧
    t.flag FH_STATUS.RST_STORM = false ∧ ∀ x, s.hub.resets[s.hub.resets.length - s.fld FH_CTRL.RST_LIMIT]? = some x →
      t.now = max s.now (x + 1000000000))
end

