-- ==== Sys2Proof/Laws/Maps.lean ====
section
/-! SUPPORT. The sparse maps: what a read after a write gives, and that every write keeps the canonical form. -/

namespace Sys2Proof.Machine

variable {α : Type}

/-- Keys strictly rising. -/
abbrev SMap.rising (m : SMap α) : Prop := m.Pairwise (fun a b => a.1 < b.1)

theorem SMap.get_of_lt (d : Nat → α) (m : SMap α) (k : Nat) (h : ∀ p ∈ m, k < p.1) : SMap.get d m k = d k := by
  induction m with
  | nil => rfl
  | cons p m ih =>
    obtain ⟨a, v⟩ := p
    have ha : k < a := h (a, v) (by simp)
    simp only [SMap.get]
    rw [if_neg (by omega)]
    exact ih (fun q hq => h q (by simp [hq]))

@[simp] theorem SMap.get_enter_same (d : Nat → α) (m : SMap α) (k : Nat) (v : α) :
    SMap.get d (SMap.enter m k v) k = v := by
  induction m with
  | nil => simp [SMap.enter, SMap.get]
  | cons p m ih =>
    obtain ⟨a, w⟩ := p
    simp only [SMap.enter]
    split
    · simp [SMap.get]
    · split
      · simp [SMap.get]
      · next h _ => simp [SMap.get, h, ih]

theorem SMap.get_enter_other (d : Nat → α) (m : SMap α) (k j : Nat) (v : α) (h : k ≠ j) :
    SMap.get d (SMap.enter m k v) j = SMap.get d m j := by
  induction m with
  | nil => simp [SMap.enter, SMap.get, h]
  | cons p m ih =>
    obtain ⟨a, w⟩ := p
    simp only [SMap.enter]
    split
    · next e => subst e; simp [SMap.get, h]
    · split
      · simp [SMap.get, h]
      · simp [SMap.get, ih]

theorem SMap.get_drop_other (d : Nat → α) (m : SMap α) (k j : Nat) (h : k ≠ j) :
    SMap.get d (SMap.drop m k) j = SMap.get d m j := by
  induction m with
  | nil => simp [SMap.drop]
  | cons p m ih =>
    obtain ⟨a, w⟩ := p
    simp only [SMap.drop]
    split
    · next e => subst e; simp [SMap.get, h, ih]
    · simp [SMap.get, ih]

@[simp] theorem SMap.get_drop_same (d : Nat → α) (m : SMap α) (k : Nat) : SMap.get d (SMap.drop m k) k = d k := by
  induction m with
  | nil => rfl
  | cons p m ih =>
    obtain ⟨a, w⟩ := p
    simp only [SMap.drop]
    split
    · exact ih
    · next e => simp [SMap.get, e, ih]

/-- A read after a write of the same key. -/
@[simp] theorem SMap.get_put_same [DecidableEq α] (d : Nat → α) (m : SMap α) (k : Nat) (v : α) :
    SMap.get d (SMap.put d m k v) k = v := by
  unfold SMap.put
  split
  · next e => rw [SMap.get_drop_same d m k, e]
  · simp

@[simp] theorem SMap.find_enter_same (m : SMap α) (k : Nat) (v : α) : SMap.find (SMap.enter m k v) k = some v := by
  induction m with
  | nil => simp [SMap.enter, SMap.find]
  | cons p m ih =>
    obtain ⟨a, w⟩ := p
    simp only [SMap.enter]
    split
    · simp [SMap.find]
    · split
      · simp [SMap.find]
      · next h _ => simp [SMap.find, h, ih]

theorem SMap.find_enter_other (m : SMap α) (k j : Nat) (v : α) (h : k ≠ j) :
    SMap.find (SMap.enter m k v) j = SMap.find m j := by
  induction m with
  | nil => simp [SMap.enter, SMap.find, h]
  | cons p m ih =>
    obtain ⟨a, w⟩ := p
    simp only [SMap.enter]
    split
    · next e => subst e; simp [SMap.find, h]
    · split
      · simp [SMap.find, h]
      · simp [SMap.find, ih]

@[simp] theorem SMap.find_drop_same (m : SMap α) (k : Nat) : SMap.find (SMap.drop m k) k = none := by
  induction m with
  | nil => rfl
  | cons p m ih =>
    obtain ⟨a, w⟩ := p
    simp only [SMap.drop]
    split
    · exact ih
    · next e => simp [SMap.find, e, ih]

theorem SMap.find_drop_other (m : SMap α) (k j : Nat) (h : k ≠ j) : SMap.find (SMap.drop m k) j = SMap.find m j := by
  induction m with
  | nil => simp [SMap.drop]
  | cons p m ih =>
    obtain ⟨a, w⟩ := p
    simp only [SMap.drop]
    split
    · next e => subst e; simp [SMap.find, h, ih]
    · simp [SMap.find, ih]

/-- A write leaves every other key alone. -/
theorem SMap.get_put_other [DecidableEq α] (d : Nat → α) (m : SMap α) (k j : Nat) (v : α) (h : k ≠ j) :
    SMap.get d (SMap.put d m k v) j = SMap.get d m j := by
  unfold SMap.put
  split
  · exact SMap.get_drop_other d m k j h
  · exact SMap.get_enter_other d m k j v h

theorem SMap.mem_drop (m : SMap α) (k : Nat) (p : Nat × α) (h : p ∈ SMap.drop m k) : p ∈ m := by
  induction m with
  | nil => exact absurd h (by simp [SMap.drop])
  | cons q m ih =>
    obtain ⟨a, w⟩ := q
    simp only [SMap.drop] at h
    split at h
    · exact List.mem_cons_of_mem _ (ih h)
    · rcases List.mem_cons.mp h with rfl | h
      · simp
      · exact List.mem_cons_of_mem _ (ih h)

theorem SMap.mem_enter (m : SMap α) (k : Nat) (v : α) (p : Nat × α) (h : p ∈ SMap.enter m k v) :
    p = (k, v) ∨ p ∈ m := by
  induction m with
  | nil => simpa [SMap.enter] using h
  | cons q m ih =>
    obtain ⟨a, w⟩ := q
    simp only [SMap.enter] at h
    split at h
    · rcases List.mem_cons.mp h with h | h
      · exact .inl h
      · exact .inr (List.mem_cons_of_mem _ h)
    · split at h
      · rcases List.mem_cons.mp h with h | h
        · exact .inl h
        · exact .inr h
      · rcases List.mem_cons.mp h with h | h
        · exact .inr (by simp [h])
        · rcases ih h with h | h
          · exact .inl h
          · exact .inr (List.mem_cons_of_mem _ h)

theorem SMap.rising_drop (m : SMap α) (k : Nat) (h : SMap.rising m) : SMap.rising (SMap.drop m k) := by
  induction m with
  | nil => simp [SMap.drop]
  | cons q m ih =>
    obtain ⟨a, w⟩ := q
    have hp := List.pairwise_cons.mp h
    simp only [SMap.drop]
    split
    · exact ih hp.2
    · exact List.pairwise_cons.mpr ⟨fun p hm => hp.1 p (SMap.mem_drop m k p hm), ih hp.2⟩

theorem SMap.rising_enter (m : SMap α) (k : Nat) (v : α) (h : SMap.rising m) : SMap.rising (SMap.enter m k v) := by
  induction m with
  | nil => simp [SMap.enter]
  | cons q m ih =>
    obtain ⟨a, w⟩ := q
    have hp := List.pairwise_cons.mp h
    simp only [SMap.enter]
    split
    · next e => subst e; exact List.pairwise_cons.mpr ⟨hp.1, hp.2⟩
    · next e =>
      split
      · next hl =>
        refine List.pairwise_cons.mpr ⟨fun p hm => ?_, h⟩
        rcases List.mem_cons.mp hm with rfl | hm
        · exact hl
        · exact Nat.lt_trans hl (hp.1 p hm)
      · next hl =>
        refine List.pairwise_cons.mpr ⟨fun p hm => ?_, ih hp.2⟩
        rcases SMap.mem_enter m k v p hm with rfl | hm
        · show a < k
          omega
        · exact hp.1 p hm

/-- Every write keeps the canonical form. -/
theorem SMap.wf_put [DecidableEq α] (d : Nat → α) (m : SMap α) (k : Nat) (v : α) (h : SMap.wf d m) :
    SMap.wf d (SMap.put d m k v) := by
  unfold SMap.put
  split
  · exact ⟨SMap.rising_drop m k h.1, fun p hp => h.2 p (SMap.mem_drop m k p hp)⟩
  · next e =>
    refine ⟨SMap.rising_enter m k v h.1, fun p hp => ?_⟩
    rcases SMap.mem_enter m k v p hp with rfl | hp
    · exact e
    · exact h.2 p hp

theorem SMap.wf_nil [DecidableEq α] (d : Nat → α) : SMap.wf d [] := by simp [SMap.wf]

/-! ### Folds -/

@[simp] theorem each_nil {σ : Type} (f : α → σ → σ) (s : σ) : each [] f s = s := rfl

@[simp] theorem each_cons {σ : Type} (x : α) (xs : List α) (f : α → σ → σ) (s : σ) :
    each (x :: xs) f s = each xs f (f x s) := rfl

/-- What every round keeps, the fold keeps. -/
theorem each_keeps {σ : Type} (P : σ → Prop) (f : α → σ → σ) (hf : ∀ x t, P t → P (f x t)) (xs : List α) (s : σ)
    (h : P s) : P (each xs f s) := by
  induction xs generalizing s with
  | nil => exact h
  | cons x xs ih => exact ih _ (hf x s h)

end Sys2Proof.Machine
end

