-- ==== Sys2Proof/Laws/State.lean ====
section
/-! SUPPORT. What each shared update leaves alone: one lemma per field of State per update. -/

namespace Sys2Proof.Machine

@[simp] theorem State.setReg_staged (s : State) (off v : Nat) : (s.setReg off v).staged = s.staged := rfl
@[simp] theorem State.setReg_now (s : State) (off v : Nat) : (s.setReg off v).now = s.now := rfl
@[simp] theorem State.setReg_sky (s : State) (off v : Nat) : (s.setReg off v).sky = s.sky := rfl
@[simp] theorem State.setReg_free (s : State) (off v : Nat) : (s.setReg off v).free = s.free := rfl
@[simp] theorem State.setReg_tie (s : State) (off v : Nat) : (s.setReg off v).tie = s.tie := rfl
@[simp] theorem State.setReg_otp (s : State) (off v : Nat) : (s.setReg off v).otp = s.otp := rfl
@[simp] theorem State.setReg_out (s : State) (off v : Nat) : (s.setReg off v).out = s.out := rfl
@[simp] theorem State.setReg_raises (s : State) (off v : Nat) : (s.setReg off v).raises = s.raises := rfl
@[simp] theorem State.setReg_levels (s : State) (off v : Nat) : (s.setReg off v).levels = s.levels := rfl
@[simp] theorem State.setReg_agents (s : State) (off v : Nat) : (s.setReg off v).agents = s.agents := rfl
@[simp] theorem State.setReg_arb (s : State) (off v : Nat) : (s.setReg off v).arb = s.arb := rfl
@[simp] theorem State.setReg_drp (s : State) (off v : Nat) : (s.setReg off v).drp = s.drp := rfl
@[simp] theorem State.setReg_rings (s : State) (off v : Nat) : (s.setReg off v).rings = s.rings := rfl
@[simp] theorem State.setReg_halfReq (s : State) (off v : Nat) : (s.setReg off v).halfReq = s.halfReq := rfl
@[simp] theorem State.setReg_rails (s : State) (off v : Nat) : (s.setReg off v).rails = s.rails := rfl
@[simp] theorem State.setReg_avs (s : State) (off v : Nat) : (s.setReg off v).avs = s.avs := rfl
@[simp] theorem State.setReg_lastInj (s : State) (off v : Nat) : (s.setReg off v).lastInj = s.lastInj := rfl
@[simp] theorem State.setReg_ps (s : State) (off v : Nat) : (s.setReg off v).ps = s.ps := rfl
@[simp] theorem State.setReg_hdg (s : State) (off v : Nat) : (s.setReg off v).hdg = s.hdg := rfl
@[simp] theorem State.setReg_fab (s : State) (off v : Nat) : (s.setReg off v).fab = s.fab := rfl
@[simp] theorem State.setReg_mem (s : State) (off v : Nat) : (s.setReg off v).mem = s.mem := rfl
@[simp] theorem State.setReg_ses (s : State) (off v : Nat) : (s.setReg off v).ses = s.ses := rfl
@[simp] theorem State.setReg_cmds (s : State) (off v : Nat) : (s.setReg off v).cmds = s.cmds := rfl
@[simp] theorem State.setReg_lim (s : State) (off v : Nat) : (s.setReg off v).lim = s.lim := rfl
@[simp] theorem State.setReg_win (s : State) (off v : Nat) : (s.setReg off v).win = s.win := rfl
@[simp] theorem State.setReg_est (s : State) (off v : Nat) : (s.setReg off v).est = s.est := rfl
@[simp] theorem State.setReg_thm (s : State) (off v : Nat) : (s.setReg off v).thm = s.thm := rfl
@[simp] theorem State.setReg_unattended (s : State) (off v : Nat) : (s.setReg off v).unattended = s.unattended := rfl
@[simp] theorem State.setReg_rate (s : State) (off v : Nat) : (s.setReg off v).rate = s.rate := rfl
@[simp] theorem State.setReg_fw (s : State) (off v : Nat) : (s.setReg off v).fw = s.fw := rfl
@[simp] theorem State.setReg_acc (s : State) (off v : Nat) : (s.setReg off v).acc = s.acc := rfl
@[simp] theorem State.setReg_hub (s : State) (off v : Nat) : (s.setReg off v).hub = s.hub := rfl
@[simp] theorem State.setReg_obs (s : State) (off v : Nat) : (s.setReg off v).obs = s.obs := rfl
@[simp] theorem State.setReg_latches (s : State) (off v : Nat) : (s.setReg off v).latches = s.latches := rfl
@[simp] theorem State.setReg_held (s : State) (off v : Nat) : (s.setReg off v).held = s.held := rfl
@[simp] theorem State.setReg_pending (s : State) (off v : Nat) : (s.setReg off v).pending = s.pending := rfl

@[simp] theorem State.setFld_staged (s : State) (f : Fld) (v : Nat) : (s.setFld f v).staged = s.staged := rfl
@[simp] theorem State.setFld_now (s : State) (f : Fld) (v : Nat) : (s.setFld f v).now = s.now := rfl
@[simp] theorem State.setFld_sky (s : State) (f : Fld) (v : Nat) : (s.setFld f v).sky = s.sky := rfl
@[simp] theorem State.setFld_free (s : State) (f : Fld) (v : Nat) : (s.setFld f v).free = s.free := rfl
@[simp] theorem State.setFld_tie (s : State) (f : Fld) (v : Nat) : (s.setFld f v).tie = s.tie := rfl
@[simp] theorem State.setFld_otp (s : State) (f : Fld) (v : Nat) : (s.setFld f v).otp = s.otp := rfl
@[simp] theorem State.setFld_out (s : State) (f : Fld) (v : Nat) : (s.setFld f v).out = s.out := rfl
@[simp] theorem State.setFld_raises (s : State) (f : Fld) (v : Nat) : (s.setFld f v).raises = s.raises := rfl
@[simp] theorem State.setFld_levels (s : State) (f : Fld) (v : Nat) : (s.setFld f v).levels = s.levels := rfl
@[simp] theorem State.setFld_agents (s : State) (f : Fld) (v : Nat) : (s.setFld f v).agents = s.agents := rfl
@[simp] theorem State.setFld_arb (s : State) (f : Fld) (v : Nat) : (s.setFld f v).arb = s.arb := rfl
@[simp] theorem State.setFld_drp (s : State) (f : Fld) (v : Nat) : (s.setFld f v).drp = s.drp := rfl
@[simp] theorem State.setFld_rings (s : State) (f : Fld) (v : Nat) : (s.setFld f v).rings = s.rings := rfl
@[simp] theorem State.setFld_halfReq (s : State) (f : Fld) (v : Nat) : (s.setFld f v).halfReq = s.halfReq := rfl
@[simp] theorem State.setFld_rails (s : State) (f : Fld) (v : Nat) : (s.setFld f v).rails = s.rails := rfl
@[simp] theorem State.setFld_avs (s : State) (f : Fld) (v : Nat) : (s.setFld f v).avs = s.avs := rfl
@[simp] theorem State.setFld_lastInj (s : State) (f : Fld) (v : Nat) : (s.setFld f v).lastInj = s.lastInj := rfl
@[simp] theorem State.setFld_ps (s : State) (f : Fld) (v : Nat) : (s.setFld f v).ps = s.ps := rfl
@[simp] theorem State.setFld_hdg (s : State) (f : Fld) (v : Nat) : (s.setFld f v).hdg = s.hdg := rfl
@[simp] theorem State.setFld_fab (s : State) (f : Fld) (v : Nat) : (s.setFld f v).fab = s.fab := rfl
@[simp] theorem State.setFld_mem (s : State) (f : Fld) (v : Nat) : (s.setFld f v).mem = s.mem := rfl
@[simp] theorem State.setFld_ses (s : State) (f : Fld) (v : Nat) : (s.setFld f v).ses = s.ses := rfl
@[simp] theorem State.setFld_cmds (s : State) (f : Fld) (v : Nat) : (s.setFld f v).cmds = s.cmds := rfl
@[simp] theorem State.setFld_lim (s : State) (f : Fld) (v : Nat) : (s.setFld f v).lim = s.lim := rfl
@[simp] theorem State.setFld_win (s : State) (f : Fld) (v : Nat) : (s.setFld f v).win = s.win := rfl
@[simp] theorem State.setFld_est (s : State) (f : Fld) (v : Nat) : (s.setFld f v).est = s.est := rfl
@[simp] theorem State.setFld_thm (s : State) (f : Fld) (v : Nat) : (s.setFld f v).thm = s.thm := rfl
@[simp] theorem State.setFld_unattended (s : State) (f : Fld) (v : Nat) : (s.setFld f v).unattended = s.unattended := rfl
@[simp] theorem State.setFld_rate (s : State) (f : Fld) (v : Nat) : (s.setFld f v).rate = s.rate := rfl
@[simp] theorem State.setFld_fw (s : State) (f : Fld) (v : Nat) : (s.setFld f v).fw = s.fw := rfl
@[simp] theorem State.setFld_acc (s : State) (f : Fld) (v : Nat) : (s.setFld f v).acc = s.acc := rfl
@[simp] theorem State.setFld_hub (s : State) (f : Fld) (v : Nat) : (s.setFld f v).hub = s.hub := rfl
@[simp] theorem State.setFld_obs (s : State) (f : Fld) (v : Nat) : (s.setFld f v).obs = s.obs := rfl
@[simp] theorem State.setFld_latches (s : State) (f : Fld) (v : Nat) : (s.setFld f v).latches = s.latches := rfl
@[simp] theorem State.setFld_held (s : State) (f : Fld) (v : Nat) : (s.setFld f v).held = s.held := rfl
@[simp] theorem State.setFld_pending (s : State) (f : Fld) (v : Nat) : (s.setFld f v).pending = s.pending := rfl

@[simp] theorem State.setFlag_staged (s : State) (f : Fld) (b : Bool) : (s.setFlag f b).staged = s.staged := rfl
@[simp] theorem State.setFlag_now (s : State) (f : Fld) (b : Bool) : (s.setFlag f b).now = s.now := rfl
@[simp] theorem State.setFlag_sky (s : State) (f : Fld) (b : Bool) : (s.setFlag f b).sky = s.sky := rfl
@[simp] theorem State.setFlag_free (s : State) (f : Fld) (b : Bool) : (s.setFlag f b).free = s.free := rfl
@[simp] theorem State.setFlag_tie (s : State) (f : Fld) (b : Bool) : (s.setFlag f b).tie = s.tie := rfl
@[simp] theorem State.setFlag_otp (s : State) (f : Fld) (b : Bool) : (s.setFlag f b).otp = s.otp := rfl
@[simp] theorem State.setFlag_out (s : State) (f : Fld) (b : Bool) : (s.setFlag f b).out = s.out := rfl
@[simp] theorem State.setFlag_raises (s : State) (f : Fld) (b : Bool) : (s.setFlag f b).raises = s.raises := rfl
@[simp] theorem State.setFlag_levels (s : State) (f : Fld) (b : Bool) : (s.setFlag f b).levels = s.levels := rfl
@[simp] theorem State.setFlag_agents (s : State) (f : Fld) (b : Bool) : (s.setFlag f b).agents = s.agents := rfl
@[simp] theorem State.setFlag_arb (s : State) (f : Fld) (b : Bool) : (s.setFlag f b).arb = s.arb := rfl
@[simp] theorem State.setFlag_drp (s : State) (f : Fld) (b : Bool) : (s.setFlag f b).drp = s.drp := rfl
@[simp] theorem State.setFlag_rings (s : State) (f : Fld) (b : Bool) : (s.setFlag f b).rings = s.rings := rfl
@[simp] theorem State.setFlag_halfReq (s : State) (f : Fld) (b : Bool) : (s.setFlag f b).halfReq = s.halfReq := rfl
@[simp] theorem State.setFlag_rails (s : State) (f : Fld) (b : Bool) : (s.setFlag f b).rails = s.rails := rfl
@[simp] theorem State.setFlag_avs (s : State) (f : Fld) (b : Bool) : (s.setFlag f b).avs = s.avs := rfl
@[simp] theorem State.setFlag_lastInj (s : State) (f : Fld) (b : Bool) : (s.setFlag f b).lastInj = s.lastInj := rfl
@[simp] theorem State.setFlag_ps (s : State) (f : Fld) (b : Bool) : (s.setFlag f b).ps = s.ps := rfl
@[simp] theorem State.setFlag_hdg (s : State) (f : Fld) (b : Bool) : (s.setFlag f b).hdg = s.hdg := rfl
@[simp] theorem State.setFlag_fab (s : State) (f : Fld) (b : Bool) : (s.setFlag f b).fab = s.fab := rfl
@[simp] theorem State.setFlag_mem (s : State) (f : Fld) (b : Bool) : (s.setFlag f b).mem = s.mem := rfl
@[simp] theorem State.setFlag_ses (s : State) (f : Fld) (b : Bool) : (s.setFlag f b).ses = s.ses := rfl
@[simp] theorem State.setFlag_cmds (s : State) (f : Fld) (b : Bool) : (s.setFlag f b).cmds = s.cmds := rfl
@[simp] theorem State.setFlag_lim (s : State) (f : Fld) (b : Bool) : (s.setFlag f b).lim = s.lim := rfl
@[simp] theorem State.setFlag_win (s : State) (f : Fld) (b : Bool) : (s.setFlag f b).win = s.win := rfl
@[simp] theorem State.setFlag_est (s : State) (f : Fld) (b : Bool) : (s.setFlag f b).est = s.est := rfl
@[simp] theorem State.setFlag_thm (s : State) (f : Fld) (b : Bool) : (s.setFlag f b).thm = s.thm := rfl
@[simp] theorem State.setFlag_unattended (s : State) (f : Fld) (b : Bool) : (s.setFlag f b).unattended = s.unattended := rfl
@[simp] theorem State.setFlag_rate (s : State) (f : Fld) (b : Bool) : (s.setFlag f b).rate = s.rate := rfl
@[simp] theorem State.setFlag_fw (s : State) (f : Fld) (b : Bool) : (s.setFlag f b).fw = s.fw := rfl
@[simp] theorem State.setFlag_acc (s : State) (f : Fld) (b : Bool) : (s.setFlag f b).acc = s.acc := rfl
@[simp] theorem State.setFlag_hub (s : State) (f : Fld) (b : Bool) : (s.setFlag f b).hub = s.hub := rfl
@[simp] theorem State.setFlag_obs (s : State) (f : Fld) (b : Bool) : (s.setFlag f b).obs = s.obs := rfl
@[simp] theorem State.setFlag_latches (s : State) (f : Fld) (b : Bool) : (s.setFlag f b).latches = s.latches := rfl
@[simp] theorem State.setFlag_held (s : State) (f : Fld) (b : Bool) : (s.setFlag f b).held = s.held := rfl
@[simp] theorem State.setFlag_pending (s : State) (f : Fld) (b : Bool) : (s.setFlag f b).pending = s.pending := rfl

@[simp] theorem State.incSat_staged (s : State) (f : Fld) (n : Nat) : (s.incSat f n).staged = s.staged := rfl
@[simp] theorem State.incSat_now (s : State) (f : Fld) (n : Nat) : (s.incSat f n).now = s.now := rfl
@[simp] theorem State.incSat_sky (s : State) (f : Fld) (n : Nat) : (s.incSat f n).sky = s.sky := rfl
@[simp] theorem State.incSat_free (s : State) (f : Fld) (n : Nat) : (s.incSat f n).free = s.free := rfl
@[simp] theorem State.incSat_tie (s : State) (f : Fld) (n : Nat) : (s.incSat f n).tie = s.tie := rfl
@[simp] theorem State.incSat_otp (s : State) (f : Fld) (n : Nat) : (s.incSat f n).otp = s.otp := rfl
@[simp] theorem State.incSat_out (s : State) (f : Fld) (n : Nat) : (s.incSat f n).out = s.out := rfl
@[simp] theorem State.incSat_raises (s : State) (f : Fld) (n : Nat) : (s.incSat f n).raises = s.raises := rfl
@[simp] theorem State.incSat_levels (s : State) (f : Fld) (n : Nat) : (s.incSat f n).levels = s.levels := rfl
@[simp] theorem State.incSat_agents (s : State) (f : Fld) (n : Nat) : (s.incSat f n).agents = s.agents := rfl
@[simp] theorem State.incSat_arb (s : State) (f : Fld) (n : Nat) : (s.incSat f n).arb = s.arb := rfl
@[simp] theorem State.incSat_drp (s : State) (f : Fld) (n : Nat) : (s.incSat f n).drp = s.drp := rfl
@[simp] theorem State.incSat_rings (s : State) (f : Fld) (n : Nat) : (s.incSat f n).rings = s.rings := rfl
@[simp] theorem State.incSat_halfReq (s : State) (f : Fld) (n : Nat) : (s.incSat f n).halfReq = s.halfReq := rfl
@[simp] theorem State.incSat_rails (s : State) (f : Fld) (n : Nat) : (s.incSat f n).rails = s.rails := rfl
@[simp] theorem State.incSat_avs (s : State) (f : Fld) (n : Nat) : (s.incSat f n).avs = s.avs := rfl
@[simp] theorem State.incSat_lastInj (s : State) (f : Fld) (n : Nat) : (s.incSat f n).lastInj = s.lastInj := rfl
@[simp] theorem State.incSat_ps (s : State) (f : Fld) (n : Nat) : (s.incSat f n).ps = s.ps := rfl
@[simp] theorem State.incSat_hdg (s : State) (f : Fld) (n : Nat) : (s.incSat f n).hdg = s.hdg := rfl
@[simp] theorem State.incSat_fab (s : State) (f : Fld) (n : Nat) : (s.incSat f n).fab = s.fab := rfl
@[simp] theorem State.incSat_mem (s : State) (f : Fld) (n : Nat) : (s.incSat f n).mem = s.mem := rfl
@[simp] theorem State.incSat_ses (s : State) (f : Fld) (n : Nat) : (s.incSat f n).ses = s.ses := rfl
@[simp] theorem State.incSat_cmds (s : State) (f : Fld) (n : Nat) : (s.incSat f n).cmds = s.cmds := rfl
@[simp] theorem State.incSat_lim (s : State) (f : Fld) (n : Nat) : (s.incSat f n).lim = s.lim := rfl
@[simp] theorem State.incSat_win (s : State) (f : Fld) (n : Nat) : (s.incSat f n).win = s.win := rfl
@[simp] theorem State.incSat_est (s : State) (f : Fld) (n : Nat) : (s.incSat f n).est = s.est := rfl
@[simp] theorem State.incSat_thm (s : State) (f : Fld) (n : Nat) : (s.incSat f n).thm = s.thm := rfl
@[simp] theorem State.incSat_unattended (s : State) (f : Fld) (n : Nat) : (s.incSat f n).unattended = s.unattended := rfl
@[simp] theorem State.incSat_rate (s : State) (f : Fld) (n : Nat) : (s.incSat f n).rate = s.rate := rfl
@[simp] theorem State.incSat_fw (s : State) (f : Fld) (n : Nat) : (s.incSat f n).fw = s.fw := rfl
@[simp] theorem State.incSat_acc (s : State) (f : Fld) (n : Nat) : (s.incSat f n).acc = s.acc := rfl
@[simp] theorem State.incSat_hub (s : State) (f : Fld) (n : Nat) : (s.incSat f n).hub = s.hub := rfl
@[simp] theorem State.incSat_obs (s : State) (f : Fld) (n : Nat) : (s.incSat f n).obs = s.obs := rfl
@[simp] theorem State.incSat_latches (s : State) (f : Fld) (n : Nat) : (s.incSat f n).latches = s.latches := rfl
@[simp] theorem State.incSat_held (s : State) (f : Fld) (n : Nat) : (s.incSat f n).held = s.held := rfl
@[simp] theorem State.incSat_pending (s : State) (f : Fld) (n : Nat) : (s.incSat f n).pending = s.pending := rfl

@[simp] theorem State.setReg64_staged (s : State) (off v : Nat) : (s.setReg64 off v).staged = s.staged := rfl
@[simp] theorem State.setReg64_now (s : State) (off v : Nat) : (s.setReg64 off v).now = s.now := rfl
@[simp] theorem State.setReg64_sky (s : State) (off v : Nat) : (s.setReg64 off v).sky = s.sky := rfl
@[simp] theorem State.setReg64_free (s : State) (off v : Nat) : (s.setReg64 off v).free = s.free := rfl
@[simp] theorem State.setReg64_tie (s : State) (off v : Nat) : (s.setReg64 off v).tie = s.tie := rfl
@[simp] theorem State.setReg64_otp (s : State) (off v : Nat) : (s.setReg64 off v).otp = s.otp := rfl
@[simp] theorem State.setReg64_out (s : State) (off v : Nat) : (s.setReg64 off v).out = s.out := rfl
@[simp] theorem State.setReg64_raises (s : State) (off v : Nat) : (s.setReg64 off v).raises = s.raises := rfl
@[simp] theorem State.setReg64_levels (s : State) (off v : Nat) : (s.setReg64 off v).levels = s.levels := rfl
@[simp] theorem State.setReg64_agents (s : State) (off v : Nat) : (s.setReg64 off v).agents = s.agents := rfl
@[simp] theorem State.setReg64_arb (s : State) (off v : Nat) : (s.setReg64 off v).arb = s.arb := rfl
@[simp] theorem State.setReg64_drp (s : State) (off v : Nat) : (s.setReg64 off v).drp = s.drp := rfl
@[simp] theorem State.setReg64_rings (s : State) (off v : Nat) : (s.setReg64 off v).rings = s.rings := rfl
@[simp] theorem State.setReg64_halfReq (s : State) (off v : Nat) : (s.setReg64 off v).halfReq = s.halfReq := rfl
@[simp] theorem State.setReg64_rails (s : State) (off v : Nat) : (s.setReg64 off v).rails = s.rails := rfl
@[simp] theorem State.setReg64_avs (s : State) (off v : Nat) : (s.setReg64 off v).avs = s.avs := rfl
@[simp] theorem State.setReg64_lastInj (s : State) (off v : Nat) : (s.setReg64 off v).lastInj = s.lastInj := rfl
@[simp] theorem State.setReg64_ps (s : State) (off v : Nat) : (s.setReg64 off v).ps = s.ps := rfl
@[simp] theorem State.setReg64_hdg (s : State) (off v : Nat) : (s.setReg64 off v).hdg = s.hdg := rfl
@[simp] theorem State.setReg64_fab (s : State) (off v : Nat) : (s.setReg64 off v).fab = s.fab := rfl
@[simp] theorem State.setReg64_mem (s : State) (off v : Nat) : (s.setReg64 off v).mem = s.mem := rfl
@[simp] theorem State.setReg64_ses (s : State) (off v : Nat) : (s.setReg64 off v).ses = s.ses := rfl
@[simp] theorem State.setReg64_cmds (s : State) (off v : Nat) : (s.setReg64 off v).cmds = s.cmds := rfl
@[simp] theorem State.setReg64_lim (s : State) (off v : Nat) : (s.setReg64 off v).lim = s.lim := rfl
@[simp] theorem State.setReg64_win (s : State) (off v : Nat) : (s.setReg64 off v).win = s.win := rfl
@[simp] theorem State.setReg64_est (s : State) (off v : Nat) : (s.setReg64 off v).est = s.est := rfl
@[simp] theorem State.setReg64_thm (s : State) (off v : Nat) : (s.setReg64 off v).thm = s.thm := rfl
@[simp] theorem State.setReg64_unattended (s : State) (off v : Nat) : (s.setReg64 off v).unattended = s.unattended := rfl
@[simp] theorem State.setReg64_rate (s : State) (off v : Nat) : (s.setReg64 off v).rate = s.rate := rfl
@[simp] theorem State.setReg64_fw (s : State) (off v : Nat) : (s.setReg64 off v).fw = s.fw := rfl
@[simp] theorem State.setReg64_acc (s : State) (off v : Nat) : (s.setReg64 off v).acc = s.acc := rfl
@[simp] theorem State.setReg64_hub (s : State) (off v : Nat) : (s.setReg64 off v).hub = s.hub := rfl
@[simp] theorem State.setReg64_obs (s : State) (off v : Nat) : (s.setReg64 off v).obs = s.obs := rfl
@[simp] theorem State.setReg64_latches (s : State) (off v : Nat) : (s.setReg64 off v).latches = s.latches := rfl
@[simp] theorem State.setReg64_held (s : State) (off v : Nat) : (s.setReg64 off v).held = s.held := rfl
@[simp] theorem State.setReg64_pending (s : State) (off v : Nat) : (s.setReg64 off v).pending = s.pending := rfl

@[simp] theorem State.setStaged_regs (s : State) (off v : Nat) : (s.setStaged off v).regs = s.regs := by unfold State.setStaged; split <;> rfl
@[simp] theorem State.setStaged_now (s : State) (off v : Nat) : (s.setStaged off v).now = s.now := by unfold State.setStaged; split <;> rfl
@[simp] theorem State.setStaged_sky (s : State) (off v : Nat) : (s.setStaged off v).sky = s.sky := by unfold State.setStaged; split <;> rfl
@[simp] theorem State.setStaged_free (s : State) (off v : Nat) : (s.setStaged off v).free = s.free := by unfold State.setStaged; split <;> rfl
@[simp] theorem State.setStaged_tie (s : State) (off v : Nat) : (s.setStaged off v).tie = s.tie := by unfold State.setStaged; split <;> rfl
@[simp] theorem State.setStaged_otp (s : State) (off v : Nat) : (s.setStaged off v).otp = s.otp := by unfold State.setStaged; split <;> rfl
@[simp] theorem State.setStaged_out (s : State) (off v : Nat) : (s.setStaged off v).out = s.out := by unfold State.setStaged; split <;> rfl
@[simp] theorem State.setStaged_raises (s : State) (off v : Nat) : (s.setStaged off v).raises = s.raises := by unfold State.setStaged; split <;> rfl
@[simp] theorem State.setStaged_levels (s : State) (off v : Nat) : (s.setStaged off v).levels = s.levels := by unfold State.setStaged; split <;> rfl
@[simp] theorem State.setStaged_agents (s : State) (off v : Nat) : (s.setStaged off v).agents = s.agents := by unfold State.setStaged; split <;> rfl
@[simp] theorem State.setStaged_arb (s : State) (off v : Nat) : (s.setStaged off v).arb = s.arb := by unfold State.setStaged; split <;> rfl
@[simp] theorem State.setStaged_drp (s : State) (off v : Nat) : (s.setStaged off v).drp = s.drp := by unfold State.setStaged; split <;> rfl
@[simp] theorem State.setStaged_rings (s : State) (off v : Nat) : (s.setStaged off v).rings = s.rings := by unfold State.setStaged; split <;> rfl
@[simp] theorem State.setStaged_halfReq (s : State) (off v : Nat) : (s.setStaged off v).halfReq = s.halfReq := by unfold State.setStaged; split <;> rfl
@[simp] theorem State.setStaged_rails (s : State) (off v : Nat) : (s.setStaged off v).rails = s.rails := by unfold State.setStaged; split <;> rfl
@[simp] theorem State.setStaged_avs (s : State) (off v : Nat) : (s.setStaged off v).avs = s.avs := by unfold State.setStaged; split <;> rfl
@[simp] theorem State.setStaged_lastInj (s : State) (off v : Nat) : (s.setStaged off v).lastInj = s.lastInj := by unfold State.setStaged; split <;> rfl
@[simp] theorem State.setStaged_ps (s : State) (off v : Nat) : (s.setStaged off v).ps = s.ps := by unfold State.setStaged; split <;> rfl
@[simp] theorem State.setStaged_hdg (s : State) (off v : Nat) : (s.setStaged off v).hdg = s.hdg := by unfold State.setStaged; split <;> rfl
@[simp] theorem State.setStaged_fab (s : State) (off v : Nat) : (s.setStaged off v).fab = s.fab := by unfold State.setStaged; split <;> rfl
@[simp] theorem State.setStaged_mem (s : State) (off v : Nat) : (s.setStaged off v).mem = s.mem := by unfold State.setStaged; split <;> rfl
@[simp] theorem State.setStaged_ses (s : State) (off v : Nat) : (s.setStaged off v).ses = s.ses := by unfold State.setStaged; split <;> rfl
@[simp] theorem State.setStaged_cmds (s : State) (off v : Nat) : (s.setStaged off v).cmds = s.cmds := by unfold State.setStaged; split <;> rfl
@[simp] theorem State.setStaged_lim (s : State) (off v : Nat) : (s.setStaged off v).lim = s.lim := by unfold State.setStaged; split <;> rfl
@[simp] theorem State.setStaged_win (s : State) (off v : Nat) : (s.setStaged off v).win = s.win := by unfold State.setStaged; split <;> rfl
@[simp] theorem State.setStaged_est (s : State) (off v : Nat) : (s.setStaged off v).est = s.est := by unfold State.setStaged; split <;> rfl
@[simp] theorem State.setStaged_thm (s : State) (off v : Nat) : (s.setStaged off v).thm = s.thm := by unfold State.setStaged; split <;> rfl
@[simp] theorem State.setStaged_unattended (s : State) (off v : Nat) : (s.setStaged off v).unattended = s.unattended := by unfold State.setStaged; split <;> rfl
@[simp] theorem State.setStaged_rate (s : State) (off v : Nat) : (s.setStaged off v).rate = s.rate := by unfold State.setStaged; split <;> rfl
@[simp] theorem State.setStaged_fw (s : State) (off v : Nat) : (s.setStaged off v).fw = s.fw := by unfold State.setStaged; split <;> rfl
@[simp] theorem State.setStaged_acc (s : State) (off v : Nat) : (s.setStaged off v).acc = s.acc := by unfold State.setStaged; split <;> rfl
@[simp] theorem State.setStaged_hub (s : State) (off v : Nat) : (s.setStaged off v).hub = s.hub := by unfold State.setStaged; split <;> rfl
@[simp] theorem State.setStaged_obs (s : State) (off v : Nat) : (s.setStaged off v).obs = s.obs := by unfold State.setStaged; split <;> rfl
@[simp] theorem State.setStaged_latches (s : State) (off v : Nat) : (s.setStaged off v).latches = s.latches := by unfold State.setStaged; split <;> rfl
@[simp] theorem State.setStaged_held (s : State) (off v : Nat) : (s.setStaged off v).held = s.held := by unfold State.setStaged; split <;> rfl
@[simp] theorem State.setStaged_pending (s : State) (off v : Nat) : (s.setStaged off v).pending = s.pending := by unfold State.setStaged; split <;> rfl

@[simp] theorem State.setStagedFld_regs (s : State) (f : Fld) (v : Nat) : (s.setStagedFld f v).regs = s.regs := State.setStaged_regs _ _ _
@[simp] theorem State.setStagedFld_now (s : State) (f : Fld) (v : Nat) : (s.setStagedFld f v).now = s.now := State.setStaged_now _ _ _
@[simp] theorem State.setStagedFld_sky (s : State) (f : Fld) (v : Nat) : (s.setStagedFld f v).sky = s.sky := State.setStaged_sky _ _ _
@[simp] theorem State.setStagedFld_free (s : State) (f : Fld) (v : Nat) : (s.setStagedFld f v).free = s.free := State.setStaged_free _ _ _
@[simp] theorem State.setStagedFld_tie (s : State) (f : Fld) (v : Nat) : (s.setStagedFld f v).tie = s.tie := State.setStaged_tie _ _ _
@[simp] theorem State.setStagedFld_otp (s : State) (f : Fld) (v : Nat) : (s.setStagedFld f v).otp = s.otp := State.setStaged_otp _ _ _
@[simp] theorem State.setStagedFld_out (s : State) (f : Fld) (v : Nat) : (s.setStagedFld f v).out = s.out := State.setStaged_out _ _ _
@[simp] theorem State.setStagedFld_raises (s : State) (f : Fld) (v : Nat) : (s.setStagedFld f v).raises = s.raises := State.setStaged_raises _ _ _
@[simp] theorem State.setStagedFld_levels (s : State) (f : Fld) (v : Nat) : (s.setStagedFld f v).levels = s.levels := State.setStaged_levels _ _ _
@[simp] theorem State.setStagedFld_agents (s : State) (f : Fld) (v : Nat) : (s.setStagedFld f v).agents = s.agents := State.setStaged_agents _ _ _
@[simp] theorem State.setStagedFld_arb (s : State) (f : Fld) (v : Nat) : (s.setStagedFld f v).arb = s.arb := State.setStaged_arb _ _ _
@[simp] theorem State.setStagedFld_drp (s : State) (f : Fld) (v : Nat) : (s.setStagedFld f v).drp = s.drp := State.setStaged_drp _ _ _
@[simp] theorem State.setStagedFld_rings (s : State) (f : Fld) (v : Nat) : (s.setStagedFld f v).rings = s.rings := State.setStaged_rings _ _ _
@[simp] theorem State.setStagedFld_halfReq (s : State) (f : Fld) (v : Nat) : (s.setStagedFld f v).halfReq = s.halfReq := State.setStaged_halfReq _ _ _
@[simp] theorem State.setStagedFld_rails (s : State) (f : Fld) (v : Nat) : (s.setStagedFld f v).rails = s.rails := State.setStaged_rails _ _ _
@[simp] theorem State.setStagedFld_avs (s : State) (f : Fld) (v : Nat) : (s.setStagedFld f v).avs = s.avs := State.setStaged_avs _ _ _
@[simp] theorem State.setStagedFld_lastInj (s : State) (f : Fld) (v : Nat) : (s.setStagedFld f v).lastInj = s.lastInj := State.setStaged_lastInj _ _ _
@[simp] theorem State.setStagedFld_ps (s : State) (f : Fld) (v : Nat) : (s.setStagedFld f v).ps = s.ps := State.setStaged_ps _ _ _
@[simp] theorem State.setStagedFld_hdg (s : State) (f : Fld) (v : Nat) : (s.setStagedFld f v).hdg = s.hdg := State.setStaged_hdg _ _ _
@[simp] theorem State.setStagedFld_fab (s : State) (f : Fld) (v : Nat) : (s.setStagedFld f v).fab = s.fab := State.setStaged_fab _ _ _
@[simp] theorem State.setStagedFld_mem (s : State) (f : Fld) (v : Nat) : (s.setStagedFld f v).mem = s.mem := State.setStaged_mem _ _ _
@[simp] theorem State.setStagedFld_ses (s : State) (f : Fld) (v : Nat) : (s.setStagedFld f v).ses = s.ses := State.setStaged_ses _ _ _
@[simp] theorem State.setStagedFld_cmds (s : State) (f : Fld) (v : Nat) : (s.setStagedFld f v).cmds = s.cmds := State.setStaged_cmds _ _ _
@[simp] theorem State.setStagedFld_lim (s : State) (f : Fld) (v : Nat) : (s.setStagedFld f v).lim = s.lim := State.setStaged_lim _ _ _
@[simp] theorem State.setStagedFld_win (s : State) (f : Fld) (v : Nat) : (s.setStagedFld f v).win = s.win := State.setStaged_win _ _ _
@[simp] theorem State.setStagedFld_est (s : State) (f : Fld) (v : Nat) : (s.setStagedFld f v).est = s.est := State.setStaged_est _ _ _
@[simp] theorem State.setStagedFld_thm (s : State) (f : Fld) (v : Nat) : (s.setStagedFld f v).thm = s.thm := State.setStaged_thm _ _ _
@[simp] theorem State.setStagedFld_unattended (s : State) (f : Fld) (v : Nat) : (s.setStagedFld f v).unattended = s.unattended := State.setStaged_unattended _ _ _
@[simp] theorem State.setStagedFld_rate (s : State) (f : Fld) (v : Nat) : (s.setStagedFld f v).rate = s.rate := State.setStaged_rate _ _ _
@[simp] theorem State.setStagedFld_fw (s : State) (f : Fld) (v : Nat) : (s.setStagedFld f v).fw = s.fw := State.setStaged_fw _ _ _
@[simp] theorem State.setStagedFld_acc (s : State) (f : Fld) (v : Nat) : (s.setStagedFld f v).acc = s.acc := State.setStaged_acc _ _ _
@[simp] theorem State.setStagedFld_hub (s : State) (f : Fld) (v : Nat) : (s.setStagedFld f v).hub = s.hub := State.setStaged_hub _ _ _
@[simp] theorem State.setStagedFld_obs (s : State) (f : Fld) (v : Nat) : (s.setStagedFld f v).obs = s.obs := State.setStaged_obs _ _ _
@[simp] theorem State.setStagedFld_latches (s : State) (f : Fld) (v : Nat) : (s.setStagedFld f v).latches = s.latches := State.setStaged_latches _ _ _
@[simp] theorem State.setStagedFld_held (s : State) (f : Fld) (v : Nat) : (s.setStagedFld f v).held = s.held := State.setStaged_held _ _ _
@[simp] theorem State.setStagedFld_pending (s : State) (f : Fld) (v : Nat) : (s.setStagedFld f v).pending = s.pending := State.setStaged_pending _ _ _

@[simp] theorem State.advance_regs (s : State) (n : Nat) : (s.advance n).regs = s.regs := rfl
@[simp] theorem State.advance_staged (s : State) (n : Nat) : (s.advance n).staged = s.staged := rfl
@[simp] theorem State.advance_free (s : State) (n : Nat) : (s.advance n).free = s.free := rfl
@[simp] theorem State.advance_tie (s : State) (n : Nat) : (s.advance n).tie = s.tie := rfl
@[simp] theorem State.advance_otp (s : State) (n : Nat) : (s.advance n).otp = s.otp := rfl
@[simp] theorem State.advance_out (s : State) (n : Nat) : (s.advance n).out = s.out := rfl
@[simp] theorem State.advance_raises (s : State) (n : Nat) : (s.advance n).raises = s.raises := rfl
@[simp] theorem State.advance_levels (s : State) (n : Nat) : (s.advance n).levels = s.levels := rfl
@[simp] theorem State.advance_agents (s : State) (n : Nat) : (s.advance n).agents = s.agents := rfl
@[simp] theorem State.advance_arb (s : State) (n : Nat) : (s.advance n).arb = s.arb := rfl
@[simp] theorem State.advance_drp (s : State) (n : Nat) : (s.advance n).drp = s.drp := rfl
@[simp] theorem State.advance_rings (s : State) (n : Nat) : (s.advance n).rings = s.rings := rfl
@[simp] theorem State.advance_halfReq (s : State) (n : Nat) : (s.advance n).halfReq = s.halfReq := rfl
@[simp] theorem State.advance_rails (s : State) (n : Nat) : (s.advance n).rails = s.rails := rfl
@[simp] theorem State.advance_avs (s : State) (n : Nat) : (s.advance n).avs = s.avs := rfl
@[simp] theorem State.advance_lastInj (s : State) (n : Nat) : (s.advance n).lastInj = s.lastInj := rfl
@[simp] theorem State.advance_ps (s : State) (n : Nat) : (s.advance n).ps = s.ps := rfl
@[simp] theorem State.advance_hdg (s : State) (n : Nat) : (s.advance n).hdg = s.hdg := rfl
@[simp] theorem State.advance_fab (s : State) (n : Nat) : (s.advance n).fab = s.fab := rfl
@[simp] theorem State.advance_mem (s : State) (n : Nat) : (s.advance n).mem = s.mem := rfl
@[simp] theorem State.advance_ses (s : State) (n : Nat) : (s.advance n).ses = s.ses := rfl
@[simp] theorem State.advance_cmds (s : State) (n : Nat) : (s.advance n).cmds = s.cmds := rfl
@[simp] theorem State.advance_lim (s : State) (n : Nat) : (s.advance n).lim = s.lim := rfl
@[simp] theorem State.advance_win (s : State) (n : Nat) : (s.advance n).win = s.win := rfl
@[simp] theorem State.advance_est (s : State) (n : Nat) : (s.advance n).est = s.est := rfl
@[simp] theorem State.advance_thm (s : State) (n : Nat) : (s.advance n).thm = s.thm := rfl
@[simp] theorem State.advance_unattended (s : State) (n : Nat) : (s.advance n).unattended = s.unattended := rfl
@[simp] theorem State.advance_rate (s : State) (n : Nat) : (s.advance n).rate = s.rate := rfl
@[simp] theorem State.advance_fw (s : State) (n : Nat) : (s.advance n).fw = s.fw := rfl
@[simp] theorem State.advance_acc (s : State) (n : Nat) : (s.advance n).acc = s.acc := rfl
@[simp] theorem State.advance_hub (s : State) (n : Nat) : (s.advance n).hub = s.hub := rfl
@[simp] theorem State.advance_obs (s : State) (n : Nat) : (s.advance n).obs = s.obs := rfl
@[simp] theorem State.advance_latches (s : State) (n : Nat) : (s.advance n).latches = s.latches := rfl
@[simp] theorem State.advance_held (s : State) (n : Nat) : (s.advance n).held = s.held := rfl
@[simp] theorem State.advance_pending (s : State) (n : Nat) : (s.advance n).pending = s.pending := rfl

@[simp] theorem State.advanceTo_regs (s : State) (n : Nat) : (s.advanceTo n).regs = s.regs := rfl
@[simp] theorem State.advanceTo_staged (s : State) (n : Nat) : (s.advanceTo n).staged = s.staged := rfl
@[simp] theorem State.advanceTo_free (s : State) (n : Nat) : (s.advanceTo n).free = s.free := rfl
@[simp] theorem State.advanceTo_tie (s : State) (n : Nat) : (s.advanceTo n).tie = s.tie := rfl
@[simp] theorem State.advanceTo_otp (s : State) (n : Nat) : (s.advanceTo n).otp = s.otp := rfl
@[simp] theorem State.advanceTo_out (s : State) (n : Nat) : (s.advanceTo n).out = s.out := rfl
@[simp] theorem State.advanceTo_raises (s : State) (n : Nat) : (s.advanceTo n).raises = s.raises := rfl
@[simp] theorem State.advanceTo_levels (s : State) (n : Nat) : (s.advanceTo n).levels = s.levels := rfl
@[simp] theorem State.advanceTo_agents (s : State) (n : Nat) : (s.advanceTo n).agents = s.agents := rfl
@[simp] theorem State.advanceTo_arb (s : State) (n : Nat) : (s.advanceTo n).arb = s.arb := rfl
@[simp] theorem State.advanceTo_drp (s : State) (n : Nat) : (s.advanceTo n).drp = s.drp := rfl
@[simp] theorem State.advanceTo_rings (s : State) (n : Nat) : (s.advanceTo n).rings = s.rings := rfl
@[simp] theorem State.advanceTo_halfReq (s : State) (n : Nat) : (s.advanceTo n).halfReq = s.halfReq := rfl
@[simp] theorem State.advanceTo_rails (s : State) (n : Nat) : (s.advanceTo n).rails = s.rails := rfl
@[simp] theorem State.advanceTo_avs (s : State) (n : Nat) : (s.advanceTo n).avs = s.avs := rfl
@[simp] theorem State.advanceTo_lastInj (s : State) (n : Nat) : (s.advanceTo n).lastInj = s.lastInj := rfl
@[simp] theorem State.advanceTo_ps (s : State) (n : Nat) : (s.advanceTo n).ps = s.ps := rfl
@[simp] theorem State.advanceTo_hdg (s : State) (n : Nat) : (s.advanceTo n).hdg = s.hdg := rfl
@[simp] theorem State.advanceTo_fab (s : State) (n : Nat) : (s.advanceTo n).fab = s.fab := rfl
@[simp] theorem State.advanceTo_mem (s : State) (n : Nat) : (s.advanceTo n).mem = s.mem := rfl
@[simp] theorem State.advanceTo_ses (s : State) (n : Nat) : (s.advanceTo n).ses = s.ses := rfl
@[simp] theorem State.advanceTo_cmds (s : State) (n : Nat) : (s.advanceTo n).cmds = s.cmds := rfl
@[simp] theorem State.advanceTo_lim (s : State) (n : Nat) : (s.advanceTo n).lim = s.lim := rfl
@[simp] theorem State.advanceTo_win (s : State) (n : Nat) : (s.advanceTo n).win = s.win := rfl
@[simp] theorem State.advanceTo_est (s : State) (n : Nat) : (s.advanceTo n).est = s.est := rfl
@[simp] theorem State.advanceTo_thm (s : State) (n : Nat) : (s.advanceTo n).thm = s.thm := rfl
@[simp] theorem State.advanceTo_unattended (s : State) (n : Nat) : (s.advanceTo n).unattended = s.unattended := rfl
@[simp] theorem State.advanceTo_rate (s : State) (n : Nat) : (s.advanceTo n).rate = s.rate := rfl
@[simp] theorem State.advanceTo_fw (s : State) (n : Nat) : (s.advanceTo n).fw = s.fw := rfl
@[simp] theorem State.advanceTo_acc (s : State) (n : Nat) : (s.advanceTo n).acc = s.acc := rfl
@[simp] theorem State.advanceTo_hub (s : State) (n : Nat) : (s.advanceTo n).hub = s.hub := rfl
@[simp] theorem State.advanceTo_obs (s : State) (n : Nat) : (s.advanceTo n).obs = s.obs := rfl
@[simp] theorem State.advanceTo_latches (s : State) (n : Nat) : (s.advanceTo n).latches = s.latches := rfl
@[simp] theorem State.advanceTo_held (s : State) (n : Nat) : (s.advanceTo n).held = s.held := rfl
@[simp] theorem State.advanceTo_pending (s : State) (n : Nat) : (s.advanceTo n).pending = s.pending := rfl

@[simp] theorem State.advanceSky_regs (s : State) (n : Nat) : (s.advanceSky n).regs = s.regs := by unfold State.advanceSky; dsimp only; split <;> rfl
@[simp] theorem State.advanceSky_staged (s : State) (n : Nat) : (s.advanceSky n).staged = s.staged := by unfold State.advanceSky; dsimp only; split <;> rfl
@[simp] theorem State.advanceSky_free (s : State) (n : Nat) : (s.advanceSky n).free = s.free := by unfold State.advanceSky; dsimp only; split <;> rfl
@[simp] theorem State.advanceSky_tie (s : State) (n : Nat) : (s.advanceSky n).tie = s.tie := by unfold State.advanceSky; dsimp only; split <;> rfl
@[simp] theorem State.advanceSky_otp (s : State) (n : Nat) : (s.advanceSky n).otp = s.otp := by unfold State.advanceSky; dsimp only; split <;> rfl
@[simp] theorem State.advanceSky_out (s : State) (n : Nat) : (s.advanceSky n).out = s.out := by unfold State.advanceSky; dsimp only; split <;> rfl
@[simp] theorem State.advanceSky_raises (s : State) (n : Nat) : (s.advanceSky n).raises = s.raises := by unfold State.advanceSky; dsimp only; split <;> rfl
@[simp] theorem State.advanceSky_levels (s : State) (n : Nat) : (s.advanceSky n).levels = s.levels := by unfold State.advanceSky; dsimp only; split <;> rfl
@[simp] theorem State.advanceSky_agents (s : State) (n : Nat) : (s.advanceSky n).agents = s.agents := by unfold State.advanceSky; dsimp only; split <;> rfl
@[simp] theorem State.advanceSky_arb (s : State) (n : Nat) : (s.advanceSky n).arb = s.arb := by unfold State.advanceSky; dsimp only; split <;> rfl
@[simp] theorem State.advanceSky_drp (s : State) (n : Nat) : (s.advanceSky n).drp = s.drp := by unfold State.advanceSky; dsimp only; split <;> rfl
@[simp] theorem State.advanceSky_rings (s : State) (n : Nat) : (s.advanceSky n).rings = s.rings := by unfold State.advanceSky; dsimp only; split <;> rfl
@[simp] theorem State.advanceSky_halfReq (s : State) (n : Nat) : (s.advanceSky n).halfReq = s.halfReq := by unfold State.advanceSky; dsimp only; split <;> rfl
@[simp] theorem State.advanceSky_rails (s : State) (n : Nat) : (s.advanceSky n).rails = s.rails := by unfold State.advanceSky; dsimp only; split <;> rfl
@[simp] theorem State.advanceSky_avs (s : State) (n : Nat) : (s.advanceSky n).avs = s.avs := by unfold State.advanceSky; dsimp only; split <;> rfl
@[simp] theorem State.advanceSky_lastInj (s : State) (n : Nat) : (s.advanceSky n).lastInj = s.lastInj := by unfold State.advanceSky; dsimp only; split <;> rfl
@[simp] theorem State.advanceSky_ps (s : State) (n : Nat) : (s.advanceSky n).ps = s.ps := by unfold State.advanceSky; dsimp only; split <;> rfl
@[simp] theorem State.advanceSky_hdg (s : State) (n : Nat) : (s.advanceSky n).hdg = s.hdg := by unfold State.advanceSky; dsimp only; split <;> rfl
@[simp] theorem State.advanceSky_fab (s : State) (n : Nat) : (s.advanceSky n).fab = s.fab := by unfold State.advanceSky; dsimp only; split <;> rfl
@[simp] theorem State.advanceSky_mem (s : State) (n : Nat) : (s.advanceSky n).mem = s.mem := by unfold State.advanceSky; dsimp only; split <;> rfl
@[simp] theorem State.advanceSky_ses (s : State) (n : Nat) : (s.advanceSky n).ses = s.ses := by unfold State.advanceSky; dsimp only; split <;> rfl
@[simp] theorem State.advanceSky_cmds (s : State) (n : Nat) : (s.advanceSky n).cmds = s.cmds := by unfold State.advanceSky; dsimp only; split <;> rfl
@[simp] theorem State.advanceSky_lim (s : State) (n : Nat) : (s.advanceSky n).lim = s.lim := by unfold State.advanceSky; dsimp only; split <;> rfl
@[simp] theorem State.advanceSky_win (s : State) (n : Nat) : (s.advanceSky n).win = s.win := by unfold State.advanceSky; dsimp only; split <;> rfl
@[simp] theorem State.advanceSky_est (s : State) (n : Nat) : (s.advanceSky n).est = s.est := by unfold State.advanceSky; dsimp only; split <;> rfl
@[simp] theorem State.advanceSky_thm (s : State) (n : Nat) : (s.advanceSky n).thm = s.thm := by unfold State.advanceSky; dsimp only; split <;> rfl
@[simp] theorem State.advanceSky_unattended (s : State) (n : Nat) : (s.advanceSky n).unattended = s.unattended := by unfold State.advanceSky; dsimp only; split <;> rfl
@[simp] theorem State.advanceSky_rate (s : State) (n : Nat) : (s.advanceSky n).rate = s.rate := by unfold State.advanceSky; dsimp only; split <;> rfl
@[simp] theorem State.advanceSky_fw (s : State) (n : Nat) : (s.advanceSky n).fw = s.fw := by unfold State.advanceSky; dsimp only; split <;> rfl
@[simp] theorem State.advanceSky_acc (s : State) (n : Nat) : (s.advanceSky n).acc = s.acc := by unfold State.advanceSky; dsimp only; split <;> rfl
@[simp] theorem State.advanceSky_hub (s : State) (n : Nat) : (s.advanceSky n).hub = s.hub := by unfold State.advanceSky; dsimp only; split <;> rfl
@[simp] theorem State.advanceSky_obs (s : State) (n : Nat) : (s.advanceSky n).obs = s.obs := by unfold State.advanceSky; dsimp only; split <;> rfl
@[simp] theorem State.advanceSky_latches (s : State) (n : Nat) : (s.advanceSky n).latches = s.latches := by unfold State.advanceSky; dsimp only; split <;> rfl
@[simp] theorem State.advanceSky_held (s : State) (n : Nat) : (s.advanceSky n).held = s.held := by unfold State.advanceSky; dsimp only; split <;> rfl
@[simp] theorem State.advanceSky_pending (s : State) (n : Nat) : (s.advanceSky n).pending = s.pending := by unfold State.advanceSky; dsimp only; split <;> rfl

@[simp] theorem State.spent_regs (s : State) : (s.spent).regs = s.regs := rfl
@[simp] theorem State.spent_staged (s : State) : (s.spent).staged = s.staged := rfl
@[simp] theorem State.spent_now (s : State) : (s.spent).now = s.now := rfl
@[simp] theorem State.spent_sky (s : State) : (s.spent).sky = s.sky := rfl
@[simp] theorem State.spent_tie (s : State) : (s.spent).tie = s.tie := rfl
@[simp] theorem State.spent_otp (s : State) : (s.spent).otp = s.otp := rfl
@[simp] theorem State.spent_out (s : State) : (s.spent).out = s.out := rfl
@[simp] theorem State.spent_raises (s : State) : (s.spent).raises = s.raises := rfl
@[simp] theorem State.spent_levels (s : State) : (s.spent).levels = s.levels := rfl
@[simp] theorem State.spent_agents (s : State) : (s.spent).agents = s.agents := rfl
@[simp] theorem State.spent_arb (s : State) : (s.spent).arb = s.arb := rfl
@[simp] theorem State.spent_drp (s : State) : (s.spent).drp = s.drp := rfl
@[simp] theorem State.spent_rings (s : State) : (s.spent).rings = s.rings := rfl
@[simp] theorem State.spent_halfReq (s : State) : (s.spent).halfReq = s.halfReq := rfl
@[simp] theorem State.spent_rails (s : State) : (s.spent).rails = s.rails := rfl
@[simp] theorem State.spent_avs (s : State) : (s.spent).avs = s.avs := rfl
@[simp] theorem State.spent_lastInj (s : State) : (s.spent).lastInj = s.lastInj := rfl
@[simp] theorem State.spent_ps (s : State) : (s.spent).ps = s.ps := rfl
@[simp] theorem State.spent_hdg (s : State) : (s.spent).hdg = s.hdg := rfl
@[simp] theorem State.spent_fab (s : State) : (s.spent).fab = s.fab := rfl
@[simp] theorem State.spent_mem (s : State) : (s.spent).mem = s.mem := rfl
@[simp] theorem State.spent_ses (s : State) : (s.spent).ses = s.ses := rfl
@[simp] theorem State.spent_cmds (s : State) : (s.spent).cmds = s.cmds := rfl
@[simp] theorem State.spent_lim (s : State) : (s.spent).lim = s.lim := rfl
@[simp] theorem State.spent_win (s : State) : (s.spent).win = s.win := rfl
@[simp] theorem State.spent_est (s : State) : (s.spent).est = s.est := rfl
@[simp] theorem State.spent_thm (s : State) : (s.spent).thm = s.thm := rfl
@[simp] theorem State.spent_unattended (s : State) : (s.spent).unattended = s.unattended := rfl
@[simp] theorem State.spent_rate (s : State) : (s.spent).rate = s.rate := rfl
@[simp] theorem State.spent_fw (s : State) : (s.spent).fw = s.fw := rfl
@[simp] theorem State.spent_acc (s : State) : (s.spent).acc = s.acc := rfl
@[simp] theorem State.spent_hub (s : State) : (s.spent).hub = s.hub := rfl
@[simp] theorem State.spent_obs (s : State) : (s.spent).obs = s.obs := rfl
@[simp] theorem State.spent_latches (s : State) : (s.spent).latches = s.latches := rfl
@[simp] theorem State.spent_held (s : State) : (s.spent).held = s.held := rfl
@[simp] theorem State.spent_pending (s : State) : (s.spent).pending = s.pending := rfl

@[simp] theorem State.emit_regs (s : State) (o : Out) : (s.emit o).regs = s.regs := rfl
@[simp] theorem State.emit_staged (s : State) (o : Out) : (s.emit o).staged = s.staged := rfl
@[simp] theorem State.emit_now (s : State) (o : Out) : (s.emit o).now = s.now := rfl
@[simp] theorem State.emit_sky (s : State) (o : Out) : (s.emit o).sky = s.sky := rfl
@[simp] theorem State.emit_free (s : State) (o : Out) : (s.emit o).free = s.free := rfl
@[simp] theorem State.emit_tie (s : State) (o : Out) : (s.emit o).tie = s.tie := rfl
@[simp] theorem State.emit_otp (s : State) (o : Out) : (s.emit o).otp = s.otp := rfl
@[simp] theorem State.emit_raises (s : State) (o : Out) : (s.emit o).raises = s.raises := rfl
@[simp] theorem State.emit_levels (s : State) (o : Out) : (s.emit o).levels = s.levels := rfl
@[simp] theorem State.emit_agents (s : State) (o : Out) : (s.emit o).agents = s.agents := rfl
@[simp] theorem State.emit_arb (s : State) (o : Out) : (s.emit o).arb = s.arb := rfl
@[simp] theorem State.emit_drp (s : State) (o : Out) : (s.emit o).drp = s.drp := rfl
@[simp] theorem State.emit_rings (s : State) (o : Out) : (s.emit o).rings = s.rings := rfl
@[simp] theorem State.emit_halfReq (s : State) (o : Out) : (s.emit o).halfReq = s.halfReq := rfl
@[simp] theorem State.emit_rails (s : State) (o : Out) : (s.emit o).rails = s.rails := rfl
@[simp] theorem State.emit_avs (s : State) (o : Out) : (s.emit o).avs = s.avs := rfl
@[simp] theorem State.emit_lastInj (s : State) (o : Out) : (s.emit o).lastInj = s.lastInj := rfl
@[simp] theorem State.emit_ps (s : State) (o : Out) : (s.emit o).ps = s.ps := rfl
@[simp] theorem State.emit_hdg (s : State) (o : Out) : (s.emit o).hdg = s.hdg := rfl
@[simp] theorem State.emit_fab (s : State) (o : Out) : (s.emit o).fab = s.fab := rfl
@[simp] theorem State.emit_mem (s : State) (o : Out) : (s.emit o).mem = s.mem := rfl
@[simp] theorem State.emit_ses (s : State) (o : Out) : (s.emit o).ses = s.ses := rfl
@[simp] theorem State.emit_cmds (s : State) (o : Out) : (s.emit o).cmds = s.cmds := rfl
@[simp] theorem State.emit_lim (s : State) (o : Out) : (s.emit o).lim = s.lim := rfl
@[simp] theorem State.emit_win (s : State) (o : Out) : (s.emit o).win = s.win := rfl
@[simp] theorem State.emit_est (s : State) (o : Out) : (s.emit o).est = s.est := rfl
@[simp] theorem State.emit_thm (s : State) (o : Out) : (s.emit o).thm = s.thm := rfl
@[simp] theorem State.emit_unattended (s : State) (o : Out) : (s.emit o).unattended = s.unattended := rfl
@[simp] theorem State.emit_rate (s : State) (o : Out) : (s.emit o).rate = s.rate := rfl
@[simp] theorem State.emit_fw (s : State) (o : Out) : (s.emit o).fw = s.fw := rfl
@[simp] theorem State.emit_acc (s : State) (o : Out) : (s.emit o).acc = s.acc := rfl
@[simp] theorem State.emit_hub (s : State) (o : Out) : (s.emit o).hub = s.hub := rfl
@[simp] theorem State.emit_obs (s : State) (o : Out) : (s.emit o).obs = s.obs := rfl
@[simp] theorem State.emit_latches (s : State) (o : Out) : (s.emit o).latches = s.latches := rfl
@[simp] theorem State.emit_held (s : State) (o : Out) : (s.emit o).held = s.held := rfl
@[simp] theorem State.emit_pending (s : State) (o : Out) : (s.emit o).pending = s.pending := rfl

@[simp] theorem State.raise_regs (s : State) (i syn : Nat) (forced : Bool) : (s.raise i syn forced).regs = s.regs := rfl
@[simp] theorem State.raise_staged (s : State) (i syn : Nat) (forced : Bool) : (s.raise i syn forced).staged = s.staged := rfl
@[simp] theorem State.raise_now (s : State) (i syn : Nat) (forced : Bool) : (s.raise i syn forced).now = s.now := rfl
@[simp] theorem State.raise_sky (s : State) (i syn : Nat) (forced : Bool) : (s.raise i syn forced).sky = s.sky := rfl
@[simp] theorem State.raise_free (s : State) (i syn : Nat) (forced : Bool) : (s.raise i syn forced).free = s.free := rfl
@[simp] theorem State.raise_tie (s : State) (i syn : Nat) (forced : Bool) : (s.raise i syn forced).tie = s.tie := rfl
@[simp] theorem State.raise_otp (s : State) (i syn : Nat) (forced : Bool) : (s.raise i syn forced).otp = s.otp := rfl
@[simp] theorem State.raise_out (s : State) (i syn : Nat) (forced : Bool) : (s.raise i syn forced).out = s.out := rfl
@[simp] theorem State.raise_levels (s : State) (i syn : Nat) (forced : Bool) : (s.raise i syn forced).levels = s.levels := rfl
@[simp] theorem State.raise_agents (s : State) (i syn : Nat) (forced : Bool) : (s.raise i syn forced).agents = s.agents := rfl
@[simp] theorem State.raise_arb (s : State) (i syn : Nat) (forced : Bool) : (s.raise i syn forced).arb = s.arb := rfl
@[simp] theorem State.raise_drp (s : State) (i syn : Nat) (forced : Bool) : (s.raise i syn forced).drp = s.drp := rfl
@[simp] theorem State.raise_rings (s : State) (i syn : Nat) (forced : Bool) : (s.raise i syn forced).rings = s.rings := rfl
@[simp] theorem State.raise_halfReq (s : State) (i syn : Nat) (forced : Bool) : (s.raise i syn forced).halfReq = s.halfReq := rfl
@[simp] theorem State.raise_rails (s : State) (i syn : Nat) (forced : Bool) : (s.raise i syn forced).rails = s.rails := rfl
@[simp] theorem State.raise_avs (s : State) (i syn : Nat) (forced : Bool) : (s.raise i syn forced).avs = s.avs := rfl
@[simp] theorem State.raise_lastInj (s : State) (i syn : Nat) (forced : Bool) : (s.raise i syn forced).lastInj = s.lastInj := rfl
@[simp] theorem State.raise_ps (s : State) (i syn : Nat) (forced : Bool) : (s.raise i syn forced).ps = s.ps := rfl
@[simp] theorem State.raise_hdg (s : State) (i syn : Nat) (forced : Bool) : (s.raise i syn forced).hdg = s.hdg := rfl
@[simp] theorem State.raise_fab (s : State) (i syn : Nat) (forced : Bool) : (s.raise i syn forced).fab = s.fab := rfl
@[simp] theorem State.raise_mem (s : State) (i syn : Nat) (forced : Bool) : (s.raise i syn forced).mem = s.mem := rfl
@[simp] theorem State.raise_ses (s : State) (i syn : Nat) (forced : Bool) : (s.raise i syn forced).ses = s.ses := rfl
@[simp] theorem State.raise_cmds (s : State) (i syn : Nat) (forced : Bool) : (s.raise i syn forced).cmds = s.cmds := rfl
@[simp] theorem State.raise_lim (s : State) (i syn : Nat) (forced : Bool) : (s.raise i syn forced).lim = s.lim := rfl
@[simp] theorem State.raise_win (s : State) (i syn : Nat) (forced : Bool) : (s.raise i syn forced).win = s.win := rfl
@[simp] theorem State.raise_est (s : State) (i syn : Nat) (forced : Bool) : (s.raise i syn forced).est = s.est := rfl
@[simp] theorem State.raise_thm (s : State) (i syn : Nat) (forced : Bool) : (s.raise i syn forced).thm = s.thm := rfl
@[simp] theorem State.raise_unattended (s : State) (i syn : Nat) (forced : Bool) : (s.raise i syn forced).unattended = s.unattended := rfl
@[simp] theorem State.raise_rate (s : State) (i syn : Nat) (forced : Bool) : (s.raise i syn forced).rate = s.rate := rfl
@[simp] theorem State.raise_fw (s : State) (i syn : Nat) (forced : Bool) : (s.raise i syn forced).fw = s.fw := rfl
@[simp] theorem State.raise_acc (s : State) (i syn : Nat) (forced : Bool) : (s.raise i syn forced).acc = s.acc := rfl
@[simp] theorem State.raise_hub (s : State) (i syn : Nat) (forced : Bool) : (s.raise i syn forced).hub = s.hub := rfl
@[simp] theorem State.raise_obs (s : State) (i syn : Nat) (forced : Bool) : (s.raise i syn forced).obs = s.obs := rfl
@[simp] theorem State.raise_latches (s : State) (i syn : Nat) (forced : Bool) : (s.raise i syn forced).latches = s.latches := rfl
@[simp] theorem State.raise_held (s : State) (i syn : Nat) (forced : Bool) : (s.raise i syn forced).held = s.held := rfl
@[simp] theorem State.raise_pending (s : State) (i syn : Nat) (forced : Bool) : (s.raise i syn forced).pending = s.pending := rfl

@[simp] theorem State.levelOn_regs (s : State) (i syn : Nat) : (s.levelOn i syn).regs = s.regs := by unfold State.levelOn; split <;> rfl
@[simp] theorem State.levelOn_staged (s : State) (i syn : Nat) : (s.levelOn i syn).staged = s.staged := by unfold State.levelOn; split <;> rfl
@[simp] theorem State.levelOn_now (s : State) (i syn : Nat) : (s.levelOn i syn).now = s.now := by unfold State.levelOn; split <;> rfl
@[simp] theorem State.levelOn_sky (s : State) (i syn : Nat) : (s.levelOn i syn).sky = s.sky := by unfold State.levelOn; split <;> rfl
@[simp] theorem State.levelOn_free (s : State) (i syn : Nat) : (s.levelOn i syn).free = s.free := by unfold State.levelOn; split <;> rfl
@[simp] theorem State.levelOn_tie (s : State) (i syn : Nat) : (s.levelOn i syn).tie = s.tie := by unfold State.levelOn; split <;> rfl
@[simp] theorem State.levelOn_otp (s : State) (i syn : Nat) : (s.levelOn i syn).otp = s.otp := by unfold State.levelOn; split <;> rfl
@[simp] theorem State.levelOn_out (s : State) (i syn : Nat) : (s.levelOn i syn).out = s.out := by unfold State.levelOn; split <;> rfl
@[simp] theorem State.levelOn_agents (s : State) (i syn : Nat) : (s.levelOn i syn).agents = s.agents := by unfold State.levelOn; split <;> rfl
@[simp] theorem State.levelOn_arb (s : State) (i syn : Nat) : (s.levelOn i syn).arb = s.arb := by unfold State.levelOn; split <;> rfl
@[simp] theorem State.levelOn_drp (s : State) (i syn : Nat) : (s.levelOn i syn).drp = s.drp := by unfold State.levelOn; split <;> rfl
@[simp] theorem State.levelOn_rings (s : State) (i syn : Nat) : (s.levelOn i syn).rings = s.rings := by unfold State.levelOn; split <;> rfl
@[simp] theorem State.levelOn_halfReq (s : State) (i syn : Nat) : (s.levelOn i syn).halfReq = s.halfReq := by unfold State.levelOn; split <;> rfl
@[simp] theorem State.levelOn_rails (s : State) (i syn : Nat) : (s.levelOn i syn).rails = s.rails := by unfold State.levelOn; split <;> rfl
@[simp] theorem State.levelOn_avs (s : State) (i syn : Nat) : (s.levelOn i syn).avs = s.avs := by unfold State.levelOn; split <;> rfl
@[simp] theorem State.levelOn_lastInj (s : State) (i syn : Nat) : (s.levelOn i syn).lastInj = s.lastInj := by unfold State.levelOn; split <;> rfl
@[simp] theorem State.levelOn_ps (s : State) (i syn : Nat) : (s.levelOn i syn).ps = s.ps := by unfold State.levelOn; split <;> rfl
@[simp] theorem State.levelOn_hdg (s : State) (i syn : Nat) : (s.levelOn i syn).hdg = s.hdg := by unfold State.levelOn; split <;> rfl
@[simp] theorem State.levelOn_fab (s : State) (i syn : Nat) : (s.levelOn i syn).fab = s.fab := by unfold State.levelOn; split <;> rfl
@[simp] theorem State.levelOn_mem (s : State) (i syn : Nat) : (s.levelOn i syn).mem = s.mem := by unfold State.levelOn; split <;> rfl
@[simp] theorem State.levelOn_ses (s : State) (i syn : Nat) : (s.levelOn i syn).ses = s.ses := by unfold State.levelOn; split <;> rfl
@[simp] theorem State.levelOn_cmds (s : State) (i syn : Nat) : (s.levelOn i syn).cmds = s.cmds := by unfold State.levelOn; split <;> rfl
@[simp] theorem State.levelOn_lim (s : State) (i syn : Nat) : (s.levelOn i syn).lim = s.lim := by unfold State.levelOn; split <;> rfl
@[simp] theorem State.levelOn_win (s : State) (i syn : Nat) : (s.levelOn i syn).win = s.win := by unfold State.levelOn; split <;> rfl
@[simp] theorem State.levelOn_est (s : State) (i syn : Nat) : (s.levelOn i syn).est = s.est := by unfold State.levelOn; split <;> rfl
@[simp] theorem State.levelOn_thm (s : State) (i syn : Nat) : (s.levelOn i syn).thm = s.thm := by unfold State.levelOn; split <;> rfl
@[simp] theorem State.levelOn_unattended (s : State) (i syn : Nat) : (s.levelOn i syn).unattended = s.unattended := by unfold State.levelOn; split <;> rfl
@[simp] theorem State.levelOn_rate (s : State) (i syn : Nat) : (s.levelOn i syn).rate = s.rate := by unfold State.levelOn; split <;> rfl
@[simp] theorem State.levelOn_fw (s : State) (i syn : Nat) : (s.levelOn i syn).fw = s.fw := by unfold State.levelOn; split <;> rfl
@[simp] theorem State.levelOn_acc (s : State) (i syn : Nat) : (s.levelOn i syn).acc = s.acc := by unfold State.levelOn; split <;> rfl
@[simp] theorem State.levelOn_obs (s : State) (i syn : Nat) : (s.levelOn i syn).obs = s.obs := by unfold State.levelOn; split <;> rfl
@[simp] theorem State.levelOn_latches (s : State) (i syn : Nat) : (s.levelOn i syn).latches = s.latches := by unfold State.levelOn; split <;> rfl
@[simp] theorem State.levelOn_held (s : State) (i syn : Nat) : (s.levelOn i syn).held = s.held := by unfold State.levelOn; split <;> rfl
@[simp] theorem State.levelOn_pending (s : State) (i syn : Nat) : (s.levelOn i syn).pending = s.pending := by unfold State.levelOn; split <;> rfl

@[simp] theorem State.levelOff_regs (s : State) (i : Nat) : (s.levelOff i).regs = s.regs := rfl
@[simp] theorem State.levelOff_staged (s : State) (i : Nat) : (s.levelOff i).staged = s.staged := rfl
@[simp] theorem State.levelOff_now (s : State) (i : Nat) : (s.levelOff i).now = s.now := rfl
@[simp] theorem State.levelOff_sky (s : State) (i : Nat) : (s.levelOff i).sky = s.sky := rfl
@[simp] theorem State.levelOff_free (s : State) (i : Nat) : (s.levelOff i).free = s.free := rfl
@[simp] theorem State.levelOff_tie (s : State) (i : Nat) : (s.levelOff i).tie = s.tie := rfl
@[simp] theorem State.levelOff_otp (s : State) (i : Nat) : (s.levelOff i).otp = s.otp := rfl
@[simp] theorem State.levelOff_out (s : State) (i : Nat) : (s.levelOff i).out = s.out := rfl
@[simp] theorem State.levelOff_raises (s : State) (i : Nat) : (s.levelOff i).raises = s.raises := rfl
@[simp] theorem State.levelOff_agents (s : State) (i : Nat) : (s.levelOff i).agents = s.agents := rfl
@[simp] theorem State.levelOff_arb (s : State) (i : Nat) : (s.levelOff i).arb = s.arb := rfl
@[simp] theorem State.levelOff_drp (s : State) (i : Nat) : (s.levelOff i).drp = s.drp := rfl
@[simp] theorem State.levelOff_rings (s : State) (i : Nat) : (s.levelOff i).rings = s.rings := rfl
@[simp] theorem State.levelOff_halfReq (s : State) (i : Nat) : (s.levelOff i).halfReq = s.halfReq := rfl
@[simp] theorem State.levelOff_rails (s : State) (i : Nat) : (s.levelOff i).rails = s.rails := rfl
@[simp] theorem State.levelOff_avs (s : State) (i : Nat) : (s.levelOff i).avs = s.avs := rfl
@[simp] theorem State.levelOff_lastInj (s : State) (i : Nat) : (s.levelOff i).lastInj = s.lastInj := rfl
@[simp] theorem State.levelOff_ps (s : State) (i : Nat) : (s.levelOff i).ps = s.ps := rfl
@[simp] theorem State.levelOff_hdg (s : State) (i : Nat) : (s.levelOff i).hdg = s.hdg := rfl
@[simp] theorem State.levelOff_fab (s : State) (i : Nat) : (s.levelOff i).fab = s.fab := rfl
@[simp] theorem State.levelOff_mem (s : State) (i : Nat) : (s.levelOff i).mem = s.mem := rfl
@[simp] theorem State.levelOff_ses (s : State) (i : Nat) : (s.levelOff i).ses = s.ses := rfl
@[simp] theorem State.levelOff_cmds (s : State) (i : Nat) : (s.levelOff i).cmds = s.cmds := rfl
@[simp] theorem State.levelOff_lim (s : State) (i : Nat) : (s.levelOff i).lim = s.lim := rfl
@[simp] theorem State.levelOff_win (s : State) (i : Nat) : (s.levelOff i).win = s.win := rfl
@[simp] theorem State.levelOff_est (s : State) (i : Nat) : (s.levelOff i).est = s.est := rfl
@[simp] theorem State.levelOff_thm (s : State) (i : Nat) : (s.levelOff i).thm = s.thm := rfl
@[simp] theorem State.levelOff_unattended (s : State) (i : Nat) : (s.levelOff i).unattended = s.unattended := rfl
@[simp] theorem State.levelOff_rate (s : State) (i : Nat) : (s.levelOff i).rate = s.rate := rfl
@[simp] theorem State.levelOff_fw (s : State) (i : Nat) : (s.levelOff i).fw = s.fw := rfl
@[simp] theorem State.levelOff_acc (s : State) (i : Nat) : (s.levelOff i).acc = s.acc := rfl
@[simp] theorem State.levelOff_obs (s : State) (i : Nat) : (s.levelOff i).obs = s.obs := rfl
@[simp] theorem State.levelOff_latches (s : State) (i : Nat) : (s.levelOff i).latches = s.latches := rfl
@[simp] theorem State.levelOff_held (s : State) (i : Nat) : (s.levelOff i).held = s.held := rfl
@[simp] theorem State.levelOff_pending (s : State) (i : Nat) : (s.levelOff i).pending = s.pending := rfl

@[simp] theorem State.setAgent_regs (s : State) (c : Nat) (a : Agent) : (s.setAgent c a).regs = s.regs := rfl
@[simp] theorem State.setAgent_staged (s : State) (c : Nat) (a : Agent) : (s.setAgent c a).staged = s.staged := rfl
@[simp] theorem State.setAgent_now (s : State) (c : Nat) (a : Agent) : (s.setAgent c a).now = s.now := rfl
@[simp] theorem State.setAgent_sky (s : State) (c : Nat) (a : Agent) : (s.setAgent c a).sky = s.sky := rfl
@[simp] theorem State.setAgent_free (s : State) (c : Nat) (a : Agent) : (s.setAgent c a).free = s.free := rfl
@[simp] theorem State.setAgent_tie (s : State) (c : Nat) (a : Agent) : (s.setAgent c a).tie = s.tie := rfl
@[simp] theorem State.setAgent_otp (s : State) (c : Nat) (a : Agent) : (s.setAgent c a).otp = s.otp := rfl
@[simp] theorem State.setAgent_out (s : State) (c : Nat) (a : Agent) : (s.setAgent c a).out = s.out := rfl
@[simp] theorem State.setAgent_raises (s : State) (c : Nat) (a : Agent) : (s.setAgent c a).raises = s.raises := rfl
@[simp] theorem State.setAgent_levels (s : State) (c : Nat) (a : Agent) : (s.setAgent c a).levels = s.levels := rfl
@[simp] theorem State.setAgent_arb (s : State) (c : Nat) (a : Agent) : (s.setAgent c a).arb = s.arb := rfl
@[simp] theorem State.setAgent_drp (s : State) (c : Nat) (a : Agent) : (s.setAgent c a).drp = s.drp := rfl
@[simp] theorem State.setAgent_rings (s : State) (c : Nat) (a : Agent) : (s.setAgent c a).rings = s.rings := rfl
@[simp] theorem State.setAgent_halfReq (s : State) (c : Nat) (a : Agent) : (s.setAgent c a).halfReq = s.halfReq := rfl
@[simp] theorem State.setAgent_rails (s : State) (c : Nat) (a : Agent) : (s.setAgent c a).rails = s.rails := rfl
@[simp] theorem State.setAgent_avs (s : State) (c : Nat) (a : Agent) : (s.setAgent c a).avs = s.avs := rfl
@[simp] theorem State.setAgent_lastInj (s : State) (c : Nat) (a : Agent) : (s.setAgent c a).lastInj = s.lastInj := rfl
@[simp] theorem State.setAgent_ps (s : State) (c : Nat) (a : Agent) : (s.setAgent c a).ps = s.ps := rfl
@[simp] theorem State.setAgent_hdg (s : State) (c : Nat) (a : Agent) : (s.setAgent c a).hdg = s.hdg := rfl
@[simp] theorem State.setAgent_fab (s : State) (c : Nat) (a : Agent) : (s.setAgent c a).fab = s.fab := rfl
@[simp] theorem State.setAgent_mem (s : State) (c : Nat) (a : Agent) : (s.setAgent c a).mem = s.mem := rfl
@[simp] theorem State.setAgent_ses (s : State) (c : Nat) (a : Agent) : (s.setAgent c a).ses = s.ses := rfl
@[simp] theorem State.setAgent_cmds (s : State) (c : Nat) (a : Agent) : (s.setAgent c a).cmds = s.cmds := rfl
@[simp] theorem State.setAgent_lim (s : State) (c : Nat) (a : Agent) : (s.setAgent c a).lim = s.lim := rfl
@[simp] theorem State.setAgent_win (s : State) (c : Nat) (a : Agent) : (s.setAgent c a).win = s.win := rfl
@[simp] theorem State.setAgent_est (s : State) (c : Nat) (a : Agent) : (s.setAgent c a).est = s.est := rfl
@[simp] theorem State.setAgent_thm (s : State) (c : Nat) (a : Agent) : (s.setAgent c a).thm = s.thm := rfl
@[simp] theorem State.setAgent_unattended (s : State) (c : Nat) (a : Agent) : (s.setAgent c a).unattended = s.unattended := rfl
@[simp] theorem State.setAgent_rate (s : State) (c : Nat) (a : Agent) : (s.setAgent c a).rate = s.rate := rfl
@[simp] theorem State.setAgent_fw (s : State) (c : Nat) (a : Agent) : (s.setAgent c a).fw = s.fw := rfl
@[simp] theorem State.setAgent_acc (s : State) (c : Nat) (a : Agent) : (s.setAgent c a).acc = s.acc := rfl
@[simp] theorem State.setAgent_hub (s : State) (c : Nat) (a : Agent) : (s.setAgent c a).hub = s.hub := rfl
@[simp] theorem State.setAgent_obs (s : State) (c : Nat) (a : Agent) : (s.setAgent c a).obs = s.obs := rfl
@[simp] theorem State.setAgent_latches (s : State) (c : Nat) (a : Agent) : (s.setAgent c a).latches = s.latches := rfl
@[simp] theorem State.setAgent_held (s : State) (c : Nat) (a : Agent) : (s.setAgent c a).held = s.held := rfl
@[simp] theorem State.setAgent_pending (s : State) (c : Nat) (a : Agent) : (s.setAgent c a).pending = s.pending := rfl

end Sys2Proof.Machine
end

