-- ==== Sys2Proof/Laws/Regs.lean ====
section
/-! SUPPORT. Registers and their fields: what a read after a write gives, and that every write keeps the register
store's canonical form. -/

namespace Sys2Proof.Machine

/-! ### Bits -/

theorem bitsOf_lt (n hi lo : Nat) : bitsOf n hi lo < 2 ^ (hi + 1 - lo) := Nat.mod_lt _ (by positivity)

theorem bnat_mod (b : Bool) (k : Nat) (h : 0 < k) : bnat b % 2 ^ k = bnat b := by
  have h2 : 2 ≤ 2 ^ k := by
    calc 2 = 2 ^ 1 := rfl
      _ ≤ 2 ^ k := Nat.pow_le_pow_right (by omega) h
  apply Nat.mod_eq_of_lt
  cases b
  · simp [bnat]
  · simp only [bnat, if_true]; omega

/-- A number from its parts above, in and below a field. -/
theorem withBits_parts (n hi lo v : Nat) (h : lo ≤ hi) :
    withBits n hi lo v = n / 2 ^ (hi + 1) * 2 ^ (hi + 1) + v % 2 ^ (hi + 1 - lo) * 2 ^ lo + n % 2 ^ lo := by
  unfold withBits bitsOf
  have hw : 2 ^ (hi + 1) = 2 ^ lo * 2 ^ (hi + 1 - lo) := by rw [← pow_add]; congr 1; omega
  have h1 := Nat.div_add_mod n (2 ^ lo)
  have h2 := Nat.div_add_mod (n / 2 ^ lo) (2 ^ (hi + 1 - lo))
  have h3 : n / 2 ^ (hi + 1) = n / 2 ^ lo / 2 ^ (hi + 1 - lo) := by rw [hw, Nat.div_div_eq_div_mul]
  rw [h3, hw]
  set a := n / 2 ^ lo / 2 ^ (hi + 1 - lo) with ha
  set b := n / 2 ^ lo % 2 ^ (hi + 1 - lo) with hb
  set w := 2 ^ (hi + 1 - lo)
  set p := 2 ^ lo
  have e : n = p * (w * a + b) + n % p := by rw [h2]; exact h1.symm
  have : n - b * p = a * (p * w) + n % p := by
    conv_lhs => rw [e]
    have : p * (w * a + b) = a * (p * w) + b * p := by ring
    rw [this]; omega
  rw [this]; ring

/-- The field after it is written. -/
theorem bitsOf_withBits_same (n hi lo v : Nat) (h : lo ≤ hi) : bitsOf (withBits n hi lo v) hi lo = v % 2 ^ (hi + 1 - lo) := by
  rw [withBits_parts n hi lo v h]
  unfold bitsOf
  have hw : 2 ^ (hi + 1) = 2 ^ (hi + 1 - lo) * 2 ^ lo := by rw [← pow_add]; congr 1; omega
  rw [hw]
  have hp : 0 < 2 ^ lo := by positivity
  have : (n / (2 ^ (hi + 1 - lo) * 2 ^ lo) * (2 ^ (hi + 1 - lo) * 2 ^ lo) + v % 2 ^ (hi + 1 - lo) * 2 ^ lo + n % 2 ^ lo) / 2 ^ lo
      = n / (2 ^ (hi + 1 - lo) * 2 ^ lo) * 2 ^ (hi + 1 - lo) + v % 2 ^ (hi + 1 - lo) := by
    rw [show n / (2 ^ (hi + 1 - lo) * 2 ^ lo) * (2 ^ (hi + 1 - lo) * 2 ^ lo) + v % 2 ^ (hi + 1 - lo) * 2 ^ lo + n % 2 ^ lo
        = n % 2 ^ lo + 2 ^ lo * (n / (2 ^ (hi + 1 - lo) * 2 ^ lo) * 2 ^ (hi + 1 - lo) + v % 2 ^ (hi + 1 - lo)) by ring]
    rw [Nat.add_mul_div_left _ _ hp, Nat.div_eq_of_lt (Nat.mod_lt _ hp), Nat.zero_add]
  rw [this, Nat.mul_add_mod_self_right, Nat.mod_mod]

theorem bitsOf_testBit (n hi lo k : Nat) : (bitsOf n hi lo).testBit k = (decide (k < hi + 1 - lo) && n.testBit (k + lo)) := by
  unfold bitsOf
  rw [Nat.testBit_mod_two_pow, Nat.testBit_div_two_pow]

theorem withBits_testBit (n hi lo v k : Nat) (h : lo ≤ hi) :
    (withBits n hi lo v).testBit k = if lo ≤ k ∧ k ≤ hi then v.testBit (k - lo) else n.testBit k := by
  rw [withBits_parts n hi lo v h]
  have hp : 0 < 2 ^ lo := by positivity
  have hlow : v % 2 ^ (hi + 1 - lo) * 2 ^ lo + n % 2 ^ lo < 2 ^ (hi + 1) := by
    have h1 : v % 2 ^ (hi + 1 - lo) < 2 ^ (hi + 1 - lo) := Nat.mod_lt _ (by positivity)
    have h2 : n % 2 ^ lo < 2 ^ lo := Nat.mod_lt _ hp
    have hw : 2 ^ (hi + 1) = 2 ^ (hi + 1 - lo) * 2 ^ lo := by rw [← pow_add]; congr 1; omega
    rw [hw]
    calc _ < v % 2 ^ (hi + 1 - lo) * 2 ^ lo + 2 ^ lo := by omega
      _ = (v % 2 ^ (hi + 1 - lo) + 1) * 2 ^ lo := by ring
      _ ≤ _ := Nat.mul_le_mul_right _ h1
  rw [Nat.add_assoc, Nat.mul_comm (n / 2 ^ (hi + 1)), Nat.testBit_two_pow_mul_add _ hlow, Nat.testBit_div_two_pow,
    Nat.mul_comm (v % 2 ^ (hi + 1 - lo)), Nat.testBit_two_pow_mul_add _ (Nat.mod_lt _ hp), Nat.testBit_mod_two_pow,
    Nat.testBit_mod_two_pow]
  by_cases c1 : k < lo
  · have : k < hi + 1 := by omega
    simp [c1, this]
  · by_cases c2 : k < hi + 1
    · have e : k - lo < hi + 1 - lo := by omega
      simp [c1, c2, e]; intro; omega
    · simp [c2]
      rw [if_neg (by omega)]
      congr 1; omega

/-- Every other field of the word keeps its value. -/
theorem bitsOf_withBits_other (n hi lo v hi' lo' : Nat) (h : lo ≤ hi) (hd : hi' < lo ∨ hi < lo') :
    bitsOf (withBits n hi lo v) hi' lo' = bitsOf n hi' lo' := by
  apply Nat.eq_of_testBit_eq
  intro k
  rw [bitsOf_testBit, bitsOf_testBit]
  by_cases c : k < hi' + 1 - lo'
  · rw [withBits_testBit n hi lo v _ h, if_neg (by omega)]
  · simp [c]

theorem withBits_lt (n hi lo v : Nat) (h : lo ≤ hi) (h31 : hi < 32) (hn : n < 2 ^ 32) : withBits n hi lo v < 2 ^ 32 := by
  apply Nat.lt_pow_two_of_testBit
  intro k hk
  rw [withBits_testBit n hi lo v k h, if_neg (by omega)]
  exact Nat.testBit_lt_two_pow (Nat.lt_of_lt_of_le hn (Nat.pow_le_pow_right (by omega) hk))

/-! ### Words -/

theorem State.reg_lt (s : State) (off : Nat) : s.reg off < 2 ^ 32 := BitVec.isLt _

/-- A register after it is written. -/
theorem State.reg_setReg_same (s : State) (off v : Nat) :
    (s.setReg off v).reg off = v % 2 ^ 32 := by
  simp only [State.reg, State.setReg, SMap.get_put_same, BitVec.toNat_ofNat]

/-- Every other register keeps its word. -/
@[simp] theorem State.reg_setReg_other (s : State) (off v off' : Nat) (h : off ≠ off') :
    (s.setReg off v).reg off' = s.reg off' := by
  simp only [State.reg, State.setReg, SMap.get_put_other _ _ _ _ _ h]

/-- A write keeps the canonical form. -/
theorem State.regsCanonical_setReg (s : State) (off v : Nat) (h : s.regsCanonical) : (s.setReg off v).regsCanonical :=
  SMap.wf_put _ _ _ _ h

theorem State.regsCanonical_setFld (s : State) (f : Fld) (v : Nat) (h : s.regsCanonical) : (s.setFld f v).regsCanonical :=
  State.regsCanonical_setReg _ _ _ h

theorem State.regsCanonical_setFlag (s : State) (f : Fld) (b : Bool) (h : s.regsCanonical) : (s.setFlag f b).regsCanonical :=
  State.regsCanonical_setFld _ _ _ h

theorem State.regsCanonical_incSat (s : State) (f : Fld) (n : Nat) (h : s.regsCanonical) : (s.incSat f n).regsCanonical :=
  State.regsCanonical_setFld _ _ _ h

theorem State.regsCanonical_setReg64 (s : State) (off v : Nat) (h : s.regsCanonical) : (s.setReg64 off v).regsCanonical :=
  State.regsCanonical_setReg _ _ _ (State.regsCanonical_setReg _ _ _ h)

/-! ### Fields -/

/-- A field after it is written: the value, cut to the field's width. -/
theorem State.fld_setFld_same (s : State) (f : Fld) (v : Nat) (hf : f.lo ≤ f.hi) (h31 : f.hi < 32) :
    (s.setFld f v).fld f = v % 2 ^ (f.hi + 1 - f.lo) := by
  unfold State.fld State.setFld
  rw [State.reg_setReg_same _ _ _, Nat.mod_eq_of_lt (withBits_lt _ _ _ _ hf h31 (s.reg_lt _)), bitsOf_withBits_same _ _ _ _ hf]

/-- A field of another register keeps its value. -/
theorem State.fld_setFld_off (s : State) (f g : Fld) (v : Nat) (h : f.off ≠ g.off) : (s.setFld f v).fld g = s.fld g := by
  unfold State.fld State.setFld
  rw [State.reg_setReg_other _ _ _ _ h]

/-- Another field of the same register keeps its value. -/
theorem State.fld_setFld_bits (s : State) (f g : Fld) (v : Nat) (hf : f.lo ≤ f.hi)
    (h31 : f.hi < 32) (ho : f.off = g.off) (hd : g.hi < f.lo ∨ f.hi < g.lo) : (s.setFld f v).fld g = s.fld g := by
  unfold State.fld State.setFld
  rw [← ho, State.reg_setReg_same _ _ _, Nat.mod_eq_of_lt (withBits_lt _ _ _ _ hf h31 (s.reg_lt _)),
    bitsOf_withBits_other _ _ _ _ _ _ hf hd]

theorem State.reg_setFld_other (s : State) (f : Fld) (v off : Nat) (h : f.off ≠ off) : (s.setFld f v).reg off = s.reg off :=
  State.reg_setReg_other _ _ _ _ h

/-- A flag after it is written. -/
theorem State.flag_setFlag_same (s : State) (f : Fld) (b : Bool) (hf : f.lo = f.hi) (h31 : f.hi < 32) :
    (s.setFlag f b).flag f = b := by
  unfold State.flag State.setFlag
  rw [State.fld_setFld_same _ _ _ (by omega) h31, bnat_mod _ _ (by omega)]
  cases b <;> rfl

/-- A field that shares no bit with another: of another register, or elsewhere in the same one. -/
abbrev Fld.apart (f g : Fld) : Prop := f.off ≠ g.off ∨ (f.lo ≤ f.hi ∧ f.hi < 32 ∧ f.off = g.off ∧ (g.hi < f.lo ∨ f.hi < g.lo))

theorem State.fld_setFld_apart (s : State) (f g : Fld) (v : Nat) (h : f.apart g) : (s.setFld f v).fld g = s.fld g := by
  rcases h with h | ⟨a, b, c, d⟩
  · exact State.fld_setFld_off _ _ _ _ h
  · exact State.fld_setFld_bits _ _ _ _ a b c d

theorem State.fld_setFlag_apart (s : State) (f g : Fld) (b : Bool) (h : f.apart g) : (s.setFlag f b).fld g = s.fld g :=
  State.fld_setFld_apart _ _ _ _ h

theorem State.flag_setFld_apart (s : State) (f g : Fld) (v : Nat) (h : f.apart g) : (s.setFld f v).flag g = s.flag g := by
  unfold State.flag; rw [State.fld_setFld_apart _ _ _ _ h]

theorem State.flag_setFlag_apart (s : State) (f g : Fld) (b : Bool) (h : f.apart g) : (s.setFlag f b).flag g = s.flag g :=
  State.flag_setFld_apart _ _ _ _ h

theorem State.fld_incSat_apart (s : State) (f g : Fld) (n : Nat) (h : f.apart g) : (s.incSat f n).fld g = s.fld g :=
  State.fld_setFld_apart _ _ _ _ h

theorem State.flag_incSat_apart (s : State) (f g : Fld) (n : Nat) (h : f.apart g) : (s.incSat f n).flag g = s.flag g :=
  State.flag_setFld_apart _ _ _ _ h

theorem State.fld_setReg_off (s : State) (off v : Nat) (g : Fld) (h : off ≠ g.off) : (s.setReg off v).fld g = s.fld g := by
  unfold State.fld; rw [State.reg_setReg_other _ _ _ _ h]

theorem State.flag_setReg_off (s : State) (off v : Nat) (g : Fld) (h : off ≠ g.off) : (s.setReg off v).flag g = s.flag g := by
  unfold State.flag; rw [State.fld_setReg_off _ _ _ _ h]

theorem State.flag_setFlag_off (s : State) (f g : Fld) (b : Bool) (h : f.off ≠ g.off) : (s.setFlag f b).flag g = s.flag g := by
  unfold State.flag State.setFlag
  rw [State.fld_setFld_off _ _ _ _ h]

end Sys2Proof.Machine
end

