-- ==== Sys2Proof/Laws/Kept.lean ====
section
/-! SUPPORT. What every operation keeps: the places outside a mask, the register store's canonical form, the resets'
levels, the outputs so far, time, the counter of free values and the queue of commands. -/

namespace Sys2Proof.Machine

/-! ### Masks of places -/

/-- The bit of a place in a mask. -/
abbrev Place.bit (p : Place) : Nat := 2 ^ p.ctorIdx

theorem Mask.trans {a c m : Nat} (h : a &&& c = a) (k : c &&& m = c) : a &&& m = a := by
  rw [← h, Nat.land_assoc, k]

theorem Mask.testBit_of {k m : Nat} (h : 2 ^ k &&& m = 2 ^ k) : m.testBit k = true := by
  have := congrArg (fun n => n.testBit k) h
  simpa [Nat.testBit_and, Nat.testBit_two_pow_self] using this

/-- What `t` keeps of `b`, where the places of mask `m` may have changed. -/
structure Kept (m : Nat) (b t : State) : Prop where
  wf : SMap.wf resetWord b.regs → SMap.wf resetWord t.regs
  reg : ∀ off, (∀ p : Place, m.testBit p.ctorIdx = true → ¬ inPlace p off) → t.reg off = b.reg off
  vaon : t.ps.vaon = b.ps.vaon
  porst : t.ps.porst = b.ps.porst
  tie : t.tie = b.tie
  pending : t.pending = b.pending
  outGrows : ∃ o, t.out = b.out ++ o
  nowGrows : b.now ≤ t.now
  freeGrows : b.free ≤ t.free
  staged : m.testBit 0 = false → t.staged = b.staged
  now : m.testBit 1 = false → t.now = b.now
  sky : m.testBit 2 = false → t.sky = b.sky
  free : m.testBit 3 = false → t.free = b.free
  otp : m.testBit 5 = false → t.otp = b.otp
  out : m.testBit 6 = false → t.out = b.out
  raises : m.testBit 7 = false → t.raises = b.raises
  levels : m.testBit 8 = false → t.levels = b.levels
  agents : m.testBit 9 = false → t.agents = b.agents
  arb : m.testBit 10 = false → t.arb = b.arb
  drp : m.testBit 11 = false → t.drp = b.drp
  rings : m.testBit 12 = false → t.rings = b.rings
  halfReq : m.testBit 13 = false → t.halfReq = b.halfReq
  rails : m.testBit 14 = false → t.rails = b.rails
  avs : m.testBit 15 = false → t.avs = b.avs
  lastInj : m.testBit 16 = false → t.lastInj = b.lastInj
  ps : m.testBit 17 = false → t.ps = b.ps
  hdg : m.testBit 18 = false → t.hdg = b.hdg
  fab : m.testBit 19 = false → t.fab = b.fab
  mem : m.testBit 20 = false → t.mem = b.mem
  ses : m.testBit 21 = false → t.ses = b.ses
  cmds : m.testBit 22 = false → t.cmds = b.cmds
  lim : m.testBit 23 = false → t.lim = b.lim
  win : m.testBit 24 = false → t.win = b.win
  est : m.testBit 25 = false → t.est = b.est
  thm : m.testBit 26 = false → t.thm = b.thm
  unattended : m.testBit 27 = false → t.unattended = b.unattended
  rate : m.testBit 28 = false → t.rate = b.rate
  fw : m.testBit 29 = false → t.fw = b.fw
  acc : m.testBit 30 = false → t.acc = b.acc
  hub : m.testBit 31 = false → t.hub = b.hub
  obs : m.testBit 32 = false → t.obs = b.obs
  latches : m.testBit 33 = false → t.latches = b.latches
  held : m.testBit 34 = false → t.held = b.held

theorem Kept.refl (m : Nat) (s : State) : Kept m s s :=   ⟨id, fun _ _ => rfl, rfl, rfl, rfl, rfl, ⟨[], by
  simp⟩, Nat.le_refl _, Nat.le_refl _, fun _ => rfl, fun _ => rfl, fun _ => rfl, fun _ => rfl, fun _ => rfl, fun
  _ => rfl, fun _ => rfl, fun _ => rfl, fun _ => rfl, fun _ => rfl, fun _ => rfl, fun _ => rfl, fun _ => rfl,
  fun _ => rfl, fun _ => rfl, fun _ => rfl, fun _ => rfl, fun _ => rfl, fun _ => rfl, fun _ => rfl, fun _ =>
  rfl, fun _ => rfl, fun _ => rfl, fun _ => rfl, fun _ => rfl, fun _ => rfl, fun _ => rfl, fun _ => rfl, fun _
  => rfl, fun _ => rfl, fun _ => rfl, fun _ => rfl, fun _ => rfl, fun _ => rfl⟩

theorem Kept.trans {m : Nat} {s t u : State} (h : Kept m s t) (k : Kept m t u) : Kept m s u where
  wf hw := k.wf (h.wf hw)
  reg off ho := (k.reg off ho).trans (h.reg off ho)
  vaon := k.vaon.trans h.vaon
  porst := k.porst.trans h.porst
  tie := k.tie.trans h.tie
  pending := k.pending.trans h.pending
  outGrows := by
    obtain ⟨o, ho⟩ := h.outGrows
    obtain ⟨q, hq⟩ := k.outGrows
    exact ⟨o ++ q, by rw [hq, ho, List.append_assoc]⟩
  nowGrows := h.nowGrows.trans k.nowGrows
  freeGrows := h.freeGrows.trans k.freeGrows
  staged e := (k.staged e).trans (h.staged e)
  now e := (k.now e).trans (h.now e)
  sky e := (k.sky e).trans (h.sky e)
  free e := (k.free e).trans (h.free e)
  otp e := (k.otp e).trans (h.otp e)
  out e := (k.out e).trans (h.out e)
  raises e := (k.raises e).trans (h.raises e)
  levels e := (k.levels e).trans (h.levels e)
  agents e := (k.agents e).trans (h.agents e)
  arb e := (k.arb e).trans (h.arb e)
  drp e := (k.drp e).trans (h.drp e)
  rings e := (k.rings e).trans (h.rings e)
  halfReq e := (k.halfReq e).trans (h.halfReq e)
  rails e := (k.rails e).trans (h.rails e)
  avs e := (k.avs e).trans (h.avs e)
  lastInj e := (k.lastInj e).trans (h.lastInj e)
  ps e := (k.ps e).trans (h.ps e)
  hdg e := (k.hdg e).trans (h.hdg e)
  fab e := (k.fab e).trans (h.fab e)
  mem e := (k.mem e).trans (h.mem e)
  ses e := (k.ses e).trans (h.ses e)
  cmds e := (k.cmds e).trans (h.cmds e)
  lim e := (k.lim e).trans (h.lim e)
  win e := (k.win e).trans (h.win e)
  est e := (k.est e).trans (h.est e)
  thm e := (k.thm e).trans (h.thm e)
  unattended e := (k.unattended e).trans (h.unattended e)
  rate e := (k.rate e).trans (h.rate e)
  fw e := (k.fw e).trans (h.fw e)
  acc e := (k.acc e).trans (h.acc e)
  hub e := (k.hub e).trans (h.hub e)
  obs e := (k.obs e).trans (h.obs e)
  latches e := (k.latches e).trans (h.latches e)
  held e := (k.held e).trans (h.held e)

theorem Kept.ite {m : Nat} {b x y : State} {c : Prop} [Decidable c] (hx : Kept m b x) (hy : Kept m b y) :
    Kept m b (if c then x else y) := by
  split <;> assumption

theorem Kept.each {α : Type} {m : Nat} {b s : State} {xs : List α} {f : α → State → State} (h : Kept m b s)
    (hf : ∀ x t, Kept m b t → Kept m b (f x t)) : Kept m b (each xs f s) := each_keeps (Kept m b) f hf xs s h

theorem Kept.fold {α : Type} {m : Nat} {b s : State} {xs : List α} {f : State → α → State} (h : Kept m b s)
    (hf : ∀ t x, Kept m b t → Kept m b (f t x)) : Kept m b (xs.foldl f s) := by
  induction xs generalizing s with
  | nil => exact h
  | cons x xs ih => exact ih (hf s x h)

/-- As `Kept.fold`, for steps that are taken on elements of the list alone. -/
theorem Kept.foldMem {α : Type} {m : Nat} {b s : State} {xs : List α} {f : State → α → State} (h : Kept m b s)
    (hf : ∀ t, ∀ x ∈ xs, Kept m b t → Kept m b (f t x)) : Kept m b (xs.foldl f s) := by
  induction xs generalizing s with
  | nil => exact h
  | cons x xs ih =>
    exact ih (hf s x List.mem_cons_self h) (fun t y hy => hf t y (List.mem_cons_of_mem x hy))

theorem Kept.foldFst {α β : Type} {m : Nat} {b : State} {p : State × β} {xs : List α} {f : State × β → α → State × β}
    (h : Kept m b p.1) (hf : ∀ q x, Kept m b q.1 → Kept m b (f q x).1) : Kept m b (xs.foldl f p).1 := by
  induction xs generalizing p with
  | nil => exact h
  | cons x xs ih => exact ih (hf p x h)

theorem Kept.eachFst {α β : Type} {m : Nat} {b : State} {p : State × β} {xs : List α} {f : α → State × β → State × β}
    (h : Kept m b p.1) (hf : ∀ x q, Kept m b q.1 → Kept m b (f x q).1) : Kept m b (Machine.each xs f p).1 :=
  Kept.foldFst h (fun q x => hf x q)

/-! ### Parts of the state -/

/-- `Kept` of a state given by its parts. -/
def KeptMk (m : Nat) (b : State) (regs staged : SMap Word) (now : Nat) (sky : Skylark) (free : Nat) (tie : Tie) (otp : Otp)
    (out : List Out) (raises : List Raise) (levels : Nat) (agents : SMap Agent) (arb : Arbiter) (drp : DroopEngine)
    (rings : Rings) (halfReq : Nat) (rails : SMap Rail) (avs : Avs) (lastInj : Option (Nat × Injection)) (ps : Power)
    (hdg : Hedgerow) (fab : Fabric) (mem : MemPort) (ses : Session) (cmds : SMap Active) (lim : Limiter) (win : SMap Window)
    (est : Estimator) (thm : Thermal) (unattended : Bool) (rate : Option Nat) (fw : Firmware) (acc : AccessCtl)
    (hub : FaultHub) (obs : Observe) (latches : List (Who × Nat × Nat)) (held : List PortReq) (pending : List Instr) : Prop :=
  Kept m b (State.mk regs staged now sky free tie otp out raises levels agents arb drp rings halfReq rails avs lastInj ps hdg fab mem ses cmds lim win est thm unattended rate fw acc hub obs latches held pending)

theorem Kept.made {m : Nat} {b : State} {regs staged now sky free tie otp out raises levels agents arb drp rings halfReq rails avs lastInj ps hdg fab mem ses cmds lim win est thm unattended rate fw acc hub obs latches held pending} :
    Kept m b (State.mk regs staged now sky free tie otp out raises levels agents arb drp rings halfReq rails avs lastInj ps hdg fab mem ses cmds lim win est thm unattended rate fw acc hub obs latches held pending) ↔
      KeptMk m b regs staged now sky free tie otp out raises levels agents arb drp rings halfReq rails avs lastInj ps hdg fab mem ses cmds lim win est thm unattended rate fw acc hub obs latches held pending := Iff.rfl

theorem Kept.set_staged {m : Nat} {b s : State} {x_staged} (hm : 0x1 &&& m = 0x1) (h : Kept m b s) :
    KeptMk m b s.regs x_staged s.now s.sky s.free s.tie s.otp s.out s.raises s.levels s.agents s.arb s.drp 
      s.rings s.halfReq s.rails s.avs s.lastInj s.ps s.hdg s.fab s.mem s.ses s.cmds s.lim s.win 
      s.est s.thm s.unattended s.rate s.fw s.acc s.hub s.obs s.latches s.held s.pending :=
  ⟨h.wf, h.reg, h.vaon, h.porst, h.tie, h.pending, h.outGrows, h.nowGrows, h.freeGrows, fun e => absurd
   (Mask.testBit_of (k := 0) (Mask.trans (by decide) hm)) (by simp [e]), h.now, h.sky, h.free, h.otp, h.out,
   h.raises, h.levels, h.agents, h.arb, h.drp, h.rings, h.halfReq, h.rails, h.avs, h.lastInj, h.ps, h.hdg,
   h.fab, h.mem, h.ses, h.cmds, h.lim, h.win, h.est, h.thm, h.unattended, h.rate, h.fw, h.acc, h.hub, h.obs,
   h.latches, h.held⟩

theorem Kept.set_sky {m : Nat} {b s : State} {x_sky} (hm : 0x4 &&& m = 0x4) (h : Kept m b s) :
    KeptMk m b s.regs s.staged s.now x_sky s.free s.tie s.otp s.out s.raises s.levels s.agents s.arb s.drp 
      s.rings s.halfReq s.rails s.avs s.lastInj s.ps s.hdg s.fab s.mem s.ses s.cmds s.lim s.win 
      s.est s.thm s.unattended s.rate s.fw s.acc s.hub s.obs s.latches s.held s.pending :=
  ⟨h.wf, h.reg, h.vaon, h.porst, h.tie, h.pending, h.outGrows, h.nowGrows, h.freeGrows, h.staged, h.now, fun e
   => absurd (Mask.testBit_of (k := 2) (Mask.trans (by decide) hm)) (by simp [e]), h.free, h.otp, h.out,
   h.raises, h.levels, h.agents, h.arb, h.drp, h.rings, h.halfReq, h.rails, h.avs, h.lastInj, h.ps, h.hdg,
   h.fab, h.mem, h.ses, h.cmds, h.lim, h.win, h.est, h.thm, h.unattended, h.rate, h.fw, h.acc, h.hub, h.obs,
   h.latches, h.held⟩

theorem Kept.set_otp {m : Nat} {b s : State} {x_otp} (hm : 0x20 &&& m = 0x20) (h : Kept m b s) :
    KeptMk m b s.regs s.staged s.now s.sky s.free s.tie x_otp s.out s.raises s.levels s.agents s.arb s.drp 
      s.rings s.halfReq s.rails s.avs s.lastInj s.ps s.hdg s.fab s.mem s.ses s.cmds s.lim s.win 
      s.est s.thm s.unattended s.rate s.fw s.acc s.hub s.obs s.latches s.held s.pending :=
  ⟨h.wf, h.reg, h.vaon, h.porst, h.tie, h.pending, h.outGrows, h.nowGrows, h.freeGrows, h.staged, h.now, h.sky,
   h.free, fun e => absurd (Mask.testBit_of (k := 5) (Mask.trans (by decide) hm)) (by simp [e]), h.out,
   h.raises, h.levels, h.agents, h.arb, h.drp, h.rings, h.halfReq, h.rails, h.avs, h.lastInj, h.ps, h.hdg,
   h.fab, h.mem, h.ses, h.cmds, h.lim, h.win, h.est, h.thm, h.unattended, h.rate, h.fw, h.acc, h.hub, h.obs,
   h.latches, h.held⟩

theorem Kept.set_raises {m : Nat} {b s : State} {x_raises} (hm : 0x80 &&& m = 0x80) (h : Kept m b s) :
    KeptMk m b s.regs s.staged s.now s.sky s.free s.tie s.otp s.out x_raises s.levels s.agents s.arb s.drp 
      s.rings s.halfReq s.rails s.avs s.lastInj s.ps s.hdg s.fab s.mem s.ses s.cmds s.lim s.win 
      s.est s.thm s.unattended s.rate s.fw s.acc s.hub s.obs s.latches s.held s.pending :=
  ⟨h.wf, h.reg, h.vaon, h.porst, h.tie, h.pending, h.outGrows, h.nowGrows, h.freeGrows, h.staged, h.now, h.sky,
   h.free, h.otp, h.out, fun e => absurd (Mask.testBit_of (k := 7) (Mask.trans (by decide) hm)) (by simp [e]),
   h.levels, h.agents, h.arb, h.drp, h.rings, h.halfReq, h.rails, h.avs, h.lastInj, h.ps, h.hdg, h.fab, h.mem,
   h.ses, h.cmds, h.lim, h.win, h.est, h.thm, h.unattended, h.rate, h.fw, h.acc, h.hub, h.obs, h.latches, h.held⟩

theorem Kept.set_levels {m : Nat} {b s : State} {x_levels} (hm : 0x100 &&& m = 0x100) (h : Kept m b s) :
    KeptMk m b s.regs s.staged s.now s.sky s.free s.tie s.otp s.out s.raises x_levels s.agents s.arb s.drp 
      s.rings s.halfReq s.rails s.avs s.lastInj s.ps s.hdg s.fab s.mem s.ses s.cmds s.lim s.win 
      s.est s.thm s.unattended s.rate s.fw s.acc s.hub s.obs s.latches s.held s.pending :=
  ⟨h.wf, h.reg, h.vaon, h.porst, h.tie, h.pending, h.outGrows, h.nowGrows, h.freeGrows, h.staged, h.now, h.sky,
   h.free, h.otp, h.out, h.raises, fun e => absurd (Mask.testBit_of (k := 8) (Mask.trans (by decide) hm)) (by
   simp [e]), h.agents, h.arb, h.drp, h.rings, h.halfReq, h.rails, h.avs, h.lastInj, h.ps, h.hdg, h.fab, h.mem,
   h.ses, h.cmds, h.lim, h.win, h.est, h.thm, h.unattended, h.rate, h.fw, h.acc, h.hub, h.obs, h.latches, h.held⟩

theorem Kept.set_agents {m : Nat} {b s : State} {x_agents} (hm : 0x200 &&& m = 0x200) (h : Kept m b s) :
    KeptMk m b s.regs s.staged s.now s.sky s.free s.tie s.otp s.out s.raises s.levels x_agents s.arb s.drp 
      s.rings s.halfReq s.rails s.avs s.lastInj s.ps s.hdg s.fab s.mem s.ses s.cmds s.lim s.win 
      s.est s.thm s.unattended s.rate s.fw s.acc s.hub s.obs s.latches s.held s.pending :=
  ⟨h.wf, h.reg, h.vaon, h.porst, h.tie, h.pending, h.outGrows, h.nowGrows, h.freeGrows, h.staged, h.now, h.sky,
   h.free, h.otp, h.out, h.raises, h.levels, fun e => absurd (Mask.testBit_of (k := 9) (Mask.trans (by decide)
   hm)) (by simp [e]), h.arb, h.drp, h.rings, h.halfReq, h.rails, h.avs, h.lastInj, h.ps, h.hdg, h.fab, h.mem,
   h.ses, h.cmds, h.lim, h.win, h.est, h.thm, h.unattended, h.rate, h.fw, h.acc, h.hub, h.obs, h.latches, h.held⟩

theorem Kept.set_arb {m : Nat} {b s : State} {x_arb} (hm : 0x400 &&& m = 0x400) (h : Kept m b s) :
    KeptMk m b s.regs s.staged s.now s.sky s.free s.tie s.otp s.out s.raises s.levels s.agents x_arb s.drp 
      s.rings s.halfReq s.rails s.avs s.lastInj s.ps s.hdg s.fab s.mem s.ses s.cmds s.lim s.win 
      s.est s.thm s.unattended s.rate s.fw s.acc s.hub s.obs s.latches s.held s.pending :=
  ⟨h.wf, h.reg, h.vaon, h.porst, h.tie, h.pending, h.outGrows, h.nowGrows, h.freeGrows, h.staged, h.now, h.sky,
   h.free, h.otp, h.out, h.raises, h.levels, h.agents, fun e => absurd (Mask.testBit_of (k := 10) (Mask.trans
   (by decide) hm)) (by simp [e]), h.drp, h.rings, h.halfReq, h.rails, h.avs, h.lastInj, h.ps, h.hdg, h.fab,
   h.mem, h.ses, h.cmds, h.lim, h.win, h.est, h.thm, h.unattended, h.rate, h.fw, h.acc, h.hub, h.obs, h.latches,
   h.held⟩

theorem Kept.set_drp {m : Nat} {b s : State} {x_drp} (hm : 0x800 &&& m = 0x800) (h : Kept m b s) :
    KeptMk m b s.regs s.staged s.now s.sky s.free s.tie s.otp s.out s.raises s.levels s.agents s.arb x_drp 
      s.rings s.halfReq s.rails s.avs s.lastInj s.ps s.hdg s.fab s.mem s.ses s.cmds s.lim s.win 
      s.est s.thm s.unattended s.rate s.fw s.acc s.hub s.obs s.latches s.held s.pending :=
  ⟨h.wf, h.reg, h.vaon, h.porst, h.tie, h.pending, h.outGrows, h.nowGrows, h.freeGrows, h.staged, h.now, h.sky,
   h.free, h.otp, h.out, h.raises, h.levels, h.agents, h.arb, fun e => absurd (Mask.testBit_of (k := 11)
   (Mask.trans (by decide) hm)) (by simp [e]), h.rings, h.halfReq, h.rails, h.avs, h.lastInj, h.ps, h.hdg,
   h.fab, h.mem, h.ses, h.cmds, h.lim, h.win, h.est, h.thm, h.unattended, h.rate, h.fw, h.acc, h.hub, h.obs,
   h.latches, h.held⟩

theorem Kept.set_rings {m : Nat} {b s : State} {x_rings} (hm : 0x1000 &&& m = 0x1000) (h : Kept m b s) :
    KeptMk m b s.regs s.staged s.now s.sky s.free s.tie s.otp s.out s.raises s.levels s.agents s.arb s.drp 
      x_rings s.halfReq s.rails s.avs s.lastInj s.ps s.hdg s.fab s.mem s.ses s.cmds s.lim s.win 
      s.est s.thm s.unattended s.rate s.fw s.acc s.hub s.obs s.latches s.held s.pending :=
  ⟨h.wf, h.reg, h.vaon, h.porst, h.tie, h.pending, h.outGrows, h.nowGrows, h.freeGrows, h.staged, h.now, h.sky,
   h.free, h.otp, h.out, h.raises, h.levels, h.agents, h.arb, h.drp, fun e => absurd (Mask.testBit_of (k := 12)
   (Mask.trans (by decide) hm)) (by simp [e]), h.halfReq, h.rails, h.avs, h.lastInj, h.ps, h.hdg, h.fab, h.mem,
   h.ses, h.cmds, h.lim, h.win, h.est, h.thm, h.unattended, h.rate, h.fw, h.acc, h.hub, h.obs, h.latches, h.held⟩

theorem Kept.set_halfReq {m : Nat} {b s : State} {x_halfReq} (hm : 0x2000 &&& m = 0x2000) (h : Kept m b s) :
    KeptMk m b s.regs s.staged s.now s.sky s.free s.tie s.otp s.out s.raises s.levels s.agents s.arb s.drp 
      s.rings x_halfReq s.rails s.avs s.lastInj s.ps s.hdg s.fab s.mem s.ses s.cmds s.lim s.win 
      s.est s.thm s.unattended s.rate s.fw s.acc s.hub s.obs s.latches s.held s.pending :=
  ⟨h.wf, h.reg, h.vaon, h.porst, h.tie, h.pending, h.outGrows, h.nowGrows, h.freeGrows, h.staged, h.now, h.sky,
   h.free, h.otp, h.out, h.raises, h.levels, h.agents, h.arb, h.drp, h.rings, fun e => absurd (Mask.testBit_of
   (k := 13) (Mask.trans (by decide) hm)) (by simp [e]), h.rails, h.avs, h.lastInj, h.ps, h.hdg, h.fab, h.mem,
   h.ses, h.cmds, h.lim, h.win, h.est, h.thm, h.unattended, h.rate, h.fw, h.acc, h.hub, h.obs, h.latches, h.held⟩

theorem Kept.set_rails {m : Nat} {b s : State} {x_rails} (hm : 0x4000 &&& m = 0x4000) (h : Kept m b s) :
    KeptMk m b s.regs s.staged s.now s.sky s.free s.tie s.otp s.out s.raises s.levels s.agents s.arb s.drp 
      s.rings s.halfReq x_rails s.avs s.lastInj s.ps s.hdg s.fab s.mem s.ses s.cmds s.lim s.win 
      s.est s.thm s.unattended s.rate s.fw s.acc s.hub s.obs s.latches s.held s.pending :=
  ⟨h.wf, h.reg, h.vaon, h.porst, h.tie, h.pending, h.outGrows, h.nowGrows, h.freeGrows, h.staged, h.now, h.sky,
   h.free, h.otp, h.out, h.raises, h.levels, h.agents, h.arb, h.drp, h.rings, h.halfReq, fun e => absurd
   (Mask.testBit_of (k := 14) (Mask.trans (by decide) hm)) (by simp [e]), h.avs, h.lastInj, h.ps, h.hdg, h.fab,
   h.mem, h.ses, h.cmds, h.lim, h.win, h.est, h.thm, h.unattended, h.rate, h.fw, h.acc, h.hub, h.obs, h.latches,
   h.held⟩

theorem Kept.set_avs {m : Nat} {b s : State} {x_avs} (hm : 0x8000 &&& m = 0x8000) (h : Kept m b s) :
    KeptMk m b s.regs s.staged s.now s.sky s.free s.tie s.otp s.out s.raises s.levels s.agents s.arb s.drp 
      s.rings s.halfReq s.rails x_avs s.lastInj s.ps s.hdg s.fab s.mem s.ses s.cmds s.lim s.win 
      s.est s.thm s.unattended s.rate s.fw s.acc s.hub s.obs s.latches s.held s.pending :=
  ⟨h.wf, h.reg, h.vaon, h.porst, h.tie, h.pending, h.outGrows, h.nowGrows, h.freeGrows, h.staged, h.now, h.sky,
   h.free, h.otp, h.out, h.raises, h.levels, h.agents, h.arb, h.drp, h.rings, h.halfReq, h.rails, fun e =>
   absurd (Mask.testBit_of (k := 15) (Mask.trans (by decide) hm)) (by simp [e]), h.lastInj, h.ps, h.hdg, h.fab,
   h.mem, h.ses, h.cmds, h.lim, h.win, h.est, h.thm, h.unattended, h.rate, h.fw, h.acc, h.hub, h.obs, h.latches,
   h.held⟩

theorem Kept.set_lastInj {m : Nat} {b s : State} {x_lastInj} (hm : 0x10000 &&& m = 0x10000) (h : Kept m b s) :
    KeptMk m b s.regs s.staged s.now s.sky s.free s.tie s.otp s.out s.raises s.levels s.agents s.arb s.drp 
      s.rings s.halfReq s.rails s.avs x_lastInj s.ps s.hdg s.fab s.mem s.ses s.cmds s.lim s.win 
      s.est s.thm s.unattended s.rate s.fw s.acc s.hub s.obs s.latches s.held s.pending :=
  ⟨h.wf, h.reg, h.vaon, h.porst, h.tie, h.pending, h.outGrows, h.nowGrows, h.freeGrows, h.staged, h.now, h.sky,
   h.free, h.otp, h.out, h.raises, h.levels, h.agents, h.arb, h.drp, h.rings, h.halfReq, h.rails, h.avs, fun e
   => absurd (Mask.testBit_of (k := 16) (Mask.trans (by decide) hm)) (by simp [e]), h.ps, h.hdg, h.fab, h.mem,
   h.ses, h.cmds, h.lim, h.win, h.est, h.thm, h.unattended, h.rate, h.fw, h.acc, h.hub, h.obs, h.latches, h.held⟩

theorem Kept.set_ps {m : Nat} {b s : State} {x_ps} (hm : 0x20000 &&& m = 0x20000) (hv : x_ps.vaon = s.ps.vaon) (hp : x_ps.porst = s.ps.porst) (h : Kept m b s) :
    KeptMk m b s.regs s.staged s.now s.sky s.free s.tie s.otp s.out s.raises s.levels s.agents s.arb s.drp 
      s.rings s.halfReq s.rails s.avs s.lastInj x_ps s.hdg s.fab s.mem s.ses s.cmds s.lim s.win 
      s.est s.thm s.unattended s.rate s.fw s.acc s.hub s.obs s.latches s.held s.pending :=
  ⟨h.wf, h.reg, hv.trans h.vaon, hp.trans h.porst, h.tie, h.pending, h.outGrows, h.nowGrows, h.freeGrows,
   h.staged, h.now, h.sky, h.free, h.otp, h.out, h.raises, h.levels, h.agents, h.arb, h.drp, h.rings, h.halfReq,
   h.rails, h.avs, h.lastInj, fun e => absurd (Mask.testBit_of (k := 17) (Mask.trans (by decide) hm)) (by simp
   [e]), h.hdg, h.fab, h.mem, h.ses, h.cmds, h.lim, h.win, h.est, h.thm, h.unattended, h.rate, h.fw, h.acc,
   h.hub, h.obs, h.latches, h.held⟩

theorem Kept.set_hdg {m : Nat} {b s : State} {x_hdg} (hm : 0x40000 &&& m = 0x40000) (h : Kept m b s) :
    KeptMk m b s.regs s.staged s.now s.sky s.free s.tie s.otp s.out s.raises s.levels s.agents s.arb s.drp 
      s.rings s.halfReq s.rails s.avs s.lastInj s.ps x_hdg s.fab s.mem s.ses s.cmds s.lim s.win 
      s.est s.thm s.unattended s.rate s.fw s.acc s.hub s.obs s.latches s.held s.pending :=
  ⟨h.wf, h.reg, h.vaon, h.porst, h.tie, h.pending, h.outGrows, h.nowGrows, h.freeGrows, h.staged, h.now, h.sky,
   h.free, h.otp, h.out, h.raises, h.levels, h.agents, h.arb, h.drp, h.rings, h.halfReq, h.rails, h.avs,
   h.lastInj, h.ps, fun e => absurd (Mask.testBit_of (k := 18) (Mask.trans (by decide) hm)) (by simp [e]),
   h.fab, h.mem, h.ses, h.cmds, h.lim, h.win, h.est, h.thm, h.unattended, h.rate, h.fw, h.acc, h.hub, h.obs,
   h.latches, h.held⟩

theorem Kept.set_fab {m : Nat} {b s : State} {x_fab} (hm : 0x80000 &&& m = 0x80000) (h : Kept m b s) :
    KeptMk m b s.regs s.staged s.now s.sky s.free s.tie s.otp s.out s.raises s.levels s.agents s.arb s.drp 
      s.rings s.halfReq s.rails s.avs s.lastInj s.ps s.hdg x_fab s.mem s.ses s.cmds s.lim s.win 
      s.est s.thm s.unattended s.rate s.fw s.acc s.hub s.obs s.latches s.held s.pending :=
  ⟨h.wf, h.reg, h.vaon, h.porst, h.tie, h.pending, h.outGrows, h.nowGrows, h.freeGrows, h.staged, h.now, h.sky,
   h.free, h.otp, h.out, h.raises, h.levels, h.agents, h.arb, h.drp, h.rings, h.halfReq, h.rails, h.avs,
   h.lastInj, h.ps, h.hdg, fun e => absurd (Mask.testBit_of (k := 19) (Mask.trans (by decide) hm)) (by simp
   [e]), h.mem, h.ses, h.cmds, h.lim, h.win, h.est, h.thm, h.unattended, h.rate, h.fw, h.acc, h.hub, h.obs,
   h.latches, h.held⟩

theorem Kept.set_mem {m : Nat} {b s : State} {x_mem} (hm : 0x100000 &&& m = 0x100000) (h : Kept m b s) :
    KeptMk m b s.regs s.staged s.now s.sky s.free s.tie s.otp s.out s.raises s.levels s.agents s.arb s.drp 
      s.rings s.halfReq s.rails s.avs s.lastInj s.ps s.hdg s.fab x_mem s.ses s.cmds s.lim s.win 
      s.est s.thm s.unattended s.rate s.fw s.acc s.hub s.obs s.latches s.held s.pending :=
  ⟨h.wf, h.reg, h.vaon, h.porst, h.tie, h.pending, h.outGrows, h.nowGrows, h.freeGrows, h.staged, h.now, h.sky,
   h.free, h.otp, h.out, h.raises, h.levels, h.agents, h.arb, h.drp, h.rings, h.halfReq, h.rails, h.avs,
   h.lastInj, h.ps, h.hdg, h.fab, fun e => absurd (Mask.testBit_of (k := 20) (Mask.trans (by decide) hm)) (by
   simp [e]), h.ses, h.cmds, h.lim, h.win, h.est, h.thm, h.unattended, h.rate, h.fw, h.acc, h.hub, h.obs,
   h.latches, h.held⟩

theorem Kept.set_ses {m : Nat} {b s : State} {x_ses} (hm : 0x200000 &&& m = 0x200000) (h : Kept m b s) :
    KeptMk m b s.regs s.staged s.now s.sky s.free s.tie s.otp s.out s.raises s.levels s.agents s.arb s.drp 
      s.rings s.halfReq s.rails s.avs s.lastInj s.ps s.hdg s.fab s.mem x_ses s.cmds s.lim s.win 
      s.est s.thm s.unattended s.rate s.fw s.acc s.hub s.obs s.latches s.held s.pending :=
  ⟨h.wf, h.reg, h.vaon, h.porst, h.tie, h.pending, h.outGrows, h.nowGrows, h.freeGrows, h.staged, h.now, h.sky,
   h.free, h.otp, h.out, h.raises, h.levels, h.agents, h.arb, h.drp, h.rings, h.halfReq, h.rails, h.avs,
   h.lastInj, h.ps, h.hdg, h.fab, h.mem, fun e => absurd (Mask.testBit_of (k := 21) (Mask.trans (by decide) hm))
   (by simp [e]), h.cmds, h.lim, h.win, h.est, h.thm, h.unattended, h.rate, h.fw, h.acc, h.hub, h.obs,
   h.latches, h.held⟩

theorem Kept.set_cmds {m : Nat} {b s : State} {x_cmds} (hm : 0x400000 &&& m = 0x400000) (h : Kept m b s) :
    KeptMk m b s.regs s.staged s.now s.sky s.free s.tie s.otp s.out s.raises s.levels s.agents s.arb s.drp 
      s.rings s.halfReq s.rails s.avs s.lastInj s.ps s.hdg s.fab s.mem s.ses x_cmds s.lim s.win 
      s.est s.thm s.unattended s.rate s.fw s.acc s.hub s.obs s.latches s.held s.pending :=
  ⟨h.wf, h.reg, h.vaon, h.porst, h.tie, h.pending, h.outGrows, h.nowGrows, h.freeGrows, h.staged, h.now, h.sky,
   h.free, h.otp, h.out, h.raises, h.levels, h.agents, h.arb, h.drp, h.rings, h.halfReq, h.rails, h.avs,
   h.lastInj, h.ps, h.hdg, h.fab, h.mem, h.ses, fun e => absurd (Mask.testBit_of (k := 22) (Mask.trans (by
   decide) hm)) (by simp [e]), h.lim, h.win, h.est, h.thm, h.unattended, h.rate, h.fw, h.acc, h.hub, h.obs,
   h.latches, h.held⟩

theorem Kept.set_lim {m : Nat} {b s : State} {x_lim} (hm : 0x800000 &&& m = 0x800000) (h : Kept m b s) :
    KeptMk m b s.regs s.staged s.now s.sky s.free s.tie s.otp s.out s.raises s.levels s.agents s.arb s.drp 
      s.rings s.halfReq s.rails s.avs s.lastInj s.ps s.hdg s.fab s.mem s.ses s.cmds x_lim s.win 
      s.est s.thm s.unattended s.rate s.fw s.acc s.hub s.obs s.latches s.held s.pending :=
  ⟨h.wf, h.reg, h.vaon, h.porst, h.tie, h.pending, h.outGrows, h.nowGrows, h.freeGrows, h.staged, h.now, h.sky,
   h.free, h.otp, h.out, h.raises, h.levels, h.agents, h.arb, h.drp, h.rings, h.halfReq, h.rails, h.avs,
   h.lastInj, h.ps, h.hdg, h.fab, h.mem, h.ses, h.cmds, fun e => absurd (Mask.testBit_of (k := 23) (Mask.trans
   (by decide) hm)) (by simp [e]), h.win, h.est, h.thm, h.unattended, h.rate, h.fw, h.acc, h.hub, h.obs,
   h.latches, h.held⟩

theorem Kept.set_win {m : Nat} {b s : State} {x_win} (hm : 0x1000000 &&& m = 0x1000000) (h : Kept m b s) :
    KeptMk m b s.regs s.staged s.now s.sky s.free s.tie s.otp s.out s.raises s.levels s.agents s.arb s.drp 
      s.rings s.halfReq s.rails s.avs s.lastInj s.ps s.hdg s.fab s.mem s.ses s.cmds s.lim x_win 
      s.est s.thm s.unattended s.rate s.fw s.acc s.hub s.obs s.latches s.held s.pending :=
  ⟨h.wf, h.reg, h.vaon, h.porst, h.tie, h.pending, h.outGrows, h.nowGrows, h.freeGrows, h.staged, h.now, h.sky,
   h.free, h.otp, h.out, h.raises, h.levels, h.agents, h.arb, h.drp, h.rings, h.halfReq, h.rails, h.avs,
   h.lastInj, h.ps, h.hdg, h.fab, h.mem, h.ses, h.cmds, h.lim, fun e => absurd (Mask.testBit_of (k := 24)
   (Mask.trans (by decide) hm)) (by simp [e]), h.est, h.thm, h.unattended, h.rate, h.fw, h.acc, h.hub, h.obs,
   h.latches, h.held⟩

theorem Kept.set_est {m : Nat} {b s : State} {x_est} (hm : 0x2000000 &&& m = 0x2000000) (h : Kept m b s) :
    KeptMk m b s.regs s.staged s.now s.sky s.free s.tie s.otp s.out s.raises s.levels s.agents s.arb s.drp 
      s.rings s.halfReq s.rails s.avs s.lastInj s.ps s.hdg s.fab s.mem s.ses s.cmds s.lim s.win 
      x_est s.thm s.unattended s.rate s.fw s.acc s.hub s.obs s.latches s.held s.pending :=
  ⟨h.wf, h.reg, h.vaon, h.porst, h.tie, h.pending, h.outGrows, h.nowGrows, h.freeGrows, h.staged, h.now, h.sky,
   h.free, h.otp, h.out, h.raises, h.levels, h.agents, h.arb, h.drp, h.rings, h.halfReq, h.rails, h.avs,
   h.lastInj, h.ps, h.hdg, h.fab, h.mem, h.ses, h.cmds, h.lim, h.win, fun e => absurd (Mask.testBit_of (k := 25)
   (Mask.trans (by decide) hm)) (by simp [e]), h.thm, h.unattended, h.rate, h.fw, h.acc, h.hub, h.obs,
   h.latches, h.held⟩

theorem Kept.set_thm {m : Nat} {b s : State} {x_thm} (hm : 0x4000000 &&& m = 0x4000000) (h : Kept m b s) :
    KeptMk m b s.regs s.staged s.now s.sky s.free s.tie s.otp s.out s.raises s.levels s.agents s.arb s.drp 
      s.rings s.halfReq s.rails s.avs s.lastInj s.ps s.hdg s.fab s.mem s.ses s.cmds s.lim s.win 
      s.est x_thm s.unattended s.rate s.fw s.acc s.hub s.obs s.latches s.held s.pending :=
  ⟨h.wf, h.reg, h.vaon, h.porst, h.tie, h.pending, h.outGrows, h.nowGrows, h.freeGrows, h.staged, h.now, h.sky,
   h.free, h.otp, h.out, h.raises, h.levels, h.agents, h.arb, h.drp, h.rings, h.halfReq, h.rails, h.avs,
   h.lastInj, h.ps, h.hdg, h.fab, h.mem, h.ses, h.cmds, h.lim, h.win, h.est, fun e => absurd (Mask.testBit_of (k
   := 26) (Mask.trans (by decide) hm)) (by simp [e]), h.unattended, h.rate, h.fw, h.acc, h.hub, h.obs,
   h.latches, h.held⟩

theorem Kept.set_unattended {m : Nat} {b s : State} {x_unattended} (hm : 0x8000000 &&& m = 0x8000000) (h : Kept m b s) :
    KeptMk m b s.regs s.staged s.now s.sky s.free s.tie s.otp s.out s.raises s.levels s.agents s.arb s.drp 
      s.rings s.halfReq s.rails s.avs s.lastInj s.ps s.hdg s.fab s.mem s.ses s.cmds s.lim s.win 
      s.est s.thm x_unattended s.rate s.fw s.acc s.hub s.obs s.latches s.held s.pending :=
  ⟨h.wf, h.reg, h.vaon, h.porst, h.tie, h.pending, h.outGrows, h.nowGrows, h.freeGrows, h.staged, h.now, h.sky,
   h.free, h.otp, h.out, h.raises, h.levels, h.agents, h.arb, h.drp, h.rings, h.halfReq, h.rails, h.avs,
   h.lastInj, h.ps, h.hdg, h.fab, h.mem, h.ses, h.cmds, h.lim, h.win, h.est, h.thm, fun e => absurd
   (Mask.testBit_of (k := 27) (Mask.trans (by decide) hm)) (by simp [e]), h.rate, h.fw, h.acc, h.hub, h.obs,
   h.latches, h.held⟩

theorem Kept.set_rate {m : Nat} {b s : State} {x_rate} (hm : 0x10000000 &&& m = 0x10000000) (h : Kept m b s) :
    KeptMk m b s.regs s.staged s.now s.sky s.free s.tie s.otp s.out s.raises s.levels s.agents s.arb s.drp 
      s.rings s.halfReq s.rails s.avs s.lastInj s.ps s.hdg s.fab s.mem s.ses s.cmds s.lim s.win 
      s.est s.thm s.unattended x_rate s.fw s.acc s.hub s.obs s.latches s.held s.pending :=
  ⟨h.wf, h.reg, h.vaon, h.porst, h.tie, h.pending, h.outGrows, h.nowGrows, h.freeGrows, h.staged, h.now, h.sky,
   h.free, h.otp, h.out, h.raises, h.levels, h.agents, h.arb, h.drp, h.rings, h.halfReq, h.rails, h.avs,
   h.lastInj, h.ps, h.hdg, h.fab, h.mem, h.ses, h.cmds, h.lim, h.win, h.est, h.thm, h.unattended, fun e =>
   absurd (Mask.testBit_of (k := 28) (Mask.trans (by decide) hm)) (by simp [e]), h.fw, h.acc, h.hub, h.obs,
   h.latches, h.held⟩

theorem Kept.set_fw {m : Nat} {b s : State} {x_fw} (hm : 0x20000000 &&& m = 0x20000000) (h : Kept m b s) :
    KeptMk m b s.regs s.staged s.now s.sky s.free s.tie s.otp s.out s.raises s.levels s.agents s.arb s.drp 
      s.rings s.halfReq s.rails s.avs s.lastInj s.ps s.hdg s.fab s.mem s.ses s.cmds s.lim s.win 
      s.est s.thm s.unattended s.rate x_fw s.acc s.hub s.obs s.latches s.held s.pending :=
  ⟨h.wf, h.reg, h.vaon, h.porst, h.tie, h.pending, h.outGrows, h.nowGrows, h.freeGrows, h.staged, h.now, h.sky,
   h.free, h.otp, h.out, h.raises, h.levels, h.agents, h.arb, h.drp, h.rings, h.halfReq, h.rails, h.avs,
   h.lastInj, h.ps, h.hdg, h.fab, h.mem, h.ses, h.cmds, h.lim, h.win, h.est, h.thm, h.unattended, h.rate, fun e
   => absurd (Mask.testBit_of (k := 29) (Mask.trans (by decide) hm)) (by simp [e]), h.acc, h.hub, h.obs,
   h.latches, h.held⟩

theorem Kept.set_acc {m : Nat} {b s : State} {x_acc} (hm : 0x40000000 &&& m = 0x40000000) (h : Kept m b s) :
    KeptMk m b s.regs s.staged s.now s.sky s.free s.tie s.otp s.out s.raises s.levels s.agents s.arb s.drp 
      s.rings s.halfReq s.rails s.avs s.lastInj s.ps s.hdg s.fab s.mem s.ses s.cmds s.lim s.win 
      s.est s.thm s.unattended s.rate s.fw x_acc s.hub s.obs s.latches s.held s.pending :=
  ⟨h.wf, h.reg, h.vaon, h.porst, h.tie, h.pending, h.outGrows, h.nowGrows, h.freeGrows, h.staged, h.now, h.sky,
   h.free, h.otp, h.out, h.raises, h.levels, h.agents, h.arb, h.drp, h.rings, h.halfReq, h.rails, h.avs,
   h.lastInj, h.ps, h.hdg, h.fab, h.mem, h.ses, h.cmds, h.lim, h.win, h.est, h.thm, h.unattended, h.rate, h.fw,
   fun e => absurd (Mask.testBit_of (k := 30) (Mask.trans (by decide) hm)) (by simp [e]), h.hub, h.obs,
   h.latches, h.held⟩

theorem Kept.set_hub {m : Nat} {b s : State} {x_hub} (hm : 0x80000000 &&& m = 0x80000000) (h : Kept m b s) :
    KeptMk m b s.regs s.staged s.now s.sky s.free s.tie s.otp s.out s.raises s.levels s.agents s.arb s.drp 
      s.rings s.halfReq s.rails s.avs s.lastInj s.ps s.hdg s.fab s.mem s.ses s.cmds s.lim s.win 
      s.est s.thm s.unattended s.rate s.fw s.acc x_hub s.obs s.latches s.held s.pending :=
  ⟨h.wf, h.reg, h.vaon, h.porst, h.tie, h.pending, h.outGrows, h.nowGrows, h.freeGrows, h.staged, h.now, h.sky,
   h.free, h.otp, h.out, h.raises, h.levels, h.agents, h.arb, h.drp, h.rings, h.halfReq, h.rails, h.avs,
   h.lastInj, h.ps, h.hdg, h.fab, h.mem, h.ses, h.cmds, h.lim, h.win, h.est, h.thm, h.unattended, h.rate, h.fw,
   h.acc, fun e => absurd (Mask.testBit_of (k := 31) (Mask.trans (by decide) hm)) (by simp [e]), h.obs,
   h.latches, h.held⟩

theorem Kept.set_obs {m : Nat} {b s : State} {x_obs} (hm : 0x100000000 &&& m = 0x100000000) (h : Kept m b s) :
    KeptMk m b s.regs s.staged s.now s.sky s.free s.tie s.otp s.out s.raises s.levels s.agents s.arb s.drp 
      s.rings s.halfReq s.rails s.avs s.lastInj s.ps s.hdg s.fab s.mem s.ses s.cmds s.lim s.win 
      s.est s.thm s.unattended s.rate s.fw s.acc s.hub x_obs s.latches s.held s.pending :=
  ⟨h.wf, h.reg, h.vaon, h.porst, h.tie, h.pending, h.outGrows, h.nowGrows, h.freeGrows, h.staged, h.now, h.sky,
   h.free, h.otp, h.out, h.raises, h.levels, h.agents, h.arb, h.drp, h.rings, h.halfReq, h.rails, h.avs,
   h.lastInj, h.ps, h.hdg, h.fab, h.mem, h.ses, h.cmds, h.lim, h.win, h.est, h.thm, h.unattended, h.rate, h.fw,
   h.acc, h.hub, fun e => absurd (Mask.testBit_of (k := 32) (Mask.trans (by decide) hm)) (by simp [e]),
   h.latches, h.held⟩

theorem Kept.set_latches {m : Nat} {b s : State} {x_latches} (hm : 0x200000000 &&& m = 0x200000000) (h : Kept m b s) :
    KeptMk m b s.regs s.staged s.now s.sky s.free s.tie s.otp s.out s.raises s.levels s.agents s.arb s.drp 
      s.rings s.halfReq s.rails s.avs s.lastInj s.ps s.hdg s.fab s.mem s.ses s.cmds s.lim s.win 
      s.est s.thm s.unattended s.rate s.fw s.acc s.hub s.obs x_latches s.held s.pending :=
  ⟨h.wf, h.reg, h.vaon, h.porst, h.tie, h.pending, h.outGrows, h.nowGrows, h.freeGrows, h.staged, h.now, h.sky,
   h.free, h.otp, h.out, h.raises, h.levels, h.agents, h.arb, h.drp, h.rings, h.halfReq, h.rails, h.avs,
   h.lastInj, h.ps, h.hdg, h.fab, h.mem, h.ses, h.cmds, h.lim, h.win, h.est, h.thm, h.unattended, h.rate, h.fw,
   h.acc, h.hub, h.obs, fun e => absurd (Mask.testBit_of (k := 33) (Mask.trans (by decide) hm)) (by simp [e]),
   h.held⟩

theorem Kept.set_held {m : Nat} {b s : State} {x_held} (hm : 0x400000000 &&& m = 0x400000000) (h : Kept m b s) :
    KeptMk m b s.regs s.staged s.now s.sky s.free s.tie s.otp s.out s.raises s.levels s.agents s.arb s.drp 
      s.rings s.halfReq s.rails s.avs s.lastInj s.ps s.hdg s.fab s.mem s.ses s.cmds s.lim s.win 
      s.est s.thm s.unattended s.rate s.fw s.acc s.hub s.obs s.latches x_held s.pending :=
  ⟨h.wf, h.reg, h.vaon, h.porst, h.tie, h.pending, h.outGrows, h.nowGrows, h.freeGrows, h.staged, h.now, h.sky,
   h.free, h.otp, h.out, h.raises, h.levels, h.agents, h.arb, h.drp, h.rings, h.halfReq, h.rails, h.avs,
   h.lastInj, h.ps, h.hdg, h.fab, h.mem, h.ses, h.cmds, h.lim, h.win, h.est, h.thm, h.unattended, h.rate, h.fw,
   h.acc, h.hub, h.obs, h.latches, fun e => absurd (Mask.testBit_of (k := 34) (Mask.trans (by decide) hm)) (by
   simp [e])⟩

theorem Kept.set_staged_hdg {m : Nat} {b s : State} {x_staged} {x_hdg} (hm : 0x40001 &&& m = 0x40001) (h : Kept m b s) :
    KeptMk m b s.regs x_staged s.now s.sky s.free s.tie s.otp s.out s.raises s.levels s.agents s.arb s.drp 
      s.rings s.halfReq s.rails s.avs s.lastInj s.ps x_hdg s.fab s.mem s.ses s.cmds s.lim s.win 
      s.est s.thm s.unattended s.rate s.fw s.acc s.hub s.obs s.latches s.held s.pending :=
  ⟨h.wf, h.reg, h.vaon, h.porst, h.tie, h.pending, h.outGrows, h.nowGrows, h.freeGrows, fun e => absurd
   (Mask.testBit_of (k := 0) (Mask.trans (by decide) hm)) (by simp [e]), h.now, h.sky, h.free, h.otp, h.out,
   h.raises, h.levels, h.agents, h.arb, h.drp, h.rings, h.halfReq, h.rails, h.avs, h.lastInj, h.ps, fun e =>
   absurd (Mask.testBit_of (k := 18) (Mask.trans (by decide) hm)) (by simp [e]), h.fab, h.mem, h.ses, h.cmds,
   h.lim, h.win, h.est, h.thm, h.unattended, h.rate, h.fw, h.acc, h.hub, h.obs, h.latches, h.held⟩

theorem Kept.set_sky_rings {m : Nat} {b s : State} {x_sky} {x_rings} (hm : 0x1004 &&& m = 0x1004) (h : Kept m b s) :
    KeptMk m b s.regs s.staged s.now x_sky s.free s.tie s.otp s.out s.raises s.levels s.agents s.arb s.drp 
      x_rings s.halfReq s.rails s.avs s.lastInj s.ps s.hdg s.fab s.mem s.ses s.cmds s.lim s.win 
      s.est s.thm s.unattended s.rate s.fw s.acc s.hub s.obs s.latches s.held s.pending :=
  ⟨h.wf, h.reg, h.vaon, h.porst, h.tie, h.pending, h.outGrows, h.nowGrows, h.freeGrows, h.staged, h.now, fun e
   => absurd (Mask.testBit_of (k := 2) (Mask.trans (by decide) hm)) (by simp [e]), h.free, h.otp, h.out,
   h.raises, h.levels, h.agents, h.arb, h.drp, fun e => absurd (Mask.testBit_of (k := 12) (Mask.trans (by
   decide) hm)) (by simp [e]), h.halfReq, h.rails, h.avs, h.lastInj, h.ps, h.hdg, h.fab, h.mem, h.ses, h.cmds,
   h.lim, h.win, h.est, h.thm, h.unattended, h.rate, h.fw, h.acc, h.hub, h.obs, h.latches, h.held⟩

theorem Kept.set_ses_unattended {m : Nat} {b s : State} {x_ses} {x_unattended} (hm : 0x8200000 &&& m = 0x8200000) (h : Kept m b s) :
    KeptMk m b s.regs s.staged s.now s.sky s.free s.tie s.otp s.out s.raises s.levels s.agents s.arb s.drp 
      s.rings s.halfReq s.rails s.avs s.lastInj s.ps s.hdg s.fab s.mem x_ses s.cmds s.lim s.win 
      s.est s.thm x_unattended s.rate s.fw s.acc s.hub s.obs s.latches s.held s.pending :=
  ⟨h.wf, h.reg, h.vaon, h.porst, h.tie, h.pending, h.outGrows, h.nowGrows, h.freeGrows, h.staged, h.now, h.sky,
   h.free, h.otp, h.out, h.raises, h.levels, h.agents, h.arb, h.drp, h.rings, h.halfReq, h.rails, h.avs,
   h.lastInj, h.ps, h.hdg, h.fab, h.mem, fun e => absurd (Mask.testBit_of (k := 21) (Mask.trans (by decide) hm))
   (by simp [e]), h.cmds, h.lim, h.win, h.est, h.thm, fun e => absurd (Mask.testBit_of (k := 27) (Mask.trans (by
   decide) hm)) (by simp [e]), h.rate, h.fw, h.acc, h.hub, h.obs, h.latches, h.held⟩

theorem Kept.set_ses_fw {m : Nat} {b s : State} {x_ses} {x_fw} (hm : 0x20200000 &&& m = 0x20200000) (h : Kept m b s) :
    KeptMk m b s.regs s.staged s.now s.sky s.free s.tie s.otp s.out s.raises s.levels s.agents s.arb s.drp 
      s.rings s.halfReq s.rails s.avs s.lastInj s.ps s.hdg s.fab s.mem x_ses s.cmds s.lim s.win 
      s.est s.thm s.unattended s.rate x_fw s.acc s.hub s.obs s.latches s.held s.pending :=
  ⟨h.wf, h.reg, h.vaon, h.porst, h.tie, h.pending, h.outGrows, h.nowGrows, h.freeGrows, h.staged, h.now, h.sky,
   h.free, h.otp, h.out, h.raises, h.levels, h.agents, h.arb, h.drp, h.rings, h.halfReq, h.rails, h.avs,
   h.lastInj, h.ps, h.hdg, h.fab, h.mem, fun e => absurd (Mask.testBit_of (k := 21) (Mask.trans (by decide) hm))
   (by simp [e]), h.cmds, h.lim, h.win, h.est, h.thm, h.unattended, h.rate, fun e => absurd (Mask.testBit_of (k
   := 29) (Mask.trans (by decide) hm)) (by simp [e]), h.acc, h.hub, h.obs, h.latches, h.held⟩

theorem Kept.set_ps_thm {m : Nat} {b s : State} {x_ps} {x_thm} (hm : 0x4020000 &&& m = 0x4020000) (hv : x_ps.vaon = s.ps.vaon) (hp : x_ps.porst = s.ps.porst) (h : Kept m b s) :
    KeptMk m b s.regs s.staged s.now s.sky s.free s.tie s.otp s.out s.raises s.levels s.agents s.arb s.drp 
      s.rings s.halfReq s.rails s.avs s.lastInj x_ps s.hdg s.fab s.mem s.ses s.cmds s.lim s.win 
      s.est x_thm s.unattended s.rate s.fw s.acc s.hub s.obs s.latches s.held s.pending :=
  ⟨h.wf, h.reg, hv.trans h.vaon, hp.trans h.porst, h.tie, h.pending, h.outGrows, h.nowGrows, h.freeGrows,
   h.staged, h.now, h.sky, h.free, h.otp, h.out, h.raises, h.levels, h.agents, h.arb, h.drp, h.rings, h.halfReq,
   h.rails, h.avs, h.lastInj, fun e => absurd (Mask.testBit_of (k := 17) (Mask.trans (by decide) hm)) (by simp
   [e]), h.hdg, h.fab, h.mem, h.ses, h.cmds, h.lim, h.win, h.est, fun e => absurd (Mask.testBit_of (k := 26)
   (Mask.trans (by decide) hm)) (by simp [e]), h.unattended, h.rate, h.fw, h.acc, h.hub, h.obs, h.latches,
   h.held⟩

theorem Kept.set_ps_fw {m : Nat} {b s : State} {x_ps} {x_fw} (hm : 0x20020000 &&& m = 0x20020000) (hv : x_ps.vaon = s.ps.vaon) (hp : x_ps.porst = s.ps.porst) (h : Kept m b s) :
    KeptMk m b s.regs s.staged s.now s.sky s.free s.tie s.otp s.out s.raises s.levels s.agents s.arb s.drp 
      s.rings s.halfReq s.rails s.avs s.lastInj x_ps s.hdg s.fab s.mem s.ses s.cmds s.lim s.win 
      s.est s.thm s.unattended s.rate x_fw s.acc s.hub s.obs s.latches s.held s.pending :=
  ⟨h.wf, h.reg, hv.trans h.vaon, hp.trans h.porst, h.tie, h.pending, h.outGrows, h.nowGrows, h.freeGrows,
   h.staged, h.now, h.sky, h.free, h.otp, h.out, h.raises, h.levels, h.agents, h.arb, h.drp, h.rings, h.halfReq,
   h.rails, h.avs, h.lastInj, fun e => absurd (Mask.testBit_of (k := 17) (Mask.trans (by decide) hm)) (by simp
   [e]), h.hdg, h.fab, h.mem, h.ses, h.cmds, h.lim, h.win, h.est, h.thm, h.unattended, h.rate, fun e => absurd
   (Mask.testBit_of (k := 29) (Mask.trans (by decide) hm)) (by simp [e]), h.acc, h.hub, h.obs, h.latches, h.held⟩

theorem Kept.set_levels_hub {m : Nat} {b s : State} {x_levels} {x_hub} (hm : 0x80000100 &&& m = 0x80000100) (h : Kept m b s) :
    KeptMk m b s.regs s.staged s.now s.sky s.free s.tie s.otp s.out s.raises x_levels s.agents s.arb s.drp 
      s.rings s.halfReq s.rails s.avs s.lastInj s.ps s.hdg s.fab s.mem s.ses s.cmds s.lim s.win 
      s.est s.thm s.unattended s.rate s.fw s.acc x_hub s.obs s.latches s.held s.pending :=
  ⟨h.wf, h.reg, h.vaon, h.porst, h.tie, h.pending, h.outGrows, h.nowGrows, h.freeGrows, h.staged, h.now, h.sky,
   h.free, h.otp, h.out, h.raises, fun e => absurd (Mask.testBit_of (k := 8) (Mask.trans (by decide) hm)) (by
   simp [e]), h.agents, h.arb, h.drp, h.rings, h.halfReq, h.rails, h.avs, h.lastInj, h.ps, h.hdg, h.fab, h.mem,
   h.ses, h.cmds, h.lim, h.win, h.est, h.thm, h.unattended, h.rate, h.fw, h.acc, fun e => absurd
   (Mask.testBit_of (k := 31) (Mask.trans (by decide) hm)) (by simp [e]), h.obs, h.latches, h.held⟩

theorem Kept.set_mem_obs {m : Nat} {b s : State} {x_mem} {x_obs} (hm : 0x100100000 &&& m = 0x100100000) (h : Kept m b s) :
    KeptMk m b s.regs s.staged s.now s.sky s.free s.tie s.otp s.out s.raises s.levels s.agents s.arb s.drp 
      s.rings s.halfReq s.rails s.avs s.lastInj s.ps s.hdg s.fab x_mem s.ses s.cmds s.lim s.win 
      s.est s.thm s.unattended s.rate s.fw s.acc s.hub x_obs s.latches s.held s.pending :=
  ⟨h.wf, h.reg, h.vaon, h.porst, h.tie, h.pending, h.outGrows, h.nowGrows, h.freeGrows, h.staged, h.now, h.sky,
   h.free, h.otp, h.out, h.raises, h.levels, h.agents, h.arb, h.drp, h.rings, h.halfReq, h.rails, h.avs,
   h.lastInj, h.ps, h.hdg, h.fab, fun e => absurd (Mask.testBit_of (k := 20) (Mask.trans (by decide) hm)) (by
   simp [e]), h.ses, h.cmds, h.lim, h.win, h.est, h.thm, h.unattended, h.rate, h.fw, h.acc, h.hub, fun e =>
   absurd (Mask.testBit_of (k := 32) (Mask.trans (by decide) hm)) (by simp [e]), h.latches, h.held⟩

theorem Kept.set_hdg_ses {m : Nat} {b s : State} {x_hdg} {x_ses} (hm : 0x240000 &&& m = 0x240000) (h : Kept m b s) :
    KeptMk m b s.regs s.staged s.now s.sky s.free s.tie s.otp s.out s.raises s.levels s.agents s.arb s.drp 
      s.rings s.halfReq s.rails s.avs s.lastInj s.ps x_hdg s.fab s.mem x_ses s.cmds s.lim s.win 
      s.est s.thm s.unattended s.rate s.fw s.acc s.hub s.obs s.latches s.held s.pending :=
  ⟨h.wf, h.reg, h.vaon, h.porst, h.tie, h.pending, h.outGrows, h.nowGrows, h.freeGrows, h.staged, h.now, h.sky,
   h.free, h.otp, h.out, h.raises, h.levels, h.agents, h.arb, h.drp, h.rings, h.halfReq, h.rails, h.avs,
   h.lastInj, h.ps, fun e => absurd (Mask.testBit_of (k := 18) (Mask.trans (by decide) hm)) (by simp [e]),
   h.fab, h.mem, fun e => absurd (Mask.testBit_of (k := 21) (Mask.trans (by decide) hm)) (by simp [e]), h.cmds,
   h.lim, h.win, h.est, h.thm, h.unattended, h.rate, h.fw, h.acc, h.hub, h.obs, h.latches, h.held⟩

theorem Kept.set_hdg_mem_ses_cmds {m : Nat} {b s : State} {x_hdg} {x_mem} {x_ses} {x_cmds} (hm : 0x740000 &&& m = 0x740000) (h : Kept m b s) :
    KeptMk m b s.regs s.staged s.now s.sky s.free s.tie s.otp s.out s.raises s.levels s.agents s.arb s.drp 
      s.rings s.halfReq s.rails s.avs s.lastInj s.ps x_hdg s.fab x_mem x_ses x_cmds s.lim s.win 
      s.est s.thm s.unattended s.rate s.fw s.acc s.hub s.obs s.latches s.held s.pending :=
  ⟨h.wf, h.reg, h.vaon, h.porst, h.tie, h.pending, h.outGrows, h.nowGrows, h.freeGrows, h.staged, h.now, h.sky,
   h.free, h.otp, h.out, h.raises, h.levels, h.agents, h.arb, h.drp, h.rings, h.halfReq, h.rails, h.avs,
   h.lastInj, h.ps, fun e => absurd (Mask.testBit_of (k := 18) (Mask.trans (by decide) hm)) (by simp [e]),
   h.fab, fun e => absurd (Mask.testBit_of (k := 20) (Mask.trans (by decide) hm)) (by simp [e]), fun e => absurd
   (Mask.testBit_of (k := 21) (Mask.trans (by decide) hm)) (by simp [e]), fun e => absurd (Mask.testBit_of (k :=
   22) (Mask.trans (by decide) hm)) (by simp [e]), h.lim, h.win, h.est, h.thm, h.unattended, h.rate, h.fw,
   h.acc, h.hub, h.obs, h.latches, h.held⟩

theorem Kept.set_est_thm {m : Nat} {b s : State} {x_est} {x_thm} (hm : 0x6000000 &&& m = 0x6000000) (h : Kept m b s) :
    KeptMk m b s.regs s.staged s.now s.sky s.free s.tie s.otp s.out s.raises s.levels s.agents s.arb s.drp 
      s.rings s.halfReq s.rails s.avs s.lastInj s.ps s.hdg s.fab s.mem s.ses s.cmds s.lim s.win 
      x_est x_thm s.unattended s.rate s.fw s.acc s.hub s.obs s.latches s.held s.pending :=
  ⟨h.wf, h.reg, h.vaon, h.porst, h.tie, h.pending, h.outGrows, h.nowGrows, h.freeGrows, h.staged, h.now, h.sky,
   h.free, h.otp, h.out, h.raises, h.levels, h.agents, h.arb, h.drp, h.rings, h.halfReq, h.rails, h.avs,
   h.lastInj, h.ps, h.hdg, h.fab, h.mem, h.ses, h.cmds, h.lim, h.win, fun e => absurd (Mask.testBit_of (k := 25)
   (Mask.trans (by decide) hm)) (by simp [e]), fun e => absurd (Mask.testBit_of (k := 26) (Mask.trans (by
   decide) hm)) (by simp [e]), h.unattended, h.rate, h.fw, h.acc, h.hub, h.obs, h.latches, h.held⟩

theorem Kept.set_cmds_fw {m : Nat} {b s : State} {x_cmds} {x_fw} (hm : 0x20400000 &&& m = 0x20400000) (h : Kept m b s) :
    KeptMk m b s.regs s.staged s.now s.sky s.free s.tie s.otp s.out s.raises s.levels s.agents s.arb s.drp 
      s.rings s.halfReq s.rails s.avs s.lastInj s.ps s.hdg s.fab s.mem s.ses x_cmds s.lim s.win 
      s.est s.thm s.unattended s.rate x_fw s.acc s.hub s.obs s.latches s.held s.pending :=
  ⟨h.wf, h.reg, h.vaon, h.porst, h.tie, h.pending, h.outGrows, h.nowGrows, h.freeGrows, h.staged, h.now, h.sky,
   h.free, h.otp, h.out, h.raises, h.levels, h.agents, h.arb, h.drp, h.rings, h.halfReq, h.rails, h.avs,
   h.lastInj, h.ps, h.hdg, h.fab, h.mem, h.ses, fun e => absurd (Mask.testBit_of (k := 22) (Mask.trans (by
   decide) hm)) (by simp [e]), h.lim, h.win, h.est, h.thm, h.unattended, h.rate, fun e => absurd
   (Mask.testBit_of (k := 29) (Mask.trans (by decide) hm)) (by simp [e]), h.acc, h.hub, h.obs, h.latches, h.held⟩

theorem Kept.set_avs_ps_est {m : Nat} {b s : State} {x_avs} {x_ps} {x_est} (hm : 0x2028000 &&& m = 0x2028000) (hv : x_ps.vaon = s.ps.vaon) (hp : x_ps.porst = s.ps.porst) (h : Kept m b s) :
    KeptMk m b s.regs s.staged s.now s.sky s.free s.tie s.otp s.out s.raises s.levels s.agents s.arb s.drp 
      s.rings s.halfReq s.rails x_avs s.lastInj x_ps s.hdg s.fab s.mem s.ses s.cmds s.lim s.win 
      x_est s.thm s.unattended s.rate s.fw s.acc s.hub s.obs s.latches s.held s.pending :=
  ⟨h.wf, h.reg, hv.trans h.vaon, hp.trans h.porst, h.tie, h.pending, h.outGrows, h.nowGrows, h.freeGrows,
   h.staged, h.now, h.sky, h.free, h.otp, h.out, h.raises, h.levels, h.agents, h.arb, h.drp, h.rings, h.halfReq,
   h.rails, fun e => absurd (Mask.testBit_of (k := 15) (Mask.trans (by decide) hm)) (by simp [e]), h.lastInj,
   fun e => absurd (Mask.testBit_of (k := 17) (Mask.trans (by decide) hm)) (by simp [e]), h.hdg, h.fab, h.mem,
   h.ses, h.cmds, h.lim, h.win, fun e => absurd (Mask.testBit_of (k := 25) (Mask.trans (by decide) hm)) (by simp
   [e]), h.thm, h.unattended, h.rate, h.fw, h.acc, h.hub, h.obs, h.latches, h.held⟩

theorem Kept.set_arb_hdg {m : Nat} {b s : State} {x_arb} {x_hdg} (hm : 0x40400 &&& m = 0x40400) (h : Kept m b s) :
    KeptMk m b s.regs s.staged s.now s.sky s.free s.tie s.otp s.out s.raises s.levels s.agents x_arb s.drp 
      s.rings s.halfReq s.rails s.avs s.lastInj s.ps x_hdg s.fab s.mem s.ses s.cmds s.lim s.win 
      s.est s.thm s.unattended s.rate s.fw s.acc s.hub s.obs s.latches s.held s.pending :=
  ⟨h.wf, h.reg, h.vaon, h.porst, h.tie, h.pending, h.outGrows, h.nowGrows, h.freeGrows, h.staged, h.now, h.sky,
   h.free, h.otp, h.out, h.raises, h.levels, h.agents, fun e => absurd (Mask.testBit_of (k := 10) (Mask.trans
   (by decide) hm)) (by simp [e]), h.drp, h.rings, h.halfReq, h.rails, h.avs, h.lastInj, h.ps, fun e => absurd
   (Mask.testBit_of (k := 18) (Mask.trans (by decide) hm)) (by simp [e]), h.fab, h.mem, h.ses, h.cmds, h.lim,
   h.win, h.est, h.thm, h.unattended, h.rate, h.fw, h.acc, h.hub, h.obs, h.latches, h.held⟩

theorem Kept.set_arb_drp {m : Nat} {b s : State} {x_arb} {x_drp} (hm : 0xc00 &&& m = 0xc00) (h : Kept m b s) :
    KeptMk m b s.regs s.staged s.now s.sky s.free s.tie s.otp s.out s.raises s.levels s.agents x_arb x_drp 
      s.rings s.halfReq s.rails s.avs s.lastInj s.ps s.hdg s.fab s.mem s.ses s.cmds s.lim s.win 
      s.est s.thm s.unattended s.rate s.fw s.acc s.hub s.obs s.latches s.held s.pending :=
  ⟨h.wf, h.reg, h.vaon, h.porst, h.tie, h.pending, h.outGrows, h.nowGrows, h.freeGrows, h.staged, h.now, h.sky,
   h.free, h.otp, h.out, h.raises, h.levels, h.agents, fun e => absurd (Mask.testBit_of (k := 10) (Mask.trans
   (by decide) hm)) (by simp [e]), fun e => absurd (Mask.testBit_of (k := 11) (Mask.trans (by decide) hm)) (by
   simp [e]), h.rings, h.halfReq, h.rails, h.avs, h.lastInj, h.ps, h.hdg, h.fab, h.mem, h.ses, h.cmds, h.lim,
   h.win, h.est, h.thm, h.unattended, h.rate, h.fw, h.acc, h.hub, h.obs, h.latches, h.held⟩

theorem Kept.set_sky_arb_est_thm_obs {m : Nat} {b s : State} {x_sky} {x_arb} {x_est} {x_thm} {x_obs} (hm : 0x106000404 &&& m = 0x106000404) (h : Kept m b s) :
    KeptMk m b s.regs s.staged s.now x_sky s.free s.tie s.otp s.out s.raises s.levels s.agents x_arb s.drp 
      s.rings s.halfReq s.rails s.avs s.lastInj s.ps s.hdg s.fab s.mem s.ses s.cmds s.lim s.win 
      x_est x_thm s.unattended s.rate s.fw s.acc s.hub x_obs s.latches s.held s.pending :=
  ⟨h.wf, h.reg, h.vaon, h.porst, h.tie, h.pending, h.outGrows, h.nowGrows, h.freeGrows, h.staged, h.now, fun e
   => absurd (Mask.testBit_of (k := 2) (Mask.trans (by decide) hm)) (by simp [e]), h.free, h.otp, h.out,
   h.raises, h.levels, h.agents, fun e => absurd (Mask.testBit_of (k := 10) (Mask.trans (by decide) hm)) (by
   simp [e]), h.drp, h.rings, h.halfReq, h.rails, h.avs, h.lastInj, h.ps, h.hdg, h.fab, h.mem, h.ses, h.cmds,
   h.lim, h.win, fun e => absurd (Mask.testBit_of (k := 25) (Mask.trans (by decide) hm)) (by simp [e]), fun e =>
   absurd (Mask.testBit_of (k := 26) (Mask.trans (by decide) hm)) (by simp [e]), h.unattended, h.rate, h.fw,
   h.acc, h.hub, fun e => absurd (Mask.testBit_of (k := 32) (Mask.trans (by decide) hm)) (by simp [e]),
   h.latches, h.held⟩

theorem Kept.set_avs_ps {m : Nat} {b s : State} {x_avs} {x_ps} (hm : 0x28000 &&& m = 0x28000) (hv : x_ps.vaon = s.ps.vaon) (hp : x_ps.porst = s.ps.porst) (h : Kept m b s) :
    KeptMk m b s.regs s.staged s.now s.sky s.free s.tie s.otp s.out s.raises s.levels s.agents s.arb s.drp
      s.rings s.halfReq s.rails x_avs s.lastInj x_ps s.hdg s.fab s.mem s.ses s.cmds s.lim s.win s.est s.thm
      s.unattended s.rate s.fw s.acc s.hub s.obs s.latches s.held s.pending :=
  ⟨h.wf, h.reg, hv.trans h.vaon, hp.trans h.porst, h.tie, h.pending, h.outGrows, h.nowGrows, h.freeGrows,
   h.staged, h.now, h.sky, h.free, h.otp, h.out, h.raises, h.levels, h.agents, h.arb, h.drp, h.rings,
   h.halfReq, h.rails, fun e => absurd (Mask.testBit_of (k := 15) (Mask.trans (by decide) hm)) (by simp [e]),
   h.lastInj, fun e => absurd (Mask.testBit_of (k := 17) (Mask.trans (by decide) hm)) (by simp [e]), h.hdg,
   h.fab, h.mem, h.ses, h.cmds, h.lim, h.win, h.est, h.thm, h.unattended, h.rate, h.fw, h.acc, h.hub, h.obs,
   h.latches, h.held⟩

theorem Kept.set_sky_ps_fw {m : Nat} {b s : State} {x_sky} {x_ps} {x_fw} (hm : 0x20020004 &&& m = 0x20020004) (hv : x_ps.vaon = s.ps.vaon) (hp : x_ps.porst = s.ps.porst) (h : Kept m b s) :
    KeptMk m b s.regs s.staged s.now x_sky s.free s.tie s.otp s.out s.raises s.levels s.agents s.arb s.drp
      s.rings s.halfReq s.rails s.avs s.lastInj x_ps s.hdg s.fab s.mem s.ses s.cmds s.lim s.win s.est s.thm
      s.unattended s.rate x_fw s.acc s.hub s.obs s.latches s.held s.pending :=
  ⟨h.wf, h.reg, hv.trans h.vaon, hp.trans h.porst, h.tie, h.pending, h.outGrows, h.nowGrows, h.freeGrows,
   h.staged, h.now, fun e => absurd (Mask.testBit_of (k := 2) (Mask.trans (by decide) hm)) (by simp [e]),
   h.free, h.otp, h.out, h.raises, h.levels, h.agents, h.arb, h.drp, h.rings, h.halfReq, h.rails, h.avs,
   h.lastInj, fun e => absurd (Mask.testBit_of (k := 17) (Mask.trans (by decide) hm)) (by simp [e]), h.hdg,
   h.fab, h.mem, h.ses, h.cmds, h.lim, h.win, h.est, h.thm, h.unattended, h.rate, fun e => absurd
   (Mask.testBit_of (k := 29) (Mask.trans (by decide) hm)) (by simp [e]), h.acc, h.hub, h.obs, h.latches,
   h.held⟩

theorem Kept.set_lim_thm {m : Nat} {b s : State} {x_lim} {x_thm} (hm : 0x4800000 &&& m = 0x4800000) (h : Kept m b s) :
    KeptMk m b s.regs s.staged s.now s.sky s.free s.tie s.otp s.out s.raises s.levels s.agents s.arb s.drp
      s.rings s.halfReq s.rails s.avs s.lastInj s.ps s.hdg s.fab s.mem s.ses s.cmds x_lim s.win s.est x_thm
      s.unattended s.rate s.fw s.acc s.hub s.obs s.latches s.held s.pending :=
  ⟨h.wf, h.reg, h.vaon, h.porst, h.tie, h.pending, h.outGrows, h.nowGrows, h.freeGrows, h.staged, h.now,
   h.sky, h.free, h.otp, h.out, h.raises, h.levels, h.agents, h.arb, h.drp, h.rings, h.halfReq, h.rails,
   h.avs, h.lastInj, h.ps, h.hdg, h.fab, h.mem, h.ses, h.cmds, fun e => absurd (Mask.testBit_of (k := 23)
   (Mask.trans (by decide) hm)) (by simp [e]), h.win, h.est, fun e => absurd (Mask.testBit_of (k := 26)
   (Mask.trans (by decide) hm)) (by simp [e]), h.unattended, h.rate, h.fw, h.acc, h.hub, h.obs, h.latches,
   h.held⟩

theorem Kept.set_hdg_ses_fw {m : Nat} {b s : State} {x_hdg} {x_ses} {x_fw} (hm : 0x20240000 &&& m = 0x20240000) (h : Kept m b s) :
    KeptMk m b s.regs s.staged s.now s.sky s.free s.tie s.otp s.out s.raises s.levels s.agents s.arb s.drp
      s.rings s.halfReq s.rails s.avs s.lastInj s.ps x_hdg s.fab s.mem x_ses s.cmds s.lim s.win s.est s.thm
      s.unattended s.rate x_fw s.acc s.hub s.obs s.latches s.held s.pending :=
  ⟨h.wf, h.reg, h.vaon, h.porst, h.tie, h.pending, h.outGrows, h.nowGrows, h.freeGrows, h.staged, h.now,
   h.sky, h.free, h.otp, h.out, h.raises, h.levels, h.agents, h.arb, h.drp, h.rings, h.halfReq, h.rails,
   h.avs, h.lastInj, h.ps, fun e => absurd (Mask.testBit_of (k := 18) (Mask.trans (by decide) hm)) (by simp
   [e]), h.fab, h.mem, fun e => absurd (Mask.testBit_of (k := 21) (Mask.trans (by decide) hm)) (by simp [e]),
   h.cmds, h.lim, h.win, h.est, h.thm, h.unattended, h.rate, fun e => absurd (Mask.testBit_of (k := 29)
   (Mask.trans (by decide) hm)) (by simp [e]), h.acc, h.hub, h.obs, h.latches, h.held⟩

theorem Kept.set_sky_arb_thm {m : Nat} {b s : State} {x_sky} {x_arb} {x_thm} (hm : 0x4000404 &&& m = 0x4000404) (h : Kept m b s) :
    KeptMk m b s.regs s.staged s.now x_sky s.free s.tie s.otp s.out s.raises s.levels s.agents x_arb s.drp
      s.rings s.halfReq s.rails s.avs s.lastInj s.ps s.hdg s.fab s.mem s.ses s.cmds s.lim s.win s.est x_thm
      s.unattended s.rate s.fw s.acc s.hub s.obs s.latches s.held s.pending :=
  ⟨h.wf, h.reg, h.vaon, h.porst, h.tie, h.pending, h.outGrows, h.nowGrows, h.freeGrows, h.staged, h.now, fun e
   => absurd (Mask.testBit_of (k := 2) (Mask.trans (by decide) hm)) (by simp [e]), h.free, h.otp, h.out,
   h.raises, h.levels, h.agents, fun e => absurd (Mask.testBit_of (k := 10) (Mask.trans (by decide) hm)) (by
   simp [e]), h.drp, h.rings, h.halfReq, h.rails, h.avs, h.lastInj, h.ps, h.hdg, h.fab, h.mem, h.ses, h.cmds,
   h.lim, h.win, h.est, fun e => absurd (Mask.testBit_of (k := 26) (Mask.trans (by decide) hm)) (by simp [e]),
   h.unattended, h.rate, h.fw, h.acc, h.hub, h.obs, h.latches, h.held⟩

theorem Kept.of {m : Nat} {b s : State}
    {a_regs a_staged a_now a_sky a_free a_tie a_otp a_out a_raises a_levels a_agents a_arb a_drp a_rings
    a_halfReq a_rails a_avs a_lastInj a_ps a_hdg a_fab a_mem a_ses a_cmds a_lim a_win a_est a_thm a_unattended
    a_rate a_fw a_acc a_hub a_obs a_latches a_held a_pending}
    (hpend : a_pending = s.pending) (hregs : a_regs = s.regs) (hv : a_ps.vaon = s.ps.vaon)
    (hp : a_ps.porst = s.ps.porst) (htie : a_tie = s.tie) (hnow : a_now = s.now) (hfree : a_free = s.free) (hout : a_out = s.out)
    (h_staged : a_staged = s.staged ∨ 0x1 &&& m = 0x1)
    (h_sky : a_sky = s.sky ∨ 0x4 &&& m = 0x4)
    (h_otp : a_otp = s.otp ∨ 0x20 &&& m = 0x20)
    (h_raises : a_raises = s.raises ∨ 0x80 &&& m = 0x80)
    (h_levels : a_levels = s.levels ∨ 0x100 &&& m = 0x100)
    (h_agents : a_agents = s.agents ∨ 0x200 &&& m = 0x200)
    (h_arb : a_arb = s.arb ∨ 0x400 &&& m = 0x400)
    (h_drp : a_drp = s.drp ∨ 0x800 &&& m = 0x800)
    (h_rings : a_rings = s.rings ∨ 0x1000 &&& m = 0x1000)
    (h_halfReq : a_halfReq = s.halfReq ∨ 0x2000 &&& m = 0x2000)
    (h_rails : a_rails = s.rails ∨ 0x4000 &&& m = 0x4000)
    (h_avs : a_avs = s.avs ∨ 0x8000 &&& m = 0x8000)
    (h_lastInj : a_lastInj = s.lastInj ∨ 0x10000 &&& m = 0x10000)
    (h_ps : a_ps = s.ps ∨ 0x20000 &&& m = 0x20000)
    (h_hdg : a_hdg = s.hdg ∨ 0x40000 &&& m = 0x40000)
    (h_fab : a_fab = s.fab ∨ 0x80000 &&& m = 0x80000)
    (h_mem : a_mem = s.mem ∨ 0x100000 &&& m = 0x100000)
    (h_ses : a_ses = s.ses ∨ 0x200000 &&& m = 0x200000)
    (h_cmds : a_cmds = s.cmds ∨ 0x400000 &&& m = 0x400000)
    (h_lim : a_lim = s.lim ∨ 0x800000 &&& m = 0x800000)
    (h_win : a_win = s.win ∨ 0x1000000 &&& m = 0x1000000)
    (h_est : a_est = s.est ∨ 0x2000000 &&& m = 0x2000000)
    (h_thm : a_thm = s.thm ∨ 0x4000000 &&& m = 0x4000000)
    (h_unattended : a_unattended = s.unattended ∨ 0x8000000 &&& m = 0x8000000)
    (h_rate : a_rate = s.rate ∨ 0x10000000 &&& m = 0x10000000)
    (h_fw : a_fw = s.fw ∨ 0x20000000 &&& m = 0x20000000)
    (h_acc : a_acc = s.acc ∨ 0x40000000 &&& m = 0x40000000)
    (h_hub : a_hub = s.hub ∨ 0x80000000 &&& m = 0x80000000)
    (h_obs : a_obs = s.obs ∨ 0x100000000 &&& m = 0x100000000)
    (h_latches : a_latches = s.latches ∨ 0x200000000 &&& m = 0x200000000)
    (h_held : a_held = s.held ∨ 0x400000000 &&& m = 0x400000000)
    (h : Kept m b s) :
    KeptMk m b a_regs a_staged a_now a_sky a_free a_tie a_otp a_out a_raises a_levels a_agents a_arb a_drp a_rings a_halfReq a_rails a_avs a_lastInj a_ps a_hdg a_fab a_mem a_ses a_cmds a_lim a_win a_est a_thm a_unattended a_rate a_fw a_acc a_hub a_obs a_latches a_held a_pending where
  wf hw := hregs ▸ h.wf hw
  reg off ho := by
    have := h.reg off ho
    simpa only [State.reg, hregs] using this
  vaon := hv.trans h.vaon
  porst := hp.trans h.porst
  tie := htie.trans h.tie
  pending := hpend.trans h.pending
  outGrows := hout ▸ h.outGrows
  nowGrows := hnow ▸ h.nowGrows
  freeGrows := hfree ▸ h.freeGrows
  staged e := h_staged.elim (fun q => q.trans (h.staged e)) (fun q => absurd (Mask.testBit_of (k := 0) q) (by simp [e]))
  now e := hnow.trans (h.now e)
  sky e := h_sky.elim (fun q => q.trans (h.sky e)) (fun q => absurd (Mask.testBit_of (k := 2) q) (by simp [e]))
  free e := hfree.trans (h.free e)
  otp e := h_otp.elim (fun q => q.trans (h.otp e)) (fun q => absurd (Mask.testBit_of (k := 5) q) (by simp [e]))
  out e := hout.trans (h.out e)
  raises e := h_raises.elim (fun q => q.trans (h.raises e)) (fun q => absurd (Mask.testBit_of (k := 7) q) (by simp [e]))
  levels e := h_levels.elim (fun q => q.trans (h.levels e)) (fun q => absurd (Mask.testBit_of (k := 8) q) (by simp [e]))
  agents e := h_agents.elim (fun q => q.trans (h.agents e)) (fun q => absurd (Mask.testBit_of (k := 9) q) (by simp [e]))
  arb e := h_arb.elim (fun q => q.trans (h.arb e)) (fun q => absurd (Mask.testBit_of (k := 10) q) (by simp [e]))
  drp e := h_drp.elim (fun q => q.trans (h.drp e)) (fun q => absurd (Mask.testBit_of (k := 11) q) (by simp [e]))
  rings e := h_rings.elim (fun q => q.trans (h.rings e)) (fun q => absurd (Mask.testBit_of (k := 12) q) (by simp [e]))
  halfReq e := h_halfReq.elim (fun q => q.trans (h.halfReq e)) (fun q => absurd (Mask.testBit_of (k := 13) q) (by simp [e]))
  rails e := h_rails.elim (fun q => q.trans (h.rails e)) (fun q => absurd (Mask.testBit_of (k := 14) q) (by simp [e]))
  avs e := h_avs.elim (fun q => q.trans (h.avs e)) (fun q => absurd (Mask.testBit_of (k := 15) q) (by simp [e]))
  lastInj e := h_lastInj.elim (fun q => q.trans (h.lastInj e)) (fun q => absurd (Mask.testBit_of (k := 16) q) (by simp [e]))
  ps e := h_ps.elim (fun q => q.trans (h.ps e)) (fun q => absurd (Mask.testBit_of (k := 17) q) (by simp [e]))
  hdg e := h_hdg.elim (fun q => q.trans (h.hdg e)) (fun q => absurd (Mask.testBit_of (k := 18) q) (by simp [e]))
  fab e := h_fab.elim (fun q => q.trans (h.fab e)) (fun q => absurd (Mask.testBit_of (k := 19) q) (by simp [e]))
  mem e := h_mem.elim (fun q => q.trans (h.mem e)) (fun q => absurd (Mask.testBit_of (k := 20) q) (by simp [e]))
  ses e := h_ses.elim (fun q => q.trans (h.ses e)) (fun q => absurd (Mask.testBit_of (k := 21) q) (by simp [e]))
  cmds e := h_cmds.elim (fun q => q.trans (h.cmds e)) (fun q => absurd (Mask.testBit_of (k := 22) q) (by simp [e]))
  lim e := h_lim.elim (fun q => q.trans (h.lim e)) (fun q => absurd (Mask.testBit_of (k := 23) q) (by simp [e]))
  win e := h_win.elim (fun q => q.trans (h.win e)) (fun q => absurd (Mask.testBit_of (k := 24) q) (by simp [e]))
  est e := h_est.elim (fun q => q.trans (h.est e)) (fun q => absurd (Mask.testBit_of (k := 25) q) (by simp [e]))
  thm e := h_thm.elim (fun q => q.trans (h.thm e)) (fun q => absurd (Mask.testBit_of (k := 26) q) (by simp [e]))
  unattended e := h_unattended.elim (fun q => q.trans (h.unattended e)) (fun q => absurd (Mask.testBit_of (k := 27) q) (by simp [e]))
  rate e := h_rate.elim (fun q => q.trans (h.rate e)) (fun q => absurd (Mask.testBit_of (k := 28) q) (by simp [e]))
  fw e := h_fw.elim (fun q => q.trans (h.fw e)) (fun q => absurd (Mask.testBit_of (k := 29) q) (by simp [e]))
  acc e := h_acc.elim (fun q => q.trans (h.acc e)) (fun q => absurd (Mask.testBit_of (k := 30) q) (by simp [e]))
  hub e := h_hub.elim (fun q => q.trans (h.hub e)) (fun q => absurd (Mask.testBit_of (k := 31) q) (by simp [e]))
  obs e := h_obs.elim (fun q => q.trans (h.obs e)) (fun q => absurd (Mask.testBit_of (k := 32) q) (by simp [e]))
  latches e := h_latches.elim (fun q => q.trans (h.latches e)) (fun q => absurd (Mask.testBit_of (k := 33) q) (by simp [e]))
  held e := h_held.elim (fun q => q.trans (h.held e)) (fun q => absurd (Mask.testBit_of (k := 34) q) (by simp [e]))

/-! ### Registers -/

theorem State.setReg_at {m : Nat} {b s : State} {off v : Nat} (p : Place) (hp : inPlace p off) (hm : p.bit &&& m = p.bit)
    (h : Kept m b s) : Kept m b (s.setReg off v) :=
  ⟨fun hb => SMap.wf_put _ _ _ _ (h.wf hb),
   fun o ho => (State.reg_setReg_other s off v o (fun e => ho p (Mask.testBit_of hm) (e ▸ hp))).trans (h.reg o ho),
   h.vaon, h.porst, h.tie, h.pending, h.outGrows, h.nowGrows, h.freeGrows,
   h.staged, h.now, h.sky, h.free, h.otp, h.out, h.raises, h.levels,
   h.agents, h.arb, h.drp, h.rings, h.halfReq, h.rails, h.avs, h.lastInj,
   h.ps, h.hdg, h.fab, h.mem, h.ses, h.cmds, h.lim, h.win,
   h.est, h.thm, h.unattended, h.rate, h.fw, h.acc, h.hub, h.obs,
   h.latches, h.held⟩

theorem State.setFld_at {m : Nat} {b s : State} {f : Fld} {v : Nat} (p : Place) (hp : inPlace p f.off) (hm : p.bit &&& m = p.bit)
    (h : Kept m b s) : Kept m b (s.setFld f v) := State.setReg_at p hp hm h

theorem State.setFlag_at {m : Nat} {b s : State} {f : Fld} {v : Bool} (p : Place) (hp : inPlace p f.off) (hm : p.bit &&& m = p.bit)
    (h : Kept m b s) : Kept m b (s.setFlag f v) := State.setFld_at p hp hm h

theorem State.incSat_at {m : Nat} {b s : State} {f : Fld} {n : Nat} (p : Place) (hp : inPlace p f.off) (hm : p.bit &&& m = p.bit)
    (h : Kept m b s) : Kept m b (s.incSat f n) := State.setFld_at p hp hm h

theorem State.setReg64_at {m : Nat} {b s : State} {off v : Nat} (p : Place) (hp : inPlace p off) (hq : inPlace p (off + 4))
    (hm : p.bit &&& m = p.bit) (h : Kept m b s) : Kept m b (s.setReg64 off v) :=
  State.setReg_at p hq hm (State.setReg_at p hp hm h)

/-! ### Operations that change the resets' levels -/

/-- What `t` carries over from `s` where the resets' levels may have changed: the invariant, and the places outside `m`. -/
structure Carried (m : Nat) (s t : State) : Prop where
  inv : s.Inv → t.Inv
  reg : ∀ off, (∀ p : Place, m.testBit p.ctorIdx = true → ¬ inPlace p off) → t.reg off = s.reg off
  tie : t.tie = s.tie
  pending : t.pending = s.pending
  outGrows : ∃ o, t.out = s.out ++ o
  nowGrows : s.now ≤ t.now
  freeGrows : s.free ≤ t.free
  staged : m.testBit 0 = false → t.staged = s.staged
  now : m.testBit 1 = false → t.now = s.now
  sky : m.testBit 2 = false → t.sky = s.sky
  free : m.testBit 3 = false → t.free = s.free
  otp : m.testBit 5 = false → t.otp = s.otp
  out : m.testBit 6 = false → t.out = s.out
  raises : m.testBit 7 = false → t.raises = s.raises
  levels : m.testBit 8 = false → t.levels = s.levels
  agents : m.testBit 9 = false → t.agents = s.agents
  arb : m.testBit 10 = false → t.arb = s.arb
  drp : m.testBit 11 = false → t.drp = s.drp
  rings : m.testBit 12 = false → t.rings = s.rings
  halfReq : m.testBit 13 = false → t.halfReq = s.halfReq
  rails : m.testBit 14 = false → t.rails = s.rails
  avs : m.testBit 15 = false → t.avs = s.avs
  lastInj : m.testBit 16 = false → t.lastInj = s.lastInj
  ps : m.testBit 17 = false → t.ps = s.ps
  hdg : m.testBit 18 = false → t.hdg = s.hdg
  fab : m.testBit 19 = false → t.fab = s.fab
  mem : m.testBit 20 = false → t.mem = s.mem
  ses : m.testBit 21 = false → t.ses = s.ses
  cmds : m.testBit 22 = false → t.cmds = s.cmds
  lim : m.testBit 23 = false → t.lim = s.lim
  win : m.testBit 24 = false → t.win = s.win
  est : m.testBit 25 = false → t.est = s.est
  thm : m.testBit 26 = false → t.thm = s.thm
  unattended : m.testBit 27 = false → t.unattended = s.unattended
  rate : m.testBit 28 = false → t.rate = s.rate
  fw : m.testBit 29 = false → t.fw = s.fw
  acc : m.testBit 30 = false → t.acc = s.acc
  hub : m.testBit 31 = false → t.hub = s.hub
  obs : m.testBit 32 = false → t.obs = s.obs
  latches : m.testBit 33 = false → t.latches = s.latches
  held : m.testBit 34 = false → t.held = s.held

theorem Carried.of_kept {m : Nat} {s t : State} (h : Kept m s t) : Carried m s t where
  inv hi := ⟨h.wf hi.1, fun hv => h.porst.trans (hi.2 (h.vaon.symm.trans hv))⟩
  reg := h.reg
  tie := h.tie
  pending := h.pending
  outGrows := h.outGrows
  nowGrows := h.nowGrows
  freeGrows := h.freeGrows
  staged := h.staged
  now := h.now
  sky := h.sky
  free := h.free
  otp := h.otp
  out := h.out
  raises := h.raises
  levels := h.levels
  agents := h.agents
  arb := h.arb
  drp := h.drp
  rings := h.rings
  halfReq := h.halfReq
  rails := h.rails
  avs := h.avs
  lastInj := h.lastInj
  ps := h.ps
  hdg := h.hdg
  fab := h.fab
  mem := h.mem
  ses := h.ses
  cmds := h.cmds
  lim := h.lim
  win := h.win
  est := h.est
  thm := h.thm
  unattended := h.unattended
  rate := h.rate
  fw := h.fw
  acc := h.acc
  hub := h.hub
  obs := h.obs
  latches := h.latches
  held := h.held

theorem Carried.trans {m : Nat} {s t u : State} (h : Carried m s t) (k : Carried m t u) : Carried m s u where
  inv hi := k.inv (h.inv hi)
  reg off ho := (k.reg off ho).trans (h.reg off ho)
  tie := k.tie.trans h.tie
  pending := k.pending.trans h.pending
  outGrows := by
    obtain ⟨o, ho⟩ := h.outGrows
    obtain ⟨q, hq⟩ := k.outGrows
    exact ⟨o ++ q, by rw [hq, ho, List.append_assoc]⟩
  nowGrows := h.nowGrows.trans k.nowGrows
  freeGrows := h.freeGrows.trans k.freeGrows
  staged e := (k.staged e).trans (h.staged e)
  now e := (k.now e).trans (h.now e)
  sky e := (k.sky e).trans (h.sky e)
  free e := (k.free e).trans (h.free e)
  otp e := (k.otp e).trans (h.otp e)
  out e := (k.out e).trans (h.out e)
  raises e := (k.raises e).trans (h.raises e)
  levels e := (k.levels e).trans (h.levels e)
  agents e := (k.agents e).trans (h.agents e)
  arb e := (k.arb e).trans (h.arb e)
  drp e := (k.drp e).trans (h.drp e)
  rings e := (k.rings e).trans (h.rings e)
  halfReq e := (k.halfReq e).trans (h.halfReq e)
  rails e := (k.rails e).trans (h.rails e)
  avs e := (k.avs e).trans (h.avs e)
  lastInj e := (k.lastInj e).trans (h.lastInj e)
  ps e := (k.ps e).trans (h.ps e)
  hdg e := (k.hdg e).trans (h.hdg e)
  fab e := (k.fab e).trans (h.fab e)
  mem e := (k.mem e).trans (h.mem e)
  ses e := (k.ses e).trans (h.ses e)
  cmds e := (k.cmds e).trans (h.cmds e)
  lim e := (k.lim e).trans (h.lim e)
  win e := (k.win e).trans (h.win e)
  est e := (k.est e).trans (h.est e)
  thm e := (k.thm e).trans (h.thm e)
  unattended e := (k.unattended e).trans (h.unattended e)
  rate e := (k.rate e).trans (h.rate e)
  fw e := (k.fw e).trans (h.fw e)
  acc e := (k.acc e).trans (h.acc e)
  hub e := (k.hub e).trans (h.hub e)
  obs e := (k.obs e).trans (h.obs e)
  latches e := (k.latches e).trans (h.latches e)
  held e := (k.held e).trans (h.held e)

/-- The levels of the resets as told, in line with R101. -/
theorem Carried.set_ps {m : Nat} {s : State} {x : Power} (hm : 0x20000 &&& m = 0x20000)
    (hx : s.heathFirst → x.vaon = false → x.porst = false) : Carried m s { s with ps := x } :=
  ⟨fun hi => ⟨hi.1, hx hi.2⟩, fun _ _ => rfl, rfl, rfl, ⟨[], by simp⟩, Nat.le_refl _, Nat.le_refl _, fun _ => rfl, fun _ => rfl, fun _ => rfl, fun _ => rfl, fun _ => rfl, fun _ => rfl, fun _ => rfl, fun _ =>
   rfl, fun _ => rfl, fun _ => rfl, fun _ => rfl, fun _ => rfl, fun _ => rfl, fun _ => rfl, fun _ => rfl, fun _
   => rfl, fun e => absurd (Mask.testBit_of (k := 17) (Mask.trans (by decide) hm)) (by simp [e]), fun _ => rfl,
   fun _ => rfl, fun _ => rfl, fun _ => rfl, fun _ => rfl, fun _ => rfl, fun _ => rfl, fun _ => rfl, fun _ =>
   rfl, fun _ => rfl, fun _ => rfl, fun _ => rfl, fun _ => rfl, fun _ => rfl, fun _ => rfl, fun _ => rfl, fun _
   => rfl⟩

theorem Carried.samePlace {m : Nat} {s t : State} (h : Carried m s t) (p : Place) (hb : m.testBit p.ctorIdx = false) :
    samePlace p s t := by
  cases p with
  | staged => exact h.staged hb
  | now => exact h.now hb
  | sky => exact h.sky hb
  | free => exact h.free hb
  | tie => exact h.tie
  | otp => exact h.otp hb
  | out => exact h.out hb
  | raises => exact h.raises hb
  | levels => exact h.levels hb
  | agents => exact h.agents hb
  | arb => exact h.arb hb
  | drp => exact h.drp hb
  | rings => exact h.rings hb
  | halfReq => exact h.halfReq hb
  | rails => exact h.rails hb
  | avs => exact h.avs hb
  | lastInj => exact h.lastInj hb
  | ps => exact h.ps hb
  | hdg => exact h.hdg hb
  | fab => exact h.fab hb
  | mem => exact h.mem hb
  | ses => exact h.ses hb
  | cmds => exact h.cmds hb
  | lim => exact h.lim hb
  | win => exact h.win hb
  | est => exact h.est hb
  | thm => exact h.thm hb
  | unattended => exact h.unattended hb
  | rate => exact h.rate hb
  | fw => exact h.fw hb
  | acc => exact h.acc hb
  | hub => exact h.hub hb
  | obs => exact h.obs hb
  | latches => exact h.latches hb
  | held => exact h.held hb
  | pending => exact h.pending
  | _ => exact trivial

/-- The mask of a list of places. -/
def placesMask (l : List Place) : Nat := l.foldr (fun p m => p.bit ||| m) 0

/-- The mask of a list of places; one that holds every register under one name holds each of them. -/
def placesWide (l : List Place) : Nat := if .anyReg ∈ l then placesMask l ||| 0xbffffffffffffffffffffffffffffffffffffffff000000000 else placesMask l

theorem Place.ctorIdx_inj (p q : Place) (h : p.ctorIdx = q.ctorIdx) : p = q := by
  have := congrArg Place.ofNat h
  rwa [Place.ofNat_ctorIdx, Place.ofNat_ctorIdx] at this

theorem mem_of_placesMask {l : List Place} {p : Place} (h : (placesMask l).testBit p.ctorIdx = true) : p ∈ l := by
  induction l with
  | nil => simp [placesMask] at h
  | cons q l ih =>
    simp only [placesMask, List.foldr_cons, Nat.testBit_or, Bool.or_eq_true, Place.bit, Nat.testBit_two_pow, decide_eq_true_eq] at h
    rcases h with h | h
    · exact List.mem_cons.2 (.inl (Place.ctorIdx_inj _ _ h.symm))
    · exact List.mem_cons.2 (.inr (ih h))

theorem samePlace_reg (p : Place) (hp : 36 ≤ p.ctorIdx) (s t : State) : samePlace p s t := by
  cases p <;> first | exact trivial | exact absurd hp (by decide)

/-- What the places of `l` carry over, in the words of the statements. -/
theorem Carried.changesOnly {s t : State} {l : List Place} (h : Carried (placesWide l) s t) : s.changesOnly l t := by
  refine ⟨fun p hp => ?_, fun off ho => ?_⟩
  · by_cases hr : 36 ≤ p.ctorIdx
    · exact samePlace_reg p hr s t
    · have hm : (placesMask l).testBit p.ctorIdx = false := by
        by_contra hc
        exact hp (mem_of_placesMask (by simpa using hc))
      have hk : ∀ k < 36, Nat.testBit 0xbffffffffffffffffffffffffffffffffffffffff000000000 k = false := by decide
      refine h.samePlace p ?_
      unfold placesWide
      split
      · rw [Nat.testBit_or, hm, hk _ (by omega)]; rfl
      · exact hm
  · by_cases ha : Place.anyReg ∈ l
    · exact absurd trivial (ho _ ha)
    · refine h.reg off (fun p hb => ho p ?_)
      rw [placesWide, if_neg ha] at hb
      exact mem_of_placesMask hb

end Sys2Proof.Machine
end

