-- ==== Sys2Proof/Laws/KeepsOps.lean ====
section
/-! SUPPORT. What each operation of Machine/Ops.lean keeps: every place outside its mask, the register store's form, the resets' levels,
the outputs so far, time and the queue. -/

namespace Sys2Proof.Machine

theorem State.setStaged_keeps (m : Nat) (s0 : State) (s : State) (off : Nat) (v : Nat) (hm : 0x1 &&& m = 0x1)
    (hk : Kept m s0 s) : Kept m s0 (State.setStaged s off v) := by
  unfold State.setStaged
  try dsimp only
  repeat' (first
    | with_reducible assumption
    | with_reducible apply Kept.ite
    | (simp only [Kept.made]; with_reducible refine Kept.set_staged (Mask.trans (by decide) hm) ?_)
    | split)

theorem State.setStagedFld_keeps (m : Nat) (s0 : State) (s : State) (f : Fld) (v : Nat) (hm : 0x1 &&& m = 0x1)
    (hk : Kept m s0 s) : Kept m s0 (State.setStagedFld s f v) := by
  unfold State.setStagedFld
  try dsimp only
  repeat' (first
    | with_reducible assumption
    | with_reducible refine State.setStaged_keeps _ _ _ _ _ (Mask.trans (by decide) hm) ?_)

theorem State.lingerFrom_keeps (m : Nat) (s0 : State) (s : State) (steward : Bool) (hm : 0x4 &&& m = 0x4)
    (hk : Kept m s0 s) : Kept m s0 (State.lingerFrom s steward) := by
  unfold State.lingerFrom
  try dsimp only
  repeat' (first
    | with_reducible assumption
    | with_reducible apply Kept.ite
    | (simp only [Kept.made]; with_reducible refine Kept.set_sky (Mask.trans (by decide) hm) ?_)
    | split)

theorem State.advance_keeps (m : Nat) (s0 : State) (s : State) (n : Nat) (hm : 0x6 &&& m = 0x6) (h : Kept m s0 s) :
    Kept m s0 (State.advance s n) :=
  { Kept.set_sky (x_sky := (s.advance n).sky) (Mask.trans (by decide) hm) h with
    nowGrows := Nat.le_trans h.nowGrows (Nat.le_add_right _ _)
    now := fun e => absurd (Mask.testBit_of (k := 1) (Mask.trans (by decide) hm)) (by simp [e]) }

theorem State.advanceTo_keeps (m : Nat) (s0 : State) (s : State) (t : Nat) (hm : 0x6 &&& m = 0x6)
    (hk : Kept m s0 s) : Kept m s0 (State.advanceTo s t) := by
  unfold State.advanceTo
  try dsimp only
  repeat' (first
    | with_reducible assumption
    | with_reducible refine State.advance_keeps _ _ _ _ (Mask.trans (by decide) hm) ?_)

theorem State.advanceSky_keeps (m : Nat) (s0 : State) (s : State) (t : Nat) (hm : 0x6 &&& m = 0x6)
    (hk : Kept m s0 s) : Kept m s0 (State.advanceSky s t) := by
  unfold State.advanceSky
  try dsimp only
  repeat' (first
    | with_reducible assumption
    | with_reducible apply Kept.ite
    | with_reducible refine State.advance_keeps _ _ _ _ (Mask.trans (by decide) hm) ?_
    | (simp only [Kept.made]; with_reducible refine Kept.set_sky (Mask.trans (by decide) hm) ?_))

theorem State.spendMany_keeps (m : Nat) (s0 : State) (s : State) (n : Nat) (hm : 0x8 &&& m = 0x8) (h : Kept m s0 s) :
    Kept m s0 { s with free := s.free + n } :=
  { h with
    freeGrows := Nat.le_trans h.freeGrows (Nat.le_add_right _ _)
    free := fun e => absurd (Mask.testBit_of (k := 3) (Mask.trans (by decide) hm)) (by simp [e]) }

theorem State.spent_keeps (m : Nat) (s0 : State) (s : State) (hm : 0x8 &&& m = 0x8) (h : Kept m s0 s) :
    Kept m s0 (State.spent s) := State.spendMany_keeps m s0 s 1 hm h

theorem State.spendN_keeps (m : Nat) (s0 s : State) (n : Nat) (hm : 0x8 &&& m = 0x8) (h : Kept m s0 s) :
    Kept m s0 (s.spendN n) := State.spendMany_keeps m s0 s n hm h

theorem State.emit_keeps (m : Nat) (s0 : State) (s : State) (o : Out) (hm : 0x40 &&& m = 0x40) (h : Kept m s0 s) :
    Kept m s0 (State.emit s o) :=
  { h with
    outGrows := by
      obtain ⟨os, ho⟩ := h.outGrows
      exact ⟨os ++ [o], by simp [State.emit, ho]⟩
    out := fun e => absurd (Mask.testBit_of (k := 6) (Mask.trans (by decide) hm)) (by simp [e]) }

theorem State.flashDo_keeps (m : Nat) (s0 : State) (s : State) (op : FlashOp) (hm : 0x40 &&& m = 0x40)
    (hk : Kept m s0 s) : Kept m s0 (State.flashDo s op) := by
  unfold State.flashDo
  try dsimp only
  repeat' (first
    | with_reducible assumption
    | with_reducible apply Kept.ite
    | with_reducible refine State.emit_keeps _ _ _ _ (Mask.trans (by decide) hm) ?_
    | split)

theorem State.raise_keeps (m : Nat) (s0 : State) (s : State) (src : Nat) (syn : Nat) (forced : Bool) (hm : 0x80 &&& m = 0x80)
    (hk : Kept m s0 s) : Kept m s0 (State.raise s src syn forced) := by
  unfold State.raise
  try dsimp only
  repeat' (first
    | with_reducible assumption
    | (simp only [Kept.made]; with_reducible refine Kept.set_raises (Mask.trans (by decide) hm) ?_))

theorem State.levelOn_keeps (m : Nat) (s0 : State) (s : State) (src : Nat) (syn : Nat) (hm : 0x80000180 &&& m = 0x80000180)
    (hk : Kept m s0 s) : Kept m s0 (State.levelOn s src syn) := by
  unfold State.levelOn
  try dsimp only
  repeat' (first
    | with_reducible assumption
    | with_reducible apply Kept.ite
    | with_reducible refine State.raise_keeps _ _ _ _ _ _ (Mask.trans (by decide) hm) ?_
    | (simp only [Kept.made]; with_reducible refine Kept.set_levels_hub (Mask.trans (by decide) hm) ?_))

theorem State.levelOff_keeps (m : Nat) (s0 : State) (s : State) (src : Nat) (hm : 0x80000100 &&& m = 0x80000100)
    (hk : Kept m s0 s) : Kept m s0 (State.levelOff s src) := by
  unfold State.levelOff
  try dsimp only
  repeat' (first
    | with_reducible assumption
    | (simp only [Kept.made]; with_reducible refine Kept.set_levels_hub (Mask.trans (by decide) hm) ?_))

theorem State.setAgent_keeps (m : Nat) (s0 : State) (s : State) (c : Nat) (a : Agent) (hm : 0x200 &&& m = 0x200)
    (hk : Kept m s0 s) : Kept m s0 (State.setAgent s c a) := by
  unfold State.setAgent
  try dsimp only
  repeat' (first
    | with_reducible assumption
    | (simp only [Kept.made]; with_reducible refine Kept.set_agents (Mask.trans (by decide) hm) ?_))

theorem State.settleRings_keeps (m : Nat) (s0 : State) (s : State) (hm : 0x1000000000000000000000000000000000000000000 &&& m = 0x1000000000000000000000000000000000000000000)
    (hk : Kept m s0 s) : Kept m s0 (State.settleRings s) := by
  unfold State.settleRings
  try dsimp only
  repeat' (first
    | with_reducible assumption
    | with_reducible apply Kept.ite
    | with_reducible refine State.setFld_at .RING_STATUS rfl (Mask.trans (by decide) hm) ?_)

theorem State.logAgent_keeps (m : Nat) (s0 : State) (s : State) (c : Nat) (type : Nat) (data : Nat) (hm : 0x1000000000000000000000000000000000000001000 &&& m = 0x1000000000000000000000000000000000000001000)
    (hk : Kept m s0 s) : Kept m s0 (State.logAgent s c type data) := by
  unfold State.logAgent
  try dsimp only
  repeat' (first
    | with_reducible assumption
    | with_reducible apply Kept.ite
    | with_reducible refine State.settleRings_keeps _ _ _ (Mask.trans (by decide) hm) ?_
    | (simp only [Kept.made]; with_reducible refine Kept.set_rings (Mask.trans (by decide) hm) ?_)
    | split)

theorem State.logArb_keeps (m : Nat) (s0 : State) (s : State) (type : Nat) (data : Nat) (hm : 0x1000000000000000000000000000000000000001000 &&& m = 0x1000000000000000000000000000000000000001000)
    (hk : Kept m s0 s) : Kept m s0 (State.logArb s type data) := by
  unfold State.logArb
  try dsimp only
  repeat' (first
    | with_reducible assumption
    | with_reducible apply Kept.ite
    | with_reducible refine State.settleRings_keeps _ _ _ (Mask.trans (by decide) hm) ?_
    | (simp only [Kept.made]; with_reducible refine Kept.set_rings (Mask.trans (by decide) hm) ?_)
    | split)

theorem State.logRail_keeps (m : Nat) (s0 : State) (s : State) (n : Nat) (type : Nat) (data : Nat) (hm : 0x1000000000000000000000000000000000000001000 &&& m = 0x1000000000000000000000000000000000000001000)
    (hk : Kept m s0 s) : Kept m s0 (State.logRail s n type data) := by
  unfold State.logRail
  try dsimp only
  repeat' (first
    | with_reducible assumption
    | with_reducible apply Kept.ite
    | with_reducible refine State.settleRings_keeps _ _ _ (Mask.trans (by decide) hm) ?_
    | (simp only [Kept.made]; with_reducible refine Kept.set_rings (Mask.trans (by decide) hm) ?_)
    | split)

theorem State.logSample_keeps (m : Nat) (s0 : State) (s : State) (x : RingEntry) (hm : 0x1000000000000000000000000000000000000001000 &&& m = 0x1000000000000000000000000000000000000001000)
    (hk : Kept m s0 s) : Kept m s0 (State.logSample s x) := by
  unfold State.logSample
  try dsimp only
  repeat' (first
    | with_reducible assumption
    | with_reducible apply Kept.ite
    | with_reducible refine State.settleRings_keeps _ _ _ (Mask.trans (by decide) hm) ?_
    | (simp only [Kept.made]; with_reducible refine Kept.set_rings (Mask.trans (by decide) hm) ?_)
    | split)

theorem State.triggered_keeps (m : Nat) (s0 s : State) (x : Rings) (src t : Nat) (hm : 0x3000000000000000000000000000000000000001000 &&& m = 0x3000000000000000000000000000000000000001000)
    (hk : Kept m s0 s) :
    Kept m s0 (({ s with rings := x } : State).setFld RING_STATUS.STATE 2 |>.setFld RING_STATUS.SOURCE src |>.setReg64
      (RING_TRIG_T 0) t).settleRings :=
  State.settleRings_keeps m _ _ (Mask.trans (by decide) hm) (State.setReg64_at .RING_TRIG_T ⟨0, rfl⟩ ⟨1, rfl⟩ (Mask.trans (by decide) hm)
    (State.setFld_at .RING_STATUS rfl (Mask.trans (by decide) hm) (State.setFld_at .RING_STATUS rfl (Mask.trans (by decide) hm) (Kept.set_rings (Mask.trans (by decide) hm) hk))))

theorem State.fireTrigger_keeps (m : Nat) (s0 s : State) (src share : Nat) (hm : 0x3000000000000000000000000000000000000001000 &&& m = 0x3000000000000000000000000000000000000001000)
    (hk : Kept m s0 s) : Kept m s0 (State.fireTrigger s src share) := by
  unfold State.fireTrigger
  exact Kept.ite (State.incSat_at .RING_STATUS rfl (Mask.trans (by decide) hm) hk) (State.triggered_keeps m s0 s _ src _ (Mask.trans (by decide) hm) hk)

theorem State.ringEvent_keeps (m : Nat) (s0 : State) (s : State) (src : Nat) (hm : 0x3000000000000000000000000000000000000001000 &&& m = 0x3000000000000000000000000000000000000001000)
    (hk : Kept m s0 s) : Kept m s0 (State.ringEvent s src) := by
  unfold State.ringEvent
  try dsimp only
  repeat' (first
    | with_reducible assumption
    | with_reducible apply Kept.ite
    | with_reducible refine State.fireTrigger_keeps _ _ _ _ _ (Mask.trans (by decide) hm) ?_
    | with_reducible refine State.incSat_at .RING_STATUS rfl (Mask.trans (by decide) hm) ?_)

end Sys2Proof.Machine
end

