-- ==== Sys2Proof/Laws/KeepsAdmission.lean ====
section
/-! SUPPORT. What each operation of Machine/Admission.lean keeps: every place outside its mask, the register store's form, the resets' levels,
the outputs so far, time and the queue. -/

namespace Sys2Proof.Machine

theorem State.shadowNow_keeps (m : Nat) (s0 : State) (s : State) (c : Nat) (hm : 0x81c00000000000000000000000000000000000000000000000 &&& m = 0x81c00000000000000000000000000000000000000000000000)
    (hk : Kept m s0 s) : Kept m s0 (State.shadowNow s c) := by
  unfold State.shadowNow
  try dsimp only
  repeat' (first
    | with_reducible assumption
    | with_reducible apply Kept.ite
    | with_reducible refine State.setReg_at .AGT_STATUS ⟨_, rfl⟩ (Mask.trans (by decide) hm) ?_
    | with_reducible refine State.setReg_at .AGT_ENG ⟨_, rfl⟩ (Mask.trans (by decide) hm) ?_
    | with_reducible refine State.setReg_at .AGT_LAST ⟨_, rfl⟩ (Mask.trans (by decide) hm) ?_
    | with_reducible refine State.setReg_at .AGT_RING_HEAD ⟨_, rfl⟩ (Mask.trans (by decide) hm) ?_
    | split)

theorem State.shadow_keeps (m : Nat) (s0 : State) (s : State) (c : Nat) (hm : 0x81c00000000000000000000000000000000000000000000000 &&& m = 0x81c00000000000000000000000000000000000000000000000)
    (hk : Kept m s0 s) : Kept m s0 (State.shadow s c) := by
  unfold State.shadow
  try dsimp only
  repeat' (first
    | with_reducible assumption
    | with_reducible apply Kept.ite
    | with_reducible refine State.shadowNow_keeps _ _ _ _ (Mask.trans (by decide) hm) ?_
    | split)

theorem State.sampleWait_keeps (m : Nat) (s0 : State) (s : State) (c : Nat) (e : Nat) (x : Engine) (start : Nat) (withdrawn : Bool) (viaArb : Bool) (hm : 0x1000000000000000000000000000000000000001008 &&& m = 0x1000000000000000000000000000000000000001008)
    (hk : Kept m s0 s) : Kept m s0 (State.sampleWait s c e x start withdrawn viaArb) := by
  unfold State.sampleWait
  try dsimp only
  repeat' (first
    | with_reducible assumption
    | with_reducible apply Kept.ite
    | with_reducible refine State.spent_keeps _ _ _ (Mask.trans (by decide) hm) ?_
    | with_reducible refine State.logSample_keeps _ _ _ _ (Mask.trans (by decide) hm) ?_
    | split)

theorem State.endWait_keeps (m : Nat) (s0 : State) (s : State) (c : Nat) (e : Nat) (withdrawn : Bool) (viaArb : Bool) (hm : 0x3000000000000000000000000000000000000001208 &&& m = 0x3000000000000000000000000000000000000001208)
    (hk : Kept m s0 s) : Kept m s0 (State.endWait s c e withdrawn viaArb) := by
  unfold State.endWait
  try dsimp only
  repeat' (first
    | with_reducible assumption
    | with_reducible apply Kept.ite
    | with_reducible refine State.setAgent_keeps _ _ _ _ _ (Mask.trans (by decide) hm) ?_
    | with_reducible refine State.sampleWait_keeps _ _ _ _ _ _ _ _ _ (Mask.trans (by decide) hm) ?_
    | with_reducible refine State.ringEvent_keeps _ _ _ _ (Mask.trans (by decide) hm) ?_
    | split)

theorem State.waitExceeds_keeps (m : Nat) (s0 : State) (s : State) (c : Nat) (e : Nat) (hm : 0x3000000000000000000000000000000000000001206 &&& m = 0x3000000000000000000000000000000000000001206)
    (hk : Kept m s0 s) : Kept m s0 (State.waitExceeds s c e) := by
  unfold State.waitExceeds
  try dsimp only
  repeat' (first
    | with_reducible assumption
    | with_reducible apply Kept.ite
    | with_reducible refine State.advanceTo_keeps _ _ _ _ (Mask.trans (by decide) hm) ?_
    | with_reducible refine State.setAgent_keeps _ _ _ _ _ (Mask.trans (by decide) hm) ?_
    | with_reducible refine State.ringEvent_keeps _ _ _ _ (Mask.trans (by decide) hm) ?_
    | split)

theorem State.classRise_keeps (m : Nat) (s0 : State) (s : State) (c : Nat) (e : Nat) (cls : Nat) (hm : 0x81c00003000000000000000000000000000000000000001208 &&& m = 0x81c00003000000000000000000000000000000000000001208)
    (hk : Kept m s0 s) : Kept m s0 (State.classRise s c e cls) := by
  unfold State.classRise
  try dsimp only
  repeat' (first
    | with_reducible assumption
    | with_reducible apply Kept.ite
    | with_reducible refine State.setAgent_keeps _ _ _ _ _ (Mask.trans (by decide) hm) ?_
    | with_reducible refine State.shadow_keeps _ _ _ _ (Mask.trans (by decide) hm) ?_
    | with_reducible refine State.endWait_keeps _ _ _ _ _ _ _ (Mask.trans (by decide) hm) ?_
    | with_reducible refine State.logAgent_keeps _ _ _ _ _ _ (Mask.trans (by decide) hm) ?_
    | split)

theorem State.classFall_keeps (m : Nat) (s0 : State) (s : State) (c : Nat) (e : Nat) (cls : Nat) (hm : 0x81c00003000000000000000000000000000000000000001208 &&& m = 0x81c00003000000000000000000000000000000000000001208)
    (hk : Kept m s0 s) : Kept m s0 (State.classFall s c e cls) := by
  unfold State.classFall
  try dsimp only
  repeat' (first
    | with_reducible assumption
    | with_reducible apply Kept.ite
    | with_reducible refine State.setAgent_keeps _ _ _ _ _ (Mask.trans (by decide) hm) ?_
    | with_reducible refine State.shadow_keeps _ _ _ _ (Mask.trans (by decide) hm) ?_
    | with_reducible refine State.endWait_keeps _ _ _ _ _ _ _ (Mask.trans (by decide) hm) ?_
    | with_reducible refine State.logAgent_keeps _ _ _ _ _ _ (Mask.trans (by decide) hm) ?_
    | split)

theorem State.heldExpiry_keeps (m : Nat) (s0 : State) (s : State) (c : Nat) (hm : 0x81c00000000000000000000000000000000000000000000206 &&& m = 0x81c00000000000000000000000000000000000000000000206)
    (hk : Kept m s0 s) : Kept m s0 (State.heldExpiry s c) := by
  unfold State.heldExpiry
  try dsimp only
  repeat' (first
    | with_reducible assumption
    | with_reducible refine State.advanceTo_keeps _ _ _ _ (Mask.trans (by decide) hm) ?_
    | with_reducible refine State.setAgent_keeps _ _ _ _ _ (Mask.trans (by decide) hm) ?_
    | with_reducible refine State.shadow_keeps _ _ _ _ (Mask.trans (by decide) hm) ?_
    | split)

theorem State.clusterIdle_keeps (m : Nat) (s0 : State) (s : State) (c : Nat) (hm : 0x81c00000000000000000000000000000000000000000000206 &&& m = 0x81c00000000000000000000000000000000000000000000206)
    (hk : Kept m s0 s) : Kept m s0 (State.clusterIdle s c) := by
  unfold State.clusterIdle
  try dsimp only
  repeat' (first
    | with_reducible assumption
    | with_reducible refine State.advanceTo_keeps _ _ _ _ (Mask.trans (by decide) hm) ?_
    | with_reducible refine State.setAgent_keeps _ _ _ _ _ (Mask.trans (by decide) hm) ?_
    | with_reducible refine State.shadow_keeps _ _ _ _ (Mask.trans (by decide) hm) ?_
    | split)

theorem State.dropGrants_keeps (m : Nat) (s0 : State) (s : State) (c : Nat) (clearReq : Bool) (hm : 0x200 &&& m = 0x200)
    (hk : Kept m s0 s) : Kept m s0 (State.dropGrants s c clearReq) := by
  unfold State.dropGrants
  try dsimp only
  repeat' (first
    | with_reducible assumption
    | with_reducible apply Kept.ite
    | with_reducible refine State.setAgent_keeps _ _ _ _ _ (Mask.trans (by decide) hm) ?_
    | split)

theorem State.reclaimArrives_keeps (m : Nat) (s0 : State) (s : State) (c : Nat) (hm : 0x81c00000000000000000000000000000000000000000000200 &&& m = 0x81c00000000000000000000000000000000000000000000200)
    (hk : Kept m s0 s) : Kept m s0 (State.reclaimArrives s c) := by
  unfold State.reclaimArrives
  try dsimp only
  repeat' (first
    | with_reducible assumption
    | with_reducible apply Kept.ite
    | with_reducible refine State.setAgent_keeps _ _ _ _ _ (Mask.trans (by decide) hm) ?_
    | with_reducible refine State.shadow_keeps _ _ _ _ (Mask.trans (by decide) hm) ?_)

theorem State.deliver_keeps (m : Nat) (s0 : State) (s : State) (c : Nat) (e : Nat) (hm : 0x81c00003000000000000000000000000000000000000001208 &&& m = 0x81c00003000000000000000000000000000000000000001208)
    (hk : Kept m s0 s) : Kept m s0 (State.deliver s c e) := by
  unfold State.deliver
  try dsimp only
  repeat' (first
    | with_reducible assumption
    | with_reducible apply Kept.ite
    | with_reducible refine State.setAgent_keeps _ _ _ _ _ (Mask.trans (by decide) hm) ?_
    | with_reducible refine State.endWait_keeps _ _ _ _ _ _ _ (Mask.trans (by decide) hm) ?_
    | with_reducible refine State.logAgent_keeps _ _ _ _ _ _ (Mask.trans (by decide) hm) ?_
    | with_reducible refine State.shadow_keeps _ _ _ _ (Mask.trans (by decide) hm) ?_
    | split)

theorem State.positionOpens_keeps (m : Nat) (s0 : State) (s : State) (pos : Nat) (hm : 0x800 &&& m = 0x800)
    (hk : Kept m s0 s) : Kept m s0 (State.positionOpens s pos) := by
  unfold State.positionOpens
  try dsimp only
  repeat' (first
    | with_reducible assumption
    | with_reducible apply Kept.ite
    | (simp only [Kept.made]; with_reducible refine Kept.set_drp (Mask.trans (by decide) hm) ?_))

theorem State.openNext_keeps (m : Nat) (s0 : State) (fuel : Nat) (s : State) (hm : 0xc00 &&& m = 0xc00) (h : Kept m s0 s) :
    Kept m s0 (State.openNext fuel s) := by
  induction fuel generalizing s with
  | zero => exact h
  | succ fuel ih =>
    have h1 := State.positionOpens_keeps m s0 { s with arb := { s.arb with open_ := s.arb.open_ + 1 } } s.arb.open_
      (Mask.trans (by decide) hm) (Kept.set_arb (Mask.trans (by decide) hm) h)
    simp only [State.openNext]
    split
    · exact h
    · split
      · exact ih _ h1
      · first | exact h1 | exact h

theorem State.skipAsleep_keeps (m : Nat) (s0 : State) (fuel : Nat) (s : State) (hm : 0xc00 &&& m = 0xc00) (h : Kept m s0 s) :
    Kept m s0 (State.skipAsleep fuel s) := by
  induction fuel generalizing s with
  | zero => exact h
  | succ fuel ih =>
    have h1 := State.positionOpens_keeps m s0 { s with arb := { s.arb with open_ := s.arb.open_ + 1 } } s.arb.open_
      (Mask.trans (by decide) hm) (Kept.set_arb (Mask.trans (by decide) hm) h)
    simp only [State.skipAsleep]
    split
    · exact h
    · split
      · exact ih _ h1
      · first | exact h1 | exact h

theorem State.startWave_keeps (m : Nat) (s0 : State) (s : State) (reserved : Nat) (hm : 0x1000000000000000000000000000000000000001c00 &&& m = 0x1000000000000000000000000000000000000001c00)
    (hk : Kept m s0 s) : Kept m s0 (State.startWave s reserved) := by
  unfold State.startWave
  try dsimp only
  repeat' (first
    | with_reducible assumption
    | with_reducible apply Kept.ite
    | with_reducible refine State.logArb_keeps _ _ _ _ _ (Mask.trans (by decide) hm) ?_
    | with_reducible refine State.skipAsleep_keeps _ _ _ _ (Mask.trans (by decide) hm) ?_
    | with_reducible refine State.openNext_keeps _ _ _ _ (Mask.trans (by decide) hm) ?_
    | (simp only [Kept.made]; with_reducible refine Kept.set_arb_drp (Mask.trans (by decide) hm) ?_)
    | split)

theorem State.checkWave_keeps (m : Nat) (s0 : State) (s : State) (hm : 0x1000000000000000000000000000000000000001c00 &&& m = 0x1000000000000000000000000000000000000001c00)
    (hk : Kept m s0 s) : Kept m s0 (State.checkWave s) := by
  unfold State.checkWave
  try dsimp only
  repeat' (first
    | with_reducible assumption
    | with_reducible apply Kept.ite
    | with_reducible refine State.startWave_keeps _ _ _ _ (Mask.trans (by decide) hm) ?_)

theorem State.checkWaveEnd_keeps (m : Nat) (s0 : State) (s : State) (hm : 0x1000000000000000000000000000000000000001400 &&& m = 0x1000000000000000000000000000000000000001400)
    (hk : Kept m s0 s) : Kept m s0 (State.checkWaveEnd s) := by
  unfold State.checkWaveEnd
  try dsimp only
  repeat' (first
    | with_reducible assumption
    | with_reducible apply Kept.ite
    | with_reducible refine State.logArb_keeps _ _ _ _ _ (Mask.trans (by decide) hm) ?_
    | (simp only [Kept.made]; with_reducible refine Kept.set_arb (Mask.trans (by decide) hm) ?_)
    | split)

theorem State.requestArrives_keeps (m : Nat) (s0 : State) (s : State) (c : Nat) (e : Nat) (hm : 0x1000000000000000000000000000000000000001e00 &&& m = 0x1000000000000000000000000000000000000001e00)
    (hk : Kept m s0 s) : Kept m s0 (State.requestArrives s c e) := by
  unfold State.requestArrives
  try dsimp only
  repeat' (first
    | with_reducible assumption
    | with_reducible apply Kept.ite
    | with_reducible refine State.setAgent_keeps _ _ _ _ _ (Mask.trans (by decide) hm) ?_
    | with_reducible refine State.checkWave_keeps _ _ _ (Mask.trans (by decide) hm) ?_
    | with_reducible refine State.checkWaveEnd_keeps _ _ _ (Mask.trans (by decide) hm) ?_
    | (simp only [Kept.made]; with_reducible refine Kept.set_arb (Mask.trans (by decide) hm) ?_)
    | split)

theorem State.lend_keeps (m : Nat) (s0 : State) (s : State) (l : Int) (hm : 0x200001000000000000000000000000000000000000001400 &&& m = 0x200001000000000000000000000000000000000000001400)
    (hk : Kept m s0 s) : Kept m s0 (State.lend s l) := by
  unfold State.lend
  try dsimp only
  repeat' (first
    | with_reducible assumption
    | with_reducible apply Kept.ite
    | with_reducible refine State.logArb_keeps _ _ _ _ _ (Mask.trans (by decide) hm) ?_
    | with_reducible refine State.incSat_at .STILE_CNT rfl (Mask.trans (by decide) hm) ?_
    | (simp only [Kept.made]; with_reducible refine Kept.set_arb (Mask.trans (by decide) hm) ?_)
    | split)

theorem State.setCause_keeps (m : Nat) (s0 : State) (s : State) (sl : ReqSlot) (back : Bool) (hm : 0x600 &&& m = 0x600)
    (hk : Kept m s0 s) : Kept m s0 (State.setCause s sl back) := by
  unfold State.setCause
  try dsimp only
  repeat' (first
    | with_reducible assumption
    | with_reducible refine State.setAgent_keeps _ _ _ _ _ (Mask.trans (by decide) hm) ?_
    | (simp only [Kept.made]; with_reducible refine Kept.set_arb (Mask.trans (by decide) hm) ?_))

theorem State.grantSlot_keeps (m : Nat) (s0 : State) (s : State) (sl : ReqSlot) (part : Nat) (rem : Nat) (hm : 0x1000000000000000000000000000000000000001600 &&& m = 0x1000000000000000000000000000000000000001600)
    (hk : Kept m s0 s) : Kept m s0 (State.grantSlot s sl part rem) := by
  unfold State.grantSlot
  try dsimp only
  repeat' (first
    | with_reducible assumption
    | with_reducible apply Kept.ite
    | with_reducible refine State.setAgent_keeps _ _ _ _ _ (Mask.trans (by decide) hm) ?_
    | with_reducible refine State.logArb_keeps _ _ _ _ _ (Mask.trans (by decide) hm) ?_
    | (simp only [Kept.made]; with_reducible refine Kept.set_arb (Mask.trans (by decide) hm) ?_)
    | split)

theorem State.trySlot_keeps (m : Nat) (s0 : State) (s : State) (sl : ReqSlot) (hm : 0x200001000000000000000000000000000000000000001600 &&& m = 0x200001000000000000000000000000000000000000001600)
    (hk : Kept m s0 s) : Kept m s0 (State.trySlot s sl).2 := by
  unfold State.trySlot
  try dsimp only
  repeat' (first
    | with_reducible assumption
    | with_reducible apply Kept.ite
    | with_reducible refine State.setCause_keeps _ _ _ _ _ (Mask.trans (by decide) hm) ?_
    | with_reducible refine State.grantSlot_keeps _ _ _ _ _ _ (Mask.trans (by decide) hm) ?_
    | with_reducible refine State.lend_keeps _ _ _ _ (Mask.trans (by decide) hm) ?_
    | dsimp only
    | split
    | dsimp only)

theorem State.scan_keeps (m : Nat) (s0 : State) (l : List ReqSlot) (n : Nat) (s : State) (hm : 0x200001000000000000000000000000000000000000001600 &&& m = 0x200001000000000000000000000000000000000000001600)
    (h : Kept m s0 s) : Kept m s0 (State.scan l n s).2.2 := by
  induction l generalizing n s with
  | nil => exact h
  | cons sl rest ih =>
    cases n with
    | zero => exact h
    | succ n =>
      have h1 := State.trySlot_keeps m s0 s sl (Mask.trans (by decide) hm) h
      simp only [State.scan]
      split
      · next e => rw [e] at h1; exact ih _ _ h1
      · next e => rw [e] at h1; exact h1
      · next e => rw [e] at h1; exact ih _ _ h1

theorem State.repay_keeps (m : Nat) (s0 : State) (s : State) (hm : 0x400 &&& m = 0x400)
    (hk : Kept m s0 s) : Kept m s0 (State.repay s) := by
  unfold State.repay
  try dsimp only
  repeat' (first
    | with_reducible assumption
    | with_reducible apply Kept.ite
    | (simp only [Kept.made]; with_reducible refine Kept.set_arb (Mask.trans (by decide) hm) ?_))

theorem State.halfTake_keeps (m : Nat) (s0 : State) (s : State) (h : Nat) (q : Nat) (hm : 0x200001000000000000000000000000000000000000001400 &&& m = 0x200001000000000000000000000000000000000000001400)
    (hk : Kept m s0 s) : Kept m s0 ((State.halfTake s h q).2) := by
  unfold State.halfTake
  try dsimp only
  repeat' (first
    | with_reducible assumption
    | with_reducible apply Kept.ite
    | with_reducible refine State.lend_keeps _ _ _ _ (Mask.trans (by decide) hm) ?_
    | dsimp only
    | split
    | dsimp only)

theorem State.fillResv_keeps (m : Nat) (s0 : State) (s : State) (r : Reservation) (hm : 0x200001000000000000000000000000000000000000001400 &&& m = 0x200001000000000000000000000000000000000000001400)
    (hk : Kept m s0 s) : Kept m s0 (State.fillResv s r) := by
  unfold State.fillResv
  try dsimp only
  repeat' (first
    | with_reducible assumption
    | with_reducible apply Kept.ite
    | with_reducible refine State.halfTake_keeps _ _ _ _ _ (Mask.trans (by decide) hm) ?_
    | (simp only [Kept.made]; with_reducible refine Kept.set_arb (Mask.trans (by decide) hm) ?_)
    | with_reducible refine Kept.each ?_ (fun _ _ _ => ?_)
    | simp only [id_eq]
    | split)

theorem State.frontClosed_keeps (m : Nat) (s0 : State) (s : State) (hm : 0x600 &&& m = 0x600)
    (hk : Kept m s0 s) : Kept m s0 (State.frontClosed s) := by
  unfold State.frontClosed
  try dsimp only
  repeat' (first
    | with_reducible assumption
    | with_reducible apply Kept.ite
    | with_reducible refine State.setCause_keeps _ _ _ _ _ (Mask.trans (by decide) hm) ?_
    | with_reducible refine Kept.each ?_ (fun _ _ _ => ?_)
    | split)

theorem State.endPass_keeps (m : Nat) (s0 : State) (s : State) (hm : 0x1000000000000000000000000000000000000001400 &&& m = 0x1000000000000000000000000000000000000001400)
    (hk : Kept m s0 s) : Kept m s0 (State.endPass s) := by
  unfold State.endPass
  try dsimp only
  repeat' (first
    | with_reducible assumption
    | with_reducible apply Kept.ite
    | with_reducible refine State.logArb_keeps _ _ _ _ _ (Mask.trans (by decide) hm) ?_
    | (simp only [Kept.made]; with_reducible refine Kept.set_arb (Mask.trans (by decide) hm) ?_)
    | split)

theorem State.arbiterCycle_keeps (m : Nat) (s0 : State) (s : State) (hm : 0x200001000000000000000000000000000000000000001e00 &&& m = 0x200001000000000000000000000000000000000000001e00)
    (hk : Kept m s0 s) : Kept m s0 (State.arbiterCycle s) := by
  unfold State.arbiterCycle
  try dsimp only
  repeat' (first
    | with_reducible assumption
    | with_reducible apply Kept.ite
    | with_reducible refine State.repay_keeps _ _ _ (Mask.trans (by decide) hm) ?_
    | with_reducible refine State.endPass_keeps _ _ _ (Mask.trans (by decide) hm) ?_
    | with_reducible refine State.checkWave_keeps _ _ _ (Mask.trans (by decide) hm) ?_
    | with_reducible refine State.frontClosed_keeps _ _ _ (Mask.trans (by decide) hm) ?_
    | with_reducible refine State.scan_keeps _ _ _ _ _ (Mask.trans (by decide) hm) ?_
    | with_reducible refine State.fillResv_keeps _ _ _ _ (Mask.trans (by decide) hm) ?_
    | with_reducible refine State.checkWaveEnd_keeps _ _ _ (Mask.trans (by decide) hm) ?_
    | with_reducible refine Kept.each ?_ (fun _ _ _ => ?_)
    | split)

theorem State.refill_keeps (m : Nat) (s0 : State) (s : State) (hm : 0x400 &&& m = 0x400)
    (hk : Kept m s0 s) : Kept m s0 (State.refill s) := by
  unfold State.refill
  try dsimp only
  repeat' (first
    | with_reducible assumption
    | with_reducible apply Kept.ite
    | (simp only [Kept.made]; with_reducible refine Kept.set_arb (Mask.trans (by decide) hm) ?_)
    | split)

theorem State.toStep_keeps (m : Nat) (s0 : State) (s : State) (last : Nat) (hm : 0x6 &&& m = 0x6)
    (hk : Kept m s0 s) : Kept m s0 (State.toStep s last) := by
  unfold State.toStep
  try dsimp only
  repeat' (first
    | with_reducible assumption
    | with_reducible refine State.advanceSky_keeps _ _ _ _ (Mask.trans (by decide) hm) ?_)

theorem State.stepBoundary_keeps (m : Nat) (s0 : State) (s : State) (hm : 0x1000000000000000000000000000000000000001c06 &&& m = 0x1000000000000000000000000000000000000001c06)
    (hk : Kept m s0 s) : Kept m s0 (State.stepBoundary s) := by
  unfold State.stepBoundary
  try dsimp only
  repeat' (first
    | with_reducible assumption
    | with_reducible apply Kept.ite
    | with_reducible refine State.toStep_keeps _ _ _ _ (Mask.trans (by decide) hm) ?_
    | with_reducible refine State.refill_keeps _ _ _ (Mask.trans (by decide) hm) ?_
    | with_reducible refine State.logArb_keeps _ _ _ _ _ (Mask.trans (by decide) hm) ?_
    | with_reducible refine State.skipAsleep_keeps _ _ _ _ (Mask.trans (by decide) hm) ?_
    | with_reducible refine State.openNext_keeps _ _ _ _ (Mask.trans (by decide) hm) ?_
    | (simp only [Kept.made]; with_reducible refine Kept.set_arb (Mask.trans (by decide) hm) ?_))

theorem State.reclaimStores_keeps (m : Nat) (s0 : State) (s : State) (hm : 0x600 &&& m = 0x600)
    (hk : Kept m s0 s) : Kept m s0 (State.reclaimStores s) := by
  unfold State.reclaimStores
  try dsimp only
  repeat' (first
    | with_reducible assumption
    | with_reducible apply Kept.ite
    | with_reducible refine State.setAgent_keeps _ _ _ _ _ (Mask.trans (by decide) hm) ?_
    | with_reducible refine Kept.each ?_ (fun _ _ _ => ?_)
    | (simp only [Kept.made]; with_reducible refine Kept.set_arb (Mask.trans (by decide) hm) ?_))

theorem State.revokeEngine_keeps (m : Nat) (s0 : State) (s : State) (c : Nat) (e : Nat) (hm : 0x81c00001000000000000000100000000000000000000001600 &&& m = 0x81c00001000000000000000100000000000000000000001600)
    (hk : Kept m s0 s) : Kept m s0 (State.revokeEngine s c e) := by
  unfold State.revokeEngine
  try dsimp only
  repeat' (first
    | with_reducible assumption
    | with_reducible apply Kept.ite
    | with_reducible refine State.setAgent_keeps _ _ _ _ _ (Mask.trans (by decide) hm) ?_
    | with_reducible refine State.logAgent_keeps _ _ _ _ _ _ (Mask.trans (by decide) hm) ?_
    | with_reducible refine State.shadow_keeps _ _ _ _ (Mask.trans (by decide) hm) ?_
    | with_reducible refine State.setFlag_at .ADM_STATUS rfl (Mask.trans (by decide) hm) ?_
    | (simp only [Kept.made]; with_reducible refine Kept.set_arb (Mask.trans (by decide) hm) ?_)
    | split)

theorem State.revokeKind_keeps (m : Nat) (s0 : State) (s : State) (k : Nat) (hm : 0x81c00001000000000000000100000000000000000000001600 &&& m = 0x81c00001000000000000000100000000000000000000001600)
    (hk : Kept m s0 s) : Kept m s0 (State.revokeKind s k) := by
  unfold State.revokeKind
  try dsimp only
  repeat' (first
    | with_reducible assumption
    | with_reducible apply Kept.ite
    | with_reducible refine State.revokeEngine_keeps _ _ _ _ _ (Mask.trans (by decide) hm) ?_
    | with_reducible refine Kept.each ?_ (fun _ _ _ => ?_))

theorem State.revocationCycle_keeps (m : Nat) (s0 : State) (s : State) (hm : 0x81c00003000000000000000100000000000000000000001e06 &&& m = 0x81c00003000000000000000100000000000000000000001e06)
    (hk : Kept m s0 s) : Kept m s0 (State.revocationCycle s) := by
  unfold State.revocationCycle
  try dsimp only
  repeat' (first
    | with_reducible assumption
    | with_reducible apply Kept.ite
    | with_reducible refine State.endPass_keeps _ _ _ (Mask.trans (by decide) hm) ?_
    | with_reducible refine State.repay_keeps _ _ _ (Mask.trans (by decide) hm) ?_
    | with_reducible refine State.logArb_keeps _ _ _ _ _ (Mask.trans (by decide) hm) ?_
    | with_reducible refine State.ringEvent_keeps _ _ _ _ (Mask.trans (by decide) hm) ?_
    | with_reducible refine State.advance_keeps _ _ _ _ (Mask.trans (by decide) hm) ?_
    | with_reducible refine State.reclaimStores_keeps _ _ _ (Mask.trans (by decide) hm) ?_
    | with_reducible refine State.revokeKind_keeps _ _ _ _ (Mask.trans (by decide) hm) ?_
    | with_reducible refine State.checkWave_keeps _ _ _ (Mask.trans (by decide) hm) ?_
    | (simp only [Kept.made]; with_reducible refine Kept.set_arb (Mask.trans (by decide) hm) ?_)
    | split)

theorem State.reportArrives_keeps (m : Nat) (s0 : State) (s : State) (c : Nat) (hm : 0x600 &&& m = 0x600)
    (hk : Kept m s0 s) : Kept m s0 (State.reportArrives s c) := by
  unfold State.reportArrives
  try dsimp only
  repeat' (first
    | with_reducible assumption
    | with_reducible refine State.setAgent_keeps _ _ _ _ _ (Mask.trans (by decide) hm) ?_
    | (simp only [Kept.made]; with_reducible refine Kept.set_arb (Mask.trans (by decide) hm) ?_)
    | split)

theorem State.refillPocket_keeps (m : Nat) (s0 : State) (s : State) (c : Nat) (hm : 0x81e00001000000000000000000000000000000000000001600 &&& m = 0x81e00001000000000000000000000000000000000000001600)
    (hk : Kept m s0 s) : Kept m s0 (State.refillPocket s c) := by
  unfold State.refillPocket
  try dsimp only
  repeat' (first
    | with_reducible assumption
    | with_reducible apply Kept.ite
    | with_reducible refine State.setAgent_keeps _ _ _ _ _ (Mask.trans (by decide) hm) ?_
    | with_reducible refine State.shadow_keeps _ _ _ _ (Mask.trans (by decide) hm) ?_
    | with_reducible refine State.lend_keeps _ _ _ _ (Mask.trans (by decide) hm) ?_
    | split)

theorem State.noteLate_keeps (m : Nat) (s0 : State) (s : State) (hm : 0x300000000000000000000000000 &&& m = 0x300000000000000000000000000)
    (hk : Kept m s0 s) : Kept m s0 (State.noteLate s) := by
  unfold State.noteLate
  try dsimp only
  repeat' (first
    | with_reducible assumption
    | with_reducible apply Kept.ite
    | with_reducible refine State.setFlag_at .ADM_STATUS rfl (Mask.trans (by decide) hm) ?_
    | with_reducible refine State.incSat_at .ADM_ANN rfl (Mask.trans (by decide) hm) ?_
    | split)

theorem State.createResv_keeps (m : Nat) (s0 : State) (s : State) (r : Reservation) (hm : 0x300000000000000000000000400 &&& m = 0x300000000000000000000000400)
    (hk : Kept m s0 s) : Kept m s0 (State.createResv s r) := by
  unfold State.createResv
  try dsimp only
  repeat' (first
    | with_reducible assumption
    | with_reducible apply Kept.ite
    | with_reducible refine State.noteLate_keeps _ _ _ (Mask.trans (by decide) hm) ?_
    | (simp only [Kept.made]; with_reducible refine Kept.set_arb (Mask.trans (by decide) hm) ?_)
    | simp only [id_eq]
    | split)

theorem State.shadowResv_keeps (m : Nat) (s0 : State) (s : State) (r : Reservation) (hm : 0x81c00000000000000000000000000000000000000000000000 &&& m = 0x81c00000000000000000000000000000000000000000000000)
    (hk : Kept m s0 s) : Kept m s0 (State.shadowResv s r) := by
  unfold State.shadowResv
  try dsimp only
  repeat' (first
    | with_reducible assumption
    | with_reducible apply Kept.ite
    | with_reducible refine State.shadow_keeps _ _ _ _ (Mask.trans (by decide) hm) ?_
    | with_reducible refine Kept.each ?_ (fun _ _ _ => ?_)
    | split)

theorem State.endResv_keeps (m : Nat) (s0 : State) (s : State) (r : Reservation) (how : Nat) (hm : 0x81c00001000000000000000000000000000000000000001400 &&& m = 0x81c00001000000000000000000000000000000000000001400)
    (hk : Kept m s0 s) : Kept m s0 (State.endResv s r how) := by
  unfold State.endResv
  try dsimp only
  repeat' (first
    | with_reducible assumption
    | with_reducible refine State.logArb_keeps _ _ _ _ _ (Mask.trans (by decide) hm) ?_
    | with_reducible refine State.shadowResv_keeps _ _ _ _ (Mask.trans (by decide) hm) ?_
    | (simp only [Kept.made]; with_reducible refine Kept.set_arb (Mask.trans (by decide) hm) ?_))

theorem State.replaceShares_keeps (m : Nat) (s0 : State) (s : State) (r : Reservation) (hm : 0x81c00001000000000000000000000000000000000000001400 &&& m = 0x81c00001000000000000000000000000000000000000001400)
    (hk : Kept m s0 s) : Kept m s0 (State.replaceShares s r) := by
  unfold State.replaceShares
  try dsimp only
  repeat' (first
    | with_reducible assumption
    | with_reducible apply Kept.ite
    | with_reducible refine State.endResv_keeps _ _ _ _ _ (Mask.trans (by decide) hm) ?_
    | (simp only [Kept.made]; with_reducible refine Kept.set_arb (Mask.trans (by decide) hm) ?_)
    | with_reducible refine Kept.each ?_ (fun _ _ _ => ?_)
    | simp only [id_eq]
    | split)

theorem State.startResv_keeps (m : Nat) (s0 : State) (s : State) (id : Nat) (hm : 0x81e00001000000000000000000000000000000000000001406 &&& m = 0x81e00001000000000000000000000000000000000000001406)
    (hk : Kept m s0 s) : Kept m s0 (State.startResv s id) := by
  unfold State.startResv
  try dsimp only
  repeat' (first
    | with_reducible assumption
    | with_reducible apply Kept.ite
    | with_reducible refine State.advanceSky_keeps _ _ _ _ (Mask.trans (by decide) hm) ?_
    | with_reducible refine State.replaceShares_keeps _ _ _ _ (Mask.trans (by decide) hm) ?_
    | with_reducible refine State.fillResv_keeps _ _ _ _ (Mask.trans (by decide) hm) ?_
    | with_reducible refine State.logArb_keeps _ _ _ _ _ (Mask.trans (by decide) hm) ?_
    | with_reducible refine State.shadowResv_keeps _ _ _ _ (Mask.trans (by decide) hm) ?_
    | (simp only [Kept.made]; with_reducible refine Kept.set_arb (Mask.trans (by decide) hm) ?_)
    | simp only [id_eq]
    | split)

theorem State.resvTimeT_keeps (m : Nat) (s0 : State) (s : State) (id : Nat) (hm : 0x1000000000000000000000000000000000000001c06 &&& m = 0x1000000000000000000000000000000000000001c06)
    (hk : Kept m s0 s) : Kept m s0 (State.resvTimeT s id) := by
  unfold State.resvTimeT
  try dsimp only
  repeat' (first
    | with_reducible assumption
    | with_reducible apply Kept.ite
    | with_reducible refine State.advanceSky_keeps _ _ _ _ (Mask.trans (by decide) hm) ?_
    | with_reducible refine State.startWave_keeps _ _ _ _ (Mask.trans (by decide) hm) ?_
    | (simp only [Kept.made]; with_reducible refine Kept.set_arb (Mask.trans (by decide) hm) ?_)
    | simp only [id_eq]
    | split)

theorem State.resvEnd_keeps (m : Nat) (s0 : State) (s : State) (id : Nat) (hm : 0x81c00001000000000000000000000000000000000000001406 &&& m = 0x81c00001000000000000000000000000000000000000001406)
    (hk : Kept m s0 s) : Kept m s0 (State.resvEnd s id) := by
  unfold State.resvEnd
  try dsimp only
  repeat' (first
    | with_reducible assumption
    | with_reducible refine State.advanceSky_keeps _ _ _ _ (Mask.trans (by decide) hm) ?_
    | with_reducible refine State.endResv_keeps _ _ _ _ _ (Mask.trans (by decide) hm) ?_
    | with_reducible refine State.checkWaveEnd_keeps _ _ _ (Mask.trans (by decide) hm) ?_
    | split)

theorem State.startPrebias_keeps (m : Nat) (s0 : State) (s : State) (id : Nat) (hm : 0x406 &&& m = 0x406)
    (hk : Kept m s0 s) : Kept m s0 (State.startPrebias s id) := by
  unfold State.startPrebias
  try dsimp only
  repeat' (first
    | with_reducible assumption
    | with_reducible apply Kept.ite
    | with_reducible refine State.advanceSky_keeps _ _ _ _ (Mask.trans (by decide) hm) ?_
    | (simp only [Kept.made]; with_reducible refine Kept.set_arb (Mask.trans (by decide) hm) ?_)
    | split)

theorem State.takeFF_keeps (m : Nat) (s0 : State) (s : State) (hm : 0x400000000000000000000000400 &&& m = 0x400000000000000000000000400)
    (hk : Kept m s0 s) : Kept m s0 (State.takeFF s).2 := by
  unfold State.takeFF
  try dsimp only
  repeat' (first
    | with_reducible assumption
    | with_reducible refine State.setFld_at .ADM_FF rfl (Mask.trans (by decide) hm) ?_
    | (simp only [Kept.made]; with_reducible refine Kept.set_arb (Mask.trans (by decide) hm) ?_))

theorem State.voidAll_keeps (m : Nat) (s0 : State) (s : State) (clearReq : Bool) (reset : Bool) (hm : 0x81c00001000000000000000000000000000000000000001600 &&& m = 0x81c00001000000000000000000000000000000000000001600)
    (hk : Kept m s0 s) : Kept m s0 (State.voidAll s clearReq reset) := by
  unfold State.voidAll
  try dsimp only
  repeat' (first
    | with_reducible assumption
    | with_reducible apply Kept.ite
    | with_reducible refine State.endPass_keeps _ _ _ (Mask.trans (by decide) hm) ?_
    | with_reducible refine State.logArb_keeps _ _ _ _ _ (Mask.trans (by decide) hm) ?_
    | with_reducible refine State.endResv_keeps _ _ _ _ _ (Mask.trans (by decide) hm) ?_
    | with_reducible refine State.dropGrants_keeps _ _ _ _ _ (Mask.trans (by decide) hm) ?_
    | with_reducible refine State.setAgent_keeps _ _ _ _ _ (Mask.trans (by decide) hm) ?_
    | with_reducible refine State.shadow_keeps _ _ _ _ (Mask.trans (by decide) hm) ?_
    | (simp only [Kept.made]; with_reducible refine Kept.set_arb (Mask.trans (by decide) hm) ?_)
    | with_reducible refine Kept.each ?_ (fun _ _ _ => ?_)
    | split)

end Sys2Proof.Machine
end

