-- ==== Sys2Proof/Laws/KeepsDroop.lean ====
section
/-! SUPPORT. What each operation of Machine/Droop.lean keeps: every place outside its mask, the register store's form, the resets' levels,
the outputs so far, time and the queue. -/

namespace Sys2Proof.Machine

theorem State.countEntry_keeps (m : Nat) (s0 : State) (s : State) (d : Nat) (hm : 0x7000000000000000000000000000 &&& m = 0x7000000000000000000000000000)
    (hk : Kept m s0 s) : Kept m s0 (State.countEntry s d) := by
  unfold State.countEntry
  try dsimp only
  repeat' (first
    | with_reducible assumption
    | with_reducible apply Kept.ite
    | with_reducible refine State.incSat_at .DRP_CNT_MILD rfl (Mask.trans (by decide) hm) ?_
    | with_reducible refine State.incSat_at .DRP_CNT_DEEP rfl (Mask.trans (by decide) hm) ?_
    | with_reducible refine State.incSat_at .DRP_CNT_SEVERE rfl (Mask.trans (by decide) hm) ?_)

theorem State.edge_keeps (m : Nat) (s0 : State) (s : State) (c : Nat) (code : Nat) (hm : 0x3000000000000007000000000000000000000001200 &&& m = 0x3000000000000007000000000000000000000001200)
    (hk : Kept m s0 s) : Kept m s0 (State.edge s c code) := by
  unfold State.edge
  try dsimp only
  repeat' (first
    | with_reducible assumption
    | with_reducible apply Kept.ite
    | with_reducible refine State.setAgent_keeps _ _ _ _ _ (Mask.trans (by decide) hm) ?_
    | with_reducible refine State.countEntry_keeps _ _ _ _ (Mask.trans (by decide) hm) ?_
    | with_reducible refine State.logAgent_keeps _ _ _ _ _ _ (Mask.trans (by decide) hm) ?_
    | with_reducible refine State.ringEvent_keeps _ _ _ _ (Mask.trans (by decide) hm) ?_
    | split)

theorem State.noteFreeze_keeps (m : Nat) (s0 : State) (s : State) (st : Nat) (on : Nat) (hold : Nat) (hm : 0x81c00001000000000000000000000000000000000000001000 &&& m = 0x81c00001000000000000000000000000000000000000001000)
    (hk : Kept m s0 s) : Kept m s0 (State.noteFreeze s st on hold) := by
  unfold State.noteFreeze
  try dsimp only
  repeat' (first
    | with_reducible assumption
    | with_reducible refine State.logAgent_keeps _ _ _ _ _ _ (Mask.trans (by decide) hm) ?_
    | with_reducible refine State.shadow_keeps _ _ _ _ (Mask.trans (by decide) hm) ?_
    | with_reducible refine Kept.each ?_ (fun _ _ _ => ?_))

theorem State.severeReport_keeps (m : Nat) (s0 : State) (s : State) (c : Nat) (hm : 0x81c00001000000000000008000000000000000000000001a00 &&& m = 0x81c00001000000000000008000000000000000000000001a00)
    (hk : Kept m s0 s) : Kept m s0 (State.severeReport s c) := by
  unfold State.severeReport
  try dsimp only
  repeat' (first
    | with_reducible assumption
    | with_reducible apply Kept.ite
    | with_reducible refine State.setAgent_keeps _ _ _ _ _ (Mask.trans (by decide) hm) ?_
    | with_reducible refine State.logArb_keeps _ _ _ _ _ (Mask.trans (by decide) hm) ?_
    | with_reducible refine State.noteFreeze_keeps _ _ _ _ _ _ (Mask.trans (by decide) hm) ?_
    | with_reducible refine State.incSat_at .DRP_FREEZES rfl (Mask.trans (by decide) hm) ?_
    | with_reducible refine Kept.each ?_ (fun _ _ _ => ?_)
    | (simp only [Kept.made]; with_reducible refine Kept.set_drp (Mask.trans (by decide) hm) ?_))

theorem State.freezeExpiry_keeps (m : Nat) (s0 : State) (s : State) (st : Nat) (hm : 0x81c00001000000000000000000000000000000000000001806 &&& m = 0x81c00001000000000000000000000000000000000000001806)
    (hk : Kept m s0 s) : Kept m s0 (State.freezeExpiry s st) := by
  unfold State.freezeExpiry
  try dsimp only
  repeat' (first
    | with_reducible assumption
    | with_reducible apply Kept.ite
    | with_reducible refine State.advanceTo_keeps _ _ _ _ (Mask.trans (by decide) hm) ?_
    | with_reducible refine State.logArb_keeps _ _ _ _ _ (Mask.trans (by decide) hm) ?_
    | with_reducible refine State.noteFreeze_keeps _ _ _ _ _ _ (Mask.trans (by decide) hm) ?_
    | with_reducible refine Kept.each ?_ (fun _ _ _ => ?_)
    | (simp only [Kept.made]; with_reducible refine Kept.set_drp (Mask.trans (by decide) hm) ?_)
    | split)

theorem State.proEnds_keeps (m : Nat) (s0 : State) (s : State) (st : Nat) (hm : 0x806 &&& m = 0x806)
    (hk : Kept m s0 s) : Kept m s0 (State.proEnds s st) := by
  unfold State.proEnds
  try dsimp only
  repeat' (first
    | with_reducible assumption
    | with_reducible refine State.advanceTo_keeps _ _ _ _ (Mask.trans (by decide) hm) ?_
    | (simp only [Kept.made]; with_reducible refine Kept.set_drp (Mask.trans (by decide) hm) ?_)
    | split)

theorem State.forceReleaseStep_keeps (m : Nat) (s0 : State) (s : State) (hm : 0x806 &&& m = 0x806)
    (hk : Kept m s0 s) : Kept m s0 (State.forceReleaseStep s) := by
  unfold State.forceReleaseStep
  try dsimp only
  repeat' (first
    | with_reducible assumption
    | with_reducible apply Kept.ite
    | with_reducible refine State.advanceSky_keeps _ _ _ _ (Mask.trans (by decide) hm) ?_
    | (simp only [Kept.made]; with_reducible refine Kept.set_drp (Mask.trans (by decide) hm) ?_)
    | split)

theorem State.gorseForce_keeps (m : Nat) (s0 : State) (s : State) (hm : 0x800 &&& m = 0x800)
    (hk : Kept m s0 s) : Kept m s0 (State.gorseForce s) := by
  unfold State.gorseForce
  try dsimp only
  repeat' (first
    | with_reducible assumption
    | (simp only [Kept.made]; with_reducible refine Kept.set_drp (Mask.trans (by decide) hm) ?_))

theorem State.gorseEnds_keeps (m : Nat) (s0 : State) (s : State) (hm : 0x800 &&& m = 0x800)
    (hk : Kept m s0 s) : Kept m s0 (State.gorseEnds s) := by
  unfold State.gorseEnds
  try dsimp only
  repeat' (first
    | with_reducible assumption
    | with_reducible apply Kept.ite
    | (simp only [Kept.made]; with_reducible refine Kept.set_drp (Mask.trans (by decide) hm) ?_)
    | split)

theorem State.openForce_keeps (m : Nat) (s0 : State) (s : State) (hm : 0x800 &&& m = 0x800)
    (hk : Kept m s0 s) : Kept m s0 (State.openForce s) := by
  unfold State.openForce
  try dsimp only
  repeat' (first
    | with_reducible assumption
    | (simp only [Kept.made]; with_reducible refine Kept.set_drp (Mask.trans (by decide) hm) ?_))

theorem State.openEnds_keeps (m : Nat) (s0 : State) (s : State) (hm : 0x800 &&& m = 0x800)
    (hk : Kept m s0 s) : Kept m s0 (State.openEnds s) := by
  unfold State.openEnds
  try dsimp only
  repeat' (first
    | with_reducible assumption
    | with_reducible apply Kept.ite
    | (simp only [Kept.made]; with_reducible refine Kept.set_drp (Mask.trans (by decide) hm) ?_)
    | split)

theorem State.startCal_keeps (m : Nat) (s0 : State) (s : State) (c : Nat) (hm : 0x200 &&& m = 0x200)
    (hk : Kept m s0 s) : Kept m s0 (State.startCal s c) := by
  unfold State.startCal
  try dsimp only
  repeat' (first
    | with_reducible assumption
    | with_reducible apply Kept.ite
    | with_reducible refine State.setAgent_keeps _ _ _ _ _ (Mask.trans (by decide) hm) ?_
    | split)

theorem State.calWindow_keeps (m : Nat) (s0 : State) (s : State) (c : Nat) (m' : Nat) (hm : 0x1000000000000000000000000000000000000001200 &&& m = 0x1000000000000000000000000000000000000001200)
    (hk : Kept m s0 s) : Kept m s0 (State.calWindow s c m') := by
  unfold State.calWindow
  try dsimp only
  repeat' (first
    | with_reducible assumption
    | with_reducible apply Kept.ite
    | with_reducible refine State.startCal_keeps _ _ _ _ (Mask.trans (by decide) hm) ?_
    | with_reducible refine State.setAgent_keeps _ _ _ _ _ (Mask.trans (by decide) hm) ?_
    | with_reducible refine State.logAgent_keeps _ _ _ _ _ _ (Mask.trans (by decide) hm) ?_
    | split)

theorem State.stepBegins_keeps (m : Nat) (s0 : State) (s : State) (hm : 0x800200 &&& m = 0x800200)
    (hk : Kept m s0 s) : Kept m s0 (State.stepBegins s) := by
  unfold State.stepBegins
  try dsimp only
  repeat' (first
    | with_reducible assumption
    | with_reducible apply Kept.ite
    | with_reducible refine State.setAgent_keeps _ _ _ _ _ (Mask.trans (by decide) hm) ?_
    | (simp only [Kept.made]; with_reducible refine Kept.set_lim (Mask.trans (by decide) hm) ?_)
    | with_reducible refine Kept.each ?_ (fun _ _ _ => ?_)
    | split)

theorem State.maintenance_keeps (m : Nat) (s0 : State) (s : State) (c : Nat) (m' : Nat) (from_ : Nat) (hm : 0x1000000000000000000000000000000000000001200 &&& m = 0x1000000000000000000000000000000000000001200)
    (hk : Kept m s0 s) : Kept m s0 (State.maintenance s c m' from_) := by
  unfold State.maintenance
  try dsimp only
  repeat' (first
    | with_reducible assumption
    | with_reducible apply Kept.ite
    | with_reducible refine State.setAgent_keeps _ _ _ _ _ (Mask.trans (by decide) hm) ?_
    | with_reducible refine State.logAgent_keeps _ _ _ _ _ _ (Mask.trans (by decide) hm) ?_
    | split)

theorem State.loadTrim_keeps (m : Nat) (s0 : State) (s : State) (c : Nat) (k : Nat) (hm : 0x200 &&& m = 0x200)
    (hk : Kept m s0 s) : Kept m s0 (State.loadTrim s c k) := by
  unfold State.loadTrim
  try dsimp only
  repeat' (first
    | with_reducible assumption
    | with_reducible refine State.setAgent_keeps _ _ _ _ _ (Mask.trans (by decide) hm) ?_)

theorem State.stuckDetector_keeps (m : Nat) (s0 : State) (s : State) (c : Nat) (hm : 0x1000000000000010000000000000000000000001286 &&& m = 0x1000000000000010000000000000000000000001286)
    (hk : Kept m s0 s) : Kept m s0 (State.stuckDetector s c) := by
  unfold State.stuckDetector
  try dsimp only
  repeat' (first
    | with_reducible assumption
    | with_reducible apply Kept.ite
    | with_reducible refine State.advanceTo_keeps _ _ _ _ (Mask.trans (by decide) hm) ?_
    | with_reducible refine State.setAgent_keeps _ _ _ _ _ (Mask.trans (by decide) hm) ?_
    | with_reducible refine State.logAgent_keeps _ _ _ _ _ _ (Mask.trans (by decide) hm) ?_
    | with_reducible refine State.raise_keeps _ _ _ _ _ _ (Mask.trans (by decide) hm) ?_
    | with_reducible refine State.incSat_at .DRP_STUCK rfl (Mask.trans (by decide) hm) ?_
    | with_reducible refine State.setFld_at .DRP_STUCK rfl (Mask.trans (by decide) hm) ?_
    | split)

theorem State.reinstate_keeps (m : Nat) (s0 : State) (s : State) (c : Nat) (hm : 0x1000000000000000000000000000000000000001200 &&& m = 0x1000000000000000000000000000000000000001200)
    (hk : Kept m s0 s) : Kept m s0 (State.reinstate s c) := by
  unfold State.reinstate
  try dsimp only
  repeat' (first
    | with_reducible assumption
    | with_reducible apply Kept.ite
    | with_reducible refine State.setAgent_keeps _ _ _ _ _ (Mask.trans (by decide) hm) ?_
    | with_reducible refine State.logAgent_keeps _ _ _ _ _ _ (Mask.trans (by decide) hm) ?_)

theorem State.localStopEnds_keeps (m : Nat) (s0 : State) (s : State) (c : Nat) (hm : 0x81c00000000000000000000000000000000000000000000006 &&& m = 0x81c00000000000000000000000000000000000000000000006)
    (hk : Kept m s0 s) : Kept m s0 (State.localStopEnds s c) := by
  unfold State.localStopEnds
  try dsimp only
  repeat' (first
    | with_reducible assumption
    | with_reducible apply Kept.ite
    | with_reducible refine State.advanceSky_keeps _ _ _ _ (Mask.trans (by decide) hm) ?_
    | with_reducible refine State.shadow_keeps _ _ _ _ (Mask.trans (by decide) hm) ?_
    | split)

end Sys2Proof.Machine
end

