-- ==== Sys2Proof/Laws/KeepsRail.lean ====
section
/-! SUPPORT. What each operation of Machine/Rail.lean keeps: every place outside its mask, the register store's form, the resets' levels,
the outputs so far, time and the queue. -/

namespace Sys2Proof.Machine

theorem State.setRail_keeps (m : Nat) (s0 : State) (s : State) (n : Nat) (r : Rail) (hm : 0x4000 &&& m = 0x4000)
    (hk : Kept m s0 s) : Kept m s0 (State.setRail s n r) := by
  unfold State.setRail
  try dsimp only
  repeat' (first
    | with_reducible assumption
    | (simp only [Kept.made]; with_reducible refine Kept.set_rails (Mask.trans (by decide) hm) ?_))

theorem State.setPhases_keeps (m : Nat) (s0 : State) (s : State) (n : Nat) (cnt : Nat) (changed : Nat) (why : Nat) (hm : 0x1000000000000000000000000000000000000005000 &&& m = 0x1000000000000000000000000000000000000005000)
    (hk : Kept m s0 s) : Kept m s0 (State.setPhases s n cnt changed why) := by
  unfold State.setPhases
  try dsimp only
  repeat' (first
    | with_reducible assumption
    | with_reducible apply Kept.ite
    | with_reducible refine State.setRail_keeps _ _ _ _ _ (Mask.trans (by decide) hm) ?_
    | with_reducible refine State.logRail_keeps _ _ _ _ _ _ (Mask.trans (by decide) hm) ?_)

theorem State.dropPhases_keeps (m : Nat) (s0 : State) (s : State) (n : Nat) (hm : 0x1000000000000000000000000000000000000005000 &&& m = 0x1000000000000000000000000000000000000005000)
    (hk : Kept m s0 s) : Kept m s0 (State.dropPhases s n) := by
  unfold State.dropPhases
  try dsimp only
  repeat' (first
    | with_reducible assumption
    | with_reducible apply Kept.ite
    | with_reducible refine State.setRail_keeps _ _ _ _ _ (Mask.trans (by decide) hm) ?_
    | with_reducible refine State.logRail_keeps _ _ _ _ _ _ (Mask.trans (by decide) hm) ?_
    | split)

theorem State.holdBases_keeps (m : Nat) (s0 : State) (s : State) (hm : 0x4000 &&& m = 0x4000)
    (hk : Kept m s0 s) : Kept m s0 (State.holdBases s) := by
  unfold State.holdBases
  try dsimp only
  repeat' (first
    | with_reducible assumption
    | with_reducible apply Kept.ite
    | with_reducible refine State.setRail_keeps _ _ _ _ _ (Mask.trans (by decide) hm) ?_
    | with_reducible refine Kept.each ?_ (fun _ _ _ => ?_)
    | split)

theorem State.railTo_keeps (m : Nat) (s0 : State) (s : State) (n : Nat) (st : Nat) (hm : 0x40000000000000000000000004000 &&& m = 0x40000000000000000000000004000)
    (hk : Kept m s0 s) : Kept m s0 (State.railTo s n st) := by
  unfold State.railTo
  try dsimp only
  repeat' (first
    | with_reducible assumption
    | with_reducible refine State.setRail_keeps _ _ _ _ _ (Mask.trans (by decide) hm) ?_
    | with_reducible refine State.setFld_at .RAIL_STATUS ⟨_, rfl⟩ (Mask.trans (by decide) hm) ?_)

theorem State.clearInjEn_keeps (m : Nat) (s0 : State) (s : State) (n : Nat) (hm : 0x10000000000000000000000000000001 &&& m = 0x10000000000000000000000000000001)
    (hk : Kept m s0 s) : Kept m s0 (State.clearInjEn s n) := by
  unfold State.clearInjEn
  try dsimp only
  repeat' (first
    | with_reducible assumption
    | with_reducible refine State.setStaged_keeps _ _ _ _ _ (Mask.trans (by decide) hm) ?_
    | with_reducible refine State.setFld_at .RAIL_INJ_CTRL ⟨_, rfl⟩ (Mask.trans (by decide) hm) ?_)

theorem State.injGone_keeps (m : Nat) (s0 : State) (s : State) (hm : 0x4000 &&& m = 0x4000)
    (hk : Kept m s0 s) : Kept m s0 (State.injGone s) := by
  unfold State.injGone
  try dsimp only
  repeat' (first
    | with_reducible assumption
    | with_reducible apply Kept.ite
    | with_reducible refine State.setRail_keeps _ _ _ _ _ (Mask.trans (by decide) hm) ?_
    | with_reducible refine Kept.each ?_ (fun _ _ _ => ?_)
    | split)

theorem State.abortInj_keeps (m : Nat) (s0 : State) (s : State) (n : Nat) (reason : Nat) (hm : 0x1000000000030000000000000000000000000005081 &&& m = 0x1000000000030000000000000000000000000005081)
    (hk : Kept m s0 s) : Kept m s0 (State.abortInj s n reason) := by
  unfold State.abortInj
  try dsimp only
  repeat' (first
    | with_reducible assumption
    | with_reducible apply Kept.ite
    | with_reducible refine State.setRail_keeps _ _ _ _ _ (Mask.trans (by decide) hm) ?_
    | with_reducible refine State.injGone_keeps _ _ _ (Mask.trans (by decide) hm) ?_
    | with_reducible refine State.clearInjEn_keeps _ _ _ _ (Mask.trans (by decide) hm) ?_
    | with_reducible refine State.logRail_keeps _ _ _ _ _ _ (Mask.trans (by decide) hm) ?_
    | with_reducible refine State.raise_keeps _ _ _ _ _ _ (Mask.trans (by decide) hm) ?_
    | with_reducible refine State.setFlag_at .RAIL_INJ_STATUS ⟨_, rfl⟩ (Mask.trans (by decide) hm) ?_
    | with_reducible refine State.setFld_at .RAIL_INJ_STATUS ⟨_, rfl⟩ (Mask.trans (by decide) hm) ?_
    | with_reducible refine State.incSat_at .RAIL_INJ_STATUS ⟨_, rfl⟩ (Mask.trans (by decide) hm) ?_
    | split)

theorem State.abortAllInj_keeps (m : Nat) (s0 : State) (s : State) (reason : Nat) (hm : 0x1000000000030000000000000000000000000005081 &&& m = 0x1000000000030000000000000000000000000005081)
    (hk : Kept m s0 s) : Kept m s0 (State.abortAllInj s reason) := by
  unfold State.abortAllInj
  try dsimp only
  repeat' (first
    | with_reducible assumption
    | with_reducible refine State.abortInj_keeps _ _ _ _ _ (Mask.trans (by decide) hm) ?_
    | with_reducible refine Kept.each ?_ (fun _ _ _ => ?_))

theorem State.endInj_keeps (m : Nat) (s0 : State) (s : State) (n : Nat) (hm : 0x1000000000030000000000000000000000000005001 &&& m = 0x1000000000030000000000000000000000000005001)
    (hk : Kept m s0 s) : Kept m s0 (State.endInj s n) := by
  unfold State.endInj
  try dsimp only
  repeat' (first
    | with_reducible assumption
    | with_reducible apply Kept.ite
    | with_reducible refine State.setRail_keeps _ _ _ _ _ (Mask.trans (by decide) hm) ?_
    | with_reducible refine State.injGone_keeps _ _ _ (Mask.trans (by decide) hm) ?_
    | with_reducible refine State.clearInjEn_keeps _ _ _ _ (Mask.trans (by decide) hm) ?_
    | with_reducible refine State.logRail_keeps _ _ _ _ _ _ (Mask.trans (by decide) hm) ?_
    | with_reducible refine State.setFlag_at .RAIL_INJ_STATUS ⟨_, rfl⟩ (Mask.trans (by decide) hm) ?_
    | split)

theorem State.noteFill_keeps (m : Nat) (s0 : State) (s : State) (n : Nat) (hm : 0x80000000000000000000000000000000 &&& m = 0x80000000000000000000000000000000)
    (hk : Kept m s0 s) : Kept m s0 (State.noteFill s n) := by
  unfold State.noteFill
  try dsimp only
  repeat' (first
    | with_reducible assumption
    | with_reducible refine State.setFld_at .RAIL_CAP_FILL ⟨_, rfl⟩ (Mask.trans (by decide) hm) ?_)

theorem State.freezeCap_keeps (m : Nat) (s0 : State) (s : State) (n : Nat) (hm : 0xc0000000000000000000000000004000 &&& m = 0xc0000000000000000000000000004000)
    (hk : Kept m s0 s) : Kept m s0 (State.freezeCap s n) := by
  unfold State.freezeCap
  try dsimp only
  repeat' (first
    | with_reducible assumption
    | with_reducible apply Kept.ite
    | with_reducible refine State.setRail_keeps _ _ _ _ _ (Mask.trans (by decide) hm) ?_
    | with_reducible refine State.noteFill_keeps _ _ _ _ (Mask.trans (by decide) hm) ?_
    | with_reducible refine State.setFld_at .RAIL_CAP_STATUS ⟨_, rfl⟩ (Mask.trans (by decide) hm) ?_
    | split)

theorem State.trigCap_keeps (m : Nat) (s0 : State) (s : State) (n : Nat) (evt : Nat) (hm : 0x40000000000000000000000000004000 &&& m = 0x40000000000000000000000000004000)
    (hk : Kept m s0 s) : Kept m s0 (State.trigCap s n evt) := by
  unfold State.trigCap
  try dsimp only
  repeat' (first
    | with_reducible assumption
    | with_reducible apply Kept.ite
    | with_reducible refine State.setRail_keeps _ _ _ _ _ (Mask.trans (by decide) hm) ?_
    | with_reducible refine State.setFld_at .RAIL_CAP_STATUS ⟨_, rfl⟩ (Mask.trans (by decide) hm) ?_
    | with_reducible refine State.incSat_at .RAIL_CAP_STATUS ⟨_, rfl⟩ (Mask.trans (by decide) hm) ?_
    | split)

theorem State.capEvent_keeps (m : Nat) (s0 : State) (s : State) (n : Nat) (bit : Nat) (hm : 0x40000000000000000000000000004000 &&& m = 0x40000000000000000000000000004000)
    (hk : Kept m s0 s) : Kept m s0 (State.capEvent s n bit) := by
  unfold State.capEvent
  try dsimp only
  repeat' (first
    | with_reducible assumption
    | with_reducible apply Kept.ite
    | with_reducible refine State.trigCap_keeps _ _ _ _ _ (Mask.trans (by decide) hm) ?_
    | split)

theorem State.capPush_keeps (m : Nat) (s0 : State) (s : State) (n : Nat) (x : CapSample) (hm : 0x80000000000000000000000000004000 &&& m = 0x80000000000000000000000000004000)
    (hk : Kept m s0 s) : Kept m s0 (State.capPush s n x) := by
  unfold State.capPush
  try dsimp only
  repeat' (first
    | with_reducible assumption
    | with_reducible apply Kept.ite
    | with_reducible refine State.setRail_keeps _ _ _ _ _ (Mask.trans (by decide) hm) ?_
    | with_reducible refine State.noteFill_keeps _ _ _ _ (Mask.trans (by decide) hm) ?_)

theorem State.startInj_keeps (m : Nat) (s0 : State) (s : State) (n : Nat) (hm : 0x1000000000030000000000000000000000000015081 &&& m = 0x1000000000030000000000000000000000000015081)
    (hk : Kept m s0 s) : Kept m s0 (State.startInj s n) := by
  unfold State.startInj
  try dsimp only
  repeat' (first
    | with_reducible assumption
    | with_reducible apply Kept.ite
    | with_reducible refine State.setRail_keeps _ _ _ _ _ (Mask.trans (by decide) hm) ?_
    | with_reducible refine State.logRail_keeps _ _ _ _ _ _ (Mask.trans (by decide) hm) ?_
    | with_reducible refine State.abortInj_keeps _ _ _ _ _ (Mask.trans (by decide) hm) ?_
    | with_reducible refine State.setFlag_at .RAIL_INJ_STATUS ⟨_, rfl⟩ (Mask.trans (by decide) hm) ?_
    | with_reducible refine State.setFld_at .RAIL_INJ_STATUS ⟨_, rfl⟩ (Mask.trans (by decide) hm) ?_
    | (simp only [Kept.made]; with_reducible refine Kept.set_lastInj (Mask.trans (by decide) hm) ?_)
    | with_reducible refine Kept.each ?_ (fun _ _ _ => ?_)
    | with_reducible refine Kept.fold ?_ (fun _ _ _ => ?_)
    | split)

theorem State.noteChannel_keeps (m : Nat) (s0 : State) (s : State) (n : Nat) (which : Nat) (old : Nat) (new : Nat) (lead : Bool) (hm : 0x1000000000030000000000000000000000000005081 &&& m = 0x1000000000030000000000000000000000000005081)
    (hk : Kept m s0 s) : Kept m s0 (State.noteChannel s n which old new lead) := by
  unfold State.noteChannel
  try dsimp only
  repeat' (first
    | with_reducible assumption
    | with_reducible apply Kept.ite
    | with_reducible refine State.logRail_keeps _ _ _ _ _ _ (Mask.trans (by decide) hm) ?_
    | with_reducible refine State.abortAllInj_keeps _ _ _ _ (Mask.trans (by decide) hm) ?_
    | split)

theorem State.noteSwitch_keeps (m : Nat) (s0 : State) (s : State) (n : Nat) (failed : Bool) (hm : 0x44000000000000000000000000004080 &&& m = 0x44000000000000000000000000004080)
    (hk : Kept m s0 s) : Kept m s0 (State.noteSwitch s n failed) := by
  unfold State.noteSwitch
  try dsimp only
  repeat' (first
    | with_reducible assumption
    | with_reducible apply Kept.ite
    | with_reducible refine State.capEvent_keeps _ _ _ _ _ (Mask.trans (by decide) hm) ?_
    | with_reducible refine State.raise_keeps _ _ _ _ _ _ (Mask.trans (by decide) hm) ?_
    | with_reducible refine State.incSat_at .RAIL_EVENTS ⟨_, rfl⟩ (Mask.trans (by decide) hm) ?_)

theorem State.sampleChannels_keeps (m : Nat) (s0 : State) (s : State) (n : Nat) (inp : SampleIn) (hm : 0x81c000030000000000f7fc0400000000000000000080005d81 &&& m = 0x81c000030000000000f7fc0400000000000000000080005d81)
    (hk : Kept m s0 s) : Kept m s0 (State.sampleChannels s n inp) := by
  unfold State.sampleChannels
  try dsimp only
  repeat' (first
    | with_reducible assumption
    | with_reducible apply Kept.ite
    | with_reducible refine State.sample_keeps _ _ _ _ _ (Mask.trans (by decide) hm) ?_
    | with_reducible refine State.setRail_keeps _ _ _ _ _ (Mask.trans (by decide) hm) ?_
    | with_reducible refine State.noteChannel_keeps _ _ _ _ _ _ _ _ (Mask.trans (by decide) hm) ?_
    | with_reducible refine State.noteSwitch_keeps _ _ _ _ _ (Mask.trans (by decide) hm) ?_
    | with_reducible refine State.setFld_at .RAIL_STATUS ⟨_, rfl⟩ (Mask.trans (by decide) hm) ?_
    | split)

theorem State.enterHold_keeps (m : Nat) (s0 : State) (s : State) (n : Nat) (hm : 0x81c00003000000000074040000000000000000000080005981 &&& m = 0x81c00003000000000074040000000000000000000080005981)
    (hk : Kept m s0 s) : Kept m s0 (State.enterHold s n) := by
  unfold State.enterHold
  try dsimp only
  repeat' (first
    | with_reducible assumption
    | with_reducible refine State.setRail_keeps _ _ _ _ _ (Mask.trans (by decide) hm) ?_
    | with_reducible refine State.logRail_keeps _ _ _ _ _ _ (Mask.trans (by decide) hm) ?_
    | with_reducible refine State.openForce_keeps _ _ _ (Mask.trans (by decide) hm) ?_
    | with_reducible refine State.levelOn_keeps _ _ _ _ _ (Mask.trans (by decide) hm) ?_
    | with_reducible refine State.ringEvent_keeps _ _ _ _ (Mask.trans (by decide) hm) ?_
    | with_reducible refine State.capEvent_keeps _ _ _ _ _ (Mask.trans (by decide) hm) ?_
    | with_reducible refine State.abortAllInj_keeps _ _ _ _ (Mask.trans (by decide) hm) ?_
    | with_reducible refine State.logArb_keeps _ _ _ _ _ (Mask.trans (by decide) hm) ?_
    | with_reducible refine State.noteFreeze_keeps _ _ _ _ _ _ (Mask.trans (by decide) hm) ?_
    | with_reducible refine State.setFld_at .RAIL_STATUS ⟨_, rfl⟩ (Mask.trans (by decide) hm) ?_
    | with_reducible refine State.setFlag_at .RAIL_STATUS ⟨_, rfl⟩ (Mask.trans (by decide) hm) ?_
    | with_reducible refine State.incSat_at .RAIL_EVENTS ⟨_, rfl⟩ (Mask.trans (by decide) hm) ?_
    | with_reducible refine Kept.each ?_ (fun _ _ _ => ?_))

theorem State.leaveHold_keeps (m : Nat) (s0 : State) (s : State) (n : Nat) (hm : 0x81c00001000000000000040000000000000000000080005900 &&& m = 0x81c00001000000000000040000000000000000000080005900)
    (hk : Kept m s0 s) : Kept m s0 (State.leaveHold s n) := by
  unfold State.leaveHold
  try dsimp only
  repeat' (first
    | with_reducible assumption
    | with_reducible apply Kept.ite
    | with_reducible refine State.setRail_keeps _ _ _ _ _ (Mask.trans (by decide) hm) ?_
    | with_reducible refine State.openEnds_keeps _ _ _ (Mask.trans (by decide) hm) ?_
    | with_reducible refine State.levelOff_keeps _ _ _ _ (Mask.trans (by decide) hm) ?_
    | with_reducible refine State.logArb_keeps _ _ _ _ _ (Mask.trans (by decide) hm) ?_
    | with_reducible refine State.noteFreeze_keeps _ _ _ _ _ _ (Mask.trans (by decide) hm) ?_
    | with_reducible refine State.setFlag_at .RAIL_STATUS ⟨_, rfl⟩ (Mask.trans (by decide) hm) ?_
    | with_reducible refine Kept.each ?_ (fun _ _ _ => ?_))

theorem State.countWith_keeps (m : Nat) (s0 : State) (s : State) (n : Nat) (cnt : Nat) (k' : Nat) (why : Nat) (hm : 0x1000000000000000000000000000000000000005000 &&& m = 0x1000000000000000000000000000000000000005000)
    (hk : Kept m s0 s) : Kept m s0 (State.countWith s n cnt k' why) := by
  unfold State.countWith
  try dsimp only
  repeat' (first
    | with_reducible assumption
    | with_reducible apply Kept.ite
    | with_reducible refine State.setRail_keeps _ _ _ _ _ (Mask.trans (by decide) hm) ?_
    | with_reducible refine State.logRail_keeps _ _ _ _ _ _ (Mask.trans (by decide) hm) ?_
    | split)

theorem State.excludePhase_keeps (m : Nat) (s0 : State) (s : State) (n : Nat) (k' : Nat) (cause : Nat) (hm : 0x1000000000043000000000000000000000000005080 &&& m = 0x1000000000043000000000000000000000000005080)
    (hk : Kept m s0 s) : Kept m s0 (State.excludePhase s n k' cause) := by
  unfold State.excludePhase
  try dsimp only
  repeat' (first
    | with_reducible assumption
    | with_reducible apply Kept.ite
    | with_reducible refine State.raise_keeps _ _ _ _ _ _ (Mask.trans (by decide) hm) ?_
    | with_reducible refine State.countWith_keeps _ _ _ _ _ _ _ (Mask.trans (by decide) hm) ?_
    | with_reducible refine State.capEvent_keeps _ _ _ _ _ (Mask.trans (by decide) hm) ?_
    | with_reducible refine State.setFld_at .RAIL_PH_FAULT ⟨_, rfl⟩ (Mask.trans (by decide) hm) ?_
    | with_reducible refine State.setFld_at .RAIL_PH_FAULT_HI ⟨_, rfl⟩ (Mask.trans (by decide) hm) ?_
    | split)

theorem State.noteReadmitted_keeps (m : Nat) (s0 : State) (s : State) (n : Nat) (hm : 0x1000000000000000000000000000000000000005000 &&& m = 0x1000000000000000000000000000000000000005000)
    (hk : Kept m s0 s) : Kept m s0 (State.noteReadmitted s n) := by
  unfold State.noteReadmitted
  try dsimp only
  repeat' (first
    | with_reducible assumption
    | with_reducible apply Kept.ite
    | with_reducible refine State.setRail_keeps _ _ _ _ _ (Mask.trans (by decide) hm) ?_
    | with_reducible refine State.countWith_keeps _ _ _ _ _ _ _ (Mask.trans (by decide) hm) ?_
    | with_reducible refine Kept.each ?_ (fun _ _ _ => ?_)
    | split)

theorem State.notePhase_keeps (m : Nat) (s0 : State) (s : State) (n : Nat) (p : PhaseIn) (hm : 0x4000 &&& m = 0x4000)
    (hk : Kept m s0 s) : Kept m s0 (State.notePhase s n p) := by
  unfold State.notePhase
  try dsimp only
  repeat' (first
    | with_reducible assumption
    | with_reducible refine State.setRail_keeps _ _ _ _ _ (Mask.trans (by decide) hm) ?_)

theorem State.phaseReport_keeps (m : Nat) (s0 : State) (s : State) (n : Nat) (p : PhaseIn) (hm : 0x1000000000043000000000000000000000000005080 &&& m = 0x1000000000043000000000000000000000000005080)
    (hk : Kept m s0 s) : Kept m s0 (State.phaseReport s n p) := by
  unfold State.phaseReport
  try dsimp only
  repeat' (first
    | with_reducible assumption
    | with_reducible apply Kept.ite
    | with_reducible refine State.notePhase_keeps _ _ _ _ _ (Mask.trans (by decide) hm) ?_
    | with_reducible refine State.excludePhase_keeps _ _ _ _ _ _ (Mask.trans (by decide) hm) ?_
    | split)

theorem State.sampleExclusions_keeps (m : Nat) (s0 : State) (s : State) (n : Nat) (inp : SampleIn) (hm : 0x1000000000043000000000000000000000000005080 &&& m = 0x1000000000043000000000000000000000000005080)
    (hk : Kept m s0 s) : Kept m s0 (State.sampleExclusions s n inp) := by
  unfold State.sampleExclusions
  try dsimp only
  repeat' (first
    | with_reducible assumption
    | with_reducible apply Kept.ite
    | with_reducible refine State.phaseReport_keeps _ _ _ _ _ (Mask.trans (by decide) hm) ?_
    | with_reducible refine State.noteReadmitted_keeps _ _ _ _ (Mask.trans (by decide) hm) ?_
    | with_reducible refine Kept.each ?_ (fun _ _ _ => ?_)
    | split)

theorem State.samplePhases_keeps (m : Nat) (s0 : State) (s : State) (n : Nat) (hm : 0x1000000000000000000000000000000000000005000 &&& m = 0x1000000000000000000000000000000000000005000)
    (hk : Kept m s0 s) : Kept m s0 (State.samplePhases s n) := by
  unfold State.samplePhases
  try dsimp only
  repeat' (first
    | with_reducible assumption
    | with_reducible apply Kept.ite
    | with_reducible refine State.setPhases_keeps _ _ _ _ _ _ _ (Mask.trans (by decide) hm) ?_
    | with_reducible refine State.setRail_keeps _ _ _ _ _ (Mask.trans (by decide) hm) ?_
    | split)

theorem State.phaseShed_keeps (m : Nat) (s0 : State) (s : State) (n : Nat) (hm : 0x1000000000000000000000000000000000000005006 &&& m = 0x1000000000000000000000000000000000000005006)
    (hk : Kept m s0 s) : Kept m s0 (State.phaseShed s n) := by
  unfold State.phaseShed
  try dsimp only
  repeat' (first
    | with_reducible assumption
    | with_reducible apply Kept.ite
    | with_reducible refine State.advanceTo_keeps _ _ _ _ (Mask.trans (by decide) hm) ?_
    | with_reducible refine State.setPhases_keeps _ _ _ _ _ _ _ (Mask.trans (by decide) hm) ?_
    | with_reducible refine State.setRail_keeps _ _ _ _ _ (Mask.trans (by decide) hm) ?_
    | split)

theorem State.readmit_keeps (m : Nat) (s0 : State) (s : State) (n : Nat) (hi : Bool) (data : Nat) (hm : 0x3000000000000000000000000004000 &&& m = 0x3000000000000000000000000004000)
    (hk : Kept m s0 s) : Kept m s0 (State.readmit s n hi data) := by
  unfold State.readmit
  try dsimp only
  repeat' (first
    | with_reducible assumption
    | with_reducible apply Kept.ite
    | with_reducible refine State.setRail_keeps _ _ _ _ _ (Mask.trans (by decide) hm) ?_
    | with_reducible refine Kept.each ?_ (fun _ _ _ => ?_)
    | with_reducible refine State.setFld_at .RAIL_PH_FAULT ⟨_, rfl⟩ (Mask.trans (by decide) hm) ?_
    | with_reducible refine State.setFld_at .RAIL_PH_FAULT_HI ⟨_, rfl⟩ (Mask.trans (by decide) hm) ?_
    | split)

theorem State.logTarget_keeps (m : Nat) (s0 : State) (s : State) (n : Nat) (hm : 0x1000000000000000000000000000000000000001000 &&& m = 0x1000000000000000000000000000000000000001000)
    (hk : Kept m s0 s) : Kept m s0 (State.logTarget s n) := by
  unfold State.logTarget
  try dsimp only
  repeat' (first
    | with_reducible assumption
    | with_reducible apply Kept.ite
    | with_reducible refine State.logRail_keeps _ _ _ _ _ _ (Mask.trans (by decide) hm) ?_
    | split)

theorem State.sampleVref_keeps (m : Nat) (s0 : State) (s : State) (n : Nat) (hm : 0x1000000000030000000000000000000000000005081 &&& m = 0x1000000000030000000000000000000000000005081)
    (hk : Kept m s0 s) : Kept m s0 (State.sampleVref s n) := by
  unfold State.sampleVref
  try dsimp only
  repeat' (first
    | with_reducible assumption
    | with_reducible apply Kept.ite
    | with_reducible refine State.setRail_keeps _ _ _ _ _ (Mask.trans (by decide) hm) ?_
    | with_reducible refine State.logTarget_keeps _ _ _ _ (Mask.trans (by decide) hm) ?_
    | with_reducible refine State.abortInj_keeps _ _ _ _ _ (Mask.trans (by decide) hm) ?_
    | split)

theorem State.noteSat_keeps (m : Nat) (s0 : State) (s : State) (n : Nat) (flags : Nat) (hm : 0x1000000000040080000000000000000000000005000 &&& m = 0x1000000000040080000000000000000000000005000)
    (hk : Kept m s0 s) : Kept m s0 (State.noteSat s n flags) := by
  unfold State.noteSat
  try dsimp only
  repeat' (first
    | with_reducible assumption
    | with_reducible apply Kept.ite
    | with_reducible refine State.logRail_keeps _ _ _ _ _ _ (Mask.trans (by decide) hm) ?_
    | with_reducible refine State.capEvent_keeps _ _ _ _ _ (Mask.trans (by decide) hm) ?_
    | with_reducible refine State.setReg_at .RAIL_SAT ⟨_, rfl⟩ (Mask.trans (by decide) hm) ?_)

theorem State.tripRail_keeps (m : Nat) (s0 : State) (s : State) (n : Nat) (e : Int) (hm : 0x81c00003000000000070040000000000000000000080005981 &&& m = 0x81c00003000000000070040000000000000000000080005981)
    (hk : Kept m s0 s) : Kept m s0 (State.tripRail s n e) := by
  unfold State.tripRail
  try dsimp only
  repeat' (first
    | with_reducible assumption
    | with_reducible apply Kept.ite
    | with_reducible refine State.dropPhases_keeps _ _ _ _ (Mask.trans (by decide) hm) ?_
    | with_reducible refine State.setRail_keeps _ _ _ _ _ (Mask.trans (by decide) hm) ?_
    | with_reducible refine State.logRail_keeps _ _ _ _ _ _ (Mask.trans (by decide) hm) ?_
    | with_reducible refine State.ringEvent_keeps _ _ _ _ (Mask.trans (by decide) hm) ?_
    | with_reducible refine State.capEvent_keeps _ _ _ _ _ (Mask.trans (by decide) hm) ?_
    | with_reducible refine State.raise_keeps _ _ _ _ _ _ (Mask.trans (by decide) hm) ?_
    | with_reducible refine State.leaveHold_keeps _ _ _ _ (Mask.trans (by decide) hm) ?_
    | with_reducible refine State.abortAllInj_keeps _ _ _ _ (Mask.trans (by decide) hm) ?_
    | with_reducible refine State.setFld_at .RAIL_STATUS ⟨_, rfl⟩ (Mask.trans (by decide) hm) ?_
    | with_reducible refine State.setFlag_at .RAIL_STATUS ⟨_, rfl⟩ (Mask.trans (by decide) hm) ?_
    | split)

theorem State.sampleHold_keeps (m : Nat) (s0 : State) (s : State) (n : Nat) (hm : 0x81c000030000000000740c0000000000000000000080005981 &&& m = 0x81c000030000000000740c0000000000000000000080005981)
    (hk : Kept m s0 s) : Kept m s0 (State.sampleHold s n) := by
  unfold State.sampleHold
  try dsimp only
  repeat' (first
    | with_reducible assumption
    | with_reducible apply Kept.ite
    | with_reducible refine State.enterHold_keeps _ _ _ _ (Mask.trans (by decide) hm) ?_
    | with_reducible refine State.setRail_keeps _ _ _ _ _ (Mask.trans (by decide) hm) ?_
    | with_reducible refine State.noteSat_keeps _ _ _ _ _ (Mask.trans (by decide) hm) ?_
    | with_reducible refine State.railTo_keeps _ _ _ _ _ (Mask.trans (by decide) hm) ?_
    | with_reducible refine State.leaveHold_keeps _ _ _ _ (Mask.trans (by decide) hm) ?_
    | with_reducible refine State.logRail_keeps _ _ _ _ _ _ (Mask.trans (by decide) hm) ?_
    | split)

theorem State.sampleLaw_keeps (m : Nat) (s0 : State) (s : State) (n : Nat) (code : Option Int) (resumed : Bool) (hm : 0x1000000000040080400000000000000000000005400 &&& m = 0x1000000000040080400000000000000000000005400)
    (hk : Kept m s0 s) : Kept m s0 (State.sampleLaw s n code resumed) := by
  unfold State.sampleLaw
  try dsimp only
  repeat' (first
    | with_reducible assumption
    | with_reducible apply Kept.ite
    | with_reducible refine State.takeFF_keeps _ _ _ (Mask.trans (by decide) hm) ?_
    | with_reducible refine State.setRail_keeps _ _ _ _ _ (Mask.trans (by decide) hm) ?_
    | with_reducible refine State.noteSat_keeps _ _ _ _ _ (Mask.trans (by decide) hm) ?_
    | split)

theorem State.sampleGuard_keeps (m : Nat) (s0 : State) (s : State) (n : Nat) (inp : SampleIn) (hm : 0x1000000000030000000000000000000000000005081 &&& m = 0x1000000000030000000000000000000000000005081)
    (hk : Kept m s0 s) : Kept m s0 (State.sampleGuard s n inp) := by
  unfold State.sampleGuard
  try dsimp only
  repeat' (first
    | with_reducible assumption
    | with_reducible apply Kept.ite
    | with_reducible refine State.abortAllInj_keeps _ _ _ _ (Mask.trans (by decide) hm) ?_
    | split)

theorem State.sampleProtect_keeps (m : Nat) (s0 : State) (s : State) (n : Nat) (inp : SampleIn) (hm : 0x81c00003000000000070040000000000000000000080005981 &&& m = 0x81c00003000000000070040000000000000000000080005981)
    (hk : Kept m s0 s) : Kept m s0 (State.sampleProtect s n inp).1 := by
  unfold State.sampleProtect
  try dsimp only
  repeat' (first
    | with_reducible assumption
    | with_reducible apply Kept.ite
    | with_reducible refine State.setRail_keeps _ _ _ _ _ (Mask.trans (by decide) hm) ?_
    | with_reducible refine State.logRail_keeps _ _ _ _ _ _ (Mask.trans (by decide) hm) ?_
    | with_reducible refine State.ringEvent_keeps _ _ _ _ (Mask.trans (by decide) hm) ?_
    | with_reducible refine State.capEvent_keeps _ _ _ _ _ (Mask.trans (by decide) hm) ?_
    | with_reducible refine State.raise_keeps _ _ _ _ _ _ (Mask.trans (by decide) hm) ?_
    | with_reducible refine State.tripRail_keeps _ _ _ _ _ (Mask.trans (by decide) hm) ?_
    | split
    | dsimp only)

theorem State.sampleTarget_keeps (m : Nat) (s0 : State) (s : State) (n : Nat) (hm : 0x40000000000000000000000004000 &&& m = 0x40000000000000000000000004000)
    (hk : Kept m s0 s) : Kept m s0 (State.sampleTarget s n) := by
  unfold State.sampleTarget
  try dsimp only
  repeat' (first
    | with_reducible assumption
    | with_reducible apply Kept.ite
    | with_reducible refine State.setRail_keeps _ _ _ _ _ (Mask.trans (by decide) hm) ?_
    | with_reducible refine State.setFlag_at .RAIL_STATUS ⟨_, rfl⟩ (Mask.trans (by decide) hm) ?_)

theorem State.injTrigger_keeps (m : Nat) (s0 : State) (s : State) (n : Nat) (caps : Nat) (hm : 0x40000000000000000000000000004000 &&& m = 0x40000000000000000000000000004000)
    (hk : Kept m s0 s) : Kept m s0 (State.injTrigger s n caps) := by
  unfold State.injTrigger
  try dsimp only
  repeat' (first
    | with_reducible assumption
    | with_reducible apply Kept.ite
    | with_reducible refine State.trigCap_keeps _ _ _ _ _ (Mask.trans (by decide) hm) ?_
    | with_reducible refine State.setRail_keeps _ _ _ _ _ (Mask.trans (by decide) hm) ?_
    | with_reducible refine Kept.each ?_ (fun _ _ _ => ?_)
    | split)

theorem State.sampleGhosts_keeps (m : Nat) (s0 : State) (s : State) (n : Nat) (hm : 0x40000000000000000000000000004000 &&& m = 0x40000000000000000000000000004000)
    (hk : Kept m s0 s) : Kept m s0 (State.sampleGhosts s n) := by
  unfold State.sampleGhosts
  try dsimp only
  repeat' (first
    | with_reducible assumption
    | with_reducible apply Kept.ite
    | with_reducible refine State.setRail_keeps _ _ _ _ _ (Mask.trans (by decide) hm) ?_
    | with_reducible refine State.injTrigger_keeps _ _ _ _ _ (Mask.trans (by decide) hm) ?_
    | with_reducible refine Kept.each ?_ (fun _ _ _ => ?_)
    | split)

theorem State.countSample_keeps (m : Nat) (s0 : State) (s : State) (n : Nat) (hm : 0x4000 &&& m = 0x4000)
    (hk : Kept m s0 s) : Kept m s0 (State.countSample s n) := by
  unfold State.countSample
  try dsimp only
  repeat' (first
    | with_reducible assumption
    | with_reducible apply Kept.ite
    | with_reducible refine State.setRail_keeps _ _ _ _ _ (Mask.trans (by decide) hm) ?_
    | split)

theorem State.sampleInj_keeps (m : Nat) (s0 : State) (s : State) (n : Nat) (hm : 0x1000000000070000000000000000000000000005081 &&& m = 0x1000000000070000000000000000000000000005081)
    (hk : Kept m s0 s) : Kept m s0 (State.sampleInj s n) := by
  unfold State.sampleInj
  try dsimp only
  repeat' (first
    | with_reducible assumption
    | with_reducible apply Kept.ite
    | with_reducible refine State.countSample_keeps _ _ _ _ (Mask.trans (by decide) hm) ?_
    | with_reducible refine State.sampleGhosts_keeps _ _ _ _ (Mask.trans (by decide) hm) ?_
    | with_reducible refine State.injTrigger_keeps _ _ _ _ _ (Mask.trans (by decide) hm) ?_
    | with_reducible refine State.setRail_keeps _ _ _ _ _ (Mask.trans (by decide) hm) ?_
    | with_reducible refine State.abortInj_keeps _ _ _ _ _ (Mask.trans (by decide) hm) ?_
    | split)

theorem State.injOver_keeps (m : Nat) (s0 : State) (s : State) (n : Nat) (hm : 0x1000000000030000000000000000000000000005001 &&& m = 0x1000000000030000000000000000000000000005001)
    (hk : Kept m s0 s) : Kept m s0 (State.injOver s n) := by
  unfold State.injOver
  try dsimp only
  repeat' (first
    | with_reducible assumption
    | with_reducible apply Kept.ite
    | with_reducible refine State.endInj_keeps _ _ _ _ (Mask.trans (by decide) hm) ?_
    | split)

theorem State.capDue_keeps (m : Nat) (s0 : State) (s : State) (n : Nat) (hm : 0x40000000000000000000000000004000 &&& m = 0x40000000000000000000000000004000)
    (hk : Kept m s0 s) : Kept m s0 (State.capDue s n) := by
  unfold State.capDue
  try dsimp only
  repeat' (first
    | with_reducible assumption
    | with_reducible apply Kept.ite
    | with_reducible refine State.trigCap_keeps _ _ _ _ _ (Mask.trans (by decide) hm) ?_
    | with_reducible refine State.setRail_keeps _ _ _ _ _ (Mask.trans (by decide) hm) ?_)

theorem State.showRail_keeps (m : Nat) (s0 : State) (s : State) (n : Nat) (hm : 0xf40000000000000000000000000000 &&& m = 0xf40000000000000000000000000000)
    (hk : Kept m s0 s) : Kept m s0 (State.showRail s n) := by
  unfold State.showRail
  try dsimp only
  repeat' (first
    | with_reducible assumption
    | with_reducible refine State.setFld_at .RAIL_STATUS ⟨_, rfl⟩ (Mask.trans (by decide) hm) ?_
    | with_reducible refine State.setFld_at .RAIL_LOOP ⟨_, rfl⟩ (Mask.trans (by decide) hm) ?_
    | with_reducible refine State.setReg_at .RAIL_INTEG ⟨_, rfl⟩ (Mask.trans (by decide) hm) ?_
    | with_reducible refine State.setFld_at .RAIL_SNS ⟨_, rfl⟩ (Mask.trans (by decide) hm) ?_
    | with_reducible refine State.setFld_at .RAIL_IMEAS ⟨_, rfl⟩ (Mask.trans (by decide) hm) ?_)

theorem State.sampleMeter_keeps (m : Nat) (s0 : State) (s : State) (n : Nat) (code : Option Int) (snsRef : Nat) (hm : 0x4000 &&& m = 0x4000)
    (hk : Kept m s0 s) : Kept m s0 (State.sampleMeter s n code snsRef) := by
  unfold State.sampleMeter
  try dsimp only
  repeat' (first
    | with_reducible assumption
    | with_reducible apply Kept.ite
    | with_reducible refine State.setRail_keeps _ _ _ _ _ (Mask.trans (by decide) hm) ?_
    | split)

theorem State.sampleSearch_keeps (m : Nat) (s0 : State) (s : State) (n : Nat) (w : Nat) (inp : SampleIn) (hm : 0x1000000000000000000000000000000000000005000 &&& m = 0x1000000000000000000000000000000000000005000)
    (hk : Kept m s0 s) : Kept m s0 (State.sampleSearch s n w inp).1 := by
  unfold State.sampleSearch
  try dsimp only
  repeat' (first
    | with_reducible assumption
    | with_reducible apply Kept.ite
    | with_reducible refine State.setRail_keeps _ _ _ _ _ (Mask.trans (by decide) hm) ?_
    | with_reducible refine State.logTarget_keeps _ _ _ _ (Mask.trans (by decide) hm) ?_
    | with_reducible refine State.setPhases_keeps _ _ _ _ _ _ _ (Mask.trans (by decide) hm) ?_
    | split
    | dsimp only)

theorem State.dropFF_keeps (m : Nat) (s0 : State) (s : State) (n : Nat) (hm : 0x400000000000000000000000400 &&& m = 0x400000000000000000000000400)
    (hk : Kept m s0 s) : Kept m s0 (State.dropFF s n) := by
  unfold State.dropFF
  try dsimp only
  repeat' (first
    | with_reducible assumption
    | with_reducible apply Kept.ite
    | with_reducible refine State.takeFF_keeps _ _ _ (Mask.trans (by decide) hm) ?_
    | split)

theorem State.sampleCap_keeps (m : Nat) (s0 : State) (s : State) (n : Nat) (count : Nat) (code : Option Int) (hm : 0xc0000000000000000000000000004000 &&& m = 0xc0000000000000000000000000004000)
    (hk : Kept m s0 s) : Kept m s0 (State.sampleCap s n count code) := by
  unfold State.sampleCap
  try dsimp only
  repeat' (first
    | with_reducible assumption
    | with_reducible apply Kept.ite
    | with_reducible refine State.capDue_keeps _ _ _ _ (Mask.trans (by decide) hm) ?_
    | with_reducible refine State.capPush_keeps _ _ _ _ _ (Mask.trans (by decide) hm) ?_
    | split)

theorem State.loadScales_keeps (m : Nat) (s0 : State) (s : State) (n : Nat) (hm : 0x4000 &&& m = 0x4000)
    (hk : Kept m s0 s) : Kept m s0 (State.loadScales s n) := by
  unfold State.loadScales
  try dsimp only
  repeat' (first
    | with_reducible assumption
    | with_reducible apply Kept.ite
    | with_reducible refine State.setRail_keeps _ _ _ _ _ (Mask.trans (by decide) hm) ?_
    | with_reducible refine Kept.each ?_ (fun _ _ _ => ?_)
    | split)

theorem State.loadPulses_keeps (m : Nat) (s0 : State) (s : State) (n : Nat) (hm : 0x4000 &&& m = 0x4000)
    (hk : Kept m s0 s) : Kept m s0 (State.loadPulses s n) := by
  unfold State.loadPulses
  try dsimp only
  repeat' (first
    | with_reducible assumption
    | with_reducible apply Kept.ite
    | with_reducible refine State.loadScales_keeps _ _ _ _ (Mask.trans (by decide) hm) ?_
    | with_reducible refine State.setRail_keeps _ _ _ _ _ (Mask.trans (by decide) hm) ?_
    | split)

theorem State.sampleIdle_keeps (m : Nat) (s0 : State) (s : State) (n : Nat) (code : Option Int) (hm : 0x4000 &&& m = 0x4000)
    (hk : Kept m s0 s) : Kept m s0 (State.sampleIdle s n code) := by
  unfold State.sampleIdle
  try dsimp only
  repeat' (first
    | with_reducible assumption
    | with_reducible apply Kept.ite
    | with_reducible refine State.setRail_keeps _ _ _ _ _ (Mask.trans (by decide) hm) ?_
    | with_reducible refine State.loadPulses_keeps _ _ _ _ (Mask.trans (by decide) hm) ?_
    | with_reducible refine State.sampleMeter_keeps _ _ _ _ _ _ (Mask.trans (by decide) hm) ?_
    | split)

theorem State.sample_keeps (m : Nat) (s0 : State) (s : State) (n : Nat) (inp : SampleIn) (hm : 0x81c000030000000000f7fc0400000000000000000080005d81 &&& m = 0x81c000030000000000f7fc0400000000000000000080005d81)
    (hk : Kept m s0 s) : Kept m s0 ((State.sample s n inp).1) := by
  unfold State.sample
  try dsimp only
  repeat' (first
    | with_reducible assumption
    | with_reducible apply Kept.ite
    | with_reducible refine State.sampleChannels_keeps _ _ _ _ _ (Mask.trans (by decide) hm) ?_
    | with_reducible refine State.dropFF_keeps _ _ _ _ (Mask.trans (by decide) hm) ?_
    | with_reducible refine State.sampleExclusions_keeps _ _ _ _ _ (Mask.trans (by decide) hm) ?_
    | with_reducible refine State.sampleIdle_keeps _ _ _ _ _ (Mask.trans (by decide) hm) ?_
    | with_reducible refine State.sampleInj_keeps _ _ _ _ (Mask.trans (by decide) hm) ?_
    | with_reducible refine State.sampleCap_keeps _ _ _ _ _ _ (Mask.trans (by decide) hm) ?_
    | with_reducible refine State.injOver_keeps _ _ _ _ (Mask.trans (by decide) hm) ?_
    | with_reducible refine State.sampleMeter_keeps _ _ _ _ _ _ (Mask.trans (by decide) hm) ?_
    | with_reducible refine State.sampleSearch_keeps _ _ _ _ _ _ (Mask.trans (by decide) hm) ?_
    | with_reducible refine State.setRail_keeps _ _ _ _ _ (Mask.trans (by decide) hm) ?_
    | with_reducible refine State.loadPulses_keeps _ _ _ _ (Mask.trans (by decide) hm) ?_
    | with_reducible refine State.showRail_keeps _ _ _ _ (Mask.trans (by decide) hm) ?_
    | with_reducible refine State.sampleHold_keeps _ _ _ _ (Mask.trans (by decide) hm) ?_
    | with_reducible refine State.samplePhases_keeps _ _ _ _ (Mask.trans (by decide) hm) ?_
    | with_reducible refine State.sampleVref_keeps _ _ _ _ (Mask.trans (by decide) hm) ?_
    | with_reducible refine State.sampleGuard_keeps _ _ _ _ _ (Mask.trans (by decide) hm) ?_
    | with_reducible refine State.sampleLaw_keeps _ _ _ _ _ _ (Mask.trans (by decide) hm) ?_
    | with_reducible refine State.sampleProtect_keeps _ _ _ _ _ (Mask.trans (by decide) hm) ?_
    | with_reducible refine State.sampleTarget_keeps _ _ _ _ (Mask.trans (by decide) hm) ?_
    | dsimp only
    | split
    | dsimp only)

theorem State.railStart_keeps (m : Nat) (s0 : State) (s : State) (n : Nat) (hm : 0x1000000000000040000000000000000000000005000 &&& m = 0x1000000000000040000000000000000000000005000)
    (hk : Kept m s0 s) : Kept m s0 (State.railStart s n) := by
  unfold State.railStart
  try dsimp only
  repeat' (first
    | with_reducible assumption
    | with_reducible apply Kept.ite
    | with_reducible refine State.dropPhases_keeps _ _ _ _ (Mask.trans (by decide) hm) ?_
    | with_reducible refine State.railTo_keeps _ _ _ _ _ (Mask.trans (by decide) hm) ?_
    | with_reducible refine State.setRail_keeps _ _ _ _ _ (Mask.trans (by decide) hm) ?_
    | split)

theorem State.railDown_keeps (m : Nat) (s0 : State) (s : State) (n : Nat) (hm : 0x81c00001000000000000040000000000000000000080005900 &&& m = 0x81c00001000000000000040000000000000000000080005900)
    (hk : Kept m s0 s) : Kept m s0 (State.railDown s n) := by
  unfold State.railDown
  try dsimp only
  repeat' (first
    | with_reducible assumption
    | with_reducible apply Kept.ite
    | with_reducible refine State.railTo_keeps _ _ _ _ _ (Mask.trans (by decide) hm) ?_
    | with_reducible refine State.setRail_keeps _ _ _ _ _ (Mask.trans (by decide) hm) ?_
    | with_reducible refine State.leaveHold_keeps _ _ _ _ (Mask.trans (by decide) hm) ?_
    | with_reducible refine State.setFlag_at .RAIL_STATUS ⟨_, rfl⟩ (Mask.trans (by decide) hm) ?_)

theorem State.railOff_keeps (m : Nat) (s0 : State) (s : State) (n : Nat) (hm : 0x1000000000000f40000000000000000000000005000 &&& m = 0x1000000000000f40000000000000000000000005000)
    (hk : Kept m s0 s) : Kept m s0 (State.railOff s n) := by
  unfold State.railOff
  try dsimp only
  repeat' (first
    | with_reducible assumption
    | with_reducible apply Kept.ite
    | with_reducible refine State.dropPhases_keeps _ _ _ _ (Mask.trans (by decide) hm) ?_
    | with_reducible refine State.railTo_keeps _ _ _ _ _ (Mask.trans (by decide) hm) ?_
    | with_reducible refine State.setRail_keeps _ _ _ _ _ (Mask.trans (by decide) hm) ?_
    | with_reducible refine State.showRail_keeps _ _ _ _ (Mask.trans (by decide) hm) ?_
    | split)

theorem State.holdExpires_keeps (m : Nat) (s0 : State) (s : State) (n : Nat) (hm : 0x1000000000000000000000000000000000000005086 &&& m = 0x1000000000000000000000000000000000000005086)
    (hk : Kept m s0 s) : Kept m s0 (State.holdExpires s n) := by
  unfold State.holdExpires
  try dsimp only
  repeat' (first
    | with_reducible assumption
    | with_reducible refine State.advanceTo_keeps _ _ _ _ (Mask.trans (by decide) hm) ?_
    | with_reducible refine State.setRail_keeps _ _ _ _ _ (Mask.trans (by decide) hm) ?_
    | with_reducible refine State.logRail_keeps _ _ _ _ _ _ (Mask.trans (by decide) hm) ?_
    | with_reducible refine State.raise_keeps _ _ _ _ _ _ (Mask.trans (by decide) hm) ?_
    | split)

end Sys2Proof.Machine
end

