-- ==== Sys2Proof/Laws/KeepsLimiter.lean ====
section
/-! SUPPORT. What each operation of Machine/Limiter.lean keeps: every place outside its mask, the register store's form, the resets' levels,
the outputs so far, time and the queue. -/

namespace Sys2Proof.Machine

theorem State.accrueReasons_keeps (m : Nat) (s0 s : State) (hm : 0x8000000000000000000800000 &&& m = 0x8000000000000000000800000) (hk : Kept m s0 s) :
    Kept m s0 s.accrueReasons := by
  unfold State.accrueReasons
  refine Kept.each (Kept.set_lim (Mask.trans (by decide) hm) hk) (fun c t ht => ?_)
  exact State.setReg64_at .BUD_RSN_NS ⟨2 * c, rfl⟩ ⟨2 * c + 1, by simp only [BUD_RSN_NS]; omega⟩ (Mask.trans (by decide) hm) ht

theorem State.noteCalm_keeps (m : Nat) (s0 : State) (s : State) (hm : 0x800000 &&& m = 0x800000)
    (hk : Kept m s0 s) : Kept m s0 (State.noteCalm s) := by
  unfold State.noteCalm
  try dsimp only
  repeat' (first
    | with_reducible assumption
    | with_reducible apply Kept.ite
    | (simp only [Kept.made]; with_reducible refine Kept.set_lim (Mask.trans (by decide) hm) ?_)
    | split)

theorem State.noteReasons_keeps (m : Nat) (s0 : State) (s : State) (hm : 0xc400000000000000000800000 &&& m = 0xc400000000000000000800000)
    (hk : Kept m s0 s) : Kept m s0 (State.noteReasons s) := by
  unfold State.noteReasons
  try dsimp only
  repeat' (first
    | with_reducible assumption
    | with_reducible apply Kept.ite
    | with_reducible refine State.noteCalm_keeps _ _ _ (Mask.trans (by decide) hm) ?_
    | with_reducible refine State.accrueReasons_keeps _ _ _ (Mask.trans (by decide) hm) ?_
    | with_reducible refine State.setFld_at .BUD_RSN_ACTIVE rfl (Mask.trans (by decide) hm) ?_
    | with_reducible refine State.incSat_at .BUD_RSN_CNT ⟨_, rfl⟩ (Mask.trans (by decide) hm) ?_
    | with_reducible refine Kept.each ?_ (fun _ _ _ => ?_)
    | (simp only [Kept.made]; with_reducible refine Kept.set_lim (Mask.trans (by decide) hm) ?_))

theorem State.edges_keeps (m : Nat) (s0 : State) (n : Nat) (s : State) (c code : Nat) (hm : 0x300000000000000700c400000000000000000801200 &&& m = 0x300000000000000700c400000000000000000801200)
    (h : Kept m s0 s) : Kept m s0 (State.edges n s c code) := by
  induction n generalizing s with
  | zero => exact h
  | succ n ih => exact ih _ (State.noteReasons_keeps m s0 _ (Mask.trans (by decide) hm) (State.edge_keeps m s0 s c code (Mask.trans (by decide) hm) h))

theorem State.edgesToDrop_keeps (m : Nat) (s0 : State) (n : Nat) (s : State) (c code : Nat) (hm : 0x300000000000000700c400000000000000000801200 &&& m = 0x300000000000000700c400000000000000000801200)
    (h : Kept m s0 s) : Kept m s0 (State.edgesToDrop n s c code) := by
  induction n generalizing s with
  | zero => exact h
  | succ n ih =>
    have h1 := State.noteReasons_keeps m s0 _ (Mask.trans (by decide) hm) (State.edge_keeps m s0 s c code (Mask.trans (by decide) hm) h)
    simp only [State.edgesToDrop]
    split
    · exact h1
    · exact ih _ h1

theorem State.compute_keeps (m : Nat) (s0 : State) (s : State) (hm : 0x1000000000000000090200000000000000000001000 &&& m = 0x1000000000000000090200000000000000000001000)
    (hk : Kept m s0 s) : Kept m s0 (State.compute s) := by
  unfold State.compute
  try dsimp only
  repeat' (first
    | with_reducible assumption
    | with_reducible apply Kept.ite
    | with_reducible refine State.logArb_keeps _ _ _ _ _ (Mask.trans (by decide) hm) ?_
    | with_reducible refine State.setFld_at .BUD_CAPS rfl (Mask.trans (by decide) hm) ?_
    | with_reducible refine State.setFld_at .OPP_STATUS rfl (Mask.trans (by decide) hm) ?_
    | with_reducible refine State.setFld_at .ADM_CEILING rfl (Mask.trans (by decide) hm) ?_)

theorem State.setStep_keeps (m : Nat) (s0 : State) (s : State) (k : OppStep) (hm : 0x10000000000000000000800000 &&& m = 0x10000000000000000000800000)
    (hk : Kept m s0 s) : Kept m s0 (State.setStep s k) := by
  unfold State.setStep
  try dsimp only
  repeat' (first
    | with_reducible assumption
    | with_reducible refine State.setFlag_at .OPP_STATUS rfl (Mask.trans (by decide) hm) ?_
    | (simp only [Kept.made]; with_reducible refine Kept.set_lim (Mask.trans (by decide) hm) ?_))

theorem State.moveVolts_keeps (m : Nat) (s0 : State) (s : State) (k : Nat) (hm : 0x10000000000000000000800000 &&& m = 0x10000000000000000000800000)
    (hk : Kept m s0 s) : Kept m s0 (State.moveVolts s k) := by
  unfold State.moveVolts
  try dsimp only
  repeat' (first
    | with_reducible assumption
    | with_reducible apply Kept.ite
    | with_reducible refine State.setFld_at .OPP_STATUS rfl (Mask.trans (by decide) hm) ?_
    | (simp only [Kept.made]; with_reducible refine Kept.set_lim (Mask.trans (by decide) hm) ?_)
    | split)

theorem State.cancelUp_keeps (m : Nat) (s0 : State) (s : State) (hm : 0x10000000000000000000800000 &&& m = 0x10000000000000000000800000)
    (hk : Kept m s0 s) : Kept m s0 (State.cancelUp s) := by
  unfold State.cancelUp
  try dsimp only
  repeat' (first
    | with_reducible assumption
    | with_reducible apply Kept.ite
    | with_reducible refine State.setStep_keeps _ _ _ _ (Mask.trans (by decide) hm) ?_
    | with_reducible refine State.moveVolts_keeps _ _ _ _ (Mask.trans (by decide) hm) ?_
    | split)

theorem State.operandChange_keeps (m : Nat) (s0 : State) (s : State) (hm : 0x100000000000000009c600000000000000000801000 &&& m = 0x100000000000000009c600000000000000000801000)
    (hk : Kept m s0 s) : Kept m s0 (State.operandChange s) := by
  unfold State.operandChange
  try dsimp only
  repeat' (first
    | with_reducible assumption
    | with_reducible refine State.compute_keeps _ _ _ (Mask.trans (by decide) hm) ?_
    | with_reducible refine State.cancelUp_keeps _ _ _ (Mask.trans (by decide) hm) ?_
    | with_reducible refine State.noteReasons_keeps _ _ _ (Mask.trans (by decide) hm) ?_)

theorem State.stepStart_keeps (m : Nat) (s0 : State) (s : State) (hm : 0x10000000000000000000800206 &&& m = 0x10000000000000000000800206)
    (hk : Kept m s0 s) : Kept m s0 (State.stepStart s) := by
  unfold State.stepStart
  try dsimp only
  repeat' (first
    | with_reducible assumption
    | with_reducible apply Kept.ite
    | with_reducible refine State.setStep_keeps _ _ _ _ (Mask.trans (by decide) hm) ?_
    | with_reducible refine State.advanceTo_keeps _ _ _ _ (Mask.trans (by decide) hm) ?_
    | with_reducible refine State.moveVolts_keeps _ _ _ _ (Mask.trans (by decide) hm) ?_
    | with_reducible refine State.stepBegins_keeps _ _ _ (Mask.trans (by decide) hm) ?_
    | (simp only [Kept.made]; with_reducible refine Kept.set_lim (Mask.trans (by decide) hm) ?_)
    | split)

theorem State.handshakeStart_keeps (m : Nat) (s0 : State) (s : State) (hm : 0x10000000000000000000800200 &&& m = 0x10000000000000000000800200)
    (hk : Kept m s0 s) : Kept m s0 (State.handshakeStart s) := by
  unfold State.handshakeStart
  try dsimp only
  repeat' (first
    | with_reducible assumption
    | with_reducible apply Kept.ite
    | with_reducible refine State.stepBegins_keeps _ _ _ (Mask.trans (by decide) hm) ?_
    | with_reducible refine State.setFlag_at .OPP_STATUS rfl (Mask.trans (by decide) hm) ?_
    | (simp only [Kept.made]; with_reducible refine Kept.set_lim (Mask.trans (by decide) hm) ?_)
    | split)

theorem State.stepDone_keeps (m : Nat) (s0 : State) (s : State) (hm : 0x10000000000000000000800000 &&& m = 0x10000000000000000000800000)
    (hk : Kept m s0 s) : Kept m s0 (State.stepDone s) := by
  unfold State.stepDone
  try dsimp only
  repeat' (first
    | with_reducible assumption
    | with_reducible refine State.setStep_keeps _ _ _ _ (Mask.trans (by decide) hm) ?_)

theorem State.finishRestep_keeps (m : Nat) (s0 : State) (s : State) (hm : 0x10000000000000000000800000 &&& m = 0x10000000000000000000800000)
    (hk : Kept m s0 s) : Kept m s0 (State.finishRestep s) := by
  unfold State.finishRestep
  try dsimp only
  repeat' (first
    | with_reducible assumption
    | with_reducible apply Kept.ite
    | with_reducible refine State.stepDone_keeps _ _ _ (Mask.trans (by decide) hm) ?_
    | (simp only [Kept.made]; with_reducible refine Kept.set_lim (Mask.trans (by decide) hm) ?_)
    | split)

theorem State.loadTrims_keeps (m : Nat) (s0 : State) (s : State) (k : Nat) (hm : 0x200 &&& m = 0x200)
    (hk : Kept m s0 s) : Kept m s0 (State.loadTrims s k) := by
  unfold State.loadTrims
  try dsimp only
  repeat' (first
    | with_reducible assumption
    | with_reducible apply Kept.ite
    | with_reducible refine State.loadTrim_keeps _ _ _ _ _ (Mask.trans (by decide) hm) ?_
    | with_reducible refine Kept.each ?_ (fun _ _ _ => ?_)
    | split)

theorem State.startCals_keeps (m : Nat) (s0 : State) (s : State) (hm : 0x200 &&& m = 0x200)
    (hk : Kept m s0 s) : Kept m s0 (State.startCals s) := by
  unfold State.startCals
  try dsimp only
  repeat' (first
    | with_reducible assumption
    | with_reducible refine State.startCal_keeps _ _ _ _ (Mask.trans (by decide) hm) ?_
    | with_reducible refine Kept.each ?_ (fun _ _ _ => ?_))

theorem State.settleStep_keeps (m : Nat) (s0 : State) (s : State) (hm : 0x800200 &&& m = 0x800200)
    (hk : Kept m s0 s) : Kept m s0 (State.settleStep s) := by
  unfold State.settleStep
  try dsimp only
  repeat' (first
    | with_reducible assumption
    | with_reducible apply Kept.ite
    | with_reducible refine State.setAgent_keeps _ _ _ _ _ (Mask.trans (by decide) hm) ?_
    | with_reducible refine State.startCals_keeps _ _ _ (Mask.trans (by decide) hm) ?_
    | (simp only [Kept.made]; with_reducible refine Kept.set_lim (Mask.trans (by decide) hm) ?_)
    | with_reducible refine Kept.each ?_ (fun _ _ _ => ?_)
    | split)

theorem State.restepStart_keeps (m : Nat) (s0 : State) (s : State) (old : Nat × Nat) (hm : 0x10000000000000000000800200 &&& m = 0x10000000000000000000800200)
    (hk : Kept m s0 s) : Kept m s0 (State.restepStart s old) := by
  unfold State.restepStart
  try dsimp only
  repeat' (first
    | with_reducible assumption
    | with_reducible apply Kept.ite
    | with_reducible refine State.stepDone_keeps _ _ _ (Mask.trans (by decide) hm) ?_
    | with_reducible refine State.loadTrims_keeps _ _ _ _ (Mask.trans (by decide) hm) ?_
    | with_reducible refine State.startCals_keeps _ _ _ (Mask.trans (by decide) hm) ?_
    | with_reducible refine State.moveVolts_keeps _ _ _ _ (Mask.trans (by decide) hm) ?_
    | with_reducible refine State.setStep_keeps _ _ _ _ (Mask.trans (by decide) hm) ?_
    | with_reducible refine State.stepBegins_keeps _ _ _ (Mask.trans (by decide) hm) ?_
    | with_reducible refine State.setFld_at .OPP_STATUS rfl (Mask.trans (by decide) hm) ?_
    | (simp only [Kept.made]; with_reducible refine Kept.set_lim (Mask.trans (by decide) hm) ?_)
    | split)

theorem State.restepNow_keeps (m : Nat) (s0 : State) (s : State) (hm : 0x10000000000000000000800200 &&& m = 0x10000000000000000000800200)
    (hk : Kept m s0 s) : Kept m s0 (State.restepNow s) := by
  unfold State.restepNow
  try dsimp only
  repeat' (first
    | with_reducible assumption
    | with_reducible apply Kept.ite
    | with_reducible refine State.restepStart_keeps _ _ _ _ (Mask.trans (by decide) hm) ?_
    | split)

theorem State.restepDue_keeps (m : Nat) (s0 : State) (s : State) (hm : 0x10000000000000000000800200 &&& m = 0x10000000000000000000800200)
    (hk : Kept m s0 s) : Kept m s0 (State.restepDue s) := by
  unfold State.restepDue
  try dsimp only
  repeat' (first
    | with_reducible assumption
    | with_reducible apply Kept.ite
    | with_reducible refine State.restepNow_keeps _ _ _ (Mask.trans (by decide) hm) ?_
    | split)

theorem State.atZero_keeps (m : Nat) (s0 : State) (s : State) (hm : 0x10000000000000000000800000 &&& m = 0x10000000000000000000800000)
    (hk : Kept m s0 s) : Kept m s0 (State.atZero s) := by
  unfold State.atZero
  try dsimp only
  repeat' (first
    | with_reducible assumption
    | with_reducible apply Kept.ite
    | with_reducible refine State.setStep_keeps _ _ _ _ (Mask.trans (by decide) hm) ?_
    | with_reducible refine State.moveVolts_keeps _ _ _ _ (Mask.trans (by decide) hm) ?_
    | (simp only [Kept.made]; with_reducible refine Kept.set_lim (Mask.trans (by decide) hm) ?_)
    | split)

theorem State.retainStep_keeps (m : Nat) (s0 : State) (s : State) (hm : 0x10000000000000000000800000 &&& m = 0x10000000000000000000800000)
    (hk : Kept m s0 s) : Kept m s0 (State.retainStep s) := by
  unfold State.retainStep
  try dsimp only
  repeat' (first
    | with_reducible assumption
    | with_reducible apply Kept.ite
    | with_reducible refine State.setStep_keeps _ _ _ _ (Mask.trans (by decide) hm) ?_
    | with_reducible refine State.atZero_keeps _ _ _ (Mask.trans (by decide) hm) ?_
    | (simp only [Kept.made]; with_reducible refine Kept.set_lim (Mask.trans (by decide) hm) ?_)
    | split)

theorem State.freqAck_keeps (m : Nat) (s0 : State) (s : State) (hm : 0x30000000000000000000800200 &&& m = 0x30000000000000000000800200)
    (hk : Kept m s0 s) : Kept m s0 (State.freqAck s) := by
  unfold State.freqAck
  try dsimp only
  repeat' (first
    | with_reducible assumption
    | with_reducible apply Kept.ite
    | with_reducible refine State.loadTrims_keeps _ _ _ _ (Mask.trans (by decide) hm) ?_
    | with_reducible refine State.moveVolts_keeps _ _ _ _ (Mask.trans (by decide) hm) ?_
    | with_reducible refine State.stepDone_keeps _ _ _ (Mask.trans (by decide) hm) ?_
    | with_reducible refine State.setStep_keeps _ _ _ _ (Mask.trans (by decide) hm) ?_
    | with_reducible refine State.finishRestep_keeps _ _ _ (Mask.trans (by decide) hm) ?_
    | with_reducible refine State.atZero_keeps _ _ _ (Mask.trans (by decide) hm) ?_
    | with_reducible refine State.retainStep_keeps _ _ _ (Mask.trans (by decide) hm) ?_
    | with_reducible refine State.restepDue_keeps _ _ _ (Mask.trans (by decide) hm) ?_
    | with_reducible refine State.settleStep_keeps _ _ _ (Mask.trans (by decide) hm) ?_
    | with_reducible refine State.setFlag_at .OPP_STATUS rfl (Mask.trans (by decide) hm) ?_
    | with_reducible refine State.setFld_at .OPP_STATUS rfl (Mask.trans (by decide) hm) ?_
    | with_reducible refine State.incSat_at .OPP_STEPS rfl (Mask.trans (by decide) hm) ?_
    | (simp only [Kept.made]; with_reducible refine Kept.set_lim (Mask.trans (by decide) hm) ?_)
    | split)

theorem State.freqAckFall_keeps (m : Nat) (s0 : State) (s : State) (hm : 0x800000 &&& m = 0x800000)
    (hk : Kept m s0 s) : Kept m s0 (State.freqAckFall s) := by
  unfold State.freqAckFall
  try dsimp only
  repeat' (first
    | with_reducible assumption
    | with_reducible apply Kept.ite
    | (simp only [Kept.made]; with_reducible refine Kept.set_lim (Mask.trans (by decide) hm) ?_)
    | split)

theorem State.freqTimeout_keeps (m : Nat) (s0 : State) (s : State) (hm : 0x800086 &&& m = 0x800086)
    (hk : Kept m s0 s) : Kept m s0 (State.freqTimeout s) := by
  unfold State.freqTimeout
  try dsimp only
  repeat' (first
    | with_reducible assumption
    | with_reducible apply Kept.ite
    | with_reducible refine State.advanceTo_keeps _ _ _ _ (Mask.trans (by decide) hm) ?_
    | with_reducible refine State.raise_keeps _ _ _ _ _ _ (Mask.trans (by decide) hm) ?_
    | (simp only [Kept.made]; with_reducible refine Kept.set_lim (Mask.trans (by decide) hm) ?_))

theorem State.stepSample_keeps (m : Nat) (s0 : State) (s : State) (hm : 0x10000000000000000000800200 &&& m = 0x10000000000000000000800200)
    (hk : Kept m s0 s) : Kept m s0 (State.stepSample s) := by
  unfold State.stepSample
  try dsimp only
  repeat' (first
    | with_reducible assumption
    | with_reducible apply Kept.ite
    | with_reducible refine State.moveVolts_keeps _ _ _ _ (Mask.trans (by decide) hm) ?_
    | with_reducible refine State.finishRestep_keeps _ _ _ (Mask.trans (by decide) hm) ?_
    | with_reducible refine State.settleStep_keeps _ _ _ (Mask.trans (by decide) hm) ?_
    | split)

theorem State.freqReset_keeps (m : Nat) (s0 : State) (s : State) (hm : 0x10000000000000000000800200 &&& m = 0x10000000000000000000800200)
    (hk : Kept m s0 s) : Kept m s0 (State.freqReset s) := by
  unfold State.freqReset
  try dsimp only
  repeat' (first
    | with_reducible assumption
    | with_reducible apply Kept.ite
    | with_reducible refine State.loadTrims_keeps _ _ _ _ (Mask.trans (by decide) hm) ?_
    | with_reducible refine State.setFld_at .OPP_STATUS rfl (Mask.trans (by decide) hm) ?_
    | with_reducible refine State.setFlag_at .OPP_STATUS rfl (Mask.trans (by decide) hm) ?_
    | (simp only [Kept.made]; with_reducible refine Kept.set_lim (Mask.trans (by decide) hm) ?_)
    | split)

theorem State.fastLimit_keeps (m : Nat) (s0 : State) (s : State) (hm : 0x300000000003000000c400000000000000000805881 &&& m = 0x300000000003000000c400000000000000000805881)
    (hk : Kept m s0 s) : Kept m s0 (State.fastLimit s) := by
  unfold State.fastLimit
  try dsimp only
  repeat' (first
    | with_reducible assumption
    | with_reducible apply Kept.ite
    | with_reducible refine State.gorseForce_keeps _ _ _ (Mask.trans (by decide) hm) ?_
    | with_reducible refine State.ringEvent_keeps _ _ _ _ (Mask.trans (by decide) hm) ?_
    | with_reducible refine State.abortAllInj_keeps _ _ _ _ (Mask.trans (by decide) hm) ?_
    | with_reducible refine State.noteReasons_keeps _ _ _ (Mask.trans (by decide) hm) ?_
    | (simp only [Kept.made]; with_reducible refine Kept.set_lim (Mask.trans (by decide) hm) ?_))

theorem State.fastLimitHigh_keeps (m : Nat) (s0 : State) (s : State) (hm : 0x800000 &&& m = 0x800000)
    (hk : Kept m s0 s) : Kept m s0 (State.fastLimitHigh s) := by
  unfold State.fastLimitHigh
  try dsimp only
  repeat' (first
    | with_reducible assumption
    | with_reducible apply Kept.ite
    | (simp only [Kept.made]; with_reducible refine Kept.set_lim (Mask.trans (by decide) hm) ?_))

theorem State.emergencyOver_keeps (m : Nat) (s0 : State) (s : State) (hm : 0x100000000000000009c600000000000000000801806 &&& m = 0x100000000000000009c600000000000000000801806)
    (hk : Kept m s0 s) : Kept m s0 (State.emergencyOver s) := by
  unfold State.emergencyOver
  try dsimp only
  repeat' (first
    | with_reducible assumption
    | with_reducible apply Kept.ite
    | with_reducible refine State.advanceTo_keeps _ _ _ _ (Mask.trans (by decide) hm) ?_
    | with_reducible refine State.gorseEnds_keeps _ _ _ (Mask.trans (by decide) hm) ?_
    | with_reducible refine State.compute_keeps _ _ _ (Mask.trans (by decide) hm) ?_
    | with_reducible refine State.noteReasons_keeps _ _ _ (Mask.trans (by decide) hm) ?_
    | (simp only [Kept.made]; with_reducible refine Kept.set_lim (Mask.trans (by decide) hm) ?_)
    | split)

theorem State.supplyAlert_keeps (m : Nat) (s0 : State) (s : State) (hm : 0xc600000000000000000800000 &&& m = 0xc600000000000000000800000)
    (hk : Kept m s0 s) : Kept m s0 (State.supplyAlert s) := by
  unfold State.supplyAlert
  try dsimp only
  repeat' (first
    | with_reducible assumption
    | with_reducible apply Kept.ite
    | with_reducible refine State.noteReasons_keeps _ _ _ (Mask.trans (by decide) hm) ?_
    | with_reducible refine State.setFld_at .BUD_CAPS rfl (Mask.trans (by decide) hm) ?_
    | (simp only [Kept.made]; with_reducible refine Kept.set_lim (Mask.trans (by decide) hm) ?_))

theorem State.uvAlert_keeps (m : Nat) (s0 : State) (s : State) (n : Nat) (hm : 0xc600000000000000000800000 &&& m = 0xc600000000000000000800000)
    (hk : Kept m s0 s) : Kept m s0 (State.uvAlert s n) := by
  unfold State.uvAlert
  try dsimp only
  repeat' (first
    | with_reducible assumption
    | with_reducible apply Kept.ite
    | with_reducible refine State.supplyAlert_keeps _ _ _ (Mask.trans (by decide) hm) ?_)

theorem State.supplyOver_keeps (m : Nat) (s0 : State) (s : State) (hm : 0xc600000000000000000800006 &&& m = 0xc600000000000000000800006)
    (hk : Kept m s0 s) : Kept m s0 (State.supplyOver s) := by
  unfold State.supplyOver
  try dsimp only
  repeat' (first
    | with_reducible assumption
    | with_reducible refine State.advanceTo_keeps _ _ _ _ (Mask.trans (by decide) hm) ?_
    | with_reducible refine State.noteReasons_keeps _ _ _ (Mask.trans (by decide) hm) ?_
    | with_reducible refine State.setFld_at .BUD_CAPS rfl (Mask.trans (by decide) hm) ?_
    | (simp only [Kept.made]; with_reducible refine Kept.set_lim (Mask.trans (by decide) hm) ?_)
    | split)

theorem State.shareRegs_in (s : State) (d : Nat) (q : Nat × Nat) (h : q ∈ s.shareRegs d) :
    inPlace .BUD_SHARE q.1 ∨ inPlace .BUD_SHARE_WIN q.1 := by
  unfold State.shareRegs at h
  dsimp only at h
  split at h
  · rcases List.mem_cons.mp h with rfl | h
    · exact .inl rfl
    · obtain ⟨w, _, rfl⟩ := List.mem_map.mp h
      exact .inr ⟨w, rfl⟩
  · cases h

theorem State.setEach_keeps (m : Nat) (s0 : State) (l : List (Nat × Nat))
    (hl : ∀ q ∈ l, ∃ p : Place, inPlace p q.1 ∧ p.bit &&& m = p.bit) (s : State) (hk : Kept m s0 s) :
    Kept m s0 (each l (fun r t => t.setReg r.1 r.2) s) := by
  induction l generalizing s with
  | nil => exact hk
  | cons x xs ih =>
    obtain ⟨p, hp, hb⟩ := hl x (by simp)
    exact ih (fun q hq => hl q (by simp [hq])) _ (State.setReg_at p hp hb hk)

theorem State.takeShares_keeps (m : Nat) (s0 s : State) (hm : 0x900000000000000000000000 &&& m = 0x900000000000000000000000) (hk : Kept m s0 s) :
    Kept m s0 s.takeShares :=
  State.setEach_keeps m s0 _ (fun q hq => (s.shareRegs_in _ q hq).elim (fun h => ⟨_, h, (Mask.trans (by decide) hm)⟩) (fun h => ⟨_, h, (Mask.trans (by decide) hm)⟩)) s hk

theorem State.setWindow_keeps (m : Nat) (s0 : State) (s : State) (w : Nat) (x : Window) (hm : 0x1000000 &&& m = 0x1000000)
    (hk : Kept m s0 s) : Kept m s0 (State.setWindow s w x) := by
  unfold State.setWindow
  try dsimp only
  repeat' (first
    | with_reducible assumption
    | (simp only [Kept.made]; with_reducible refine Kept.set_win (Mask.trans (by decide) hm) ?_))

theorem State.bookWindows_keeps (m : Nat) (s0 : State) (s : State) (ds : List Nat) (pj : Nat) (hm : 0x1000000 &&& m = 0x1000000)
    (hk : Kept m s0 s) : Kept m s0 (State.bookWindows s ds pj) := by
  unfold State.bookWindows
  try dsimp only
  repeat' (first
    | with_reducible assumption
    | with_reducible apply Kept.ite
    | with_reducible refine State.setWindow_keeps _ _ _ _ _ (Mask.trans (by decide) hm) ?_
    | with_reducible refine Kept.each ?_ (fun _ _ _ => ?_)
    | split)

theorem State.bookGap_keeps (m : Nat) (s0 : State) (s : State) (ds : List Nat) (pj : Nat) (t0 : Nat) (t1 : Nat) (hm : 0x1000000 &&& m = 0x1000000)
    (hk : Kept m s0 s) : Kept m s0 (State.bookGap s ds pj t0 t1) := by
  unfold State.bookGap
  try dsimp only
  repeat' (first
    | with_reducible assumption
    | with_reducible apply Kept.ite
    | with_reducible refine State.setWindow_keeps _ _ _ _ _ (Mask.trans (by decide) hm) ?_
    | with_reducible refine Kept.each ?_ (fun _ _ _ => ?_)
    | split)

theorem State.winApply_keeps (m : Nat) (s0 : State) (s : State) (w : Nat) (dec : Nat) (hm : 0x3000000000000000000080000000000000000001000 &&& m = 0x3000000000000000000080000000000000000001000)
    (hk : Kept m s0 s) : Kept m s0 (State.winApply s w dec) := by
  unfold State.winApply
  try dsimp only
  repeat' (first
    | with_reducible assumption
    | with_reducible apply Kept.ite
    | with_reducible refine State.ringEvent_keeps _ _ _ _ (Mask.trans (by decide) hm) ?_
    | with_reducible refine State.setFld_at .BUD_WIN_CAP ⟨_, rfl⟩ (Mask.trans (by decide) hm) ?_
    | with_reducible refine State.setFlag_at .BUD_WIN_CAP ⟨_, rfl⟩ (Mask.trans (by decide) hm) ?_
    | split)

theorem State.showFill_keeps (m : Nat) (s0 : State) (s : State) (w : Nat) (hm : 0x40000000000000000000000 &&& m = 0x40000000000000000000000)
    (hk : Kept m s0 s) : Kept m s0 (State.showFill s w) := by
  unfold State.showFill
  try dsimp only
  repeat' (first
    | with_reducible assumption
    | with_reducible refine State.setFld_at .BUD_WIN_FILL ⟨_, rfl⟩ (Mask.trans (by decide) hm) ?_
    | with_reducible refine State.setFlag_at .BUD_WIN_FILL ⟨_, rfl⟩ (Mask.trans (by decide) hm) ?_)

theorem State.slotBoundary_keeps (m : Nat) (s0 : State) (s : State) (w : Nat) (hm : 0x1000006 &&& m = 0x1000006)
    (hk : Kept m s0 s) : Kept m s0 (State.slotBoundary s w) := by
  unfold State.slotBoundary
  try dsimp only
  repeat' (first
    | with_reducible assumption
    | with_reducible apply Kept.ite
    | with_reducible refine State.advanceSky_keeps _ _ _ _ (Mask.trans (by decide) hm) ?_
    | with_reducible refine State.setWindow_keeps _ _ _ _ _ (Mask.trans (by decide) hm) ?_)

theorem State.fillWindow_keeps (m : Nat) (s0 : State) (s : State) (w : Nat) (hm : 0x1000000 &&& m = 0x1000000)
    (hk : Kept m s0 s) : Kept m s0 (State.fillWindow s w) := by
  unfold State.fillWindow
  try dsimp only
  repeat' (first
    | with_reducible assumption
    | with_reducible apply Kept.ite
    | with_reducible refine State.setWindow_keeps _ _ _ _ _ (Mask.trans (by decide) hm) ?_
    | with_reducible refine Kept.fold ?_ (fun _ _ _ => ?_)
    | split)

theorem State.dropWindow_keeps (m : Nat) (s0 : State) (s : State) (w : Nat) (hm : 0x80000000000000001000000 &&& m = 0x80000000000000001000000)
    (hk : Kept m s0 s) : Kept m s0 (State.dropWindow s w) := by
  unfold State.dropWindow
  try dsimp only
  repeat' (first
    | with_reducible assumption
    | with_reducible refine State.setWindow_keeps _ _ _ _ _ (Mask.trans (by decide) hm) ?_
    | with_reducible refine State.setFld_at .BUD_WIN_CAP ⟨_, rfl⟩ (Mask.trans (by decide) hm) ?_
    | with_reducible refine State.setFlag_at .BUD_WIN_CAP ⟨_, rfl⟩ (Mask.trans (by decide) hm) ?_)

end Sys2Proof.Machine
end

