-- ==== Sys2Proof/Laws/KeepsEstimator.lean ====
section
/-! SUPPORT. What each operation of Machine/Estimator.lean keeps: every place outside its mask, the register store's form, the resets' levels,
the outputs so far, time and the queue. -/

namespace Sys2Proof.Machine

theorem State.noteModel_keeps (m : Nat) (s0 : State) (s : State) (hm : 0x800000000000000000000000000000000 &&& m = 0x800000000000000000000000000000000)
    (hk : Kept m s0 s) : Kept m s0 (State.noteModel s) := by
  unfold State.noteModel
  try dsimp only
  repeat' (first
    | with_reducible assumption
    | with_reducible refine State.setFlag_at .EST_STATUS rfl (Mask.trans (by decide) hm) ?_)

theorem State.resetGain_keeps (m : Nat) (s0 : State) (s : State) (r : Nat) (hm : 0x1800800000000000000000000000002000000 &&& m = 0x1800800000000000000000000000002000000)
    (hk : Kept m s0 s) : Kept m s0 (State.resetGain s r) := by
  unfold State.resetGain
  try dsimp only
  repeat' (first
    | with_reducible assumption
    | with_reducible refine State.setFld_at .EST_STATUS rfl (Mask.trans (by decide) hm) ?_
    | with_reducible refine State.setFld_at .EST_RAIL_GAIN ⟨_, rfl⟩ (Mask.trans (by decide) hm) ?_
    | with_reducible refine State.setReg_at .EST_RAIL_OFS ⟨_, rfl⟩ (Mask.trans (by decide) hm) ?_
    | (simp only [Kept.made]; with_reducible refine Kept.set_est (Mask.trans (by decide) hm) ?_))

theorem State.clearMeters_keeps (m : Nat) (s0 : State) (s : State) (hm : 0x4000 &&& m = 0x4000)
    (hk : Kept m s0 s) : Kept m s0 (State.clearMeters s) := by
  unfold State.clearMeters
  try dsimp only
  repeat' (first
    | with_reducible assumption
    | with_reducible refine State.setRail_keeps _ _ _ _ _ (Mask.trans (by decide) hm) ?_
    | with_reducible refine Kept.each ?_ (fun _ _ _ => ?_))

theorem State.account_keeps (m : Nat) (s0 s : State) (k v : Nat) (hm : 0x4046000000000000000000000000002000000 &&& m = 0x4046000000000000000000000000002000000) (hk : Kept m s0 s) :
    Kept m s0 (s.setReg64 (accountReg k) v) := by
  unfold accountReg
  split
  · exact State.setReg64_at .EST_CTX_E ⟨2 * k, rfl⟩ ⟨2 * k + 1, by simp only [EST_CTX_E]; omega⟩ (Mask.trans (by decide) hm) hk
  · split
    · exact State.setReg64_at .EST_UNATTR_E ⟨0, rfl⟩ ⟨1, rfl⟩ (Mask.trans (by decide) hm) hk
    · split
      · exact State.setReg64_at .EST_DIE_E ⟨0, rfl⟩ ⟨1, rfl⟩ (Mask.trans (by decide) hm) hk
      · exact State.setReg64_at .EST_PKG_E ⟨0, rfl⟩ ⟨1, rfl⟩ (Mask.trans (by decide) hm) hk

theorem State.book_keeps (m : Nat) (s0 s : State) (k : Nat) (pj : Int) (hm : 0x4046000000000000000000000000002000000 &&& m = 0x4046000000000000000000000000002000000) (hk : Kept m s0 s) :
    Kept m s0 (s.book k pj) := by
  unfold State.book
  exact Kept.ite (Kept.set_est (Mask.trans (by decide) hm) hk) (State.account_keeps m s0 _ k _ (Mask.trans (by decide) hm) (Kept.set_est (Mask.trans (by decide) hm) hk))

theorem State.attribute_keeps (m : Nat) (s0 : State) (s : State) (r : Nat) (x : RailPower) (ran : List Nat) (given : SMap Int) (hm : 0x4046000000000000000000000000002000000 &&& m = 0x4046000000000000000000000000002000000)
    (hk : Kept m s0 s) : Kept m s0 (State.attribute s r x ran given).1 := by
  unfold State.attribute
  try dsimp only
  repeat' (first
    | with_reducible assumption
    | with_reducible refine State.book_keeps _ _ _ _ _ (Mask.trans (by decide) hm) ?_
    | with_reducible refine Kept.eachFst ?_ (fun _ _ _ => ?_))

theorem State.deliverPower_keeps (m : Nat) (s0 : State) (s : State) (hm : 0x6000000 &&& m = 0x6000000)
    (hk : Kept m s0 s) : Kept m s0 (State.deliverPower s) := by
  unfold State.deliverPower
  try dsimp only
  repeat' (first
    | with_reducible assumption
    | with_reducible apply Kept.ite
    | (simp only [Kept.made]; with_reducible refine Kept.set_est_thm (Mask.trans (by decide) hm) ?_)
    | with_reducible refine Kept.each ?_ (fun _ _ _ => ?_)
    | split)

theorem State.packagePower_keeps (m : Nat) (s0 : State) (s : State) (hm : 0x20800000000000000000000000002000000 &&& m = 0x20800000000000000000000000002000000)
    (hk : Kept m s0 s) : Kept m s0 (State.packagePower s) := by
  unfold State.packagePower
  try dsimp only
  repeat' (first
    | with_reducible assumption
    | with_reducible refine State.setFlag_at .EST_STATUS rfl (Mask.trans (by decide) hm) ?_
    | with_reducible refine State.setReg_at .EST_PKG_P rfl (Mask.trans (by decide) hm) ?_
    | (simp only [Kept.made]; with_reducible refine Kept.set_est (Mask.trans (by decide) hm) ?_))

theorem State.bookDie_keeps (m : Nat) (s0 : State) (s : State) (d : Nat) (uw : Nat) (hm : 0x4066800000000000000000000000003000000 &&& m = 0x4066800000000000000000000000003000000)
    (hk : Kept m s0 s) : Kept m s0 (State.bookDie s d uw) := by
  unfold State.bookDie
  try dsimp only
  repeat' (first
    | with_reducible assumption
    | with_reducible apply Kept.ite
    | with_reducible refine State.packagePower_keeps _ _ _ (Mask.trans (by decide) hm) ?_
    | with_reducible refine State.book_keeps _ _ _ _ _ (Mask.trans (by decide) hm) ?_
    | with_reducible refine State.bookWindows_keeps _ _ _ _ _ (Mask.trans (by decide) hm) ?_
    | (simp only [Kept.made]; with_reducible refine Kept.set_est (Mask.trans (by decide) hm) ?_)
    | split)

theorem State.bookGapOf_keeps (m : Nat) (s0 : State) (s : State) (d : Nat) (pj : Nat) (t0 : Nat) (t1 : Nat) (hm : 0x4046000000000000000000000000003000000 &&& m = 0x4046000000000000000000000000003000000)
    (hk : Kept m s0 s) : Kept m s0 (State.bookGapOf s d pj t0 t1) := by
  unfold State.bookGapOf
  try dsimp only
  repeat' (first
    | with_reducible assumption
    | with_reducible apply Kept.ite
    | with_reducible refine State.book_keeps _ _ _ _ _ (Mask.trans (by decide) hm) ?_
    | with_reducible refine State.bookGap_keeps _ _ _ _ _ _ _ (Mask.trans (by decide) hm) ?_
    | split)

theorem State.interval_keeps (m : Nat) (s0 : State) (s : State) (hm : 0x20000000000043c7000000000000000000000000006004206 &&& m = 0x20000000000043c7000000000000000000000000006004206)
    (hk : Kept m s0 s) : Kept m s0 (State.interval s).1 := by
  unfold State.interval
  try dsimp only
  repeat' (first
    | with_reducible assumption
    | with_reducible apply Kept.ite
    | with_reducible refine State.advanceSky_keeps _ _ _ _ (Mask.trans (by decide) hm) ?_
    | with_reducible refine State.attribute_keeps _ _ _ _ _ _ _ (Mask.trans (by decide) hm) ?_
    | with_reducible refine State.book_keeps _ _ _ _ _ (Mask.trans (by decide) hm) ?_
    | with_reducible refine State.clearMeters_keeps _ _ _ (Mask.trans (by decide) hm) ?_
    | with_reducible refine State.setAgent_keeps _ _ _ _ _ (Mask.trans (by decide) hm) ?_
    | with_reducible refine State.deliverPower_keeps _ _ _ (Mask.trans (by decide) hm) ?_
    | with_reducible refine State.setReg_at .EST_RAIL_P ⟨_, rfl⟩ (Mask.trans (by decide) hm) ?_
    | with_reducible refine State.setReg_at .EST_RAIL_DYN ⟨_, rfl⟩ (Mask.trans (by decide) hm) ?_
    | with_reducible refine State.setReg_at .EST_RAIL_LEAK ⟨_, rfl⟩ (Mask.trans (by decide) hm) ?_
    | with_reducible refine State.setReg_at .EST_DIE_P rfl (Mask.trans (by decide) hm) ?_
    | with_reducible refine State.setReg_at .AGT_PWR ⟨_, rfl⟩ (Mask.trans (by decide) hm) ?_
    | (simp only [Kept.made]; with_reducible refine Kept.set_est (Mask.trans (by decide) hm) ?_)
    | with_reducible refine Kept.each ?_ (fun _ _ _ => ?_)
    | with_reducible refine Kept.fold ?_ (fun _ _ _ => ?_)
    | with_reducible refine Kept.foldFst ?_ (fun _ _ _ => ?_)
    | dsimp only
    | split
    | dsimp only)

theorem State.converge_keeps (m : Nat) (s0 : State) (s : State) (r : Nat) (err : Int) (p : Nat) (hm : 0x800000000000000000000000002000000 &&& m = 0x800000000000000000000000002000000)
    (hk : Kept m s0 s) : Kept m s0 (State.converge s r err p) := by
  unfold State.converge
  try dsimp only
  repeat' (first
    | with_reducible assumption
    | with_reducible refine State.setFld_at .EST_STATUS rfl (Mask.trans (by decide) hm) ?_
    | (simp only [Kept.made]; with_reducible refine Kept.set_est (Mask.trans (by decide) hm) ?_))

theorem State.calibrate_keeps (m : Nat) (s0 : State) (s : State) (r : Nat) (hm : 0x3c00800000000000000000000000002000000 &&& m = 0x3c00800000000000000000000000002000000)
    (hk : Kept m s0 s) : Kept m s0 (State.calibrate s r) := by
  unfold State.calibrate
  try dsimp only
  repeat' (first
    | with_reducible assumption
    | with_reducible apply Kept.ite
    | with_reducible refine State.converge_keeps _ _ _ _ _ _ (Mask.trans (by decide) hm) ?_
    | with_reducible refine State.setFld_at .EST_STATUS rfl (Mask.trans (by decide) hm) ?_
    | with_reducible refine State.setReg_at .EST_RAIL_MEAS ⟨_, rfl⟩ (Mask.trans (by decide) hm) ?_
    | with_reducible refine State.setFld_at .EST_RAIL_GAIN ⟨_, rfl⟩ (Mask.trans (by decide) hm) ?_
    | with_reducible refine State.setReg_at .EST_RAIL_OFS ⟨_, rfl⟩ (Mask.trans (by decide) hm) ?_
    | with_reducible refine State.setReg_at .EST_RAIL_ERR ⟨_, rfl⟩ (Mask.trans (by decide) hm) ?_)

theorem State.calibration_keeps (m : Nat) (s0 : State) (s : State) (hm : 0x3c08800000000000000000000000002004006 &&& m = 0x3c08800000000000000000000000002004006)
    (hk : Kept m s0 s) : Kept m s0 (State.calibration s) := by
  unfold State.calibration
  try dsimp only
  repeat' (first
    | with_reducible assumption
    | with_reducible apply Kept.ite
    | with_reducible refine State.advanceSky_keeps _ _ _ _ (Mask.trans (by decide) hm) ?_
    | with_reducible refine State.calibrate_keeps _ _ _ _ (Mask.trans (by decide) hm) ?_
    | with_reducible refine State.setRail_keeps _ _ _ _ _ (Mask.trans (by decide) hm) ?_
    | with_reducible refine State.incSat_at .EST_CAL_SKIP rfl (Mask.trans (by decide) hm) ?_
    | (simp only [Kept.made]; with_reducible refine Kept.set_est (Mask.trans (by decide) hm) ?_)
    | with_reducible refine Kept.each ?_ (fun _ _ _ => ?_)
    | split)

theorem State.gapBooking_keeps (m : Nat) (s0 : State) (s : State) (hm : 0x4046800000000000000000000000003004200 &&& m = 0x4046800000000000000000000000003004200)
    (hk : Kept m s0 s) : Kept m s0 (State.gapBooking s) := by
  unfold State.gapBooking
  try dsimp only
  repeat' (first
    | with_reducible assumption
    | with_reducible apply Kept.ite
    | with_reducible refine State.setAgent_keeps _ _ _ _ _ (Mask.trans (by decide) hm) ?_
    | with_reducible refine State.book_keeps _ _ _ _ _ (Mask.trans (by decide) hm) ?_
    | with_reducible refine State.clearMeters_keeps _ _ _ (Mask.trans (by decide) hm) ?_
    | with_reducible refine State.bookGap_keeps _ _ _ _ _ _ _ (Mask.trans (by decide) hm) ?_
    | with_reducible refine State.setFlag_at .EST_STATUS rfl (Mask.trans (by decide) hm) ?_
    | (simp only [Kept.made]; with_reducible refine Kept.set_est (Mask.trans (by decide) hm) ?_)
    | with_reducible refine Kept.each ?_ (fun _ _ _ => ?_)
    | split)

end Sys2Proof.Machine
end

