-- ==== Sys2Proof/Laws/KeepsEvents.lean ====
section
/-! SUPPORT. What each operation of Machine/Events.lean keeps: every place outside its mask, the register store's form, the resets' levels,
the outputs so far, time and the queue. -/

namespace Sys2Proof.Machine

theorem State.issueMem_keeps (m : Nat) (s0 : State) (n : Nat) (s : State) (hm : 0x100040 &&& m = 0x100040) (h : Kept m s0 s) :
    Kept m s0 (State.issueMem n s) := by
  induction n generalizing s with
  | zero => exact h
  | succ n ih =>
    simp only [State.issueMem]
    split
    · exact ih _ (State.emit_keeps m s0 _ _ (Mask.trans (by decide) hm) (Kept.set_mem (s := s) (Mask.trans (by decide) hm) h))
    · exact h

theorem State.memPump_keeps (m : Nat) (s0 : State) (s : State) (hm : 0x100040 &&& m = 0x100040)
    (hk : Kept m s0 s) : Kept m s0 (State.memPump s) := by
  unfold State.memPump
  try dsimp only
  repeat' (first
    | with_reducible assumption
    | with_reducible apply Kept.ite
    | with_reducible refine State.issueMem_keeps _ _ _ _ (Mask.trans (by decide) hm) ?_)

theorem State.memSend_keeps (m : Nat) (s0 : State) (s : State) (xs : List MemTxn) (hm : 0x100040 &&& m = 0x100040)
    (hk : Kept m s0 s) : Kept m s0 (State.memSend s xs) := by
  unfold State.memSend
  try dsimp only
  repeat' (first
    | with_reducible assumption
    | with_reducible refine State.memPump_keeps _ _ _ (Mask.trans (by decide) hm) ?_
    | (simp only [Kept.made]; with_reducible refine Kept.set_mem (Mask.trans (by decide) hm) ?_))

theorem State.setLink_keeps (m : Nat) (s0 : State) (s : State) (d : Nat) (k : Link) (hm : 0x40000 &&& m = 0x40000)
    (hk : Kept m s0 s) : Kept m s0 (State.setLink s d k) := by
  unfold State.setLink
  try dsimp only
  repeat' (first
    | with_reducible assumption
    | (simp only [Kept.made]; with_reducible refine Kept.set_hdg (Mask.trans (by decide) hm) ?_))

theorem State.transmit_keeps (m : Nat) (s0 : State) (s : State) (d : Nat) (f : OutFlit) (hm : 0x40040 &&& m = 0x40040)
    (hk : Kept m s0 s) : Kept m s0 (State.transmit s d f) := by
  unfold State.transmit
  try dsimp only
  repeat' (first
    | with_reducible assumption
    | with_reducible apply Kept.ite
    | with_reducible refine State.emit_keeps _ _ _ _ (Mask.trans (by decide) hm) ?_
    | with_reducible refine State.setLink_keeps _ _ _ _ _ (Mask.trans (by decide) hm) ?_
    | split)

theorem State.sendFlit_keeps (m : Nat) (s0 : State) (s : State) (d : Nat) (f : OutFlit) (hm : 0x40040 &&& m = 0x40040)
    (hk : Kept m s0 s) : Kept m s0 (State.sendFlit s d f) := by
  unfold State.sendFlit
  try dsimp only
  repeat' (first
    | with_reducible assumption
    | with_reducible apply Kept.ite
    | with_reducible refine State.transmit_keeps _ _ _ _ _ (Mask.trans (by decide) hm) ?_
    | with_reducible refine State.setLink_keeps _ _ _ _ _ (Mask.trans (by decide) hm) ?_
    | split)

theorem State.send_keeps (m : Nat) (s0 : State) (s : State) (d : Nat) (tag : Nat) (p : Payload) (hm : 0x40040 &&& m = 0x40040)
    (hk : Kept m s0 s) : Kept m s0 (State.send s d tag p) := by
  unfold State.send
  dsimp only
  generalize p.extra _ = n
  have h : Kept m s0 ((each (List.range n) (fun _ t => t.sendFlit d ⟨tag, p, true⟩) s).sendFlit d ⟨tag, p, false⟩) :=
    State.sendFlit_keeps m s0 _ d _ (Mask.trans (by decide) hm) (Kept.each hk (fun _ t ht => State.sendFlit_keeps m s0 t d _ (Mask.trans (by decide) hm) ht))
  generalize (each (List.range n) (fun _ t => t.sendFlit d ⟨tag, p, true⟩) s).sendFlit d ⟨tag, p, false⟩ = t at h
  exact { Kept.set_hdg (x_hdg := t.hdg) (Mask.trans (by decide) hm) hk with outGrows := h.outGrows, out := h.out }

theorem State.drainLink_keeps (m : Nat) (s0 : State) (n : Nat) (s : State) (d : Nat) (hm : 0x40040 &&& m = 0x40040)
    (h : Kept m s0 s) : Kept m s0 (State.drainLink n s d) := by
  induction n generalizing s with
  | zero => exact h
  | succ n ih =>
    simp only [State.drainLink]
    split
    · split
      · exact ih _ (State.transmit_keeps m s0 _ _ _ (Mask.trans (by decide) hm) (State.setLink_keeps m s0 _ _ _ (Mask.trans (by decide) hm) h))
      · exact h
    · exact h

theorem State.drainAll_keeps (m : Nat) (s0 : State) (s : State) (hm : 0x40040 &&& m = 0x40040)
    (hk : Kept m s0 s) : Kept m s0 (State.drainAll s) := by
  unfold State.drainAll
  try dsimp only
  repeat' (first
    | with_reducible assumption
    | with_reducible apply Kept.ite
    | with_reducible refine State.drainLink_keeps _ _ _ _ _ (Mask.trans (by decide) hm) ?_
    | with_reducible refine Kept.each ?_ (fun _ _ _ => ?_)
    | split)

theorem State.modelResumes_keeps (m : Nat) (s0 : State) (s : State) (hm : 0x4000000 &&& m = 0x4000000)
    (hk : Kept m s0 s) : Kept m s0 (State.modelResumes s) := by
  unfold State.modelResumes
  try dsimp only
  repeat' (first
    | with_reducible assumption
    | with_reducible apply Kept.ite
    | (simp only [Kept.made]; with_reducible refine Kept.set_thm (Mask.trans (by decide) hm) ?_)
    | split)

theorem State.gapCore_keeps (m : Nat) (s0 : State) (s : State) (hm : 0x1004 &&& m = 0x1004)
    (hk : Kept m s0 s) : Kept m s0 (State.gapCore s) := by
  unfold State.gapCore
  try dsimp only
  repeat' (first
    | with_reducible assumption
    | with_reducible apply Kept.ite
    | (simp only [Kept.made]; with_reducible refine Kept.set_sky_rings (Mask.trans (by decide) hm) ?_)
    | split)

theorem State.tellGap_keeps (m : Nat) (s0 : State) (s : State) (g : Nat × Nat × Nat) (hm : 0x40040 &&& m = 0x40040)
    (hk : Kept m s0 s) : Kept m s0 (State.tellGap s g) := by
  unfold State.tellGap
  try dsimp only
  repeat' (first
    | with_reducible assumption
    | with_reducible apply Kept.ite
    | with_reducible refine State.send_keeps _ _ _ _ _ _ (Mask.trans (by decide) hm) ?_
    | split)

theorem State.startCore_keeps (m : Nat) (s0 : State) (s : State) (hm : 0x4046800000000000000000000002007145244 &&& m = 0x4046800000000000000000000002007145244)
    (hk : Kept m s0 s) : Kept m s0 (State.startCore s) := by
  unfold State.startCore
  try dsimp only
  repeat' (first
    | with_reducible assumption
    | with_reducible apply Kept.ite
    | with_reducible refine State.gapBooking_keeps _ _ _ (Mask.trans (by decide) hm) ?_
    | with_reducible refine State.gapCore_keeps _ _ _ (Mask.trans (by decide) hm) ?_
    | with_reducible refine State.modelResumes_keeps _ _ _ (Mask.trans (by decide) hm) ?_
    | with_reducible refine State.memPump_keeps _ _ _ (Mask.trans (by decide) hm) ?_
    | with_reducible refine State.drainAll_keeps _ _ _ (Mask.trans (by decide) hm) ?_
    | with_reducible refine State.tellGap_keeps _ _ _ _ (Mask.trans (by decide) hm) ?_
    | with_reducible refine State.setFlag_at .HEATH_DOMAIN_STATUS rfl (Mask.trans (by decide) hm) ?_
    | split)

theorem State.wakeLinks_keeps (m : Nat) (s0 : State) (s : State) (hm : 0x4046800000000000000000000002007145244 &&& m = 0x4046800000000000000000000002007145244)
    (hk : Kept m s0 s) : Kept m s0 (State.wakeLinks s) := by
  unfold State.wakeLinks
  try dsimp only
  repeat' (first
    | with_reducible assumption
    | with_reducible apply Kept.ite
    | with_reducible refine State.startCore_keeps _ _ _ (Mask.trans (by decide) hm) ?_
    | split)

theorem State.toFollowers_keeps (m : Nat) (s0 : State) (s : State) (p : Payload) (hm : 0x40040 &&& m = 0x40040)
    (hk : Kept m s0 s) : Kept m s0 (State.toFollowers s p) := by
  unfold State.toFollowers
  try dsimp only
  repeat' (first
    | with_reducible assumption
    | with_reducible refine State.send_keeps _ _ _ _ _ _ (Mask.trans (by decide) hm) ?_
    | with_reducible refine Kept.each ?_ (fun _ _ _ => ?_))

theorem State.sendBeat_keeps (m : Nat) (s0 : State) (s : State) (pstate : Nat) (hm : 0x40040 &&& m = 0x40040)
    (hk : Kept m s0 s) : Kept m s0 (State.sendBeat s pstate) := by
  unfold State.sendBeat
  try dsimp only
  repeat' (first
    | with_reducible assumption
    | with_reducible refine State.send_keeps _ _ _ _ _ _ (Mask.trans (by decide) hm) ?_
    | with_reducible refine Kept.each ?_ (fun _ _ _ => ?_))

theorem State.report_keeps (m : Nat) (s0 : State) (s : State) (e : DieEvent) (hm : 0x40040 &&& m = 0x40040)
    (hk : Kept m s0 s) : Kept m s0 (State.report s e) := by
  unfold State.report
  try dsimp only
  repeat' (first
    | with_reducible assumption
    | with_reducible apply Kept.ite
    | with_reducible refine State.send_keeps _ _ _ _ _ _ (Mask.trans (by decide) hm) ?_)

theorem State.bell_keeps (m : Nat) (s0 : State) (s : State) (b : Nat) (hm : 0x800000000040040 &&& m = 0x800000000040040)
    (hk : Kept m s0 s) : Kept m s0 (State.bell s b) := by
  unfold State.bell
  try dsimp only
  repeat' (first
    | with_reducible assumption
    | with_reducible apply Kept.ite
    | with_reducible refine State.report_keeps _ _ _ _ (Mask.trans (by decide) hm) ?_
    | with_reducible refine State.setReg_at .MB_DB_OUT rfl (Mask.trans (by decide) hm) ?_)

theorem State.pldmEvent_keeps (m : Nat) (s0 : State) (s : State) (kind : Nat) (die : Nat) (value : Int) (hm : 0x200040 &&& m = 0x200040)
    (hk : Kept m s0 s) : Kept m s0 (State.pldmEvent s kind die value) := by
  unfold State.pldmEvent
  try dsimp only
  repeat' (first
    | with_reducible assumption
    | with_reducible apply Kept.ite
    | with_reducible refine State.emit_keeps _ _ _ _ (Mask.trans (by decide) hm) ?_
    | (simp only [Kept.made]; with_reducible refine Kept.set_ses (Mask.trans (by decide) hm) ?_))

theorem State.takeFlags_keeps (m : Nat) (s0 : State) (s : State) (d : Nat) (w : Nat) (hm : 0x4a00040 &&& m = 0x4a00040)
    (hk : Kept m s0 s) : Kept m s0 (State.takeFlags s d w) := by
  unfold State.takeFlags
  try dsimp only
  repeat' (first
    | with_reducible assumption
    | with_reducible apply Kept.ite
    | with_reducible refine State.pldmEvent_keeps _ _ _ _ _ _ (Mask.trans (by decide) hm) ?_
    | with_reducible refine State.noteCalm_keeps _ _ _ (Mask.trans (by decide) hm) ?_
    | (simp only [Kept.made]; with_reducible refine Kept.set_thm (Mask.trans (by decide) hm) ?_)
    | with_reducible refine Kept.each ?_ (fun _ _ _ => ?_)
    | split)

theorem State.newEvent_keeps (m : Nat) (s0 : State) (s : State) (type : Nat) (die : Nat) (time : Nat) (body : List Nat) (hm : 0x22000000000300040 &&& m = 0x22000000000300040)
    (hk : Kept m s0 s) : Kept m s0 (State.newEvent s type die time body) := by
  unfold State.newEvent
  try dsimp only
  repeat' (first
    | with_reducible assumption
    | with_reducible apply Kept.ite
    | with_reducible refine State.memSend_keeps _ _ _ _ (Mask.trans (by decide) hm) ?_
    | with_reducible refine State.incSat_at .CMD_STATUS rfl (Mask.trans (by decide) hm) ?_
    | with_reducible refine State.incSat_at .CMD_EVT rfl (Mask.trans (by decide) hm) ?_
    | with_reducible refine State.setFld_at .CMD_EVT rfl (Mask.trans (by decide) hm) ?_
    | (simp only [Kept.made]; with_reducible refine Kept.set_ses (Mask.trans (by decide) hm) ?_)
    | split)

theorem State.eventWritten_keeps (m : Nat) (s0 : State) (s : State) (addr : Nat) (ok : Bool) (hm : 0x20000000000200000 &&& m = 0x20000000000200000)
    (hk : Kept m s0 s) : Kept m s0 (State.eventWritten s addr ok) := by
  unfold State.eventWritten
  try dsimp only
  repeat' (first
    | with_reducible assumption
    | with_reducible apply Kept.ite
    | with_reducible refine State.incSat_at .CMD_EVT rfl (Mask.trans (by decide) hm) ?_
    | (simp only [Kept.made]; with_reducible refine Kept.set_ses (Mask.trans (by decide) hm) ?_)
    | split)

theorem State.slowDownAt_keeps (m : Nat) (s0 : State) (s : State) (die : Nat) (reason : Nat) (index : Nat) (deadline : Nat) (hm : 0x1000000022000000000300040 &&& m = 0x1000000022000000000300040)
    (hk : Kept m s0 s) : Kept m s0 (State.slowDownAt s die reason index deadline) := by
  unfold State.slowDownAt
  try dsimp only
  repeat' (first
    | with_reducible assumption
    | with_reducible refine State.newEvent_keeps _ _ _ _ _ _ _ (Mask.trans (by decide) hm) ?_
    | with_reducible refine State.pldmEvent_keeps _ _ _ _ _ _ (Mask.trans (by decide) hm) ?_
    | with_reducible refine State.setFld_at .BUD_SLOW rfl (Mask.trans (by decide) hm) ?_
    | with_reducible refine State.setFlag_at .BUD_SLOW rfl (Mask.trans (by decide) hm) ?_)

theorem State.slowDown_keeps (m : Nat) (s0 : State) (s : State) (reason : Nat) (index : Nat) (deadline : Nat) (hm : 0x1000000022000000000340040 &&& m = 0x1000000022000000000340040)
    (hk : Kept m s0 s) : Kept m s0 (State.slowDown s reason index deadline) := by
  unfold State.slowDown
  try dsimp only
  repeat' (first
    | with_reducible assumption
    | with_reducible apply Kept.ite
    | with_reducible refine State.slowDownAt_keeps _ _ _ _ _ _ _ (Mask.trans (by decide) hm) ?_
    | with_reducible refine State.report_keeps _ _ _ _ (Mask.trans (by decide) hm) ?_)

end Sys2Proof.Machine
end

