-- ==== Sys2Proof/Laws/KeepsPower.lean ====
section
/-! SUPPORT. What each operation of Machine/Power.lean keeps: every place outside its mask, the register store's form, the resets' levels,
the outputs so far, time and the queue. -/

namespace Sys2Proof.Machine

theorem State.startSteward_keeps (m : Nat) (s0 : State) (s : State) (hm : 0x2000020000 &&& m = 0x2000020000)
    (hk : Kept m s0 s) : Kept m s0 (State.startSteward s) := by
  unfold State.startSteward
  try dsimp only
  repeat' (first
    | with_reducible assumption
    | with_reducible apply Kept.ite
    | with_reducible refine State.setFlag_at .HEATH_DOMAIN_STATUS rfl (Mask.trans (by decide) hm) ?_
    | (simp only [Kept.made]; with_reducible refine Kept.set_ps (Mask.trans (by decide) hm) (by rfl) (by rfl) ?_)
    | split)

theorem State.wake_keeps (m : Nat) (s0 : State) (s : State) (bit : Nat) (steward : Bool) (hm : 0x404680000000000000000000000a007165244 &&& m = 0x404680000000000000000000000a007165244)
    (hk : Kept m s0 s) : Kept m s0 (State.wake s bit steward) := by
  unfold State.wake
  try dsimp only
  repeat' (first
    | with_reducible assumption
    | with_reducible apply Kept.ite
    | with_reducible refine State.startCore_keeps _ _ _ (Mask.trans (by decide) hm) ?_
    | with_reducible refine State.startSteward_keeps _ _ _ (Mask.trans (by decide) hm) ?_
    | with_reducible refine State.lingerFrom_keeps _ _ _ _ (Mask.trans (by decide) hm) ?_
    | with_reducible refine State.setReg_at .HEATH_WAKE_CAUSE rfl (Mask.trans (by decide) hm) ?_
    | (simp only [Kept.made]; with_reducible refine Kept.set_ps (Mask.trans (by decide) hm) (by rfl) (by rfl) ?_)
    | split)

theorem State.startWoken_keeps (m : Nat) (s0 : State) (s : State) (hm : 0x2000020004 &&& m = 0x2000020004)
    (hk : Kept m s0 s) : Kept m s0 (State.startWoken s) := by
  unfold State.startWoken
  try dsimp only
  repeat' (first
    | with_reducible assumption
    | with_reducible apply Kept.ite
    | with_reducible refine State.startSteward_keeps _ _ _ (Mask.trans (by decide) hm) ?_
    | with_reducible refine State.lingerFrom_keeps _ _ _ _ (Mask.trans (by decide) hm) ?_
    | (simp only [Kept.made]; with_reducible refine Kept.set_ps (Mask.trans (by decide) hm) (by rfl) (by rfl) ?_)
    | split)

theorem State.stopClocks_keeps (m : Nat) (s0 : State) (s : State) (hm : 0x2000020000 &&& m = 0x2000020000)
    (hk : Kept m s0 s) : Kept m s0 (State.stopClocks s) := by
  unfold State.stopClocks
  try dsimp only
  repeat' (first
    | with_reducible assumption
    | with_reducible apply Kept.ite
    | with_reducible refine State.setFlag_at .HEATH_DOMAIN_STATUS rfl (Mask.trans (by decide) hm) ?_
    | (simp only [Kept.made]; with_reducible refine Kept.set_ps (Mask.trans (by decide) hm) (by rfl) (by rfl) ?_)
    | split)

theorem State.linger_keeps (m : Nat) (s0 : State) (s : State) (dom : Nat) (hm : 0x2000000006 &&& m = 0x2000000006)
    (hk : Kept m s0 s) : Kept m s0 (State.linger s dom) := by
  unfold State.linger
  try dsimp only
  repeat' (first
    | with_reducible assumption
    | with_reducible apply Kept.ite
    | with_reducible refine State.advanceTo_keeps _ _ _ _ (Mask.trans (by decide) hm) ?_
    | with_reducible refine State.setFlag_at .HEATH_DOMAIN_STATUS rfl (Mask.trans (by decide) hm) ?_
    | split)

theorem State.psDone_keeps (m : Nat) (s0 : State) (s : State) (hm : 0x10000000000000002000820200 &&& m = 0x10000000000000002000820200)
    (hk : Kept m s0 s) : Kept m s0 (State.psDone s) := by
  unfold State.psDone
  try dsimp only
  repeat' (first
    | with_reducible assumption
    | with_reducible apply Kept.ite
    | with_reducible refine State.restepDue_keeps _ _ _ (Mask.trans (by decide) hm) ?_
    | with_reducible refine State.setFlag_at .HEATH_DOMAIN_STATUS rfl (Mask.trans (by decide) hm) ?_
    | (simp only [Kept.made]; with_reducible refine Kept.set_ps (Mask.trans (by decide) hm) (by rfl) (by rfl) ?_)
    | split)

theorem State.psRefuse_keeps (m : Nat) (s0 : State) (s : State) (hm : 0x2000020000 &&& m = 0x2000020000)
    (hk : Kept m s0 s) : Kept m s0 (State.psRefuse s) := by
  unfold State.psRefuse
  try dsimp only
  repeat' (first
    | with_reducible assumption
    | with_reducible refine State.setFlag_at .HEATH_DOMAIN_STATUS rfl (Mask.trans (by decide) hm) ?_
    | (simp only [Kept.made]; with_reducible refine Kept.set_ps (Mask.trans (by decide) hm) (by rfl) (by rfl) ?_))

theorem State.retainHandshake_keeps (m : Nat) (s0 : State) (s : State) (hm : 0x10000000000000000000800000 &&& m = 0x10000000000000000000800000)
    (hk : Kept m s0 s) : Kept m s0 (State.retainHandshake s) := by
  unfold State.retainHandshake
  try dsimp only
  repeat' (first
    | with_reducible assumption
    | with_reducible apply Kept.ite
    | with_reducible refine State.retainStep_keeps _ _ _ (Mask.trans (by decide) hm) ?_
    | (simp only [Kept.made]; with_reducible refine Kept.set_lim (Mask.trans (by decide) hm) ?_)
    | split)

theorem State.enterOff_keeps (m : Nat) (s0 : State) (s : State) (hm : 0x2002068040 &&& m = 0x2002068040)
    (hk : Kept m s0 s) : Kept m s0 (State.enterOff s) := by
  unfold State.enterOff
  try dsimp only
  repeat' (first
    | with_reducible assumption
    | with_reducible apply Kept.ite
    | with_reducible refine State.sendBeat_keeps _ _ _ _ (Mask.trans (by decide) hm) ?_
    | with_reducible refine State.stopClocks_keeps _ _ _ (Mask.trans (by decide) hm) ?_
    | with_reducible refine State.setFld_at .HEATH_DOMAIN_STATUS rfl (Mask.trans (by decide) hm) ?_
    | with_reducible refine State.setFlag_at .HEATH_DOMAIN_STATUS rfl (Mask.trans (by decide) hm) ?_
    | (simp only [Kept.made]; with_reducible refine Kept.set_avs_ps_est (Mask.trans (by decide) hm) (by rfl) (by rfl) ?_)
    | split)

theorem State.shutDone_keeps (m : Nat) (s0 : State) (s : State) (why : Nat) (hm : 0x10000000000000002002868240 &&& m = 0x10000000000000002002868240)
    (hk : Kept m s0 s) : Kept m s0 (State.shutDone s why) := by
  unfold State.shutDone
  try dsimp only
  repeat' (first
    | with_reducible assumption
    | with_reducible apply Kept.ite
    | with_reducible refine State.enterOff_keeps _ _ _ (Mask.trans (by decide) hm) ?_
    | with_reducible refine State.psRefuse_keeps _ _ _ (Mask.trans (by decide) hm) ?_
    | with_reducible refine State.psDone_keeps _ _ _ (Mask.trans (by decide) hm) ?_)

theorem State.shutNext_keeps (m : Nat) (s0 : State) (s : State) (why : Nat) (hm : 0x81c0000100000000000004001000000000000000208286db40 &&& m = 0x81c0000100000000000004001000000000000000208286db40)
    (hk : Kept m s0 s) : Kept m s0 (State.shutNext s why) := by
  unfold State.shutNext
  try dsimp only
  repeat' (first
    | with_reducible assumption
    | with_reducible refine State.railDown_keeps _ _ _ _ (Mask.trans (by decide) hm) ?_
    | with_reducible refine State.shutDone_keeps _ _ _ _ (Mask.trans (by decide) hm) ?_
    | (simp only [Kept.made]; with_reducible refine Kept.set_ps (Mask.trans (by decide) hm) (by rfl) (by rfl) ?_)
    | split)

theorem State.railsFall_keeps (m : Nat) (s0 : State) (s : State) (hm : 0x20000 &&& m = 0x20000)
    (hk : Kept m s0 s) : Kept m s0 (State.railsFall s) := by
  unfold State.railsFall
  try dsimp only
  repeat' (first
    | with_reducible assumption
    | with_reducible apply Kept.ite
    | (simp only [Kept.made]; with_reducible refine Kept.set_ps (Mask.trans (by decide) hm) (by rfl) (by rfl) ?_)
    | split)

theorem State.beginShut_keeps (m : Nat) (s0 : State) (s : State) (why : Nat) (atOnce : Bool) (hm : 0x81c0000100000000000004001000000000000000208286df40 &&& m = 0x81c0000100000000000004001000000000000000208286df40)
    (hk : Kept m s0 s) : Kept m s0 (State.beginShut s why atOnce) := by
  unfold State.beginShut
  try dsimp only
  repeat' (first
    | with_reducible assumption
    | with_reducible apply Kept.ite
    | with_reducible refine State.voidAll_keeps _ _ _ _ _ (Mask.trans (by decide) hm) ?_
    | with_reducible refine State.railsFall_keeps _ _ _ (Mask.trans (by decide) hm) ?_
    | with_reducible refine State.shutNext_keeps _ _ _ _ (Mask.trans (by decide) hm) ?_
    | (simp only [Kept.made]; with_reducible refine Kept.set_ps (Mask.trans (by decide) hm) (by rfl) (by rfl) ?_)
    | split)

theorem State.answerStopped_keeps (m : Nat) (s0 : State) (s : State) (hm : 0x10000000000000002000820200 &&& m = 0x10000000000000002000820200)
    (hk : Kept m s0 s) : Kept m s0 (State.answerStopped s) := by
  unfold State.answerStopped
  try dsimp only
  repeat' (first
    | with_reducible assumption
    | with_reducible apply Kept.ite
    | with_reducible refine State.psDone_keeps _ _ _ (Mask.trans (by decide) hm) ?_
    | with_reducible refine State.psRefuse_keeps _ _ _ (Mask.trans (by decide) hm) ?_
    | split)

theorem State.bootEnds_keeps (m : Nat) (s0 : State) (s : State) (hm : 0x20020000 &&& m = 0x20020000)
    (hk : Kept m s0 s) : Kept m s0 (State.bootEnds s) := by
  unfold State.bootEnds
  try dsimp only
  repeat' (first
    | with_reducible assumption
    | with_reducible apply Kept.ite
    | (simp only [Kept.made]; with_reducible refine Kept.set_ps_fw (Mask.trans (by decide) hm) (by rfl) (by rfl) ?_)
    | split)

theorem State.stopWith_keeps (m : Nat) (s0 : State) (s : State) (code : Nat) (hm : 0x81c000010000000000000400100000000000000820a286dfc0 &&& m = 0x81c000010000000000000400100000000000000820a286dfc0)
    (hk : Kept m s0 s) : Kept m s0 (State.stopWith s code) := by
  unfold State.stopWith
  try dsimp only
  repeat' (first
    | with_reducible assumption
    | with_reducible apply Kept.ite
    | with_reducible refine State.levelOn_keeps _ _ _ _ _ (Mask.trans (by decide) hm) ?_
    | with_reducible refine State.bootEnds_keeps _ _ _ (Mask.trans (by decide) hm) ?_
    | with_reducible refine State.beginShut_keeps _ _ _ _ _ (Mask.trans (by decide) hm) ?_
    | with_reducible refine State.report_keeps _ _ _ _ (Mask.trans (by decide) hm) ?_
    | with_reducible refine State.answerStopped_keeps _ _ _ (Mask.trans (by decide) hm) ?_
    | with_reducible refine State.setFlag_at .HEATH_BOOT_STATUS rfl (Mask.trans (by decide) hm) ?_
    | with_reducible refine State.setFld_at .HEATH_BOOT_STATUS rfl (Mask.trans (by decide) hm) ?_
    | split)

theorem State.bringFail_keeps (m : Nat) (s0 : State) (s : State) (code : Nat) (hm : 0x81c000010000000000000400100000000000000820a286dfc0 &&& m = 0x81c000010000000000000400100000000000000820a286dfc0)
    (hk : Kept m s0 s) : Kept m s0 (State.bringFail s code) := by
  unfold State.bringFail
  try dsimp only
  repeat' (first
    | with_reducible assumption
    | with_reducible apply Kept.ite
    | with_reducible refine State.stopWith_keeps _ _ _ _ (Mask.trans (by decide) hm) ?_
    | with_reducible refine State.levelOn_keeps _ _ _ _ _ (Mask.trans (by decide) hm) ?_
    | with_reducible refine State.beginShut_keeps _ _ _ _ _ (Mask.trans (by decide) hm) ?_
    | split)

theorem State.haltStartUp_keeps (m : Nat) (s0 : State) (s : State) (hm : 0x10000000000000082020868240 &&& m = 0x10000000000000082020868240)
    (hk : Kept m s0 s) : Kept m s0 (State.haltStartUp s) := by
  unfold State.haltStartUp
  try dsimp only
  repeat' (first
    | with_reducible assumption
    | with_reducible apply Kept.ite
    | with_reducible refine State.bootEnds_keeps _ _ _ (Mask.trans (by decide) hm) ?_
    | with_reducible refine State.railsFall_keeps _ _ _ (Mask.trans (by decide) hm) ?_
    | with_reducible refine State.report_keeps _ _ _ _ (Mask.trans (by decide) hm) ?_
    | with_reducible refine State.answerStopped_keeps _ _ _ (Mask.trans (by decide) hm) ?_
    | with_reducible refine State.setFlag_at .HEATH_BOOT_STATUS rfl (Mask.trans (by decide) hm) ?_
    | with_reducible refine State.setFld_at .HEATH_DOMAIN_STATUS rfl (Mask.trans (by decide) hm) ?_
    | (simp only [Kept.made]; with_reducible refine Kept.set_avs_ps (Mask.trans (by decide) hm) (by rfl) (by rfl) ?_)
    | split)

theorem State.goDown_keeps (m : Nat) (s0 : State) (s : State) (code : Nat) (atOnce : Bool) (hm : 0x81c000010000000000000400100000000000000820a286dfc0 &&& m = 0x81c000010000000000000400100000000000000820a286dfc0)
    (hk : Kept m s0 s) : Kept m s0 (State.goDown s code atOnce) := by
  unfold State.goDown
  try dsimp only
  repeat' (first
    | with_reducible assumption
    | with_reducible apply Kept.ite
    | with_reducible refine State.bringFail_keeps _ _ _ _ (Mask.trans (by decide) hm) ?_
    | with_reducible refine State.shutNext_keeps _ _ _ _ (Mask.trans (by decide) hm) ?_
    | with_reducible refine State.beginShut_keeps _ _ _ _ _ (Mask.trans (by decide) hm) ?_
    | with_reducible refine State.setFlag_at .HEATH_DOMAIN_STATUS rfl (Mask.trans (by decide) hm) ?_
    | split)

theorem State.dropExtTrip_keeps (m : Nat) (s0 : State) (s : State) (hm : 0x100000000000000000008 &&& m = 0x100000000000000000008)
    (hk : Kept m s0 s) : Kept m s0 (State.dropExtTrip s) := by
  unfold State.dropExtTrip
  try dsimp only
  repeat' (first
    | with_reducible assumption
    | with_reducible apply Kept.ite
    | with_reducible refine State.spent_keeps _ _ _ (Mask.trans (by decide) hm) ?_
    | with_reducible refine State.setFlag_at .THM_STATUS rfl (Mask.trans (by decide) hm) ?_
    | split)

theorem State.legBegin_keeps (m : Nat) (s0 : State) (s : State) (t : Nat) (hm : 0x81c0000100000404680004001000010000000000208796df4c &&& m = 0x81c0000100000404680004001000010000000000208796df4c)
    (hk : Kept m s0 s) : Kept m s0 (State.legBegin s t) := by
  unfold State.legBegin
  try dsimp only
  repeat' (first
    | with_reducible assumption
    | with_reducible apply Kept.ite
    | with_reducible refine State.beginShut_keeps _ _ _ _ _ (Mask.trans (by decide) hm) ?_
    | with_reducible refine State.retainHandshake_keeps _ _ _ (Mask.trans (by decide) hm) ?_
    | with_reducible refine State.voidAll_keeps _ _ _ _ _ (Mask.trans (by decide) hm) ?_
    | with_reducible refine State.startCore_keeps _ _ _ (Mask.trans (by decide) hm) ?_
    | with_reducible refine State.dropExtTrip_keeps _ _ _ (Mask.trans (by decide) hm) ?_
    | with_reducible refine State.setFld_at .HEATH_DOMAIN_STATUS rfl (Mask.trans (by decide) hm) ?_
    | with_reducible refine State.setFlag_at .HEATH_DOMAIN_STATUS rfl (Mask.trans (by decide) hm) ?_
    | (simp only [Kept.made]; with_reducible refine Kept.set_ps (Mask.trans (by decide) hm) (by rfl) (by rfl) ?_)
    | (simp only [Kept.made]; with_reducible refine Kept.set_ps_thm (Mask.trans (by decide) hm) (by rfl) (by rfl) ?_)
    | split)

theorem State.tryRequest_keeps (m : Nat) (s0 : State) (s : State) (hm : 0x81c0000100000404680004001000010000000000208796df4c &&& m = 0x81c0000100000404680004001000010000000000208796df4c)
    (hk : Kept m s0 s) : Kept m s0 (State.tryRequest s) := by
  unfold State.tryRequest
  try dsimp only
  repeat' (first
    | with_reducible assumption
    | with_reducible apply Kept.ite
    | with_reducible refine State.psDone_keeps _ _ _ (Mask.trans (by decide) hm) ?_
    | with_reducible refine State.psRefuse_keeps _ _ _ (Mask.trans (by decide) hm) ?_
    | with_reducible refine State.legBegin_keeps _ _ _ _ (Mask.trans (by decide) hm) ?_
    | (simp only [Kept.made]; with_reducible refine Kept.set_ps (Mask.trans (by decide) hm) (by rfl) (by rfl) ?_)
    | split)

theorem State.psRequest_keeps (m : Nat) (s0 : State) (s : State) (g : Nat) (hm : 0x81c0000100000404680004001000010000000000a08796df4c &&& m = 0x81c0000100000404680004001000010000000000a08796df4c)
    (hk : Kept m s0 s) : Kept m s0 (State.psRequest s g) := by
  unfold State.psRequest
  try dsimp only
  repeat' (first
    | with_reducible assumption
    | with_reducible refine State.wake_keeps _ _ _ _ _ (Mask.trans (by decide) hm) ?_
    | with_reducible refine State.tryRequest_keeps _ _ _ (Mask.trans (by decide) hm) ?_
    | (simp only [Kept.made]; with_reducible refine Kept.set_ps (Mask.trans (by decide) hm) (by rfl) (by rfl) ?_)
    | split)

theorem State.arrive_keeps (m : Nat) (s0 : State) (s : State) (t : Nat) (hm : 0x2006060044 &&& m = 0x2006060044)
    (hk : Kept m s0 s) : Kept m s0 (State.arrive s t) := by
  unfold State.arrive
  try dsimp only
  repeat' (first
    | with_reducible assumption
    | with_reducible apply Kept.ite
    | with_reducible refine State.sendBeat_keeps _ _ _ _ (Mask.trans (by decide) hm) ?_
    | with_reducible refine State.lingerFrom_keeps _ _ _ _ (Mask.trans (by decide) hm) ?_
    | with_reducible refine State.setFld_at .HEATH_DOMAIN_STATUS rfl (Mask.trans (by decide) hm) ?_
    | with_reducible refine State.setFlag_at .HEATH_DOMAIN_STATUS rfl (Mask.trans (by decide) hm) ?_
    | (simp only [Kept.made]; with_reducible refine Kept.set_est (Mask.trans (by decide) hm) ?_)
    | (simp only [Kept.made]; with_reducible refine Kept.set_ps_thm (Mask.trans (by decide) hm) (by rfl) (by rfl) ?_)
    | split)

theorem State.afterBring_keeps (m : Nat) (s0 : State) (s : State) (hm : 0x81c0000100000404680004001000010000000000208796df4c &&& m = 0x81c0000100000404680004001000010000000000208796df4c)
    (hk : Kept m s0 s) : Kept m s0 (State.afterBring s) := by
  unfold State.afterBring
  try dsimp only
  repeat' (first
    | with_reducible assumption
    | with_reducible apply Kept.ite
    | with_reducible refine State.psDone_keeps _ _ _ (Mask.trans (by decide) hm) ?_
    | with_reducible refine State.legBegin_keeps _ _ _ _ (Mask.trans (by decide) hm) ?_
    | with_reducible refine State.tryRequest_keeps _ _ _ (Mask.trans (by decide) hm) ?_)

theorem State.repairDue_keeps (m : Nat) (s0 : State) (s : State) (hm : 0x2000200000c0 &&& m = 0x2000200000c0)
    (hk : Kept m s0 s) : Kept m s0 (State.repairDue s) := by
  unfold State.repairDue
  try dsimp only
  repeat' (first
    | with_reducible assumption
    | with_reducible apply Kept.ite
    | with_reducible refine State.flashDo_keeps _ _ _ _ (Mask.trans (by decide) hm) ?_
    | with_reducible refine State.raise_keeps _ _ _ _ _ _ (Mask.trans (by decide) hm) ?_
    | with_reducible refine State.setFlag_at .HEATH_FW_STATUS rfl (Mask.trans (by decide) hm) ?_
    | (simp only [Kept.made]; with_reducible refine Kept.set_fw (Mask.trans (by decide) hm) ?_)
    | split)

theorem State.checkReady_keeps (m : Nat) (s0 : State) (s : State) (hm : 0x2000000000000000000000000008002800200600c0 &&& m = 0x2000000000000000000000000008002800200600c0)
    (hk : Kept m s0 s) : Kept m s0 (State.checkReady s) := by
  unfold State.checkReady
  try dsimp only
  repeat' (first
    | with_reducible assumption
    | with_reducible apply Kept.ite
    | with_reducible refine State.toFollowers_keeps _ _ _ _ (Mask.trans (by decide) hm) ?_
    | with_reducible refine State.bell_keeps _ _ _ _ (Mask.trans (by decide) hm) ?_
    | with_reducible refine State.repairDue_keeps _ _ _ (Mask.trans (by decide) hm) ?_
    | with_reducible refine State.setFlag_at .HEATH_BOOT_STATUS rfl (Mask.trans (by decide) hm) ?_
    | with_reducible refine State.setFld_at .HEATH_BOOT_STATUS rfl (Mask.trans (by decide) hm) ?_
    | with_reducible refine State.setFlag_at .RING_SAMP rfl (Mask.trans (by decide) hm) ?_
    | (simp only [Kept.made]; with_reducible refine Kept.set_ps (Mask.trans (by decide) hm) (by rfl) (by rfl) ?_)
    | split)

theorem State.reachReady_keeps (m : Nat) (s0 : State) (s : State) (hm : 0x81c000012000040468000400100001000008002820a796dfcc &&& m = 0x81c000012000040468000400100001000008002820a796dfcc)
    (hk : Kept m s0 s) : Kept m s0 (State.reachReady s) := by
  unfold State.reachReady
  try dsimp only
  repeat' (first
    | with_reducible assumption
    | with_reducible apply Kept.ite
    | with_reducible refine State.checkReady_keeps _ _ _ (Mask.trans (by decide) hm) ?_
    | with_reducible refine State.tryRequest_keeps _ _ _ (Mask.trans (by decide) hm) ?_
    | split)

theorem State.stepEight_keeps (m : Nat) (s0 : State) (s : State) (hm : 0x12000000000000000902000000008002820268612c4 &&& m = 0x12000000000000000902000000008002820268612c4)
    (hk : Kept m s0 s) : Kept m s0 (State.stepEight s) := by
  unfold State.stepEight
  try dsimp only
  repeat' (first
    | with_reducible assumption
    | with_reducible apply Kept.ite
    | with_reducible refine State.freqReset_keeps _ _ _ (Mask.trans (by decide) hm) ?_
    | with_reducible refine State.arrive_keeps _ _ _ _ (Mask.trans (by decide) hm) ?_
    | with_reducible refine State.compute_keeps _ _ _ (Mask.trans (by decide) hm) ?_
    | with_reducible refine State.checkReady_keeps _ _ _ (Mask.trans (by decide) hm) ?_
    | with_reducible refine State.report_keeps _ _ _ _ (Mask.trans (by decide) hm) ?_
    | with_reducible refine State.setFld_at .HEATH_BOOT_STATUS rfl (Mask.trans (by decide) hm) ?_
    | with_reducible refine State.setFlag_at .HEATH_BOOT_STATUS rfl (Mask.trans (by decide) hm) ?_
    | (simp only [Kept.made]; with_reducible refine Kept.set_ps (Mask.trans (by decide) hm) (by rfl) (by rfl) ?_)
    | split)

theorem State.softStart_keeps (m : Nat) (s0 : State) (s : State) (order : List Nat) (hm : 0x81c000012000040468000400902001000008002820a796dfcc &&& m = 0x81c000012000040468000400902001000008002820a796dfcc)
    (hk : Kept m s0 s) : Kept m s0 (State.softStart s order) := by
  unfold State.softStart
  try dsimp only
  repeat' (first
    | with_reducible assumption
    | with_reducible refine State.railStart_keeps _ _ _ _ (Mask.trans (by decide) hm) ?_
    | with_reducible refine State.stepEight_keeps _ _ _ (Mask.trans (by decide) hm) ?_
    | with_reducible refine State.afterBring_keeps _ _ _ (Mask.trans (by decide) hm) ?_
    | (simp only [Kept.made]; with_reducible refine Kept.set_ps (Mask.trans (by decide) hm) (by rfl) (by rfl) ?_)
    | split)

theorem State.stepSeven_keeps (m : Nat) (s0 : State) (s : State) (hm : 0x81c000012000040468000400902001000008002820a796dfcc &&& m = 0x81c000012000040468000400902001000008002820a796dfcc)
    (hk : Kept m s0 s) : Kept m s0 (State.stepSeven s) := by
  unfold State.stepSeven
  try dsimp only
  repeat' (first
    | with_reducible assumption
    | with_reducible apply Kept.ite
    | with_reducible refine State.bringFail_keeps _ _ _ _ (Mask.trans (by decide) hm) ?_
    | with_reducible refine State.holdBases_keeps _ _ _ (Mask.trans (by decide) hm) ?_
    | with_reducible refine State.softStart_keeps _ _ _ _ (Mask.trans (by decide) hm) ?_
    | with_reducible refine State.setFld_at .HEATH_BOOT_STATUS rfl (Mask.trans (by decide) hm) ?_
    | with_reducible refine State.setFld_at .OPP_STATUS rfl (Mask.trans (by decide) hm) ?_
    | (simp only [Kept.made]; with_reducible refine Kept.set_avs (Mask.trans (by decide) hm) ?_)
    | split)

theorem State.avsSend_keeps (m : Nat) (s0 : State) (s : State) (kind : Nat) (hm : 0x40 &&& m = 0x40)
    (hk : Kept m s0 s) : Kept m s0 (State.avsSend s kind) := by
  unfold State.avsSend
  try dsimp only
  repeat' (first
    | with_reducible assumption
    | with_reducible apply Kept.ite
    | with_reducible refine State.emit_keeps _ _ _ _ (Mask.trans (by decide) hm) ?_
    | split)

theorem State.gapDpwm_keeps (m : Nat) (s0 : State) (s : State) (hm : 0x1000 &&& m = 0x1000)
    (hk : Kept m s0 s) : Kept m s0 (State.gapDpwm s) := by
  unfold State.gapDpwm
  try dsimp only
  repeat' (first
    | with_reducible assumption
    | with_reducible apply Kept.ite
    | (simp only [Kept.made]; with_reducible refine Kept.set_rings (Mask.trans (by decide) hm) ?_)
    | with_reducible refine Kept.fold ?_ (fun _ _ _ => ?_)
    | split)

theorem State.stepSix_keeps (m : Nat) (s0 : State) (s : State) (hm : 0x81c000010000000000000400100000000000000820a286dfc0 &&& m = 0x81c000010000000000000400100000000000000820a286dfc0)
    (hk : Kept m s0 s) : Kept m s0 (State.stepSix s) := by
  unfold State.stepSix
  try dsimp only
  repeat' (first
    | with_reducible assumption
    | with_reducible apply Kept.ite
    | with_reducible refine State.gapDpwm_keeps _ _ _ (Mask.trans (by decide) hm) ?_
    | with_reducible refine State.levelOff_keeps _ _ _ _ (Mask.trans (by decide) hm) ?_
    | with_reducible refine State.bringFail_keeps _ _ _ _ (Mask.trans (by decide) hm) ?_
    | with_reducible refine State.avsSend_keeps _ _ _ _ (Mask.trans (by decide) hm) ?_
    | with_reducible refine State.setFlag_at .HEATH_DOMAIN_STATUS rfl (Mask.trans (by decide) hm) ?_
    | with_reducible refine State.setFld_at .HEATH_BOOT_STATUS rfl (Mask.trans (by decide) hm) ?_
    | (simp only [Kept.made]; with_reducible refine Kept.set_ps (Mask.trans (by decide) hm) (by rfl) (by rfl) ?_)
    | (simp only [Kept.made]; with_reducible refine Kept.set_avs (Mask.trans (by decide) hm) ?_)
    | split)

theorem State.tryStepSix_keeps (m : Nat) (s0 : State) (s : State) (hm : 0x81c000010000000000000400100000000000000820a286dfc0 &&& m = 0x81c000010000000000000400100000000000000820a286dfc0)
    (hk : Kept m s0 s) : Kept m s0 (State.tryStepSix s) := by
  unfold State.tryStepSix
  try dsimp only
  repeat' (first
    | with_reducible assumption
    | with_reducible apply Kept.ite
    | with_reducible refine State.stepSix_keeps _ _ _ (Mask.trans (by decide) hm) ?_)

theorem State.legDone_keeps (m : Nat) (s0 : State) (s : State) (hm : 0x81c0000100000404680004001000010000000000208796df4c &&& m = 0x81c0000100000404680004001000010000000000208796df4c)
    (hk : Kept m s0 s) : Kept m s0 (State.legDone s) := by
  unfold State.legDone
  try dsimp only
  repeat' (first
    | with_reducible assumption
    | with_reducible apply Kept.ite
    | with_reducible refine State.arrive_keeps _ _ _ _ (Mask.trans (by decide) hm) ?_
    | with_reducible refine State.psDone_keeps _ _ _ (Mask.trans (by decide) hm) ?_
    | with_reducible refine State.legBegin_keeps _ _ _ _ (Mask.trans (by decide) hm) ?_)

theorem State.transitionDone_keeps (m : Nat) (s0 : State) (s : State) (hm : 0x81c0000100000404680004001000010000000000208796df4c &&& m = 0x81c0000100000404680004001000010000000000208796df4c)
    (hk : Kept m s0 s) : Kept m s0 (State.transitionDone s) := by
  unfold State.transitionDone
  try dsimp only
  repeat' (first
    | with_reducible assumption
    | with_reducible apply Kept.ite
    | with_reducible refine State.legDone_keeps _ _ _ (Mask.trans (by decide) hm) ?_)

theorem State.psRelease_keeps (m : Nat) (s0 : State) (s : State) (hm : 0x20000 &&& m = 0x20000)
    (hk : Kept m s0 s) : Kept m s0 (State.psRelease s) := by
  unfold State.psRelease
  try dsimp only
  repeat' (first
    | with_reducible assumption
    | with_reducible apply Kept.ite
    | (simp only [Kept.made]; with_reducible refine Kept.set_ps (Mask.trans (by decide) hm) (by rfl) (by rfl) ?_))

theorem State.inRegulation_keeps (m : Nat) (s0 : State) (s : State) (n : Nat) (hm : 0x81c00001200004046800f400902001000008002820a796dfcc &&& m = 0x81c00001200004046800f400902001000008002820a796dfcc)
    (hk : Kept m s0 s) : Kept m s0 (State.inRegulation s n) := by
  unfold State.inRegulation
  try dsimp only
  repeat' (first
    | with_reducible assumption
    | with_reducible apply Kept.ite
    | with_reducible refine State.railTo_keeps _ _ _ _ _ (Mask.trans (by decide) hm) ?_
    | with_reducible refine State.showRail_keeps _ _ _ _ (Mask.trans (by decide) hm) ?_
    | with_reducible refine State.softStart_keeps _ _ _ _ (Mask.trans (by decide) hm) ?_)

theorem State.softFail_keeps (m : Nat) (s0 : State) (s : State) (n : Nat) (hm : 0x81c000010000000000000400100000000000000820a286dfc0 &&& m = 0x81c000010000000000000400100000000000000820a286dfc0)
    (hk : Kept m s0 s) : Kept m s0 (State.softFail s n) := by
  unfold State.softFail
  try dsimp only
  repeat' (first
    | with_reducible assumption
    | with_reducible apply Kept.ite
    | with_reducible refine State.raise_keeps _ _ _ _ _ _ (Mask.trans (by decide) hm) ?_
    | with_reducible refine State.bringFail_keeps _ _ _ _ (Mask.trans (by decide) hm) ?_)

theorem State.softTimeout_keeps (m : Nat) (s0 : State) (s : State) (n : Nat) (hm : 0x81c000010000000000000400100000000000000820a286dfc6 &&& m = 0x81c000010000000000000400100000000000000820a286dfc6)
    (hk : Kept m s0 s) : Kept m s0 (State.softTimeout s n) := by
  unfold State.softTimeout
  try dsimp only
  repeat' (first
    | with_reducible assumption
    | with_reducible apply Kept.ite
    | with_reducible refine State.advanceTo_keeps _ _ _ _ (Mask.trans (by decide) hm) ?_
    | with_reducible refine State.softFail_keeps _ _ _ _ (Mask.trans (by decide) hm) ?_)

theorem State.shutStart_keeps (m : Nat) (s0 : State) (s : State) (hm : 0x81c0000100000000000004001000000000000000208286db46 &&& m = 0x81c0000100000000000004001000000000000000208286db46)
    (hk : Kept m s0 s) : Kept m s0 (State.shutStart s) := by
  unfold State.shutStart
  try dsimp only
  repeat' (first
    | with_reducible assumption
    | with_reducible apply Kept.ite
    | with_reducible refine State.advanceTo_keeps _ _ _ _ (Mask.trans (by decide) hm) ?_
    | with_reducible refine State.shutNext_keeps _ _ _ _ (Mask.trans (by decide) hm) ?_
    | split)

theorem State.shutRailDone_keeps (m : Nat) (s0 : State) (s : State) (n : Nat) (hm : 0x1000000000000f40000000000000000000000025000 &&& m = 0x1000000000000f40000000000000000000000025000)
    (hk : Kept m s0 s) : Kept m s0 (State.shutRailDone s n) := by
  unfold State.shutRailDone
  try dsimp only
  repeat' (first
    | with_reducible assumption
    | with_reducible apply Kept.ite
    | with_reducible refine State.railOff_keeps _ _ _ _ (Mask.trans (by decide) hm) ?_
    | (simp only [Kept.made]; with_reducible refine Kept.set_ps (Mask.trans (by decide) hm) (by rfl) (by rfl) ?_)
    | split)

theorem State.shutContinue_keeps (m : Nat) (s0 : State) (s : State) (hm : 0x81c0000100000404680004001000010000000000208796df4e &&& m = 0x81c0000100000404680004001000010000000000208796df4e)
    (hk : Kept m s0 s) : Kept m s0 (State.shutContinue s) := by
  unfold State.shutContinue
  try dsimp only
  repeat' (first
    | with_reducible assumption
    | with_reducible apply Kept.ite
    | with_reducible refine State.advanceTo_keeps _ _ _ _ (Mask.trans (by decide) hm) ?_
    | with_reducible refine State.shutNext_keeps _ _ _ _ (Mask.trans (by decide) hm) ?_
    | with_reducible refine State.tryRequest_keeps _ _ _ (Mask.trans (by decide) hm) ?_
    | split)

theorem State.afterDown_keeps (m : Nat) (s0 : State) (s : State) (hm : 0x81c0000100000404680004001000010000000000208796df4c &&& m = 0x81c0000100000404680004001000010000000000208796df4c)
    (hk : Kept m s0 s) : Kept m s0 (State.afterDown s) := by
  unfold State.afterDown
  try dsimp only
  repeat' (first
    | with_reducible assumption
    | with_reducible apply Kept.ite
    | with_reducible refine State.tryRequest_keeps _ _ _ (Mask.trans (by decide) hm) ?_
    | split)

theorem State.railOver_keeps (m : Nat) (s0 : State) (s : State) (hm : 0x81c000010000040468000400100001000000000820a796dfcc &&& m = 0x81c000010000040468000400100001000000000820a796dfcc)
    (hk : Kept m s0 s) : Kept m s0 (State.railOver s) := by
  unfold State.railOver
  try dsimp only
  repeat' (first
    | with_reducible assumption
    | with_reducible apply Kept.ite
    | with_reducible refine State.goDown_keeps _ _ _ _ _ (Mask.trans (by decide) hm) ?_
    | with_reducible refine State.afterDown_keeps _ _ _ (Mask.trans (by decide) hm) ?_
    | split)

theorem State.holdOver_keeps (m : Nat) (s0 : State) (s : State) (n : Nat) (hm : 0x81c000010000040468000400100001000000000820a796dfce &&& m = 0x81c000010000040468000400100001000000000820a796dfce)
    (hk : Kept m s0 s) : Kept m s0 (State.holdOver s n) := by
  unfold State.holdOver
  try dsimp only
  repeat' (first
    | with_reducible assumption
    | with_reducible apply Kept.ite
    | with_reducible refine State.holdExpires_keeps _ _ _ _ (Mask.trans (by decide) hm) ?_
    | with_reducible refine State.goDown_keeps _ _ _ _ _ (Mask.trans (by decide) hm) ?_
    | with_reducible refine State.afterDown_keeps _ _ _ (Mask.trans (by decide) hm) ?_
    | split)

theorem State.thermDown_keeps (m : Nat) (s0 : State) (s : State) (hm : 0x81c000010000040468000400100001000000000820a796dfcc &&& m = 0x81c000010000040468000400100001000000000820a796dfcc)
    (hk : Kept m s0 s) : Kept m s0 (State.thermDown s) := by
  unfold State.thermDown
  try dsimp only
  repeat' (first
    | with_reducible assumption
    | with_reducible apply Kept.ite
    | with_reducible refine State.goDown_keeps _ _ _ _ _ (Mask.trans (by decide) hm) ?_
    | with_reducible refine State.afterDown_keeps _ _ _ (Mask.trans (by decide) hm) ?_
    | split)

theorem State.avsBad_keeps (m : Nat) (s0 : State) (s : State) (kind : Nat) (a : AvsIn) (hm : 0x81c000010000000004000400100000000000000820a286dfc0 &&& m = 0x81c000010000000004000400100000000000000820a286dfc0)
    (hk : Kept m s0 s) : Kept m s0 (State.avsBad s kind a) := by
  unfold State.avsBad
  try dsimp only
  repeat' (first
    | with_reducible assumption
    | with_reducible apply Kept.ite
    | with_reducible refine State.bringFail_keeps _ _ _ _ (Mask.trans (by decide) hm) ?_
    | with_reducible refine State.levelOn_keeps _ _ _ _ _ (Mask.trans (by decide) hm) ?_
    | with_reducible refine State.setFlag_at .RAIL0_AVS_STATUS rfl (Mask.trans (by decide) hm) ?_
    | with_reducible refine State.incSat_at .RAIL0_AVS_STATUS rfl (Mask.trans (by decide) hm) ?_
    | (simp only [Kept.made]; with_reducible refine Kept.set_avs (Mask.trans (by decide) hm) ?_))

theorem State.tellVin_keeps (m : Nat) (s0 : State) (s : State) (mv : Nat) (hm : 0x48040 &&& m = 0x48040)
    (hk : Kept m s0 s) : Kept m s0 (State.tellVin s mv) := by
  unfold State.tellVin
  try dsimp only
  repeat' (first
    | with_reducible assumption
    | with_reducible apply Kept.ite
    | with_reducible refine State.send_keeps _ _ _ _ _ _ (Mask.trans (by decide) hm) ?_
    | (simp only [Kept.made]; with_reducible refine Kept.set_avs (Mask.trans (by decide) hm) ?_)
    | split)

theorem State.avsVin_keeps (m : Nat) (s0 : State) (s : State) (a : AvsIn) (hm : 0x81c000012000040469000400902001000008002820a796dfcc &&& m = 0x81c000012000040469000400902001000008002820a796dfcc)
    (hk : Kept m s0 s) : Kept m s0 (State.avsVin s a) := by
  unfold State.avsVin
  try dsimp only
  repeat' (first
    | with_reducible assumption
    | with_reducible apply Kept.ite
    | with_reducible refine State.tellVin_keeps _ _ _ _ (Mask.trans (by decide) hm) ?_
    | with_reducible refine State.levelOff_keeps _ _ _ _ (Mask.trans (by decide) hm) ?_
    | with_reducible refine State.levelOn_keeps _ _ _ _ _ (Mask.trans (by decide) hm) ?_
    | with_reducible refine State.stepSeven_keeps _ _ _ (Mask.trans (by decide) hm) ?_
    | with_reducible refine State.setFld_at .RAIL0_AVS_READ rfl (Mask.trans (by decide) hm) ?_
    | (simp only [Kept.made]; with_reducible refine Kept.set_avs (Mask.trans (by decide) hm) ?_)
    | split)

theorem State.avsFrame_keeps (m : Nat) (s0 : State) (s : State) (a : AvsIn) (hm : 0x40000000c600000000000000080808100 &&& m = 0x40000000c600000000000000080808100)
    (hk : Kept m s0 s) : Kept m s0 (State.avsFrame s a) := by
  unfold State.avsFrame
  try dsimp only
  repeat' (first
    | with_reducible assumption
    | with_reducible apply Kept.ite
    | with_reducible refine State.levelOff_keeps _ _ _ _ (Mask.trans (by decide) hm) ?_
    | with_reducible refine State.supplyAlert_keeps _ _ _ (Mask.trans (by decide) hm) ?_
    | with_reducible refine State.setFld_at .RAIL0_AVS_STATUS rfl (Mask.trans (by decide) hm) ?_
    | with_reducible refine State.setFlag_at .RAIL0_AVS_STATUS rfl (Mask.trans (by decide) hm) ?_
    | (simp only [Kept.made]; with_reducible refine Kept.set_avs (Mask.trans (by decide) hm) ?_))

theorem State.avsOne_keeps (m : Nat) (s0 : State) (s : State) (kind : Nat) (a : AvsIn) (hm : 0x81c00001200004046f0004009c6001000008002820a796dfcc &&& m = 0x81c00001200004046f0004009c6001000008002820a796dfcc)
    (hk : Kept m s0 s) : Kept m s0 (State.avsOne s kind a) := by
  unfold State.avsOne
  try dsimp only
  repeat' (first
    | with_reducible assumption
    | with_reducible apply Kept.ite
    | with_reducible refine State.avsFrame_keeps _ _ _ _ (Mask.trans (by decide) hm) ?_
    | with_reducible refine State.bringFail_keeps _ _ _ _ (Mask.trans (by decide) hm) ?_
    | with_reducible refine State.avsVin_keeps _ _ _ _ (Mask.trans (by decide) hm) ?_
    | with_reducible refine State.avsBad_keeps _ _ _ _ _ (Mask.trans (by decide) hm) ?_
    | with_reducible refine State.setFld_at .RAIL0_AVS_IT rfl (Mask.trans (by decide) hm) ?_
    | (simp only [Kept.made]; with_reducible refine Kept.set_avs (Mask.trans (by decide) hm) ?_)
    | split)

theorem State.avsChain_keeps (m : Nat) (s0 : State) (s : State) (ks : List Nat) (a : AvsIn) (hm : 0x81c00001200004046f0004009c6001000008002820a796dfcc &&& m = 0x81c00001200004046f0004009c6001000008002820a796dfcc)
    (hk : Kept m s0 s) : Kept m s0 (State.avsChain ks a s) := by
  induction ks generalizing s a with
  | nil => exact hk
  | cons k rest ih =>
    have h1 := State.avsOne_keeps m s0 _ k a (Mask.trans (by decide) hm) (State.avsSend_keeps m s0 s k (Mask.trans (by decide) hm) hk)
    simp only [State.avsChain]
    split
    · exact ih _ _ h1
    · exact h1

theorem State.avsAnswer_keeps (m : Nat) (s0 : State) (s : State) (kind : Nat) (a : AvsIn) (hm : 0x81c00001200004046f0004009c6001000008002820a796dfcc &&& m = 0x81c00001200004046f0004009c6001000008002820a796dfcc)
    (hk : Kept m s0 s) : Kept m s0 (State.avsAnswer s kind a) := by
  unfold State.avsAnswer
  try dsimp only
  repeat' (first
    | with_reducible assumption
    | with_reducible apply Kept.ite
    | with_reducible refine State.avsOne_keeps _ _ _ _ _ (Mask.trans (by decide) hm) ?_
    | with_reducible refine State.avsChain_keeps _ _ _ _ _ (Mask.trans (by decide) hm) ?_
    | split)

theorem State.avsPoll_keeps (m : Nat) (s0 : State) (s : State) (a : AvsIn) (hm : 0x81c00001200004046f0004009c6001000008002820a796dfcc &&& m = 0x81c00001200004046f0004009c6001000008002820a796dfcc)
    (hk : Kept m s0 s) : Kept m s0 (State.avsPoll s a) := by
  unfold State.avsPoll
  try dsimp only
  repeat' (first
    | with_reducible assumption
    | with_reducible apply Kept.ite
    | with_reducible refine State.avsSend_keeps _ _ _ _ (Mask.trans (by decide) hm) ?_
    | with_reducible refine State.avsAnswer_keeps _ _ _ _ _ (Mask.trans (by decide) hm) ?_
    | split)

theorem State.avsStatus_keeps (m : Nat) (s0 : State) (s : State) (a : AvsIn) (hm : 0x81c00001200004046f0004009c6001000008002820a796dfcc &&& m = 0x81c00001200004046f0004009c6001000008002820a796dfcc)
    (hk : Kept m s0 s) : Kept m s0 (State.avsStatus s a) := by
  unfold State.avsStatus
  try dsimp only
  repeat' (first
    | with_reducible assumption
    | with_reducible apply Kept.ite
    | with_reducible refine State.avsSend_keeps _ _ _ _ (Mask.trans (by decide) hm) ?_
    | with_reducible refine State.avsAnswer_keeps _ _ _ _ _ (Mask.trans (by decide) hm) ?_
    | split)

theorem State.avsAgain_keeps (m : Nat) (s0 : State) (s : State) (a : AvsIn) (hm : 0x81c00001200004046f0004009c6001000008002820a796dfce &&& m = 0x81c00001200004046f0004009c6001000008002820a796dfce)
    (hk : Kept m s0 s) : Kept m s0 (State.avsAgain s a) := by
  unfold State.avsAgain
  try dsimp only
  repeat' (first
    | with_reducible assumption
    | with_reducible apply Kept.ite
    | with_reducible refine State.advanceTo_keeps _ _ _ _ (Mask.trans (by decide) hm) ?_
    | with_reducible refine State.avsSend_keeps _ _ _ _ (Mask.trans (by decide) hm) ?_
    | with_reducible refine State.avsAnswer_keeps _ _ _ _ _ (Mask.trans (by decide) hm) ?_
    | split)

theorem State.vinTimeout_keeps (m : Nat) (s0 : State) (s : State) (hm : 0x81c000010000000000000400100000000000000820a286dfc6 &&& m = 0x81c000010000000000000400100000000000000820a286dfc6)
    (hk : Kept m s0 s) : Kept m s0 (State.vinTimeout s) := by
  unfold State.vinTimeout
  try dsimp only
  repeat' (first
    | with_reducible assumption
    | with_reducible refine State.advanceTo_keeps _ _ _ _ (Mask.trans (by decide) hm) ?_
    | with_reducible refine State.bringFail_keeps _ _ _ _ (Mask.trans (by decide) hm) ?_
    | (simp only [Kept.made]; with_reducible refine Kept.set_avs (Mask.trans (by decide) hm) ?_)
    | split)

theorem State.vinStale_keeps (m : Nat) (s0 : State) (s : State) (hm : 0x8006 &&& m = 0x8006)
    (hk : Kept m s0 s) : Kept m s0 (State.vinStale s) := by
  unfold State.vinStale
  try dsimp only
  repeat' (first
    | with_reducible assumption
    | with_reducible apply Kept.ite
    | with_reducible refine State.advanceTo_keeps _ _ _ _ (Mask.trans (by decide) hm) ?_
    | (simp only [Kept.made]; with_reducible refine Kept.set_avs (Mask.trans (by decide) hm) ?_)
    | split)

end Sys2Proof.Machine
end

