-- ==== Sys2Proof/Laws/KeepsThermal.lean ====
section
/-! SUPPORT. What each operation of Machine/Thermal.lean keeps: every place outside its mask, the register store's form, the resets' levels,
the outputs so far, time and the queue. -/

namespace Sys2Proof.Machine

theorem State.siteRuns_keeps (m : Nat) (s0 : State) (s : State) (m' : Readings) (k : Nat) (hm : 0x20000000000000000000000000000000000000000000000080 &&& m = 0x20000000000000000000000000000000000000000000000080)
    (hk : Kept m s0 s) : Kept m s0 (State.siteRuns s m' k).1 := by
  unfold State.siteRuns
  try dsimp only
  repeat' (first
    | with_reducible assumption
    | with_reducible apply Kept.ite
    | with_reducible refine State.raise_keeps _ _ _ _ _ _ (Mask.trans (by decide) hm) ?_
    | with_reducible refine State.setFld_at .SITE_STATUS ⟨_, rfl⟩ (Mask.trans (by decide) hm) ?_
    | with_reducible refine State.setFlag_at .SITE_STATUS ⟨_, rfl⟩ (Mask.trans (by decide) hm) ?_
    | split)

theorem State.allRuns_keeps (m : Nat) (s0 : State) (s : State) (m' : Readings) (hm : 0x20000000000000000000000000000000000000000000000080 &&& m = 0x20000000000000000000000000000000000000000000000080)
    (hk : Kept m s0 s) : Kept m s0 (State.allRuns s m').1 := by
  unfold State.allRuns
  try dsimp only
  repeat' (first
    | with_reducible assumption
    | with_reducible refine State.siteRuns_keeps _ _ _ _ _ (Mask.trans (by decide) hm) ?_
    | with_reducible refine Kept.foldFst ?_ (fun _ _ _ => ?_))

theorem State.showCaps_keeps (m : Nat) (s0 : State) (s : State) (hm : 0x201000000000000000000000 &&& m = 0x201000000000000000000000)
    (hk : Kept m s0 s) : Kept m s0 (State.showCaps s) := by
  unfold State.showCaps
  try dsimp only
  repeat' (first
    | with_reducible assumption
    | with_reducible refine State.setFld_at .THM_ENF_STATUS rfl (Mask.trans (by decide) hm) ?_
    | with_reducible refine State.setFlag_at .THM_ENF_STATUS rfl (Mask.trans (by decide) hm) ?_
    | with_reducible refine State.setFld_at .BUD_CAPS rfl (Mask.trans (by decide) hm) ?_)

theorem State.report280_keeps (m : Nat) (s0 : State) (s : State) (m' : Readings) (hm : 0x4000000000000000000000000000200000000000000000000 &&& m = 0x4000000000000000000000000000200000000000000000000)
    (hk : Kept m s0 s) : Kept m s0 (State.report280 s m') := by
  unfold State.report280
  try dsimp only
  repeat' (first
    | with_reducible assumption
    | with_reducible refine State.setFld_at .THM_TEMP rfl (Mask.trans (by decide) hm) ?_
    | with_reducible refine State.setFld_at .SITE_TEMP ⟨_, rfl⟩ (Mask.trans (by decide) hm) ?_
    | with_reducible refine Kept.fold ?_ (fun _ _ _ => ?_))

theorem State.noSites_keeps (m : Nat) (s0 : State) (s : State) (m' : Readings) (hm : 0x4000000000000000000000000201300000000000084000180 &&& m = 0x4000000000000000000000000201300000000000084000180)
    (hk : Kept m s0 s) : Kept m s0 (State.noSites s m') := by
  unfold State.noSites
  try dsimp only
  repeat' (first
    | with_reducible assumption
    | with_reducible apply Kept.ite
    | with_reducible refine State.levelOn_keeps _ _ _ _ _ (Mask.trans (by decide) hm) ?_
    | with_reducible refine State.showCaps_keeps _ _ _ (Mask.trans (by decide) hm) ?_
    | with_reducible refine State.levelOff_keeps _ _ _ _ (Mask.trans (by decide) hm) ?_
    | with_reducible refine State.report280_keeps _ _ _ _ (Mask.trans (by decide) hm) ?_
    | with_reducible refine State.setFlag_at .THM_STATUS rfl (Mask.trans (by decide) hm) ?_
    | with_reducible refine State.setFld_at .SITE_TEMP ⟨_, rfl⟩ (Mask.trans (by decide) hm) ?_
    | with_reducible refine Kept.each ?_ (fun _ _ _ => ?_)
    | (simp only [Kept.made]; with_reducible refine Kept.set_thm (Mask.trans (by decide) hm) ?_))

theorem State.shutdownFlag_keeps (m : Nat) (s0 : State) (s : State) (hm : 0x81c000010000040468000400100001000000000820a796dfcc &&& m = 0x81c000010000040468000400100001000000000820a796dfcc)
    (hk : Kept m s0 s) : Kept m s0 (State.shutdownFlag s) := by
  unfold State.shutdownFlag
  try dsimp only
  repeat' (first
    | with_reducible assumption
    | with_reducible apply Kept.ite
    | with_reducible refine State.raise_keeps _ _ _ _ _ _ (Mask.trans (by decide) hm) ?_
    | with_reducible refine State.thermDown_keeps _ _ _ (Mask.trans (by decide) hm) ?_
    | with_reducible refine State.setFlag_at .THM_STATUS rfl (Mask.trans (by decide) hm) ?_
    | (simp only [Kept.made]; with_reducible refine Kept.set_thm (Mask.trans (by decide) hm) ?_))

theorem State.warnFlag_keeps (m : Nat) (s0 : State) (s : State) (hm : 0x100000000000004000080 &&& m = 0x100000000000004000080)
    (hk : Kept m s0 s) : Kept m s0 (State.warnFlag s) := by
  unfold State.warnFlag
  try dsimp only
  repeat' (first
    | with_reducible assumption
    | with_reducible apply Kept.ite
    | with_reducible refine State.raise_keeps _ _ _ _ _ _ (Mask.trans (by decide) hm) ?_
    | with_reducible refine State.setFlag_at .THM_STATUS rfl (Mask.trans (by decide) hm) ?_
    | (simp only [Kept.made]; with_reducible refine Kept.set_thm (Mask.trans (by decide) hm) ?_)
    | split)

theorem State.throttleFlag_keeps (m : Nat) (s0 : State) (s : State) (hm : 0x2100000000000004000000 &&& m = 0x2100000000000004000000)
    (hk : Kept m s0 s) : Kept m s0 (State.throttleFlag s) := by
  unfold State.throttleFlag
  try dsimp only
  repeat' (first
    | with_reducible assumption
    | with_reducible apply Kept.ite
    | with_reducible refine State.setFlag_at .THM_STATUS rfl (Mask.trans (by decide) hm) ?_
    | with_reducible refine State.incSat_at .THM_EPISODES rfl (Mask.trans (by decide) hm) ?_
    | (simp only [Kept.made]; with_reducible refine Kept.set_thm (Mask.trans (by decide) hm) ?_)
    | split)

theorem State.tellFlags_keeps (m : Nat) (s0 : State) (s : State) (hm : 0x4a40040 &&& m = 0x4a40040)
    (hk : Kept m s0 s) : Kept m s0 (State.tellFlags s) := by
  unfold State.tellFlags
  try dsimp only
  repeat' (first
    | with_reducible assumption
    | with_reducible apply Kept.ite
    | with_reducible refine State.takeFlags_keeps _ _ _ _ _ (Mask.trans (by decide) hm) ?_
    | with_reducible refine State.report_keeps _ _ _ _ (Mask.trans (by decide) hm) ?_
    | (simp only [Kept.made]; with_reducible refine Kept.set_lim (Mask.trans (by decide) hm) ?_)
    | (simp only [Kept.made]; with_reducible refine Kept.set_lim_thm (Mask.trans (by decide) hm) ?_)
    | split)

theorem State.enforceStep_keeps (m : Nat) (s0 : State) (s : State) (hm : 0x201000000000000004000000 &&& m = 0x201000000000000004000000)
    (hk : Kept m s0 s) : Kept m s0 (State.enforceStep s) := by
  unfold State.enforceStep
  try dsimp only
  repeat' (first
    | with_reducible assumption
    | with_reducible apply Kept.ite
    | with_reducible refine State.showCaps_keeps _ _ _ (Mask.trans (by decide) hm) ?_
    | (simp only [Kept.made]; with_reducible refine Kept.set_thm (Mask.trans (by decide) hm) ?_)
    | split)

theorem State.releaseStep_keeps (m : Nat) (s0 : State) (s : State) (hm : 0x203100000000000004000000 &&& m = 0x203100000000000004000000)
    (hk : Kept m s0 s) : Kept m s0 (State.releaseStep s) := by
  unfold State.releaseStep
  try dsimp only
  repeat' (first
    | with_reducible assumption
    | with_reducible apply Kept.ite
    | with_reducible refine State.showCaps_keeps _ _ _ (Mask.trans (by decide) hm) ?_
    | with_reducible refine State.setFlag_at .THM_STATUS rfl (Mask.trans (by decide) hm) ?_
    | with_reducible refine State.incSat_at .THM_EPISODES rfl (Mask.trans (by decide) hm) ?_
    | (simp only [Kept.made]; with_reducible refine Kept.set_thm (Mask.trans (by decide) hm) ?_)
    | split)

theorem State.enforceBegin_keeps (m : Nat) (s0 : State) (s : State) (hm : 0x3000000000030000000201100000000000004005081 &&& m = 0x3000000000030000000201100000000000004005081)
    (hk : Kept m s0 s) : Kept m s0 (State.enforceBegin s) := by
  unfold State.enforceBegin
  try dsimp only
  repeat' (first
    | with_reducible assumption
    | with_reducible refine State.enforceStep_keeps _ _ _ (Mask.trans (by decide) hm) ?_
    | with_reducible refine State.abortAllInj_keeps _ _ _ _ (Mask.trans (by decide) hm) ?_
    | with_reducible refine State.ringEvent_keeps _ _ _ _ (Mask.trans (by decide) hm) ?_
    | with_reducible refine State.setFlag_at .THM_STATUS rfl (Mask.trans (by decide) hm) ?_
    | (simp only [Kept.made]; with_reducible refine Kept.set_thm (Mask.trans (by decide) hm) ?_))

theorem State.throttleSet_keeps (m : Nat) (s0 : State) (s : State) (hm : 0x30000000000300000012011000220000000043450c1 &&& m = 0x30000000000300000012011000220000000043450c1)
    (hk : Kept m s0 s) : Kept m s0 (State.throttleSet s) := by
  unfold State.throttleSet
  try dsimp only
  repeat' (first
    | with_reducible assumption
    | with_reducible apply Kept.ite
    | with_reducible refine State.slowDown_keeps _ _ _ _ _ _ (Mask.trans (by decide) hm) ?_
    | with_reducible refine State.enforceBegin_keeps _ _ _ (Mask.trans (by decide) hm) ?_
    | with_reducible refine State.setFlag_at .THM_STATUS rfl (Mask.trans (by decide) hm) ?_
    | (simp only [Kept.made]; with_reducible refine Kept.set_thm (Mask.trans (by decide) hm) ?_))

theorem State.throttleCleared_keeps (m : Nat) (s0 : State) (s : State) (hm : 0x203100000000000004000000 &&& m = 0x203100000000000004000000)
    (hk : Kept m s0 s) : Kept m s0 (State.throttleCleared s) := by
  unfold State.throttleCleared
  try dsimp only
  repeat' (first
    | with_reducible assumption
    | with_reducible apply Kept.ite
    | with_reducible refine State.releaseStep_keeps _ _ _ (Mask.trans (by decide) hm) ?_
    | with_reducible refine State.setFlag_at .THM_STATUS rfl (Mask.trans (by decide) hm) ?_
    | (simp only [Kept.made]; with_reducible refine Kept.set_thm (Mask.trans (by decide) hm) ?_))

theorem State.earlyEnforce_keeps (m : Nat) (s0 : State) (s : State) (hm : 0x30000000000300000012011000220000000043450c1 &&& m = 0x30000000000300000012011000220000000043450c1)
    (hk : Kept m s0 s) : Kept m s0 (State.earlyEnforce s) := by
  unfold State.earlyEnforce
  try dsimp only
  repeat' (first
    | with_reducible assumption
    | with_reducible apply Kept.ite
    | with_reducible refine State.slowDown_keeps _ _ _ _ _ _ (Mask.trans (by decide) hm) ?_
    | with_reducible refine State.enforceBegin_keeps _ _ _ (Mask.trans (by decide) hm) ?_
    | with_reducible refine State.setFlag_at .THM_STATUS rfl (Mask.trans (by decide) hm) ?_)

theorem State.enforceRound_keeps (m : Nat) (s0 : State) (s : State) (hm : 0x203100000000000004000000 &&& m = 0x203100000000000004000000)
    (hk : Kept m s0 s) : Kept m s0 (State.enforceRound s) := by
  unfold State.enforceRound
  try dsimp only
  repeat' (first
    | with_reducible assumption
    | with_reducible apply Kept.ite
    | with_reducible refine State.releaseStep_keeps _ _ _ (Mask.trans (by decide) hm) ?_
    | with_reducible refine State.enforceStep_keeps _ _ _ (Mask.trans (by decide) hm) ?_)

theorem State.enforcement_keeps (m : Nat) (s0 : State) (s : State) (was : Bool) (hm : 0x30000000000300000012031000220000000043450c1 &&& m = 0x30000000000300000012031000220000000043450c1)
    (hk : Kept m s0 s) : Kept m s0 (State.enforcement s was) := by
  unfold State.enforcement
  try dsimp only
  repeat' (first
    | with_reducible assumption
    | with_reducible apply Kept.ite
    | with_reducible refine State.throttleSet_keeps _ _ _ (Mask.trans (by decide) hm) ?_
    | with_reducible refine State.earlyEnforce_keeps _ _ _ (Mask.trans (by decide) hm) ?_
    | with_reducible refine State.throttleCleared_keeps _ _ _ (Mask.trans (by decide) hm) ?_
    | with_reducible refine State.enforceRound_keeps _ _ _ (Mask.trans (by decide) hm) ?_)

theorem State.graceDeadline_keeps (m : Nat) (s0 : State) (s : State) (hm : 0x300000404683000000c60110000000000a007b652c7 &&& m = 0x300000404683000000c60110000000000a007b652c7)
    (hk : Kept m s0 s) : Kept m s0 (State.graceDeadline s) := by
  unfold State.graceDeadline
  try dsimp only
  repeat' (first
    | with_reducible assumption
    | with_reducible apply Kept.ite
    | with_reducible refine State.advanceTo_keeps _ _ _ _ (Mask.trans (by decide) hm) ?_
    | with_reducible refine State.wake_keeps _ _ _ _ _ (Mask.trans (by decide) hm) ?_
    | with_reducible refine State.enforceBegin_keeps _ _ _ (Mask.trans (by decide) hm) ?_
    | with_reducible refine State.tellFlags_keeps _ _ _ (Mask.trans (by decide) hm) ?_
    | with_reducible refine State.noteReasons_keeps _ _ _ (Mask.trans (by decide) hm) ?_
    | with_reducible refine State.setFlag_at .THM_STATUS rfl (Mask.trans (by decide) hm) ?_
    | (simp only [Kept.made]; with_reducible refine Kept.set_thm (Mask.trans (by decide) hm) ?_)
    | split)

theorem State.showNodes_keeps (m : Nat) (s0 : State) (s : State) (hm : 0x10000000000000000000000 &&& m = 0x10000000000000000000000)
    (hk : Kept m s0 s) : Kept m s0 (State.showNodes s) := by
  unfold State.showNodes
  try dsimp only
  repeat' (first
    | with_reducible assumption
    | with_reducible refine State.setFld_at .THM_NODE_T ⟨_, rfl⟩ (Mask.trans (by decide) hm) ?_
    | with_reducible refine Kept.fold ?_ (fun _ _ _ => ?_))

theorem State.startNodes_keeps (m : Nat) (s0 : State) (s : State) (hm : 0x4000000 &&& m = 0x4000000)
    (hk : Kept m s0 s) : Kept m s0 (State.startNodes s) := by
  unfold State.startNodes
  try dsimp only
  repeat' (first
    | with_reducible assumption
    | with_reducible apply Kept.ite
    | (simp only [Kept.made]; with_reducible refine Kept.set_thm (Mask.trans (by decide) hm) ?_)
    | split)

theorem State.observe_keeps (m : Nat) (s0 : State) (s : State) (hm : 0x10000000000000004000000 &&& m = 0x10000000000000004000000)
    (hk : Kept m s0 s) : Kept m s0 (State.observe s) := by
  unfold State.observe
  try dsimp only
  repeat' (first
    | with_reducible assumption
    | with_reducible refine State.showNodes_keeps _ _ _ (Mask.trans (by decide) hm) ?_
    | (simp only [Kept.made]; with_reducible refine Kept.set_thm (Mask.trans (by decide) hm) ?_))

theorem State.nextRate_keeps (m : Nat) (s0 : State) (s : State) (hm : 0x100000000000004000000 &&& m = 0x100000000000004000000)
    (hk : Kept m s0 s) : Kept m s0 (State.nextRate s) := by
  unfold State.nextRate
  try dsimp only
  repeat' (first
    | with_reducible assumption
    | with_reducible apply Kept.ite
    | with_reducible refine State.setFld_at .THM_STATUS rfl (Mask.trans (by decide) hm) ?_
    | (simp only [Kept.made]; with_reducible refine Kept.set_thm (Mask.trans (by decide) hm) ?_))

theorem State.oscCorrect_keeps (m : Nat) (s0 : State) (s : State) (t : Int) (hm : 0x2004000000 &&& m = 0x2004000000)
    (hk : Kept m s0 s) : Kept m s0 (State.oscCorrect s t) := by
  unfold State.oscCorrect
  try dsimp only
  repeat' (first
    | with_reducible assumption
    | with_reducible refine State.setFlag_at .HEATH_DOMAIN_STATUS rfl (Mask.trans (by decide) hm) ?_
    | (simp only [Kept.made]; with_reducible refine Kept.set_thm (Mask.trans (by decide) hm) ?_))

theorem State.dieReport_keeps (m : Nat) (s0 : State) (s : State) (d : Nat) (tDie : Int) (tMem : Int) (hm : 0x400000000000004000000 &&& m = 0x400000000000004000000)
    (hk : Kept m s0 s) : Kept m s0 (State.dieReport s d tDie tMem) := by
  unfold State.dieReport
  try dsimp only
  repeat' (first
    | with_reducible assumption
    | with_reducible refine State.setFld_at .THM_PKG_TEMP rfl (Mask.trans (by decide) hm) ?_
    | (simp only [Kept.made]; with_reducible refine Kept.set_thm (Mask.trans (by decide) hm) ?_))

theorem State.thermReport_keeps (m : Nat) (s0 : State) (s : State) (hm : 0x400000000000004040040 &&& m = 0x400000000000004040040)
    (hk : Kept m s0 s) : Kept m s0 (State.thermReport s) := by
  unfold State.thermReport
  try dsimp only
  repeat' (first
    | with_reducible assumption
    | with_reducible apply Kept.ite
    | with_reducible refine State.dieReport_keeps _ _ _ _ _ _ (Mask.trans (by decide) hm) ?_
    | with_reducible refine State.send_keeps _ _ _ _ _ _ (Mask.trans (by decide) hm) ?_
    | split)

theorem State.testStack_keeps (m : Nat) (s0 : State) (s : State) (k' : Nat) (t : Nat) (hm : 0x20000000000000004000080 &&& m = 0x20000000000000004000080)
    (hk : Kept m s0 s) : Kept m s0 (State.testStack s k' t) := by
  unfold State.testStack
  try dsimp only
  repeat' (first
    | with_reducible assumption
    | with_reducible apply Kept.ite
    | with_reducible refine State.raise_keeps _ _ _ _ _ _ (Mask.trans (by decide) hm) ?_
    | with_reducible refine State.setFlag_at .THM_MEM ⟨_, rfl⟩ (Mask.trans (by decide) hm) ?_
    | with_reducible refine State.setFld_at .THM_MEM ⟨_, rfl⟩ (Mask.trans (by decide) hm) ?_
    | (simp only [Kept.made]; with_reducible refine Kept.set_thm (Mask.trans (by decide) hm) ?_)
    | split)

theorem State.testStacks_keeps (m : Nat) (s0 : State) (s : State) (hm : 0x20000000000000004000080 &&& m = 0x20000000000000004000080)
    (hk : Kept m s0 s) : Kept m s0 (State.testStacks s) := by
  unfold State.testStacks
  try dsimp only
  repeat' (first
    | with_reducible assumption
    | with_reducible apply Kept.ite
    | with_reducible refine State.testStack_keeps _ _ _ _ _ (Mask.trans (by decide) hm) ?_
    | (simp only [Kept.made]; with_reducible refine Kept.set_thm (Mask.trans (by decide) hm) ?_)
    | with_reducible refine Kept.each ?_ (fun _ _ _ => ?_)
    | split)

theorem State.stackReport_keeps (m : Nat) (s0 : State) (s : State) (k : Nat) (t : Nat) (hm : 0xc420000000000000084800100 &&& m = 0xc420000000000000084800100)
    (hk : Kept m s0 s) : Kept m s0 (State.stackReport s k t) := by
  unfold State.stackReport
  try dsimp only
  repeat' (first
    | with_reducible assumption
    | with_reducible apply Kept.ite
    | with_reducible refine State.levelOff_keeps _ _ _ _ (Mask.trans (by decide) hm) ?_
    | with_reducible refine State.noteReasons_keeps _ _ _ (Mask.trans (by decide) hm) ?_
    | with_reducible refine State.setFld_at .THM_MEM ⟨_, rfl⟩ (Mask.trans (by decide) hm) ?_
    | with_reducible refine State.setFlag_at .THM_MEM ⟨_, rfl⟩ (Mask.trans (by decide) hm) ?_
    | (simp only [Kept.made]; with_reducible refine Kept.set_thm (Mask.trans (by decide) hm) ?_)
    | split)

theorem State.stackStale_keeps (m : Nat) (s0 : State) (s : State) (k : Nat) (hm : 0xc420000000000000080800186 &&& m = 0xc420000000000000080800186)
    (hk : Kept m s0 s) : Kept m s0 (State.stackStale s k) := by
  unfold State.stackStale
  try dsimp only
  repeat' (first
    | with_reducible assumption
    | with_reducible apply Kept.ite
    | with_reducible refine State.advanceTo_keeps _ _ _ _ (Mask.trans (by decide) hm) ?_
    | with_reducible refine State.levelOn_keeps _ _ _ _ _ (Mask.trans (by decide) hm) ?_
    | with_reducible refine State.noteReasons_keeps _ _ _ (Mask.trans (by decide) hm) ?_
    | with_reducible refine State.setFlag_at .THM_MEM ⟨_, rfl⟩ (Mask.trans (by decide) hm) ?_
    | split)

theorem State.evaluate_keeps (m : Nat) (s0 : State) (s : State) (xs : List SiteIn) (hm : 0xadc0000300000404683004001d63370003a0000820a7f6dfcd &&& m = 0xadc0000300000404683004001d63370003a0000820a7f6dfcd)
    (hk : Kept m s0 s) : Kept m s0 (State.evaluate s xs) := by
  unfold State.evaluate
  try dsimp only
  repeat' (first
    | with_reducible assumption
    | with_reducible apply Kept.ite
    | with_reducible refine State.done_keeps _ _ _ _ _ _ (Mask.trans (by decide) hm) ?_
    | with_reducible refine State.allRuns_keeps _ _ _ _ (Mask.trans (by decide) hm) ?_
    | with_reducible refine State.noSites_keeps _ _ _ _ (Mask.trans (by decide) hm) ?_
    | with_reducible refine State.enforcement_keeps _ _ _ _ (Mask.trans (by decide) hm) ?_
    | with_reducible refine State.startNodes_keeps _ _ _ (Mask.trans (by decide) hm) ?_
    | with_reducible refine State.shutdownFlag_keeps _ _ _ (Mask.trans (by decide) hm) ?_
    | with_reducible refine State.throttleFlag_keeps _ _ _ (Mask.trans (by decide) hm) ?_
    | with_reducible refine State.warnFlag_keeps _ _ _ (Mask.trans (by decide) hm) ?_
    | with_reducible refine State.observe_keeps _ _ _ (Mask.trans (by decide) hm) ?_
    | with_reducible refine State.testStacks_keeps _ _ _ (Mask.trans (by decide) hm) ?_
    | with_reducible refine State.nextRate_keeps _ _ _ (Mask.trans (by decide) hm) ?_
    | with_reducible refine State.oscCorrect_keeps _ _ _ _ (Mask.trans (by decide) hm) ?_
    | with_reducible refine State.thermReport_keeps _ _ _ (Mask.trans (by decide) hm) ?_
    | with_reducible refine State.tellFlags_keeps _ _ _ (Mask.trans (by decide) hm) ?_
    | with_reducible refine State.noteReasons_keeps _ _ _ (Mask.trans (by decide) hm) ?_
    | with_reducible refine State.setFld_at .SITE_RAW ⟨_, rfl⟩ (Mask.trans (by decide) hm) ?_
    | with_reducible refine State.setFld_at .THM_STATUS rfl (Mask.trans (by decide) hm) ?_
    | with_reducible refine Kept.fold ?_ (fun _ _ _ => ?_)
    | split)

theorem State.thermalRound_keeps (m : Nat) (s0 : State) (s : State) (xs : List SiteIn) (hm : 0xadc0000300000404683004001d63370003a00008a0a7f6dfcf &&& m = 0xadc0000300000404683004001d63370003a00008a0a7f6dfcf)
    (hk : Kept m s0 s) : Kept m s0 (State.thermalRound s xs) := by
  unfold State.thermalRound
  try dsimp only
  repeat' (first
    | with_reducible assumption
    | with_reducible apply Kept.ite
    | with_reducible refine State.startCore_keeps _ _ _ (Mask.trans (by decide) hm) ?_
    | with_reducible refine State.evaluate_keeps _ _ _ _ (Mask.trans (by decide) hm) ?_
    | with_reducible refine State.tryStepSix_keeps _ _ _ (Mask.trans (by decide) hm) ?_
    | with_reducible refine State.advanceSky_keeps _ _ _ _ (Mask.trans (by decide) hm) ?_
    | with_reducible refine State.wake_keeps _ _ _ _ _ (Mask.trans (by decide) hm) ?_
    | (simp only [Kept.made]; with_reducible refine Kept.set_thm (Mask.trans (by decide) hm) ?_))

theorem State.predict_keeps (m : Nat) (s0 : State) (s : State) (hm : 0x10800000000000004000006 &&& m = 0x10800000000000004000006)
    (hk : Kept m s0 s) : Kept m s0 (State.predict s) := by
  unfold State.predict
  try dsimp only
  repeat' (first
    | with_reducible assumption
    | with_reducible apply Kept.ite
    | with_reducible refine State.advanceSky_keeps _ _ _ _ (Mask.trans (by decide) hm) ?_
    | with_reducible refine State.showNodes_keeps _ _ _ (Mask.trans (by decide) hm) ?_
    | with_reducible refine State.setFld_at .THM_PRED_STATUS rfl (Mask.trans (by decide) hm) ?_
    | (simp only [Kept.made]; with_reducible refine Kept.set_thm (Mask.trans (by decide) hm) ?_)
    | split)

theorem State.analogTrip_keeps (m : Nat) (s0 : State) (s : State) (k : Nat) (hm : 0xa1c0000100000404680004001000010000000008a0a7b6dfcc &&& m = 0xa1c0000100000404680004001000010000000008a0a7b6dfcc)
    (hk : Kept m s0 s) : Kept m s0 (State.analogTrip s k) := by
  unfold State.analogTrip
  try dsimp only
  repeat' (first
    | with_reducible assumption
    | with_reducible apply Kept.ite
    | with_reducible refine State.raise_keeps _ _ _ _ _ _ (Mask.trans (by decide) hm) ?_
    | with_reducible refine State.wake_keeps _ _ _ _ _ (Mask.trans (by decide) hm) ?_
    | with_reducible refine State.thermDown_keeps _ _ _ (Mask.trans (by decide) hm) ?_
    | with_reducible refine State.tellFlags_keeps _ _ _ (Mask.trans (by decide) hm) ?_
    | with_reducible refine State.setFlag_at .SITE_STATUS ⟨_, rfl⟩ (Mask.trans (by decide) hm) ?_
    | with_reducible refine State.setFlag_at .THM_STATUS rfl (Mask.trans (by decide) hm) ?_
    | (simp only [Kept.made]; with_reducible refine Kept.set_thm (Mask.trans (by decide) hm) ?_)
    | split)

theorem State.externalTrip_keeps (m : Nat) (s0 : State) (s : State) (hm : 0x81c0000100000404680004001000010000000008a0a796dfcc &&& m = 0x81c0000100000404680004001000010000000008a0a796dfcc)
    (hk : Kept m s0 s) : Kept m s0 (State.externalTrip s) := by
  unfold State.externalTrip
  try dsimp only
  repeat' (first
    | with_reducible assumption
    | with_reducible apply Kept.ite
    | with_reducible refine State.raise_keeps _ _ _ _ _ _ (Mask.trans (by decide) hm) ?_
    | with_reducible refine State.wake_keeps _ _ _ _ _ (Mask.trans (by decide) hm) ?_
    | with_reducible refine State.thermDown_keeps _ _ _ (Mask.trans (by decide) hm) ?_
    | with_reducible refine State.setFlag_at .THM_STATUS rfl (Mask.trans (by decide) hm) ?_
    | split)

theorem State.oscConversion_keeps (m : Nat) (s0 : State) (s : State) (raw : Nat) (done : Bool) (hm : 0x8000000000000000000000000000000000000002004020006 &&& m = 0x8000000000000000000000000000000000000002004020006)
    (hk : Kept m s0 s) : Kept m s0 (State.oscConversion s raw done) := by
  unfold State.oscConversion
  try dsimp only
  repeat' (first
    | with_reducible assumption
    | with_reducible apply Kept.ite
    | with_reducible refine State.advanceTo_keeps _ _ _ _ (Mask.trans (by decide) hm) ?_
    | with_reducible refine State.oscCorrect_keeps _ _ _ _ (Mask.trans (by decide) hm) ?_
    | with_reducible refine State.setFld_at .SITE_RAW ⟨_, rfl⟩ (Mask.trans (by decide) hm) ?_
    | (simp only [Kept.made]; with_reducible refine Kept.set_ps (Mask.trans (by decide) hm) (by rfl) (by rfl) ?_)
    | split)

theorem State.dpwmCal_keeps (m : Nat) (s0 : State) (s : State) (taps : List (Nat × Nat)) (hm : 0x8000000000000000020006 &&& m = 0x8000000000000000020006)
    (hk : Kept m s0 s) : Kept m s0 (State.dpwmCal s taps) := by
  unfold State.dpwmCal
  try dsimp only
  repeat' (first
    | with_reducible assumption
    | with_reducible apply Kept.ite
    | with_reducible refine State.advanceTo_keeps _ _ _ _ (Mask.trans (by decide) hm) ?_
    | with_reducible refine State.incSat_at .THM_DPWM_CAL rfl (Mask.trans (by decide) hm) ?_
    | with_reducible refine State.setFld_at .THM_DPWM_CAL rfl (Mask.trans (by decide) hm) ?_
    | (simp only [Kept.made]; with_reducible refine Kept.set_ps (Mask.trans (by decide) hm) (by rfl) (by rfl) ?_)
    | with_reducible refine Kept.fold ?_ (fun _ _ _ => ?_)
    | split)

end Sys2Proof.Machine
end

