-- ==== Sys2Proof/Laws/KeepsChecks.lean ====
section
/-! SUPPORT. What each operation of Machine/Checks.lean keeps: every place outside its mask, the register store's form, the resets' levels,
the outputs so far, time and the queue. -/

namespace Sys2Proof.Machine

theorem State.setFolded_keeps (m : Nat) (s0 : State) (g : State → Fld × Nat → Nat) (l : List (Fld × Nat))
    (hl : ∀ q ∈ l, ∃ p : Place, inPlace p q.1.off ∧ p.bit &&& m = p.bit) (s : State) (hk : Kept m s0 s) :
    Kept m s0 (l.foldl (fun t q => t.setFld q.1 (g t q)) s) := by
  induction l generalizing s with
  | nil => exact hk
  | cons x xs ih =>
    obtain ⟨p, hp, hb⟩ := hl x (by simp)
    exact ih (fun q hq => hl q (by simp [hq])) _ (State.setFld_at p hp hb hk)

theorem checkFlds_in (f : Fld) (h : f ∈ checkFlds) :
    ∃ p ∈ [Place.ADM_CHECK, .DRP_CHECK, .RAIL_CHECK, .EST_CHECK, .BUD_CHECK, .OPP_CHECK, .THM_CHECK, .HDG_CHECK, .FAB_CHECK],
      inPlace p f.off := by
  simp only [checkFlds, List.mem_cons, List.not_mem_nil, or_false] at h
  rcases h with rfl | rfl | rfl | rfl | rfl | rfl | rfl | rfl | rfl | rfl | rfl | rfl
  · exact ⟨.ADM_CHECK, by decide, rfl⟩
  · exact ⟨.DRP_CHECK, by decide, rfl⟩
  · exact ⟨.RAIL_CHECK, by decide, 0, rfl⟩
  · exact ⟨.RAIL_CHECK, by decide, 1, rfl⟩
  · exact ⟨.RAIL_CHECK, by decide, 2, rfl⟩
  · exact ⟨.RAIL_CHECK, by decide, 3, rfl⟩
  · exact ⟨.EST_CHECK, by decide, rfl⟩
  · exact ⟨.BUD_CHECK, by decide, rfl⟩
  · exact ⟨.OPP_CHECK, by decide, rfl⟩
  · exact ⟨.THM_CHECK, by decide, rfl⟩
  · exact ⟨.HDG_CHECK, by decide, rfl⟩
  · exact ⟨.FAB_CHECK, by decide, rfl⟩

theorem State.noteChecks_keeps (m : Nat) (s0 s : State) (ms : List Nat) (hm : 0x20100000000010008020842004000000000000000000000 &&& m = 0x20100000000010008020842004000000000000000000000) (hk : Kept m s0 s) :
    Kept m s0 (s.noteChecks ms) := by
  unfold State.noteChecks
  refine State.setFolded_keeps m s0 (fun t q => t.fld q.1 ||| q.2) _ (fun q hq => ?_) s hk
  obtain ⟨p, hp, ho⟩ := checkFlds_in q.1 (List.of_mem_zip hq).1
  refine ⟨p, ho, ?_⟩
  have hall : ∀ p ∈ [Place.ADM_CHECK, .DRP_CHECK, .RAIL_CHECK, .EST_CHECK, .BUD_CHECK, .OPP_CHECK, .THM_CHECK, .HDG_CHECK,
      .FAB_CHECK], p.bit &&& 0x20100000000010008020842004000000000000000000000 = p.bit := by decide
  exact Mask.trans (hall p hp) hm

end Sys2Proof.Machine
end

