-- ==== Sys2Proof/Laws/KeepsCommands.lean ====
section
/-! SUPPORT. What each operation of Machine/Commands.lean keeps: every place outside its mask, the register store's form, the resets' levels,
the outputs so far, time and the queue. -/

namespace Sys2Proof.Machine

theorem State.setCmd_keeps (m : Nat) (s0 : State) (s : State) (m' : Nat) (a : Active) (hm : 0x400000 &&& m = 0x400000)
    (hk : Kept m s0 s) : Kept m s0 (State.setCmd s m' a) := by
  unfold State.setCmd
  try dsimp only
  repeat' (first
    | with_reducible assumption
    | (simp only [Kept.made]; with_reducible refine Kept.set_cmds (Mask.trans (by decide) hm) ?_))

theorem State.dropCmd_keeps (m : Nat) (s0 : State) (s : State) (m' : Nat) (hm : 0x400000 &&& m = 0x400000)
    (hk : Kept m s0 s) : Kept m s0 (State.dropCmd s m') := by
  unfold State.dropCmd
  try dsimp only
  repeat' (first
    | with_reducible assumption
    | (simp only [Kept.made]; with_reducible refine Kept.set_cmds (Mask.trans (by decide) hm) ?_))

theorem State.queueNotice_keeps (m : Nat) (s0 : State) (s : State) (m' : Nat) (n : Notice) (hm : 0x2000000000200000 &&& m = 0x2000000000200000)
    (hk : Kept m s0 s) : Kept m s0 (State.queueNotice s m' n) := by
  unfold State.queueNotice
  try dsimp only
  repeat' (first
    | with_reducible assumption
    | with_reducible apply Kept.ite
    | with_reducible refine State.incSat_at .CMD_STATUS rfl (Mask.trans (by decide) hm) ?_
    | (simp only [Kept.made]; with_reducible refine Kept.set_ses (Mask.trans (by decide) hm) ?_)
    | split)

theorem State.reject_keeps (m : Nat) (s0 : State) (s : State) (m' : Nat) (addr : Nat) (seq : Nat) (reason : Nat) (detach : Bool) (hm : 0x6000000000200000 &&& m = 0x6000000000200000)
    (hk : Kept m s0 s) : Kept m s0 (State.reject s m' addr seq reason detach) := by
  unfold State.reject
  try dsimp only
  repeat' (first
    | with_reducible assumption
    | with_reducible apply Kept.ite
    | with_reducible refine State.queueNotice_keeps _ _ _ _ _ (Mask.trans (by decide) hm) ?_
    | with_reducible refine State.incSat_at .CMD_ERR rfl (Mask.trans (by decide) hm) ?_
    | split)

theorem State.rejectCmd_keeps (m : Nat) (s0 : State) (s : State) (m' : Nat) (a : Active) (reason : Nat) (hm : 0x1e000000000700040 &&& m = 0x1e000000000700040)
    (hk : Kept m s0 s) : Kept m s0 (State.rejectCmd s m' a reason) := by
  unfold State.rejectCmd
  try dsimp only
  repeat' (first
    | with_reducible assumption
    | with_reducible apply Kept.ite
    | with_reducible refine State.dropCmd_keeps _ _ _ _ (Mask.trans (by decide) hm) ?_
    | with_reducible refine State.reject_keeps _ _ _ _ _ _ _ _ (Mask.trans (by decide) hm) ?_
    | with_reducible refine State.detach_keeps _ _ _ _ (Mask.trans (by decide) hm) ?_
    | split)

theorem State.postNotice_keeps (m : Nat) (s0 s : State) (k : Nat) (n : Notice) (t : State) (hm : 0x200000 &&& m = 0x200000)
    (hk : Kept m s0 s) (ht : s.postNotice k = some (n, t)) : Kept m s0 t := by
  unfold State.postNotice at ht
  repeat' split at ht
  all_goals first | (cases ht; done) | (cases ht; exact Kept.set_ses (Mask.trans (by decide) hm) hk)

theorem State.fillSlot_keeps (m : Nat) (s0 : State) (s : State) (m' : Nat) (n : Notice) (hm : 0x178000000000000 &&& m = 0x178000000000000)
    (hk : Kept m s0 s) : Kept m s0 (State.fillSlot s m' n) := by
  unfold State.fillSlot
  try dsimp only
  repeat' (first
    | with_reducible assumption
    | with_reducible refine State.setReg_at .MB_OUT_W0L ⟨_, rfl⟩ (Mask.trans (by decide) hm) ?_
    | with_reducible refine State.setReg_at .MB_OUT_W0H ⟨_, rfl⟩ (Mask.trans (by decide) hm) ?_
    | with_reducible refine State.setReg_at .MB_OUT_W1L ⟨_, rfl⟩ (Mask.trans (by decide) hm) ?_
    | with_reducible refine State.setReg_at .MB_OUT_W1H ⟨_, rfl⟩ (Mask.trans (by decide) hm) ?_
    | with_reducible refine State.setReg_at .MB_OUT_FULL rfl (Mask.trans (by decide) hm) ?_)

theorem State.sendAll_keeps (m : Nat) (s0 : State) (s : State) (p : Payload) (hm : 0x40040 &&& m = 0x40040)
    (hk : Kept m s0 s) : Kept m s0 (State.sendAll s p) := by
  unfold State.sendAll
  try dsimp only
  repeat' (first
    | with_reducible assumption
    | with_reducible refine State.send_keeps _ _ _ _ _ _ (Mask.trans (by decide) hm) ?_
    | with_reducible refine Kept.each ?_ (fun _ _ _ => ?_))

theorem State.countDone_keeps (m : Nat) (s0 : State) (s : State) (m' : Nat) (a : Active) (hm : 0x18000000000000000 &&& m = 0x18000000000000000)
    (hk : Kept m s0 s) : Kept m s0 (State.countDone s m' a) := by
  unfold State.countDone
  try dsimp only
  repeat' (first
    | with_reducible assumption
    | with_reducible refine State.incSat_at .CMD_COUNT rfl (Mask.trans (by decide) hm) ?_
    | with_reducible refine State.setFld_at .CMD_LAST rfl (Mask.trans (by decide) hm) ?_)

theorem State.readHeader_keeps (m : Nat) (s0 : State) (s : State) (m' : Nat) (addr : Nat) (hm : 0x100040 &&& m = 0x100040)
    (hk : Kept m s0 s) : Kept m s0 (State.readHeader s m' addr) := by
  unfold State.readHeader
  try dsimp only
  repeat' (first
    | with_reducible assumption
    | with_reducible refine State.memSend_keeps _ _ _ _ (Mask.trans (by decide) hm) ?_)

theorem State.finish_keeps (m : Nat) (s0 : State) (s : State) (m' : Nat) (status : Nat) (detail : Nat) (t : Nat) (result : List Nat) (hm : 0x1a000000000700040 &&& m = 0x1a000000000700040)
    (hk : Kept m s0 s) : Kept m s0 (State.finish s m' status detail t result) := by
  unfold State.finish
  try dsimp only
  repeat' (first
    | with_reducible assumption
    | with_reducible apply Kept.ite
    | with_reducible refine State.countDone_keeps _ _ _ _ _ (Mask.trans (by decide) hm) ?_
    | with_reducible refine State.emit_keeps _ _ _ _ (Mask.trans (by decide) hm) ?_
    | with_reducible refine State.dropCmd_keeps _ _ _ _ (Mask.trans (by decide) hm) ?_
    | with_reducible refine State.queueNotice_keeps _ _ _ _ _ (Mask.trans (by decide) hm) ?_
    | with_reducible refine State.setCmd_keeps _ _ _ _ _ (Mask.trans (by decide) hm) ?_
    | with_reducible refine State.memSend_keeps _ _ _ _ (Mask.trans (by decide) hm) ?_
    | (simp only [Kept.made]; with_reducible refine Kept.set_ses (Mask.trans (by decide) hm) ?_)
    | split)

theorem State.done_keeps (m : Nat) (s0 : State) (s : State) (m' : Nat) (status : Nat) (detail : Nat) (hm : 0x1a000000000700040 &&& m = 0x1a000000000700040)
    (hk : Kept m s0 s) : Kept m s0 (State.done s m' status detail) := by
  unfold State.done
  try dsimp only
  repeat' (first
    | with_reducible assumption
    | with_reducible refine State.finish_keeps _ _ _ _ _ _ _ _ (Mask.trans (by decide) hm) ?_)

theorem State.doneWith_keeps (m : Nat) (s0 : State) (s : State) (m' : Nat) (result : List Nat) (hm : 0x1a000000000700040 &&& m = 0x1a000000000700040)
    (hk : Kept m s0 s) : Kept m s0 (State.doneWith s m' result) := by
  unfold State.doneWith
  try dsimp only
  repeat' (first
    | with_reducible assumption
    | with_reducible refine State.finish_keeps _ _ _ _ _ _ _ _ (Mask.trans (by decide) hm) ?_)

theorem State.finishAfter_keeps (m : Nat) (s0 : State) (s : State) (m' : Nat) (xs : List MemTxn) (status : Nat) (result : List Nat) (bank : Bool) (hm : 0x1a000000000700040 &&& m = 0x1a000000000700040)
    (hk : Kept m s0 s) : Kept m s0 (State.finishAfter s m' xs status result bank) := by
  unfold State.finishAfter
  try dsimp only
  repeat' (first
    | with_reducible assumption
    | with_reducible apply Kept.ite
    | with_reducible refine State.finish_keeps _ _ _ _ _ _ _ _ (Mask.trans (by decide) hm) ?_
    | with_reducible refine State.setCmd_keeps _ _ _ _ _ (Mask.trans (by decide) hm) ?_
    | with_reducible refine State.memSend_keeps _ _ _ _ (Mask.trans (by decide) hm) ?_
    | split)

theorem State.resultsWritten_keeps (m : Nat) (s0 : State) (s : State) (m' : Nat) (a : Active) (hm : 0x1e000000000700040 &&& m = 0x1e000000000700040)
    (hk : Kept m s0 s) : Kept m s0 (State.resultsWritten s m' a) := by
  unfold State.resultsWritten
  try dsimp only
  repeat' (first
    | with_reducible assumption
    | with_reducible apply Kept.ite
    | with_reducible refine State.setCmd_keeps _ _ _ _ _ (Mask.trans (by decide) hm) ?_
    | with_reducible refine State.finish_keeps _ _ _ _ _ _ _ _ (Mask.trans (by decide) hm) ?_
    | with_reducible refine State.incSat_at .CMD_ERR rfl (Mask.trans (by decide) hm) ?_
    | split)

theorem State.withdraw_keeps (m : Nat) (s0 : State) (s : State) (x : MemTxn) (hm : 0x1e000000000700040 &&& m = 0x1e000000000700040)
    (hk : Kept m s0 s) : Kept m s0 (State.withdraw s x) := by
  unfold State.withdraw
  try dsimp only
  repeat' (first
    | with_reducible assumption
    | with_reducible apply Kept.ite
    | with_reducible refine State.setCmd_keeps _ _ _ _ _ (Mask.trans (by decide) hm) ?_
    | with_reducible refine State.resultsWritten_keeps _ _ _ _ _ (Mask.trans (by decide) hm) ?_
    | with_reducible refine State.rejectCmd_keeps _ _ _ _ _ _ (Mask.trans (by decide) hm) ?_
    | with_reducible refine State.dropCmd_keeps _ _ _ _ (Mask.trans (by decide) hm) ?_
    | with_reducible refine State.queueNotice_keeps _ _ _ _ _ (Mask.trans (by decide) hm) ?_
    | with_reducible refine State.incSat_at .CMD_ERR rfl (Mask.trans (by decide) hm) ?_
    | (simp only [Kept.made]; with_reducible refine Kept.set_ses (Mask.trans (by decide) hm) ?_)
    | split)

theorem State.withdrawWrites_keeps (m : Nat) (s0 : State) (s : State) (hm : 0x1e000000000700040 &&& m = 0x1e000000000700040)
    (hk : Kept m s0 s) : Kept m s0 (State.withdrawWrites s) := by
  unfold State.withdrawWrites
  try dsimp only
  repeat' (first
    | with_reducible assumption
    | with_reducible apply Kept.ite
    | with_reducible refine State.withdraw_keeps _ _ _ _ (Mask.trans (by decide) hm) ?_
    | (simp only [Kept.made]; with_reducible refine Kept.set_mem (Mask.trans (by decide) hm) ?_)
    | with_reducible refine Kept.each ?_ (fun _ _ _ => ?_)
    | split)

theorem State.enterUnattended_keeps (m : Nat) (s0 : State) (s : State) (cause : Nat) (hm : 0xc40000001f800000088f401c0 &&& m = 0xc40000001f800000088f401c0)
    (hk : Kept m s0 s) : Kept m s0 (State.enterUnattended s cause) := by
  unfold State.enterUnattended
  try dsimp only
  repeat' (first
    | with_reducible assumption
    | with_reducible apply Kept.ite
    | with_reducible refine State.bell_keeps _ _ _ _ (Mask.trans (by decide) hm) ?_
    | with_reducible refine State.withdrawWrites_keeps _ _ _ (Mask.trans (by decide) hm) ?_
    | with_reducible refine State.levelOn_keeps _ _ _ _ _ (Mask.trans (by decide) hm) ?_
    | with_reducible refine State.pldmEvent_keeps _ _ _ _ _ _ (Mask.trans (by decide) hm) ?_
    | with_reducible refine State.sendAll_keeps _ _ _ _ (Mask.trans (by decide) hm) ?_
    | with_reducible refine State.noteReasons_keeps _ _ _ (Mask.trans (by decide) hm) ?_
    | with_reducible refine State.setFld_at .CMD_SESSION rfl (Mask.trans (by decide) hm) ?_
    | (simp only [Kept.made]; with_reducible refine Kept.set_ses_unattended (Mask.trans (by decide) hm) ?_)
    | split)

theorem State.replyWritten_keeps (m : Nat) (s0 : State) (s : State) (m' : Nat) (a : Active) (hm : 0xc40000001f800000088f401c0 &&& m = 0xc40000001f800000088f401c0)
    (hk : Kept m s0 s) : Kept m s0 (State.replyWritten s m' a) := by
  unfold State.replyWritten
  try dsimp only
  repeat' (first
    | with_reducible assumption
    | with_reducible apply Kept.ite
    | with_reducible refine State.rejectCmd_keeps _ _ _ _ _ _ (Mask.trans (by decide) hm) ?_
    | with_reducible refine State.setCmd_keeps _ _ _ _ _ (Mask.trans (by decide) hm) ?_
    | with_reducible refine State.readHeader_keeps _ _ _ _ _ (Mask.trans (by decide) hm) ?_
    | with_reducible refine State.detach_keeps _ _ _ _ (Mask.trans (by decide) hm) ?_
    | with_reducible refine State.dropCmd_keeps _ _ _ _ (Mask.trans (by decide) hm) ?_
    | with_reducible refine State.enterUnattended_keeps _ _ _ _ (Mask.trans (by decide) hm) ?_
    | with_reducible refine State.queueNotice_keeps _ _ _ _ _ (Mask.trans (by decide) hm) ?_
    | with_reducible refine State.incSat_at .CMD_ERR rfl (Mask.trans (by decide) hm) ?_
    | split)

theorem State.headerRead_keeps (m : Nat) (s0 : State) (s : State) (m' : Nat) (a0 : Active) (line : List Nat) (hm : 0x1e000000000700040 &&& m = 0x1e000000000700040)
    (hk : Kept m s0 s) : Kept m s0 (State.headerRead s m' a0 line) := by
  unfold State.headerRead
  try dsimp only
  repeat' (first
    | with_reducible assumption
    | with_reducible apply Kept.ite
    | with_reducible refine State.rejectCmd_keeps _ _ _ _ _ _ (Mask.trans (by decide) hm) ?_
    | with_reducible refine State.setCmd_keeps _ _ _ _ _ (Mask.trans (by decide) hm) ?_
    | with_reducible refine State.done_keeps _ _ _ _ _ _ (Mask.trans (by decide) hm) ?_
    | with_reducible refine State.memSend_keeps _ _ _ _ (Mask.trans (by decide) hm) ?_
    | split)

theorem State.cmdLine_keeps (m : Nat) (s0 : State) (s : State) (m' : Nat) (x : MemTxn) (ok : Bool) (data : List Nat) (hm : 0xc40000001f800000088f401c0 &&& m = 0xc40000001f800000088f401c0)
    (hk : Kept m s0 s) : Kept m s0 (State.cmdLine s m' x ok data) := by
  unfold State.cmdLine
  try dsimp only
  repeat' (first
    | with_reducible assumption
    | with_reducible apply Kept.ite
    | with_reducible refine State.headerRead_keeps _ _ _ _ _ _ (Mask.trans (by decide) hm) ?_
    | with_reducible refine State.rejectCmd_keeps _ _ _ _ _ _ (Mask.trans (by decide) hm) ?_
    | with_reducible refine State.setCmd_keeps _ _ _ _ _ (Mask.trans (by decide) hm) ?_
    | with_reducible refine State.done_keeps _ _ _ _ _ _ (Mask.trans (by decide) hm) ?_
    | with_reducible refine State.resultsWritten_keeps _ _ _ _ _ (Mask.trans (by decide) hm) ?_
    | with_reducible refine State.replyWritten_keeps _ _ _ _ _ (Mask.trans (by decide) hm) ?_
    | with_reducible refine State.incSat_at .CMD_ERR rfl (Mask.trans (by decide) hm) ?_
    | split)

theorem State.pickup_keeps (m : Nat) (s0 : State) (s : State) (m' : Nat) (hm : 0x6080000000700040 &&& m = 0x6080000000700040)
    (hk : Kept m s0 s) : Kept m s0 (State.pickup s m') := by
  unfold State.pickup
  try dsimp only
  repeat' (first
    | with_reducible assumption
    | with_reducible apply Kept.ite
    | with_reducible refine State.setCmd_keeps _ _ _ _ _ (Mask.trans (by decide) hm) ?_
    | with_reducible refine State.readHeader_keeps _ _ _ _ _ (Mask.trans (by decide) hm) ?_
    | with_reducible refine State.reject_keeps _ _ _ _ _ _ _ _ (Mask.trans (by decide) hm) ?_
    | with_reducible refine State.setReg_at .MB_IN_FULL rfl (Mask.trans (by decide) hm) ?_
    | with_reducible refine State.incSat_at .CMD_ERR rfl (Mask.trans (by decide) hm) ?_
    | (simp only [Kept.made]; with_reducible refine Kept.set_ses (Mask.trans (by decide) hm) ?_)
    | split)

theorem State.mctpJudge_keeps (m : Nat) (s0 : State) (s : State) (a : Active) (hm : 0x1a000000000700040 &&& m = 0x1a000000000700040)
    (hk : Kept m s0 s) : Kept m s0 (State.mctpJudge s a) := by
  unfold State.mctpJudge
  try dsimp only
  repeat' (first
    | with_reducible assumption
    | with_reducible apply Kept.ite
    | with_reducible refine State.setCmd_keeps _ _ _ _ _ (Mask.trans (by decide) hm) ?_
    | with_reducible refine State.done_keeps _ _ _ _ _ _ (Mask.trans (by decide) hm) ?_
    | split)

theorem State.takeTurn_keeps (m : Nat) (s0 : State) (s : State) (hm : 0x1a000000000700040 &&& m = 0x1a000000000700040)
    (hk : Kept m s0 s) : Kept m s0 (State.takeTurn s) := by
  unfold State.takeTurn
  try dsimp only
  repeat' (first
    | with_reducible assumption
    | with_reducible apply Kept.ite
    | with_reducible refine State.mctpJudge_keeps _ _ _ _ (Mask.trans (by decide) hm) ?_
    | split)

theorem State.mctpRequest_keeps (m : Nat) (s0 : State) (s : State) (bs : List Nat) (hm : 0x404680000000000000001a000002007765244 &&& m = 0x404680000000000000001a000002007765244)
    (hk : Kept m s0 s) : Kept m s0 (State.mctpRequest s bs) := by
  unfold State.mctpRequest
  try dsimp only
  repeat' (first
    | with_reducible assumption
    | with_reducible apply Kept.ite
    | with_reducible refine State.emit_keeps _ _ _ _ (Mask.trans (by decide) hm) ?_
    | with_reducible refine State.startCore_keeps _ _ _ (Mask.trans (by decide) hm) ?_
    | with_reducible refine State.startSteward_keeps _ _ _ (Mask.trans (by decide) hm) ?_
    | with_reducible refine State.lingerFrom_keeps _ _ _ _ (Mask.trans (by decide) hm) ?_
    | with_reducible refine State.setCmd_keeps _ _ _ _ _ (Mask.trans (by decide) hm) ?_
    | with_reducible refine State.takeTurn_keeps _ _ _ (Mask.trans (by decide) hm) ?_
    | split)

theorem State.runOp_keeps (m : Nat) (s0 : State) (s : State) (m' : Nat) (op : Nat) (f : Active → List Nat → State) (hm : 0x0 &&& m = 0x0)
    (hk : Kept m s0 s) (hf : ∀ x0 x1, Kept m s0 (f x0 x1)) : Kept m s0 (State.runOp s m' op f) := by
  unfold State.runOp
  try dsimp only
  repeat' (first
    | with_reducible assumption
    | with_reducible apply hf
    | split)

theorem State.invalid_keeps (m : Nat) (s0 : State) (s : State) (m' : Nat) (byte : Nat) (hm : 0x1a000000000700040 &&& m = 0x1a000000000700040)
    (hk : Kept m s0 s) : Kept m s0 (State.invalid s m' byte) := by
  unfold State.invalid
  try dsimp only
  repeat' (first
    | with_reducible assumption
    | with_reducible refine State.done_keeps _ _ _ _ _ _ (Mask.trans (by decide) hm) ?_)

theorem State.waits_keeps (m : Nat) (s0 : State) (s : State) (m' : Nat) (a : Active) (hm : 0x400000 &&& m = 0x400000)
    (hk : Kept m s0 s) : Kept m s0 (State.waits s m' a) := by
  unfold State.waits
  try dsimp only
  repeat' (first
    | with_reducible assumption
    | with_reducible refine State.setCmd_keeps _ _ _ _ _ (Mask.trans (by decide) hm) ?_)

end Sys2Proof.Machine
end

