-- ==== Sys2Proof/Laws/KeepsObserve.lean ====
section
/-! SUPPORT. What each operation of Machine/Observe.lean keeps: every place outside its mask, the register store's form, the resets' levels,
the outputs so far, time and the queue. -/

namespace Sys2Proof.Machine

theorem State.setRegs_keeps (m : Nat) (s0 : State) (s : State) (xs : List (Nat × Nat)) (hm : 0x40000000000000000000000000000000000000000000000000 &&& m = 0x40000000000000000000000000000000000000000000000000)
    (hk : Kept m s0 s) : Kept m s0 (State.setRegs s xs) := by
  unfold State.setRegs
  try dsimp only
  repeat' (first
    | with_reducible assumption
    | with_reducible refine State.setReg_at .anyReg trivial (Mask.trans (by decide) hm) ?_
    | with_reducible refine Kept.each ?_ (fun _ _ _ => ?_))

theorem State.pkgSums_keeps (m : Nat) (s0 s : State) (hm : 0x80000000000000000000000000000000000000 &&& m = 0x80000000000000000000000000000000000000) (hk : Kept m s0 s) :
    Kept m s0 s.pkgSums := by
  unfold State.pkgSums
  refine Kept.ite (Kept.foldMem hk (fun t j hj ht => ?_)) hk
  have hj' := List.mem_range.mp hj
  exact State.setReg64_at .OBS_PKG_RET ⟨2 * j, by simp only [OBS_PKG_RET]; omega⟩ ⟨2 * j + 1, by simp only [OBS_PKG_RET]; omega⟩ (Mask.trans (by decide) hm) ht

theorem State.refreshDieSums_keeps (m : Nat) (s0 s : State) (hm : 0x78000000000000000000000000000000000000 &&& m = 0x78000000000000000000000000000000000000) (hk : Kept m s0 s) :
    Kept m s0 s.refreshDieSums := by
  unfold State.refreshDieSums
  refine State.setReg_at .OBS_DIE_ERR rfl (Mask.trans (by decide) hm) (State.setReg_at .OBS_DIE_WAIT_MAX rfl (Mask.trans (by decide) hm)
    (State.setReg_at .OBS_DIE_WAITS rfl (Mask.trans (by decide) hm) (Kept.foldMem hk (fun t x hx ht => ?_))))
  have hx' : x.2 < 6 := by
    have h := List.snd_lt_of_mem_zipIdx hx
    simpa [State.dieSums] using h
  exact State.setReg64_at .OBS_DIE_RET ⟨2 * x.2, by simp only [OBS_DIE_RET]; omega⟩ ⟨2 * x.2 + 1, by simp only [OBS_DIE_RET]; omega⟩ (Mask.trans (by decide) hm) ht

theorem State.refreshSums_keeps (m : Nat) (s0 s : State) (hm : 0xf8000000000000000000000000000000000000 &&& m = 0xf8000000000000000000000000000000000000) (hk : Kept m s0 s) :
    Kept m s0 s.refreshSums :=
  State.pkgSums_keeps m _ _ (Mask.trans (by decide) hm) (State.refreshDieSums_keeps m _ _ (Mask.trans (by decide) hm) hk)

theorem State.closeInterval_keeps (m : Nat) (s0 : State) (s : State) (c : Nat) (counts : List Nat) (early : Bool) (hm : 0xc1c000000000f8000000000000000000000000000000000200 &&& m = 0xc1c000000000f8000000000000000000000000000000000200)
    (hk : Kept m s0 s) : Kept m s0 (State.closeInterval s c counts early) := by
  unfold State.closeInterval
  try dsimp only
  repeat' (first
    | with_reducible assumption
    | with_reducible apply Kept.ite
    | with_reducible refine State.setAgent_keeps _ _ _ _ _ (Mask.trans (by decide) hm) ?_
    | with_reducible refine State.setRegs_keeps _ _ _ _ (Mask.trans (by decide) hm) ?_
    | with_reducible refine State.shadow_keeps _ _ _ _ (Mask.trans (by decide) hm) ?_
    | with_reducible refine State.refreshSums_keeps _ _ _ (Mask.trans (by decide) hm) ?_
    | split)

theorem State.bankAgent_keeps (m : Nat) (s0 : State) (s : State) (old : State) (c : Nat) (hm : 0x100000000 &&& m = 0x100000000)
    (hk : Kept m s0 s) : Kept m s0 (State.bankAgent s old c) := by
  unfold State.bankAgent
  try dsimp only
  (simp only [Kept.made]; with_reducible refine Kept.set_obs (Mask.trans (by decide) hm) hk)

theorem State.intervalEdges_keeps (m : Nat) (s0 : State) (s : State) (c : Nat) (edges : Nat) (code : Nat) (t : Nat) (hm : 0x300000000000000700c400000000000000100801200 &&& m = 0x300000000000000700c400000000000000100801200)
    (hk : Kept m s0 s) : Kept m s0 (State.intervalEdges s c edges code t) := by
  unfold State.intervalEdges
  try dsimp only
  repeat' (first
    | with_reducible assumption
    | with_reducible apply Kept.ite
    | with_reducible refine State.edges_keeps _ _ _ _ _ _ (Mask.trans (by decide) hm) ?_
    | with_reducible refine State.bankAgent_keeps _ _ _ _ _ (Mask.trans (by decide) hm) ?_
    | split)

theorem State.intervalClose_keeps (m : Nat) (s0 : State) (s : State) (c : Nat) (edges : Nat) (code : Nat) (counts : List Nat) (hm : 0xc1c000030000f800000000700c400000000000000100801206 &&& m = 0xc1c000030000f800000000700c400000000000000100801206)
    (hk : Kept m s0 s) : Kept m s0 (State.intervalClose s c edges code counts) := by
  unfold State.intervalClose
  try dsimp only
  repeat' (first
    | with_reducible assumption
    | with_reducible apply Kept.ite
    | with_reducible refine State.intervalEdges_keeps _ _ _ _ _ _ _ (Mask.trans (by decide) hm) ?_
    | with_reducible refine State.advanceSky_keeps _ _ _ _ (Mask.trans (by decide) hm) ?_
    | with_reducible refine State.setAgent_keeps _ _ _ _ _ (Mask.trans (by decide) hm) ?_
    | with_reducible refine State.closeInterval_keeps _ _ _ _ _ _ (Mask.trans (by decide) hm) ?_
    | with_reducible refine State.bankAgent_keeps _ _ _ _ _ (Mask.trans (by decide) hm) ?_
    | split)

theorem State.ackBit_keeps (m : Nat) (s0 s : State) (k : Nat) (b : Bool) (hm : 0x100000000000000000000000000000000000000000000000 &&& m = 0x100000000000000000000000000000000000000000000000) (hk : Kept m s0 s) :
    Kept m s0 (s.setFlag (ackBit k) b) := by
  refine State.setFlag_at .STILE_STATUS ?_ (Mask.trans (by decide) hm) hk
  unfold ackBit
  split <;> rfl

theorem State.halfAck_keeps (m : Nat) (s0 s : State) (k : Nat) (hm : 0x100000000000000000000000000000000000000000000c00 &&& m = 0x100000000000000000000000000000000000000000000c00) (hk : Kept m s0 s) :
    Kept m s0 (s.halfAck k) := by
  have h1 := State.ackBit_keeps m s0 s k true (Mask.trans (by decide) hm) hk
  exact Kept.ite (Kept.ite (State.skipAsleep_keeps _ _ _ _ (Mask.trans (by decide) hm) h1) h1) hk

theorem State.halfAckFalls_keeps (m : Nat) (s0 s : State) (k : Nat) (hm : 0x100000000000000000000000000000000000000000000000 &&& m = 0x100000000000000000000000000000000000000000000000) (hk : Kept m s0 s) :
    Kept m s0 (s.halfAckFalls k) :=
  Kept.ite (State.ackBit_keeps m s0 s k false (Mask.trans (by decide) hm) hk) hk

theorem State.logReleases_keeps (m : Nat) (s0 : State) (s : State) (c : Nat) (hm : 0x1000000000000000000000000000000000000001000 &&& m = 0x1000000000000000000000000000000000000001000)
    (hk : Kept m s0 s) : Kept m s0 (State.logReleases s c) := by
  unfold State.logReleases
  try dsimp only
  repeat' (first
    | with_reducible assumption
    | with_reducible apply Kept.ite
    | with_reducible refine State.logAgent_keeps _ _ _ _ _ _ (Mask.trans (by decide) hm) ?_
    | with_reducible refine Kept.each ?_ (fun _ _ _ => ?_)
    | split)

theorem State.runFall_keeps (m : Nat) (s0 : State) (s : State) (c : Nat) (counts : List Nat) (hm : 0xc1d000030000f800000000000c400000000000000000801e08 &&& m = 0xc1d000030000f800000000000c400000000000000000801e08)
    (hk : Kept m s0 s) : Kept m s0 (State.runFall s c counts) := by
  unfold State.runFall
  try dsimp only
  repeat' (first
    | with_reducible assumption
    | with_reducible apply Kept.ite
    | with_reducible refine State.endWait_keeps _ _ _ _ _ _ _ (Mask.trans (by decide) hm) ?_
    | with_reducible refine State.logReleases_keeps _ _ _ _ (Mask.trans (by decide) hm) ?_
    | with_reducible refine State.dropGrants_keeps _ _ _ _ _ (Mask.trans (by decide) hm) ?_
    | with_reducible refine State.setAgent_keeps _ _ _ _ _ (Mask.trans (by decide) hm) ?_
    | with_reducible refine State.closeInterval_keeps _ _ _ _ _ _ (Mask.trans (by decide) hm) ?_
    | with_reducible refine State.logAgent_keeps _ _ _ _ _ _ (Mask.trans (by decide) hm) ?_
    | with_reducible refine State.shadowNow_keeps _ _ _ _ (Mask.trans (by decide) hm) ?_
    | with_reducible refine State.checkWaveEnd_keeps _ _ _ (Mask.trans (by decide) hm) ?_
    | with_reducible refine State.halfAck_keeps _ _ _ _ (Mask.trans (by decide) hm) ?_
    | with_reducible refine State.noteReasons_keeps _ _ _ (Mask.trans (by decide) hm) ?_
    | (simp only [Kept.made]; with_reducible refine Kept.set_arb (Mask.trans (by decide) hm) ?_)
    | with_reducible refine Kept.each ?_ (fun _ _ _ => ?_)
    | split)

theorem State.runRise_keeps (m : Nat) (s0 : State) (s : State) (c : Nat) (hm : 0x81c0000100000000000000000c400000000000000000801200 &&& m = 0x81c0000100000000000000000c400000000000000000801200)
    (hk : Kept m s0 s) : Kept m s0 (State.runRise s c) := by
  unfold State.runRise
  try dsimp only
  repeat' (first
    | with_reducible assumption
    | with_reducible apply Kept.ite
    | with_reducible refine State.setAgent_keeps _ _ _ _ _ (Mask.trans (by decide) hm) ?_
    | with_reducible refine State.logAgent_keeps _ _ _ _ _ _ (Mask.trans (by decide) hm) ?_
    | with_reducible refine State.startCal_keeps _ _ _ _ (Mask.trans (by decide) hm) ?_
    | with_reducible refine State.shadow_keeps _ _ _ _ (Mask.trans (by decide) hm) ?_
    | with_reducible refine State.noteReasons_keeps _ _ _ (Mask.trans (by decide) hm) ?_
    | (simp only [Kept.made]; with_reducible refine Kept.set_rings (Mask.trans (by decide) hm) ?_)
    | split)

theorem State.halfOff_keeps (m : Nat) (s0 : State) (s : State) (h : Nat) (hm : 0x81d00000000000000000000000000000000000000000002e00 &&& m = 0x81d00000000000000000000000000000000000000000002e00)
    (hk : Kept m s0 s) : Kept m s0 (State.halfOff s h) := by
  unfold State.halfOff
  try dsimp only
  repeat' (first
    | with_reducible assumption
    | with_reducible refine State.setAgent_keeps _ _ _ _ _ (Mask.trans (by decide) hm) ?_
    | with_reducible refine State.shadow_keeps _ _ _ _ (Mask.trans (by decide) hm) ?_
    | with_reducible refine State.halfAck_keeps _ _ _ _ (Mask.trans (by decide) hm) ?_
    | with_reducible refine Kept.each ?_ (fun _ _ _ => ?_)
    | (simp only [Kept.made]; with_reducible refine Kept.set_halfReq (Mask.trans (by decide) hm) ?_))

theorem State.halfRestart_keeps (m : Nat) (s0 : State) (s : State) (h : Nat) (hm : 0x100000000000000000000000000000000000000000002000 &&& m = 0x100000000000000000000000000000000000000000002000)
    (hk : Kept m s0 s) : Kept m s0 (State.halfRestart s h) := by
  unfold State.halfRestart
  try dsimp only
  repeat' (first
    | with_reducible assumption
    | with_reducible refine State.halfAckFalls_keeps _ _ _ _ (Mask.trans (by decide) hm) ?_
    | (simp only [Kept.made]; with_reducible refine Kept.set_halfReq (Mask.trans (by decide) hm) ?_))

theorem State.setStile_keeps (m : Nat) (s0 : State) (s : State) (h : Nat) (n : Nat) (hm : 0x40000 &&& m = 0x40000)
    (hk : Kept m s0 s) : Kept m s0 (State.setStile s h n) := by
  unfold State.setStile
  try dsimp only
  repeat' (first
    | with_reducible assumption
    | with_reducible apply Kept.ite
    | (simp only [Kept.made]; with_reducible refine Kept.set_hdg (Mask.trans (by decide) hm) ?_))

theorem State.stileMessage_keeps (m : Nat) (s0 : State) (s : State) (h : Nat) (hm : 0x300003000000000000000000000000000800000000041040 &&& m = 0x300003000000000000000000000000000800000000041040)
    (hk : Kept m s0 s) : Kept m s0 (State.stileMessage s h) := by
  unfold State.stileMessage
  try dsimp only
  repeat' (first
    | with_reducible assumption
    | with_reducible apply Kept.ite
    | with_reducible refine State.emit_keeps _ _ _ _ (Mask.trans (by decide) hm) ?_
    | with_reducible refine State.setStile_keeps _ _ _ _ _ (Mask.trans (by decide) hm) ?_
    | with_reducible refine State.ringEvent_keeps _ _ _ _ (Mask.trans (by decide) hm) ?_
    | with_reducible refine State.bell_keeps _ _ _ _ (Mask.trans (by decide) hm) ?_
    | with_reducible refine State.incSat_at .STILE_CNT rfl (Mask.trans (by decide) hm) ?_
    | with_reducible refine State.setFlag_at .STILE_STATUS (by unfold stileWake; split <;> rfl) (Mask.trans (by decide) hm) ?_
    | split)

theorem State.stileWait_keeps (m : Nat) (s0 : State) (s : State) (h : Nat) (m' : StileMsg) (hm : 0x300003000000000000000000000000000800000000041040 &&& m = 0x300003000000000000000000000000000800000000041040)
    (hk : Kept m s0 s) : Kept m s0 (State.stileWait s h m') := by
  unfold State.stileWait
  try dsimp only
  repeat' (first
    | with_reducible assumption
    | with_reducible apply Kept.ite
    | with_reducible refine State.stileMessage_keeps _ _ _ _ (Mask.trans (by decide) hm) ?_
    | (simp only [Kept.made]; with_reducible refine Kept.set_hdg (Mask.trans (by decide) hm) ?_)
    | split)

theorem State.armAgents_keeps (m : Nat) (s0 : State) (s : State) (hm : 0x300003000000000000000000000000000800000000041040 &&& m = 0x300003000000000000000000000000000800000000041040)
    (hk : Kept m s0 s) : Kept m s0 (State.armAgents s) := by
  unfold State.armAgents
  try dsimp only
  repeat' (first
    | with_reducible assumption
    | with_reducible apply Kept.ite
    | with_reducible refine State.stileWait_keeps _ _ _ _ _ (Mask.trans (by decide) hm) ?_
    | with_reducible refine Kept.each ?_ (fun _ _ _ => ?_)
    | split)

theorem State.ringArm_keeps (m : Nat) (s0 : State) (s : State) (hm : 0x300003000000000000000000000000000800000000041040 &&& m = 0x300003000000000000000000000000000800000000041040)
    (hk : Kept m s0 s) : Kept m s0 (State.ringArm s) := by
  unfold State.ringArm
  try dsimp only
  repeat' (first
    | with_reducible assumption
    | with_reducible apply Kept.ite
    | with_reducible refine State.armAgents_keeps _ _ _ (Mask.trans (by decide) hm) ?_
    | with_reducible refine State.setFld_at .RING_STATUS rfl (Mask.trans (by decide) hm) ?_
    | split)

theorem State.ringForce_keeps (m : Nat) (s0 : State) (s : State) (hm : 0x3000000000000000000000000000000000000001000 &&& m = 0x3000000000000000000000000000000000000001000)
    (hk : Kept m s0 s) : Kept m s0 (State.ringForce s) := by
  unfold State.ringForce
  try dsimp only
  repeat' (first
    | with_reducible assumption
    | with_reducible refine State.fireTrigger_keeps _ _ _ _ _ (Mask.trans (by decide) hm) ?_)

theorem State.thawHalf_keeps (m : Nat) (s0 : State) (s : State) (h : Nat) (hm : 0x1000 &&& m = 0x1000)
    (hk : Kept m s0 s) : Kept m s0 (State.thawHalf s h) := by
  unfold State.thawHalf
  try dsimp only
  repeat' (first
    | with_reducible assumption
    | with_reducible apply Kept.ite
    | (simp only [Kept.made]; with_reducible refine Kept.set_rings (Mask.trans (by decide) hm) ?_)
    | split)

theorem State.thawAgents_keeps (m : Nat) (s0 : State) (s : State) (hm : 0x300003000000000000000000000000000800000000041040 &&& m = 0x300003000000000000000000000000000800000000041040)
    (hk : Kept m s0 s) : Kept m s0 (State.thawAgents s) := by
  unfold State.thawAgents
  try dsimp only
  repeat' (first
    | with_reducible assumption
    | with_reducible apply Kept.ite
    | with_reducible refine State.stileWait_keeps _ _ _ _ _ (Mask.trans (by decide) hm) ?_
    | with_reducible refine State.thawHalf_keeps _ _ _ _ (Mask.trans (by decide) hm) ?_
    | with_reducible refine Kept.each ?_ (fun _ _ _ => ?_)
    | split)

theorem State.tellTags_keeps (m : Nat) (s0 : State) (s : State) (shift : Nat) (hm : 0x300003000000000000000000000000000800000000041040 &&& m = 0x300003000000000000000000000000000800000000041040)
    (hk : Kept m s0 s) : Kept m s0 (State.tellTags s shift) := by
  unfold State.tellTags
  try dsimp only
  repeat' (first
    | with_reducible assumption
    | with_reducible apply Kept.ite
    | with_reducible refine State.stileWait_keeps _ _ _ _ _ (Mask.trans (by decide) hm) ?_
    | (simp only [Kept.made]; with_reducible refine Kept.set_rings (Mask.trans (by decide) hm) ?_)
    | with_reducible refine Kept.each ?_ (fun _ _ _ => ?_)
    | split)

theorem State.ringResume_keeps (m : Nat) (s0 : State) (s : State) (hm : 0x300003000000000000000000000000000800000000041040 &&& m = 0x300003000000000000000000000000000800000000041040)
    (hk : Kept m s0 s) : Kept m s0 (State.ringResume s) := by
  unfold State.ringResume
  try dsimp only
  repeat' (first
    | with_reducible assumption
    | with_reducible apply Kept.ite
    | with_reducible refine State.thawAgents_keeps _ _ _ (Mask.trans (by decide) hm) ?_
    | with_reducible refine State.setFld_at .RING_STATUS rfl (Mask.trans (by decide) hm) ?_
    | (simp only [Kept.made]; with_reducible refine Kept.set_rings (Mask.trans (by decide) hm) ?_)
    | split)

theorem State.ringTimeout_keeps (m : Nat) (s0 : State) (s : State) (hm : 0x1000000000000000000000000000000000000001006 &&& m = 0x1000000000000000000000000000000000000001006)
    (hk : Kept m s0 s) : Kept m s0 (State.ringTimeout s) := by
  unfold State.ringTimeout
  try dsimp only
  repeat' (first
    | with_reducible assumption
    | with_reducible apply Kept.ite
    | with_reducible refine State.advanceTo_keeps _ _ _ _ (Mask.trans (by decide) hm) ?_
    | with_reducible refine State.setFld_at .RING_STATUS rfl (Mask.trans (by decide) hm) ?_
    | (simp only [Kept.made]; with_reducible refine Kept.set_rings (Mask.trans (by decide) hm) ?_))

theorem State.clearHalf_keeps (m : Nat) (s0 : State) (s : State) (h : Nat) (hm : 0x1000 &&& m = 0x1000)
    (hk : Kept m s0 s) : Kept m s0 (State.clearHalf s h) := by
  unfold State.clearHalf
  try dsimp only
  repeat' (first
    | with_reducible assumption
    | with_reducible apply Kept.ite
    | (simp only [Kept.made]; with_reducible refine Kept.set_rings (Mask.trans (by decide) hm) ?_)
    | split)

theorem State.clearAgents_keeps (m : Nat) (s0 : State) (s : State) (hm : 0x300003000000000000000000000000000800000000041040 &&& m = 0x300003000000000000000000000000000800000000041040)
    (hk : Kept m s0 s) : Kept m s0 (State.clearAgents s) := by
  unfold State.clearAgents
  try dsimp only
  repeat' (first
    | with_reducible assumption
    | with_reducible apply Kept.ite
    | with_reducible refine State.stileWait_keeps _ _ _ _ _ (Mask.trans (by decide) hm) ?_
    | with_reducible refine State.clearHalf_keeps _ _ _ _ (Mask.trans (by decide) hm) ?_
    | with_reducible refine Kept.each ?_ (fun _ _ _ => ?_)
    | split)

theorem State.ringLengths_keeps (m : Nat) (s0 : State) (s : State) (off : Nat) (old : Nat) (new : Nat) (hm : 0x300003000000000000000000000000000800000000041040 &&& m = 0x300003000000000000000000000000000800000000041040)
    (hk : Kept m s0 s) : Kept m s0 (State.ringLengths s off old new) := by
  unfold State.ringLengths
  try dsimp only
  repeat' (first
    | with_reducible assumption
    | with_reducible apply Kept.ite
    | with_reducible refine State.clearAgents_keeps _ _ _ (Mask.trans (by decide) hm) ?_
    | with_reducible refine State.tellTags_keeps _ _ _ _ (Mask.trans (by decide) hm) ?_
    | (simp only [Kept.made]; with_reducible refine Kept.set_rings (Mask.trans (by decide) hm) ?_)
    | split)

theorem State.gapAll_keeps (m : Nat) (s0 : State) (s : State) (hm : 0x1004 &&& m = 0x1004)
    (hk : Kept m s0 s) : Kept m s0 (State.gapAll s) := by
  unfold State.gapAll
  try dsimp only
  repeat' (first
    | with_reducible assumption
    | with_reducible apply Kept.ite
    | (simp only [Kept.made]; with_reducible refine Kept.set_sky_rings (Mask.trans (by decide) hm) ?_)
    | with_reducible refine Kept.fold ?_ (fun _ _ _ => ?_)
    | split)

theorem State.logAll_keeps (m : Nat) (s0 : State) (s : State) (type : Nat) (data : Nat) (hm : 0x1000000000000000000000000000000000000001000 &&& m = 0x1000000000000000000000000000000000000001000)
    (hk : Kept m s0 s) : Kept m s0 (State.logAll s type data) := by
  unfold State.logAll
  try dsimp only
  repeat' (first
    | with_reducible assumption
    | with_reducible apply Kept.ite
    | with_reducible refine State.logAgent_keeps _ _ _ _ _ _ (Mask.trans (by decide) hm) ?_
    | with_reducible refine State.logArb_keeps _ _ _ _ _ (Mask.trans (by decide) hm) ?_
    | with_reducible refine State.logRail_keeps _ _ _ _ _ _ (Mask.trans (by decide) hm) ?_
    | with_reducible refine State.logSample_keeps _ _ _ _ (Mask.trans (by decide) hm) ?_
    | with_reducible refine Kept.each ?_ (fun _ _ _ => ?_)
    | split)

theorem State.countersNow_keeps (m : Nat) (s0 : State) (s : State) (hm : 0x400000000000f8000000000008000000000000000000800000 &&& m = 0x400000000000f8000000000008000000000000000000800000)
    (hk : Kept m s0 s) : Kept m s0 (State.countersNow s) := by
  unfold State.countersNow
  try dsimp only
  repeat' (first
    | with_reducible assumption
    | with_reducible refine State.setRegs_keeps _ _ _ _ (Mask.trans (by decide) hm) ?_
    | with_reducible refine State.accrueReasons_keeps _ _ _ (Mask.trans (by decide) hm) ?_
    | with_reducible refine State.refreshSums_keeps _ _ _ (Mask.trans (by decide) hm) ?_
    | with_reducible refine Kept.each ?_ (fun _ _ _ => ?_))

theorem State.bankLate_keeps (m : Nat) (s0 : State) (s : State) (p : Nat → Bool) (hm : 0x100000000 &&& m = 0x100000000)
    (hk : Kept m s0 s) : Kept m s0 (State.bankLate s p) := by
  unfold State.bankLate
  try dsimp only
  repeat' (first
    | with_reducible assumption
    | with_reducible apply Kept.ite
    | (simp only [Kept.made]; with_reducible refine Kept.set_obs (Mask.trans (by decide) hm) ?_)
    | with_reducible refine Kept.each ?_ (fun _ _ _ => ?_)
    | split)

theorem State.bankPkg_keeps (m : Nat) (s0 : State) (s : State) (hm : 0x100000000 &&& m = 0x100000000)
    (hk : Kept m s0 s) : Kept m s0 (State.bankPkg s) := by
  unfold State.bankPkg
  try dsimp only
  refine Kept.ite ?_ hk
  (simp only [Kept.made]; with_reducible refine Kept.set_obs (Mask.trans (by decide) hm) hk)

theorem State.snapFreeze_keeps (m : Nat) (s0 : State) (s : State) (id : Nat) (at_ : Nat) (rings : Bool) (hm : 0x400000030003f8000000000008000000000000000100801200 &&& m = 0x400000030003f8000000000008000000000000000100801200)
    (hk : Kept m s0 s) : Kept m s0 (State.snapFreeze s id at_ rings) := by
  unfold State.snapFreeze
  try dsimp only
  repeat' (first
    | with_reducible assumption
    | with_reducible apply Kept.ite
    | with_reducible refine State.accrueReasons_keeps _ _ _ (Mask.trans (by decide) hm) ?_
    | with_reducible refine State.countersNow_keeps _ _ _ (Mask.trans (by decide) hm) ?_
    | with_reducible refine State.setAgent_keeps _ _ _ _ _ (Mask.trans (by decide) hm) ?_
    | with_reducible refine State.fireTrigger_keeps _ _ _ _ _ (Mask.trans (by decide) hm) ?_
    | with_reducible refine State.setFld_at .OBS_SNAP_STATUS rfl (Mask.trans (by decide) hm) ?_
    | with_reducible refine State.setFlag_at .OBS_SNAP_STATUS rfl (Mask.trans (by decide) hm) ?_
    | with_reducible refine State.setReg64_at .OBS_SNAP_T ⟨_, rfl⟩ ⟨1, rfl⟩ (Mask.trans (by decide) hm) ?_
    | (simp only [Kept.made]; with_reducible refine Kept.set_obs (Mask.trans (by decide) hm) ?_)
    | with_reducible refine Kept.each ?_ (fun _ _ _ => ?_)
    | simp only [id_eq]
    | split)

theorem State.snapComplete_keeps (m : Nat) (s0 : State) (s : State) (hm : 0x100000000000000000000000000000100000006 &&& m = 0x100000000000000000000000000000100000006)
    (hk : Kept m s0 s) : Kept m s0 (State.snapComplete s) := by
  unfold State.snapComplete
  try dsimp only
  repeat' (first
    | with_reducible assumption
    | with_reducible refine State.advanceTo_keeps _ _ _ _ (Mask.trans (by decide) hm) ?_
    | with_reducible refine State.setFld_at .OBS_SNAP_STATUS rfl (Mask.trans (by decide) hm) ?_
    | (simp only [Kept.made]; with_reducible refine Kept.set_obs (Mask.trans (by decide) hm) ?_)
    | split)

theorem State.snapAbort_keeps (m : Nat) (s0 : State) (s : State) (hm : 0x100000000000000000000000000000100000000 &&& m = 0x100000000000000000000000000000100000000)
    (hk : Kept m s0 s) : Kept m s0 (State.snapAbort s) := by
  unfold State.snapAbort
  try dsimp only
  repeat' (first
    | with_reducible assumption
    | with_reducible apply Kept.ite
    | with_reducible refine State.setFld_at .OBS_SNAP_STATUS rfl (Mask.trans (by decide) hm) ?_
    | (simp only [Kept.made]; with_reducible refine Kept.set_obs (Mask.trans (by decide) hm) ?_)
    | split)

theorem State.armTrigger_keeps (m : Nat) (s0 : State) (s : State) (action : Nat) (post : Nat) (sources : Nat) (units : Nat) (hm : 0x300003c00000000000000000000000000800000000041040 &&& m = 0x300003c00000000000000000000000000800000000041040)
    (hk : Kept m s0 s) : Kept m s0 (State.armTrigger s action post sources units).2 := by
  unfold State.armTrigger
  try dsimp only
  repeat' (first
    | with_reducible assumption
    | with_reducible refine State.ringArm_keeps _ _ _ (Mask.trans (by decide) hm) ?_
    | with_reducible refine State.ringForce_keeps _ _ _ (Mask.trans (by decide) hm) ?_
    | with_reducible refine State.ringResume_keeps _ _ _ (Mask.trans (by decide) hm) ?_
    | with_reducible refine State.setFld_at .RING_TRIG rfl (Mask.trans (by decide) hm) ?_
    | with_reducible refine State.setFld_at .RING_TRIG_UNITS rfl (Mask.trans (by decide) hm) ?_
    | split)

theorem State.watchRecord_keeps (m : Nat) (s0 : State) (s : State) (k : Nat) (r : Nat) (lines : Nat) (hm : 0x100000000 &&& m = 0x100000000)
    (hk : Kept m s0 s) : Kept m s0 (State.watchRecord s k r lines) := by
  unfold State.watchRecord
  try dsimp only
  repeat' (first
    | with_reducible assumption
    | with_reducible apply Kept.ite
    | (simp only [Kept.made]; with_reducible refine Kept.set_obs (Mask.trans (by decide) hm) ?_)
    | split)

theorem State.addWatch_keeps (m : Nat) (s0 s : State) (lines : List Nat) (hm : 0x1e0000000000000000000000000000000100000000 &&& m = 0x1e0000000000000000000000000000000100000000) (hk : Kept m s0 s) :
    Kept m s0 (s.addWatch lines) := by
  unfold State.addWatch
  refine Kept.each hk (fun r t ht => Kept.ite ht ?_)
  refine State.setReg_at .OBS_WATCH_E_HI ⟨r, by simp only [OBS_WATCH_E_LO, OBS_WATCH_E_HI]; omega⟩ (Mask.trans (by decide) hm)
    (State.setReg_at .OBS_WATCH_E_LO ⟨r, rfl⟩ (Mask.trans (by decide) hm) (State.setReg_at .OBS_WATCH_B_HI ⟨r, by simp only [OBS_WATCH_B_LO, OBS_WATCH_B_HI]; omega⟩ (Mask.trans (by decide) hm)
      (State.setReg_at .OBS_WATCH_B_LO ⟨r, rfl⟩ (Mask.trans (by decide) hm) (Kept.set_obs (Mask.trans (by decide) hm) ht))))

theorem State.watchSend_keeps (m : Nat) (s0 : State) (s : State) (hm : 0x1e0000000000000000000000000000000100040046 &&& m = 0x1e0000000000000000000000000000000100040046)
    (hk : Kept m s0 s) : Kept m s0 (State.watchSend s) := by
  unfold State.watchSend
  try dsimp only
  repeat' (first
    | with_reducible assumption
    | with_reducible apply Kept.ite
    | with_reducible refine State.advanceSky_keeps _ _ _ _ (Mask.trans (by decide) hm) ?_
    | with_reducible refine State.addWatch_keeps _ _ _ _ (Mask.trans (by decide) hm) ?_
    | with_reducible refine State.send_keeps _ _ _ _ _ _ (Mask.trans (by decide) hm) ?_
    | (simp only [Kept.made]; with_reducible refine Kept.set_obs (Mask.trans (by decide) hm) ?_)
    | split)

theorem State.driveWatch_keeps (m : Nat) (s0 : State) (s : State) (r : Nat) (en : Bool) (base : Nat) (limit : Nat) (hm : 0x40 &&& m = 0x40)
    (hk : Kept m s0 s) : Kept m s0 (State.driveWatch s r en base limit) := by
  unfold State.driveWatch
  try dsimp only
  repeat' (first
    | with_reducible assumption
    | with_reducible refine State.emit_keeps _ _ _ _ (Mask.trans (by decide) hm) ?_)

theorem State.driveRange_keeps (m : Nat) (s0 : State) (s : State) (r : Nat) (hm : 0x40 &&& m = 0x40)
    (hk : Kept m s0 s) : Kept m s0 (State.driveRange s r) := by
  unfold State.driveRange
  try dsimp only
  repeat' (first
    | with_reducible assumption
    | with_reducible refine State.driveWatch_keeps _ _ _ _ _ _ _ (Mask.trans (by decide) hm) ?_)

theorem State.setRange_keeps (m : Nat) (s0 : State) (s : State) (r : Nat) (en : Bool) (epl : Nat) (base : Nat) (limit : Nat) (hm : 0x1e000000000000000000000000000000000000040 &&& m = 0x1e000000000000000000000000000000000000040)
    (hk : Kept m s0 s) : Kept m s0 (State.setRange s r en epl base limit) := by
  unfold State.setRange
  try dsimp only
  repeat' (first
    | with_reducible assumption
    | with_reducible refine State.driveRange_keeps _ _ _ _ (Mask.trans (by decide) hm) ?_
    | with_reducible refine State.setReg_at .OBS_WATCH_0 ⟨_, rfl⟩ (Mask.trans (by decide) hm) ?_
    | with_reducible refine State.setReg_at .OBS_WATCH_4 ⟨_, rfl⟩ (Mask.trans (by decide) hm) ?_
    | with_reducible refine State.setReg_at .OBS_WATCH_8 ⟨_, rfl⟩ (Mask.trans (by decide) hm) ?_
    | with_reducible refine State.setReg_at .OBS_WATCH_C ⟨_, rfl⟩ (Mask.trans (by decide) hm) ?_)

theorem State.gainTokens_keeps (m : Nat) (s0 : State) (s : State) (hm : 0x100000000 &&& m = 0x100000000)
    (hk : Kept m s0 s) : Kept m s0 (State.gainTokens s) := by
  unfold State.gainTokens
  try dsimp only
  repeat' (first
    | with_reducible assumption
    | (simp only [Kept.made]; with_reducible refine Kept.set_obs (Mask.trans (by decide) hm) ?_))

theorem State.streamPump_keeps (m : Nat) (s0 : State) (s : State) (hm : 0x100100040 &&& m = 0x100100040)
    (hk : Kept m s0 s) : Kept m s0 (State.streamPump s) := by
  unfold State.streamPump
  try dsimp only
  repeat' (first
    | with_reducible assumption
    | with_reducible apply Kept.ite
    | with_reducible refine State.gainTokens_keeps _ _ _ (Mask.trans (by decide) hm) ?_
    | with_reducible refine State.memSend_keeps _ _ _ _ (Mask.trans (by decide) hm) ?_
    | (simp only [Kept.made]; with_reducible refine Kept.set_obs (Mask.trans (by decide) hm) ?_))

theorem State.dropPeriod_keeps (m : Nat) (s0 : State) (s : State) (hm : 0x100100000 &&& m = 0x100100000)
    (hk : Kept m s0 s) : Kept m s0 (State.dropPeriod s) := by
  unfold State.dropPeriod
  try dsimp only
  repeat' (first
    | with_reducible assumption
    | with_reducible apply Kept.ite
    | (simp only [Kept.made]; with_reducible refine Kept.set_mem_obs (Mask.trans (by decide) hm) ?_)
    | split)

theorem State.streamError_keeps (m : Nat) (s0 : State) (s : State) (hm : 0x400000000000000000000000000000100100000 &&& m = 0x400000000000000000000000000000100100000)
    (hk : Kept m s0 s) : Kept m s0 (State.streamError s) := by
  unfold State.streamError
  try dsimp only
  repeat' (first
    | with_reducible assumption
    | with_reducible apply Kept.ite
    | with_reducible refine State.dropPeriod_keeps _ _ _ (Mask.trans (by decide) hm) ?_
    | with_reducible refine State.setFlag_at .OBS_STR_CTRL rfl (Mask.trans (by decide) hm) ?_
    | split)

theorem State.queueHead_keeps (m : Nat) (s0 : State) (s : State) (hm : 0x100000000 &&& m = 0x100000000)
    (hk : Kept m s0 s) : Kept m s0 (State.queueHead s) := by
  unfold State.queueHead
  try dsimp only
  repeat' (first
    | with_reducible assumption
    | with_reducible apply Kept.ite
    | (simp only [Kept.made]; with_reducible refine Kept.set_obs (Mask.trans (by decide) hm) ?_)
    | split)

theorem State.streamPeriod_keeps (m : Nat) (s0 s : State) (hm : 0x100000000000000000000000000000010010004e &&& m = 0x100000000000000000000000000000010010004e) (hk : Kept m s0 s) :
    Kept m s0 s.streamPeriod := by
  unfold State.streamPeriod
  dsimp only
  split
  · exact hk
  · have h2 := State.advanceTo_keeps m s0 s (s.obs.streamAt + 10000 * s.fld OBS_STR_CTRL.PERIOD) (Mask.trans (by decide) hm) hk
    generalize s.advanceTo (s.obs.streamAt + 10000 * s.fld OBS_STR_CTRL.PERIOD) = s1 at h2 ⊢
    have h3 : Kept m s0 (if s1.obs.streamNew = 0 then s1 else (s1.incSat OBS_STR_DROP.CAP s1.obs.streamNew).dropPeriod) :=
      Kept.ite h2 (State.dropPeriod_keeps m s0 _ (Mask.trans (by decide) hm) (State.incSat_at .OBS_STR_DROP rfl (Mask.trans (by decide) hm) h2))
    generalize (if s1.obs.streamNew = 0 then s1 else (s1.incSat OBS_STR_DROP.CAP s1.obs.streamNew).dropPeriod) = s2 at h3 ⊢
    refine State.streamPump_keeps m s0 _ (Mask.trans (by decide) hm) ?_
    refine (fun h4 => Kept.ite (State.queueHead_keeps m s0 _ (Mask.trans (by decide) hm) h4) h4) ?_
    refine (fun h5 => Kept.set_obs (Mask.trans (by decide) hm) (Kept.set_sky (Mask.trans (by decide) hm) (State.spendMany_keeps m s0 _ 8 (Mask.trans (by decide) hm) h5)) : Kept m s0 (State.incSat _ _ _) → _) ?_
    exact State.incSat_at .OBS_STR_DROP rfl (Mask.trans (by decide) hm) h3

theorem State.recordWritten_keeps (m : Nat) (s0 : State) (s : State) (period : Nat) (ok : Bool) (hm : 0xc00000000000000000000000000000100100040 &&& m = 0xc00000000000000000000000000000100100040)
    (hk : Kept m s0 s) : Kept m s0 (State.recordWritten s period ok) := by
  unfold State.recordWritten
  try dsimp only
  repeat' (first
    | with_reducible assumption
    | with_reducible apply Kept.ite
    | with_reducible refine State.streamError_keeps _ _ _ (Mask.trans (by decide) hm) ?_
    | with_reducible refine State.streamPump_keeps _ _ _ (Mask.trans (by decide) hm) ?_
    | with_reducible refine State.queueHead_keeps _ _ _ (Mask.trans (by decide) hm) ?_
    | with_reducible refine State.setFld_at .OBS_STR_HEAD rfl (Mask.trans (by decide) hm) ?_
    | (simp only [Kept.made]; with_reducible refine Kept.set_obs (Mask.trans (by decide) hm) ?_)
    | split)

theorem State.headWritten_keeps (m : Nat) (s0 : State) (s : State) (ok : Bool) (hm : 0x400000000000000000000000800000100140040 &&& m = 0x400000000000000000000000800000100140040)
    (hk : Kept m s0 s) : Kept m s0 (State.headWritten s ok) := by
  unfold State.headWritten
  try dsimp only
  repeat' (first
    | with_reducible assumption
    | with_reducible apply Kept.ite
    | with_reducible refine State.bell_keeps _ _ _ _ (Mask.trans (by decide) hm) ?_
    | with_reducible refine State.streamError_keeps _ _ _ (Mask.trans (by decide) hm) ?_
    | split)

theorem State.streamEnergy_keeps (m : Nat) (s0 : State) (s : State) (die : Nat) (hm : 0x100000000 &&& m = 0x100000000)
    (hk : Kept m s0 s) : Kept m s0 (State.streamEnergy s die) := by
  unfold State.streamEnergy
  try dsimp only
  repeat' (first
    | with_reducible assumption
    | with_reducible apply Kept.ite
    | (simp only [Kept.made]; with_reducible refine Kept.set_obs (Mask.trans (by decide) hm) ?_)
    | with_reducible refine Kept.each ?_ (fun _ _ _ => ?_)
    | split)

end Sys2Proof.Machine
end

