-- ==== Sys2Proof/Laws/KeepsFabric.lean ====
section
/-! SUPPORT. What each operation of Machine/Fabric.lean keeps: every place outside its mask, the register store's form, the resets' levels,
the outputs so far, time and the queue. -/

namespace Sys2Proof.Machine

theorem State.enqueue_keeps (m : Nat) (s0 : State) (s : State) (c : Commit) (hm : 0x40000 &&& m = 0x40000)
    (hk : Kept m s0 s) : Kept m s0 (State.enqueue s c) := by
  unfold State.enqueue
  try dsimp only
  repeat' (first
    | with_reducible assumption
    | (simp only [Kept.made]; with_reducible refine Kept.set_hdg (Mask.trans (by decide) hm) ?_))

theorem State.enqueueReserved_keeps (m : Nat) (s0 : State) (s : State) (act : CommitAct) (hm : 0x40000 &&& m = 0x40000)
    (hk : Kept m s0 s) : Kept m s0 (State.enqueueReserved s act) := by
  unfold State.enqueueReserved
  try dsimp only
  repeat' (first
    | with_reducible assumption
    | with_reducible apply Kept.ite
    | with_reducible refine State.enqueue_keeps _ _ _ _ (Mask.trans (by decide) hm) ?_)

theorem State.queueOwed_keeps (m : Nat) (s0 : State) (s : State) (hm : 0x40000 &&& m = 0x40000)
    (hk : Kept m s0 s) : Kept m s0 (State.queueOwed s) := by
  unfold State.queueOwed
  try dsimp only
  repeat' (first
    | with_reducible assumption
    | with_reducible apply Kept.ite
    | with_reducible refine State.enqueue_keeps _ _ _ _ (Mask.trans (by decide) hm) ?_
    | (simp only [Kept.made]; with_reducible refine Kept.set_hdg (Mask.trans (by decide) hm) ?_)
    | with_reducible refine Kept.each ?_ (fun _ _ _ => ?_)
    | split)

theorem State.owe_keeps (m : Nat) (s0 : State) (s : State) (act : CommitAct) (hm : 0x40000 &&& m = 0x40000)
    (hk : Kept m s0 s) : Kept m s0 (State.owe s act) := by
  unfold State.owe
  try dsimp only
  repeat' (first
    | with_reducible assumption
    | with_reducible apply Kept.ite
    | with_reducible refine State.queueOwed_keeps _ _ _ (Mask.trans (by decide) hm) ?_
    | (simp only [Kept.made]; with_reducible refine Kept.set_hdg (Mask.trans (by decide) hm) ?_)
    | split)

theorem State.setPeer_keeps (m : Nat) (s0 : State) (s : State) (n : Nat) (p : Peer) (hm : 0x80000 &&& m = 0x80000)
    (hk : Kept m s0 s) : Kept m s0 (State.setPeer s n p) := by
  unfold State.setPeer
  try dsimp only
  repeat' (first
    | with_reducible assumption
    | (simp only [Kept.made]; with_reducible refine Kept.set_fab (Mask.trans (by decide) hm) ?_))

theorem State.sendFrame_keeps (m : Nat) (s0 : State) (s : State) (h : FrameHdr) (b : FrameBody) (hm : 0x8000000000000000000000000000000000000000040 &&& m = 0x8000000000000000000000000000000000000000040)
    (hk : Kept m s0 s) : Kept m s0 (State.sendFrame s h b) := by
  unfold State.sendFrame
  try dsimp only
  repeat' (first
    | with_reducible assumption
    | with_reducible apply Kept.ite
    | with_reducible refine State.emit_keeps _ _ _ _ (Mask.trans (by decide) hm) ?_
    | with_reducible refine State.incSat_at .FAB_TX rfl (Mask.trans (by decide) hm) ?_
    | split)

theorem State.frameTaken_keeps (m : Nat) (s0 : State) (s : State) (hm : 0x10000000000000000000000000000000000000000004 &&& m = 0x10000000000000000000000000000000000000000004)
    (hk : Kept m s0 s) : Kept m s0 (State.frameTaken s) := by
  unfold State.frameTaken
  try dsimp only
  repeat' (first
    | with_reducible assumption
    | with_reducible apply Kept.ite
    | with_reducible refine State.lingerFrom_keeps _ _ _ _ (Mask.trans (by decide) hm) ?_
    | with_reducible refine State.incSat_at .FAB_RX rfl (Mask.trans (by decide) hm) ?_
    | split)

theorem State.sendPlain_keeps (m : Nat) (s0 : State) (s : State) (n : Nat) (h : FrameHdr) (b : FrameBody) (hm : 0x8000000000000000000000000000000000000000040 &&& m = 0x8000000000000000000000000000000000000000040)
    (hk : Kept m s0 s) : Kept m s0 (State.sendPlain s n h b) := by
  unfold State.sendPlain
  try dsimp only
  repeat' (first
    | with_reducible assumption
    | with_reducible refine State.sendFrame_keeps _ _ _ _ _ (Mask.trans (by decide) hm) ?_
    | split)

theorem State.sendReliable_keeps (m : Nat) (s0 : State) (s : State) (n : Nat) (b : FrameBody) (hm : 0x8000000000000000000000000000000000000080040 &&& m = 0x8000000000000000000000000000000000000080040)
    (hk : Kept m s0 s) : Kept m s0 (State.sendReliable s n b) := by
  unfold State.sendReliable
  try dsimp only
  repeat' (first
    | with_reducible assumption
    | with_reducible apply Kept.ite
    | with_reducible refine State.setPeer_keeps _ _ _ _ _ (Mask.trans (by decide) hm) ?_
    | with_reducible refine State.sendFrame_keeps _ _ _ _ _ (Mask.trans (by decide) hm) ?_
    | split)

theorem State.sendEach_keeps (m : Nat) (s0 : State) (s : State) (ns : List Nat) (b : FrameBody) (hm : 0x8000000000000000000000000000000000000080040 &&& m = 0x8000000000000000000000000000000000000080040)
    (hk : Kept m s0 s) : Kept m s0 (State.sendEach s ns b) := by
  unfold State.sendEach
  try dsimp only
  repeat' (first
    | with_reducible assumption
    | with_reducible refine State.sendReliable_keeps _ _ _ _ _ (Mask.trans (by decide) hm) ?_
    | with_reducible refine Kept.each ?_ (fun _ _ _ => ?_))

theorem State.flushPeer_keeps (m : Nat) (s0 : State) (s : State) (n : Nat) (hm : 0x8000000000000000000000000000000000000080040 &&& m = 0x8000000000000000000000000000000000000080040)
    (hk : Kept m s0 s) : Kept m s0 (State.flushPeer s n) := by
  unfold State.flushPeer
  try dsimp only
  repeat' (first
    | with_reducible assumption
    | with_reducible refine State.sendReliable_keeps _ _ _ _ _ (Mask.trans (by decide) hm) ?_
    | with_reducible refine State.setPeer_keeps _ _ _ _ _ (Mask.trans (by decide) hm) ?_
    | with_reducible refine Kept.each ?_ (fun _ _ _ => ?_)
    | split)

theorem State.heard_keeps (m : Nat) (s0 : State) (s : State) (n : Nat) (hm : 0x8000000000000000000000000000000000000080040 &&& m = 0x8000000000000000000000000000000000000080040)
    (hk : Kept m s0 s) : Kept m s0 (State.heard s n) := by
  unfold State.heard
  try dsimp only
  repeat' (first
    | with_reducible assumption
    | with_reducible apply Kept.ite
    | with_reducible refine State.setPeer_keeps _ _ _ _ _ (Mask.trans (by decide) hm) ?_
    | with_reducible refine State.flushPeer_keeps _ _ _ _ (Mask.trans (by decide) hm) ?_
    | split)

theorem State.enterPeer_keeps (m : Nat) (s0 : State) (s : State) (n : Nat) (port : Nat) (addr : Nat) (explicit : Bool) (hm : 0x48000000000000000000000000000000000000080040 &&& m = 0x48000000000000000000000000000000000000080040)
    (hk : Kept m s0 s) : Kept m s0 (State.enterPeer s n port addr explicit) := by
  unfold State.enterPeer
  try dsimp only
  repeat' (first
    | with_reducible assumption
    | with_reducible apply Kept.ite
    | with_reducible refine State.setPeer_keeps _ _ _ _ _ (Mask.trans (by decide) hm) ?_
    | with_reducible refine State.heard_keeps _ _ _ _ (Mask.trans (by decide) hm) ?_
    | with_reducible refine State.incSat_at .FAB_DROP rfl (Mask.trans (by decide) hm) ?_
    | split)

theorem State.refuseFrame_keeps (m : Nat) (s0 : State) (s : State) (hm : 0x40000000000000000000000000000000000000000000 &&& m = 0x40000000000000000000000000000000000000000000)
    (hk : Kept m s0 s) : Kept m s0 (State.refuseFrame s) := by
  unfold State.refuseFrame
  try dsimp only
  repeat' (first
    | with_reducible assumption
    | with_reducible refine State.incSat_at .FAB_DROP rfl (Mask.trans (by decide) hm) ?_)

theorem State.acked_keeps (m : Nat) (s0 : State) (s : State) (n : Nat) (seqs : List Nat) (hm : 0x80000 &&& m = 0x80000)
    (hk : Kept m s0 s) : Kept m s0 (State.acked s n seqs) := by
  unfold State.acked
  try dsimp only
  repeat' (first
    | with_reducible assumption
    | with_reducible refine State.setPeer_keeps _ _ _ _ _ (Mask.trans (by decide) hm) ?_
    | split)

theorem State.ackedBy_keeps (m : Nat) (s0 : State) (s : State) (n : Nat) (f : FrameHdr) (hm : 0x80000 &&& m = 0x80000)
    (hk : Kept m s0 s) : Kept m s0 (State.ackedBy s n f) := by
  unfold State.ackedBy
  try dsimp only
  repeat' (first
    | with_reducible assumption
    | with_reducible apply Kept.ite
    | with_reducible refine State.acked_keeps _ _ _ _ _ (Mask.trans (by decide) hm) ?_
    | split)

theorem State.takeHeader_keeps (m : Nat) (s0 : State) (s : State) (f : FrameHdr) (hm : 0x8000000000000000000000000000000000000080040 &&& m = 0x8000000000000000000000000000000000000080040)
    (hk : Kept m s0 s) : Kept m s0 (State.takeHeader s f) := by
  unfold State.takeHeader
  try dsimp only
  repeat' (first
    | with_reducible assumption
    | with_reducible apply Kept.ite
    | with_reducible refine State.heard_keeps _ _ _ _ (Mask.trans (by decide) hm) ?_
    | with_reducible refine State.ackedBy_keeps _ _ _ _ _ (Mask.trans (by decide) hm) ?_
    | split)

theorem State.notePeerEpoch_keeps (m : Nat) (s0 : State) (s : State) (n : Nat) (epoch : Nat) (hm : 0x80000 &&& m = 0x80000)
    (hk : Kept m s0 s) : Kept m s0 (State.notePeerEpoch s n epoch) := by
  unfold State.notePeerEpoch
  try dsimp only
  repeat' (first
    | with_reducible assumption
    | with_reducible apply Kept.ite
    | with_reducible refine State.setPeer_keeps _ _ _ _ _ (Mask.trans (by decide) hm) ?_
    | split)

theorem State.ackFrame_keeps (m : Nat) (s0 : State) (s : State) (n : Nat) (seq : Nat) (hm : 0x8000000000000000000000000000000000000000040 &&& m = 0x8000000000000000000000000000000000000000040)
    (hk : Kept m s0 s) : Kept m s0 (State.ackFrame s n seq) := by
  unfold State.ackFrame
  try dsimp only
  repeat' (first
    | with_reducible assumption
    | with_reducible refine State.sendPlain_keeps _ _ _ _ _ _ (Mask.trans (by decide) hm) ?_)

theorem State.takeReliable_keeps (m : Nat) (s0 : State) (s : State) (f : FrameHdr) (hm : 0x48000000000000000000000000000000000000080040 &&& m = 0x48000000000000000000000000000000000000080040)
    (hk : Kept m s0 s) : Kept m s0 (State.takeReliable s f).1 := by
  unfold State.takeReliable
  try dsimp only
  repeat' (first
    | with_reducible assumption
    | with_reducible apply Kept.ite
    | with_reducible refine State.setPeer_keeps _ _ _ _ _ (Mask.trans (by decide) hm) ?_
    | with_reducible refine State.takeHeader_keeps _ _ _ _ (Mask.trans (by decide) hm) ?_
    | with_reducible refine State.ackFrame_keeps _ _ _ _ _ (Mask.trans (by decide) hm) ?_
    | with_reducible refine State.incSat_at .FAB_DROP rfl (Mask.trans (by decide) hm) ?_
    | split
    | dsimp only)

theorem State.onReliable_keeps (m : Nat) (s0 : State) (s : State) (f : FrameHdr) (ok : Bool) (act : State → State) (hm : 0x58000000000000000000000000000000000000080044 &&& m = 0x58000000000000000000000000000000000000080044)
    (hk : Kept m s0 s) (hact : ∀ u, Kept m s0 u → Kept m s0 (act u)) : Kept m s0 (State.onReliable s f ok act) := by
  unfold State.onReliable
  try dsimp only
  repeat' (first
    | with_reducible assumption
    | with_reducible apply Kept.ite
    | with_reducible refine State.frameTaken_keeps _ _ _ (Mask.trans (by decide) hm) ?_
    | with_reducible refine State.refuseFrame_keeps _ _ _ (Mask.trans (by decide) hm) ?_
    | with_reducible refine State.takeReliable_keeps _ _ _ _ (Mask.trans (by decide) hm) ?_
    | with_reducible apply hact
    | split)

theorem State.setWord_keeps (m : Nat) (s0 : State) (s : State) (i : Nat) (w : LevelWord) (hm : 0x80000 &&& m = 0x80000)
    (hk : Kept m s0 s) : Kept m s0 (State.setWord s i w) := by
  unfold State.setWord
  try dsimp only
  repeat' (first
    | with_reducible assumption
    | (simp only [Kept.made]; with_reducible refine Kept.set_fab (Mask.trans (by decide) hm) ?_))

theorem State.repace_keeps (m : Nat) (s0 : State) (s : State) (hm : 0xc400000000000000010800000 &&& m = 0xc400000000000000010800000)
    (hk : Kept m s0 s) : Kept m s0 (State.repace s) := by
  unfold State.repace
  try dsimp only
  repeat' (first
    | with_reducible assumption
    | with_reducible refine State.noteReasons_keeps _ _ _ (Mask.trans (by decide) hm) ?_
    | (simp only [Kept.made]; with_reducible refine Kept.set_rate (Mask.trans (by decide) hm) ?_))

theorem State.tellLevelTo_keeps (m : Nat) (s0 : State) (s : State) (i : Nat) (ds : List Nat) (hm : 0xc0040 &&& m = 0xc0040)
    (hk : Kept m s0 s) : Kept m s0 (State.tellLevelTo s i ds) := by
  unfold State.tellLevelTo
  try dsimp only
  repeat' (first
    | with_reducible assumption
    | with_reducible apply Kept.ite
    | with_reducible refine State.send_keeps _ _ _ _ _ _ (Mask.trans (by decide) hm) ?_
    | with_reducible refine State.setWord_keeps _ _ _ _ _ (Mask.trans (by decide) hm) ?_
    | with_reducible refine Kept.each ?_ (fun _ _ _ => ?_)
    | split)

theorem State.tellLevel_keeps (m : Nat) (s0 : State) (s : State) (i : Nat) (hm : 0xc0040 &&& m = 0xc0040)
    (hk : Kept m s0 s) : Kept m s0 (State.tellLevel s i) := by
  unfold State.tellLevel
  try dsimp only
  repeat' (first
    | with_reducible assumption
    | with_reducible refine State.tellLevelTo_keeps _ _ _ _ _ (Mask.trans (by decide) hm) ?_)

theorem State.noteFell_keeps (m : Nat) (s0 : State) (s : State) (i : Nat) (hm : 0x80000 &&& m = 0x80000)
    (hk : Kept m s0 s) : Kept m s0 (State.noteFell s i) := by
  unfold State.noteFell
  try dsimp only
  repeat' (first
    | with_reducible assumption
    | (simp only [Kept.made]; with_reducible refine Kept.set_fab (Mask.trans (by decide) hm) ?_))

theorem State.mergeWord_keeps (m : Nat) (s0 : State) (s : State) (i : Nat) (r : Nat) (v : Nat) (h : Nat) (hm : 0xc4000000000000000108c0040 &&& m = 0xc4000000000000000108c0040)
    (hk : Kept m s0 s) : Kept m s0 (State.mergeWord s i r v h).1 := by
  unfold State.mergeWord
  try dsimp only
  repeat' (first
    | with_reducible assumption
    | with_reducible apply Kept.ite
    | with_reducible refine State.setWord_keeps _ _ _ _ _ (Mask.trans (by decide) hm) ?_
    | with_reducible refine State.noteFell_keeps _ _ _ _ (Mask.trans (by decide) hm) ?_
    | with_reducible refine State.tellLevel_keeps _ _ _ _ (Mask.trans (by decide) hm) ?_
    | with_reducible refine State.repace_keeps _ _ _ (Mask.trans (by decide) hm) ?_
    | split)

theorem State.onPace_keeps (m : Nat) (s0 : State) (s : State) (f : FrameHdr) (group : Nat) (rate : Nat) (valid : Nat) (holder : Nat) (hm : 0x5800000000000000000c4000000000000000108c0044 &&& m = 0x5800000000000000000c4000000000000000108c0044)
    (hk : Kept m s0 s) : Kept m s0 (State.onPace s f group rate valid holder) := by
  unfold State.onPace
  try dsimp only
  repeat' (first
    | with_reducible assumption
    | with_reducible apply Kept.ite
    | with_reducible refine State.onReliable_keeps _ _ _ _ _ _ (Mask.trans (by decide) hm) ?_ (fun _ _ => ?_)
    | with_reducible refine State.mergeWord_keeps _ _ _ _ _ _ _ (Mask.trans (by decide) hm) ?_
    | with_reducible refine State.sendEach_keeps _ _ _ _ _ (Mask.trans (by decide) hm) ?_
    | split
    | simp only [id_eq])

theorem State.onEmerg_keeps (m : Nat) (s0 : State) (s : State) (f : FrameHdr) (scope : Nat) (rate : Nat) (group : Nat) (valid : Nat) (origin : Nat) (hm : 0x5800000000000000000c4000000000000000108c0044 &&& m = 0x5800000000000000000c4000000000000000108c0044)
    (hk : Kept m s0 s) : Kept m s0 (State.onEmerg s f scope rate group valid origin) := by
  unfold State.onEmerg
  try dsimp only
  repeat' (first
    | with_reducible assumption
    | with_reducible apply Kept.ite
    | with_reducible refine State.onReliable_keeps _ _ _ _ _ _ (Mask.trans (by decide) hm) ?_ (fun _ _ => ?_)
    | with_reducible refine State.mergeWord_keeps _ _ _ _ _ _ _ (Mask.trans (by decide) hm) ?_
    | with_reducible refine State.sendEach_keeps _ _ _ _ _ (Mask.trans (by decide) hm) ?_)

theorem State.clearWord_keeps (m : Nat) (s0 : State) (s : State) (i : Nat) (hm : 0xc400000000000000010880000 &&& m = 0xc400000000000000010880000)
    (hk : Kept m s0 s) : Kept m s0 (State.clearWord s i) := by
  unfold State.clearWord
  try dsimp only
  repeat' (first
    | with_reducible assumption
    | with_reducible refine State.setWord_keeps _ _ _ _ _ (Mask.trans (by decide) hm) ?_
    | with_reducible refine State.repace_keeps _ _ _ (Mask.trans (by decide) hm) ?_)

theorem State.wordExpires_keeps (m : Nat) (s0 : State) (s : State) (i : Nat) (hm : 0xc400000000000000010880006 &&& m = 0xc400000000000000010880006)
    (hk : Kept m s0 s) : Kept m s0 (State.wordExpires s i) := by
  unfold State.wordExpires
  try dsimp only
  repeat' (first
    | with_reducible assumption
    | with_reducible apply Kept.ite
    | with_reducible refine State.advanceSky_keeps _ _ _ _ (Mask.trans (by decide) hm) ?_
    | with_reducible refine State.clearWord_keeps _ _ _ _ (Mask.trans (by decide) hm) ?_)

theorem State.wordResend_keeps (m : Nat) (s0 : State) (s : State) (i : Nat) (hm : 0xc0046 &&& m = 0xc0046)
    (hk : Kept m s0 s) : Kept m s0 (State.wordResend s i) := by
  unfold State.wordResend
  try dsimp only
  repeat' (first
    | with_reducible assumption
    | with_reducible apply Kept.ite
    | with_reducible refine State.advanceSky_keeps _ _ _ _ (Mask.trans (by decide) hm) ?_
    | with_reducible refine State.tellLevel_keeps _ _ _ _ (Mask.trans (by decide) hm) ?_)

theorem State.takeLevel_keeps (m : Nat) (s0 : State) (s : State) (i : Nat) (v : Nat) (hm : 0xc4000000000000000108c0000 &&& m = 0xc4000000000000000108c0000)
    (hk : Kept m s0 s) : Kept m s0 (State.takeLevel s i v) := by
  unfold State.takeLevel
  try dsimp only
  repeat' (first
    | with_reducible assumption
    | with_reducible apply Kept.ite
    | with_reducible refine State.setWord_keeps _ _ _ _ _ (Mask.trans (by decide) hm) ?_
    | with_reducible refine State.repace_keeps _ _ _ (Mask.trans (by decide) hm) ?_
    | (simp only [Kept.made]; with_reducible refine Kept.set_hdg (Mask.trans (by decide) hm) ?_)
    | split)

theorem State.sendPace_keeps (m : Nat) (s0 : State) (s : State) (i : Nat) (g : Group) (r : Nat) (hm : 0x8000000000000000000000000000000000000080040 &&& m = 0x8000000000000000000000000000000000000080040)
    (hk : Kept m s0 s) : Kept m s0 (State.sendPace s i g r) := by
  unfold State.sendPace
  try dsimp only
  repeat' (first
    | with_reducible assumption
    | with_reducible refine State.sendEach_keeps _ _ _ _ _ (Mask.trans (by decide) hm) ?_
    | (simp only [Kept.made]; with_reducible refine Kept.set_fab (Mask.trans (by decide) hm) ?_))

theorem State.setBuf_keeps (m : Nat) (s0 : State) (s : State) (b : RelBuf) (hm : 0x80000 &&& m = 0x80000)
    (hk : Kept m s0 s) : Kept m s0 (State.setBuf s b) := by
  unfold State.setBuf
  try dsimp only
  repeat' (first
    | with_reducible assumption
    | (simp only [Kept.made]; with_reducible refine Kept.set_fab (Mask.trans (by decide) hm) ?_))

theorem State.freeBuf_keeps (m : Nat) (s0 : State) (s : State) (id : Nat) (hm : 0x80000 &&& m = 0x80000)
    (hk : Kept m s0 s) : Kept m s0 (State.freeBuf s id) := by
  unfold State.freeBuf
  try dsimp only
  repeat' (first
    | with_reducible assumption
    | (simp only [Kept.made]; with_reducible refine Kept.set_fab (Mask.trans (by decide) hm) ?_))

theorem State.queueReleases_keeps (m : Nat) (s0 : State) (s : State) (hm : 0xc0000 &&& m = 0xc0000)
    (hk : Kept m s0 s) : Kept m s0 (State.queueReleases s) := by
  unfold State.queueReleases
  try dsimp only
  repeat' (first
    | with_reducible assumption
    | with_reducible apply Kept.ite
    | with_reducible refine State.setBuf_keeps _ _ _ _ (Mask.trans (by decide) hm) ?_
    | with_reducible refine State.enqueue_keeps _ _ _ _ (Mask.trans (by decide) hm) ?_
    | with_reducible refine Kept.each ?_ (fun _ _ _ => ?_)
    | split)

theorem State.abortRelease_keeps (m : Nat) (s0 : State) (s : State) (b : RelBuf) (hm : 0xc000000000000000000000000000000000000080040 &&& m = 0xc000000000000000000000000000000000000080040)
    (hk : Kept m s0 s) : Kept m s0 (State.abortRelease s b) := by
  unfold State.abortRelease
  try dsimp only
  repeat' (first
    | with_reducible assumption
    | with_reducible refine State.sendEach_keeps _ _ _ _ _ (Mask.trans (by decide) hm) ?_
    | with_reducible refine State.freeBuf_keeps _ _ _ _ (Mask.trans (by decide) hm) ?_
    | with_reducible refine State.setFld_at .FAB_REL_STATUS rfl (Mask.trans (by decide) hm) ?_
    | with_reducible refine State.incSat_at .FAB_REL_STATUS rfl (Mask.trans (by decide) hm) ?_
    | (simp only [Kept.made]; with_reducible refine Kept.set_fab (Mask.trans (by decide) hm) ?_))

theorem State.commitRelease_keeps (m : Nat) (s0 : State) (s : State) (b : RelBuf) (hm : 0x80000000000000000000000000000000000000c0040 &&& m = 0x80000000000000000000000000000000000000c0040)
    (hk : Kept m s0 s) : Kept m s0 (State.commitRelease s b) := by
  unfold State.commitRelease
  try dsimp only
  repeat' (first
    | with_reducible assumption
    | with_reducible refine State.sendEach_keeps _ _ _ _ _ (Mask.trans (by decide) hm) ?_
    | with_reducible refine State.setBuf_keeps _ _ _ _ (Mask.trans (by decide) hm) ?_
    | with_reducible refine State.queueReleases_keeps _ _ _ (Mask.trans (by decide) hm) ?_)

theorem State.originateRelease_keeps (m : Nat) (s0 : State) (s : State) (i : Nat) (g : Group) (r : Nat) (hm : 0xc0000000000000000000000000000000000000c0040 &&& m = 0xc0000000000000000000000000000000000000c0040)
    (hk : Kept m s0 s) : Kept m s0 (State.originateRelease s i g r) := by
  unfold State.originateRelease
  try dsimp only
  repeat' (first
    | with_reducible assumption
    | with_reducible apply Kept.ite
    | with_reducible refine State.commitRelease_keeps _ _ _ _ (Mask.trans (by decide) hm) ?_
    | with_reducible refine State.sendEach_keeps _ _ _ _ _ (Mask.trans (by decide) hm) ?_
    | with_reducible refine State.setFld_at .FAB_REL_STATUS rfl (Mask.trans (by decide) hm) ?_
    | (simp only [Kept.made]; with_reducible refine Kept.set_fab (Mask.trans (by decide) hm) ?_))

theorem State.originate_keeps (m : Nat) (s0 : State) (s : State) (i : Nat) (hm : 0xc0000000000000000000000000000000000000c0040 &&& m = 0xc0000000000000000000000000000000000000c0040)
    (hk : Kept m s0 s) : Kept m s0 (State.originate s i) := by
  unfold State.originate
  try dsimp only
  repeat' (first
    | with_reducible assumption
    | with_reducible apply Kept.ite
    | with_reducible refine State.sendPace_keeps _ _ _ _ _ _ (Mask.trans (by decide) hm) ?_
    | with_reducible refine State.originateRelease_keeps _ _ _ _ _ _ (Mask.trans (by decide) hm) ?_
    | split)

theorem State.originateAll_keeps (m : Nat) (s0 : State) (s : State) (hm : 0xc0000000000000000000000000000000000000c0040 &&& m = 0xc0000000000000000000000000000000000000c0040)
    (hk : Kept m s0 s) : Kept m s0 (State.originateAll s) := by
  unfold State.originateAll
  try dsimp only
  repeat' (first
    | with_reducible assumption
    | with_reducible refine State.originate_keeps _ _ _ _ (Mask.trans (by decide) hm) ?_
    | with_reducible refine Kept.each ?_ (fun _ _ _ => ?_))

theorem State.noteRate_keeps (m : Nat) (s0 : State) (s : State) (hm : 0xc0000000000000000000000000000000000000c0040 &&& m = 0xc0000000000000000000000000000000000000c0040)
    (hk : Kept m s0 s) : Kept m s0 (State.noteRate s) := by
  unfold State.noteRate
  try dsimp only
  repeat' (first
    | with_reducible assumption
    | with_reducible apply Kept.ite
    | with_reducible refine State.originateAll_keeps _ _ _ (Mask.trans (by decide) hm) ?_
    | with_reducible refine State.report_keeps _ _ _ _ (Mask.trans (by decide) hm) ?_
    | (simp only [Kept.made]; with_reducible refine Kept.set_fab (Mask.trans (by decide) hm) ?_)
    | split)

theorem State.paceRefresh_keeps (m : Nat) (s0 : State) (s : State) (i : Nat) (hm : 0x8000000000000000000000000000000000000080046 &&& m = 0x8000000000000000000000000000000000000080046)
    (hk : Kept m s0 s) : Kept m s0 (State.paceRefresh s i) := by
  unfold State.paceRefresh
  try dsimp only
  repeat' (first
    | with_reducible assumption
    | with_reducible apply Kept.ite
    | with_reducible refine State.advanceTo_keeps _ _ _ _ (Mask.trans (by decide) hm) ?_
    | with_reducible refine State.sendPace_keeps _ _ _ _ _ _ (Mask.trans (by decide) hm) ?_
    | split)

theorem State.releaseRetry_keeps (m : Nat) (s0 : State) (s : State) (i : Nat) (hm : 0xc0000000000000000000000000000000000000c0046 &&& m = 0xc0000000000000000000000000000000000000c0046)
    (hk : Kept m s0 s) : Kept m s0 (State.releaseRetry s i) := by
  unfold State.releaseRetry
  try dsimp only
  repeat' (first
    | with_reducible assumption
    | with_reducible refine State.advanceTo_keeps _ _ _ _ (Mask.trans (by decide) hm) ?_
    | with_reducible refine State.originate_keeps _ _ _ _ (Mask.trans (by decide) hm) ?_
    | (simp only [Kept.made]; with_reducible refine Kept.set_fab (Mask.trans (by decide) hm) ?_)
    | split)

theorem State.vote_keeps (m : Nat) (s0 : State) (s : State) (b : RelBuf) (hm : 0x8000000000000000000000000000000000000080040 &&& m = 0x8000000000000000000000000000000000000080040)
    (hk : Kept m s0 s) : Kept m s0 (State.vote s b) := by
  unfold State.vote
  try dsimp only
  repeat' (first
    | with_reducible assumption
    | with_reducible apply Kept.ite
    | with_reducible refine State.setBuf_keeps _ _ _ _ (Mask.trans (by decide) hm) ?_
    | with_reducible refine State.sendReliable_keeps _ _ _ _ _ (Mask.trans (by decide) hm) ?_
    | simp only [id_eq]
    | split)

theorem State.onPrepare_keeps (m : Nat) (s0 : State) (s : State) (f : FrameHdr) (id : Nat) (kind : Nat) (levels : Nat) (group : Nat) (newSet : Nat) (newRate : Nat) (valid : Nat) (hm : 0x58000000000000000000000000000000000000080044 &&& m = 0x58000000000000000000000000000000000000080044)
    (hk : Kept m s0 s) : Kept m s0 (State.onPrepare s f id kind levels group newSet newRate valid) := by
  unfold State.onPrepare
  try dsimp only
  repeat' (first
    | with_reducible assumption
    | with_reducible apply Kept.ite
    | with_reducible refine State.onReliable_keeps _ _ _ _ _ _ (Mask.trans (by decide) hm) ?_ (fun _ _ => ?_)
    | with_reducible refine State.sendReliable_keeps _ _ _ _ _ (Mask.trans (by decide) hm) ?_
    | with_reducible refine State.vote_keeps _ _ _ _ (Mask.trans (by decide) hm) ?_
    | with_reducible refine State.sendEach_keeps _ _ _ _ _ (Mask.trans (by decide) hm) ?_
    | (simp only [Kept.made]; with_reducible refine Kept.set_fab (Mask.trans (by decide) hm) ?_))

theorem State.onVote_keeps (m : Nat) (s0 : State) (s : State) (f : FrameHdr) (id : Nat) (v : Nat) (count : Nat) (hm : 0x5c0000000000000000000000000000000000000c0044 &&& m = 0x5c0000000000000000000000000000000000000c0044)
    (hk : Kept m s0 s) : Kept m s0 (State.onVote s f id v count) := by
  unfold State.onVote
  try dsimp only
  repeat' (first
    | with_reducible assumption
    | with_reducible apply Kept.ite
    | with_reducible refine State.onReliable_keeps _ _ _ _ _ _ (Mask.trans (by decide) hm) ?_ (fun _ _ => ?_)
    | with_reducible refine State.setBuf_keeps _ _ _ _ (Mask.trans (by decide) hm) ?_
    | with_reducible refine State.abortRelease_keeps _ _ _ _ (Mask.trans (by decide) hm) ?_
    | with_reducible refine State.commitRelease_keeps _ _ _ _ (Mask.trans (by decide) hm) ?_
    | with_reducible refine State.vote_keeps _ _ _ _ (Mask.trans (by decide) hm) ?_
    | split)

theorem State.voteWaitEnd_keeps (m : Nat) (s0 : State) (s : State) (id : Nat) (hm : 0x8000000000000000000000000000000000000080046 &&& m = 0x8000000000000000000000000000000000000080046)
    (hk : Kept m s0 s) : Kept m s0 (State.voteWaitEnd s id) := by
  unfold State.voteWaitEnd
  try dsimp only
  repeat' (first
    | with_reducible assumption
    | with_reducible apply Kept.ite
    | with_reducible refine State.advanceTo_keeps _ _ _ _ (Mask.trans (by decide) hm) ?_
    | with_reducible refine State.vote_keeps _ _ _ _ (Mask.trans (by decide) hm) ?_
    | split)

theorem State.originatorWaitEnd_keeps (m : Nat) (s0 : State) (s : State) (id : Nat) (hm : 0xc000000000000000000000000000000000000080046 &&& m = 0xc000000000000000000000000000000000000080046)
    (hk : Kept m s0 s) : Kept m s0 (State.originatorWaitEnd s id) := by
  unfold State.originatorWaitEnd
  try dsimp only
  repeat' (first
    | with_reducible assumption
    | with_reducible apply Kept.ite
    | with_reducible refine State.advanceTo_keeps _ _ _ _ (Mask.trans (by decide) hm) ?_
    | with_reducible refine State.abortRelease_keeps _ _ _ _ (Mask.trans (by decide) hm) ?_
    | split)

theorem State.onCommit_keeps (m : Nat) (s0 : State) (s : State) (f : FrameHdr) (id : Nat) (at_ : Nat) (hm : 0x580000000000000000000000000000000000000c0044 &&& m = 0x580000000000000000000000000000000000000c0044)
    (hk : Kept m s0 s) : Kept m s0 (State.onCommit s f id at_) := by
  unfold State.onCommit
  try dsimp only
  repeat' (first
    | with_reducible assumption
    | with_reducible apply Kept.ite
    | with_reducible refine State.onReliable_keeps _ _ _ _ _ _ (Mask.trans (by decide) hm) ?_ (fun _ _ => ?_)
    | with_reducible refine State.sendEach_keeps _ _ _ _ _ (Mask.trans (by decide) hm) ?_
    | with_reducible refine State.setBuf_keeps _ _ _ _ (Mask.trans (by decide) hm) ?_
    | with_reducible refine State.queueReleases_keeps _ _ _ (Mask.trans (by decide) hm) ?_
    | split)

theorem State.onAbort_keeps (m : Nat) (s0 : State) (s : State) (f : FrameHdr) (id : Nat) (hm : 0x58000000000000000000000000000000000000080044 &&& m = 0x58000000000000000000000000000000000000080044)
    (hk : Kept m s0 s) : Kept m s0 (State.onAbort s f id) := by
  unfold State.onAbort
  try dsimp only
  repeat' (first
    | with_reducible assumption
    | with_reducible apply Kept.ite
    | with_reducible refine State.onReliable_keeps _ _ _ _ _ _ (Mask.trans (by decide) hm) ?_ (fun _ _ => ?_)
    | with_reducible refine State.sendEach_keeps _ _ _ _ _ (Mask.trans (by decide) hm) ?_
    | with_reducible refine State.freeBuf_keeps _ _ _ _ (Mask.trans (by decide) hm) ?_
    | split)

theorem State.bufExpires_keeps (m : Nat) (s0 : State) (s : State) (id : Nat) (hm : 0x80000000000000000000000000000000000000080086 &&& m = 0x80000000000000000000000000000000000000080086)
    (hk : Kept m s0 s) : Kept m s0 (State.bufExpires s id) := by
  unfold State.bufExpires
  try dsimp only
  repeat' (first
    | with_reducible assumption
    | with_reducible apply Kept.ite
    | with_reducible refine State.advanceTo_keeps _ _ _ _ (Mask.trans (by decide) hm) ?_
    | with_reducible refine State.freeBuf_keeps _ _ _ _ (Mask.trans (by decide) hm) ?_
    | with_reducible refine State.raise_keeps _ _ _ _ _ _ (Mask.trans (by decide) hm) ?_
    | with_reducible refine State.incSat_at .FAB_FAIL rfl (Mask.trans (by decide) hm) ?_
    | split)

theorem State.applyRelease_keeps (m : Nat) (s0 : State) (s : State) (id : Nat) (hm : 0xc00000000000000000c4000000000000000108c0040 &&& m = 0xc00000000000000000c4000000000000000108c0040)
    (hk : Kept m s0 s) : Kept m s0 (State.applyRelease s id) := by
  unfold State.applyRelease
  try dsimp only
  repeat' (first
    | with_reducible assumption
    | with_reducible apply Kept.ite
    | with_reducible refine State.setWord_keeps _ _ _ _ _ (Mask.trans (by decide) hm) ?_
    | with_reducible refine State.repace_keeps _ _ _ (Mask.trans (by decide) hm) ?_
    | with_reducible refine State.freeBuf_keeps _ _ _ _ (Mask.trans (by decide) hm) ?_
    | with_reducible refine State.sendPace_keeps _ _ _ _ _ _ (Mask.trans (by decide) hm) ?_
    | with_reducible refine State.originate_keeps _ _ _ _ (Mask.trans (by decide) hm) ?_
    | with_reducible refine State.setFld_at .FAB_REL_STATUS rfl (Mask.trans (by decide) hm) ?_
    | (simp only [Kept.made]; with_reducible refine Kept.set_fab (Mask.trans (by decide) hm) ?_)
    | split)

theorem State.sendHellos_keeps (m : Nat) (s0 : State) (s : State) (hm : 0x8000000000000000000000000000000000000080040 &&& m = 0x8000000000000000000000000000000000000080040)
    (hk : Kept m s0 s) : Kept m s0 (State.sendHellos s) := by
  unfold State.sendHellos
  try dsimp only
  repeat' (first
    | with_reducible assumption
    | with_reducible apply Kept.ite
    | with_reducible refine State.sendFrame_keeps _ _ _ _ _ (Mask.trans (by decide) hm) ?_
    | with_reducible refine Kept.each ?_ (fun _ _ _ => ?_)
    | (simp only [Kept.made]; with_reducible refine Kept.set_fab (Mask.trans (by decide) hm) ?_))

theorem State.discovery_keeps (m : Nat) (s0 : State) (s : State) (hm : 0x8000000000000000000000000000000000000080046 &&& m = 0x8000000000000000000000000000000000000080046)
    (hk : Kept m s0 s) : Kept m s0 (State.discovery s) := by
  unfold State.discovery
  try dsimp only
  repeat' (first
    | with_reducible assumption
    | with_reducible apply Kept.ite
    | with_reducible refine State.advanceTo_keeps _ _ _ _ (Mask.trans (by decide) hm) ?_
    | with_reducible refine State.sendHellos_keeps _ _ _ (Mask.trans (by decide) hm) ?_)

theorem State.onHello_keeps (m : Nat) (s0 : State) (s : State) (f : FrameHdr) (node : Nat) (hm : 0x580000000000000000000000000000000000000800c4 &&& m = 0x580000000000000000000000000000000000000800c4)
    (hk : Kept m s0 s) : Kept m s0 (State.onHello s f node) := by
  unfold State.onHello
  try dsimp only
  repeat' (first
    | with_reducible assumption
    | with_reducible apply Kept.ite
    | with_reducible refine State.frameTaken_keeps _ _ _ (Mask.trans (by decide) hm) ?_
    | with_reducible refine State.raise_keeps _ _ _ _ _ _ (Mask.trans (by decide) hm) ?_
    | with_reducible refine State.sendFrame_keeps _ _ _ _ _ (Mask.trans (by decide) hm) ?_
    | with_reducible refine State.enterPeer_keeps _ _ _ _ _ _ _ (Mask.trans (by decide) hm) ?_
    | with_reducible refine State.notePeerEpoch_keeps _ _ _ _ _ (Mask.trans (by decide) hm) ?_
    | with_reducible refine State.ackedBy_keeps _ _ _ _ _ (Mask.trans (by decide) hm) ?_
    | split)

theorem State.onHelloAck_keeps (m : Nat) (s0 : State) (s : State) (f : FrameHdr) (node : Nat) (hm : 0x58000000000000000000000000000000000000080044 &&& m = 0x58000000000000000000000000000000000000080044)
    (hk : Kept m s0 s) : Kept m s0 (State.onHelloAck s f node) := by
  unfold State.onHelloAck
  try dsimp only
  repeat' (first
    | with_reducible assumption
    | with_reducible apply Kept.ite
    | with_reducible refine State.frameTaken_keeps _ _ _ (Mask.trans (by decide) hm) ?_
    | with_reducible refine State.refuseFrame_keeps _ _ _ (Mask.trans (by decide) hm) ?_
    | with_reducible refine State.enterPeer_keeps _ _ _ _ _ _ _ (Mask.trans (by decide) hm) ?_
    | with_reducible refine State.notePeerEpoch_keeps _ _ _ _ _ (Mask.trans (by decide) hm) ?_
    | with_reducible refine State.ackedBy_keeps _ _ _ _ _ (Mask.trans (by decide) hm) ?_
    | split)

theorem State.onAck_keeps (m : Nat) (s0 : State) (s : State) (f : FrameHdr) (seqs : List Nat) (hm : 0x58000000000000000000000000000000000000080044 &&& m = 0x58000000000000000000000000000000000000080044)
    (hk : Kept m s0 s) : Kept m s0 (State.onAck s f seqs) := by
  unfold State.onAck
  try dsimp only
  repeat' (first
    | with_reducible assumption
    | with_reducible apply Kept.ite
    | with_reducible refine State.frameTaken_keeps _ _ _ (Mask.trans (by decide) hm) ?_
    | with_reducible refine State.notePeerEpoch_keeps _ _ _ _ _ (Mask.trans (by decide) hm) ?_
    | with_reducible refine State.takeHeader_keeps _ _ _ _ (Mask.trans (by decide) hm) ?_
    | with_reducible refine State.acked_keeps _ _ _ _ _ (Mask.trans (by decide) hm) ?_
    | with_reducible refine State.refuseFrame_keeps _ _ _ (Mask.trans (by decide) hm) ?_
    | split)

theorem State.retransmit_keeps (m : Nat) (s0 : State) (s : State) (n : Nat) (seq : Nat) (hm : 0xa80000000000000000000000000000000000000800c6 &&& m = 0xa80000000000000000000000000000000000000800c6)
    (hk : Kept m s0 s) : Kept m s0 (State.retransmit s n seq) := by
  unfold State.retransmit
  try dsimp only
  repeat' (first
    | with_reducible assumption
    | with_reducible apply Kept.ite
    | with_reducible refine State.advanceTo_keeps _ _ _ _ (Mask.trans (by decide) hm) ?_
    | with_reducible refine State.setPeer_keeps _ _ _ _ _ (Mask.trans (by decide) hm) ?_
    | with_reducible refine State.sendFrame_keeps _ _ _ _ _ (Mask.trans (by decide) hm) ?_
    | with_reducible refine State.raise_keeps _ _ _ _ _ _ (Mask.trans (by decide) hm) ?_
    | with_reducible refine State.incSat_at .FAB_RETX rfl (Mask.trans (by decide) hm) ?_
    | with_reducible refine State.incSat_at .FAB_FAIL rfl (Mask.trans (by decide) hm) ?_
    | split)

theorem State.peerDead_keeps (m : Nat) (s0 : State) (s : State) (n : Nat) (hm : 0x80086 &&& m = 0x80086)
    (hk : Kept m s0 s) : Kept m s0 (State.peerDead s n) := by
  unfold State.peerDead
  try dsimp only
  repeat' (first
    | with_reducible assumption
    | with_reducible apply Kept.ite
    | with_reducible refine State.advanceTo_keeps _ _ _ _ (Mask.trans (by decide) hm) ?_
    | with_reducible refine State.setPeer_keeps _ _ _ _ _ (Mask.trans (by decide) hm) ?_
    | with_reducible refine State.raise_keeps _ _ _ _ _ _ (Mask.trans (by decide) hm) ?_
    | split)

theorem State.discardFrame_keeps (m : Nat) (s0 : State) (s : State) (err : Bool) (bs : List Nat) (hm : 0x50000000000000000000000000000000000000000004 &&& m = 0x50000000000000000000000000000000000000000004)
    (hk : Kept m s0 s) : Kept m s0 (State.discardFrame s err bs) := by
  unfold State.discardFrame
  try dsimp only
  repeat' (first
    | with_reducible assumption
    | with_reducible apply Kept.ite
    | with_reducible refine State.frameTaken_keeps _ _ _ (Mask.trans (by decide) hm) ?_
    | with_reducible refine State.refuseFrame_keeps _ _ _ (Mask.trans (by decide) hm) ?_
    | with_reducible refine State.incSat_at .FAB_DROP rfl (Mask.trans (by decide) hm) ?_
    | split)

theorem State.fabBlockReset_keeps (m : Nat) (s0 : State) (s : State) (hm : 0x4000000000000000000000000000000000000080000 &&& m = 0x4000000000000000000000000000000000000080000)
    (hk : Kept m s0 s) : Kept m s0 (State.fabBlockReset s) := by
  unfold State.fabBlockReset
  try dsimp only
  repeat' (first
    | with_reducible assumption
    | with_reducible apply Kept.ite
    | with_reducible refine State.setFld_at .FAB_REL_STATUS rfl (Mask.trans (by decide) hm) ?_
    | (simp only [Kept.made]; with_reducible refine Kept.set_fab (Mask.trans (by decide) hm) ?_))

theorem State.fabResend_keeps (m : Nat) (s0 : State) (s : State) (hm : 0x80000000000000000000000000000000000000c0040 &&& m = 0x80000000000000000000000000000000000000c0040)
    (hk : Kept m s0 s) : Kept m s0 (State.fabResend s) := by
  unfold State.fabResend
  try dsimp only
  repeat' (first
    | with_reducible assumption
    | with_reducible apply Kept.ite
    | with_reducible refine State.tellLevel_keeps _ _ _ _ (Mask.trans (by decide) hm) ?_
    | with_reducible refine State.sendEach_keeps _ _ _ _ _ (Mask.trans (by decide) hm) ?_
    | with_reducible refine Kept.each ?_ (fun _ _ _ => ?_)
    | split)

end Sys2Proof.Machine
end

