-- ==== Sys2Proof/Laws/KeepsSkylark.lean ====
section
/-! SUPPORT. What each operation of Machine/Skylark.lean keeps: every place outside its mask, the register store's form, the resets' levels,
the outputs so far, time and the queue. -/

namespace Sys2Proof.Machine

theorem State.showErr_keeps (m : Nat) (s0 : State) (s : State) (e : Int) (hm : 0x800000000000000000000000000000000000000000000 &&& m = 0x800000000000000000000000000000000000000000000)
    (hk : Kept m s0 s) : Kept m s0 (State.showErr s e) := by
  unfold State.showErr
  try dsimp only
  repeat' (first
    | with_reducible assumption
    | with_reducible refine State.setFld_at .TIME_ERR rfl (Mask.trans (by decide) hm) ?_)

theorem State.noteLock_keeps (m : Nat) (s0 : State) (s : State) (e : Int) (hm : 0x400000000000000000000000000000000000000000004 &&& m = 0x400000000000000000000000000000000000000000004)
    (hk : Kept m s0 s) : Kept m s0 (State.noteLock s e) := by
  unfold State.noteLock
  try dsimp only
  repeat' (first
    | with_reducible assumption
    | with_reducible apply Kept.ite
    | with_reducible refine State.setFlag_at .TIME_STATUS rfl (Mask.trans (by decide) hm) ?_
    | (simp only [Kept.made]; with_reducible refine Kept.set_sky (Mask.trans (by decide) hm) ?_))

theorem State.noteErr_keeps (m : Nat) (s0 : State) (s : State) (e : Int) (hm : 0xc00000000000000000000000000000000000000000004 &&& m = 0xc00000000000000000000000000000000000000000004)
    (hk : Kept m s0 s) : Kept m s0 (State.noteErr s e) := by
  unfold State.noteErr
  try dsimp only
  repeat' (first
    | with_reducible assumption
    | with_reducible apply Kept.ite
    | with_reducible refine State.showErr_keeps _ _ _ _ (Mask.trans (by decide) hm) ?_
    | with_reducible refine State.noteLock_keeps _ _ _ _ (Mask.trans (by decide) hm) ?_
    | split)

theorem State.discipline_keeps (m : Nat) (s0 : State) (s : State) (e : Int) (hm : 0xc00000000000000000000000000000000000000000004 &&& m = 0xc00000000000000000000000000000000000000000004)
    (hk : Kept m s0 s) : Kept m s0 (State.discipline s e) := by
  unfold State.discipline
  try dsimp only
  repeat' (first
    | with_reducible assumption
    | with_reducible apply Kept.ite
    | with_reducible refine State.noteErr_keeps _ _ _ _ (Mask.trans (by decide) hm) ?_
    | (simp only [Kept.made]; with_reducible refine Kept.set_sky (Mask.trans (by decide) hm) ?_)
    | split)

theorem State.leaveHoldover_keeps (m : Nat) (s0 : State) (s : State) (hm : 0x400000000000000000000000000000000000080000104 &&& m = 0x400000000000000000000000000000000000080000104)
    (hk : Kept m s0 s) : Kept m s0 (State.leaveHoldover s) := by
  unfold State.leaveHoldover
  try dsimp only
  repeat' (first
    | with_reducible assumption
    | with_reducible refine State.levelOff_keeps _ _ _ _ (Mask.trans (by decide) hm) ?_
    | with_reducible refine State.setFlag_at .TIME_STATUS rfl (Mask.trans (by decide) hm) ?_
    | (simp only [Kept.made]; with_reducible refine Kept.set_sky (Mask.trans (by decide) hm) ?_))

theorem State.enterHoldover_keeps (m : Nat) (s0 : State) (s : State) (hm : 0x400000000000000000000000000000000000000000004 &&& m = 0x400000000000000000000000000000000000000000004)
    (hk : Kept m s0 s) : Kept m s0 (State.enterHoldover s) := by
  unfold State.enterHoldover
  try dsimp only
  repeat' (first
    | with_reducible assumption
    | with_reducible refine State.setFlag_at .TIME_STATUS rfl (Mask.trans (by decide) hm) ?_
    | (simp only [Kept.made]; with_reducible refine Kept.set_sky (Mask.trans (by decide) hm) ?_)
    | split)

theorem State.noteHoldover_keeps (m : Nat) (s0 : State) (s : State) (hm : 0x80000180 &&& m = 0x80000180)
    (hk : Kept m s0 s) : Kept m s0 (State.noteHoldover s) := by
  unfold State.noteHoldover
  try dsimp only
  repeat' (first
    | with_reducible assumption
    | with_reducible apply Kept.ite
    | with_reducible refine State.levelOn_keeps _ _ _ _ _ (Mask.trans (by decide) hm) ?_
    | split)

theorem State.jump_keeps (m : Nat) (s0 : State) (s : State) (v : Nat) (hm : 0x4001404 &&& m = 0x4001404)
    (hk : Kept m s0 s) : Kept m s0 (State.jump s v) := by
  unfold State.jump
  try dsimp only
  repeat' (first
    | with_reducible assumption
    | with_reducible apply Kept.ite
    | with_reducible refine State.gapAll_keeps _ _ _ (Mask.trans (by decide) hm) ?_
    | (simp only [Kept.made]; with_reducible refine Kept.set_sky_arb_thm (Mask.trans (by decide) hm) ?_)
    | split)

theorem State.tellTime_keeps (m : Nat) (s0 : State) (s : State) (v : Nat) (hm : 0x40044 &&& m = 0x40044)
    (hk : Kept m s0 s) : Kept m s0 (State.tellTime s v) := by
  unfold State.tellTime
  try dsimp only
  repeat' (first
    | with_reducible assumption
    | with_reducible apply Kept.ite
    | with_reducible refine State.toFollowers_keeps _ _ _ _ (Mask.trans (by decide) hm) ?_
    | (simp only [Kept.made]; with_reducible refine Kept.set_sky (Mask.trans (by decide) hm) ?_))

theorem State.carryOn_keeps (m : Nat) (s0 : State) (s : State) (hm : 0x4 &&& m = 0x4)
    (hk : Kept m s0 s) : Kept m s0 (State.carryOn s) := by
  unfold State.carryOn
  try dsimp only
  repeat' (first
    | with_reducible assumption
    | with_reducible apply Kept.ite
    | (simp only [Kept.made]; with_reducible refine Kept.set_sky (Mask.trans (by decide) hm) ?_)
    | split)

theorem State.plainPulse_keeps (m : Nat) (s0 : State) (s : State) (hm : 0x4000000000000000000000000000000000000040414c4 &&& m = 0x4000000000000000000000000000000000000040414c4)
    (hk : Kept m s0 s) : Kept m s0 (State.plainPulse s) := by
  unfold State.plainPulse
  try dsimp only
  repeat' (first
    | with_reducible assumption
    | with_reducible apply Kept.ite
    | with_reducible refine State.jump_keeps _ _ _ _ (Mask.trans (by decide) hm) ?_
    | with_reducible refine State.raise_keeps _ _ _ _ _ _ (Mask.trans (by decide) hm) ?_
    | with_reducible refine State.tellTime_keeps _ _ _ _ (Mask.trans (by decide) hm) ?_
    | with_reducible refine State.setFlag_at .TIME_STATUS rfl (Mask.trans (by decide) hm) ?_
    | (simp only [Kept.made]; with_reducible refine Kept.set_sky (Mask.trans (by decide) hm) ?_)
    | split)

theorem State.leaderPulse_keeps (m : Nat) (s0 : State) (s : State) (v : Nat) (sub : Nat) (hm : 0xc000000000000000000000000000000000000840415c4 &&& m = 0xc000000000000000000000000000000000000840415c4)
    (hk : Kept m s0 s) : Kept m s0 (State.leaderPulse s v sub) := by
  unfold State.leaderPulse
  try dsimp only
  repeat' (first
    | with_reducible assumption
    | with_reducible apply Kept.ite
    | with_reducible refine State.jump_keeps _ _ _ _ (Mask.trans (by decide) hm) ?_
    | with_reducible refine State.noteErr_keeps _ _ _ _ (Mask.trans (by decide) hm) ?_
    | with_reducible refine State.raise_keeps _ _ _ _ _ _ (Mask.trans (by decide) hm) ?_
    | with_reducible refine State.enterHoldover_keeps _ _ _ (Mask.trans (by decide) hm) ?_
    | with_reducible refine State.levelOn_keeps _ _ _ _ _ (Mask.trans (by decide) hm) ?_
    | with_reducible refine State.discipline_keeps _ _ _ _ (Mask.trans (by decide) hm) ?_
    | with_reducible refine State.tellTime_keeps _ _ _ _ (Mask.trans (by decide) hm) ?_
    | with_reducible refine State.setFlag_at .TIME_STATUS rfl (Mask.trans (by decide) hm) ?_
    | (simp only [Kept.made]; with_reducible refine Kept.set_sky (Mask.trans (by decide) hm) ?_)
    | split)

theorem State.followerPulse_keeps (m : Nat) (s0 : State) (s : State) (sub : Nat) (hm : 0xc00000000000000000000000000000000000004001404 &&& m = 0xc00000000000000000000000000000000000004001404)
    (hk : Kept m s0 s) : Kept m s0 (State.followerPulse s sub) := by
  unfold State.followerPulse
  try dsimp only
  repeat' (first
    | with_reducible assumption
    | with_reducible apply Kept.ite
    | with_reducible refine State.noteErr_keeps _ _ _ _ (Mask.trans (by decide) hm) ?_
    | with_reducible refine State.jump_keeps _ _ _ _ (Mask.trans (by decide) hm) ?_
    | with_reducible refine State.discipline_keeps _ _ _ _ (Mask.trans (by decide) hm) ?_
    | (simp only [Kept.made]; with_reducible refine Kept.set_sky (Mask.trans (by decide) hm) ?_)
    | split)

theorem State.heathPulse_keeps (m : Nat) (s0 : State) (s : State) (value : Option Nat) (hm : 0x4000000000000000000000000000000000000040414c4 &&& m = 0x4000000000000000000000000000000000000040414c4)
    (hk : Kept m s0 s) : Kept m s0 (State.heathPulse s value) := by
  unfold State.heathPulse
  try dsimp only
  repeat' (first
    | with_reducible assumption
    | with_reducible apply Kept.ite
    | with_reducible refine State.plainPulse_keeps _ _ _ (Mask.trans (by decide) hm) ?_
    | with_reducible refine State.tellTime_keeps _ _ _ _ (Mask.trans (by decide) hm) ?_
    | with_reducible refine State.jump_keeps _ _ _ _ (Mask.trans (by decide) hm) ?_
    | with_reducible refine State.setFlag_at .TIME_STATUS rfl (Mask.trans (by decide) hm) ?_
    | (simp only [Kept.made]; with_reducible refine Kept.set_sky (Mask.trans (by decide) hm) ?_)
    | split)

theorem State.tpPulse_keeps (m : Nat) (s0 : State) (s : State) (value : Option Nat) (sub : Nat) (hm : 0xc000000000000000000000000000000000000840415c4 &&& m = 0xc000000000000000000000000000000000000840415c4)
    (hk : Kept m s0 s) : Kept m s0 (State.tpPulse s value sub) := by
  unfold State.tpPulse
  try dsimp only
  repeat' (first
    | with_reducible assumption
    | with_reducible apply Kept.ite
    | with_reducible refine State.carryOn_keeps _ _ _ (Mask.trans (by decide) hm) ?_
    | with_reducible refine State.leaveHoldover_keeps _ _ _ (Mask.trans (by decide) hm) ?_
    | with_reducible refine State.noteHoldover_keeps _ _ _ (Mask.trans (by decide) hm) ?_
    | with_reducible refine State.heathPulse_keeps _ _ _ _ (Mask.trans (by decide) hm) ?_
    | with_reducible refine State.leaderPulse_keeps _ _ _ _ _ (Mask.trans (by decide) hm) ?_
    | with_reducible refine State.plainPulse_keeps _ _ _ (Mask.trans (by decide) hm) ?_
    | with_reducible refine State.followerPulse_keeps _ _ _ _ (Mask.trans (by decide) hm) ?_
    | with_reducible refine State.setFlag_at .TIME_STATUS rfl (Mask.trans (by decide) hm) ?_
    | (simp only [Kept.made]; with_reducible refine Kept.set_sky (Mask.trans (by decide) hm) ?_)
    | split)

theorem State.tellMissing_keeps (m : Nat) (s0 : State) (s : State) (hm : 0x40044 &&& m = 0x40044)
    (hk : Kept m s0 s) : Kept m s0 (State.tellMissing s) := by
  unfold State.tellMissing
  try dsimp only
  repeat' (first
    | with_reducible assumption
    | with_reducible apply Kept.ite
    | with_reducible refine State.toFollowers_keeps _ _ _ _ (Mask.trans (by decide) hm) ?_
    | with_reducible refine State.tellTime_keeps _ _ _ _ (Mask.trans (by decide) hm) ?_
    | (simp only [Kept.made]; with_reducible refine Kept.set_sky (Mask.trans (by decide) hm) ?_)
    | split)

theorem State.pulseMissing_keeps (m : Nat) (s0 : State) (s : State) (hm : 0x4000000000000000000000000000000000000800401c6 &&& m = 0x4000000000000000000000000000000000000800401c6)
    (hk : Kept m s0 s) : Kept m s0 (State.pulseMissing s) := by
  unfold State.pulseMissing
  try dsimp only
  repeat' (first
    | with_reducible assumption
    | with_reducible apply Kept.ite
    | with_reducible refine State.advanceTo_keeps _ _ _ _ (Mask.trans (by decide) hm) ?_
    | with_reducible refine State.enterHoldover_keeps _ _ _ (Mask.trans (by decide) hm) ?_
    | with_reducible refine State.noteHoldover_keeps _ _ _ (Mask.trans (by decide) hm) ?_
    | with_reducible refine State.tellMissing_keeps _ _ _ (Mask.trans (by decide) hm) ?_
    | with_reducible refine State.setFlag_at .TIME_STATUS rfl (Mask.trans (by decide) hm) ?_
    | with_reducible refine State.incSat_at .TIME_STATUS rfl (Mask.trans (by decide) hm) ?_
    | (simp only [Kept.made]; with_reducible refine Kept.set_sky (Mask.trans (by decide) hm) ?_)
    | split)

theorem State.skylarkHoldover_keeps (m : Nat) (s0 : State) (s : State) (hm : 0x400000000000000000000000000000000000000000006 &&& m = 0x400000000000000000000000000000000000000000006)
    (hk : Kept m s0 s) : Kept m s0 (State.skylarkHoldover s) := by
  unfold State.skylarkHoldover
  try dsimp only
  repeat' (first
    | with_reducible assumption
    | with_reducible apply Kept.ite
    | with_reducible refine State.advanceTo_keeps _ _ _ _ (Mask.trans (by decide) hm) ?_
    | with_reducible refine State.enterHoldover_keeps _ _ _ (Mask.trans (by decide) hm) ?_)

theorem State.resyncWrite_keeps (m : Nat) (s0 : State) (s : State) (hm : 0x600000000000000000000000000000000000000000000 &&& m = 0x600000000000000000000000000000000000000000000)
    (hk : Kept m s0 s) : Kept m s0 (State.resyncWrite s) := by
  unfold State.resyncWrite
  try dsimp only
  repeat' (first
    | with_reducible assumption
    | with_reducible apply Kept.ite
    | with_reducible refine State.setFlag_at .TIME_CTRL rfl (Mask.trans (by decide) hm) ?_
    | with_reducible refine State.setFlag_at .TIME_STATUS rfl (Mask.trans (by decide) hm) ?_
    | split)

theorem State.resyncApply_keeps (m : Nat) (s0 : State) (s : State) (hm : 0x600000000000000000000000000000000000084041546 &&& m = 0x600000000000000000000000000000000000084041546)
    (hk : Kept m s0 s) : Kept m s0 (State.resyncApply s) := by
  unfold State.resyncApply
  try dsimp only
  repeat' (first
    | with_reducible assumption
    | with_reducible apply Kept.ite
    | with_reducible refine State.advanceTo_keeps _ _ _ _ (Mask.trans (by decide) hm) ?_
    | with_reducible refine State.toFollowers_keeps _ _ _ _ (Mask.trans (by decide) hm) ?_
    | with_reducible refine State.jump_keeps _ _ _ _ (Mask.trans (by decide) hm) ?_
    | with_reducible refine State.levelOff_keeps _ _ _ _ (Mask.trans (by decide) hm) ?_
    | with_reducible refine State.leaveHoldover_keeps _ _ _ (Mask.trans (by decide) hm) ?_
    | with_reducible refine State.setFlag_at .TIME_CTRL rfl (Mask.trans (by decide) hm) ?_
    | with_reducible refine State.setFlag_at .TIME_STATUS rfl (Mask.trans (by decide) hm) ?_
    | (simp only [Kept.made]; with_reducible refine Kept.set_sky (Mask.trans (by decide) hm) ?_)
    | split)

end Sys2Proof.Machine
end

