-- ==== Sys2Proof/Laws/KeepsHub.lean ====
section
/-! SUPPORT. What each operation of Machine/Hub.lean keeps: every place outside its mask, the register store's form, the resets' levels,
the outputs so far, time and the queue. -/

namespace Sys2Proof.Machine

theorem State.putSrc_at {m : Nat} {s0 s : State} {row : Nat → Nat} {i : Nat} {b : Bool} (p : Place)
    (hp : ∀ k, inPlace p (row k)) (hm : p.bit &&& m = p.bit) (hk : Kept m s0 s) : Kept m s0 (s.putSrc row i b) :=
  State.setReg_at p (hp _) hm hk

theorem State.putLines_keeps (m : Nat) (s0 : State) (s : State) (d : Nat) (int : Bool) (err : Bool) (pin : Bool) (hm : 0x800000000080000000 &&& m = 0x800000000080000000)
    (hk : Kept m s0 s) : Kept m s0 (State.putLines s d int err pin) := by
  unfold State.putLines
  try dsimp only
  repeat' (first
    | with_reducible assumption
    | with_reducible apply Kept.ite
    | with_reducible refine State.setFld_at .FH_PKG rfl (Mask.trans (by decide) hm) ?_
    | (simp only [Kept.made]; with_reducible refine Kept.set_hub (Mask.trans (by decide) hm) ?_)
    | split)

theorem State.noteLines_keeps (m : Nat) (s0 : State) (s : State) (hm : 0x800000000080040040 &&& m = 0x800000000080040040)
    (hk : Kept m s0 s) : Kept m s0 (State.noteLines s) := by
  unfold State.noteLines
  try dsimp only
  repeat' (first
    | with_reducible assumption
    | with_reducible apply Kept.ite
    | with_reducible refine State.putLines_keeps _ _ _ _ _ _ _ (Mask.trans (by decide) hm) ?_
    | with_reducible refine State.report_keeps _ _ _ _ (Mask.trans (by decide) hm) ?_
    | split)

theorem State.recordFirst_keeps (m : Nat) (s0 : State) (s : State) (i : Nat) (syn : Nat) (forced : Bool) (hm : 0x700000000080000000 &&& m = 0x700000000080000000)
    (hk : Kept m s0 s) : Kept m s0 (State.recordFirst s i syn forced) := by
  unfold State.recordFirst
  try dsimp only
  repeat' (first
    | with_reducible assumption
    | with_reducible apply Kept.ite
    | with_reducible refine State.incSat_at .FH_FIRST rfl (Mask.trans (by decide) hm) ?_
    | with_reducible refine State.setFlag_at .FH_FIRST rfl (Mask.trans (by decide) hm) ?_
    | with_reducible refine State.setFld_at .FH_FIRST rfl (Mask.trans (by decide) hm) ?_
    | with_reducible refine State.setReg64_at .FH_FIRST_T ⟨_, rfl⟩ ⟨1, rfl⟩ (Mask.trans (by decide) hm) ?_
    | with_reducible refine State.setReg64_at .FH_FIRST_SYN ⟨_, rfl⟩ ⟨1, rfl⟩ (Mask.trans (by decide) hm) ?_
    | (simp only [Kept.made]; with_reducible refine Kept.set_hub (Mask.trans (by decide) hm) ?_)
    | split)

theorem State.clearFirst_keeps (m : Nat) (s0 : State) (s : State) (hm : 0x100000000000000000 &&& m = 0x100000000000000000)
    (hk : Kept m s0 s) : Kept m s0 (State.clearFirst s) := by
  unfold State.clearFirst
  try dsimp only
  repeat' (first
    | with_reducible assumption
    | with_reducible refine State.setReg_at .FH_FIRST rfl (Mask.trans (by decide) hm) ?_)

theorem State.faultEvent_keeps (m : Nat) (s0 : State) (s : State) (die : Nat) (i : Nat) (syn : Nat) (flags : Nat) (react : Nat) (time : Nat) (hm : 0x22000000000300040 &&& m = 0x22000000000300040)
    (hk : Kept m s0 s) : Kept m s0 (State.faultEvent s die i syn flags react time) := by
  unfold State.faultEvent
  try dsimp only
  repeat' (first
    | with_reducible assumption
    | with_reducible refine State.newEvent_keeps _ _ _ _ _ _ _ (Mask.trans (by decide) hm) ?_)

theorem State.hubLatch_keeps (m : Nat) (s0 : State) (s : State) (i : Nat) (syn : Nat) (forced : Bool) (hm : 0x7f22000000080340040 &&& m = 0x7f22000000080340040)
    (hk : Kept m s0 s) : Kept m s0 (State.hubLatch s i syn forced).1 := by
  unfold State.hubLatch
  try dsimp only
  repeat' (first
    | with_reducible assumption
    | with_reducible apply Kept.ite
    | with_reducible refine State.recordFirst_keeps _ _ _ _ _ _ (Mask.trans (by decide) hm) ?_
    | with_reducible refine State.faultEvent_keeps _ _ _ _ _ _ _ _ _ (Mask.trans (by decide) hm) ?_
    | with_reducible refine State.report_keeps _ _ _ _ (Mask.trans (by decide) hm) ?_
    | with_reducible refine State.noteLines_keeps _ _ _ (Mask.trans (by decide) hm) ?_
    | with_reducible refine State.putSrc_at .FH_SEEN (fun k => ⟨k, rfl⟩) (Mask.trans (by decide) hm) ?_
    | with_reducible refine State.putSrc_at .FH_PEND (fun k => ⟨k, rfl⟩) (Mask.trans (by decide) hm) ?_
    | with_reducible refine State.putSrc_at .FH_LATCHED (fun k => ⟨k, rfl⟩) (Mask.trans (by decide) hm) ?_
    | split
    | dsimp only)

theorem State.clearSource_keeps (m : Nat) (s0 : State) (s : State) (i : Nat) (hm : 0x1000000000000000080 &&& m = 0x1000000000000000080)
    (hk : Kept m s0 s) : Kept m s0 (State.clearSource s i) := by
  unfold State.clearSource
  try dsimp only
  repeat' (first
    | with_reducible assumption
    | with_reducible apply Kept.ite
    | with_reducible refine State.putSrc_at .FH_PEND (fun k => ⟨k, rfl⟩) (Mask.trans (by decide) hm) ?_
    | with_reducible refine State.raise_keeps _ _ _ _ _ _ (Mask.trans (by decide) hm) ?_)

theorem State.clearSources_keeps (m : Nat) (s0 : State) (s : State) (is : List Nat) (hm : 0x18000000000800400c0 &&& m = 0x18000000000800400c0)
    (hk : Kept m s0 s) : Kept m s0 (State.clearSources s is) := by
  unfold State.clearSources
  try dsimp only
  repeat' (first
    | with_reducible assumption
    | with_reducible refine State.clearSource_keeps _ _ _ _ (Mask.trans (by decide) hm) ?_
    | with_reducible refine State.noteLines_keeps _ _ _ (Mask.trans (by decide) hm) ?_
    | with_reducible refine Kept.each ?_ (fun _ _ _ => ?_))

theorem State.faultClear_keeps (m : Nat) (s0 : State) (s : State) (flags : Nat) (source : Nat) (hm : 0x19000000000800400c0 &&& m = 0x19000000000800400c0)
    (hk : Kept m s0 s) : Kept m s0 (State.faultClear s flags source).1 := by
  unfold State.faultClear
  try dsimp only
  repeat' (first
    | with_reducible assumption
    | with_reducible apply Kept.ite
    | with_reducible refine State.clearSources_keeps _ _ _ _ (Mask.trans (by decide) hm) ?_
    | with_reducible refine State.clearFirst_keeps _ _ _ (Mask.trans (by decide) hm) ?_)

theorem State.dropStaged_keeps (m : Nat) (s0 : State) (s : State) (lost : Nat) (hm : 0x40001 &&& m = 0x40001)
    (hk : Kept m s0 s) : Kept m s0 (State.dropStaged s lost) := by
  unfold State.dropStaged
  try dsimp only
  repeat' (first
    | with_reducible assumption
    | with_reducible apply Kept.ite
    | with_reducible refine State.setStaged_keeps _ _ _ _ _ (Mask.trans (by decide) hm) ?_
    | with_reducible refine Kept.each ?_ (fun _ _ _ => ?_)
    | (simp only [Kept.made]; with_reducible refine Kept.set_hdg (Mask.trans (by decide) hm) ?_)
    | split)

theorem State.loseScopes_keeps (m : Nat) (s0 : State) (s : State) (lost : Nat) (hm : 0x1000000100000000003000000c400008000004000020845881 &&& m = 0x1000000100000000003000000c400008000004000020845881)
    (hk : Kept m s0 s) : Kept m s0 (State.loseScopes s lost) := by
  unfold State.loseScopes
  try dsimp only
  repeat' (first
    | with_reducible assumption
    | with_reducible apply Kept.ite
    | with_reducible refine State.abortAllInj_keeps _ _ _ _ (Mask.trans (by decide) hm) ?_
    | with_reducible refine State.enqueueReserved_keeps _ _ _ _ (Mask.trans (by decide) hm) ?_
    | with_reducible refine State.dropStaged_keeps _ _ _ _ (Mask.trans (by decide) hm) ?_
    | with_reducible refine State.noteReasons_keeps _ _ _ (Mask.trans (by decide) hm) ?_
    | with_reducible refine State.setFlag_at .FH_SRC ⟨_, rfl⟩ (Mask.trans (by decide) hm) ?_
    | with_reducible refine State.setFlag_at .SITE_CFG ⟨_, rfl⟩ (Mask.trans (by decide) hm) ?_
    | with_reducible refine State.setFld_at .HEATH_TRACE_MASK rfl (Mask.trans (by decide) hm) ?_
    | (simp only [Kept.made]; with_reducible refine Kept.set_drp (Mask.trans (by decide) hm) ?_)
    | (simp only [Kept.made]; with_reducible refine Kept.set_fw (Mask.trans (by decide) hm) ?_)
    | with_reducible refine Kept.each ?_ (fun _ _ _ => ?_)
    | split)

theorem State.takeAccess_keeps (m : Nat) (s0 : State) (s : State) (state : Nat) (scope : Nat) (method : Nat) (seconds : Nat) (hm : 0x1000000100000000003000000c400018000004000060845881 &&& m = 0x1000000100000000003000000c400018000004000060845881)
    (hk : Kept m s0 s) : Kept m s0 (State.takeAccess s state scope method seconds) := by
  unfold State.takeAccess
  try dsimp only
  repeat' (first
    | with_reducible assumption
    | with_reducible refine State.loseScopes_keeps _ _ _ _ (Mask.trans (by decide) hm) ?_
    | with_reducible refine State.setFld_at .ACC_STATE rfl (Mask.trans (by decide) hm) ?_
    | (simp only [Kept.made]; with_reducible refine Kept.set_acc (Mask.trans (by decide) hm) ?_))

theorem State.setAccess_keeps (m : Nat) (s0 : State) (s : State) (state : Nat) (scope : Nat) (method : Nat) (seconds : Nat) (hm : 0x1000000100000000003000000c4000180000040000608458c1 &&& m = 0x1000000100000000003000000c4000180000040000608458c1)
    (hk : Kept m s0 s) : Kept m s0 (State.setAccess s state scope method seconds) := by
  unfold State.setAccess
  try dsimp only
  repeat' (first
    | with_reducible assumption
    | with_reducible refine State.takeAccess_keeps _ _ _ _ _ _ _ (Mask.trans (by decide) hm) ?_
    | with_reducible refine State.toFollowers_keeps _ _ _ _ (Mask.trans (by decide) hm) ?_)

theorem State.relock_keeps (m : Nat) (s0 : State) (s : State) (hm : 0x1000000100000000003000000c4000180000040000608458c1 &&& m = 0x1000000100000000003000000c4000180000040000608458c1)
    (hk : Kept m s0 s) : Kept m s0 (State.relock s) := by
  unfold State.relock
  try dsimp only
  repeat' (first
    | with_reducible assumption
    | with_reducible apply Kept.ite
    | with_reducible refine State.setAccess_keeps _ _ _ _ _ _ _ (Mask.trans (by decide) hm) ?_)

end Sys2Proof.Machine
end

