-- ==== Sys2Proof/Laws/KeepsCommit.lean ====
section
/-! SUPPORT. What each operation of Machine/Commit.lean keeps: every place outside its mask, the register store's form, the resets' levels,
the outputs so far, time and the queue. -/

namespace Sys2Proof.Machine

theorem overRegs_keeps (m : Nat) (s0 : State) (vs : List (Nat × Nat)) (s : State) (hm : 0x40000000000000000000000000000000000000000000000000 &&& m = 0x40000000000000000000000000000000000000000000000000)
    (hk : Kept m s0 s) : Kept m s0 (overRegs vs s) := by
  unfold overRegs
  try dsimp only
  repeat' (first
    | with_reducible assumption
    | with_reducible refine State.setReg_at .anyReg trivial (Mask.trans (by decide) hm) ?_
    | with_reducible refine Kept.each ?_ (fun _ _ _ => ?_))

theorem State.shareBase_keeps (m : Nat) (s0 : State) (s : State) (act : CommitAct) (hm : 0x40000000000000000000000000000000000000000020000000 &&& m = 0x40000000000000000000000000000000000000000020000000)
    (hk : Kept m s0 s) : Kept m s0 (State.shareBase s act) := by
  unfold State.shareBase
  try dsimp only
  repeat' (first
    | with_reducible assumption
    | with_reducible apply Kept.ite
    | with_reducible refine overRegs_keeps _ _ _ _ (Mask.trans (by decide) hm) ?_
    | (simp only [Kept.made]; with_reducible refine Kept.set_fw (Mask.trans (by decide) hm) ?_)
    | split)

theorem State.applyTable_keeps (m : Nat) (s0 : State) (s : State) (old : State) (hm : 0x10000000000000000000800200 &&& m = 0x10000000000000000000800200)
    (hk : Kept m s0 s) : Kept m s0 (State.applyTable s old) := by
  unfold State.applyTable
  try dsimp only
  repeat' (first
    | with_reducible assumption
    | with_reducible apply Kept.ite
    | with_reducible refine State.restepStart_keeps _ _ _ _ (Mask.trans (by decide) hm) ?_
    | (simp only [Kept.made]; with_reducible refine Kept.set_lim (Mask.trans (by decide) hm) ?_)
    | split)

theorem State.applyWindows_keeps (m : Nat) (s0 : State) (s : State) (old : State) (hm : 0x80000000000000001000000 &&& m = 0x80000000000000001000000)
    (hk : Kept m s0 s) : Kept m s0 (State.applyWindows s old) := by
  unfold State.applyWindows
  try dsimp only
  repeat' (first
    | with_reducible assumption
    | with_reducible apply Kept.ite
    | with_reducible refine State.fillWindow_keeps _ _ _ _ (Mask.trans (by decide) hm) ?_
    | with_reducible refine State.dropWindow_keeps _ _ _ _ (Mask.trans (by decide) hm) ?_
    | with_reducible refine Kept.each ?_ (fun _ _ _ => ?_))

theorem State.keepModel_keeps (m : Nat) (s0 : State) (s : State) (old : State) (hm : 0x2000000 &&& m = 0x2000000)
    (hk : Kept m s0 s) : Kept m s0 (State.keepModel s old) := by
  unfold State.keepModel
  try dsimp only
  repeat' (first
    | with_reducible assumption
    | with_reducible apply Kept.ite
    | (simp only [Kept.made]; with_reducible refine Kept.set_est (Mask.trans (by decide) hm) ?_)
    | split)

theorem State.applyModel_keeps (m : Nat) (s0 : State) (s : State) (old : State) (hm : 0x1800800000000000000000000000002000000 &&& m = 0x1800800000000000000000000000002000000)
    (hk : Kept m s0 s) : Kept m s0 (State.applyModel s old) := by
  unfold State.applyModel
  try dsimp only
  repeat' (first
    | with_reducible assumption
    | with_reducible apply Kept.ite
    | with_reducible refine State.keepModel_keeps _ _ _ _ (Mask.trans (by decide) hm) ?_
    | with_reducible refine State.resetGain_keeps _ _ _ _ (Mask.trans (by decide) hm) ?_
    | with_reducible refine State.noteModel_keeps _ _ _ (Mask.trans (by decide) hm) ?_
    | (simp only [Kept.made]; with_reducible refine Kept.set_est (Mask.trans (by decide) hm) ?_)
    | with_reducible refine Kept.each ?_ (fun _ _ _ => ?_)
    | split)

theorem State.applyInj_keeps (m : Nat) (s0 : State) (s : State) (old : State) (hm : 0x1000000000030000000000000000000000000015081 &&& m = 0x1000000000030000000000000000000000000015081)
    (hk : Kept m s0 s) : Kept m s0 (State.applyInj s old) := by
  unfold State.applyInj
  try dsimp only
  repeat' (first
    | with_reducible assumption
    | with_reducible apply Kept.ite
    | with_reducible refine State.abortInj_keeps _ _ _ _ _ (Mask.trans (by decide) hm) ?_
    | with_reducible refine State.startInj_keeps _ _ _ _ (Mask.trans (by decide) hm) ?_
    | with_reducible refine Kept.each ?_ (fun _ _ _ => ?_)
    | split)

theorem State.applyTrims_keeps (m : Nat) (s0 : State) (s : State) (old : State) (hm : 0x200 &&& m = 0x200)
    (hk : Kept m s0 s) : Kept m s0 (State.applyTrims s old) := by
  unfold State.applyTrims
  try dsimp only
  repeat' (first
    | with_reducible assumption
    | with_reducible apply Kept.ite
    | with_reducible refine State.loadTrim_keeps _ _ _ _ _ (Mask.trans (by decide) hm) ?_
    | with_reducible refine State.startCal_keeps _ _ _ _ (Mask.trans (by decide) hm) ?_
    | with_reducible refine Kept.each ?_ (fun _ _ _ => ?_)
    | split)

theorem State.applyFab_keeps (m : Nat) (s0 : State) (s : State) (old : State) (fab : List FabAct) (hm : 0x4c00000000000000000c4000000000000000108c0040 &&& m = 0x4c00000000000000000c4000000000000000108c0040)
    (hk : Kept m s0 s) : Kept m s0 (State.applyFab s old fab) := by
  unfold State.applyFab
  try dsimp only
  repeat' (first
    | with_reducible assumption
    | with_reducible apply Kept.ite
    | with_reducible refine State.enterPeer_keeps _ _ _ _ _ _ _ (Mask.trans (by decide) hm) ?_
    | with_reducible refine State.clearWord_keeps _ _ _ _ (Mask.trans (by decide) hm) ?_
    | with_reducible refine State.sendHellos_keeps _ _ _ (Mask.trans (by decide) hm) ?_
    | with_reducible refine State.repace_keeps _ _ _ (Mask.trans (by decide) hm) ?_
    | with_reducible refine State.noteRate_keeps _ _ _ (Mask.trans (by decide) hm) ?_
    | (simp only [Kept.made]; with_reducible refine Kept.set_fab (Mask.trans (by decide) hm) ?_)
    | with_reducible refine Kept.each ?_ (fun _ _ _ => ?_)
    | with_reducible refine Kept.fold ?_ (fun _ _ _ => ?_)
    | split)

theorem State.applyWords_keeps (m : Nat) (s0 : State) (s : State) (vs : SMap Nat) (hm : 0xc400000000000000010880000 &&& m = 0xc400000000000000010880000)
    (hk : Kept m s0 s) : Kept m s0 (State.applyWords s vs) := by
  unfold State.applyWords
  try dsimp only
  repeat' (first
    | with_reducible assumption
    | with_reducible apply Kept.ite
    | with_reducible refine State.clearWord_keeps _ _ _ _ (Mask.trans (by decide) hm) ?_
    | with_reducible refine State.setWord_keeps _ _ _ _ _ (Mask.trans (by decide) hm) ?_
    | with_reducible refine State.repace_keeps _ _ _ (Mask.trans (by decide) hm) ?_
    | (simp only [Kept.made]; with_reducible refine Kept.set_rate (Mask.trans (by decide) hm) ?_)
    | with_reducible refine Kept.each ?_ (fun _ _ _ => ?_)
    | split)

theorem State.applyEffects_keeps (m : Nat) (s0 : State) (s : State) (old : State) (hm : 0x100000180083000009c681000000000000007815a81 &&& m = 0x100000180083000009c681000000000000007815a81)
    (hk : Kept m s0 s) : Kept m s0 (State.applyEffects s old) := by
  unfold State.applyEffects
  try dsimp only
  repeat' (first
    | with_reducible assumption
    | with_reducible apply Kept.ite
    | with_reducible refine State.applyTable_keeps _ _ _ _ (Mask.trans (by decide) hm) ?_
    | with_reducible refine State.applyWindows_keeps _ _ _ _ (Mask.trans (by decide) hm) ?_
    | with_reducible refine State.applyModel_keeps _ _ _ _ (Mask.trans (by decide) hm) ?_
    | with_reducible refine State.applyTrims_keeps _ _ _ _ (Mask.trans (by decide) hm) ?_
    | with_reducible refine State.applyInj_keeps _ _ _ _ (Mask.trans (by decide) hm) ?_
    | with_reducible refine State.showCaps_keeps _ _ _ (Mask.trans (by decide) hm) ?_
    | with_reducible refine State.operandChange_keeps _ _ _ (Mask.trans (by decide) hm) ?_
    | (simp only [Kept.made]; with_reducible refine Kept.set_drp (Mask.trans (by decide) hm) ?_)
    | (simp only [Kept.made]; with_reducible refine Kept.set_thm (Mask.trans (by decide) hm) ?_)
    | (simp only [Kept.made]; with_reducible (apply Kept.of <;> first | rfl | exact .inr (Mask.trans (by decide) hm) | exact .inl rfl | skip))
    | split)

theorem State.applyAct_keeps (m : Nat) (s0 : State) (s : State) (id : Nat) (kind : Nat) (at_ : Nat) (act : CommitAct) (hm : 0x4000000f0003f800000000039c6000000000000001308c1640 &&& m = 0x4000000f0003f800000000039c6000000000000001308c1640)
    (hk : Kept m s0 s) : Kept m s0 (State.applyAct s id kind at_ act) := by
  unfold State.applyAct
  try dsimp only
  repeat' (first
    | with_reducible assumption
    | with_reducible apply Kept.ite
    | with_reducible refine State.snapFreeze_keeps _ _ _ _ _ _ (Mask.trans (by decide) hm) ?_
    | with_reducible refine State.createResv_keeps _ _ _ _ (Mask.trans (by decide) hm) ?_
    | with_reducible refine State.operandChange_keeps _ _ _ (Mask.trans (by decide) hm) ?_
    | with_reducible refine State.noteRate_keeps _ _ _ (Mask.trans (by decide) hm) ?_
    | with_reducible refine State.applyRelease_keeps _ _ _ _ (Mask.trans (by decide) hm) ?_
    | (simp only [Kept.made]; with_reducible refine Kept.set_obs (Mask.trans (by decide) hm) ?_)
    | (simp only [Kept.made]; with_reducible refine Kept.set_arb (Mask.trans (by decide) hm) ?_)
    | (simp only [Kept.made]; with_reducible refine Kept.set_fw (Mask.trans (by decide) hm) ?_)
    | with_reducible refine Kept.fold ?_ (fun _ _ _ => ?_)
    | simp only [id_eq]
    | split)

theorem State.settleStaged_keeps (m : Nat) (s0 : State) (s : State) (hm : 0x1 &&& m = 0x1)
    (hk : Kept m s0 s) : Kept m s0 (State.settleStaged s) := by
  unfold State.settleStaged
  try dsimp only
  repeat' (first
    | with_reducible assumption
    | (simp only [Kept.made]; with_reducible refine Kept.set_staged (Mask.trans (by decide) hm) ?_))

theorem State.settleDies_keeps (m : Nat) (s0 : State) (s : State) (hm : 0x40000 &&& m = 0x40000)
    (hk : Kept m s0 s) : Kept m s0 (State.settleDies s) := by
  unfold State.settleDies
  try dsimp only
  repeat' (first
    | with_reducible assumption
    | with_reducible apply Kept.ite
    | (simp only [Kept.made]; with_reducible refine Kept.set_hdg (Mask.trans (by decide) hm) ?_)
    | with_reducible refine Kept.fold ?_ (fun _ _ _ => ?_)
    | split)

theorem State.applySet_keeps (m : Nat) (s0 : State) (s : State) (p : Prepared) (hm : 0xc1c1004f0003f980083004039c6810000000000821b78fdfc1 &&& m = 0xc1c1004f0003f980083004039c6810000000000821b78fdfc1)
    (hk : Kept m s0 s) : Kept m s0 (State.applySet s p) := by
  unfold State.applySet
  try dsimp only
  repeat' (first
    | with_reducible assumption
    | with_reducible apply Kept.ite
    | with_reducible refine State.settleStaged_keeps _ _ _ (Mask.trans (by decide) hm) ?_
    | with_reducible refine State.applyEffects_keeps _ _ _ _ (Mask.trans (by decide) hm) ?_
    | with_reducible refine State.applyFab_keeps _ _ _ _ _ (Mask.trans (by decide) hm) ?_
    | with_reducible refine State.applyWords_keeps _ _ _ _ (Mask.trans (by decide) hm) ?_
    | with_reducible refine State.applyAct_keeps _ _ _ _ _ _ _ (Mask.trans (by decide) hm) ?_
    | with_reducible refine State.tryStepSix_keeps _ _ _ (Mask.trans (by decide) hm) ?_
    | with_reducible refine State.incSat_at .HDG_COMMIT_CNT rfl (Mask.trans (by decide) hm) ?_
    | (simp only [Kept.made]; with_reducible refine Kept.set_hdg (Mask.trans (by decide) hm) ?_)
    | (simp only [Kept.made]; with_reducible refine Kept.set_ps (Mask.trans (by decide) hm) (by rfl) (by rfl) ?_)
    | simp only [id_eq]
    | with_reducible refine overRegs_keeps _ _ _ _ (Mask.trans (by decide) hm) ?_
    | split)

theorem State.queueCatchUps_keeps (m : Nat) (s0 : State) (s : State) (hm : 0x40000 &&& m = 0x40000)
    (hk : Kept m s0 s) : Kept m s0 (State.queueCatchUps s) := by
  unfold State.queueCatchUps
  try dsimp only
  repeat' (first
    | with_reducible assumption
    | with_reducible apply Kept.ite
    | with_reducible refine State.enqueue_keeps _ _ _ _ (Mask.trans (by decide) hm) ?_
    | with_reducible refine Kept.each ?_ (fun _ _ _ => ?_))

theorem State.showCommit_keeps (m : Nat) (s0 : State) (s : State) (id : Nat) (result : Nat) (kind : Nat) (bad : Nat) (hm : 0x4000000000000000000000000000000000000000000000 &&& m = 0x4000000000000000000000000000000000000000000000)
    (hk : Kept m s0 s) : Kept m s0 (State.showCommit s id result kind bad) := by
  unfold State.showCommit
  try dsimp only
  repeat' (first
    | with_reducible assumption
    | with_reducible refine State.setFld_at .HDG_COMMIT_ID rfl (Mask.trans (by decide) hm) ?_)

theorem State.answerCommit_keeps (m : Nat) (s0 : State) (s : State) (c : Commit) (status : Nat) (hm : 0x1a000000000700040 &&& m = 0x1a000000000700040)
    (hk : Kept m s0 s) : Kept m s0 (State.answerCommit s c status) := by
  unfold State.answerCommit
  try dsimp only
  repeat' (first
    | with_reducible assumption
    | with_reducible apply Kept.ite
    | with_reducible refine State.emit_keeps _ _ _ _ (Mask.trans (by decide) hm) ?_
    | with_reducible refine State.finish_keeps _ _ _ _ _ _ _ _ (Mask.trans (by decide) hm) ?_
    | split)

theorem State.endCommit_keeps (m : Nat) (s0 : State) (s : State) (hm : 0xc0000 &&& m = 0xc0000)
    (hk : Kept m s0 s) : Kept m s0 (State.endCommit s) := by
  unfold State.endCommit
  try dsimp only
  repeat' (first
    | with_reducible assumption
    | with_reducible apply Kept.ite
    | with_reducible refine State.queueOwed_keeps _ _ _ (Mask.trans (by decide) hm) ?_
    | with_reducible refine State.queueReleases_keeps _ _ _ (Mask.trans (by decide) hm) ?_
    | with_reducible refine State.queueCatchUps_keeps _ _ _ (Mask.trans (by decide) hm) ?_
    | (simp only [Kept.made]; with_reducible refine Kept.set_hdg (Mask.trans (by decide) hm) ?_)
    | split)

theorem State.dropCatch_keeps (m : Nat) (s0 : State) (s : State) (d : Nat) (hm : 0x40000 &&& m = 0x40000)
    (hk : Kept m s0 s) : Kept m s0 (State.dropCatch s d) := by
  unfold State.dropCatch
  try dsimp only
  repeat' (first
    | with_reducible assumption
    | (simp only [Kept.made]; with_reducible refine Kept.set_hdg (Mask.trans (by decide) hm) ?_))

theorem State.abortCommit_keeps (m : Nat) (s0 : State) (s : State) (status : Nat) (hm : 0x1400400000000000000000000000001a0000000007c0041 &&& m = 0x1400400000000000000000000000001a0000000007c0041)
    (hk : Kept m s0 s) : Kept m s0 (State.abortCommit s status) := by
  unfold State.abortCommit
  try dsimp only
  repeat' (first
    | with_reducible assumption
    | with_reducible apply Kept.ite
    | with_reducible refine State.send_keeps _ _ _ _ _ _ (Mask.trans (by decide) hm) ?_
    | with_reducible refine State.settleStaged_keeps _ _ _ (Mask.trans (by decide) hm) ?_
    | with_reducible refine State.settleDies_keeps _ _ _ (Mask.trans (by decide) hm) ?_
    | with_reducible refine State.showCommit_keeps _ _ _ _ _ _ _ (Mask.trans (by decide) hm) ?_
    | with_reducible refine State.freeBuf_keeps _ _ _ _ (Mask.trans (by decide) hm) ?_
    | with_reducible refine State.dropCatch_keeps _ _ _ _ (Mask.trans (by decide) hm) ?_
    | with_reducible refine State.enqueueReserved_keeps _ _ _ _ (Mask.trans (by decide) hm) ?_
    | with_reducible refine State.answerCommit_keeps _ _ _ _ _ (Mask.trans (by decide) hm) ?_
    | with_reducible refine State.endCommit_keeps _ _ _ (Mask.trans (by decide) hm) ?_
    | with_reducible refine State.incSat_at .HDG_COMMIT_CNT rfl (Mask.trans (by decide) hm) ?_
    | with_reducible refine State.incSat_at .FAB_REL_STATUS rfl (Mask.trans (by decide) hm) ?_
    | with_reducible refine State.setFld_at .FAB_REL_STATUS rfl (Mask.trans (by decide) hm) ?_
    | (simp only [Kept.made]; with_reducible refine Kept.set_hdg (Mask.trans (by decide) hm) ?_)
    | with_reducible refine Kept.each ?_ (fun _ _ _ => ?_)
    | simp only [id_eq]
    | split)

theorem State.decideCommit_keeps (m : Nat) (s0 : State) (s : State) (hm : 0x1c00400000000000000000000000001a0000000007c0041 &&& m = 0x1c00400000000000000000000000001a0000000007c0041)
    (hk : Kept m s0 s) : Kept m s0 (State.decideCommit s) := by
  unfold State.decideCommit
  try dsimp only
  repeat' (first
    | with_reducible assumption
    | with_reducible apply Kept.ite
    | with_reducible refine State.abortCommit_keeps _ _ _ _ (Mask.trans (by decide) hm) ?_
    | with_reducible refine State.send_keeps _ _ _ _ _ _ (Mask.trans (by decide) hm) ?_
    | with_reducible refine State.setReg64_at .HDG_COMMIT_T ⟨_, rfl⟩ ⟨1, rfl⟩ (Mask.trans (by decide) hm) ?_
    | (simp only [Kept.made]; with_reducible refine Kept.set_hdg (Mask.trans (by decide) hm) ?_)
    | with_reducible refine Kept.each ?_ (fun _ _ _ => ?_)
    | simp only [id_eq]
    | split)

theorem State.runCommit_keeps (m : Nat) (s0 : State) (s : State) (c0 : Commit) (hm : 0x3c10400000001000802084200400001a0000000007c0041 &&& m = 0x3c10400000001000802084200400001a0000000007c0041)
    (hk : Kept m s0 s) : Kept m s0 (State.runCommit s c0) := by
  unfold State.runCommit
  try dsimp only
  repeat' (first
    | with_reducible assumption
    | with_reducible refine State.noteChecks_keeps _ _ _ _ (Mask.trans (by decide) hm) ?_
    | with_reducible refine State.showCommit_keeps _ _ _ _ _ _ _ (Mask.trans (by decide) hm) ?_
    | with_reducible refine State.send_keeps _ _ _ _ _ _ (Mask.trans (by decide) hm) ?_
    | with_reducible refine State.decideCommit_keeps _ _ _ (Mask.trans (by decide) hm) ?_
    | with_reducible refine Kept.each ?_ (fun _ _ _ => ?_)
    | (simp only [Kept.made]; with_reducible refine Kept.set_hdg (Mask.trans (by decide) hm) ?_))

theorem State.commitStart_keeps (m : Nat) (s0 : State) (s : State) (hm : 0x3c10c00000001000802084e40400001a000000010fc0041 &&& m = 0x3c10c00000001000802084e40400001a000000010fc0041)
    (hk : Kept m s0 s) : Kept m s0 (State.commitStart s) := by
  unfold State.commitStart
  try dsimp only
  repeat' (first
    | with_reducible assumption
    | with_reducible apply Kept.ite
    | with_reducible refine State.showCommit_keeps _ _ _ _ _ _ _ (Mask.trans (by decide) hm) ?_
    | with_reducible refine State.answerCommit_keeps _ _ _ _ _ (Mask.trans (by decide) hm) ?_
    | with_reducible refine State.endCommit_keeps _ _ _ (Mask.trans (by decide) hm) ?_
    | with_reducible refine State.runCommit_keeps _ _ _ _ (Mask.trans (by decide) hm) ?_
    | with_reducible refine State.applyRelease_keeps _ _ _ _ (Mask.trans (by decide) hm) ?_
    | (simp only [Kept.made]; with_reducible refine Kept.set_hdg (Mask.trans (by decide) hm) ?_)
    | simp only [id_eq]
    | split)

theorem State.noteApplied_keeps (m : Nat) (s0 : State) (s : State) (c : Commit) (hm : 0x40000 &&& m = 0x40000)
    (hk : Kept m s0 s) : Kept m s0 (State.noteApplied s c) := by
  unfold State.noteApplied
  try dsimp only
  repeat' (first
    | with_reducible assumption
    | (simp only [Kept.made]; with_reducible refine Kept.set_hdg (Mask.trans (by decide) hm) ?_))

theorem State.commitApply_keeps (m : Nat) (s0 : State) (s : State) (hm : 0xc1c1404f0003f980083004039c68100001a0000821b7ffdfc7 &&& m = 0xc1c1404f0003f980083004039c68100001a0000821b7ffdfc7)
    (hk : Kept m s0 s) : Kept m s0 (State.commitApply s) := by
  unfold State.commitApply
  try dsimp only
  repeat' (first
    | with_reducible assumption
    | with_reducible apply Kept.ite
    | with_reducible refine State.advanceSky_keeps _ _ _ _ (Mask.trans (by decide) hm) ?_
    | with_reducible refine State.noteApplied_keeps _ _ _ _ (Mask.trans (by decide) hm) ?_
    | with_reducible refine State.applySet_keeps _ _ _ _ (Mask.trans (by decide) hm) ?_
    | with_reducible refine State.showCommit_keeps _ _ _ _ _ _ _ (Mask.trans (by decide) hm) ?_
    | with_reducible refine State.dropCatch_keeps _ _ _ _ (Mask.trans (by decide) hm) ?_
    | with_reducible refine State.answerCommit_keeps _ _ _ _ _ (Mask.trans (by decide) hm) ?_
    | with_reducible refine State.endCommit_keeps _ _ _ (Mask.trans (by decide) hm) ?_
    | (simp only [Kept.made]; with_reducible refine Kept.set_hdg (Mask.trans (by decide) hm) ?_)
    | (simp only [Kept.made]; with_reducible refine Kept.set_obs (Mask.trans (by decide) hm) ?_)
    | simp only [id_eq]
    | split)

theorem State.stageAt_keeps (m : Nat) (s0 : State) (s : State) (d : Nat) (off : Nat) (v : Nat) (hm : 0x40001 &&& m = 0x40001)
    (hk : Kept m s0 s) : Kept m s0 (State.stageAt s d off v) := by
  unfold State.stageAt
  try dsimp only
  repeat' (first
    | with_reducible assumption
    | with_reducible apply Kept.ite
    | with_reducible refine State.setStaged_keeps _ _ _ _ _ (Mask.trans (by decide) hm) ?_
    | (simp only [Kept.made]; with_reducible refine Kept.set_hdg (Mask.trans (by decide) hm) ?_)
    | split)

theorem State.commitFor_keeps (m : Nat) (s0 : State) (s : State) (m' : Nat) (a : Active) (act : CommitAct) (stage : State → State) (hm : 0x1a000000000740040 &&& m = 0x1a000000000740040)
    (hk : Kept m s0 s) (hstage : ∀ u, Kept m s0 u → Kept m s0 (stage u)) : Kept m s0 (State.commitFor s m' a act stage) := by
  unfold State.commitFor
  try dsimp only
  repeat' (first
    | with_reducible assumption
    | with_reducible apply Kept.ite
    | with_reducible refine State.done_keeps _ _ _ _ _ _ (Mask.trans (by decide) hm) ?_
    | with_reducible refine State.waits_keeps _ _ _ _ _ (Mask.trans (by decide) hm) ?_
    | with_reducible refine State.enqueue_keeps _ _ _ _ (Mask.trans (by decide) hm) ?_
    | with_reducible apply hstage)

theorem State.injectCommit_keeps (m : Nat) (s0 : State) (s : State) (m' : Nat) (a : Active) (hm : 0x1a000000000740041 &&& m = 0x1a000000000740041)
    (hk : Kept m s0 s) : Kept m s0 (State.injectCommit s m' a) := by
  unfold State.injectCommit
  try dsimp only
  repeat' (first
    | with_reducible assumption
    | with_reducible apply Kept.ite
    | with_reducible refine State.commitFor_keeps _ _ _ _ _ _ _ (Mask.trans (by decide) hm) ?_ (fun _ _ => ?_)
    | with_reducible refine State.stageAt_keeps _ _ _ _ _ _ (Mask.trans (by decide) hm) ?_
    | split)

theorem State.fwdEnd_keeps (m : Nat) (s0 : State) (s : State) (tag : Nat) (status : Nat) (result : List Nat) (hm : 0x1a000000000740041 &&& m = 0x1a000000000740041)
    (hk : Kept m s0 s) : Kept m s0 (State.fwdEnd s tag status result) := by
  unfold State.fwdEnd
  try dsimp only
  repeat' (first
    | with_reducible assumption
    | with_reducible apply Kept.ite
    | with_reducible refine State.injectCommit_keeps _ _ _ _ _ (Mask.trans (by decide) hm) ?_
    | with_reducible refine State.finish_keeps _ _ _ _ _ _ _ _ (Mask.trans (by decide) hm) ?_
    | with_reducible refine State.setCmd_keeps _ _ _ _ _ (Mask.trans (by decide) hm) ?_
    | (simp only [Kept.made]; with_reducible refine Kept.set_hdg (Mask.trans (by decide) hm) ?_)
    | split)

theorem State.failForwarded_keeps (m : Nat) (s0 : State) (s : State) (d : Nat) (hm : 0x1a000000000740041 &&& m = 0x1a000000000740041)
    (hk : Kept m s0 s) : Kept m s0 (State.failForwarded s d) := by
  unfold State.failForwarded
  try dsimp only
  repeat' (first
    | with_reducible assumption
    | with_reducible refine State.fwdEnd_keeps _ _ _ _ _ _ (Mask.trans (by decide) hm) ?_
    | with_reducible refine Kept.each ?_ (fun _ _ _ => ?_))

theorem State.commitLoses_keeps (m : Nat) (s0 : State) (s : State) (d : Nat) (owed : Bool) (hm : 0x1400400000000000000000000000001a0000000007c0041 &&& m = 0x1400400000000000000000000000001a0000000007c0041)
    (hk : Kept m s0 s) : Kept m s0 (State.commitLoses s d owed) := by
  unfold State.commitLoses
  try dsimp only
  repeat' (first
    | with_reducible assumption
    | with_reducible apply Kept.ite
    | with_reducible refine State.abortCommit_keeps _ _ _ _ (Mask.trans (by decide) hm) ?_
    | (simp only [Kept.made]; with_reducible refine Kept.set_hdg (Mask.trans (by decide) hm) ?_)
    | split)

theorem State.markLost_keeps (m : Nat) (s0 : State) (s : State) (d : Nat) (hm : 0x81c1600d20000404680004001000010003a8002820a7fedfcd &&& m = 0x81c1600d20000404680004001000010003a8002820a7fedfcd)
    (hk : Kept m s0 s) : Kept m s0 (State.markLost s d) := by
  unfold State.markLost
  try dsimp only
  repeat' (first
    | with_reducible assumption
    | with_reducible apply Kept.ite
    | with_reducible refine State.raise_keeps _ _ _ _ _ _ (Mask.trans (by decide) hm) ?_
    | with_reducible refine State.setLink_keeps _ _ _ _ _ (Mask.trans (by decide) hm) ?_
    | with_reducible refine State.dropCatch_keeps _ _ _ _ (Mask.trans (by decide) hm) ?_
    | with_reducible refine State.failForwarded_keeps _ _ _ _ (Mask.trans (by decide) hm) ?_
    | with_reducible refine State.commitLoses_keeps _ _ _ _ _ (Mask.trans (by decide) hm) ?_
    | with_reducible refine State.enqueueReserved_keeps _ _ _ _ (Mask.trans (by decide) hm) ?_
    | with_reducible refine State.newEvent_keeps _ _ _ _ _ _ _ (Mask.trans (by decide) hm) ?_
    | with_reducible refine State.pldmEvent_keeps _ _ _ _ _ _ (Mask.trans (by decide) hm) ?_
    | with_reducible refine State.reachReady_keeps _ _ _ (Mask.trans (by decide) hm) ?_
    | with_reducible refine State.originateAll_keeps _ _ _ (Mask.trans (by decide) hm) ?_
    | with_reducible refine State.setFld_at .HDG_DIE_STATE rfl (Mask.trans (by decide) hm) ?_
    | (simp only [Kept.made]; with_reducible refine Kept.set_thm (Mask.trans (by decide) hm) ?_)
    | split)

theorem State.catchUpFails_keeps (m : Nat) (s0 : State) (s : State) (hm : 0x2000020000 &&& m = 0x2000020000)
    (hk : Kept m s0 s) : Kept m s0 (State.catchUpFails s) := by
  unfold State.catchUpFails
  try dsimp only
  repeat' (first
    | with_reducible assumption
    | with_reducible apply Kept.ite
    | with_reducible refine State.psRefuse_keeps _ _ _ (Mask.trans (by decide) hm) ?_
    | with_reducible refine State.stopClocks_keeps _ _ _ (Mask.trans (by decide) hm) ?_
    | (simp only [Kept.made]; with_reducible refine Kept.set_ps (Mask.trans (by decide) hm) (by rfl) (by rfl) ?_)
    | split)

theorem State.autonomous_keeps (m : Nat) (s0 : State) (s : State) (hm : 0x91c0100100000000003004001c4000180000040820e286dfc1 &&& m = 0x91c0100100000000003004001c4000180000040820e286dfc1)
    (hk : Kept m s0 s) : Kept m s0 (State.autonomous s) := by
  unfold State.autonomous
  try dsimp only
  repeat' (first
    | with_reducible assumption
    | with_reducible apply Kept.ite
    | with_reducible refine State.takeAccess_keeps _ _ _ _ _ _ _ (Mask.trans (by decide) hm) ?_
    | with_reducible refine State.levelOn_keeps _ _ _ _ _ (Mask.trans (by decide) hm) ?_
    | with_reducible refine State.catchUpFails_keeps _ _ _ (Mask.trans (by decide) hm) ?_
    | with_reducible refine State.noteReasons_keeps _ _ _ (Mask.trans (by decide) hm) ?_
    | with_reducible refine State.stopWith_keeps _ _ _ _ (Mask.trans (by decide) hm) ?_
    | with_reducible refine State.setFlag_at .HDG_STATUS rfl (Mask.trans (by decide) hm) ?_
    | (simp only [Kept.made]; with_reducible refine Kept.set_hdg (Mask.trans (by decide) hm) ?_)
    | split)

theorem State.linkFails_keeps (m : Nat) (s0 : State) (s : State) (d : Nat) (hm : 0x91c9700d20000404683004001c40011803a8042820e7fedfcd &&& m = 0x91c9700d20000404683004001c40011803a8042820e7fedfcd)
    (hk : Kept m s0 s) : Kept m s0 (State.linkFails s d) := by
  unfold State.linkFails
  try dsimp only
  repeat' (first
    | with_reducible assumption
    | with_reducible apply Kept.ite
    | with_reducible refine State.raise_keeps _ _ _ _ _ _ (Mask.trans (by decide) hm) ?_
    | with_reducible refine State.markLost_keeps _ _ _ _ (Mask.trans (by decide) hm) ?_
    | with_reducible refine State.setLink_keeps _ _ _ _ _ (Mask.trans (by decide) hm) ?_
    | with_reducible refine State.autonomous_keeps _ _ _ (Mask.trans (by decide) hm) ?_
    | with_reducible refine State.incSat_at .HDG_LINK ⟨_, rfl⟩ (Mask.trans (by decide) hm) ?_)

theorem State.prepareAnswer_keeps (m : Nat) (s0 : State) (s : State) (d : Nat) (id : Nat) (nack : Bool) (regions : Nat) (hm : 0x1c00400000000000000000000000001a0000000007c0041 &&& m = 0x1c00400000000000000000000000001a0000000007c0041)
    (hk : Kept m s0 s) : Kept m s0 (State.prepareAnswer s d id nack regions) := by
  unfold State.prepareAnswer
  try dsimp only
  repeat' (first
    | with_reducible assumption
    | with_reducible apply Kept.ite
    | with_reducible refine State.decideCommit_keeps _ _ _ (Mask.trans (by decide) hm) ?_
    | (simp only [Kept.made]; with_reducible refine Kept.set_hdg (Mask.trans (by decide) hm) ?_)
    | split)

theorem State.prepareTimeout_keeps (m : Nat) (s0 : State) (s : State) (hm : 0x81c1600d20000404680004001000010003a8002820a7fedfcf &&& m = 0x81c1600d20000404680004001000010003a8002820a7fedfcf)
    (hk : Kept m s0 s) : Kept m s0 (State.prepareTimeout s) := by
  unfold State.prepareTimeout
  try dsimp only
  repeat' (first
    | with_reducible assumption
    | with_reducible apply Kept.ite
    | with_reducible refine State.advanceTo_keeps _ _ _ _ (Mask.trans (by decide) hm) ?_
    | with_reducible refine State.abortCommit_keeps _ _ _ _ (Mask.trans (by decide) hm) ?_
    | with_reducible refine State.markLost_keeps _ _ _ _ (Mask.trans (by decide) hm) ?_
    | (simp only [Kept.made]; with_reducible refine Kept.set_hdg (Mask.trans (by decide) hm) ?_)
    | split)

theorem State.catchNack_keeps (m : Nat) (s0 : State) (s : State) (d : Nat) (nack : Bool) (hm : 0x81c1600d20000404680004001000010003a8002820a7fedfcd &&& m = 0x81c1600d20000404680004001000010003a8002820a7fedfcd)
    (hk : Kept m s0 s) : Kept m s0 (State.catchNack s d nack) := by
  unfold State.catchNack
  try dsimp only
  repeat' (first
    | with_reducible assumption
    | with_reducible apply Kept.ite
    | with_reducible refine State.markLost_keeps _ _ _ _ (Mask.trans (by decide) hm) ?_
    | split)

theorem State.commitOrphan_keeps (m : Nat) (s0 : State) (s : State) (hm : 0x10000000000000000000000000000000000000000040087 &&& m = 0x10000000000000000000000000000000000000000040087)
    (hk : Kept m s0 s) : Kept m s0 (State.commitOrphan s) := by
  unfold State.commitOrphan
  try dsimp only
  repeat' (first
    | with_reducible assumption
    | with_reducible apply Kept.ite
    | with_reducible refine State.advanceTo_keeps _ _ _ _ (Mask.trans (by decide) hm) ?_
    | with_reducible refine State.settleStaged_keeps _ _ _ (Mask.trans (by decide) hm) ?_
    | with_reducible refine State.raise_keeps _ _ _ _ _ _ (Mask.trans (by decide) hm) ?_
    | with_reducible refine State.incSat_at .HDG_COMMIT_CNT rfl (Mask.trans (by decide) hm) ?_
    | (simp only [Kept.made]; with_reducible refine Kept.set_hdg (Mask.trans (by decide) hm) ?_)
    | simp only [id_eq]
    | split)

theorem State.catchUpTimeout_keeps (m : Nat) (s0 : State) (s : State) (d : Nat) (hm : 0x91c1700d20000404683004001c40011803a8042820e7fedfcf &&& m = 0x91c1700d20000404683004001c40011803a8042820e7fedfcf)
    (hk : Kept m s0 s) : Kept m s0 (State.catchUpTimeout s d) := by
  unfold State.catchUpTimeout
  try dsimp only
  repeat' (first
    | with_reducible assumption
    | with_reducible apply Kept.ite
    | with_reducible refine State.advanceTo_keeps _ _ _ _ (Mask.trans (by decide) hm) ?_
    | with_reducible refine State.markLost_keeps _ _ _ _ (Mask.trans (by decide) hm) ?_
    | with_reducible refine State.autonomous_keeps _ _ _ (Mask.trans (by decide) hm) ?_
    | split)

theorem State.onPrepareFlit_keeps (m : Nat) (s0 : State) (s : State) (id : Nat) (kind : Nat) (count : Nat) (crc : Nat) (hm : 0x20100000000010008020842004000000000000000040040 &&& m = 0x20100000000010008020842004000000000000000040040)
    (hk : Kept m s0 s) : Kept m s0 (State.onPrepareFlit s id kind count crc) := by
  unfold State.onPrepareFlit
  try dsimp only
  repeat' (first
    | with_reducible assumption
    | with_reducible apply Kept.ite
    | with_reducible refine State.send_keeps _ _ _ _ _ _ (Mask.trans (by decide) hm) ?_
    | with_reducible refine State.noteChecks_keeps _ _ _ _ (Mask.trans (by decide) hm) ?_
    | (simp only [Kept.made]; with_reducible refine Kept.set_hdg (Mask.trans (by decide) hm) ?_))

theorem State.onCommitFlit_keeps (m : Nat) (s0 : State) (s : State) (t : Nat) (hm : 0x8000000000000000000000000000000000000000040000 &&& m = 0x8000000000000000000000000000000000000000040000)
    (hk : Kept m s0 s) : Kept m s0 (State.onCommitFlit s t) := by
  unfold State.onCommitFlit
  try dsimp only
  repeat' (first
    | with_reducible assumption
    | with_reducible apply Kept.ite
    | with_reducible refine State.setReg64_at .HDG_COMMIT_T ⟨_, rfl⟩ ⟨1, rfl⟩ (Mask.trans (by decide) hm) ?_
    | (simp only [Kept.made]; with_reducible refine Kept.set_hdg (Mask.trans (by decide) hm) ?_)
    | split)

theorem State.onAbortFlit_keeps (m : Nat) (s0 : State) (s : State) (id : Nat) (hm : 0x10000000000000000000000000000000000000000040001 &&& m = 0x10000000000000000000000000000000000000000040001)
    (hk : Kept m s0 s) : Kept m s0 (State.onAbortFlit s id) := by
  unfold State.onAbortFlit
  try dsimp only
  repeat' (first
    | with_reducible assumption
    | with_reducible apply Kept.ite
    | with_reducible refine State.settleStaged_keeps _ _ _ (Mask.trans (by decide) hm) ?_
    | with_reducible refine State.incSat_at .HDG_COMMIT_CNT rfl (Mask.trans (by decide) hm) ?_
    | (simp only [Kept.made]; with_reducible refine Kept.set_hdg (Mask.trans (by decide) hm) ?_)
    | simp only [id_eq]
    | split)

end Sys2Proof.Machine
end

