-- ==== Sys2Proof/Laws/KeepsFirmware.lean ====
section
/-! SUPPORT. What each operation of Machine/Firmware.lean keeps: every place outside its mask, the register store's form, the resets' levels,
the outputs so far, time and the queue. -/

namespace Sys2Proof.Machine

theorem State.logRecord_keeps (m : Nat) (s0 : State) (s : State) (src : Nat) (flags : Nat) (code : Nat) (arg : Nat) (hm : 0x2000020020004 &&& m = 0x2000020020004)
    (hk : Kept m s0 s) : Kept m s0 (State.logRecord s src flags code arg) := by
  unfold State.logRecord
  try dsimp only
  repeat' (first
    | with_reducible assumption
    | with_reducible apply Kept.ite
    | with_reducible refine State.setFld_at .HEATH_LOG_HEAD rfl (Mask.trans (by decide) hm) ?_
    | with_reducible refine State.incSat_at .HEATH_LOG_HEAD rfl (Mask.trans (by decide) hm) ?_
    | (simp only [Kept.made]; with_reducible refine Kept.set_sky_ps_fw (Mask.trans (by decide) hm) (by rfl) (by rfl) ?_)
    | split)

theorem State.romLog_keeps (m : Nat) (s0 : State) (s : State) (ok : Bool) (hm : 0x200002002000c &&& m = 0x200002002000c)
    (hk : Kept m s0 s) : Kept m s0 (State.romLog s ok) := by
  unfold State.romLog
  try dsimp only
  repeat' (first
    | with_reducible assumption
    | with_reducible apply Kept.ite
    | with_reducible refine State.spendN_keeps _ _ _ _ (Mask.trans (by decide) hm) ?_
    | with_reducible refine State.logRecord_keeps _ _ _ _ _ _ _ (Mask.trans (by decide) hm) ?_
    | split)

theorem State.monitorLog_keeps (m : Nat) (s0 : State) (s : State) (comp : Nat) (hm : 0x200002002000c &&& m = 0x200002002000c)
    (hk : Kept m s0 s) : Kept m s0 (State.monitorLog s comp) := by
  unfold State.monitorLog
  try dsimp only
  repeat' (first
    | with_reducible assumption
    | with_reducible apply Kept.ite
    | with_reducible refine State.spendN_keeps _ _ _ _ (Mask.trans (by decide) hm) ?_
    | with_reducible refine State.logRecord_keeps _ _ _ _ _ _ _ (Mask.trans (by decide) hm) ?_
    | split)

theorem State.setRegions_keeps (m : Nat) (s0 : State) (s : State) (rs : List (Nat × Region)) (hm : 0x20000000 &&& m = 0x20000000)
    (hk : Kept m s0 s) : Kept m s0 (State.setRegions s rs) := by
  unfold State.setRegions
  try dsimp only
  repeat' (first
    | with_reducible assumption
    | with_reducible apply Kept.ite
    | (simp only [Kept.made]; with_reducible refine Kept.set_fw (Mask.trans (by decide) hm) ?_)
    | split)

theorem State.lockRegions_keeps (m : Nat) (s0 : State) (s : State) (hm : 0x20000008 &&& m = 0x20000008)
    (hk : Kept m s0 s) : Kept m s0 (State.lockRegions s) := by
  unfold State.lockRegions
  try dsimp only
  repeat' (first
    | with_reducible assumption
    | with_reducible apply Kept.ite
    | with_reducible refine State.spendN_keeps _ _ _ _ (Mask.trans (by decide) hm) ?_
    | with_reducible refine State.setRegions_keeps _ _ _ _ (Mask.trans (by decide) hm) ?_
    | (simp only [Kept.made]; with_reducible refine Kept.set_fw (Mask.trans (by decide) hm) ?_)
    | split)

theorem State.fwEvent_keeps (m : Nat) (s0 : State) (s : State) (kind : Nat) (reason : Nat) (comp : Nat) (version : Nat) (hm : 0x22000000000340040 &&& m = 0x22000000000340040)
    (hk : Kept m s0 s) : Kept m s0 (State.fwEvent s kind reason comp version) := by
  unfold State.fwEvent
  try dsimp only
  repeat' (first
    | with_reducible assumption
    | with_reducible apply Kept.ite
    | with_reducible refine State.newEvent_keeps _ _ _ _ _ _ _ (Mask.trans (by decide) hm) ?_
    | with_reducible refine State.report_keeps _ _ _ _ (Mask.trans (by decide) hm) ?_
    | split)

theorem State.startUser_keeps (m : Nat) (s0 : State) (s : State) (img : ImageIn) (hm : 0x600000000080 &&& m = 0x600000000080)
    (hk : Kept m s0 s) : Kept m s0 (State.startUser s img) := by
  unfold State.startUser
  try dsimp only
  repeat' (first
    | with_reducible assumption
    | with_reducible apply Kept.ite
    | with_reducible refine State.raise_keeps _ _ _ _ _ _ (Mask.trans (by decide) hm) ?_
    | with_reducible refine State.setFlag_at .HEATH_FW_STATUS rfl (Mask.trans (by decide) hm) ?_
    | with_reducible refine State.setFld_at .HEATH_FW_COMP rfl (Mask.trans (by decide) hm) ?_
    | split)

theorem State.removeCaps_keeps (m : Nat) (s0 : State) (s : State) (hm : 0x20040000 &&& m = 0x20040000)
    (hk : Kept m s0 s) : Kept m s0 (State.removeCaps s) := by
  unfold State.removeCaps
  try dsimp only
  repeat' (first
    | with_reducible assumption
    | with_reducible apply Kept.ite
    | with_reducible refine State.owe_keeps _ _ _ _ (Mask.trans (by decide) hm) ?_
    | (simp only [Kept.made]; with_reducible refine Kept.set_fw (Mask.trans (by decide) hm) ?_)
    | split)

theorem State.runImage_keeps (m : Nat) (s0 : State) (s : State) (img : ImageIn) (hostLoaded : Bool) (hm : 0x7000200400a8 &&& m = 0x7000200400a8)
    (hk : Kept m s0 s) : Kept m s0 (State.runImage s img hostLoaded) := by
  unfold State.runImage
  try dsimp only
  repeat' (first
    | with_reducible assumption
    | with_reducible apply Kept.ite
    | with_reducible refine State.lockRegions_keeps _ _ _ (Mask.trans (by decide) hm) ?_
    | with_reducible refine State.startUser_keeps _ _ _ _ (Mask.trans (by decide) hm) ?_
    | with_reducible refine State.removeCaps_keeps _ _ _ (Mask.trans (by decide) hm) ?_
    | with_reducible refine State.owe_keeps _ _ _ _ (Mask.trans (by decide) hm) ?_
    | with_reducible refine State.setFld_at .HEATH_FW_STATUS rfl (Mask.trans (by decide) hm) ?_
    | with_reducible refine State.setReg_at .HEATH_FW_VERSION rfl (Mask.trans (by decide) hm) ?_
    | with_reducible refine State.setFld_at .HEATH_FW_COMP rfl (Mask.trans (by decide) hm) ?_
    | (simp only [Kept.made]; with_reducible refine Kept.set_fw (Mask.trans (by decide) hm) ?_)
    | (simp only [Kept.made]; with_reducible refine Kept.set_otp (Mask.trans (by decide) hm) ?_)
    | with_reducible refine Kept.each ?_ (fun _ _ _ => ?_)
    | split)

theorem State.haltSteward_keeps (m : Nat) (s0 : State) (s : State) (hm : 0x2000a0400180 &&& m = 0x2000a0400180)
    (hk : Kept m s0 s) : Kept m s0 (State.haltSteward s) := by
  unfold State.haltSteward
  try dsimp only
  repeat' (first
    | with_reducible assumption
    | with_reducible apply Kept.ite
    | with_reducible refine State.levelOn_keeps _ _ _ _ _ (Mask.trans (by decide) hm) ?_
    | with_reducible refine State.setFlag_at .HEATH_FW_STATUS rfl (Mask.trans (by decide) hm) ?_
    | (simp only [Kept.made]; with_reducible refine Kept.set_cmds_fw (Mask.trans (by decide) hm) ?_)
    | split)

theorem State.sfdp_keeps (m : Nat) (s0 : State) (s : State) (density : Option Nat) (hm : 0x20000048 &&& m = 0x20000048)
    (hk : Kept m s0 s) : Kept m s0 (State.sfdp s density) := by
  unfold State.sfdp
  try dsimp only
  repeat' (first
    | with_reducible assumption
    | with_reducible apply Kept.ite
    | with_reducible refine State.emit_keeps _ _ _ _ (Mask.trans (by decide) hm) ?_
    | with_reducible refine State.spendN_keeps _ _ _ _ (Mask.trans (by decide) hm) ?_
    | (simp only [Kept.made]; with_reducible refine Kept.set_fw (Mask.trans (by decide) hm) ?_)
    | split)

theorem State.flashAbsent_keeps (m : Nat) (s0 : State) (s : State) (hm : 0x81c000010000000000000400100000000000000820a286dfc6 &&& m = 0x81c000010000000000000400100000000000000820a286dfc6)
    (hk : Kept m s0 s) : Kept m s0 (State.flashAbsent s) := by
  unfold State.flashAbsent
  try dsimp only
  repeat' (first
    | with_reducible assumption
    | with_reducible apply Kept.ite
    | with_reducible refine State.advanceTo_keeps _ _ _ _ (Mask.trans (by decide) hm) ?_
    | with_reducible refine State.stopWith_keeps _ _ _ _ (Mask.trans (by decide) hm) ?_
    | (simp only [Kept.made]; with_reducible refine Kept.set_fw (Mask.trans (by decide) hm) ?_)
    | split)

theorem State.loadDone_keeps (m : Nat) (s0 : State) (s : State) (ok : Bool) (hm : 0x1000000000000 &&& m = 0x1000000000000)
    (hk : Kept m s0 s) : Kept m s0 (State.loadDone s ok) := by
  unfold State.loadDone
  try dsimp only
  repeat' (first
    | with_reducible assumption
    | with_reducible refine State.setFlag_at .HEATH_FW_LOAD_CTRL rfl (Mask.trans (by decide) hm) ?_)

theorem State.coresReturn_keeps (m : Nat) (s0 : State) (s : State) (hm : 0x81c000010000040468000400100001000000002020a796df4c &&& m = 0x81c000010000040468000400100001000000002020a796df4c)
    (hk : Kept m s0 s) : Kept m s0 (State.coresReturn s) := by
  unfold State.coresReturn
  try dsimp only
  repeat' (first
    | with_reducible assumption
    | with_reducible apply Kept.ite
    | with_reducible refine State.tryRequest_keeps _ _ _ (Mask.trans (by decide) hm) ?_
    | with_reducible refine State.setFld_at .HEATH_FW_STATUS rfl (Mask.trans (by decide) hm) ?_
    | (simp only [Kept.made]; with_reducible refine Kept.set_fw (Mask.trans (by decide) hm) ?_)
    | split)

theorem State.slotFails_keeps (m : Nat) (s0 : State) (s : State) (k' : Nat) (hm : 0x81c000010000000000000400100000000000012820a2c6dfc0 &&& m = 0x81c000010000000000000400100000000000012820a2c6dfc0)
    (hk : Kept m s0 s) : Kept m s0 (State.slotFails s k') := by
  unfold State.slotFails
  try dsimp only
  repeat' (first
    | with_reducible assumption
    | with_reducible apply Kept.ite
    | with_reducible refine State.loadDone_keeps _ _ _ _ (Mask.trans (by decide) hm) ?_
    | with_reducible refine State.haltSteward_keeps _ _ _ (Mask.trans (by decide) hm) ?_
    | with_reducible refine State.stopWith_keeps _ _ _ _ (Mask.trans (by decide) hm) ?_
    | (simp only [Kept.made]; with_reducible refine Kept.set_fw (Mask.trans (by decide) hm) ?_)
    | split)

theorem State.slotVerify_keeps (m : Nat) (s0 : State) (s : State) (img : ImageIn) (hm : 0x81c000010000000000000400100000000000032820a2c6dfcc &&& m = 0x81c000010000000000000400100000000000032820a2c6dfcc)
    (hk : Kept m s0 s) : Kept m s0 (State.slotVerify s img) := by
  unfold State.slotVerify
  try dsimp only
  repeat' (first
    | with_reducible assumption
    | with_reducible apply Kept.ite
    | with_reducible refine State.flashDo_keeps _ _ _ _ (Mask.trans (by decide) hm) ?_
    | with_reducible refine State.toFollowers_keeps _ _ _ _ (Mask.trans (by decide) hm) ?_
    | with_reducible refine State.romLog_keeps _ _ _ _ (Mask.trans (by decide) hm) ?_
    | with_reducible refine State.loadDone_keeps _ _ _ _ (Mask.trans (by decide) hm) ?_
    | with_reducible refine State.slotFails_keeps _ _ _ _ (Mask.trans (by decide) hm) ?_
    | with_reducible refine State.setFld_at .HEATH_BOOT_STATUS rfl (Mask.trans (by decide) hm) ?_
    | (simp only [Kept.made]; with_reducible refine Kept.set_fw (Mask.trans (by decide) hm) ?_)
    | split)

theorem State.followerVerify_keeps (m : Nat) (s0 : State) (s : State) (img : ImageIn) (hm : 0x81c000010000000000000400100000000000022820a2c6dfcc &&& m = 0x81c000010000000000000400100000000000022820a2c6dfcc)
    (hk : Kept m s0 s) : Kept m s0 (State.followerVerify s img) := by
  unfold State.followerVerify
  try dsimp only
  repeat' (first
    | with_reducible assumption
    | with_reducible apply Kept.ite
    | with_reducible refine State.romLog_keeps _ _ _ _ (Mask.trans (by decide) hm) ?_
    | with_reducible refine State.stopWith_keeps _ _ _ _ (Mask.trans (by decide) hm) ?_
    | with_reducible refine State.haltSteward_keeps _ _ _ (Mask.trans (by decide) hm) ?_
    | (simp only [Kept.made]; with_reducible refine Kept.set_fw (Mask.trans (by decide) hm) ?_)
    | split)

theorem State.imageStart_keeps (m : Nat) (s0 : State) (s : State) (hm : 0x81c000010000040468000400100001000008007820a796dfec &&& m = 0x81c000010000040468000400100001000008007820a796dfec)
    (hk : Kept m s0 s) : Kept m s0 (State.imageStart s) := by
  unfold State.imageStart
  try dsimp only
  repeat' (first
    | with_reducible assumption
    | with_reducible apply Kept.ite
    | with_reducible refine State.runImage_keeps _ _ _ _ _ (Mask.trans (by decide) hm) ?_
    | with_reducible refine State.bell_keeps _ _ _ _ (Mask.trans (by decide) hm) ?_
    | with_reducible refine State.repairDue_keeps _ _ _ (Mask.trans (by decide) hm) ?_
    | with_reducible refine State.stepSix_keeps _ _ _ (Mask.trans (by decide) hm) ?_
    | with_reducible refine State.coresReturn_keeps _ _ _ (Mask.trans (by decide) hm) ?_
    | with_reducible refine State.setFld_at .HEATH_BOOT_STATUS rfl (Mask.trans (by decide) hm) ?_
    | (simp only [Kept.made]; with_reducible refine Kept.set_fw (Mask.trans (by decide) hm) ?_)
    | (simp only [Kept.made]; with_reducible refine Kept.set_ps_fw (Mask.trans (by decide) hm) (by rfl) (by rfl) ?_)
    | split)

theorem State.readImage_keeps (m : Nat) (s0 : State) (s : State) (addr : Nat) (lines : Nat) (hm : 0x20100040 &&& m = 0x20100040)
    (hk : Kept m s0 s) : Kept m s0 (State.readImage s addr lines) := by
  unfold State.readImage
  try dsimp only
  repeat' (first
    | with_reducible assumption
    | with_reducible apply Kept.ite
    | with_reducible refine State.memSend_keeps _ _ _ _ (Mask.trans (by decide) hm) ?_
    | (simp only [Kept.made]; with_reducible refine Kept.set_fw (Mask.trans (by decide) hm) ?_)
    | split)

theorem State.loadGo_keeps (m : Nat) (s0 : State) (s : State) (hm : 0x1000020100040 &&& m = 0x1000020100040)
    (hk : Kept m s0 s) : Kept m s0 (State.loadGo s) := by
  unfold State.loadGo
  try dsimp only
  repeat' (first
    | with_reducible assumption
    | with_reducible apply Kept.ite
    | with_reducible refine State.loadDone_keeps _ _ _ _ (Mask.trans (by decide) hm) ?_
    | with_reducible refine State.readImage_keeps _ _ _ _ _ (Mask.trans (by decide) hm) ?_
    | with_reducible refine State.setFlag_at .HEATH_FW_LOAD_CTRL rfl (Mask.trans (by decide) hm) ?_
    | split)

theorem State.stageFails_keeps (m : Nat) (s0 : State) (s : State) (reason : Nat) (version : Nat) (hm : 0x22000200020340040 &&& m = 0x22000200020340040)
    (hk : Kept m s0 s) : Kept m s0 (State.stageFails s reason version) := by
  unfold State.stageFails
  try dsimp only
  repeat' (first
    | with_reducible assumption
    | with_reducible apply Kept.ite
    | with_reducible refine State.fwEvent_keeps _ _ _ _ _ _ _ (Mask.trans (by decide) hm) ?_
    | with_reducible refine State.setFld_at .HEATH_FW_STATUS rfl (Mask.trans (by decide) hm) ?_
    | (simp only [Kept.made]; with_reducible refine Kept.set_fw (Mask.trans (by decide) hm) ?_)
    | split)

theorem State.program_keeps (m : Nat) (s0 : State) (s : State) (bytes : List Nat) (hm : 0x20000040 &&& m = 0x20000040)
    (hk : Kept m s0 s) : Kept m s0 (State.program s bytes) := by
  unfold State.program
  try dsimp only
  repeat' (first
    | with_reducible assumption
    | with_reducible apply Kept.ite
    | with_reducible refine State.flashDo_keeps _ _ _ _ (Mask.trans (by decide) hm) ?_
    | (simp only [Kept.made]; with_reducible refine Kept.set_fw (Mask.trans (by decide) hm) ?_)
    | split)

theorem State.imageLine_keeps (m : Nat) (s0 : State) (s : State) (ok : Bool) (data : List Nat) (hm : 0x220012000a07401c1 &&& m = 0x220012000a07401c1)
    (hk : Kept m s0 s) : Kept m s0 (State.imageLine s ok data) := by
  unfold State.imageLine
  try dsimp only
  repeat' (first
    | with_reducible assumption
    | with_reducible apply Kept.ite
    | with_reducible refine State.stageFails_keeps _ _ _ _ _ (Mask.trans (by decide) hm) ?_
    | with_reducible refine State.haltSteward_keeps _ _ _ (Mask.trans (by decide) hm) ?_
    | with_reducible refine State.loadDone_keeps _ _ _ _ (Mask.trans (by decide) hm) ?_
    | with_reducible refine State.program_keeps _ _ _ _ (Mask.trans (by decide) hm) ?_
    | with_reducible refine State.stageAt_keeps _ _ _ _ _ _ (Mask.trans (by decide) hm) ?_
    | with_reducible refine State.memSend_keeps _ _ _ _ (Mask.trans (by decide) hm) ?_
    | (simp only [Kept.made]; with_reducible refine Kept.set_fw (Mask.trans (by decide) hm) ?_)
    | split)

theorem State.digestCheck_keeps (m : Nat) (s0 : State) (s : State) (digest : Nat) (hm : 0x800000020160040 &&& m = 0x800000020160040)
    (hk : Kept m s0 s) : Kept m s0 (State.digestCheck s digest) := by
  unfold State.digestCheck
  try dsimp only
  repeat' (first
    | with_reducible assumption
    | with_reducible apply Kept.ite
    | with_reducible refine State.bell_keeps _ _ _ _ (Mask.trans (by decide) hm) ?_
    | with_reducible refine State.readImage_keeps _ _ _ _ _ (Mask.trans (by decide) hm) ?_
    | (simp only [Kept.made]; with_reducible refine Kept.set_ps (Mask.trans (by decide) hm) (by rfl) (by rfl) ?_)
    | (simp only [Kept.made]; with_reducible refine Kept.set_fw (Mask.trans (by decide) hm) ?_)
    | split)

theorem State.stageBegins_keeps (m : Nat) (s0 : State) (s : State) (mode : Nat) (len : Nat) (hm : 0x200020000000 &&& m = 0x200020000000)
    (hk : Kept m s0 s) : Kept m s0 (State.stageBegins s mode len) := by
  unfold State.stageBegins
  try dsimp only
  repeat' (first
    | with_reducible assumption
    | with_reducible apply Kept.ite
    | with_reducible refine State.setFld_at .HEATH_FW_STATUS rfl (Mask.trans (by decide) hm) ?_
    | (simp only [Kept.made]; with_reducible refine Kept.set_fw (Mask.trans (by decide) hm) ?_)
    | split)

theorem State.readback_keeps (m : Nat) (s0 : State) (s : State) (img : Option ImageIn) (hm : 0x22000200020340040 &&& m = 0x22000200020340040)
    (hk : Kept m s0 s) : Kept m s0 (State.readback s img) := by
  unfold State.readback
  try dsimp only
  repeat' (first
    | with_reducible assumption
    | with_reducible apply Kept.ite
    | with_reducible refine State.flashDo_keeps _ _ _ _ (Mask.trans (by decide) hm) ?_
    | with_reducible refine State.stageFails_keeps _ _ _ _ _ (Mask.trans (by decide) hm) ?_
    | with_reducible refine State.fwEvent_keeps _ _ _ _ _ _ _ (Mask.trans (by decide) hm) ?_
    | with_reducible refine State.setFld_at .HEATH_FW_STATUS rfl (Mask.trans (by decide) hm) ?_
    | (simp only [Kept.made]; with_reducible refine Kept.set_fw (Mask.trans (by decide) hm) ?_)
    | split)

theorem State.coresRestart_keeps (m : Nat) (s0 : State) (s : State) (hm : 0x202020020000 &&& m = 0x202020020000)
    (hk : Kept m s0 s) : Kept m s0 (State.coresRestart s) := by
  unfold State.coresRestart
  try dsimp only
  repeat' (first
    | with_reducible assumption
    | with_reducible apply Kept.ite
    | with_reducible refine State.startSteward_keeps _ _ _ (Mask.trans (by decide) hm) ?_
    | with_reducible refine State.setFld_at .HEATH_FW_STATUS rfl (Mask.trans (by decide) hm) ?_
    | (simp only [Kept.made]; with_reducible refine Kept.set_fw (Mask.trans (by decide) hm) ?_)
    | split)

theorem State.activate_keeps (m : Nat) (s0 : State) (s : State) (hm : 0x202020260040 &&& m = 0x202020260040)
    (hk : Kept m s0 s) : Kept m s0 (State.activate s) := by
  unfold State.activate
  try dsimp only
  repeat' (first
    | with_reducible assumption
    | with_reducible apply Kept.ite
    | with_reducible refine State.toFollowers_keeps _ _ _ _ (Mask.trans (by decide) hm) ?_
    | with_reducible refine State.coresRestart_keeps _ _ _ (Mask.trans (by decide) hm) ?_
    | (simp only [Kept.made]; with_reducible refine Kept.set_ses_fw (Mask.trans (by decide) hm) ?_)
    | split)

theorem State.takeOver_keeps (m : Nat) (s0 : State) (s : State) (hm : 0x20240000 &&& m = 0x20240000)
    (hk : Kept m s0 s) : Kept m s0 (State.takeOver s) := by
  unfold State.takeOver
  try dsimp only
  repeat' (first
    | with_reducible assumption
    | with_reducible apply Kept.ite
    | (simp only [Kept.made]; with_reducible refine Kept.set_hdg_ses_fw (Mask.trans (by decide) hm) ?_)
    | split)

theorem State.activationStart_keeps (m : Nat) (s0 : State) (s : State) (hm : 0x202020260046 &&& m = 0x202020260046)
    (hk : Kept m s0 s) : Kept m s0 (State.activationStart s) := by
  unfold State.activationStart
  try dsimp only
  repeat' (first
    | with_reducible assumption
    | with_reducible apply Kept.ite
    | with_reducible refine State.advanceTo_keeps _ _ _ _ (Mask.trans (by decide) hm) ?_
    | with_reducible refine State.activate_keeps _ _ _ (Mask.trans (by decide) hm) ?_
    | split)

theorem State.resumePickup_keeps (m : Nat) (s0 : State) (s : State) (hm : 0x81c000010000040468000400100001000000002020a7b6df4c &&& m = 0x81c000010000040468000400100001000000002020a7b6df4c)
    (hk : Kept m s0 s) : Kept m s0 (State.resumePickup s) := by
  unfold State.resumePickup
  try dsimp only
  repeat' (first
    | with_reducible assumption
    | with_reducible apply Kept.ite
    | with_reducible refine State.takeOver_keeps _ _ _ (Mask.trans (by decide) hm) ?_
    | with_reducible refine State.coresReturn_keeps _ _ _ (Mask.trans (by decide) hm) ?_
    | (simp only [Kept.made]; with_reducible refine Kept.set_ses_fw (Mask.trans (by decide) hm) ?_)
    | split)

theorem State.abortActivation_keeps (m : Nat) (s0 : State) (s : State) (reason : Nat) (hm : 0x81c0000100000404680004001000010003a0002020a7f6df4c &&& m = 0x81c0000100000404680004001000010003a0002020a7f6df4c)
    (hk : Kept m s0 s) : Kept m s0 (State.abortActivation s reason) := by
  unfold State.abortActivation
  try dsimp only
  repeat' (first
    | with_reducible assumption
    | with_reducible apply Kept.ite
    | with_reducible refine State.resumePickup_keeps _ _ _ (Mask.trans (by decide) hm) ?_
    | with_reducible refine State.fwEvent_keeps _ _ _ _ _ _ _ (Mask.trans (by decide) hm) ?_
    | with_reducible refine State.done_keeps _ _ _ _ _ _ (Mask.trans (by decide) hm) ?_
    | with_reducible refine State.setFld_at .HEATH_FW_STATUS rfl (Mask.trans (by decide) hm) ?_
    | split)

theorem State.activationTimeout_keeps (m : Nat) (s0 : State) (s : State) (hm : 0x81c0000100000404680004001000010003a0002020a7f6df4e &&& m = 0x81c0000100000404680004001000010003a0002020a7f6df4e)
    (hk : Kept m s0 s) : Kept m s0 (State.activationTimeout s) := by
  unfold State.activationTimeout
  try dsimp only
  repeat' (first
    | with_reducible assumption
    | with_reducible apply Kept.ite
    | with_reducible refine State.advanceTo_keeps _ _ _ _ (Mask.trans (by decide) hm) ?_
    | with_reducible refine State.abortActivation_keeps _ _ _ _ (Mask.trans (by decide) hm) ?_)

theorem State.bootAgain_keeps (m : Nat) (s0 : State) (s : State) (hm : 0x20020000 &&& m = 0x20020000)
    (hk : Kept m s0 s) : Kept m s0 (State.bootAgain s) := by
  unfold State.bootAgain
  try dsimp only
  repeat' (first
    | with_reducible assumption
    | with_reducible apply Kept.ite
    | (simp only [Kept.made]; with_reducible refine Kept.set_ps_fw (Mask.trans (by decide) hm) (by rfl) (by rfl) ?_)
    | split)

theorem State.activationComplete_keeps (m : Nat) (s0 : State) (s : State) (img : ImageIn) (followersOk : Bool) (hm : 0x81c0000100000404680004001000010003a0027820a7f6dfec &&& m = 0x81c0000100000404680004001000010003a0027820a7f6dfec)
    (hk : Kept m s0 s) : Kept m s0 (State.activationComplete s img followersOk) := by
  unfold State.activationComplete
  try dsimp only
  repeat' (first
    | with_reducible assumption
    | with_reducible apply Kept.ite
    | with_reducible refine State.flashDo_keeps _ _ _ _ (Mask.trans (by decide) hm) ?_
    | with_reducible refine State.toFollowers_keeps _ _ _ _ (Mask.trans (by decide) hm) ?_
    | with_reducible refine State.romLog_keeps _ _ _ _ (Mask.trans (by decide) hm) ?_
    | with_reducible refine State.abortActivation_keeps _ _ _ _ (Mask.trans (by decide) hm) ?_
    | with_reducible refine State.bootAgain_keeps _ _ _ (Mask.trans (by decide) hm) ?_
    | with_reducible refine State.runImage_keeps _ _ _ _ _ (Mask.trans (by decide) hm) ?_
    | with_reducible refine State.resumePickup_keeps _ _ _ (Mask.trans (by decide) hm) ?_
    | with_reducible refine State.fwEvent_keeps _ _ _ _ _ _ _ (Mask.trans (by decide) hm) ?_
    | with_reducible refine State.done_keeps _ _ _ _ _ _ (Mask.trans (by decide) hm) ?_
    | with_reducible refine State.setFld_at .HEATH_BOOT_STATUS rfl (Mask.trans (by decide) hm) ?_
    | with_reducible refine State.setFlag_at .HEATH_FW_STATUS rfl (Mask.trans (by decide) hm) ?_
    | split)

theorem State.repairDone_keeps (m : Nat) (s0 : State) (s : State) (hm : 0x22000200020340040 &&& m = 0x22000200020340040)
    (hk : Kept m s0 s) : Kept m s0 (State.repairDone s) := by
  unfold State.repairDone
  try dsimp only
  repeat' (first
    | with_reducible assumption
    | with_reducible apply Kept.ite
    | with_reducible refine State.fwEvent_keeps _ _ _ _ _ _ _ (Mask.trans (by decide) hm) ?_
    | with_reducible refine State.setFlag_at .HEATH_FW_STATUS rfl (Mask.trans (by decide) hm) ?_
    | (simp only [Kept.made]; with_reducible refine Kept.set_fw (Mask.trans (by decide) hm) ?_))

theorem State.essential_keeps (m : Nat) (s0 : State) (s : State) (index : Nat) (hm : 0xa000a0400180 &&& m = 0xa000a0400180)
    (hk : Kept m s0 s) : Kept m s0 (State.essential s index) := by
  unfold State.essential
  try dsimp only
  repeat' (first
    | with_reducible assumption
    | with_reducible apply Kept.ite
    | with_reducible refine State.raise_keeps _ _ _ _ _ _ (Mask.trans (by decide) hm) ?_
    | with_reducible refine State.haltSteward_keeps _ _ _ (Mask.trans (by decide) hm) ?_
    | with_reducible refine State.incSat_at .HEATH_FW_RESTARTS rfl (Mask.trans (by decide) hm) ?_
    | (simp only [Kept.made]; with_reducible refine Kept.set_fw (Mask.trans (by decide) hm) ?_))

theorem State.abortIn_keeps (m : Nat) (s0 : State) (s : State) (comp : Nat) (hm : 0x1a000000000700040 &&& m = 0x1a000000000700040)
    (hk : Kept m s0 s) : Kept m s0 (State.abortIn s comp) := by
  unfold State.abortIn
  try dsimp only
  repeat' (first
    | with_reducible assumption
    | with_reducible apply Kept.ite
    | with_reducible refine State.setCmd_keeps _ _ _ _ _ (Mask.trans (by decide) hm) ?_
    | with_reducible refine State.done_keeps _ _ _ _ _ _ (Mask.trans (by decide) hm) ?_
    | with_reducible refine Kept.each ?_ (fun _ _ _ => ?_)
    | split)

theorem State.compStore_keeps (m : Nat) (s0 : State) (s : State) (comp : Nat) (addr : Nat) (byte : Nat) (hm : 0x20000000 &&& m = 0x20000000)
    (hk : Kept m s0 s) : Kept m s0 (State.compStore s comp addr byte) := by
  unfold State.compStore
  try dsimp only
  repeat' (first
    | with_reducible assumption
    | with_reducible apply Kept.ite
    | (simp only [Kept.made]; with_reducible refine Kept.set_fw (Mask.trans (by decide) hm) ?_)
    | split)

theorem State.clearData_keeps (m : Nat) (s0 : State) (s : State) (comp : Nat) (hm : 0x20000000 &&& m = 0x20000000)
    (hk : Kept m s0 s) : Kept m s0 (State.clearData s comp) := by
  unfold State.clearData
  try dsimp only
  repeat' (first
    | with_reducible assumption
    | with_reducible apply Kept.ite
    | (simp only [Kept.made]; with_reducible refine Kept.set_fw (Mask.trans (by decide) hm) ?_)
    | split)

theorem State.compLog_keeps (m : Nat) (s0 : State) (s : State) (comp : Nat) (level : Nat) (code : Nat) (arg : Nat) (hm : 0x2000020020004 &&& m = 0x2000020020004)
    (hk : Kept m s0 s) : Kept m s0 (State.compLog s comp level code arg) := by
  unfold State.compLog
  try dsimp only
  repeat' (first
    | with_reducible assumption
    | with_reducible apply Kept.ite
    | with_reducible refine State.logRecord_keeps _ _ _ _ _ _ _ (Mask.trans (by decide) hm) ?_
    | split)

theorem State.coresAct_keeps (m : Nat) (s0 : State) (s : State) (hm : 0x200002002000c &&& m = 0x200002002000c)
    (hk : Kept m s0 s) : Kept m s0 (State.coresAct s) := by
  unfold State.coresAct
  try dsimp only
  repeat' (first
    | with_reducible assumption
    | with_reducible apply Kept.ite
    | with_reducible refine State.spendN_keeps _ _ _ _ (Mask.trans (by decide) hm) ?_
    | with_reducible refine State.compStore_keeps _ _ _ _ _ _ (Mask.trans (by decide) hm) ?_
    | with_reducible refine State.compLog_keeps _ _ _ _ _ _ _ (Mask.trans (by decide) hm) ?_
    | split)

theorem State.compFault_keeps (m : Nat) (s0 : State) (s : State) (comp : Nat) (hm : 0x3a002e000a07601cc &&& m = 0x3a002e000a07601cc)
    (hk : Kept m s0 s) : Kept m s0 (State.compFault s comp) := by
  unfold State.compFault
  try dsimp only
  repeat' (first
    | with_reducible assumption
    | with_reducible apply Kept.ite
    | with_reducible refine State.monitorLog_keeps _ _ _ _ (Mask.trans (by decide) hm) ?_
    | with_reducible refine State.clearData_keeps _ _ _ _ (Mask.trans (by decide) hm) ?_
    | with_reducible refine State.essential_keeps _ _ _ _ (Mask.trans (by decide) hm) ?_
    | with_reducible refine State.abortIn_keeps _ _ _ _ (Mask.trans (by decide) hm) ?_
    | with_reducible refine State.raise_keeps _ _ _ _ _ _ (Mask.trans (by decide) hm) ?_
    | with_reducible refine State.fwEvent_keeps _ _ _ _ _ _ _ (Mask.trans (by decide) hm) ?_
    | with_reducible refine State.removeCaps_keeps _ _ _ (Mask.trans (by decide) hm) ?_
    | with_reducible refine State.incSat_at .HEATH_FW_RESTARTS rfl (Mask.trans (by decide) hm) ?_
    | with_reducible refine State.setFld_at .HEATH_FW_COMP rfl (Mask.trans (by decide) hm) ?_
    | with_reducible refine State.setFlag_at .HEATH_FW_STATUS rfl (Mask.trans (by decide) hm) ?_
    | (simp only [Kept.made]; with_reducible refine Kept.set_fw (Mask.trans (by decide) hm) ?_)
    | split)

theorem State.coreStuck_keeps (m : Nat) (s0 : State) (s : State) (hm : 0xa000a0400180 &&& m = 0xa000a0400180)
    (hk : Kept m s0 s) : Kept m s0 (State.coreStuck s) := by
  unfold State.coreStuck
  try dsimp only
  repeat' (first
    | with_reducible assumption
    | with_reducible apply Kept.ite
    | with_reducible refine State.essential_keeps _ _ _ _ (Mask.trans (by decide) hm) ?_
    | split)

theorem State.userSays_keeps (m : Nat) (s0 : State) (s : State) (err : Bool) (value : Nat) (hm : 0x40 &&& m = 0x40)
    (hk : Kept m s0 s) : Kept m s0 (State.userSays s err value) := by
  unfold State.userSays
  try dsimp only
  repeat' (first
    | with_reducible assumption
    | with_reducible refine State.emit_keeps _ _ _ _ (Mask.trans (by decide) hm) ?_)

theorem State.userStage_keeps (m : Nat) (s0 : State) (s : State) (cap : UserCap) (hm : 0x20000040 &&& m = 0x20000040)
    (hk : Kept m s0 s) : Kept m s0 (State.userStage s cap) := by
  unfold State.userStage
  try dsimp only
  repeat' (first
    | with_reducible assumption
    | with_reducible apply Kept.ite
    | with_reducible refine State.userSays_keeps _ _ _ _ _ (Mask.trans (by decide) hm) ?_
    | (simp only [Kept.made]; with_reducible refine Kept.set_fw (Mask.trans (by decide) hm) ?_)
    | split)

theorem State.userCommit_keeps (m : Nat) (s0 : State) (s : State) (hm : 0x40040 &&& m = 0x40040)
    (hk : Kept m s0 s) : Kept m s0 (State.userCommit s) := by
  unfold State.userCommit
  try dsimp only
  repeat' (first
    | with_reducible assumption
    | with_reducible apply Kept.ite
    | with_reducible refine State.userSays_keeps _ _ _ _ _ (Mask.trans (by decide) hm) ?_
    | with_reducible refine State.enqueue_keeps _ _ _ _ (Mask.trans (by decide) hm) ?_)

theorem State.userDoorbell_keeps (m : Nat) (s0 : State) (s : State) (set : Nat) (clear : Nat) (hm : 0xc00000000040040 &&& m = 0xc00000000040040)
    (hk : Kept m s0 s) : Kept m s0 (State.userDoorbell s set clear) := by
  unfold State.userDoorbell
  try dsimp only
  repeat' (first
    | with_reducible assumption
    | with_reducible apply Kept.ite
    | with_reducible refine State.bell_keeps _ _ _ _ (Mask.trans (by decide) hm) ?_
    | with_reducible refine State.userSays_keeps _ _ _ _ _ (Mask.trans (by decide) hm) ?_
    | with_reducible refine State.setReg_at .MB_DB_IN rfl (Mask.trans (by decide) hm) ?_
    | with_reducible refine Kept.each ?_ (fun _ _ _ => ?_)
    | split)

theorem State.userTimer_keeps (m : Nat) (s0 : State) (s : State) (us : Nat) (hm : 0x20000040 &&& m = 0x20000040)
    (hk : Kept m s0 s) : Kept m s0 (State.userTimer s us) := by
  unfold State.userTimer
  try dsimp only
  repeat' (first
    | with_reducible assumption
    | with_reducible apply Kept.ite
    | with_reducible refine State.userSays_keeps _ _ _ _ _ (Mask.trans (by decide) hm) ?_
    | (simp only [Kept.made]; with_reducible refine Kept.set_fw (Mask.trans (by decide) hm) ?_)
    | split)

theorem State.userWake_keeps (m : Nat) (s0 : State) (s : State) (hm : 0x404680000000000000000000000a027165246 &&& m = 0x404680000000000000000000000a027165246)
    (hk : Kept m s0 s) : Kept m s0 (State.userWake s) := by
  unfold State.userWake
  try dsimp only
  repeat' (first
    | with_reducible assumption
    | with_reducible apply Kept.ite
    | with_reducible refine State.advanceTo_keeps _ _ _ _ (Mask.trans (by decide) hm) ?_
    | with_reducible refine State.wake_keeps _ _ _ _ _ (Mask.trans (by decide) hm) ?_
    | (simp only [Kept.made]; with_reducible refine Kept.set_fw (Mask.trans (by decide) hm) ?_)
    | split)

theorem State.userLog_keeps (m : Nat) (s0 : State) (s : State) (level : Nat) (code : Nat) (arg : Nat) (hm : 0x2000020020044 &&& m = 0x2000020020044)
    (hk : Kept m s0 s) : Kept m s0 (State.userLog s level code arg) := by
  unfold State.userLog
  try dsimp only
  repeat' (first
    | with_reducible assumption
    | with_reducible apply Kept.ite
    | with_reducible refine State.userSays_keeps _ _ _ _ _ (Mask.trans (by decide) hm) ?_
    | with_reducible refine State.logRecord_keeps _ _ _ _ _ _ _ (Mask.trans (by decide) hm) ?_
    | (simp only [Kept.made]; with_reducible refine Kept.set_fw (Mask.trans (by decide) hm) ?_)
    | split)

end Sys2Proof.Machine
end

