-- ==== Sys2Proof/Laws/KeepsServe.lean ====
section
/-! SUPPORT. What each operation of Machine/Serve.lean keeps: every place outside its mask, the register store's form, the resets' levels,
the outputs so far, time and the queue. -/

namespace Sys2Proof.Machine

theorem State.cmdDone_keeps (m : Nat) (s0 : State) (s : State) (tag : Nat) (status : Nat) (result : List Nat) (hm : 0x40040 &&& m = 0x40040)
    (hk : Kept m s0 s) : Kept m s0 (State.cmdDone s tag status result) := by
  unfold State.cmdDone
  try dsimp only
  repeat' (first
    | with_reducible assumption
    | with_reducible refine State.send_keeps _ _ _ _ _ _ (Mask.trans (by decide) hm) ?_)

theorem State.cmdDoneAfter_keeps (m : Nat) (s0 : State) (s : State) (tag : Nat) (dest : Nat) (ctx : Option Nat) (bytes : List Nat) (bank : Bool) (hm : 0x140040 &&& m = 0x140040)
    (hk : Kept m s0 s) : Kept m s0 (State.cmdDoneAfter s tag dest ctx bytes bank) := by
  unfold State.cmdDoneAfter
  try dsimp only
  repeat' (first
    | with_reducible assumption
    | with_reducible apply Kept.ite
    | with_reducible refine State.cmdDone_keeps _ _ _ _ _ _ (Mask.trans (by decide) hm) ?_
    | with_reducible refine State.memSend_keeps _ _ _ _ (Mask.trans (by decide) hm) ?_
    | (simp only [Kept.made]; with_reducible refine Kept.set_hdg (Mask.trans (by decide) hm) ?_)
    | split)

theorem State.fwdLine_keeps (m : Nat) (s0 : State) (s : State) (tag : Nat) (ok : Bool) (hm : 0x40040 &&& m = 0x40040)
    (hk : Kept m s0 s) : Kept m s0 (State.fwdLine s tag ok) := by
  unfold State.fwdLine
  try dsimp only
  repeat' (first
    | with_reducible assumption
    | with_reducible apply Kept.ite
    | with_reducible refine State.cmdDone_keeps _ _ _ _ _ _ (Mask.trans (by decide) hm) ?_
    | (simp only [Kept.made]; with_reducible refine Kept.set_hdg (Mask.trans (by decide) hm) ?_)
    | split)

end Sys2Proof.Machine
end

