-- ==== Sys2Proof/Laws/KeepsReset.lean ====
section
/-! SUPPORT. What each operation of Machine/Reset.lean keeps: every place outside its mask, the register store's form, the resets' levels,
the outputs so far, time and the queue. -/

namespace Sys2Proof.Machine

theorem State.nextEpoch_keeps (m : Nat) (s0 : State) (s : State) (hm : 0x40000000000 &&& m = 0x40000000000)
    (hk : Kept m s0 s) : Kept m s0 (State.nextEpoch s) := by
  unfold State.nextEpoch
  try dsimp only
  repeat' (first
    | with_reducible assumption
    | with_reducible refine State.setFld_at .HEATH_EPOCH rfl (Mask.trans (by decide) hm) ?_)

theorem State.attachGone_keeps (m : Nat) (s0 : State) (s : State) (hm : 0x200000 &&& m = 0x200000)
    (hk : Kept m s0 s) : Kept m s0 (State.attachGone s) := by
  unfold State.attachGone
  try dsimp only
  repeat' (first
    | with_reducible assumption
    | with_reducible apply Kept.ite
    | (simp only [Kept.made]; with_reducible refine Kept.set_ses (Mask.trans (by decide) hm) ?_)
    | split)

theorem State.dropCommands_keeps (m : Nat) (s0 : State) (s : State) (hm : 0x740000 &&& m = 0x740000)
    (hk : Kept m s0 s) : Kept m s0 (State.dropCommands s) := by
  unfold State.dropCommands
  try dsimp only
  repeat' (first
    | with_reducible assumption
    | with_reducible refine State.attachGone_keeps _ _ _ (Mask.trans (by decide) hm) ?_
    | (simp only [Kept.made]; with_reducible refine Kept.set_hdg_mem_ses_cmds (Mask.trans (by decide) hm) ?_))

theorem State.withdrawCommit_keeps (m : Nat) (s0 : State) (s : State) (hm : 0x40000 &&& m = 0x40000)
    (hk : Kept m s0 s) : Kept m s0 (State.withdrawCommit s) := by
  unfold State.withdrawCommit
  try dsimp only
  repeat' (first
    | with_reducible assumption
    | with_reducible apply Kept.ite
    | with_reducible refine State.setLink_keeps _ _ _ _ _ (Mask.trans (by decide) hm) ?_
    | (simp only [Kept.made]; with_reducible refine Kept.set_hdg (Mask.trans (by decide) hm) ?_)
    | with_reducible refine Kept.each ?_ (fun _ _ _ => ?_)
    | split)

theorem State.dropCommits_keeps (m : Nat) (s0 : State) (s : State) (hm : 0x40001 &&& m = 0x40001)
    (hk : Kept m s0 s) : Kept m s0 (State.dropCommits s) := by
  unfold State.dropCommits
  try dsimp only
  repeat' (first
    | with_reducible assumption
    | (simp only [Kept.made]; with_reducible refine Kept.set_staged_hdg (Mask.trans (by decide) hm) ?_))

theorem State.dropSnapshot_keeps (m : Nat) (s0 : State) (s : State) (hm : 0x100000000000000000000000000000100040000 &&& m = 0x100000000000000000000000000000100040000)
    (hk : Kept m s0 s) : Kept m s0 (State.dropSnapshot s) := by
  unfold State.dropSnapshot
  try dsimp only
  repeat' (first
    | with_reducible assumption
    | with_reducible apply Kept.ite
    | with_reducible refine State.snapAbort_keeps _ _ _ (Mask.trans (by decide) hm) ?_
    | (simp only [Kept.made]; with_reducible refine Kept.set_hdg (Mask.trans (by decide) hm) ?_)
    | split)

theorem State.stileReset_keeps (m : Nat) (s0 : State) (s : State) (hm : 0x300000000000000000000000000000000000000000040400 &&& m = 0x300000000000000000000000000000000000000000040400)
    (hk : Kept m s0 s) : Kept m s0 (State.stileReset s) := by
  unfold State.stileReset
  try dsimp only
  repeat' (first
    | with_reducible assumption
    | with_reducible apply Kept.ite
    | with_reducible refine State.incSat_at .STILE_CNT rfl (Mask.trans (by decide) hm) ?_
    | with_reducible refine State.setFlag_at .STILE_STATUS rfl (Mask.trans (by decide) hm) ?_
    | (simp only [Kept.made]; with_reducible refine Kept.set_arb_hdg (Mask.trans (by decide) hm) ?_)
    | split)

theorem State.droopReset_keeps (m : Nat) (s0 : State) (s : State) (hm : 0x81c00001000000000000000000000000000000000000001800 &&& m = 0x81c00001000000000000000000000000000000000000001800)
    (hk : Kept m s0 s) : Kept m s0 (State.droopReset s) := by
  unfold State.droopReset
  try dsimp only
  repeat' (first
    | with_reducible assumption
    | with_reducible apply Kept.ite
    | with_reducible refine State.noteFreeze_keeps _ _ _ _ _ _ (Mask.trans (by decide) hm) ?_
    | with_reducible refine State.logArb_keeps _ _ _ _ _ (Mask.trans (by decide) hm) ?_
    | (simp only [Kept.made]; with_reducible refine Kept.set_drp (Mask.trans (by decide) hm) ?_)
    | with_reducible refine Kept.each ?_ (fun _ _ _ => ?_)
    | split)

theorem State.streamReset_keeps (m : Nat) (s0 : State) (s : State) (hm : 0x100000000 &&& m = 0x100000000)
    (hk : Kept m s0 s) : Kept m s0 (State.streamReset s) := by
  unfold State.streamReset
  try dsimp only
  repeat' (first
    | with_reducible assumption
    | (simp only [Kept.made]; with_reducible refine Kept.set_obs (Mask.trans (by decide) hm) ?_))

theorem State.stewardReset_keeps (m : Nat) (s0 : State) (s : State) (hm : 0x81c0000100000404680004001000010003a0002020a7f6df4c &&& m = 0x81c0000100000404680004001000010003a0002020a7f6df4c)
    (hk : Kept m s0 s) : Kept m s0 (State.stewardReset s) := by
  unfold State.stewardReset
  try dsimp only
  repeat' (first
    | with_reducible assumption
    | with_reducible apply Kept.ite
    | with_reducible refine State.stageFails_keeps _ _ _ _ _ (Mask.trans (by decide) hm) ?_
    | with_reducible refine State.abortActivation_keeps _ _ _ _ (Mask.trans (by decide) hm) ?_
    | with_reducible refine State.coresReturn_keeps _ _ _ (Mask.trans (by decide) hm) ?_
    | with_reducible refine State.bootAgain_keeps _ _ _ (Mask.trans (by decide) hm) ?_
    | (simp only [Kept.made]; with_reducible refine Kept.set_ps_fw (Mask.trans (by decide) hm) (by rfl) (by rfl) ?_)
    | split)

theorem State.logReset_keeps (m : Nat) (s0 : State) (s : State) (hm : 0x1000000000000000000000000000000000000001004 &&& m = 0x1000000000000000000000000000000000000001004)
    (hk : Kept m s0 s) : Kept m s0 (State.logReset s) := by
  unfold State.logReset
  try dsimp only
  repeat' (first
    | with_reducible assumption
    | with_reducible apply Kept.ite
    | with_reducible refine State.logAll_keeps _ _ _ _ _ (Mask.trans (by decide) hm) ?_
    | (simp only [Kept.made]; with_reducible refine Kept.set_sky_rings (Mask.trans (by decide) hm) ?_)
    | split)

theorem State.blockReset_keeps (m : Nat) (s0 : State) (s : State) (byHost : Bool) (hm : 0x81f0000500010404683004001c40010003a8002721a7fedfcd &&& m = 0x81f0000500010404683004001c40010003a8002721a7fedfcd)
    (hk : Kept m s0 s) : Kept m s0 (State.blockReset s byHost) := by
  unfold State.blockReset
  try dsimp only
  repeat' (first
    | with_reducible assumption
    | with_reducible apply Kept.ite
    | with_reducible refine State.holdBases_keeps _ _ _ (Mask.trans (by decide) hm) ?_
    | with_reducible refine State.nextEpoch_keeps _ _ _ (Mask.trans (by decide) hm) ?_
    | with_reducible refine State.bell_keeps _ _ _ _ (Mask.trans (by decide) hm) ?_
    | with_reducible refine State.logReset_keeps _ _ _ (Mask.trans (by decide) hm) ?_
    | with_reducible refine State.abortAllInj_keeps _ _ _ _ (Mask.trans (by decide) hm) ?_
    | with_reducible refine State.voidAll_keeps _ _ _ _ _ (Mask.trans (by decide) hm) ?_
    | with_reducible refine State.droopReset_keeps _ _ _ (Mask.trans (by decide) hm) ?_
    | with_reducible refine State.stileReset_keeps _ _ _ (Mask.trans (by decide) hm) ?_
    | with_reducible refine State.dropCommands_keeps _ _ _ (Mask.trans (by decide) hm) ?_
    | with_reducible refine State.withdrawCommit_keeps _ _ _ (Mask.trans (by decide) hm) ?_
    | with_reducible refine State.dropCommits_keeps _ _ _ (Mask.trans (by decide) hm) ?_
    | with_reducible refine State.dropSnapshot_keeps _ _ _ (Mask.trans (by decide) hm) ?_
    | with_reducible refine State.streamReset_keeps _ _ _ (Mask.trans (by decide) hm) ?_
    | with_reducible refine State.fabBlockReset_keeps _ _ _ (Mask.trans (by decide) hm) ?_
    | with_reducible refine State.stewardReset_keeps _ _ _ (Mask.trans (by decide) hm) ?_
    | with_reducible refine State.noteReasons_keeps _ _ _ (Mask.trans (by decide) hm) ?_
    | with_reducible refine State.setFlag_at .HEATH_RESET_CTRL rfl (Mask.trans (by decide) hm) ?_
    | with_reducible refine State.incSat_at .HEATH_RESET_CAUSE rfl (Mask.trans (by decide) hm) ?_
    | (simp only [Kept.made]; with_reducible refine Kept.set_ps (Mask.trans (by decide) hm) (by rfl) (by rfl) ?_)
    | with_reducible refine State.setFlag_at .HEATH_RESET_CAUSE rfl (Mask.trans (by decide) hm) ?_
    | split)

theorem State.replayRequests_keeps (m : Nat) (s0 : State) (s : State) (hm : 0x1000000000000000000000000000000000000001e00 &&& m = 0x1000000000000000000000000000000000000001e00)
    (hk : Kept m s0 s) : Kept m s0 (State.replayRequests s) := by
  unfold State.replayRequests
  try dsimp only
  repeat' (first
    | with_reducible assumption
    | with_reducible apply Kept.ite
    | with_reducible refine State.setAgent_keeps _ _ _ _ _ (Mask.trans (by decide) hm) ?_
    | with_reducible refine State.checkWave_keeps _ _ _ (Mask.trans (by decide) hm) ?_
    | (simp only [Kept.made]; with_reducible refine Kept.set_arb (Mask.trans (by decide) hm) ?_)
    | with_reducible refine Kept.each ?_ (fun _ _ _ => ?_)
    | split)

theorem State.replaySevere_keeps (m : Nat) (s0 : State) (s : State) (hm : 0x81c00001000000000000008000000000000000000000001a00 &&& m = 0x81c00001000000000000008000000000000000000000001a00)
    (hk : Kept m s0 s) : Kept m s0 (State.replaySevere s) := by
  unfold State.replaySevere
  try dsimp only
  repeat' (first
    | with_reducible assumption
    | with_reducible apply Kept.ite
    | with_reducible refine State.severeReport_keeps _ _ _ _ (Mask.trans (by decide) hm) ?_
    | with_reducible refine State.setAgent_keeps _ _ _ _ _ (Mask.trans (by decide) hm) ?_
    | with_reducible refine Kept.each ?_ (fun _ _ _ => ?_))

theorem State.rewatch_keeps (m : Nat) (s0 : State) (s : State) (hm : 0x40 &&& m = 0x40)
    (hk : Kept m s0 s) : Kept m s0 (State.rewatch s) := by
  unfold State.rewatch
  try dsimp only
  repeat' (first
    | with_reducible assumption
    | with_reducible refine State.driveRange_keeps _ _ _ _ (Mask.trans (by decide) hm) ?_
    | with_reducible refine Kept.each ?_ (fun _ _ _ => ?_))

theorem State.clocksForReset_keeps (m : Nat) (s0 : State) (s : State) (hm : 0x4046800000000000000000000002007165244 &&& m = 0x4046800000000000000000000002007165244)
    (hk : Kept m s0 s) : Kept m s0 (State.clocksForReset s) := by
  unfold State.clocksForReset
  try dsimp only
  repeat' (first
    | with_reducible assumption
    | with_reducible apply Kept.ite
    | with_reducible refine State.startCore_keeps _ _ _ (Mask.trans (by decide) hm) ?_
    | with_reducible refine State.startSteward_keeps _ _ _ (Mask.trans (by decide) hm) ?_
    | with_reducible refine State.lingerFrom_keeps _ _ _ _ (Mask.trans (by decide) hm) ?_
    | (simp only [Kept.made]; with_reducible refine Kept.set_ps (Mask.trans (by decide) hm) (by rfl) (by rfl) ?_)
    | split)

theorem State.resetComplete_keeps (m : Nat) (s0 : State) (s : State) (hm : 0x81c1600d20000404680004801c40010003a8002a20a7fedfcd &&& m = 0x81c1600d20000404680004801c40010003a8002a20a7fedfcd)
    (hk : Kept m s0 s) : Kept m s0 (State.resetComplete s) := by
  unfold State.resetComplete
  try dsimp only
  repeat' (first
    | with_reducible assumption
    | with_reducible apply Kept.ite
    | with_reducible refine State.clocksForReset_keeps _ _ _ (Mask.trans (by decide) hm) ?_
    | with_reducible refine State.gapBooking_keeps _ _ _ (Mask.trans (by decide) hm) ?_
    | with_reducible refine State.tellGap_keeps _ _ _ _ (Mask.trans (by decide) hm) ?_
    | with_reducible refine State.replaySevere_keeps _ _ _ (Mask.trans (by decide) hm) ?_
    | with_reducible refine State.replayRequests_keeps _ _ _ (Mask.trans (by decide) hm) ?_
    | with_reducible refine State.abortCommit_keeps _ _ _ _ (Mask.trans (by decide) hm) ?_
    | with_reducible refine State.markLost_keeps _ _ _ _ (Mask.trans (by decide) hm) ?_
    | with_reducible refine State.fabResend_keeps _ _ _ (Mask.trans (by decide) hm) ?_
    | with_reducible refine State.report_keeps _ _ _ _ (Mask.trans (by decide) hm) ?_
    | with_reducible refine State.rewatch_keeps _ _ _ (Mask.trans (by decide) hm) ?_
    | with_reducible refine State.noteReasons_keeps _ _ _ (Mask.trans (by decide) hm) ?_
    | with_reducible refine State.memPump_keeps _ _ _ (Mask.trans (by decide) hm) ?_
    | with_reducible refine State.queueOwed_keeps _ _ _ (Mask.trans (by decide) hm) ?_
    | with_reducible refine State.setFlag_at .HEATH_RESET_CTRL rfl (Mask.trans (by decide) hm) ?_
    | (simp only [Kept.made]; with_reducible refine Kept.set_thm (Mask.trans (by decide) hm) ?_)
    | (simp only [Kept.made]; with_reducible refine Kept.set_drp (Mask.trans (by decide) hm) ?_)
    | split)

theorem State.trapCores_keeps (m : Nat) (s0 : State) (s : State) (i : Nat) (hm : 0x4046800000000000000000000002007165244 &&& m = 0x4046800000000000000000000002007165244)
    (hk : Kept m s0 s) : Kept m s0 (State.trapCores s i) := by
  unfold State.trapCores
  try dsimp only
  repeat' (first
    | with_reducible assumption
    | with_reducible apply Kept.ite
    | with_reducible refine State.startCore_keeps _ _ _ (Mask.trans (by decide) hm) ?_
    | with_reducible refine State.startSteward_keeps _ _ _ (Mask.trans (by decide) hm) ?_
    | with_reducible refine State.lingerFrom_keeps _ _ _ _ (Mask.trans (by decide) hm) ?_
    | with_reducible refine State.emit_keeps _ _ _ _ (Mask.trans (by decide) hm) ?_
    | split)

theorem State.chipReset_keeps (m : Nat) (s0 : State) (s : State) (hm : 0x10000020000 &&& m = 0x10000020000)
    (hk : Kept m s0 s) : Kept m s0 (State.chipReset s) := by
  unfold State.chipReset
  try dsimp only
  repeat' (first
    | with_reducible assumption
    | with_reducible refine State.setFlag_at .HEATH_RESET_CAUSE rfl (Mask.trans (by decide) hm) ?_
    | (simp only [Kept.made]; with_reducible refine Kept.set_ps (Mask.trans (by decide) hm) (by rfl) (by rfl) ?_))

theorem State.hubReset_keeps (m : Nat) (s0 : State) (s : State) (hm : 0x81f0000500010404683004001c4001000ba8002f21a7fedfcd &&& m = 0x81f0000500010404683004001c4001000ba8002f21a7fedfcd)
    (hk : Kept m s0 s) : Kept m s0 (State.hubReset s) := by
  unfold State.hubReset
  try dsimp only
  repeat' (first
    | with_reducible assumption
    | with_reducible apply Kept.ite
    | with_reducible refine State.haltStartUp_keeps _ _ _ (Mask.trans (by decide) hm) ?_
    | with_reducible refine State.blockReset_keeps _ _ _ _ (Mask.trans (by decide) hm) ?_
    | with_reducible refine State.setFlag_at .FH_STATUS rfl (Mask.trans (by decide) hm) ?_
    | (simp only [Kept.made]; with_reducible refine Kept.set_hub (Mask.trans (by decide) hm) ?_))

theorem State.hubRaise_keeps (m : Nat) (s0 : State) (s : State) (i : Nat) (syn : Nat) (forced : Bool) (hm : 0x81f0000500010404683004001c400107fba8002f21a7fedfcd &&& m = 0x81f0000500010404683004001c400107fba8002f21a7fedfcd)
    (hk : Kept m s0 s) : Kept m s0 (State.hubRaise s i syn forced) := by
  unfold State.hubRaise
  try dsimp only
  repeat' (first
    | with_reducible assumption
    | with_reducible apply Kept.ite
    | with_reducible refine State.hubLatch_keeps _ _ _ _ _ _ (Mask.trans (by decide) hm) ?_
    | with_reducible refine State.trapCores_keeps _ _ _ _ (Mask.trans (by decide) hm) ?_
    | with_reducible refine State.chipReset_keeps _ _ _ (Mask.trans (by decide) hm) ?_
    | with_reducible refine State.hubReset_keeps _ _ _ (Mask.trans (by decide) hm) ?_)

theorem State.faultRaise_keeps (m : Nat) (s0 : State) (s : State) (i : Nat) (syn : Nat) (hm : 0x81f0000500010404683004001c400107fba8002f21a7fedfcd &&& m = 0x81f0000500010404683004001c400107fba8002f21a7fedfcd)
    (hk : Kept m s0 s) : Kept m s0 (State.faultRaise s i syn) := by
  unfold State.faultRaise
  try dsimp only
  repeat' (first
    | with_reducible assumption
    | with_reducible apply Kept.ite
    | with_reducible refine State.hubRaise_keeps _ _ _ _ _ _ (Mask.trans (by decide) hm) ?_
    | with_reducible refine State.wakeLinks_keeps _ _ _ (Mask.trans (by decide) hm) ?_
    | (simp only [Kept.made]; with_reducible refine Kept.set_raises (Mask.trans (by decide) hm) ?_)
    | split)

theorem State.stormEnd_keeps (m : Nat) (s0 : State) (s : State) (hm : 0x80000000000000006 &&& m = 0x80000000000000006)
    (hk : Kept m s0 s) : Kept m s0 (State.stormEnd s) := by
  unfold State.stormEnd
  try dsimp only
  repeat' (first
    | with_reducible assumption
    | with_reducible apply Kept.ite
    | with_reducible refine State.advanceTo_keeps _ _ _ _ (Mask.trans (by decide) hm) ?_
    | with_reducible refine State.setFlag_at .FH_STATUS rfl (Mask.trans (by decide) hm) ?_
    | split)

theorem State.loadOtp_keeps (m : Nat) (s0 : State) (s : State) (hm : 0x40000000000000000000000000000090000000201000000000 &&& m = 0x40000000000000000000000000000090000000201000000000)
    (hk : Kept m s0 s) : Kept m s0 (State.loadOtp s) := by
  unfold State.loadOtp
  try dsimp only
  repeat' (first
    | with_reducible assumption
    | with_reducible refine State.setFld_at .ID_TOPOLOGY rfl (Mask.trans (by decide) hm) ?_
    | with_reducible refine State.setFld_at .HEATH_FW_STATUS rfl (Mask.trans (by decide) hm) ?_
    | with_reducible refine State.setFld_at .ACC_STATE rfl (Mask.trans (by decide) hm) ?_
    | with_reducible refine State.setFld_at .THM_CTRL rfl (Mask.trans (by decide) hm) ?_
    | with_reducible refine State.setReg_at .anyReg trivial (Mask.trans (by decide) hm) ?_
    | with_reducible refine Kept.each ?_ (fun _ _ _ => ?_))

theorem State.keptRegs_wf (s : State) (h : SMap.wf resetWord s.regs) : SMap.wf resetWord s.keptRegs := by
  have h1 : SMap.rising (s.regs.map (fun p => (p.1, BitVec.ofNat 32 (s.keptWord p.1 p.2.toNat)))) := List.pairwise_map.mpr h.1
  refine ⟨h1.filter _, fun p hp => ?_⟩
  simpa using (List.mem_filter.mp hp).2

theorem State.powerOnReset_carries (m : Nat) (s : State) (hm : 0x400000000000000000000000000000000000000007ffffdfc5 &&& m = 0x400000000000000000000000000000000000000007ffffdfc5) : Carried m s s.powerOnReset :=
  ⟨fun hi => ⟨s.keptRegs_wf hi.1, fun h => absurd h (by simp [State.powerOnReset])⟩,
   fun off ho => absurd trivial (ho .anyReg (Mask.testBit_of (Mask.trans (by decide) hm))), rfl, rfl, ⟨[], by simp [State.powerOnReset]⟩, Nat.le_refl _,
   Nat.le_refl _, fun e => absurd (Mask.testBit_of (k := 0) (Mask.trans (by decide) hm)) (by simp [e]), fun _ => rfl,
   fun e => absurd (Mask.testBit_of (k := 2) (Mask.trans (by decide) hm)) (by simp [e]), fun _ => rfl, fun _
   => rfl, fun _ => rfl, fun e => absurd (Mask.testBit_of (k := 7) (Mask.trans (by decide) hm)) (by simp [e]), fun e => absurd
   (Mask.testBit_of (k := 8) (Mask.trans (by decide) hm)) (by simp [e]), fun e => absurd (Mask.testBit_of (k := 9) (Mask.trans (by decide) hm)) (by simp [e]), fun
   e => absurd (Mask.testBit_of (k := 10) (Mask.trans (by decide) hm)) (by simp [e]), fun e => absurd (Mask.testBit_of (k := 11) (Mask.trans (by decide) hm)) (by
   simp [e]), fun e => absurd (Mask.testBit_of (k := 12) (Mask.trans (by decide) hm)) (by simp [e]), fun _ => rfl, fun e => absurd
   (Mask.testBit_of (k := 14) (Mask.trans (by decide) hm)) (by simp [e]), fun e => absurd (Mask.testBit_of (k := 15) (Mask.trans (by decide) hm)) (by simp [e]),
   fun e => absurd (Mask.testBit_of (k := 16) (Mask.trans (by decide) hm)) (by simp [e]), fun e => absurd (Mask.testBit_of (k := 17) (Mask.trans (by decide) hm))
   (by simp [e]), fun e => absurd (Mask.testBit_of (k := 18) (Mask.trans (by decide) hm)) (by simp [e]), fun e => absurd (Mask.testBit_of
   (k := 19) (Mask.trans (by decide) hm)) (by simp [e]), fun e => absurd (Mask.testBit_of (k := 20) (Mask.trans (by decide) hm)) (by simp [e]), fun e => absurd
   (Mask.testBit_of (k := 21) (Mask.trans (by decide) hm)) (by simp [e]), fun e => absurd (Mask.testBit_of (k := 22) (Mask.trans (by decide) hm)) (by simp [e]),
   fun e => absurd (Mask.testBit_of (k := 23) (Mask.trans (by decide) hm)) (by simp [e]), fun e => absurd (Mask.testBit_of (k := 24) (Mask.trans (by decide) hm))
   (by simp [e]), fun e => absurd (Mask.testBit_of (k := 25) (Mask.trans (by decide) hm)) (by simp [e]), fun e => absurd (Mask.testBit_of
   (k := 26) (Mask.trans (by decide) hm)) (by simp [e]), fun e => absurd (Mask.testBit_of (k := 27) (Mask.trans (by decide) hm)) (by simp [e]), fun e => absurd
   (Mask.testBit_of (k := 28) (Mask.trans (by decide) hm)) (by simp [e]), fun e => absurd (Mask.testBit_of (k := 29) (Mask.trans (by decide) hm)) (by simp [e]),
   fun e => absurd (Mask.testBit_of (k := 30) (Mask.trans (by decide) hm)) (by simp [e]), fun e => absurd (Mask.testBit_of (k := 31) (Mask.trans (by decide) hm))
   (by simp [e]), fun e => absurd (Mask.testBit_of (k := 32) (Mask.trans (by decide) hm)) (by simp [e]), fun e => absurd (Mask.testBit_of
   (k := 33) (Mask.trans (by decide) hm)) (by simp [e]), fun e => absurd (Mask.testBit_of (k := 34) (Mask.trans (by decide) hm)) (by simp [e])⟩

theorem State.stopDomains_keeps (m : Nat) (s0 : State) (s : State) (hm : 0x2000000000 &&& m = 0x2000000000)
    (hk : Kept m s0 s) : Kept m s0 (State.stopDomains s) := by
  unfold State.stopDomains
  try dsimp only
  repeat' (first
    | with_reducible assumption
    | with_reducible refine State.setFlag_at .HEATH_DOMAIN_STATUS rfl (Mask.trans (by decide) hm) ?_)

theorem State.porstAssert_carries (m : Nat) (s : State) (hm : 0x400004000001000000000000000000900000002137ffffdfc5 &&& m = 0x400004000001000000000000000000900000002137ffffdfc5) : Carried m s s.porstAssert := by
  unfold State.porstAssert
  split
  · next hv => exact Carried.set_ps (Mask.trans (by decide) hm) (fun hi => hi)
  · split
    · exact Carried.of_kept (Kept.refl m s)
    · refine (s.powerOnReset_carries m (Mask.trans (by decide) hm)).trans (Carried.of_kept ?_)
      have h : Kept m s.powerOnReset ((((s.powerOnReset.loadOtp.setReg ID_TOPOLOGY (s.reg ID_TOPOLOGY)).setFld
          ID_TOPOLOGY.DIE_MASK 0).setFlag HEATH_RESET_CAUSE.PORST true).stopDomains) :=
        State.stopDomains_keeps m _ _ (Mask.trans (by decide) hm) (State.setFlag_at .HEATH_RESET_CAUSE rfl (Mask.trans (by decide) hm) (State.setFld_at .ID_TOPOLOGY rfl (Mask.trans (by decide) hm)
          (State.setReg_at .ID_TOPOLOGY rfl (Mask.trans (by decide) hm) (State.loadOtp_keeps m _ _ (Mask.trans (by decide) hm) (Kept.refl m _)))))
      have h3 := Kept.ite (c := s.snapOpen = true) (State.setFld_at .OBS_SNAP_STATUS (v := 3) (f := OBS_SNAP_STATUS.STATE) rfl (Mask.trans (by decide) hm) h) h
      exact Kept.ite (State.enterHoldover_keeps m _ _ (Mask.trans (by decide) hm) h3) h3

theorem State.porstRelease_keeps (m : Nat) (s0 s : State) (leaderSel : Bool) (dieId : Nat) (hm : 0xc4000008008000c9080840844 &&& m = 0xc4000008008000c9080840844)
    (hk : Kept m s0 { s with ps := { s.ps with porst := true, booting := true, pllStarting := true, exchange := true, early := none } }) :
    Kept m s0 (s.porstRelease leaderSel dieId) := by
  unfold State.porstRelease
  generalize ({ s with ps := { s.ps with porst := true, booting := true, pllStarting := true, exchange := true, early := none } } : State) = s1 at hk
  dsimp only
  repeat' (first
    | with_reducible assumption
    | with_reducible apply Kept.ite
    | with_reducible refine State.noteReasons_keeps m _ _ (Mask.trans (by decide) hm) ?_
    | with_reducible refine State.gorseForce_keeps m _ _ (Mask.trans (by decide) hm) ?_
    | with_reducible refine State.setFlag_at .ID_TOPOLOGY rfl (Mask.trans (by decide) hm) ?_
    | with_reducible refine State.setFld_at .ID_TOPOLOGY rfl (Mask.trans (by decide) hm) ?_
    | with_reducible refine State.setFld_at .HEATH_BOOT_STATUS rfl (Mask.trans (by decide) hm) ?_
    | with_reducible refine State.noteLines_keeps m _ _ (Mask.trans (by decide) hm) ?_
    | with_reducible refine State.setReg_at .HEATH_WAKE_CAUSE rfl (Mask.trans (by decide) hm) ?_
    | with_reducible refine State.nextEpoch_keeps m _ _ (Mask.trans (by decide) hm) ?_
    | with_reducible refine State.bell_keeps m _ _ _ (Mask.trans (by decide) hm) ?_
    | (simp only [Kept.made]; with_reducible refine Kept.set_sky (Mask.trans (by decide) hm) ?_)
    | (simp only [Kept.made]; with_reducible refine Kept.set_lim (Mask.trans (by decide) hm) ?_)
    | split)

theorem State.porstDeassert_carries (m : Nat) (s : State) (leaderSel : Bool) (dieId : Nat) (hm : 0xc4000008008000c9080860844 &&& m = 0xc4000008008000c9080860844) : Carried m s (s.porstDeassert leaderSel dieId) := by
  unfold State.porstDeassert
  split
  · exact Carried.set_ps (Mask.trans (by decide) hm) (fun hi => hi)
  · next hv =>
    split
    · exact Carried.of_kept (Kept.refl m s)
    · refine Carried.trans (t := { s with ps := { s.ps with porst := true, booting := true, pllStarting := true, exchange := true, early := none } })
        (Carried.set_ps (Mask.trans (by decide) hm) (fun _ hf => absurd hf (by simpa using hv))) (Carried.of_kept (State.porstRelease_keeps m _ _ _ _ (Mask.trans (by decide) hm) (Kept.refl m _)))

theorem State.released_carries (m : Nat) (s t : State) (hm : 0x4000000000000000000000000c4000908008002c9080860844 &&& m = 0x4000000000000000000000000c4000908008002c9080860844) (h : Carried m s t) (hv : t.ps.vaon = true) :
    Carried m s (match t.ps.early with
      | some x => t.porstRelease x.1 x.2
      | none => t) := by
  split
  · exact h.trans (Carried.trans (t := { t with ps := { t.ps with porst := true, booting := true, pllStarting := true, exchange := true, early := none } })
      (Carried.set_ps (Mask.trans (by decide) hm) (fun _ hf => absurd hf (by simp [hv]))) (Carried.of_kept (State.porstRelease_keeps m _ _ _ _ (Mask.trans (by decide) hm) (Kept.refl m _))))
  · exact h

theorem State.vaonRelease_carries (m : Nat) (s : State) (hm : 0x4000000000000000000000000c4000908008002c9080860844 &&& m = 0x4000000000000000000000000c4000908008002c9080860844) : Carried m s s.vaonRelease := by
  unfold State.vaonRelease
  split
  · exact Carried.of_kept (Kept.refl m s)
  · have h1 : Carried m s { s with ps := { s.ps with vaon := true } } := Carried.set_ps (Mask.trans (by decide) hm) (fun _ hf => absurd hf (by simp))
    have h2 := State.loadOtp_keeps m _ _ (Mask.trans (by decide) hm) (Kept.set_lim
      (x_lim := { s.lim with emergency := s.lim.pinLow, edge := s.lim.pinLow }) (Mask.trans (by decide) hm)
      (Kept.refl m ({ s with ps := { s.ps with vaon := true } } : State)))
    exact State.released_carries m s _ (Mask.trans (by decide) hm) (h1.trans (Carried.of_kept h2)) h2.vaon

theorem State.heathPor_carries (m : Nat) (s : State) (hm : 0x400000000000000000000000000000000000000007ffffdf85 &&& m = 0x400000000000000000000000000000000000000007ffffdf85) : Carried m s s.heathPor :=
  ⟨fun _ => ⟨SMap.wf_nil _, fun _ => rfl⟩, fun off ho => absurd trivial (ho .anyReg (Mask.testBit_of (Mask.trans (by decide) hm))), rfl, rfl,
   ⟨[], by simp [State.heathPor]⟩, Nat.le_refl _, Nat.le_refl _, fun e => absurd (Mask.testBit_of (k := 0) (Mask.trans (by decide) hm)) (by simp [e]), fun _ => rfl, fun e => absurd (Mask.testBit_of
   (k := 2) (Mask.trans (by decide) hm)) (by simp [e]), fun _ => rfl, fun _ => rfl, fun _ => rfl, fun e => absurd (Mask.testBit_of (k :=
   7) (Mask.trans (by decide) hm)) (by simp [e]), fun e => absurd (Mask.testBit_of (k := 8) (Mask.trans (by decide) hm)) (by simp [e]), fun e => absurd
   (Mask.testBit_of (k := 9) (Mask.trans (by decide) hm)) (by simp [e]), fun e => absurd (Mask.testBit_of (k := 10) (Mask.trans (by decide) hm)) (by simp [e]),
   fun e => absurd (Mask.testBit_of (k := 11) (Mask.trans (by decide) hm)) (by simp [e]), fun e => absurd (Mask.testBit_of (k := 12) (Mask.trans (by decide) hm))
   (by simp [e]), fun _ => rfl, fun e => absurd (Mask.testBit_of (k := 14) (Mask.trans (by decide) hm)) (by simp [e]), fun e => absurd
   (Mask.testBit_of (k := 15) (Mask.trans (by decide) hm)) (by simp [e]), fun e => absurd (Mask.testBit_of (k := 16) (Mask.trans (by decide) hm)) (by simp [e]),
   fun e => absurd (Mask.testBit_of (k := 17) (Mask.trans (by decide) hm)) (by simp [e]), fun e => absurd (Mask.testBit_of (k := 18) (Mask.trans (by decide) hm))
   (by simp [e]), fun e => absurd (Mask.testBit_of (k := 19) (Mask.trans (by decide) hm)) (by simp [e]), fun e => absurd (Mask.testBit_of
   (k := 20) (Mask.trans (by decide) hm)) (by simp [e]), fun e => absurd (Mask.testBit_of (k := 21) (Mask.trans (by decide) hm)) (by simp [e]), fun e => absurd
   (Mask.testBit_of (k := 22) (Mask.trans (by decide) hm)) (by simp [e]), fun e => absurd (Mask.testBit_of (k := 23) (Mask.trans (by decide) hm)) (by simp [e]),
   fun e => absurd (Mask.testBit_of (k := 24) (Mask.trans (by decide) hm)) (by simp [e]), fun e => absurd (Mask.testBit_of (k := 25) (Mask.trans (by decide) hm))
   (by simp [e]), fun e => absurd (Mask.testBit_of (k := 26) (Mask.trans (by decide) hm)) (by simp [e]), fun e => absurd (Mask.testBit_of
   (k := 27) (Mask.trans (by decide) hm)) (by simp [e]), fun e => absurd (Mask.testBit_of (k := 28) (Mask.trans (by decide) hm)) (by simp [e]), fun e => absurd
   (Mask.testBit_of (k := 29) (Mask.trans (by decide) hm)) (by simp [e]), fun e => absurd (Mask.testBit_of (k := 30) (Mask.trans (by decide) hm)) (by simp [e]),
   fun e => absurd (Mask.testBit_of (k := 31) (Mask.trans (by decide) hm)) (by simp [e]), fun e => absurd (Mask.testBit_of (k := 32) (Mask.trans (by decide) hm))
   (by simp [e]), fun e => absurd (Mask.testBit_of (k := 33) (Mask.trans (by decide) hm)) (by simp [e]), fun e => absurd (Mask.testBit_of
   (k := 34) (Mask.trans (by decide) hm)) (by simp [e])⟩

theorem State.startClocks_keeps (m : Nat) (s0 : State) (s : State) (hm : 0x106000404 &&& m = 0x106000404)
    (hk : Kept m s0 s) : Kept m s0 (State.startClocks s) := by
  unfold State.startClocks
  try dsimp only
  repeat' (first
    | with_reducible assumption
    | (simp only [Kept.made]; with_reducible refine Kept.set_sky_arb_est_thm_obs (Mask.trans (by decide) hm) ?_))

theorem State.sendStraps_keeps (m : Nat) (s0 : State) (s : State) (hm : 0x40040 &&& m = 0x40040)
    (hk : Kept m s0 s) : Kept m s0 (State.sendStraps s) := by
  unfold State.sendStraps
  try dsimp only
  repeat' (first
    | with_reducible assumption
    | with_reducible apply Kept.ite
    | with_reducible refine State.send_keeps _ _ _ _ _ _ (Mask.trans (by decide) hm) ?_
    | with_reducible refine Kept.each ?_ (fun _ _ _ => ?_)
    | split)

theorem State.dropUnheard_keeps (m : Nat) (s0 : State) (s : State) (hm : 0x40000 &&& m = 0x40000)
    (hk : Kept m s0 s) : Kept m s0 (State.dropUnheard s) := by
  unfold State.dropUnheard
  try dsimp only
  repeat' (first
    | with_reducible assumption
    | with_reducible apply Kept.ite
    | with_reducible refine State.setLink_keeps _ _ _ _ _ (Mask.trans (by decide) hm) ?_
    | with_reducible refine Kept.each ?_ (fun _ _ _ => ?_)
    | split)

theorem State.pllLock_keeps (m : Nat) (s0 : State) (s : State) (hm : 0x81c000010000040468000400100000000000000821a796dfc4 &&& m = 0x81c000010000040468000400100000000000000821a796dfc4)
    (hk : Kept m s0 s) : Kept m s0 (State.pllLock s) := by
  unfold State.pllLock
  try dsimp only
  repeat' (first
    | with_reducible assumption
    | with_reducible apply Kept.ite
    | with_reducible refine State.startClocks_keeps _ _ _ (Mask.trans (by decide) hm) ?_
    | with_reducible refine State.gapCore_keeps _ _ _ (Mask.trans (by decide) hm) ?_
    | with_reducible refine State.startSteward_keeps _ _ _ (Mask.trans (by decide) hm) ?_
    | with_reducible refine State.sendStraps_keeps _ _ _ (Mask.trans (by decide) hm) ?_
    | with_reducible refine State.startCore_keeps _ _ _ (Mask.trans (by decide) hm) ?_
    | with_reducible refine State.startWoken_keeps _ _ _ (Mask.trans (by decide) hm) ?_
    | with_reducible refine State.tryStepSix_keeps _ _ _ (Mask.trans (by decide) hm) ?_
    | with_reducible refine State.setFlag_at .HEATH_DOMAIN_STATUS rfl (Mask.trans (by decide) hm) ?_
    | (simp only [Kept.made]; with_reducible refine Kept.set_ps (Mask.trans (by decide) hm) (by rfl) (by rfl) ?_)
    | split)

theorem State.strapClose_keeps (m : Nat) (s0 : State) (s : State) (hm : 0x81c020010000000000000400109000000000000830a286dfc6 &&& m = 0x81c020010000000000000400109000000000000830a286dfc6)
    (hk : Kept m s0 s) : Kept m s0 (State.strapClose s) := by
  unfold State.strapClose
  try dsimp only
  repeat' (first
    | with_reducible assumption
    | with_reducible apply Kept.ite
    | with_reducible refine State.advanceTo_keeps _ _ _ _ (Mask.trans (by decide) hm) ?_
    | with_reducible refine State.dropUnheard_keeps _ _ _ (Mask.trans (by decide) hm) ?_
    | with_reducible refine State.stopWith_keeps _ _ _ _ (Mask.trans (by decide) hm) ?_
    | with_reducible refine State.takeShares_keeps _ _ _ (Mask.trans (by decide) hm) ?_
    | with_reducible refine State.enqueueReserved_keeps _ _ _ _ (Mask.trans (by decide) hm) ?_
    | with_reducible refine State.report_keeps _ _ _ _ (Mask.trans (by decide) hm) ?_
    | with_reducible refine State.setFld_at .ID_TOPOLOGY rfl (Mask.trans (by decide) hm) ?_
    | with_reducible refine State.setFld_at .HDG_DIE_STATE rfl (Mask.trans (by decide) hm) ?_
    | with_reducible refine State.setFld_at .HEATH_BOOT_STATUS rfl (Mask.trans (by decide) hm) ?_
    | (simp only [Kept.made]; with_reducible refine Kept.set_ps (Mask.trans (by decide) hm) (by rfl) (by rfl) ?_)
    | (simp only [Kept.made]; with_reducible refine Kept.set_hdg (Mask.trans (by decide) hm) ?_)
    | with_reducible refine Kept.each ?_ (fun _ _ _ => ?_)
    | with_reducible refine Kept.fold ?_ (fun _ _ _ => ?_)
    | split)

end Sys2Proof.Machine
end

