-- ==== Sys2Proof/Laws/KeepsHedgerow.lean ====
section
/-! SUPPORT. What each operation of Machine/Hedgerow.lean keeps: every place outside its mask, the register store's form, the resets' levels,
the outputs so far, time and the queue. -/

namespace Sys2Proof.Machine

theorem State.forceFault_keeps (m : Nat) (s0 : State) (s : State) (source : Nat) (syn : Nat) (hm : 0x81f0000500010404683004001c400147fba8002f21a7fedfcd &&& m = 0x81f0000500010404683004001c400147fba8002f21a7fedfcd)
    (hk : Kept m s0 s) : Kept m s0 (State.forceFault s source syn).2 := by
  unfold State.forceFault
  try dsimp only
  repeat' (first
    | with_reducible assumption
    | with_reducible refine State.hubRaise_keeps _ _ _ _ _ _ (Mask.trans (by decide) hm) ?_
    | with_reducible refine State.incSat_at .ACC_DENIED rfl (Mask.trans (by decide) hm) ?_
    | split)

theorem State.serve_keeps (m : Nat) (s0 : State) (s : State) (tag : Nat) (c : FwdCmd) (hm : 0x81f00007c0010404683004001c400147fba8002f21a7fedfcd &&& m = 0x81f00007c0010404683004001c400147fba8002f21a7fedfcd)
    (hk : Kept m s0 s) : Kept m s0 (State.serve s tag c) := by
  unfold State.serve
  try dsimp only
  repeat' (first
    | with_reducible assumption
    | with_reducible apply Kept.ite
    | with_reducible refine State.cmdDone_keeps _ _ _ _ _ _ (Mask.trans (by decide) hm) ?_
    | with_reducible refine State.cmdDoneAfter_keeps _ _ _ _ _ _ _ _ (Mask.trans (by decide) hm) ?_
    | with_reducible refine State.armTrigger_keeps _ _ _ _ _ _ _ (Mask.trans (by decide) hm) ?_
    | with_reducible refine State.stileWait_keeps _ _ _ _ _ (Mask.trans (by decide) hm) ?_
    | with_reducible refine State.faultClear_keeps _ _ _ _ _ (Mask.trans (by decide) hm) ?_
    | with_reducible refine State.forceFault_keeps _ _ _ _ _ (Mask.trans (by decide) hm) ?_
    | with_reducible refine State.spendN_keeps _ _ _ _ (Mask.trans (by decide) hm) ?_
    | split)

theorem State.retryLink_keeps (m : Nat) (s0 : State) (s : State) (d : Nat) (hm : 0x91c9700d20000404683004001c40011803a8042820e7fedfcd &&& m = 0x91c9700d20000404683004001c40011803a8042820e7fedfcd)
    (hk : Kept m s0 s) : Kept m s0 (State.retryLink s d) := by
  unfold State.retryLink
  try dsimp only
  repeat' (first
    | with_reducible assumption
    | with_reducible apply Kept.ite
    | with_reducible refine State.linkFails_keeps _ _ _ _ (Mask.trans (by decide) hm) ?_
    | with_reducible refine State.setLink_keeps _ _ _ _ _ (Mask.trans (by decide) hm) ?_
    | with_reducible refine State.emit_keeps _ _ _ _ (Mask.trans (by decide) hm) ?_
    | with_reducible refine State.incSat_at .HDG_LINK ⟨_, rfl⟩ (Mask.trans (by decide) hm) ?_
    | with_reducible refine Kept.each ?_ (fun _ _ _ => ?_)
    | split)

theorem State.settleWatch_keeps (m : Nat) (s0 : State) (s : State) (hm : 0x1a000000000700040 &&& m = 0x1a000000000700040)
    (hk : Kept m s0 s) : Kept m s0 (State.settleWatch s) := by
  unfold State.settleWatch
  try dsimp only
  repeat' (first
    | with_reducible assumption
    | with_reducible apply Kept.ite
    | with_reducible refine State.done_keeps _ _ _ _ _ _ (Mask.trans (by decide) hm) ?_
    | with_reducible refine Kept.each ?_ (fun _ _ _ => ?_)
    | split)

theorem State.linkRests_keeps (m : Nat) (s0 : State) (s : State) (d : Nat) (hm : 0x40008 &&& m = 0x40008)
    (hk : Kept m s0 s) : Kept m s0 (State.linkRests s d) := by
  unfold State.linkRests
  try dsimp only
  repeat' (first
    | with_reducible assumption
    | with_reducible apply Kept.ite
    | with_reducible refine State.spent_keeps _ _ _ (Mask.trans (by decide) hm) ?_
    | with_reducible refine State.setLink_keeps _ _ _ _ _ (Mask.trans (by decide) hm) ?_
    | split)

theorem State.takeAck_keeps (m : Nat) (s0 : State) (s : State) (h : FlitHdr) (hm : 0x91c9700d20000404683004001c40011803a8042820e7fedfcd &&& m = 0x91c9700d20000404683004001c40011803a8042820e7fedfcd)
    (hk : Kept m s0 s) : Kept m s0 (State.takeAck s h) := by
  unfold State.takeAck
  try dsimp only
  repeat' (first
    | with_reducible assumption
    | with_reducible apply Kept.ite
    | with_reducible refine State.setLink_keeps _ _ _ _ _ (Mask.trans (by decide) hm) ?_
    | with_reducible refine State.retryLink_keeps _ _ _ _ (Mask.trans (by decide) hm) ?_
    | with_reducible refine State.drainLink_keeps _ _ _ _ _ (Mask.trans (by decide) hm) ?_
    | with_reducible refine State.linkRests_keeps _ _ _ _ (Mask.trans (by decide) hm) ?_
    | with_reducible refine State.settleWatch_keeps _ _ _ (Mask.trans (by decide) hm) ?_
    | split)

theorem State.sendLink_keeps (m : Nat) (s0 : State) (s : State) (d : Nat) (nak : Bool) (hm : 0x40 &&& m = 0x40)
    (hk : Kept m s0 s) : Kept m s0 (State.sendLink s d nak) := by
  unfold State.sendLink
  try dsimp only
  repeat' (first
    | with_reducible assumption
    | with_reducible refine State.emit_keeps _ _ _ _ (Mask.trans (by decide) hm) ?_)

theorem State.takeFlit_keeps (m : Nat) (s0 : State) (s : State) (h : FlitHdr) (act : State → State) (hm : 0x40040 &&& m = 0x40040)
    (hk : Kept m s0 s) (hact : ∀ u, Kept m s0 u → Kept m s0 (act u)) : Kept m s0 (State.takeFlit s h act) := by
  unfold State.takeFlit
  try dsimp only
  repeat' (first
    | with_reducible assumption
    | with_reducible apply Kept.ite
    | with_reducible refine State.setLink_keeps _ _ _ _ _ (Mask.trans (by decide) hm) ?_
    | with_reducible refine State.sendLink_keeps _ _ _ _ _ (Mask.trans (by decide) hm) ?_
    | with_reducible apply hact
    | split)

theorem State.noteEpoch_keeps (m : Nat) (s0 : State) (s : State) (h : FlitHdr) (hm : 0x800000000040040 &&& m = 0x800000000040040)
    (hk : Kept m s0 s) : Kept m s0 (State.noteEpoch s h) := by
  unfold State.noteEpoch
  try dsimp only
  repeat' (first
    | with_reducible assumption
    | with_reducible apply Kept.ite
    | with_reducible refine State.setLink_keeps _ _ _ _ _ (Mask.trans (by decide) hm) ?_
    | with_reducible refine State.bell_keeps _ _ _ _ (Mask.trans (by decide) hm) ?_
    | split)

theorem State.resendWords_keeps (m : Nat) (s0 : State) (s : State) (d : Nat) (hm : 0xc0040 &&& m = 0xc0040)
    (hk : Kept m s0 s) : Kept m s0 (State.resendWords s d) := by
  unfold State.resendWords
  try dsimp only
  repeat' (first
    | with_reducible assumption
    | with_reducible apply Kept.ite
    | with_reducible refine State.tellLevelTo_keeps _ _ _ _ _ (Mask.trans (by decide) hm) ?_
    | with_reducible refine Kept.each ?_ (fun _ _ _ => ?_)
    | split)

theorem State.wakeFalls_keeps (m : Nat) (s0 : State) (s : State) (hm : 0x40008 &&& m = 0x40008)
    (hk : Kept m s0 s) : Kept m s0 (State.wakeFalls s) := by
  unfold State.wakeFalls
  try dsimp only
  repeat' (first
    | with_reducible assumption
    | with_reducible apply Kept.ite
    | with_reducible refine State.spent_keeps _ _ _ (Mask.trans (by decide) hm) ?_
    | (simp only [Kept.made]; with_reducible refine Kept.set_hdg (Mask.trans (by decide) hm) ?_)
    | split)

theorem State.receive_keeps (m : Nat) (s0 : State) (s : State) (h : FlitHdr) (plain : Bool) (act : State → State) (hm : 0x91cd700d20000404683004001c40011803a8042820e7fedfcd &&& m = 0x91cd700d20000404683004001c40011803a8042820e7fedfcd)
    (hk : Kept m s0 s) (hact : ∀ u, Kept m s0 u → Kept m s0 (act u)) : Kept m s0 (State.receive s h plain act) := by
  unfold State.receive
  try dsimp only
  repeat' (first
    | with_reducible assumption
    | with_reducible apply Kept.ite
    | with_reducible refine State.lingerFrom_keeps _ _ _ _ (Mask.trans (by decide) hm) ?_
    | with_reducible refine State.wakeFalls_keeps _ _ _ (Mask.trans (by decide) hm) ?_
    | with_reducible refine State.sendLink_keeps _ _ _ _ _ (Mask.trans (by decide) hm) ?_
    | with_reducible refine State.noteEpoch_keeps _ _ _ _ (Mask.trans (by decide) hm) ?_
    | with_reducible refine State.takeAck_keeps _ _ _ _ (Mask.trans (by decide) hm) ?_
    | with_reducible refine State.takeFlit_keeps _ _ _ _ _ (Mask.trans (by decide) hm) ?_ (fun _ _ => ?_)
    | with_reducible refine State.incSat_at .HDG_LINK ⟨_, rfl⟩ (Mask.trans (by decide) hm) ?_
    | with_reducible refine State.incSat_at .HDG_DISCARD rfl (Mask.trans (by decide) hm) ?_
    | with_reducible apply hact
    | split)

theorem State.receiveStrap_keeps (m : Nat) (s0 : State) (s : State) (h : FlitHdr) (act : State → State) (hm : 0x91cd700d20000404683004001c40011803a8042820e7fedfcd &&& m = 0x91cd700d20000404683004001c40011803a8042820e7fedfcd)
    (hk : Kept m s0 s) (hact : ∀ t, Kept m s0 t → Kept m s0 (act t)) : Kept m s0 (State.receiveStrap s h act) := by
  unfold State.receiveStrap
  try dsimp only
  repeat' (first
    | with_reducible assumption
    | with_reducible apply Kept.ite
    | with_reducible refine State.receive_keeps _ _ _ _ _ _ (Mask.trans (by decide) hm) ?_ (fun _ _ => ?_)
    | with_reducible apply hact
    | split)

theorem State.flitDiscard_keeps (m : Nat) (s0 : State) (s : State) (src : Nat) (bs : List Nat) (hm : 0xc0000000000000000000000000000000000000000000040 &&& m = 0xc0000000000000000000000000000000000000000000040)
    (hk : Kept m s0 s) : Kept m s0 (State.flitDiscard s src bs) := by
  unfold State.flitDiscard
  try dsimp only
  repeat' (first
    | with_reducible assumption
    | with_reducible apply Kept.ite
    | with_reducible refine State.sendLink_keeps _ _ _ _ _ (Mask.trans (by decide) hm) ?_
    | with_reducible refine State.incSat_at .HDG_LINK ⟨_, rfl⟩ (Mask.trans (by decide) hm) ?_
    | with_reducible refine State.incSat_at .HDG_DISCARD rfl (Mask.trans (by decide) hm) ?_
    | split)

theorem State.retryTimeout_keeps (m : Nat) (s0 : State) (s : State) (d : Nat) (hm : 0x91c9700d20000404683004001c40011803a8042820e7fedfcf &&& m = 0x91c9700d20000404683004001c40011803a8042820e7fedfcf)
    (hk : Kept m s0 s) : Kept m s0 (State.retryTimeout s d) := by
  unfold State.retryTimeout
  try dsimp only
  repeat' (first
    | with_reducible assumption
    | with_reducible refine State.advanceTo_keeps _ _ _ _ (Mask.trans (by decide) hm) ?_
    | with_reducible refine State.retryLink_keeps _ _ _ _ (Mask.trans (by decide) hm) ?_
    | with_reducible refine State.settleWatch_keeps _ _ _ (Mask.trans (by decide) hm) ?_
    | split)

theorem State.refreshDie_keeps (m : Nat) (s0 : State) (s : State) (d : Nat) (hm : 0xc0040 &&& m = 0xc0040)
    (hk : Kept m s0 s) : Kept m s0 (State.refreshDie s d) := by
  unfold State.refreshDie
  try dsimp only
  repeat' (first
    | with_reducible assumption
    | with_reducible apply Kept.ite
    | with_reducible refine State.resendWords_keeps _ _ _ _ (Mask.trans (by decide) hm) ?_
    | with_reducible refine State.send_keeps _ _ _ _ _ _ (Mask.trans (by decide) hm) ?_
    | with_reducible refine Kept.each ?_ (fun _ _ _ => ?_)
    | split)

theorem State.awakeIn_keeps (m : Nat) (s0 : State) (s : State) (d : Nat) (hm : 0xc0040 &&& m = 0xc0040)
    (hk : Kept m s0 s) : Kept m s0 (State.awakeIn s d) := by
  unfold State.awakeIn
  try dsimp only
  repeat' (first
    | with_reducible assumption
    | with_reducible apply Kept.ite
    | with_reducible refine State.setLink_keeps _ _ _ _ _ (Mask.trans (by decide) hm) ?_
    | with_reducible refine State.drainLink_keeps _ _ _ _ _ (Mask.trans (by decide) hm) ?_
    | with_reducible refine State.refreshDie_keeps _ _ _ _ (Mask.trans (by decide) hm) ?_
    | with_reducible refine State.queueCatchUps_keeps _ _ _ (Mask.trans (by decide) hm) ?_
    | (simp only [Kept.made]; with_reducible refine Kept.set_hdg (Mask.trans (by decide) hm) ?_))

theorem State.wakeTimeout_keeps (m : Nat) (s0 : State) (s : State) (d : Nat) (hm : 0x91c9700d20000404683004001c40011803a8042820e7fedfcf &&& m = 0x91c9700d20000404683004001c40011803a8042820e7fedfcf)
    (hk : Kept m s0 s) : Kept m s0 (State.wakeTimeout s d) := by
  unfold State.wakeTimeout
  try dsimp only
  repeat' (first
    | with_reducible assumption
    | with_reducible apply Kept.ite
    | with_reducible refine State.advanceTo_keeps _ _ _ _ (Mask.trans (by decide) hm) ?_
    | with_reducible refine State.linkFails_keeps _ _ _ _ (Mask.trans (by decide) hm) ?_
    | with_reducible refine State.settleWatch_keeps _ _ _ (Mask.trans (by decide) hm) ?_
    | split)

theorem State.heartbeatSend_keeps (m : Nat) (s0 : State) (s : State) (hm : 0x40046 &&& m = 0x40046)
    (hk : Kept m s0 s) : Kept m s0 (State.heartbeatSend s) := by
  unfold State.heartbeatSend
  try dsimp only
  repeat' (first
    | with_reducible assumption
    | with_reducible apply Kept.ite
    | with_reducible refine State.advanceTo_keeps _ _ _ _ (Mask.trans (by decide) hm) ?_
    | with_reducible refine State.sendBeat_keeps _ _ _ _ (Mask.trans (by decide) hm) ?_
    | (simp only [Kept.made]; with_reducible refine Kept.set_hdg (Mask.trans (by decide) hm) ?_))

theorem State.heartbeatMiss_keeps (m : Nat) (s0 : State) (s : State) (d : Nat) (hm : 0x91c1700d20000404683004001c40011803a8042820e7fedfcd &&& m = 0x91c1700d20000404683004001c40011803a8042820e7fedfcd)
    (hk : Kept m s0 s) : Kept m s0 (State.heartbeatMiss s d) := by
  unfold State.heartbeatMiss
  try dsimp only
  repeat' (first
    | with_reducible assumption
    | with_reducible apply Kept.ite
    | with_reducible refine State.setLink_keeps _ _ _ _ _ (Mask.trans (by decide) hm) ?_
    | with_reducible refine State.markLost_keeps _ _ _ _ (Mask.trans (by decide) hm) ?_
    | with_reducible refine State.settleWatch_keeps _ _ _ (Mask.trans (by decide) hm) ?_
    | with_reducible refine State.autonomous_keeps _ _ _ (Mask.trans (by decide) hm) ?_)

theorem State.onHeartbeat_keeps (m : Nat) (s0 : State) (s : State) (d : Nat) (pstate : Nat) (stopped : Bool) (autonomous : Bool) (hm : 0x91c1700d20000404683004001c40011803a8042820e7fedfcd &&& m = 0x91c1700d20000404683004001c40011803a8042820e7fedfcd)
    (hk : Kept m s0 s) : Kept m s0 (State.onHeartbeat s d pstate stopped autonomous) := by
  unfold State.onHeartbeat
  try dsimp only
  repeat' (first
    | with_reducible assumption
    | with_reducible apply Kept.ite
    | with_reducible refine State.setLink_keeps _ _ _ _ _ (Mask.trans (by decide) hm) ?_
    | with_reducible refine State.linkRests_keeps _ _ _ _ (Mask.trans (by decide) hm) ?_
    | with_reducible refine State.markLost_keeps _ _ _ _ (Mask.trans (by decide) hm) ?_
    | with_reducible refine State.originateAll_keeps _ _ _ (Mask.trans (by decide) hm) ?_
    | with_reducible refine State.autonomous_keeps _ _ _ (Mask.trans (by decide) hm) ?_
    | with_reducible refine State.setFld_at .HDG_DIE_STATE rfl (Mask.trans (by decide) hm) ?_
    | (simp only [Kept.made]; with_reducible refine Kept.set_lim (Mask.trans (by decide) hm) ?_)
    | split)

theorem State.onStrap_keeps (m : Nat) (s0 : State) (s : State) (d : Nat) (dieId : Nat) (leader : Bool) (hm : 0x81c1600d20000404680004001000010003a8002820a7fedfcd &&& m = 0x81c1600d20000404680004001000010003a8002820a7fedfcd)
    (hk : Kept m s0 s) : Kept m s0 (State.onStrap s d dieId leader) := by
  unfold State.onStrap
  try dsimp only
  repeat' (first
    | with_reducible assumption
    | with_reducible apply Kept.ite
    | with_reducible refine State.setLink_keeps _ _ _ _ _ (Mask.trans (by decide) hm) ?_
    | with_reducible refine State.markLost_keeps _ _ _ _ (Mask.trans (by decide) hm) ?_)

theorem State.onEvent_keeps (m : Nat) (s0 : State) (s : State) (d : Nat) (e : DieEvent) (hm : 0x81c1600d20000404680004001100010083a8002820a7fedfcd &&& m = 0x81c1600d20000404680004001100010083a8002820a7fedfcd)
    (hk : Kept m s0 s) : Kept m s0 (State.onEvent s d e) := by
  unfold State.onEvent
  try dsimp only
  repeat' (first
    | with_reducible assumption
    | with_reducible apply Kept.ite
    | with_reducible refine State.faultEvent_keeps _ _ _ _ _ _ _ _ _ (Mask.trans (by decide) hm) ?_
    | with_reducible refine State.putLines_keeps _ _ _ _ _ _ _ (Mask.trans (by decide) hm) ?_
    | with_reducible refine State.slowDownAt_keeps _ _ _ _ _ _ _ (Mask.trans (by decide) hm) ?_
    | with_reducible refine State.newEvent_keeps _ _ _ _ _ _ _ (Mask.trans (by decide) hm) ?_
    | with_reducible refine State.markLost_keeps _ _ _ _ (Mask.trans (by decide) hm) ?_
    | with_reducible refine State.setLink_keeps _ _ _ _ _ (Mask.trans (by decide) hm) ?_
    | with_reducible refine State.reachReady_keeps _ _ _ (Mask.trans (by decide) hm) ?_
    | with_reducible refine State.originateAll_keeps _ _ _ (Mask.trans (by decide) hm) ?_
    | with_reducible refine State.bell_keeps _ _ _ _ (Mask.trans (by decide) hm) ?_
    | with_reducible refine State.takeFlags_keeps _ _ _ _ _ (Mask.trans (by decide) hm) ?_
    | with_reducible refine State.resendWords_keeps _ _ _ _ (Mask.trans (by decide) hm) ?_
    | (simp only [Kept.made]; with_reducible refine Kept.set_ps (Mask.trans (by decide) hm) (by rfl) (by rfl) ?_)
    | (simp only [Kept.made]; with_reducible refine Kept.set_fab (Mask.trans (by decide) hm) ?_)
    | split)

theorem State.dataToLeader_keeps (m : Nat) (s0 : State) (s : State) (d : Nat) (b : Bulk) (hm : 0x1e0084046000000000000000000000000107008000 &&& m = 0x1e0084046000000000000000000000000107008000)
    (hk : Kept m s0 s) : Kept m s0 (State.dataToLeader s d b) := by
  unfold State.dataToLeader
  try dsimp only
  repeat' (first
    | with_reducible assumption
    | with_reducible apply Kept.ite
    | with_reducible refine State.addWatch_keeps _ _ _ _ (Mask.trans (by decide) hm) ?_
    | with_reducible refine State.bookGapOf_keeps _ _ _ _ _ _ _ (Mask.trans (by decide) hm) ?_
    | with_reducible refine State.bankLate_keeps _ _ _ _ (Mask.trans (by decide) hm) ?_
    | with_reducible refine State.pkgSums_keeps _ _ _ (Mask.trans (by decide) hm) ?_
    | with_reducible refine State.bankPkg_keeps _ _ _ (Mask.trans (by decide) hm) ?_
    | (simp only [Kept.made]; with_reducible refine Kept.set_thm (Mask.trans (by decide) hm) ?_)
    | (simp only [Kept.made]; with_reducible refine Kept.set_avs (Mask.trans (by decide) hm) ?_)
    | (simp only [Kept.made]; with_reducible refine Kept.set_obs (Mask.trans (by decide) hm) ?_)
    | split)

theorem State.takeBlock_keeps (m : Nat) (s0 : State) (s : State) (slot : Nat) (bytes : List Nat) (hm : 0x20000000 &&& m = 0x20000000)
    (hk : Kept m s0 s) : Kept m s0 (State.takeBlock s slot bytes) := by
  unfold State.takeBlock
  try dsimp only
  repeat' (first
    | with_reducible assumption
    | with_reducible apply Kept.ite
    | (simp only [Kept.made]; with_reducible refine Kept.set_fw (Mask.trans (by decide) hm) ?_)
    | split)

theorem State.dropCopy_keeps (m : Nat) (s0 : State) (s : State) (hm : 0x81c000010000040468000400100001000000002020a796df4c &&& m = 0x81c000010000040468000400100001000000002020a796df4c)
    (hk : Kept m s0 s) : Kept m s0 (State.dropCopy s) := by
  unfold State.dropCopy
  try dsimp only
  repeat' (first
    | with_reducible assumption
    | with_reducible apply Kept.ite
    | with_reducible refine State.coresReturn_keeps _ _ _ (Mask.trans (by decide) hm) ?_
    | with_reducible refine State.bootAgain_keeps _ _ _ (Mask.trans (by decide) hm) ?_
    | (simp only [Kept.made]; with_reducible refine Kept.set_fw (Mask.trans (by decide) hm) ?_)
    | split)

theorem State.withdrawServed_keeps (m : Nat) (s0 : State) (s : State) (hm : 0x140040 &&& m = 0x140040)
    (hk : Kept m s0 s) : Kept m s0 (State.withdrawServed s) := by
  unfold State.withdrawServed
  try dsimp only
  repeat' (first
    | with_reducible assumption
    | with_reducible apply Kept.ite
    | with_reducible refine State.fwdLine_keeps _ _ _ _ _ (Mask.trans (by decide) hm) ?_
    | (simp only [Kept.made]; with_reducible refine Kept.set_mem (Mask.trans (by decide) hm) ?_)
    | with_reducible refine Kept.each ?_ (fun _ _ _ => ?_)
    | split)

theorem State.dataToFollower_keeps (m : Nat) (s0 : State) (s : State) (b : Bulk) (hm : 0x91c0000121e00404683004001c4001180000042420ef96dfcd &&& m = 0x91c0000121e00404683004001c4001180000042420ef96dfcd)
    (hk : Kept m s0 s) : Kept m s0 (State.dataToFollower s b) := by
  unfold State.dataToFollower
  try dsimp only
  repeat' (first
    | with_reducible assumption
    | with_reducible apply Kept.ite
    | with_reducible refine State.takeBlock_keeps _ _ _ _ _ (Mask.trans (by decide) hm) ?_
    | with_reducible refine State.dropCopy_keeps _ _ _ (Mask.trans (by decide) hm) ?_
    | with_reducible refine State.coresRestart_keeps _ _ _ (Mask.trans (by decide) hm) ?_
    | with_reducible refine State.setWindow_keeps _ _ _ _ _ (Mask.trans (by decide) hm) ?_
    | with_reducible refine State.takeAccess_keeps _ _ _ _ _ _ _ (Mask.trans (by decide) hm) ?_
    | with_reducible refine State.setRange_keeps _ _ _ _ _ _ _ _ (Mask.trans (by decide) hm) ?_
    | with_reducible refine State.noteReasons_keeps _ _ _ (Mask.trans (by decide) hm) ?_
    | with_reducible refine State.withdrawServed_keeps _ _ _ (Mask.trans (by decide) hm) ?_
    | with_reducible refine State.setFld_at .HEATH_EPOCH rfl (Mask.trans (by decide) hm) ?_
    | with_reducible refine State.setFlag_at .RING_SAMP rfl (Mask.trans (by decide) hm) ?_
    | (simp only [Kept.made]; with_reducible refine Kept.set_hdg (Mask.trans (by decide) hm) ?_)
    | (simp only [Kept.made]; with_reducible refine Kept.set_fw (Mask.trans (by decide) hm) ?_)
    | (simp only [Kept.made]; with_reducible refine Kept.set_sky (Mask.trans (by decide) hm) ?_)
    | (simp only [Kept.made]; with_reducible refine Kept.set_staged (Mask.trans (by decide) hm) ?_)
    | (simp only [Kept.made]; with_reducible refine Kept.set_unattended (Mask.trans (by decide) hm) ?_)
    | split)

theorem State.fromLeader_keeps (m : Nat) (s0 : State) (s : State) (h : FlitHdr) (act : State → State) (hm : 0x91cd700d20000404683004001c40011803a8042820e7fedfcd &&& m = 0x91cd700d20000404683004001c40011803a8042820e7fedfcd)
    (hk : Kept m s0 s) (hact : ∀ u, Kept m s0 u → Kept m s0 (act u)) : Kept m s0 (State.fromLeader s h act) := by
  unfold State.fromLeader
  try dsimp only
  repeat' (first
    | with_reducible assumption
    | with_reducible apply Kept.ite
    | with_reducible refine State.receive_keeps _ _ _ _ _ _ (Mask.trans (by decide) hm) ?_ (fun _ _ => ?_)
    | with_reducible apply hact)

theorem State.toLeader_keeps (m : Nat) (s0 : State) (s : State) (h : FlitHdr) (act : State → State) (hm : 0x91cd700d20000404683004001c40011803a8042820e7fedfcd &&& m = 0x91cd700d20000404683004001c40011803a8042820e7fedfcd)
    (hk : Kept m s0 s) (hact : ∀ u, Kept m s0 u → Kept m s0 (act u)) : Kept m s0 (State.toLeader s h act) := by
  unfold State.toLeader
  try dsimp only
  repeat' (first
    | with_reducible assumption
    | with_reducible apply Kept.ite
    | with_reducible refine State.receive_keeps _ _ _ _ _ _ (Mask.trans (by decide) hm) ?_ (fun _ _ => ?_)
    | with_reducible refine State.settleWatch_keeps _ _ _ (Mask.trans (by decide) hm) ?_
    | with_reducible apply hact)

theorem State.onStage_keeps (m : Nat) (s0 : State) (s : State) (off : Nat) (value : Nat) (hm : 0x40001 &&& m = 0x40001)
    (hk : Kept m s0 s) : Kept m s0 (State.onStage s off value) := by
  unfold State.onStage
  try dsimp only
  repeat' (first
    | with_reducible assumption
    | with_reducible apply Kept.ite
    | with_reducible refine State.setStaged_keeps _ _ _ _ _ (Mask.trans (by decide) hm) ?_
    | (simp only [Kept.made]; with_reducible refine Kept.set_hdg (Mask.trans (by decide) hm) ?_))

theorem State.onCmd_keeps (m : Nat) (s0 : State) (s : State) (tag : Nat) (c : FwdCmd) (hm : 0x81f00007c0010404683004001c400147fba8002f21a7fedfcd &&& m = 0x81f00007c0010404683004001c400147fba8002f21a7fedfcd)
    (hk : Kept m s0 s) : Kept m s0 (State.onCmd s tag c) := by
  unfold State.onCmd
  try dsimp only
  repeat' (first
    | with_reducible assumption
    | with_reducible apply Kept.ite
    | with_reducible refine State.serve_keeps _ _ _ _ _ (Mask.trans (by decide) hm) ?_)

theorem State.cmdDoneTimeout_keeps (m : Nat) (s0 : State) (s : State) (tag : Nat) (hm : 0x1a000000000740047 &&& m = 0x1a000000000740047)
    (hk : Kept m s0 s) : Kept m s0 (State.cmdDoneTimeout s tag) := by
  unfold State.cmdDoneTimeout
  try dsimp only
  repeat' (first
    | with_reducible assumption
    | with_reducible refine State.advanceTo_keeps _ _ _ _ (Mask.trans (by decide) hm) ?_
    | with_reducible refine State.fwdEnd_keeps _ _ _ _ _ _ (Mask.trans (by decide) hm) ?_
    | split)

theorem State.stileAct_keeps (m : Nat) (s0 : State) (s : State) (h : Nat) (m' : StileMsg) (hm : 0x1a000000000741040 &&& m = 0x1a000000000741040)
    (hk : Kept m s0 s) : Kept m s0 (State.stileAct s h m') := by
  unfold State.stileAct
  try dsimp only
  repeat' (first
    | with_reducible assumption
    | with_reducible apply Kept.ite
    | with_reducible refine State.thawHalf_keeps _ _ _ _ (Mask.trans (by decide) hm) ?_
    | with_reducible refine State.clearHalf_keeps _ _ _ _ (Mask.trans (by decide) hm) ?_
    | with_reducible refine State.finishAfter_keeps _ _ _ _ _ _ _ _ (Mask.trans (by decide) hm) ?_
    | with_reducible refine State.cmdDoneAfter_keeps _ _ _ _ _ _ _ _ (Mask.trans (by decide) hm) ?_
    | (simp only [Kept.made]; with_reducible refine Kept.set_rings (Mask.trans (by decide) hm) ?_)
    | split)

theorem State.stileDrain_keeps (m : Nat) (s0 : State) (s : State) (h : Nat) (hm : 0x10000000000000000000000000000001a000000000741040 &&& m = 0x10000000000000000000000000000001a000000000741040)
    (hk : Kept m s0 s) : Kept m s0 (State.stileDrain s h) := by
  unfold State.stileDrain
  try dsimp only
  repeat' (first
    | with_reducible assumption
    | with_reducible apply Kept.ite
    | with_reducible refine State.emit_keeps _ _ _ _ (Mask.trans (by decide) hm) ?_
    | with_reducible refine State.setStile_keeps _ _ _ _ _ (Mask.trans (by decide) hm) ?_
    | with_reducible refine State.stileAct_keeps _ _ _ _ _ (Mask.trans (by decide) hm) ?_
    | (simp only [Kept.made]; with_reducible refine Kept.set_hdg (Mask.trans (by decide) hm) ?_)
    | with_reducible refine Kept.each ?_ (fun _ _ _ => ?_)
    | with_reducible refine State.setFlag_at .STILE_STATUS (by unfold stileWake; split <;> rfl) (Mask.trans (by decide) hm) ?_
    | split)

end Sys2Proof.Machine
end

