-- ==== Sys2Proof/Laws/KeepsOpcodes.lean ====
section
/-! SUPPORT. What each operation of Machine/Opcodes.lean keeps: every place outside its mask, the register store's form, the resets' levels,
the outputs so far, time and the queue. -/

namespace Sys2Proof.Machine

theorem State.judged_keeps (m : Nat) (s0 : State) (s : State) (m' : Nat) (bad : List (Bool × Nat)) (next : State → State) (hm : 0x1a000000000700040 &&& m = 0x1a000000000700040)
    (hk : Kept m s0 s) (hnext : ∀ u, Kept m s0 u → Kept m s0 (next u)) : Kept m s0 (State.judged s m' bad next) := by
  unfold State.judged
  try dsimp only
  repeat' (first
    | with_reducible assumption
    | with_reducible refine State.invalid_keeps _ _ _ _ _ (Mask.trans (by decide) hm) ?_
    | with_reducible apply hnext
    | split)

theorem State.forward_keeps (m : Nat) (s0 : State) (s : State) (m' : Nat) (d : Nat) (c : FwdCmd) (hm : 0x40040 &&& m = 0x40040)
    (hk : Kept m s0 s) : Kept m s0 (State.forward s m' d c) := by
  unfold State.forward
  try dsimp only
  repeat' (first
    | with_reducible assumption
    | with_reducible refine State.send_keeps _ _ _ _ _ _ (Mask.trans (by decide) hm) ?_
    | (simp only [Kept.made]; with_reducible refine Kept.set_hdg (Mask.trans (by decide) hm) ?_))

theorem State.atDie_keeps (m : Nat) (s0 : State) (s : State) (m' : Nat) (a : Active) (d : Nat) (c : FwdCmd) (own : State → State) (hm : 0x440040 &&& m = 0x440040)
    (hk : Kept m s0 s) (hown : ∀ u, Kept m s0 u → Kept m s0 (own u)) : Kept m s0 (State.atDie s m' a d c own) := by
  unfold State.atDie
  try dsimp only
  repeat' (first
    | with_reducible assumption
    | with_reducible apply Kept.ite
    | with_reducible refine State.waits_keeps _ _ _ _ _ (Mask.trans (by decide) hm) ?_
    | with_reducible refine State.forward_keeps _ _ _ _ _ _ (Mask.trans (by decide) hm) ?_
    | with_reducible apply hown)

theorem State.atAll_keeps (m : Nat) (s0 : State) (s : State) (m' : Nat) (a : Active) (own : List Nat) (c : FwdCmd) (last : List Nat → List Nat) (hm : 0x1a000000000740040 &&& m = 0x1a000000000740040)
    (hk : Kept m s0 s) : Kept m s0 (State.atAll s m' a own c last) := by
  unfold State.atAll
  try dsimp only
  repeat' (first
    | with_reducible assumption
    | with_reducible apply Kept.ite
    | with_reducible refine State.finish_keeps _ _ _ _ _ _ _ _ (Mask.trans (by decide) hm) ?_
    | with_reducible refine State.forward_keeps _ _ _ _ _ _ (Mask.trans (by decide) hm) ?_
    | with_reducible refine State.waits_keeps _ _ _ _ _ (Mask.trans (by decide) hm) ?_
    | with_reducible refine Kept.each ?_ (fun _ _ _ => ?_))

theorem State.discardStaged_keeps (m : Nat) (s0 : State) (s : State) (hm : 0x40041 &&& m = 0x40041)
    (hk : Kept m s0 s) : Kept m s0 (State.discardStaged s) := by
  unfold State.discardStaged
  try dsimp only
  repeat' (first
    | with_reducible assumption
    | with_reducible refine State.toFollowers_keeps _ _ _ _ (Mask.trans (by decide) hm) ?_
    | (simp only [Kept.made]; with_reducible refine Kept.set_staged_hdg (Mask.trans (by decide) hm) ?_))

theorem State.flushSlots_keeps (m : Nat) (s0 : State) (s : State) (epoch : Nat) (hm : 0x180000000000000 &&& m = 0x180000000000000)
    (hk : Kept m s0 s) : Kept m s0 (State.flushSlots s epoch).1 := by
  unfold State.flushSlots
  try dsimp only
  repeat' (first
    | with_reducible assumption
    | with_reducible refine State.setReg_at .MB_IN_FULL rfl (Mask.trans (by decide) hm) ?_
    | with_reducible refine State.setReg_at .MB_OUT_FULL rfl (Mask.trans (by decide) hm) ?_)

theorem State.flushOld_keeps (m : Nat) (s0 : State) (s : State) (m' : Nat) (hm : 0x640000 &&& m = 0x640000)
    (hk : Kept m s0 s) : Kept m s0 (State.flushOld s m').1 := by
  unfold State.flushOld
  try dsimp only
  repeat' (first
    | with_reducible assumption
    | (simp only [Kept.made]; with_reducible (apply Kept.of <;> first | rfl | exact .inr (Mask.trans (by decide) hm) | exact .inl rfl | skip)))

theorem State.attach_keeps (m : Nat) (s0 : State) (s : State) (m' : Nat) (hm : 0xc40000003b180040088f40141 &&& m = 0xc40000003b180040088f40141)
    (hk : Kept m s0 s) : Kept m s0 (State.attach s m') := by
  unfold State.attach
  try dsimp only
  repeat' (first
    | with_reducible assumption
    | with_reducible apply Kept.ite
    | with_reducible refine State.runOp_keeps _ _ _ _ _ _ (Mask.trans (by decide) hm) ?_ (fun _ _ => ?_)
    | with_reducible refine State.invalid_keeps _ _ _ _ _ (Mask.trans (by decide) hm) ?_
    | with_reducible refine State.judged_keeps _ _ _ _ _ _ (Mask.trans (by decide) hm) ?_ (fun _ _ => ?_)
    | with_reducible refine State.toFollowers_keeps _ _ _ _ (Mask.trans (by decide) hm) ?_
    | with_reducible refine State.flushSlots_keeps _ _ _ _ (Mask.trans (by decide) hm) ?_
    | with_reducible refine State.flushOld_keeps _ _ _ _ (Mask.trans (by decide) hm) ?_
    | with_reducible refine State.discardStaged_keeps _ _ _ (Mask.trans (by decide) hm) ?_
    | with_reducible refine State.levelOff_keeps _ _ _ _ (Mask.trans (by decide) hm) ?_
    | with_reducible refine State.pldmEvent_keeps _ _ _ _ _ _ (Mask.trans (by decide) hm) ?_
    | with_reducible refine State.noteReasons_keeps _ _ _ (Mask.trans (by decide) hm) ?_
    | with_reducible refine State.doneWith_keeps _ _ _ _ _ (Mask.trans (by decide) hm) ?_
    | with_reducible refine State.setFld_at .HEATH_EPOCH rfl (Mask.trans (by decide) hm) ?_
    | with_reducible refine State.setFld_at .CMD_SESSION rfl (Mask.trans (by decide) hm) ?_
    | with_reducible refine State.setFld_at .CMD_EVT rfl (Mask.trans (by decide) hm) ?_
    | (simp only [Kept.made]; with_reducible refine Kept.set_ses_unattended (Mask.trans (by decide) hm) ?_))

theorem State.detach_keeps (m : Nat) (s0 : State) (s : State) (m' : Nat) (hm : 0x1a000000000700040 &&& m = 0x1a000000000700040)
    (hk : Kept m s0 s) : Kept m s0 (State.detach s m') := by
  unfold State.detach
  try dsimp only
  repeat' (first
    | with_reducible assumption
    | with_reducible refine State.runOp_keeps _ _ _ _ _ _ (Mask.trans (by decide) hm) ?_ (fun _ _ => ?_)
    | with_reducible refine State.setCmd_keeps _ _ _ _ _ (Mask.trans (by decide) hm) ?_
    | with_reducible refine State.done_keeps _ _ _ _ _ _ (Mask.trans (by decide) hm) ?_)

theorem State.heartbeatCmd_keeps (m : Nat) (s0 : State) (s : State) (m' : Nat) (hm : 0x1a000000000700040 &&& m = 0x1a000000000700040)
    (hk : Kept m s0 s) : Kept m s0 (State.heartbeatCmd s m') := by
  unfold State.heartbeatCmd
  try dsimp only
  repeat' (first
    | with_reducible assumption
    | with_reducible refine State.runOp_keeps _ _ _ _ _ _ (Mask.trans (by decide) hm) ?_ (fun _ _ => ?_)
    | with_reducible refine State.doneWith_keeps _ _ _ _ _ (Mask.trans (by decide) hm) ?_)

theorem State.getInfo_keeps (m : Nat) (s0 : State) (s : State) (m' : Nat) (hm : 0x1a000000000740048 &&& m = 0x1a000000000740048)
    (hk : Kept m s0 s) : Kept m s0 (State.getInfo s m') := by
  unfold State.getInfo
  try dsimp only
  repeat' (first
    | with_reducible assumption
    | with_reducible apply Kept.ite
    | with_reducible refine State.runOp_keeps _ _ _ _ _ _ (Mask.trans (by decide) hm) ?_ (fun _ _ => ?_)
    | with_reducible refine State.judged_keeps _ _ _ _ _ _ (Mask.trans (by decide) hm) ?_ (fun _ _ => ?_)
    | with_reducible refine State.doneWith_keeps _ _ _ _ _ (Mask.trans (by decide) hm) ?_
    | with_reducible refine State.atDie_keeps _ _ _ _ _ _ _ _ (Mask.trans (by decide) hm) ?_ (fun _ _ => ?_)
    | with_reducible refine State.spendN_keeps _ _ _ _ (Mask.trans (by decide) hm) ?_
    | simp only [id_eq]
    | split)

theorem State.stageEntries_keeps (m : Nat) (s0 s : State) {l : List (Nat × Nat × Nat)} (hm : 0x40001 &&& m = 0x40001)
    (h : Kept m s0 s) : Kept m s0 (s.stageEntries l).1 := by
  induction l generalizing s with
  | nil => exact h
  | cons x xs ih =>
    obtain ⟨off, d, v⟩ := x
    simp only [State.stageEntries]
    generalize (if pkgStage off then s.dieId else d) = die
    split <;> (split <;> first | exact h | exact ih _ (State.stageAt_keeps m s0 _ _ _ _ (Mask.trans (by decide) hm) h))

theorem State.stageBudget_keeps (m : Nat) (s0 : State) (s : State) (m' : Nat) (hm : 0x4001a000000000740041 &&& m = 0x4001a000000000740041)
    (hk : Kept m s0 s) : Kept m s0 (State.stageBudget s m') := by
  unfold State.stageBudget
  try dsimp only
  repeat' (first
    | with_reducible assumption
    | with_reducible apply Kept.ite
    | with_reducible refine State.runOp_keeps _ _ _ _ _ _ (Mask.trans (by decide) hm) ?_ (fun _ _ => ?_)
    | with_reducible refine State.done_keeps _ _ _ _ _ _ (Mask.trans (by decide) hm) ?_
    | with_reducible refine State.invalid_keeps _ _ _ _ _ (Mask.trans (by decide) hm) ?_
    | with_reducible refine State.judged_keeps _ _ _ _ _ _ (Mask.trans (by decide) hm) ?_ (fun _ _ => ?_)
    | with_reducible refine State.stageEntries_keeps _ _ _ (Mask.trans (by decide) hm) ?_
    | with_reducible refine State.incSat_at .ACC_DENIED rfl (Mask.trans (by decide) hm) ?_)

theorem State.commitCmd_keeps (m : Nat) (s0 : State) (s : State) (m' : Nat) (hm : 0x1a000000000740040 &&& m = 0x1a000000000740040)
    (hk : Kept m s0 s) : Kept m s0 (State.commitCmd s m') := by
  unfold State.commitCmd
  try dsimp only
  repeat' (first
    | with_reducible assumption
    | with_reducible refine State.runOp_keeps _ _ _ _ _ _ (Mask.trans (by decide) hm) ?_ (fun _ _ => ?_)
    | with_reducible refine State.commitFor_keeps _ _ _ _ _ _ _ (Mask.trans (by decide) hm) ?_ (fun _ _ => ?_)
    | simp only [id_eq])

theorem State.abortStage_keeps (m : Nat) (s0 : State) (s : State) (m' : Nat) (hm : 0x1a000000000740041 &&& m = 0x1a000000000740041)
    (hk : Kept m s0 s) : Kept m s0 (State.abortStage s m') := by
  unfold State.abortStage
  try dsimp only
  repeat' (first
    | with_reducible assumption
    | with_reducible apply Kept.ite
    | with_reducible refine State.runOp_keeps _ _ _ _ _ _ (Mask.trans (by decide) hm) ?_ (fun _ _ => ?_)
    | with_reducible refine State.done_keeps _ _ _ _ _ _ (Mask.trans (by decide) hm) ?_
    | with_reducible refine State.discardStaged_keeps _ _ _ (Mask.trans (by decide) hm) ?_)

theorem State.getBudget_keeps (m : Nat) (s0 : State) (s : State) (m' : Nat) (hm : 0x1a000000000740048 &&& m = 0x1a000000000740048)
    (hk : Kept m s0 s) : Kept m s0 (State.getBudget s m') := by
  unfold State.getBudget
  try dsimp only
  repeat' (first
    | with_reducible assumption
    | with_reducible refine State.runOp_keeps _ _ _ _ _ _ (Mask.trans (by decide) hm) ?_ (fun _ _ => ?_)
    | with_reducible refine State.judged_keeps _ _ _ _ _ _ (Mask.trans (by decide) hm) ?_ (fun _ _ => ?_)
    | with_reducible refine State.spendN_keeps _ _ _ _ (Mask.trans (by decide) hm) ?_
    | with_reducible refine State.atAll_keeps _ _ _ _ _ _ _ _ (Mask.trans (by decide) hm) ?_
    | with_reducible refine State.atDie_keeps _ _ _ _ _ _ _ _ (Mask.trans (by decide) hm) ?_ (fun _ _ => ?_)
    | with_reducible refine State.doneWith_keeps _ _ _ _ _ (Mask.trans (by decide) hm) ?_
    | split)

theorem State.loadProfile_keeps (m : Nat) (s0 : State) (s : State) (m' : Nat) (hm : 0x1a000000000740040 &&& m = 0x1a000000000740040)
    (hk : Kept m s0 s) : Kept m s0 (State.loadProfile s m') := by
  unfold State.loadProfile
  try dsimp only
  repeat' (first
    | with_reducible assumption
    | with_reducible apply Kept.ite
    | with_reducible refine State.runOp_keeps _ _ _ _ _ _ (Mask.trans (by decide) hm) ?_ (fun _ _ => ?_)
    | with_reducible refine State.judged_keeps _ _ _ _ _ _ (Mask.trans (by decide) hm) ?_ (fun _ _ => ?_)
    | with_reducible refine State.done_keeps _ _ _ _ _ _ (Mask.trans (by decide) hm) ?_
    | with_reducible refine State.invalid_keeps _ _ _ _ _ (Mask.trans (by decide) hm) ?_
    | with_reducible refine State.commitFor_keeps _ _ _ _ _ _ _ (Mask.trans (by decide) hm) ?_ (fun _ _ => ?_)
    | simp only [id_eq])

theorem State.dropProfile_keeps (m : Nat) (s0 : State) (s : State) (m' : Nat) (hm : 0x1a000000000740040 &&& m = 0x1a000000000740040)
    (hk : Kept m s0 s) : Kept m s0 (State.dropProfile s m') := by
  unfold State.dropProfile
  try dsimp only
  repeat' (first
    | with_reducible assumption
    | with_reducible apply Kept.ite
    | with_reducible refine State.runOp_keeps _ _ _ _ _ _ (Mask.trans (by decide) hm) ?_ (fun _ _ => ?_)
    | with_reducible refine State.done_keeps _ _ _ _ _ _ (Mask.trans (by decide) hm) ?_
    | with_reducible refine State.commitFor_keeps _ _ _ _ _ _ _ (Mask.trans (by decide) hm) ?_ (fun _ _ => ?_)
    | simp only [id_eq])

theorem State.announce_keeps (m : Nat) (s0 : State) (s : State) (m' : Nat) (hm : 0x1a000000000740040 &&& m = 0x1a000000000740040)
    (hk : Kept m s0 s) : Kept m s0 (State.announce s m') := by
  unfold State.announce
  try dsimp only
  repeat' (first
    | with_reducible assumption
    | with_reducible apply Kept.ite
    | with_reducible refine State.runOp_keeps _ _ _ _ _ _ (Mask.trans (by decide) hm) ?_ (fun _ _ => ?_)
    | with_reducible refine State.judged_keeps _ _ _ _ _ _ (Mask.trans (by decide) hm) ?_ (fun _ _ => ?_)
    | with_reducible refine State.done_keeps _ _ _ _ _ _ (Mask.trans (by decide) hm) ?_
    | with_reducible refine State.commitFor_keeps _ _ _ _ _ _ _ (Mask.trans (by decide) hm) ?_ (fun _ _ => ?_)
    | simp only [id_eq])

theorem State.barrierHint_keeps (m : Nat) (s0 : State) (s : State) (m' : Nat) (hm : 0x1a000000000740040 &&& m = 0x1a000000000740040)
    (hk : Kept m s0 s) : Kept m s0 (State.barrierHint s m') := by
  unfold State.barrierHint
  try dsimp only
  repeat' (first
    | with_reducible assumption
    | with_reducible apply Kept.ite
    | with_reducible refine State.runOp_keeps _ _ _ _ _ _ (Mask.trans (by decide) hm) ?_ (fun _ _ => ?_)
    | with_reducible refine State.judged_keeps _ _ _ _ _ _ (Mask.trans (by decide) hm) ?_ (fun _ _ => ?_)
    | with_reducible refine State.done_keeps _ _ _ _ _ _ (Mask.trans (by decide) hm) ?_
    | with_reducible refine State.commitFor_keeps _ _ _ _ _ _ _ (Mask.trans (by decide) hm) ?_ (fun _ _ => ?_)
    | simp only [id_eq])

theorem State.setOppTable_keeps (m : Nat) (s0 : State) (s : State) (m' : Nat) (hm : 0x1a000000000740041 &&& m = 0x1a000000000740041)
    (hk : Kept m s0 s) : Kept m s0 (State.setOppTable s m') := by
  unfold State.setOppTable
  try dsimp only
  repeat' (first
    | with_reducible assumption
    | with_reducible apply Kept.ite
    | with_reducible refine State.runOp_keeps _ _ _ _ _ _ (Mask.trans (by decide) hm) ?_ (fun _ _ => ?_)
    | with_reducible refine State.judged_keeps _ _ _ _ _ _ (Mask.trans (by decide) hm) ?_ (fun _ _ => ?_)
    | with_reducible refine State.invalid_keeps _ _ _ _ _ (Mask.trans (by decide) hm) ?_
    | with_reducible refine State.done_keeps _ _ _ _ _ _ (Mask.trans (by decide) hm) ?_
    | with_reducible refine State.commitFor_keeps _ _ _ _ _ _ _ (Mask.trans (by decide) hm) ?_ (fun _ _ => ?_)
    | with_reducible refine State.stageAt_keeps _ _ _ _ _ _ (Mask.trans (by decide) hm) ?_
    | with_reducible refine Kept.each ?_ (fun _ _ _ => ?_)
    | simp only [id_eq]
    | split)

theorem State.setThermal_keeps (m : Nat) (s0 : State) (s : State) (m' : Nat) (hm : 0x4001a000000000740041 &&& m = 0x4001a000000000740041)
    (hk : Kept m s0 s) : Kept m s0 (State.setThermal s m') := by
  unfold State.setThermal
  try dsimp only
  repeat' (first
    | with_reducible assumption
    | with_reducible apply Kept.ite
    | with_reducible refine State.runOp_keeps _ _ _ _ _ _ (Mask.trans (by decide) hm) ?_ (fun _ _ => ?_)
    | with_reducible refine State.judged_keeps _ _ _ _ _ _ (Mask.trans (by decide) hm) ?_ (fun _ _ => ?_)
    | with_reducible refine State.done_keeps _ _ _ _ _ _ (Mask.trans (by decide) hm) ?_
    | with_reducible refine State.invalid_keeps _ _ _ _ _ (Mask.trans (by decide) hm) ?_
    | with_reducible refine State.stageEntries_keeps _ _ _ (Mask.trans (by decide) hm) ?_
    | with_reducible refine State.commitFor_keeps _ _ _ _ _ _ _ (Mask.trans (by decide) hm) ?_ (fun _ _ => ?_)
    | with_reducible refine State.incSat_at .ACC_DENIED rfl (Mask.trans (by decide) hm) ?_)

theorem State.fabricAssign_keeps (m : Nat) (s0 : State) (s : State) (m' : Nat) (hm : 0x1a000000000740041 &&& m = 0x1a000000000740041)
    (hk : Kept m s0 s) : Kept m s0 (State.fabricAssign s m') := by
  unfold State.fabricAssign
  try dsimp only
  repeat' (first
    | with_reducible assumption
    | with_reducible apply Kept.ite
    | with_reducible refine State.runOp_keeps _ _ _ _ _ _ (Mask.trans (by decide) hm) ?_ (fun _ _ => ?_)
    | with_reducible refine State.judged_keeps _ _ _ _ _ _ (Mask.trans (by decide) hm) ?_ (fun _ _ => ?_)
    | with_reducible refine State.invalid_keeps _ _ _ _ _ (Mask.trans (by decide) hm) ?_
    | with_reducible refine State.commitFor_keeps _ _ _ _ _ _ _ (Mask.trans (by decide) hm) ?_ (fun _ _ => ?_)
    | with_reducible refine State.stageAt_keeps _ _ _ _ _ _ (Mask.trans (by decide) hm) ?_
    | with_reducible refine Kept.each ?_ (fun _ _ _ => ?_)
    | (simp only [Kept.made]; with_reducible refine Kept.set_hdg (Mask.trans (by decide) hm) ?_)
    | simp only [id_eq])

theorem State.joinGroup_keeps (m : Nat) (s0 : State) (s : State) (m' : Nat) (hm : 0x1a000000000740040 &&& m = 0x1a000000000740040)
    (hk : Kept m s0 s) : Kept m s0 (State.joinGroup s m') := by
  unfold State.joinGroup
  try dsimp only
  repeat' (first
    | with_reducible assumption
    | with_reducible refine State.runOp_keeps _ _ _ _ _ _ (Mask.trans (by decide) hm) ?_ (fun _ _ => ?_)
    | with_reducible refine State.judged_keeps _ _ _ _ _ _ (Mask.trans (by decide) hm) ?_ (fun _ _ => ?_)
    | with_reducible refine State.commitFor_keeps _ _ _ _ _ _ _ (Mask.trans (by decide) hm) ?_ (fun _ _ => ?_)
    | (simp only [Kept.made]; with_reducible refine Kept.set_hdg (Mask.trans (by decide) hm) ?_))

theorem State.leaveGroup_keeps (m : Nat) (s0 : State) (s : State) (m' : Nat) (hm : 0x1a000000000740040 &&& m = 0x1a000000000740040)
    (hk : Kept m s0 s) : Kept m s0 (State.leaveGroup s m') := by
  unfold State.leaveGroup
  try dsimp only
  repeat' (first
    | with_reducible assumption
    | with_reducible refine State.runOp_keeps _ _ _ _ _ _ (Mask.trans (by decide) hm) ?_ (fun _ _ => ?_)
    | with_reducible refine State.judged_keeps _ _ _ _ _ _ (Mask.trans (by decide) hm) ?_ (fun _ _ => ?_)
    | with_reducible refine State.done_keeps _ _ _ _ _ _ (Mask.trans (by decide) hm) ?_
    | with_reducible refine State.commitFor_keeps _ _ _ _ _ _ _ (Mask.trans (by decide) hm) ?_ (fun _ _ => ?_)
    | (simp only [Kept.made]; with_reducible refine Kept.set_hdg (Mask.trans (by decide) hm) ?_)
    | split)

theorem State.fabricStatus_keeps (m : Nat) (s0 : State) (s : State) (m' : Nat) (hm : 0x1a000000000700048 &&& m = 0x1a000000000700048)
    (hk : Kept m s0 s) : Kept m s0 (State.fabricStatus s m') := by
  unfold State.fabricStatus
  try dsimp only
  repeat' (first
    | with_reducible assumption
    | with_reducible apply Kept.ite
    | with_reducible refine State.runOp_keeps _ _ _ _ _ _ (Mask.trans (by decide) hm) ?_ (fun _ _ => ?_)
    | with_reducible refine State.judged_keeps _ _ _ _ _ _ (Mask.trans (by decide) hm) ?_ (fun _ _ => ?_)
    | with_reducible refine State.finish_keeps _ _ _ _ _ _ _ _ (Mask.trans (by decide) hm) ?_
    | with_reducible refine State.spendN_keeps _ _ _ _ (Mask.trans (by decide) hm) ?_
    | with_reducible refine State.finishAfter_keeps _ _ _ _ _ _ _ _ (Mask.trans (by decide) hm) ?_
    | split)

end Sys2Proof.Machine
end

