-- ==== Sys2Proof/Laws/KeepsOpcodesUnit.lean ====
section
/-! SUPPORT. What each operation of Machine/OpcodesUnit.lean keeps: every place outside its mask, the register store's form, the resets' levels,
the outputs so far, time and the queue. -/

namespace Sys2Proof.Machine

theorem State.telemetry_keeps (m : Nat) (s0 : State) (s : State) (m' : Nat) (op : Nat) (f : Active → List Nat → State) (hm : 0x1a000000000700040 &&& m = 0x1a000000000700040)
    (hk : Kept m s0 s) (hf : ∀ x0 x1, Kept m s0 (f x0 x1)) : Kept m s0 (State.telemetry s m' op f) := by
  unfold State.telemetry
  try dsimp only
  repeat' (first
    | with_reducible assumption
    | with_reducible apply Kept.ite
    | with_reducible refine State.runOp_keeps _ _ _ _ _ _ (Mask.trans (by decide) hm) ?_ (fun _ _ => ?_)
    | with_reducible refine State.done_keeps _ _ _ _ _ _ (Mask.trans (by decide) hm) ?_
    | with_reducible apply hf)

theorem State.snapshot_keeps (m : Nat) (s0 : State) (s : State) (m' : Nat) (hm : 0x1a000000000740040 &&& m = 0x1a000000000740040)
    (hk : Kept m s0 s) : Kept m s0 (State.snapshot s m') := by
  unfold State.snapshot
  try dsimp only
  repeat' (first
    | with_reducible assumption
    | with_reducible refine State.telemetry_keeps _ _ _ _ _ _ (Mask.trans (by decide) hm) ?_ (fun _ _ => ?_)
    | with_reducible refine State.judged_keeps _ _ _ _ _ _ (Mask.trans (by decide) hm) ?_ (fun _ _ => ?_)
    | with_reducible refine State.commitFor_keeps _ _ _ _ _ _ _ (Mask.trans (by decide) hm) ?_ (fun _ _ => ?_)
    | simp only [id_eq])

theorem State.readCounters_keeps (m : Nat) (s0 : State) (s : State) (m' : Nat) (hm : 0x1a000000000740040 &&& m = 0x1a000000000740040)
    (hk : Kept m s0 s) : Kept m s0 (State.readCounters s m') := by
  unfold State.readCounters
  try dsimp only
  repeat' (first
    | with_reducible assumption
    | with_reducible apply Kept.ite
    | with_reducible refine State.telemetry_keeps _ _ _ _ _ _ (Mask.trans (by decide) hm) ?_ (fun _ _ => ?_)
    | with_reducible refine State.judged_keeps _ _ _ _ _ _ (Mask.trans (by decide) hm) ?_ (fun _ _ => ?_)
    | with_reducible refine State.done_keeps _ _ _ _ _ _ (Mask.trans (by decide) hm) ?_
    | with_reducible refine State.atDie_keeps _ _ _ _ _ _ _ _ (Mask.trans (by decide) hm) ?_ (fun _ _ => ?_)
    | with_reducible refine State.finishAfter_keeps _ _ _ _ _ _ _ _ (Mask.trans (by decide) hm) ?_
    | split)

theorem State.armTriggerCmd_keeps (m : Nat) (s0 : State) (s : State) (m' : Nat) (mine : Nat → Bool) (hm : 0x300003c0000000000000000000000001a800000000741040 &&& m = 0x300003c0000000000000000000000001a800000000741040)
    (hk : Kept m s0 s) : Kept m s0 (State.armTriggerCmd s m' mine) := by
  unfold State.armTriggerCmd
  try dsimp only
  repeat' (first
    | with_reducible assumption
    | with_reducible apply Kept.ite
    | with_reducible refine State.telemetry_keeps _ _ _ _ _ _ (Mask.trans (by decide) hm) ?_ (fun _ _ => ?_)
    | with_reducible refine State.judged_keeps _ _ _ _ _ _ (Mask.trans (by decide) hm) ?_ (fun _ _ => ?_)
    | with_reducible refine State.armTrigger_keeps _ _ _ _ _ _ _ (Mask.trans (by decide) hm) ?_
    | with_reducible refine State.atAll_keeps _ _ _ _ _ _ _ _ (Mask.trans (by decide) hm) ?_
    | with_reducible refine State.atDie_keeps _ _ _ _ _ _ _ _ (Mask.trans (by decide) hm) ?_ (fun _ _ => ?_)
    | with_reducible refine State.done_keeps _ _ _ _ _ _ (Mask.trans (by decide) hm) ?_)

theorem State.readRing_keeps (m : Nat) (s0 : State) (s : State) (m' : Nat) (hm : 0x30000300000000000000000000000001a800000000741040 &&& m = 0x30000300000000000000000000000001a800000000741040)
    (hk : Kept m s0 s) : Kept m s0 (State.readRing s m') := by
  unfold State.readRing
  try dsimp only
  repeat' (first
    | with_reducible assumption
    | with_reducible apply Kept.ite
    | with_reducible refine State.telemetry_keeps _ _ _ _ _ _ (Mask.trans (by decide) hm) ?_ (fun _ _ => ?_)
    | with_reducible refine State.judged_keeps _ _ _ _ _ _ (Mask.trans (by decide) hm) ?_ (fun _ _ => ?_)
    | with_reducible refine State.done_keeps _ _ _ _ _ _ (Mask.trans (by decide) hm) ?_
    | with_reducible refine State.atDie_keeps _ _ _ _ _ _ _ _ (Mask.trans (by decide) hm) ?_ (fun _ _ => ?_)
    | with_reducible refine State.waits_keeps _ _ _ _ _ (Mask.trans (by decide) hm) ?_
    | with_reducible refine State.stileWait_keeps _ _ _ _ _ (Mask.trans (by decide) hm) ?_
    | with_reducible refine State.finishAfter_keeps _ _ _ _ _ _ _ _ (Mask.trans (by decide) hm) ?_
    | split)

theorem State.clearRange_keeps (m : Nat) (s0 s : State) (r : Nat) (hm : 0x1e0000000000000000000000000000000100000000 &&& m = 0x1e0000000000000000000000000000000100000000) (hk : Kept m s0 s) :
    Kept m s0 (s.clearRange r) := by
  unfold State.clearRange
  refine Kept.set_obs (Mask.trans (by decide) hm) ?_
  exact State.setReg_at .OBS_WATCH_E_HI ⟨r, by simp only [OBS_WATCH_E_LO, OBS_WATCH_E_HI]; omega⟩ (Mask.trans (by decide) hm)
    (State.setReg_at .OBS_WATCH_E_LO ⟨r, rfl⟩ (Mask.trans (by decide) hm) (State.setReg_at .OBS_WATCH_B_HI ⟨r, by simp only [OBS_WATCH_B_LO, OBS_WATCH_B_HI]; omega⟩ (Mask.trans (by decide) hm)
      (State.setReg_at .OBS_WATCH_B_LO ⟨r, rfl⟩ (Mask.trans (by decide) hm) hk)))

theorem State.setWatch_keeps (m : Nat) (s0 : State) (s : State) (m' : Nat) (hm : 0x1fe00000000000000000000001a000000100740040 &&& m = 0x1fe00000000000000000000001a000000100740040)
    (hk : Kept m s0 s) : Kept m s0 (State.setWatch s m') := by
  unfold State.setWatch
  try dsimp only
  repeat' (first
    | with_reducible assumption
    | with_reducible apply Kept.ite
    | with_reducible refine State.telemetry_keeps _ _ _ _ _ _ (Mask.trans (by decide) hm) ?_ (fun _ _ => ?_)
    | with_reducible refine State.judged_keeps _ _ _ _ _ _ (Mask.trans (by decide) hm) ?_ (fun _ _ => ?_)
    | with_reducible refine State.clearRange_keeps _ _ _ _ (Mask.trans (by decide) hm) ?_
    | with_reducible refine State.setRange_keeps _ _ _ _ _ _ _ _ (Mask.trans (by decide) hm) ?_
    | with_reducible refine State.toFollowers_keeps _ _ _ _ (Mask.trans (by decide) hm) ?_
    | with_reducible refine State.waits_keeps _ _ _ _ _ (Mask.trans (by decide) hm) ?_
    | with_reducible refine State.settleWatch_keeps _ _ _ (Mask.trans (by decide) hm) ?_)

theorem State.fwStage_keeps (m : Nat) (s0 : State) (s : State) (m' : Nat) (mine : Nat → Bool) (own : List Nat → List (Bool × Nat)) (next : Active → List Nat → State → State) (hm : 0x1a000000000700040 &&& m = 0x1a000000000700040)
    (hk : Kept m s0 s) (hact : ∀ x0 x1 t, Kept m s0 t → Kept m s0 (next x0 x1 t)) : Kept m s0 (State.fwStage s m' mine own next) := by
  unfold State.fwStage
  try dsimp only
  repeat' (first
    | with_reducible assumption
    | with_reducible apply Kept.ite
    | with_reducible refine State.runOp_keeps _ _ _ _ _ _ (Mask.trans (by decide) hm) ?_ (fun _ _ => ?_)
    | with_reducible refine State.judged_keeps _ _ _ _ _ _ (Mask.trans (by decide) hm) ?_ (fun _ _ => ?_)
    | with_reducible refine State.done_keeps _ _ _ _ _ _ (Mask.trans (by decide) hm) ?_
    | with_reducible apply hact
    | split)

theorem State.fwStageHost_keeps (m : Nat) (s0 : State) (s : State) (m' : Nat) (hm : 0x1a000200020700040 &&& m = 0x1a000200020700040)
    (hk : Kept m s0 s) : Kept m s0 (State.fwStageHost s m') := by
  unfold State.fwStageHost
  try dsimp only
  repeat' (first
    | with_reducible assumption
    | with_reducible apply Kept.ite
    | with_reducible refine State.fwStage_keeps _ _ _ _ _ _ _ (Mask.trans (by decide) hm) ?_ (fun _ _ _ _ => ?_)
    | with_reducible refine State.stageBegins_keeps _ _ _ _ _ (Mask.trans (by decide) hm) ?_
    | with_reducible refine State.readImage_keeps _ _ _ _ _ (Mask.trans (by decide) hm) ?_
    | with_reducible refine State.done_keeps _ _ _ _ _ _ (Mask.trans (by decide) hm) ?_
    | split)

theorem State.fwStageBegin_keeps (m : Nat) (s0 : State) (s : State) (m' : Nat) (hm : 0x1a000200020700040 &&& m = 0x1a000200020700040)
    (hk : Kept m s0 s) : Kept m s0 (State.fwStageBegin s m') := by
  unfold State.fwStageBegin
  try dsimp only
  repeat' (first
    | with_reducible assumption
    | with_reducible apply Kept.ite
    | with_reducible refine State.fwStage_keeps _ _ _ _ _ _ _ (Mask.trans (by decide) hm) ?_ (fun _ _ _ _ => ?_)
    | with_reducible refine State.stageBegins_keeps _ _ _ _ _ (Mask.trans (by decide) hm) ?_
    | with_reducible refine State.done_keeps _ _ _ _ _ _ (Mask.trans (by decide) hm) ?_
    | split)

theorem State.fwStageChunk_keeps (m : Nat) (s0 : State) (s : State) (m' : Nat) (hm : 0x1a000000020700040 &&& m = 0x1a000000020700040)
    (hk : Kept m s0 s) : Kept m s0 (State.fwStageChunk s m') := by
  unfold State.fwStageChunk
  try dsimp only
  repeat' (first
    | with_reducible assumption
    | with_reducible apply Kept.ite
    | with_reducible refine State.fwStage_keeps _ _ _ _ _ _ _ (Mask.trans (by decide) hm) ?_ (fun _ _ _ _ => ?_)
    | with_reducible refine State.invalid_keeps _ _ _ _ _ (Mask.trans (by decide) hm) ?_
    | with_reducible refine State.program_keeps _ _ _ _ (Mask.trans (by decide) hm) ?_
    | with_reducible refine State.done_keeps _ _ _ _ _ _ (Mask.trans (by decide) hm) ?_
    | split)

theorem State.fwStageEnd_keeps (m : Nat) (s0 : State) (s : State) (m' : Nat) (hm : 0x1a000000020700040 &&& m = 0x1a000000020700040)
    (hk : Kept m s0 s) : Kept m s0 (State.fwStageEnd s m') := by
  unfold State.fwStageEnd
  try dsimp only
  repeat' (first
    | with_reducible assumption
    | with_reducible apply Kept.ite
    | with_reducible refine State.fwStage_keeps _ _ _ _ _ _ _ (Mask.trans (by decide) hm) ?_ (fun _ _ _ _ => ?_)
    | with_reducible refine State.done_keeps _ _ _ _ _ _ (Mask.trans (by decide) hm) ?_
    | (simp only [Kept.made]; with_reducible refine Kept.set_fw (Mask.trans (by decide) hm) ?_)
    | split)

theorem State.fwStageCancel_keeps (m : Nat) (s0 : State) (s : State) (m' : Nat) (hm : 0x3a000200020740040 &&& m = 0x3a000200020740040)
    (hk : Kept m s0 s) : Kept m s0 (State.fwStageCancel s m') := by
  unfold State.fwStageCancel
  try dsimp only
  repeat' (first
    | with_reducible assumption
    | with_reducible apply Kept.ite
    | with_reducible refine State.fwStage_keeps _ _ _ _ _ _ _ (Mask.trans (by decide) hm) ?_ (fun _ _ _ _ => ?_)
    | with_reducible refine State.stageFails_keeps _ _ _ _ _ (Mask.trans (by decide) hm) ?_
    | with_reducible refine State.done_keeps _ _ _ _ _ _ (Mask.trans (by decide) hm) ?_
    | split)

theorem State.fwActivate_keeps (m : Nat) (s0 : State) (s : State) (m' : Nat) (hm : 0x1e080202020760040 &&& m = 0x1e080202020760040)
    (hk : Kept m s0 s) : Kept m s0 (State.fwActivate s m') := by
  unfold State.fwActivate
  try dsimp only
  repeat' (first
    | with_reducible assumption
    | with_reducible apply Kept.ite
    | with_reducible refine State.runOp_keeps _ _ _ _ _ _ (Mask.trans (by decide) hm) ?_ (fun _ _ => ?_)
    | with_reducible refine State.judged_keeps _ _ _ _ _ _ (Mask.trans (by decide) hm) ?_ (fun _ _ => ?_)
    | with_reducible refine State.done_keeps _ _ _ _ _ _ (Mask.trans (by decide) hm) ?_
    | with_reducible refine State.invalid_keeps _ _ _ _ _ (Mask.trans (by decide) hm) ?_
    | with_reducible refine State.pickup_keeps _ _ _ _ (Mask.trans (by decide) hm) ?_
    | with_reducible refine State.waits_keeps _ _ _ _ _ (Mask.trans (by decide) hm) ?_
    | with_reducible refine State.activate_keeps _ _ _ (Mask.trans (by decide) hm) ?_
    | with_reducible refine State.setFld_at .HEATH_FW_STATUS rfl (Mask.trans (by decide) hm) ?_
    | (simp only [Kept.made]; with_reducible refine Kept.set_fw (Mask.trans (by decide) hm) ?_)
    | split)

theorem State.fwStatus_keeps (m : Nat) (s0 : State) (s : State) (m' : Nat) (hm : 0x1a000000000740041 &&& m = 0x1a000000000740041)
    (hk : Kept m s0 s) : Kept m s0 (State.fwStatus s m') := by
  unfold State.fwStatus
  try dsimp only
  repeat' (first
    | with_reducible assumption
    | with_reducible apply Kept.ite
    | with_reducible refine State.runOp_keeps _ _ _ _ _ _ (Mask.trans (by decide) hm) ?_ (fun _ _ => ?_)
    | with_reducible refine State.doneWith_keeps _ _ _ _ _ (Mask.trans (by decide) hm) ?_
    | with_reducible refine State.stageAt_keeps _ _ _ _ _ _ (Mask.trans (by decide) hm) ?_
    | split)

theorem State.unlockChallenge_keeps (m : Nat) (s0 : State) (s : State) (m' : Nat) (hm : 0x1a000000040700048 &&& m = 0x1a000000040700048)
    (hk : Kept m s0 s) : Kept m s0 (State.unlockChallenge s m') := by
  unfold State.unlockChallenge
  try dsimp only
  repeat' (first
    | with_reducible assumption
    | with_reducible apply Kept.ite
    | with_reducible refine State.runOp_keeps _ _ _ _ _ _ (Mask.trans (by decide) hm) ?_ (fun _ _ => ?_)
    | with_reducible refine State.judged_keeps _ _ _ _ _ _ (Mask.trans (by decide) hm) ?_ (fun _ _ => ?_)
    | with_reducible refine State.done_keeps _ _ _ _ _ _ (Mask.trans (by decide) hm) ?_
    | with_reducible refine State.spent_keeps _ _ _ (Mask.trans (by decide) hm) ?_
    | with_reducible refine State.doneWith_keeps _ _ _ _ _ (Mask.trans (by decide) hm) ?_
    | (simp only [Kept.made]; with_reducible refine Kept.set_acc (Mask.trans (by decide) hm) ?_)
    | split)

theorem State.unlockFails_keeps (m : Nat) (s0 : State) (s : State) (m' : Nat) (method : Nat) (hm : 0x2001a0000000407000c0 &&& m = 0x2001a0000000407000c0)
    (hk : Kept m s0 s) : Kept m s0 (State.unlockFails s m' method) := by
  unfold State.unlockFails
  try dsimp only
  repeat' (first
    | with_reducible assumption
    | with_reducible refine State.raise_keeps _ _ _ _ _ _ (Mask.trans (by decide) hm) ?_
    | with_reducible refine State.done_keeps _ _ _ _ _ _ (Mask.trans (by decide) hm) ?_
    | with_reducible refine State.incSat_at .ACC_FAIL rfl (Mask.trans (by decide) hm) ?_
    | (simp only [Kept.made]; with_reducible refine Kept.set_acc (Mask.trans (by decide) hm) ?_))

theorem State.unlockDone_keeps (m : Nat) (s0 : State) (s : State) (m' : Nat) (scope : Nat) (method : Nat) (dur : Nat) (hm : 0x1000000100000000003000000c40003801a004000060f458c1 &&& m = 0x1000000100000000003000000c40003801a004000060f458c1)
    (hk : Kept m s0 s) : Kept m s0 (State.unlockDone s m' scope method dur) := by
  unfold State.unlockDone
  try dsimp only
  repeat' (first
    | with_reducible assumption
    | with_reducible refine State.setAccess_keeps _ _ _ _ _ _ _ (Mask.trans (by decide) hm) ?_
    | with_reducible refine State.raise_keeps _ _ _ _ _ _ (Mask.trans (by decide) hm) ?_
    | with_reducible refine State.done_keeps _ _ _ _ _ _ (Mask.trans (by decide) hm) ?_
    | with_reducible refine State.setFld_at .ACC_FAIL rfl (Mask.trans (by decide) hm) ?_)

theorem State.unlockPassword_keeps (m : Nat) (s0 : State) (s : State) (m' : Nat) (hm : 0x1000000100000000003000000c40003801a004000060f458c1 &&& m = 0x1000000100000000003000000c40003801a004000060f458c1)
    (hk : Kept m s0 s) : Kept m s0 (State.unlockPassword s m') := by
  unfold State.unlockPassword
  try dsimp only
  repeat' (first
    | with_reducible assumption
    | with_reducible apply Kept.ite
    | with_reducible refine State.runOp_keeps _ _ _ _ _ _ (Mask.trans (by decide) hm) ?_ (fun _ _ => ?_)
    | with_reducible refine State.judged_keeps _ _ _ _ _ _ (Mask.trans (by decide) hm) ?_ (fun _ _ => ?_)
    | with_reducible refine State.done_keeps _ _ _ _ _ _ (Mask.trans (by decide) hm) ?_
    | with_reducible refine State.unlockDone_keeps _ _ _ _ _ _ _ (Mask.trans (by decide) hm) ?_
    | with_reducible refine State.unlockFails_keeps _ _ _ _ _ (Mask.trans (by decide) hm) ?_
    | split)

theorem State.unlockSignature_keeps (m : Nat) (s0 : State) (s : State) (m' : Nat) (hm : 0x1000000100000000003000000c40003801a004000060f458c1 &&& m = 0x1000000100000000003000000c40003801a004000060f458c1)
    (hk : Kept m s0 s) : Kept m s0 (State.unlockSignature s m') := by
  unfold State.unlockSignature
  try dsimp only
  repeat' (first
    | with_reducible assumption
    | with_reducible apply Kept.ite
    | with_reducible refine State.runOp_keeps _ _ _ _ _ _ (Mask.trans (by decide) hm) ?_ (fun _ _ => ?_)
    | with_reducible refine State.invalid_keeps _ _ _ _ _ (Mask.trans (by decide) hm) ?_
    | with_reducible refine State.judged_keeps _ _ _ _ _ _ (Mask.trans (by decide) hm) ?_ (fun _ _ => ?_)
    | with_reducible refine State.done_keeps _ _ _ _ _ _ (Mask.trans (by decide) hm) ?_
    | with_reducible refine State.unlockDone_keeps _ _ _ _ _ _ _ (Mask.trans (by decide) hm) ?_
    | with_reducible refine State.unlockFails_keeps _ _ _ _ _ (Mask.trans (by decide) hm) ?_
    | (simp only [Kept.made]; with_reducible refine Kept.set_acc (Mask.trans (by decide) hm) ?_)
    | split)

theorem State.relockCmd_keeps (m : Nat) (s0 : State) (s : State) (m' : Nat) (hm : 0x1000000100000000003000000c40001801a004000060f458c1 &&& m = 0x1000000100000000003000000c40001801a004000060f458c1)
    (hk : Kept m s0 s) : Kept m s0 (State.relockCmd s m') := by
  unfold State.relockCmd
  try dsimp only
  repeat' (first
    | with_reducible assumption
    | with_reducible apply Kept.ite
    | with_reducible refine State.runOp_keeps _ _ _ _ _ _ (Mask.trans (by decide) hm) ?_ (fun _ _ => ?_)
    | with_reducible refine State.relock_keeps _ _ _ (Mask.trans (by decide) hm) ?_
    | with_reducible refine State.done_keeps _ _ _ _ _ _ (Mask.trans (by decide) hm) ?_)

theorem State.accessExpires_keeps (m : Nat) (s0 : State) (s : State) (hm : 0x1000000100000404683000000c400018000004002067945ac7 &&& m = 0x1000000100000404683000000c400018000004002067945ac7)
    (hk : Kept m s0 s) : Kept m s0 (State.accessExpires s) := by
  unfold State.accessExpires
  try dsimp only
  repeat' (first
    | with_reducible assumption
    | with_reducible apply Kept.ite
    | with_reducible refine State.advanceTo_keeps _ _ _ _ (Mask.trans (by decide) hm) ?_
    | with_reducible refine State.relock_keeps _ _ _ (Mask.trans (by decide) hm) ?_
    | with_reducible refine State.takeAccess_keeps _ _ _ _ _ _ _ (Mask.trans (by decide) hm) ?_
    | with_reducible refine State.wakeLinks_keeps _ _ _ (Mask.trans (by decide) hm) ?_
    | split)

theorem State.nonceLapse_keeps (m : Nat) (s0 : State) (s : State) (hm : 0x40000006 &&& m = 0x40000006)
    (hk : Kept m s0 s) : Kept m s0 (State.nonceLapse s) := by
  unfold State.nonceLapse
  try dsimp only
  repeat' (first
    | with_reducible assumption
    | with_reducible refine State.advanceTo_keeps _ _ _ _ (Mask.trans (by decide) hm) ?_
    | (simp only [Kept.made]; with_reducible refine Kept.set_acc (Mask.trans (by decide) hm) ?_)
    | split)

theorem State.backoffEnds_keeps (m : Nat) (s0 : State) (s : State) (hm : 0x6 &&& m = 0x6)
    (hk : Kept m s0 s) : Kept m s0 (State.backoffEnds s) := by
  unfold State.backoffEnds
  try dsimp only
  repeat' (first
    | with_reducible assumption
    | with_reducible refine State.advanceTo_keeps _ _ _ _ (Mask.trans (by decide) hm) ?_)

theorem State.faultReadCmd_keeps (m : Nat) (s0 : State) (s : State) (m' : Nat) (hm : 0x1a000000000740040 &&& m = 0x1a000000000740040)
    (hk : Kept m s0 s) : Kept m s0 (State.faultReadCmd s m') := by
  unfold State.faultReadCmd
  try dsimp only
  repeat' (first
    | with_reducible assumption
    | with_reducible refine State.runOp_keeps _ _ _ _ _ _ (Mask.trans (by decide) hm) ?_ (fun _ _ => ?_)
    | with_reducible refine State.judged_keeps _ _ _ _ _ _ (Mask.trans (by decide) hm) ?_ (fun _ _ => ?_)
    | with_reducible refine State.atDie_keeps _ _ _ _ _ _ _ _ (Mask.trans (by decide) hm) ?_ (fun _ _ => ?_)
    | with_reducible refine State.doneWith_keeps _ _ _ _ _ (Mask.trans (by decide) hm) ?_)

theorem State.faultClearCmd_keeps (m : Nat) (s0 : State) (s : State) (m' : Nat) (hm : 0x191a0000000807400c0 &&& m = 0x191a0000000807400c0)
    (hk : Kept m s0 s) : Kept m s0 (State.faultClearCmd s m') := by
  unfold State.faultClearCmd
  try dsimp only
  repeat' (first
    | with_reducible assumption
    | with_reducible apply Kept.ite
    | with_reducible refine State.runOp_keeps _ _ _ _ _ _ (Mask.trans (by decide) hm) ?_ (fun _ _ => ?_)
    | with_reducible refine State.judged_keeps _ _ _ _ _ _ (Mask.trans (by decide) hm) ?_ (fun _ _ => ?_)
    | with_reducible refine State.done_keeps _ _ _ _ _ _ (Mask.trans (by decide) hm) ?_
    | with_reducible refine State.faultClear_keeps _ _ _ _ _ (Mask.trans (by decide) hm) ?_
    | with_reducible refine State.atAll_keeps _ _ _ _ _ _ _ _ (Mask.trans (by decide) hm) ?_
    | with_reducible refine State.atDie_keeps _ _ _ _ _ _ _ _ (Mask.trans (by decide) hm) ?_ (fun _ _ => ?_)
    | with_reducible refine State.doneWith_keeps _ _ _ _ _ (Mask.trans (by decide) hm) ?_
    | split)

theorem State.faultForceCmd_keeps (m : Nat) (s0 : State) (s : State) (m' : Nat) (hm : 0x81f0000500010404683004001c400147fba8002f21a7fedfcd &&& m = 0x81f0000500010404683004001c400147fba8002f21a7fedfcd)
    (hk : Kept m s0 s) : Kept m s0 (State.faultForceCmd s m') := by
  unfold State.faultForceCmd
  try dsimp only
  repeat' (first
    | with_reducible assumption
    | with_reducible refine State.runOp_keeps _ _ _ _ _ _ (Mask.trans (by decide) hm) ?_ (fun _ _ => ?_)
    | with_reducible refine State.judged_keeps _ _ _ _ _ _ (Mask.trans (by decide) hm) ?_ (fun _ _ => ?_)
    | with_reducible refine State.atDie_keeps _ _ _ _ _ _ _ _ (Mask.trans (by decide) hm) ?_ (fun _ _ => ?_)
    | with_reducible refine State.forceFault_keeps _ _ _ _ _ (Mask.trans (by decide) hm) ?_
    | with_reducible refine State.done_keeps _ _ _ _ _ _ (Mask.trans (by decide) hm) ?_)

theorem State.injectStart_keeps (m : Nat) (s0 : State) (s : State) (m' : Nat) (hm : 0x4001a000000000740041 &&& m = 0x4001a000000000740041)
    (hk : Kept m s0 s) : Kept m s0 (State.injectStart s m') := by
  unfold State.injectStart
  try dsimp only
  repeat' (first
    | with_reducible assumption
    | with_reducible apply Kept.ite
    | with_reducible refine State.runOp_keeps _ _ _ _ _ _ (Mask.trans (by decide) hm) ?_ (fun _ _ => ?_)
    | with_reducible refine State.done_keeps _ _ _ _ _ _ (Mask.trans (by decide) hm) ?_
    | with_reducible refine State.judged_keeps _ _ _ _ _ _ (Mask.trans (by decide) hm) ?_ (fun _ _ => ?_)
    | with_reducible refine State.atDie_keeps _ _ _ _ _ _ _ _ (Mask.trans (by decide) hm) ?_ (fun _ _ => ?_)
    | with_reducible refine State.injectCommit_keeps _ _ _ _ _ (Mask.trans (by decide) hm) ?_
    | with_reducible refine State.incSat_at .ACC_DENIED rfl (Mask.trans (by decide) hm) ?_
    | split)

theorem State.captureRead_keeps (m : Nat) (s0 : State) (s : State) (m' : Nat) (hm : 0x1a000000000740048 &&& m = 0x1a000000000740048)
    (hk : Kept m s0 s) : Kept m s0 (State.captureRead s m') := by
  unfold State.captureRead
  try dsimp only
  repeat' (first
    | with_reducible assumption
    | with_reducible apply Kept.ite
    | with_reducible refine State.runOp_keeps _ _ _ _ _ _ (Mask.trans (by decide) hm) ?_ (fun _ _ => ?_)
    | with_reducible refine State.judged_keeps _ _ _ _ _ _ (Mask.trans (by decide) hm) ?_ (fun _ _ => ?_)
    | with_reducible refine State.done_keeps _ _ _ _ _ _ (Mask.trans (by decide) hm) ?_
    | with_reducible refine State.atDie_keeps _ _ _ _ _ _ _ _ (Mask.trans (by decide) hm) ?_ (fun _ _ => ?_)
    | with_reducible refine State.finishAfter_keeps _ _ _ _ _ _ _ _ (Mask.trans (by decide) hm) ?_
    | with_reducible refine State.spendN_keeps _ _ _ _ (Mask.trans (by decide) hm) ?_
    | split)

theorem State.heartbeatLapse_keeps (m : Nat) (s0 : State) (s : State) (hm : 0x404680000000c40000001f80000208ff453c6 &&& m = 0x404680000000c40000001f80000208ff453c6)
    (hk : Kept m s0 s) : Kept m s0 (State.heartbeatLapse s) := by
  unfold State.heartbeatLapse
  try dsimp only
  repeat' (first
    | with_reducible assumption
    | with_reducible apply Kept.ite
    | with_reducible refine State.advanceTo_keeps _ _ _ _ (Mask.trans (by decide) hm) ?_
    | with_reducible refine State.enterUnattended_keeps _ _ _ _ (Mask.trans (by decide) hm) ?_
    | with_reducible refine State.wakeLinks_keeps _ _ _ (Mask.trans (by decide) hm) ?_
    | split)

end Sys2Proof.Machine
end

