-- ==== Sys2Proof/Laws/KeepsMgmt.lean ====
section
/-! SUPPORT. What each operation of Machine/Mgmt.lean keeps: every place outside its mask, the register store's form, the resets' levels,
the outputs so far, time and the queue. -/

namespace Sys2Proof.Machine

theorem State.answer_keeps (m : Nat) (s0 : State) (s : State) (a : MgAnswer) (vals : List Int) (hm : 0x40 &&& m = 0x40)
    (hk : Kept m s0 s) : Kept m s0 (State.answer s a vals) := by
  unfold State.answer
  try dsimp only
  repeat' (first
    | with_reducible assumption
    | with_reducible refine State.emit_keeps _ _ _ _ (Mask.trans (by decide) hm) ?_)

theorem State.answerFree_keeps (m : Nat) (s0 : State) (s : State) (hm : 0x48 &&& m = 0x48)
    (hk : Kept m s0 s) : Kept m s0 (State.answerFree s) := by
  unfold State.answerFree
  try dsimp only
  repeat' (first
    | with_reducible assumption
    | with_reducible refine State.spent_keeps _ _ _ (Mask.trans (by decide) hm) ?_
    | with_reducible refine State.answer_keeps _ _ _ _ _ (Mask.trans (by decide) hm) ?_)

theorem State.endpoint_keeps (m : Nat) (s0 : State) (s : State) (serve : State → State) (hm : 0x40 &&& m = 0x40)
    (hk : Kept m s0 s) (hserve : ∀ u, Kept m s0 u → Kept m s0 (serve u)) : Kept m s0 (State.endpoint s serve) := by
  unfold State.endpoint
  try dsimp only
  repeat' (first
    | with_reducible assumption
    | with_reducible apply Kept.ite
    | with_reducible refine State.answer_keeps _ _ _ _ _ (Mask.trans (by decide) hm) ?_
    | with_reducible apply hserve)

theorem State.mctpControl_keeps (m : Nat) (s0 : State) (s : State) (r : CtlReq) (hm : 0x200048 &&& m = 0x200048)
    (hk : Kept m s0 s) : Kept m s0 (State.mctpControl s r) := by
  unfold State.mctpControl
  try dsimp only
  repeat' (first
    | with_reducible assumption
    | with_reducible apply Kept.ite
    | with_reducible refine State.endpoint_keeps _ _ _ _ (Mask.trans (by decide) hm) ?_ (fun _ _ => ?_)
    | with_reducible refine State.answer_keeps _ _ _ _ _ (Mask.trans (by decide) hm) ?_
    | with_reducible refine State.answerFree_keeps _ _ _ (Mask.trans (by decide) hm) ?_
    | (simp only [Kept.made]; with_reducible refine Kept.set_ses (Mask.trans (by decide) hm) ?_)
    | split)

theorem State.pldmRequest_keeps (m : Nat) (s0 : State) (s : State) (r : PldmReq) (hm : 0x240049 &&& m = 0x240049)
    (hk : Kept m s0 s) : Kept m s0 (State.pldmRequest s r) := by
  unfold State.pldmRequest
  try dsimp only
  repeat' (first
    | with_reducible assumption
    | with_reducible apply Kept.ite
    | with_reducible refine State.endpoint_keeps _ _ _ _ (Mask.trans (by decide) hm) ?_ (fun _ _ => ?_)
    | with_reducible refine State.answer_keeps _ _ _ _ _ (Mask.trans (by decide) hm) ?_
    | with_reducible refine State.answerFree_keeps _ _ _ (Mask.trans (by decide) hm) ?_
    | with_reducible refine State.stageAt_keeps _ _ _ _ _ _ (Mask.trans (by decide) hm) ?_
    | with_reducible refine State.enqueue_keeps _ _ _ _ (Mask.trans (by decide) hm) ?_
    | (simp only [Kept.made]; with_reducible refine Kept.set_ses (Mask.trans (by decide) hm) ?_)
    | split)

end Sys2Proof.Machine
end

