-- ==== Sys2Proof/Laws/KeepsRegPort.lean ====
section
/-! SUPPORT. What each operation of Machine/RegPort.lean keeps: every place outside its mask, the register store's form, the resets' levels,
the outputs so far, time and the queue. -/

namespace Sys2Proof.Machine

theorem State.deny_keeps (m : Nat) (s0 : State) (s : State) (hm : 0x40000000000000000040 &&& m = 0x40000000000000000040)
    (hk : Kept m s0 s) : Kept m s0 (State.deny s) := by
  unfold State.deny
  try dsimp only
  repeat' (first
    | with_reducible assumption
    | with_reducible refine State.emit_keeps _ _ _ _ (Mask.trans (by decide) hm) ?_
    | with_reducible refine State.incSat_at .ACC_DENIED rfl (Mask.trans (by decide) hm) ?_)

theorem State.okay_keeps (m : Nat) (s0 : State) (s : State) (data : Nat) (hm : 0x40 &&& m = 0x40)
    (hk : Kept m s0 s) : Kept m s0 (State.okay s data) := by
  unfold State.okay
  try dsimp only
  repeat' (first
    | with_reducible assumption
    | with_reducible refine State.emit_keeps _ _ _ _ (Mask.trans (by decide) hm) ?_)

theorem State.setLatch_keeps (m : Nat) (s0 : State) (s : State) (who : Who) (off : Nat) (hi : Nat) (hm : 0x200000000 &&& m = 0x200000000)
    (hk : Kept m s0 s) : Kept m s0 (State.setLatch s who off hi) := by
  unfold State.setLatch
  try dsimp only
  repeat' (first
    | with_reducible assumption
    | (simp only [Kept.made]; with_reducible refine Kept.set_latches (Mask.trans (by decide) hm) ?_))

theorem State.readWord_keeps (m : Nat) (s0 : State) (s : State) (d : RegDesc) (off : Nat) (who : Who) (hm : 0x200000040 &&& m = 0x200000040)
    (hk : Kept m s0 s) : Kept m s0 (State.readWord s d off who) := by
  unfold State.readWord
  try dsimp only
  repeat' (first
    | with_reducible assumption
    | with_reducible apply Kept.ite
    | with_reducible refine State.setLatch_keeps _ _ _ _ _ _ (Mask.trans (by decide) hm) ?_
    | with_reducible refine State.okay_keeps _ _ _ _ (Mask.trans (by decide) hm) ?_
    | split)

theorem State.logAccess_keeps (m : Nat) (s0 : State) (s : State) (wr : Bool) (off : Nat) (who : Who) (hm : 0x40000000000000000040 &&& m = 0x40000000000000000040)
    (hk : Kept m s0 s) : Kept m s0 (State.logAccess s wr off who) := by
  unfold State.logAccess
  try dsimp only
  repeat' (first
    | with_reducible assumption
    | with_reducible apply Kept.ite
    | with_reducible refine State.okay_keeps _ _ _ _ (Mask.trans (by decide) hm) ?_
    | with_reducible refine State.deny_keeps _ _ _ (Mask.trans (by decide) hm) ?_)

theorem State.settleBoxes_keeps (m : Nat) (s0 : State) (s : State) (hm : 0x40000000000200000 &&& m = 0x40000000000200000)
    (hk : Kept m s0 s) : Kept m s0 (State.settleBoxes s) := by
  unfold State.settleBoxes
  try dsimp only
  repeat' (first
    | with_reducible assumption
    | with_reducible apply Kept.ite
    | with_reducible refine State.setReg_at .CMD_MB_CTX ⟨_, rfl⟩ (Mask.trans (by decide) hm) ?_
    | with_reducible refine Kept.each ?_ (fun _ _ _ => ?_)
    | (simp only [Kept.made]; with_reducible refine Kept.set_ses (Mask.trans (by decide) hm) ?_))

theorem State.takeHeartbeat_keeps (m : Nat) (s0 : State) (s : State) (hm : 0x400000000000000 &&& m = 0x400000000000000)
    (hk : Kept m s0 s) : Kept m s0 (State.takeHeartbeat s) := by
  unfold State.takeHeartbeat
  try dsimp only
  repeat' (first
    | with_reducible assumption
    | with_reducible apply Kept.ite
    | with_reducible refine State.setReg_at .MB_DB_IN rfl (Mask.trans (by decide) hm) ?_
    | split)

theorem State.settleSteward_keeps (m : Nat) (s0 : State) (s : State) (hm : 0x5a400000000700040 &&& m = 0x5a400000000700040)
    (hk : Kept m s0 s) : Kept m s0 (State.settleSteward s) := by
  unfold State.settleSteward
  try dsimp only
  repeat' (first
    | with_reducible assumption
    | with_reducible apply Kept.ite
    | with_reducible refine State.settleBoxes_keeps _ _ _ (Mask.trans (by decide) hm) ?_
    | with_reducible refine State.takeHeartbeat_keeps _ _ _ (Mask.trans (by decide) hm) ?_
    | with_reducible refine State.takeTurn_keeps _ _ _ (Mask.trans (by decide) hm) ?_
    | split)

theorem State.settleReady_keeps (m : Nat) (s0 : State) (s : State) (was : Bool) (hm : 0x5a400000000700040 &&& m = 0x5a400000000700040)
    (hk : Kept m s0 s) : Kept m s0 (State.settleReady s was) := by
  unfold State.settleReady
  try dsimp only
  repeat' (first
    | with_reducible assumption
    | with_reducible apply Kept.ite
    | with_reducible refine State.settleSteward_keeps _ _ _ (Mask.trans (by decide) hm) ?_
    | split)

theorem State.writeFields_keeps (m : Nat) (s0 : State) (s : State) (d : RegDesc) (off : Nat) (data : Nat) (hm : 0x40000000000000000000000000000000000000000000000001 &&& m = 0x40000000000000000000000000000000000000000000000001)
    (hk : Kept m s0 s) : Kept m s0 (State.writeFields s d off data).1 := by
  unfold State.writeFields
  try dsimp only
  repeat' (first
    | with_reducible assumption
    | with_reducible apply Kept.ite
    | with_reducible refine State.setStaged_keeps _ _ _ _ _ (Mask.trans (by decide) hm) ?_
    | with_reducible refine State.setReg_at .anyReg trivial (Mask.trans (by decide) hm) ?_)

theorem State.writePlain_keeps (m : Nat) (s0 : State) (s : State) (d : RegDesc) (off : Nat) (data : Nat) (hm : 0x40000000000000000000000000000000000000000000000000 &&& m = 0x40000000000000000000000000000000000000000000000000)
    (hk : Kept m s0 s) : Kept m s0 (State.writePlain s d off data) := by
  unfold State.writePlain
  try dsimp only
  repeat' (first
    | with_reducible assumption
    | with_reducible refine State.setReg_at .anyReg trivial (Mask.trans (by decide) hm) ?_)

theorem State.actHeath_keeps (m : Nat) (s0 : State) (s : State) (old : State) (off : Nat) (data : Nat) (hm : 0x81f0000500010404683004001c40010003a8012761a7fedfcd &&& m = 0x81f0000500010404683004001c40010003a8012761a7fedfcd)
    (hk : Kept m s0 s) : Kept m s0 (State.actHeath s old off data) := by
  unfold State.actHeath
  try dsimp only
  repeat' (first
    | with_reducible assumption
    | with_reducible apply Kept.ite
    | with_reducible refine State.startCore_keeps _ _ _ (Mask.trans (by decide) hm) ?_
    | with_reducible refine State.startSteward_keeps _ _ _ (Mask.trans (by decide) hm) ?_
    | with_reducible refine State.blockReset_keeps _ _ _ _ (Mask.trans (by decide) hm) ?_
    | with_reducible refine State.loadGo_keeps _ _ _ (Mask.trans (by decide) hm) ?_
    | with_reducible refine State.setFld_at .HEATH_DOMAIN_CTRL rfl (Mask.trans (by decide) hm) ?_)

theorem State.actBox_keeps (m : Nat) (s0 : State) (s : State) (off : Nat) (data : Nat) (hm : 0x404680000000000000005a48000a007765244 &&& m = 0x404680000000000000005a48000a007765244)
    (hk : Kept m s0 s) : Kept m s0 (State.actBox s off data) := by
  unfold State.actBox
  try dsimp only
  repeat' (first
    | with_reducible assumption
    | with_reducible apply Kept.ite
    | with_reducible refine State.wake_keeps _ _ _ _ _ (Mask.trans (by decide) hm) ?_
    | with_reducible refine State.settleSteward_keeps _ _ _ (Mask.trans (by decide) hm) ?_
    | with_reducible refine State.setReg_at .MB_IN_FULL rfl (Mask.trans (by decide) hm) ?_
    | with_reducible refine State.setReg_at .MB_DB_IN rfl (Mask.trans (by decide) hm) ?_
    | (simp only [Kept.made]; with_reducible refine Kept.set_ses (Mask.trans (by decide) hm) ?_)
    | split)

theorem State.forgetCap_keeps (m : Nat) (s0 : State) (s : State) (m' : Nat) (n : Nat) (hm : 0x4000 &&& m = 0x4000)
    (hk : Kept m s0 s) : Kept m s0 (State.forgetCap s m' n) := by
  unfold State.forgetCap
  try dsimp only
  repeat' (first
    | with_reducible assumption
    | with_reducible apply Kept.ite
    | with_reducible refine State.setRail_keeps _ _ _ _ _ (Mask.trans (by decide) hm) ?_
    | split)

theorem State.armCap_keeps (m : Nat) (s0 : State) (s : State) (n : Nat) (hm : 0xc0000000000000000000000000004000 &&& m = 0xc0000000000000000000000000004000)
    (hk : Kept m s0 s) : Kept m s0 (State.armCap s n) := by
  unfold State.armCap
  try dsimp only
  repeat' (first
    | with_reducible assumption
    | with_reducible apply Kept.ite
    | with_reducible refine State.forgetCap_keeps _ _ _ _ _ (Mask.trans (by decide) hm) ?_
    | with_reducible refine State.setRail_keeps _ _ _ _ _ (Mask.trans (by decide) hm) ?_
    | with_reducible refine State.noteFill_keeps _ _ _ _ (Mask.trans (by decide) hm) ?_
    | with_reducible refine State.setFld_at .RAIL_CAP_STATUS ⟨_, rfl⟩ (Mask.trans (by decide) hm) ?_
    | with_reducible refine Kept.each ?_ (fun _ _ _ => ?_)
    | split)

theorem State.actRail_keeps (m : Nat) (s0 : State) (s : State) (off : Nat) (data : Nat) (hm : 0xc0000000000000000000000000004000 &&& m = 0xc0000000000000000000000000004000)
    (hk : Kept m s0 s) : Kept m s0 (State.actRail s off data) := by
  unfold State.actRail
  try dsimp only
  repeat' (first
    | with_reducible assumption
    | with_reducible apply Kept.ite
    | with_reducible refine State.freezeCap_keeps _ _ _ _ (Mask.trans (by decide) hm) ?_
    | with_reducible refine State.armCap_keeps _ _ _ _ (Mask.trans (by decide) hm) ?_)

theorem State.actSource_keeps (m : Nat) (s0 : State) (s : State) (off : Nat) (hm : 0x81f0000500010404683004001c40010ffba8002f21a7fedfcd &&& m = 0x81f0000500010404683004001c40010ffba8002f21a7fedfcd)
    (hk : Kept m s0 s) : Kept m s0 (State.actSource s off) := by
  unfold State.actSource
  try dsimp only
  repeat' (first
    | with_reducible assumption
    | with_reducible apply Kept.ite
    | with_reducible refine State.noteLines_keeps _ _ _ (Mask.trans (by decide) hm) ?_
    | with_reducible refine State.hubRaise_keeps _ _ _ _ _ _ (Mask.trans (by decide) hm) ?_
    | with_reducible refine State.setFld_at .FH_SRC ⟨_, rfl⟩ (Mask.trans (by decide) hm) ?_)

theorem State.actRing_keeps (m : Nat) (s0 : State) (s : State) (data : Nat) (hm : 0x300003000000000000000000000000000800000000041040 &&& m = 0x300003000000000000000000000000000800000000041040)
    (hk : Kept m s0 s) : Kept m s0 (State.actRing s data) := by
  unfold State.actRing
  try dsimp only
  repeat' (first
    | with_reducible assumption
    | with_reducible apply Kept.ite
    | with_reducible refine State.ringResume_keeps _ _ _ (Mask.trans (by decide) hm) ?_
    | with_reducible refine State.ringArm_keeps _ _ _ (Mask.trans (by decide) hm) ?_
    | with_reducible refine State.ringForce_keeps _ _ _ (Mask.trans (by decide) hm) ?_)

theorem State.actStream_keeps (m : Nat) (s0 : State) (s : State) (old : State) (hm : 0x400000000000000000000000000000100000000 &&& m = 0x400000000000000000000000000000100000000)
    (hk : Kept m s0 s) : Kept m s0 (State.actStream s old) := by
  unfold State.actStream
  try dsimp only
  repeat' (first
    | with_reducible assumption
    | with_reducible apply Kept.ite
    | with_reducible refine State.setFld_at .OBS_STR_CTRL rfl (Mask.trans (by decide) hm) ?_
    | (simp only [Kept.made]; with_reducible refine Kept.set_obs (Mask.trans (by decide) hm) ?_))

theorem State.actSite_keeps (m : Nat) (s0 : State) (s : State) (off : Nat) (data : Nat) (hm : 0x20000000000000000000000000000000000000000000000000 &&& m = 0x20000000000000000000000000000000000000000000000000)
    (hk : Kept m s0 s) : Kept m s0 (State.actSite s off data) := by
  unfold State.actSite
  try dsimp only
  repeat' (first
    | with_reducible assumption
    | with_reducible apply Kept.ite
    | with_reducible refine State.setFld_at .SITE_STATUS ⟨_, rfl⟩ (Mask.trans (by decide) hm) ?_)

theorem State.writeActs_keeps (m : Nat) (s0 : State) (s : State) (old : State) (off : Nat) (data : Nat) (who : Who) (hm : 0xb1f006070005040468f004001c40011fffac852fe1e7fedfcd &&& m = 0xb1f006070005040468f004001c40011fffac852fe1e7fedfcd)
    (hk : Kept m s0 s) : Kept m s0 (State.writeActs s old off data who) := by
  unfold State.writeActs
  try dsimp only
  repeat' (first
    | with_reducible assumption
    | with_reducible apply Kept.ite
    | with_reducible refine State.actHeath_keeps _ _ _ _ _ _ (Mask.trans (by decide) hm) ?_
    | with_reducible refine State.actBox_keeps _ _ _ _ _ (Mask.trans (by decide) hm) ?_
    | with_reducible refine State.actSource_keeps _ _ _ _ (Mask.trans (by decide) hm) ?_
    | with_reducible refine State.relock_keeps _ _ _ (Mask.trans (by decide) hm) ?_
    | with_reducible refine State.actRail_keeps _ _ _ _ _ (Mask.trans (by decide) hm) ?_
    | with_reducible refine State.actStream_keeps _ _ _ _ (Mask.trans (by decide) hm) ?_
    | with_reducible refine State.ringLengths_keeps _ _ _ _ _ _ (Mask.trans (by decide) hm) ?_
    | with_reducible refine State.actRing_keeps _ _ _ _ (Mask.trans (by decide) hm) ?_
    | with_reducible refine State.resyncWrite_keeps _ _ _ (Mask.trans (by decide) hm) ?_
    | with_reducible refine State.actSite_keeps _ _ _ _ _ (Mask.trans (by decide) hm) ?_)

theorem State.written_keeps (m : Nat) (s0 : State) (old : State) (d : RegDesc) (off : Nat) (data : Nat) (who : Who) (hm : 0xf1f006070005040468f004001c40015fffac852fe1e7fedfcd &&& m = 0xf1f006070005040468f004001c40015fffac852fe1e7fedfcd)
    (hk : Kept m s0 old) : Kept m s0 (State.written old d off data who) := by
  unfold State.written
  try dsimp only
  repeat' (first
    | with_reducible assumption
    | with_reducible apply Kept.ite
    | with_reducible refine State.writeFields_keeps _ _ _ _ _ _ (Mask.trans (by decide) hm) ?_
    | with_reducible refine State.writeActs_keeps _ _ _ _ _ _ _ (Mask.trans (by decide) hm) ?_
    | with_reducible refine State.deny_keeps _ _ _ (Mask.trans (by decide) hm) ?_
    | with_reducible refine State.okay_keeps _ _ _ _ (Mask.trans (by decide) hm) ?_)

theorem State.writeOwn_keeps (m : Nat) (s0 s : State) (off data : Nat) (who : Who) (t : State) (hm : 0x4000000000000000000300000000000195a4000000807440c0 &&& m = 0x4000000000000000000300000000000195a4000000807440c0)
    (hk : Kept m s0 s) (ht : s.writeOwn off data who = some t) : Kept m s0 t := by
  unfold State.writeOwn at ht
  dsimp only at ht
  repeat' split at ht
  all_goals first | (cases ht; done) | (injection ht with ht; subst ht)
  all_goals (repeat' (first
    | with_reducible assumption
    | with_reducible apply Kept.ite
    | with_reducible refine State.clearSources_keeps m _ _ _ (Mask.trans (by decide) hm) ?_
    | with_reducible refine State.clearFirst_keeps m _ _ (Mask.trans (by decide) hm) ?_
    | with_reducible refine State.readmit_keeps m _ _ _ _ _ (Mask.trans (by decide) hm) ?_
    | with_reducible refine State.settleSteward_keeps m _ _ (Mask.trans (by decide) hm) ?_
    | with_reducible refine State.setReg_at .anyReg (by trivial) (Mask.trans (by decide) hm) ?_
    | exact Kept.set_ses (Mask.trans (by decide) hm) hk))

theorem State.writeWord_keeps (m : Nat) (s0 : State) (s : State) (d : RegDesc) (off : Nat) (data : Nat) (who : Who)
    (hm : 0xf1f006070005040468f304001c40015fffae852fe1e7fedfcd &&& m = 0xf1f006070005040468f304001c40015fffae852fe1e7fedfcd) (hk : Kept m s0 s) : Kept m s0 (State.writeWord s d off data who) := by
  unfold State.writeWord
  split
  · exact State.deny_keeps m _ _ (Mask.trans (by decide) hm) (State.setReg_at .MB_IN_OVERRUN rfl (Mask.trans (by decide) hm) hk)
  · split
    · exact State.okay_keeps m _ _ _ (Mask.trans (by decide) hm) hk
    · split
      · next t ht => exact State.okay_keeps m _ _ _ (Mask.trans (by decide) hm) (State.writeOwn_keeps m s0 s off data who t (Mask.trans (by decide) hm) hk ht)
      · exact State.written_keeps m _ _ _ _ _ _ (Mask.trans (by decide) hm) hk

theorem State.writeFollower_keeps (m : Nat) (s0 : State) (s : State) (d : RegDesc) (off : Nat) (data : Nat) (who : Who) (hm : 0xf1f006070005040468f004001c40015fffac852fe1e7fedfcd &&& m = 0xf1f006070005040468f004001c40015fffac852fe1e7fedfcd)
    (hk : Kept m s0 s) : Kept m s0 (State.writeFollower s d off data who) := by
  unfold State.writeFollower
  try dsimp only
  repeat' (first
    | with_reducible assumption
    | with_reducible apply Kept.ite
    | with_reducible refine State.deny_keeps _ _ _ (Mask.trans (by decide) hm) ?_
    | with_reducible refine State.okay_keeps _ _ _ _ (Mask.trans (by decide) hm) ?_
    | with_reducible refine State.writePlain_keeps _ _ _ _ _ _ (Mask.trans (by decide) hm) ?_
    | with_reducible refine State.writeActs_keeps _ _ _ _ _ _ _ (Mask.trans (by decide) hm) ?_
    | split)

theorem State.debugAccess_keeps (m : Nat) (s0 : State) (s : State) (wr : Bool) (off : Nat) (data : Nat) (who : Who) (hm : 0x40000000000020000048 &&& m = 0x40000000000020000048)
    (hk : Kept m s0 s) : Kept m s0 (State.debugAccess s wr off data who) := by
  unfold State.debugAccess
  try dsimp only
  repeat' (first
    | with_reducible assumption
    | with_reducible apply Kept.ite
    | with_reducible refine State.deny_keeps _ _ _ (Mask.trans (by decide) hm) ?_
    | with_reducible refine State.okay_keeps _ _ _ _ (Mask.trans (by decide) hm) ?_
    | with_reducible refine State.spent_keeps _ _ _ (Mask.trans (by decide) hm) ?_
    | (simp only [Kept.made]; with_reducible refine Kept.set_fw (Mask.trans (by decide) hm) ?_)
    | split)

theorem State.perform_keeps (m : Nat) (s0 : State) (s : State) (q : PortReq) (hm : 0xf1f006070005040468f304001c40015fffae852fe3e7fedfcd &&& m = 0xf1f006070005040468f304001c40015fffae852fe3e7fedfcd) (hk : Kept m s0 s) :
    Kept m s0 (State.perform s q) := by
  unfold State.perform
  have h1 : Kept m s0 (if 0x3000 ≤ q.off ∧ s.canWake = true then s.startCore.lingerFrom false else s) :=
    Kept.ite (State.lingerFrom_keeps _ _ _ _ (Mask.trans (by decide) hm) (State.startCore_keeps m _ _ (Mask.trans (by decide) hm) hk)) hk
  generalize (if 0x3000 ≤ q.off ∧ s.canWake = true then s.startCore.lingerFrom false else s) = t at h1
  dsimp only
  repeat' (first
    | with_reducible assumption
    | with_reducible apply Kept.ite
    | with_reducible refine State.startCore_keeps _ _ _ (Mask.trans (by decide) hm) ?_
    | with_reducible refine State.lingerFrom_keeps _ _ _ _ (Mask.trans (by decide) hm) ?_
    | with_reducible refine State.emit_keeps _ _ _ _ (Mask.trans (by decide) hm) ?_
    | with_reducible refine State.debugAccess_keeps _ _ _ _ _ _ _ (Mask.trans (by decide) hm) ?_
    | with_reducible refine State.logAccess_keeps m _ _ _ _ _ (Mask.trans (by decide) hm) ?_
    | with_reducible refine State.deny_keeps _ _ _ (Mask.trans (by decide) hm) ?_
    | with_reducible refine State.writeFollower_keeps m _ _ _ _ _ _ (Mask.trans (by decide) hm) ?_
    | with_reducible refine State.writeWord_keeps m _ _ _ _ _ _ (Mask.trans (by decide) hm) ?_
    | with_reducible refine State.readWord_keeps m _ _ _ _ _ (Mask.trans (by decide) hm) ?_
    | split)

theorem State.access_keeps (m : Nat) (s0 : State) (s : State) (q : PortReq) (hm : 0xf1f006070005040468f304001c40015fffae852fe7e7fedfcd &&& m = 0xf1f006070005040468f304001c40015fffae852fe7e7fedfcd)
    (hk : Kept m s0 s) : Kept m s0 (State.access s q) := by
  unfold State.access
  try dsimp only
  repeat' (first
    | with_reducible assumption
    | with_reducible apply Kept.ite
    | with_reducible refine State.perform_keeps _ _ _ _ (Mask.trans (by decide) hm) ?_
    | with_reducible refine State.emit_keeps _ _ _ _ (Mask.trans (by decide) hm) ?_
    | (simp only [Kept.made]; with_reducible refine Kept.set_held (Mask.trans (by decide) hm) ?_)
    | split)

theorem State.releaseHeld_keeps (m : Nat) (s0 : State) (s : State) (hm : 0xf1f006070005040468f304001c40015fffae852fe7e7fedfcd &&& m = 0xf1f006070005040468f304001c40015fffae852fe7e7fedfcd)
    (hk : Kept m s0 s) : Kept m s0 (State.releaseHeld s) := by
  unfold State.releaseHeld
  try dsimp only
  repeat' (first
    | with_reducible assumption
    | with_reducible refine State.access_keeps _ _ _ _ (Mask.trans (by decide) hm) ?_
    | with_reducible refine Kept.each ?_ (fun _ _ _ => ?_)
    | (simp only [Kept.made]; with_reducible refine Kept.set_held (Mask.trans (by decide) hm) ?_))

theorem State.refuseHeld_keeps (m : Nat) (s0 : State) (s : State) (hm : 0x400000040 &&& m = 0x400000040)
    (hk : Kept m s0 s) : Kept m s0 (State.refuseHeld s) := by
  unfold State.refuseHeld
  try dsimp only
  repeat' (first
    | with_reducible assumption
    | with_reducible refine State.emit_keeps _ _ _ _ (Mask.trans (by decide) hm) ?_
    | with_reducible refine Kept.each ?_ (fun _ _ _ => ?_)
    | (simp only [Kept.made]; with_reducible refine Kept.set_held (Mask.trans (by decide) hm) ?_))

theorem State.portWrite_keeps (m : Nat) (s0 : State) (s : State) (off : Nat) (data : Nat) (who : Who) (hm : 0xf1f006070005040468f304001c40015fffae852fe7e7fedfcd &&& m = 0xf1f006070005040468f304001c40015fffae852fe7e7fedfcd)
    (hk : Kept m s0 s) : Kept m s0 (State.portWrite s off data who) := by
  unfold State.portWrite
  try dsimp only
  repeat' (first
    | with_reducible assumption
    | with_reducible refine State.access_keeps _ _ _ _ (Mask.trans (by decide) hm) ?_)

theorem State.portRead_keeps (m : Nat) (s0 : State) (s : State) (off : Nat) (who : Who) (hm : 0xf1f006070005040468f304001c40015fffae852fe7e7fedfcd &&& m = 0xf1f006070005040468f304001c40015fffae852fe7e7fedfcd)
    (hk : Kept m s0 s) : Kept m s0 (State.portRead s off who) := by
  unfold State.portRead
  try dsimp only
  repeat' (first
    | with_reducible assumption
    | with_reducible refine State.access_keeps _ _ _ _ (Mask.trans (by decide) hm) ?_)

theorem State.userRead_keeps (m : Nat) (s0 : State) (s : State) (off : Nat) (hm : 0x40 &&& m = 0x40)
    (hk : Kept m s0 s) : Kept m s0 (State.userRead s off) := by
  unfold State.userRead
  try dsimp only
  repeat' (first
    | with_reducible assumption
    | with_reducible apply Kept.ite
    | with_reducible refine State.userSays_keeps _ _ _ _ _ (Mask.trans (by decide) hm) ?_
    | split)

theorem State.memAnswer_keeps (m : Nat) (s0 : State) (s : State) (x : MemTxn) (ok : Bool) (data : List Nat) (hm : 0xc0000000000000c40000003f8012001a8f401c1 &&& m = 0xc0000000000000c40000003f8012001a8f401c1)
    (hk : Kept m s0 s) : Kept m s0 (State.memAnswer s x ok data) := by
  unfold State.memAnswer
  try dsimp only
  repeat' (first
    | with_reducible assumption
    | with_reducible apply Kept.ite
    | with_reducible refine State.cmdLine_keeps _ _ _ _ _ _ _ (Mask.trans (by decide) hm) ?_
    | with_reducible refine State.eventWritten_keeps _ _ _ _ _ (Mask.trans (by decide) hm) ?_
    | with_reducible refine State.recordWritten_keeps _ _ _ _ _ (Mask.trans (by decide) hm) ?_
    | with_reducible refine State.headWritten_keeps _ _ _ _ (Mask.trans (by decide) hm) ?_
    | with_reducible refine State.imageLine_keeps _ _ _ _ _ (Mask.trans (by decide) hm) ?_
    | with_reducible refine State.fwdLine_keeps _ _ _ _ _ (Mask.trans (by decide) hm) ?_
    | split)

theorem State.memResponse_keeps (m : Nat) (s0 : State) (s : State) (tag : Nat) (err : Nat) (data : List Nat) (hm : 0xc0000000000000c40000007fc012001a8f401c1 &&& m = 0xc0000000000000c40000007fc012001a8f401c1)
    (hk : Kept m s0 s) : Kept m s0 (State.memResponse s tag err data) := by
  unfold State.memResponse
  try dsimp only
  repeat' (first
    | with_reducible assumption
    | with_reducible apply Kept.ite
    | with_reducible refine State.raise_keeps _ _ _ _ _ _ (Mask.trans (by decide) hm) ?_
    | with_reducible refine State.memAnswer_keeps _ _ _ _ _ _ (Mask.trans (by decide) hm) ?_
    | with_reducible refine State.settleSteward_keeps _ _ _ (Mask.trans (by decide) hm) ?_
    | with_reducible refine State.memPump_keeps _ _ _ (Mask.trans (by decide) hm) ?_
    | (simp only [Kept.made]; with_reducible refine Kept.set_mem (Mask.trans (by decide) hm) ?_)
    | split)

theorem State.memTimeout_keeps (m : Nat) (s0 : State) (s : State) (tag : Nat) (hm : 0xc0000000000000c40000007fc012001a8f401c7 &&& m = 0xc0000000000000c40000007fc012001a8f401c7)
    (hk : Kept m s0 s) : Kept m s0 (State.memTimeout s tag) := by
  unfold State.memTimeout
  try dsimp only
  repeat' (first
    | with_reducible assumption
    | with_reducible refine State.advanceTo_keeps _ _ _ _ (Mask.trans (by decide) hm) ?_
    | with_reducible refine State.raise_keeps _ _ _ _ _ _ (Mask.trans (by decide) hm) ?_
    | with_reducible refine State.memAnswer_keeps _ _ _ _ _ _ (Mask.trans (by decide) hm) ?_
    | with_reducible refine State.settleSteward_keeps _ _ _ (Mask.trans (by decide) hm) ?_
    | with_reducible refine State.memPump_keeps _ _ _ (Mask.trans (by decide) hm) ?_
    | (simp only [Kept.made]; with_reducible refine Kept.set_mem (Mask.trans (by decide) hm) ?_)
    | split)

theorem State.pickupSlot_keeps (m : Nat) (s0 : State) (s : State) (m' : Nat) (hm : 0x5e480000000700040 &&& m = 0x5e480000000700040)
    (hk : Kept m s0 s) : Kept m s0 (State.pickupSlot s m') := by
  unfold State.pickupSlot
  try dsimp only
  repeat' (first
    | with_reducible assumption
    | with_reducible apply Kept.ite
    | with_reducible refine State.pickup_keeps _ _ _ _ (Mask.trans (by decide) hm) ?_
    | with_reducible refine State.settleSteward_keeps _ _ _ (Mask.trans (by decide) hm) ?_)

theorem State.noticePost_keeps (m : Nat) (s0 s : State) (k : Nat) (hm : 0xc40000005fd78000088f401c0 &&& m = 0xc40000005fd78000088f401c0) (hk : Kept m s0 s) :
    Kept m s0 (s.noticePost k) := by
  unfold State.noticePost
  split
  · split
    · next n t ht =>
      have h1 := State.fillSlot_keeps m _ _ k n (Mask.trans (by decide) hm) (State.postNotice_keeps m s0 s k n t (Mask.trans (by decide) hm) hk ht)
      exact State.settleSteward_keeps m _ _ (Mask.trans (by decide) hm) (Kept.ite (State.enterUnattended_keeps m _ _ _ (Mask.trans (by decide) hm) h1) h1)
    · exact hk
  · exact hk

end Sys2Proof.Machine
end

