-- ==== Sys2Proof/Laws/KeepsRows.lean ====
section
/-! SUPPORT. What each operation of Machine/Rows.lean keeps: every place outside its mask, the register store's form, the resets' levels,
the outputs so far, time and the queue. -/

namespace Sys2Proof.Machine

theorem State.porstLow_carries (m : Nat) (s : State) (hm : 0x400004000001000000000000000000900000002137ffffdfc5 &&& m = 0x400004000001000000000000000000900000002137ffffdfc5) : Carried m s s.porstLow := by
  refine Carried.trans (t := if s.ps.vaon && s.ps.porst then s.refuseHeld else s) (Carried.of_kept ?_) (State.porstAssert_carries m _ (Mask.trans (by decide) hm))
  exact Kept.ite (State.refuseHeld_keeps m _ _ (Mask.trans (by decide) hm) (Kept.refl m s)) (Kept.refl m s)

theorem State.lockPll_keeps (m : Nat) (s0 : State) (s : State) (hm : 0x81d000010000040468000400100000000000000821a796dfc4 &&& m = 0x81d000010000040468000400100000000000000821a796dfc4)
    (hk : Kept m s0 s) : Kept m s0 (State.lockPll s) := by
  unfold State.lockPll
  try dsimp only
  repeat' (first
    | with_reducible assumption
    | with_reducible refine State.pllLock_keeps _ _ _ (Mask.trans (by decide) hm) ?_
    | with_reducible refine State.halfAck_keeps _ _ _ _ (Mask.trans (by decide) hm) ?_)

theorem State.resetEnds_keeps (m : Nat) (s0 : State) (s : State) (hm : 0xf1f1660f2005040468f304809c60015fffae852fe7e7fedfcd &&& m = 0xf1f1660f2005040468f304809c60015fffae852fe7e7fedfcd)
    (hk : Kept m s0 s) : Kept m s0 (State.resetEnds s) := by
  unfold State.resetEnds
  try dsimp only
  repeat' (first
    | with_reducible assumption
    | with_reducible apply Kept.ite
    | with_reducible refine State.resetComplete_keeps _ _ _ (Mask.trans (by decide) hm) ?_
    | with_reducible refine State.operandChange_keeps _ _ _ (Mask.trans (by decide) hm) ?_
    | with_reducible refine State.noteRate_keeps _ _ _ (Mask.trans (by decide) hm) ?_
    | with_reducible refine State.releaseHeld_keeps _ _ _ (Mask.trans (by decide) hm) ?_
    | with_reducible refine State.settleSteward_keeps _ _ _ (Mask.trans (by decide) hm) ?_
    | split)

theorem State.halfOffPin_keeps (m : Nat) (s0 : State) (s : State) (h : Nat) (hm : 0x81d00000000000000000000000000000000000000000002e00 &&& m = 0x81d00000000000000000000000000000000000000000002e00)
    (hk : Kept m s0 s) : Kept m s0 (State.halfOffPin s h) := by
  unfold State.halfOffPin
  try dsimp only
  repeat' (first
    | with_reducible assumption
    | with_reducible apply Kept.ite
    | with_reducible refine State.halfOff_keeps _ _ _ _ (Mask.trans (by decide) hm) ?_
    | (simp only [Kept.made]; with_reducible refine Kept.set_halfReq (Mask.trans (by decide) hm) ?_))

theorem State.halfOnPin_keeps (m : Nat) (s0 : State) (s : State) (h : Nat) (hm : 0x100000000000000000000000000000000000000000002000 &&& m = 0x100000000000000000000000000000000000000000002000)
    (hk : Kept m s0 s) : Kept m s0 (State.halfOnPin s h) := by
  unfold State.halfOnPin
  try dsimp only
  repeat' (first
    | with_reducible assumption
    | with_reducible apply Kept.ite
    | with_reducible refine State.halfRestart_keeps _ _ _ _ (Mask.trans (by decide) hm) ?_
    | (simp only [Kept.made]; with_reducible refine Kept.set_halfReq (Mask.trans (by decide) hm) ?_))

theorem State.pinFalls_keeps (m : Nat) (s0 : State) (s : State) (hm : 0xf00000404683000009c60000000000000a0079e5ac5 &&& m = 0xf00000404683000009c60000000000000a0079e5ac5)
    (hk : Kept m s0 s) : Kept m s0 (State.pinFalls s) := by
  unfold State.pinFalls
  try dsimp only
  repeat' (first
    | with_reducible assumption
    | with_reducible apply Kept.ite
    | with_reducible refine State.fastLimit_keeps _ _ _ (Mask.trans (by decide) hm) ?_
    | with_reducible refine State.wake_keeps _ _ _ _ _ (Mask.trans (by decide) hm) ?_
    | with_reducible refine State.operandChange_keeps _ _ _ (Mask.trans (by decide) hm) ?_
    | with_reducible refine State.noteRate_keeps _ _ _ (Mask.trans (by decide) hm) ?_
    | (simp only [Kept.made]; with_reducible refine Kept.set_lim (Mask.trans (by decide) hm) ?_)
    | split)

theorem State.pinRises_keeps (m : Nat) (s0 : State) (s : State) (hm : 0x800000 &&& m = 0x800000)
    (hk : Kept m s0 s) : Kept m s0 (State.pinRises s) := by
  unfold State.pinRises
  try dsimp only
  repeat' (first
    | with_reducible assumption
    | with_reducible apply Kept.ite
    | with_reducible refine State.fastLimitHigh_keeps _ _ _ (Mask.trans (by decide) hm) ?_
    | (simp only [Kept.made]; with_reducible refine Kept.set_lim (Mask.trans (by decide) hm) ?_)
    | split)

theorem State.tellDecision_keeps (m : Nat) (s0 : State) (s : State) (w : Nat) (d : Nat) (hm : 0x1040040 &&& m = 0x1040040)
    (hk : Kept m s0 s) : Kept m s0 (State.tellDecision s w d) := by
  unfold State.tellDecision
  try dsimp only
  repeat' (first
    | with_reducible assumption
    | with_reducible apply Kept.ite
    | with_reducible refine State.setWindow_keeps _ _ _ _ _ (Mask.trans (by decide) hm) ?_
    | with_reducible refine State.send_keeps _ _ _ _ _ _ (Mask.trans (by decide) hm) ?_)

theorem State.windowBoundary_keeps (m : Nat) (s0 : State) (s : State) (w : Nat) (hm : 0x40000000000000001040046 &&& m = 0x40000000000000001040046)
    (hk : Kept m s0 s) : Kept m s0 (State.windowBoundary s w) := by
  unfold State.windowBoundary
  try dsimp only
  repeat' (first
    | with_reducible assumption
    | with_reducible apply Kept.ite
    | with_reducible refine State.slotBoundary_keeps _ _ _ _ (Mask.trans (by decide) hm) ?_
    | with_reducible refine State.tellDecision_keeps _ _ _ _ _ (Mask.trans (by decide) hm) ?_
    | with_reducible refine State.showFill_keeps _ _ _ _ (Mask.trans (by decide) hm) ?_
    | with_reducible refine Kept.each ?_ (fun _ _ _ => ?_))

theorem State.windowApply_keeps (m : Nat) (s0 : State) (s : State) (w : Nat) (hm : 0xf00000000000000009c6800000000000000018c1040 &&& m = 0xf00000000000000009c6800000000000000018c1040)
    (hk : Kept m s0 s) : Kept m s0 (State.windowApply s w) := by
  unfold State.windowApply
  try dsimp only
  repeat' (first
    | with_reducible assumption
    | with_reducible apply Kept.ite
    | with_reducible refine State.setWindow_keeps _ _ _ _ _ (Mask.trans (by decide) hm) ?_
    | with_reducible refine State.winApply_keeps _ _ _ _ _ (Mask.trans (by decide) hm) ?_
    | with_reducible refine State.operandChange_keeps _ _ _ (Mask.trans (by decide) hm) ?_
    | with_reducible refine State.noteRate_keeps _ _ _ (Mask.trans (by decide) hm) ?_
    | split)

theorem State.aloneBoundary_keeps (m : Nat) (s0 : State) (s : State) (w : Nat) (hm : 0x1000006 &&& m = 0x1000006)
    (hk : Kept m s0 s) : Kept m s0 (State.aloneBoundary s w) := by
  unfold State.aloneBoundary
  try dsimp only
  repeat' (first
    | with_reducible assumption
    | with_reducible apply Kept.ite
    | with_reducible refine State.advanceSky_keeps _ _ _ _ (Mask.trans (by decide) hm) ?_
    | with_reducible refine State.setWindow_keeps _ _ _ _ _ (Mask.trans (by decide) hm) ?_
    | split)

theorem State.windowAlone_keeps (m : Nat) (s0 : State) (s : State) (w : Nat) (hm : 0xf00000000000000009c6800000000000000018c1046 &&& m = 0xf00000000000000009c6800000000000000018c1046)
    (hk : Kept m s0 s) : Kept m s0 (State.windowAlone s w) := by
  unfold State.windowAlone
  try dsimp only
  repeat' (first
    | with_reducible assumption
    | with_reducible apply Kept.ite
    | with_reducible refine State.aloneBoundary_keeps _ _ _ _ (Mask.trans (by decide) hm) ?_
    | with_reducible refine State.winApply_keeps _ _ _ _ _ (Mask.trans (by decide) hm) ?_
    | with_reducible refine State.operandChange_keeps _ _ _ (Mask.trans (by decide) hm) ?_
    | with_reducible refine State.noteRate_keeps _ _ _ (Mask.trans (by decide) hm) ?_
    | split)

theorem State.estimate_keeps (m : Nat) (s0 : State) (s : State) (hm : 0x20000000000043e7800000000000000000000000107044246 &&& m = 0x20000000000043e7800000000000000000000000107044246)
    (hk : Kept m s0 s) : Kept m s0 (State.estimate s) := by
  unfold State.estimate
  try dsimp only
  repeat' (first
    | with_reducible assumption
    | with_reducible apply Kept.ite
    | with_reducible refine State.interval_keeps _ _ _ (Mask.trans (by decide) hm) ?_
    | with_reducible refine State.streamEnergy_keeps _ _ _ _ (Mask.trans (by decide) hm) ?_
    | with_reducible refine State.bookDie_keeps _ _ _ _ _ (Mask.trans (by decide) hm) ?_
    | with_reducible refine State.bankLate_keeps _ _ _ _ (Mask.trans (by decide) hm) ?_
    | with_reducible refine State.bookWindows_keeps _ _ _ _ _ (Mask.trans (by decide) hm) ?_
    | with_reducible refine State.send_keeps _ _ _ _ _ _ (Mask.trans (by decide) hm) ?_
    | with_reducible refine Kept.each ?_ (fun _ _ _ => ?_)
    | split)

theorem State.sampleActs_keeps (m : Nat) (s0 : State) (s : State) (n : Nat) (e : SampleEvents) (hm : 0x81c0000100000404680004001c6001000000000820a796dfcc &&& m = 0x81c0000100000404680004001c6001000000000820a796dfcc)
    (hk : Kept m s0 s) : Kept m s0 (State.sampleActs s n e) := by
  unfold State.sampleActs
  try dsimp only
  repeat' (first
    | with_reducible assumption
    | with_reducible apply Kept.ite
    | with_reducible refine State.stepSample_keeps _ _ _ (Mask.trans (by decide) hm) ?_
    | with_reducible refine State.uvAlert_keeps _ _ _ _ (Mask.trans (by decide) hm) ?_
    | with_reducible refine State.softFail_keeps _ _ _ _ (Mask.trans (by decide) hm) ?_
    | with_reducible refine State.railOver_keeps _ _ _ (Mask.trans (by decide) hm) ?_
    | with_reducible refine State.noteReasons_keeps _ _ _ (Mask.trans (by decide) hm) ?_)

theorem State.controlSample_keeps (m : Nat) (s0 : State) (s : State) (n : Nat) (inp : SampleIn) (hm : 0x81c000030000040468f7fc041c6001000000000820a796dfcd &&& m = 0x81c000030000040468f7fc041c6001000000000820a796dfcd)
    (hk : Kept m s0 s) : Kept m s0 (State.controlSample s n inp) := by
  unfold State.controlSample
  try dsimp only
  repeat' (first
    | with_reducible assumption
    | with_reducible apply Kept.ite
    | with_reducible refine State.sample_keeps _ _ _ _ _ (Mask.trans (by decide) hm) ?_
    | with_reducible refine State.sampleActs_keeps _ _ _ _ _ (Mask.trans (by decide) hm) ?_)

theorem State.injTimeout_keeps (m : Nat) (s0 : State) (s : State) (n : Nat) (hm : 0x1000000000030000000000000000000000000005087 &&& m = 0x1000000000030000000000000000000000000005087)
    (hk : Kept m s0 s) : Kept m s0 (State.injTimeout s n) := by
  unfold State.injTimeout
  try dsimp only
  repeat' (first
    | with_reducible assumption
    | with_reducible refine State.advanceTo_keeps _ _ _ _ (Mask.trans (by decide) hm) ?_
    | with_reducible refine State.abortInj_keeps _ _ _ _ _ (Mask.trans (by decide) hm) ?_
    | split)

theorem State.capFull_keeps (m : Nat) (s0 : State) (s : State) (n : Nat) (hm : 0xc0000000000000000000000000004000 &&& m = 0xc0000000000000000000000000004000)
    (hk : Kept m s0 s) : Kept m s0 (State.capFull s n) := by
  unfold State.capFull
  try dsimp only
  repeat' (first
    | with_reducible assumption
    | with_reducible apply Kept.ite
    | with_reducible refine State.freezeCap_keeps _ _ _ _ (Mask.trans (by decide) hm) ?_)

theorem State.hdgWake_keeps (m : Nat) (s0 : State) (s : State) (hm : 0x404680000000000000000000000a007165244 &&& m = 0x404680000000000000000000000a007165244)
    (hk : Kept m s0 s) : Kept m s0 (State.hdgWake s) := by
  unfold State.hdgWake
  try dsimp only
  repeat' (first
    | with_reducible assumption
    | with_reducible apply Kept.ite
    | with_reducible refine State.wake_keeps _ _ _ _ _ (Mask.trans (by decide) hm) ?_
    | (simp only [Kept.made]; with_reducible refine Kept.set_hdg (Mask.trans (by decide) hm) ?_)
    | split)

theorem State.acknowledged_keeps (m : Nat) (s0 : State) (s : State) (d : Nat) (id : Nat) (nack : Bool) (regions : Nat) (hm : 0x81c1e00d20000404680004001000010003a8002820a7fedfcd &&& m = 0x81c1e00d20000404680004001000010003a8002820a7fedfcd)
    (hk : Kept m s0 s) : Kept m s0 (State.acknowledged s d id nack regions) := by
  unfold State.acknowledged
  try dsimp only
  repeat' (first
    | with_reducible assumption
    | with_reducible refine State.catchNack_keeps _ _ _ _ _ (Mask.trans (by decide) hm) ?_
    | with_reducible refine State.prepareAnswer_keeps _ _ _ _ _ _ _ (Mask.trans (by decide) hm) ?_)

theorem State.onData_keeps (m : Nat) (s0 : State) (s : State) (h : FlitHdr) (b : Bulk) (hm : 0x91cd700d3fe08404683004001c40011803a8042c21effedfcd &&& m = 0x91cd700d3fe08404683004001c40011803a8042c21effedfcd)
    (hk : Kept m s0 s) : Kept m s0 (State.onData s h b) := by
  unfold State.onData
  try dsimp only
  repeat' (first
    | with_reducible assumption
    | with_reducible apply Kept.ite
    | with_reducible refine State.toLeader_keeps _ _ _ _ _ (Mask.trans (by decide) hm) ?_ (fun _ _ => ?_)
    | with_reducible refine State.dataToLeader_keeps _ _ _ _ _ (Mask.trans (by decide) hm) ?_
    | with_reducible refine State.fromLeader_keeps _ _ _ _ _ (Mask.trans (by decide) hm) ?_ (fun _ _ => ?_)
    | with_reducible refine State.dataToFollower_keeps _ _ _ _ (Mask.trans (by decide) hm) ?_)

theorem State.armTriggerArm_keeps (m : Nat) (s0 : State) (s : State) (m' : Nat) (hm : 0x300003c0000000000000000000000001a800000000741040 &&& m = 0x300003c0000000000000000000000001a800000000741040)
    (hk : Kept m s0 s) : Kept m s0 (State.armTriggerArm s m') := by
  unfold State.armTriggerArm
  try dsimp only
  repeat' (first
    | with_reducible assumption
    | with_reducible refine State.armTriggerCmd_keeps _ _ _ _ _ (Mask.trans (by decide) hm) ?_)

theorem State.armTriggerForce_keeps (m : Nat) (s0 : State) (s : State) (m' : Nat) (hm : 0x300003c0000000000000000000000001a800000000741040 &&& m = 0x300003c0000000000000000000000001a800000000741040)
    (hk : Kept m s0 s) : Kept m s0 (State.armTriggerForce s m') := by
  unfold State.armTriggerForce
  try dsimp only
  repeat' (first
    | with_reducible assumption
    | with_reducible refine State.armTriggerCmd_keeps _ _ _ _ _ (Mask.trans (by decide) hm) ?_)

theorem State.armTriggerResume_keeps (m : Nat) (s0 : State) (s : State) (m' : Nat) (hm : 0x300003c0000000000000000000000001a800000000741040 &&& m = 0x300003c0000000000000000000000001a800000000741040)
    (hk : Kept m s0 s) : Kept m s0 (State.armTriggerResume s m') := by
  unfold State.armTriggerResume
  try dsimp only
  repeat' (first
    | with_reducible assumption
    | with_reducible refine State.armTriggerCmd_keeps _ _ _ _ _ (Mask.trans (by decide) hm) ?_)

end Sys2Proof.Machine
end

