-- ==== Sys2Proof/Laws/KeepsExec.lean ====
section
/-! SUPPORT. What the meaning of every row carries over: every place outside its mask, the register store's form, the resets' levels,
the outputs so far, time and the queue. -/

namespace Sys2Proof.Machine

theorem ofUnit_next {ok : Bool} {u t : State} (h : ofUnit ok u = .next t) : u = t := by
  unfold ofUnit at h
  split at h
  · exact Host.Outcome.next.inj h
  · cases h

theorem execEngClassRise_carries (m' : Nat) (c : Nat) (e : Nat) (cls : Nat) (s t' : State) (hm : 0x81c00003000000000000000000000000000000000000001208 &&& m' = 0x81c00003000000000000000000000000000000000000001208)
    (hx : execEngClassRise c e cls s = .next t') : Carried m' s t' := by
  have hx := ofUnit_next hx
  subst hx
  refine Carried.of_kept ?_
  repeat' (first
    | with_reducible assumption
    | exact Kept.refl m' s
    | with_reducible apply Kept.ite
    | with_reducible refine State.classRise_keeps _ _ _ _ _ _ (Mask.trans (by decide) hm) ?_)

theorem execEngClassFall_carries (m' : Nat) (c : Nat) (e : Nat) (cls : Nat) (s t' : State) (hm : 0x81c00003000000000000000000000000000000000000001208 &&& m' = 0x81c00003000000000000000000000000000000000000001208)
    (hx : execEngClassFall c e cls s = .next t') : Carried m' s t' := by
  have hx := ofUnit_next hx
  subst hx
  refine Carried.of_kept ?_
  repeat' (first
    | with_reducible assumption
    | exact Kept.refl m' s
    | with_reducible apply Kept.ite
    | with_reducible refine State.classFall_keeps _ _ _ _ _ _ (Mask.trans (by decide) hm) ?_)

theorem execHeldQuantaExpiry_carries (m' : Nat) (c : Nat) (s t' : State) (hm : 0x81c00000000000000000000000000000000000000000000206 &&& m' = 0x81c00000000000000000000000000000000000000000000206)
    (hx : execHeldQuantaExpiry c s = .next t') : Carried m' s t' := by
  have hx := ofUnit_next hx
  subst hx
  refine Carried.of_kept ?_
  repeat' (first
    | with_reducible assumption
    | exact Kept.refl m' s
    | with_reducible apply Kept.ite
    | with_reducible refine State.heldExpiry_keeps _ _ _ _ (Mask.trans (by decide) hm) ?_)

theorem execClusterIdle_carries (m' : Nat) (c : Nat) (s t' : State) (hm : 0x81c00000000000000000000000000000000000000000000206 &&& m' = 0x81c00000000000000000000000000000000000000000000206)
    (hx : execClusterIdle c s = .next t') : Carried m' s t' := by
  have hx := ofUnit_next hx
  subst hx
  refine Carried.of_kept ?_
  repeat' (first
    | with_reducible assumption
    | exact Kept.refl m' s
    | with_reducible apply Kept.ite
    | with_reducible refine State.clusterIdle_keeps _ _ _ _ (Mask.trans (by decide) hm) ?_)

theorem execClRunFall_carries (m' : Nat) (c : Nat) (counts : List Nat) (s t' : State) (hm : 0xc1d000030000f800000000000c400000000000000000801e08 &&& m' = 0xc1d000030000f800000000000c400000000000000000801e08)
    (hx : execClRunFall c counts s = .next t') : Carried m' s t' := by
  have hx := ofUnit_next hx
  subst hx
  refine Carried.of_kept ?_
  repeat' (first
    | with_reducible assumption
    | exact Kept.refl m' s
    | with_reducible apply Kept.ite
    | with_reducible refine State.runFall_keeps _ _ _ _ _ (Mask.trans (by decide) hm) ?_)

theorem execClRunRise_carries (m' : Nat) (c : Nat) (s t' : State) (hm : 0x81c0000100000000000000000c400000000000000000801200 &&& m' = 0x81c0000100000000000000000c400000000000000000801200)
    (hx : execClRunRise c s = .next t') : Carried m' s t' := by
  have hx := ofUnit_next hx
  subst hx
  refine Carried.of_kept ?_
  repeat' (first
    | with_reducible assumption
    | exact Kept.refl m' s
    | with_reducible apply Kept.ite
    | with_reducible refine State.runRise_keeps _ _ _ _ (Mask.trans (by decide) hm) ?_)

theorem execReclaimMessage_carries (m' : Nat) (c : Nat) (s t' : State) (hm : 0x81c00000000000000000000000000000000000000000000200 &&& m' = 0x81c00000000000000000000000000000000000000000000200)
    (hx : execReclaimMessage c s = .next t') : Carried m' s t' := by
  have hx := ofUnit_next hx
  subst hx
  refine Carried.of_kept ?_
  repeat' (first
    | with_reducible assumption
    | exact Kept.refl m' s
    | with_reducible apply Kept.ite
    | with_reducible refine State.reclaimArrives_keeps _ _ _ _ (Mask.trans (by decide) hm) ?_)

theorem execGrantDelivery_carries (m' : Nat) (c : Nat) (e : Nat) (s t' : State) (hm : 0x81c00003000000000000000000000000000000000000001208 &&& m' = 0x81c00003000000000000000000000000000000000000001208)
    (hx : execGrantDelivery c e s = .next t') : Carried m' s t' := by
  have hx := ofUnit_next hx
  subst hx
  refine Carried.of_kept ?_
  repeat' (first
    | with_reducible assumption
    | exact Kept.refl m' s
    | with_reducible apply Kept.ite
    | with_reducible refine State.deliver_keeps _ _ _ _ _ (Mask.trans (by decide) hm) ?_)

theorem execActivityIntervalClose_carries (m' : Nat) (c : Nat) (edges : Nat) (code : Nat) (counts : List Nat) (s t' : State) (hm : 0xc1c000030000f800000000700c400000000000000100801206 &&& m' = 0xc1c000030000f800000000700c400000000000000100801206)
    (hx : execActivityIntervalClose c edges code counts s = .next t') : Carried m' s t' := by
  have hx := ofUnit_next hx
  subst hx
  refine Carried.of_kept ?_
  repeat' (first
    | with_reducible assumption
    | exact Kept.refl m' s
    | with_reducible apply Kept.ite
    | with_reducible refine State.intervalClose_keeps _ _ _ _ _ _ _ (Mask.trans (by decide) hm) ?_
    | with_reducible refine State.noteReasons_keeps _ _ _ (Mask.trans (by decide) hm) ?_)

theorem execGrantRequest_carries (m' : Nat) (c : Nat) (e : Nat) (s t' : State) (hm : 0x100000000000000000c400000000000000000801e00 &&& m' = 0x100000000000000000c400000000000000000801e00)
    (hx : execGrantRequest c e s = .next t') : Carried m' s t' := by
  have hx := ofUnit_next hx
  subst hx
  refine Carried.of_kept ?_
  repeat' (first
    | with_reducible assumption
    | exact Kept.refl m' s
    | with_reducible apply Kept.ite
    | with_reducible refine State.requestArrives_keeps _ _ _ _ _ (Mask.trans (by decide) hm) ?_
    | with_reducible refine State.noteReasons_keeps _ _ _ (Mask.trans (by decide) hm) ?_)

theorem execArbiterGrant_carries (m' : Nat) (s t' : State) (hm : 0x20000100000000000000000c400000000000000000801e00 &&& m' = 0x20000100000000000000000c400000000000000000801e00)
    (hx : execArbiterGrant s = .next t') : Carried m' s t' := by
  simp only [execArbiterGrant, Host.Outcome.next.injEq] at hx
  subst hx
  refine Carried.of_kept ?_
  repeat' (first
    | with_reducible assumption
    | exact Kept.refl m' s
    | with_reducible apply Kept.ite
    | with_reducible refine State.arbiterCycle_keeps _ _ _ (Mask.trans (by decide) hm) ?_
    | with_reducible refine State.noteReasons_keeps _ _ _ (Mask.trans (by decide) hm) ?_)

theorem execWaveStepBoundary_carries (m' : Nat) (s t' : State) (hm : 0x100000000000000000c400000000000000000801c06 &&& m' = 0x100000000000000000c400000000000000000801c06)
    (hx : execWaveStepBoundary s = .next t') : Carried m' s t' := by
  simp only [execWaveStepBoundary, Host.Outcome.next.injEq] at hx
  subst hx
  refine Carried.of_kept ?_
  repeat' (first
    | with_reducible assumption
    | exact Kept.refl m' s
    | with_reducible apply Kept.ite
    | with_reducible refine State.stepBoundary_keeps _ _ _ (Mask.trans (by decide) hm) ?_
    | with_reducible refine State.noteReasons_keeps _ _ _ (Mask.trans (by decide) hm) ?_)

theorem execLocalGrantReport_carries (m' : Nat) (c : Nat) (s t' : State) (hm : 0x600 &&& m' = 0x600)
    (hx : execLocalGrantReport c s = .next t') : Carried m' s t' := by
  have hx := ofUnit_next hx
  subst hx
  refine Carried.of_kept ?_
  repeat' (first
    | with_reducible assumption
    | exact Kept.refl m' s
    | with_reducible apply Kept.ite
    | with_reducible refine State.reportArrives_keeps _ _ _ _ (Mask.trans (by decide) hm) ?_)

theorem execPocketRefill_carries (m' : Nat) (c : Nat) (s t' : State) (hm : 0x81e00001000000000000000000000000000000000000001600 &&& m' = 0x81e00001000000000000000000000000000000000000001600)
    (hx : execPocketRefill c s = .next t') : Carried m' s t' := by
  have hx := ofUnit_next hx
  subst hx
  refine Carried.of_kept ?_
  repeat' (first
    | with_reducible assumption
    | exact Kept.refl m' s
    | with_reducible apply Kept.ite
    | with_reducible refine State.refillPocket_keeps _ _ _ _ (Mask.trans (by decide) hm) ?_)

theorem execRevocationPass_carries (m' : Nat) (s t' : State) (hm : 0x81c0000300000000000000010c400000000000000000801e06 &&& m' = 0x81c0000300000000000000010c400000000000000000801e06)
    (hx : execRevocationPass s = .next t') : Carried m' s t' := by
  simp only [execRevocationPass, Host.Outcome.next.injEq] at hx
  subst hx
  refine Carried.of_kept ?_
  repeat' (first
    | with_reducible assumption
    | exact Kept.refl m' s
    | with_reducible apply Kept.ite
    | with_reducible refine State.revocationCycle_keeps _ _ _ (Mask.trans (by decide) hm) ?_
    | with_reducible refine State.noteReasons_keeps _ _ _ (Mask.trans (by decide) hm) ?_)

theorem execReservationStart_carries (m' : Nat) (id : Nat) (s t' : State) (hm : 0x81e00001000000000000000000000000000000000000001406 &&& m' = 0x81e00001000000000000000000000000000000000000001406)
    (hx : execReservationStart id s = .next t') : Carried m' s t' := by
  simp only [execReservationStart, Host.Outcome.next.injEq] at hx
  subst hx
  refine Carried.of_kept ?_
  repeat' (first
    | with_reducible assumption
    | exact Kept.refl m' s
    | with_reducible apply Kept.ite
    | with_reducible refine State.startResv_keeps _ _ _ _ (Mask.trans (by decide) hm) ?_)

theorem execReservationTimeT_carries (m' : Nat) (id : Nat) (s t' : State) (hm : 0x100000000000000000c400000000000000000801c06 &&& m' = 0x100000000000000000c400000000000000000801c06)
    (hx : execReservationTimeT id s = .next t') : Carried m' s t' := by
  simp only [execReservationTimeT, Host.Outcome.next.injEq] at hx
  subst hx
  refine Carried.of_kept ?_
  repeat' (first
    | with_reducible assumption
    | exact Kept.refl m' s
    | with_reducible apply Kept.ite
    | with_reducible refine State.resvTimeT_keeps _ _ _ _ (Mask.trans (by decide) hm) ?_
    | with_reducible refine State.noteReasons_keeps _ _ _ (Mask.trans (by decide) hm) ?_)

theorem execReservationEnd_carries (m' : Nat) (id : Nat) (s t' : State) (hm : 0x81c00001000000000000000000000000000000000000001406 &&& m' = 0x81c00001000000000000000000000000000000000000001406)
    (hx : execReservationEnd id s = .next t') : Carried m' s t' := by
  simp only [execReservationEnd, Host.Outcome.next.injEq] at hx
  subst hx
  refine Carried.of_kept ?_
  repeat' (first
    | with_reducible assumption
    | exact Kept.refl m' s
    | with_reducible apply Kept.ite
    | with_reducible refine State.resvEnd_keeps _ _ _ _ (Mask.trans (by decide) hm) ?_)

theorem execPrebiasStart_carries (m' : Nat) (id : Nat) (s t' : State) (hm : 0x406 &&& m' = 0x406)
    (hx : execPrebiasStart id s = .next t') : Carried m' s t' := by
  simp only [execPrebiasStart, Host.Outcome.next.injEq] at hx
  subst hx
  refine Carried.of_kept ?_
  repeat' (first
    | with_reducible assumption
    | exact Kept.refl m' s
    | with_reducible apply Kept.ite
    | with_reducible refine State.startPrebias_keeps _ _ _ _ (Mask.trans (by decide) hm) ?_)

theorem execStileMessage_carries (m' : Nat) (half : Nat) (s t' : State) (hm : 0x300003000000000000000000000000000800000000041040 &&& m' = 0x300003000000000000000000000000000800000000041040)
    (hx : execStileMessage half s = .next t') : Carried m' s t' := by
  have hx := ofUnit_next hx
  subst hx
  refine Carried.of_kept ?_
  repeat' (first
    | with_reducible assumption
    | exact Kept.refl m' s
    | with_reducible apply Kept.ite
    | with_reducible refine State.stileMessage_keeps _ _ _ _ (Mask.trans (by decide) hm) ?_)

theorem execStileQueueDrain_carries (m' : Nat) (half : Nat) (s t' : State) (hm : 0x10000000000000000000000000000001a000000000741040 &&& m' = 0x10000000000000000000000000000001a000000000741040)
    (hx : execStileQueueDrain half s = .next t') : Carried m' s t' := by
  have hx := ofUnit_next hx
  subst hx
  refine Carried.of_kept ?_
  repeat' (first
    | with_reducible assumption
    | exact Kept.refl m' s
    | with_reducible apply Kept.ite
    | with_reducible refine State.stileDrain_keeps _ _ _ _ (Mask.trans (by decide) hm) ?_)

theorem execRingWaitTrigExceeded_carries (m' : Nat) (c : Nat) (e : Nat) (s t' : State) (hm : 0x3000000000000000000000000000000000000001206 &&& m' = 0x3000000000000000000000000000000000000001206)
    (hx : execRingWaitTrigExceeded c e s = .next t') : Carried m' s t' := by
  have hx := ofUnit_next hx
  subst hx
  refine Carried.of_kept ?_
  repeat' (first
    | with_reducible assumption
    | exact Kept.refl m' s
    | with_reducible apply Kept.ite
    | with_reducible refine State.waitExceeds_keeps _ _ _ _ _ (Mask.trans (by decide) hm) ?_)

theorem execMemResponse_carries (m' : Nat) (tag : Nat) (err : Nat) (data : List Nat) (s t' : State) (hm : 0xc0000000000000c40000007fc012001a8f401c1 &&& m' = 0xc0000000000000c40000007fc012001a8f401c1)
    (hx : execMemResponse tag err data s = .next t') : Carried m' s t' := by
  have hx := ofUnit_next hx
  subst hx
  refine Carried.of_kept ?_
  repeat' (first
    | with_reducible assumption
    | exact Kept.refl m' s
    | with_reducible refine State.memResponse_keeps _ _ _ _ _ _ (Mask.trans (by decide) hm) ?_)

theorem execMemPortTimeout_carries (m' : Nat) (tag : Nat) (s t' : State) (hm : 0xc0000000000000c40000007fc012001a8f401c7 &&& m' = 0xc0000000000000c40000007fc012001a8f401c7)
    (hx : execMemPortTimeout tag s = .next t') : Carried m' s t' := by
  have hx := ofUnit_next hx
  subst hx
  refine Carried.of_kept ?_
  repeat' (first
    | with_reducible assumption
    | exact Kept.refl m' s
    | with_reducible refine State.memTimeout_keeps _ _ _ _ (Mask.trans (by decide) hm) ?_)

theorem execCommandPickup_carries (m' : Nat) (m : Nat) (s t' : State) (hm : 0x5e480000000700040 &&& m' = 0x5e480000000700040)
    (hx : execCommandPickup m s = .next t') : Carried m' s t' := by
  have hx := ofUnit_next hx
  subst hx
  refine Carried.of_kept ?_
  repeat' (first
    | with_reducible assumption
    | exact Kept.refl m' s
    | with_reducible refine State.pickupSlot_keeps _ _ _ _ (Mask.trans (by decide) hm) ?_)

theorem execNoticePost_carries (m' : Nat) (m : Nat) (s t' : State) (hm : 0xc40000005fd78000088f401c0 &&& m' = 0xc40000005fd78000088f401c0)
    (hx : execNoticePost m s = .next t') : Carried m' s t' := by
  have hx := ofUnit_next hx
  subst hx
  refine Carried.of_kept ?_
  repeat' (first
    | with_reducible assumption
    | exact Kept.refl m' s
    | with_reducible refine State.noticePost_keeps _ _ _ _ (Mask.trans (by decide) hm) ?_)

theorem execHeartbeatTimeout_carries (m' : Nat)  (s t' : State) (hm : 0x404680000000c40000001f80000208ff453c6 &&& m' = 0x404680000000c40000001f80000208ff453c6)
    (hx : execHeartbeatTimeout  s = .next t') : Carried m' s t' := by
  simp only [execHeartbeatTimeout, Host.Outcome.next.injEq] at hx
  subst hx
  refine Carried.of_kept ?_
  repeat' (first
    | with_reducible assumption
    | exact Kept.refl m' s
    | with_reducible apply Kept.ite
    | with_reducible refine State.heartbeatLapse_keeps _ _ _ (Mask.trans (by decide) hm) ?_)

theorem execMctpRequest_carries (m' : Nat) (bytes : List Nat) (s t' : State) (hm : 0x404680000000000000001a000002007765244 &&& m' = 0x404680000000000000001a000002007765244)
    (hx : execMctpRequest bytes s = .next t') : Carried m' s t' := by
  simp only [execMctpRequest, Host.Outcome.next.injEq] at hx
  subst hx
  refine Carried.of_kept ?_
  repeat' (first
    | with_reducible assumption
    | exact Kept.refl m' s
    | with_reducible refine State.mctpRequest_keeps _ _ _ _ (Mask.trans (by decide) hm) ?_)

theorem execMctpControl_carries (m' : Nat) (req : CtlReq) (s t' : State) (hm : 0x200048 &&& m' = 0x200048)
    (hx : execMctpControl req s = .next t') : Carried m' s t' := by
  simp only [execMctpControl, Host.Outcome.next.injEq] at hx
  subst hx
  refine Carried.of_kept ?_
  repeat' (first
    | with_reducible assumption
    | exact Kept.refl m' s
    | with_reducible refine State.mctpControl_keeps _ _ _ _ (Mask.trans (by decide) hm) ?_)

theorem execPldmRequest_carries (m' : Nat) (req : PldmReq) (s t' : State) (hm : 0x240049 &&& m' = 0x240049)
    (hx : execPldmRequest req s = .next t') : Carried m' s t' := by
  simp only [execPldmRequest, Host.Outcome.next.injEq] at hx
  subst hx
  refine Carried.of_kept ?_
  repeat' (first
    | with_reducible assumption
    | exact Kept.refl m' s
    | with_reducible refine State.pldmRequest_keeps _ _ _ _ (Mask.trans (by decide) hm) ?_)

theorem execAttach_carries (m' : Nat) (m : Nat) (s t' : State) (hm : 0xc40000007b580040088f40141 &&& m' = 0xc40000007b580040088f40141)
    (hx : execAttach m s = .next t') : Carried m' s t' := by
  have hx := ofUnit_next hx
  subst hx
  refine Carried.of_kept ?_
  repeat' (first
    | with_reducible assumption
    | exact Kept.refl m' s
    | with_reducible refine State.attach_keeps _ _ _ _ (Mask.trans (by decide) hm) ?_
    | with_reducible refine State.settleSteward_keeps _ _ _ (Mask.trans (by decide) hm) ?_)

theorem execDetach_carries (m' : Nat) (m : Nat) (s t' : State) (hm : 0x5a400000000700040 &&& m' = 0x5a400000000700040)
    (hx : execDetach m s = .next t') : Carried m' s t' := by
  have hx := ofUnit_next hx
  subst hx
  refine Carried.of_kept ?_
  repeat' (first
    | with_reducible assumption
    | exact Kept.refl m' s
    | with_reducible refine State.detach_keeps _ _ _ _ (Mask.trans (by decide) hm) ?_
    | with_reducible refine State.settleSteward_keeps _ _ _ (Mask.trans (by decide) hm) ?_)

theorem execHeartbeat_carries (m' : Nat) (m : Nat) (s t' : State) (hm : 0x5a400000000700040 &&& m' = 0x5a400000000700040)
    (hx : execHeartbeat m s = .next t') : Carried m' s t' := by
  have hx := ofUnit_next hx
  subst hx
  refine Carried.of_kept ?_
  repeat' (first
    | with_reducible assumption
    | exact Kept.refl m' s
    | with_reducible refine State.heartbeatCmd_keeps _ _ _ _ (Mask.trans (by decide) hm) ?_
    | with_reducible refine State.settleSteward_keeps _ _ _ (Mask.trans (by decide) hm) ?_)

theorem execGetInfo_carries (m' : Nat) (m : Nat) (s t' : State) (hm : 0x5a400000000740048 &&& m' = 0x5a400000000740048)
    (hx : execGetInfo m s = .next t') : Carried m' s t' := by
  have hx := ofUnit_next hx
  subst hx
  refine Carried.of_kept ?_
  repeat' (first
    | with_reducible assumption
    | exact Kept.refl m' s
    | with_reducible refine State.getInfo_keeps _ _ _ _ (Mask.trans (by decide) hm) ?_
    | with_reducible refine State.settleSteward_keeps _ _ _ (Mask.trans (by decide) hm) ?_)

theorem execStageBudget_carries (m' : Nat) (m : Nat) (s t' : State) (hm : 0x4005a400000000740041 &&& m' = 0x4005a400000000740041)
    (hx : execStageBudget m s = .next t') : Carried m' s t' := by
  have hx := ofUnit_next hx
  subst hx
  refine Carried.of_kept ?_
  repeat' (first
    | with_reducible assumption
    | exact Kept.refl m' s
    | with_reducible refine State.stageBudget_keeps _ _ _ _ (Mask.trans (by decide) hm) ?_
    | with_reducible refine State.settleSteward_keeps _ _ _ (Mask.trans (by decide) hm) ?_)

theorem execCommit_carries (m' : Nat) (m : Nat) (s t' : State) (hm : 0x5a400000000740040 &&& m' = 0x5a400000000740040)
    (hx : execCommit m s = .next t') : Carried m' s t' := by
  have hx := ofUnit_next hx
  subst hx
  refine Carried.of_kept ?_
  repeat' (first
    | with_reducible assumption
    | exact Kept.refl m' s
    | with_reducible refine State.commitCmd_keeps _ _ _ _ (Mask.trans (by decide) hm) ?_
    | with_reducible refine State.settleSteward_keeps _ _ _ (Mask.trans (by decide) hm) ?_)

theorem execAbortStage_carries (m' : Nat) (m : Nat) (s t' : State) (hm : 0x5a400000000740041 &&& m' = 0x5a400000000740041)
    (hx : execAbortStage m s = .next t') : Carried m' s t' := by
  have hx := ofUnit_next hx
  subst hx
  refine Carried.of_kept ?_
  repeat' (first
    | with_reducible assumption
    | exact Kept.refl m' s
    | with_reducible refine State.abortStage_keeps _ _ _ _ (Mask.trans (by decide) hm) ?_
    | with_reducible refine State.settleSteward_keeps _ _ _ (Mask.trans (by decide) hm) ?_)

theorem execGetBudget_carries (m' : Nat) (m : Nat) (s t' : State) (hm : 0x5a400000000740048 &&& m' = 0x5a400000000740048)
    (hx : execGetBudget m s = .next t') : Carried m' s t' := by
  have hx := ofUnit_next hx
  subst hx
  refine Carried.of_kept ?_
  repeat' (first
    | with_reducible assumption
    | exact Kept.refl m' s
    | with_reducible refine State.getBudget_keeps _ _ _ _ (Mask.trans (by decide) hm) ?_
    | with_reducible refine State.settleSteward_keeps _ _ _ (Mask.trans (by decide) hm) ?_)

theorem execLoadProfile_carries (m' : Nat) (m : Nat) (s t' : State) (hm : 0x5a400000000740040 &&& m' = 0x5a400000000740040)
    (hx : execLoadProfile m s = .next t') : Carried m' s t' := by
  have hx := ofUnit_next hx
  subst hx
  refine Carried.of_kept ?_
  repeat' (first
    | with_reducible assumption
    | exact Kept.refl m' s
    | with_reducible refine State.loadProfile_keeps _ _ _ _ (Mask.trans (by decide) hm) ?_
    | with_reducible refine State.settleSteward_keeps _ _ _ (Mask.trans (by decide) hm) ?_)

theorem execDropProfile_carries (m' : Nat) (m : Nat) (s t' : State) (hm : 0x5a400000000740040 &&& m' = 0x5a400000000740040)
    (hx : execDropProfile m s = .next t') : Carried m' s t' := by
  have hx := ofUnit_next hx
  subst hx
  refine Carried.of_kept ?_
  repeat' (first
    | with_reducible assumption
    | exact Kept.refl m' s
    | with_reducible refine State.dropProfile_keeps _ _ _ _ (Mask.trans (by decide) hm) ?_
    | with_reducible refine State.settleSteward_keeps _ _ _ (Mask.trans (by decide) hm) ?_)

theorem execAnnounce_carries (m' : Nat) (m : Nat) (s t' : State) (hm : 0x5a400000000740040 &&& m' = 0x5a400000000740040)
    (hx : execAnnounce m s = .next t') : Carried m' s t' := by
  have hx := ofUnit_next hx
  subst hx
  refine Carried.of_kept ?_
  repeat' (first
    | with_reducible assumption
    | exact Kept.refl m' s
    | with_reducible refine State.announce_keeps _ _ _ _ (Mask.trans (by decide) hm) ?_
    | with_reducible refine State.settleSteward_keeps _ _ _ (Mask.trans (by decide) hm) ?_)

theorem execBarrierHint_carries (m' : Nat) (m : Nat) (s t' : State) (hm : 0x5a400000000740040 &&& m' = 0x5a400000000740040)
    (hx : execBarrierHint m s = .next t') : Carried m' s t' := by
  have hx := ofUnit_next hx
  subst hx
  refine Carried.of_kept ?_
  repeat' (first
    | with_reducible assumption
    | exact Kept.refl m' s
    | with_reducible refine State.barrierHint_keeps _ _ _ _ (Mask.trans (by decide) hm) ?_
    | with_reducible refine State.settleSteward_keeps _ _ _ (Mask.trans (by decide) hm) ?_)

theorem execSetOppTable_carries (m' : Nat) (m : Nat) (s t' : State) (hm : 0x5a400000000740041 &&& m' = 0x5a400000000740041)
    (hx : execSetOppTable m s = .next t') : Carried m' s t' := by
  have hx := ofUnit_next hx
  subst hx
  refine Carried.of_kept ?_
  repeat' (first
    | with_reducible assumption
    | exact Kept.refl m' s
    | with_reducible refine State.setOppTable_keeps _ _ _ _ (Mask.trans (by decide) hm) ?_
    | with_reducible refine State.settleSteward_keeps _ _ _ (Mask.trans (by decide) hm) ?_)

theorem execSetThermal_carries (m' : Nat) (m : Nat) (s t' : State) (hm : 0x4005a400000000740041 &&& m' = 0x4005a400000000740041)
    (hx : execSetThermal m s = .next t') : Carried m' s t' := by
  have hx := ofUnit_next hx
  subst hx
  refine Carried.of_kept ?_
  repeat' (first
    | with_reducible assumption
    | exact Kept.refl m' s
    | with_reducible refine State.setThermal_keeps _ _ _ _ (Mask.trans (by decide) hm) ?_
    | with_reducible refine State.settleSteward_keeps _ _ _ (Mask.trans (by decide) hm) ?_)

theorem execFabricAssign_carries (m' : Nat) (m : Nat) (s t' : State) (hm : 0x5a400000000740041 &&& m' = 0x5a400000000740041)
    (hx : execFabricAssign m s = .next t') : Carried m' s t' := by
  have hx := ofUnit_next hx
  subst hx
  refine Carried.of_kept ?_
  repeat' (first
    | with_reducible assumption
    | exact Kept.refl m' s
    | with_reducible refine State.fabricAssign_keeps _ _ _ _ (Mask.trans (by decide) hm) ?_
    | with_reducible refine State.settleSteward_keeps _ _ _ (Mask.trans (by decide) hm) ?_)

theorem execJoinGroup_carries (m' : Nat) (m : Nat) (s t' : State) (hm : 0x5a400000000740040 &&& m' = 0x5a400000000740040)
    (hx : execJoinGroup m s = .next t') : Carried m' s t' := by
  have hx := ofUnit_next hx
  subst hx
  refine Carried.of_kept ?_
  repeat' (first
    | with_reducible assumption
    | exact Kept.refl m' s
    | with_reducible refine State.joinGroup_keeps _ _ _ _ (Mask.trans (by decide) hm) ?_
    | with_reducible refine State.settleSteward_keeps _ _ _ (Mask.trans (by decide) hm) ?_)

theorem execLeaveGroup_carries (m' : Nat) (m : Nat) (s t' : State) (hm : 0x5a400000000740040 &&& m' = 0x5a400000000740040)
    (hx : execLeaveGroup m s = .next t') : Carried m' s t' := by
  have hx := ofUnit_next hx
  subst hx
  refine Carried.of_kept ?_
  repeat' (first
    | with_reducible assumption
    | exact Kept.refl m' s
    | with_reducible refine State.leaveGroup_keeps _ _ _ _ (Mask.trans (by decide) hm) ?_
    | with_reducible refine State.settleSteward_keeps _ _ _ (Mask.trans (by decide) hm) ?_)

theorem execFabricStatus_carries (m' : Nat) (m : Nat) (s t' : State) (hm : 0x5a400000000700048 &&& m' = 0x5a400000000700048)
    (hx : execFabricStatus m s = .next t') : Carried m' s t' := by
  have hx := ofUnit_next hx
  subst hx
  refine Carried.of_kept ?_
  repeat' (first
    | with_reducible assumption
    | exact Kept.refl m' s
    | with_reducible refine State.fabricStatus_keeps _ _ _ _ (Mask.trans (by decide) hm) ?_
    | with_reducible refine State.settleSteward_keeps _ _ _ (Mask.trans (by decide) hm) ?_)

theorem execSnapshot_carries (m' : Nat) (m : Nat) (s t' : State) (hm : 0x5a400000000740040 &&& m' = 0x5a400000000740040)
    (hx : execSnapshot m s = .next t') : Carried m' s t' := by
  have hx := ofUnit_next hx
  subst hx
  refine Carried.of_kept ?_
  repeat' (first
    | with_reducible assumption
    | exact Kept.refl m' s
    | with_reducible refine State.snapshot_keeps _ _ _ _ (Mask.trans (by decide) hm) ?_
    | with_reducible refine State.settleSteward_keeps _ _ _ (Mask.trans (by decide) hm) ?_)

theorem execReadCounters_carries (m' : Nat) (m : Nat) (s t' : State) (hm : 0x5a400000000740040 &&& m' = 0x5a400000000740040)
    (hx : execReadCounters m s = .next t') : Carried m' s t' := by
  have hx := ofUnit_next hx
  subst hx
  refine Carried.of_kept ?_
  repeat' (first
    | with_reducible assumption
    | exact Kept.refl m' s
    | with_reducible refine State.readCounters_keeps _ _ _ _ (Mask.trans (by decide) hm) ?_
    | with_reducible refine State.settleSteward_keeps _ _ _ (Mask.trans (by decide) hm) ?_)

theorem execArmTriggerArm_carries (m' : Nat) (m : Nat) (s t' : State) (hm : 0x300003c0000000000000000000000005ac00000000741040 &&& m' = 0x300003c0000000000000000000000005ac00000000741040)
    (hx : execArmTriggerArm m s = .next t') : Carried m' s t' := by
  have hx := ofUnit_next hx
  subst hx
  refine Carried.of_kept ?_
  repeat' (first
    | with_reducible assumption
    | exact Kept.refl m' s
    | with_reducible refine State.armTriggerArm_keeps _ _ _ _ (Mask.trans (by decide) hm) ?_
    | with_reducible refine State.settleSteward_keeps _ _ _ (Mask.trans (by decide) hm) ?_)

theorem execArmTriggerForce_carries (m' : Nat) (m : Nat) (s t' : State) (hm : 0x300003c0000000000000000000000005ac00000000741040 &&& m' = 0x300003c0000000000000000000000005ac00000000741040)
    (hx : execArmTriggerForce m s = .next t') : Carried m' s t' := by
  have hx := ofUnit_next hx
  subst hx
  refine Carried.of_kept ?_
  repeat' (first
    | with_reducible assumption
    | exact Kept.refl m' s
    | with_reducible refine State.armTriggerForce_keeps _ _ _ _ (Mask.trans (by decide) hm) ?_
    | with_reducible refine State.settleSteward_keeps _ _ _ (Mask.trans (by decide) hm) ?_)

theorem execArmTriggerResume_carries (m' : Nat) (m : Nat) (s t' : State) (hm : 0x300003c0000000000000000000000005ac00000000741040 &&& m' = 0x300003c0000000000000000000000005ac00000000741040)
    (hx : execArmTriggerResume m s = .next t') : Carried m' s t' := by
  have hx := ofUnit_next hx
  subst hx
  refine Carried.of_kept ?_
  repeat' (first
    | with_reducible assumption
    | exact Kept.refl m' s
    | with_reducible refine State.armTriggerResume_keeps _ _ _ _ (Mask.trans (by decide) hm) ?_
    | with_reducible refine State.settleSteward_keeps _ _ _ (Mask.trans (by decide) hm) ?_)

theorem execReadRing_carries (m' : Nat) (m : Nat) (s t' : State) (hm : 0x30000300000000000000000000000005ac00000000741040 &&& m' = 0x30000300000000000000000000000005ac00000000741040)
    (hx : execReadRing m s = .next t') : Carried m' s t' := by
  have hx := ofUnit_next hx
  subst hx
  refine Carried.of_kept ?_
  repeat' (first
    | with_reducible assumption
    | exact Kept.refl m' s
    | with_reducible refine State.readRing_keeps _ _ _ _ (Mask.trans (by decide) hm) ?_
    | with_reducible refine State.settleSteward_keeps _ _ _ (Mask.trans (by decide) hm) ?_)

theorem execSetWatch_carries (m' : Nat) (m : Nat) (s t' : State) (hm : 0x1fe00000000000000000000005a400000100740040 &&& m' = 0x1fe00000000000000000000005a400000100740040)
    (hx : execSetWatch m s = .next t') : Carried m' s t' := by
  have hx := ofUnit_next hx
  subst hx
  refine Carried.of_kept ?_
  repeat' (first
    | with_reducible assumption
    | exact Kept.refl m' s
    | with_reducible refine State.setWatch_keeps _ _ _ _ (Mask.trans (by decide) hm) ?_
    | with_reducible refine State.settleSteward_keeps _ _ _ (Mask.trans (by decide) hm) ?_)

theorem execUnlockChallenge_carries (m' : Nat) (m : Nat) (s t' : State) (hm : 0x5a400000040700048 &&& m' = 0x5a400000040700048)
    (hx : execUnlockChallenge m s = .next t') : Carried m' s t' := by
  have hx := ofUnit_next hx
  subst hx
  refine Carried.of_kept ?_
  repeat' (first
    | with_reducible assumption
    | exact Kept.refl m' s
    | with_reducible refine State.unlockChallenge_keeps _ _ _ _ (Mask.trans (by decide) hm) ?_
    | with_reducible refine State.settleSteward_keeps _ _ _ (Mask.trans (by decide) hm) ?_)

theorem execUnlockResponsePassword_carries (m' : Nat) (m : Nat) (s t' : State) (hm : 0x1000000100000000003000000c40003805a404000060f458c1 &&& m' = 0x1000000100000000003000000c40003805a404000060f458c1)
    (hx : execUnlockResponsePassword m s = .next t') : Carried m' s t' := by
  have hx := ofUnit_next hx
  subst hx
  refine Carried.of_kept ?_
  repeat' (first
    | with_reducible assumption
    | exact Kept.refl m' s
    | with_reducible refine State.unlockPassword_keeps _ _ _ _ (Mask.trans (by decide) hm) ?_
    | with_reducible refine State.settleSteward_keeps _ _ _ (Mask.trans (by decide) hm) ?_)

theorem execUnlockResponseSignature_carries (m' : Nat) (m : Nat) (s t' : State) (hm : 0x1000000100000000003000000c40003805a404000060f458c1 &&& m' = 0x1000000100000000003000000c40003805a404000060f458c1)
    (hx : execUnlockResponseSignature m s = .next t') : Carried m' s t' := by
  have hx := ofUnit_next hx
  subst hx
  refine Carried.of_kept ?_
  repeat' (first
    | with_reducible assumption
    | exact Kept.refl m' s
    | with_reducible refine State.unlockSignature_keeps _ _ _ _ (Mask.trans (by decide) hm) ?_
    | with_reducible refine State.settleSteward_keeps _ _ _ (Mask.trans (by decide) hm) ?_)

theorem execRelock_carries (m' : Nat) (m : Nat) (s t' : State) (hm : 0x1000000100000000003000000c40001805a404000060f458c1 &&& m' = 0x1000000100000000003000000c40001805a404000060f458c1)
    (hx : execRelock m s = .next t') : Carried m' s t' := by
  have hx := ofUnit_next hx
  subst hx
  refine Carried.of_kept ?_
  repeat' (first
    | with_reducible assumption
    | exact Kept.refl m' s
    | with_reducible refine State.relockCmd_keeps _ _ _ _ (Mask.trans (by decide) hm) ?_
    | with_reducible refine State.settleSteward_keeps _ _ _ (Mask.trans (by decide) hm) ?_)

theorem execFaultRead_carries (m' : Nat) (m : Nat) (s t' : State) (hm : 0x5a400000000740040 &&& m' = 0x5a400000000740040)
    (hx : execFaultRead m s = .next t') : Carried m' s t' := by
  have hx := ofUnit_next hx
  subst hx
  refine Carried.of_kept ?_
  repeat' (first
    | with_reducible assumption
    | exact Kept.refl m' s
    | with_reducible refine State.faultReadCmd_keeps _ _ _ _ (Mask.trans (by decide) hm) ?_
    | with_reducible refine State.settleSteward_keeps _ _ _ (Mask.trans (by decide) hm) ?_)

theorem execFaultClear_carries (m' : Nat) (m : Nat) (s t' : State) (hm : 0x195a4000000807400c0 &&& m' = 0x195a4000000807400c0)
    (hx : execFaultClear m s = .next t') : Carried m' s t' := by
  have hx := ofUnit_next hx
  subst hx
  refine Carried.of_kept ?_
  repeat' (first
    | with_reducible assumption
    | exact Kept.refl m' s
    | with_reducible refine State.faultClearCmd_keeps _ _ _ _ (Mask.trans (by decide) hm) ?_
    | with_reducible refine State.settleSteward_keeps _ _ _ (Mask.trans (by decide) hm) ?_)

theorem execFaultForce_carries (m' : Nat) (m : Nat) (s t' : State) (hm : 0x81f0000500010404683004001c400147ffac002f21a7fedfcd &&& m' = 0x81f0000500010404683004001c400147ffac002f21a7fedfcd)
    (hx : execFaultForce m s = .next t') : Carried m' s t' := by
  have hx := ofUnit_next hx
  subst hx
  refine Carried.of_kept ?_
  repeat' (first
    | with_reducible assumption
    | exact Kept.refl m' s
    | with_reducible refine State.faultForceCmd_keeps _ _ _ _ (Mask.trans (by decide) hm) ?_
    | with_reducible refine State.settleSteward_keeps _ _ _ (Mask.trans (by decide) hm) ?_)

theorem execInjectStart_carries (m' : Nat) (m : Nat) (s t' : State) (hm : 0x4005a400000000740041 &&& m' = 0x4005a400000000740041)
    (hx : execInjectStart m s = .next t') : Carried m' s t' := by
  have hx := ofUnit_next hx
  subst hx
  refine Carried.of_kept ?_
  repeat' (first
    | with_reducible assumption
    | exact Kept.refl m' s
    | with_reducible refine State.injectStart_keeps _ _ _ _ (Mask.trans (by decide) hm) ?_
    | with_reducible refine State.settleSteward_keeps _ _ _ (Mask.trans (by decide) hm) ?_)

theorem execCaptureRead_carries (m' : Nat) (m : Nat) (s t' : State) (hm : 0x5a400000000740048 &&& m' = 0x5a400000000740048)
    (hx : execCaptureRead m s = .next t') : Carried m' s t' := by
  have hx := ofUnit_next hx
  subst hx
  refine Carried.of_kept ?_
  repeat' (first
    | with_reducible assumption
    | exact Kept.refl m' s
    | with_reducible refine State.captureRead_keeps _ _ _ _ (Mask.trans (by decide) hm) ?_
    | with_reducible refine State.settleSteward_keeps _ _ _ (Mask.trans (by decide) hm) ?_)

theorem execDroopDetection_carries (m' : Nat) (c : Nat) (code : Nat) (s t' : State) (hm : 0x300000000000000700c400000000000000000801200 &&& m' = 0x300000000000000700c400000000000000000801200)
    (hx : execDroopDetection c code s = .next t') : Carried m' s t' := by
  have hx := ofUnit_next hx
  subst hx
  refine Carried.of_kept ?_
  repeat' (first
    | with_reducible assumption
    | exact Kept.refl m' s
    | with_reducible apply Kept.ite
    | with_reducible refine State.edge_keeps _ _ _ _ _ (Mask.trans (by decide) hm) ?_
    | with_reducible refine State.noteReasons_keeps _ _ _ (Mask.trans (by decide) hm) ?_)

theorem execLadderTimerExpiry_carries (m' : Nat) (c : Nat) (code : Nat) (s t' : State) (hm : 0x300000000000000700c400000000000000000801200 &&& m' = 0x300000000000000700c400000000000000000801200)
    (hx : execLadderTimerExpiry c code s = .next t') : Carried m' s t' := by
  have hx := ofUnit_next hx
  subst hx
  refine Carried.of_kept ?_
  repeat' (first
    | with_reducible assumption
    | exact Kept.refl m' s
    | with_reducible apply Kept.ite
    | with_reducible refine State.edgesToDrop_keeps _ _ _ _ _ _ (Mask.trans (by decide) hm) ?_)

theorem execLocalStopExpiry_carries (m' : Nat) (c : Nat) (s t' : State) (hm : 0x81c00000000000000000000000000000000000000000000006 &&& m' = 0x81c00000000000000000000000000000000000000000000006)
    (hx : execLocalStopExpiry c s = .next t') : Carried m' s t' := by
  have hx := ofUnit_next hx
  subst hx
  refine Carried.of_kept ?_
  repeat' (first
    | with_reducible assumption
    | exact Kept.refl m' s
    | with_reducible apply Kept.ite
    | with_reducible refine State.localStopEnds_keeps _ _ _ _ (Mask.trans (by decide) hm) ?_)

theorem execFastCalibrationWindow_carries (m' : Nat) (c : Nat) (m : Nat) (s t' : State) (hm : 0x100000000000000000c400000000000000000801200 &&& m' = 0x100000000000000000c400000000000000000801200)
    (hx : execFastCalibrationWindow c m s = .next t') : Carried m' s t' := by
  have hx := ofUnit_next hx
  subst hx
  refine Carried.of_kept ?_
  repeat' (first
    | with_reducible assumption
    | exact Kept.refl m' s
    | with_reducible apply Kept.ite
    | with_reducible refine State.calWindow_keeps _ _ _ _ _ (Mask.trans (by decide) hm) ?_
    | with_reducible refine State.noteReasons_keeps _ _ _ (Mask.trans (by decide) hm) ?_)

theorem execMaintenanceRound_carries (m' : Nat) (c : Nat) (m : Nat) (start : Nat) (s t' : State) (hm : 0x1000000000000000000000000000000000000001200 &&& m' = 0x1000000000000000000000000000000000000001200)
    (hx : execMaintenanceRound c m start s = .next t') : Carried m' s t' := by
  have hx := ofUnit_next hx
  subst hx
  refine Carried.of_kept ?_
  repeat' (first
    | with_reducible assumption
    | exact Kept.refl m' s
    | with_reducible apply Kept.ite
    | with_reducible refine State.maintenance_keeps _ _ _ _ _ _ (Mask.trans (by decide) hm) ?_)

theorem execStuckDetector_carries (m' : Nat) (c : Nat) (s t' : State) (hm : 0x100000000000001000c400000000000000000801286 &&& m' = 0x100000000000001000c400000000000000000801286)
    (hx : execStuckDetector c s = .next t') : Carried m' s t' := by
  have hx := ofUnit_next hx
  subst hx
  refine Carried.of_kept ?_
  repeat' (first
    | with_reducible assumption
    | exact Kept.refl m' s
    | with_reducible apply Kept.ite
    | with_reducible refine State.stuckDetector_keeps _ _ _ _ (Mask.trans (by decide) hm) ?_
    | with_reducible refine State.noteReasons_keeps _ _ _ (Mask.trans (by decide) hm) ?_)

theorem execDetectorReinstate_carries (m' : Nat) (c : Nat) (s t' : State) (hm : 0x100000000000000000c400000000000000000801200 &&& m' = 0x100000000000000000c400000000000000000801200)
    (hx : execDetectorReinstate c s = .next t') : Carried m' s t' := by
  have hx := ofUnit_next hx
  subst hx
  refine Carried.of_kept ?_
  repeat' (first
    | with_reducible assumption
    | exact Kept.refl m' s
    | with_reducible apply Kept.ite
    | with_reducible refine State.reinstate_keeps _ _ _ _ (Mask.trans (by decide) hm) ?_
    | with_reducible refine State.noteReasons_keeps _ _ _ (Mask.trans (by decide) hm) ?_)

theorem execProactiveForceEnd_carries (m' : Nat) (stripe : Nat) (s t' : State) (hm : 0xc400000000000000000800806 &&& m' = 0xc400000000000000000800806)
    (hx : execProactiveForceEnd stripe s = .next t') : Carried m' s t' := by
  have hx := ofUnit_next hx
  subst hx
  refine Carried.of_kept ?_
  repeat' (first
    | with_reducible assumption
    | exact Kept.refl m' s
    | with_reducible apply Kept.ite
    | with_reducible refine State.proEnds_keeps _ _ _ _ (Mask.trans (by decide) hm) ?_
    | with_reducible refine State.noteReasons_keeps _ _ _ (Mask.trans (by decide) hm) ?_)

theorem execSevereReport_carries (m' : Nat) (c : Nat) (s t' : State) (hm : 0x81c00001000000000000008000000000000000000000001a00 &&& m' = 0x81c00001000000000000008000000000000000000000001a00)
    (hx : execSevereReport c s = .next t') : Carried m' s t' := by
  have hx := ofUnit_next hx
  subst hx
  refine Carried.of_kept ?_
  repeat' (first
    | with_reducible assumption
    | exact Kept.refl m' s
    | with_reducible apply Kept.ite
    | with_reducible refine State.severeReport_keeps _ _ _ _ (Mask.trans (by decide) hm) ?_)

theorem execFreezeExpiry_carries (m' : Nat) (stripe : Nat) (s t' : State) (hm : 0x81c00001000000000000000000000000000000000000001806 &&& m' = 0x81c00001000000000000000000000000000000000000001806)
    (hx : execFreezeExpiry stripe s = .next t') : Carried m' s t' := by
  have hx := ofUnit_next hx
  subst hx
  refine Carried.of_kept ?_
  repeat' (first
    | with_reducible assumption
    | exact Kept.refl m' s
    | with_reducible apply Kept.ite
    | with_reducible refine State.freezeExpiry_keeps _ _ _ _ (Mask.trans (by decide) hm) ?_)

theorem execDieForceReleaseStep_carries (m' : Nat)  (s t' : State) (hm : 0xc400000000000000000800806 &&& m' = 0xc400000000000000000800806)
    (hx : execDieForceReleaseStep  s = .next t') : Carried m' s t' := by
  simp only [execDieForceReleaseStep, Host.Outcome.next.injEq] at hx
  subst hx
  refine Carried.of_kept ?_
  repeat' (first
    | with_reducible assumption
    | exact Kept.refl m' s
    | with_reducible apply Kept.ite
    | with_reducible refine State.forceReleaseStep_keeps _ _ _ (Mask.trans (by decide) hm) ?_
    | with_reducible refine State.noteReasons_keeps _ _ _ (Mask.trans (by decide) hm) ?_)

theorem execHello_carries (m' : Nat) (f : FrameHdr) (node : Nat) (_port : Nat) (s t' : State) (hm : 0x580000000000000000000000000000000000000800c4 &&& m' = 0x580000000000000000000000000000000000000800c4)
    (hx : execHello f node _port s = .next t') : Carried m' s t' := by
  simp only [execHello, Host.Outcome.next.injEq] at hx
  subst hx
  refine Carried.of_kept ?_
  repeat' (first
    | with_reducible assumption
    | exact Kept.refl m' s
    | with_reducible refine State.onHello_keeps _ _ _ _ _ (Mask.trans (by decide) hm) ?_)

theorem execHelloAck_carries (m' : Nat) (f : FrameHdr) (node : Nat) (_port : Nat) (s t' : State) (hm : 0x58000000000000000000000000000000000000080044 &&& m' = 0x58000000000000000000000000000000000000080044)
    (hx : execHelloAck f node _port s = .next t') : Carried m' s t' := by
  simp only [execHelloAck, Host.Outcome.next.injEq] at hx
  subst hx
  refine Carried.of_kept ?_
  repeat' (first
    | with_reducible assumption
    | exact Kept.refl m' s
    | with_reducible refine State.onHelloAck_keeps _ _ _ _ _ (Mask.trans (by decide) hm) ?_)

theorem execAckFrame_carries (m' : Nat) (f : FrameHdr) (seqs : List Nat) (s t' : State) (hm : 0x58000000000000000000000000000000000000080044 &&& m' = 0x58000000000000000000000000000000000000080044)
    (hx : execAckFrame f seqs s = .next t') : Carried m' s t' := by
  simp only [execAckFrame, Host.Outcome.next.injEq] at hx
  subst hx
  refine Carried.of_kept ?_
  repeat' (first
    | with_reducible assumption
    | exact Kept.refl m' s
    | with_reducible refine State.onAck_keeps _ _ _ _ _ (Mask.trans (by decide) hm) ?_)

theorem execPace_carries (m' : Nat) (f : FrameHdr) (group : Nat) (rate : Nat) (valid : Nat) (holder : Nat) (s t' : State) (hm : 0x5800000000000000000c4000000000000000108c0044 &&& m' = 0x5800000000000000000c4000000000000000108c0044)
    (hx : execPace f group rate valid holder s = .next t') : Carried m' s t' := by
  simp only [execPace, Host.Outcome.next.injEq] at hx
  subst hx
  refine Carried.of_kept ?_
  repeat' (first
    | with_reducible assumption
    | exact Kept.refl m' s
    | with_reducible refine State.onPace_keeps _ _ _ _ _ _ _ _ (Mask.trans (by decide) hm) ?_)

theorem execEmerg_carries (m' : Nat) (f : FrameHdr) (scope : Nat) (rate : Nat) (group : Nat) (valid : Nat) (origin : Nat) (s t' : State) (hm : 0x5800000000000000000c4000000000000000108c0044 &&& m' = 0x5800000000000000000c4000000000000000108c0044)
    (hx : execEmerg f scope rate group valid origin s = .next t') : Carried m' s t' := by
  simp only [execEmerg, Host.Outcome.next.injEq] at hx
  subst hx
  refine Carried.of_kept ?_
  repeat' (first
    | with_reducible assumption
    | exact Kept.refl m' s
    | with_reducible refine State.onEmerg_keeps _ _ _ _ _ _ _ _ _ (Mask.trans (by decide) hm) ?_)

theorem execRelPrepare_carries (m' : Nat) (f : FrameHdr) (id : Nat) (kind : Nat) (levels : Nat) (group : Nat) (newSet : Nat) (newRate : Nat) (valid : Nat) (s t' : State) (hm : 0x58000000000000000000000000000000000000080044 &&& m' = 0x58000000000000000000000000000000000000080044)
    (hx : execRelPrepare f id kind levels group newSet newRate valid s = .next t') : Carried m' s t' := by
  simp only [execRelPrepare, Host.Outcome.next.injEq] at hx
  subst hx
  refine Carried.of_kept ?_
  repeat' (first
    | with_reducible assumption
    | exact Kept.refl m' s
    | with_reducible refine State.onPrepare_keeps _ _ _ _ _ _ _ _ _ _ _ (Mask.trans (by decide) hm) ?_)

theorem execRelVote_carries (m' : Nat) (f : FrameHdr) (id : Nat) (vote : Nat) (count : Nat) (s t' : State) (hm : 0x5c0000000000000000000000000000000000000c0044 &&& m' = 0x5c0000000000000000000000000000000000000c0044)
    (hx : execRelVote f id vote count s = .next t') : Carried m' s t' := by
  simp only [execRelVote, Host.Outcome.next.injEq] at hx
  subst hx
  refine Carried.of_kept ?_
  repeat' (first
    | with_reducible assumption
    | exact Kept.refl m' s
    | with_reducible refine State.onVote_keeps _ _ _ _ _ _ _ (Mask.trans (by decide) hm) ?_)

theorem execRelCommit_carries (m' : Nat) (f : FrameHdr) (id : Nat) (t : Nat) (s t' : State) (hm : 0x580000000000000000000000000000000000000c0044 &&& m' = 0x580000000000000000000000000000000000000c0044)
    (hx : execRelCommit f id t s = .next t') : Carried m' s t' := by
  simp only [execRelCommit, Host.Outcome.next.injEq] at hx
  subst hx
  refine Carried.of_kept ?_
  repeat' (first
    | with_reducible assumption
    | exact Kept.refl m' s
    | with_reducible refine State.onCommit_keeps _ _ _ _ _ _ (Mask.trans (by decide) hm) ?_)

theorem execRelAbort_carries (m' : Nat) (f : FrameHdr) (id : Nat) (s t' : State) (hm : 0x58000000000000000000000000000000000000080044 &&& m' = 0x58000000000000000000000000000000000000080044)
    (hx : execRelAbort f id s = .next t') : Carried m' s t' := by
  simp only [execRelAbort, Host.Outcome.next.injEq] at hx
  subst hx
  refine Carried.of_kept ?_
  repeat' (first
    | with_reducible assumption
    | exact Kept.refl m' s
    | with_reducible refine State.onAbort_keeps _ _ _ _ _ (Mask.trans (by decide) hm) ?_)

theorem execFabRetransmit_carries (m' : Nat) (peer : Nat) (seq : Nat) (s t' : State) (hm : 0xa80000000000000000000000000000000000000800c6 &&& m' = 0xa80000000000000000000000000000000000000800c6)
    (hx : execFabRetransmit peer seq s = .next t') : Carried m' s t' := by
  simp only [execFabRetransmit, Host.Outcome.next.injEq] at hx
  subst hx
  refine Carried.of_kept ?_
  repeat' (first
    | with_reducible assumption
    | exact Kept.refl m' s
    | with_reducible apply Kept.ite
    | with_reducible refine State.retransmit_keeps _ _ _ _ _ (Mask.trans (by decide) hm) ?_)

theorem execDiscoveryPeriod_carries (m' : Nat)  (s t' : State) (hm : 0x8000000000000000000000000000000000000080046 &&& m' = 0x8000000000000000000000000000000000000080046)
    (hx : execDiscoveryPeriod  s = .next t') : Carried m' s t' := by
  simp only [execDiscoveryPeriod, Host.Outcome.next.injEq] at hx
  subst hx
  refine Carried.of_kept ?_
  repeat' (first
    | with_reducible assumption
    | exact Kept.refl m' s
    | with_reducible refine State.discovery_keeps _ _ _ (Mask.trans (by decide) hm) ?_)

theorem execPeerDead_carries (m' : Nat) (node : Nat) (s t' : State) (hm : 0x80086 &&& m' = 0x80086)
    (hx : execPeerDead node s = .next t') : Carried m' s t' := by
  simp only [execPeerDead, Host.Outcome.next.injEq] at hx
  subst hx
  refine Carried.of_kept ?_
  repeat' (first
    | with_reducible assumption
    | exact Kept.refl m' s
    | with_reducible apply Kept.ite
    | with_reducible refine State.peerDead_keeps _ _ _ _ (Mask.trans (by decide) hm) ?_)

theorem execPaceRefresh_carries (m' : Nat) (slot : Nat) (s t' : State) (hm : 0x8000000000000000000000000000000000000080046 &&& m' = 0x8000000000000000000000000000000000000080046)
    (hx : execPaceRefresh slot s = .next t') : Carried m' s t' := by
  simp only [execPaceRefresh, Host.Outcome.next.injEq] at hx
  subst hx
  refine Carried.of_kept ?_
  repeat' (first
    | with_reducible assumption
    | exact Kept.refl m' s
    | with_reducible refine State.paceRefresh_keeps _ _ _ _ (Mask.trans (by decide) hm) ?_)

theorem execLevelWordExpiry_carries (m' : Nat) (idx : Nat) (s t' : State) (hm : 0xc400000000000000010880006 &&& m' = 0xc400000000000000010880006)
    (hx : execLevelWordExpiry idx s = .next t') : Carried m' s t' := by
  simp only [execLevelWordExpiry, Host.Outcome.next.injEq] at hx
  subst hx
  refine Carried.of_kept ?_
  repeat' (first
    | with_reducible assumption
    | exact Kept.refl m' s
    | with_reducible apply Kept.ite
    | with_reducible refine State.wordExpires_keeps _ _ _ _ (Mask.trans (by decide) hm) ?_)

theorem execLevelWordResend_carries (m' : Nat) (idx : Nat) (s t' : State) (hm : 0xc0046 &&& m' = 0xc0046)
    (hx : execLevelWordResend idx s = .next t') : Carried m' s t' := by
  simp only [execLevelWordResend, Host.Outcome.next.injEq] at hx
  subst hx
  refine Carried.of_kept ?_
  repeat' (first
    | with_reducible assumption
    | exact Kept.refl m' s
    | with_reducible apply Kept.ite
    | with_reducible refine State.wordResend_keeps _ _ _ _ (Mask.trans (by decide) hm) ?_)

theorem execVoteWaitEnd_carries (m' : Nat) (id : Nat) (s t' : State) (hm : 0x8000000000000000000000000000000000000080046 &&& m' = 0x8000000000000000000000000000000000000080046)
    (hx : execVoteWaitEnd id s = .next t') : Carried m' s t' := by
  simp only [execVoteWaitEnd, Host.Outcome.next.injEq] at hx
  subst hx
  refine Carried.of_kept ?_
  repeat' (first
    | with_reducible assumption
    | exact Kept.refl m' s
    | with_reducible refine State.voteWaitEnd_keeps _ _ _ _ (Mask.trans (by decide) hm) ?_)

theorem execOriginatorWaitEnd_carries (m' : Nat) (id : Nat) (s t' : State) (hm : 0xc000000000000000000000000000000000000080046 &&& m' = 0xc000000000000000000000000000000000000080046)
    (hx : execOriginatorWaitEnd id s = .next t') : Carried m' s t' := by
  simp only [execOriginatorWaitEnd, Host.Outcome.next.injEq] at hx
  subst hx
  refine Carried.of_kept ?_
  repeat' (first
    | with_reducible assumption
    | exact Kept.refl m' s
    | with_reducible refine State.originatorWaitEnd_keeps _ _ _ _ (Mask.trans (by decide) hm) ?_)

theorem execReleaseBufferHoldExpiry_carries (m' : Nat) (id : Nat) (s t' : State) (hm : 0x80000000000000000000000000000000000000080086 &&& m' = 0x80000000000000000000000000000000000000080086)
    (hx : execReleaseBufferHoldExpiry id s = .next t') : Carried m' s t' := by
  simp only [execReleaseBufferHoldExpiry, Host.Outcome.next.injEq] at hx
  subst hx
  refine Carried.of_kept ?_
  repeat' (first
    | with_reducible assumption
    | exact Kept.refl m' s
    | with_reducible refine State.bufExpires_keeps _ _ _ _ (Mask.trans (by decide) hm) ?_)

theorem execReleaseRetry_carries (m' : Nat) (slot : Nat) (s t' : State) (hm : 0xc0000000000000000000000000000000000000c0046 &&& m' = 0xc0000000000000000000000000000000000000c0046)
    (hx : execReleaseRetry slot s = .next t') : Carried m' s t' := by
  simp only [execReleaseRetry, Host.Outcome.next.injEq] at hx
  subst hx
  refine Carried.of_kept ?_
  repeat' (first
    | with_reducible assumption
    | exact Kept.refl m' s
    | with_reducible refine State.releaseRetry_keeps _ _ _ _ (Mask.trans (by decide) hm) ?_)

theorem execEdvikFrameDiscard_carries (m' : Nat) (err : Bool) (bytes : List Nat) (s t' : State) (hm : 0x50000000000000000000000000000000000000000004 &&& m' = 0x50000000000000000000000000000000000000000004)
    (hx : execEdvikFrameDiscard err bytes s = .next t') : Carried m' s t' := by
  simp only [execEdvikFrameDiscard, Host.Outcome.next.injEq] at hx
  subst hx
  refine Carried.of_kept ?_
  repeat' (first
    | with_reducible assumption
    | exact Kept.refl m' s
    | with_reducible apply Kept.ite
    | with_reducible refine State.discardFrame_keeps _ _ _ _ _ (Mask.trans (by decide) hm) ?_)

theorem execFwStageHost_carries (m' : Nat) (m : Nat) (s t' : State) (hm : 0x5a400200020700040 &&& m' = 0x5a400200020700040)
    (hx : execFwStageHost m s = .next t') : Carried m' s t' := by
  have hx := ofUnit_next hx
  subst hx
  refine Carried.of_kept ?_
  repeat' (first
    | with_reducible assumption
    | exact Kept.refl m' s
    | with_reducible refine State.fwStageHost_keeps _ _ _ _ (Mask.trans (by decide) hm) ?_
    | with_reducible refine State.settleSteward_keeps _ _ _ (Mask.trans (by decide) hm) ?_)

theorem execFwStageBegin_carries (m' : Nat) (m : Nat) (s t' : State) (hm : 0x5a400200020700040 &&& m' = 0x5a400200020700040)
    (hx : execFwStageBegin m s = .next t') : Carried m' s t' := by
  have hx := ofUnit_next hx
  subst hx
  refine Carried.of_kept ?_
  repeat' (first
    | with_reducible assumption
    | exact Kept.refl m' s
    | with_reducible refine State.fwStageBegin_keeps _ _ _ _ (Mask.trans (by decide) hm) ?_
    | with_reducible refine State.settleSteward_keeps _ _ _ (Mask.trans (by decide) hm) ?_)

theorem execFwStageChunk_carries (m' : Nat) (m : Nat) (s t' : State) (hm : 0x5a400000020700040 &&& m' = 0x5a400000020700040)
    (hx : execFwStageChunk m s = .next t') : Carried m' s t' := by
  have hx := ofUnit_next hx
  subst hx
  refine Carried.of_kept ?_
  repeat' (first
    | with_reducible assumption
    | exact Kept.refl m' s
    | with_reducible refine State.fwStageChunk_keeps _ _ _ _ (Mask.trans (by decide) hm) ?_
    | with_reducible refine State.settleSteward_keeps _ _ _ (Mask.trans (by decide) hm) ?_)

theorem execFwStageEnd_carries (m' : Nat) (m : Nat) (s t' : State) (hm : 0x5a400000020700040 &&& m' = 0x5a400000020700040)
    (hx : execFwStageEnd m s = .next t') : Carried m' s t' := by
  have hx := ofUnit_next hx
  subst hx
  refine Carried.of_kept ?_
  repeat' (first
    | with_reducible assumption
    | exact Kept.refl m' s
    | with_reducible refine State.fwStageEnd_keeps _ _ _ _ (Mask.trans (by decide) hm) ?_
    | with_reducible refine State.settleSteward_keeps _ _ _ (Mask.trans (by decide) hm) ?_)

theorem execFwStageCancel_carries (m' : Nat) (m : Nat) (s t' : State) (hm : 0x7a400200020740040 &&& m' = 0x7a400200020740040)
    (hx : execFwStageCancel m s = .next t') : Carried m' s t' := by
  have hx := ofUnit_next hx
  subst hx
  refine Carried.of_kept ?_
  repeat' (first
    | with_reducible assumption
    | exact Kept.refl m' s
    | with_reducible refine State.fwStageCancel_keeps _ _ _ _ (Mask.trans (by decide) hm) ?_
    | with_reducible refine State.settleSteward_keeps _ _ _ (Mask.trans (by decide) hm) ?_)

theorem execFwStageReadback_carries (m' : Nat) (img : Option ImageIn) (s t' : State) (hm : 0x22000200020340040 &&& m' = 0x22000200020340040)
    (hx : execFwStageReadback img s = .next t') : Carried m' s t' := by
  simp only [execFwStageReadback, Host.Outcome.next.injEq] at hx
  subst hx
  refine Carried.of_kept ?_
  repeat' (first
    | with_reducible assumption
    | exact Kept.refl m' s
    | with_reducible refine State.readback_keeps _ _ _ _ (Mask.trans (by decide) hm) ?_)

theorem execFwActivate_carries (m' : Nat) (m : Nat) (s t' : State) (hm : 0x5e480202020760040 &&& m' = 0x5e480202020760040)
    (hx : execFwActivate m s = .next t') : Carried m' s t' := by
  have hx := ofUnit_next hx
  subst hx
  refine Carried.of_kept ?_
  repeat' (first
    | with_reducible assumption
    | exact Kept.refl m' s
    | with_reducible refine State.fwActivate_keeps _ _ _ _ (Mask.trans (by decide) hm) ?_
    | with_reducible refine State.settleSteward_keeps _ _ _ (Mask.trans (by decide) hm) ?_)

theorem execActivationStart_carries (m' : Nat)  (s t' : State) (hm : 0x202020260046 &&& m' = 0x202020260046)
    (hx : execActivationStart  s = .next t') : Carried m' s t' := by
  simp only [execActivationStart, Host.Outcome.next.injEq] at hx
  subst hx
  refine Carried.of_kept ?_
  repeat' (first
    | with_reducible assumption
    | exact Kept.refl m' s
    | with_reducible refine State.activationStart_keeps _ _ _ (Mask.trans (by decide) hm) ?_)

theorem execActivationTimeout_carries (m' : Nat)  (s t' : State) (hm : 0x81c0000100000404680004001000010003a0002020a7f6df4e &&& m' = 0x81c0000100000404680004001000010003a0002020a7f6df4e)
    (hx : execActivationTimeout  s = .next t') : Carried m' s t' := by
  simp only [execActivationTimeout, Host.Outcome.next.injEq] at hx
  subst hx
  refine Carried.of_kept ?_
  repeat' (first
    | with_reducible assumption
    | exact Kept.refl m' s
    | with_reducible refine State.activationTimeout_keeps _ _ _ (Mask.trans (by decide) hm) ?_)

theorem execActivationComplete_carries (m' : Nat) (img : ImageIn) (followersOk : Bool) (s t' : State) (hm : 0x81c0000100000404680004001000010003a0027820a7f6dfec &&& m' = 0x81c0000100000404680004001000010003a0027820a7f6dfec)
    (hx : execActivationComplete img followersOk s = .next t') : Carried m' s t' := by
  simp only [execActivationComplete, Host.Outcome.next.injEq] at hx
  subst hx
  refine Carried.of_kept ?_
  repeat' (first
    | with_reducible assumption
    | exact Kept.refl m' s
    | with_reducible refine State.activationComplete_keeps _ _ _ _ _ (Mask.trans (by decide) hm) ?_
    | split)

theorem execSlotRepairDone_carries (m' : Nat)  (s t' : State) (hm : 0x22000200020340040 &&& m' = 0x22000200020340040)
    (hx : execSlotRepairDone  s = .next t') : Carried m' s t' := by
  simp only [execSlotRepairDone, Host.Outcome.next.injEq] at hx
  subst hx
  refine Carried.of_kept ?_
  repeat' (first
    | with_reducible assumption
    | exact Kept.refl m' s
    | with_reducible refine State.repairDone_keeps _ _ _ (Mask.trans (by decide) hm) ?_)

theorem execFwStatus_carries (m' : Nat) (m : Nat) (s t' : State) (hm : 0x5a400000000740041 &&& m' = 0x5a400000000740041)
    (hx : execFwStatus m s = .next t') : Carried m' s t' := by
  have hx := ofUnit_next hx
  subst hx
  refine Carried.of_kept ?_
  repeat' (first
    | with_reducible assumption
    | exact Kept.refl m' s
    | with_reducible refine State.fwStatus_keeps _ _ _ _ (Mask.trans (by decide) hm) ?_
    | with_reducible refine State.settleSteward_keeps _ _ _ (Mask.trans (by decide) hm) ?_)

theorem execCompartmentFault_carries (m' : Nat) (comp : Nat) (s t' : State) (hm : 0x3a002e000a07601cc &&& m' = 0x3a002e000a07601cc)
    (hx : execCompartmentFault comp s = .next t') : Carried m' s t' := by
  have hx := ofUnit_next hx
  subst hx
  refine Carried.of_kept ?_
  repeat' (first
    | with_reducible assumption
    | exact Kept.refl m' s
    | with_reducible refine State.compFault_keeps _ _ _ _ (Mask.trans (by decide) hm) ?_)

theorem execUserRead_carries (m' : Nat) (off : Nat) (s t' : State) (hm : 0x40 &&& m' = 0x40)
    (hx : execUserRead off s = .next t') : Carried m' s t' := by
  simp only [execUserRead, Host.Outcome.next.injEq] at hx
  subst hx
  refine Carried.of_kept ?_
  repeat' (first
    | with_reducible assumption
    | exact Kept.refl m' s
    | with_reducible refine State.userRead_keeps _ _ _ _ (Mask.trans (by decide) hm) ?_)

theorem execUserCapStage_carries (m' : Nat) (cap : UserCap) (s t' : State) (hm : 0x20000040 &&& m' = 0x20000040)
    (hx : execUserCapStage cap s = .next t') : Carried m' s t' := by
  simp only [execUserCapStage, Host.Outcome.next.injEq] at hx
  subst hx
  refine Carried.of_kept ?_
  repeat' (first
    | with_reducible assumption
    | exact Kept.refl m' s
    | with_reducible refine State.userStage_keeps _ _ _ _ (Mask.trans (by decide) hm) ?_)

theorem execUserCapCommit_carries (m' : Nat)  (s t' : State) (hm : 0x40040 &&& m' = 0x40040)
    (hx : execUserCapCommit  s = .next t') : Carried m' s t' := by
  simp only [execUserCapCommit, Host.Outcome.next.injEq] at hx
  subst hx
  refine Carried.of_kept ?_
  repeat' (first
    | with_reducible assumption
    | exact Kept.refl m' s
    | with_reducible refine State.userCommit_keeps _ _ _ (Mask.trans (by decide) hm) ?_)

theorem execUserDoorbell_carries (m' : Nat) (set : Nat) (clear : Nat) (s t' : State) (hm : 0xc00000000040040 &&& m' = 0xc00000000040040)
    (hx : execUserDoorbell set clear s = .next t') : Carried m' s t' := by
  simp only [execUserDoorbell, Host.Outcome.next.injEq] at hx
  subst hx
  refine Carried.of_kept ?_
  repeat' (first
    | with_reducible assumption
    | exact Kept.refl m' s
    | with_reducible refine State.userDoorbell_keeps _ _ _ _ _ (Mask.trans (by decide) hm) ?_)

theorem execUserTimerSet_carries (m' : Nat) (us : Nat) (s t' : State) (hm : 0x20000040 &&& m' = 0x20000040)
    (hx : execUserTimerSet us s = .next t') : Carried m' s t' := by
  simp only [execUserTimerSet, Host.Outcome.next.injEq] at hx
  subst hx
  refine Carried.of_kept ?_
  repeat' (first
    | with_reducible assumption
    | exact Kept.refl m' s
    | with_reducible refine State.userTimer_keeps _ _ _ _ (Mask.trans (by decide) hm) ?_)

theorem execUserTimerWake_carries (m' : Nat)  (s t' : State) (hm : 0x404680000000000000000000000a027165246 &&& m' = 0x404680000000000000000000000a027165246)
    (hx : execUserTimerWake  s = .next t') : Carried m' s t' := by
  simp only [execUserTimerWake, Host.Outcome.next.injEq] at hx
  subst hx
  refine Carried.of_kept ?_
  repeat' (first
    | with_reducible assumption
    | exact Kept.refl m' s
    | with_reducible refine State.userWake_keeps _ _ _ (Mask.trans (by decide) hm) ?_)

theorem execUserLog_carries (m' : Nat) (level : Nat) (code : Nat) (arg : Nat) (s t' : State) (hm : 0x2000020020044 &&& m' = 0x2000020020044)
    (hx : execUserLog level code arg s = .next t') : Carried m' s t' := by
  simp only [execUserLog, Host.Outcome.next.injEq] at hx
  subst hx
  refine Carried.of_kept ?_
  repeat' (first
    | with_reducible assumption
    | exact Kept.refl m' s
    | with_reducible refine State.userLog_keeps _ _ _ _ _ _ (Mask.trans (by decide) hm) ?_)

theorem execAccessTimerExpiry_carries (m' : Nat)  (s t' : State) (hm : 0x1000000100000404683000000c400018000004002067945ac7 &&& m' = 0x1000000100000404683000000c400018000004002067945ac7)
    (hx : execAccessTimerExpiry  s = .next t') : Carried m' s t' := by
  simp only [execAccessTimerExpiry, Host.Outcome.next.injEq] at hx
  subst hx
  refine Carried.of_kept ?_
  repeat' (first
    | with_reducible assumption
    | exact Kept.refl m' s
    | with_reducible refine State.accessExpires_keeps _ _ _ (Mask.trans (by decide) hm) ?_)

theorem execNonceLapse_carries (m' : Nat)  (s t' : State) (hm : 0x40000006 &&& m' = 0x40000006)
    (hx : execNonceLapse  s = .next t') : Carried m' s t' := by
  simp only [execNonceLapse, Host.Outcome.next.injEq] at hx
  subst hx
  refine Carried.of_kept ?_
  repeat' (first
    | with_reducible assumption
    | exact Kept.refl m' s
    | with_reducible refine State.nonceLapse_keeps _ _ _ (Mask.trans (by decide) hm) ?_)

theorem execUnlockBackoffEnd_carries (m' : Nat)  (s t' : State) (hm : 0x6 &&& m' = 0x6)
    (hx : execUnlockBackoffEnd  s = .next t') : Carried m' s t' := by
  simp only [execUnlockBackoffEnd, Host.Outcome.next.injEq] at hx
  subst hx
  refine Carried.of_kept ?_
  repeat' (first
    | with_reducible assumption
    | exact Kept.refl m' s
    | with_reducible refine State.backoffEnds_keeps _ _ _ (Mask.trans (by decide) hm) ?_)

theorem execFaultRaise_carries (m' : Nat) (i : Nat) (syn : Nat) (s t' : State) (hm : 0x81f0000500010404683004001c400107fba8002f21a7fedfcd &&& m' = 0x81f0000500010404683004001c400107fba8002f21a7fedfcd)
    (hx : execFaultRaise i syn s = .next t') : Carried m' s t' := by
  have hx := ofUnit_next hx
  subst hx
  refine Carried.of_kept ?_
  repeat' (first
    | with_reducible assumption
    | exact Kept.refl m' s
    | with_reducible refine State.faultRaise_keeps _ _ _ _ _ (Mask.trans (by decide) hm) ?_)

theorem execCoreNoProgress_carries (m' : Nat) (core : Nat) (s t' : State) (hm : 0xa000a0400180 &&& m' = 0xa000a0400180)
    (hx : execCoreNoProgress core s = .next t') : Carried m' s t' := by
  have hx := ofUnit_next hx
  subst hx
  refine Carried.of_kept ?_
  repeat' (first
    | with_reducible assumption
    | exact Kept.refl m' s
    | with_reducible refine State.coreStuck_keeps _ _ _ (Mask.trans (by decide) hm) ?_)

theorem execRstStormEnd_carries (m' : Nat)  (s t' : State) (hm : 0x80000000000000006 &&& m' = 0x80000000000000006)
    (hx : execRstStormEnd  s = .next t') : Carried m' s t' := by
  simp only [execRstStormEnd, Host.Outcome.next.injEq] at hx
  subst hx
  refine Carried.of_kept ?_
  repeat' (first
    | with_reducible assumption
    | exact Kept.refl m' s
    | with_reducible refine State.stormEnd_keeps _ _ _ (Mask.trans (by decide) hm) ?_)

theorem execLimiterOperandChange_carries (m' : Nat)  (s t' : State) (hm : 0xd00000000000000009c6000000000000000008c1040 &&& m' = 0xd00000000000000009c6000000000000000008c1040)
    (hx : execLimiterOperandChange  s = .next t') : Carried m' s t' := by
  simp only [execLimiterOperandChange, Host.Outcome.next.injEq] at hx
  subst hx
  refine Carried.of_kept ?_
  repeat' (first
    | with_reducible assumption
    | exact Kept.refl m' s
    | with_reducible apply Kept.ite
    | with_reducible refine State.operandChange_keeps _ _ _ (Mask.trans (by decide) hm) ?_
    | with_reducible refine State.noteRate_keeps _ _ _ (Mask.trans (by decide) hm) ?_)

theorem execOppStepStart_carries (m' : Nat)  (s t' : State) (hm : 0x1c400000000000000000800206 &&& m' = 0x1c400000000000000000800206)
    (hx : execOppStepStart  s = .next t') : Carried m' s t' := by
  simp only [execOppStepStart, Host.Outcome.next.injEq] at hx
  subst hx
  refine Carried.of_kept ?_
  repeat' (first
    | with_reducible assumption
    | exact Kept.refl m' s
    | with_reducible apply Kept.ite
    | with_reducible refine State.stepStart_keeps _ _ _ (Mask.trans (by decide) hm) ?_
    | with_reducible refine State.noteReasons_keeps _ _ _ (Mask.trans (by decide) hm) ?_)

theorem execOppFreqHandshakeStart_carries (m' : Nat)  (s t' : State) (hm : 0x10000000000000000000800200 &&& m' = 0x10000000000000000000800200)
    (hx : execOppFreqHandshakeStart  s = .next t') : Carried m' s t' := by
  simp only [execOppFreqHandshakeStart, Host.Outcome.next.injEq] at hx
  subst hx
  refine Carried.of_kept ?_
  repeat' (first
    | with_reducible assumption
    | exact Kept.refl m' s
    | with_reducible apply Kept.ite
    | with_reducible refine State.handshakeStart_keeps _ _ _ (Mask.trans (by decide) hm) ?_)

theorem execOppFreqAck_carries (m' : Nat)  (s t' : State) (hm : 0x3c400000000000000000800200 &&& m' = 0x3c400000000000000000800200)
    (hx : execOppFreqAck  s = .next t') : Carried m' s t' := by
  simp only [execOppFreqAck, Host.Outcome.next.injEq] at hx
  subst hx
  refine Carried.of_kept ?_
  repeat' (first
    | with_reducible assumption
    | exact Kept.refl m' s
    | with_reducible apply Kept.ite
    | with_reducible refine State.freqAck_keeps _ _ _ (Mask.trans (by decide) hm) ?_
    | with_reducible refine State.noteReasons_keeps _ _ _ (Mask.trans (by decide) hm) ?_)

theorem execOppFreqAckFall_carries (m' : Nat)  (s t' : State) (hm : 0x800000 &&& m' = 0x800000)
    (hx : execOppFreqAckFall  s = .next t') : Carried m' s t' := by
  simp only [execOppFreqAckFall, Host.Outcome.next.injEq] at hx
  subst hx
  refine Carried.of_kept ?_
  repeat' (first
    | with_reducible assumption
    | exact Kept.refl m' s
    | with_reducible apply Kept.ite
    | with_reducible refine State.freqAckFall_keeps _ _ _ (Mask.trans (by decide) hm) ?_)

theorem execOppFreqTimeout_carries (m' : Nat)  (s t' : State) (hm : 0x800086 &&& m' = 0x800086)
    (hx : execOppFreqTimeout  s = .next t') : Carried m' s t' := by
  simp only [execOppFreqTimeout, Host.Outcome.next.injEq] at hx
  subst hx
  refine Carried.of_kept ?_
  repeat' (first
    | with_reducible assumption
    | exact Kept.refl m' s
    | with_reducible apply Kept.ite
    | with_reducible refine State.freqTimeout_keeps _ _ _ (Mask.trans (by decide) hm) ?_)

theorem execWindowSlotBoundary_carries (m' : Nat) (n : Nat) (s t' : State) (hm : 0x40000000000000001040046 &&& m' = 0x40000000000000001040046)
    (hx : execWindowSlotBoundary n s = .next t') : Carried m' s t' := by
  have hx := ofUnit_next hx
  subst hx
  refine Carried.of_kept ?_
  repeat' (first
    | with_reducible assumption
    | exact Kept.refl m' s
    | with_reducible apply Kept.ite
    | with_reducible refine State.windowBoundary_keeps _ _ _ _ (Mask.trans (by decide) hm) ?_)

theorem execWindowDecisionApply_carries (m' : Nat) (n : Nat) (s t' : State) (hm : 0xf00000000000000009c6800000000000000018c1040 &&& m' = 0xf00000000000000009c6800000000000000018c1040)
    (hx : execWindowDecisionApply n s = .next t') : Carried m' s t' := by
  have hx := ofUnit_next hx
  subst hx
  refine Carried.of_kept ?_
  repeat' (first
    | with_reducible assumption
    | exact Kept.refl m' s
    | with_reducible apply Kept.ite
    | with_reducible refine State.windowApply_keeps _ _ _ _ (Mask.trans (by decide) hm) ?_)

theorem execWindowAutonomous_carries (m' : Nat) (n : Nat) (s t' : State) (hm : 0xf00000000000000009c6800000000000000018c1046 &&& m' = 0xf00000000000000009c6800000000000000018c1046)
    (hx : execWindowAutonomous n s = .next t') : Carried m' s t' := by
  have hx := ofUnit_next hx
  subst hx
  refine Carried.of_kept ?_
  repeat' (first
    | with_reducible assumption
    | exact Kept.refl m' s
    | with_reducible apply Kept.ite
    | with_reducible refine State.windowAlone_keeps _ _ _ _ (Mask.trans (by decide) hm) ?_)

theorem execFastLimitLatch_carries (m' : Nat)  (s t' : State) (hm : 0xf00000404683000009c60000000000000a0079e5ac5 &&& m' = 0xf00000404683000009c60000000000000a0079e5ac5)
    (hx : execFastLimitLatch  s = .next t') : Carried m' s t' := by
  simp only [execFastLimitLatch, Host.Outcome.next.injEq] at hx
  subst hx
  refine Carried.of_kept ?_
  repeat' (first
    | with_reducible assumption
    | exact Kept.refl m' s
    | with_reducible refine State.pinFalls_keeps _ _ _ (Mask.trans (by decide) hm) ?_)

theorem execFastLimitRelease_carries (m' : Nat)  (s t' : State) (hm : 0x800000 &&& m' = 0x800000)
    (hx : execFastLimitRelease  s = .next t') : Carried m' s t' := by
  simp only [execFastLimitRelease, Host.Outcome.next.injEq] at hx
  subst hx
  refine Carried.of_kept ?_
  repeat' (first
    | with_reducible assumption
    | exact Kept.refl m' s
    | with_reducible refine State.pinRises_keeps _ _ _ (Mask.trans (by decide) hm) ?_)

theorem execEmergencyHoldExpiry_carries (m' : Nat) (s t' : State) (hm : 0xd00000000000000009c6000000000000000008c1846 &&& m' = 0xd00000000000000009c6000000000000000008c1846)
    (hx : execEmergencyHoldExpiry s = .next t') : Carried m' s t' := by
  simp only [execEmergencyHoldExpiry, Host.Outcome.next.injEq] at hx
  subst hx
  refine Carried.of_kept ?_
  repeat' (first
    | with_reducible assumption
    | exact Kept.refl m' s
    | with_reducible apply Kept.ite
    | with_reducible refine State.emergencyOver_keeps _ _ _ (Mask.trans (by decide) hm) ?_
    | with_reducible refine State.noteRate_keeps _ _ _ (Mask.trans (by decide) hm) ?_)

theorem execSupplyHoldExpiry_carries (m' : Nat)  (s t' : State) (hm : 0xc00000000000000000c6000000000000000008c0046 &&& m' = 0xc00000000000000000c6000000000000000008c0046)
    (hx : execSupplyHoldExpiry  s = .next t') : Carried m' s t' := by
  simp only [execSupplyHoldExpiry, Host.Outcome.next.injEq] at hx
  subst hx
  refine Carried.of_kept ?_
  repeat' (first
    | with_reducible assumption
    | exact Kept.refl m' s
    | with_reducible apply Kept.ite
    | with_reducible refine State.supplyOver_keeps _ _ _ (Mask.trans (by decide) hm) ?_
    | with_reducible refine State.noteRate_keeps _ _ _ (Mask.trans (by decide) hm) ?_)

theorem execLinkFlit_carries (m' : Nat) (h : FlitHdr) (s t' : State) (hm : 0x91cd700d20000404683004001c40011807ac042820e7fedfcd &&& m' = 0x91cd700d20000404683004001c40011807ac042820e7fedfcd)
    (hx : execLinkFlit h s = .next t') : Carried m' s t' := by
  have hx := ofUnit_next hx
  subst hx
  refine Carried.of_kept ?_
  repeat' (first
    | with_reducible assumption
    | exact Kept.refl m' s
    | with_reducible apply Kept.ite
    | with_reducible refine State.receive_keeps _ _ _ _ _ _ (Mask.trans (by decide) hm) ?_ (fun _ _ => ?_)
    | with_reducible refine State.settleWatch_keeps _ _ _ (Mask.trans (by decide) hm) ?_
    | with_reducible refine State.settleReady_keeps _ _ _ _ (Mask.trans (by decide) hm) ?_)

theorem execHeartbeatFlit_carries (m' : Nat) (h : FlitHdr) (pstate : Nat) (stopped : Bool) (autonomous : Bool) (s t' : State) (hm : 0x91cd700d20000404683004001c40011807ac042820e7fedfcd &&& m' = 0x91cd700d20000404683004001c40011807ac042820e7fedfcd)
    (hx : execHeartbeatFlit h pstate stopped autonomous s = .next t') : Carried m' s t' := by
  have hx := ofUnit_next hx
  subst hx
  refine Carried.of_kept ?_
  repeat' (first
    | with_reducible assumption
    | exact Kept.refl m' s
    | with_reducible apply Kept.ite
    | with_reducible refine State.receive_keeps _ _ _ _ _ _ (Mask.trans (by decide) hm) ?_ (fun _ _ => ?_)
    | with_reducible refine State.onHeartbeat_keeps _ _ _ _ _ _ _ (Mask.trans (by decide) hm) ?_
    | with_reducible refine State.settleWatch_keeps _ _ _ (Mask.trans (by decide) hm) ?_
    | with_reducible refine State.settleReady_keeps _ _ _ _ (Mask.trans (by decide) hm) ?_)

theorem execStrapFlit_carries (m' : Nat) (h : FlitHdr) (dieId : Nat) (leader : Bool) (s t' : State) (hm : 0x91cd700d20000404683004001c40011807ac042820e7fedfcd &&& m' = 0x91cd700d20000404683004001c40011807ac042820e7fedfcd)
    (hx : execStrapFlit h dieId leader s = .next t') : Carried m' s t' := by
  have hx := ofUnit_next hx
  subst hx
  refine Carried.of_kept ?_
  repeat' (first
    | with_reducible assumption
    | exact Kept.refl m' s
    | with_reducible apply Kept.ite
    | with_reducible refine State.receiveStrap_keeps _ _ _ _ _ (Mask.trans (by decide) hm) ?_ (fun _ _ => ?_)
    | with_reducible refine State.onStrap_keeps _ _ _ _ _ _ (Mask.trans (by decide) hm) ?_
    | with_reducible refine State.settleWatch_keeps _ _ _ (Mask.trans (by decide) hm) ?_
    | with_reducible refine State.settleReady_keeps _ _ _ _ (Mask.trans (by decide) hm) ?_)

theorem execStageFlit_carries (m' : Nat) (h : FlitHdr) (off : Nat) (value : Nat) (s t' : State) (hm : 0x91cd700d20000404683004001c40011807ac042820e7fedfcd &&& m' = 0x91cd700d20000404683004001c40011807ac042820e7fedfcd)
    (hx : execStageFlit h off value s = .next t') : Carried m' s t' := by
  have hx := ofUnit_next hx
  subst hx
  refine Carried.of_kept ?_
  repeat' (first
    | with_reducible assumption
    | exact Kept.refl m' s
    | with_reducible apply Kept.ite
    | with_reducible refine State.fromLeader_keeps _ _ _ _ _ (Mask.trans (by decide) hm) ?_ (fun _ _ => ?_)
    | with_reducible refine State.onStage_keeps _ _ _ _ _ (Mask.trans (by decide) hm) ?_
    | with_reducible refine State.settleReady_keeps _ _ _ _ (Mask.trans (by decide) hm) ?_)

theorem execPrepareFlit_carries (m' : Nat) (h : FlitHdr) (id : Nat) (kind : Nat) (count : Nat) (crc : Nat) (s t' : State) (hm : 0x91cf710d20000405683806085e40411807ac042820e7fedfcd &&& m' = 0x91cf710d20000405683806085e40411807ac042820e7fedfcd)
    (hx : execPrepareFlit h id kind count crc s = .next t') : Carried m' s t' := by
  have hx := ofUnit_next hx
  subst hx
  refine Carried.of_kept ?_
  repeat' (first
    | with_reducible assumption
    | exact Kept.refl m' s
    | with_reducible apply Kept.ite
    | with_reducible refine State.fromLeader_keeps _ _ _ _ _ (Mask.trans (by decide) hm) ?_ (fun _ _ => ?_)
    | with_reducible refine State.onPrepareFlit_keeps _ _ _ _ _ _ _ (Mask.trans (by decide) hm) ?_
    | with_reducible refine State.settleReady_keeps _ _ _ _ (Mask.trans (by decide) hm) ?_)

theorem execPrepareAckFlit_carries (m' : Nat) (h : FlitHdr) (id : Nat) (nack : Bool) (regions : Nat) (s t' : State) (hm : 0x91cdf00d20000404683004001c40011807ac042820e7fedfcd &&& m' = 0x91cdf00d20000404683004001c40011807ac042820e7fedfcd)
    (hx : execPrepareAckFlit h id nack regions s = .next t') : Carried m' s t' := by
  have hx := ofUnit_next hx
  subst hx
  refine Carried.of_kept ?_
  repeat' (first
    | with_reducible assumption
    | exact Kept.refl m' s
    | with_reducible apply Kept.ite
    | with_reducible refine State.toLeader_keeps _ _ _ _ _ (Mask.trans (by decide) hm) ?_ (fun _ _ => ?_)
    | with_reducible refine State.acknowledged_keeps _ _ _ _ _ _ _ (Mask.trans (by decide) hm) ?_
    | with_reducible refine State.settleReady_keeps _ _ _ _ (Mask.trans (by decide) hm) ?_)

theorem execCommitFlit_carries (m' : Nat) (h : FlitHdr) (t : Nat) (s t' : State) (hm : 0x91cdf00d20000404683004001c40011807ac042820e7fedfcd &&& m' = 0x91cdf00d20000404683004001c40011807ac042820e7fedfcd)
    (hx : execCommitFlit h t s = .next t') : Carried m' s t' := by
  have hx := ofUnit_next hx
  subst hx
  refine Carried.of_kept ?_
  repeat' (first
    | with_reducible assumption
    | exact Kept.refl m' s
    | with_reducible apply Kept.ite
    | with_reducible refine State.fromLeader_keeps _ _ _ _ _ (Mask.trans (by decide) hm) ?_ (fun _ _ => ?_)
    | with_reducible refine State.onCommitFlit_keeps _ _ _ _ (Mask.trans (by decide) hm) ?_
    | with_reducible refine State.settleReady_keeps _ _ _ _ (Mask.trans (by decide) hm) ?_)

theorem execAbortFlit_carries (m' : Nat) (h : FlitHdr) (id : Nat) (s t' : State) (hm : 0x91cd700d20000404683004001c40011807ac042820e7fedfcd &&& m' = 0x91cd700d20000404683004001c40011807ac042820e7fedfcd)
    (hx : execAbortFlit h id s = .next t') : Carried m' s t' := by
  have hx := ofUnit_next hx
  subst hx
  refine Carried.of_kept ?_
  repeat' (first
    | with_reducible assumption
    | exact Kept.refl m' s
    | with_reducible apply Kept.ite
    | with_reducible refine State.fromLeader_keeps _ _ _ _ _ (Mask.trans (by decide) hm) ?_ (fun _ _ => ?_)
    | with_reducible refine State.onAbortFlit_keeps _ _ _ _ (Mask.trans (by decide) hm) ?_
    | with_reducible refine State.settleReady_keeps _ _ _ _ (Mask.trans (by decide) hm) ?_)

theorem execCmdFlit_carries (m' : Nat) (h : FlitHdr) (c : FwdCmd) (s t' : State) (hm : 0x91fd700fe0010404683004001c40015fffac042f21e7fedfcd &&& m' = 0x91fd700fe0010404683004001c40015fffac042f21e7fedfcd)
    (hx : execCmdFlit h c s = .next t') : Carried m' s t' := by
  have hx := ofUnit_next hx
  subst hx
  refine Carried.of_kept ?_
  repeat' (first
    | with_reducible assumption
    | exact Kept.refl m' s
    | with_reducible apply Kept.ite
    | with_reducible refine State.fromLeader_keeps _ _ _ _ _ (Mask.trans (by decide) hm) ?_ (fun _ _ => ?_)
    | with_reducible refine State.onCmd_keeps _ _ _ _ _ (Mask.trans (by decide) hm) ?_
    | with_reducible refine State.settleReady_keeps _ _ _ _ (Mask.trans (by decide) hm) ?_)

theorem execCmdDoneFlit_carries (m' : Nat) (h : FlitHdr) (tag : Nat) (status : Nat) (result : List Nat) (s t' : State) (hm : 0x91cd700d20000404683004001c40011807ac042820e7fedfcd &&& m' = 0x91cd700d20000404683004001c40011807ac042820e7fedfcd)
    (hx : execCmdDoneFlit h tag status result s = .next t') : Carried m' s t' := by
  have hx := ofUnit_next hx
  subst hx
  refine Carried.of_kept ?_
  repeat' (first
    | with_reducible assumption
    | exact Kept.refl m' s
    | with_reducible apply Kept.ite
    | with_reducible refine State.toLeader_keeps _ _ _ _ _ (Mask.trans (by decide) hm) ?_ (fun _ _ => ?_)
    | with_reducible refine State.fwdEnd_keeps _ _ _ _ _ _ (Mask.trans (by decide) hm) ?_
    | with_reducible refine State.settleReady_keeps _ _ _ _ (Mask.trans (by decide) hm) ?_)

theorem execEventFlit_carries (m' : Nat) (h : FlitHdr) (ev : DieEvent) (s t' : State) (hm : 0x91cd700d20000404683004001d40011887ac042820e7fedfcd &&& m' = 0x91cd700d20000404683004001d40011887ac042820e7fedfcd)
    (hx : execEventFlit h ev s = .next t') : Carried m' s t' := by
  have hx := ofUnit_next hx
  subst hx
  refine Carried.of_kept ?_
  repeat' (first
    | with_reducible assumption
    | exact Kept.refl m' s
    | with_reducible apply Kept.ite
    | with_reducible refine State.toLeader_keeps _ _ _ _ _ (Mask.trans (by decide) hm) ?_ (fun _ _ => ?_)
    | with_reducible refine State.onEvent_keeps _ _ _ _ _ (Mask.trans (by decide) hm) ?_
    | with_reducible refine State.settleReady_keeps _ _ _ _ (Mask.trans (by decide) hm) ?_)

theorem execEnergyFlit_carries (m' : Nat) (h : FlitHdr) (uw : Nat) (s t' : State) (hm : 0x91cd700d20000406683004001c40011807ac042821e7fedfcd &&& m' = 0x91cd700d20000406683004001c40011807ac042821e7fedfcd)
    (hx : execEnergyFlit h uw s = .next t') : Carried m' s t' := by
  have hx := ofUnit_next hx
  subst hx
  refine Carried.of_kept ?_
  repeat' (first
    | with_reducible assumption
    | exact Kept.refl m' s
    | with_reducible apply Kept.ite
    | with_reducible refine State.toLeader_keeps _ _ _ _ _ (Mask.trans (by decide) hm) ?_ (fun _ _ => ?_)
    | with_reducible refine State.bookDie_keeps _ _ _ _ _ (Mask.trans (by decide) hm) ?_
    | with_reducible refine State.bankLate_keeps _ _ _ _ (Mask.trans (by decide) hm) ?_
    | with_reducible refine State.settleReady_keeps _ _ _ _ (Mask.trans (by decide) hm) ?_)

theorem execThermalFlit_carries (m' : Nat) (h : FlitHdr) (tDie : Int) (tMem : Int) (s t' : State) (hm : 0x91cd700d20000404683004001c40051807ac042820e7fedfcd &&& m' = 0x91cd700d20000404683004001c40051807ac042820e7fedfcd)
    (hx : execThermalFlit h tDie tMem s = .next t') : Carried m' s t' := by
  have hx := ofUnit_next hx
  subst hx
  refine Carried.of_kept ?_
  repeat' (first
    | with_reducible assumption
    | exact Kept.refl m' s
    | with_reducible apply Kept.ite
    | with_reducible refine State.toLeader_keeps _ _ _ _ _ (Mask.trans (by decide) hm) ?_ (fun _ _ => ?_)
    | with_reducible refine State.dieReport_keeps _ _ _ _ _ _ (Mask.trans (by decide) hm) ?_
    | with_reducible refine State.settleReady_keeps _ _ _ _ (Mask.trans (by decide) hm) ?_)

theorem execLevelFlit_carries (m' : Nat) (h : FlitHdr) (idx : Nat) (value : Nat) (s t' : State) (hm : 0x91cd700d20000404683004001c40011807ac042820f7fedfcd &&& m' = 0x91cd700d20000404683004001c40011807ac042820f7fedfcd)
    (hx : execLevelFlit h idx value s = .next t') : Carried m' s t' := by
  have hx := ofUnit_next hx
  subst hx
  refine Carried.of_kept ?_
  repeat' (first
    | with_reducible assumption
    | exact Kept.refl m' s
    | with_reducible apply Kept.ite
    | with_reducible refine State.fromLeader_keeps _ _ _ _ _ (Mask.trans (by decide) hm) ?_ (fun _ _ => ?_)
    | with_reducible refine State.takeLevel_keeps _ _ _ _ _ (Mask.trans (by decide) hm) ?_
    | with_reducible refine State.settleReady_keeps _ _ _ _ (Mask.trans (by decide) hm) ?_)

theorem execDataFlit_carries (m' : Nat) (h : FlitHdr) (d : Bulk) (s t' : State) (hm : 0x91cd700d3fe08404683004001c40011807ac042c21effedfcd &&& m' = 0x91cd700d3fe08404683004001c40011807ac042c21effedfcd)
    (hx : execDataFlit h d s = .next t') : Carried m' s t' := by
  have hx := ofUnit_next hx
  subst hx
  refine Carried.of_kept ?_
  repeat' (first
    | with_reducible assumption
    | exact Kept.refl m' s
    | with_reducible apply Kept.ite
    | with_reducible refine State.onData_keeps _ _ _ _ _ (Mask.trans (by decide) hm) ?_
    | with_reducible refine State.settleWatch_keeps _ _ _ (Mask.trans (by decide) hm) ?_
    | with_reducible refine State.settleReady_keeps _ _ _ _ (Mask.trans (by decide) hm) ?_)

theorem execHdgRetryTimeout_carries (m' : Nat) (d : Nat) (s t' : State) (hm : 0x91c9700d20000404683004001c40011807ac042820e7fedfcf &&& m' = 0x91c9700d20000404683004001c40011807ac042820e7fedfcf)
    (hx : execHdgRetryTimeout d s = .next t') : Carried m' s t' := by
  have hx := ofUnit_next hx
  subst hx
  refine Carried.of_kept ?_
  repeat' (first
    | with_reducible assumption
    | exact Kept.refl m' s
    | with_reducible apply Kept.ite
    | with_reducible refine State.retryTimeout_keeps _ _ _ _ (Mask.trans (by decide) hm) ?_
    | with_reducible refine State.settleWatch_keeps _ _ _ (Mask.trans (by decide) hm) ?_
    | with_reducible refine State.settleReady_keeps _ _ _ _ (Mask.trans (by decide) hm) ?_)

theorem execHeartbeatSend_carries (m' : Nat)  (s t' : State) (hm : 0x40046 &&& m' = 0x40046)
    (hx : execHeartbeatSend  s = .next t') : Carried m' s t' := by
  simp only [execHeartbeatSend, Host.Outcome.next.injEq] at hx
  subst hx
  refine Carried.of_kept ?_
  repeat' (first
    | with_reducible assumption
    | exact Kept.refl m' s
    | with_reducible refine State.heartbeatSend_keeps _ _ _ (Mask.trans (by decide) hm) ?_)

theorem execHeartbeatMiss_carries (m' : Nat) (d : Nat) (s t' : State) (hm : 0x91c1700d20000404683004001c40011807ac042820e7fedfcd &&& m' = 0x91c1700d20000404683004001c40011807ac042820e7fedfcd)
    (hx : execHeartbeatMiss d s = .next t') : Carried m' s t' := by
  have hx := ofUnit_next hx
  subst hx
  refine Carried.of_kept ?_
  repeat' (first
    | with_reducible assumption
    | exact Kept.refl m' s
    | with_reducible apply Kept.ite
    | with_reducible refine State.heartbeatMiss_keeps _ _ _ _ (Mask.trans (by decide) hm) ?_
    | with_reducible refine State.settleWatch_keeps _ _ _ (Mask.trans (by decide) hm) ?_
    | with_reducible refine State.settleReady_keeps _ _ _ _ (Mask.trans (by decide) hm) ?_)

theorem execHdgWakeIn_carries (m' : Nat) (s t' : State) (hm : 0x404680000000000000000000000a007165244 &&& m' = 0x404680000000000000000000000a007165244)
    (hx : execHdgWakeIn s = .next t') : Carried m' s t' := by
  simp only [execHdgWakeIn, Host.Outcome.next.injEq] at hx
  subst hx
  refine Carried.of_kept ?_
  repeat' (first
    | with_reducible assumption
    | exact Kept.refl m' s
    | with_reducible apply Kept.ite
    | with_reducible refine State.hdgWake_keeps _ _ _ (Mask.trans (by decide) hm) ?_)

theorem execHdgAwakeIn_carries (m' : Nat) (d : Nat) (s t' : State) (hm : 0xc0040 &&& m' = 0xc0040)
    (hx : execHdgAwakeIn d s = .next t') : Carried m' s t' := by
  have hx := ofUnit_next hx
  subst hx
  refine Carried.of_kept ?_
  repeat' (first
    | with_reducible assumption
    | exact Kept.refl m' s
    | with_reducible refine State.awakeIn_keeps _ _ _ _ (Mask.trans (by decide) hm) ?_)

theorem execPrepareTimeout_carries (m' : Nat)  (s t' : State) (hm : 0x81c1600d20000404680004001000010003a8002820a7fedfcf &&& m' = 0x81c1600d20000404680004001000010003a8002820a7fedfcf)
    (hx : execPrepareTimeout  s = .next t') : Carried m' s t' := by
  simp only [execPrepareTimeout, Host.Outcome.next.injEq] at hx
  subst hx
  refine Carried.of_kept ?_
  repeat' (first
    | with_reducible assumption
    | exact Kept.refl m' s
    | with_reducible apply Kept.ite
    | with_reducible refine State.prepareTimeout_keeps _ _ _ (Mask.trans (by decide) hm) ?_
    | with_reducible refine State.settleWatch_keeps _ _ _ (Mask.trans (by decide) hm) ?_)

theorem execCommitOrphan_carries (m' : Nat)  (s t' : State) (hm : 0x10000000000000000000000000000000000000000040087 &&& m' = 0x10000000000000000000000000000000000000000040087)
    (hx : execCommitOrphan  s = .next t') : Carried m' s t' := by
  simp only [execCommitOrphan, Host.Outcome.next.injEq] at hx
  subst hx
  refine Carried.of_kept ?_
  repeat' (first
    | with_reducible assumption
    | exact Kept.refl m' s
    | with_reducible apply Kept.ite
    | with_reducible refine State.commitOrphan_keeps _ _ _ (Mask.trans (by decide) hm) ?_)

theorem execCmdDoneTimeout_carries (m' : Nat) (tag : Nat) (s t' : State) (hm : 0x1a000000000740047 &&& m' = 0x1a000000000740047)
    (hx : execCmdDoneTimeout tag s = .next t') : Carried m' s t' := by
  simp only [execCmdDoneTimeout, Host.Outcome.next.injEq] at hx
  subst hx
  refine Carried.of_kept ?_
  repeat' (first
    | with_reducible assumption
    | exact Kept.refl m' s
    | with_reducible apply Kept.ite
    | with_reducible refine State.cmdDoneTimeout_keeps _ _ _ _ (Mask.trans (by decide) hm) ?_)

theorem execCommitStart_carries (m' : Nat)  (s t' : State) (hm : 0x3c10c00000001000802084e40400001a000000010fc0041 &&& m' = 0x3c10c00000001000802084e40400001a000000010fc0041)
    (hx : execCommitStart  s = .next t') : Carried m' s t' := by
  simp only [execCommitStart, Host.Outcome.next.injEq] at hx
  subst hx
  refine Carried.of_kept ?_
  repeat' (first
    | with_reducible assumption
    | exact Kept.refl m' s
    | with_reducible refine State.commitStart_keeps _ _ _ (Mask.trans (by decide) hm) ?_)

theorem execCommitApply_carries (m' : Nat)  (s t' : State) (hm : 0xc1c1404f0003f980083004039c68100005a4000821b7ffdfc7 &&& m' = 0xc1c1404f0003f980083004039c68100005a4000821b7ffdfc7)
    (hx : execCommitApply  s = .next t') : Carried m' s t' := by
  simp only [execCommitApply, Host.Outcome.next.injEq] at hx
  subst hx
  refine Carried.of_kept ?_
  repeat' (first
    | with_reducible assumption
    | exact Kept.refl m' s
    | with_reducible apply Kept.ite
    | with_reducible refine State.commitApply_keeps _ _ _ (Mask.trans (by decide) hm) ?_
    | with_reducible refine State.settleSteward_keeps _ _ _ (Mask.trans (by decide) hm) ?_)

theorem execCatchUpTimeout_carries (m' : Nat) (d : Nat) (s t' : State) (hm : 0x91c1700d20000404683004001c40011807ac042820e7fedfcf &&& m' = 0x91c1700d20000404683004001c40011807ac042820e7fedfcf)
    (hx : execCatchUpTimeout d s = .next t') : Carried m' s t' := by
  have hx := ofUnit_next hx
  subst hx
  refine Carried.of_kept ?_
  repeat' (first
    | with_reducible assumption
    | exact Kept.refl m' s
    | with_reducible apply Kept.ite
    | with_reducible refine State.catchUpTimeout_keeps _ _ _ _ (Mask.trans (by decide) hm) ?_
    | with_reducible refine State.settleWatch_keeps _ _ _ (Mask.trans (by decide) hm) ?_
    | with_reducible refine State.settleReady_keeps _ _ _ _ (Mask.trans (by decide) hm) ?_)

theorem execTpPulse_carries (m' : Nat) (value : Option Nat) (sub : Nat) (s t' : State) (hm : 0xc000000000000000000000000000000000000840415c4 &&& m' = 0xc000000000000000000000000000000000000840415c4)
    (hx : execTpPulse value sub s = .next t') : Carried m' s t' := by
  simp only [execTpPulse, Host.Outcome.next.injEq] at hx
  subst hx
  refine Carried.of_kept ?_
  repeat' (first
    | with_reducible assumption
    | exact Kept.refl m' s
    | with_reducible refine State.tpPulse_keeps _ _ _ _ _ (Mask.trans (by decide) hm) ?_)

theorem execPulseMissing_carries (m' : Nat)  (s t' : State) (hm : 0x4000000000000000000000000000000000000800401c6 &&& m' = 0x4000000000000000000000000000000000000800401c6)
    (hx : execPulseMissing  s = .next t') : Carried m' s t' := by
  simp only [execPulseMissing, Host.Outcome.next.injEq] at hx
  subst hx
  refine Carried.of_kept ?_
  repeat' (first
    | with_reducible assumption
    | exact Kept.refl m' s
    | with_reducible refine State.pulseMissing_keeps _ _ _ (Mask.trans (by decide) hm) ?_)

theorem execSkylarkHoldover_carries (m' : Nat)  (s t' : State) (hm : 0x400000000000000000000000000000000000000000006 &&& m' = 0x400000000000000000000000000000000000000000006)
    (hx : execSkylarkHoldover  s = .next t') : Carried m' s t' := by
  simp only [execSkylarkHoldover, Host.Outcome.next.injEq] at hx
  subst hx
  refine Carried.of_kept ?_
  repeat' (first
    | with_reducible assumption
    | exact Kept.refl m' s
    | with_reducible refine State.skylarkHoldover_keeps _ _ _ (Mask.trans (by decide) hm) ?_)

theorem execResyncApply_carries (m' : Nat)  (s t' : State) (hm : 0x600000000000000000000000000000000000084041546 &&& m' = 0x600000000000000000000000000000000000084041546)
    (hx : execResyncApply  s = .next t') : Carried m' s t' := by
  simp only [execResyncApply, Host.Outcome.next.injEq] at hx
  subst hx
  refine Carried.of_kept ?_
  repeat' (first
    | with_reducible assumption
    | exact Kept.refl m' s
    | with_reducible apply Kept.ite
    | with_reducible refine State.resyncApply_keeps _ _ _ (Mask.trans (by decide) hm) ?_)

theorem execHdgWakeTimeout_carries (m' : Nat) (d : Nat) (s t' : State) (hm : 0x91c9700d20000404683004001c40011807ac042820e7fedfcf &&& m' = 0x91c9700d20000404683004001c40011807ac042820e7fedfcf)
    (hx : execHdgWakeTimeout d s = .next t') : Carried m' s t' := by
  have hx := ofUnit_next hx
  subst hx
  refine Carried.of_kept ?_
  repeat' (first
    | with_reducible assumption
    | exact Kept.refl m' s
    | with_reducible apply Kept.ite
    | with_reducible refine State.wakeTimeout_keeps _ _ _ _ (Mask.trans (by decide) hm) ?_
    | with_reducible refine State.settleWatch_keeps _ _ _ (Mask.trans (by decide) hm) ?_
    | with_reducible refine State.settleReady_keeps _ _ _ _ (Mask.trans (by decide) hm) ?_)

theorem execHdgFlitDiscard_carries (m' : Nat) (src : Nat) (bytes : List Nat) (s t' : State) (hm : 0xc0000000000000000000000000000000000000000000040 &&& m' = 0xc0000000000000000000000000000000000000000000040)
    (hx : execHdgFlitDiscard src bytes s = .next t') : Carried m' s t' := by
  have hx := ofUnit_next hx
  subst hx
  refine Carried.of_kept ?_
  repeat' (first
    | with_reducible assumption
    | exact Kept.refl m' s
    | with_reducible apply Kept.ite
    | with_reducible refine State.flitDiscard_keeps _ _ _ _ _ (Mask.trans (by decide) hm) ?_)

theorem execBlockResetWrite_carries (m' : Nat) (data : Nat) (who : Who) (s t' : State) (hm : 0xf1f006070005040468f304001c40015fffae852fe7e7fedfcd &&& m' = 0xf1f006070005040468f304001c40015fffae852fe7e7fedfcd)
    (hx : execBlockResetWrite data who s = .next t') : Carried m' s t' := by
  simp only [execBlockResetWrite, Host.Outcome.next.injEq] at hx
  subst hx
  refine Carried.of_kept ?_
  repeat' (first
    | with_reducible assumption
    | exact Kept.refl m' s
    | with_reducible refine State.portWrite_keeps _ _ _ _ _ _ (Mask.trans (by decide) hm) ?_)

theorem execRegisterWrite_carries (m' : Nat) (off : Nat) (data : Nat) (who : Who) (s t' : State) (hm : 0xf1f006070005040468f304001c40015fffae852fe7e7fedfcd &&& m' = 0xf1f006070005040468f304001c40015fffae852fe7e7fedfcd)
    (hx : execRegisterWrite off data who s = .next t') : Carried m' s t' := by
  simp only [execRegisterWrite, Host.Outcome.next.injEq] at hx
  subst hx
  refine Carried.of_kept ?_
  repeat' (first
    | with_reducible assumption
    | exact Kept.refl m' s
    | with_reducible apply Kept.ite
    | with_reducible refine State.portWrite_keeps _ _ _ _ _ _ (Mask.trans (by decide) hm) ?_)

theorem execLowWordRead_carries (m' : Nat) (off : Nat) (who : Who) (s t' : State) (hm : 0xf1f006070005040468f304001c40015fffae852fe7e7fedfcd &&& m' = 0xf1f006070005040468f304001c40015fffae852fe7e7fedfcd)
    (hx : execLowWordRead off who s = .next t') : Carried m' s t' := by
  simp only [execLowWordRead, Host.Outcome.next.injEq] at hx
  subst hx
  refine Carried.of_kept ?_
  repeat' (first
    | with_reducible assumption
    | exact Kept.refl m' s
    | with_reducible apply Kept.ite
    | with_reducible refine State.portRead_keeps _ _ _ _ _ (Mask.trans (by decide) hm) ?_)

theorem execMbInW1hWrite_carries (m' : Nat) (m : Nat) (data : Nat) (who : Who) (s t' : State) (hm : 0xf1f006070005040468f304001c40015fffae852fe7e7fedfcd &&& m' = 0xf1f006070005040468f304001c40015fffae852fe7e7fedfcd)
    (hx : execMbInW1hWrite m data who s = .next t') : Carried m' s t' := by
  have hx := ofUnit_next hx
  subst hx
  refine Carried.of_kept ?_
  repeat' (first
    | with_reducible assumption
    | exact Kept.refl m' s
    | with_reducible refine State.portWrite_keeps _ _ _ _ _ _ (Mask.trans (by decide) hm) ?_)

theorem execMbOutFullClear_carries (m' : Nat) (data : Nat) (who : Who) (s t' : State) (hm : 0xf1f006070005040468f304001c40015fffae852fe7e7fedfcd &&& m' = 0xf1f006070005040468f304001c40015fffae852fe7e7fedfcd)
    (hx : execMbOutFullClear data who s = .next t') : Carried m' s t' := by
  simp only [execMbOutFullClear, Host.Outcome.next.injEq] at hx
  subst hx
  refine Carried.of_kept ?_
  repeat' (first
    | with_reducible assumption
    | exact Kept.refl m' s
    | with_reducible refine State.portWrite_keeps _ _ _ _ _ _ (Mask.trans (by decide) hm) ?_)

theorem execMbDbInWrite_carries (m' : Nat) (data : Nat) (who : Who) (s t' : State) (hm : 0xf1f006070005040468f304001c40015fffae852fe7e7fedfcd &&& m' = 0xf1f006070005040468f304001c40015fffae852fe7e7fedfcd)
    (hx : execMbDbInWrite data who s = .next t') : Carried m' s t' := by
  simp only [execMbDbInWrite, Host.Outcome.next.injEq] at hx
  subst hx
  refine Carried.of_kept ?_
  repeat' (first
    | with_reducible assumption
    | exact Kept.refl m' s
    | with_reducible refine State.portWrite_keeps _ _ _ _ _ _ (Mask.trans (by decide) hm) ?_)

theorem execMbDbOutClear_carries (m' : Nat) (data : Nat) (who : Who) (s t' : State) (hm : 0xf1f006070005040468f304001c40015fffae852fe7e7fedfcd &&& m' = 0xf1f006070005040468f304001c40015fffae852fe7e7fedfcd)
    (hx : execMbDbOutClear data who s = .next t') : Carried m' s t' := by
  simp only [execMbDbOutClear, Host.Outcome.next.injEq] at hx
  subst hx
  refine Carried.of_kept ?_
  repeat' (first
    | with_reducible assumption
    | exact Kept.refl m' s
    | with_reducible refine State.portWrite_keeps _ _ _ _ _ _ (Mask.trans (by decide) hm) ?_)

theorem execCmdMbCtxWrite_carries (m' : Nat) (m : Nat) (data : Nat) (who : Who) (s t' : State) (hm : 0xf1f006070005040468f304001c40015fffae852fe7e7fedfcd &&& m' = 0xf1f006070005040468f304001c40015fffae852fe7e7fedfcd)
    (hx : execCmdMbCtxWrite m data who s = .next t') : Carried m' s t' := by
  have hx := ofUnit_next hx
  subst hx
  refine Carried.of_kept ?_
  repeat' (first
    | with_reducible assumption
    | exact Kept.refl m' s
    | with_reducible refine State.portWrite_keeps _ _ _ _ _ _ (Mask.trans (by decide) hm) ?_)

theorem execRailCapArm_carries (m' : Nat) (rail : Nat) (data : Nat) (who : Who) (s t' : State) (hm : 0xf1f006070005040468f304001c40015fffae852fe7e7fedfcd &&& m' = 0xf1f006070005040468f304001c40015fffae852fe7e7fedfcd)
    (hx : execRailCapArm rail data who s = .next t') : Carried m' s t' := by
  have hx := ofUnit_next hx
  subst hx
  refine Carried.of_kept ?_
  repeat' (first
    | with_reducible assumption
    | exact Kept.refl m' s
    | with_reducible refine State.portWrite_keeps _ _ _ _ _ _ (Mask.trans (by decide) hm) ?_)

theorem execRailCapStop_carries (m' : Nat) (rail : Nat) (data : Nat) (who : Who) (s t' : State) (hm : 0xf1f006070005040468f304001c40015fffae852fe7e7fedfcd &&& m' = 0xf1f006070005040468f304001c40015fffae852fe7e7fedfcd)
    (hx : execRailCapStop rail data who s = .next t') : Carried m' s t' := by
  have hx := ofUnit_next hx
  subst hx
  refine Carried.of_kept ?_
  repeat' (first
    | with_reducible assumption
    | exact Kept.refl m' s
    | with_reducible refine State.portWrite_keeps _ _ _ _ _ _ (Mask.trans (by decide) hm) ?_)

theorem execRingCtrlArm_carries (m' : Nat) (data : Nat) (who : Who) (s t' : State) (hm : 0xf1f006070005040468f304001c40015fffae852fe7e7fedfcd &&& m' = 0xf1f006070005040468f304001c40015fffae852fe7e7fedfcd)
    (hx : execRingCtrlArm data who s = .next t') : Carried m' s t' := by
  simp only [execRingCtrlArm, Host.Outcome.next.injEq] at hx
  subst hx
  refine Carried.of_kept ?_
  repeat' (first
    | with_reducible assumption
    | exact Kept.refl m' s
    | with_reducible refine State.portWrite_keeps _ _ _ _ _ _ (Mask.trans (by decide) hm) ?_)

theorem execRingCtrlForce_carries (m' : Nat) (data : Nat) (who : Who) (s t' : State) (hm : 0xf1f006070005040468f304001c40015fffae852fe7e7fedfcd &&& m' = 0xf1f006070005040468f304001c40015fffae852fe7e7fedfcd)
    (hx : execRingCtrlForce data who s = .next t') : Carried m' s t' := by
  simp only [execRingCtrlForce, Host.Outcome.next.injEq] at hx
  subst hx
  refine Carried.of_kept ?_
  repeat' (first
    | with_reducible assumption
    | exact Kept.refl m' s
    | with_reducible refine State.portWrite_keeps _ _ _ _ _ _ (Mask.trans (by decide) hm) ?_)

theorem execRingCtrlResume_carries (m' : Nat) (data : Nat) (who : Who) (s t' : State) (hm : 0xf1f006070005040468f304001c40015fffae852fe7e7fedfcd &&& m' = 0xf1f006070005040468f304001c40015fffae852fe7e7fedfcd)
    (hx : execRingCtrlResume data who s = .next t') : Carried m' s t' := by
  simp only [execRingCtrlResume, Host.Outcome.next.injEq] at hx
  subst hx
  refine Carried.of_kept ?_
  repeat' (first
    | with_reducible assumption
    | exact Kept.refl m' s
    | with_reducible refine State.portWrite_keeps _ _ _ _ _ _ (Mask.trans (by decide) hm) ?_)

theorem execRingLenWrite_carries (m' : Nat) (off : Nat) (data : Nat) (who : Who) (s t' : State) (hm : 0xf1f006070005040468f304001c40015fffae852fe7e7fedfcd &&& m' = 0xf1f006070005040468f304001c40015fffae852fe7e7fedfcd)
    (hx : execRingLenWrite off data who s = .next t') : Carried m' s t' := by
  have hx := ofUnit_next hx
  subst hx
  refine Carried.of_kept ?_
  repeat' (first
    | with_reducible assumption
    | exact Kept.refl m' s
    | with_reducible refine State.portWrite_keeps _ _ _ _ _ _ (Mask.trans (by decide) hm) ?_)

theorem execTimeResync_carries (m' : Nat) (data : Nat) (who : Who) (s t' : State) (hm : 0xf1f006070005040468f304001c40015fffae852fe7e7fedfcd &&& m' = 0xf1f006070005040468f304001c40015fffae852fe7e7fedfcd)
    (hx : execTimeResync data who s = .next t') : Carried m' s t' := by
  simp only [execTimeResync, Host.Outcome.next.injEq] at hx
  subst hx
  refine Carried.of_kept ?_
  repeat' (first
    | with_reducible assumption
    | exact Kept.refl m' s
    | with_reducible refine State.portWrite_keeps _ _ _ _ _ _ (Mask.trans (by decide) hm) ?_)

theorem execFhSrcForce_carries (m' : Nat) (i : Nat) (data : Nat) (who : Who) (s t' : State) (hm : 0xf1f006070005040468f304001c40015fffae852fe7e7fedfcd &&& m' = 0xf1f006070005040468f304001c40015fffae852fe7e7fedfcd)
    (hx : execFhSrcForce i data who s = .next t') : Carried m' s t' := by
  have hx := ofUnit_next hx
  subst hx
  refine Carried.of_kept ?_
  repeat' (first
    | with_reducible assumption
    | exact Kept.refl m' s
    | with_reducible refine State.portWrite_keeps _ _ _ _ _ _ (Mask.trans (by decide) hm) ?_)

theorem execFhPendClear_carries (m' : Nat) (j : Nat) (data : Nat) (who : Who) (s t' : State) (hm : 0xf1f006070005040468f304001c40015fffae852fe7e7fedfcd &&& m' = 0xf1f006070005040468f304001c40015fffae852fe7e7fedfcd)
    (hx : execFhPendClear j data who s = .next t') : Carried m' s t' := by
  have hx := ofUnit_next hx
  subst hx
  refine Carried.of_kept ?_
  repeat' (first
    | with_reducible assumption
    | exact Kept.refl m' s
    | with_reducible refine State.portWrite_keeps _ _ _ _ _ _ (Mask.trans (by decide) hm) ?_)

theorem execFhFirstClear_carries (m' : Nat) (data : Nat) (who : Who) (s t' : State) (hm : 0xf1f006070005040468f304001c40015fffae852fe7e7fedfcd &&& m' = 0xf1f006070005040468f304001c40015fffae852fe7e7fedfcd)
    (hx : execFhFirstClear data who s = .next t') : Carried m' s t' := by
  simp only [execFhFirstClear, Host.Outcome.next.injEq] at hx
  subst hx
  refine Carried.of_kept ?_
  repeat' (first
    | with_reducible assumption
    | exact Kept.refl m' s
    | with_reducible refine State.portWrite_keeps _ _ _ _ _ _ (Mask.trans (by decide) hm) ?_)

theorem execPhFaultReadmit_carries (m' : Nat) (rail : Nat) (hi : Bool) (data : Nat) (who : Who) (s t' : State) (hm : 0xf1f006070005040468f304001c40015fffae852fe7e7fedfcd &&& m' = 0xf1f006070005040468f304001c40015fffae852fe7e7fedfcd)
    (hx : execPhFaultReadmit rail hi data who s = .next t') : Carried m' s t' := by
  have hx := ofUnit_next hx
  subst hx
  refine Carried.of_kept ?_
  repeat' (first
    | with_reducible assumption
    | exact Kept.refl m' s
    | with_reducible apply Kept.ite
    | with_reducible refine State.portWrite_keeps _ _ _ _ _ _ (Mask.trans (by decide) hm) ?_)

theorem execSiteSuspectClear_carries (m' : Nat) (site : Nat) (data : Nat) (who : Who) (s t' : State) (hm : 0xf1f006070005040468f304001c40015fffae852fe7e7fedfcd &&& m' = 0xf1f006070005040468f304001c40015fffae852fe7e7fedfcd)
    (hx : execSiteSuspectClear site data who s = .next t') : Carried m' s t' := by
  have hx := ofUnit_next hx
  subst hx
  refine Carried.of_kept ?_
  repeat' (first
    | with_reducible assumption
    | exact Kept.refl m' s
    | with_reducible refine State.portWrite_keeps _ _ _ _ _ _ (Mask.trans (by decide) hm) ?_)

theorem execBudSlowClear_carries (m' : Nat) (data : Nat) (who : Who) (s t' : State) (hm : 0xf1f006070005040468f304001c40015fffae852fe7e7fedfcd &&& m' = 0xf1f006070005040468f304001c40015fffae852fe7e7fedfcd)
    (hx : execBudSlowClear data who s = .next t') : Carried m' s t' := by
  simp only [execBudSlowClear, Host.Outcome.next.injEq] at hx
  subst hx
  refine Carried.of_kept ?_
  repeat' (first
    | with_reducible assumption
    | exact Kept.refl m' s
    | with_reducible refine State.portWrite_keeps _ _ _ _ _ _ (Mask.trans (by decide) hm) ?_)

theorem execFwLoadGo_carries (m' : Nat) (data : Nat) (who : Who) (s t' : State) (hm : 0xf1f006070005040468f304001c40015fffae852fe7e7fedfcd &&& m' = 0xf1f006070005040468f304001c40015fffae852fe7e7fedfcd)
    (hx : execFwLoadGo data who s = .next t') : Carried m' s t' := by
  simp only [execFwLoadGo, Host.Outcome.next.injEq] at hx
  subst hx
  refine Carried.of_kept ?_
  repeat' (first
    | with_reducible assumption
    | exact Kept.refl m' s
    | with_reducible refine State.portWrite_keeps _ _ _ _ _ _ (Mask.trans (by decide) hm) ?_)

theorem execAccCtrlRelock_carries (m' : Nat) (data : Nat) (who : Who) (s t' : State) (hm : 0xf1f006070005040468f304001c40015fffae852fe7e7fedfcd &&& m' = 0xf1f006070005040468f304001c40015fffae852fe7e7fedfcd)
    (hx : execAccCtrlRelock data who s = .next t') : Carried m' s t' := by
  simp only [execAccCtrlRelock, Host.Outcome.next.injEq] at hx
  subst hx
  refine Carried.of_kept ?_
  repeat' (first
    | with_reducible assumption
    | exact Kept.refl m' s
    | with_reducible refine State.portWrite_keeps _ _ _ _ _ _ (Mask.trans (by decide) hm) ?_)

theorem execVaonPorRelease_carries (m' : Nat)  (s t' : State) (hm : 0x4000000000000000000000000c4000908008002c9080860844 &&& m' = 0x4000000000000000000000000c4000908008002c9080860844)
    (hx : execVaonPorRelease  s = .next t') : Carried m' s t' := by
  simp only [execVaonPorRelease, Host.Outcome.next.injEq] at hx
  subst hx
  exact State.vaonRelease_carries m' s hm

theorem execHeathPor_carries (m' : Nat)  (s t' : State) (hm : 0x400000000000000000000000000000000000000007ffffdf85 &&& m' = 0x400000000000000000000000000000000000000007ffffdf85)
    (hx : execHeathPor  s = .next t') : Carried m' s t' := by
  simp only [execHeathPor, Host.Outcome.next.injEq] at hx
  subst hx
  exact State.heathPor_carries m' s hm

theorem execPorstNAssert_carries (m' : Nat)  (s t' : State) (hm : 0x400004000001000000000000000000900000002137ffffdfc5 &&& m' = 0x400004000001000000000000000000900000002137ffffdfc5)
    (hx : execPorstNAssert  s = .next t') : Carried m' s t' := by
  simp only [execPorstNAssert, Host.Outcome.next.injEq] at hx
  subst hx
  exact State.porstLow_carries m' s hm

theorem execPorstNDeassert_carries (m' : Nat) (leaderSel : Bool) (dieId : Nat) (s t' : State) (hm : 0xc4000008008000c9080860844 &&& m' = 0xc4000008008000c9080860844)
    (hx : execPorstNDeassert leaderSel dieId s = .next t') : Carried m' s t' := by
  have hx := ofUnit_next hx
  subst hx
  exact State.porstDeassert_carries m' s _ _ hm

theorem execPllLock_carries (m' : Nat)  (s t' : State) (hm : 0x81d000010000040468000400100000000000000821a796dfc4 &&& m' = 0x81d000010000040468000400100000000000000821a796dfc4)
    (hx : execPllLock  s = .next t') : Carried m' s t' := by
  simp only [execPllLock, Host.Outcome.next.injEq] at hx
  subst hx
  refine Carried.of_kept ?_
  repeat' (first
    | with_reducible assumption
    | exact Kept.refl m' s
    | with_reducible refine State.lockPll_keeps _ _ _ (Mask.trans (by decide) hm) ?_)

theorem execStrapExchangeClose_carries (m' : Nat)  (s t' : State) (hm : 0x81c020010000000000000400109000000000000830a286dfc6 &&& m' = 0x81c020010000000000000400109000000000000830a286dfc6)
    (hx : execStrapExchangeClose  s = .next t') : Carried m' s t' := by
  simp only [execStrapExchangeClose, Host.Outcome.next.injEq] at hx
  subst hx
  refine Carried.of_kept ?_
  repeat' (first
    | with_reducible assumption
    | exact Kept.refl m' s
    | with_reducible refine State.strapClose_keeps _ _ _ (Mask.trans (by decide) hm) ?_)

theorem execSfdpDiscovery_carries (m' : Nat) (density : Option Nat) (s t' : State) (hm : 0x20000048 &&& m' = 0x20000048)
    (hx : execSfdpDiscovery density s = .next t') : Carried m' s t' := by
  simp only [execSfdpDiscovery, Host.Outcome.next.injEq] at hx
  subst hx
  refine Carried.of_kept ?_
  repeat' (first
    | with_reducible assumption
    | exact Kept.refl m' s
    | with_reducible refine State.sfdp_keeps _ _ _ _ (Mask.trans (by decide) hm) ?_)

theorem execFlashAbsentTimeout_carries (m' : Nat)  (s t' : State) (hm : 0x81c000010000000000000400100000000000000820a286dfc6 &&& m' = 0x81c000010000000000000400100000000000000820a286dfc6)
    (hx : execFlashAbsentTimeout  s = .next t') : Carried m' s t' := by
  simp only [execFlashAbsentTimeout, Host.Outcome.next.injEq] at hx
  subst hx
  refine Carried.of_kept ?_
  repeat' (first
    | with_reducible assumption
    | exact Kept.refl m' s
    | with_reducible refine State.flashAbsent_keeps _ _ _ (Mask.trans (by decide) hm) ?_)

theorem execSlotVerify_carries (m' : Nat) (img : ImageIn) (s t' : State) (hm : 0x81c000010000000000000400100000000000032820a2c6dfcc &&& m' = 0x81c000010000000000000400100000000000032820a2c6dfcc)
    (hx : execSlotVerify img s = .next t') : Carried m' s t' := by
  simp only [execSlotVerify, Host.Outcome.next.injEq] at hx
  subst hx
  refine Carried.of_kept ?_
  repeat' (first
    | with_reducible assumption
    | exact Kept.refl m' s
    | with_reducible refine State.slotVerify_keeps _ _ _ _ (Mask.trans (by decide) hm) ?_)

theorem execFollowerImageVerify_carries (m' : Nat) (img : ImageIn) (s t' : State) (hm : 0x81c000010000000000000400100000000000022820a2c6dfcc &&& m' = 0x81c000010000000000000400100000000000022820a2c6dfcc)
    (hx : execFollowerImageVerify img s = .next t') : Carried m' s t' := by
  simp only [execFollowerImageVerify, Host.Outcome.next.injEq] at hx
  subst hx
  refine Carried.of_kept ?_
  repeat' (first
    | with_reducible assumption
    | exact Kept.refl m' s
    | with_reducible refine State.followerVerify_keeps _ _ _ _ (Mask.trans (by decide) hm) ?_)

theorem execImageStart_carries (m' : Nat)  (s t' : State) (hm : 0x81c000010000040468000400100001000008007820a796dfec &&& m' = 0x81c000010000040468000400100001000008007820a796dfec)
    (hx : execImageStart  s = .next t') : Carried m' s t' := by
  simp only [execImageStart, Host.Outcome.next.injEq] at hx
  subst hx
  refine Carried.of_kept ?_
  repeat' (first
    | with_reducible assumption
    | exact Kept.refl m' s
    | with_reducible refine State.imageStart_keeps _ _ _ (Mask.trans (by decide) hm) ?_)

theorem execVinSettleTimeout_carries (m' : Nat)  (s t' : State) (hm : 0x81c000010000000000000400100000000000000820a286dfc6 &&& m' = 0x81c000010000000000000400100000000000000820a286dfc6)
    (hx : execVinSettleTimeout  s = .next t') : Carried m' s t' := by
  simp only [execVinSettleTimeout, Host.Outcome.next.injEq] at hx
  subst hx
  refine Carried.of_kept ?_
  repeat' (first
    | with_reducible assumption
    | exact Kept.refl m' s
    | with_reducible apply Kept.ite
    | with_reducible refine State.vinTimeout_keeps _ _ _ (Mask.trans (by decide) hm) ?_)

theorem execRailInRegulation_carries (m' : Nat) (rail : Nat) (s t' : State) (hm : 0x81c00001200004046800f4009020010005ac002820a7f6dfcc &&& m' = 0x81c00001200004046800f4009020010005ac002820a7f6dfcc)
    (hx : execRailInRegulation rail s = .next t') : Carried m' s t' := by
  have hx := ofUnit_next hx
  subst hx
  refine Carried.of_kept ?_
  repeat' (first
    | with_reducible assumption
    | exact Kept.refl m' s
    | with_reducible apply Kept.ite
    | with_reducible refine State.inRegulation_keeps _ _ _ _ (Mask.trans (by decide) hm) ?_
    | with_reducible refine State.settleReady_keeps _ _ _ _ (Mask.trans (by decide) hm) ?_)

theorem execSoftstartTimeout_carries (m' : Nat) (rail : Nat) (s t' : State) (hm : 0x81c000010000000000000400100000000000000820a286dfc6 &&& m' = 0x81c000010000000000000400100000000000000820a286dfc6)
    (hx : execSoftstartTimeout rail s = .next t') : Carried m' s t' := by
  have hx := ofUnit_next hx
  subst hx
  refine Carried.of_kept ?_
  repeat' (first
    | with_reducible assumption
    | exact Kept.refl m' s
    | with_reducible apply Kept.ite
    | with_reducible refine State.softTimeout_keeps _ _ _ _ (Mask.trans (by decide) hm) ?_)

theorem execBlockResetComplete_carries (m' : Nat)  (s t' : State) (hm : 0xf1f1660f2005040468f304809c60015fffae852fe7e7fedfcd &&& m' = 0xf1f1660f2005040468f304809c60015fffae852fe7e7fedfcd)
    (hx : execBlockResetComplete  s = .next t') : Carried m' s t' := by
  simp only [execBlockResetComplete, Host.Outcome.next.injEq] at hx
  subst hx
  refine Carried.of_kept ?_
  repeat' (first
    | with_reducible assumption
    | exact Kept.refl m' s
    | with_reducible refine State.resetEnds_keeps _ _ _ (Mask.trans (by decide) hm) ?_)

theorem execStewardDigestCheck_carries (m' : Nat) (digest : Nat) (s t' : State) (hm : 0x5ac00000020760040 &&& m' = 0x5ac00000020760040)
    (hx : execStewardDigestCheck digest s = .next t') : Carried m' s t' := by
  simp only [execStewardDigestCheck, Host.Outcome.next.injEq] at hx
  subst hx
  refine Carried.of_kept ?_
  repeat' (first
    | with_reducible assumption
    | exact Kept.refl m' s
    | with_reducible apply Kept.ite
    | with_reducible refine State.digestCheck_keeps _ _ _ _ (Mask.trans (by decide) hm) ?_
    | with_reducible refine State.settleSteward_keeps _ _ _ (Mask.trans (by decide) hm) ?_)

theorem execPsRequest_carries (m' : Nat) (req : Nat) (s t' : State) (hm : 0x81c0000100000404680004001000010000000000a08796df4c &&& m' = 0x81c0000100000404680004001000010000000000a08796df4c)
    (hx : execPsRequest req s = .next t') : Carried m' s t' := by
  have hx := ofUnit_next hx
  subst hx
  refine Carried.of_kept ?_
  repeat' (first
    | with_reducible assumption
    | exact Kept.refl m' s
    | with_reducible apply Kept.ite
    | with_reducible refine State.psRequest_keeps _ _ _ _ (Mask.trans (by decide) hm) ?_)

theorem execPsTransitionDone_carries (m' : Nat)  (s t' : State) (hm : 0x81c0000100000404680004001000010000000000208796df4c &&& m' = 0x81c0000100000404680004001000010000000000208796df4c)
    (hx : execPsTransitionDone  s = .next t') : Carried m' s t' := by
  simp only [execPsTransitionDone, Host.Outcome.next.injEq] at hx
  subst hx
  refine Carried.of_kept ?_
  repeat' (first
    | with_reducible assumption
    | exact Kept.refl m' s
    | with_reducible apply Kept.ite
    | with_reducible refine State.transitionDone_keeps _ _ _ (Mask.trans (by decide) hm) ?_)

theorem execPsReqRelease_carries (m' : Nat)  (s t' : State) (hm : 0x20000 &&& m' = 0x20000)
    (hx : execPsReqRelease  s = .next t') : Carried m' s t' := by
  simp only [execPsReqRelease, Host.Outcome.next.injEq] at hx
  subst hx
  refine Carried.of_kept ?_
  repeat' (first
    | with_reducible assumption
    | exact Kept.refl m' s
    | with_reducible apply Kept.ite
    | with_reducible refine State.psRelease_keeps _ _ _ (Mask.trans (by decide) hm) ?_)

theorem execHalfOffRequest_carries (m' : Nat) (half : Nat) (s t' : State) (hm : 0x81d00000000000000000000000000000000000000000002e00 &&& m' = 0x81d00000000000000000000000000000000000000000002e00)
    (hx : execHalfOffRequest half s = .next t') : Carried m' s t' := by
  have hx := ofUnit_next hx
  subst hx
  refine Carried.of_kept ?_
  repeat' (first
    | with_reducible assumption
    | exact Kept.refl m' s
    | with_reducible refine State.halfOffPin_keeps _ _ _ _ (Mask.trans (by decide) hm) ?_)

theorem execHalfRestart_carries (m' : Nat) (half : Nat) (s t' : State) (hm : 0x100000000000000000000000000000000000000000002000 &&& m' = 0x100000000000000000000000000000000000000000002000)
    (hx : execHalfRestart half s = .next t') : Carried m' s t' := by
  have hx := ofUnit_next hx
  subst hx
  refine Carried.of_kept ?_
  repeat' (first
    | with_reducible assumption
    | exact Kept.refl m' s
    | with_reducible refine State.halfOnPin_keeps _ _ _ _ (Mask.trans (by decide) hm) ?_)

theorem execHalfOffAckRelease_carries (m' : Nat) (half : Nat) (s t' : State) (hm : 0x100000000000000000000000000000000000000000000000 &&& m' = 0x100000000000000000000000000000000000000000000000)
    (hx : execHalfOffAckRelease half s = .next t') : Carried m' s t' := by
  have hx := ofUnit_next hx
  subst hx
  refine Carried.of_kept ?_
  repeat' (first
    | with_reducible assumption
    | exact Kept.refl m' s
    | with_reducible apply Kept.ite
    | with_reducible refine State.halfAckFalls_keeps _ _ _ _ (Mask.trans (by decide) hm) ?_)

theorem execHeathWakeEvent_carries (m' : Nat) (cause : Nat) (s t' : State) (hm : 0x404680000000000000000000000a007165244 &&& m' = 0x404680000000000000000000000a007165244)
    (hx : execHeathWakeEvent cause s = .next t') : Carried m' s t' := by
  have hx := ofUnit_next hx
  subst hx
  refine Carried.of_kept ?_
  repeat' (first
    | with_reducible assumption
    | exact Kept.refl m' s
    | with_reducible apply Kept.ite
    | with_reducible refine State.wake_keeps _ _ _ _ _ (Mask.trans (by decide) hm) ?_)

theorem execLingerExpiry_carries (m' : Nat) (dom : Nat) (s t' : State) (hm : 0x2000000006 &&& m' = 0x2000000006)
    (hx : execLingerExpiry dom s = .next t') : Carried m' s t' := by
  have hx := ofUnit_next hx
  subst hx
  refine Carried.of_kept ?_
  repeat' (first
    | with_reducible assumption
    | exact Kept.refl m' s
    | with_reducible apply Kept.ite
    | with_reducible refine State.linger_keeps _ _ _ _ (Mask.trans (by decide) hm) ?_)

theorem execOrderedShutdownStart_carries (m' : Nat)  (s t' : State) (hm : 0x81c0000100000000000004001000000000000000208286db46 &&& m' = 0x81c0000100000000000004001000000000000000208286db46)
    (hx : execOrderedShutdownStart  s = .next t') : Carried m' s t' := by
  simp only [execOrderedShutdownStart, Host.Outcome.next.injEq] at hx
  subst hx
  refine Carried.of_kept ?_
  repeat' (first
    | with_reducible assumption
    | exact Kept.refl m' s
    | with_reducible refine State.shutStart_keeps _ _ _ (Mask.trans (by decide) hm) ?_)

theorem execRailShutdownDone_carries (m' : Nat) (rail : Nat) (s t' : State) (hm : 0x1000000000000f40000000000000000000000025000 &&& m' = 0x1000000000000f40000000000000000000000025000)
    (hx : execRailShutdownDone rail s = .next t') : Carried m' s t' := by
  have hx := ofUnit_next hx
  subst hx
  refine Carried.of_kept ?_
  repeat' (first
    | with_reducible assumption
    | exact Kept.refl m' s
    | with_reducible refine State.shutRailDone_keeps _ _ _ _ (Mask.trans (by decide) hm) ?_)

theorem execNextRailShutdown_carries (m' : Nat)  (s t' : State) (hm : 0x81c0000100000404680004001000010000000000208796df4e &&& m' = 0x81c0000100000404680004001000010000000000208796df4e)
    (hx : execNextRailShutdown  s = .next t') : Carried m' s t' := by
  simp only [execNextRailShutdown, Host.Outcome.next.injEq] at hx
  subst hx
  refine Carried.of_kept ?_
  repeat' (first
    | with_reducible assumption
    | exact Kept.refl m' s
    | with_reducible refine State.shutContinue_keeps _ _ _ (Mask.trans (by decide) hm) ?_)

theorem execControlSample_carries (m' : Nat) (rail : Nat) (inp : SampleIn) (s t' : State) (hm : 0x81c000030000040468f7fc041c6001000000000820a796dfcd &&& m' = 0x81c000030000040468f7fc041c6001000000000820a796dfcd)
    (hx : execControlSample rail inp s = .next t') : Carried m' s t' := by
  have hx := ofUnit_next hx
  subst hx
  refine Carried.of_kept ?_
  repeat' (first
    | with_reducible assumption
    | exact Kept.refl m' s
    | with_reducible refine State.controlSample_keeps _ _ _ _ _ (Mask.trans (by decide) hm) ?_)

theorem execHoldExpiry_carries (m' : Nat) (rail : Nat) (s t' : State) (hm : 0x81c0000100000404680004001c4001000000000820a796dfce &&& m' = 0x81c0000100000404680004001c4001000000000820a796dfce)
    (hx : execHoldExpiry rail s = .next t') : Carried m' s t' := by
  have hx := ofUnit_next hx
  subst hx
  refine Carried.of_kept ?_
  repeat' (first
    | with_reducible assumption
    | exact Kept.refl m' s
    | with_reducible apply Kept.ite
    | with_reducible refine State.holdOver_keeps _ _ _ _ (Mask.trans (by decide) hm) ?_
    | with_reducible refine State.noteReasons_keeps _ _ _ (Mask.trans (by decide) hm) ?_)

theorem execPhaseShed_carries (m' : Nat) (rail : Nat) (s t' : State) (hm : 0x100000000000000000c400000000000000000805006 &&& m' = 0x100000000000000000c400000000000000000805006)
    (hx : execPhaseShed rail s = .next t') : Carried m' s t' := by
  have hx := ofUnit_next hx
  subst hx
  refine Carried.of_kept ?_
  repeat' (first
    | with_reducible assumption
    | exact Kept.refl m' s
    | with_reducible apply Kept.ite
    | with_reducible refine State.phaseShed_keeps _ _ _ _ (Mask.trans (by decide) hm) ?_
    | with_reducible refine State.noteReasons_keeps _ _ _ (Mask.trans (by decide) hm) ?_)

theorem execDpwmRecalibration_carries (m' : Nat) (lines taps : List Nat) (s t' : State) (hm : 0x8000000000000000020006 &&& m' = 0x8000000000000000020006)
    (hx : execDpwmRecalibration lines taps s = .next t') : Carried m' s t' := by
  simp only [execDpwmRecalibration, Host.Outcome.next.injEq] at hx
  subst hx
  refine Carried.of_kept ?_
  repeat' (first
    | with_reducible assumption
    | exact Kept.refl m' s
    | with_reducible apply Kept.ite
    | with_reducible refine State.dpwmCal_keeps _ _ _ _ (Mask.trans (by decide) hm) ?_)

theorem execAvsVinPoll_carries (m' : Nat) (a : AvsIn) (s t' : State) (hm : 0x81c00001200004046f0004009c60010005ac002820a7f6dfcc &&& m' = 0x81c00001200004046f0004009c60010005ac002820a7f6dfcc)
    (hx : execAvsVinPoll a s = .next t') : Carried m' s t' := by
  simp only [execAvsVinPoll, Host.Outcome.next.injEq] at hx
  subst hx
  refine Carried.of_kept ?_
  repeat' (first
    | with_reducible assumption
    | exact Kept.refl m' s
    | with_reducible apply Kept.ite
    | with_reducible refine State.avsPoll_keeps _ _ _ _ (Mask.trans (by decide) hm) ?_
    | with_reducible refine State.settleReady_keeps _ _ _ _ (Mask.trans (by decide) hm) ?_)

theorem execVinStale_carries (m' : Nat)  (s t' : State) (hm : 0x8006 &&& m' = 0x8006)
    (hx : execVinStale  s = .next t') : Carried m' s t' := by
  simp only [execVinStale, Host.Outcome.next.injEq] at hx
  subst hx
  refine Carried.of_kept ?_
  repeat' (first
    | with_reducible assumption
    | exact Kept.refl m' s
    | with_reducible apply Kept.ite
    | with_reducible refine State.vinStale_keeps _ _ _ (Mask.trans (by decide) hm) ?_)

theorem execAvsStatusRead_carries (m' : Nat) (a : AvsIn) (s t' : State) (hm : 0x81c00001200004046f0004009c6001000008002820a796dfcc &&& m' = 0x81c00001200004046f0004009c6001000008002820a796dfcc)
    (hx : execAvsStatusRead a s = .next t') : Carried m' s t' := by
  simp only [execAvsStatusRead, Host.Outcome.next.injEq] at hx
  subst hx
  refine Carried.of_kept ?_
  repeat' (first
    | with_reducible assumption
    | exact Kept.refl m' s
    | with_reducible apply Kept.ite
    | with_reducible refine State.avsStatus_keeps _ _ _ _ (Mask.trans (by decide) hm) ?_)

theorem execAvsRetry_carries (m' : Nat) (a : AvsIn) (s t' : State) (hm : 0x81c00001200004046f0004009c60010005ac002820a7f6dfce &&& m' = 0x81c00001200004046f0004009c60010005ac002820a7f6dfce)
    (hx : execAvsRetry a s = .next t') : Carried m' s t' := by
  simp only [execAvsRetry, Host.Outcome.next.injEq] at hx
  subst hx
  refine Carried.of_kept ?_
  repeat' (first
    | with_reducible assumption
    | exact Kept.refl m' s
    | with_reducible apply Kept.ite
    | with_reducible refine State.avsAgain_keeps _ _ _ _ (Mask.trans (by decide) hm) ?_
    | with_reducible refine State.settleReady_keeps _ _ _ _ (Mask.trans (by decide) hm) ?_)

theorem execInjectionTimeout_carries (m' : Nat) (rail : Nat) (s t' : State) (hm : 0x1000000000030000000000000000000000000005087 &&& m' = 0x1000000000030000000000000000000000000005087)
    (hx : execInjectionTimeout rail s = .next t') : Carried m' s t' := by
  have hx := ofUnit_next hx
  subst hx
  refine Carried.of_kept ?_
  repeat' (first
    | with_reducible assumption
    | exact Kept.refl m' s
    | with_reducible apply Kept.ite
    | with_reducible refine State.injTimeout_keeps _ _ _ _ (Mask.trans (by decide) hm) ?_)

theorem execCaptureFreeze_carries (m' : Nat) (rail : Nat) (s t' : State) (hm : 0xc0000000000000000000000000004000 &&& m' = 0xc0000000000000000000000000004000)
    (hx : execCaptureFreeze rail s = .next t') : Carried m' s t' := by
  have hx := ofUnit_next hx
  subst hx
  refine Carried.of_kept ?_
  repeat' (first
    | with_reducible assumption
    | exact Kept.refl m' s
    | with_reducible apply Kept.ite
    | with_reducible refine State.capFull_keeps _ _ _ _ (Mask.trans (by decide) hm) ?_)

theorem execEstimatorInterval_carries (m' : Nat)  (s t' : State) (hm : 0x20000000000043e7800000000000000000000000107044246 &&& m' = 0x20000000000043e7800000000000000000000000107044246)
    (hx : execEstimatorInterval  s = .next t') : Carried m' s t' := by
  simp only [execEstimatorInterval, Host.Outcome.next.injEq] at hx
  subst hx
  refine Carried.of_kept ?_
  repeat' (first
    | with_reducible assumption
    | exact Kept.refl m' s
    | with_reducible apply Kept.ite
    | with_reducible refine State.estimate_keeps _ _ _ (Mask.trans (by decide) hm) ?_)

theorem execCalibrationMillisecond_carries (m' : Nat)  (s t' : State) (hm : 0x3c08800000000000000000000000002004006 &&& m' = 0x3c08800000000000000000000000002004006)
    (hx : execCalibrationMillisecond  s = .next t') : Carried m' s t' := by
  simp only [execCalibrationMillisecond, Host.Outcome.next.injEq] at hx
  subst hx
  refine Carried.of_kept ?_
  repeat' (first
    | with_reducible assumption
    | exact Kept.refl m' s
    | with_reducible apply Kept.ite
    | with_reducible refine State.calibration_keeps _ _ _ (Mask.trans (by decide) hm) ?_)

theorem execThermalRound_carries (m' : Nat) (sites : List SiteIn) (s t' : State) (hm : 0xadc0000300000404683004001d63370003a00008a0a7f6dfcf &&& m' = 0xadc0000300000404683004001d63370003a00008a0a7f6dfcf)
    (hx : execThermalRound sites s = .next t') : Carried m' s t' := by
  simp only [execThermalRound, Host.Outcome.next.injEq] at hx
  subst hx
  refine Carried.of_kept ?_
  repeat' (first
    | with_reducible assumption
    | exact Kept.refl m' s
    | with_reducible refine State.thermalRound_keeps _ _ _ _ (Mask.trans (by decide) hm) ?_)

theorem execGraceDeadline_carries (m' : Nat)  (s t' : State) (hm : 0x300000404683000000c60110000000000a007b652c7 &&& m' = 0x300000404683000000c60110000000000a007b652c7)
    (hx : execGraceDeadline  s = .next t') : Carried m' s t' := by
  simp only [execGraceDeadline, Host.Outcome.next.injEq] at hx
  subst hx
  refine Carried.of_kept ?_
  repeat' (first
    | with_reducible assumption
    | exact Kept.refl m' s
    | with_reducible apply Kept.ite
    | with_reducible refine State.graceDeadline_keeps _ _ _ (Mask.trans (by decide) hm) ?_)

theorem execPredictionUpdate_carries (m' : Nat)  (s t' : State) (hm : 0x10800000000000004000006 &&& m' = 0x10800000000000004000006)
    (hx : execPredictionUpdate  s = .next t') : Carried m' s t' := by
  simp only [execPredictionUpdate, Host.Outcome.next.injEq] at hx
  subst hx
  refine Carried.of_kept ?_
  repeat' (first
    | with_reducible assumption
    | exact Kept.refl m' s
    | with_reducible refine State.predict_keeps _ _ _ (Mask.trans (by decide) hm) ?_)

theorem execAnalogTrip_carries (m' : Nat) (site : Nat) (s t' : State) (hm : 0xa1c0000100000404680004001000010000000008a0a7b6dfcc &&& m' = 0xa1c0000100000404680004001000010000000008a0a7b6dfcc)
    (hx : execAnalogTrip site s = .next t') : Carried m' s t' := by
  have hx := ofUnit_next hx
  subst hx
  refine Carried.of_kept ?_
  repeat' (first
    | with_reducible assumption
    | exact Kept.refl m' s
    | with_reducible refine State.analogTrip_keeps _ _ _ _ (Mask.trans (by decide) hm) ?_)

theorem execExternalTrip_carries (m' : Nat)  (s t' : State) (hm : 0x81c0000100000404680004001000010000000008a0a796dfcc &&& m' = 0x81c0000100000404680004001000010000000008a0a796dfcc)
    (hx : execExternalTrip  s = .next t') : Carried m' s t' := by
  simp only [execExternalTrip, Host.Outcome.next.injEq] at hx
  subst hx
  refine Carried.of_kept ?_
  repeat' (first
    | with_reducible assumption
    | exact Kept.refl m' s
    | with_reducible refine State.externalTrip_keeps _ _ _ (Mask.trans (by decide) hm) ?_)

theorem execOscCompensationConversion_carries (m' : Nat) (raw : Nat) (done : Bool) (s t' : State) (hm : 0x8000000000000000000000000000000000000002004020006 &&& m' = 0x8000000000000000000000000000000000000002004020006)
    (hx : execOscCompensationConversion raw done s = .next t') : Carried m' s t' := by
  simp only [execOscCompensationConversion, Host.Outcome.next.injEq] at hx
  subst hx
  refine Carried.of_kept ?_
  repeat' (first
    | with_reducible assumption
    | exact Kept.refl m' s
    | with_reducible refine State.oscConversion_keeps _ _ _ _ _ (Mask.trans (by decide) hm) ?_)

theorem execMemStackReport_carries (m' : Nat) (k : Nat) (temp : Nat) (s t' : State) (hm : 0xc420000000000000084800100 &&& m' = 0xc420000000000000084800100)
    (hx : execMemStackReport k temp s = .next t') : Carried m' s t' := by
  have hx := ofUnit_next hx
  subst hx
  refine Carried.of_kept ?_
  repeat' (first
    | with_reducible assumption
    | exact Kept.refl m' s
    | with_reducible refine State.stackReport_keeps _ _ _ _ _ (Mask.trans (by decide) hm) ?_)

theorem execMemStackStale_carries (m' : Nat) (k : Nat) (s t' : State) (hm : 0xc420000000000000080800186 &&& m' = 0xc420000000000000080800186)
    (hx : execMemStackStale k s = .next t') : Carried m' s t' := by
  have hx := ofUnit_next hx
  subst hx
  refine Carried.of_kept ?_
  repeat' (first
    | with_reducible assumption
    | exact Kept.refl m' s
    | with_reducible apply Kept.ite
    | with_reducible refine State.stackStale_keeps _ _ _ _ (Mask.trans (by decide) hm) ?_)

theorem execWatchRecord_carries (m' : Nat) (k : Nat) (idx : Nat) (lines : Nat) (s t' : State) (hm : 0x100000000 &&& m' = 0x100000000)
    (hx : execWatchRecord k idx lines s = .next t') : Carried m' s t' := by
  have hx := ofUnit_next hx
  subst hx
  refine Carried.of_kept ?_
  repeat' (first
    | with_reducible assumption
    | exact Kept.refl m' s
    | with_reducible refine State.watchRecord_keeps _ _ _ _ _ _ (Mask.trans (by decide) hm) ?_)

theorem execWatchSend_carries (m' : Nat)  (s t' : State) (hm : 0x1e0000000000000000000000000000000100040046 &&& m' = 0x1e0000000000000000000000000000000100040046)
    (hx : execWatchSend  s = .next t') : Carried m' s t' := by
  simp only [execWatchSend, Host.Outcome.next.injEq] at hx
  subst hx
  refine Carried.of_kept ?_
  repeat' (first
    | with_reducible assumption
    | exact Kept.refl m' s
    | with_reducible refine State.watchSend_keeps _ _ _ (Mask.trans (by decide) hm) ?_)

theorem execSnapshotComplete_carries (m' : Nat)  (s t' : State) (hm : 0x100000000000000000000000000000100000006 &&& m' = 0x100000000000000000000000000000100000006)
    (hx : execSnapshotComplete  s = .next t') : Carried m' s t' := by
  simp only [execSnapshotComplete, Host.Outcome.next.injEq] at hx
  subst hx
  refine Carried.of_kept ?_
  repeat' (first
    | with_reducible assumption
    | exact Kept.refl m' s
    | with_reducible apply Kept.ite
    | with_reducible refine State.snapComplete_keeps _ _ _ (Mask.trans (by decide) hm) ?_
    | split)

theorem execRingPostTimeout_carries (m' : Nat)  (s t' : State) (hm : 0x1000000000000000000000000000000000000001006 &&& m' = 0x1000000000000000000000000000000000000001006)
    (hx : execRingPostTimeout  s = .next t') : Carried m' s t' := by
  simp only [execRingPostTimeout, Host.Outcome.next.injEq] at hx
  subst hx
  refine Carried.of_kept ?_
  repeat' (first
    | with_reducible assumption
    | exact Kept.refl m' s
    | with_reducible apply Kept.ite
    | with_reducible refine State.ringTimeout_keeps _ _ _ (Mask.trans (by decide) hm) ?_)

theorem execStreamPeriod_carries (m' : Nat)  (s t' : State) (hm : 0x100000000000000000000000000000010010004e &&& m' = 0x100000000000000000000000000000010010004e)
    (hx : execStreamPeriod  s = .next t') : Carried m' s t' := by
  simp only [execStreamPeriod, Host.Outcome.next.injEq] at hx
  subst hx
  refine Carried.of_kept ?_
  repeat' (first
    | with_reducible assumption
    | exact Kept.refl m' s
    | with_reducible refine State.streamPeriod_keeps _ _ _ (Mask.trans (by decide) hm) ?_)

/-- What every command carries over. -/
theorem exec_carries (i : Instr) (s t : State) (h : exec i s = .next t) : Carried (placesWide (Instr.touches i)) s t := by
  cases i with
  | vaonPorRelease => exact execVaonPorRelease_carries _ s t (by dsimp only [Instr.touches]; decide) h
  | heathPor => exact execHeathPor_carries _ s t (by dsimp only [Instr.touches]; decide) h
  | porstNAssert => exact execPorstNAssert_carries _ s t (by dsimp only [Instr.touches]; decide) h
  | porstNDeassert a0 a1 => exact execPorstNDeassert_carries _ a0 a1 s t (by dsimp only [Instr.touches]; decide) h
  | pllLock => exact execPllLock_carries _ s t (by dsimp only [Instr.touches]; decide) h
  | strapExchangeClose => exact execStrapExchangeClose_carries _ s t (by dsimp only [Instr.touches]; decide) h
  | sfdpDiscovery a0 => exact execSfdpDiscovery_carries _ a0 s t (by dsimp only [Instr.touches]; decide) h
  | flashAbsentTimeout => exact execFlashAbsentTimeout_carries _ s t (by dsimp only [Instr.touches]; decide) h
  | slotVerify a0 => exact execSlotVerify_carries _ a0 s t (by dsimp only [Instr.touches]; decide) h
  | followerImageVerify a0 => exact execFollowerImageVerify_carries _ a0 s t (by dsimp only [Instr.touches]; decide) h
  | imageStart => exact execImageStart_carries _ s t (by dsimp only [Instr.touches]; decide) h
  | vinSettleTimeout => exact execVinSettleTimeout_carries _ s t (by dsimp only [Instr.touches]; decide) h
  | railInRegulation a0 => exact execRailInRegulation_carries _ a0 s t (by dsimp only [Instr.touches]; decide) h
  | softstartTimeout a0 => exact execSoftstartTimeout_carries _ a0 s t (by dsimp only [Instr.touches]; decide) h
  | blockResetWrite a0 a1 => exact execBlockResetWrite_carries _ a0 a1 s t (by dsimp only [Instr.touches]; decide) h
  | blockResetComplete => exact execBlockResetComplete_carries _ s t (by dsimp only [Instr.touches]; decide) h
  | stewardDigestCheck a0 => exact execStewardDigestCheck_carries _ a0 s t (by dsimp only [Instr.touches]; decide) h
  | psRequest a0 => exact execPsRequest_carries _ a0 s t (by dsimp only [Instr.touches]; decide) h
  | psTransitionDone => exact execPsTransitionDone_carries _ s t (by dsimp only [Instr.touches]; decide) h
  | psReqRelease => exact execPsReqRelease_carries _ s t (by dsimp only [Instr.touches]; decide) h
  | halfOffRequest a0 => exact execHalfOffRequest_carries _ a0 s t (by dsimp only [Instr.touches]; decide) h
  | halfRestart a0 => exact execHalfRestart_carries _ a0 s t (by dsimp only [Instr.touches]; decide) h
  | halfOffAckRelease a0 => exact execHalfOffAckRelease_carries _ a0 s t (by dsimp only [Instr.touches]; decide) h
  | heathWakeEvent a0 => exact execHeathWakeEvent_carries _ a0 s t (by dsimp only [Instr.touches]; decide) h
  | lingerExpiry a0 => exact execLingerExpiry_carries _ a0 s t (by dsimp only [Instr.touches]; decide) h
  | registerWrite a0 a1 a2 => exact execRegisterWrite_carries _ a0 a1 a2 s t (by dsimp only [Instr.touches]; decide) h
  | lowWordRead a0 a1 => exact execLowWordRead_carries _ a0 a1 s t (by dsimp only [Instr.touches]; decide) h
  | mbInW1hWrite a0 a1 a2 => exact execMbInW1hWrite_carries _ a0 a1 a2 s t (by dsimp only [Instr.touches]; decide) h
  | mbOutFullClear a0 a1 => exact execMbOutFullClear_carries _ a0 a1 s t (by dsimp only [Instr.touches]; decide) h
  | mbDbInWrite a0 a1 => exact execMbDbInWrite_carries _ a0 a1 s t (by dsimp only [Instr.touches]; decide) h
  | mbDbOutClear a0 a1 => exact execMbDbOutClear_carries _ a0 a1 s t (by dsimp only [Instr.touches]; decide) h
  | cmdMbCtxWrite a0 a1 a2 => exact execCmdMbCtxWrite_carries _ a0 a1 a2 s t (by dsimp only [Instr.touches]; decide) h
  | railCapArm a0 a1 a2 => exact execRailCapArm_carries _ a0 a1 a2 s t (by dsimp only [Instr.touches]; decide) h
  | railCapStop a0 a1 a2 => exact execRailCapStop_carries _ a0 a1 a2 s t (by dsimp only [Instr.touches]; decide) h
  | ringCtrlArm a0 a1 => exact execRingCtrlArm_carries _ a0 a1 s t (by dsimp only [Instr.touches]; decide) h
  | ringCtrlForce a0 a1 => exact execRingCtrlForce_carries _ a0 a1 s t (by dsimp only [Instr.touches]; decide) h
  | ringCtrlResume a0 a1 => exact execRingCtrlResume_carries _ a0 a1 s t (by dsimp only [Instr.touches]; decide) h
  | ringLenWrite a0 a1 a2 => exact execRingLenWrite_carries _ a0 a1 a2 s t (by dsimp only [Instr.touches]; decide) h
  | timeResync a0 a1 => exact execTimeResync_carries _ a0 a1 s t (by dsimp only [Instr.touches]; decide) h
  | fhSrcForce a0 a1 a2 => exact execFhSrcForce_carries _ a0 a1 a2 s t (by dsimp only [Instr.touches]; decide) h
  | fhPendClear a0 a1 a2 => exact execFhPendClear_carries _ a0 a1 a2 s t (by dsimp only [Instr.touches]; decide) h
  | fhFirstClear a0 a1 => exact execFhFirstClear_carries _ a0 a1 s t (by dsimp only [Instr.touches]; decide) h
  | phFaultReadmit a0 a1 a2 a3 => exact execPhFaultReadmit_carries _ a0 a1 a2 a3 s t (by dsimp only [Instr.touches]; decide) h
  | siteSuspectClear a0 a1 a2 => exact execSiteSuspectClear_carries _ a0 a1 a2 s t (by dsimp only [Instr.touches]; decide) h
  | budSlowClear a0 a1 => exact execBudSlowClear_carries _ a0 a1 s t (by dsimp only [Instr.touches]; decide) h
  | fwLoadGo a0 a1 => exact execFwLoadGo_carries _ a0 a1 s t (by dsimp only [Instr.touches]; decide) h
  | accCtrlRelock a0 a1 => exact execAccCtrlRelock_carries _ a0 a1 s t (by dsimp only [Instr.touches]; decide) h
  | engClassRise a0 a1 a2 => exact execEngClassRise_carries _ a0 a1 a2 s t (by dsimp only [Instr.touches]; decide) h
  | engClassFall a0 a1 a2 => exact execEngClassFall_carries _ a0 a1 a2 s t (by dsimp only [Instr.touches]; decide) h
  | heldQuantaExpiry a0 => exact execHeldQuantaExpiry_carries _ a0 s t (by dsimp only [Instr.touches]; decide) h
  | clusterIdle a0 => exact execClusterIdle_carries _ a0 s t (by dsimp only [Instr.touches]; decide) h
  | clRunFall a0 a1 => exact execClRunFall_carries _ a0 a1 s t (by dsimp only [Instr.touches]; decide) h
  | clRunRise a0 => exact execClRunRise_carries _ a0 s t (by dsimp only [Instr.touches]; decide) h
  | reclaimMessage a0 => exact execReclaimMessage_carries _ a0 s t (by dsimp only [Instr.touches]; decide) h
  | grantDelivery a0 a1 => exact execGrantDelivery_carries _ a0 a1 s t (by dsimp only [Instr.touches]; decide) h
  | activityIntervalClose a0 a1 a2 a3 => exact execActivityIntervalClose_carries _ a0 a1 a2 a3 s t (by dsimp only [Instr.touches]; decide) h
  | droopDetection a0 a1 => exact execDroopDetection_carries _ a0 a1 s t (by dsimp only [Instr.touches]; decide) h
  | ladderTimerExpiry a0 a1 => exact execLadderTimerExpiry_carries _ a0 a1 s t (by dsimp only [Instr.touches]; decide) h
  | localStopExpiry a0 => exact execLocalStopExpiry_carries _ a0 s t (by dsimp only [Instr.touches]; decide) h
  | fastCalibrationWindow a0 a1 => exact execFastCalibrationWindow_carries _ a0 a1 s t (by dsimp only [Instr.touches]; decide) h
  | maintenanceRound a0 a1 a2 => exact execMaintenanceRound_carries _ a0 a1 a2 s t (by dsimp only [Instr.touches]; decide) h
  | stuckDetector a0 => exact execStuckDetector_carries _ a0 s t (by dsimp only [Instr.touches]; decide) h
  | detectorReinstate a0 => exact execDetectorReinstate_carries _ a0 s t (by dsimp only [Instr.touches]; decide) h
  | grantRequest a0 a1 => exact execGrantRequest_carries _ a0 a1 s t (by dsimp only [Instr.touches]; decide) h
  | proactiveForceEnd a0 => exact execProactiveForceEnd_carries _ a0 s t (by dsimp only [Instr.touches]; decide) h
  | arbiterGrant => exact execArbiterGrant_carries _ s t (by dsimp only [Instr.touches]; decide) h
  | waveStepBoundary => exact execWaveStepBoundary_carries _ s t (by dsimp only [Instr.touches]; decide) h
  | localGrantReport a0 => exact execLocalGrantReport_carries _ a0 s t (by dsimp only [Instr.touches]; decide) h
  | pocketRefill a0 => exact execPocketRefill_carries _ a0 s t (by dsimp only [Instr.touches]; decide) h
  | revocationPass => exact execRevocationPass_carries _ s t (by dsimp only [Instr.touches]; decide) h
  | reservationStart a0 => exact execReservationStart_carries _ a0 s t (by dsimp only [Instr.touches]; decide) h
  | reservationTimeT a0 => exact execReservationTimeT_carries _ a0 s t (by dsimp only [Instr.touches]; decide) h
  | reservationEnd a0 => exact execReservationEnd_carries _ a0 s t (by dsimp only [Instr.touches]; decide) h
  | prebiasStart a0 => exact execPrebiasStart_carries _ a0 s t (by dsimp only [Instr.touches]; decide) h
  | severeReport a0 => exact execSevereReport_carries _ a0 s t (by dsimp only [Instr.touches]; decide) h
  | freezeExpiry a0 => exact execFreezeExpiry_carries _ a0 s t (by dsimp only [Instr.touches]; decide) h
  | dieForceReleaseStep => exact execDieForceReleaseStep_carries _ s t (by dsimp only [Instr.touches]; decide) h
  | limiterOperandChange => exact execLimiterOperandChange_carries _ s t (by dsimp only [Instr.touches]; decide) h
  | oppStepStart => exact execOppStepStart_carries _ s t (by dsimp only [Instr.touches]; decide) h
  | oppFreqHandshakeStart => exact execOppFreqHandshakeStart_carries _ s t (by dsimp only [Instr.touches]; decide) h
  | oppFreqAck => exact execOppFreqAck_carries _ s t (by dsimp only [Instr.touches]; decide) h
  | oppFreqAckFall => exact execOppFreqAckFall_carries _ s t (by dsimp only [Instr.touches]; decide) h
  | oppFreqTimeout => exact execOppFreqTimeout_carries _ s t (by dsimp only [Instr.touches]; decide) h
  | windowSlotBoundary a0 => exact execWindowSlotBoundary_carries _ a0 s t (by dsimp only [Instr.touches]; decide) h
  | windowDecisionApply a0 => exact execWindowDecisionApply_carries _ a0 s t (by dsimp only [Instr.touches]; decide) h
  | windowAutonomous a0 => exact execWindowAutonomous_carries _ a0 s t (by dsimp only [Instr.touches]; decide) h
  | fastLimitLatch => exact execFastLimitLatch_carries _ s t (by dsimp only [Instr.touches]; decide) h
  | fastLimitRelease => exact execFastLimitRelease_carries _ s t (by dsimp only [Instr.touches]; decide) h
  | emergencyHoldExpiry => exact execEmergencyHoldExpiry_carries _ s t (by dsimp only [Instr.touches]; decide) h
  | supplyHoldExpiry => exact execSupplyHoldExpiry_carries _ s t (by dsimp only [Instr.touches]; decide) h
  | controlSample a0 a1 => exact execControlSample_carries _ a0 a1 s t (by dsimp only [Instr.touches]; decide) h
  | holdExpiry a0 => exact execHoldExpiry_carries _ a0 s t (by dsimp only [Instr.touches]; decide) h
  | phaseShed a0 => exact execPhaseShed_carries _ a0 s t (by dsimp only [Instr.touches]; decide) h
  | orderedShutdownStart => exact execOrderedShutdownStart_carries _ s t (by dsimp only [Instr.touches]; decide) h
  | railShutdownDone a0 => exact execRailShutdownDone_carries _ a0 s t (by dsimp only [Instr.touches]; decide) h
  | nextRailShutdown => exact execNextRailShutdown_carries _ s t (by dsimp only [Instr.touches]; decide) h
  | dpwmRecalibration a0 a1 => exact execDpwmRecalibration_carries _ a0 a1 s t (by dsimp only [Instr.touches]; decide) h
  | avsVinPoll a0 => exact execAvsVinPoll_carries _ a0 s t (by dsimp only [Instr.touches]; decide) h
  | vinStale => exact execVinStale_carries _ s t (by dsimp only [Instr.touches]; decide) h
  | avsStatusRead a0 => exact execAvsStatusRead_carries _ a0 s t (by dsimp only [Instr.touches]; decide) h
  | avsRetry a0 => exact execAvsRetry_carries _ a0 s t (by dsimp only [Instr.touches]; decide) h
  | injectionTimeout a0 => exact execInjectionTimeout_carries _ a0 s t (by dsimp only [Instr.touches]; decide) h
  | captureFreeze a0 => exact execCaptureFreeze_carries _ a0 s t (by dsimp only [Instr.touches]; decide) h
  | estimatorInterval => exact execEstimatorInterval_carries _ s t (by dsimp only [Instr.touches]; decide) h
  | calibrationMillisecond => exact execCalibrationMillisecond_carries _ s t (by dsimp only [Instr.touches]; decide) h
  | thermalRound a0 => exact execThermalRound_carries _ a0 s t (by dsimp only [Instr.touches]; decide) h
  | graceDeadline => exact execGraceDeadline_carries _ s t (by dsimp only [Instr.touches]; decide) h
  | predictionUpdate => exact execPredictionUpdate_carries _ s t (by dsimp only [Instr.touches]; decide) h
  | analogTrip a0 => exact execAnalogTrip_carries _ a0 s t (by dsimp only [Instr.touches]; decide) h
  | externalTrip => exact execExternalTrip_carries _ s t (by dsimp only [Instr.touches]; decide) h
  | oscCompensationConversion a0 a1 => exact execOscCompensationConversion_carries _ a0 a1 s t (by dsimp only [Instr.touches]; decide) h
  | memStackReport a0 a1 => exact execMemStackReport_carries _ a0 a1 s t (by dsimp only [Instr.touches]; decide) h
  | memStackStale a0 => exact execMemStackStale_carries _ a0 s t (by dsimp only [Instr.touches]; decide) h
  | watchRecord a0 a1 a2 => exact execWatchRecord_carries _ a0 a1 a2 s t (by dsimp only [Instr.touches]; decide) h
  | watchSend => exact execWatchSend_carries _ s t (by dsimp only [Instr.touches]; decide) h
  | linkFlit a0 => exact execLinkFlit_carries _ a0 s t (by dsimp only [Instr.touches]; decide) h
  | heartbeatFlit a0 a1 a2 a3 => exact execHeartbeatFlit_carries _ a0 a1 a2 a3 s t (by dsimp only [Instr.touches]; decide) h
  | strapFlit a0 a1 a2 => exact execStrapFlit_carries _ a0 a1 a2 s t (by dsimp only [Instr.touches]; decide) h
  | stageFlit a0 a1 a2 => exact execStageFlit_carries _ a0 a1 a2 s t (by dsimp only [Instr.touches]; decide) h
  | prepareFlit a0 a1 a2 a3 a4 => exact execPrepareFlit_carries _ a0 a1 a2 a3 a4 s t (by dsimp only [Instr.touches]; decide) h
  | prepareAckFlit a0 a1 a2 a3 => exact execPrepareAckFlit_carries _ a0 a1 a2 a3 s t (by dsimp only [Instr.touches]; decide) h
  | commitFlit a0 a1 => exact execCommitFlit_carries _ a0 a1 s t (by dsimp only [Instr.touches]; decide) h
  | abortFlit a0 a1 => exact execAbortFlit_carries _ a0 a1 s t (by dsimp only [Instr.touches]; decide) h
  | cmdFlit a0 a1 => exact execCmdFlit_carries _ a0 a1 s t (by dsimp only [Instr.touches]; decide) h
  | cmdDoneFlit a0 a1 a2 a3 => exact execCmdDoneFlit_carries _ a0 a1 a2 a3 s t (by dsimp only [Instr.touches]; decide) h
  | eventFlit a0 a1 => exact execEventFlit_carries _ a0 a1 s t (by dsimp only [Instr.touches]; decide) h
  | energyFlit a0 a1 => exact execEnergyFlit_carries _ a0 a1 s t (by dsimp only [Instr.touches]; decide) h
  | thermalFlit a0 a1 a2 => exact execThermalFlit_carries _ a0 a1 a2 s t (by dsimp only [Instr.touches]; decide) h
  | levelFlit a0 a1 a2 => exact execLevelFlit_carries _ a0 a1 a2 s t (by dsimp only [Instr.touches]; decide) h
  | dataFlit a0 a1 => exact execDataFlit_carries _ a0 a1 s t (by dsimp only [Instr.touches]; decide) h
  | hdgRetryTimeout a0 => exact execHdgRetryTimeout_carries _ a0 s t (by dsimp only [Instr.touches]; decide) h
  | heartbeatSend => exact execHeartbeatSend_carries _ s t (by dsimp only [Instr.touches]; decide) h
  | heartbeatMiss a0 => exact execHeartbeatMiss_carries _ a0 s t (by dsimp only [Instr.touches]; decide) h
  | hdgWakeIn => exact execHdgWakeIn_carries _ s t (by dsimp only [Instr.touches]; decide) h
  | hdgAwakeIn a0 => exact execHdgAwakeIn_carries _ a0 s t (by dsimp only [Instr.touches]; decide) h
  | prepareTimeout => exact execPrepareTimeout_carries _ s t (by dsimp only [Instr.touches]; decide) h
  | commitOrphan => exact execCommitOrphan_carries _ s t (by dsimp only [Instr.touches]; decide) h
  | cmdDoneTimeout a0 => exact execCmdDoneTimeout_carries _ a0 s t (by dsimp only [Instr.touches]; decide) h
  | commitStart => exact execCommitStart_carries _ s t (by dsimp only [Instr.touches]; decide) h
  | commitApply => exact execCommitApply_carries _ s t (by dsimp only [Instr.touches]; decide) h
  | catchUpTimeout a0 => exact execCatchUpTimeout_carries _ a0 s t (by dsimp only [Instr.touches]; decide) h
  | stileMessage a0 => exact execStileMessage_carries _ a0 s t (by dsimp only [Instr.touches]; decide) h
  | stileQueueDrain a0 => exact execStileQueueDrain_carries _ a0 s t (by dsimp only [Instr.touches]; decide) h
  | hello a0 a1 a2 => exact execHello_carries _ a0 a1 a2 s t (by dsimp only [Instr.touches]; decide) h
  | helloAck a0 a1 a2 => exact execHelloAck_carries _ a0 a1 a2 s t (by dsimp only [Instr.touches]; decide) h
  | ackFrame a0 a1 => exact execAckFrame_carries _ a0 a1 s t (by dsimp only [Instr.touches]; decide) h
  | pace a0 a1 a2 a3 a4 => exact execPace_carries _ a0 a1 a2 a3 a4 s t (by dsimp only [Instr.touches]; decide) h
  | emerg a0 a1 a2 a3 a4 a5 => exact execEmerg_carries _ a0 a1 a2 a3 a4 a5 s t (by dsimp only [Instr.touches]; decide) h
  | relPrepare a0 a1 a2 a3 a4 a5 a6 a7 => exact execRelPrepare_carries _ a0 a1 a2 a3 a4 a5 a6 a7 s t (by dsimp only [Instr.touches]; decide) h
  | relVote a0 a1 a2 a3 => exact execRelVote_carries _ a0 a1 a2 a3 s t (by dsimp only [Instr.touches]; decide) h
  | relCommit a0 a1 a2 => exact execRelCommit_carries _ a0 a1 a2 s t (by dsimp only [Instr.touches]; decide) h
  | relAbort a0 a1 => exact execRelAbort_carries _ a0 a1 s t (by dsimp only [Instr.touches]; decide) h
  | fabRetransmit a0 a1 => exact execFabRetransmit_carries _ a0 a1 s t (by dsimp only [Instr.touches]; decide) h
  | discoveryPeriod => exact execDiscoveryPeriod_carries _ s t (by dsimp only [Instr.touches]; decide) h
  | peerDead a0 => exact execPeerDead_carries _ a0 s t (by dsimp only [Instr.touches]; decide) h
  | paceRefresh a0 => exact execPaceRefresh_carries _ a0 s t (by dsimp only [Instr.touches]; decide) h
  | levelWordExpiry a0 => exact execLevelWordExpiry_carries _ a0 s t (by dsimp only [Instr.touches]; decide) h
  | levelWordResend a0 => exact execLevelWordResend_carries _ a0 s t (by dsimp only [Instr.touches]; decide) h
  | voteWaitEnd a0 => exact execVoteWaitEnd_carries _ a0 s t (by dsimp only [Instr.touches]; decide) h
  | originatorWaitEnd a0 => exact execOriginatorWaitEnd_carries _ a0 s t (by dsimp only [Instr.touches]; decide) h
  | releaseBufferHoldExpiry a0 => exact execReleaseBufferHoldExpiry_carries _ a0 s t (by dsimp only [Instr.touches]; decide) h
  | releaseRetry a0 => exact execReleaseRetry_carries _ a0 s t (by dsimp only [Instr.touches]; decide) h
  | tpPulse a0 a1 => exact execTpPulse_carries _ a0 a1 s t (by dsimp only [Instr.touches]; decide) h
  | pulseMissing => exact execPulseMissing_carries _ s t (by dsimp only [Instr.touches]; decide) h
  | skylarkHoldover => exact execSkylarkHoldover_carries _ s t (by dsimp only [Instr.touches]; decide) h
  | resyncApply => exact execResyncApply_carries _ s t (by dsimp only [Instr.touches]; decide) h
  | memResponse a0 a1 a2 => exact execMemResponse_carries _ a0 a1 a2 s t (by dsimp only [Instr.touches]; decide) h
  | memPortTimeout a0 => exact execMemPortTimeout_carries _ a0 s t (by dsimp only [Instr.touches]; decide) h
  | commandPickup a0 => exact execCommandPickup_carries _ a0 s t (by dsimp only [Instr.touches]; decide) h
  | noticePost a0 => exact execNoticePost_carries _ a0 s t (by dsimp only [Instr.touches]; decide) h
  | heartbeatTimeout => exact execHeartbeatTimeout_carries _ s t (by dsimp only [Instr.touches]; decide) h
  | mctpRequest a0 => exact execMctpRequest_carries _ a0 s t (by dsimp only [Instr.touches]; decide) h
  | mctpControl a0 => exact execMctpControl_carries _ a0 s t (by dsimp only [Instr.touches]; decide) h
  | pldmRequest a0 => exact execPldmRequest_carries _ a0 s t (by dsimp only [Instr.touches]; decide) h
  | attach a0 => exact execAttach_carries _ a0 s t (by dsimp only [Instr.touches]; decide) h
  | detach a0 => exact execDetach_carries _ a0 s t (by dsimp only [Instr.touches]; decide) h
  | heartbeat a0 => exact execHeartbeat_carries _ a0 s t (by dsimp only [Instr.touches]; decide) h
  | getInfo a0 => exact execGetInfo_carries _ a0 s t (by dsimp only [Instr.touches]; decide) h
  | stageBudget a0 => exact execStageBudget_carries _ a0 s t (by dsimp only [Instr.touches]; decide) h
  | commit a0 => exact execCommit_carries _ a0 s t (by dsimp only [Instr.touches]; decide) h
  | abortStage a0 => exact execAbortStage_carries _ a0 s t (by dsimp only [Instr.touches]; decide) h
  | getBudget a0 => exact execGetBudget_carries _ a0 s t (by dsimp only [Instr.touches]; decide) h
  | loadProfile a0 => exact execLoadProfile_carries _ a0 s t (by dsimp only [Instr.touches]; decide) h
  | dropProfile a0 => exact execDropProfile_carries _ a0 s t (by dsimp only [Instr.touches]; decide) h
  | announce a0 => exact execAnnounce_carries _ a0 s t (by dsimp only [Instr.touches]; decide) h
  | barrierHint a0 => exact execBarrierHint_carries _ a0 s t (by dsimp only [Instr.touches]; decide) h
  | setOppTable a0 => exact execSetOppTable_carries _ a0 s t (by dsimp only [Instr.touches]; decide) h
  | setThermal a0 => exact execSetThermal_carries _ a0 s t (by dsimp only [Instr.touches]; decide) h
  | fabricAssign a0 => exact execFabricAssign_carries _ a0 s t (by dsimp only [Instr.touches]; decide) h
  | joinGroup a0 => exact execJoinGroup_carries _ a0 s t (by dsimp only [Instr.touches]; decide) h
  | leaveGroup a0 => exact execLeaveGroup_carries _ a0 s t (by dsimp only [Instr.touches]; decide) h
  | fabricStatus a0 => exact execFabricStatus_carries _ a0 s t (by dsimp only [Instr.touches]; decide) h
  | snapshot a0 => exact execSnapshot_carries _ a0 s t (by dsimp only [Instr.touches]; decide) h
  | snapshotComplete => exact execSnapshotComplete_carries _ s t (by dsimp only [Instr.touches]; decide) h
  | readCounters a0 => exact execReadCounters_carries _ a0 s t (by dsimp only [Instr.touches]; decide) h
  | armTriggerArm a0 => exact execArmTriggerArm_carries _ a0 s t (by dsimp only [Instr.touches]; decide) h
  | armTriggerForce a0 => exact execArmTriggerForce_carries _ a0 s t (by dsimp only [Instr.touches]; decide) h
  | armTriggerResume a0 => exact execArmTriggerResume_carries _ a0 s t (by dsimp only [Instr.touches]; decide) h
  | ringPostTimeout => exact execRingPostTimeout_carries _ s t (by dsimp only [Instr.touches]; decide) h
  | readRing a0 => exact execReadRing_carries _ a0 s t (by dsimp only [Instr.touches]; decide) h
  | setWatch a0 => exact execSetWatch_carries _ a0 s t (by dsimp only [Instr.touches]; decide) h
  | streamPeriod => exact execStreamPeriod_carries _ s t (by dsimp only [Instr.touches]; decide) h
  | fwStageHost a0 => exact execFwStageHost_carries _ a0 s t (by dsimp only [Instr.touches]; decide) h
  | fwStageBegin a0 => exact execFwStageBegin_carries _ a0 s t (by dsimp only [Instr.touches]; decide) h
  | fwStageChunk a0 => exact execFwStageChunk_carries _ a0 s t (by dsimp only [Instr.touches]; decide) h
  | fwStageEnd a0 => exact execFwStageEnd_carries _ a0 s t (by dsimp only [Instr.touches]; decide) h
  | fwStageCancel a0 => exact execFwStageCancel_carries _ a0 s t (by dsimp only [Instr.touches]; decide) h
  | fwStageReadback a0 => exact execFwStageReadback_carries _ a0 s t (by dsimp only [Instr.touches]; decide) h
  | fwActivate a0 => exact execFwActivate_carries _ a0 s t (by dsimp only [Instr.touches]; decide) h
  | activationStart => exact execActivationStart_carries _ s t (by dsimp only [Instr.touches]; decide) h
  | activationTimeout => exact execActivationTimeout_carries _ s t (by dsimp only [Instr.touches]; decide) h
  | activationComplete a0 a1 => exact execActivationComplete_carries _ a0 a1 s t (by dsimp only [Instr.touches]; decide) h
  | slotRepairDone => exact execSlotRepairDone_carries _ s t (by dsimp only [Instr.touches]; decide) h
  | fwStatus a0 => exact execFwStatus_carries _ a0 s t (by dsimp only [Instr.touches]; decide) h
  | compartmentFault a0 => exact execCompartmentFault_carries _ a0 s t (by dsimp only [Instr.touches]; decide) h
  | userRead a0 => exact execUserRead_carries _ a0 s t (by dsimp only [Instr.touches]; decide) h
  | userCapStage a0 => exact execUserCapStage_carries _ a0 s t (by dsimp only [Instr.touches]; decide) h
  | userCapCommit => exact execUserCapCommit_carries _ s t (by dsimp only [Instr.touches]; decide) h
  | userDoorbell a0 a1 => exact execUserDoorbell_carries _ a0 a1 s t (by dsimp only [Instr.touches]; decide) h
  | userTimerSet a0 => exact execUserTimerSet_carries _ a0 s t (by dsimp only [Instr.touches]; decide) h
  | userTimerWake => exact execUserTimerWake_carries _ s t (by dsimp only [Instr.touches]; decide) h
  | userLog a0 a1 a2 => exact execUserLog_carries _ a0 a1 a2 s t (by dsimp only [Instr.touches]; decide) h
  | unlockChallenge a0 => exact execUnlockChallenge_carries _ a0 s t (by dsimp only [Instr.touches]; decide) h
  | unlockResponsePassword a0 => exact execUnlockResponsePassword_carries _ a0 s t (by dsimp only [Instr.touches]; decide) h
  | unlockResponseSignature a0 => exact execUnlockResponseSignature_carries _ a0 s t (by dsimp only [Instr.touches]; decide) h
  | relock a0 => exact execRelock_carries _ a0 s t (by dsimp only [Instr.touches]; decide) h
  | accessTimerExpiry => exact execAccessTimerExpiry_carries _ s t (by dsimp only [Instr.touches]; decide) h
  | nonceLapse => exact execNonceLapse_carries _ s t (by dsimp only [Instr.touches]; decide) h
  | unlockBackoffEnd => exact execUnlockBackoffEnd_carries _ s t (by dsimp only [Instr.touches]; decide) h
  | faultRaise a0 a1 => exact execFaultRaise_carries _ a0 a1 s t (by dsimp only [Instr.touches]; decide) h
  | faultRead a0 => exact execFaultRead_carries _ a0 s t (by dsimp only [Instr.touches]; decide) h
  | faultClear a0 => exact execFaultClear_carries _ a0 s t (by dsimp only [Instr.touches]; decide) h
  | faultForce a0 => exact execFaultForce_carries _ a0 s t (by dsimp only [Instr.touches]; decide) h
  | injectStart a0 => exact execInjectStart_carries _ a0 s t (by dsimp only [Instr.touches]; decide) h
  | captureRead a0 => exact execCaptureRead_carries _ a0 s t (by dsimp only [Instr.touches]; decide) h
  | hdgWakeTimeout a0 => exact execHdgWakeTimeout_carries _ a0 s t (by dsimp only [Instr.touches]; decide) h
  | hdgFlitDiscard a0 a1 => exact execHdgFlitDiscard_carries _ a0 a1 s t (by dsimp only [Instr.touches]; decide) h
  | edvikFrameDiscard a0 a1 => exact execEdvikFrameDiscard_carries _ a0 a1 s t (by dsimp only [Instr.touches]; decide) h
  | coreNoProgress a0 => exact execCoreNoProgress_carries _ a0 s t (by dsimp only [Instr.touches]; decide) h
  | rstStormEnd => exact execRstStormEnd_carries _ s t (by dsimp only [Instr.touches]; decide) h
  | ringWaitTrigExceeded a0 a1 => exact execRingWaitTrigExceeded_carries _ a0 a1 s t (by dsimp only [Instr.touches]; decide) h

end Sys2Proof.Machine
end

