-- ==== Sys2Proof/Laws/Places.lean ====
section
/-! SUPPORT. Which places a register lies in, as a check, and what a kept register says of its fields. -/

namespace Sys2Proof.Machine

/-- A check that says whether the register at `off` may be one of a place's. -/
def Place.covers (p : Place) (off : Nat) : Bool :=
  match p with
  | .ID_TOPOLOGY => off == 0x4
  | .HEATH_DOMAIN_STATUS => off == 0x1000
  | .HEATH_DOMAIN_CTRL => off == 0x1004
  | .HEATH_WAKE_CAUSE => off == 0x1008
  | .HEATH_RESET_CAUSE => off == 0x100C
  | .HEATH_RESET_CTRL => off == 0x1010
  | .HEATH_EPOCH => off == 0x1014
  | .HEATH_BOOT_STATUS => off == 0x1018
  | .HEATH_FW_VERSION => off == 0x1020
  | .HEATH_FW_STATUS => off == 0x1024
  | .HEATH_FW_COMP => off == 0x1028
  | .HEATH_FW_RESTARTS => off == 0x102C
  | .HEATH_FW_LOAD_CTRL => off == 0x1038
  | .HEATH_LOG_HEAD => off == 0x103C
  | .HEATH_TRACE_MASK => off == 0x1040
  | .MB_OUT_W0L => decide (0x2200 ≤ off) && decide (off < 0x2400) && (off - 0x2200) % 16 == 0
  | .MB_OUT_W0H => decide (0x2204 ≤ off) && decide (off < 0x2404) && (off - 0x2204) % 16 == 0
  | .MB_OUT_W1L => decide (0x2208 ≤ off) && decide (off < 0x2408) && (off - 0x2208) % 16 == 0
  | .MB_OUT_W1H => decide (0x220C ≤ off) && decide (off < 0x240C) && (off - 0x220C) % 16 == 0
  | .MB_IN_FULL => off == 0x2400
  | .MB_OUT_FULL => off == 0x2404
  | .MB_IN_OVERRUN => off == 0x240C
  | .MB_DB_IN => off == 0x2410
  | .MB_DB_OUT => off == 0x2414
  | .CMD_SESSION => off == 0x3000
  | .CMD_STATUS => off == 0x3008
  | .CMD_ERR => off == 0x3010
  | .CMD_COUNT => off == 0x3014
  | .CMD_LAST => off == 0x3018
  | .CMD_EVT => off == 0x301C
  | .CMD_MB_CTX => decide (0x3080 ≤ off) && decide (off < 0x3100) && (off - 0x3080) % 4 == 0
  | .FH_STATUS => off == 0x4004
  | .FH_FIRST => off == 0x4008
  | .FH_FIRST_T => decide (0x400C ≤ off) && decide (off < 0x4014) && (off - 0x400C) % 4 == 0
  | .FH_FIRST_SYN => decide (0x4014 ≤ off) && decide (off < 0x401C) && (off - 0x4014) % 4 == 0
  | .FH_PKG => off == 0x401C
  | .FH_PEND => decide (0x4020 ≤ off) && decide (off < 0x4040) && (off - 0x4020) % 4 == 0
  | .FH_LATCHED => decide (0x4040 ≤ off) && decide (off < 0x4060) && (off - 0x4040) % 4 == 0
  | .FH_SEEN => decide (0x4060 ≤ off) && decide (off < 0x4080) && (off - 0x4060) % 4 == 0
  | .FH_SRC => decide (0x4400 ≤ off) && decide (off < 0x4800) && (off - 0x4400) % 4 == 0
  | .ACC_STATE => off == 0x6000
  | .ACC_FAIL => off == 0x6008
  | .ACC_DENIED => off == 0x600C
  | .THM_CTRL => off == 0x8000
  | .THM_STATUS => off == 0x8100
  | .THM_TEMP => off == 0x8104
  | .THM_PKG_TEMP => off == 0x8108
  | .THM_PRED_STATUS => off == 0x810C
  | .THM_ENF_STATUS => off == 0x8110
  | .THM_EPISODES => off == 0x8114
  | .THM_CHECK => off == 0x8118
  | .THM_DPWM_CAL => off == 0x8120
  | .THM_NODE_T => decide (0x8140 ≤ off) && decide (off < 0x8180) && (off - 0x8140) % 4 == 0
  | .THM_MEM => decide (0x8180 ≤ off) && decide (off < 0x8190) && (off - 0x8180) % 4 == 0
  | .BUD_WIN_FILL => decide (0xA018 ≤ off) && decide (off < 0xA058) && (off - 0xA018) % 16 == 0
  | .BUD_WIN_CAP => decide (0xA01C ≤ off) && decide (off < 0xA05C) && (off - 0xA01C) % 16 == 0
  | .BUD_SHARE => off == 0xA050
  | .BUD_CAPS => off == 0xA054
  | .BUD_RSN_ACTIVE => off == 0xA058
  | .BUD_SHARE_WIN => decide (0xA060 ≤ off) && decide (off < 0xA070) && (off - 0xA060) % 4 == 0
  | .BUD_SLOW => off == 0xA070
  | .BUD_CHECK => off == 0xA074
  | .BUD_RSN_CNT => decide (0xA100 ≤ off) && decide (off < 0xA140) && (off - 0xA100) % 4 == 0
  | .BUD_RSN_NS => decide (0xA200 ≤ off) && decide (off < 0xA280) && (off - 0xA200) % 4 == 0
  | .OPP_STATUS => off == 0xC008
  | .OPP_STEPS => off == 0xC00C
  | .OPP_CHECK => off == 0xC010
  | .ADM_CEILING => off == 0x10020
  | .ADM_STATUS => off == 0x10030
  | .ADM_ANN => off == 0x10038
  | .ADM_FF => off == 0x1003C
  | .ADM_CHECK => off == 0x10040
  | .DRP_CNT_MILD => off == 0x14018
  | .DRP_CNT_DEEP => off == 0x1401C
  | .DRP_CNT_SEVERE => off == 0x14020
  | .DRP_FREEZES => off == 0x14024
  | .DRP_STUCK => off == 0x14028
  | .DRP_CHECK => off == 0x1402C
  | .RAIL_STATUS => decide (0x18040 ≤ off) && decide (off < 0x1C040) && (off - 0x18040) % 4096 == 0
  | .RAIL_SAT => decide (0x18044 ≤ off) && decide (off < 0x1C044) && (off - 0x18044) % 4096 == 0
  | .RAIL_LOOP => decide (0x18048 ≤ off) && decide (off < 0x1C048) && (off - 0x18048) % 4096 == 0
  | .RAIL_INTEG => decide (0x1804C ≤ off) && decide (off < 0x1C04C) && (off - 0x1804C) % 4096 == 0
  | .RAIL_SNS => decide (0x18050 ≤ off) && decide (off < 0x1C050) && (off - 0x18050) % 4096 == 0
  | .RAIL_IMEAS => decide (0x18054 ≤ off) && decide (off < 0x1C054) && (off - 0x18054) % 4096 == 0
  | .RAIL_PH_FAULT => decide (0x18058 ≤ off) && decide (off < 0x1C058) && (off - 0x18058) % 4096 == 0
  | .RAIL_PH_FAULT_HI => decide (0x1805C ≤ off) && decide (off < 0x1C05C) && (off - 0x1805C) % 4096 == 0
  | .RAIL_EVENTS => decide (0x18060 ≤ off) && decide (off < 0x1C060) && (off - 0x18060) % 4096 == 0
  | .RAIL_CHECK => decide (0x18064 ≤ off) && decide (off < 0x1C064) && (off - 0x18064) % 4096 == 0
  | .RAIL_INJ_CTRL => decide (0x18080 ≤ off) && decide (off < 0x1C080) && (off - 0x18080) % 4096 == 0
  | .RAIL_INJ_STATUS => decide (0x18090 ≤ off) && decide (off < 0x1C090) && (off - 0x18090) % 4096 == 0
  | .RAIL_CAP_STATUS => decide (0x180A8 ≤ off) && decide (off < 0x1C0A8) && (off - 0x180A8) % 4096 == 0
  | .RAIL_CAP_FILL => decide (0x180AC ≤ off) && decide (off < 0x1C0AC) && (off - 0x180AC) % 4096 == 0
  | .RAIL0_AVS_READ => off == 0x18808
  | .RAIL0_AVS_IT => off == 0x1880C
  | .RAIL0_AVS_STATUS => off == 0x18810
  | .EST_STATUS => off == 0x20010
  | .EST_DIE_P => off == 0x20014
  | .EST_DIE_E => decide (0x20018 ≤ off) && decide (off < 0x20020) && (off - 0x20018) % 4 == 0
  | .EST_UNATTR_E => decide (0x20020 ≤ off) && decide (off < 0x20028) && (off - 0x20020) % 4 == 0
  | .EST_CAL_SKIP => off == 0x20028
  | .EST_CHECK => off == 0x2002C
  | .EST_PKG_P => off == 0x20030
  | .EST_PKG_E => decide (0x20038 ≤ off) && decide (off < 0x20040) && (off - 0x20038) % 4 == 0
  | .EST_RAIL_P => decide (0x20040 ≤ off) && decide (off < 0x200C0) && (off - 0x20040) % 32 == 0
  | .EST_RAIL_DYN => decide (0x20044 ≤ off) && decide (off < 0x200C4) && (off - 0x20044) % 32 == 0
  | .EST_RAIL_LEAK => decide (0x20048 ≤ off) && decide (off < 0x200C8) && (off - 0x20048) % 32 == 0
  | .EST_RAIL_MEAS => decide (0x2004C ≤ off) && decide (off < 0x200CC) && (off - 0x2004C) % 32 == 0
  | .EST_RAIL_GAIN => decide (0x20050 ≤ off) && decide (off < 0x200D0) && (off - 0x20050) % 32 == 0
  | .EST_RAIL_OFS => decide (0x20054 ≤ off) && decide (off < 0x200D4) && (off - 0x20054) % 32 == 0
  | .EST_RAIL_ERR => decide (0x20058 ≤ off) && decide (off < 0x200D8) && (off - 0x20058) % 32 == 0
  | .EST_CTX_E => decide (0x22000 ≤ off) && decide (off < 0x24000) && (off - 0x22000) % 4 == 0
  | .OBS_DIE_RET => decide (0x24000 ≤ off) && decide (off < 0x24030) && (off - 0x24000) % 4 == 0
  | .OBS_DIE_WAITS => off == 0x24030
  | .OBS_DIE_WAIT_MAX => off == 0x24034
  | .OBS_DIE_ERR => off == 0x24038
  | .OBS_PKG_RET => decide (0x24040 ≤ off) && decide (off < 0x24070) && (off - 0x24040) % 4 == 0
  | .OBS_SNAP_STATUS => off == 0x24100
  | .OBS_SNAP_T => decide (0x24104 ≤ off) && decide (off < 0x2410C) && (off - 0x24104) % 4 == 0
  | .OBS_STR_CTRL => off == 0x24200
  | .OBS_STR_HEAD => off == 0x24214
  | .OBS_STR_DROP => off == 0x24218
  | .OBS_WATCH_0 => decide (0x24400 ≤ off) && decide (off < 0x24500) && (off - 0x24400) % 16 == 0
  | .OBS_WATCH_4 => decide (0x24404 ≤ off) && decide (off < 0x24504) && (off - 0x24404) % 16 == 0
  | .OBS_WATCH_8 => decide (0x24408 ≤ off) && decide (off < 0x24508) && (off - 0x24408) % 16 == 0
  | .OBS_WATCH_C => decide (0x2440C ≤ off) && decide (off < 0x2450C) && (off - 0x2440C) % 16 == 0
  | .OBS_WATCH_B_LO => decide (0x24600 ≤ off) && decide (off < 0x24700) && (off - 0x24600) % 16 == 0
  | .OBS_WATCH_B_HI => decide (0x24604 ≤ off) && decide (off < 0x24704) && (off - 0x24604) % 16 == 0
  | .OBS_WATCH_E_LO => decide (0x24608 ≤ off) && decide (off < 0x24708) && (off - 0x24608) % 16 == 0
  | .OBS_WATCH_E_HI => decide (0x2460C ≤ off) && decide (off < 0x2470C) && (off - 0x2460C) % 16 == 0
  | .RING_SAMP => off == 0x28004
  | .RING_TRIG => off == 0x28008
  | .RING_TRIG_UNITS => off == 0x2800C
  | .RING_STATUS => off == 0x28018
  | .RING_TRIG_T => decide (0x2801C ≤ off) && decide (off < 0x28024) && (off - 0x2801C) % 4 == 0
  | .FAB_REL_STATUS => off == 0x2C04C
  | .FAB_TX => off == 0x2C050
  | .FAB_RX => off == 0x2C054
  | .FAB_RETX => off == 0x2C058
  | .FAB_DROP => off == 0x2C05C
  | .FAB_FAIL => off == 0x2C060
  | .FAB_CHECK => off == 0x2C064
  | .TIME_CTRL => off == 0x2E000
  | .TIME_STATUS => off == 0x2E00C
  | .TIME_ERR => off == 0x2E010
  | .HDG_STATUS => off == 0x30004
  | .HDG_DIE_STATE => off == 0x30008
  | .HDG_COMMIT_ID => off == 0x3000C
  | .HDG_COMMIT_T => decide (0x30010 ≤ off) && decide (off < 0x30018) && (off - 0x30010) % 4 == 0
  | .HDG_COMMIT_CNT => off == 0x30018
  | .HDG_CHECK => off == 0x3001C
  | .HDG_DISCARD => off == 0x30020
  | .HDG_LINK => decide (0x30040 ≤ off) && decide (off < 0x30060) && (off - 0x30040) % 4 == 0
  | .STILE_STATUS => off == 0x31008
  | .STILE_CNT => off == 0x3100C
  | .AGT_STATUS => decide (0x40004 ≤ off) && decide (off < 0x90004) && (off - 0x40004) % 1024 == 0
  | .AGT_ENG => decide (0x40008 ≤ off) && decide (off < 0x90008) && (off - 0x40008) % 1024 == 0
  | .AGT_LAST => decide (0x4000C ≤ off) && decide (off < 0x9000C) && (off - 0x4000C) % 1024 == 0
  | .AGT_PWR => decide (0x40218 ≤ off) && decide (off < 0x90218) && (off - 0x40218) % 1024 == 0
  | .SITE_TEMP => decide (0x90000 ≤ off) && decide (off < 0x91800) && (off - 0x90000) % 64 == 0
  | .SITE_RAW => decide (0x90004 ≤ off) && decide (off < 0x91804) && (off - 0x90004) % 64 == 0
  | .SITE_CFG => decide (0x90008 ≤ off) && decide (off < 0x91808) && (off - 0x90008) % 64 == 0
  | .SITE_STATUS => decide (0x90010 ≤ off) && decide (off < 0x91810) && (off - 0x90010) % 64 == 0
  | .anyReg => true
  | .AGT_RING_HEAD => decide (0x403C0 ≤ off) && decide (off < 0x903C0) && (off - 0x403C0) % 1024 == 0
  | _ => false

theorem Place.covers_run (b w n k : Nat) (hn : 0 < n) (hw : 0 < w) :
    (decide (b ≤ b + w * (k % n)) && decide (b + w * (k % n) < b + w * n) && (b + w * (k % n) - b) % w == 0) = true := by
  have h : w * (k % n) < w * n := Nat.mul_lt_mul_of_pos_left (Nat.mod_lt k hn) hw
  simp only [Bool.and_eq_true, decide_eq_true_eq, beq_iff_eq, Nat.add_sub_cancel_left, Nat.mul_mod_right, and_true]
  exact ⟨Nat.le_add_right _ _, Nat.add_lt_add_left h b⟩

theorem Place.covers_of_inPlace (p : Place) (off : Nat) (h : inPlace p off) : p.covers off = true := by
  cases p
  case staged => exact h.elim
  case now => exact h.elim
  case sky => exact h.elim
  case free => exact h.elim
  case tie => exact h.elim
  case otp => exact h.elim
  case out => exact h.elim
  case raises => exact h.elim
  case levels => exact h.elim
  case agents => exact h.elim
  case arb => exact h.elim
  case drp => exact h.elim
  case rings => exact h.elim
  case halfReq => exact h.elim
  case rails => exact h.elim
  case avs => exact h.elim
  case lastInj => exact h.elim
  case ps => exact h.elim
  case hdg => exact h.elim
  case fab => exact h.elim
  case mem => exact h.elim
  case ses => exact h.elim
  case cmds => exact h.elim
  case lim => exact h.elim
  case win => exact h.elim
  case est => exact h.elim
  case thm => exact h.elim
  case unattended => exact h.elim
  case rate => exact h.elim
  case fw => exact h.elim
  case acc => exact h.elim
  case hub => exact h.elim
  case obs => exact h.elim
  case latches => exact h.elim
  case held => exact h.elim
  case pending => exact h.elim
  case ID_TOPOLOGY => exact beq_iff_eq.mpr h
  case HEATH_DOMAIN_STATUS => exact beq_iff_eq.mpr h
  case HEATH_DOMAIN_CTRL => exact beq_iff_eq.mpr h
  case HEATH_WAKE_CAUSE => exact beq_iff_eq.mpr h
  case HEATH_RESET_CAUSE => exact beq_iff_eq.mpr h
  case HEATH_RESET_CTRL => exact beq_iff_eq.mpr h
  case HEATH_EPOCH => exact beq_iff_eq.mpr h
  case HEATH_BOOT_STATUS => exact beq_iff_eq.mpr h
  case HEATH_FW_VERSION => exact beq_iff_eq.mpr h
  case HEATH_FW_STATUS => exact beq_iff_eq.mpr h
  case HEATH_FW_COMP => exact beq_iff_eq.mpr h
  case HEATH_FW_RESTARTS => exact beq_iff_eq.mpr h
  case HEATH_FW_LOAD_CTRL => exact beq_iff_eq.mpr h
  case HEATH_LOG_HEAD => exact beq_iff_eq.mpr h
  case HEATH_TRACE_MASK => exact beq_iff_eq.mpr h
  case MB_OUT_W0L => exact h.elim (fun k e => e ▸ Place.covers_run _ _ 32 k (by decide) (by decide))
  case MB_OUT_W0H => exact h.elim (fun k e => e ▸ Place.covers_run _ _ 32 k (by decide) (by decide))
  case MB_OUT_W1L => exact h.elim (fun k e => e ▸ Place.covers_run _ _ 32 k (by decide) (by decide))
  case MB_OUT_W1H => exact h.elim (fun k e => e ▸ Place.covers_run _ _ 32 k (by decide) (by decide))
  case MB_IN_FULL => exact beq_iff_eq.mpr h
  case MB_OUT_FULL => exact beq_iff_eq.mpr h
  case MB_IN_OVERRUN => exact beq_iff_eq.mpr h
  case MB_DB_IN => exact beq_iff_eq.mpr h
  case MB_DB_OUT => exact beq_iff_eq.mpr h
  case CMD_SESSION => exact beq_iff_eq.mpr h
  case CMD_STATUS => exact beq_iff_eq.mpr h
  case CMD_ERR => exact beq_iff_eq.mpr h
  case CMD_COUNT => exact beq_iff_eq.mpr h
  case CMD_LAST => exact beq_iff_eq.mpr h
  case CMD_EVT => exact beq_iff_eq.mpr h
  case CMD_MB_CTX => exact h.elim (fun k e => e ▸ Place.covers_run _ _ 32 k (by decide) (by decide))
  case FH_STATUS => exact beq_iff_eq.mpr h
  case FH_FIRST => exact beq_iff_eq.mpr h
  case FH_FIRST_T => exact h.elim (fun k e => e ▸ Place.covers_run _ _ 2 k (by decide) (by decide))
  case FH_FIRST_SYN => exact h.elim (fun k e => e ▸ Place.covers_run _ _ 2 k (by decide) (by decide))
  case FH_PKG => exact beq_iff_eq.mpr h
  case FH_PEND => exact h.elim (fun k e => e ▸ Place.covers_run _ _ 8 k (by decide) (by decide))
  case FH_LATCHED => exact h.elim (fun k e => e ▸ Place.covers_run _ _ 8 k (by decide) (by decide))
  case FH_SEEN => exact h.elim (fun k e => e ▸ Place.covers_run _ _ 8 k (by decide) (by decide))
  case FH_SRC => exact h.elim (fun k e => e ▸ Place.covers_run _ _ 256 k (by decide) (by decide))
  case ACC_STATE => exact beq_iff_eq.mpr h
  case ACC_FAIL => exact beq_iff_eq.mpr h
  case ACC_DENIED => exact beq_iff_eq.mpr h
  case THM_CTRL => exact beq_iff_eq.mpr h
  case THM_STATUS => exact beq_iff_eq.mpr h
  case THM_TEMP => exact beq_iff_eq.mpr h
  case THM_PKG_TEMP => exact beq_iff_eq.mpr h
  case THM_PRED_STATUS => exact beq_iff_eq.mpr h
  case THM_ENF_STATUS => exact beq_iff_eq.mpr h
  case THM_EPISODES => exact beq_iff_eq.mpr h
  case THM_CHECK => exact beq_iff_eq.mpr h
  case THM_DPWM_CAL => exact beq_iff_eq.mpr h
  case THM_NODE_T => exact h.elim (fun k e => e ▸ Place.covers_run _ _ 16 k (by decide) (by decide))
  case THM_MEM => exact h.elim (fun k e => e ▸ Place.covers_run _ _ 4 k (by decide) (by decide))
  case BUD_WIN_FILL => exact h.elim (fun k e => e ▸ Place.covers_run _ _ 4 k (by decide) (by decide))
  case BUD_WIN_CAP => exact h.elim (fun k e => e ▸ Place.covers_run _ _ 4 k (by decide) (by decide))
  case BUD_SHARE => exact beq_iff_eq.mpr h
  case BUD_CAPS => exact beq_iff_eq.mpr h
  case BUD_RSN_ACTIVE => exact beq_iff_eq.mpr h
  case BUD_SHARE_WIN => exact h.elim (fun k e => e ▸ Place.covers_run _ _ 4 k (by decide) (by decide))
  case BUD_SLOW => exact beq_iff_eq.mpr h
  case BUD_CHECK => exact beq_iff_eq.mpr h
  case BUD_RSN_CNT => exact h.elim (fun k e => e ▸ Place.covers_run _ _ 16 k (by decide) (by decide))
  case BUD_RSN_NS => exact h.elim (fun k e => e ▸ Place.covers_run _ _ 32 k (by decide) (by decide))
  case OPP_STATUS => exact beq_iff_eq.mpr h
  case OPP_STEPS => exact beq_iff_eq.mpr h
  case OPP_CHECK => exact beq_iff_eq.mpr h
  case ADM_CEILING => exact beq_iff_eq.mpr h
  case ADM_STATUS => exact beq_iff_eq.mpr h
  case ADM_ANN => exact beq_iff_eq.mpr h
  case ADM_FF => exact beq_iff_eq.mpr h
  case ADM_CHECK => exact beq_iff_eq.mpr h
  case DRP_CNT_MILD => exact beq_iff_eq.mpr h
  case DRP_CNT_DEEP => exact beq_iff_eq.mpr h
  case DRP_CNT_SEVERE => exact beq_iff_eq.mpr h
  case DRP_FREEZES => exact beq_iff_eq.mpr h
  case DRP_STUCK => exact beq_iff_eq.mpr h
  case DRP_CHECK => exact beq_iff_eq.mpr h
  case RAIL_STATUS => exact h.elim (fun k e => e ▸ Place.covers_run _ _ 4 k (by decide) (by decide))
  case RAIL_SAT => exact h.elim (fun k e => e ▸ Place.covers_run _ _ 4 k (by decide) (by decide))
  case RAIL_LOOP => exact h.elim (fun k e => e ▸ Place.covers_run _ _ 4 k (by decide) (by decide))
  case RAIL_INTEG => exact h.elim (fun k e => e ▸ Place.covers_run _ _ 4 k (by decide) (by decide))
  case RAIL_SNS => exact h.elim (fun k e => e ▸ Place.covers_run _ _ 4 k (by decide) (by decide))
  case RAIL_IMEAS => exact h.elim (fun k e => e ▸ Place.covers_run _ _ 4 k (by decide) (by decide))
  case RAIL_PH_FAULT => exact h.elim (fun k e => e ▸ Place.covers_run _ _ 4 k (by decide) (by decide))
  case RAIL_PH_FAULT_HI => exact h.elim (fun k e => e ▸ Place.covers_run _ _ 4 k (by decide) (by decide))
  case RAIL_EVENTS => exact h.elim (fun k e => e ▸ Place.covers_run _ _ 4 k (by decide) (by decide))
  case RAIL_CHECK => exact h.elim (fun k e => e ▸ Place.covers_run _ _ 4 k (by decide) (by decide))
  case RAIL_INJ_CTRL => exact h.elim (fun k e => e ▸ Place.covers_run _ _ 4 k (by decide) (by decide))
  case RAIL_INJ_STATUS => exact h.elim (fun k e => e ▸ Place.covers_run _ _ 4 k (by decide) (by decide))
  case RAIL_CAP_STATUS => exact h.elim (fun k e => e ▸ Place.covers_run _ _ 4 k (by decide) (by decide))
  case RAIL_CAP_FILL => exact h.elim (fun k e => e ▸ Place.covers_run _ _ 4 k (by decide) (by decide))
  case RAIL0_AVS_READ => exact beq_iff_eq.mpr h
  case RAIL0_AVS_IT => exact beq_iff_eq.mpr h
  case RAIL0_AVS_STATUS => exact beq_iff_eq.mpr h
  case EST_STATUS => exact beq_iff_eq.mpr h
  case EST_DIE_P => exact beq_iff_eq.mpr h
  case EST_DIE_E => exact h.elim (fun k e => e ▸ Place.covers_run _ _ 2 k (by decide) (by decide))
  case EST_UNATTR_E => exact h.elim (fun k e => e ▸ Place.covers_run _ _ 2 k (by decide) (by decide))
  case EST_CAL_SKIP => exact beq_iff_eq.mpr h
  case EST_CHECK => exact beq_iff_eq.mpr h
  case EST_PKG_P => exact beq_iff_eq.mpr h
  case EST_PKG_E => exact h.elim (fun k e => e ▸ Place.covers_run _ _ 2 k (by decide) (by decide))
  case EST_RAIL_P => exact h.elim (fun k e => e ▸ Place.covers_run _ _ 4 k (by decide) (by decide))
  case EST_RAIL_DYN => exact h.elim (fun k e => e ▸ Place.covers_run _ _ 4 k (by decide) (by decide))
  case EST_RAIL_LEAK => exact h.elim (fun k e => e ▸ Place.covers_run _ _ 4 k (by decide) (by decide))
  case EST_RAIL_MEAS => exact h.elim (fun k e => e ▸ Place.covers_run _ _ 4 k (by decide) (by decide))
  case EST_RAIL_GAIN => exact h.elim (fun k e => e ▸ Place.covers_run _ _ 4 k (by decide) (by decide))
  case EST_RAIL_OFS => exact h.elim (fun k e => e ▸ Place.covers_run _ _ 4 k (by decide) (by decide))
  case EST_RAIL_ERR => exact h.elim (fun k e => e ▸ Place.covers_run _ _ 4 k (by decide) (by decide))
  case EST_CTX_E => exact h.elim (fun k e => e ▸ Place.covers_run _ _ 2048 k (by decide) (by decide))
  case OBS_DIE_RET => exact h.elim (fun k e => e ▸ Place.covers_run _ _ 12 k (by decide) (by decide))
  case OBS_DIE_WAITS => exact beq_iff_eq.mpr h
  case OBS_DIE_WAIT_MAX => exact beq_iff_eq.mpr h
  case OBS_DIE_ERR => exact beq_iff_eq.mpr h
  case OBS_PKG_RET => exact h.elim (fun k e => e ▸ Place.covers_run _ _ 12 k (by decide) (by decide))
  case OBS_SNAP_STATUS => exact beq_iff_eq.mpr h
  case OBS_SNAP_T => exact h.elim (fun k e => e ▸ Place.covers_run _ _ 2 k (by decide) (by decide))
  case OBS_STR_CTRL => exact beq_iff_eq.mpr h
  case OBS_STR_HEAD => exact beq_iff_eq.mpr h
  case OBS_STR_DROP => exact beq_iff_eq.mpr h
  case OBS_WATCH_0 => exact h.elim (fun k e => e ▸ Place.covers_run _ _ 16 k (by decide) (by decide))
  case OBS_WATCH_4 => exact h.elim (fun k e => e ▸ Place.covers_run _ _ 16 k (by decide) (by decide))
  case OBS_WATCH_8 => exact h.elim (fun k e => e ▸ Place.covers_run _ _ 16 k (by decide) (by decide))
  case OBS_WATCH_C => exact h.elim (fun k e => e ▸ Place.covers_run _ _ 16 k (by decide) (by decide))
  case OBS_WATCH_B_LO => exact h.elim (fun k e => e ▸ Place.covers_run _ _ 16 k (by decide) (by decide))
  case OBS_WATCH_B_HI => exact h.elim (fun k e => e ▸ Place.covers_run _ _ 16 k (by decide) (by decide))
  case OBS_WATCH_E_LO => exact h.elim (fun k e => e ▸ Place.covers_run _ _ 16 k (by decide) (by decide))
  case OBS_WATCH_E_HI => exact h.elim (fun k e => e ▸ Place.covers_run _ _ 16 k (by decide) (by decide))
  case RING_SAMP => exact beq_iff_eq.mpr h
  case RING_TRIG => exact beq_iff_eq.mpr h
  case RING_TRIG_UNITS => exact beq_iff_eq.mpr h
  case RING_STATUS => exact beq_iff_eq.mpr h
  case RING_TRIG_T => exact h.elim (fun k e => e ▸ Place.covers_run _ _ 2 k (by decide) (by decide))
  case FAB_REL_STATUS => exact beq_iff_eq.mpr h
  case FAB_TX => exact beq_iff_eq.mpr h
  case FAB_RX => exact beq_iff_eq.mpr h
  case FAB_RETX => exact beq_iff_eq.mpr h
  case FAB_DROP => exact beq_iff_eq.mpr h
  case FAB_FAIL => exact beq_iff_eq.mpr h
  case FAB_CHECK => exact beq_iff_eq.mpr h
  case TIME_CTRL => exact beq_iff_eq.mpr h
  case TIME_STATUS => exact beq_iff_eq.mpr h
  case TIME_ERR => exact beq_iff_eq.mpr h
  case HDG_STATUS => exact beq_iff_eq.mpr h
  case HDG_DIE_STATE => exact beq_iff_eq.mpr h
  case HDG_COMMIT_ID => exact beq_iff_eq.mpr h
  case HDG_COMMIT_T => exact h.elim (fun k e => e ▸ Place.covers_run _ _ 2 k (by decide) (by decide))
  case HDG_COMMIT_CNT => exact beq_iff_eq.mpr h
  case HDG_CHECK => exact beq_iff_eq.mpr h
  case HDG_DISCARD => exact beq_iff_eq.mpr h
  case HDG_LINK => exact h.elim (fun k e => e ▸ Place.covers_run _ _ 8 k (by decide) (by decide))
  case STILE_STATUS => exact beq_iff_eq.mpr h
  case STILE_CNT => exact beq_iff_eq.mpr h
  case AGT_STATUS => exact h.elim (fun k e => e ▸ Place.covers_run _ _ 320 k (by decide) (by decide))
  case AGT_ENG => exact h.elim (fun k e => e ▸ Place.covers_run _ _ 320 k (by decide) (by decide))
  case AGT_LAST => exact h.elim (fun k e => e ▸ Place.covers_run _ _ 320 k (by decide) (by decide))
  case AGT_PWR => exact h.elim (fun k e => e ▸ Place.covers_run _ _ 320 k (by decide) (by decide))
  case SITE_TEMP => exact h.elim (fun k e => e ▸ Place.covers_run _ _ 96 k (by decide) (by decide))
  case SITE_RAW => exact h.elim (fun k e => e ▸ Place.covers_run _ _ 96 k (by decide) (by decide))
  case SITE_CFG => exact h.elim (fun k e => e ▸ Place.covers_run _ _ 96 k (by decide) (by decide))
  case SITE_STATUS => exact h.elim (fun k e => e ▸ Place.covers_run _ _ 96 k (by decide) (by decide))
  case anyReg => exact rfl
  case AGT_RING_HEAD => exact h.elim (fun k e => e ▸ Place.covers_run _ _ 320 k (by decide) (by decide))

/-- Places, part 1 of 4. -/
def Place.part1 : List Place :=
  [.staged, .now, .sky, .free, .tie, .otp, .out, .raises, .levels, .agents, .arb, .drp, .rings, .halfReq, .rails,
   .avs, .lastInj, .ps, .hdg, .fab, .mem, .ses, .cmds, .lim, .win, .est, .thm, .unattended, .rate, .fw, .acc,
   .hub, .obs, .latches, .held, .pending, .ID_TOPOLOGY, .HEATH_DOMAIN_STATUS, .HEATH_DOMAIN_CTRL,
   .HEATH_WAKE_CAUSE, .HEATH_RESET_CAUSE, .HEATH_RESET_CTRL, .HEATH_EPOCH, .HEATH_BOOT_STATUS, .HEATH_FW_VERSION,
   .HEATH_FW_STATUS, .HEATH_FW_COMP, .HEATH_FW_RESTARTS, .HEATH_FW_LOAD_CTRL, .HEATH_LOG_HEAD]

/-- Places, part 2 of 4. -/
def Place.part2 : List Place :=
  [.HEATH_TRACE_MASK, .MB_OUT_W0L, .MB_OUT_W0H, .MB_OUT_W1L, .MB_OUT_W1H, .MB_IN_FULL, .MB_OUT_FULL,
   .MB_IN_OVERRUN, .MB_DB_IN, .MB_DB_OUT, .CMD_SESSION, .CMD_STATUS, .CMD_ERR, .CMD_COUNT, .CMD_LAST, .CMD_EVT,
   .CMD_MB_CTX, .FH_STATUS, .FH_FIRST, .FH_FIRST_T, .FH_FIRST_SYN, .FH_PKG, .FH_PEND, .FH_LATCHED, .FH_SEEN,
   .FH_SRC, .ACC_STATE, .ACC_FAIL, .ACC_DENIED, .THM_CTRL, .THM_STATUS, .THM_TEMP, .THM_PKG_TEMP,
   .THM_PRED_STATUS, .THM_ENF_STATUS, .THM_EPISODES, .THM_CHECK, .THM_DPWM_CAL, .THM_NODE_T, .THM_MEM,
   .BUD_WIN_FILL, .BUD_WIN_CAP, .BUD_SHARE, .BUD_CAPS, .BUD_RSN_ACTIVE, .BUD_SHARE_WIN, .BUD_SLOW, .BUD_CHECK,
   .BUD_RSN_CNT, .BUD_RSN_NS]

/-- Places, part 3 of 4. -/
def Place.part3 : List Place :=
  [.OPP_STATUS, .OPP_STEPS, .OPP_CHECK, .ADM_CEILING, .ADM_STATUS, .ADM_ANN, .ADM_FF, .ADM_CHECK, .DRP_CNT_MILD,
   .DRP_CNT_DEEP, .DRP_CNT_SEVERE, .DRP_FREEZES, .DRP_STUCK, .DRP_CHECK, .RAIL_STATUS, .RAIL_SAT, .RAIL_LOOP,
   .RAIL_INTEG, .RAIL_SNS, .RAIL_IMEAS, .RAIL_PH_FAULT, .RAIL_PH_FAULT_HI, .RAIL_EVENTS, .RAIL_CHECK,
   .RAIL_INJ_CTRL, .RAIL_INJ_STATUS, .RAIL_CAP_STATUS, .RAIL_CAP_FILL, .RAIL0_AVS_READ, .RAIL0_AVS_IT,
   .RAIL0_AVS_STATUS, .EST_STATUS, .EST_DIE_P, .EST_DIE_E, .EST_UNATTR_E, .EST_CAL_SKIP, .EST_CHECK, .EST_PKG_P,
   .EST_PKG_E, .EST_RAIL_P, .EST_RAIL_DYN, .EST_RAIL_LEAK, .EST_RAIL_MEAS, .EST_RAIL_GAIN, .EST_RAIL_OFS,
   .EST_RAIL_ERR, .EST_CTX_E, .OBS_DIE_RET, .OBS_DIE_WAITS, .OBS_DIE_WAIT_MAX]

/-- Places, part 4 of 4. -/
def Place.part4 : List Place :=
  [.OBS_DIE_ERR, .OBS_PKG_RET, .OBS_SNAP_STATUS, .OBS_SNAP_T, .OBS_STR_CTRL, .OBS_STR_HEAD, .OBS_STR_DROP,
   .OBS_WATCH_0, .OBS_WATCH_4, .OBS_WATCH_8, .OBS_WATCH_C, .OBS_WATCH_B_LO, .OBS_WATCH_B_HI, .OBS_WATCH_E_LO,
   .OBS_WATCH_E_HI, .RING_SAMP, .RING_TRIG, .RING_TRIG_UNITS, .RING_STATUS, .RING_TRIG_T, .FAB_REL_STATUS,
   .FAB_TX, .FAB_RX, .FAB_RETX, .FAB_DROP, .FAB_FAIL, .FAB_CHECK, .TIME_CTRL, .TIME_STATUS, .TIME_ERR,
   .HDG_STATUS, .HDG_DIE_STATE, .HDG_COMMIT_ID, .HDG_COMMIT_T, .HDG_COMMIT_CNT, .HDG_CHECK, .HDG_DISCARD,
   .HDG_LINK, .STILE_STATUS, .STILE_CNT, .AGT_STATUS, .AGT_ENG, .AGT_LAST, .AGT_PWR, .SITE_TEMP, .SITE_RAW,
   .SITE_CFG, .SITE_STATUS, .anyReg, .AGT_RING_HEAD]

/-- Every place. -/
def Place.all : List Place := Place.part1 ++ Place.part2 ++ Place.part3 ++ Place.part4

theorem Place.mem_all (p : Place) : p ∈ Place.all :=
  List.mem_of_getElem? (i := p.ctorIdx) (by cases p <;> rfl)

/-- Does the mask `m` leave the register at `off` alone? -/
def Mask.misses (m off : Nat) : Bool := Place.all.all (fun p => !m.testBit p.ctorIdx || !p.covers off)

theorem Mask.misses_spec {m off : Nat} (h : Mask.misses m off = true) (p : Place) (hp : m.testBit p.ctorIdx = true) :
    ¬ inPlace p off := by
  intro hi
  unfold Mask.misses at h
  rw [List.all_eq_true] at h
  have e := h p p.mem_all
  simp only [hp, p.covers_of_inPlace off hi, Bool.not_true, Bool.or_self, Bool.false_eq_true] at e

/-- What a mask leaves alone keeps its register. -/
theorem Kept.reg' {m : Nat} {b t : State} (k : Kept m b t) (off : Nat) (h : Mask.misses m off = true) :
    t.reg off = b.reg off := k.reg off (Mask.misses_spec h)

/-- And each field of it. -/
theorem Kept.fld {m : Nat} {b t : State} (k : Kept m b t) (f : Fld) (h : Mask.misses m f.off = true) :
    t.fld f = b.fld f := by
  unfold State.fld; rw [k.reg' _ h]

theorem Kept.flag {m : Nat} {b t : State} (k : Kept m b t) (f : Fld) (h : Mask.misses m f.off = true) :
    t.flag f = b.flag f := by
  unfold State.flag; rw [k.fld f h]

end Sys2Proof.Machine
end

