-- ==== Sys2Proof/WellFormed.lean ====
section
/-! DEFINITION. Which commands are well formed: every number lies in the range of the field, port or unit it stands
for. Meanings of ill-formed commands fault where a unit does not exist, and are total otherwise. -/

namespace Sys2Proof

open Sys2Proof.Machine

/-- A list of bytes. -/
def bytesFit (bs : List Nat) : Bool := bs.all (fun b => decide (b < 256))

/-- A requester: a tenant names one of the 1,024 budget contexts (R33). -/
def Machine.Who.fits : Who → Bool
  | .tenant x => decide (x < 1024)
  | .host | .debug | .rsvd => true

/-- A flit's header (R320). -/
def Machine.FlitHdr.fits (h : FlitHdr) : Bool :=
  decide (h.src < 8) && decide (h.seq < 256) && decide (h.ack < 256) && decide (h.tag < 256) && decide (h.epoch < 2 ^ 16)

/-- A frame's header (R341). -/
def Machine.FrameHdr.fits (f : FrameHdr) : Bool :=
  decide (f.src < 2 ^ 16) && decide (f.dst < 2 ^ 16) && decide (f.epoch < 2 ^ 16) && decide (f.seq < 2 ^ 32) &&
    decide (f.ack < 2 ^ 32) && decide (f.sport < 65536 ∧ f.dport < 65536 ∧ f.dscp < 64) &&
    decide (f.port < 256) && decide (f.addr < 2 ^ 128)

/-- Is a command well formed? -/
def Instr.wellFormed : Instr → Bool
  | .vaonPorRelease => true
  | .heathPor => true
  | .porstNAssert => true
  | .porstNDeassert _ dieId => decide (dieId < 8)
  | .pllLock => true
  | .strapExchangeClose => true
  | .sfdpDiscovery _ => true
  | .flashAbsentTimeout => true
  | .slotVerify img => bytesFit img.bytes
  | .followerImageVerify img => bytesFit img.bytes
  | .imageStart => true
  | .vinSettleTimeout => true
  | .railInRegulation rail => decide (rail < 4)
  | .softstartTimeout rail => decide (rail < 4)
  | .blockResetWrite data who => decide (data < 2 ^ 32) && who.fits
  | .blockResetComplete => true
  | .stewardDigestCheck _ => true
  | .psRequest req => decide (req < 4)
  | .psTransitionDone => true
  | .psReqRelease => true
  | .halfOffRequest half => decide (half < 2)
  | .halfRestart half => decide (half < 2)
  | .halfOffAckRelease half => decide (half < 2)
  | .heathWakeEvent cause => decide (cause < 8)
  | .lingerExpiry dom => decide (dom < 2)
  | .registerWrite off data who => decide (off < 2 ^ 20) && decide (data < 2 ^ 32) && who.fits
  | .lowWordRead off who => decide (off < 2 ^ 20) && who.fits
  | .mbInW1hWrite m data who => decide (m < 32) && decide (data < 2 ^ 32) && who.fits
  | .mbOutFullClear data who => decide (data < 2 ^ 32) && who.fits
  | .mbDbInWrite data who => decide (data < 2 ^ 32) && who.fits
  | .mbDbOutClear data who => decide (data < 2 ^ 32) && who.fits
  | .cmdMbCtxWrite m data who => decide (m < 32) && decide (data < 2 ^ 32) && who.fits
  | .railCapArm rail data who => decide (rail < 4) && decide (data < 2 ^ 32) && who.fits
  | .railCapStop rail data who => decide (rail < 4) && decide (data < 2 ^ 32) && who.fits
  | .ringCtrlArm data who => decide (data < 2 ^ 32) && who.fits
  | .ringCtrlForce data who => decide (data < 2 ^ 32) && who.fits
  | .ringCtrlResume data who => decide (data < 2 ^ 32) && who.fits
  | .ringLenWrite off data who => (off == 0x28000 || off == 0x28004) && decide (data < 2 ^ 32) && who.fits
  | .timeResync data who => decide (data < 2 ^ 32) && who.fits
  | .fhSrcForce i data who => decide (i < 256) && decide (data < 2 ^ 32) && who.fits
  | .fhPendClear j data who => decide (j < 8) && decide (data < 2 ^ 32) && who.fits
  | .fhFirstClear data who => decide (data < 2 ^ 32) && who.fits
  | .phFaultReadmit rail _ data who => decide (rail < 4) && decide (data < 2 ^ 32) && who.fits
  | .siteSuspectClear site data who => decide (site < 96) && decide (data < 2 ^ 32) && who.fits
  | .budSlowClear data who => decide (data < 2 ^ 32) && who.fits
  | .fwLoadGo data who => decide (data < 2 ^ 32) && who.fits
  | .accCtrlRelock data who => decide (data < 2 ^ 32) && who.fits
  | .engClassRise c e cls => decide (c < 320) && decide (e < 4) && decide (cls < 8)
  | .engClassFall c e cls => decide (c < 320) && decide (e < 4) && decide (cls < 8)
  | .heldQuantaExpiry c => decide (c < 320)
  | .clusterIdle c => decide (c < 320)
  | .clRunFall c counts => decide (c < 320) && counts.all (fun n => decide (n < 2 ^ 16)) && decide (counts.length = 12)
  | .clRunRise c => decide (c < 320)
  | .reclaimMessage c => decide (c < 320)
  | .grantDelivery c e => decide (c < 320) && decide (e < 4)
  | .activityIntervalClose c _ code counts => decide (c < 320) && decide (code < 256) && counts.all (fun n => decide (n < 2 ^ 16)) && decide (counts.length = 12)
  | .droopDetection c code => decide (c < 320) && decide (code < 256)
  | .ladderTimerExpiry c code => decide (c < 320) && decide (code < 256)
  | .localStopExpiry c => decide (c < 320)
  | .fastCalibrationWindow c m => decide (c < 320) && decide (m < 256)
  | .maintenanceRound c m _ => decide (c < 320) && decide (m < 256)
  | .stuckDetector c => decide (c < 320)
  | .detectorReinstate c => decide (c < 320)
  | .grantRequest c e => decide (c < 320) && decide (e < 4)
  | .proactiveForceEnd stripe => decide (stripe < 16)
  | .arbiterGrant => true
  | .waveStepBoundary => true
  | .localGrantReport c => decide (c < 320)
  | .pocketRefill c => decide (c < 320)
  | .revocationPass => true
  | .reservationStart _ => true
  | .reservationTimeT _ => true
  | .reservationEnd _ => true
  | .prebiasStart _ => true
  | .severeReport c => decide (c < 320)
  | .freezeExpiry stripe => decide (stripe < 16)
  | .dieForceReleaseStep => true
  | .limiterOperandChange => true
  | .oppStepStart => true
  | .oppFreqHandshakeStart => true
  | .oppFreqAck => true
  | .oppFreqAckFall => true
  | .oppFreqTimeout => true
  | .windowSlotBoundary n => decide (n < 4)
  | .windowDecisionApply n => decide (n < 4)
  | .windowAutonomous n => decide (n < 4)
  | .fastLimitLatch => true
  | .fastLimitRelease => true
  | .emergencyHoldExpiry => true
  | .supplyHoldExpiry => true
  | .controlSample rail _ => decide (rail < 4)
  | .holdExpiry rail => decide (rail < 4)
  | .phaseShed rail => decide (rail < 4)
  | .orderedShutdownStart => true
  | .railShutdownDone rail => decide (rail < 4)
  | .nextRailShutdown => true
  | .dpwmRecalibration lines taps => decide (lines.length = taps.length) && lines.all (fun k => decide (k < 96))
  | .avsVinPoll _ => true
  | .vinStale => true
  | .avsStatusRead _ => true
  | .avsRetry _ => true
  | .injectionTimeout rail => decide (rail < 4)
  | .captureFreeze rail => decide (rail < 4)
  | .estimatorInterval => true
  | .calibrationMillisecond => true
  | .thermalRound _ => true
  | .graceDeadline => true
  | .predictionUpdate => true
  | .analogTrip site => decide (site < 96)
  | .externalTrip => true
  | .oscCompensationConversion raw _ => decide (raw < 2 ^ 12)
  | .memStackReport k temp => decide (k < 4) && decide (temp < 2 ^ 16)
  | .memStackStale k => decide (k < 4)
  | .watchRecord k idx lines => decide (k < 4) && decide (idx < 16) && decide (lines < 2 ^ 32)
  | .watchSend => true
  | .linkFlit h => h.fits
  | .heartbeatFlit h pstate _ _ => h.fits && decide (pstate < 4)
  | .strapFlit h dieId _ => h.fits && decide (dieId < 8)
  | .stageFlit h _ value => h.fits && decide (value < 2 ^ 32)
  | .prepareFlit h id kind count crc => h.fits && decide (id < 2 ^ 16) && decide (kind < 6) && decide (count < 2 ^ 16) && decide (crc < 2 ^ 16)
  | .prepareAckFlit h id _ regions => h.fits && decide (id < 2 ^ 16) && decide (regions < 2 ^ 16)
  | .commitFlit h t => h.fits && decide (t < 2 ^ 64)
  | .abortFlit h id => h.fits && decide (id < 2 ^ 16)
  | .cmdFlit h _ => h.fits
  | .cmdDoneFlit h tag status result => h.fits && decide (tag < 2 ^ 8) && decide (status < 16) && bytesFit result
  | .eventFlit h _ => h.fits
  | .energyFlit h uw => h.fits && decide (uw < 2 ^ 32)
  | .thermalFlit h _ _ => h.fits
  | .levelFlit h idx value => h.fits && decide (idx < 257) && decide (value < 2 ^ 32)
  | .dataFlit h _ => h.fits
  | .hdgRetryTimeout d => decide (d < 8)
  | .heartbeatSend => true
  | .heartbeatMiss d => decide (d < 8)
  | .hdgWakeIn => true
  | .hdgAwakeIn d => decide (d < 8)
  | .prepareTimeout => true
  | .commitOrphan => true
  | .cmdDoneTimeout tag => decide (tag < 2 ^ 8)
  | .commitStart => true
  | .commitApply => true
  | .catchUpTimeout d => decide (d < 8)
  | .stileMessage half => decide (half < 2)
  | .stileQueueDrain half => decide (half < 2)
  | .hello f node port => f.fits && decide (node < 2 ^ 16) && decide (port < 256)
  | .helloAck f node port => f.fits && decide (node < 2 ^ 16) && decide (port < 256)
  | .ackFrame f seqs => f.fits && seqs.all (fun n => decide (n < 2 ^ 32)) && decide (seqs.length ≤ 64)
  | .pace f group rate valid holder => f.fits && decide (group < 2 ^ 16) && decide (rate < 256) && decide (valid < 2 ^ 32) && decide (holder < 2 ^ 16)
  | .emerg f scope rate group valid origin => f.fits && decide (scope < 2) && decide (rate < 256) && decide (group < 2 ^ 16) && decide (valid < 2 ^ 32) && decide (origin < 2 ^ 16)
  | .relPrepare f id kind levels group newSet newRate valid => f.fits && decide (id < 2 ^ 32) && decide (kind < 2) && decide (levels < 256) && decide (group < 2 ^ 16) && decide (newSet < 2) && decide (newRate < 256) && decide (valid < 2 ^ 32)
  | .relVote f id vote count => f.fits && decide (id < 2 ^ 32) && decide (vote < 3) && decide (count < 2 ^ 32)
  | .relCommit f id t => f.fits && decide (id < 2 ^ 32) && decide (t < 2 ^ 64)
  | .relAbort f id => f.fits && decide (id < 2 ^ 32)
  | .fabRetransmit peer seq => decide (peer < 2 ^ 16) && decide (seq < 2 ^ 32)
  | .discoveryPeriod => true
  | .peerDead node => decide (node < 2 ^ 16)
  | .paceRefresh slot => decide (slot < 256)
  | .levelWordExpiry idx => decide (idx < 257)
  | .levelWordResend idx => decide (idx < 257)
  | .voteWaitEnd id => decide (id < 2 ^ 32)
  | .originatorWaitEnd id => decide (id < 2 ^ 32)
  | .releaseBufferHoldExpiry id => decide (id < 2 ^ 32)
  | .releaseRetry slot => decide (slot < 256)
  | .tpPulse _ sub => decide (sub < 16)
  | .pulseMissing => true
  | .skylarkHoldover => true
  | .resyncApply => true
  | .memResponse tag err data => decide (tag < 32) && decide (err < 4) && bytesFit data
  | .memPortTimeout tag => decide (tag < 32)
  | .commandPickup m => decide (m < 32)
  | .noticePost m => decide (m < 32)
  | .heartbeatTimeout => true
  | .mctpRequest bytes => bytesFit bytes
  | .mctpControl _ => true
  | .pldmRequest _ => true
  | .attach m => decide (m < 33)
  | .detach m => decide (m < 33)
  | .heartbeat m => decide (m < 33)
  | .getInfo m => decide (m < 33)
  | .stageBudget m => decide (m < 33)
  | .commit m => decide (m < 33)
  | .abortStage m => decide (m < 33)
  | .getBudget m => decide (m < 33)
  | .loadProfile m => decide (m < 33)
  | .dropProfile m => decide (m < 33)
  | .announce m => decide (m < 33)
  | .barrierHint m => decide (m < 33)
  | .setOppTable m => decide (m < 33)
  | .setThermal m => decide (m < 33)
  | .fabricAssign m => decide (m < 33)
  | .joinGroup m => decide (m < 33)
  | .leaveGroup m => decide (m < 33)
  | .fabricStatus m => decide (m < 33)
  | .snapshot m => decide (m < 33)
  | .snapshotComplete => true
  | .readCounters m => decide (m < 33)
  | .armTriggerArm m => decide (m < 33)
  | .armTriggerForce m => decide (m < 33)
  | .armTriggerResume m => decide (m < 33)
  | .ringPostTimeout => true
  | .readRing m => decide (m < 33)
  | .setWatch m => decide (m < 33)
  | .streamPeriod => true
  | .fwStageHost m => decide (m < 33)
  | .fwStageBegin m => decide (m < 33)
  | .fwStageChunk m => decide (m < 33)
  | .fwStageEnd m => decide (m < 33)
  | .fwStageCancel m => decide (m < 33)
  | .fwStageReadback img => match img with | some x => bytesFit x.bytes | none => true
  | .fwActivate m => decide (m < 33)
  | .activationStart => true
  | .activationTimeout => true
  | .activationComplete img _ => bytesFit img.bytes
  | .slotRepairDone => true
  | .fwStatus m => decide (m < 33)
  | .compartmentFault comp => decide (comp < 8)
  | .userRead off => decide (off < 2 ^ 20)
  | .userCapStage _ => true
  | .userCapCommit => true
  | .userDoorbell set clear => decide (set < 2 ^ 16) && decide (clear < 2 ^ 16)
  | .userTimerSet us => decide (us < 2 ^ 32)
  | .userTimerWake => true
  | .userLog level code arg => decide (level < 4) && decide (code < 256) && decide (arg < 2 ^ 32)
  | .unlockChallenge m => decide (m < 33)
  | .unlockResponsePassword m => decide (m < 33)
  | .unlockResponseSignature m => decide (m < 33)
  | .relock m => decide (m < 33)
  | .accessTimerExpiry => true
  | .nonceLapse => true
  | .unlockBackoffEnd => true
  | .faultRaise i syn => decide (i < 256) && decide (syn < 2 ^ 64)
  | .faultRead m => decide (m < 33)
  | .faultClear m => decide (m < 33)
  | .faultForce m => decide (m < 33)
  | .injectStart m => decide (m < 33)
  | .captureRead m => decide (m < 33)
  | .hdgWakeTimeout d => decide (d < 8)
  | .hdgFlitDiscard src bs => decide (src < 8) && decide (bs.length = 16) && bs.all (fun b => decide (b < 256))
  | .edvikFrameDiscard _ bytes => bytesFit bytes
  | .coreNoProgress core => decide (core < 2)
  | .rstStormEnd => true
  | .ringWaitTrigExceeded c e => decide (c < 320) && decide (e < 4)

end Sys2Proof
end

