-- ==== Sys2Proof/Tests/Slice0.lean ====
section
/-! SUPPORT. Own tests: ill-formed terms, small steps from the spec's examples, and witnesses for the statements. -/

namespace Sys2Proof.Tests

open Sys2Proof Sys2Proof.Machine

/-! ### Well-formedness -/

/-- Terms that each break one check of well-formedness, which refuses them (1). -/
theorem test_ill_formed_1 : (
    [.porstNDeassert true 8, .railInRegulation 4, .softstartTimeout 4, .blockResetWrite 4294967296 (.tenant 1023),
     .blockResetWrite 4294967295 (.tenant 1024), .psRequest 4, .halfOffRequest 2, .halfRestart 2,
     .halfOffAckRelease 2, .heathWakeEvent 8, .lingerExpiry 2, .registerWrite 1048576 4294967295 (.tenant 1023),
     .registerWrite 1048575 4294967296 (.tenant 1023), .registerWrite 1048575 4294967295 (.tenant 1024),
     .lowWordRead 1048576 (.tenant 1023), .lowWordRead 1048575 (.tenant 1024),
     .mbInW1hWrite 32 4294967295 (.tenant 1023), .mbInW1hWrite 31 4294967296 (.tenant 1023),
     .mbInW1hWrite 31 4294967295 (.tenant 1024), .mbOutFullClear 4294967296 (.tenant 1023),
     .mbOutFullClear 4294967295 (.tenant 1024), .mbDbInWrite 4294967296 (.tenant 1023),
     .mbDbInWrite 4294967295 (.tenant 1024), .mbDbOutClear 4294967296 (.tenant 1023),
     .mbDbOutClear 4294967295 (.tenant 1024), .cmdMbCtxWrite 32 4294967295 (.tenant 1023),
     .cmdMbCtxWrite 31 4294967296 (.tenant 1023), .cmdMbCtxWrite 31 4294967295 (.tenant 1024),
     .railCapArm 4 4294967295 (.tenant 1023), .railCapArm 3 4294967296 (.tenant 1023),
     .railCapArm 3 4294967295 (.tenant 1024), .railCapStop 4 4294967295 (.tenant 1023),
     .railCapStop 3 4294967296 (.tenant 1023), .railCapStop 3 4294967295 (.tenant 1024),
     .ringCtrlArm 4294967296 (.tenant 1023), .ringCtrlArm 4294967295 (.tenant 1024),
     .ringCtrlForce 4294967296 (.tenant 1023), .ringCtrlForce 4294967295 (.tenant 1024),
     .ringCtrlResume 4294967296 (.tenant 1023), .ringCtrlResume 4294967295 (.tenant 1024)] : List Instr).all (fun i => !i.wellFormed) = true := by decide

/-- Terms that each break one check of well-formedness, which refuses them (2). -/
theorem test_ill_formed_2 : (
    [.ringLenWrite 0x28008 4294967295 (.tenant 1023), .ringLenWrite 0x28004 4294967296 (.tenant 1023),
     .ringLenWrite 0x28004 4294967295 (.tenant 1024), .timeResync 4294967296 (.tenant 1023),
     .timeResync 4294967295 (.tenant 1024), .fhSrcForce 256 4294967295 (.tenant 1023),
     .fhSrcForce 255 4294967296 (.tenant 1023), .fhSrcForce 255 4294967295 (.tenant 1024),
     .fhPendClear 8 4294967295 (.tenant 1023), .fhPendClear 7 4294967296 (.tenant 1023),
     .fhPendClear 7 4294967295 (.tenant 1024), .fhFirstClear 4294967296 (.tenant 1023),
     .fhFirstClear 4294967295 (.tenant 1024), .phFaultReadmit 4 true 4294967295 (.tenant 1023),
     .phFaultReadmit 3 true 4294967296 (.tenant 1023), .phFaultReadmit 3 true 4294967295 (.tenant 1024),
     .siteSuspectClear 96 4294967295 (.tenant 1023), .siteSuspectClear 95 4294967296 (.tenant 1023),
     .siteSuspectClear 95 4294967295 (.tenant 1024), .budSlowClear 4294967296 (.tenant 1023),
     .budSlowClear 4294967295 (.tenant 1024), .fwLoadGo 4294967296 (.tenant 1023),
     .fwLoadGo 4294967295 (.tenant 1024), .accCtrlRelock 4294967296 (.tenant 1023),
     .accCtrlRelock 4294967295 (.tenant 1024), .engClassRise 320 3 7, .engClassRise 319 4 7, .engClassRise 319 3 8,
     .engClassFall 320 3 7, .engClassFall 319 4 7, .engClassFall 319 3 8, .heldQuantaExpiry 320, .clusterIdle 320,
     .clRunFall 320 (List.replicate 12 65535), .clRunFall 319 (List.replicate 12 65536), .clRunFall 319 [0],
     .clRunRise 320, .reclaimMessage 320, .grantDelivery 320 3, .grantDelivery 319 4] : List Instr).all (fun i => !i.wellFormed) = true := by decide

/-- Terms that each break one check of well-formedness, which refuses them (3). -/
theorem test_ill_formed_3 : (
    [.activityIntervalClose 320 0 255 (List.replicate 12 65535),
     .activityIntervalClose 319 0 256 (List.replicate 12 65535),
     .activityIntervalClose 319 0 255 (List.replicate 12 65536), .activityIntervalClose 319 0 255 [0],
     .droopDetection 320 255, .droopDetection 319 256, .ladderTimerExpiry 320 255, .ladderTimerExpiry 319 256,
     .localStopExpiry 320, .fastCalibrationWindow 320 255, .fastCalibrationWindow 319 256,
     .maintenanceRound 320 255 0, .maintenanceRound 319 256 0, .stuckDetector 320, .detectorReinstate 320,
     .grantRequest 320 3, .grantRequest 319 4, .proactiveForceEnd 16, .localGrantReport 320, .pocketRefill 320,
     .severeReport 320, .freezeExpiry 16, .windowSlotBoundary 4, .windowDecisionApply 4, .windowAutonomous 4,
     .controlSample 4 {}, .holdExpiry 4, .phaseShed 4, .railShutdownDone 4, .injectionTimeout 4, .captureFreeze 4,
     .analogTrip 96, .oscCompensationConversion 4096 true, .memStackReport 4 65535, .memStackReport 3 65536,
     .memStackStale 4, .watchRecord 4 15 4294967295, .watchRecord 3 16 4294967295, .watchRecord 3 15 4294967296,
     .linkFlit { src := 8 }] : List Instr).all (fun i => !i.wellFormed) = true := by decide

/-- Terms that each break one check of well-formedness, which refuses them (4). -/
theorem test_ill_formed_4 : (
    [.heartbeatFlit { src := 8 } 3 true true, .heartbeatFlit { src := 7 } 4 true true,
     .strapFlit { src := 8 } 7 true, .strapFlit { src := 7 } 8 true, .stageFlit { src := 8 } 0 4294967295,
     .stageFlit { src := 7 } 0 4294967296, .prepareFlit { src := 8 } 65535 5 65535 65535,
     .prepareFlit { src := 7 } 65536 5 65535 65535, .prepareFlit { src := 7 } 65535 6 65535 65535,
     .prepareFlit { src := 7 } 65535 5 65536 65535, .prepareFlit { src := 7 } 65535 5 65535 65536,
     .prepareAckFlit { src := 8 } 65535 true 65535, .prepareAckFlit { src := 7 } 65536 true 65535,
     .prepareAckFlit { src := 7 } 65535 true 65536, .commitFlit { src := 8 } 18446744073709551615,
     .commitFlit { src := 7 } 18446744073709551616, .abortFlit { src := 8 } 65535, .abortFlit { src := 7 } 65536,
     .cmdFlit { src := 8 } .getInfo, .cmdDoneFlit { src := 8 } 255 15 [255], .cmdDoneFlit { src := 7 } 256 15 [255],
     .cmdDoneFlit { src := 7 } 255 16 [255], .cmdDoneFlit { src := 7 } 255 15 [256], .eventFlit { src := 8 } .ready,
     .energyFlit { src := 8 } 4294967295, .energyFlit { src := 7 } 4294967296, .thermalFlit { src := 8 } 0 0,
     .levelFlit { src := 8 } 256 4294967295, .levelFlit { src := 7 } 257 4294967295,
     .levelFlit { src := 7 } 256 4294967296, .dataFlit { src := 8 } (.imageBlock 2 [255]), .hdgRetryTimeout 8,
     .heartbeatMiss 8, .hdgAwakeIn 8, .cmdDoneTimeout 256, .catchUpTimeout 8, .stileMessage 2, .stileQueueDrain 2,
     .hello { src := 65536 } 65535 255, .hello {} 65536 255] : List Instr).all (fun i => !i.wellFormed) = true := by decide

/-- Terms that each break one check of well-formedness, which refuses them (5). -/
theorem test_ill_formed_5 : (
    [.hello {} 65535 256, .helloAck { src := 65536 } 65535 255, .helloAck {} 65536 255, .helloAck {} 65535 256,
     .ackFrame { src := 65536 } [4294967295], .ackFrame {} [4294967296], .ackFrame {} (List.replicate 65 0),
     .pace { src := 65536 } 65535 255 4294967295 65535, .pace {} 65536 255 4294967295 65535,
     .pace {} 65535 256 4294967295 65535, .pace {} 65535 255 4294967296 65535, .pace {} 65535 255 4294967295 65536,
     .emerg { src := 65536 } 1 255 65535 4294967295 65535, .emerg {} 2 255 65535 4294967295 65535,
     .emerg {} 1 256 65535 4294967295 65535, .emerg {} 1 255 65536 4294967295 65535,
     .emerg {} 1 255 65535 4294967296 65535, .emerg {} 1 255 65535 4294967295 65536,
     .relPrepare { src := 65536 } 4294967295 1 255 65535 1 255 4294967295,
     .relPrepare {} 4294967296 1 255 65535 1 255 4294967295, .relPrepare {} 4294967295 2 255 65535 1 255 4294967295,
     .relPrepare {} 4294967295 1 256 65535 1 255 4294967295, .relPrepare {} 4294967295 1 255 65536 1 255 4294967295,
     .relPrepare {} 4294967295 1 255 65535 2 255 4294967295, .relPrepare {} 4294967295 1 255 65535 1 256 4294967295,
     .relPrepare {} 4294967295 1 255 65535 1 255 4294967296, .relVote { src := 65536 } 4294967295 2 4294967295,
     .relVote {} 4294967296 2 4294967295, .relVote {} 4294967295 3 4294967295, .relVote {} 4294967295 2 4294967296,
     .relCommit { src := 65536 } 4294967295 18446744073709551615, .relCommit {} 4294967296 18446744073709551615,
     .relCommit {} 4294967295 18446744073709551616, .relAbort { src := 65536 } 4294967295, .relAbort {} 4294967296,
     .fabRetransmit 65536 4294967295, .fabRetransmit 65535 4294967296, .peerDead 65536, .paceRefresh 256,
     .levelWordExpiry 257] : List Instr).all (fun i => !i.wellFormed) = true := by decide

/-- Terms that each break one check of well-formedness, which refuses them (6). -/
theorem test_ill_formed_6 : (
    [.levelWordResend 257, .voteWaitEnd 4294967296, .originatorWaitEnd 4294967296,
     .releaseBufferHoldExpiry 4294967296, .releaseRetry 256, .tpPulse none 16, .memResponse 32 3 [255],
     .memResponse 31 4 [255], .memResponse 31 3 [256], .memPortTimeout 32, .commandPickup 32, .noticePost 32,
     .mctpRequest [256], .attach 33, .detach 33, .heartbeat 33, .getInfo 33, .stageBudget 33, .commit 33,
     .abortStage 33, .getBudget 33, .loadProfile 33, .dropProfile 33, .announce 33, .barrierHint 33, .setOppTable 33,
     .setThermal 33, .fabricAssign 33, .joinGroup 33, .leaveGroup 33, .fabricStatus 33, .snapshot 33,
     .readCounters 33, .armTriggerArm 33, .armTriggerForce 33, .armTriggerResume 33, .readRing 33, .setWatch 33,
     .fwStageHost 33, .fwStageBegin 33] : List Instr).all (fun i => !i.wellFormed) = true := by decide

/-- Terms that each break one check of well-formedness, which refuses them (7). -/
theorem test_ill_formed_7 : (
    [.fwStageChunk 33, .fwStageEnd 33, .fwStageCancel 33, .fwActivate 33, .fwStatus 33, .compartmentFault 8,
     .userRead 1048576, .userDoorbell 65536 65535, .userDoorbell 65535 65536, .userTimerSet 4294967296,
     .userLog 4 255 4294967295, .userLog 3 256 4294967295, .userLog 3 255 4294967296, .unlockChallenge 33,
     .unlockResponsePassword 33, .unlockResponseSignature 33, .relock 33, .faultRaise 256 18446744073709551615,
     .faultRaise 255 18446744073709551616, .faultRead 33, .faultClear 33, .faultForce 33, .injectStart 33,
     .captureRead 33, .hdgWakeTimeout 8, .hdgFlitDiscard 8 (List.replicate 16 0), .hdgFlitDiscard 7 (List.replicate 15 0),
     .hdgFlitDiscard 7 (256 :: List.replicate 15 0),
     .edvikFrameDiscard false [256], .slotVerify ⟨[256]⟩, .followerImageVerify ⟨[256]⟩, .activationComplete ⟨[256]⟩ true,
     .fwStageReadback (some ⟨[256]⟩), .coreNoProgress 2, .ringWaitTrigExceeded 320 3,
     .ringWaitTrigExceeded 319 4, .linkFlit { seq := 256 }, .linkFlit { ack := 256 }, .linkFlit { tag := 256 },
     .linkFlit { epoch := 65536 }, .ackFrame { dst := 65536 } [], .ackFrame { epoch := 65536 } [],
     .ackFrame { seq := 4294967296 } [], .ackFrame { ack := 4294967296 } []] : List Instr).all (fun i => !i.wellFormed) = true := by decide

/-- Terms that each break one check of well-formedness, which refuses them (8). -/
theorem test_ill_formed_8 : (
    [.ackFrame { port := 256 } [], .ackFrame { addr := 2 ^ 128 } [], .ackFrame { sport := 65536 } [], .ackFrame { dport := 65536 } [],
     .ackFrame { dscp := 64 } [], .dpwmRecalibration [95] [], .dpwmRecalibration [96] [40]] : List Instr).all (fun i => !i.wellFormed) = true := by decide

/-- Every command with its operands at the ends of their ranges is well formed (1). -/
theorem test_well_formed_1 : (
    [.vaonPorRelease, .heathPor, .porstNAssert, .porstNDeassert true 7, .pllLock, .strapExchangeClose,
     .sfdpDiscovery none, .flashAbsentTimeout, .slotVerify {}, .followerImageVerify {}, .imageStart,
     .vinSettleTimeout, .railInRegulation 3, .softstartTimeout 3, .blockResetWrite 4294967295 (.tenant 1023),
     .blockResetComplete, .stewardDigestCheck 0, .psRequest 3, .psTransitionDone, .psReqRelease, .halfOffRequest 1,
     .halfRestart 1, .halfOffAckRelease 1, .heathWakeEvent 7, .lingerExpiry 1,
     .registerWrite 1048575 4294967295 (.tenant 1023), .lowWordRead 1048575 (.tenant 1023),
     .mbInW1hWrite 31 4294967295 (.tenant 1023), .mbOutFullClear 4294967295 (.tenant 1023),
     .mbDbInWrite 4294967295 (.tenant 1023), .mbDbOutClear 4294967295 (.tenant 1023),
     .cmdMbCtxWrite 31 4294967295 (.tenant 1023), .railCapArm 3 4294967295 (.tenant 1023),
     .railCapStop 3 4294967295 (.tenant 1023), .ringCtrlArm 4294967295 (.tenant 1023),
     .ringCtrlForce 4294967295 (.tenant 1023), .ringCtrlResume 4294967295 (.tenant 1023),
     .ringLenWrite 0x28004 4294967295 (.tenant 1023), .timeResync 4294967295 (.tenant 1023),
     .fhSrcForce 255 4294967295 (.tenant 1023), .fhPendClear 7 4294967295 (.tenant 1023),
     .fhFirstClear 4294967295 (.tenant 1023), .phFaultReadmit 3 true 4294967295 (.tenant 1023),
     .siteSuspectClear 95 4294967295 (.tenant 1023), .budSlowClear 4294967295 (.tenant 1023),
     .fwLoadGo 4294967295 (.tenant 1023), .accCtrlRelock 4294967295 (.tenant 1023), .engClassRise 319 3 7,
     .engClassFall 319 3 7, .heldQuantaExpiry 319, .clusterIdle 319, .clRunFall 319 (List.replicate 12 65535),
     .clRunRise 319, .reclaimMessage 319, .grantDelivery 319 3,
     .activityIntervalClose 319 0 255 (List.replicate 12 65535), .droopDetection 319 255, .ladderTimerExpiry 319 255,
     .localStopExpiry 319, .fastCalibrationWindow 319 255, .maintenanceRound 319 255 0, .stuckDetector 319] : List Instr).all (fun i => i.wellFormed) = true := by decide

/-- Every command with its operands at the ends of their ranges is well formed (2). -/
theorem test_well_formed_2 : (
    [.detectorReinstate 319, .grantRequest 319 3, .proactiveForceEnd 15, .arbiterGrant, .waveStepBoundary,
     .localGrantReport 319, .pocketRefill 319, .revocationPass, .reservationStart 0, .reservationTimeT 0,
     .reservationEnd 0, .prebiasStart 0, .severeReport 319, .freezeExpiry 15, .dieForceReleaseStep,
     .limiterOperandChange, .oppStepStart, .oppFreqHandshakeStart, .oppFreqAck, .oppFreqAckFall, .oppFreqTimeout,
     .windowSlotBoundary 3, .windowDecisionApply 3, .windowAutonomous 3, .fastLimitLatch, .fastLimitRelease,
     .emergencyHoldExpiry, .supplyHoldExpiry, .controlSample 3 {}, .holdExpiry 3, .phaseShed 3,
     .orderedShutdownStart, .railShutdownDone 3, .nextRailShutdown, .avsVinPoll {}, .vinStale, .avsStatusRead {},
     .avsRetry {}, .injectionTimeout 3, .captureFreeze 3, .estimatorInterval, .calibrationMillisecond,
     .thermalRound [], .graceDeadline, .predictionUpdate, .analogTrip 95, .externalTrip,
     .oscCompensationConversion 4095 true, .memStackReport 3 65535, .memStackStale 3, .watchRecord 3 15 4294967295,
     .watchSend, .linkFlit { src := 7 }, .heartbeatFlit { src := 7 } 3 true true, .strapFlit { src := 7 } 7 true,
     .stageFlit { src := 7 } 0 4294967295, .prepareFlit { src := 7 } 65535 5 65535 65535,
     .prepareAckFlit { src := 7 } 65535 true 65535, .commitFlit { src := 7 } 18446744073709551615,
     .abortFlit { src := 7 } 65535, .cmdFlit { src := 7 } .getInfo, .cmdDoneFlit { src := 7 } 255 15 [255]] : List Instr).all (fun i => i.wellFormed) = true := by decide

/-- Every command with its operands at the ends of their ranges is well formed (3). -/
theorem test_well_formed_3 : (
    [.eventFlit { src := 7 } .ready, .energyFlit { src := 7 } 4294967295, .thermalFlit { src := 7 } 0 0,
     .levelFlit { src := 7 } 256 4294967295, .dataFlit { src := 7 } (.imageBlock 2 [255]), .hdgRetryTimeout 7, .heartbeatSend,
     .heartbeatMiss 7, .hdgWakeIn, .hdgAwakeIn 7, .prepareTimeout, .commitOrphan, .cmdDoneTimeout 255, .commitStart,
     .commitApply, .catchUpTimeout 7, .stileMessage 1, .stileQueueDrain 1, .hello {} 65535 255,
     .helloAck {} 65535 255, .ackFrame {} [4294967295], .pace {} 65535 255 4294967295 65535,
     .emerg {} 1 255 65535 4294967295 65535, .relPrepare {} 4294967295 1 255 65535 1 255 4294967295,
     .relVote {} 4294967295 2 4294967295, .relCommit {} 4294967295 18446744073709551615, .relAbort {} 4294967295,
     .fabRetransmit 65535 4294967295, .discoveryPeriod, .peerDead 65535, .paceRefresh 255, .levelWordExpiry 256,
     .levelWordResend 256, .voteWaitEnd 4294967295, .originatorWaitEnd 4294967295,
     .releaseBufferHoldExpiry 4294967295, .releaseRetry 255, .tpPulse none 15, .pulseMissing, .skylarkHoldover,
     .resyncApply, .memResponse 31 3 [255], .memPortTimeout 31, .commandPickup 31, .noticePost 31, .heartbeatTimeout,
     .mctpRequest [255], .mctpControl .getEid, .pldmRequest .poll, .attach 32, .detach 32, .heartbeat 32,
     .getInfo 32, .stageBudget 32, .commit 32, .abortStage 32, .getBudget 32, .loadProfile 32, .dropProfile 32,
     .announce 32, .barrierHint 32, .setOppTable 32] : List Instr).all (fun i => i.wellFormed) = true := by decide

/-- Every command with its operands at the ends of their ranges is well formed (4). -/
theorem test_well_formed_4 : (
    [.setThermal 32, .fabricAssign 32, .joinGroup 32, .leaveGroup 32, .fabricStatus 32, .snapshot 32,
     .snapshotComplete, .readCounters 32, .armTriggerArm 32, .armTriggerForce 32, .armTriggerResume 32,
     .ringPostTimeout, .readRing 32, .setWatch 32, .streamPeriod, .fwStageHost 32, .fwStageBegin 32,
     .fwStageChunk 32, .fwStageEnd 32, .fwStageCancel 32, .fwStageReadback none, .fwActivate 32, .activationStart,
     .activationTimeout, .activationComplete {} true, .slotRepairDone, .fwStatus 32, .compartmentFault 7,
     .userRead 1048575, .userCapStage (.pool 0), .userCapCommit, .userDoorbell 65535 65535, .userTimerSet 4294967295,
     .userTimerWake, .userLog 3 255 4294967295, .unlockChallenge 32, .unlockResponsePassword 32,
     .unlockResponseSignature 32, .relock 32, .accessTimerExpiry, .nonceLapse, .unlockBackoffEnd,
     .faultRaise 255 18446744073709551615, .faultRead 32, .faultClear 32, .faultForce 32, .injectStart 32,
     .captureRead 32, .hdgWakeTimeout 7, .hdgFlitDiscard 7 (List.replicate 16 255), .dpwmRecalibration [0, 95] [40, 41], .edvikFrameDiscard true [255], .coreNoProgress 1,
     .rstStormEnd, .ringWaitTrigExceeded 319 3] : List Instr).all (fun i => i.wellFormed) = true := by decide

/-! ### Small states -/

-- One kernel check after another: many at once, each with a stack of its own, take more memory than they are worth.
set_option Elab.async false

/-- The state after reset with PORST_N high. -/
def live : State := { State.reset with ps := { vaon := true, porst := true } }

/-- A state with fields of registers set. -/
def given (s : State) (fs : List (Fld × Nat)) : State := fs.foldl (fun t f => t.setFld f.1 f.2) s

/-- A leader among two instances whose block core runs in ACTIVE, with one cluster populated. -/
def up : State := given
  { live with tie := ⟨1, 2 ^ 96 - 1, 0xF⟩, ps := { live.ps with railsReady := true }, agents := [(0, { run := true })] }
  [(ID_TOPOLOGY.LEADER, 1), (ID_TOPOLOGY.DIE_MASK, 3), (HEATH_DOMAIN_STATUS.PLL_LOCK, 1), (HEATH_DOMAIN_STATUS.CORE_ON, 1),
   (HEATH_DOMAIN_STATUS.STEWARD_ON, 1), (HEATH_DOMAIN_STATUS.DPWM_ON, 1), (HEATH_DOMAIN_STATUS.PSTATE, 3), (HEATH_BOOT_STATUS.READY, 1),
   (THM_OTP.ATRIP, 122)]

/-- A follower, die 1, beside the leader 0. -/
def below : State := given up [(ID_TOPOLOGY.LEADER, 0), (ID_TOPOLOGY.DIE_ID, 1)]

/-- Cluster 0 with what its agent holds. -/
def agent0 (a : Agent) : State := up.setAgent 0 a

/-- An operating-point table of two points, the limiter at `at_` of the index. -/
def points (at_ : Nat) : State := given { up with unattended := false }
  [(OPP_CTRL.COUNT, 2), (OPP_STATUS.INDEX, at_), (OPP_STATUS.V_IDX, at_), (OPP_PT_A.FREQ 0, 600), (OPP_PT_A.FREQ 1, 800),
   (OPP_HOST_CAP.CAP, 31), (BUD_CAPS.THERMAL_CAP, 31), (BUD_CAPS.SUPPLY_CAP, 31), (BUD_WIN_CAP.CAP 0, 31), (BUD_WIN_CAP.CAP 1, 31),
   (BUD_WIN_CAP.CAP 2, 31), (BUD_WIN_CAP.CAP 3, 31)]

/-! ### Single commands, by the rules -/

/-- Does a command answer a next state of which `p` holds? -/
def gives (c : Instr) (s : State) (p : State → Bool) : Bool :=
  match exec c s with
  | .next t => p t
  | _ => false

/-- R28: the epoch after 0xFFFF is 0x0001. -/
theorem test_epoch_wraps : gives (.porstNDeassert true 0) (given { State.reset with ps := { vaon := true } } [(HEATH_EPOCH.BLOCK_EPOCH, 0xFFFF)])
    (fun t => t.blockEpoch == 1 && t.leader) = true := by decide +kernel

/-- R375: a write to a word of a full inbound slot answers DENIED, leaves the word and sets MB_IN_OVERRUN. -/
theorem test_full_slot_refuses : gives (.registerWrite (MB_IN_W0L 5) 77 .host) (up.setReg MB_IN_FULL 32)
    (fun t => t.out == [.reg 0 1] && t.reg (MB_IN_W0L 5) == 0 && t.reg MB_IN_OVERRUN == 32) = true := by decide +kernel

/-- R377: writing 1 frees an outbound slot, and only it. -/
theorem test_out_full_clears : gives (.mbOutFullClear 2 .host) (up.setReg MB_OUT_FULL 7)
    (fun t => t.reg MB_OUT_FULL == 5) = true := by decide +kernel

/-- R54: while PORST_N is asserted an access outside the identity region answers NOT_READY. -/
theorem test_not_ready : gives (.lowWordRead ADM_CEILING .host) { State.reset with ps := { vaon := true } }
    (fun t => t.out == [.reg 0 3]) = true := by decide +kernel

/-- R302: with THROTTLE set a hot report raises the bandwidth cap by one; at BW_MAX it holds. -/
theorem test_bandwidth_cap_rises : gives (.thermalRound [])
    (given { up with thm := { memIn := [(1, 1600)] } }
      [(THM_MEM_THR.THROTTLE, 95), (THM_MEM_THR.BW_MAX, 3), (THM_MEM.THROTTLE 1, 1), (THM_MEM.BW_CAP 1, 2)])
    (fun t => t.fld (THM_MEM.BW_CAP 1) == 3) = true := by decide +kernel

theorem test_bandwidth_cap_saturates : gives (.thermalRound [])
    (given { up with thm := { memIn := [(1, 1600)] } }
      [(THM_MEM_THR.THROTTLE, 95), (THM_MEM_THR.BW_MAX, 3), (THM_MEM.THROTTLE 1, 1), (THM_MEM.BW_CAP 1, 3)])
    (fun t => t.fld (THM_MEM.BW_CAP 1) == 3) = true := by decide +kernel

/-- R476: the access state falls to LOCKED when its timer ends. -/
theorem test_access_ends : gives .accessTimerExpiry (given { up with acc := { timerEnd := 9 } } [(ID_TOPOLOGY.DIE_MASK, 1), (ACC_STATE.STATE, 2), (ACC_STATE.SCOPE, 3)])
    (fun t => t.fld ACC_STATE.STATE == 1 && t.fld ACC_STATE.SCOPE == 0 && t.now == 9) = true := by decide +kernel

/-- R257: with FAST_LIMIT_N low the ceiling is at most emerg_share. -/
theorem test_emergency_ceiling : gives .fastLimitLatch (given (points 1) [(BUD_SHARE.EMERG_Q, 40)])
    (fun t => decide (t.ceiling ≤ 40) && t.lim.emergency && t.forcedLevel 0 == 3) = true := by decide +kernel

/-- R320: the 16 bytes of a flit carry its header, and their CRC-16 is good. -/
theorem test_flit_bytes :
    hdrOfBytes 3 (flitBytes 0 { src := 3, seq := 63, ack := 62, ackVld := true, tag := 9, epoch := 0xFFFE } (.commit 0x123456789A)) =
      { src := 3, seq := 63, ack := 62, ackVld := true, tag := 9, epoch := 0xFFFE } := by decide +kernel

/-- R341, R342: a PACE frame byte by byte, big-endian, and what is read from it again. -/
theorem test_frame_bytes :
    (let h : FrameHdr := { src := 0x0102, dst := 0x0304, epoch := 5, seq := 0x0A0B0C0D, ackVld := true, ack := 7 }
     let b : FrameBody := .pace 0x1112 128 1000 0x2122
     frameBytes h b = [0x10, 0x10, 0x80, 0, 1, 2, 3, 4, 0, 5, 0, 10, 0x0A, 0x0B, 0x0C, 0x0D, 0, 0, 0, 7,
       0x11, 0x12, 128, 0, 0, 0, 0x03, 0xE8, 0x21, 0x22] ∧ frameOfBytes (frameBytes h b) = some (h, b)) ∧
    frameOfBytes (0x20 :: List.replicate 19 0) = none := by decide +kernel

/-- A command on a unit that the hardware does not have is a fault (log 5). -/
theorem test_no_such_unit : (match exec (.clRunRise 1) up with | .fault .noSuchUnit => true | _ => false) = true := by decide +kernel

/-! ### Witnesses: the hypotheses of each statement can be met

A conjunct for each clause, its numbers at an end of their range. Where a clause needs ECDSA to accept a signature, which
nothing here can decide, that is the witness's own premise. -/

theorem witness_idle : State.reset.pending = [] := by decide
theorem witness_step_kept : State.reset.Inv := by
  refine ⟨⟨List.Pairwise.nil, by simp [State.reset]⟩, by simp [State.heathFirst, State.reset]⟩

/-- The hypotheses of VaonRisesAndPorstFalls can be met. -/
theorem witness_vaon_rises_and_porst_falls :
    (State.reset.ps.vaon = false ∧ State.reset.ps.early = none) ∧
    (let s := { State.reset with ps := { early := some (true, 7) } }
     s.ps.vaon = false ∧ s.ps.early = some (true, 7)) ∧
    live.ps.vaon = true ∧ live.ps.porst = true := by decide

/-- The hypotheses of PorstRiseSamplesTheStraps can be met. -/
theorem witness_porst_rise :
    (let s := { State.reset with ps := { vaon := true } }
     7 < 8 ∧ s.ps.vaon = true ∧ s.ps.porst = false) ∧ State.reset.ps.vaon = false := by decide

/-- The hypotheses of StepFourLocksAndJudgesTheStraps can be met. -/
theorem witness_step_four :
    (let s := { live with ps := { live.ps with pllStarting := true, booting := true } }
     s.ps.porst = true ∧ s.ps.pllStarting = true ∧ s.ps.booting = true) ∧
    (let s := { up with ps := { up.ps with booting := true, exchange := true } }
     s.ps.booting = true ∧ s.ps.exchange = true ∧ s.flag HEATH_DOMAIN_STATUS.PLL_LOCK = true) := by decide

/-- An image by the layout of R411 and R412, its zeros at the end left out: version 7, a policy section of 64 bytes. Its key
is the one that OTP names; its signature is the one that ECDSA accepts, if any. -/
def image : ImageIn :=
  ⟨pack [(4, 0xB170F14E), (2, 1), (2, 0), (4, 7), (4, 64), (1, 0), (1, 4), (2, 1), (12, 0),
    (1, 1), (1, 0xFF), (2, 0), (4, 0), (4, 64), (4, 0), (8, 0)]⟩

/-- R411, R412: the fields of an image by their places. -/
theorem test_image_layout :
    image.magic = 0xB170F14E ∧ image.version = 7 ∧ image.bodyLen = 64 ∧ image.blockMajor = 4 ∧
    image.sections = [{ type := 1, dieMask := 0xFF, length := 64 }] ∧ image.tableOk = true := by decide +kernel

/-- A state in step 5 of start-up, with the OTP's key hash that of `image`. -/
def boot (trying : Nat) : State :=
  given { up with ps := { up.ps with booting := true }, fw := { up.fw with trying := trying },
                  otp := { up.otp with imageKey := Config.sha384 image.key } } [(HEATH_BOOT_STATUS.STEP, 5)]

/-- The hypotheses of ImagesAreFoundAndJudged can be met. -/
theorem witness_images :
    (let s := boot 0
     s.leader = true ∧ s.ps.booting = true ∧ s.bootStep = 5 ∧ s.inReset = false ∧
       s.flag HEATH_DOMAIN_STATUS.PLL_LOCK = true ∧ s.fw.trying = 0 ∧ s.fw.image = none ∧ s.fw.waitLoad = none) ∧
    (let s := { boot 0 with fw := { waitLoad := some 5 } }
     s.fw.waitLoad = some 5 ∧ s.ps.booting = true) ∧
    (∀ k ∈ [1, 2, 3], (boot k).leader = true ∧ (boot k).romActs = true ∧ (boot k).fw.trying = k ∧ (boot k).fw.reboot = false ∧
      sameBytes (boot k).fw.loaded ({} : ImageIn).bytes = true ∧ (boot k).judge {} (k != 3) false ≠ 0) ∧
    (boot 3).fw.loaded.length < 4096 + ({} : ImageIn).bodyLen ∧
    (let s := { boot 2 with ps := { (boot 2).ps with booting := false }, fw := { (boot 2).fw with reboot := true } }
     s.romActs = true ∧ s.fw.trying = 2 ∧ s.fw.reboot = true ∧ s.judge {} true false ≠ 0) ∧
    (let s := given { boot 0 with fw := { copy := some (1, []) } } [(ID_TOPOLOGY.LEADER, 0)]
     s.leader = false ∧ s.romActs = true ∧ s.fw.copy = some (1, []) ∧ sameBytes [] ({} : ImageIn).bytes = true ∧
       s.ps.booting = true ∧ s.judge {} false false ≠ 0) := by decide

/-- An image passes where ECDSA accepts its signature. (ImagesAreFoundAndJudged.) -/
theorem witness_image_passes
    (h : Config.ecdsaVerify (ofLeBytes image.key) (Config.sha384 image.signed) image.sig = true) :
    (let s := { boot 3 with fw := { trying := 3, loaded := image.bytes ++ List.replicate 4160 0 } }
     s.judge image false false = 0 ∧ s.leader = true ∧ s.romActs = true ∧ s.fw.trying = 3 ∧
       sameBytes s.fw.loaded image.bytes = true ∧ 4096 + image.bodyLen ≤ s.fw.loaded.length) ∧
    (let s := given { boot 0 with fw := { copy := some (1, image.bytes) } } [(ID_TOPOLOGY.LEADER, 0)]
     s.judge image false false = 0 ∧ s.leader = false ∧ s.romActs = true ∧ s.fw.copy = some (1, image.bytes) ∧
       sameBytes image.bytes image.bytes = true) := by
  have e : (boot 3).otp.imageKey = Config.sha384 image.key := rfl
  have e' : ∀ f : Firmware, (given { boot 0 with fw := f } [(ID_TOPOLOGY.LEADER, 0)]).otp.imageKey = Config.sha384 image.key :=
    fun _ => rfl
  refine ⟨⟨?_, by decide +kernel⟩, ?_, by decide +kernel⟩ <;>
    simp only [State.judge, h, e, e', ne_eq, not_true_eq_false, Bool.true_eq_false, or_false] <;> decide +kernel

/-- The hypotheses of ImageStartRunsTheFirmware can be met. -/
theorem witness_image_start :
    (let s := { boot 0 with fw := { image := some image } }
     s.fw.image = some image ∧ s.romActs = true ∧ s.ps.booting = true ∧ s.fw.reboot = false) ∧
    (let s := given { up with fw := { image := some image, reboot := true } } [(HEATH_FW_COMP.STATE 6, 3)]
     s.fw.image = some image ∧ s.romActs = true ∧ s.ps.booting = false ∧ s.fw.reboot = true ∧
       s.fld (HEATH_FW_COMP.STATE 6) = 3) := by decide

/-- The hypotheses of RailsComeUpInOrder can be met. -/
theorem witness_rails_come_up :
    (let s := { live with avs := { settleAt := some 5 }, ps := { live.ps with booting := true } }
     s.ps.porst = true ∧ s.avs.settleAt = some 5 ∧ s.ps.booting = true) ∧
    (let s := ({ up with ps := { up.ps with soft := some 3 } } : State).setRail 3 { state := 1, ssRun := 64 }
     3 < 4 ∧ s.ps.porst = true ∧ s.ps.soft = some 3 ∧ (s.rail 3).state = 1 ∧ (s.rail 3).ssSearch = none ∧
       (s.rail 3).ssRun = 64 ∧ s.softNext (softAfter 3) = some 2) ∧
    (let s := ({ up with ps := { up.ps with soft := some 0 } } : State).setRail 0 { state := 1, ssRun := 64 }
     s.ps.porst = true ∧ s.ps.soft = some 0 ∧ (s.rail 0).state = 1 ∧ (s.rail 0).ssSearch = none ∧ (s.rail 0).ssRun = 64 ∧
       s.softNext (softAfter 0) = none ∧ s.flag HEATH_DOMAIN_STATUS.IN_TRANSIT = false ∧ s.ps.req = none) ∧
    (let s := ({ up with ps := { up.ps with soft := some 3, booting := true } } : State).setRail 3 { ssRun := 63 }
     3 < 4 ∧ s.ps.porst = true ∧ s.ps.soft = some 3 ∧ (s.rail 3).ssSearch = none ∧ (s.rail 3).ssRun < 64 ∧
       s.ps.booting = true) := by decide

/-- The hypotheses of BlockResetRunsAndEnds can be met. -/
theorem witness_block_reset :
    (up.ps.vaon = true ∧ up.portClosed = false ∧ up.leader = true ∧ up.ready = true ∧ up.inReset = false) ∧
    (let s := given up [(HEATH_RESET_CTRL.BLOCK_RESET, 1)]
     s.inReset = true ∧ s.held = []) ∧
    (let s := { up with ps := { up.ps with digestDue := true }, fw := { digest := 9, running := true } }
     s.ps.porst = true ∧ s.ps.digestDue = true ∧ s.inReset = false ∧ s.fw.reboot = false ∧
       s.flag HEATH_FW_STATUS.HALTED = false ∧ s.flag HEATH_DOMAIN_STATUS.STEWARD_ON = true ∧ 9 = s.fw.digest ∧ s.fw.running = true ∧
       8 ≠ s.fw.digest ∧ s.fw.hostLoaded = false ∧ s.leader = true) := by decide

/-- The hypotheses of PowerStateRequestsAreAnswered can be met. -/
theorem witness_power_state_requests :
    (up.ps.porst = true ∧ up.ps.req = none ∧ up.ps.ack = false ∧ up.ps.booting = false ∧ up.ps.shut = none ∧
      up.ps.bring = false ∧ up.flag HEATH_DOMAIN_STATUS.IN_TRANSIT = false ∧ up.fld HEATH_FW_STATUS.ACT ≠ 2 ∧ 3 = up.pstate ∧ 0 ≠ up.pstate ∧ 2 ≠ up.pstate ∧
      up.refuses 2 = true ∧ { up with agents := [] }.refuses 2 = false) ∧
    (let s := given { up with ps := { up.ps with leg := 2, goal := 2 } } [(HEATH_DOMAIN_STATUS.IN_TRANSIT, 1)]
     s.ps.porst = true ∧ s.flag HEATH_DOMAIN_STATUS.IN_TRANSIT = true ∧ s.ps.shut = none ∧ s.ps.bring = false ∧
       s.legReady = true ∧ s.ps.leg = s.ps.goal) ∧
    (let s := given { up with ps := { up.ps with leg := 2, goal := 1 } } [(HEATH_DOMAIN_STATUS.IN_TRANSIT, 1)]
     s.legReady = true ∧ s.ps.leg ≠ s.ps.goal) ∧
    (let s := { up with ps := { up.ps with ack := true } }
     s.ps.porst = true ∧ s.ps.ack = true) := by decide

/-- The hypotheses of HalvesAndOnDemandDomains can be met. -/
theorem witness_halves_and_on_demand :
    (1 < 2 ∧ live.ps.porst = true ∧ (live.halfClusters 1).all (fun c => !(live.agent c).run) = true) ∧
    (bitAt up.halfReq 1 = false ∧ (up.halfClusters 1).all (fun c => (up.agent c).clkLive) = true) ∧
    (7 < 8 ∧ up.flag HEATH_DOMAIN_STATUS.PLL_LOCK = true) ∧
    (let s := given up [(HEATH_DOMAIN_STATUS.PSTATE, 1)]
     s.ps.porst = true ∧ s.pstate = 1 ∧ s.flag HEATH_DOMAIN_STATUS.IN_TRANSIT = false ∧ s.flag HEATH_DOMAIN_CTRL.FORCE_CORE = false ∧
       s.flag HEATH_DOMAIN_STATUS.CORE_ON = true ∧ s.coreIdle = true) ∧
    (up.ps.booting = false ∧ up.flag HEATH_DOMAIN_CTRL.FORCE_STEWARD = false ∧ up.flag HEATH_DOMAIN_STATUS.STEWARD_ON = true ∧
      up.stewardIdle = true) ∧
    { up with hdg := { wakeIn := true } }.coreIdle = false ∧ (up.setReg MB_IN_FULL 1).stewardIdle = false := by decide

/-- The hypotheses of OrderedShutdownTakesRailByRail can be met. -/
theorem witness_ordered_shutdown :
    (let s := ({ up with ps := { up.ps with shut := some {} } } : State).setRail 0 { state := 2 }
     s.ps.shut = some {} ∧ ({} : Shut).phase = 0 ∧ s.firstUp.isSome = true) ∧
    (let k : Shut := ⟨1, 3, 5, 0⟩
     let s := ({ up with ps := { up.ps with shut := some k } } : State).setRail 3 { state := 6, vref := 64 * 300 }
     s.ps.shut = some k ∧ k.phase = 1 ∧ k.rail < 4 ∧ (s.rail k.rail).vref ≤ 64 * 300) ∧
    (let k : Shut := ⟨2, 0, 5, 0⟩
     let s := { up with ps := { up.ps with shut := some k } }
     s.ps.shut = some k ∧ k.phase = 2 ∧ (s.setRail 0 { state := 2 }).firstUp.isSome = true ∧
       s.firstUp = none ∧ s.ps.req = none ∧ k.why ≠ 3) := by decide

/-- The hypotheses of PortWhilePorstIsAsserted can be met. -/
theorem witness_porst_asserted :
    (let s := { State.reset with ps := { vaon := true } }
     s.ps.vaon = true ∧ s.ps.porst = false) ∧
    ((0xFFC < 0x1000 ∨ 0xFFC = HEATH_DOMAIN_STATUS) ∧ (findReg 0).isSome = true ∧ (findReg HEATH_DOMAIN_STATUS).isSome = true ∧
      Who.host ≠ .rsvd) ∧
    (0xFFC < 0x1000 ∧ findReg 0xFFC = none) ∧ ¬ (0x1004 < 0x1000 ∨ 0x1004 = HEATH_DOMAIN_STATUS) := by decide

/-- The hypotheses of InboundSlotsFillOnceAndThenRefuse can be met. -/
theorem witness_inbound_slots :
    31 < 32 ∧ up.portOpen ∧ up.allowed true .mailbox (MB_IN_W1H 31) .host = true ∧ bitAt (up.reg MB_IN_FULL) 31 = false ∧
    (let s := up.setReg MB_IN_FULL (2 ^ 31)
     s.portOpen ∧ s.allowed true .mailbox (MB_IN_W1H 31) .host = true ∧ bitAt (s.reg MB_IN_FULL) 31 = true) := by decide

/-- The hypotheses of MailboxBitsFollowTheHost can be met. -/
theorem witness_mailbox_bits : up.portOpen ∧ up.noTurn ∧ up.ctxWaits ∧
    ∀ m ∈ [1, 31], (up.cmd m).isNone = true ∧ bitAt (up.reg MB_IN_FULL) m = false := by decide

/-- The hypotheses of RegisterPortReadsAndWrites can be met. -/
theorem witness_register_port : up.portOpen ∧
    (∃ d, findReg BUD_POOL = some d ∧ BUD_POOL % 4 = 0 ∧ plainReg BUD_POOL = true ∧ up.absent BUD_POOL = false ∧
      up.flag HEATH_DOMAIN_STATUS.CORE_ON = true ∧ up.allowed true d.wr BUD_POOL .host = true ∧
      up.allowed true d.wr BUD_POOL (.tenant 3) = false) ∧
    (∃ d, findReg MB_OUT_MASK = some d ∧ MB_OUT_MASK < 0x3000 ∧ plainReg MB_OUT_MASK = true ∧
      up.allowed true d.wr MB_OUT_MASK .host = true) ∧
    ((0xFFFFF % 4 ≠ 0) ∧ findReg 0xFFC = none ∧ 0xFFC < 0xA0000 ∧ findReg 0xB2000 = none) ∧
    (∃ d f, findReg BUD_POOL = some d ∧ BUD_POOL % 4 = 0 ∧ f ∈ d.fields ∧ f.ty = .rws ∧ up.absent BUD_POOL = false) ∧
    (∃ d, findReg (HDG_COMMIT_T 0) = some d ∧ HDG_COMMIT_T 0 % 4 = 0 ∧ isLowWord (HDG_COMMIT_T 0) = true ∧
      up.flag HEATH_DOMAIN_STATUS.CORE_ON = true) := by
  refine ⟨by decide, ⟨_, rfl, by decide⟩, ⟨_, rfl, by decide⟩, by decide,
    ⟨_, _, rfl, by decide, List.mem_cons_self .., by decide, by decide⟩, _, rfl, by decide, by decide, by decide⟩

/-- The hypotheses of CaptureAndRingControls can be met. -/
theorem witness_captures_and_rings : up.portOpen ∧ up.built 0 ≠ 0 ∧ up.built 3 ≠ 0 ∧
    (let s := given up [(RAIL_CAP_STATUS.STATE 3, 1)]
     s.portOpen ∧ bitAt 2 0 = false ∧ (s.capState 3 = 1 ∨ s.capState 3 = 2)) ∧
    up.fld RING_STATUS.STATE < 2 ∧ (given up [(RING_STATUS.STATE, 1)]).fld RING_STATUS.STATE < 2 ∧
    2 ≤ (given up [(RING_STATUS.STATE, 3)]).fld RING_STATUS.STATE ∧
    bitsOf 0x100 18 8 ≠ up.fld RING_LEN.ARB ∧ bitsOf 0x100 18 8 ≤ 1024 := by decide

/-- The hypotheses of HubWritesForceAndClear can be met. -/
theorem witness_hub_writes :
    (let s := given up [(FH_SRC.IMPL 255, 1), (ACC_STATE.STATE, 2), (ACC_STATE.SCOPE, 31)]
     s.portOpen ∧ 255 < 256 ∧ s.flag (FH_SRC.IMPL 255) = true ∧ bitAt (2 ^ 24) 24 = true ∧ s.hasScope 2 = true ∧
       s.flag FH_FIRST.VALID = false) ∧
    (let s := { up.setReg (FH_PEND 7) (2 ^ 31 + 1) with levels := 2 ^ 255 }
     s.portOpen ∧ 7 < 8 ∧ (∀ b ∈ [0, 31], bitAt (2 ^ 31 + 1) b = true ∧ bitAt (s.reg (FH_PEND 7)) b = true ∧
       bitAt (s.reg (FH_LATCHED 7)) b = false) ∧ bitAt s.levels (32 * 7 + 31) = true ∧ bitAt s.levels (32 * 7) = false) := by decide +kernel

/-- R464: what is cleared while its level condition holds is raised again. -/
theorem test_level_raised_again : gives (.fhPendClear 7 (2 ^ 31) .host) { up.setReg (FH_PEND 7) (2 ^ 31) with levels := 2 ^ 255 }
    (fun t => t.reg (FH_PEND 7) == 0 && t.raises == [⟨255, 0, false⟩]) = true := by decide +kernel

/-- The hypotheses of HostEndsWhatItAcknowledges can be met. -/
theorem witness_host_ends : up.portOpen ∧ up.built 3 ≠ 0 ∧ up.phaseCause 3 (SMap.get (fun _ => {}) (up.rail 3).phases 31) = 0 ∧
    (let s := up.setRail 0 { phases := [(0, { flt := true })] }
     s.phaseCause 0 (SMap.get (fun _ => {}) (s.rail 0).phases 0) ≠ 0) ∧
    (given up [(TIME_STATUS.BACKSTEP, 1)]).flag TIME_STATUS.BACKSTEP = true ∧
    (let s := { up with fw := { waitLoad := some 5 } }
     s.portOpen ∧ s.fw.waitLoad.isSome = true ∧ s.fw.trying = 0 ∧ s.fw.readLeft = 0 ∧ (2 ^ 13 - 1) % 2 ^ 13 ≠ 0) ∧
    (given up [(ACC_STATE.STATE, 2)]).fld ACC_STATE.STATE = 2 := by decide

/-- The hypotheses of ClassesRiseAndFallAtTheAgent can be met. -/
theorem witness_classes :
    (let s := agent0 { run := true, pocket := 31, held := [(600, 0)] }
     s.ps.porst = true ∧ s.hasCluster 0 = true ∧ 3 < 4 ∧ 7 < 8 ∧ (s.agent 0).run = true ∧
       ((s.agent 0).engine 3).req < min 7 4 ∧ ((s.agent 0).engine 3).grant < min 7 4 ∧
       s.quanta (min 7 4) - s.quanta ((s.agent 0).engine 3).grant ≤ (s.agent 0).heldSum + (s.agent 0).pocket ∧
       s.mayGrantLocally 0 = true) ∧
    (let s := up
     (s.agent 0).run = true ∧ ((s.agent 0).engine 0).req < min 1 4 ∧ ((s.agent 0).engine 0).grant < min 1 4 ∧
       (s.agent 0).heldSum + (s.agent 0).pocket < s.quanta (min 1 4) - s.quanta ((s.agent 0).engine 0).grant) ∧
    live.mayGrantLocally 0 = false ∧
    (let s := agent0 { run := true, engines := [{ req := 4, grant := 4 }, {}, {}, {}] }
     (s.agent 0).run = true ∧ 0 < ((s.agent 0).engine 0).req ∧ 3 < ((s.agent 0).engine 0).grant) ∧
    ((agent0 {}).agent 0).run = false := by decide

/-- The hypotheses of StoresReturnToTheHalfPool can be met. -/
theorem witness_stores :
    (let s := agent0 { run := true, held := [(5, 7)] }
     s.ps.porst = true ∧ s.hasCluster 0 = true ∧ (s.agent 0).held = (5, 7) :: [] ∧ (s.agent 0).idleSince = some 0 ∧
       (s.agent 0).run = true) ∧
    (let s := agent0 { reclaim := true }
     (s.agent 0).reclaim = true ∧ (s.agent 0).active = false ∧ (s.agent 0).run = false) := by decide

/-- The hypotheses of RequestsGrantsAndReportsArrive can be met. -/
theorem witness_requests :
    (let s := agent0 { run := true, engines := [{ req := 4 }, {}, {}, { incoming := some (4, 0), req := 4 }], reports := [3] }
     s.coreRuns = true ∧ s.hasCluster 0 = true ∧ 3 < 4 ∧ (s.agent 0).run = true ∧
       ((s.agent 0).engine 0).counted < ((s.agent 0).engine 0).req ∧
       ((s.agent 0).engine 1).req ≤ ((s.agent 0).engine 1).counted ∧
       s.ps.porst = true ∧ ((s.agent 0).engine 3).incoming = some (4, 0) ∧
       0 = ((s.agent 0).engine 3).grant ∧ 0 ≤ min 4 ((s.agent 0).engine 3).req ∧
       s.quanta (min 4 ((s.agent 0).engine 3).req) ≤ s.quanta 4 ∧ (s.agent 0).reports = 3 :: []) := by decide

/-- Room under the ceiling, credit and caps for a grant. -/
def roomy : State :=
  given { up with arb := { credit := 500, unann := 400 } }
    [(ADM_CEILING.CEIL, 3000), (ADM_CTRL.FLOOR_EN, 0), (⟨ADM_CTX_MAX 0, 31, 0⟩, 0x10000)]

/-- The hypotheses of ArbiterGrantsRefillsAndRevokes can be met. -/
theorem witness_arbiter :
    (let sl : ReqSlot := { cluster := 0, engine := 3, cls := 4 }
     let s := { roomy with arb := { roomy.arb with slots := [sl] } }
     s.coreRuns = true ∧ s.admits = true ∧ s.excess = 0 ∧ s.arb.slots = [sl] ∧ s.arb.resvs = [] ∧
       s.arb.wave = false ∧ s.requested < s.fld ADM_WAVE.THRESH ∧ s.frozen (stripeOf sl.cluster) = false ∧
       s.paused (halfOf sl.cluster) = false ∧ sl.engine < 4 ∧
       s.ctxOut (s.ctxOf sl.cluster) + s.slotNeed sl ≤ s.capQ (s.ctxOf sl.cluster) ∧ 0 < s.arb.credit ∧ 0 < s.arb.unann ∧
       (s.slotNeed sl : Int) ≤ s.roomFor (s.ctxOf sl.cluster) ∧ s.halfFits (halfOf sl.cluster) (s.slotNeed sl) = true) ∧
    (let s := roomy.setAgent 0 { run := true, engines := [{ req := 1, grant := 1 }, {}, {}, {}] }
     s.coreRuns = true ∧ s.hasCluster 0 = true ∧ s.admits = true ∧ (s.agent 0).active = true ∧
       s.flag (AGT_CFG.POCKET_EN 0) = true ∧ s.excess = 0 ∧ s.arb.slots = [] ∧ s.ctxOut (s.ctxOf 0) < s.capQ (s.ctxOf 0) ∧
       0 < s.arb.credit ∧ s.frozen (stripeOf 0) = false ∧ s.paused (halfOf 0) = false ∧ (s.agent 0).reclaim = false ∧
       0 < min (s.fld ADM_POCKET.SIZE - (s.agent 0).pocket) (min (s.roomFor (s.ctxOf 0)).toNat (s.capQ (s.ctxOf 0) - s.ctxOut (s.ctxOf 0))) ∧
       s.halfFits (halfOf 0) (min (s.fld ADM_POCKET.SIZE - (s.agent 0).pocket)
         (min (s.roomFor (s.ctxOf 0)).toNat (s.capQ (s.ctxOf 0) - s.ctxOut (s.ctxOf 0)))) = true) ∧
    (let s := { roomy with arb := { roomy.arb with revoking := true } }
     s.coreRuns = true ∧ s.excess = 0 ∧ s.arb.revoking = true) ∧
    (let s := up.setAgent 0 { run := true, engines := [{ req := 4, grant := 4 }, {}, {}, {}] }
     s.coreRuns = true ∧ 0 < s.excess) ∧
    (let s := given { up with arb := { up.arb with resvs := [{ id := 5, live := true, unclaimed := [(0, 4000)] }] } } [(ADM_CEILING.CEIL, 20)]
     0 < s.excess ∧ s.excess ≤ (s.arb.resvs.map (fun r => (r.unclaimed.map (fun p => p.2)).sum)).sum) := by decide

/-- Two grants above the ceiling together, the context of neither above its cap or its floor. -/
def aboveCeiling : State :=
  let a : Agent := { run := true, engines := [{ req := 4, grant := 4 }, {}, {}, {}] }
  given (({ up with tie := ⟨3, 0, 0⟩ }.setAgent 0 a).setAgent 1 a)
    [(ADM_SLOPE_DN.DN, 0xFFFF), (⟨ADM_CTX_MAX 0, 31, 0⟩, 0x10000), (⟨ADM_CTX_MAX 1, 31, 0⟩, 0x10000), (ADM_CEILING.CEIL, 12),
     (AGT_CFG.CTX 1, 1), (ADM_CTRL.FLOOR_EN, 1), (ADM_CTX_MIN.MIN 0, 0x10000), (ADM_CTX_MIN.MIN 1, 0x10000)]

/-- The hypotheses of ArbiterGrantsRefillsAndRevokes about a grant that a pass revokes can be met. -/
theorem witness_revoked :
    let s := aboveCeiling
    s.coreRuns = true ∧ 0 < s.excess ∧ s.hasCluster 1 = true ∧ s.ctxOut (s.ctxOf 1) ≤ s.capQ (s.ctxOf 1) ∧
      s.ctxOut (s.ctxOf 1) ≤ s.floorQ (s.ctxOf 1) ∧
      gives .revocationPass s (fun t => s.freedBy ((s.agent 1).engine 0) != 0 && ((t.agent 1).engine 0).grant == 0 &&
        ((t.agent 1).engine 0).incoming == none && ((s.agent 1).engine 0).counted != 0) = true := by decide +kernel

/-- The hypotheses of StepsAndReservationsRunTheirCourse can be met. -/
theorem witness_reservations :
    (up.coreRuns = true ∧ up.admits = true) ∧
    (let r : Reservation := { id := 5, prebias := true, shares := [(0, 4)] }
     let s := { up with arb := { up.arb with resvs := [r] } }
     s.arb.resvs.find? (fun x => x.id == 5 && !x.live) = some r ∧ s.arb.resvs.find? (fun x => x.id == 5) = some r) ∧
    (let r : Reservation := { id := 5, live := true, prebias := true, shares := [(0, 4)], unclaimed := [(0, 4)] }
     let s := { up with arb := { up.arb with resvs := [r] } }
     s.coreRuns = true ∧ s.admits = true ∧ s.arb.resvs.find? (fun x => x.id == 5 && x.live && !x.joined) = some r ∧
       0 < r.open_ (fun _ => true) ∧ s.arb.resvs.find? (fun x => x.id == 5 && x.live) = some r ∧ r.prebias = true ∧
       0 < (r.shares.map (fun p => p.2)).sum ∧ r.claimed = false) ∧
    (let r : Reservation := { id := 5, live := true }
     let s := { up with arb := { up.arb with resvs := [r], wave := true } }
     s.arb.resvs.find? (fun x => x.id == 5 && x.live && !x.joined) = some r ∧ r.open_ (fun _ => true) = 0 ∧ s.arb.wave = true) := by decide

/-- The hypotheses of StileQueuesIntervalsAndLongWaits can be met. -/
theorem witness_stile_intervals_waits :
    (1 < 2 ∧ up.coreRuns = true ∧ up.asleep 1 = false ∧ up.stileCount 1 = 0) ∧
    (let s := given { up with hdg := { stileS := 63 } } [(STILE_STATUS.ASLEEP_S, 1)]
     s.coreRuns = true ∧ s.asleep 1 = true ∧ s.stileCount 1 < 64 ∧ s.hdg.stileQ.filter (fun p => p.1 == 1) = [] ∧
       (s.halfClusters 1).all (fun c => (s.agent c).clkLive) = true) ∧
    (let s := given (agent0 { run := true, engines := [{}, {}, {}, { waitFrom := some 5 }] }) [(RING_STATUS.STATE, 1), (RING_TRIG.SOURCES, 128)]
     s.ps.porst = true ∧ s.hasCluster 0 = true ∧ (s.agent 0).run = true ∧ 3 < 4 ∧ ((s.agent 0).engine 3).waitFrom = some 5 ∧
       ((s.agent 0).engine 3).exceeded = false ∧ s.fld RING_STATUS.STATE = 1 ∧ bitAt (s.fld RING_TRIG.SOURCES) 7 = true) := by decide

/-- The hypotheses of EdgesMoveTheLadder can be met. -/
theorem witness_edges :
    (let s := agent0 { run := true, det := { lvl := 1, timer := 32, valid := 1 } }
     s.ps.porst = true ∧ s.hasCluster 0 = true ∧ (s.agent 0).run = true ∧ 0 < (s.agent 0).det.lvl ∧ (s.agent 0).det.timer ≤ 32 ∧
       s.detected 0 255 = 0 ∧ s.forcedLevel 0 = 0) ∧
    (let s := agent0 { det := { d := 2, stopUntil := 1 } }
     s.skyNs < (s.agent 0).det.stopUntil ∧ (s.agent 0).det.d ≠ 3) := by decide

/-- The hypotheses of DetectorsAreCalibratedAndJudged can be met. -/
theorem witness_detectors :
    (let s := agent0 { det := { cal := some { window := 6 } } }
     s.ps.porst = true ∧ s.hasCluster 0 = true ∧ (s.agent 0).det.cal = some { window := 6 } ∧ ({ window := 6 } : FastCal).window < 7) ∧
    (let s := agent0 { det := { cal := some { window := 7 } } }
     (s.agent 0).det.cal = some { window := 7 } ∧ 7 ≤ ({ window := 7 } : FastCal).window) ∧
    (let s := { agent0 { run := true, det := { valid := 1 } } with now := 400000000 }
     s.roundDue (s.agent 0).det 300000000 = true ∧ s.roundDue (s.agent 0).det 1 = false ∧ (s.agent 0).run = true ∧ bitAt (s.agent 0).det.valid (s.agent 0).det.point = true ∧ (s.agent 0).det.cal = none ∧
       s.flag (AGT_DRP_CFG.TRIM_FIX 0) = false ∧ ((s.agent 0).det.noisyAt < 300000000 ∨ (s.agent 0).det.noisyAt = 0) ∧ (s.agent 0).det.lvl = 0 ∧
       (s.agent 0).det.d = 0 ∧ s.noStep = true) ∧
    (let s := { agent0 { run := true, det := { valid := 1, lvl := 1, notQuiet := 7 } } with now := 400000000 }
     s.roundDue (s.agent 0).det 300000000 = true ∧ (s.agent 0).run = true ∧ bitAt (s.agent 0).det.valid (s.agent 0).det.point = true ∧ (s.agent 0).det.cal = none ∧
       s.flag (AGT_DRP_CFG.TRIM_FIX 0) = false ∧ 0 < (s.agent 0).det.lvl ∧ 8 ≤ (s.agent 0).det.notQuiet + 1) ∧
    (let s := given (agent0 { det := { severeSince := some 5 } }) [(DRP_CTRL.STUCK_EN, 1)]
     (s.agent 0).det.severeSince = some 5 ∧ s.flag DRP_CTRL.STUCK_EN = true ∧ (s.agent 0).det.stuck = false) ∧
    (let s := agent0 { det := { stuck := true, clear := 1024 } }
     (s.agent 0).det.stuck = true ∧ (s.agent 0).det.clear = 1024) := by decide

/-- The hypotheses of DroopEngineFreezesAndReleases can be met. -/
theorem witness_droop_engine :
    (let s := agent0 { det := { reports := 1 } }
     s.coreRuns = true ∧ s.hasCluster 0 = true ∧ 0 < (s.agent 0).det.reports ∧
       (s.freezeScope 0).any (fun st => !bitAt s.drp.freeze st) = true) ∧
    (let s := { up with drp := { freeze := 2 ^ 15, freezeEnd := [(15, 9)], proEnd := [(15, 9)], gorse := 1 } }
     s.coreRuns = true ∧ 15 < 16 ∧ SMap.find s.drp.freezeEnd 15 = some 9 ∧ bitAt s.drp.freeze 15 = true ∧
       SMap.find s.drp.proEnd 15 = some 9 ∧ s.drp.gorseOn = false ∧ s.drp.gorse ≠ 0) := by decide

/-- The hypotheses of SamplesHoldsShedsAndRecalibrations can be met. -/
theorem witness_samples_and_holds :
    (let s := up.setRail 0 { state := 5, holdAt := some 5, shedSince := some 5, n := 48 }
     s.dpwmRuns = true ∧ s.railUsed 0 = true ∧ ((s.rail 0).state = 0 ∨ (s.rail 0).state = 5) ∧
       (s.rail 0).holdAt = some 5 ∧ s.ps.bring = false ∧ s.ps.shut = none ∧ s.stopped = false ∧ s.pstate ≠ 0 ∧
       s.ps.railsReady = true ∧ (s.rail 0).shedSince = some 5 ∧ s.phaseTarget 0 < (s.rail 0).n) ∧
    (let s := up.setRail 3 { state := 2, shedSince := some 5 }
     s.dpwmRuns = true ∧ 3 < 4 ∧ s.railUsed 3 = true ∧ (s.rail 3).state = 2 ∧ (s.rail 3).ssSearch = none ∧
       (s.rail 3).remote.state = 0 ∧ ({ remote := some 5 } : SampleIn).remote.isSome = true ∧
       (given s [(RAIL_SENSE.FROZEN_EN 3, 0)]).flag (RAIL_SENSE.FROZEN_EN 3) = false ∧ (s.rail 3).n ≤ s.phaseTarget 3) ∧
    up.flag HEATH_DOMAIN_STATUS.DPWM_ON = true := by decide

/-- The hypotheses of AvsbusReadsRetriesAndLosses can be met. -/
theorem witness_avsbus :
    (up.ps.porst = true ∧ up.flag HEATH_DOMAIN_STATUS.DPWM_ON = true ∧ up.avs.busy = 0 ∧ up.avs.settleAt = none ∧
      up.avs.attempts < 3 ∧ up.ps.bring = false) ∧
    (let s := { up with avs := { attempts := 3, outRun := 2, vinAt := some 5, stale := false } }
     s.avs.busy = 0 ∧ 3 ≤ s.avs.attempts ∧ 2 ≤ s.avs.outRun ∧ 0 < s.avs.attempts ∧ s.avs.settleAt = none ∧
       s.avs.vinAt = some 5 ∧ s.avs.stale = false) ∧
    (let a : AvsIn := { good := true, vin := 1599 }
     a.good = true ∧ a.vin < 65536 ∧ (a.vin < 1600 ∨ 2000 < a.vin) ∧ a.iout < 65536 ∧ a.temp < 65536) ∧
    (let a : AvsIn := { good := true, more := [{ good := true }, { good := true, alert := true }] }
     a.good = true ∧ a.next.good = true ∧ a.next.next.good = true ∧ a.next.next.alert = true) ∧
    (let a : AvsIn := { good := true, more := [{ good := true }, { good := false }] }
     a.next.good = true ∧ a.next.next.good = false) ∧
    ({ good := true, more := [{ good := false }] } : AvsIn).next.good = false ∧
    (let a : AvsIn := { good := true, vin := 2000 }
     a.good = true ∧ a.vin < 65536 ∧ 1600 ≤ a.vin ∧ a.vin ≤ 2000) ∧
    ({ good := false } : AvsIn).good = false := by decide

/-- The hypotheses of InjectionsAndCapturesEnd can be met. -/
theorem witness_injections_and_captures :
    (let s := given (up.setRail 3 { inj := some {} }) [(RAIL_CAP_STATUS.STATE 3, 2)]
     s.dpwmRuns = true ∧ 3 < 4 ∧ (s.rail 3).inj = some {} ∧ s.capState 3 = 2 ∧ (s.rail 3).cap.left = 0) := by decide

/-- The hypotheses of LimiterStepsTheOperatingPoint can be met. -/
theorem witness_limiter :
    up.coreRuns = true ∧
    (let s := given (points 1) [(OPP_HOST_CAP.CAP, 0)]
     s.lim.step.kind = 0 ∧ s.stepsBarred = false ∧ s.lim.restep = false ∧ s.target < s.opIndex) ∧
    (let s := ({ points 0 with lim := { downAt := some 5 } }.setRail 0 { vref := 44800 }).setRail 1 { vref := 44800 }
     s.lim.step.kind = 0 ∧ s.stepsBarred = false ∧ s.lim.restep = false ∧ s.opIndex < s.target ∧ s.voltsSettled = true ∧ s.lim.downAt = some 5) ∧
    (let s := { points 1 with lim := { step := { kind := 2, goal := 0 } } }
     s.handshakeReady = true) ∧
    (let s := { up with lim := { step := { kind := 1 }, req := true } }
     s.ps.porst = true ∧ s.lim.req = true ∧ s.lim.restep = false ∧ s.lim.toZero = false ∧ s.lim.timedOut = false ∧ s.lim.step.kind = 1) ∧
    (let s := { up with lim := { step := { kind := 2 }, req := true } }
     s.lim.req = true ∧ s.lim.restep = false ∧ s.lim.step.kind = 2) ∧
    (let s := { up with lim := { ack := true } }
     s.ps.porst = true ∧ s.lim.ack = true) ∧
    (let s := { up with lim := { req := true, restep := true } }
     s.ps.porst = true ∧ s.lim.req = true ∧ s.lim.restep = true ∧ s.lim.toZero = false ∧ s.lim.step.kind ≠ 4 ∧
       s.flag HEATH_DOMAIN_STATUS.IN_TRANSIT = false ∧ 2 ≤ s.pstate) := by decide +kernel

/-- A window of a leader or follower that is enabled, with its decision. -/
def window3 (s : State) (x : Window) : State :=
  (given s [(BUD_CTRL.WIN_EN, 15), (BUD_WIN_LEN.LEN 3, 1), (OPP_PT_B.POOL_MAX 0, 1600)]).setWindow 3 x

/-- The hypotheses of WindowsCloseDecideAndApply can be met. -/
theorem witness_windows :
    (let s := window3 up { decision := some 1 }
     3 < 4 ∧ s.coreRuns = true ∧ s.winOn 3 = true ∧ 0 < s.slotNs 3 ∧ s.leader = true ∧ (s.window 3).decision = some 1) ∧
    (let s := given (window3 up { decision := some 1 }) [(BUD_WIN_CAP.POOL_CUT 3, 1)]
     s.flag (BUD_WIN_CAP.POOL_CUT 3) = true) ∧
    (let s := given (window3 up { decision := some 1 }) [(BUD_WIN_CAP.CAP 3, 1)]
     s.flag (BUD_WIN_CAP.POOL_CUT 3) = false ∧ 0 < s.fld (BUD_WIN_CAP.CAP 3)) ∧
    (let s := given (window3 up { decision := some 1 }) [(BUD_WIN_CAP.CAP 3, 0)]
     s.flag (BUD_WIN_CAP.POOL_CUT 3) = false ∧ s.fld (BUD_WIN_CAP.CAP 3) = 0) ∧
    (let s := given (window3 up { decision := some 2 }) [(BUD_WIN_CAP.CAP 3, 0)]
     (s.window 3).decision = some 2 ∧ s.flag (BUD_WIN_CAP.POOL_CUT 3) = false ∧ s.fld (BUD_WIN_CAP.CAP 3) ≠ 31) ∧
    (let s := (window3 { below with est := { below.est with dieP := [(1, 70000)] } } { slots := [(1, [4000000, 500000])] }).setReg (BUD_SHARE_WIN 3) 1
     s.leader = false ∧ 0 < s.slotNs 3 ∧ s.winOver 3 (((s.aloneBoundary 3).window 3).energy s.dieId) (s.reg (BUD_SHARE_WIN 3)) = true ∧
       s.reg (BUD_SHARE_WIN 3) * 1000 < s.dieP s.dieId ∧ s.flag (BUD_WIN_CAP.POOL_CUT 3) = false ∧ 0 < s.fld (BUD_WIN_CAP.CAP 3)) := by decide

/-- The hypotheses of TheGorseLineAndTheSupplyCap can be met. -/
theorem witness_gorse_and_supply :
    (live.ps.vaon = true ∧ live.lim.pinLow = false ∧ live.ps.porst = true) ∧
    (up.coreRuns = true ∧ up.hasCluster 0 = true ∧ (up.agent 0).run = true) ∧
    (let s := { up with lim := { pinLow := true, highAt := some 5, alertAt := some 5 } }
     s.ps.porst = true ∧ s.lim.pinLow = true ∧ s.lim.highAt = some 5 ∧ s.coreRuns = true ∧ s.lim.alertAt = some 5) := by decide

/-- The hypotheses of IntervalsMeasureAndCalibrate can be met. -/
theorem witness_intervals :
    up.coreRuns = true ∧
    (let s := given { up with est := { nMs := 1 } } [(EST_CTRL.CAL_EN, 1), (EST_STATUS.MODEL_VALID, 1), (EST_CTRL.MODE, 0)]
     s.coreRuns = true ∧ s.measured = false ∧ s.counts 3 = false ∧ (s.setRail 0 { meterMs := { n := 1 } }).counts 0 = true) := by decide

/-- The hypotheses of ThermalRoundsAndPredictions can be met. -/
theorem witness_thermal_rounds :
    (let s := given up [(THM_CTRL.XCHK_EN, 0)]
     s.roundsRun = true ∧ s.thm.extra = false ∧ (siteIn [⟨95, true, 9000⟩] 95).done = true ∧ s.flag THM_CTRL.XCHK_EN = false ∧
       s.flag THM_STATUS.NO_SITES = false ∧ 95 < 96) ∧
    (let s := given up [(THM_CTRL.XCHK_EN, 0), (SITE_TRIM.GAIN 95, 0x4000)]
     (s.siteValue (siteIn [⟨95, true, 9000⟩] 95)).isSome = true) ∧
    ((List.range 96).all (fun k => (up.siteValue (siteIn [] k)).isNone) = true) ∧
    { up with thm := { extra := true } }.thm.extra = true ∧
    (let s := given { up with thm := { fresh := false, nodes := List.replicate 16 0 } } ((THM_THR.SHUTDOWN, 105) :: (List.range 16).map (fun i => (THM_NODE_K.K i, 0)))
     s.thm.nodes.length = 16 ∧ s.thm.fresh = false ∧ s.inReset = false ∧ s.flag HEATH_DOMAIN_STATUS.CORE_ON = true ∧
       (List.range 16).all (fun i => s.fld (THM_NODE_K.K i) == 0) = true ∧
       (hottest s.thm.nodes).2 < (s.thr THM_THR.SHUTDOWN - 16 * (s.fld THM_PRED.MARGIN : Int)) * 65536) := by decide +kernel

/-- The hypotheses of TripsGraceAndCompensation can be met. -/
theorem witness_trips_and_grace :
    (let s := given { points 1 with thm := { deadline := some 5 } } [(THM_STATUS.THROTTLE, 1)]
     s.ps.porst = true ∧ s.inReset = false ∧ s.thermOn = true ∧ s.flag HEATH_DOMAIN_STATUS.CORE_ON = true ∧
       s.thm.deadline = some 5 ∧ s.flag THM_STATUS.THROTTLE = true ∧
       s.thm.shutdown = false ∧ s.thm.pool = none ∧ 0 < min (if s.thm.cap = 0x1F then s.top else s.thm.cap) s.opIndex) ∧
    up.flag THM_STATUS.THROTTLE = false ∧
    (up.ps.vaon = true ∧ 95 < 96 ∧ up.flag (SITE_CFG.ATRIP_MASK 95) = false ∧ up.ps.shut = none ∧ up.ps.bring = false ∧
      up.stopped = false ∧ up.pstate ≠ 0) ∧
    (let s := given up [(THM_CTRL.TRIP_FOLLOW, 1)]
     s.ps.porst = true ∧ s.ownTrip = false ∧ s.flag THM_CTRL.TRIP_FOLLOW = true ∧ s.ps.req = none ∧ s.ps.bring = false ∧
       s.ps.shut = none ∧ s.ps.railsReady = true ∧ s.stopped = false ∧ s.pstate ≠ 0) ∧
    (let s := given up [(HEATH_DOMAIN_STATUS.PSTATE, 0), (THM_CTRL.HEATH_SITE, 95), (SITE_TRIM.GAIN 95, 0x4000)]
     s.pstate = 0 ∧ s.ps.vaon = true ∧ s.ps.booting = false ∧ s.stopped = false ∧ s.flag THM_STATUS.NO_SITES = false ∧
       s.fld THM_CTRL.HEATH_SITE < 96 ∧
       (s.siteValue ⟨s.fld THM_CTRL.HEATH_SITE, true, 9000⟩).isSome = true) ∧
    (3 < 4 ∧ up.flag HEATH_DOMAIN_STATUS.CORE_ON = true ∧ up.inReset = false ∧ bitAt up.tie.mems 3 = true ∧
      up.flag (THM_MEM.STALE 3) = false) := by decide +kernel

/-- The hypotheses of MemoryBandwidthCapFollowsThrottle can be met. -/
theorem witness_bandwidth_cap :
    3 < 4 ∧ up.roundsRun = true ∧
    (let s := { up with thm := { memIn := [(2, 900), (3, 1600), (3, 1500)] } }
     s.roundsRun = true ∧ s.thm.memIn.filter (fun p => p.1 == 3) = [(3, 1600), (3, 1500)] ∧
       s.thm.memIn.filter (fun p => p.1 == 1) = []) ∧
    up.flag HEATH_DOMAIN_STATUS.CORE_ON = true ∧ up.inReset = false ∧ bitAt up.tie.mems 3 = true := by decide

/-- A flit is taken from an instance of which none has been taken yet. -/
theorem takes_first (s : State) (h : FlitHdr) (c : (s.link h.src).epoch = none ∧ h.src < 8 ∧ s.hears h = true ∧
    h.bad = false ∧ h.nak = false ∧ h.seq % 64 = (s.link h.src).rxSeq % 64 ∧ h.more = false) : s.takes h := by
  obtain ⟨e, c1, c2, c3, c4, c5⟩ := c
  exact ⟨c1, c2, c3, by simp [c4], by simp [e], c5⟩

/-- A follower with the Hedgerow's state `k`; die 0 leads, as the strap exchange has shown. -/
def led (k : Hedgerow) : State := { below with hdg := { k with links := [(0, { strap := some (0, true) })] } }

/-- A leader with the Hedgerow's state `k`; die 1 follows. -/
def leads (k : Hedgerow) : State := { up with hdg := { k with links := [(1, { strap := some (1, false) })] } }

theorem of_leader (s : State) (h : FlitHdr) (c : (s.link h.src).epoch = none ∧ h.src < 8 ∧ s.hears h = true ∧
    h.bad = false ∧ h.nak = false ∧ h.seq % 64 = (s.link h.src).rxSeq % 64 ∧ h.more = false)
    (d : s.leader = false ∧ h.src = s.leaderDie ∧ s.flag HDG_STATUS.AUTONOMOUS = false) : s.fromItsLeader h :=
  ⟨takes_first s h c, d⟩

theorem of_follower (s : State) (h : FlitHdr) (c : (s.link h.src).epoch = none ∧ h.src < 8 ∧ s.hears h = true ∧
    h.bad = false ∧ h.nak = false ∧ h.seq % 64 = (s.link h.src).rxSeq % 64 ∧ h.more = false)
    (d : s.leader = true ∧ bitAt s.dieMask h.src = true) : s.fromAFollower h :=
  ⟨takes_first s h c, d⟩

/-- The hypotheses of TheLeadersFlitsActAtAFollower can be met. -/
theorem witness_leaders_flits :
    (let s := led { rx := [(BUD_POOL, 40000)] }
     s.fromItsLeader {} ∧ s.inReset = false ∧ (s.hdg.rx.length ≠ 2 ∨ stageCrc s.hdg.rx ≠ 0) ∧ s.hdg.rx.length = 1 ∧
       stageCrc s.hdg.rx = stageCrc [(BUD_POOL, 40000)] ∧ s.cmds = [] ∧ ({} : FlitHdr).nak = false ∧
       (s.prepareFaults s.hdg.rx (if 0 = 5 then none else s.hdg.rxAct) []).2 = 0 ∧ 3 < 4 ∧ 65535 < 65536) ∧
    (let p : Prepared := { id := 3, kind := 0 }
     let s := led { prepared := some p }
     s.fromItsLeader {} ∧ s.hdg.prepared = some p ∧ p.t = none) :=
  ⟨⟨of_leader _ _ (by decide) (by decide), by decide +kernel⟩, of_leader _ _ (by decide) (by decide), by decide⟩

/-- The hypotheses of TheLeadersFlitsActAtAFollower about forwarded commands can be met. -/
theorem witness_forwarded :
    (let s := given (led {}) [(HEATH_RESET_CTRL.BLOCK_RESET, 1)]
     s.fromItsLeader {} ∧ s.inReset = true) ∧
    (let s := given { led {} with unattended := false } [(RING_STATUS.STATE, 3), (FH_SRC.IMPL 255, 1), (ACC_STATE.STATE, 1)]
     s.fromItsLeader {} ∧ s.inReset = false ∧ s.unattended = false ∧ s.countersJudge 0 1 0 1 none = stOk ∧
       s.countersJudge 0 0 0 1 none ≠ stOk ∧ s.ringJudge 1 0 1 none = stOk ∧ s.ringJudge 9 0 1 none ≠ stOk ∧
       bitAt 2 1 = true ∧ bitAt 1 0 = true ∧ s.flag (FH_SRC.IMPL 255) = true ∧ s.flag (FH_SRC.IMPL 254) = false ∧
       s.srcBit FH_LATCHED 255 = false ∧ s.hasScope 2 = false ∧ s.captureStatus 9 0 1 ≠ stOk) ∧
    (let s := given (led {}) [(ACC_STATE.STATE, 2), (ACC_STATE.SCOPE, 31), (FH_SRC.IMPL 255, 1), (FH_SRC.EN 255, 1), (FH_SRC.REACT 255, 0),
       (STILE_STATUS.ASLEEP_N, 1), (RING_STATUS.STATE, 3)]
     s.hasScope 2 = true ∧ s.flag (FH_SRC.EN 255) = true ∧ (s.forceFault 255 0).2.inReset = false ∧
       s.ringJudge 0 0 1 none = stOk ∧ s.stileHolds (halfOf 0) = true) ∧
    (let s := led {}
     s.unattended = true ∧ s.fld RING_STATUS.STATE < 2 ∧ (s.armTrigger 0 0 1 1).1 = stOk) ∧
    (let s := (given (led {}) [(RAIL_CAP_STATUS.STATE 3, 3)]).setRail 3 { cap := { armed := true } }
     s.captureStatus 3 0 1 = stOk) :=
  ⟨⟨of_leader _ _ (by decide) (by decide), by decide⟩, ⟨of_leader _ _ (by decide) (by decide), by decide +kernel⟩, by decide +kernel,
   by decide +kernel, by decide +kernel⟩

/-- The hypotheses of TheLeadersFlitsActAtAFollower about DATA can be met. -/
theorem witness_data :
    (let s := { led {} with fw := { copy := some (2, [7]) } }
     s.fromItsLeader {} ∧ s.stopped = false ∧ s.fw.copy = some (2, [7]) ∧ (∀ old, s.fw.copy ≠ some (1, old)) ∧
       s.ps.booting = false ∧ s.fw.reboot = false ∧ s.ps.catchUp = false) ∧
    (given (led {}) [(HEATH_BOOT_STATUS.STOPPED, 1)]).stopped = true ∧
    { led {} with ps := { below.ps with catchUp := true } }.ps.catchUp = true ∧
    (15 < 16 ∧ 2 ^ 40 - 1 < 2 ^ 40) ∧ (Bulk.obsSums []).ofFollower = true :=
  ⟨⟨of_leader _ _ (by decide) (by decide), by decide, by decide, by simp, by decide⟩, by decide, by decide, by decide, rfl⟩

/-- The hypotheses of AFollowersFlitsActAtTheLeader can be met. -/
theorem witness_followers_flits :
    (let c : Commit := { act := .config, phase := 1, wait := 6 }
     let s := leads { running := some c }
     s.fromAFollower { src := 1 } ∧ s.hdg.running = some c ∧ c.phase = 1 ∧ bitAt c.wait 1 = true ∧ maskClear c.wait 1 ≠ 0 ∧
       c.act ≠ .catchUp 1) ∧
    (let c : Commit := { act := .config, phase := 1, wait := 2 }
     let s := leads { running := some c }
     s.fromAFollower { src := 1 } ∧ s.hdg.running = some c ∧ c.phase = 1 ∧ bitAt c.wait 1 = true ∧ maskClear c.wait 1 = 0 ∧
       s.inReset = false ∧ c.bad = 0 ∧ (∀ id, c.act ≠ .release id) ∧ c.act ≠ .catchUp 1) ∧
    (let a : Active := { stage := 1, hdr := { opcode := 4 } }
     let s := { leads { fwd := [(255, (32, 1, 5))] } with cmds := [(32, a)] }
     s.fromAFollower { src := 1 } ∧ SMap.find s.hdg.fwd 255 = some (32, 1, 5) ∧ s.cmd 32 = some a ∧ a.acc = [] ∧
       s.cmds.any (fun p => p.2.hdr.opcode == 0x0505) = false ∧ 255 < 256 ∧ 31 < 32) :=
  ⟨⟨of_follower _ _ (by decide) (by decide), by decide⟩,
   ⟨of_follower _ _ (by decide) (by decide), by decide, by decide, by decide, by decide, by decide, by decide, nofun, nofun⟩,
   of_follower _ _ (by decide) (by decide), by decide⟩

/-- The hypotheses of AFollowersFlitsActAtTheLeader about event records and what is sent again can be met. -/
theorem witness_follower_events :
    ((leads {}).fromAFollower { src := 1 } ∧ (leads {}).sessionState ≠ 1 ∧
      (leads {}).ses.heldEvents + (leads {}).ses.events.length + (leads {}).ses.writing.length < 64) ∧
    64 ≤ ({ leads {} with ses := { heldEvents := 64 } } : State).ses.heldEvents ∧
    (let s := given { leads {} with ses := { evtCount := 16 } } [(CMD_SESSION.STATE, 1)]
     s.fromAFollower { src := 1 } ∧ s.sessionState = 1 ∧ s.ses.evtCount ≠ 0 ∧ s.ses.events.length + s.ses.writing.length < 64) ∧
    (let s := (leads {}).setWord 256 { set := true }
     s.fromAFollower { src := 1 } ∧ (s.word 256).set = true ∧ (s.wordDies 256).contains 1 = true ∧ (s.link 1).queue = [] ∧
       s.fld (HDG_DIE_STATE.STATE 1) ≠ 2) ∧
    Bulk.ofFollower (.session true) = false :=
  ⟨⟨of_follower _ _ (by decide) (by decide), by decide, by decide⟩, by decide,
   ⟨of_follower _ _ (by decide) (by decide), by decide⟩, ⟨of_follower _ _ (by decide) (by decide), by decide⟩, rfl⟩

/-- The hypotheses of LinksCarryRetryAndFail can be met. -/
theorem witness_links :
    (let s := leads {}
     1 < 8 ∧ s.hears { src := 1 } = true ∧ ({ src := 1, bad := true } : FlitHdr).bad = true ∧ s.takes { src := 1 } ∧ s.leader = true ∧
       crc16 (List.replicate 14 0) ≠ pNum (List.replicate 16 0) 14 2 ∧
       (let bs := 15 :: List.replicate 13 0
        (s.link 1).epoch = none ∧ crc16 ((bs ++ leBytes 2 (crc16 bs)).take 14) = pNum (bs ++ leBytes 2 (crc16 bs)) 14 2 ∧
          0x0E < pByte (bs ++ leBytes 2 (crc16 bs)) 0)) ∧
    (let s := { up with hdg := { links := [(1, { strap := some (1, false), epoch := some 5 })] } }
     let bs := [1, 0, 0, 0, 4, 0] ++ List.replicate 8 0
     s.hears { src := 1 } = true ∧ (s.link 1).epoch = some 5 ∧
       crc16 ((bs ++ leBytes 2 (crc16 bs)).take 14) = pNum (bs ++ leBytes 2 (crc16 bs)) 14 2 ∧
       olderEpoch (pNum (bs ++ leBytes 2 (crc16 bs)) 4 2) 5 = true) ∧
    (let k : Link := { epoch := some 5, unacked := [⟨0, 0, .heartbeat 3 false false, false, 1, 0⟩] }
     let s := { up with hdg := { links := [(1, k)] }, ps := { up.ps with exchange := true } }
     let h : FlitHdr := { src := 1, epoch := 5, ackVld := true }
     s.hears h = true ∧ h.bad = false ∧ (s.link h.src).epoch = some h.epoch ∧ h.ackVld = true ∧ h.nak = false ∧
       (s.link h.src).queue = [] ∧ s.ps.exchange = true) ∧
    (let x : TxFlit := ⟨0, 0, .heartbeat 3 false false, false, 3, 0⟩
     let s := { up with hdg := { links := [(1, { unacked := [x] })] } }
     1 < 8 ∧ s.ps.porst = true ∧ (s.link 1).unacked = x :: [] ∧ x.tries < 4) ∧
    (let x : TxFlit := ⟨0, 0, .heartbeat 3 false false, false, 4, 0⟩
     let s := { up with hdg := { links := [(1, { unacked := [x] })] } }
     (s.link 1).unacked = x :: [] ∧ 4 ≤ x.tries ∧ s.ps.exchange = false ∧ (s.link 1).failed = false ∧ 1 ≠ s.dieId ∧ s.fld (HDG_DIE_STATE.STATE 1) ≠ 3) ∧
    (let s := leads {}
     s.ps.exchange = false ∧ s.flag HEATH_DOMAIN_STATUS.CORE_ON = true ∧ 1 ∈ s.instances ∧ (s.link 1).awake = true ∧
       (s.link 1).unacked.length < 16 ∧ (s.link 1).queue = [] ∧ s.fld (HDG_DIE_STATE.STATE 1) ≠ 2 ∧ (s.link 1).missed < 2) ∧
    (let s := { up with hdg := { links := [(1, { strap := some (1, false), missed := 2 })] } }
     s.ps.porst = true ∧ s.ps.exchange = false ∧ 1 ∈ s.instances ∧ (s.link 1).awake = true ∧ s.fld (HDG_DIE_STATE.STATE 1) ≠ 2 ∧
       2 ≤ (s.link 1).missed ∧ s.leader = true) ∧
    (let s := { below with hdg := { links := [(0, { strap := some (0, true), missed := 2 })] } }
     s.ps.porst = true ∧ s.ps.exchange = false ∧ 0 ∈ s.instances ∧ (s.link 0).awake = true ∧ s.fld (HDG_DIE_STATE.STATE 0) ≠ 2 ∧
       2 ≤ (s.link 0).missed ∧ s.leader = false ∧ 0 = s.leaderDie) ∧
    (let s := { up with hdg := { links := [(7, { awake := false, wakeAt := some 5 })] } }
     7 < 8 ∧ (s.link 7).failed = false ∧ s.ps.porst = true ∧ 7 ≠ s.dieId ∧ (s.link 7).wakeAt = some 5 ∧ (s.link 7).awake = false ∧
       s.fld (HDG_DIE_STATE.STATE 7) ≠ 3) :=
  ⟨⟨by decide, by decide, by decide, takes_first _ _ (by decide), by decide +kernel⟩, by decide +kernel, by decide, by decide,
   by decide, by decide, by decide, by decide, by decide⟩

/-- The hypotheses of CommitsStartApplyAndTimeOut can be met. -/
theorem witness_commits :
    (let c : Commit := { act := .config }
     let s := leads { queue := [c] }
     s.leader = true ∧ s.inReset = false ∧ s.ps.porst = true ∧ s.fw.paused = false ∧ s.hdg.running = none ∧ s.hdg.queue = c :: [] ∧
       s.mayStart c = true ∧ c.act = .config ∧ s.nothingStaged = true) ∧
    (let c : Commit := { act := .share }
     let s := leads { queue := [c] }
     s.hdg.queue = c :: [] ∧ s.mayStart c = true ∧ (∀ id, c.act ≠ .release id) ∧ (∀ d, c.act ≠ .catchUp d) ∧ c.act ≠ .config ∧
       (s.prepareFaults (s.valuesFor c.act s.dieId) (some c.act) (if c.act.hostStarted then s.hdg.fabStaged else [])).2 = 0) ∧
    (let c : Commit := { act := .config, phase := 1, wait := 2 }
     let s := leads { running := some c }
     (s.ps.porst = true ∧ s.inReset = false) ∧ s.hdg.running = some c ∧ c.phase = 1 ∧ c.wait ≠ 0 ∧ ∀ d, c.act ≠ .catchUp d) ∧
    (let p : Prepared := { id := 3, kind := 0 }
     let s := led { prepared := some p }
     s.ps.porst = true ∧ s.leader = false ∧ s.hdg.prepared = some p ∧ p.t = none) ∧
    (let a : Active := { stage := 1, hdr := { opcode := 4 } }
     let s := { leads { fwd := [(255, (32, 1, 5))] } with cmds := [(32, a)] }
     s.ps.porst = true ∧ SMap.find s.hdg.fwd 255 = some (32, 1, 5) ∧ s.cmd 32 = some a ∧ a.acc = []) ∧
    (let p : Prepared := { id := 3, kind := 0, t := some 35000, regs := [(BUD_POOL, 77)] }
     let s := led { prepared := some p }
     s.ps.porst = true ∧ s.hdg.prepared = some p ∧ p.t = some 35000 ∧ s.hdg.running = none ∧
       wordOff BUD_POOL = false ∧ (p.regs.filter (fun q => q.1 == BUD_POOL)).getLast? = some (BUD_POOL, 77)) ∧
    (let p : Prepared := { id := 3, kind := 0, t := some 35000, regs := [(RAIL_INJ_CTRL 3, 2), (RAIL_INJ_CTRL 3, 1)] }
     3 < 4 ∧ (p.regs.filter (fun q => q.1 == RAIL_INJ_CTRL 3)).getLast? = some (RAIL_INJ_CTRL 3, 1)) ∧
    (let p : Prepared := { id := 3, kind := 0, t := some 35000 }
     let c : Commit := { act := .config, phase := 2 }
     let s := leads { prepared := some p, running := some c }
     s.hdg.prepared = some p ∧ s.hdg.running = some c ∧ c.phase = 2 ∧ s.leader = true ∧ c.act = .config) ∧
    (let s := leads { catching := [(7, 5)] }
     7 < 8 ∧ s.leader = true ∧ 7 ≠ s.dieId ∧ SMap.find s.hdg.catching 7 = some 5 ∧ s.fld (HDG_DIE_STATE.STATE 7) ≠ 3) ∧
    (let s := { led {} with ps := { below.ps with catchUp := true } }
     s.leader = false ∧ 1 = s.dieId ∧ s.ps.catchUp = true ∧ s.flag HDG_STATUS.AUTONOMOUS = false) :=
  ⟨by decide, ⟨by decide, by decide, nofun, nofun, by decide, by decide⟩, ⟨by decide, by decide, by decide, by decide, nofun⟩, by decide, by decide,
   by decide, by decide, by decide, by decide, by decide⟩

/-- A leader that is node 50 of an Edvik, with peer 7 its parent in group 9 and release 3 at hand. -/
def node (b : RelBuf) : State := given
  { up with fab := { peers := [(7, {})], groups := [(0, { id := 9, depth := 1, parent := 7, children := [8], dieMask := 1 })],
                     bufs := [b], sentRate := [(0, 256)], retryAt := [(0, 5)] } }
  [(FAB_CTRL.EN, 1), (FAB_NODE.NODE_ID, 50), (FAB_REL.BUFS, 1)]

theorem new_frame (s : State) (f : FrameHdr) (c : s.fabRuns = true ∧ s.fromPeer f = true) (d : s.peer f.src = some {}) :
    s.newFrame f := ⟨c.1, c.2, {}, d, nofun, nofun⟩

/-- A frame of peer 7. -/
def from7 : FrameHdr := { src := 7, dst := 50 }

/-- The hypotheses of EdvikFramesAct can be met. -/
theorem witness_edvik :
    (let s := node { id := 3, src := 7 }
     s.fabRuns = true ∧ 50 = s.nodeId ∧ 7 ≠ s.nodeId ∧ 7 ≠ 0xFFFF ∧ (s.peer 8 = none → s.fab.peers.length < 4096) ∧
       from7.dst = s.nodeId ∧ s.fromPeer from7 = true ∧ s.newFrame from7 ∧ slotOfGroup s.fab.groups 9 = some 0 ∧
       (s.treeOf 0).contains from7.src = true ∧ 8 ≠ s.nodeId ∧ 9 ≠ 0xFFFF ∧ s.buf 4 = none ∧ s.fabDown = false ∧
       s.fld FAB_REL.BUFS ≤ s.bufsUsed ∧ (given s [(FAB_REL.BUFS, 2)]).bufsUsed < (given s [(FAB_REL.BUFS, 2)]).fld FAB_REL.BUFS) ∧
    (let b : RelBuf := { id := 3, src := 7, wait := [7, 8] }
     let s := node b
     s.newFrame from7 ∧ s.buf b.id = some b ∧ b.wait.contains from7.src = true ∧ b.orig = false ∧ b.voted = false ∧
       b.src = from7.src ∧ b.t = none) ∧
    (let b : RelBuf := { id := 3, orig := true, wait := [7] }
     let s := node b
     s.newFrame from7 ∧ s.buf b.id = some b ∧ b.wait.contains from7.src = true ∧ b.orig = true ∧ b.nobuf = false ∧
       b.timeout = false ∧ b.wait.all (fun n => n == from7.src) = true) :=
  ⟨⟨by decide, by decide, by decide, by decide, by decide, by decide, by decide, new_frame _ _ (by decide) (by decide), by decide⟩,
   ⟨new_frame _ _ (by decide) (by decide), by decide⟩, new_frame _ _ (by decide) (by decide), by decide⟩

/-- The hypotheses of FabricTimersAndSkylark can be met. -/
theorem witness_fabric_timers :
    (let x : TxFrame := ⟨10, .relAbort 3, 0, 0⟩
     let p : Peer := { unacked := [x] }
     let s := (node { id := 3 }).setPeer 7 p
     s.ps.porst = true ∧ s.fabRuns = true ∧ s.peer 7 = some p ∧ p.unacked.find? (fun y => y.seq == x.seq) = some x ∧
       x.tries < s.fld FAB_RTX.RETRIES ∧ (given s [(FAB_RTX.RETRIES, 0)]).fld FAB_RTX.RETRIES ≤ x.tries ∧ p.reachable = true) ∧
    (let s := node { id := 3 }
     let g : Group := { id := 9, depth := 1, parent := 7, children := [8], dieMask := 1 }
     s.groupAt 0 = some g ∧ SMap.find s.fab.sentRate 0 = some 256 ∧ s.nodeRate g ≤ 256 ∧ SMap.find s.fab.retryAt 0 = some 5) ∧
    (let s := up.setWord 256 { set := true, resend := true }
     s.ps.porst = true ∧ (s.word 256).set = true ∧ s.leader = true ∧ (s.word 256).resend = true) ∧
    (let b : RelBuf := { id := 3 }
     (node b).buf b.id = some b ∧ b.orig = false ∧ b.voted = false ∧ b.t = none) ∧
    (let b : RelBuf := { id := 3, orig := true }
     (node b).buf b.id = some b ∧ b.orig = true ∧ b.t = none) ∧
    (up.ps.porst = true ∧ up.leader = true ∧ up.flag TIME_STATUS.BACKSTEP = false ∧ up.sky.expected = none ∧ up.sky.holdFrom = none ∧
      below.sky.holdFrom = none ∧ below.leader = false) ∧
    (let s := { up with sky := { ns := 1000, expected := some 1000 } }
     s.sky.expected.isSome = true ∧ s.skyGated = false ∧ s.sky.step = false ∧ (s.phaseError 1000 (15 % 16)).natAbs ≤ s.stepLimit.toNat) ∧
    (let s := given { below with sky := { edge := 5, expected := some 9 } } [(HEATH_DOMAIN_STATUS.CORE_ON, 0)]
     s.ps.porst = true ∧ s.skyGated = true ∧ s.leader = false ∧ s.sky.flit = none) ∧
    (let s := given { up with sky := { expected := some 1000 } } [(TIME_STATUS.RESYNC_WAIT, 1)]
     s.sky.expected = some 1000 ∧ s.flag TIME_STATUS.RESYNC_WAIT = true ∧ s.hdg.running = none ∧ s.hdg.queue = [] ∧ s.fab.bufs = []) := by decide +kernel

/-- A leader in an attached session whose firmware runs. -/
def session : State := given { up with fw := { running := true } } [(CMD_SESSION.STATE, 1), (HEATH_EPOCH.HOST_EPOCH, 9)]

/-- A GET_INFO packet with parameters of zeros. -/
def packet : List Nat := [4, 0, 0, 0, 77, 0, 0, 0, 9, 0, 8, 0, 64] ++ List.replicate 27 0

/-- The hypotheses of MemoryPortMailboxesAndManagement can be met. -/
theorem witness_memory_port :
    (let x : MemTxn := { job := .reply 31, addr := 64 }
     let a : Active := { stage := 4, left := 2 }
     let s := { up with cmds := [(31, a)], mem := { out := [(31, x)] } }
     31 < 32 ∧ s.noTurn ∧ s.cmd 31 = some a ∧ SMap.find s.mem.out 31 = some x ∧ x.job = .reply 31 ∧ 1 < a.left) ∧
    (let x : MemTxn := { job := .header 0 }
     let s := { up with cmds := [(0, {})], mem := { out := [(31, x)] } }
     s.noTurn ∧ s.cmd 0 = some {} ∧ ({} : Active).mute = false ∧ SMap.find s.mem.out 31 = some x ∧ x.job = .header 0 ∧ 1 ≠ 0) ∧
    (let x : MemTxn := { addr := 64 }
     let s := { up with cmds := [(0, {})], mem := { dead := [(31, some 64)] } }
     s.noTurn ∧ s.cmd 0 = some {} ∧ SMap.find s.mem.out 31 = none ∧ SMap.find s.mem.dead 31 = some (some x.addr)) := by decide

/-- The hypotheses of MemoryPortMailboxesAndManagement can be met. -/
theorem witness_mailboxes_and_management :
    (let s := given (session.setReg MB_IN_FULL (2 ^ 31)) [(MB_IN_W0L.KIND 31, 1), (MB_IN_W1H.HOST_EPOCH 31, 9)]
     31 < 32 ∧ s.noTurn ∧ s.pickable 31 = true ∧ s.fld (MB_IN_W0L.KIND 31) = 1 ∧ s.hostEpoch ≠ 0 ∧
       s.fld (MB_IN_W1H.HOST_EPOCH 31) = s.hostEpoch ∧ (given s [(MB_IN_W1H.HOST_EPOCH 31, 8)]).fld (MB_IN_W1H.HOST_EPOCH 31) ≠ s.hostEpoch) ∧
    (let n : Notice := ⟨1, 64, 5, 32, 9, false⟩
     let s := { session with ses := { replies := [(31, [n])] } }
     s.mayPost 31 = true ∧ s.replyQueue 31 = n :: [] ∧ n.detach = false) ∧
    (let n : Notice := ⟨1, 64, 5, 32, 9, true⟩
     let s := { session with ses := { replies := [(31, [n])] } }
     s.mayPost 31 = true ∧ s.replyQueue 31 = n :: [] ∧ n.detach = true) ∧
    (let n : Notice := ⟨0x20, 64, 5, 32, 9, false⟩
     let s := { session with ses := { events := [n] } }
     s.mayPost 0 = true ∧ s.replyQueue 0 = [] ∧ s.ses.events = n :: [] ∧ n.detach = false) ∧
    (∀ k ∈ [0, 2, 63], (given (session.setReg MB_IN_FULL 1) [(MB_IN_W0L.KIND 0, k)]).pickable 0 = true ∧
      (given (session.setReg MB_IN_FULL 1) [(MB_IN_W0L.KIND 0, k)]).fld (MB_IN_W0L.KIND 0) = k) ∧
    (let s := given (session.setReg MB_IN_FULL 1) [(MB_IN_W0L.KIND 0, 1), (HEATH_EPOCH.HOST_EPOCH, 0)]
     s.noTurn ∧ s.pickable 0 = true ∧ s.fld (MB_IN_W0L.KIND 0) = 1 ∧ s.hostEpoch = 0) ∧
    (let s := { session with ses := { hbOn := true } }
     s.ps.porst = true ∧ s.leader = true ∧ s.attaching = false ∧ s.ses.hbOn = true ∧ s.sessionState = 1) ∧
    (let s := { session with cmds := [(srcMctp, {})] }
     s.endpointUp = true ∧ (s.cmd srcMctp).isSome = true) ∧
    (let h := parseHeader packet
     session.endpointUp = true ∧ session.cmd srcMctp = none ∧ packet.length ≤ 1024 ∧ 32 + h.plen ≤ packet.length ∧ h.reply = 0 ∧
       h.next = 0 ∧ 32 ≤ h.rlen ∧ h.flags < 8 ∧ bitAt h.flags 0 = false ∧ h.rsvd = 0 ∧ h.opcode ≠ 1 ∧
       opcodeOf h.opcode = some (15, 8) ∧ bitAt 15 3 = true ∧ 8 ≤ h.plen ∧ 3 < 4 ∧
       (List.range 32).all (fun k => !bitAt (session.reg MB_IN_FULL) k) = true ∧
       (given (session.setReg MB_IN_FULL (2 ^ 31)) []).slotReady 31 = true) ∧
    ({ session with ses := { pldm := [(1, 2, 3)] } }).ses.pldm = (1, 2, 3) :: [] := by decide +kernel

/-- A command of mailbox 31 that is ready to execute. -/
def act (op : Nat) (ps : List Nat) : Active := { stage := 1, hdr := { opcode := op, plen := ps.length, hostEpoch := 9 }, params := ps }

/-- The state in which it is. -/
def does (op : Nat) (ps : List Nat) : State := { session with cmds := [(31, act op ps)] }

/-- The same with every scope of field access held. -/
def holding (op : Nat) (ps : List Nat) : State := given (does op ps) [(ACC_STATE.STATE, 2), (ACC_STATE.SCOPE, 31)]

/-- The hypotheses of SessionStagingAndFabricOpcodesExecute can be met. -/
theorem witness_sessions :
    (let ps := [1, 0, 96, 234, 0, 16] ++ List.replicate 10 0
     let s := given (does 1 ps) [(HEATH_EPOCH.HOST_EPOCH, 8)]
     let a := act 1 ps
     s.runs 31 0x0001 a ∧ a.hdr.hostEpoch ≠ 0 ∧ a.hdr.hostEpoch < 65536 ∧ a.hdr.hostEpoch ≠ s.hostEpoch ∧ pByte a.params 0 ≤ 1 ∧
       pByte a.params 1 = 0 ∧ (if pByte a.params 0 = 1 then 10 ≤ pNum a.params 2 2 ∧ pNum a.params 2 2 ≤ 60000 else pNum a.params 2 2 = 0) ∧
       pNum a.params 4 2 ≤ 4096 ∧ zeros a.params 6 2 ∧ (pNum a.params 4 2 = 0 ∨ addrBad (pNum a.params 8 8) = false)) ∧
    ((does 2 []).runs 31 0x0002 (act 2 []) ∧ (act 2 []).attach = false ∧ (act 2 []).mute = false ∧ (does 2 []).sessionState = 1) ∧
    (does 3 []).runs 31 0x0003 (act 3 []) ∧
    (let ps := List.replicate 8 0
     (does 4 ps).runs 31 0x0004 (act 4 ps) ∧ pByte ps 0 = (does 4 ps).dieId ∧ bitAt (does 4 ps).dieMask (does 4 ps).dieId = true ∧
       zeros ps 1 7) := by decide +kernel

/-- The hypotheses of SessionStagingAndFabricOpcodesExecute can be met. -/
theorem witness_staging :
    (let ps := [1, 0, 0, 0, 0, 0, 0, 0] ++ leBytes 3 BUD_POOL ++ [0] ++ leBytes 4 5
     let s := does 0x0101 ps
     s.runs 31 0x0101 (act 0x0101 ps) ∧ pNum ps 0 2 ≠ 0 ∧ zeros ps 2 6 ∧ 8 + 8 * pNum ps 0 2 ≤ ps.length ∧
       (∀ k, k < pNum ps 0 2 → stageFits (entryAt ps k).1 (entryAt ps k).2.2 = true ∧
         (pkgStage (entryAt ps k).1 = true ∧ (entryAt ps k).2.1 = 0 ∨
           pkgStage (entryAt ps k).1 = false ∧ dieStage (entryAt ps k).1 = true ∧ s.named (entryAt ps k).2.1 = true)) ∧
       (s.stageEntries ((List.range (pNum ps 0 2)).map (entryAt ps))).2 = false) ∧
    (let s := does 0x0102 []
     s.runs 31 0x0102 (act 0x0102 []) ∧ s.queueRoom = true ∧
       { s with hdg := { queue := List.replicate 9 { act := .config, who := some 1 } } }.queueRoom = false) ∧
    (let s := (does 0x0103 []).setStaged BUD_POOL 99
     s.runs 31 0x0103 (act 0x0103 []) ∧ s.staged ≠ []) ∧
    (let ps := [0, 1] ++ List.replicate 6 0
     let s := does 0x0104 ps
     s.runs 31 0x0104 (act 0x0104 ps) ∧ s.tenantOf 31 = none ∧ pByte ps 0 = s.dieId ∧ s.named s.dieId = true ∧ pByte ps 1 ≤ 1 ∧
       zeros ps 2 6) := by decide +kernel

/-- The hypotheses of SessionStagingAndFabricOpcodesExecute can be met. -/
theorem witness_profiles :
    (let ps := [1] ++ List.replicate 63 0
     let s := does 0x0201 ps
     s.queueRoom = true ∧ s.runs 31 0x0201 (act 0x0201 ps) ∧ pNum ps 0 2 ≠ 0 ∧ pNum ps 0 2 ≤ 126 ∧ zeros ps 2 30 ∧
       32 + 32 * pNum ps 0 2 ≤ ps.length) ∧
    (let ps := [1, 0, 1, 0]
     (does 0x0202 ps).queueRoom = true ∧ (does 0x0202 ps).runs 31 0x0202 (act 0x0202 ps) ∧ pNum ps 2 2 ≠ 0) ∧
    (let ps := List.replicate 16 0 ++ [1]
     (does 0x0203 ps).queueRoom = true ∧ (does 0x0203 ps).runs 31 0x0203 (act 0x0203 ps) ∧ zeros ps 2 6 ∧ pNum ps 16 320 ≠ 0) ∧
    (let ps := List.replicate 16 0 ++ [1]
     (does 0x0204 ps).queueRoom = true ∧ (does 0x0204 ps).runs 31 0x0204 (act 0x0204 ps) ∧ zeros ps 8 8 ∧ pNum ps 16 320 ≠ 0) := by decide +kernel

/-- The hypotheses of SessionStagingAndFabricOpcodesExecute can be met. -/
theorem witness_tables :
    (let ps := [0, 1, 0, 0, 5, 0, 0, 0] ++ leBytes 4 (600 + 700 * 2 ^ 16) ++ leBytes 4 (700 + 1600 * 2 ^ 16) ++ List.replicate 4 0
     let s := does 0x0301 ps
     s.queueRoom = true ∧ s.runs 31 0x0301 (act 0x0301 ps) ∧ s.named (pByte ps 0) = true ∧ zeros ps 5 3 ∧ 1 ≤ pByte ps 1 ∧
       pByte ps 1 ≤ 32 ∧ 8 + 12 * pByte ps 1 ≤ ps.length ∧ pByte ps 2 ≤ 31 ∧ 5 ≤ pByte ps 4 ∧ pByte ps 4 ≤ 50 ∧
       (∀ w ∈ (tableWords ps).drop 1, stageFits w.1 w.2.1 = true)) ∧
    (let ps := [1, 0, 0, 0, 0, 0, 0, 0] ++ leBytes 3 THM_THR ++ [0] ++ leBytes 4 (up.reg THM_THR)
     let s := does 0x0302 ps
     s.queueRoom = true ∧ s.runs 31 0x0302 (act 0x0302 ps) ∧ s.named (pByte ps 2) = true ∧ zeros ps 3 5 ∧ pNum ps 0 2 ≠ 0 ∧
       8 + 8 * pNum ps 0 2 ≤ ps.length ∧
       (∀ k, k < pNum ps 0 2 → thmStage (entryAt ps k).1 = true ∧ (entryAt ps k).2.1 = pByte ps 2 ∧
         stageFits (entryAt ps k).1 (entryAt ps k).2.2 = true) ∧
       (s.stageEntries ((List.range (pNum ps 0 2)).map (entryAt ps))).2 = false) := by decide +kernel

/-- The hypotheses of SessionStagingAndFabricOpcodesExecute can be met. -/
theorem witness_fabric_opcodes :
    (let ps := [1, 0, 0, 0] ++ ([FAB_CTRL, FAB_DISC, FAB_DISC_ADDR 0, FAB_DISC_ADDR 1, FAB_DISC_ADDR 2, FAB_DISC_ADDR 3, FAB_RTX, FAB_PACE,
       FAB_REL, FAB_REL_HOLD].flatMap (fun r => leBytes 4 (up.reg r))) ++ [1, 0, 0, 0, 7, 0, 15, 0] ++ List.replicate 16 1
     let s := does 0x0401 ps
     s.queueRoom = true ∧ s.runs 31 0x0401 (act 0x0401 ps) ∧ pNum ps 44 2 ≤ 64 ∧ 48 + 20 * pNum ps 44 2 ≤ ps.length ∧
       pNum ps 0 2 ≠ 0xFFFF ∧ zeros ps 46 2 ∧ (∀ w ∈ assignWords ps, stageFits w.1 w.2.1 = true) ∧
       (∀ k, k < pNum ps 44 2 → pNum ps (48 + 20 * k) 2 ≠ 0xFFFF ∧ pByte ps (50 + 20 * k) ≤ 15 ∧ pByte ps (51 + 20 * k) = 0)) ∧
    (let ps := [9, 0, 1, 7, 255, 255, 0, 0] ++ List.replicate 32 255 ++ List.replicate 8 0
     (does 0x0402 ps).queueRoom = true ∧ (does 0x0402 ps).runs 31 0x0402 (act 0x0402 ps) ∧ pByte ps 3 < 8 ∧ pByte ps 7 = 0 ∧
       (∀ k, k < 16 → pByte ps 6 ≤ k → pNum ps (8 + 2 * k) 2 = 0xFFFF) ∧ zeros ps 40 8) ∧
    (let ps := [9, 0, 0, 0]
     let s := { does 0x0403 ps with fab := { groups := [(0, { id := 9 })] } }
     s.queueRoom = true ∧ s.runs 31 0x0403 (act 0x0403 ps) ∧ zeros ps 2 2 ∧ slotOfGroup s.fab.groups (pNum ps 0 2) = some 0) ∧
    (let ps := List.replicate 16 0
     (does 0x0404 ps).runs 31 0x0404 (act 0x0404 ps) ∧ zeros ps 4 4 ∧ pNum ps 2 2 = 0) := by decide +kernel

/-- The hypotheses of UnitOpcodesExecute can be met. -/
theorem witness_observation_opcodes :
    ((does 0 []).fld (HEATH_FW_COMP.STATE 5) ≠ 3 ∧ (does 0 []).ctxWaits) ∧
    (let ps := [1] ++ List.replicate 7 0
     (does 0x0501 ps).runs 31 0x0501 (act 0x0501 ps) ∧ pByte ps 0 ≤ 1 ∧ zeros ps 1 7 ∧ (does 0x0501 ps).queueRoom = true) ∧
    (let ps := [0, 0, 1, 0, 0, 0, 1, 0] ++ List.replicate 8 0
     let s := does 0x0502 ps
     s.runs 31 0x0502 (act 0x0502 ps) ∧ pByte ps 0 = s.dieId ∧ s.named s.dieId = true ∧ pByte ps 3 = 0 ∧
       addrBad (pNum ps 8 8) = false ∧ s.countersJudge (pByte ps 1) (pByte ps 2) (pNum ps 4 2) (pNum ps 6 2) (s.tenantOf 31) = stOk ∧
       s.sessionState = 1 ∧ (given s [(CMD_SESSION.STATE, 2)]).sessionState ≠ 1) := by decide +kernel

/-- The hypotheses of UnitOpcodesExecute can be met. -/
theorem witness_ring_and_watch_opcodes :
    (let ps := [0, 0, 9, 0, 255, 7, 0, 0, 15, 0, 0, 0, 0, 0, 0, 0]
     let s := does 0x0503 ps
     s.runs 31 0x0503 (act 0x0503 ps) ∧ pByte ps 0 = s.dieId ∧ s.named s.dieId = true ∧ pByte ps 3 = 0 ∧ pNum ps 4 2 ≤ 2047 ∧
       zeros ps 6 2 ∧ pByte ps 8 ≤ 15 ∧ zeros ps 9 7 ∧ pByte ps 1 = 0 ∧ pNum ps 4 2 ≠ 0 ∧ pByte ps 8 ≠ 0 ∧
       s.fld RING_STATUS.STATE < 2) ∧
    (∀ k ∈ [1, 2], pByte (act 0x0503 ([0, k] ++ List.replicate 14 0)).params 1 = k) := by decide +kernel

/-- The hypotheses of UnitOpcodesExecute can be met. -/
theorem witness_ring_and_watch_reads :
    (let ps := [0, 1, 0, 0, 0, 0, 1, 0] ++ List.replicate 8 0
     let s := given (does 0x0504 ps) [(RING_STATUS.STATE, 3)]
     s.runs 31 0x0504 (act 0x0504 ps) ∧ pByte ps 0 = s.dieId ∧ s.named s.dieId = true ∧ addrBad (pNum ps 8 8) = false ∧
       pNum ps 6 2 ≠ 0 ∧ pByte ps 1 ≤ 3 ∧ s.ringJudge (pByte ps 1) (pNum ps 2 2) (pNum ps 6 2) (s.tenantOf 31) = stOk ∧
       pByte ps 1 ≠ 0 ∧ s.sessionState = 1) ∧
    (let ps := [0, 0, 0, 0, 0, 0, 1, 0] ++ List.replicate 8 0
     let s := { given (does 0x0504 ps) [(STILE_STATUS.ASLEEP_N, 1)] with tie := ⟨1, 0, 0⟩ }
     s.runs 31 0x0504 (act 0x0504 ps) ∧ s.ringJudge (pByte ps 1) (pNum ps 2 2) (pNum ps 6 2) (s.tenantOf 31) = stOk ∧
       pByte ps 1 = 0 ∧ s.stileHolds (halfOf (pNum ps 2 2)) = true ∧ (does 0x0504 ps).stileHolds (halfOf (pNum ps 2 2)) = false) ∧
    (let ps := [15, 3, 0, 0, 1, 0, 0, 0, 0, 16] ++ List.replicate 7 0 ++ [32] ++ List.replicate 6 0
     (does 0x0505 ps).runs 31 0x0505 (act 0x0505 ps) ∧ pByte ps 0 ≤ 15 ∧ pByte ps 1 ≤ 3 ∧ zeros ps 2 2 ∧ zeros ps 6 2 ∧
       pNum ps 8 8 % 4096 = 0 ∧ pNum ps 8 8 ≤ pNum ps 16 8 ∧ pNum ps 16 8 < 2 ^ 52) := by decide +kernel

/-- The hypotheses of UnitOpcodesExecute can be met. -/
theorem witness_firmware_opcodes :
    (let ps := [0, 0, 0, 0, 64, 0, 0, 0] ++ List.replicate 8 0
     let s := { does 0x0601 ps with fw := { running := true, flash := some 1048576 } }
     s.runs 31 0x0601 (act 0x0601 ps) ∧ zeros ps 1 3 ∧ s.fw.hostLoaded = false ∧ s.fw.flash.isSome = true ∧ s.fwBusy = false ∧
       pNum ps 4 4 ≠ 0 ∧ pNum ps 4 4 ≤ s.slotRoom ∧ pByte ps 0 = 0 ∧ 31 < 32 ∧ addrBad (pNum ps 8 8) = false) ∧
    (let ps := [1, 0, 0, 0, 64, 0, 0, 0] ++ List.replicate 8 0
     let s := { does 0x0601 ps with fw := { running := true, flash := some 1048576 } }
     s.runs 31 0x0601 (act 0x0601 ps) ∧ s.fwBusy = false ∧ pByte ps 0 = 1 ∧ zeros ps 8 8 ∧ pNum ps 4 4 ≤ s.slotRoom) ∧
    (let ps := [2, 0, 0, 0, 8, 0, 0, 0] ++ List.replicate 16 0
     let s := { does 0x0601 ps with fw := { running := true, flash := some 1048576, mode := 2, stageLen := 64 } }
     let a := act 0x0601 ps
     s.runs 31 0x0601 a ∧ zeros ps 1 3 ∧ s.fw.hostLoaded = false ∧ s.fw.flash.isSome = true ∧ s.fw.mode = 2 ∧ pByte ps 0 = 2 ∧
       pNum ps 4 4 ≠ 0 ∧ pNum ps 4 4 ≤ 976 ∧ s.fw.stageAt + pNum ps 4 4 ≤ s.fw.stageLen ∧ pNum ps 8 4 = s.fw.stageAt ∧
       zeros ps 12 4 ∧ 16 + pNum ps 4 4 ≤ a.hdr.plen) := by decide +kernel

/-- The hypotheses of UnitOpcodesExecute can be met. -/
theorem witness_end_cancel_activate :
    (let ps := [3] ++ List.replicate 15 0
     let s := { does 0x0601 ps with fw := { running := true, flash := some 1048576, mode := 2, stageLen := 64 } }
     s.runs 31 0x0601 (act 0x0601 ps) ∧ s.fw.mode = 2 ∧ pByte ps 0 = 3 ∧ zeros ps 4 4 ∧ zeros ps 8 8) ∧
    (let ps := [4] ++ List.replicate 15 0
     let s := { does 0x0601 ps with fw := { running := true, flash := some 1048576, mode := 2, stageLen := 64 } }
     s.runs 31 0x0601 (act 0x0601 ps) ∧ s.fw.mode = 2 ∧ pByte ps 0 = 4 ∧ zeros ps 4 4 ∧ zeros ps 8 8) ∧
    (let ps := [7, 0, 0, 0, 0, 0, 0, 0]
     let s := given { does 0x0602 ps with fw := { running := true, passedB := true, verB := some 7 } } [(BUD_CAPS.SUPPLY_CAP, 31)]
     s.runs 31 0x0602 (act 0x0602 ps) ∧ zeros ps 4 4 ∧ s.fw.passedB = true ∧ s.fw.verB = some (pNum ps 0 4) ∧ s.fwBusy = false ∧
       s.actBarred = false ∧ { s with lim := { emergency := true } }.actBarred = true) ∧
    (does 0x0603 []).runs 31 0x0603 (act 0x0603 []) := by decide +kernel

/-- The hypotheses of UnitOpcodesExecute can be met. -/
theorem witness_access_opcodes :
    (let ps := [31, 0, 0, 0, 128, 81, 1, 0]
     let s := given (holding 0x0701 ps) [(ACC_OTP.KEY_SET, 1)]
     s.runs 31 0x0701 (act 0x0701 ps) ∧ zeros ps 2 2 ∧ pNum ps 0 2 ≠ 0 ∧ pNum ps 0 2 ≤ 31 ∧ s.fld ACC_STATE.STATE ≠ 0 ∧
       1 ≤ pNum ps 4 4 ∧ pNum ps 4 4 ≤ 86400 ∧ s.flag ACC_OTP.KEY_SET = true) ∧
    (let ps := [0, 0, 1, 0, 1, 0, 0, 0, 8, 0] ++ List.replicate 70 0
     let s := given (holding 0x0702 ps) [(ACC_OTP.PW_SET, 1), (ACC_OTP.PW_SCOPE, 31)]
     s.runs 31 0x0702 (act 0x0702 ps) ∧ pByte ps 0 = 0 ∧ pByte ps 1 = 0 ∧ zeros ps 10 6 ∧ pNum ps 2 2 ≠ 0 ∧
       s.fld ACC_STATE.STATE ≠ 0 ∧ pNum ps 2 2 ≤ 31 ∧ maskDiff (pNum ps 2 2) (s.fld ACC_OTP.PW_SCOPE) = 0 ∧ 1 ≤ pNum ps 4 4 ∧
       pNum ps 4 4 ≤ 86400 ∧ 8 ≤ pNum ps 8 2 ∧ pNum ps 8 2 ≤ 64 ∧ zeros ps (16 + pNum ps 8 2) (64 - pNum ps 8 2) ∧
       s.flag ACC_OTP.PW_SET = true ∧ s.backoff = false) := by decide +kernel

/-- The hypotheses of UnitOpcodesExecute can be met. -/
theorem witness_access_signature :
    (let ps := [1, 0, 1, 0] ++ List.replicate 204 0
     let x : Nonce := ⟨5, 2, 60, 9⟩
     let s := { given (holding 0x0702 ps) [(ACC_OTP.KEY_SET, 1)] with acc := { nonce := some x } }
     s.runs 31 0x0702 (act 0x0702 ps) ∧ pByte ps 0 = 1 ∧ 208 ≤ ps.length ∧ pByte ps 1 = 0 ∧ zeros ps 4 4 ∧ zeros ps 105 7 ∧
       pNum ps 2 2 ≠ 0 ∧ pNum ps 2 2 ≤ 31 ∧ s.fld ACC_STATE.STATE ≠ 0 ∧ s.flag ACC_OTP.KEY_SET = true ∧ s.acc.nonce = some x ∧
       s.backoff = false ∧ x.scope ≠ pNum ps 2 2) ∧
    ((holding 0x0703 []).runs 31 0x0703 (act 0x0703 []) ∧ (holding 0x0703 []).leader = true ∧ (holding 0x0703 []).fld ACC_STATE.STATE = 2) := by decide +kernel

/-- A password matches wherever the OTP holds its hash. (UnitOpcodesExecute.) -/
theorem witness_password (s : State) (k : Nat) : ({ s with otp := { s.otp with pwHash := k } }).otp.pwHash = k := rfl

/-- The hypotheses of UnitOpcodesExecute can be met. -/
theorem witness_fault_opcodes :
    (let ps := List.replicate 8 0
     let s := does 0x0801 ps
     s.runs 31 0x0801 (act 0x0801 ps) ∧ pByte ps 0 = s.dieId ∧ s.named s.dieId = true ∧ zeros ps 1 7) ∧
    (let ps := [0, 1, 255, 0, 0, 0, 0, 0]
     let s := given (does 0x0802 ps) [(FH_SRC.IMPL 255, 1)]
     s.runs 31 0x0802 (act 0x0802 ps) ∧ pByte ps 0 = s.dieId ∧ s.named s.dieId = true ∧ pByte ps 1 = 1 ∧ zeros ps 4 4 ∧
       pNum ps 2 2 ≤ 255 ∧ s.flag (FH_SRC.IMPL (pNum ps 2 2)) = true ∧ bitAt s.levels (pNum ps 2 2) = false ∧
       s.srcBit FH_LATCHED (pNum ps 2 2) = false) ∧
    (let ps := [0, 0, 255, 0, 0, 0, 0, 0] ++ List.replicate 8 1
     let s := given (holding 0x0803 ps) [(FH_SRC.IMPL 255, 1)]
     s.runs 31 0x0803 (act 0x0803 ps) ∧ pByte ps 0 = s.dieId ∧ s.named s.dieId = true ∧ pByte ps 1 = 0 ∧ zeros ps 4 4 ∧
       pNum ps 2 2 ≤ 255 ∧ s.flag (FH_SRC.IMPL (pNum ps 2 2)) = true ∧ s.hasScope 2 = true) := by decide +kernel

/-- The hypotheses of UnitOpcodesExecute can be met. -/
theorem witness_injection_and_capture_opcodes :
    (let ps := [0, 3, 1, 0] ++ leBytes 2 (65536 - 4096) ++ [1, 0] ++ leBytes 4 1000 ++ [0, 0, 0, 0]
     let s := holding 0x0901 ps
     s.runs 31 0x0901 (act 0x0901 ps) ∧ s.hasScope 0 = true ∧ s.named (pByte ps 0) = true ∧ pByte ps 1 ≤ 3 ∧ pByte ps 2 ≤ 1 ∧
       pByte ps 3 ≤ 3 ∧ 1 ≤ (toSigned 16 (pNum ps 4 2)).natAbs ∧
       (toSigned 16 (pNum ps 4 2)).natAbs ≤ (if pByte ps 2 = 0 then 40 else 4096) ∧ pByte ps 6 ≠ 0 ∧ pByte ps 7 = 0 ∧
       (pByte ps 3 = 0 → 1000 ≤ pNum ps 8 4 ∧ pNum ps 8 4 ≤ 20000000) ∧ zeros ps 14 2 ∧ pByte ps 0 = s.dieId ∧ s.injecting = false ∧
       s.queueRoom = true ∧ (s.setRail 3 { inj := some {} }).injecting = true) ∧
    (let s := given (holding 0x0901 [1]) [(HDG_DIE_STATE.STATE 1, 1)]
     s.hasScope 0 = true ∧ s.named 1 = true ∧ 1 ≠ s.dieId) ∧
    (let ps := [0, 3, 255, 31, 1, 0, 0, 0] ++ List.replicate 8 0
     let s := (given (does 0x0902 ps) [(RAIL_CAP_STATUS.STATE 3, 3)]).setRail 3 { cap := { armed := true } }
     s.runs 31 0x0902 (act 0x0902 ps) ∧ pByte ps 0 = s.dieId ∧ s.named s.dieId = true ∧ pByte ps 1 ≤ 3 ∧
       pNum ps 2 2 + pNum ps 4 2 ≤ 8192 ∧ pNum ps 2 2 ≤ 8191 ∧ zeros ps 6 2 ∧ addrBad (pNum ps 8 8) = false ∧
       s.captureStatus (pByte ps 1) (pNum ps 2 2) (pNum ps 4 2) = stOk ∧ s.sessionState = 1) := by decide +kernel

/-- Firmware that runs, with one more field. -/
def firmware (fw : Firmware) (fs : List (Fld × Nat)) : State := given { up with fw := { fw with running := true } } fs

/-- The hypotheses of FirmwareUserAndAccessAct can be met. -/
theorem witness_firmware :
    (firmware { mode := 3 } []).fw.mode = 3 ∧
    sameBytes [1] (({} : ImageIn).bytes.take 1) = false ∧ sameBytes [] (({} : ImageIn).bytes.take 0) = true ∧
    (firmware { mode := 3 } []).judge {} true true ≠ 0 ∧
    (let s := { firmware {} [(HEATH_FW_STATUS.ACT, 1), (BUD_CAPS.SUPPLY_CAP, 31)] with tie := ⟨1, 0, 0⟩ }
     s.fld HEATH_FW_STATUS.ACT = 1 ∧ s.actBarred = false ∧ s.railsStable = true) ∧
    (let s := { firmware { actWho := some 32 } [(HEATH_FW_STATUS.ACT, 1)] with cmds := [(32, {})] }
     s.fw.actWho = some 32 ∧ s.cmd 32 = some {}) ∧
    (let s := firmware {} [(HEATH_FW_STATUS.ACT, 2)]
     s.fld HEATH_FW_STATUS.ACT = 2 ∧ s.judge {} true false ≠ 0) ∧
    (firmware {} [(HEATH_FW_STATUS.REPAIR, 1)]).flag HEATH_FW_STATUS.REPAIR = true ∧
    (let s := firmware {} [(HEATH_FW_COMP.STATE 1, 1), (HEATH_FW_COMP.STATE 7, 1)]
     s.coresRun = true ∧ s.fld (HEATH_FW_COMP.STATE 1) = 1 ∧ s.fld (HEATH_FW_COMP.STATE 7) = 1 ∧
       (s.recentFaults 7).length < 2) ∧
    2 ≤ ((firmware { faults := [(1, [0, 0])] } []).recentFaults 1).length := by decide +kernel

/-- Images pass the judgements of slot B and of an activation where ECDSA accepts their signature.
(FirmwareUserAndAccessAct.) -/
theorem witness_staged_image_passes
    (h : Config.ecdsaVerify (ofLeBytes image.key) (Config.sha384 image.signed) image.sig = true) :
    (boot 3).slotRoom < image.bodyLen ∧
    (let s := { boot 3 with fw := { flash := some 1048576, mode := 3 } }
     s.fw.mode = 3 ∧ sameBytes s.fw.prog (image.bytes.take s.fw.prog.length) = true ∧ s.judge image true true = 0 ∧
       s.judge image true false = 0) := by
  have e : (boot 3).otp.imageKey = Config.sha384 image.key := rfl
  refine ⟨by decide, by decide, by decide, ?_, ?_⟩ <;>
    simp only [State.judge, h, e, ne_eq, not_true_eq_false, Bool.true_eq_false, or_false] <;> decide +kernel

/-- The hypotheses of FirmwareUserAndAccessAct can be met. -/
theorem witness_user_and_access :
    (let s := firmware { timer := some (100000, 5), logCount := 999 } [(HEATH_FW_COMP.STATE 7, 1)]
     s.userRuns = true ∧ (∃ d, findReg ADM_CEILING = some d ∧ d.pkg = false) ∧ userMay ADM_CEILING = true ∧
       fieldTakes BUD_POOL BUD_POOL.POOL.hi 40000 = true ∧ fieldTakes BUD_POOL BUD_POOL.POOL.hi (2 ^ 32) = false ∧ s.leader = true ∧
       s.queueRoom = true ∧ 100 ≤ 10000000 ∧ s.fw.timer = some (100000, 5) ∧ (s.fw.logCount < 1000 ∨ s.fw.logAt + 1000000000 ≤ s.now)) ∧
    (given up [(ACC_STATE.STATE, 2)]).fld ACC_STATE.STATE = 2 ∧
    ({ up with acc := { nonce := some ⟨5, 1, 60, 9⟩ } }).acc.nonce = some ⟨5, 1, 60, 9⟩ :=
  ⟨⟨by decide, ⟨_, rfl, by decide⟩, by decide⟩, by decide, by decide⟩

/-- The hypotheses of ObservationAndTheFaultHubAct can be met. -/
theorem witness_observation :
    (up.canWake = true ∧ up.inReset = false ∧ 3 < 4 ∧ 15 < 16 ∧ bitAt up.tie.mems 3 = true ∧
      up.flag HEATH_DOMAIN_STATUS.CORE_ON = true ∧ up.leader = true) ∧
    (let s := given up [(OBS_STR_CTRL.EN, 1), (OBS_STR_LEN.VALUE, 1), (OBS_STR_CTRL.CLUSTER_REC, 0), (OBS_STR_CTRL.DIE_REC, 0)]
     s.flag OBS_STR_CTRL.EN = true ∧ s.fld OBS_STR_LEN.VALUE ≠ 0 ∧ s.inReset = false ∧
       s.flag HEATH_DOMAIN_STATUS.CORE_ON = true ∧ s.flag OBS_STR_CTRL.CLUSTER_REC = false ∧
       s.flag OBS_STR_CTRL.DIE_REC = false ∧ s.obs.recNo < 65536) ∧
    (let s := { up with obs := { snapAt := some 5 } }
     s.coreRuns = true ∧ s.obs.snapAt = some 5) ∧
    (let s := given up [(RING_STATUS.STATE, 2)]
     s.ps.porst = true ∧ s.fld RING_STATUS.STATE = 2) ∧
    (let s := given up [(FH_SRC.IMPL 255, 1), (FH_SRC.EN 255, 0)]
     255 < 256 ∧ s.ps.porst = true ∧ s.flag (FH_SRC.IMPL 255) = true ∧ s.raises.find? (fun r => r.src == 255) = none ∧
       s.flag (FH_SRC.EN 255) = false) ∧
    (let s := given up [(FH_SRC.IMPL 255, 1), (FH_SRC.EN 255, 1), (FH_SRC.LATCH 255, 1)]
     s.flag (FH_SRC.EN 255) = true ∧ s.raises.find? (fun r => r.src == 255) = none ∧ s.flag (FH_SRC.LATCH 255) = true ∧
       s.flag FH_FIRST.VALID = false) ∧
    (let s := given { up with hub := { resets := [1, 2, 3] } } [(FH_STATUS.RST_STORM, 1), (FH_CTRL.RST_LIMIT, 3)]
     s.flag FH_STATUS.RST_STORM = true ∧ s.hub.resets[s.hub.resets.length - s.fld FH_CTRL.RST_LIMIT]? = some 1) := by decide

/-- The hypotheses of ContextChangesWaitForRealMailboxes can be met. -/
theorem witness_context_changes : ∃ t, ({ up with ses := { ctxNext := [(2, 7), (31, 9)] } } : State).ctxWaits ∧
    exec .psReqRelease { up with ses := { ctxNext := [(2, 7), (31, 9)] } } = .next t := ⟨_, by decide, rfl⟩

/-- The hypotheses of EveryResetMovesTheBlockEpochOn can be met. -/
theorem witness_epoch :
    (let s := given { State.reset with ps := { vaon := true } } [(HEATH_EPOCH.BLOCK_EPOCH, 0xFFFF)]
     s.ps.vaon = true ∧ 7 < 8 ∧ s.ps.porst = false ∧ s.blockEpoch = 0xFFFF) ∧
    (let s := given up [(FH_SRC.IMPL 255, 1), (FH_SRC.EN 255, 1), (FH_SRC.REACT 255, 4), (FH_CTRL.RST_LIMIT, 3)]
     s.ps.vaon = true ∧ s.portClosed = false ∧ s.leader = true ∧ s.ready = true ∧ s.inReset = false ∧ 255 < 256 ∧
       s.ps.porst = true ∧ s.flag (FH_SRC.IMPL 255) = true ∧ s.flag (FH_SRC.EN 255) = true ∧
       bitAt (s.fld (FH_SRC.REACT 255)) 2 = true ∧ s.recentResets.length < s.fld FH_CTRL.RST_LIMIT) ∧
    (let s := given up [(HEATH_RESET_CTRL.BLOCK_RESET, 1)]
     s.ready = true ∧ s.inReset = true ∧ s.held = []) := by decide +kernel

/-- R105: a block reset moves the epoch from 0xFFFF to 0x0001; a further trigger leaves it and extends the reset. -/
theorem test_reset_epoch :
    gives (.blockResetWrite 0 .host) (given { up with now := 7 } [(ID_TOPOLOGY.DIE_MASK, 1), (HEATH_EPOCH.BLOCK_EPOCH, 0xFFFF)])
      (fun t => t.blockEpoch == 1 && t.inReset && t.ps.resetAt == 7) = true ∧
    gives (.blockResetWrite 0 .host) (given { up with now := 7 } [(HEATH_EPOCH.BLOCK_EPOCH, 5), (HEATH_RESET_CTRL.BLOCK_RESET, 1)])
      (fun t => t.blockEpoch == 5 && t.inReset && t.ps.resetAt == 7) = true := by decide +kernel

/-- The hypotheses of EveryCommandKeepsItsFrame about registers can be met. -/
theorem witness_register_frame :
    (live.ps.vaon = true ∧ live.ps.porst = true ∧ live.regsCanonical ∧ BUD_POOL ∉ live.otp.words.map (fun p => p.1)) ∧
    ¬ inPlaces porstPlaces BUD_POOL ∧ ¬ Instr.mayWrite (.fwLoadGo 0 .host) up BUD_POOL := by
  have clear : ∀ ps : List Place, ps.all (fun p => !p.covers BUD_POOL) = true → ¬ inPlaces ps BUD_POOL := by
    rintro ps h ⟨p, hp, hi⟩
    have := List.all_eq_true.mp h p hp
    rw [p.covers_of_inPlace _ hi] at this
    exact absurd this (by decide)
  refine ⟨⟨by decide, by decide, ⟨List.Pairwise.nil, by simp [live, State.reset]⟩, by decide⟩, clear _ (by decide), ?_⟩
  rintro (⟨o, ho, h | h⟩ | h)
  · cases ho; exact absurd h (by decide)
  · exact clear _ (by decide) h
  · exact absurd h (by decide)

/-- A command that can be executed, and is (CommandsCompleteWhereTheirUnitsExist, EveryCommandKeepsItsFrame,
CommandsOnlyAppendOutputs, TimeNeverRunsBack). -/
theorem witness_executable : ∃ t, Instr.psReqRelease.executable up ∧ exec .psReqRelease up = .next t :=
  ⟨_, show Instr.unitsExist _ _ = true by decide, rfl⟩

end Sys2Proof.Tests
end

section
/-! PROOF of O5 (R5, R53, R104, R328): which registers each command may change. What a step keeps of the registers by their
places stands under Laws; added here are the registers that a step writes at offsets out of the state's data: an access, the
accesses that wait, an applied set, an agent's words, the words of the OTP, what PORST_N leaves. -/

namespace Sys2Proof.Machine

/-- The mask of every part of the state and of the registers of `l`. -/
def partsAnd (l : List Place) : Nat := 0xfffffffff ||| placesMask l

/-- A place with a register is none of the 36 parts of the state. -/
theorem isReg_of_inPlace {p : Place} {off : Nat} (h : inPlace p off) : 36 ≤ p.ctorIdx := by
  cases p <;> first | exact h.elim | decide

/-- A register of none of the places `l` keeps its word, whatever happens to the parts of the state. -/
theorem Kept.reg_of_places {l : List Place} {b t : State} {off : Nat} (k : Kept (partsAnd l) b t)
    (ho : ¬ inPlaces l off) : t.reg off = b.reg off := by
  refine k.reg off (fun p hp hi => ho ⟨p, mem_of_placesMask ?_, hi⟩)
  have hidx := isReg_of_inPlace hi
  have hlow : Nat.testBit 0xfffffffff p.ctorIdx = false :=
    Nat.testBit_lt_two_pow (Nat.lt_of_lt_of_le (by decide) (Nat.pow_le_pow_right (by decide) hidx))
  rwa [partsAnd, Nat.testBit_or, hlow, Bool.false_or] at hp

/-! ### Registers through a list of steps -/

theorem reg_each_other {α : Type} {f : α → State → State} {xs : List α} {o : Nat}
    (hf : ∀ x ∈ xs, ∀ t : State, (f x t).reg o = t.reg o) (s : State) : (each xs f s).reg o = s.reg o := by
  induction xs generalizing s with
  | nil => rfl
  | cons x xs ih =>
    exact (ih (fun y hy => hf y (List.mem_cons_of_mem x hy)) (f x s)).trans (hf x List.mem_cons_self s)

theorem reg_setEach_other {xs : List (Nat × Nat)} {o : Nat} (h : o ∉ xs.map (fun p => p.1)) (s : State) :
    (each xs (fun p t => t.setReg p.1 p.2) s).reg o = s.reg o :=
  reg_each_other (fun _ hp t => t.reg_setReg_other _ _ o (fun e => h (e ▸ List.mem_map_of_mem hp))) s

/-! ### Registers that an access at the port leaves alone -/

theorem State.reg_setStaged (s : State) (off v o : Nat) : (s.setStaged off v).reg o = s.reg o := by
  unfold State.setStaged
  split <;> rfl

theorem State.reg_emit (s : State) (x : Out) (o : Nat) : (s.emit x).reg o = s.reg o := rfl

theorem State.reg_okay (s : State) (v o : Nat) : (s.okay v).reg o = s.reg o := rfl

theorem State.reg_deny_other (s : State) {o : Nat} (h : o ≠ ACC_DENIED) : s.deny.reg o = s.reg o :=
  State.reg_setFld_other _ _ _ _ (Ne.symm h)

theorem State.reg_writeFields_other (s : State) (d : RegDesc) (data : Nat) {off o : Nat} (h : o ≠ off) :
    (s.writeFields d off data).1.reg o = s.reg o := by
  unfold State.writeFields
  dsimp only
  split
  · exact s.reg_setStaged off _ o
  · exact s.reg_setReg_other off _ o h.symm

section
variable {o : Nat} (hp : ¬ inPlaces portPlaces o)
include hp

theorem ne_accDenied_of_portPlaces : o ≠ ACC_DENIED := fun e => hp ⟨.ACC_DENIED, by decide, e⟩

theorem State.reg_writeActs_other (s old : State) (off data : Nat) (who : Who) :
    (s.writeActs old off data who).reg o = s.reg o :=
  (State.writeActs_keeps (partsAnd portPlaces) s s old off data who (by decide) (Kept.refl _ s)).reg_of_places hp

theorem State.reg_written_other (s : State) (d : RegDesc) {off : Nat} (data : Nat) (who : Who) (h : o ≠ off) :
    (s.written d off data who).reg o = s.reg o := by
  have hw := ((s.writeFields d off data).1.reg_writeActs_other hp s off data who).trans (s.reg_writeFields_other d data h)
  unfold State.written
  dsimp only
  split
  · exact (State.reg_deny_other _ (ne_accDenied_of_portPlaces hp)).trans hw
  · exact hw

theorem State.reg_writeOwn_other (s t : State) {off : Nat} (data : Nat) (who : Who) (h : o ≠ off)
    (ht : s.writeOwn off data who = some t) : t.reg o = s.reg o := by
  unfold State.writeOwn at ht
  dsimp only at ht
  split at ht
  · obtain rfl := Option.some.inj ht
    exact (State.clearSources_keeps (partsAnd portPlaces) s s _ (by decide) (Kept.refl _ s)).reg_of_places hp
  split at ht
  · obtain rfl := Option.some.inj ht
    exact (Kept.ite (State.clearFirst_keeps (partsAnd portPlaces) s s (by decide) (Kept.refl _ s))
      (Kept.refl _ s)).reg_of_places hp
  split at ht
  · obtain rfl := Option.some.inj ht
    exact (State.readmit_keeps (partsAnd portPlaces) s s _ _ _ (by decide) (Kept.refl _ s)).reg_of_places hp
  split at ht
  · obtain rfl := Option.some.inj ht
    exact (State.readmit_keeps (partsAnd portPlaces) s s _ _ _ (by decide) (Kept.refl _ s)).reg_of_places hp
  split at ht
  · obtain rfl := Option.some.inj ht
    refine ((State.settleSteward_keeps (partsAnd portPlaces) _ _ (by decide) (Kept.refl _ _)).reg_of_places hp).trans ?_
    exact s.reg_setReg_other off _ o h.symm
  split at ht
  · obtain rfl := Option.some.inj ht
    exact (State.settleSteward_keeps (partsAnd portPlaces) s _ (by decide)
      (Kept.set_ses (by decide) (Kept.refl _ s))).reg_of_places hp
  · cases ht

theorem State.reg_writeWord_other (s : State) (d : RegDesc) {off : Nat} (data : Nat) (who : Who) (h : o ≠ off) :
    (s.writeWord d off data who).reg o = s.reg o := by
  unfold State.writeWord
  split
  · have hover : MB_IN_OVERRUN ≠ o := fun e => hp ⟨.MB_IN_OVERRUN, by decide, e.symm⟩
    exact (State.reg_deny_other _ (ne_accDenied_of_portPlaces hp)).trans (s.reg_setReg_other _ _ o hover)
  split
  · rfl
  split
  · next t ht => exact s.reg_writeOwn_other hp t data who h ht
  · exact s.reg_written_other hp d data who h

theorem State.reg_writeFollower_other (s : State) (d : RegDesc) {off : Nat} (data : Nat) (who : Who) (h : o ≠ off) :
    (s.writeFollower d off data who).reg o = s.reg o := by
  have hdeny := s.reg_deny_other (ne_accDenied_of_portPlaces hp)
  unfold State.writeFollower
  split
  · exact hdeny
  · rfl
  · split
    · rfl
    · exact hdeny
  · split
    · rfl
    · exact ((s.writePlain d off data).reg_writeActs_other hp s off 0 _).trans (s.reg_setReg_other off _ o h.symm)

/-- An access changes the register that it writes, and what it may set going beside it. -/
theorem State.reg_perform_other (s : State) (q : PortReq) (h : q.wr = true → o ≠ q.off) : (s.perform q).reg o = s.reg o := by
  have hwake : (if 0x3000 ≤ q.off ∧ s.canWake = true then s.startCore.lingerFrom false else s).reg o = s.reg o :=
    (Kept.ite (State.lingerFrom_keeps (partsAnd portPlaces) s _ false (by decide)
      (State.startCore_keeps _ s s (by decide) (Kept.refl _ s))) (Kept.refl _ s)).reg_of_places hp
  unfold State.perform
  generalize (if 0x3000 ≤ q.off ∧ s.canWake = true then s.startCore.lingerFrom false else s) = u at hwake ⊢
  refine Eq.trans ?_ hwake
  have hdeny := u.reg_deny_other (ne_accDenied_of_portPlaces hp)
  dsimp only
  split
  · rfl
  split
  · exact (State.debugAccess_keeps (partsAnd portPlaces) u u _ _ _ _ (by decide) (Kept.refl _ u)).reg_of_places hp
  split
  · exact (State.logAccess_keeps (partsAnd portPlaces) u u _ _ _ (by decide) (Kept.refl _ u)).reg_of_places hp
  split
  · split
    · exact hdeny
    · rfl
  split
  · next hw =>
    split
    · exact u.reg_writeFollower_other hp _ _ _ (h hw)
    split
    · exact u.reg_writeWord_other hp _ _ _ (h hw)
    · exact hdeny
  split
  · exact (State.readWord_keeps (partsAnd portPlaces) u u _ _ _ (by decide) (Kept.refl _ u)).reg_of_places hp
  · exact hdeny

theorem State.reg_access_other (s : State) (q : PortReq) (h : q.wr = true → o ≠ q.off) : (s.access q).reg o = s.reg o := by
  have hdo := s.reg_perform_other hp q h
  unfold State.access
  split
  · rfl
  split
  · split
    · exact hdo
    · rfl
  split
  · split <;> rfl
  · exact hdo

theorem State.reg_portWrite_other (s : State) {off : Nat} (data : Nat) (who : Who) (h : o ≠ off) :
    (s.portWrite off data who).reg o = s.reg o := s.reg_access_other hp _ (fun _ => h)

theorem State.reg_portRead_other (s : State) (off : Nat) (who : Who) : (s.portRead off who).reg o = s.reg o :=
  s.reg_access_other hp _ (fun hw => absurd hw Bool.false_ne_true)

theorem State.reg_releaseHeld_other (s : State) (h : o ∉ s.held.map (fun q => q.off)) : s.releaseHeld.reg o = s.reg o :=
  reg_each_other (fun q hq t => t.reg_access_other hp q (fun _ e => h (e ▸ List.mem_map_of_mem hq))) { s with held := [] }

end

/-! ### The end of a block reset -/

theorem not_portPlaces_of_resetEndPlaces {o : Nat} (hp : ¬ inPlaces resetEndPlaces o) : ¬ inPlaces portPlaces o :=
  fun ⟨p, hm, hi⟩ => hp ⟨p, (by decide : ∀ q ∈ portPlaces, q ∈ resetEndPlaces) p hm, hi⟩

theorem State.reg_resetEnds_other (s : State) {o : Nat} (hh : o ∉ s.held.map (fun q => q.off))
    (hp : ¬ inPlaces resetEndPlaces o) : s.resetEnds.reg o = s.reg o := by
  unfold State.resetEnds
  split
  · -- what comes before the accesses leaves the list of those that wait alone
    have hheld : s.resetComplete.operandChange.noteRate.held = s.held :=
      (State.noteRate_keeps (2 ^ 200 - 1 - 2 ^ 34) s _ (by decide) (State.operandChange_keeps _ s _ (by decide)
        (State.resetComplete_keeps _ s s (by decide) (Kept.refl _ s)))).held (by decide)
    have hbefore : s.resetComplete.operandChange.noteRate.reg o = s.reg o :=
      (State.noteRate_keeps (partsAnd resetEndPlaces) s _ (by decide) (State.operandChange_keeps _ s _ (by decide)
        (State.resetComplete_keeps _ s s (by decide) (Kept.refl _ s)))).reg_of_places hp
    calc s.resetComplete.operandChange.noteRate.releaseHeld.settleSteward.reg o
        = s.resetComplete.operandChange.noteRate.releaseHeld.reg o :=
          (State.settleSteward_keeps (partsAnd resetEndPlaces) _ _ (by decide) (Kept.refl _ _)).reg_of_places hp
      _ = s.resetComplete.operandChange.noteRate.reg o :=
          State.reg_releaseHeld_other (not_portPlaces_of_resetEndPlaces hp) _ (hheld ▸ hh)
      _ = s.reg o := hbefore
  · rfl

/-! ### An applied set -/

/-- A snapshot's bank takes the counters as they stand, and the registers that show them keep their words. -/
theorem State.snapFreeze_keeps_apply {b s : State} (id at_ : Nat) (rings : Bool) (h : Kept (partsAnd applyPlaces) b s) :
    Kept (partsAnd applyPlaces) b (s.snapFreeze id at_ rings) := by
  have h0 := State.accrueReasons_keeps _ b s (by decide) h
  unfold State.snapFreeze
  dsimp only
  generalize s.accrueReasons.countersNow = now
  have h2 := Kept.each (xs := s.accrueReasons.agents.map (fun p => p.1))
    (f := fun c t => t.setAgent c { t.agent c with cnt := { (t.agent c).cnt with waitMax := 0 } })
    (Kept.set_obs (x_obs := { s.accrueReasons.obs with
      snapAt := some s.accrueReasons.now
      bank := now.regs.filter (fun p => bankHolds s.accrueReasons.leader p.1) }) (by decide) h0)
    (fun c t ht => State.setAgent_keeps _ b t c _ (by decide) ht)
  have h3 := State.setReg64_at (off := OBS_SNAP_T 0) (v := at_) .OBS_SNAP_T ⟨0, rfl⟩ ⟨1, rfl⟩ (by decide)
    (State.setFld_at (f := OBS_SNAP_STATUS.STATE) (v := 1) .OBS_SNAP_STATUS rfl (by decide)
      (State.setFlag_at (f := OBS_SNAP_STATUS.RINGS) (v := rings) .OBS_SNAP_STATUS rfl (by decide)
        (State.setFld_at (f := OBS_SNAP_STATUS.SNAP_ID) (v := id) .OBS_SNAP_STATUS rfl (by decide) h2)))
  exact Kept.ite (State.fireTrigger_keeps _ b _ 10 0 (by decide) h3) h3

theorem State.applyAct_keeps_apply {b s : State} (id kind at_ : Nat) (act : CommitAct) (h : Kept (partsAnd applyPlaces) b s) :
    Kept (partsAnd applyPlaces) b (s.applyAct id kind at_ act) := by
  unfold State.applyAct
  split
  · next f left => exact Kept.set_obs (by decide) (State.snapFreeze_keeps_apply id at_ f h)
  · exact Kept.set_arb (by decide) h
  · exact Kept.set_arb (by decide) h
  · split
    · exact State.createResv_keeps _ b s _ (by decide) h
    · exact h
  · next c =>
    exact State.noteRate_keeps _ b _ (by decide) (State.operandChange_keeps _ b _ (by decide)
      (Kept.set_fw (x_fw := { s.fw with caps := c }) (by decide) h))
  · exact State.applyRelease_keeps _ b s _ (by decide) h
  · exact h

theorem State.reg_applySet_other (s : State) (p : Prepared) {o : Nat} (hr : o ∉ p.regs.map (fun q => q.1))
    (hp : ¬ inPlaces applyPlaces o) : (s.applySet p).reg o = s.reg o := by
  have hover : (overRegs (p.regs.filter (fun q => !wordOff q.1)) s).reg o = s.reg o := by
    refine reg_setEach_other (fun hm => hr ?_) s
    obtain ⟨q, hq, e⟩ := List.mem_map.mp hm
    exact e ▸ List.mem_map_of_mem (List.mem_filter.mp hq).1
  unfold State.applySet
  dsimp only
  generalize overRegs (p.regs.filter (fun q => !wordOff q.1)) s = u at hover ⊢
  refine Eq.trans (Kept.reg_of_places (l := applyPlaces) ?_ hp) hover
  have h3 := State.applyWords_keeps (partsAnd applyPlaces) u _ p.regs (by decide)
    (State.applyFab_keeps _ u _ s p.fab (by decide) (State.applyEffects_keeps _ u _ s (by decide)
      (State.settleStaged_keeps _ u u (by decide) (Kept.refl _ u))))
  generalize ((u.settleStaged.applyEffects s).applyFab s p.fab).applyWords p.regs = w at h3
  have h4 : Kept (partsAnd applyPlaces) u (match p.act with
      | some a => w.applyAct p.id p.kind (p.t.getD w.skyNs) a
      | none => w) := by
    split
    · exact State.applyAct_keeps_apply _ _ _ _ h3
    · exact h3
  have h6 := State.incSat_at (f := HDG_COMMIT_CNT.APPLIED) (n := 1) .HDG_COMMIT_CNT rfl (by decide)
    (Kept.set_hdg (x_hdg := { (match p.act with
      | some a => w.applyAct p.id p.kind (p.t.getD w.skyNs) a
      | none => w : State).hdg with prepared := none }) (by decide) h4)
  exact Kept.ite (State.tryStepSix_keeps _ u _ (by decide) (Kept.set_ps (by decide) rfl rfl h6)) h6

theorem State.reg_commitApply_other (s : State) {o : Nat}
    (hr : ∀ p, s.hdg.prepared = some p → o ∉ p.regs.map (fun q => q.1)) (hp : ¬ inPlaces applyPlaces o) :
    s.commitApply.reg o = s.reg o := by
  unfold State.commitApply
  split
  · rfl
  next p hprep =>
  split
  · rfl
  next t ht =>
  have hsky : (s.advanceSky t).reg o = s.reg o :=
    (State.advanceSky_keeps (partsAnd applyPlaces) s s t (by decide) (Kept.refl _ s)).reg_of_places hp
  dsimp only
  have hset := fun u : State => u.reg_applySet_other p (hr p hprep) hp
  split
  · next c hc =>
    split
    · have hset2 : (((s.advanceSky t).noteApplied c).applySet
          (match c.act with | .catchUp _ => { p with regs := [], act := none } | _ => p)).reg o = s.reg o := by
        refine Eq.trans ?_ hsky
        split
        · exact State.reg_applySet_other _ _ List.not_mem_nil hp
        · exact hset _
      generalize ((s.advanceSky t).noteApplied c).applySet
          (match c.act with | .catchUp _ => { p with regs := [], act := none } | _ => p) = u at hset2 ⊢
      refine Eq.trans (Kept.reg_of_places (l := applyPlaces) ?_ hp) hset2
      have hshown := State.showCommit_keeps (partsAnd applyPlaces) u _ c.id 1 c.act.kind 0 (by decide)
        (Kept.set_hdg (x_hdg := { u.hdg with fabStaged := u.hdg.fabStaged.drop p.fab.length }) (by decide) (Kept.refl _ u))
      refine State.endCommit_keeps _ u _ (by decide) (State.answerCommit_keeps _ u _ c stOk (by decide) ?_)
      split
      · exact State.dropCatch_keeps _ u _ _ (by decide) hshown
      · exact Kept.set_obs (by decide) hshown
      · exact hshown
    · exact (hset _).trans hsky
  · exact (hset _).trans hsky

/-! ### The end of an agent's interval -/

theorem State.counterWords_offsets (s t : State) (c : Nat) :
    (s.counterWords c).map (fun p => p.1) = (t.counterWords c).map (fun p => p.1) := by
  simp [State.counterWords, pairAt]

theorem State.intervalWords_offsets (s t : State) (c : Nat) (xs ys : List Nat) :
    (s.intervalWords c xs).map (fun p => p.1) = (t.intervalWords c ys).map (fun p => p.1) := by
  simp [State.intervalWords, Function.comp_def]

section
variable {l : List Place} {o : Nat}
  (hl : 0x81c000000000f8000000000000000000000000000000000200 &&& partsAnd l = 0x81c000000000f8000000000000000000000000000000000200)
  (hp : ¬ inPlaces l o)
include hl hp

/-- The words that show an agent are written, its status and the sums follow: the registers of the places `l` hold those. -/
theorem State.reg_showAgent_other (u : State) (c : Nat) (xs : List (Nat × Nat)) (a : State → Agent)
    (hx : o ∉ xs.map (fun p => p.1)) :
    ((((u.setRegs xs).setAgent c (a (u.setRegs xs))).shadow c).refreshSums).reg o = u.reg o := by
  refine Eq.trans (Kept.reg_of_places (b := u.setRegs xs) (l := l) ?_ hp) (reg_setEach_other hx u)
  exact State.refreshSums_keeps _ _ _ (Mask.trans (by decide) hl) (State.shadow_keeps _ _ _ c (Mask.trans (by decide) hl)
    (State.setAgent_keeps _ _ _ c _ (Mask.trans (by decide) hl) (Kept.refl _ _)))

theorem State.reg_closeInterval_other (s u : State) (c : Nat) (counts : List Nat) (early : Bool)
    (ha : ¬ s.agentShows c o) : (u.closeInterval c counts early).reg o = u.reg o := by
  have hwords : ∀ (v : State) (xs : List Nat), o ∉ (v.counterWords c ++ v.intervalWords c xs).map (fun p => p.1) := by
    intro v xs hm
    rw [List.map_append, v.counterWords_offsets s, v.intervalWords_offsets s c xs []] at hm
    exact ha (List.mem_append.mp hm)
  unfold State.closeInterval
  exact (State.reg_showAgent_other hl hp _ c _
    (fun w => { w.agent c with det := { (w.agent c).det with minCode := 63, maxD := 0 } }) (hwords _ _)).trans rfl

end

theorem State.reg_intervalClose_other (s : State) (c edges code : Nat) (counts : List Nat) {o : Nat}
    (ha : ¬ s.agentShows c o) (hp : ¬ inPlaces closePlaces o) : (s.intervalClose c edges code counts).reg o = s.reg o := by
  unfold State.intervalClose
  dsimp only
  split
  · rfl
  generalize max (ceilMult s.skyNs 1000) ((s.agent c).closeAt + 1000) = t
  have hbefore := State.advanceSky_keeps (partsAnd closePlaces) s _ t (by decide)
    (State.intervalEdges_keeps _ s s c edges code t (by decide) (Kept.refl _ s))
  generalize (s.intervalEdges c edges code t).advanceSky t = u at hbefore ⊢
  have hclosed := (s.reg_closeInterval_other (by decide) hp (u.setAgent c { u.agent c with closeAt := u.skyNs / 1000 * 1000 })
    c counts false ha).trans
      ((State.setAgent_keeps _ _ _ c _ (by decide) hbefore).reg_of_places hp)
  generalize (u.setAgent c { u.agent c with closeAt := u.skyNs / 1000 * 1000 }).closeInterval c counts false = v at hclosed ⊢
  exact (Kept.ite (State.bankAgent_keeps (partsAnd closePlaces) v v v c (by decide) (Kept.refl _ v))
    (Kept.refl _ v)).reg_of_places hp |>.trans hclosed

theorem State.reg_runFall_other (s : State) (c : Nat) (counts : List Nat) {o : Nat}
    (ha : ¬ s.agentShows c o) (hp : ¬ inPlaces runFallPlaces o) : (s.runFall c counts).reg o = s.reg o := by
  unfold State.runFall
  dsimp only
  split
  · rfl
  have hreleased := State.dropGrants_keeps (partsAnd runFallPlaces) s _ c true (by decide)
    (State.logReleases_keeps _ s _ c (by decide) (Kept.each (xs := List.range 4)
      (f := fun e t => t.endWait c e true true) (Kept.refl _ s)
      (fun e t ht => State.endWait_keeps _ s t c e true true (by decide) ht)))
  generalize ((each (List.range 4) (fun e t => t.endWait c e true true) s).logReleases c).dropGrants c true = u at hreleased ⊢
  have hfreed : Kept (partsAnd runFallPlaces) s { u with arb := { u.arb with slots := u.arb.slots.filter (fun x => x.cluster != c) } } :=
    Kept.set_arb (by decide) hreleased
  generalize ({ u with arb := { u.arb with slots := u.arb.slots.filter (fun x => x.cluster != c) } } : State) = v at hfreed ⊢
  have hstopped := State.setAgent_keeps _ s v c { v.agent c with det := { (v.agent c).det with d := 0, severeSince := none, cal := none } }
    (by decide) hfreed
  generalize v.setAgent c { v.agent c with det := { (v.agent c).det with d := 0, severeSince := none, cal := none } } = w at hstopped ⊢
  have hclosed := (s.reg_closeInterval_other (by decide) hp w c counts true ha).trans (hstopped.reg_of_places hp)
  generalize w.closeInterval c counts true = x at hclosed ⊢
  refine Eq.trans (Kept.reg_of_places (l := runFallPlaces) ?_ hp) hclosed
  exact State.noteReasons_keeps _ x _ (by decide) (State.halfAck_keeps _ x _ _ (by decide)
    (State.checkWaveEnd_keeps _ x _ (by decide) (State.shadowNow_keeps _ x _ c (by decide)
      (State.logAgent_keeps _ x _ c _ _ (by decide) (State.setAgent_keeps _ x x c _ (by decide) (Kept.refl _ x))))))

/-! ### The Heath leaves its reset -/

/-- The OTP's words are loaded, and the four registers that follow from them, which the places `l` hold. -/
theorem State.reg_loadOtp_other (s : State) {l : List Place} {o : Nat}
    (hl : 0x90000000201000000000 &&& partsAnd l = 0x90000000201000000000)
    (hw : o ∉ s.otp.words.map (fun p => p.1)) (hp : ¬ inPlaces l o) : s.loadOtp.reg o = s.reg o := by
  unfold State.loadOtp
  dsimp only
  refine Eq.trans (Kept.reg_of_places (l := l) ?_ hp) (reg_setEach_other hw s)
  generalize each s.otp.words (fun p t => t.setReg p.1 p.2) s = u
  exact State.setFld_at .ID_TOPOLOGY rfl (Mask.trans (by decide) hl) (State.setFld_at .ACC_STATE rfl (Mask.trans (by decide) hl)
    (State.setFld_at .THM_CTRL rfl (Mask.trans (by decide) hl)
      (State.setFld_at .HEATH_FW_STATUS rfl (Mask.trans (by decide) hl) (Kept.refl _ u))))

theorem State.reg_congr {s t : State} (h : s.regs = t.regs) (o : Nat) : s.reg o = t.reg o := by
  unfold State.reg
  rw [h]

theorem State.reg_porstRelease_other (s : State) (leaderSel : Bool) (dieId : Nat) {o : Nat}
    (hp : ¬ inPlaces vaonPlaces o) : (s.porstRelease leaderSel dieId).reg o = s.reg o :=
  ((State.porstRelease_keeps (partsAnd vaonPlaces) _ s leaderSel dieId (by decide) (Kept.refl _ _)).reg_of_places hp).trans
    (State.reg_congr (s := { s with ps := _ }) (t := s) rfl o)

theorem State.reg_vaonRelease_other (s : State) {o : Nat} (hw : o ∉ s.otp.words.map (fun p => p.1))
    (hp : ¬ inPlaces vaonPlaces o) : s.vaonRelease.reg o = s.reg o := by
  unfold State.vaonRelease
  dsimp only
  split
  · rfl
  generalize hb : ({ s with
    ps := { s.ps with vaon := true }
    lim := { s.lim with emergency := s.lim.pinLow, edge := s.lim.pinLow } } : State) = b
  have hload : b.loadOtp.reg o = s.reg o := by
    have hotp : b.otp = s.otp := by rw [← hb]
    have hregs : b.regs = s.regs := by rw [← hb]
    exact (b.reg_loadOtp_other (by decide) (hotp ▸ hw) hp).trans (State.reg_congr hregs o)
  split
  · exact (State.reg_porstRelease_other _ _ _ hp).trans hload
  · exact hload

/-! ### What PORST_N leaves of the registers -/

/-- A sparse map whose values are each replaced, and listed again only where they differ from the default. -/
theorem SMap.get_filter_map {α : Type} [DecidableEq α] (d : Nat → α) (g : Nat → α → α) (hg : ∀ k, g k (d k) = d k)
    (m : SMap α) (hm : SMap.rising m) (k : Nat) :
    SMap.get d ((m.map (fun p => (p.1, g p.1 p.2))).filter (fun p => p.2 != d p.1)) k = g k (SMap.get d m k) := by
  induction m with
  | nil => exact (hg k).symm
  | cons p m ih =>
    obtain ⟨a, v⟩ := p
    obtain ⟨hlt, hm'⟩ := List.pairwise_cons.mp hm
    have hrest := ih hm'
    rw [List.map_cons, List.filter_cons]
    by_cases hk : a = k
    · subst hk
      have habsent : SMap.get d m a = d a := SMap.get_of_lt d m a hlt
      by_cases hv : g a v = d a
      · simp [SMap.get, hv, hrest, habsent, hg]
      · simp [SMap.get, hv]
    · by_cases hv : g a v = d a
      · simp [SMap.get, hv, hk, hrest]
      · simp [SMap.get, hv, hk, hrest]

theorem and_add_maskDiff_lt (n : Nat) : ∀ w f m : Nat, w < 2 ^ n → f < 2 ^ n → (w &&& m) + maskDiff f m < 2 ^ n := by
  unfold maskDiff
  induction n with
  | zero => intro w f m hw hf; obtain rfl : w = 0 := by omega
            obtain rfl : f = 0 := by omega
            simp
  | succ n ih =>
    intro w f m hw hf
    have hhalf := ih (w / 2) (f / 2) (m / 2) (by omega) (by omega)
    rw [← Nat.and_div_two, ← Nat.and_div_two] at hhalf
    have hwm := @Nat.and_mod_two_eq_one w m
    have hfm := @Nat.and_mod_two_eq_one f m
    have hle : f &&& m ≤ f := Nat.and_le_left
    omega

theorem and_add_maskDiff_self (f m : Nat) : (f &&& m) + maskDiff f m = f := Nat.add_sub_cancel' Nat.and_le_left

theorem resetWord_of_pend (o : Nat) (h : FH_PEND 0 ≤ o ∧ o ≤ FH_PEND 7) : resetWord o = 0 := by
  obtain ⟨k, hk, rfl⟩ : ∃ k, k < 29 ∧ o = FH_PEND 0 + k := ⟨o - FH_PEND 0, by simp only [FH_PEND] at *; omega, by omega⟩
  exact (by decide : ∀ k, k < 29 → resetWord (FH_PEND 0 + k) = 0) k hk

theorem resetWord_of_seen (o : Nat) (h : FH_SEEN 0 ≤ o ∧ o ≤ FH_SEEN 7) : resetWord o = 0 := by
  obtain ⟨k, hk, rfl⟩ : ∃ k, k < 29 ∧ o = FH_SEEN 0 + k := ⟨o - FH_SEEN 0, by simp only [FH_SEEN] at *; omega, by omega⟩
  exact (by decide : ∀ k, k < 29 → resetWord (FH_SEEN 0 + k) = 0) k hk

theorem State.keptWord_lt (s : State) (o : Nat) {w : Nat} (hw : w < 2 ^ 32) : s.keptWord o w < 2 ^ 32 := by
  unfold State.keptWord
  dsimp only
  split
  · exact Nat.lt_of_le_of_lt Nat.and_le_left hw
  split
  · exact Nat.lt_of_le_of_lt Nat.and_le_left hw
  split
  · exact and_add_maskDiff_lt 32 w _ _ hw (resetWord o).isLt
  · exact (resetWord o).isLt

/-- A register at its reset word stays there. -/
theorem State.keptWord_resetWord (s : State) (o : Nat) : s.keptWord o (resetWord o).toNat = (resetWord o).toNat := by
  unfold State.keptWord
  dsimp only
  split
  · next h => simp [resetWord_of_pend o h]
  split
  · next h => simp [resetWord_of_seen o h]
  split
  · exact and_add_maskDiff_self _ _
  · rfl

theorem State.reg_powerOnReset (s : State) (hs : s.regsCanonical) (o : Nat) :
    s.powerOnReset.reg o = s.keptWord o (s.reg o) := by
  have hget := SMap.get_filter_map resetWord (fun k x => BitVec.ofNat 32 (s.keptWord k x.toNat))
    (fun k => by simp [s.keptWord_resetWord k]) s.regs hs.1 o
  calc s.powerOnReset.reg o = (BitVec.ofNat 32 (s.keptWord o (s.reg o))).toNat := congrArg BitVec.toNat hget
    _ = s.keptWord o (s.reg o) := by rw [BitVec.toNat_ofNat, Nat.mod_eq_of_lt (s.keptWord_lt o (s.reg_lt o))]

theorem State.keptWord_congr {s t : State} (h : s.regs = t.regs) (o w : Nat) : s.keptWord o w = t.keptWord o w := by
  unfold State.keptWord
  simp only [State.reg_congr h]

theorem State.reg_porstAssert_other (s : State) (hv : s.ps.vaon = true) (hn : s.ps.porst = true) (hs : s.regsCanonical) {o : Nat}
    (hw : o ∉ s.otp.words.map (fun p => p.1)) (hp : ¬ inPlaces porstPlaces o) :
    s.porstAssert.reg o = s.keptWord o (s.reg o) := by
  have hload : s.powerOnReset.loadOtp.reg o = s.keptWord o (s.reg o) :=
    (s.powerOnReset.reg_loadOtp_other (l := porstPlaces) (by decide) hw hp).trans (s.reg_powerOnReset hs o)
  unfold State.porstAssert
  rw [hv, hn, if_neg (by decide), if_neg (by decide)]
  dsimp only
  generalize s.powerOnReset.loadOtp = u at hload ⊢
  have h2 := State.stopDomains_keeps (partsAnd porstPlaces) u _ (by decide)
    (State.setFlag_at (f := HEATH_RESET_CAUSE.PORST) (v := true) .HEATH_RESET_CAUSE rfl (by decide)
      (State.setFld_at (f := ID_TOPOLOGY.DIE_MASK) (v := 0) .ID_TOPOLOGY rfl (by decide)
        (State.setReg_at (off := ID_TOPOLOGY) (v := s.reg ID_TOPOLOGY) .ID_TOPOLOGY rfl (by decide) (Kept.refl _ u))))
  have h3 := Kept.ite (c := s.snapOpen = true) (State.setFld_at (f := OBS_SNAP_STATUS.STATE) (v := 3) .OBS_SNAP_STATUS rfl (by decide) h2) h2
  exact ((Kept.ite (State.enterHoldover_keeps _ u _ (by decide) h3) h3).reg_of_places hp).trans hload

theorem State.refuseHeld_same (s : State) : s.refuseHeld.regs = s.regs ∧ s.refuseHeld.otp = s.otp ∧ s.refuseHeld.ps = s.ps :=
  each_keeps (fun t : State => t.regs = s.regs ∧ t.otp = s.otp ∧ t.ps = s.ps) 
    (fun _ t => t.emit (.reg 0 3)) (fun _ _ h => h) s.held { s with held := [] } ⟨rfl, rfl, rfl⟩

theorem State.reg_porstLow_other (s : State) (hv : s.ps.vaon = true) (hn : s.ps.porst = true) (hs : s.regsCanonical) {o : Nat}
    (hw : o ∉ s.otp.words.map (fun p => p.1)) (hp : ¬ inPlaces porstPlaces o) :
    s.porstLow.reg o = s.keptWord o (s.reg o) := by
  obtain ⟨hregs, hotp, hps⟩ := s.refuseHeld_same
  unfold State.porstLow
  rw [hv, hn, if_pos (by decide), s.refuseHeld.reg_porstAssert_other (hps ▸ hv) (hps ▸ hn)
    (show SMap.wf resetWord s.refuseHeld.regs from hregs ▸ hs) (hotp ▸ hw) hp, State.keptWord_congr hregs, State.reg_congr hregs]

/-! ### Each command's registers -/

/-- A command that names a register of the port is a write of it. -/
theorem exec_portWrite {i : Instr} {s t : State} (h : exec i s = .next t) {o : Nat} (ho : i.portOff = some o) :
    ∃ data who, t = s.portWrite o data who := by
  have named : ∀ {p data : Nat} {who : Who}, some p = some o → s.portWrite p data who = t →
      ∃ data who, t = s.portWrite o data who := by
    rintro p data who hp rfl
    obtain rfl := Option.some.inj hp
    exact ⟨data, who, rfl⟩
  cases i with
  | blockResetWrite | registerWrite | mbOutFullClear | mbDbInWrite | mbDbOutClear | ringCtrlArm | ringCtrlForce
  | ringCtrlResume | timeResync | fhFirstClear | budSlowClear | fwLoadGo | accCtrlRelock => exact named ho (Host.Outcome.next.inj h)
  | mbInW1hWrite | cmdMbCtxWrite | railCapArm | railCapStop | ringLenWrite | fhSrcForce | fhPendClear | phFaultReadmit
  | siteSuspectClear => exact named ho (ofUnit_next h)
  | _ => cases ho

/-- A command leaves every register alone that it may not write. -/
theorem exec_reg_other {i : Instr} {s t : State} (h : exec i s = .next t)
    {o : Nat} (hw : ¬ i.mayWrite s o) : t.reg o = s.reg o := by
  unfold Instr.mayWrite at hw
  split at hw
  · obtain rfl := Host.Outcome.next.inj h
    exact s.reg_portRead_other hw _ _
  · obtain rfl := Host.Outcome.next.inj h
    exact s.reg_resetEnds_other (fun hh => hw (.inl hh)) (fun hp => hw (.inr hp))
  · obtain rfl := Host.Outcome.next.inj h
    have hp : ¬ inPlaces applyPlaces o := fun hp => hw (.inr hp)
    have happly := s.reg_commitApply_other (fun p hprep hr => hw (.inl ⟨p, hprep, hr⟩)) hp
    split
    · exact ((State.settleSteward_keeps (partsAnd applyPlaces) _ _ (by decide) (Kept.refl _ _)).reg_of_places hp).trans happly
    · rfl
  · next c counts =>
    obtain rfl := ofUnit_next h
    split
    · exact s.reg_runFall_other c counts (fun ha => hw (.inl ha)) (fun hp => hw (.inr hp))
    · rfl
  · next c edges code counts =>
    obtain rfl := ofUnit_next h
    have hp : ¬ inPlaces closePlaces o := fun hp => hw (.inr hp)
    split
    · exact ((State.noteReasons_keeps (partsAnd closePlaces) _ _ (by decide) (Kept.refl _ _)).reg_of_places hp).trans
        (s.reg_intervalClose_other c edges code counts (fun ha => hw (.inl ha)) hp)
    · rfl
  · obtain rfl := Host.Outcome.next.inj h
    exact s.reg_vaonRelease_other (fun ho => hw (.inl ho)) (fun hp => hw (.inr hp))
  · cases hoff : i.portOff with
    | none => exact absurd (.inr hoff) hw
    | some p =>
      obtain ⟨data, who, rfl⟩ := exec_portWrite h hoff
      exact s.reg_portWrite_other (fun hp => hw (.inl ⟨p, hoff, .inr hp⟩)) data who (fun e => hw (.inl ⟨p, hoff, .inl e⟩))

/-- Settles O5: the parts of the state by what every command carries over, the registers by the commands that have any register
among their places, what PORST_N leaves of a register word by word. -/
theorem everyCommandKeepsItsFrame : Obligations.EveryCommandKeepsItsFrame := by
  unfold Obligations.EveryCommandKeepsItsFrame
  intro i s t h
  refine ⟨(exec_carries i s t h).changesOnly, fun _ _ o hw => exec_reg_other h hw, ?_, ?_⟩
  · rintro rfl hvaon hporst hregs o hotp hp
    obtain rfl := Host.Outcome.next.inj h
    exact s.reg_porstLow_other hvaon hporst hregs hotp hp
  · rintro rfl o
    obtain rfl := Host.Outcome.next.inj h
    rfl

end Sys2Proof.Machine
end

section
/-! PROOF of O26 (R6, R23, R33, R52, R53, R55, R252): the register port. The fields of a written word one by one, what the tables
hold of every register, how an access is judged and answered, then the registers whose write sets nothing else going, the staged
fields and the low words. -/

namespace Sys2Proof.Machine

/-! ### Fields of a written word (R6) -/

/-- Two fields of a register share no bit. -/
def FieldDesc.apart (f g : FieldDesc) : Prop := f.hi < g.lo ∨ g.hi < f.lo

/-- A field lies in the word. -/
def FieldDesc.fits (f : FieldDesc) : Prop := f.lo ≤ f.hi ∧ f.hi < 32

theorem bitsOf_mod_word (n : Nat) {hi lo : Nat} (h : hi < 32) : bitsOf (n % 2 ^ 32) hi lo = bitsOf n hi lo := by
  apply Nat.eq_of_testBit_eq
  intro k
  rw [bitsOf_testBit, bitsOf_testBit, Nat.testBit_mod_two_pow]
  by_cases hk : k < hi + 1 - lo
  · simp [show k + lo < 32 by omega]
  · simp [hk]

theorem FieldDesc.write_mod_word {f : FieldDesc} (hf : f.fits) (scope : Bool) (data : Nat) (x : Nat × Nat × Bool) :
    f.write scope (data % 2 ^ 32) x = f.write scope data x := by
  unfold FieldDesc.write
  rw [bitsOf_mod_word data hf.2]

/-- The written field depends on its own bits only. -/
theorem FieldDesc.write_bits_congr {f : FieldDesc} (hf : f.fits) (scope : Bool) (data : Nat) {x y : Nat × Nat × Bool}
    (h1 : bitsOf x.1 f.hi f.lo = bitsOf y.1 f.hi f.lo) (h2 : bitsOf x.2.1 f.hi f.lo = bitsOf y.2.1 f.hi f.lo) :
    bitsOf (f.write scope data x).1 f.hi f.lo = bitsOf (f.write scope data y).1 f.hi f.lo ∧
    bitsOf (f.write scope data x).2.1 f.hi f.lo = bitsOf (f.write scope data y).2.1 f.hi f.lo := by
  have hb := fun n v => bitsOf_withBits_same n f.hi f.lo v hf.1
  unfold FieldDesc.write
  rw [h1, h2]
  cases f.ty with
  | rw => dsimp only; split <;> simp only [hb, h1, h2, and_self]
  | w1c => simp only [hb, h2, and_self]
  | w1s => exact ⟨h1, h2⟩
  | rws => simp only [hb, h1, and_self]
  | rwl => dsimp only; split_ifs <;> simp only [hb, h1, h2, and_self]
  | rwls => dsimp only; split_ifs <;> simp only [hb, h1, h2, and_self]
  | stk => exact ⟨h1, h2⟩

/-- What a field's write does to the word held and to the staging copy: the field is replaced, or the word stays. -/
theorem FieldDesc.write_cases (f : FieldDesc) (scope : Bool) (data : Nat) (x : Nat × Nat × Bool) :
    ((f.write scope data x).1 = x.1 ∨ ∃ v, (f.write scope data x).1 = withBits x.1 f.hi f.lo v) ∧
    ((f.write scope data x).2.1 = x.2.1 ∨ ∃ v, (f.write scope data x).2.1 = withBits x.2.1 f.hi f.lo v) := by
  unfold FieldDesc.write
  cases f.ty with
  | rw => dsimp only; split <;> simp
  | w1c => simp
  | w1s => simp
  | rws => simp
  | rwl => dsimp only; split_ifs <;> simp
  | rwls => dsimp only; split_ifs <;> simp
  | stk => simp

theorem FieldDesc.write_bits_other {f g : FieldDesc} (hf : f.fits) (ha : f.apart g) (scope : Bool) (data : Nat)
    (x : Nat × Nat × Bool) :
    bitsOf (f.write scope data x).1 g.hi g.lo = bitsOf x.1 g.hi g.lo ∧
    bitsOf (f.write scope data x).2.1 g.hi g.lo = bitsOf x.2.1 g.hi g.lo := by
  have hb := fun n v => bitsOf_withBits_other n f.hi f.lo v g.hi g.lo hf.1 ha.symm
  obtain ⟨h1 | ⟨v, h1⟩, h2 | ⟨w, h2⟩⟩ := f.write_cases scope data x <;> simp [h1, h2, hb]

theorem FieldDesc.write_lt {f : FieldDesc} (hf : f.fits) (scope : Bool) (data : Nat) {x : Nat × Nat × Bool}
    (h1 : x.1 < 2 ^ 32) (h2 : x.2.1 < 2 ^ 32) :
    (f.write scope data x).1 < 2 ^ 32 ∧ (f.write scope data x).2.1 < 2 ^ 32 := by
  obtain ⟨hheld, hcopy⟩ := f.write_cases scope data x
  constructor
  · obtain h | ⟨v, h⟩ := hheld
    · rwa [h]
    · exact h ▸ withBits_lt _ _ _ v hf.1 hf.2 h1
  · obtain h | ⟨v, h⟩ := hcopy
    · rwa [h]
    · exact h ▸ withBits_lt _ _ _ v hf.1 hf.2 h2

section
variable (scope : Bool) (data : Nat)

theorem foldl_write_bits_other {fs : List FieldDesc} {g : FieldDesc} (hfit : ∀ f ∈ fs, f.fits) (ha : ∀ f ∈ fs, f.apart g)
    (x : Nat × Nat × Bool) :
    bitsOf (fs.foldl (fun x f => f.write scope data x) x).1 g.hi g.lo = bitsOf x.1 g.hi g.lo ∧
    bitsOf (fs.foldl (fun x f => f.write scope data x) x).2.1 g.hi g.lo = bitsOf x.2.1 g.hi g.lo := by
  induction fs generalizing x with
  | nil => exact ⟨rfl, rfl⟩
  | cons f fs ih =>
    obtain ⟨hrest1, hrest2⟩ := ih (fun f h => hfit f (List.mem_cons_of_mem _ h)) (fun f h => ha f (List.mem_cons_of_mem _ h))
      (f.write scope data x)
    obtain ⟨hfirst1, hfirst2⟩ := f.write_bits_other (hfit f List.mem_cons_self) (ha f List.mem_cons_self) scope data x
    exact ⟨hrest1.trans hfirst1, hrest2.trans hfirst2⟩

theorem foldl_write_lt {fs : List FieldDesc} (hfit : ∀ f ∈ fs, f.fits) {x : Nat × Nat × Bool}
    (h1 : x.1 < 2 ^ 32) (h2 : x.2.1 < 2 ^ 32) :
    (fs.foldl (fun x f => f.write scope data x) x).1 < 2 ^ 32 ∧ (fs.foldl (fun x f => f.write scope data x) x).2.1 < 2 ^ 32 := by
  induction fs generalizing x with
  | nil => exact ⟨h1, h2⟩
  | cons f fs ih =>
    obtain ⟨hw1, hw2⟩ := f.write_lt (hfit f List.mem_cons_self) scope data h1 h2
    exact ih (fun f h => hfit f (List.mem_cons_of_mem _ h)) hw1 hw2

/-- Of a word whose fields share no bits, each field is written as though it were alone. -/
theorem foldl_write_bits_self {fs : List FieldDesc} {f : FieldDesc} (hfit : ∀ f ∈ fs, f.fits) (ha : fs.Pairwise FieldDesc.apart)
    (hf : f ∈ fs) (x : Nat × Nat × Bool) :
    bitsOf (fs.foldl (fun x f => f.write scope data x) x).1 f.hi f.lo = bitsOf (f.write scope data x).1 f.hi f.lo ∧
    bitsOf (fs.foldl (fun x f => f.write scope data x) x).2.1 f.hi f.lo = bitsOf (f.write scope data x).2.1 f.hi f.lo := by
  induction fs generalizing x with
  | nil => cases hf
  | cons g fs ih =>
    obtain ⟨hg, hfs⟩ := List.pairwise_cons.mp ha
    have hfit' := fun f h => hfit f (List.mem_cons_of_mem g h)
    rcases List.mem_cons.mp hf with rfl | hf
    · exact foldl_write_bits_other scope data hfit' (fun k hk => (hg k hk).symm) _
    · obtain ⟨hrest1, hrest2⟩ := ih hfit' hfs hf (g.write scope data x)
      obtain ⟨hother1, hother2⟩ := g.write_bits_other (hfit g List.mem_cons_self) (hg f hf) scope data x
      obtain ⟨hself1, hself2⟩ := FieldDesc.write_bits_congr (hfit' f hf) scope data hother1 hother2
      exact ⟨hrest1.trans hself1, hrest2.trans hself2⟩

end

/-! ### The tables of registers (R477, R478) -/

/-- The tables of all regions. -/
def registerTables : List (List RegDesc) :=
  [regsHeath, regsCommand, regsThermal, regsBudget, regsAdmission, regsDroop, regsRail, regsEstimator, regsObserve, regsRing,
    regsFabric, regsHedgerow, regsAgent, regsSite]

theorem mem_registerTables {off : Nat} {d : RegDesc} (h : d ∈ regionRegs off) : ∃ l ∈ registerTables, d ∈ l := by
  have one : ∀ {c : Prop} [Decidable c] {a b : List RegDesc}, a ∈ registerTables → (b ∈ registerTables ∨ b = []) →
      ((if c then a else b) ∈ registerTables ∨ (if c then a else b) = []) := by
    intro c _ a b ha hb
    by_cases hc : c
    · exact .inl (by rwa [if_pos hc])
    · rwa [if_neg hc]
  have hl : regionRegs off ∈ registerTables ∨ regionRegs off = [] := by
    unfold regionRegs
    iterate 14 refine one (by simp only [registerTables, List.mem_cons, true_or, or_true]) ?_
    exact .inr rfl
  rcases hl with hl | hl
  · exact ⟨_, hl, h⟩
  · rw [hl] at h
    cases h

/-- What the tables hold of every register holds of the one at an offset. -/
theorem of_findReg {p : RegDesc → Bool} (hp : registerTables.all (fun l => l.all p) = true) {off : Nat} {d : RegDesc}
    (h : findReg off = some d) : p d = true ∧ d.covers (foldOff off) = true := by
  unfold findReg at h
  split at h
  · cases h
  · obtain ⟨l, hl, hd⟩ := mem_registerTables (List.mem_of_find?_eq_some h)
    exact ⟨List.all_eq_true.mp (List.all_eq_true.mp hp l hl) d hd,
      List.find?_some (p := fun d : RegDesc => d.covers (foldOff off)) h⟩

/-- A register's fields lie in the word and share no bits; and a staged field stands beside staged fields and those that a write
sets going, of which the word keeps nothing. -/
def RegDesc.sound (d : RegDesc) : Bool :=
  d.fields.all (fun f => decide (f.lo ≤ f.hi ∧ f.hi < 32)) &&
  decide (d.fields.Pairwise (fun f g => f.hi < g.lo ∨ g.hi < f.lo)) &&
  (!d.fields.any (fun f => f.isStaged) || d.fields.all (fun f => f.isStaged || f.ty == .w1s || f.ty == .stk))

theorem RegDesc.sound_of_findReg {off : Nat} {d : RegDesc} (h : findReg off = some d) : d.sound = true :=
  (of_findReg (p := RegDesc.sound) (by decide) h).1

theorem RegDesc.fields_of_sound {d : RegDesc} (h : d.sound = true) :
    (∀ f ∈ d.fields, f.fits) ∧ d.fields.Pairwise FieldDesc.apart ∧
    (d.fields.any (fun f => f.isStaged) = true → ∀ f ∈ d.fields, f.isStaged = true ∨ f.ty = .w1s ∨ f.ty = .stk) := by
  unfold RegDesc.sound at h
  simp only [Bool.and_eq_true, List.all_eq_true, decide_eq_true_eq, Bool.or_eq_true, Bool.not_eq_true', beq_iff_eq, or_assoc] at h
  obtain ⟨⟨hfits, hapart⟩, hstaged⟩ := h
  exact ⟨hfits, hapart, fun ha => hstaged.resolve_left (by simp [ha])⟩

theorem RegDesc.lt_of_covers {d : RegDesc} {off : Nat} (hs : 0 < d.stride) (h : d.covers off = true) :
    d.base ≤ off ∧ off < d.base + d.stride * d.count := by
  unfold RegDesc.covers at h
  simp only [Bool.and_eq_true, decide_eq_true_eq] at h
  obtain ⟨⟨hbase, hcount⟩, -⟩ := h
  have := (Nat.div_lt_iff_lt_mul hs).mp hcount
  rw [Nat.mul_comm] at this
  omega

/-- Where the registers with staged fields of type RWS lie: past the command engine, apart from the estimator's status and
energies, below the log ring. -/
theorem range_of_rws {off : Nat} {d : RegDesc} {f : FieldDesc} (h : findReg off = some d) (hf : f ∈ d.fields) (ht : f.ty = .rws) :
    0x8000 ≤ off ∧ off < 0xA0000 ∧ ¬ (0x20010 ≤ off ∧ off < 0x20040) ∧ ¬ (0x22000 ≤ off ∧ off < 0x24000) := by
  obtain ⟨hp, hc⟩ := of_findReg (p := fun d => decide (0 < d.stride ∧ (d.fields.any (fun f => f.ty == .rws) = true →
    0x8000 ≤ d.base ∧ d.base + d.stride * d.count ≤ 0xA0000 ∧ (d.base + d.stride * d.count ≤ 0x20010 ∨
    0x20040 ≤ d.base ∧ d.base + d.stride * d.count ≤ 0x22000 ∨ 0x24000 ≤ d.base)))) (by decide) h
  obtain ⟨hstride, hrange⟩ := of_decide_eq_true hp
  obtain ⟨hlow, hhigh, hapart⟩ := hrange (List.any_eq_true.mpr ⟨f, hf, by simp [ht]⟩)
  obtain ⟨hbase, hend⟩ := RegDesc.lt_of_covers hstride hc
  unfold foldOff at hbase hend
  by_cases hw : 0x40000 ≤ off ∧ off < 0x90000
  · omega
  · rw [if_neg hw] at hbase hend
    omega

/-- A register without a field of type RWS is not the one at hand. -/
theorem ne_of_rws {off o : Nat} {d : RegDesc} {f : FieldDesc} (h : findReg off = some d) (hf : f ∈ d.fields) (ht : f.ty = .rws)
    (ho : (findReg o).all (fun d => d.fields.all (fun f => f.ty != .rws)) = true) : off ≠ o := by
  rintro rfl
  rw [h, Option.all_some, List.all_eq_true] at ho
  simpa [ht] using ho f hf

/-! ### The word held and its staging copy -/

theorem State.stagedReg_bits_congr {s t : State} {off hi lo : Nat} (hs : t.staged = s.staged)
    (hr : bitsOf (t.reg off) hi lo = bitsOf (s.reg off) hi lo) :
    bitsOf (t.stagedReg off) hi lo = bitsOf (s.stagedReg off) hi lo := by
  unfold State.stagedReg
  rw [hs]
  split
  · rfl
  · exact hr

theorem State.stagedReg_lt (s : State) (off : Nat) : s.stagedReg off < 2 ^ 32 := by
  unfold State.stagedReg
  split
  · exact BitVec.isLt _
  · exact s.reg_lt off

theorem State.stagedReg_setStaged_same (s : State) (off v : Nat) : (s.setStaged off v).stagedReg off = v % 2 ^ 32 := by
  unfold State.setStaged
  split
  · next h =>
    simp only [State.stagedReg, SMap.find_drop_same]
    exact (congrArg BitVec.toNat h.1).symm.trans (BitVec.toNat_ofNat v 32)
  · simp only [State.stagedReg, SMap.find_enter_same, BitVec.toNat_ofNat]

/-- One field written alone: the word held, the staging copy, was it refused? -/
def State.writeField (s : State) (d : RegDesc) (off data : Nat) (f : FieldDesc) : Nat × Nat × Bool :=
  f.write (s.hasScope d.scope) data (s.reg off, s.stagedReg off, false)

section
variable (s : State) {d : RegDesc} (off data : Nat) {f : FieldDesc} (hd : d.sound = true) (hf : f ∈ d.fields)
include hd hf

/-- A written word holds each field as though it were written alone. -/
theorem State.reg_writeFields_bits :
    bitsOf ((s.writeFields d off data).1.reg off) f.hi f.lo = bitsOf (s.writeField d off data f).1 f.hi f.lo := by
  obtain ⟨hfits, hapart, hstaged⟩ := RegDesc.fields_of_sound hd
  unfold State.writeFields
  dsimp only
  split
  · next ha =>
    rw [s.reg_setStaged]
    unfold State.writeField FieldDesc.write
    rcases hstaged ha f hf with hst | hst | hst
    · rcases Bool.or_eq_true_iff.mp hst with hst | hst
      · rw [beq_iff_eq.mp hst]
      · rw [beq_iff_eq.mp hst]
        dsimp only
        split_ifs <;> rfl
    · rw [hst]
    · rw [hst]
  · rw [State.reg_setReg_same, Nat.mod_eq_of_lt (foldl_write_lt _ data hfits (s.reg_lt off) (s.stagedReg_lt off)).1]
    exact (foldl_write_bits_self _ data hfits hapart hf _).1

/-- The staging copy of a written word holds each staged field as though it were written alone. -/
theorem State.stagedReg_writeFields_bits (hst : f.isStaged = true) :
    bitsOf ((s.writeFields d off data).1.stagedReg off) f.hi f.lo = bitsOf (s.writeField d off data f).2.1 f.hi f.lo := by
  obtain ⟨hfits, hapart, -⟩ := RegDesc.fields_of_sound hd
  unfold State.writeFields
  dsimp only
  rw [if_pos (List.any_eq_true.mpr ⟨f, hf, hst⟩), State.stagedReg_setStaged_same,
    Nat.mod_eq_of_lt (foldl_write_lt _ data hfits (s.reg_lt off) (s.stagedReg_lt off)).2]
  exact (foldl_write_bits_self _ data hfits hapart hf _).2

end

/-- A field after a write follows its type (R6): the word it was in, the word it is in. -/
def FieldDesc.follows (f : FieldDesc) (scope : Bool) (data off : Nat) (s t : State) : Prop :=
  match f.ty with
  | .rw => bitsOf (t.reg off) f.hi f.lo = if f.min ≤ bitsOf data f.hi f.lo ∧ bitsOf data f.hi f.lo ≤ f.max then
      bitsOf data f.hi f.lo else bitsOf (s.reg off) f.hi f.lo
  | .w1c => bitsOf (t.reg off) f.hi f.lo = maskDiff (bitsOf (s.reg off) f.hi f.lo) (bitsOf data f.hi f.lo)
  | .rwl => bitsOf (t.reg off) f.hi f.lo = if scope = true then bitsOf data f.hi f.lo else bitsOf (s.reg off) f.hi f.lo
  | .rws => bitsOf (t.stagedReg off) f.hi f.lo = bitsOf data f.hi f.lo ∧
      bitsOf (t.reg off) f.hi f.lo = bitsOf (s.reg off) f.hi f.lo
  | .rwls => bitsOf (t.stagedReg off) f.hi f.lo =
      (if scope = true then bitsOf data f.hi f.lo else bitsOf (s.stagedReg off) f.hi f.lo) ∧
      bitsOf (t.reg off) f.hi f.lo = bitsOf (s.reg off) f.hi f.lo
  | .w1s | .stk => bitsOf (t.reg off) f.hi f.lo = bitsOf (s.reg off) f.hi f.lo

/-- A field that is replaced by bits of its own width. -/
theorem bitsOf_withBits_of_lt {f : FieldDesc} (hf : f.fits) (n : Nat) {v : Nat} (hv : v < 2 ^ (f.hi + 1 - f.lo)) :
    bitsOf (withBits n f.hi f.lo v) f.hi f.lo = v := by
  rw [bitsOf_withBits_same _ _ _ _ hf.1, Nat.mod_eq_of_lt hv]

theorem FieldDesc.follows_of_write {f : FieldDesc} (hf : f.fits) {scope : Bool} {data off : Nat} {s t : State}
    (hr : bitsOf (t.reg off) f.hi f.lo = bitsOf (f.write scope data (s.reg off, s.stagedReg off, false)).1 f.hi f.lo)
    (hs : f.isStaged = true →
      bitsOf (t.stagedReg off) f.hi f.lo = bitsOf (f.write scope data (s.reg off, s.stagedReg off, false)).2.1 f.hi f.lo) :
    f.follows scope data off s t := by
  have hdata := fun n => bitsOf_withBits_of_lt hf n (bitsOf_lt data f.hi f.lo)
  unfold FieldDesc.write at hr hs
  unfold FieldDesc.isStaged at hs
  unfold FieldDesc.follows
  revert hr hs
  cases f.ty with
  | rw =>
    intro hr _
    dsimp only at hr ⊢
    rw [hr]
    split
    · exact hdata _
    · rfl
  | w1c =>
    intro hr _
    exact hr.trans (bitsOf_withBits_of_lt hf _ (Nat.lt_of_le_of_lt (Nat.sub_le _ _) (bitsOf_lt _ _ _)))
  | w1s => exact fun hr _ => hr
  | stk => exact fun hr _ => hr
  | rws => exact fun hr hs => ⟨(hs rfl).trans (hdata _), hr⟩
  | rwl =>
    intro hr _
    dsimp only at hr ⊢
    rw [hr]
    by_cases hv : bitsOf data f.hi f.lo = bitsOf (s.reg off) f.hi f.lo
    · rw [if_pos hv, hv, ite_self]
    · rw [if_neg hv]
      cases scope
      · rfl
      · exact hdata _
  | rwls =>
    intro hr hs
    have hs := hs rfl
    dsimp only at hr hs ⊢
    rw [hr, hs]
    by_cases hv : bitsOf data f.hi f.lo = bitsOf (s.stagedReg off) f.hi f.lo
    · rw [if_pos hv, hv, ite_self]
      exact ⟨rfl, rfl⟩
    · rw [if_neg hv]
      cases scope
      · exact ⟨rfl, rfl⟩
      · exact ⟨hdata _, rfl⟩

/-! ### An access at the open port -/

/-- The state in which an access at an offset is judged: the domain that it needs runs (R56). -/
def State.woken (s : State) (off : Nat) : State :=
  if 0x3000 ≤ off ∧ s.canWake = true then s.startCore.lingerFrom false else s

/-- How an access is judged and answered (R53). -/
def State.judgeAccess (s : State) (q : PortReq) : State :=
  if q.off % 4 ≠ 0 then s.emit (.reg 0 2)
  else if inDebugModule q.off then s.debugAccess q.wr q.off (q.data % 2 ^ 32) q.who
  else if 0xA0000 ≤ q.off ∧ q.off < 0xB0000 then s.logAccess q.wr q.off q.who
  else match findReg q.off with
    | none => if q.who = .rsvd then s.deny else s.emit (.reg 0 2)
    | some d =>
      if q.wr then
        if !s.leader then s.writeFollower d q.off (q.data % 2 ^ 32) q.who
        else if s.allowed true d.wr q.off q.who then s.writeWord d q.off (q.data % 2 ^ 32) q.who
        else s.deny
      else if s.allowed false d.rd q.off q.who then s.readWord d q.off q.who
      else s.deny

theorem State.perform_eq (s : State) (q : PortReq) : s.perform q = (s.woken q.off).judgeAccess q := rfl

theorem State.access_of_open {s : State} (h : s.portOpen) (q : PortReq) : s.access q = (s.woken q.off).judgeAccess q := by
  obtain ⟨hvaon, hclosed, hreset, -⟩ := h
  unfold State.access
  simp only [hvaon, hclosed, hreset, Bool.not_true, Bool.false_and, Bool.false_eq_true, if_false, State.perform_eq]

theorem exec_registerWrite {s : State} (h : s.portOpen) (off data : Nat) (who : Who) :
    exec (.registerWrite off data who) s = .next ((s.woken off).judgeAccess ⟨true, off, data, who⟩) :=
  congrArg Host.Outcome.next (State.access_of_open h ⟨true, off, data, who⟩)

theorem exec_lowWordRead {s : State} (h : s.portOpen) (off : Nat) (who : Who) :
    exec (.lowWordRead off who) s = .next ((s.woken off).judgeAccess ⟨false, off, 0, who⟩) :=
  congrArg Host.Outcome.next (State.access_of_open h ⟨false, off, 0, who⟩)

/-- With the domain running an access only restarts the time after which it may stop. -/
theorem State.woken_of_coreOn {s : State} {off : Nat} (h : 0x3000 ≤ off → s.flag HEATH_DOMAIN_STATUS.CORE_ON = true) :
    s.woken off = s ∨ s.woken off = s.lingerFrom false := by
  unfold State.woken
  split
  · next hw =>
    unfold State.startCore
    rw [if_pos (h hw.1)]
    exact .inr rfl
  · exact .inl rfl

theorem State.allowed_host (s : State) (wr : Bool) (acc : Access) (off : Nat) : s.allowed wr acc off .host = true := rfl

section
variable (u : State) {off : Nat} (data : Nat) (who : Who) {d : RegDesc} (hd : findReg off = some d) (hm : off % 4 = 0)
  (hlt : off < 0xA0000)
include hd hm hlt

theorem State.judgeAccess_write (hl : u.leader = true) : u.judgeAccess ⟨true, off, data, who⟩ =
    if u.allowed true d.wr off who = true then u.writeWord d off (data % 2 ^ 32) who else u.deny := by
  have hdebug : inDebugModule off = false := by simp [inDebugModule]; omega
  unfold State.judgeAccess
  simp only [hm, hdebug, hd, hl, show ¬ (0xA0000 ≤ off ∧ off < 0xB0000) by omega, ne_eq, not_true_eq_false, if_false, if_true,
    Bool.not_true, Bool.false_eq_true]

theorem State.judgeAccess_read : u.judgeAccess ⟨false, off, data, who⟩ =
    if u.allowed false d.rd off who = true then u.readWord d off who else u.deny := by
  have hdebug : inDebugModule off = false := by simp [inDebugModule]; omega
  unfold State.judgeAccess
  simp only [hm, hdebug, hd, show ¬ (0xA0000 ≤ off ∧ off < 0xB0000) by omega, ne_eq, not_true_eq_false, if_false,
    Bool.false_eq_true]

end

/-! ### The response to a write (R53) -/

/-- The last output answers a write with OK, DENIED or UNMAPPED. -/
def State.answered (t : State) : Prop := ∃ code, code < 3 ∧ t.out.getLast? = some (.reg 0 code)

theorem State.answered_emit (s : State) {code : Nat} (h : code < 3) : (s.emit (.reg 0 code)).answered :=
  ⟨code, h, by simp [State.emit]⟩

theorem State.answered_okay (s : State) : (s.okay 0).answered := s.answered_emit (by decide)

theorem State.answered_deny (s : State) : s.deny.answered := State.answered_emit _ (by decide)

theorem State.answered_writeWord (s : State) (d : RegDesc) (off data : Nat) (who : Who) : (s.writeWord d off data who).answered := by
  unfold State.writeWord
  split
  · exact State.answered_deny _
  split
  · exact s.answered_okay
  split
  · next t _ => exact t.answered_okay
  · unfold State.written
    dsimp only
    split
    · exact State.answered_deny _
    · exact State.answered_okay _

theorem State.answered_writeFollower (s : State) (d : RegDesc) (off data : Nat) (who : Who) :
    (s.writeFollower d off data who).answered := by
  unfold State.writeFollower
  split
  · exact s.answered_deny
  · exact s.answered_okay
  · split
    · exact s.answered_okay
    · exact s.answered_deny
  · split
    · exact s.answered_okay
    · exact State.answered_okay _

theorem State.answered_debugAccess (s : State) (off data : Nat) (who : Who) : (s.debugAccess true off data who).answered := by
  unfold State.debugAccess
  dsimp only
  split
  · exact s.answered_deny
  · exact State.answered_okay _

theorem State.answered_logAccess (s : State) (off : Nat) (who : Who) : (s.logAccess true off who).answered := by
  unfold State.logAccess
  split
  · exact s.answered_okay
  · exact s.answered_deny

/-- Every write is answered. -/
theorem State.answered_judgeAccess (u : State) (off data : Nat) (who : Who) : (u.judgeAccess ⟨true, off, data, who⟩).answered := by
  unfold State.judgeAccess
  dsimp only
  split
  · exact u.answered_emit (by decide)
  split
  · exact u.answered_debugAccess _ _ _
  split
  · exact u.answered_logAccess _ _
  split
  · split
    · exact u.answered_deny
    · exact u.answered_emit (by decide)
  · next d _ =>
    rw [if_pos rfl]
    split
    · exact u.answered_writeFollower d _ _ _
    split
    · exact u.answered_writeWord d _ _ _
    · exact u.answered_deny

/-! ### A write that sets nothing going beside its fields -/

theorem plainReg_spec {off : Nat} (h : plainReg off = true) :
    (off ∉ [HEATH_DOMAIN_CTRL, HEATH_RESET_CTRL, HEATH_FW_LOAD_LO, HEATH_FW_LOAD_HI, HEATH_FW_LOAD_CTRL, MB_OUT_FULL,
      MB_IN_OVERRUN, MB_DB_IN, FH_FIRST, ACC_CTRL, OBS_STR_CTRL, RING_LEN, RING_SAMP, RING_CTRL, TIME_CTRL]) ∧
    ¬ (0x2000 ≤ off ∧ off < 0x2200) ∧ ¬ (CMD_MB_CTX 0 ≤ off ∧ off ≤ CMD_MB_CTX 31) ∧
    ¬ (FH_PEND 0 ≤ off ∧ off ≤ FH_PEND 7) ∧ ¬ (0x4400 ≤ off ∧ off < 0x4800) ∧
    (∀ n < 4, off ≠ RAIL_CAP_CTRL n ∧ off ≠ RAIL_PH_FAULT n ∧ off ≠ RAIL_PH_FAULT_HI n) ∧ off < 0x90000 := by
  unfold plainReg at h
  simp only [Bool.not_eq_true', Bool.or_eq_false_iff, List.any_eq_false, List.mem_range, Bool.or_eq_true, beq_iff_eq,
    decide_eq_false_iff_not, not_or, List.contains_eq_mem, and_assoc, not_le] at h
  exact h

section
variable {off : Nat} (hp : plainReg off = true)
include hp

theorem ne_rail_of_plainReg (n : Nat) : off ≠ RAIL_CAP_CTRL n ∧ off ≠ RAIL_PH_FAULT n ∧ off ≠ RAIL_PH_FAULT_HI n := by
  obtain ⟨-, -, -, -, -, hrail, -⟩ := plainReg_spec hp
  have h := hrail (n % 4) (Nat.mod_lt n (by decide))
  simpa only [RAIL_CAP_CTRL, RAIL_PH_FAULT, RAIL_PH_FAULT_HI, Nat.mod_mod] using h

theorem State.writeOwn_of_plainReg (s : State) (data : Nat) (who : Who) : s.writeOwn off data who = none := by
  obtain ⟨hlist, -, hctx, hpend, -, -, -⟩ := plainReg_spec hp
  obtain ⟨-, hfault, hfaultHi⟩ := ne_rail_of_plainReg hp ((off - 0x18000) / 0x1000)
  have hfirst : off ≠ FH_FIRST := fun e => hlist (by rw [e]; decide)
  have hfull : off ≠ MB_OUT_FULL := fun e => hlist (by rw [e]; decide)
  have hover : off ≠ MB_IN_OVERRUN := fun e => hlist (by rw [e]; decide)
  have hown : ¬ (CMD_MB_CTX 1 ≤ off ∧ off ≤ CMD_MB_CTX 31) := fun h => hctx ⟨Nat.le_trans (by decide) h.1, h.2⟩
  unfold State.writeOwn
  dsimp only
  rw [if_neg hpend, if_neg hfirst, if_neg (fun h => hfault h.2), if_neg (fun h => hfaultHi h.2),
    if_neg (not_or.mpr ⟨hfull, hover⟩), if_neg hown]

theorem State.ignores_of_plainReg (s : State) (hm : off % 4 = 0) (ha : s.absent off = false) : s.ignores off = false := by
  obtain ⟨hlist, -⟩ := plainReg_spec hp
  have hlo : off ≠ 0x1030 := fun e => hlist (by rw [e]; decide)
  have hhi : off ≠ 0x1034 := fun e => hlist (by rw [e]; decide)
  have hctrl : off ≠ 0x1038 := fun e => hlist (by rw [e]; decide)
  have hload : decide (HEATH_FW_LOAD_LO ≤ off ∧ off ≤ HEATH_FW_LOAD_CTRL) = false :=
    decide_eq_false (show ¬ (0x1030 ≤ off ∧ off ≤ 0x1038) by omega)
  unfold State.ignores
  rw [ha, hload]
  rfl

theorem State.writeActs_of_plainReg (s old : State) (data : Nat) (who : Who) : s.writeActs old off data who = s := by
  obtain ⟨hlist, hbox, -, -, hsource, -, hsite⟩ := plainReg_spec hp
  obtain ⟨hcap, -, -⟩ := ne_rail_of_plainReg hp ((off - 0x18000) / 0x1000)
  have ne : ∀ {o : Nat}, o ∈ _ → off ≠ o := fun ho e => hlist (e ▸ ho)
  unfold State.writeActs
  split
  · unfold State.actHeath
    rw [if_neg (ne (by decide)), if_neg (fun h => ne (by decide) h.1), if_neg (fun h => ne (by decide) h.1)]
  split
  · unfold State.actBox
    rw [if_neg (fun h => hbox ⟨by omega, h.1⟩), if_neg (ne (by decide))]
  rw [if_neg (ne (by decide))]
  split
  · unfold State.actRail
    dsimp only
    rw [if_neg hcap]
  rw [if_neg (ne (by decide)), if_neg (not_or.mpr ⟨ne (by decide), ne (by decide)⟩), if_neg (ne (by decide)), if_neg (ne (by decide)),
    if_neg (Nat.not_le_of_lt hsite)]

/-- A write of such a register writes its fields, and is refused where the write of one was. -/
theorem State.writeWord_of_plainReg (s : State) (d : RegDesc) (hm : off % 4 = 0) (ha : s.absent off = false) (data : Nat)
    (who : Who) : s.writeWord d off data who =
      if (s.writeFields d off data).2 = true then (s.writeFields d off data).1.deny else (s.writeFields d off data).1.okay 0 := by
  obtain ⟨-, hslot, -⟩ := plainReg_spec hp
  unfold State.writeWord
  rw [if_neg (fun h => hslot ⟨h.1, h.2.1⟩), s.ignores_of_plainReg hp hm ha, if_neg Bool.false_ne_true,
    s.writeOwn_of_plainReg hp]
  dsimp only
  unfold State.written
  dsimp only
  rw [State.writeActs_of_plainReg hp]

end

/-! ### What the response leaves of the state -/

/-- From `s` to `t` every register but the counter of denied accesses is the same, and every staging copy. -/
def State.sameRegs (s t : State) : Prop := (∀ o, o ≠ ACC_DENIED → t.reg o = s.reg o) ∧ t.staged = s.staged

theorem State.sameRegs_deny (s : State) : s.sameRegs s.deny := ⟨fun _ h => s.reg_deny_other h, rfl⟩

theorem State.sameRegs_okay (s : State) (v : Nat) : s.sameRegs (s.okay v) := ⟨fun _ _ => rfl, rfl⟩

/-- The state that answers a word whose fields have been written, one of them refused where `b`. -/
theorem State.sameRegs_response (s : State) (b : Bool) : s.sameRegs (if b = true then s.deny else s.okay 0) := by
  split
  · exact s.sameRegs_deny
  · exact s.sameRegs_okay 0

theorem ne_accDenied_of_field {off : Nat} {d : RegDesc} {f : FieldDesc} (hd : findReg off = some d) (hf : f ∈ d.fields) :
    off ≠ ACC_DENIED := by
  rintro rfl
  obtain rfl := Option.some.inj hd
  cases hf

/-- A field of a word that has been written follows its type in a state that has its bits, and the staging copies. -/
theorem FieldDesc.follows_of_writeFields {off : Nat} {d : RegDesc} {f : FieldDesc} (hd : findReg off = some d) (hf : f ∈ d.fields)
    (s : State) (data : Nat) {t : State}
    (hr : bitsOf (t.reg off) f.hi f.lo = bitsOf ((s.writeFields d off (data % 2 ^ 32)).1.reg off) f.hi f.lo)
    (ht : t.staged = (s.writeFields d off (data % 2 ^ 32)).1.staged) : f.follows (s.hasScope d.scope) data off s t := by
  have hsound := RegDesc.sound_of_findReg hd
  have hwrite : s.writeField d off (data % 2 ^ 32) f = s.writeField d off data f :=
    FieldDesc.write_mod_word ((RegDesc.fields_of_sound hsound).1 f hf) _ data _
  refine FieldDesc.follows_of_write ((RegDesc.fields_of_sound hsound).1 f hf) ?_ (fun hst => ?_)
  · rw [hr, s.reg_writeFields_bits off _ hsound hf, hwrite]
    rfl
  · rw [State.stagedReg_bits_congr ht hr, s.stagedReg_writeFields_bits off _ hsound hf hst, hwrite]
    rfl

theorem State.writePlainReg_follows {off : Nat} {d : RegDesc} (hd : findReg off = some d) (hm : off % 4 = 0)
    (hp : plainReg off = true) (u : State) (hl : u.leader = true) (ha : u.absent off = false) (data : Nat) {who : Who}
    (hw : u.allowed true d.wr off who = true) :
    (∀ f ∈ d.fields, f.follows (u.hasScope d.scope) data off u (u.judgeAccess ⟨true, off, data, who⟩)) ∧
    ∀ o, o ≠ off → o ≠ ACC_DENIED → (u.judgeAccess ⟨true, off, data, who⟩).reg o = u.reg o := by
  obtain ⟨-, -, -, -, -, -, hlt⟩ := plainReg_spec hp
  rw [u.judgeAccess_write data who hd hm (by omega) hl, if_pos hw, u.writeWord_of_plainReg hp d hm ha]
  obtain ⟨hregs, hstaged⟩ := (u.writeFields d off (data % 2 ^ 32)).1.sameRegs_response (u.writeFields d off (data % 2 ^ 32)).2
  exact ⟨fun f hf => FieldDesc.follows_of_writeFields hd hf u data (by rw [hregs off (ne_accDenied_of_field hd hf)]) hstaged,
    fun o ho hden => (hregs o hden).trans (u.reg_writeFields_other d _ ho)⟩

theorem State.fld_deny (s : State) :
    s.deny.fld (whole ACC_DENIED) = min (s.fld (whole ACC_DENIED) + 1) (whole ACC_DENIED).top := by
  have hinc : (s.incSat (whole ACC_DENIED)).fld (whole ACC_DENIED) =
      min (s.fld (whole ACC_DENIED) + 1) (whole ACC_DENIED).top % 2 ^ 32 :=
    State.fld_setFld_same s (whole ACC_DENIED) _ (by decide) (by decide)
  refine hinc.trans (Nat.mod_eq_of_lt (Nat.lt_of_le_of_lt (Nat.min_le_right _ _) (by decide)))

/-! ### The domain that an access needs (R56) -/

/-- The registers that the start of the block core domain may change. -/
def wakePlaces : List Place := [.HEATH_DOMAIN_STATUS, .EST_STATUS, .EST_DIE_E, .EST_UNATTR_E, .EST_PKG_E, .EST_CTX_E]

theorem range_of_wakePlaces {o : Nat} (h : inPlaces wakePlaces o) :
    o = 0x1000 ∨ (0x20010 ≤ o ∧ o < 0x20040) ∨ (0x22000 ≤ o ∧ o < 0x24000) := by
  obtain ⟨p, hp, hi⟩ := h
  simp only [wakePlaces, List.mem_cons, List.not_mem_nil, or_false] at hp
  rcases hp with rfl | rfl | rfl | rfl | rfl | rfl
  · exact .inl hi
  · have hi : o = 0x20010 := hi
    omega
  · obtain ⟨k, hk⟩ : ∃ k, o = 0x20018 + 0x4 * (k % 2) := hi
    omega
  · obtain ⟨k, hk⟩ : ∃ k, o = 0x20020 + 0x4 * (k % 2) := hi
    omega
  · obtain ⟨k, hk⟩ : ∃ k, o = 0x20038 + 0x4 * (k % 2) := hi
    omega
  · obtain ⟨k, hk⟩ : ∃ k, o = 0x22000 + 0x4 * (k % 2048) := hi
    omega

theorem State.woken_keeps (m : Nat) (s : State) (off : Nat)
    (hm : 0x4046800000000000000000000002007145244 &&& m = 0x4046800000000000000000000002007145244) : Kept m s (s.woken off) := by
  unfold State.woken
  exact Kept.ite (State.lingerFrom_keeps m s _ false (Mask.trans (by decide) hm)
    (State.startCore_keeps m s s hm (Kept.refl m s))) (Kept.refl m s)

theorem State.reg_woken_other (s : State) (off : Nat) {o : Nat} (ho : ¬ inPlaces wakePlaces o) : (s.woken off).reg o = s.reg o :=
  (s.woken_keeps (partsAnd wakePlaces) off (by decide)).reg_of_places ho

theorem State.leader_woken (s : State) (off : Nat) : (s.woken off).leader = s.leader := by
  have hreg : (s.woken off).reg ID_TOPOLOGY = s.reg ID_TOPOLOGY := by
    refine s.reg_woken_other off (fun h => ?_)
    rcases range_of_wakePlaces h with h | h | h
    · exact absurd h (by decide)
    · exact absurd h.1 (by decide)
    · exact absurd h.1 (by decide)
  unfold State.leader State.flag State.fld
  rw [hreg]

theorem State.staged_woken (s : State) (off : Nat) : (s.woken off).staged = s.staged :=
  (s.woken_keeps 0x4046800000000000000000000002007145244 off (by decide)).staged (by decide)

theorem State.absent_woken (s : State) (off o : Nat) : (s.woken off).absent o = s.absent o := by
  have htie := (s.woken_keeps 0x4046800000000000000000000002007145244 off (by decide)).tie
  unfold State.absent State.present State.built
  rw [htie]

/-! ### A write of staged fields (R6) -/

section
variable {off : Nat} {d : RegDesc} {f : FieldDesc} (hd : findReg off = some d) (hf : f ∈ d.fields) (ht : f.ty = .rws)
include hd hf ht

theorem not_wakePlaces_of_rws : ¬ inPlaces wakePlaces off := by
  obtain ⟨hlow, -, hest, hctx⟩ := range_of_rws hd hf ht
  intro h
  have := range_of_wakePlaces h
  omega

theorem ne_rail_of_rws (n : Nat) : off ≠ RAIL_CAP_CTRL n ∧ off ≠ RAIL_PH_FAULT n ∧ off ≠ RAIL_PH_FAULT_HI n := by
  have hn : n % 4 < 4 := Nat.mod_lt n (by decide)
  have hcap := ne_of_rws hd hf ht ((by decide : ∀ k < 4, (findReg (RAIL_CAP_CTRL k)).all
    (fun d => d.fields.all (fun f => f.ty != .rws)) = true) (n % 4) hn)
  have hfault := ne_of_rws hd hf ht ((by decide : ∀ k < 4, (findReg (RAIL_PH_FAULT k)).all
    (fun d => d.fields.all (fun f => f.ty != .rws)) = true) (n % 4) hn)
  have hfaultHi := ne_of_rws hd hf ht ((by decide : ∀ k < 4, (findReg (RAIL_PH_FAULT_HI k)).all
    (fun d => d.fields.all (fun f => f.ty != .rws)) = true) (n % 4) hn)
  rw [RAIL_CAP_CTRL, Nat.mod_mod] at hcap
  rw [RAIL_PH_FAULT, Nat.mod_mod] at hfault
  rw [RAIL_PH_FAULT_HI, Nat.mod_mod] at hfaultHi
  exact ⟨hcap, hfault, hfaultHi⟩

theorem ne_siteStatus_of_rws (k : Nat) : off ≠ SITE_STATUS k := by
  have h := ne_of_rws hd hf ht ((by decide : ∀ k < 96, (findReg (SITE_STATUS k)).all
    (fun d => d.fields.all (fun f => f.ty != .rws)) = true) (k % 96) (Nat.mod_lt k (by decide)))
  rwa [SITE_STATUS, Nat.mod_mod] at h

theorem State.writeOwn_of_rws (s : State) (data : Nat) (who : Who) : s.writeOwn off data who = none := by
  obtain ⟨hlow, -⟩ := range_of_rws hd hf ht
  obtain ⟨-, hfault, hfaultHi⟩ := ne_rail_of_rws hd hf ht ((off - 0x18000) / 0x1000)
  unfold State.writeOwn
  dsimp only
  have above : ∀ {o : Nat}, o < 0x8000 → ¬ off ≤ o := fun ho => Nat.not_le_of_lt (Nat.lt_of_lt_of_le ho hlow)
  rw [if_neg (fun h => above (by decide) h.2), if_neg (fun h => above (by decide) (Nat.le_of_eq h)),
    if_neg (fun h => hfault h.2), if_neg (fun h => hfaultHi h.2),
    if_neg (fun h => h.elim (fun h => above (by decide) (Nat.le_of_eq h)) (fun h => above (by decide) (Nat.le_of_eq h))),
    if_neg (fun h => above (by decide) h.2)]

theorem below_resync_of_rws (htime : off = TIME_CTRL) : f.hi < 31 := by
  subst htime
  obtain rfl := Option.some.inj hd
  simp only [List.mem_cons, List.not_mem_nil, or_false] at hf
  rcases hf with rfl | rfl | rfl | rfl
  · cases ht
  all_goals decide

theorem State.resyncWrite_of_rws (s : State) (htime : off = TIME_CTRL) :
    bitsOf (s.resyncWrite.reg off) f.hi f.lo = bitsOf (s.reg off) f.hi f.lo ∧ s.resyncWrite.staged = s.staged := by
  have hbit := s.fld_setFlag_apart TIME_CTRL.RESYNC ⟨off, f.hi, f.lo⟩ true
    (.inr ⟨by decide, by decide, htime.symm, .inl (below_resync_of_rws hd hf ht htime)⟩)
  unfold State.resyncWrite
  dsimp only
  split
  · have hne : TIME_STATUS ≠ off := by
      rw [htime]
      decide
    have hwait := State.fld_setFlag_apart (s.setFlag TIME_CTRL.RESYNC true) TIME_STATUS.RESYNC_WAIT ⟨off, f.hi, f.lo⟩ true
      (.inl hne)
    exact ⟨hwait.trans hbit, (State.setFlag_staged _ _ _).trans (State.setFlag_staged _ _ _)⟩
  · exact ⟨hbit, State.setFlag_staged _ _ _⟩

/-- What such a write sets going: at most the resynchronisation, whose bit stands in the register of the time bus. -/
theorem State.writeActs_of_rws (s old : State) (data : Nat) (who : Who) :
    bitsOf ((s.writeActs old off data who).reg off) f.hi f.lo = bitsOf (s.reg off) f.hi f.lo ∧
    (s.writeActs old off data who).staged = s.staged := by
  obtain ⟨hlow, -⟩ := range_of_rws hd hf ht
  obtain ⟨hcap, -, -⟩ := ne_rail_of_rws hd hf ht ((off - 0x18000) / 0x1000)
  have hsite := ne_siteStatus_of_rws hd hf ht ((off - 0x90000) / 0x40)
  unfold State.writeActs
  rw [if_neg (by omega), if_neg (by omega), if_neg (by omega), if_neg (ne_of_rws hd hf ht (by decide))]
  split
  · unfold State.actRail
    dsimp only
    rw [if_neg hcap]
    exact ⟨rfl, rfl⟩
  rw [if_neg (ne_of_rws hd hf ht (by decide)), if_neg (not_or.mpr ⟨ne_of_rws hd hf ht (by decide), ne_of_rws hd hf ht (by decide)⟩),
    if_neg (ne_of_rws hd hf ht (by decide))]
  split
  · next htime =>
    split
    · exact s.resyncWrite_of_rws hd hf ht htime
    · exact ⟨rfl, rfl⟩
  split
  · unfold State.actSite
    dsimp only
    rw [if_neg (fun h => hsite h.1)]
    exact ⟨rfl, rfl⟩
  · exact ⟨rfl, rfl⟩

theorem State.writeWord_of_rws (s : State) (ha : s.absent off = false) (data : Nat) (who : Who) :
    s.writeWord d off data who = s.written d off data who := by
  obtain ⟨hlow, -⟩ := range_of_rws hd hf ht
  have hload : decide (HEATH_FW_LOAD_LO ≤ off ∧ off ≤ HEATH_FW_LOAD_CTRL) = false :=
    decide_eq_false (show ¬ (0x1030 ≤ off ∧ off ≤ 0x1038) by omega)
  have hignores : s.ignores off = false := by
    unfold State.ignores
    rw [ha, hload]
    rfl
  unfold State.writeWord
  rw [if_neg (by omega), hignores, if_neg Bool.false_ne_true, s.writeOwn_of_rws hd hf ht]

/-- A write of a staged field reaches its staging copy and leaves what is applied alone. -/
theorem State.written_follows_of_rws (s : State) (data : Nat) (who : Who) :
    f.follows (s.hasScope d.scope) data off s (s.written d off (data % 2 ^ 32) who) := by
  obtain ⟨hbits, hstaged⟩ := State.writeActs_of_rws hd hf ht (s.writeFields d off (data % 2 ^ 32)).1 s (data % 2 ^ 32) who
  obtain ⟨hregs, hcopies⟩ := ((s.writeFields d off (data % 2 ^ 32)).1.writeActs s off (data % 2 ^ 32) who).sameRegs_response
    (s.writeFields d off (data % 2 ^ 32)).2
  exact FieldDesc.follows_of_writeFields hd hf s data
    ((congrArg (fun w => bitsOf w f.hi f.lo) (hregs off (ne_accDenied_of_field hd hf))).trans hbits) (hcopies.trans hstaged)

theorem State.judgeAccess_rws (s : State) (hm : off % 4 = 0) (ha : s.absent off = false) (hl : s.leader = true) (data : Nat) :
    bitsOf (((s.woken off).judgeAccess ⟨true, off, data, .host⟩).stagedReg off) f.hi f.lo = bitsOf data f.hi f.lo ∧
    bitsOf (((s.woken off).judgeAccess ⟨true, off, data, .host⟩).reg off) f.hi f.lo = bitsOf (s.reg off) f.hi f.lo := by
  obtain ⟨-, hhigh, -⟩ := range_of_rws hd hf ht
  rw [(s.woken off).judgeAccess_write data .host hd hm hhigh (by rw [s.leader_woken, hl]),
    if_pos (State.allowed_host _ _ _ _),
    (s.woken off).writeWord_of_rws hd hf ht (by rw [s.absent_woken, ha])]
  have hfollows := (s.woken off).written_follows_of_rws hd hf ht data .host
  unfold FieldDesc.follows at hfollows
  rw [ht, s.reg_woken_other off (not_wakePlaces_of_rws hd hf ht)] at hfollows
  exact hfollows

end

/-! ### A read does not see when its domain may stop (R17) -/

theorem each_regs_congr {α : Type} {f : α → State → State}
    (hf : ∀ x (s t : State), s.regs = t.regs → (f x s).regs = (f x t).regs) (xs : List α) {s t : State} (h : s.regs = t.regs) :
    (each xs f s).regs = (each xs f t).regs := by
  induction xs generalizing s t with
  | nil => exact h
  | cons x xs ih => exact ih (hf x s t h)

theorem State.regs_accrueReasons_congr {s t : State} (hr : s.regs = t.regs) (hn : s.now = t.now) (hl : s.lim = t.lim) :
    s.accrueReasons.regs = t.accrueReasons.regs := by
  unfold State.accrueReasons State.fld
  dsimp only
  rw [hn, hl, State.reg_congr hr]
  refine each_regs_congr (fun c s t h => ?_) _ hr
  unfold State.setReg64 State.reg64
  rw [State.reg_congr h, State.reg_congr h]
  simp only [State.setReg, h]

theorem State.readReg_lingerFrom (s : State) (steward : Bool) (o : Nat) : (s.lingerFrom steward).readReg o = s.readReg o := by
  have hheath : (s.lingerFrom steward).liveHeath o = s.liveHeath o := rfl
  have hfabric : (s.lingerFrom steward).liveFabric o = s.liveFabric o := rfl
  have hpower : (s.lingerFrom steward).livePower o = s.livePower o := by
    unfold State.livePower
    rw [State.reg_congr (State.regs_accrueReasons_congr (s := s.lingerFrom steward) (t := s) rfl rfl rfl)]
    rfl
  unfold State.readReg
  rw [hheath, hpower, hfabric]
  rfl

theorem State.portWord_lingerFrom (s : State) (steward : Bool) (d : RegDesc) (o : Nat) :
    (s.lingerFrom steward).portWord d o = s.portWord d o := by
  unfold State.portWord
  rw [State.readReg_lingerFrom]
  rfl

/-! ### A read of a low word (R252) -/

theorem lt_of_isLowWord {off : Nat} (h : isLowWord off = true) : off < 0xA0000 := by
  unfold isLowWord at h
  simp only [Bool.or_eq_true, Bool.and_eq_true, decide_eq_true_eq, List.contains_eq_mem, List.mem_cons, List.not_mem_nil,
    or_false] at h
  omega

theorem State.latchOf_setLatch (s : State) (who : Who) (off hi : Nat) : (s.setLatch who off hi).latchOf who = some (off, hi) := by
  have hnone : (s.latches.filter (fun p => decide (p.1 ≠ who))).find? (fun p => decide (p.1 = who)) = none := by
    simp [List.find?_eq_none]
  have hfind : (s.setLatch who off hi).latches.find? (fun p => decide (p.1 = who)) = some (who, off, hi) := by
    unfold State.setLatch
    rw [List.find?_append, hnone, Option.none_or]
    exact List.find?_cons_of_pos (decide_eq_true rfl)
  unfold State.latchOf
  rw [hfind, Option.map_some]

/-- The host reads all 32 bits of a word, at the leader every register's. -/
theorem State.readWord_low (s : State) (d : RegDesc) {off : Nat} (hlow : isLowWord off = true) (hl : s.leader = true) :
    s.readWord d off .host = (s.setLatch .host off (s.portWord d (off + 4) % 2 ^ 32)).okay (s.portWord d off % 2 ^ 32) := by
  have hview : ∀ o, (if d.pkg = true ∧ s.leader = false then 0 else s.portWord d o &&& s.reach o .host) = s.portWord d o % 2 ^ 32 := by
    intro o
    rw [if_neg (by simp [hl])]
    exact Nat.and_two_pow_sub_one_eq_mod _ 32
  unfold State.readWord
  dsimp only
  rw [if_pos hlow, hview, hview]

/-! ### The statement's parts -/

theorem State.judgeAccess_low (u : State) {off : Nat} {d : RegDesc} (hd : findReg off = some d) (hm : off % 4 = 0)
    (hlow : isLowWord off = true) (hl : u.leader = true) :
    (u.judgeAccess ⟨false, off, 0, .host⟩).out = u.out ++ [.reg (u.portWord d off % 2 ^ 32) 0] ∧
    (u.judgeAccess ⟨false, off, 0, .host⟩).latchOf .host = some (off, u.portWord d (off + 4) % 2 ^ 32) := by
  rw [u.judgeAccess_read 0 .host hd hm (lt_of_isLowWord hlow), if_pos (State.allowed_host _ _ _ _), u.readWord_low d hlow hl]
  exact ⟨rfl, State.latchOf_setLatch u .host off _⟩

/-- An offset that no register has. -/
theorem State.judgeAccess_unmapped (u : State) {off : Nat} (data : Nat) {who : Who}
    (h : off % 4 ≠ 0 ∨ findReg off = none ∧ who ≠ .rsvd ∧ (off < 0xA0000 ∨ 0xB2000 ≤ off)) :
    u.judgeAccess ⟨true, off, data, who⟩ = u.emit (.reg 0 2) := by
  unfold State.judgeAccess
  dsimp only
  by_cases hm : off % 4 ≠ 0
  · rw [if_pos hm]
  · obtain ⟨hnone, hwho, hrange⟩ := h.resolve_left hm
    have hdebug : inDebugModule off = false := by simp [inDebugModule]; omega
    rw [if_neg hm, hdebug, if_neg Bool.false_ne_true, if_neg (by omega), hnone]
    exact if_neg hwho

theorem FieldDesc.write_refused_of_rw {f : FieldDesc} (ht : f.ty = .rw) (scope : Bool) (data : Nat) (x : Nat × Nat × Bool) :
    (f.write scope data x).2.2 = x.2.2 := by
  unfold FieldDesc.write
  rw [ht]
  dsimp only
  split <;> rfl

/-- MB_OUT_MASK is one RW field of 32 bits, which takes every value. -/
theorem State.judgeAccess_outMask (s : State) (hl : s.leader = true) (data : Nat) :
    (s.judgeAccess ⟨true, MB_OUT_MASK, data, .host⟩).reg MB_OUT_MASK = data % 2 ^ 32 ∧
    (s.judgeAccess ⟨true, MB_OUT_MASK, data, .host⟩).out = s.out ++ [.reg 0 0] := by
  have hd : findReg MB_OUT_MASK = some ⟨0x2408, 0x4, 1, 0xFFFFFFFF, .system, .host, 0xFFFFFFFF, false, 0,
    [⟨31, 0, .rw, 0, 4294967295⟩]⟩ := by decide
  have hword : ∀ n, bitsOf n 31 0 = n % 2 ^ 32 := fun n => by rw [bitsOf, pow_zero, Nat.div_one]
  constructor
  · have hfield : bitsOf ((s.judgeAccess ⟨true, MB_OUT_MASK, data, .host⟩).reg MB_OUT_MASK) 31 0 =
        if 0 ≤ bitsOf data 31 0 ∧ bitsOf data 31 0 ≤ 4294967295 then bitsOf data 31 0 else bitsOf (s.reg MB_OUT_MASK) 31 0 :=
      (s.writePlainReg_follows hd (by decide) (by decide) hl rfl data (s.allowed_host _ _ _)).1 _ List.mem_cons_self
    rw [hword data, if_pos (by omega), hword, Nat.mod_eq_of_lt (State.reg_lt _ _)] at hfield
    exact hfield
  · have hrefused : (s.writeFields ⟨0x2408, 0x4, 1, 0xFFFFFFFF, .system, .host, 0xFFFFFFFF, false, 0,
        [⟨31, 0, .rw, 0, 4294967295⟩]⟩ MB_OUT_MASK (data % 2 ^ 32)).2 = false :=
      FieldDesc.write_refused_of_rw (f := ⟨31, 0, .rw, 0, 4294967295⟩) rfl (s.hasScope 0) _ _
    rw [s.judgeAccess_write data .host hd (by decide) (by decide) hl, if_pos (s.allowed_host _ _ _),
      s.writeWord_of_plainReg (by decide) _ (by decide) rfl, hrefused]
    rfl

/-- A requester without the right to write is denied and counted, and changes nothing else. -/
theorem State.judgeAccess_denies (u : State) {off : Nat} {d : RegDesc} (hd : findReg off = some d) (hm : off % 4 = 0)
    (hlt : off < 0xA0000) (hl : u.leader = true) (data : Nat) {who : Who} (hw : u.allowed true d.wr off who = false) :
    (u.judgeAccess ⟨true, off, data, who⟩).out = u.out ++ [.reg 0 1] ∧
    (u.judgeAccess ⟨true, off, data, who⟩).fld (whole ACC_DENIED) =
      min (u.fld (whole ACC_DENIED) + 1) (whole ACC_DENIED).top ∧
    (∀ o, o ≠ ACC_DENIED → (u.judgeAccess ⟨true, off, data, who⟩).reg o = u.reg o) ∧
    (u.judgeAccess ⟨true, off, data, who⟩).staged = u.staged := by
  rw [u.judgeAccess_write data who hd hm hlt hl, hw, if_neg Bool.false_ne_true]
  exact ⟨rfl, u.fld_deny, u.sameRegs_deny⟩

/-- Settles O26: every access is judged in the state whose domain runs (State.woken), and each field of a written word is
written as though it were alone (State.reg_writeFields_bits). -/
theorem registerPortReadsAndWrites : Obligations.RegisterPortReadsAndWrites := by
  unfold Obligations.RegisterPortReadsAndWrites
  intro s hopen
  obtain ⟨-, -, -, hleader⟩ := id hopen
  refine ⟨fun data => ⟨_, exec_registerWrite hopen _ _ _, s.judgeAccess_outMask hleader data⟩,
    fun off data d f hd hm hf ht ha => ⟨_, exec_registerWrite hopen _ _ _, s.judgeAccess_rws hd hf ht hm ha hleader data⟩,
    fun off data who => ⟨_, exec_registerWrite hopen _ _ _, State.answered_judgeAccess _ off data who⟩,
    fun off data who d hd hm hp ha hcore => ⟨fun hw => ⟨_, exec_registerWrite hopen _ _ _, ?_⟩,
      fun hw => ⟨_, exec_registerWrite hopen _ _ _, ?_⟩⟩,
    fun off data who hoff hcore => ⟨_, exec_registerWrite hopen _ _ _, ?_⟩,
    fun off d hd hm hlow hcore => ⟨_, exec_lowWordRead hopen _ _, ?_⟩⟩
  · -- a plain register with the right to write it
    rcases State.woken_of_coreOn hcore with h | h <;> rw [h]
    · exact s.writePlainReg_follows hd hm hp hleader ha data hw
    · exact (s.lingerFrom false).writePlainReg_follows hd hm hp hleader ha data hw
  · -- without that right
    obtain ⟨-, -, -, -, -, -, hlt⟩ := plainReg_spec hp
    rcases State.woken_of_coreOn hcore with h | h <;> rw [h]
    · exact s.judgeAccess_denies hd hm (by omega) hleader data hw
    · exact (s.lingerFrom false).judgeAccess_denies hd hm (by omega) hleader data hw
  · -- an offset without a register
    rcases State.woken_of_coreOn hcore with h | h <;> rw [h, State.judgeAccess_unmapped _ data hoff] <;> exact ⟨rfl, rfl, rfl⟩
  · -- a low word
    rcases State.woken_of_coreOn (fun _ => hcore) with h | h <;> rw [h]
    · exact s.judgeAccess_low hd hm hlow hleader
    · have hread := (s.lingerFrom false).judgeAccess_low hd hm hlow hleader
      rw [State.portWord_lingerFrom, State.portWord_lingerFrom] at hread
      exact hread

end Sys2Proof.Machine
end

section
/-! PROOF of O6, O7, O8 (R53, R71, R429): whether a command is executed is judged by the units that it names alone. -/

namespace Sys2Proof.Machine

/-- What a command can answer: a next state where the hardware has the units that it names, a fault where it lacks one. -/
def Instr.answers (i : Instr) (s : State) : Prop :=
  i.unitsExist s = true ∧ (∃ t, exec i s = .next t) ∨ i.unitsExist s = false ∧ exec i s = .fault .noSuchUnit

theorem ofUnit_answers (ok : Bool) (t : State) :
    ok = true ∧ (∃ u, ofUnit ok t = .next u) ∨ ok = false ∧ ofUnit ok t = .fault .noSuchUnit := by
  cases ok
  · exact .inr ⟨rfl, rfl⟩
  · exact .inl ⟨rfl, t, rfl⟩

/-- Every command answers as the units that it names tell. -/
theorem exec_answers (i : Instr) (s : State) : Instr.answers i s := by
  cases i with
  | vaonPorRelease | heathPor | porstNAssert | pllLock | strapExchangeClose | sfdpDiscovery
  | flashAbsentTimeout | slotVerify | followerImageVerify | imageStart | vinSettleTimeout
  | blockResetWrite | blockResetComplete | stewardDigestCheck | psTransitionDone | psReqRelease
  | registerWrite | lowWordRead | mbOutFullClear | mbDbInWrite | mbDbOutClear
  | ringCtrlArm | ringCtrlForce | ringCtrlResume | timeResync | fhFirstClear
  | budSlowClear | fwLoadGo | accCtrlRelock | arbiterGrant | waveStepBoundary | revocationPass
  | reservationStart | reservationTimeT | reservationEnd | prebiasStart | dieForceReleaseStep
  | limiterOperandChange | oppStepStart | oppFreqHandshakeStart | oppFreqAck | oppFreqAckFall
  | oppFreqTimeout | fastLimitLatch | fastLimitRelease | emergencyHoldExpiry | supplyHoldExpiry
  | orderedShutdownStart | nextRailShutdown | dpwmRecalibration | avsVinPoll | vinStale
  | avsStatusRead | avsRetry | estimatorInterval | calibrationMillisecond | thermalRound
  | graceDeadline | predictionUpdate | externalTrip | oscCompensationConversion | watchSend
  | heartbeatSend | hdgWakeIn | prepareTimeout | commitOrphan | cmdDoneTimeout | commitStart
  | commitApply | hello | helloAck | ackFrame | pace | emerg | relPrepare
  | relVote | relCommit | relAbort | fabRetransmit | discoveryPeriod | peerDead
  | paceRefresh | levelWordExpiry | levelWordResend | voteWaitEnd | originatorWaitEnd
  | releaseBufferHoldExpiry | releaseRetry | tpPulse | pulseMissing | skylarkHoldover
  | resyncApply | heartbeatTimeout | mctpRequest | mctpControl | pldmRequest | snapshotComplete
  | ringPostTimeout | streamPeriod | fwStageReadback | activationStart | activationTimeout
  | activationComplete | slotRepairDone | userRead | userCapStage | userCapCommit
  | userDoorbell | userTimerSet | userTimerWake | userLog | accessTimerExpiry | nonceLapse
  | unlockBackoffEnd | rstStormEnd | edvikFrameDiscard => exact .inl ⟨rfl, _, rfl⟩
  | _ => exact ofUnit_answers _ _

/-- Settles O6: it answers by its units (exec_answers), and what it carries over holds the installation and the queue. -/
theorem commandsCompleteWhereTheirUnitsExist : Obligations.CommandsCompleteWhereTheirUnitsExist := by
  unfold Obligations.CommandsCompleteWhereTheirUnitsExist
  intro i s hunits
  obtain ⟨-, t, ht⟩ | ⟨hmissing, -⟩ := exec_answers i s
  · have hcarried := exec_carries i s t ht
    exact ⟨t, ht, hcarried.tie, hcarried.pending⟩
  · exact absurd (hunits.symm.trans hmissing) Bool.noConfusion

/-- Settles O7. -/
theorem onlyAMissingUnitFaults : Obligations.OnlyAMissingUnitFaults := by
  unfold Obligations.OnlyAMissingUnitFaults
  intro i s
  obtain ⟨hunits, t, ht⟩ | ⟨hmissing, hfault⟩ := exec_answers i s
  · simp [ht, hunits]
  · simp [hfault, hmissing]

/-- Settles O8. -/
theorem noCommandIsRefused : Obligations.NoCommandIsRefused := by
  unfold Obligations.NoCommandIsRefused
  intro i s
  obtain ⟨-, t, ht⟩ | ⟨hmissing, hfault⟩ := exec_answers i s
  · exact ⟨fun r => by simp [ht], fun _ => ⟨t, ht⟩⟩
  · exact ⟨fun r => by simp [hfault], fun hunits => absurd (hunits.symm.trans hmissing) Bool.noConfusion⟩

end Sys2Proof.Machine
end

section
/-! PROOF of O22 (R91, R210): the ordered shutdown. What the operations of the limiter, the arbiter and the domains leave of the
power state, and of the rails, is told by what they keep; the rest is the shutdown's own steps. -/

namespace Sys2Proof.Machine

/-- The mask of every place but one. -/
def allBut (p : Place) : Nat := 2 ^ 200 - 1 - 2 ^ p.ctorIdx

theorem max_eq_add_sub (a b : Nat) : a + (b - a) = max a b := by omega

/-- The clock at an instant that it has been moved on to. -/
theorem State.now_advanceTo (s : State) (t : Nat) : (s.advanceTo t).now = max s.now t := max_eq_add_sub s.now t

theorem State.rail_setRail_same (s : State) (n : Nat) (r : Rail) : (s.setRail n r).rail n = r := SMap.get_put_same _ _ _ _

theorem State.ps_railDown (s : State) (n : Nat) : (s.railDown n).ps = s.ps :=
  (State.railDown_keeps (allBut .ps) s s n (by decide) (Kept.refl _ s)).ps (by decide)

theorem State.ps_railOff (s : State) (n : Nat) : (s.railOff n).ps = s.ps :=
  (State.railOff_keeps (allBut .ps) s s n (by decide) (Kept.refl _ s)).ps (by decide)

/-- The phases of a rail drop and its keeper is OFF. -/
theorem State.state_railOff (s : State) (n : Nat) : ((s.railOff n).rail n).state = 0 := by
  have hrails : ∀ u : State, (u.showRail n).rails = u.rails := fun u =>
    (State.showRail_keeps (allBut .rails) u u n (by decide) (Kept.refl _ u)).rails (by decide)
  unfold State.railOff State.rail
  dsimp only
  rw [hrails]
  refine (congrArg Rail.state (State.rail_setRail_same _ n _)).trans ?_
  exact congrArg Rail.state (State.rail_setRail_same (s.dropPhases n) n _)

/-- With a rail up the shutdown goes on with the first of them. -/
theorem State.shut_shutNext {s : State} {n : Nat} (h : s.firstUp = some n) (why : Nat) :
    (s.shutNext why).ps.shut = some ⟨1, n, s.now, why⟩ := by
  unfold State.shutNext
  rw [h]
  dsimp only
  rw [State.ps_railDown]

/-! ### The end of a shutdown -/

theorem State.ps_stopClocks (s : State) : s.stopClocks.ps.shut = s.ps.shut ∧ s.stopClocks.ps.req = s.ps.req ∧
    s.stopClocks.ps.railsReady = s.ps.railsReady := by
  unfold State.stopClocks
  split <;> exact ⟨rfl, rfl, rfl⟩

theorem State.pstate_setFlag {s : State} {f : Fld} (b : Bool) (h : f.apart HEATH_DOMAIN_STATUS.PSTATE) :
    (s.setFlag f b).pstate = s.pstate := State.fld_setFlag_apart _ _ _ _ h

theorem State.pstate_stopClocks (s : State) : s.stopClocks.pstate = s.pstate := by
  unfold State.stopClocks
  split
  · rfl
  · dsimp only
    rw [State.pstate_setFlag _ (by decide), State.pstate_setFlag _ (by decide), State.pstate_setFlag _ (by decide),
      State.pstate_setFlag _ (by decide)]
    rfl

/-- From `s` to `t` the die has come to OFF, its request untouched. -/
def State.isDown (s t : State) : Prop := t.ps.shut = none ∧ t.ps.req = s.ps.req ∧ t.ps.railsReady = false ∧ t.pstate = 0

theorem State.isDown_enterOff (s : State) : s.isDown s.enterOff := by
  unfold State.enterOff
  dsimp only
  generalize hu : ((({ s with
    ps := { s.ps with shut := none, bring := false, soft := none, railsReady := false, fellAt := none }
    est := { s.est with psChanged := true }
    avs := { s.avs with busy := 0, attempts := 0, settleAt := none } } : State).setFld HEATH_DOMAIN_STATUS.PSTATE 0).setFlag
      HEATH_DOMAIN_STATUS.IN_TRANSIT false) = u
  have hdown : s.isDown u := by
    subst hu
    refine ⟨rfl, rfl, rfl, ?_⟩
    rw [State.pstate_setFlag _ (by decide)]
    exact State.fld_setFld_same _ _ _ (by decide) (by decide)
  -- the heartbeat of the state OFF
  have hbeat : s.isDown (if (u.ps.booting || u.stopped) = true then u else u.sendBeat 0) := by
    have hkept := State.sendBeat_keeps 0x40040 u u 0 (by decide) (Kept.refl _ u)
    split
    · exact hdown
    · unfold State.isDown State.pstate
      rw [hkept.ps (by decide), hkept.fld _ (by decide)]
      exact hdown
  generalize (if (u.ps.booting || u.stopped) = true then u else u.sendBeat 0) = v at hbeat ⊢
  obtain ⟨hshut, hreq, hready, hpstate⟩ := hbeat
  obtain ⟨hshut', hreq', hready'⟩ := v.ps_stopClocks
  exact ⟨hshut'.trans hshut, hreq'.trans hreq, hready'.trans hready, v.pstate_stopClocks.trans hpstate⟩

theorem State.isDown_psDone {s t : State} (h : s.isDown t) : s.isDown t.psDone := by
  unfold State.psDone
  have hkept := fun u => State.restepDue_keeps 0x10000000000000000000800200 u u (by decide) (Kept.refl _ u)
  unfold State.isDown State.pstate
  rw [(hkept _).ps (by decide), (hkept _).fld _ (by decide), State.fld_setFlag_apart _ _ _ _ (by decide)]
  exact h

theorem State.isDown_shutDone (s : State) {why : Nat} (h : why ≠ 3) : s.isDown (s.shutDone why) := by
  unfold State.shutDone
  dsimp only
  rw [if_neg h]
  split
  · split
    · exact State.isDown_psDone s.isDown_enterOff
    · exact s.isDown_enterOff
  · exact s.isDown_enterOff

theorem State.tryRequest_of_none {s : State} (h : s.ps.req = none) : s.tryRequest = s := by
  unfold State.tryRequest
  rw [h]

section
variable {s : State} {k : Shut} (hshut : s.ps.shut = some k)
include hshut

theorem exec_orderedShutdownStart_phase0 (hphase : k.phase = 0) :
    exec .orderedShutdownStart s = .next ((s.advanceTo (k.since + 2000)).shutNext k.why) := by
  have h : s.shutStart = (s.advanceTo (k.since + 2000)).shutNext k.why := by
    unfold State.shutStart
    rw [hshut]
    exact if_pos hphase
  exact congrArg Host.Outcome.next h

theorem exec_railShutdownDone_phase1 (hphase : k.phase = 1) (hrail : k.rail < 4) (hvref : (s.rail k.rail).vref ≤ 64 * 300) :
    exec (.railShutdownDone k.rail) s =
      .next (({ s with ps := { s.ps with shut := some { k with phase := 2, since := s.now } } }).railOff k.rail) := by
  have h : s.shutRailDone k.rail =
      ({ s with ps := { s.ps with shut := some { k with phase := 2, since := s.now } } }).railOff k.rail := by
    unfold State.shutRailDone
    rw [hshut]
    exact if_pos ⟨hphase, rfl, hvref⟩
  show ofUnit (decide (k.rail < 4)) (s.shutRailDone k.rail) = _
  rw [h, decide_eq_true hrail]
  rfl

theorem exec_nextRailShutdown_phase2 (hphase : k.phase = 2) :
    exec .nextRailShutdown s = .next
      (if ((s.advanceTo (k.since + 10000)).shutNext k.why).ps.shut = none
        then ((s.advanceTo (k.since + 10000)).shutNext k.why).tryRequest
        else (s.advanceTo (k.since + 10000)).shutNext k.why) := by
  have h : s.shutContinue = if ((s.advanceTo (k.since + 10000)).shutNext k.why).ps.shut = none
      then ((s.advanceTo (k.since + 10000)).shutNext k.why).tryRequest
      else (s.advanceTo (k.since + 10000)).shutNext k.why := by
    unfold State.shutContinue
    rw [hshut]
    exact if_pos hphase
  exact congrArg Host.Outcome.next h

end

/-- Settles O22: each of the shutdown's three rows acts in its phase; the last one leaves the die down (State.isDown). -/
theorem orderedShutdownTakesRailByRail : Obligations.OrderedShutdownTakesRailByRail := by
  unfold Obligations.OrderedShutdownTakesRailByRail
  have hnext : ∀ (s : State) (t n why : Nat), s.firstUp = some n →
      ((s.advanceTo t).shutNext why).ps.shut = some ⟨1, n, max s.now t, why⟩ := fun s t n why hup => by
    rw [State.shut_shutNext (s := s.advanceTo t) hup, s.now_advanceTo]
  refine ⟨fun s k n hshut hphase hup => ?_, fun s k hshut hphase hrail hvref => ?_, fun s k hshut hphase => ⟨?_, ?_⟩⟩
  · exact ⟨_, exec_orderedShutdownStart_phase0 hshut hphase, hnext s _ n _ hup⟩
  · exact ⟨_, exec_railShutdownDone_phase1 hshut hphase hrail hvref, by rw [State.ps_railOff], State.state_railOff _ _⟩
  · intro n hup
    have hshut' := hnext s (k.since + 10000) n k.why hup
    refine ⟨_, exec_nextRailShutdown_phase2 hshut hphase, ?_⟩
    rw [if_neg (by rw [hshut']; exact Option.some_ne_none _), hshut']
  · intro hup hreq hwhy
    have hdone : (s.advanceTo (k.since + 10000)).shutNext k.why = (s.advanceTo (k.since + 10000)).shutDone k.why := by
      unfold State.shutNext
      rw [show (s.advanceTo (k.since + 10000)).firstUp = none from hup]
    obtain ⟨hshut', hreq', hready, hpstate⟩ := (s.advanceTo (k.since + 10000)).isDown_shutDone hwhy
    refine ⟨_, exec_nextRailShutdown_phase2 hshut hphase, ?_⟩
    rw [hdone, if_pos hshut', State.tryRequest_of_none (hreq'.trans hreq)]
    exact ⟨hshut', hready, hpstate⟩

end Sys2Proof.Machine
end

section
/-! PROOF of O23 (R52, R53, R54): the register port while PORST_N is asserted. The three registers of the identity region and of
HEATH_DOMAIN_STATUS hold what they show, and any privilege may read them. -/

namespace Sys2Proof.Machine

/-- The offsets of the registers that can be read while PORST_N is asserted. -/
def identityOffs : List Nat := [0x0, 0x4, HEATH_DOMAIN_STATUS]

theorem RegDesc.eq_base_of_covers {d : RegDesc} {off : Nat} (hs : d.stride = 4) (hc : d.count = 1) (h : d.covers off = true) :
    off = d.base := by
  unfold RegDesc.covers at h
  simp only [hs, hc, Bool.and_eq_true, decide_eq_true_eq, beq_iff_eq] at h
  omega

theorem mem_identityOffs {off : Nat} {d : RegDesc} (hd : findReg off = some d) (h : off < 0x1000 ∨ off = HEATH_DOMAIN_STATUS) :
    off ∈ identityOffs := by
  have hle : off ≤ 0x1000 := h.elim Nat.le_of_lt Nat.le_of_eq
  obtain ⟨hp, hc⟩ := of_findReg (p := fun d => decide (d.base ≤ 0x1000 → d.stride = 4 ∧ d.count = 1 ∧ d.base ∈ identityOffs))
    (by decide) hd
  have hfold : foldOff off = off := if_neg (by omega)
  rw [hfold] at hc
  have hbase : d.base ≤ off := by
    unfold RegDesc.covers at hc
    simp only [Bool.and_eq_true, decide_eq_true_eq] at hc
    exact hc.1.1
  obtain ⟨hstride, hcount, hmem⟩ := of_decide_eq_true hp (Nat.le_trans hbase hle)
  rwa [RegDesc.eq_base_of_covers hstride hcount hc]

theorem State.portWord_identity (s : State) {off : Nat} {d : RegDesc} (hd : findReg off = some d) (h : off ∈ identityOffs) :
    s.portWord d off = s.reg off := by
  simp only [identityOffs, List.mem_cons, List.not_mem_nil, or_false] at h
  rcases h with rfl | rfl | rfl <;> obtain rfl := Option.some.inj hd <;> rfl

/-- Any privilege reads all 32 bits of such a register, at every die. -/
theorem State.readWord_identity (s : State) {off : Nat} {d : RegDesc} (hd : findReg off = some d) (h : off ∈ identityOffs)
    (who : Who) : s.readWord d off who = s.okay (s.reg off) := by
  have hplain : d.pkg = false ∧ isLowWord off = false ∧ isLowWord (off - 4) = false ∧ boxBits off = false := by
    simp only [identityOffs, List.mem_cons, List.not_mem_nil, or_false] at h
    rcases h with rfl | rfl | rfl <;> obtain rfl := Option.some.inj hd <;> decide
  obtain ⟨hpkg, hlow, hhigh, hbox⟩ := hplain
  have hreach : s.reach off who = 2 ^ 32 - 1 := by
    cases who <;> simp [State.reach, hbox]
  unfold State.readWord
  simp only [hpkg, hlow, hhigh, hreach, s.portWord_identity hd h, Nat.and_two_pow_sub_one_eq_mod,
    Nat.mod_eq_of_lt (s.reg_lt off), Bool.false_eq_true, false_and, if_false]

theorem State.allowed_any (s : State) (off : Nat) {who : Who} (h : who ≠ .rsvd) : s.allowed false .any off who = true := by
  cases who with
  | rsvd => exact absurd rfl h
  | host | debug | tenant => rfl

theorem State.perform_identity (s : State) {off : Nat} {d : RegDesc} (hd : findReg off = some d) (h : off ∈ identityOffs)
    {who : Who} (hwho : who ≠ .rsvd) : s.perform ⟨false, off, 0, who⟩ = s.emit (.reg (s.reg off) 0) := by
  have hplace : off % 4 = 0 ∧ off < 0x3000 ∧ d.rd = .any := by
    simp only [identityOffs, List.mem_cons, List.not_mem_nil, or_false] at h
    rcases h with rfl | rfl | rfl <;> obtain rfl := Option.some.inj hd <;> decide
  obtain ⟨haligned, hheath, hrd⟩ := hplace
  have hwoken : s.woken off = s := if_neg (by omega)
  rw [State.perform_eq, hwoken, s.judgeAccess_read 0 who hd haligned (by omega), hrd, if_pos (s.allowed_any off hwho)]
  exact s.readWord_identity hd h who

theorem State.perform_unmapped (s : State) {off : Nat} (hoff : off < 0x1000) (hnone : findReg off = none) {who : Who}
    (hwho : who ≠ .rsvd) : s.perform ⟨false, off, 0, who⟩ = s.emit (.reg 0 2) := by
  have hdebug : inDebugModule off = false := by simp [inDebugModule]; omega
  have hwoken : s.woken off = s := if_neg (by omega)
  rw [State.perform_eq, hwoken]
  unfold State.judgeAccess
  dsimp only
  by_cases hm : off % 4 ≠ 0
  · rw [if_pos hm]
  · rw [if_neg hm, hdebug, if_neg Bool.false_ne_true, if_neg (by omega), hnone]
    exact if_neg hwho

/-- Under PORST_N an access is performed where it is a read of the identity region or of HEATH_DOMAIN_STATUS. -/
theorem State.access_of_porst {s : State} (hvaon : s.ps.vaon = true) (hporst : s.ps.porst = false) (q : PortReq) :
    s.access q = if !q.wr ∧ (q.off < 0x1000 ∨ q.off = HEATH_DOMAIN_STATUS) ∧ q.who ≠ .rsvd then s.perform q
      else s.emit (.reg 0 3) := by
  have hclosed : s.portClosed = true := by
    unfold State.portClosed
    rw [hporst]
    rfl
  unfold State.access
  rw [hvaon, hclosed]
  rfl

/-- Settles O23: what is performed under PORST_N (State.access_of_porst), and how it is answered. -/
theorem portWhilePorstIsAsserted : Obligations.PortWhilePorstIsAsserted := by
  unfold Obligations.PortWhilePorstIsAsserted
  intro s off data who hvaon hporst
  have hread : exec (.lowWordRead off who) s = .next (s.access ⟨false, off, 0, who⟩) := rfl
  have hwrite : exec (.registerWrite off data who) s = .next (s.access ⟨true, off, data, who⟩) := rfl
  rw [hread, hwrite, State.access_of_porst hvaon hporst, State.access_of_porst hvaon hporst]
  refine ⟨fun hoff hsome hwho => ?_, fun hoff hnone hwho => ?_, fun hother => ?_, ?_⟩
  · obtain ⟨d, hd⟩ := Option.isSome_iff_exists.mp hsome
    rw [if_pos ⟨rfl, hoff, hwho⟩, s.perform_identity hd (mem_identityOffs hd hoff) hwho]
  · rw [if_pos ⟨rfl, .inl hoff, hwho⟩, s.perform_unmapped hoff hnone hwho]
  · rw [if_neg (fun h => hother.elim (fun hoff => hoff h.2.1) h.2.2)]
  · rw [if_neg (fun h => Bool.noConfusion h.1)]

end Sys2Proof.Machine
end


section
/-! PROOF of O30 (R64, R70, R120, R121): a class that rises or falls at an agent. Rings, shadows and samples leave the agents
alone; the end of a wait leaves an agent's classes, grants and stores; a grant out of the stores takes what it costs. -/

namespace Sys2Proof.Machine

/-! ### Agents -/

theorem State.agent_setAgent_same (s : State) (c : Nat) (a : Agent) : (s.setAgent c a).agent c = a := SMap.get_put_same _ _ _ _

theorem State.agent_congr {s t : State} (h : t.agents = s.agents) (c : Nat) : t.agent c = s.agent c :=
  congrArg (fun m => SMap.get agentDefault m c) h

theorem State.agent_shadow (s : State) (c k : Nat) : (s.shadow c).agent k = s.agent k :=
  State.agent_congr ((State.shadow_keeps (allBut .agents) s s c (by decide) (Kept.refl _ s)).agents (by decide)) k

theorem State.agent_logAgent (s : State) (c type data k : Nat) : (s.logAgent c type data).agent k = s.agent k :=
  State.agent_congr ((State.logAgent_keeps (allBut .agents) s s c type data (by decide) (Kept.refl _ s)).agents (by decide)) k

theorem State.agent_ringEvent (s : State) (src k : Nat) : (s.ringEvent src).agent k = s.agent k :=
  State.agent_congr ((State.ringEvent_keeps (allBut .agents) s s src (by decide) (Kept.refl _ s)).agents (by decide)) k

theorem State.agent_sampleWait (s : State) (c e : Nat) (x : Engine) (start : Nat) (withdrawn viaArb : Bool) (k : Nat) :
    (s.sampleWait c e x start withdrawn viaArb).agent k = s.agent k :=
  State.agent_congr ((State.sampleWait_keeps (allBut .agents) s s c e x start withdrawn viaArb (by decide)
    (Kept.refl _ s)).agents (by decide)) k

theorem listGet_map_range {α : Type} (d : α) (f : Nat → α) {k : Nat} (h : k < 4) : listGet d ((List.range 4).map f) k = f k := by
  obtain rfl | rfl | rfl | rfl : k = 0 ∨ k = 1 ∨ k = 2 ∨ k = 3 := by omega
  all_goals rfl

theorem Agent.engine_setEngine (a : Agent) (e : Nat) (x : Engine) {k : Nat} (h : k < 4) :
    (a.setEngine e x).engine k = if k = e then x else a.engine k :=
  listGet_map_range ({} : Engine) (fun k => if k = e then x else a.engine k) h

theorem Agent.engine_setEngine_same (a : Agent) {e : Nat} (x : Engine) (h : e < 4) : (a.setEngine e x).engine e = x := by
  rw [a.engine_setEngine e x h, if_pos rfl]

/-- An agent but for the time since which it is idle. -/
theorem Agent.noteIdle_eq (a : Agent) (now : Nat) : ∃ t, a.noteIdle now = { a with idleSince := t } := by
  unfold Agent.noteIdle
  split <;> exact ⟨_, rfl⟩

theorem Agent.engine_noteIdle (a : Agent) (now e : Nat) : (a.noteIdle now).engine e = a.engine e := by
  obtain ⟨t, ht⟩ := a.noteIdle_eq now
  rw [ht]
  rfl

theorem Agent.held_noteIdle (a : Agent) (now : Nat) : (a.noteIdle now).held = a.held := by
  obtain ⟨t, ht⟩ := a.noteIdle_eq now
  rw [ht]

theorem Agent.pocket_noteIdle (a : Agent) (now : Nat) : (a.noteIdle now).pocket = a.pocket := by
  obtain ⟨t, ht⟩ := a.noteIdle_eq now
  rw [ht]

/-! ### Waits -/

theorem Engine.beginWait_keeps (x : Engine) (now : Nat) : (x.beginWait now).req = x.req ∧ (x.beginWait now).grant = x.grant ∧
    (x.beginWait now).waitFrom.isSome = true := by
  unfold Engine.beginWait
  split
  · next h => exact ⟨rfl, rfl, by rw [h]; rfl⟩
  · exact ⟨rfl, rfl, rfl⟩

/-- From `a` to `b` an agent keeps its run, its stores, and what its engines ask for and drive. -/
structure Agent.SameGrants (a b : Agent) : Prop where
  run : b.run = a.run
  held : b.held = a.held
  pocket : b.pocket = a.pocket
  req : ∀ k, k < 4 → (b.engine k).req = (a.engine k).req
  grant : ∀ k, k < 4 → (b.engine k).grant = (a.engine k).grant

theorem Agent.SameGrants.refl (a : Agent) : a.SameGrants a := ⟨rfl, rfl, rfl, fun _ _ => rfl, fun _ _ => rfl⟩

theorem Agent.SameGrants.heldSum {a b : Agent} (h : a.SameGrants b) : b.heldSum = a.heldSum := by
  unfold Agent.heldSum
  rw [h.held]

theorem Agent.SameGrants.trans {a b d : Agent} (h : a.SameGrants b) (g : b.SameGrants d) : a.SameGrants d :=
  ⟨g.run.trans h.run, g.held.trans h.held, g.pocket.trans h.pocket, fun k hk => (g.req k hk).trans (h.req k hk),
    fun k hk => (g.grant k hk).trans (h.grant k hk)⟩

theorem Agent.SameGrants.count {a b : Agent} (h : a.SameGrants b) (cnt : AgentCounters) : a.SameGrants { b with cnt := cnt } :=
  ⟨h.run, h.held, h.pocket, h.req, h.grant⟩

theorem Agent.sameGrants_setEngine (a : Agent) (e : Nat) {x : Engine} (hreq : x.req = (a.engine e).req)
    (hgrant : x.grant = (a.engine e).grant) : a.SameGrants (a.setEngine e x) := by
  refine ⟨rfl, rfl, rfl, fun k hk => ?_, fun k hk => ?_⟩
  · rw [a.engine_setEngine e x hk]
    split
    · next he => rw [he, hreq]
    · rfl
  · rw [a.engine_setEngine e x hk]
    split
    · next he => rw [he, hgrant]
    · rfl

/-- The end of a wait changes the wait and the counters alone. -/
theorem State.endWait_sameGrants (s : State) (c e : Nat) (withdrawn viaArb : Bool) :
    (s.agent c).SameGrants ((s.endWait c e withdrawn viaArb).agent c) := by
  have hagent : ∀ (b : Prop) [Decidable b] (u : State), (if b then u.ringEvent 7 else u).agent c = u.agent c := by
    intro b _ u
    split
    · exact u.agent_ringEvent 7 c
    · rfl
  unfold State.endWait
  dsimp only
  split
  · exact Agent.SameGrants.refl _
  · rw [hagent, State.agent_sampleWait, State.agent_setAgent_same]
    refine Agent.SameGrants.count ?_ _
    exact (s.agent c).sameGrants_setEngine e rfl rfl

/-! ### Held lots -/

/-- What is taken from the lots and what the lots do not cover. -/
theorem takeHeld_spec (lots : List (Nat × Nat)) (need : Nat) :
    ((takeHeld lots need).1.map (fun p => p.1)).sum = (lots.map (fun p => p.1)).sum - need ∧
    (takeHeld lots need).2 = need - (lots.map (fun p => p.1)).sum := by
  induction lots generalizing need with
  | nil => simp [takeHeld]
  | cons p lots ih =>
    obtain ⟨q, t⟩ := p
    unfold takeHeld
    split
    · simp only [List.map_cons, List.sum_cons]
      omega
    · obtain ⟨hlots, hshort⟩ := ih (need - q)
      simp only [List.map_cons, List.sum_cons, hlots, hshort]
      omega

/-! ### Rise and fall -/

theorem Agent.sameGrants_noteCode (a : Agent) (e cls : Nat) : a.SameGrants (a.noteCode e cls) :=
  a.sameGrants_setEngine e rfl rfl

theorem State.present_of_hasCluster {s : State} {c : Nat} (hc : s.hasCluster c = true) : s.present c = true :=
  (Bool.and_eq_true_iff.mp hc).2

/-- A class that rises above the grant where the stores cover the difference: the agent grants it out of them (R120). -/
theorem State.classRise_granted {s : State} {c e cls : Nat} (hc : s.hasCluster c = true) (he : e < 4)
    (hrun : (s.agent c).run = true) (hreq : ((s.agent c).engine e).req < min cls 4)
    (hgrant : ((s.agent c).engine e).grant < min cls 4)
    (hneed : s.quanta (min cls 4) - s.quanta ((s.agent c).engine e).grant ≤ (s.agent c).heldSum + (s.agent c).pocket)
    (hmay : s.mayGrantLocally c = true) :
    (((s.classRise c e cls).agent c).engine e).req = min cls 4 ∧
    (((s.classRise c e cls).agent c).engine e).grant = min cls 4 ∧
    ((s.classRise c e cls).agent c).heldSum + ((s.classRise c e cls).agent c).pocket +
      (s.quanta (min cls 4) - s.quanta ((s.agent c).engine e).grant) = (s.agent c).heldSum + (s.agent c).pocket := by
  have hcode := (s.agent c).sameGrants_noteCode e cls
  unfold State.classRise
  dsimp only
  generalize (s.agent c).noteCode e cls = a at hcode ⊢
  rw [← hcode.run] at hrun
  rw [← hcode.req e he] at hreq
  rw [← hcode.grant e he] at hgrant hneed ⊢
  rw [← hcode.heldSum, ← hcode.pocket] at hneed ⊢
  generalize s.quanta (min cls 4) - s.quanta (a.engine e).grant = need at hneed ⊢
  obtain ⟨hlots, hshort⟩ := takeHeld_spec a.held need
  rw [if_neg (by simp [State.present_of_hasCluster hc, hrun, he]), if_neg (Nat.not_le_of_lt hreq),
    if_neg (Nat.not_le_of_lt hgrant), if_pos (And.intro hneed hmay), State.agent_shadow, State.agent_logAgent]
  -- the agent as the grant leaves it, before its wait ends
  generalize hb : Agent.noteIdle _ s.now = b
  have hend := (s.setAgent c b).endWait_sameGrants c e false false
  rw [State.agent_setAgent_same] at hend
  rw [hend.req e he, hend.grant e he, hend.heldSum, hend.pocket, ← hb, Agent.engine_noteIdle,
    Agent.engine_setEngine_same _ _ he, Agent.pocket_noteIdle]
  obtain ⟨hreq', hgrant', -⟩ := Engine.beginWait_keeps (Engine.take { a.engine e with req := min cls 4 } (min cls 4)) s.now
  refine ⟨hreq', hgrant', ?_⟩
  unfold Agent.heldSum at hneed ⊢
  rw [Agent.held_noteIdle]
  show ((takeHeld a.held need).1.map (fun p => p.1)).sum + (a.pocket - (takeHeld a.held need).2) + need = _
  omega

/-- A class that rises above the grant where the stores do not cover the difference, or something stops the agent: a request is
forwarded and its wait begins (R120). -/
theorem State.classRise_forwarded {s : State} {c e cls : Nat} (hc : s.hasCluster c = true) (he : e < 4)
    (hrun : (s.agent c).run = true) (hreq : ((s.agent c).engine e).req < min cls 4)
    (hgrant : ((s.agent c).engine e).grant < min cls 4)
    (hnot : ¬ (s.quanta (min cls 4) - s.quanta ((s.agent c).engine e).grant ≤ (s.agent c).heldSum + (s.agent c).pocket ∧
      s.mayGrantLocally c = true)) :
    (((s.classRise c e cls).agent c).engine e).req = min cls 4 ∧
    (((s.classRise c e cls).agent c).engine e).grant = ((s.agent c).engine e).grant ∧
    (((s.classRise c e cls).agent c).engine e).sentAt = s.now ∧
    (((s.classRise c e cls).agent c).engine e).waitFrom.isSome = true ∧
    ((s.classRise c e cls).agent c).held = (s.agent c).held ∧
    ((s.classRise c e cls).agent c).pocket = (s.agent c).pocket := by
  have hcode := (s.agent c).sameGrants_noteCode e cls
  unfold State.classRise
  dsimp only
  generalize (s.agent c).noteCode e cls = a at hcode ⊢
  rw [← hcode.run] at hrun
  rw [← hcode.req e he] at hreq
  rw [← hcode.grant e he] at hgrant hnot ⊢
  rw [← hcode.heldSum, ← hcode.pocket] at hnot
  rw [← hcode.held, ← hcode.pocket]
  rw [if_neg (by simp [State.present_of_hasCluster hc, hrun, he]), if_neg (Nat.not_le_of_lt hreq),
    if_neg (Nat.not_le_of_lt hgrant), if_neg hnot, State.agent_shadow, State.agent_setAgent_same, Agent.engine_noteIdle,
    Agent.engine_setEngine_same _ _ he, Agent.held_noteIdle, Agent.pocket_noteIdle]
  obtain ⟨hreq', hgrant', hwait⟩ := Engine.beginWait_keeps { a.engine e with req := min cls 4 } s.now
  exact ⟨hreq', hgrant', rfl, hwait, rfl, rfl⟩

/-- Whether an engine's last class is noted changes neither what it asks for nor its grant (R161). -/
theorem Engine.ite_noteLast_keeps (x : Engine) (cls : Nat) : (if cls = 0 then x.noteLast else x).req = x.req ∧
    (if cls = 0 then x.noteLast else x).grant = x.grant := by
  unfold Engine.noteLast
  split_ifs <;> exact ⟨rfl, rfl⟩

/-- A class that falls below the grant: the grant falls with it, and the difference is held (R121). -/
theorem State.classFall_below {s : State} {c e cls : Nat} (hc : s.hasCluster c = true) (he : e < 4)
    (hrun : (s.agent c).run = true) (hreq : cls < ((s.agent c).engine e).req)
    (hgrant : cls < ((s.agent c).engine e).grant) :
    (((s.classFall c e cls).agent c).engine e).req = cls ∧ (((s.classFall c e cls).agent c).engine e).grant = cls ∧
    ((s.classFall c e cls).agent c).heldSum =
      (s.agent c).heldSum + (s.quanta ((s.agent c).engine e).grant - s.quanta cls) := by
  have hcode := (s.agent c).sameGrants_noteCode e cls
  have hended := (s.endWait_sameGrants c e true true).trans (((s.endWait c e true true).agent c).sameGrants_noteCode e cls)
  unfold State.classFall
  dsimp only
  rw [if_neg (by simp [State.present_of_hasCluster hc, hcode.run, hrun, he]),
    if_neg (by rw [hcode.req e he]; exact Nat.not_le_of_lt hreq),
    if_pos (show cls ≤ (((s.agent c).noteCode e cls).engine e).grant by rw [hcode.grant e he]; exact Nat.le_of_lt hgrant)]
  generalize ((s.endWait c e true true).agent c).noteCode e cls = a at hended ⊢
  rw [← hended.grant e he] at hgrant ⊢
  rw [← hended.heldSum]
  simp only [if_pos hgrant]
  rw [State.agent_shadow, State.agent_logAgent, State.agent_setAgent_same, Agent.engine_noteIdle,
    Agent.engine_setEngine_same _ _ he]
  obtain ⟨hreq', hgrant'⟩ := (Engine.take { a.engine e with req := cls } cls).ite_noteLast_keeps cls
  refine ⟨hreq', hgrant', ?_⟩
  generalize s.quanta (a.engine e).grant - s.quanta cls = diff
  unfold Agent.heldSum
  rw [Agent.held_noteIdle]
  show ((a.held ++ if diff = 0 then [] else [(diff, s.now)]).map (fun p => p.1)).sum = _
  split
  · next h => simp [h]
  · simp

/-- An agent whose cluster does not run takes every class as idle (R70). -/
theorem State.class_of_stopped {s : State} {c : Nat} (h : (s.agent c).run = false) (e cls : Nat) :
    s.classRise c e cls = s ∧ s.classFall c e cls = s := by
  have hguard : (!s.present c || !((s.agent c).noteCode e cls).run || decide (4 ≤ e)) = true := by
    rw [((s.agent c).sameGrants_noteCode e cls).run, h]
    simp
  exact ⟨if_pos hguard, if_pos hguard⟩

/-! ### The rows -/

theorem ofUnit_of {ok : Bool} (h : ok = true) (t : State) : ofUnit ok t = .next t := if_pos h

theorem exec_engClassRise {s : State} {c e cls : Nat} (hporst : s.ps.porst = true) (hc : s.hasCluster c = true) (he : e < 4)
    (hcls : cls < 8) : exec (.engClassRise c e cls) s = .next (s.classRise c e cls) := by
  refine (ofUnit_of (by simp [hc, he, hcls]) _).trans (congrArg Host.Outcome.next ?_)
  exact if_pos hporst

theorem exec_engClassFall {s : State} {c e cls : Nat} (hporst : s.ps.porst = true) (hc : s.hasCluster c = true) (he : e < 4)
    (hcls : cls < 8) : exec (.engClassFall c e cls) s = .next (s.classFall c e cls) := by
  refine (ofUnit_of (by simp [hc, he, hcls]) _).trans (congrArg Host.Outcome.next ?_)
  exact if_pos hporst

/-- Settles O30: a rise is granted (State.classRise_granted) or forwarded (State.classRise_forwarded), a fall is held
(State.classFall_below). -/
theorem classesRiseAndFallAtTheAgent : Obligations.ClassesRiseAndFallAtTheAgent := by
  unfold Obligations.ClassesRiseAndFallAtTheAgent
  intro s c e cls hporst hc he hcls
  rw [exec_engClassRise hporst hc he hcls, exec_engClassFall hporst hc he hcls]
  refine ⟨fun hrun hreq hgrant => ⟨fun ⟨hneed, hmay⟩ => ?_, fun h => ?_⟩, fun hrun hreq hgrant => ?_, fun hstopped => ?_⟩
  · exact ⟨_, rfl, State.classRise_granted hc he hrun hreq hgrant hneed hmay⟩
  · refine ⟨_, rfl, State.classRise_forwarded hc he hrun hreq hgrant (fun hall => ?_)⟩
    rcases h with hnot | hshort
    · exact absurd (hall.2.symm.trans hnot) Bool.noConfusion
    · exact absurd hall.1 (Nat.not_le_of_lt hshort)
  · exact ⟨_, rfl, State.classFall_below hc he hrun hreq hgrant⟩
  · obtain ⟨hrise, hfall⟩ := State.class_of_stopped hstopped e cls
    rw [hrise, hfall]
    exact ⟨rfl, rfl⟩

end Sys2Proof.Machine
end

section
/-! PROOF of O31 (R70, R122, R123, R140): the stores of an agent return. What shows an agent leaves it alone; the rows that empty
its stores replace the agent. -/

namespace Sys2Proof.Machine

/-! ### What shows an agent leaves it alone -/

theorem State.agent_shadowNow (s : State) (c k : Nat) : (s.shadowNow c).agent k = s.agent k :=
  State.agent_congr ((State.shadowNow_keeps (allBut .agents) s s c (by decide) (Kept.refl _ s)).agents (by decide)) k

theorem State.agent_setRegs (s : State) (ws : List (Nat × Nat)) (k : Nat) : (s.setRegs ws).agent k = s.agent k :=
  State.agent_congr ((State.setRegs_keeps (allBut .agents) s s ws (by decide) (Kept.refl _ s)).agents (by decide)) k

theorem State.agent_refreshSums (s : State) (k : Nat) : s.refreshSums.agent k = s.agent k :=
  State.agent_congr ((State.refreshSums_keeps (allBut .agents) s s (by decide) (Kept.refl _ s)).agents (by decide)) k

theorem State.agent_noteReasons (s : State) (k : Nat) : s.noteReasons.agent k = s.agent k :=
  State.agent_congr ((State.noteReasons_keeps (allBut .agents) s s (by decide) (Kept.refl _ s)).agents (by decide)) k

theorem State.agent_checkWaveEnd (s : State) (k : Nat) : s.checkWaveEnd.agent k = s.agent k :=
  State.agent_congr ((State.checkWaveEnd_keeps (allBut .agents) s s (by decide) (Kept.refl _ s)).agents (by decide)) k

theorem State.agent_halfAck (s : State) (h k : Nat) : (s.halfAck h).agent k = s.agent k :=
  State.agent_congr ((State.halfAck_keeps (allBut .agents) s s h (by decide) (Kept.refl _ s)).agents (by decide)) k

/-! ### Expiry, idling, reclaim -/

theorem sum_filter_le (lots : List (Nat × Nat)) (p : Nat × Nat → Bool) :
    ((lots.filter p).map (fun q => q.1)).sum ≤ (lots.map (fun q => q.1)).sum :=
  (List.Sublist.map _ List.filter_sublist).sum_le_sum (fun _ _ => Nat.zero_le _)

/-- The first of the held lots expires: it and what expires with it leave, to the pocket of an active cluster (R122). -/
theorem State.heldExpiry_spec {s : State} {c q t0 : Nat} {ls : List (Nat × Nat)} (h : (s.agent c).held = (q, t0) :: ls) :
    (s.heldExpiry c).now = max s.now (t0 + s.hyst) ∧ ((s.heldExpiry c).agent c).heldSum ≤ (s.agent c).heldSum ∧
    (∀ p ∈ ((s.heldExpiry c).agent c).held, (s.heldExpiry c).now < p.2 + s.hyst) ∧
    ((s.agent c).active = false → ((s.heldExpiry c).agent c).pocket = (s.agent c).pocket) := by
  have hnow : ∀ (u : State) (a : Agent), ((u.setAgent c a).shadow c).now = u.now := fun u a =>
    (State.shadow_keeps (allBut .now) (u.setAgent c a) _ c (by decide) (Kept.refl _ _)).now (by decide)
  unfold State.heldExpiry
  rw [h]
  dsimp only
  rw [hnow, s.now_advanceTo, State.agent_shadow, State.agent_setAgent_same]
  refine ⟨rfl, sum_filter_le _ _, fun p hp => ?_, fun hidle => ?_⟩
  · have hlate := of_decide_eq_true (List.mem_filter.mp hp).2
    exact hlate
  · exact if_neg (by rw [Bool.not_eq_true]; exact hidle)

/-- A cluster that has been idle for one hysteresis keeps no store (R123). -/
theorem State.clusterIdle_spec {s : State} {c t0 : Nat} (h : (s.agent c).idleSince = some t0) :
    (s.clusterIdle c).now = max s.now (t0 + s.hyst) ∧ ((s.clusterIdle c).agent c).held = [] ∧
    ((s.clusterIdle c).agent c).pocket = 0 := by
  have hnow : ∀ (u : State) (a : Agent), ((u.setAgent c a).shadow c).now = u.now := fun u a =>
    (State.shadow_keeps (allBut .now) (u.setAgent c a) _ c (by decide) (Kept.refl _ _)).now (by decide)
  unfold State.clusterIdle
  rw [h]
  dsimp only
  rw [hnow, s.now_advanceTo, State.agent_shadow, State.agent_setAgent_same]
  exact ⟨rfl, rfl, rfl⟩

/-- A reclaim empties the stores (R140). -/
theorem State.reclaimArrives_spec {s : State} {c : Nat} (h : (s.agent c).reclaim = true) :
    ((s.reclaimArrives c).agent c).held = [] ∧ ((s.reclaimArrives c).agent c).pocket = 0 ∧
    ((s.reclaimArrives c).agent c).reclaim = false := by
  unfold State.reclaimArrives
  dsimp only
  rw [if_pos h, State.agent_shadow, State.agent_setAgent_same]
  exact ⟨rfl, rfl, rfl⟩

/-! ### The stop of a cluster -/

/-- A cluster with no class, no grant and no store. -/
def Agent.bare (a : Agent) : Prop :=
  a.held = [] ∧ a.pocket = 0 ∧ ∀ e, e < 4 → (a.engine e).grant = 0 ∧ (a.engine e).req = 0

theorem Agent.SameGrants.bare {a b : Agent} (h : a.SameGrants b) (ha : a.bare) : b.bare := by
  obtain ⟨hheld, hpocket, hengines⟩ := ha
  refine ⟨h.held.trans hheld, h.pocket.trans hpocket, fun e he => ?_⟩
  obtain ⟨hgrant, hreq⟩ := hengines e he
  exact ⟨(h.grant e he).trans hgrant, (h.req e he).trans hreq⟩

/-- What holds of every changed engine, and of one that is not listed, holds of each engine of the changed agent. -/
theorem Agent.engine_map {a b : Agent} {f : Engine → Engine} (h : b.engines = a.engines.map f) {P : Engine → Prop} (h0 : P {})
    (hf : ∀ x, P (f x)) (e : Nat) : P (b.engine e) := by
  unfold Agent.engine
  rw [h]
  induction a.engines generalizing e with
  | nil => exact h0
  | cons x xs ih =>
    cases e with
    | zero => exact hf x
    | succ e => exact ih e

theorem State.agent_dropGrants_bare (s : State) (c : Nat) : ((s.dropGrants c true).agent c).bare := by
  unfold State.dropGrants
  dsimp only
  rw [State.agent_setAgent_same]
  refine ⟨Agent.held_noteIdle _ _, Agent.pocket_noteIdle _ _, fun e _ => ?_⟩
  rw [Agent.engine_noteIdle]
  exact Agent.engine_map (P := fun x => x.grant = 0 ∧ x.req = 0) (a := s.agent c) rfl ⟨rfl, rfl⟩ (fun _ => ⟨rfl, rfl⟩) e

/-- The close of an interval changes what an agent counts. -/
theorem State.closeInterval_sameGrants (s : State) (c : Nat) (counts : List Nat) (early : Bool) :
    (s.agent c).SameGrants ((s.closeInterval c counts early).agent c) := by
  unfold State.closeInterval
  dsimp only
  rw [State.agent_refreshSums, State.agent_shadow, State.agent_setAgent_same, State.agent_setRegs, State.agent_setAgent_same]
  exact ⟨rfl, rfl, rfl, fun _ _ => rfl, fun _ _ => rfl⟩

section
variable {u : State} {c : Nat} (h : (u.agent c).bare)
include h

theorem State.bare_closeInterval (counts : List Nat) (early : Bool) : ((u.closeInterval c counts early).agent c).bare :=
  (u.closeInterval_sameGrants c counts early).bare h

theorem State.bare_setDet (d : Detector) : ((u.setAgent c { u.agent c with det := d }).agent c).bare := by
  rw [State.agent_setAgent_same]
  exact h

theorem State.bare_setArb (x : Arbiter) : (({ u with arb := x } : State).agent c).bare := h

theorem Agent.bare_stop : ({ u.agent c with run := false, clkLive := false } : Agent).bare := h

end

theorem State.runFall_spec {s : State} {c : Nat} (hc : s.hasCluster c = true) (hrun : (s.agent c).run = true) (counts : List Nat) :
    ((s.runFall c counts).agent c).run = false ∧ ((s.runFall c counts).agent c).bare := by
  unfold State.runFall
  rw [if_neg (by simp [State.present_of_hasCluster hc, hrun])]
  dsimp only
  rw [State.agent_noteReasons, State.agent_halfAck, State.agent_checkWaveEnd, State.agent_shadowNow, State.agent_logAgent,
    State.agent_setAgent_same]
  refine ⟨rfl, ?_⟩
  refine Agent.bare_stop (State.bare_closeInterval ?_ counts true)
  refine State.bare_setDet ?_ _
  refine State.bare_setArb ?_ _
  exact State.agent_dropGrants_bare _ c

/-! ### The start of a cluster -/

/-- A fast calibration begins at an agent's detector. -/
theorem State.agent_startCal (s : State) (c : Nat) : ∃ d, (s.startCal c).agent c = { s.agent c with det := d } := by
  unfold State.startCal
  dsimp only
  split
  · split
    · exact ⟨_, rfl⟩
    · exact ⟨_, State.agent_setAgent_same _ _ _⟩
  · exact ⟨_, rfl⟩

theorem State.runRise_spec {s : State} {c : Nat} (hc : s.hasCluster c = true) (hrun : (s.agent c).run = false) :
    ((s.runRise c).agent c).run = true ∧ ((s.runRise c).agent c).clkLive = true ∧
    ((s.runRise c).agent c).idleSince = some s.now := by
  unfold State.runRise
  rw [if_neg (by simp [State.present_of_hasCluster hc, hrun])]
  dsimp only
  rw [State.agent_noteReasons, State.agent_shadow]
  generalize hs : (State.logAgent _ c 0x06 _) = u
  obtain ⟨d, hd⟩ := u.agent_startCal c
  rw [hd, ← hs, State.agent_logAgent, State.agent_setAgent_same]
  exact ⟨rfl, rfl, rfl⟩

theorem exec_ofCluster {s t : State} {c : Nat} (hporst : s.ps.porst = true) (hc : s.hasCluster c = true) :
    ofUnit (s.hasCluster c) (if s.ps.porst then t else s) = .next t := by
  rw [ofUnit_of hc, if_pos hporst]

/-- Settles O31: each row empties the stores as it says, the stop of a cluster leaves it bare (State.runFall_spec). -/
theorem storesReturnToTheHalfPool : Obligations.StoresReturnToTheHalfPool := by
  unfold Obligations.StoresReturnToTheHalfPool
  intro s c hporst hc
  refine ⟨fun q t0 ls hheld => ?_, fun t0 hidle => ?_, fun hreclaim => ?_, fun counts hrun => ?_, fun hrun => ?_⟩
  · exact ⟨_, exec_ofCluster hporst hc, State.heldExpiry_spec hheld⟩
  · exact ⟨_, exec_ofCluster hporst hc, State.clusterIdle_spec hidle⟩
  · exact ⟨_, exec_ofCluster hporst hc, State.reclaimArrives_spec hreclaim⟩
  · obtain ⟨hstopped, hheld, hpocket, hengines⟩ := State.runFall_spec hc hrun counts
    exact ⟨_, exec_ofCluster hporst hc, hstopped, hheld, hpocket, hengines⟩
  · exact ⟨_, exec_ofCluster hporst hc, State.runRise_spec hc hrun⟩

end Sys2Proof.Machine
end

section
/-! PROOF of O54, first part (R84, R342, R343, R346, R350, R352, R354, R357, R359, R360): the timers of the Edvik agent. What sends
a frame leaves the clock, the words and the releases alone; each timer is then told by its own step. -/

namespace Sys2Proof.Machine

/-! ### Saturating counters -/

theorem State.fld_incSat_same (s : State) (f : Fld) (hf : f.lo ≤ f.hi) (h31 : f.hi < 32) :
    (s.incSat f).fld f = min (s.fld f + 1) f.top := by
  have hpos : 0 < 2 ^ (f.hi + 1 - f.lo) := Nat.two_pow_pos _
  have htop : f.top < 2 ^ (f.hi + 1 - f.lo) := Nat.sub_lt hpos Nat.one_pos
  exact (State.fld_setFld_same s f _ hf h31).trans (Nat.mod_eq_of_lt (Nat.lt_of_le_of_lt (Nat.min_le_right _ _) htop))

theorem State.fld_whole (s : State) (off : Nat) : s.fld (whole off) = s.reg off := by
  show s.reg off / 2 ^ 0 % 2 ^ 32 = s.reg off
  rw [Nat.pow_zero, Nat.div_one, Nat.mod_eq_of_lt (s.reg_lt off)]

theorem State.reg_incSat_whole (s : State) (off : Nat) : (s.incSat (whole off)).reg off = min (s.reg off + 1) (2 ^ 32 - 1) := by
  rw [← State.fld_whole, ← State.fld_whole, State.fld_incSat_same _ _ (Nat.zero_le _) (Nat.lt_succ_self 31)]
  rfl

/-! ### Peers -/

theorem State.peer_setPeer_same (s : State) (n : Nat) (p : Peer) : (s.setPeer n p).peer n = some p :=
  SMap.find_enter_same _ _ _

theorem find?_seq_map {l : List TxFrame} {k : Nat} {x : TxFrame} {f : TxFrame → TxFrame} (hf : ∀ y, (f y).seq = y.seq)
    (h : l.find? (fun y => y.seq == k) = some x) :
    (l.map (fun y => if y.seq = k then f y else y)).find? (fun y => y.seq == k) = some (f x) := by
  have hx : x.seq = k := eq_of_beq (List.find?_some (p := fun y : TxFrame => y.seq == k) h)
  have hseq : ((fun y : TxFrame => y.seq == k) ∘ fun y => if y.seq = k then f y else y) = fun y => y.seq == k := by
    funext y
    show ((if y.seq = k then f y else y).seq == k) = (y.seq == k)
    split
    · rw [hf]
    · rfl
  rw [List.find?_map, hseq, h]
  exact congrArg some (if_pos hx)

/-- A frame that has not been tried as often as RETRIES allows is sent again (R343). -/
theorem State.retransmit_again {s : State} {n : Nat} {p : Peer} {x : TxFrame} (hruns : s.fabRuns = true) (hp : s.peer n = some p)
    (hx : p.unacked.find? (fun y => y.seq == x.seq) = some x) (htries : x.tries < s.fld FAB_RTX.RETRIES) :
    ∃ q, (s.retransmit n x.seq).peer n = some q ∧
      (s.retransmit n x.seq).now = max s.now (x.at_ + 1000 * s.fld FAB_RTX.INTERVAL) ∧
      q.unacked.find? (fun y => y.seq == x.seq) = some { x with tries := x.tries + 1, at_ := (s.retransmit n x.seq).now } := by
  have hretries : ∀ t, (s.advanceTo t).fld FAB_RTX.RETRIES = s.fld FAB_RTX.RETRIES := fun _ => rfl
  unfold State.retransmit
  rw [hp]
  dsimp only
  rw [hx]
  dsimp only
  rw [hruns, if_neg (by decide), hretries, if_pos htries]
  exact ⟨_, State.peer_setPeer_same _ _ _, s.now_advanceTo _,
    find?_seq_map (f := fun y => { y with tries := y.tries + 1, at_ := _ }) (fun _ => rfl) hx⟩

/-- One that has is abandoned (R343). -/
theorem State.retransmit_abandoned {s : State} {n : Nat} {p : Peer} {x : TxFrame} (hruns : s.fabRuns = true)
    (hp : s.peer n = some p) (hx : p.unacked.find? (fun y => y.seq == x.seq) = some x) (htries : s.fld FAB_RTX.RETRIES ≤ x.tries) :
    ∃ q, (s.retransmit n x.seq).peer n = some q ∧ q.unacked.find? (fun y => y.seq == x.seq) = none ∧
      (s.retransmit n x.seq).fld FAB_FAIL.ABANDONED = min (s.fld FAB_FAIL.ABANDONED + 1) FAB_FAIL.ABANDONED.top := by
  have hretries : ∀ t, (s.advanceTo t).fld FAB_RTX.RETRIES = s.fld FAB_RTX.RETRIES := fun _ => rfl
  unfold State.retransmit
  rw [hp]
  dsimp only
  rw [hx]
  dsimp only
  rw [hruns, if_neg (by decide), hretries, if_neg (Nat.not_lt.mpr htries)]
  refine ⟨_, State.peer_setPeer_same _ _ _, ?_, State.fld_incSat_same _ FAB_FAIL.ABANDONED (by decide) (by decide)⟩
  rw [List.find?_filter]
  exact List.find?_eq_none.mpr (fun y _ => by simp)

theorem State.peerDead_spec {s : State} {n : Nat} {p : Peer} (hruns : s.fabRuns = true) (hp : s.peer n = some p)
    (hreach : p.reachable = true) :
    ∃ q, (s.peerDead n).peer n = some q ∧ q.reachable = false ∧ q.unacked = [] ∧
      q.queue = p.unacked.map (fun x => x.body) ++ p.queue ∧
      (s.peerDead n).raises = s.raises ++ [⟨srcFabPeerLost, fabSyn n 0 0, false⟩] := by
  unfold State.peerDead
  rw [hp]
  dsimp only
  rw [hruns, hreach, if_neg (by decide)]
  exact ⟨_, State.peer_setPeer_same _ _ _, rfl, rfl, rfl, rfl⟩

/-! ### HELLOs -/

/-- Nothing but a frame on each round goes out. -/
theorem each_sendFrame_spec {α : Type} (h : α → State → FrameHdr) (b : α → State → FrameBody) (xs : List α) (s : State) :
    (each xs (fun p t => t.sendFrame (h p t) (b p t)) s).out.length = s.out.length + xs.length ∧
    (each xs (fun p t => t.sendFrame (h p t) (b p t)) s).now = s.now ∧
    (each xs (fun p t => t.sendFrame (h p t) (b p t)) s).fab = s.fab := by
  induction xs generalizing s with
  | nil => exact ⟨rfl, rfl, rfl⟩
  | cons x xs ih =>
    obtain ⟨hout, hnow, hfab⟩ := ih (s.sendFrame (h x s) (b x s))
    have hone : (s.sendFrame (h x s) (b x s)).out.length = s.out.length + 1 := List.length_append
    exact ⟨hout.trans (by rw [hone, List.length_cons]; omega), hnow, hfab⟩

theorem State.sendHellos_spec {s : State} (hruns : s.fabRuns = true) :
    s.sendHellos.now = s.now ∧ s.sendHellos.fab.helloAt = s.now ∧
    s.sendHellos.out.length = s.out.length + (bitsSet 16 (s.fld FAB_DISC.PORTS)).length +
      (s.fab.peers.filter (fun p => p.2.explicit)).length := by
  unfold State.sendHellos
  rw [hruns, if_neg (by decide)]
  dsimp only
  generalize s.reg (FAB_DISC_ADDR 0) + 2 ^ 32 * s.reg (FAB_DISC_ADDR 1) + 2 ^ 64 * s.reg (FAB_DISC_ADDR 2) +
    2 ^ 96 * s.reg (FAB_DISC_ADDR 3) = addr
  obtain ⟨hout1, hnow1, hfab1⟩ := each_sendFrame_spec (fun p _ => { port := p, addr := addr }) (fun p t => .hello t.nodeId p)
    (bitsSet 16 (s.fld FAB_DISC.PORTS)) { s with fab := { s.fab with helloAt := s.now } }
  obtain ⟨hout2, hnow2, hfab2⟩ := each_sendFrame_spec
    (fun (p : Nat × Peer) _ => { port := p.2.port, addr := p.2.addr }) (fun p t => .hello t.nodeId p.2.port)
    (s.fab.peers.filter (fun p => p.2.explicit))
    (each (bitsSet 16 (s.fld FAB_DISC.PORTS)) (fun p (t : State) => t.sendFrame { port := p, addr := addr } (.hello t.nodeId p))
      { s with fab := { s.fab with helloAt := s.now } })
  rw [hfab1]
  exact ⟨hnow2.trans hnow1, (congrArg Fabric.helloAt (hfab2.trans hfab1)), hout2.trans (congrArg (· + _) hout1)⟩

theorem State.discovery_spec {s : State} (hruns : s.fabRuns = true) :
    s.discovery.now = max s.now (s.fab.helloAt + 10000000 * s.fld FAB_DISC.PERIOD) ∧ s.discovery.fab.helloAt = s.discovery.now ∧
    s.discovery.out.length = s.out.length + (bitsSet 16 (s.fld FAB_DISC.PORTS)).length +
      (s.fab.peers.filter (fun p => p.2.explicit)).length := by
  unfold State.discovery
  rw [if_pos hruns]
  obtain ⟨hnow, hhello, hout⟩ :=
    State.sendHellos_spec (s := s.advanceTo (s.fab.helloAt + 10000000 * s.fld FAB_DISC.PERIOD)) hruns
  exact ⟨hnow.trans (s.now_advanceTo _), hhello.trans hnow.symm, hout⟩

/-! ### Rates -/

/-- What the sending of a frame to a peer leaves alone. -/
theorem State.sendReliable_frame (s : State) (n : Nat) (b : FrameBody) :
    (s.sendReliable n b).now = s.now ∧ ∃ ps, (s.sendReliable n b).fab = { s.fab with peers := ps } := by
  unfold State.sendReliable
  cases s.peer n with
  | none => exact ⟨rfl, _, rfl⟩
  | some p =>
    dsimp only
    split
    · exact ⟨rfl, _, rfl⟩
    · exact ⟨rfl, _, rfl⟩

theorem State.sendEach_frame (s : State) (ns : List Nat) (b : FrameBody) :
    (s.sendEach ns b).now = s.now ∧ ∃ ps, (s.sendEach ns b).fab = { s.fab with peers := ps } := by
  refine each_keeps (fun t => t.now = s.now ∧ ∃ ps, t.fab = { s.fab with peers := ps }) _ (fun n t ⟨hnow, ps, hfab⟩ => ?_) ns s
    ⟨rfl, _, rfl⟩
  obtain ⟨hnow', qs, hfab'⟩ := t.sendReliable_frame n b
  exact ⟨hnow'.trans hnow, qs, by rw [hfab', hfab]⟩

theorem State.paceRefresh_spec {s : State} {i l : Nat} {g : Group} (hruns : s.fabRuns = true) (hg : s.groupAt i = some g)
    (hl : SMap.find s.fab.sentRate i = some l) (hle : s.nodeRate g ≤ l) :
    SMap.get (fun _ => 0) (s.paceRefresh i).fab.paceAt i = (s.paceRefresh i).now ∧
    (s.paceRefresh i).now = max s.now (SMap.get (fun _ => 0) s.fab.paceAt i + 100000 * s.fld FAB_PACE.REFRESH) := by
  have hpace : ∀ u : State, (u.sendPace i g l).now = u.now ∧ SMap.get (fun _ => 0) (u.sendPace i g l).fab.paceAt i = u.now := by
    intro u
    unfold State.sendPace
    obtain ⟨hnow, ps, hfab⟩ := State.sendEach_frame
      { u with fab := { u.fab with sentRate := SMap.enter u.fab.sentRate i l, paceAt := SMap.put (fun _ => 0) u.fab.paceAt i u.now } }
      g.neighbours (.pace g.id l (100 * u.fld FAB_PACE.VALID) u.nodeId)
    exact ⟨hnow, (congrArg (fun x : Fabric => SMap.get (fun _ => 0) x.paceAt i) hfab).trans (SMap.get_put_same _ _ _ _)⟩
  unfold State.paceRefresh
  rw [hruns, if_neg (by decide), hg, hl]
  dsimp only
  rw [if_pos hle]
  obtain ⟨hnow, hat⟩ := hpace (s.advanceTo (SMap.get (fun _ => 0) s.fab.paceAt i + 100000 * s.fld FAB_PACE.REFRESH))
  exact ⟨hat.trans hnow.symm, hnow.trans (s.now_advanceTo _)⟩

/-! ### Discarded datagrams -/

theorem State.fld_refuseFrame (s : State) : s.refuseFrame.fld FAB_DROP.REJECT = min (s.fld FAB_DROP.REJECT + 1) FAB_DROP.REJECT.top :=
  State.fld_incSat_same s FAB_DROP.REJECT (by decide) (by decide)

theorem frameOfBytes_none {bs : List Nat}
    (h : 1024 < bs.length ∨ bs.length < 20 ∨ bodyOfBytes (pByte bs 1) (bs.drop 20) = none) : frameOfBytes bs = none := by
  unfold frameOfBytes
  split
  · rfl
  · next hn =>
    rw [not_or, not_or] at hn
    obtain ⟨hlong, hshort, -⟩ := hn
    rcases h with h | h | h
    · exact absurd h hlong
    · exact absurd h hshort
    · rw [h]
      rfl

/-- A datagram with net_rx_err or that is no frame is refused, and not counted as received. -/
theorem State.discardFrame_noFrame {s : State} (hruns : s.fabRuns = true) {err : Bool} {bs : List Nat}
    (h : (err || (frameOfBytes bs).isNone) = true) : s.discardFrame err bs = s.refuseFrame := by
  unfold State.discardFrame
  rw [hruns, if_neg (by decide), if_pos h]
  rfl

/-- A frame is counted as received and refused. -/
theorem State.discardFrame_frame {s : State} (hruns : s.fabRuns = true) {err : Bool} {bs : List Nat}
    (h : (err || (frameOfBytes bs).isNone) = false) : s.discardFrame err bs = s.frameTaken.refuseFrame := by
  unfold State.discardFrame
  rw [hruns, if_neg (by decide), if_neg (by rw [h]; decide)]

theorem State.reg_frameTaken (s : State) : s.frameTaken.reg FAB_RX = min (s.reg FAB_RX + 1) (2 ^ 32 - 1) :=
  State.reg_incSat_whole (s.lingerFrom false) FAB_RX

theorem State.discardFrame_spec {s : State} (hruns : s.fabRuns = true) (err : Bool) (bs : List Nat) :
    (s.discardFrame err bs).fld FAB_DROP.REJECT = min (s.fld FAB_DROP.REJECT + 1) FAB_DROP.REJECT.top ∧
    (err = true ∨ 1024 < bs.length ∨ bs.length < 20 ∨ bodyOfBytes (pByte bs 1) (bs.drop 20) = none →
      (s.discardFrame err bs).reg FAB_RX = s.reg FAB_RX) ∧
    (err = false → (frameOfBytes bs).isSome = true →
      (s.discardFrame err bs).reg FAB_RX = min (s.reg FAB_RX + 1) (2 ^ 32 - 1)) := by
  have hkeep : ∀ u : State, u.refuseFrame.reg FAB_RX = u.reg FAB_RX := fun u => State.reg_setFld_other u _ _ _ (by decide)
  cases hframe : (err || (frameOfBytes bs).isNone) with
  | true =>
    rw [State.discardFrame_noFrame hruns hframe]
    refine ⟨s.fld_refuseFrame, fun _ => hkeep s, fun herr hsome => ?_⟩
    rw [herr, Bool.false_or, Option.isNone_iff_eq_none] at hframe
    rw [hframe] at hsome
    exact absurd hsome (by decide)
  | false =>
    rw [State.discardFrame_frame hruns hframe]
    obtain ⟨herr, hnone⟩ := Bool.or_eq_false_iff.mp hframe
    refine ⟨?_, fun hbad => ?_, fun _ _ => (hkeep _).trans s.reg_frameTaken⟩
    · have hlinger : s.frameTaken.fld FAB_DROP.REJECT = s.fld FAB_DROP.REJECT :=
        State.fld_incSat_apart (s.lingerFrom false) (whole FAB_RX) FAB_DROP.REJECT 1 (by decide)
      rw [State.fld_refuseFrame, hlinger]
    · rcases hbad with h | h
      · exact absurd h (by rw [herr]; decide)
      · rw [frameOfBytes_none h] at hnone
        exact absurd hnone (by decide)

/-! ### Level words -/

theorem State.word_congr {s t : State} (h : t.fab = s.fab) (i : Nat) : t.word i = s.word i :=
  congrArg (fun x : Fabric => SMap.get (fun _ => ({} : LevelWord)) x.words i) h

theorem State.word_setWord_same (s : State) (i : Nat) (w : LevelWord) : (s.setWord i w).word i = w := SMap.get_put_same _ _ _ _

theorem State.le_skyNs_advanceSky (s : State) (t : Nat) : t ≤ (s.advanceSky t).skyNs := by
  unfold State.advanceSky
  dsimp only
  split
  · exact Nat.le_refl t
  · next h => exact Nat.le_of_not_lt h

theorem State.fab_advanceSky (s : State) (t : Nat) : (s.advanceSky t).fab = s.fab := by
  unfold State.advanceSky
  dsimp only
  split
  · rfl
  · rfl

/-- A word that expires is cleared, at its expiry or later (R350). -/
theorem State.wordExpires_spec {s : State} {i : Nat} (hset : (s.word i).set = true) :
    (s.wordExpires i).word i = {} ∧ (s.word i).expiry ≤ (s.wordExpires i).skyNs := by
  have hclear : ∀ u : State, (u.clearWord i).word i = {} := fun u =>
    (State.word_congr ((State.repace_keeps (allBut .fab) _ _ (by decide) (Kept.refl _ (u.setWord i {}))).fab (by decide)) i).trans
      (u.word_setWord_same i {})
  have hsky : ∀ u : State, (u.clearWord i).sky = u.sky := fun u =>
    (State.clearWord_keeps (allBut .sky) u u i (by decide) (Kept.refl _ u)).sky (by decide)
  unfold State.wordExpires
  rw [if_pos hset]
  refine ⟨hclear _, ?_⟩
  show _ ≤ (State.clearWord _ i).sky.ns
  rw [hsky]
  exact s.le_skyNs_advanceSky _

theorem State.word_toDies (ds : List Nat) (p : Payload) (s : State) (i : Nat) :
    (each ds (fun d t => t.send d 0 p) s).word i = s.word i :=
  each_keeps (fun t => t.word i = s.word i) _ (fun d t ht => (State.word_congr
    ((State.send_keeps (allBut .fab) t t d 0 p (by decide) (Kept.refl _ t)).fab (by decide)) i).trans ht) ds s rfl

/-- A saturated word is told again once its validity fits in the flit, and is not told a second time (R352). -/
theorem State.wordResend_spec {s : State} {i : Nat} (hleader : s.leader = true) (hset : (s.word i).set = true)
    (hresend : (s.word i).resend = true) : (s.wordResend i).word i = { s.word i with resend := false } := by
  have htell : ∀ u : State, u.word i = s.word i → u.leftUp (s.word i) < 0x7FFFFF →
      (u.tellLevel i).word i = { s.word i with resend := false } := by
    intro u hu hleft
    unfold State.tellLevel State.tellLevelTo
    dsimp only
    rw [hu, if_pos hset, State.word_toDies, State.word_setWord_same, decide_eq_false (Nat.not_le.mpr hleft)]
  unfold State.wordResend
  dsimp only
  rw [if_pos (Bool.and_eq_true_iff.mpr ⟨Bool.and_eq_true_iff.mpr ⟨hleader, hset⟩, hresend⟩)]
  refine htell _ (State.word_congr (s.fab_advanceSky _) i) ?_
  have hreach := s.le_skyNs_advanceSky ((s.word i).expiry - 0x400000 * 1000 + 1)
  unfold State.leftUp
  rw [if_pos hset, Nat.div_lt_iff_lt_mul (by decide)]
  omega

end Sys2Proof.Machine
end

section
/-! PROOF of O54, second part (R350, R357, R359, R360): the waits and holds of a release. -/

namespace Sys2Proof.Machine

/-! ### Release buffers -/

theorem State.buf_congr {s t : State} (h : t.fab.bufs = s.fab.bufs) (id : Nat) : t.buf id = s.buf id :=
  congrArg (fun bs : List RelBuf => bs.find? (fun b : RelBuf => b.id == id)) h

theorem find?_id_map {l : List RelBuf} {b x : RelBuf} (h : l.find? (fun y => y.id == b.id) = some x) :
    (l.map (fun y => if y.id = b.id then b else y)).find? (fun y => y.id == b.id) = some b := by
  have hx : x.id = b.id := eq_of_beq (List.find?_some (p := fun y : RelBuf => y.id == b.id) h)
  have hid : ((fun y : RelBuf => y.id == b.id) ∘ fun y => if y.id = b.id then b else y) = fun y => y.id == b.id := by
    funext y
    show ((if y.id = b.id then b else y).id == b.id) = (y.id == b.id)
    split
    · next hy => rw [hy]
    · rfl
  rw [List.find?_map, hid, h]
  exact congrArg some (if_pos hx)

theorem State.buf_setBuf_same {s : State} {b x : RelBuf} (h : s.buf b.id = some x) : (s.setBuf b).buf b.id = some b := find?_id_map h

theorem State.buf_freeBuf (s : State) (id : Nat) : (s.freeBuf id).buf id = none := by
  show (s.fab.bufs.filter (fun b => b.id != id)).find? (fun b => b.id == id) = none
  rw [List.find?_filter]
  exact List.find?_eq_none.mpr (fun y _ => by simp)

/-! ### The ends of the waits -/

/-- A vote goes out at once, and the buffer has voted. -/
theorem State.vote_spec {s : State} {b x : RelBuf} (h : s.buf b.id = some x) :
    (s.vote b).now = s.now ∧ (s.vote b).buf b.id = some { b with voted := true } := by
  unfold State.vote
  dsimp only
  obtain ⟨hnow, ps, hfab⟩ := (s.setBuf { b with voted := true }).sendReliable_frame b.src
    (.relVote b.id (if (b.nobuf || s.fabDown) = true then 1 else if b.timeout = true then 2 else 0)
      (if (if (b.nobuf || s.fabDown) = true then 1 else if b.timeout = true then 2 else 0) = 0 then b.ready + 1 else 0))
  exact ⟨hnow, (State.buf_congr (s := s.setBuf { b with voted := true }) (by rw [hfab]) b.id).trans
    (State.buf_setBuf_same (b := { b with voted := true }) h)⟩

theorem State.voteWaitEnd_spec {s : State} {b : RelBuf} (hb : s.buf b.id = some b) (horig : b.orig = false) (hvoted : b.voted = false) :
    (s.voteWaitEnd b.id).now = max s.now (b.at_ + 1000 * ((b.levels - 1) * s.fld FAB_REL.HOP_WAIT)) ∧
    (s.voteWaitEnd b.id).buf b.id = some { b with timeout := true, wait := [], voted := true } := by
  unfold State.voteWaitEnd
  rw [hb]
  dsimp only
  rw [if_neg (by rw [horig, hvoted]; decide)]
  obtain ⟨hnow, hbuf⟩ := State.vote_spec
    (s := s.advanceTo (b.at_ + 1000 * ((b.levels - 1) * s.fld FAB_REL.HOP_WAIT))) (b := { b with timeout := true, wait := [] }) hb
  exact ⟨hnow.trans (s.now_advanceTo _), hbuf⟩

/-- An abort frees the buffer and sets the retry of its slot (R359). -/
theorem State.abortRelease_spec (s : State) (b : RelBuf) :
    (s.abortRelease b).now = s.now ∧ (s.abortRelease b).buf b.id = none ∧ (s.abortRelease b).fld FAB_REL_STATUS.RESULT = 2 ∧
    SMap.find (s.abortRelease b).fab.retryAt b.slot = some (s.now + 100000 * s.fld FAB_REL_HOLD.RETRY_GAP) := by
  have hsent := State.sendEach_keeps 0x8000000000000000000000000000000000000080040 s s b.edges (.relAbort b.id) (by decide)
    (Kept.refl _ s)
  have hfree : ∀ u : State, ((u.freeBuf b.id).incSat FAB_REL_STATUS.ABORTS).now = u.now ∧
      ((u.freeBuf b.id).incSat FAB_REL_STATUS.ABORTS).buf b.id = none ∧
      ((u.freeBuf b.id).incSat FAB_REL_STATUS.ABORTS).fld FAB_REL_HOLD.RETRY_GAP = u.fld FAB_REL_HOLD.RETRY_GAP := fun u =>
    ⟨rfl, u.buf_freeBuf b.id, State.fld_incSat_apart (u.freeBuf b.id) FAB_REL_STATUS.ABORTS _ 1 (by decide)⟩
  obtain ⟨hnow, hbuf, hgap⟩ := hfree (s.sendEach b.edges (.relAbort b.id))
  rw [hsent.now (by decide)] at hnow
  rw [hsent.fld FAB_REL_HOLD.RETRY_GAP (by decide)] at hgap
  unfold State.abortRelease
  dsimp only
  generalize ((s.sendEach b.edges (.relAbort b.id)).freeBuf b.id).incSat FAB_REL_STATUS.ABORTS = u at hnow hbuf hgap ⊢
  rw [hgap]
  refine ⟨(State.setFld_now _ _ _).trans hnow, (State.buf_congr (congrArg Fabric.bufs (State.setFld_fab _ _ _)) b.id).trans hbuf,
    State.fld_setFld_same _ FAB_REL_STATUS.RESULT 2 (by decide) (by decide), ?_⟩
  rw [State.setFld_fab, hnow]
  exact SMap.find_enter_same _ _ _

theorem State.originatorWaitEnd_spec {s : State} {b : RelBuf} (hb : s.buf b.id = some b) (horig : b.orig = true) (ht : b.t = none) :
    (s.originatorWaitEnd b.id).buf b.id = none ∧ (s.originatorWaitEnd b.id).fld FAB_REL_STATUS.RESULT = 2 ∧
    (s.originatorWaitEnd b.id).now = max s.now (b.at_ + 1000 * (b.levels * s.fld FAB_REL.HOP_WAIT)) ∧
    SMap.find (s.originatorWaitEnd b.id).fab.retryAt b.slot =
      some ((s.originatorWaitEnd b.id).now + 100000 * s.fld FAB_REL_HOLD.RETRY_GAP) := by
  unfold State.originatorWaitEnd
  rw [hb]
  dsimp only
  rw [if_pos (by rw [horig, ht]; decide)]
  obtain ⟨hnow, hbuf, hresult, hretry⟩ :=
    (s.advanceTo (b.at_ + 1000 * (b.levels * s.fld FAB_REL.HOP_WAIT))).abortRelease_spec b
  exact ⟨hbuf, hresult, hnow.trans (s.now_advanceTo _), hretry.trans (by rw [hnow]; rfl)⟩

theorem State.bufExpires_spec {s : State} {b : RelBuf} (hb : s.buf b.id = some b) (horig : b.orig = false) (ht : b.t = none) :
    (s.bufExpires b.id).buf b.id = none ∧ (s.bufExpires b.id).now = max s.now (b.at_ + 100000 * s.fld FAB_REL_HOLD.HOLD) ∧
    (s.bufExpires b.id).fld FAB_FAIL.ORPHANS = min (s.fld FAB_FAIL.ORPHANS + 1) FAB_FAIL.ORPHANS.top := by
  unfold State.bufExpires
  rw [hb]
  dsimp only
  rw [if_neg (by rw [horig, ht]; decide)]
  exact ⟨State.buf_freeBuf _ b.id, s.now_advanceTo _, State.fld_incSat_same _ FAB_FAIL.ORPHANS (by decide) (by decide)⟩

/-! ### Another try -/

theorem State.retryAt_queueReleases (s : State) : s.queueReleases.fab.retryAt = s.fab.retryAt := by
  refine each_keeps (fun t => t.fab.retryAt = s.fab.retryAt) _ (fun id t ht => ?_) _ s rfl
  cases t.buf id with
  | none => exact ht
  | some b =>
    dsimp only
    split
    · exact ht
    · exact ht

theorem State.retryAt_sendEach (s : State) (ns : List Nat) (b : FrameBody) : (s.sendEach ns b).fab.retryAt = s.fab.retryAt := by
  obtain ⟨-, ps, hfab⟩ := s.sendEach_frame ns b
  rw [hfab]

theorem State.retryAt_originateRelease (s : State) (i : Nat) (g : Group) (r : Nat) :
    (s.originateRelease i g r).fab.retryAt = SMap.drop s.fab.retryAt i := by
  unfold State.originateRelease
  dsimp only
  split
  · unfold State.commitRelease
    dsimp only
    rw [State.retryAt_queueReleases]
    exact State.retryAt_sendEach _ _ _
  · exact State.retryAt_sendEach _ _ _

/-- Looking at a group's rate leaves no retry of its slot where there was none. -/
theorem State.retryAt_originate {s : State} {i : Nat} (h : SMap.find s.fab.retryAt i = none) :
    SMap.find (s.originate i).fab.retryAt i = none := by
  have hpace : ∀ (g : Group) (r : Nat), SMap.find (s.sendPace i g r).fab.retryAt i = none := fun g r =>
    (congrArg (fun m => SMap.find m i) (State.retryAt_sendEach _ _ _)).trans h
  unfold State.originate
  split
  · exact h
  · cases s.groupAt i with
    | none => exact h
    | some g =>
      dsimp only
      cases SMap.find s.fab.sentRate i with
      | none =>
        dsimp only
        split
        · exact hpace g _
        · exact h
      | some l =>
        dsimp only
        split
        · exact hpace g _
        · split
          · rw [State.retryAt_originateRelease, SMap.find_drop_same]
          · exact h

theorem State.releaseRetry_spec {s : State} {i t0 : Nat} (h : SMap.find s.fab.retryAt i = some t0) :
    (s.releaseRetry i).now = max s.now t0 ∧ SMap.find (s.releaseRetry i).fab.retryAt i = none := by
  unfold State.releaseRetry
  rw [h]
  dsimp only
  refine ⟨?_, State.retryAt_originate (SMap.find_drop_same _ _)⟩
  rw [(State.originate_keeps (allBut .now) _ _ i (by decide) (Kept.refl _ _)).now (by decide)]
  exact s.now_advanceTo t0

end Sys2Proof.Machine
end

section
/-! PROOF of O54, last part (R363 to R367): the discipline of the Skylark counter. What shows or tells the time leaves the counter
alone; a pulse at the leader and one at a gated follower, a missing pulse and a resync are each told by their own step. -/

namespace Sys2Proof.Machine

/-! ### What shows or tells the time -/

theorem State.sky_ite {c : Prop} [Decidable c] {t u : State} {k : Skylark} (ht : t.sky = k) (hu : u.sky = k) :
    (if c then t else u).sky = k := by
  split
  · exact ht
  · exact hu

theorem State.showErr_sky (s : State) (e : Int) : (s.showErr e).sky = s.sky := by
  unfold State.showErr
  rw [State.setFld_sky, State.setFld_sky]

theorem State.noteLock_sky (s : State) (e : Int) : ∃ l b, (s.noteLock e).sky = { s.sky with lockRun := l, badRun := b } :=
  ⟨_, _, State.sky_ite (State.setFlag_sky _ _ _) (State.sky_ite (State.setFlag_sky _ _ _) rfl)⟩

theorem State.noteErr_sky (s : State) (e : Int) : ∃ l b, (s.noteErr e).sky = { s.sky with lockRun := l, badRun := b } := by
  obtain ⟨l, b, h⟩ := (s.showErr e).noteLock_sky e
  exact ⟨l, b, h.trans (by rw [s.showErr_sky])⟩

theorem State.toFollowers_sky (s : State) (p : Payload) : (s.toFollowers p).sky = s.sky :=
  (State.toFollowers_keeps (allBut .sky) s s p (by decide) (Kept.refl _ s)).sky (by decide)

theorem State.tellTime_sky (s : State) (v : Nat) : ∃ b, (s.tellTime v).sky = { s.sky with step := b } := by
  unfold State.tellTime
  split
  · exact ⟨_, State.toFollowers_sky _ _⟩
  · exact ⟨_, rfl⟩

theorem State.tellTime_kept (s : State) (v : Nat) : Kept 0x40044 s (s.tellTime v) :=
  State.tellTime_keeps _ s s v (by decide) (Kept.refl _ s)

theorem State.leaveHoldover_kept (s : State) : Kept 0x400000000000000000000000000000000000080000104 s s.leaveHoldover :=
  State.leaveHoldover_keeps _ s s (by decide) (Kept.refl _ s)

theorem State.leaveHoldover_sky (s : State) : s.leaveHoldover.sky = { s.sky with holdFrom := none, missRun := 0 } := by
  unfold State.leaveHoldover
  rw [State.levelOff_sky, State.setFlag_sky]

theorem State.flag_leaveHoldover (s : State) (f : Fld) (h : TIME_STATUS.HOLDOVER.apart f) : s.leaveHoldover.flag f = s.flag f :=
  State.flag_setFlag_apart { s with sky := { s.sky with holdFrom := none, missRun := 0 } } TIME_STATUS.HOLDOVER f false h

theorem State.holdover_leaveHoldover (s : State) : s.leaveHoldover.flag TIME_STATUS.HOLDOVER = false :=
  State.flag_setFlag_same { s with sky := { s.sky with holdFrom := none, missRun := 0 } } TIME_STATUS.HOLDOVER false rfl (by decide)

/-! ### A pulse with a value at the leader -/

/-- The first value loads the counter. -/
theorem State.leaderPulse_first {s : State} (v sub : Nat) (h : s.sky.expected = none) :
    (s.leaderPulse v sub).skyNs = v ∧ (s.leaderPulse v sub).sky.expected = some v ∧
    (s.leaderPulse v sub).flag TIME_STATUS.PTP_VALID = true := by
  have hstart : ∀ u : State, (s.setFlag TIME_STATUS.PTP_VALID true).jump v = u → ∀ x, (u.tellTime x).skyNs = v ∧
      (u.tellTime x).sky.expected = some v ∧ (u.tellTime x).flag TIME_STATUS.PTP_VALID = true := by
    intro u hu x
    obtain ⟨b, hsky⟩ := u.tellTime_sky x
    have hns : u.sky.ns = v ∧ u.sky.expected = some v := by rw [← hu]; exact ⟨rfl, rfl⟩
    refine ⟨(congrArg Skylark.ns hsky).trans hns.1, (congrArg Skylark.expected hsky).trans hns.2, ?_⟩
    rw [(u.tellTime_kept x).flag TIME_STATUS.PTP_VALID (by decide), ← hu]
    exact State.flag_setFlag_same s TIME_STATUS.PTP_VALID true rfl (by decide)
  unfold State.leaderPulse
  dsimp only
  rw [show (s.setFlag TIME_STATUS.PTP_VALID true).sky.expected = none from h]
  exact hstart _ rfl _

theorem ite_last {α : Sort _} {c1 c2 c3 c4 : Prop} [Decidable c1] [Decidable c2] [Decidable c3] [Decidable c4] {x1 x2 x3 x4 y : α}
    (h1 : ¬ c1) (h2 : ¬ c2) (h3 : ¬ c3) (h4 : ¬ c4) :
    (if c1 then x1 else if c2 then x2 else if c3 then x3 else if c4 then x4 else y) = y := by
  rw [if_neg h1, if_neg h2, if_neg h3, if_neg h4]

/-- A value within STEP_LIMIT disciplines the counter (R364). -/
theorem State.leaderPulse_disciplines {s : State} {v sub : Nat} (hexp : s.sky.expected.isSome = true)
    (hback : s.flag TIME_STATUS.BACKSTEP = false) (hstep : s.sky.step = false)
    (hlimit : (s.phaseError v sub).natAbs ≤ s.stepLimit.toNat) :
    (s.leaderPulse v sub).sky.expected = some v ∧ (s.leaderPulse v sub).sky.slewLeft = 1000 ∧
    (s.leaderPulse v sub).sky.rate = clampInt (-rateLimit) rateLimit
      (s.sky.rate + ashr (s.phaseError v sub * 268435456) (s.fld TIME_CTRL.KI_SHIFT)) := by
  obtain ⟨x, hx⟩ := Option.isSome_iff_exists.mp hexp
  have hback' : (s.setFlag TIME_STATUS.PTP_VALID true).flag TIME_STATUS.BACKSTEP = false :=
    (State.flag_setFlag_apart s _ _ _ (by decide)).trans hback
  have hlimit' : (s.setFlag TIME_STATUS.PTP_VALID true).stepLimit = s.stepLimit :=
    congrArg (fun n : Nat => 16000 * (n : Int)) (State.fld_setFlag_apart s _ TIME_CTRL.STEP_LIMIT _ (by decide))
  have hki : (s.setFlag TIME_STATUS.PTP_VALID true).fld TIME_CTRL.KI_SHIFT = s.fld TIME_CTRL.KI_SHIFT :=
    State.fld_setFlag_apart s _ _ _ (by decide)
  have hnonneg : 0 ≤ s.stepLimit := by unfold State.stepLimit; omega
  have hpulse : ∀ u : State, ({ s.setFlag TIME_STATUS.PTP_VALID true with
      sky := { s.sky with expected := some v, fwd := false } } : State).discipline (s.phaseError v sub) = u →
      s.leaderPulse v sub = u.tellTime u.pulseValue := by
    rintro u rfl
    unfold State.leaderPulse
    dsimp only
    rw [show (s.setFlag TIME_STATUS.PTP_VALID true).sky.expected = some x from hx]
    dsimp only
    refine congrArg (fun w : State => w.tellTime w.pulseValue) (ite_last ?_ ?_ ?_ ?_)
    · exact fun h => Bool.false_ne_true (hback'.symm.trans h)
    · exact fun h => Bool.false_ne_true (hstep.symm.trans h)
    · intro h
      have h' : s.stepLimit < s.phaseError v sub := lt_of_eq_of_lt hlimit'.symm h
      omega
    · intro h
      have h' : s.phaseError v sub < -s.stepLimit := lt_of_lt_of_eq h (congrArg Neg.neg hlimit')
      omega
  rw [hpulse _ rfl]
  obtain ⟨b, hsky⟩ := State.tellTime_sky (State.discipline _ _) (State.pulseValue _)
  rw [hsky]
  obtain ⟨l, k, herr⟩ := State.noteErr_sky _ (s.phaseError v sub)
  unfold State.discipline
  dsimp only
  rw [herr]
  exact ⟨rfl, rfl, by rw [← hki]; rfl⟩

/-! ### tp_pulse -/

/-- The state in which a pulse is captured: where no value comes, the expected one is carried on. -/
def State.capture (s : State) (value : Option Nat) : State :=
  { (if s.leader && value.isSome then s else if s.leader || s.skyGated then s.carryOn else s) with
    sky := { (if s.leader && value.isSome then s else if s.leader || s.skyGated then s.carryOn else s).sky with pulseAt := s.now } }

/-- And after holdover has been looked at. -/
def State.captured (s : State) (value : Option Nat) : State :=
  if (s.capture value).holdoverEnds then (s.capture value).leaveHoldover else (s.capture value).noteHoldover

/-- A pulse with a value at a leader whose core domain runs (R364). -/
theorem State.tpPulse_leader {s : State} (v sub : Nat) (hporst : s.ps.porst = true) (hgated : s.skyGated = false)
    (hleader : (s.captured (some v)).leader = true) :
    s.tpPulse (some v) sub = { (s.captured (some v)).leaderPulse v (sub % 16) with
      sky := { ((s.captured (some v)).leaderPulse v (sub % 16)).sky with
        edge := ((s.captured (some v)).leaderPulse v (sub % 16)).sky.ns } } := by
  have hpulse : ∃ gated f : State, s.tpPulse (some v) sub = if !s.ps.porst then s else if s.skyGated then gated
      else { (if (s.captured (some v)).leader then (s.captured (some v)).leaderPulse v (sub % 16) else f) with
        sky := { (if (s.captured (some v)).leader then (s.captured (some v)).leaderPulse v (sub % 16) else f).sky with
          edge := (if (s.captured (some v)).leader then (s.captured (some v)).leaderPulse v (sub % 16) else f).sky.ns } } :=
    ⟨_, _, rfl⟩
  obtain ⟨gated, f, h⟩ := hpulse
  rw [h, hporst, hgated, if_neg (by decide), if_neg Bool.false_ne_true, if_pos hleader]

/-- A pulse without a value at a follower whose core domain is gated is the Heath's (R367). -/
theorem State.tpPulse_follower_gated {s : State} (sub : Nat) (hporst : s.ps.porst = true) (hgated : s.skyGated = true)
    (hleader : (s.captured none).leader = false) : s.tpPulse none sub = (s.captured none).heathPulse none := by
  have hpulse : ∃ run : State, s.tpPulse none sub = if !s.ps.porst then s else if s.skyGated then
      (match (s.captured none).leader, (none : Option Nat) with
        | true, some v => { s.captured none with sky := { (s.captured none).sky with expected := some v } }
        | _, _ => s.captured none).heathPulse none
      else run := ⟨_, rfl⟩
  obtain ⟨run, h⟩ := hpulse
  rw [h, hporst, hgated, if_neg (by decide), if_pos rfl, hleader]

/-- A pulse with a value at a leader for which no backward jump waits ends holdover. -/
theorem State.captured_leader {s : State} (v : Nat) (hleader : s.leader = true) (hback : s.flag TIME_STATUS.BACKSTEP = false) :
    s.captured (some v) = ({ s with sky := { s.sky with pulseAt := s.now } } : State).leaveHoldover := by
  have hcapture : s.capture (some v) = { s with sky := { s.sky with pulseAt := s.now } } := by
    unfold State.capture
    rw [hleader, if_pos (show (true && (some v).isSome) = true from rfl)]
  have hends : ({ s with sky := { s.sky with pulseAt := s.now } } : State).holdoverEnds = true := by
    show (!s.flag TIME_STATUS.BACKSTEP && (s.leader || _)) = true
    rw [hback, hleader]
    rfl
  unfold State.captured
  rw [hcapture, if_pos hends]

/-- At a gated follower it leaves the counter, its edge and what the leader announced. -/
theorem State.captured_gated {s : State} (hgated : s.skyGated = true) (hleader : s.leader = false) :
    (s.captured none).leader = false ∧ (s.captured none).sky.ns = s.sky.ns ∧ (s.captured none).sky.edge = s.sky.edge ∧
    (s.captured none).sky.flit = s.sky.flit := by
  have hcapture : s.capture none = { s.carryOn with sky := { s.carryOn.sky with pulseAt := s.now } } := by
    unfold State.capture
    rw [hleader, hgated, if_neg (show ¬ (false && (none : Option Nat).isSome) = true from by decide),
      if_pos (show (false || true) = true from rfl)]
  have hhold : s.sky.holdFrom = none := by
    unfold State.skyGated at hgated
    exact Option.isNone_iff_eq_none.mp (Bool.and_eq_true_iff.mp hgated).2
  have hsame : (s.capture none).leader = false ∧ (s.capture none).sky.ns = s.sky.ns ∧ (s.capture none).sky.edge = s.sky.edge ∧
      (s.capture none).sky.flit = s.sky.flit := by
    rw [hcapture]
    exact ⟨hleader, rfl, rfl, rfl⟩
  unfold State.captured
  split
  · rw [State.leaveHoldover_sky]
    exact ⟨(State.flag_leaveHoldover _ ID_TOPOLOGY.LEADER (by decide)).trans hsame.1, hsame.2⟩
  · have hnote : (s.capture none).noteHoldover = s.capture none := by
      unfold State.noteHoldover
      rw [show (s.capture none).sky.holdFrom = none from by rw [hcapture]; exact hhold]
    rw [hnote]
    exact hsame

/-- The Heath takes 1,000 ns from edge to edge where the leader has announced no value (R367). -/
theorem State.heathPulse_follower {s : State} (hleader : s.leader = false) (hflit : s.sky.flit = none) :
    (s.heathPulse none).skyNs = max s.skyNs (s.sky.edge + 1000) ∧ (s.heathPulse none).sky.edge = (s.heathPulse none).skyNs := by
  unfold State.heathPulse
  dsimp only
  rw [hleader, if_neg Bool.false_ne_true, hflit]
  exact ⟨rfl, rfl⟩

theorem State.tpPulse_gated {s : State} (sub : Nat) (hporst : s.ps.porst = true) (hgated : s.skyGated = true)
    (hleader : s.leader = false) (hflit : s.sky.flit = none) :
    (s.tpPulse none sub).skyNs = max s.skyNs (s.sky.edge + 1000) ∧ (s.tpPulse none sub).sky.edge = (s.tpPulse none sub).skyNs := by
  obtain ⟨hl, hns, hedge, hnone⟩ := State.captured_gated hgated hleader
  obtain ⟨hsky, hat⟩ := State.heathPulse_follower hl (hnone.trans hflit)
  rw [State.tpPulse_follower_gated sub hporst hgated hl]
  refine ⟨hsky.trans ?_, hat⟩
  unfold State.skyNs
  rw [hns, hedge]

/-- The first value at a leader loads the counter. -/
theorem State.tpPulse_first {s : State} (v sub : Nat) (hporst : s.ps.porst = true) (hleader : s.leader = true)
    (hback : s.flag TIME_STATUS.BACKSTEP = false) (hexp : s.sky.expected = none) :
    (s.tpPulse (some v) sub).skyNs = v ∧ (s.tpPulse (some v) sub).sky.expected = some v ∧
    (s.tpPulse (some v) sub).flag TIME_STATUS.PTP_VALID = true := by
  have hgated : s.skyGated = false := by
    unfold State.skyGated
    rw [hexp, Option.isSome_none, Bool.and_false, Bool.false_and]
  have hcap := State.captured_leader v hleader hback
  have hl : (s.captured (some v)).leader = true := by
    rw [hcap]
    exact (State.flag_leaveHoldover _ ID_TOPOLOGY.LEADER (by decide)).trans hleader
  have hexp' : (s.captured (some v)).sky.expected = none := by
    rw [hcap, State.leaveHoldover_sky]
    exact hexp
  rw [State.tpPulse_leader v sub hporst hgated hl]
  exact State.leaderPulse_first v (sub % 16) hexp'

/-- A value within STEP_LIMIT disciplines the counter. -/
theorem State.tpPulse_disciplines {s : State} {v sub : Nat} (hporst : s.ps.porst = true) (hleader : s.leader = true)
    (hback : s.flag TIME_STATUS.BACKSTEP = false) (hexp : s.sky.expected.isSome = true) (hgated : s.skyGated = false)
    (hstep : s.sky.step = false) (hlimit : (s.phaseError v (sub % 16)).natAbs ≤ s.stepLimit.toNat) :
    (s.tpPulse (some v) sub).sky.expected = some v ∧ (s.tpPulse (some v) sub).sky.slewLeft = 1000 ∧
    (s.tpPulse (some v) sub).sky.rate = clampInt (-rateLimit) rateLimit
      (s.sky.rate + ashr (s.phaseError v (sub % 16) * 268435456) (s.fld TIME_CTRL.KI_SHIFT)) := by
  have hcap := State.captured_leader v hleader hback
  have hkept := State.leaveHoldover_kept { s with sky := { s.sky with pulseAt := s.now } }
  have hsky := State.leaveHoldover_sky { s with sky := { s.sky with pulseAt := s.now } }
  rw [← hcap] at hkept hsky
  have hphase : (s.captured (some v)).phaseError v (sub % 16) = s.phaseError v (sub % 16) := by
    unfold State.phaseError
    rw [hsky]
  have hsame : (s.captured (some v)).stepLimit = s.stepLimit :=
    congrArg (fun n : Nat => 16000 * (n : Int)) (hkept.fld TIME_CTRL.STEP_LIMIT (by decide))
  obtain ⟨hexp', hleft, hrate⟩ := State.leaderPulse_disciplines (s := s.captured (some v)) (v := v) (sub := sub % 16)
    (by rw [hsky]; exact hexp) (by rw [hcap, State.flag_leaveHoldover _ _ (by decide)]; exact hback) (by rw [hsky]; exact hstep)
    (by rw [hphase, hsame]; exact hlimit)
  rw [State.tpPulse_leader v sub hporst hgated ((hkept.flag ID_TOPOLOGY.LEADER (by decide)).trans hleader)]
  refine ⟨hexp', hleft, hrate.trans ?_⟩
  rw [hphase, hsky, hkept.fld TIME_CTRL.KI_SHIFT (by decide)]
  rfl

/-! ### A missing pulse -/

theorem State.holdFrom_advanceTo (s : State) (t : Nat) : (s.advanceTo t).sky.holdFrom = s.sky.holdFrom := by
  unfold State.advanceTo State.advance
  dsimp only
  split
  · rfl
  · rfl

theorem State.missRun_advanceTo (s : State) (t : Nat) : (s.advanceTo t).sky.missRun = s.sky.missRun := by
  unfold State.advanceTo State.advance
  dsimp only
  split
  · rfl
  · rfl

theorem State.enterHoldover_of_none {s : State} (h : s.sky.holdFrom = none) :
    s.enterHoldover = ({ s with sky := { s.sky with holdFrom := some s.now } } : State).setFlag TIME_STATUS.HOLDOVER true := by
  unfold State.enterHoldover
  rw [h]

theorem State.tellMissing_sky (s : State) : ∃ b, s.tellMissing.sky = { s.sky with step := b } := by
  have htold : ∀ v, ∃ b, (if lastOfMs v then ({ s with sky := { s.sky with step := s.sky.fwd } } : State).toFollowers
      (.data (.skylark (v + 2000) s.sky.fwd)) else s.tellTime (v + 1000)).sky = { s.sky with step := b } := by
    intro v
    split
    · exact ⟨_, State.toFollowers_sky _ _⟩
    · exact s.tellTime_sky _
  by_cases hleader : s.leader = true
  · unfold State.tellMissing
    rw [if_pos hleader]
    exact htold _
  · unfold State.tellMissing
    rw [if_neg hleader]
    exact ⟨_, rfl⟩

/-- Holdover that begins now is not yet 1 ms old. -/
theorem State.noteHoldover_of_now {s : State} (h : s.sky.holdFrom = some s.now) : s.noteHoldover = s := by
  unfold State.noteHoldover
  rw [h]
  exact if_neg (fun ⟨hle, _⟩ => by omega)

/-- In holdover since `n`, the present instant, with `k` pulses missed in a row and `m` of them counted. -/
def State.missing (s : State) (n k m : Nat) : Prop :=
  s.now = n ∧ s.flag TIME_STATUS.HOLDOVER = true ∧ s.sky.holdFrom = some n ∧ s.sky.missRun = k ∧ s.fld TIME_STATUS.MISSED = m

theorem State.missing_told {s : State} {n k m : Nat} (h : s.missing n k m) : s.noteHoldover.tellMissing.missing n k m := by
  obtain ⟨hnow, hflag, hfrom, hrun, hcount⟩ := h
  have hkept := State.tellMissing_keeps 0x40044 s s (by decide) (Kept.refl _ s)
  obtain ⟨b, hsky⟩ := s.tellMissing_sky
  rw [State.noteHoldover_of_now (by rw [hfrom, hnow])]
  exact ⟨(hkept.now (by decide)).trans hnow, (hkept.flag TIME_STATUS.HOLDOVER (by decide)).trans hflag,
    (congrArg Skylark.holdFrom hsky).trans hfrom, (congrArg Skylark.missRun hsky).trans hrun,
    (hkept.fld TIME_STATUS.MISSED (by decide)).trans hcount⟩

/-- A missed pulse is counted, whatever else it shows. -/
theorem State.missing_counted {s : State} {n k m : Nat} (h : s.missing n k m) (b : Bool) :
    ((if b then s.setFlag TIME_STATUS.PTP_VALID false else s).incSat TIME_STATUS.MISSED).missing n k
      (min (m + 1) TIME_STATUS.MISSED.top) := by
  obtain ⟨hnow, hflag, hfrom, hrun, hcount⟩ := h
  have hone : ∀ u : State, u.missing n k m → (u.incSat TIME_STATUS.MISSED).missing n k (min (m + 1) TIME_STATUS.MISSED.top) :=
    fun u ⟨hnow, hflag, hfrom, hrun, hcount⟩ =>
      ⟨(State.incSat_now u _ 1).trans hnow, (State.flag_incSat_apart u TIME_STATUS.MISSED TIME_STATUS.HOLDOVER 1 (by decide)).trans hflag,
        by rw [State.incSat_sky, hfrom], by rw [State.incSat_sky, hrun], by
        rw [State.fld_incSat_same u TIME_STATUS.MISSED (by decide) (by decide), hcount]⟩
  cases b with
  | false => exact hone s ⟨hnow, hflag, hfrom, hrun, hcount⟩
  | true =>
    exact hone (s.setFlag TIME_STATUS.PTP_VALID false) ⟨(State.setFlag_now s _ _).trans hnow,
      (State.flag_setFlag_apart s TIME_STATUS.PTP_VALID TIME_STATUS.HOLDOVER false (by decide)).trans hflag,
      by rw [State.setFlag_sky, hfrom], by rw [State.setFlag_sky, hrun],
      (State.fld_setFlag_apart s TIME_STATUS.PTP_VALID TIME_STATUS.MISSED false (by decide)).trans hcount⟩

theorem State.pulseMissing_spec {s : State} (hporst : s.ps.porst = true) (hhold : s.sky.holdFrom = none) :
    s.pulseMissing.missing (max s.now (s.sky.pulseAt + 2500)) (s.sky.missRun + 1)
      (min (s.fld TIME_STATUS.MISSED + 1) TIME_STATUS.MISSED.top) := by
  have henter : ∀ u : State, u.sky.holdFrom = none → u.now = max s.now (s.sky.pulseAt + 2500) →
      u.fld TIME_STATUS.MISSED = s.fld TIME_STATUS.MISSED → ∀ k p ns e f x,
      ({ u.enterHoldover with sky :=
        { u.enterHoldover.sky with pulseAt := p, missRun := k, ns := ns, edge := e, flit := f, expected := x } } : State).missing
          (max s.now (s.sky.pulseAt + 2500)) k (s.fld TIME_STATUS.MISSED) := by
    intro u hu hnow hcount k p ns e f x
    rw [State.enterHoldover_of_none hu]
    exact ⟨hnow, State.flag_setFlag_same { u with sky := { u.sky with holdFrom := some u.now } } _ true rfl (by decide),
      congrArg some hnow, rfl,
      (State.fld_setFlag_apart { u with sky := { u.sky with holdFrom := some u.now } } _ _ _ (by decide)).trans hcount⟩
  unfold State.pulseMissing
  rw [hporst, if_neg (by decide)]
  dsimp only
  rw [s.missRun_advanceTo]
  exact State.missing_told (State.missing_counted
    (henter _ ((s.holdFrom_advanceTo _).trans hhold) (s.now_advanceTo _) rfl _ _ _ _ _ _) _)

theorem State.skylarkHoldover_spec {s : State} (hporst : s.ps.porst = true) (hleader : s.leader = false)
    (hhold : s.sky.holdFrom = none) :
    s.skylarkHoldover.now = max s.now (s.sky.flitAt + 3000000) ∧ s.skylarkHoldover.flag TIME_STATUS.HOLDOVER = true ∧
    s.skylarkHoldover.sky.holdFrom = some s.skylarkHoldover.now := by
  have henter : ∀ u : State, u.sky.holdFrom = none → u.enterHoldover.now = u.now ∧
      u.enterHoldover.flag TIME_STATUS.HOLDOVER = true ∧ u.enterHoldover.sky.holdFrom = some u.now := fun u hu => by
    rw [State.enterHoldover_of_none hu]
    exact ⟨rfl, State.flag_setFlag_same { u with sky := { u.sky with holdFrom := some u.now } } _ true rfl (by decide), rfl⟩
  obtain ⟨hnow, hflag, hfrom⟩ := henter (s.advanceTo (s.sky.flitAt + 3000000)) ((s.holdFrom_advanceTo _).trans hhold)
  have hstep : s.skylarkHoldover = (s.advanceTo (s.sky.flitAt + 3000000)).enterHoldover :=
    if_neg (by rw [hleader, hporst]; decide)
  rw [hstep]
  exact ⟨hnow.trans (s.now_advanceTo _), hflag, hfrom.trans (congrArg some hnow.symm)⟩

/-! ### A resync -/

/-- What a resync ends with, once the step has been taken. -/
def State.resyncEnd (s : State) : State :=
  ((((s.setFlag TIME_CTRL.RESYNC false).setFlag TIME_STATUS.RESYNC_WAIT false).setFlag TIME_STATUS.BACKSTEP false).levelOff
    srcTimeBackstep).leaveHoldover

theorem State.flag_levelOff (s : State) (src : Nat) (f : Fld) : (s.levelOff src).flag f = s.flag f := rfl

theorem State.resyncEnd_spec (s : State) : s.resyncEnd.skyNs = s.skyNs ∧ s.resyncEnd.flag TIME_STATUS.RESYNC_WAIT = false ∧
    s.resyncEnd.flag TIME_STATUS.BACKSTEP = false ∧ s.resyncEnd.flag TIME_STATUS.HOLDOVER = false := by
  refine ⟨?_, ?_, ?_, State.holdover_leaveHoldover _⟩
  · unfold State.resyncEnd State.skyNs
    rw [State.leaveHoldover_sky, State.levelOff_sky, State.setFlag_sky, State.setFlag_sky, State.setFlag_sky]
  · unfold State.resyncEnd
    rw [State.flag_leaveHoldover _ _ (by decide), State.flag_levelOff, State.flag_setFlag_apart _ _ _ _ (by decide),
      State.flag_setFlag_same _ _ _ rfl (by decide)]
  · unfold State.resyncEnd
    rw [State.flag_leaveHoldover _ _ (by decide), State.flag_levelOff, State.flag_setFlag_same _ _ _ rfl (by decide)]

theorem State.skyNs_jump (s : State) (v : Nat) : (s.jump v).skyNs = v := rfl

/-- The step waits for no commit and no release: it is taken, and the resync ends. -/
theorem State.resyncApply_spec {s : State} {v : Nat} (hv : s.sky.expected = some v) (hwait : s.flag TIME_STATUS.RESYNC_WAIT = true)
    (hrun : s.hdg.running = none) (hqueue : s.hdg.queue = []) (hbufs : s.fab.bufs = []) :
    ∃ u : State, s.resyncApply = (u.jump ((v / 1000000 + 1) * 1000000)).resyncEnd := by
  have hready : ¬ (s.flag TIME_STATUS.RESYNC_WAIT = false ∨ s.hdg.running.isSome = true ∨ s.hdg.queue ≠ [] ∨ s.fab.bufs ≠ []) := by
    rw [hwait, hrun, hqueue, hbufs]
    decide
  unfold State.resyncApply
  rw [hv]
  dsimp only
  rw [if_neg hready]
  exact ⟨_, rfl⟩

/-! ### The obligation -/

theorem ite_porst {s : State} (h : s.ps.porst = true) (t u : State) : (if s.ps.porst then t else u) = t := if_pos h

/-- Settles O54: each timer of the agent by its own step, and the counter pulse by pulse. -/
theorem fabricTimersAndSkylark : Obligations.FabricTimersAndSkylark := by
  unfold Obligations.FabricTimersAndSkylark
  refine ⟨fun s hporst hruns => ⟨fun n p x hp hx => ⟨fun htries => ?_, fun htries => ?_⟩, ⟨_, rfl, State.discovery_spec hruns⟩,
      fun n p hp hreach => ?_, fun i g l hg hl hle => ⟨_, rfl, State.paceRefresh_spec hruns hg hl hle⟩,
      fun err bs => ⟨_, rfl, State.discardFrame_spec hruns err bs⟩⟩,
    fun s i hporst hset => ⟨?_, fun hleader hresend => ?_⟩,
    fun s b hb => ⟨fun horig hvoted => ?_, fun horig ht => ?_, fun horig ht => ⟨_, rfl, State.bufExpires_spec hb horig ht⟩⟩,
    fun s i t0 h => ⟨_, rfl, State.releaseRetry_spec h⟩,
    fun s hporst => ⟨fun v sub hleader hback => ⟨fun hexp => ⟨_, rfl, State.tpPulse_first v sub hporst hleader hback hexp⟩,
        fun hexp hgated hstep hlimit => ⟨_, rfl, State.tpPulse_disciplines hporst hleader hback hexp hgated hstep hlimit⟩⟩,
      fun sub hgated hleader hflit => ⟨_, rfl, State.tpPulse_gated sub hporst hgated hleader hflit⟩, fun hhold => ?_,
      fun hhold hleader => ⟨_, rfl, State.skylarkHoldover_spec hporst hleader hhold⟩, fun v hv hwait hrun hqueue hbufs => ?_⟩⟩
  · obtain ⟨q, hq, hnow, hx'⟩ := State.retransmit_again hruns hp hx htries
    exact ⟨_, q, congrArg Host.Outcome.next (ite_porst hporst _ _), hq, hnow, hx'⟩
  · obtain ⟨q, hq, hgone, hcount⟩ := State.retransmit_abandoned hruns hp hx htries
    exact ⟨_, q, congrArg Host.Outcome.next (ite_porst hporst _ _), hq, hgone, hcount⟩
  · obtain ⟨q, hq, hdead⟩ := State.peerDead_spec hruns hp hreach
    exact ⟨_, q, congrArg Host.Outcome.next (ite_porst hporst _ _), hq, hdead⟩
  · exact ⟨_, congrArg Host.Outcome.next (ite_porst hporst _ _), State.wordExpires_spec hset⟩
  · exact ⟨_, congrArg Host.Outcome.next (ite_porst hporst _ _), State.wordResend_spec hleader hset hresend⟩
  · obtain ⟨hnow, hbuf⟩ := State.voteWaitEnd_spec hb horig hvoted
    exact ⟨_, _, rfl, hbuf, rfl, rfl, rfl, hnow⟩
  · exact ⟨_, rfl, State.originatorWaitEnd_spec hb horig ht⟩
  · obtain ⟨hnow, hflag, hfrom, hrun, hcount⟩ := State.pulseMissing_spec hporst hhold
    exact ⟨_, rfl, hnow, hflag, hfrom.trans (congrArg some hnow.symm), hrun, hcount⟩
  · obtain ⟨u, hresync⟩ := State.resyncApply_spec hv hwait hrun hqueue hbufs
    obtain ⟨hns, hflags⟩ := (u.jump ((v / 1000000 + 1) * 1000000)).resyncEnd_spec
    exact ⟨_, congrArg Host.Outcome.next ((ite_porst hporst _ _).trans hresync), hns.trans (u.skyNs_jump _), hflags⟩

end Sys2Proof.Machine
end

section
/-! REFUTATION of O55 (R382, R383, R406). A request to the management endpoint whose header gives the reply more than 4,096 bytes
(RLEN) is invalid: it is answered with INVALID in its turn, and its command is over. The obligation bounds RLEN from below only, and
has every such request in execution. -/

namespace Sys2Proof.Machine

/-! ### An invalid request is over once it is judged -/

/-- The end of a request of the endpoint leaves no command of it. -/
theorem State.cmd_finish_mctp {s : State} {a : Active} (h : s.cmd srcMctp = some a) (status detail t : Nat) (result : List Nat) :
    (s.finish srcMctp status detail t result).cmd srcMctp = none := by
  unfold State.finish
  rw [h]
  exact SMap.find_drop_same _ _

theorem State.judgeHeader_longReply (s : State) {a : Active} (hlong : 4096 < a.hdr.rlen) :
    s.judgeHeader srcMctp a = some stInvalid := by
  unfold State.judgeHeader
  dsimp only
  rw [if_neg (fun h => h.1 rfl)]
  exact if_pos (.inr (.inr (.inr (.inr (.inr (.inr (.inr hlong)))))))

theorem State.mctpJudge_longReply (s : State) {a : Active} (hlong : 4096 < a.hdr.rlen) :
    (s.mctpJudge a).cmd srcMctp = none := by
  have hcmd : (s.setCmd srcMctp { a with stage := 1 }).cmd srcMctp = some { a with stage := 1 } := SMap.find_enter_same _ _ _
  unfold State.mctpJudge
  dsimp only
  split
  · exact State.cmd_finish_mctp hcmd _ _ _ _
  · rw [State.judgeHeader_longReply _ hlong]
    exact State.cmd_finish_mctp hcmd _ _ _ _

/-- With no inbound slot full the request is judged at once (R388). -/
theorem State.takeTurn_longReply {s : State} {a : Active} (hcmd : s.cmd srcMctp = some a) (hstage : a.stage = 6)
    (hempty : s.reg MB_IN_FULL = 0) (hlong : 4096 < a.hdr.rlen) : s.takeTurn.cmd srcMctp = none := by
  have hslot : ∀ m, s.slotReady m = false := fun m => by
    unfold State.slotReady
    rw [hempty, show bitAt 0 m = false by simp [bitAt], Bool.and_false, Bool.false_and, Bool.false_and, Bool.false_and]
  unfold State.takeTurn
  rw [hcmd]
  dsimp only
  rw [if_pos ⟨hstage, List.all_eq_true.mpr (fun m _ => by rw [hslot m]; rfl)⟩]
  exact s.mctpJudge_longReply hlong

theorem State.mctpRequest_longReply {s : State} {bs : List Nat} (hup : s.endpointUp = true) (hidle : s.cmd srcMctp = none)
    (hempty : s.reg MB_IN_FULL = 0) (hlong : 4096 < (parseHeader bs).rlen) : (s.mctpRequest bs).cmd srcMctp = none := by
  have hkept := State.lingerFrom_keeps 0x4046800000000000000000000002007165244 s _ true (by decide)
    (State.startSteward_keeps _ s _ (by decide) (State.startCore_keeps _ s s (by decide) (Kept.refl _ s)))
  unfold State.mctpRequest
  rw [hup, hidle, if_neg (by decide), if_neg (by decide)]
  exact State.takeTurn_longReply (SMap.find_enter_same _ _ _) rfl ((hkept.reg' MB_IN_FULL (by decide)).trans hempty) hlong

/-! ### The counterexample -/

/-- A leader whose endpoint answers, with nothing in execution and no slot full. -/
def answering : State :=
  (({ State.reset with ps := { vaon := true, porst := true }, fw := { running := true } } : State).setFlag ID_TOPOLOGY.LEADER
    true).setFlag HEATH_DOMAIN_STATUS.PLL_LOCK true

/-- An FW_STATUS request without parameters that allows 8,192 bytes for its reply. -/
def longReply : List Nat := [0x03, 0x06, 0, 0, 0, 0, 0, 0, 0, 0, 0, 0, 0x00, 0x20] ++ List.replicate 18 0

/-- Refutes O55: the request longReply at the endpoint of the state answering meets every hypothesis of the clause on the
endpoint's turns; it is answered INVALID at once, and no command of the endpoint is left. -/
theorem not_memoryPortMailboxesAndManagement : ¬ Obligations.MemoryPortMailboxesAndManagement := by
  unfold Obligations.MemoryPortMailboxesAndManagement
  intro h
  obtain ⟨-, -, -, hendpoint⟩ := h
  have hup : answering.endpointUp = true := by decide +kernel
  obtain ⟨-, hfree⟩ := hendpoint answering hup
  obtain ⟨hturn, -⟩ := hfree rfl
  obtain ⟨t, a, ht, ha, -⟩ := hturn longReply 11 0 (by decide) (by decide) (by decide) (by decide) (by decide) (by decide) (by decide)
    (by decide) (by decide) (by decide) (by decide) (by decide)
  have hover : (answering.mctpRequest longReply).cmd srcMctp = none :=
    State.mctpRequest_longReply hup rfl (by decide +kernel) (by decide)
  have hsame : answering.mctpRequest longReply = t := Host.Outcome.next.inj ht
  rw [hsame, ha] at hover
  exact Option.some_ne_none a hover

end Sys2Proof.Machine
end

section
/-! PROOF of O3, O4 (R5, R101, R103): the invariant of the machine holds after reset, and every step keeps it. -/

namespace Sys2Proof.Machine

/-- Settles O3: no register is listed after reset, and PORST_N is asserted. -/
theorem resetMeetsTheInvariant : Obligations.ResetMeetsTheInvariant := by
  unfold Obligations.ResetMeetsTheInvariant
  exact ⟨SMap.wf_nil resetWord, fun _ => rfl⟩

/-- What an idle step may change: time, what waits at the ports, and what the firmware writes of itself. -/
theorem State.idle_kept (s : State) : Kept (placesMask [.now, .sky, .free, .out, .mem, .ps, .fw, .obs, .HEATH_LOG_HEAD]) s s.idle :=
  State.coresAct_keeps _ s _ (by decide) (State.memPump_keeps _ s _ (by decide) (State.streamPump_keeps _ s _ (by decide)
    (State.advance_keeps _ s s 1 (by decide) (Kept.refl _ s))))

/-- The invariant says nothing of the queue of commands. -/
theorem State.inv_pending {s : State} (h : s.Inv) (q : List Instr) : ({ s with pending := q } : State).Inv := h

/-- Settles O4: an idle step keeps the registers' form and the resets' levels, a command by what every command carries over. -/
theorem stepKeepsTheInvariant : Obligations.StepKeepsTheInvariant := by
  unfold Obligations.StepKeepsTheInvariant
  intro s t hinv hstep
  unfold step at hstep
  cases hp : s.pending with
  | nil =>
    rw [hp] at hstep
    obtain rfl := Host.Outcome.next.inj hstep
    exact (Carried.of_kept s.idle_kept).inv hinv
  | cons c rest =>
    rw [hp] at hstep
    exact (exec_carries c _ t hstep).inv (State.inv_pending hinv rest)

/-! ### HEATH_POR -/

/-- Settles O11: HEATH_POR begins a new state with the installation, the clock and the trip lines alone. -/
theorem heathPorClearsEverything : Obligations.HeathPorClearsEverything := by
  unfold Obligations.HeathPorClearsEverything
  intro s
  exact ⟨s.heathPor, rfl, fun _ => rfl, rfl, rfl, rfl, rfl, rfl, rfl, rfl, rfl, rfl, rfl, rfl, rfl, rfl, rfl, rfl, rfl, rfl⟩

end Sys2Proof.Machine
end

section
/-! PROOF of O12 (R104, R105, R107): what a block reset does as it begins, and the block epoch at each reset. -/

namespace Sys2Proof.Machine

/-- The mask of every place but those listed; a register that the mask does not name is none of them. -/
def allButThese (l : List Place) : Nat := (2 ^ 200 - 1) ^^^ placesMask (.anyReg :: l)

/-! ### The instant of the trigger: a request that is looked at again leaves it alone -/

/-- What leaves the power state alone leaves the instant of the last trigger. -/
theorem Kept.resetAt {m : Nat} {s t : State} (h : Kept m s t) (hm : m.testBit 17 = false) : t.ps.resetAt = s.ps.resetAt := by
  rw [h.ps hm]

theorem State.resetAt_stopClocks (s : State) : s.stopClocks.ps.resetAt = s.ps.resetAt := by
  unfold State.stopClocks
  split <;> rfl

theorem State.resetAt_psDone (s : State) : s.psDone.ps.resetAt = s.ps.resetAt := by
  unfold State.psDone
  exact (State.restepDue_keeps (allBut .ps) _ _ (by decide) (Kept.refl _ _)).resetAt (by decide)

theorem State.resetAt_psRefuse (s : State) : s.psRefuse.ps.resetAt = s.ps.resetAt := rfl

theorem State.resetAt_enterOff (s : State) : s.enterOff.ps.resetAt = s.ps.resetAt := by
  unfold State.enterOff
  dsimp only
  rw [State.resetAt_stopClocks]
  split
  · rfl
  · exact (State.sendBeat_keeps (allBut .ps) _ _ 0 (by decide) (Kept.refl _ _)).resetAt (by decide)

theorem State.resetAt_shutDone (s : State) (why : Nat) : (s.shutDone why).ps.resetAt = s.ps.resetAt := by
  unfold State.shutDone
  dsimp only
  split_ifs
  · rw [State.resetAt_psRefuse, State.resetAt_enterOff]
  · rw [State.resetAt_psDone, State.resetAt_enterOff]
  · exact s.resetAt_enterOff
  · exact s.resetAt_enterOff

theorem State.resetAt_shutNext (s : State) (why : Nat) : (s.shutNext why).ps.resetAt = s.ps.resetAt := by
  unfold State.shutNext
  split
  · rw [State.ps_railDown]
  · exact s.resetAt_shutDone why

theorem State.resetAt_beginShut (s : State) (why : Nat) (atOnce : Bool) : (s.beginShut why atOnce).ps.resetAt = s.ps.resetAt := by
  have hvoid : (if s.ps.railsReady then s.voidAll false false else s).ps.resetAt = s.ps.resetAt := by
    split
    · exact (State.voidAll_keeps (allBut .ps) s s false false (by decide) (Kept.refl _ s)).resetAt (by decide)
    · rfl
  unfold State.beginShut
  dsimp only
  generalize (if s.ps.railsReady then s.voidAll false false else s) = u at hvoid ⊢
  split
  · split
    · exact hvoid
    · exact (State.resetAt_shutNext _ _).trans hvoid
  · exact (State.resetAt_shutNext _ _).trans hvoid

theorem State.resetAt_legBegin (s : State) (t : Nat) : (s.legBegin t).ps.resetAt = s.ps.resetAt := by
  unfold State.legBegin
  dsimp only
  generalize hu : ((({ s with ps := { s.ps with leg := t } } : State).setFld HEATH_DOMAIN_STATUS.PSTATE_TGT t).setFlag
    HEATH_DOMAIN_STATUS.IN_TRANSIT true) = u
  have hbefore : u.ps.resetAt = s.ps.resetAt := by rw [← hu]; rfl
  split_ifs
  · exact (u.resetAt_beginShut 0 false).trans hbefore
  · exact ((State.retainHandshake_keeps (allBut .ps) u u (by decide) (Kept.refl _ u)).resetAt (by decide)).trans hbefore
  · exact hbefore
  · exact ((State.voidAll_keeps (allBut .ps) u u true false (by decide) (Kept.refl _ u)).resetAt (by decide)).trans hbefore
  · exact ((State.startCore_keeps (allBut .ps) u u (by decide) (Kept.refl _ u)).resetAt (by decide)).trans hbefore
  · exact ((State.dropExtTrip_keeps (allBut .ps) _ _ (by decide) (Kept.refl _ _)).resetAt (by decide)).trans hbefore

theorem State.resetAt_tryRequest (s : State) : s.tryRequest.ps.resetAt = s.ps.resetAt := by
  unfold State.tryRequest
  split
  · rfl
  · split_ifs
    · rfl
    · rfl
    · exact s.resetAt_psDone
    · rfl
    · exact State.resetAt_legBegin _ _

theorem State.resetAt_coresReturn (s : State) : s.coresReturn.ps.resetAt = s.ps.resetAt := by
  unfold State.coresReturn
  rw [State.resetAt_tryRequest, State.setFld_ps]

theorem State.resetAt_resumePickup (s : State) : s.resumePickup.ps.resetAt = s.ps.resetAt := by
  unfold State.resumePickup
  rw [State.resetAt_coresReturn]
  exact (State.takeOver_keeps (allBut .ps) s s (by decide) (Kept.refl _ s)).resetAt (by decide)

theorem State.resetAt_abortActivation (s : State) (reason : Nat) : (s.abortActivation reason).ps.resetAt = s.ps.resetAt := by
  have htold : ∀ v, Kept (allBut .ps) s.resumePickup ((s.resumePickup.setFld HEATH_FW_STATUS.ACT_REASON reason).fwEvent 0x04 reason 0 v) :=
    fun v => State.fwEvent_keeps _ _ _ _ _ _ _ (by decide) (State.setFld_at .HEATH_FW_STATUS rfl (by decide) (Kept.refl _ _))
  rw [← s.resetAt_resumePickup]
  unfold State.abortActivation
  dsimp only
  split
  · exact (State.done_keeps _ _ _ _ _ _ (by decide) (htold _)).resetAt (by decide)
  · exact (htold _).resetAt (by decide)

theorem State.done_of_none {s : State} (h : s.cmds = []) (m status detail : Nat) : s.done m status detail = s := by
  unfold State.done State.finish State.cmd
  rw [h]
  rfl

/-- An activation that is given up with no command in execution starts none. -/
theorem State.cmds_abortActivation {s : State} (h : s.cmds = []) (reason : Nat) : (s.abortActivation reason).cmds = [] := by
  have htold : ∀ v, ((s.resumePickup.setFld HEATH_FW_STATUS.ACT_REASON reason).fwEvent 0x04 reason 0 v).cmds = [] := fun v =>
    ((State.fwEvent_keeps (allBut .cmds) s _ _ _ _ _ (by decide) (State.setFld_at .HEATH_FW_STATUS rfl (by decide)
      (State.resumePickup_keeps _ s s (by decide) (Kept.refl _ s)))).cmds (by decide)).trans h
  unfold State.abortActivation
  dsimp only
  split
  · rw [State.done_of_none (htold _)]
    exact htold _
  · exact htold _

/-- The steward's cores as they restart from ROM: what they were at is dropped (R104, R106). -/
def State.coresDrop (s : State) : State :=
  { s with
    fw := { s.fw with
      readLeft := 0, trying := 0, image := none, copy := none, loaded := [], reboot := false, capsStaged := {}, locked := false,
      ram := [], handover := none, debugs := s.fw.debugs.map (fun d => { d with halted := false }) }
    ps := { s.ps with digestDue := true } }

/-- And a staging over the memory port fails (R422). -/
def State.stewardStops (s : State) : State := if s.coresDrop.fw.mode = 1 then s.coresDrop.stageFails 8 else s.coresDrop

theorem State.stewardReset_eq (s : State) : s.stewardReset =
    if s.stewardStops.fld HEATH_FW_STATUS.ACT = 2 then
      (if s.stewardStops.leader then s.stewardStops.abortActivation 4 else s.stewardStops.coresReturn).bootAgain
    else s.stewardStops := rfl

theorem State.stewardStops_spec (s : State) : s.stewardStops.ps.resetAt = s.ps.resetAt ∧ s.stewardStops.cmds = s.cmds := by
  have hkept := Kept.ite (c := s.coresDrop.fw.mode = 1)
    (State.stageFails_keeps 0x22000200020340040 s.coresDrop _ 8 0 (by decide) (Kept.refl _ _)) (Kept.refl _ s.coresDrop)
  exact ⟨hkept.resetAt (by decide), hkept.cmds (by decide)⟩

/-- The steward's cores restart: the instant of the trigger stays, and no command begins. -/
theorem State.stewardReset_spec {s : State} (h : s.cmds = []) : s.stewardReset.ps.resetAt = s.ps.resetAt ∧ s.stewardReset.cmds = [] := by
  obtain ⟨hat, hcmds⟩ := s.stewardStops_spec
  rw [s.stewardReset_eq, ← hat]
  rw [h] at hcmds
  generalize s.stewardStops = u at hcmds
  split_ifs
  · exact ⟨u.resetAt_abortActivation 4, State.cmds_abortActivation hcmds 4⟩
  · have hreturn := State.coresReturn_keeps (allBut .cmds) u u (by decide) (Kept.refl _ u)
    exact ⟨u.resetAt_coresReturn, (hreturn.cmds (by decide)).trans hcmds⟩
  · exact ⟨rfl, hcmds⟩

/-! ### A block reset -/

/-- The block epoch after the present one: 0xFFFF wraps to 0x0001 (R105). -/
def State.epochAfter (s : State) : Nat := if s.blockEpoch = 0xFFFF then 1 else s.blockEpoch + 1

theorem State.epochAfter_ne_zero (s : State) : s.epochAfter ≠ 0 := by
  unfold State.epochAfter
  split <;> omega

theorem State.blockEpoch_nextEpoch (s : State) : s.nextEpoch.blockEpoch = s.epochAfter := by
  have hlt : s.blockEpoch < 2 ^ 16 := bitsOf_lt _ _ _
  have hset : s.nextEpoch.blockEpoch = s.epochAfter % 2 ^ 16 :=
    State.fld_setFld_same s HEATH_EPOCH.BLOCK_EPOCH s.epochAfter (by decide) (by decide)
  rw [hset, Nat.mod_eq_of_lt]
  unfold State.epochAfter
  split <;> omega

/-- The cause that a block reset shows (R107). -/
def resetCause (byHost : Bool) : Fld := if byHost then HEATH_RESET_CAUSE.BLOCK_HOST else HEATH_RESET_CAUSE.BLOCK_FAULT

/-- A block reset as the Heath shows it at its trigger (R105, R107). -/
def State.resetShown (s : State) (byHost : Bool) : State :=
  (((({ s.holdBases with ps := { s.holdBases.ps with resetAt := s.now } } : State).setFlag HEATH_RESET_CTRL.BLOCK_RESET true).setFlag
    (resetCause byHost) true).incSat HEATH_RESET_CAUSE.BLOCK_RESETS).nextEpoch

/-- What the trigger does to the units that the reset reaches, the steward's cores apart (R104). -/
def State.unitsReset (s : State) : State :=
  let s1 := (((s.bell 1).logReset.abortAllInj 7).voidAll false true).droopReset.stileReset
  let s2 := s1.dropCommands.withdrawCommit.dropCommits.dropSnapshot.streamReset
  if s2.leader then s2.fabBlockReset else s2

theorem State.blockReset_eq {s : State} (h : s.inReset = false) (byHost : Bool) :
    s.blockReset byHost = (s.resetShown byHost).unitsReset.stewardReset.noteReasons := by
  unfold State.blockReset
  rw [h]
  rfl

theorem State.blockReset_again {s : State} (h : s.inReset = true) (byHost : Bool) :
    s.blockReset byHost = { s with ps := { s.ps with resetAt := s.now } } := by
  unfold State.blockReset
  rw [if_pos h]

/-- From `s` to `t` a block reset has begun now: it is shown with its cause, and the epoch has moved on. -/
structure State.resetBegun (s : State) (byHost : Bool) (t : State) : Prop where
  inReset : t.inReset = true
  resetAt : t.ps.resetAt = s.now
  epoch : t.blockEpoch = s.epochAfter
  cause : t.flag (resetCause byHost) = true

theorem State.resetBegun.kept {s t u : State} {byHost : Bool} {m : Nat} (h : s.resetBegun byHost t) (hk : Kept m t u)
    (hat : u.ps.resetAt = t.ps.resetAt)
    (hm : ∀ off ∈ [HEATH_RESET_CTRL, HEATH_RESET_CAUSE, HEATH_EPOCH], Mask.misses m off = true) : s.resetBegun byHost u where
  inReset := (hk.flag HEATH_RESET_CTRL.BLOCK_RESET (hm _ (by decide))).trans h.inReset
  resetAt := hat.trans h.resetAt
  epoch := (hk.fld HEATH_EPOCH.BLOCK_EPOCH (hm _ (by decide))).trans h.epoch
  cause := (hk.flag (resetCause byHost) (hm _ (by cases byHost <;> decide))).trans h.cause

/-- The block reset is in progress, its cause not yet shown. -/
def State.resetFlagged (s : State) : State :=
  ({ s.holdBases with ps := { s.holdBases.ps with resetAt := s.now } } : State).setFlag HEATH_RESET_CTRL.BLOCK_RESET true

theorem State.blockEpoch_resetFlagged (s : State) : s.resetFlagged.blockEpoch = s.blockEpoch := by
  unfold State.resetFlagged State.blockEpoch
  rw [State.fld_setFlag_apart _ _ _ _ (by decide)]
  exact (State.holdBases_keeps 0x4000 s s (by decide) (Kept.refl _ s)).fld HEATH_EPOCH.BLOCK_EPOCH (by decide)

theorem State.inReset_resetFlagged (s : State) : s.resetFlagged.inReset = true := State.flag_setFlag_same _ _ _ rfl (by decide)

theorem inPlace_resetCause (byHost : Bool) : inPlace .HEATH_RESET_CAUSE (resetCause byHost).off := by cases byHost <;> rfl

/-- The cause is shown, and counted. -/
def State.resetCounted (s : State) (byHost : Bool) : State :=
  (s.resetFlagged.setFlag (resetCause byHost) true).incSat HEATH_RESET_CAUSE.BLOCK_RESETS

theorem State.resetShown_eq (s : State) (byHost : Bool) : s.resetShown byHost = (s.resetCounted byHost).nextEpoch := rfl

theorem State.resetCounted_kept (s : State) (byHost : Bool) :
    Kept (placesMask [.HEATH_RESET_CAUSE]) s.resetFlagged (s.resetCounted byHost) :=
  State.incSat_at .HEATH_RESET_CAUSE rfl (by decide)
    (State.setFlag_at .HEATH_RESET_CAUSE (inPlace_resetCause byHost) (by decide) (Kept.refl _ _))

theorem State.flag_resetCounted (s : State) (byHost : Bool) : (s.resetCounted byHost).flag (resetCause byHost) = true := by
  unfold State.resetCounted
  rw [State.flag_incSat_apart _ _ _ _ (by cases byHost <;> decide)]
  exact State.flag_setFlag_same _ _ _ (by cases byHost <;> rfl) (by cases byHost <;> decide)

theorem State.resetAt_resetFlagged (s : State) : s.resetFlagged.ps.resetAt = s.now := by
  unfold State.resetFlagged
  rw [State.setFlag_ps]

theorem State.resetShown_begun (s : State) (byHost : Bool) : s.resetBegun byHost (s.resetShown byHost) := by
  have hcount := s.resetCounted_kept byHost
  have hepoch := State.nextEpoch_keeps 0x40000000000 _ _ (by decide) (Kept.refl _ (s.resetCounted byHost))
  have hbefore : (s.resetCounted byHost).blockEpoch = s.blockEpoch :=
    (hcount.fld HEATH_EPOCH.BLOCK_EPOCH (by decide)).trans s.blockEpoch_resetFlagged
  rw [s.resetShown_eq]
  refine ⟨?_, ?_, ?_, ?_⟩
  · exact ((hepoch.flag HEATH_RESET_CTRL.BLOCK_RESET (by decide)).trans
      (hcount.flag HEATH_RESET_CTRL.BLOCK_RESET (by decide))).trans s.inReset_resetFlagged
  · exact ((hepoch.resetAt (by decide)).trans (hcount.resetAt (by decide))).trans s.resetAt_resetFlagged
  · rw [State.blockEpoch_nextEpoch]
    unfold State.epochAfter
    rw [hbefore]
  · exact (hepoch.flag (resetCause byHost) (by cases byHost <;> decide)).trans (s.flag_resetCounted byHost)

/-- The places that the trigger leaves as the Heath shows them. -/
def shownPlaces : List Place := [.ps, .HEATH_RESET_CTRL, .HEATH_RESET_CAUSE, .HEATH_EPOCH]

/-- What the trigger does to the units before the commands are dropped. -/
def State.unitsStop (s : State) : State := (((s.bell 1).logReset.abortAllInj 7).voidAll false true).droopReset.stileReset

/-- And what it does once they and the commits are. -/
def State.unitsDropped (s : State) : State :=
  if s.dropSnapshot.streamReset.leader then s.dropSnapshot.streamReset.fabBlockReset else s.dropSnapshot.streamReset

theorem State.unitsReset_eq (s : State) : s.unitsReset = s.unitsStop.dropCommands.withdrawCommit.dropCommits.unitsDropped := rfl

theorem State.unitsStop_kept (s : State) : Kept (allButThese shownPlaces) s s.unitsStop :=
  State.stileReset_keeps _ s _ (by decide) (State.droopReset_keeps _ s _ (by decide) (State.voidAll_keeps _ s _ false true (by decide)
    (State.abortAllInj_keeps _ s _ 7 (by decide) (State.logReset_keeps _ s _ (by decide)
      (State.bell_keeps _ s s 1 (by decide) (Kept.refl _ s))))))

theorem State.unitsDropped_keeps (m : Nat) (b s : State)
    (hm : placesMask [.hdg, .fab, .obs, .OBS_SNAP_STATUS, .FAB_REL_STATUS] &&& m =
      placesMask [.hdg, .fab, .obs, .OBS_SNAP_STATUS, .FAB_REL_STATUS]) (hk : Kept m b s) : Kept m b s.unitsDropped := by
  have hstream := State.streamReset_keeps m b _ (Mask.trans (by decide) hm)
    (State.dropSnapshot_keeps m b s (Mask.trans (by decide) hm) hk)
  exact Kept.ite (State.fabBlockReset_keeps m b _ (Mask.trans (by decide) hm) hstream) hstream

theorem State.unitsReset_kept (s : State) : Kept (allButThese shownPlaces) s s.unitsReset := by
  rw [s.unitsReset_eq]
  exact State.unitsDropped_keeps _ s _ (by decide) (State.dropCommits_keeps _ s _ (by decide)
    (State.withdrawCommit_keeps _ s _ (by decide) (State.dropCommands_keeps _ s _ (by decide) s.unitsStop_kept)))

/-- No command and nothing staged is left. -/
def State.bare (s : State) : Prop := s.cmds = [] ∧ s.staged = []

theorem State.bare.kept {m : Nat} {s t : State} (h : s.bare) (hk : Kept m s t) (hc : m.testBit 22 = false) (hs : m.testBit 0 = false) :
    t.bare := ⟨(hk.cmds hc).trans h.1, (hk.staged hs).trans h.2⟩

theorem State.unitsReset_bare (s : State) : s.unitsReset.bare := by
  have hcmds : s.unitsStop.dropCommands.withdrawCommit.dropCommits.cmds = [] :=
    (State.dropCommits_keeps 0x40001 s.unitsStop.dropCommands _ (by decide) (State.withdrawCommit_keeps _ _ _ (by decide)
      (Kept.refl _ _))).cmds (by decide)
  have hdropped : s.unitsStop.dropCommands.withdrawCommit.dropCommits.bare := ⟨hcmds, rfl⟩
  rw [s.unitsReset_eq]
  exact hdropped.kept (State.unitsDropped_keeps (placesMask [.hdg, .fab, .obs, .OBS_SNAP_STATUS, .FAB_REL_STATUS]) _ _ rfl
    (Kept.refl _ _)) (by decide) (by decide)

/-- A trigger outside a block reset: it begins, and the commands and staged values are gone. -/
theorem State.blockReset_begun {s : State} (h : s.inReset = false) (byHost : Bool) :
    s.resetBegun byHost (s.blockReset byHost) ∧ (s.blockReset byHost).bare := by
  have hunits := (s.resetShown_begun byHost).kept (s.resetShown byHost).unitsReset_kept
    ((s.resetShown byHost).unitsReset_kept.resetAt (by decide)) (by decide)
  have hbare := (s.resetShown byHost).unitsReset_bare
  obtain ⟨hat, hcmds⟩ := State.stewardReset_spec hbare.1
  rw [State.blockReset_eq h]
  generalize (s.resetShown byHost).unitsReset = u at hunits hbare hat hcmds
  have hsteward := State.stewardReset_keeps 0x81c0000100000404680004001000010003a0002020a7f6df4c u u (by decide) (Kept.refl _ u)
  have hreset := hunits.kept hsteward hat (by decide)
  have hleft : u.stewardReset.bare := ⟨hcmds, (hsteward.staged (by decide)).trans hbare.2⟩
  have hnote := State.noteReasons_keeps 0xc400000000000000000800000 u.stewardReset _ (by decide) (Kept.refl _ u.stewardReset)
  exact ⟨hreset.kept hnote (hnote.resetAt (by decide)) (by decide), hleft.kept hnote (by decide) (by decide)⟩

/-- From `s` to `t` a block reset was triggered: it is in progress and counts from now, and the epoch has moved on where it is a
new one (R105). -/
structure State.resetTriggered (s t : State) : Prop where
  inReset : t.inReset = true
  resetAt : t.ps.resetAt = s.now
  epoch : t.blockEpoch = if s.inReset then s.blockEpoch else s.epochAfter

theorem State.blockReset_triggered (s : State) (byHost : Bool) : s.resetTriggered (s.blockReset byHost) := by
  cases h : s.inReset with
  | true =>
    rw [State.blockReset_again h]
    exact ⟨h, rfl, by rw [h]; rfl⟩
  | false =>
    obtain ⟨hbegun, -⟩ := State.blockReset_begun h byHost
    exact ⟨hbegun.inReset, hbegun.resetAt, by rw [h]; exact hbegun.epoch⟩

/-- What R105 says of the epoch of a triggered block reset. -/
theorem State.resetTriggered.moves {s t : State} (h : s.resetTriggered t) :
    (s.inReset = false → t.blockEpoch = s.epochAfter ∧ t.blockEpoch ≠ 0) ∧ (s.inReset = true → t.blockEpoch = s.blockEpoch) := by
  have hepoch := h.epoch
  refine ⟨fun hin => ?_, fun hin => ?_⟩ <;> rw [hin] at hepoch
  · exact ⟨hepoch, hepoch ▸ s.epochAfter_ne_zero⟩
  · exact hepoch

/-! ### PORST_N deassertion -/

/-- The block out of PORST_N: the straps are taken over and start-up is in step 4. -/
def State.strapsTaken (s : State) (leaderSel : Bool) (dieId : Nat) : State :=
  let s1 : State := { s with ps := { s.ps with porst := true, booting := true, pllStarting := true, exchange := true, early := none } }
  let s2 := (s1.setFlag ID_TOPOLOGY.LEADER leaderSel).setFld ID_TOPOLOGY.DIE_ID dieId
  let s3 := (s2.setFld ID_TOPOLOGY.CLUSTERS s2.clusters.length).setFld HEATH_BOOT_STATUS.STEP 4
  s3.setFld HEATH_BOOT_STATUS.MG_BIND (if leaderSel then s3.otp.mgBind else 0)

/-- The package time starts from what was announced. -/
def State.skyMarked (s : State) : State :=
  { s with sky := { s.sky with ns := if s.sky.expected.isSome then s.sky.ns else 0, flitAt := s.now, pulseAt := s.now } }

/-- A limit line's edge seen under PORST_N is a wake cause. -/
def State.edgeNoted (s : State) : State :=
  if s.lim.edge then { s.setReg HEATH_WAKE_CAUSE (maskSet (s.reg HEATH_WAKE_CAUSE) 3) with lim := { s.lim with edge := false } } else s

/-- What the block notes once its epoch has moved on: the package time, the wake cause and the limit lines. -/
def State.porstNoted (s : State) : State :=
  let s8 := s.skyMarked.edgeNoted.noteLines
  if s8.lim.emergency then s8.gorseForce.noteReasons else s8

theorem State.porstRelease_eq (s : State) (leaderSel : Bool) (dieId : Nat) : s.porstRelease leaderSel dieId =
    (if leaderSel then (s.strapsTaken leaderSel dieId).nextEpoch.bell 1 else (s.strapsTaken leaderSel dieId).nextEpoch).porstNoted := rfl

theorem State.blockEpoch_strapsTaken (s : State) (leaderSel : Bool) (dieId : Nat) :
    (s.strapsTaken leaderSel dieId).blockEpoch = s.blockEpoch := by
  unfold State.strapsTaken
  dsimp only
  generalize hu : ({ s with ps := { s.ps with porst := true, booting := true, pllStarting := true, exchange := true, early := none } } : State) = u
  have hbefore : u.blockEpoch = s.blockEpoch := by rw [← hu]; rfl
  have hkept : ∀ n v, Kept (placesMask [.ID_TOPOLOGY, .HEATH_BOOT_STATUS]) u (((((u.setFlag ID_TOPOLOGY.LEADER leaderSel).setFld
      ID_TOPOLOGY.DIE_ID dieId).setFld ID_TOPOLOGY.CLUSTERS n).setFld HEATH_BOOT_STATUS.STEP 4).setFld HEATH_BOOT_STATUS.MG_BIND v) :=
    fun n v => State.setFld_at .HEATH_BOOT_STATUS rfl (by decide) (State.setFld_at .HEATH_BOOT_STATUS rfl (by decide)
      (State.setFld_at .ID_TOPOLOGY rfl (by decide) (State.setFld_at .ID_TOPOLOGY rfl (by decide)
        (State.setFlag_at .ID_TOPOLOGY rfl (by decide) (Kept.refl _ u)))))
  exact ((hkept _ _).fld HEATH_EPOCH.BLOCK_EPOCH (by decide)).trans hbefore

theorem State.edgeNoted_keeps (m : Nat) (b s : State) (hm : placesMask [.lim, .HEATH_WAKE_CAUSE] &&& m = placesMask [.lim, .HEATH_WAKE_CAUSE])
    (hk : Kept m b s) : Kept m b s.edgeNoted :=
  Kept.ite (Kept.set_lim (Mask.trans (by decide) hm) (State.setReg_at .HEATH_WAKE_CAUSE rfl (Mask.trans (by decide) hm) hk)) hk

theorem State.porstNoted_kept (s : State) : Kept (allButThese [.HEATH_EPOCH]) s s.porstNoted := by
  have hlines := State.noteLines_keeps (allButThese [.HEATH_EPOCH]) s _ (by decide) (State.edgeNoted_keeps _ s s.skyMarked (by decide)
    (Kept.set_sky (by decide) (Kept.refl _ s)))
  exact Kept.ite (State.noteReasons_keeps _ s _ (by decide) (State.gorseForce_keeps _ s _ (by decide) hlines)) hlines

theorem State.blockEpoch_porstRelease (s : State) (leaderSel : Bool) (dieId : Nat) :
    (s.porstRelease leaderSel dieId).blockEpoch = s.epochAfter := by
  have hnext : (s.strapsTaken leaderSel dieId).nextEpoch.blockEpoch = s.epochAfter := by
    rw [State.blockEpoch_nextEpoch]
    unfold State.epochAfter
    rw [s.blockEpoch_strapsTaken]
  rw [s.porstRelease_eq]
  generalize (s.strapsTaken leaderSel dieId).nextEpoch = u at hnext
  have hbell : Kept (allButThese [.HEATH_EPOCH]) u (if leaderSel then u.bell 1 else u) :=
    Kept.ite (State.bell_keeps _ u u 1 (by decide) (Kept.refl _ u)) (Kept.refl _ u)
  exact ((hbell.trans (State.porstNoted_kept _)).fld HEATH_EPOCH.BLOCK_EPOCH (by decide)).trans hnext

theorem State.exec_porstNDeassert {s : State} (hvaon : s.ps.vaon = true) (hporst : s.ps.porst = false) (l : Bool) {d : Nat} (hd : d < 8) :
    exec (.porstNDeassert l d) s = .next (s.porstRelease l d) := by
  refine (ofUnit_of (decide_eq_true hd) _).trans (congrArg Host.Outcome.next ?_)
  unfold State.porstDeassert
  rw [hvaon, hporst, Nat.mod_eq_of_lt hd]
  rfl

/-! ### The host's write of BLOCK_RESET -/

/-- HEATH_RESET_CTRL as the map describes it. -/
def resetCtrlDesc : RegDesc := ⟨0x1010, 4, 1, 0, .system, .system, 0, false, 0, [⟨0, 0, .w1s, 0, 1⟩]⟩

theorem findReg_resetCtrl : findReg HEATH_RESET_CTRL = some resetCtrlDesc := by decide +kernel

/-- The state in which the trigger acts: the written word leaves HEATH_RESET_CTRL as it is. -/
def State.ctrlRewritten (s : State) : State := s.setReg HEATH_RESET_CTRL (s.reg HEATH_RESET_CTRL)

theorem State.ctrlRewritten_kept (s : State) : Kept (placesMask [.HEATH_RESET_CTRL]) s s.ctrlRewritten :=
  State.setReg_at .HEATH_RESET_CTRL rfl (by decide) (Kept.refl _ s)

theorem State.inReset_ctrlRewritten (s : State) : s.ctrlRewritten.inReset = s.inReset := by
  have hreg : s.ctrlRewritten.reg HEATH_RESET_CTRL = s.reg HEATH_RESET_CTRL := by
    unfold State.ctrlRewritten
    rw [State.reg_setReg_same, Nat.mod_eq_of_lt (s.reg_lt _)]
  unfold State.inReset State.flag State.fld
  rw [hreg]

theorem State.blockEpoch_ctrlRewritten (s : State) : s.ctrlRewritten.blockEpoch = s.blockEpoch :=
  s.ctrlRewritten_kept.fld HEATH_EPOCH.BLOCK_EPOCH (by decide)

theorem bitAt_or_one (n : Nat) : bitAt ((n ||| 1) % 2 ^ 32) 0 = true := by
  have hodd : (n ||| 1) % 2 = 1 := Nat.mod_two_eq_one_iff_testBit_zero.mpr (by rw [Nat.testBit_or]; simp)
  unfold bitAt
  simp only [pow_zero, Nat.div_one, decide_eq_true_eq]
  omega

/-- The write's own effect is a trigger, answered OK. -/
theorem State.writeWord_resetCtrl {s : State} (h : s.ready = true) {data : Nat} (hbit : bitAt data 0 = true) :
    s.writeWord resetCtrlDesc HEATH_RESET_CTRL data .host = (s.ctrlRewritten.blockReset true).okay 0 := by
  have hready : s.ctrlRewritten.ready = true := (s.ctrlRewritten_kept.flag HEATH_BOOT_STATUS.READY (by decide)).trans h
  have hact : s.ctrlRewritten.actHeath s HEATH_RESET_CTRL data = s.ctrlRewritten.blockReset true := by
    unfold State.actHeath
    rw [if_neg (by decide), if_pos ⟨rfl, hbit, hready⟩]
  have hwritten : s.written resetCtrlDesc HEATH_RESET_CTRL data .host = (s.ctrlRewritten.actHeath s HEATH_RESET_CTRL data).okay 0 := rfl
  have hignores : s.ignores HEATH_RESET_CTRL = false := rfl
  have hown : s.writeOwn HEATH_RESET_CTRL data .host = none := by
    unfold State.writeOwn
    rw [if_neg (by decide), if_neg (by decide), if_neg (by decide), if_neg (by decide), if_neg (by decide), if_neg (by decide)]
  unfold State.writeWord
  rw [if_neg (fun hslot => absurd hslot.1 (by decide)), hignores, if_neg Bool.false_ne_true, hown, ← hact]
  exact hwritten

theorem State.exec_blockResetWrite {s : State} (hvaon : s.ps.vaon = true) (hopen : s.portClosed = false) (hl : s.leader = true)
    (hready : s.ready = true) (hheld : s.inReset = true → s.held = []) (data : Nat) :
    exec (.blockResetWrite data .host) s = .next ((s.ctrlRewritten.blockReset true).okay 0) := by
  have hwaits : (s.inReset && (decide (0x3000 ≤ HEATH_RESET_CTRL) || !s.held.isEmpty)) = false := by
    cases hin : s.inReset with
    | false => rfl
    | true => rw [hheld hin]; rfl
  refine congrArg Host.Outcome.next ?_
  unfold State.portWrite State.access
  rw [hvaon, hopen]
  dsimp only
  rw [hwaits, State.perform_eq]
  refine (State.judgeAccess_write _ _ .host findReg_resetCtrl rfl (by decide) hl).trans ?_
  exact State.writeWord_resetCtrl hready (bitAt_or_one data)

/-- A trigger from a state that differs in the word of HEATH_RESET_CTRL alone. -/
theorem State.blockReset_ctrlRewritten_triggered (s : State) : s.resetTriggered (s.ctrlRewritten.blockReset true) := by
  have h := s.ctrlRewritten.blockReset_triggered true
  refine ⟨h.inReset, h.resetAt.trans (s.ctrlRewritten_kept.now (by decide)), ?_⟩
  have hepoch := h.epoch
  unfold State.epochAfter at hepoch ⊢
  rwa [s.inReset_ctrlRewritten, s.blockEpoch_ctrlRewritten] at hepoch

/-! ### The fault hub's trigger -/

theorem State.resetTriggered.kept {s t u : State} {m : Nat} (h : s.resetTriggered t) (hk : Kept m t u)
    (hat : u.ps.resetAt = t.ps.resetAt) (hm : ∀ off ∈ [HEATH_RESET_CTRL, HEATH_EPOCH], Mask.misses m off = true) :
    s.resetTriggered u where
  inReset := (hk.flag HEATH_RESET_CTRL.BLOCK_RESET (hm _ (by decide))).trans h.inReset
  resetAt := hat.trans h.resetAt
  epoch := (hk.fld HEATH_EPOCH.BLOCK_EPOCH (hm _ (by decide))).trans h.epoch

theorem State.putSrc_hub (s : State) (row : Nat → Nat) (i : Nat) (b : Bool) : (s.putSrc row i b).hub = s.hub := rfl

/-- FH_FIRST counts a raise. -/
def State.firstCounted (s : State) : State :=
  if s.flag FH_FIRST.VALID then (s.incSat FH_FIRST.COUNT).setFlag FH_FIRST.OVERFLOW true
  else ((s.setFlag FH_FIRST.VALID true).setFlag FH_FIRST.OVERFLOW false).setFld FH_FIRST.COUNT 1

/-- FH_FIRST is of this instant. -/
def State.firstStamped (s : State) : State := { s with hub := { s.hub with firstAt := s.now / 40 } }

theorem State.recordFirst_eq (s : State) (i syn : Nat) (forced : Bool) : s.recordFirst i syn forced =
    if s.fillsFirst i then (((((s.firstCounted.setFlag FH_FIRST.FORCED forced).setFld FH_FIRST.DIE s.dieId).setFld FH_FIRST.SOURCE
      i).setReg64 (FH_FIRST_T 0) s.skyNs).setReg64 (FH_FIRST_SYN 0) syn).firstStamped else s.firstCounted := rfl

/-- What FH_FIRST holds of a raise is written to its own registers. -/
theorem State.firstCounted_kept (s : State) : Kept (placesMask [.FH_FIRST, .FH_FIRST_T, .FH_FIRST_SYN]) s s.firstCounted :=
  Kept.ite (State.setFlag_at .FH_FIRST rfl (by decide) (State.incSat_at .FH_FIRST rfl (by decide) (Kept.refl _ s)))
    (State.setFld_at .FH_FIRST rfl (by decide) (State.setFlag_at .FH_FIRST rfl (by decide)
      (State.setFlag_at .FH_FIRST rfl (by decide) (Kept.refl _ s))))

theorem State.resets_firstStamped (s : State) : s.firstStamped.hub.resets = s.hub.resets := rfl

theorem State.resets_recordFirst (s : State) (i syn : Nat) (forced : Bool) : (s.recordFirst i syn forced).hub.resets = s.hub.resets := by
  rw [s.recordFirst_eq]
  split
  · have hfilled := State.setReg64_at (off := FH_FIRST_SYN 0) (v := syn) .FH_FIRST_SYN ⟨0, rfl⟩ ⟨1, rfl⟩ (by decide)
      (State.setReg64_at (off := FH_FIRST_T 0) (v := s.skyNs) .FH_FIRST_T ⟨0, rfl⟩ ⟨1, rfl⟩ (by decide)
        (State.setFld_at (f := FH_FIRST.SOURCE) (v := i) .FH_FIRST rfl (by decide)
          (State.setFld_at (f := FH_FIRST.DIE) (v := s.dieId) .FH_FIRST rfl (by decide)
            (State.setFlag_at (f := FH_FIRST.FORCED) (v := forced) .FH_FIRST rfl (by decide) s.firstCounted_kept))))
    rw [State.resets_firstStamped, hfilled.hub (by decide)]
  · rw [s.firstCounted_kept.hub (by decide)]

theorem State.hub_report (s : State) (e : DieEvent) : (s.report e).hub = s.hub :=
  (State.report_keeps 0x40040 s s e (by decide) (Kept.refl _ s)).hub (by decide)

theorem State.hub_faultEvent (s : State) (die i syn flags react time : Nat) : (s.faultEvent die i syn flags react time).hub = s.hub :=
  (State.faultEvent_keeps 0x22000000000300040 s s die i syn flags react time (by decide) (Kept.refl _ s)).hub (by decide)

theorem State.resets_noteLines (s : State) : s.noteLines.hub.resets = s.hub.resets := by
  unfold State.noteLines
  dsimp only
  split
  · rfl
  · rw [State.hub_report]
    rfl

/-- A raise that the hub latches: its reactions, and the block resets so far. -/
theorem State.hubLatch_spec {s : State} {i : Nat} (himpl : s.flag (FH_SRC.IMPL i) = true) (hen : s.flag (FH_SRC.EN i) = true)
    (syn : Nat) (forced : Bool) :
    (s.hubLatch i syn forced).1.hub.resets = s.hub.resets ∧ (s.hubLatch i syn forced).2 = s.fld (FH_SRC.REACT i) := by
  have hseen : ∀ f : Fld, f.off = FH_SRC i → (s.putSrc FH_SEEN i true).fld f = s.fld f := fun f hf => by
    have hne : FH_SEEN (i / 32) ≠ f.off := by
      rw [hf]
      show 0x4060 + 0x4 * (i / 32 % 8) ≠ 0x4400 + 0x4 * (i % 256)
      omega
    unfold State.putSrc State.fld
    rw [State.reg_setReg_other _ _ _ _ hne]
  have hen' : (s.putSrc FH_SEEN i true).flag (FH_SRC.EN i) = true := by
    unfold State.flag at hen ⊢
    rwa [hseen _ rfl]
  unfold State.hubLatch
  rw [himpl]
  dsimp only
  rw [hen', hseen _ rfl]
  refine ⟨?_, rfl⟩
  simp only [Bool.not_true, Bool.false_eq_true, if_false]
  rw [State.resets_noteLines]
  split_ifs <;> simp only [State.hub_faultEvent, State.hub_report, State.resets_recordFirst, State.putSrc_hub]

/-- From `s` to `u` nothing has changed that a trigger of the hub looks at. -/
structure State.sameTrigger (s u : State) : Prop where
  now : u.now = s.now
  inReset : u.inReset = s.inReset
  epoch : u.blockEpoch = s.blockEpoch
  ready : u.ready = s.ready
  limit : u.fld FH_CTRL.RST_LIMIT = s.fld FH_CTRL.RST_LIMIT
  recent : u.recentResets = s.recentResets

theorem State.sameTrigger.of_kept {s u : State} {m : Nat} (hk : Kept m s u) (hnow : m.testBit 1 = false)
    (hm : ∀ off ∈ [HEATH_RESET_CTRL, HEATH_EPOCH, HEATH_BOOT_STATUS, FH_CTRL], Mask.misses m off = true)
    (hresets : u.hub.resets = s.hub.resets) : s.sameTrigger u where
  now := hk.now hnow
  inReset := hk.flag HEATH_RESET_CTRL.BLOCK_RESET (hm _ (by decide))
  epoch := hk.fld HEATH_EPOCH.BLOCK_EPOCH (hm _ (by decide))
  ready := hk.flag HEATH_BOOT_STATUS.READY (hm _ (by decide))
  limit := hk.fld FH_CTRL.RST_LIMIT (hm _ (by decide))
  recent := by unfold State.recentResets; rw [hresets, hk.now hnow]

theorem State.resetTriggered.of_same {s u t : State} (hsame : s.sameTrigger u) (h : u.resetTriggered t) : s.resetTriggered t := by
  refine ⟨h.inReset, h.resetAt.trans hsame.now, ?_⟩
  have hepoch := h.epoch
  unfold State.epochAfter at hepoch ⊢
  rwa [hsame.inReset, hsame.epoch] at hepoch

/-- The hub's reset reaction below the limit of the window (R466). -/
theorem State.hubReset_triggered {s : State} (hready : s.ready = true) (hlimit : s.recentResets.length < s.fld FH_CTRL.RST_LIMIT) :
    s.resetTriggered s.hubReset := by
  have hreset : s.hubReset = ({ s with hub := { s.hub with resets := s.recentResets ++ [s.now] } } : State).blockReset false := by
    unfold State.hubReset
    rw [hready]
    exact if_neg (Nat.not_le.mpr hlimit)
  rw [hreset]
  have h := ({ s with hub := { s.hub with resets := s.recentResets ++ [s.now] } } : State).blockReset_triggered false
  exact ⟨h.inReset, h.resetAt, h.epoch⟩

/-- What a raise does before the reset reaction. -/
def State.hubActed (s : State) (i syn : Nat) (forced : Bool) : State :=
  let r := s.hubLatch i syn forced
  let s1 := if bitAt r.2 1 then r.1.trapCores i else r.1
  if bitAt r.2 3 then s1.chipReset else s1

theorem State.hubRaise_eq (s : State) (i syn : Nat) (forced : Bool) : s.hubRaise i syn forced =
    if bitAt (s.hubLatch i syn forced).2 2 then (s.hubActed i syn forced).hubReset else s.hubActed i syn forced := rfl

/-- A raise leaves what the reset reaction looks at. -/
theorem State.hubActed_sameTrigger {s : State} {i : Nat} (himpl : s.flag (FH_SRC.IMPL i) = true)
    (hen : s.flag (FH_SRC.EN i) = true) (syn : Nat) (forced : Bool) : s.sameTrigger (s.hubActed i syn forced) := by
  have hlatch := State.hubLatch_keeps 0x7f22000000080340040 s s i syn forced (by decide) (Kept.refl _ s)
  obtain ⟨hresets, -⟩ := State.hubLatch_spec himpl hen syn forced
  have hlatched := State.sameTrigger.of_kept hlatch (by decide) (by decide) hresets
  have hacts := Kept.refl (placesMask [.sky, .out, .agents, .rings, .rails, .ps, .hdg, .mem, .win, .est, .thm, .HEATH_DOMAIN_STATUS,
    .EST_STATUS, .EST_DIE_E, .EST_UNATTR_E, .EST_PKG_E, .EST_CTX_E, .HEATH_RESET_CAUSE]) (s.hubLatch i syn forced).1
  unfold State.hubActed
  dsimp only
  generalize (s.hubLatch i syn forced).1 = u at hlatched hacts
  have htrap := Kept.ite (c := bitAt (s.hubLatch i syn forced).2 1 = true) (State.trapCores_keeps _ u u i (by decide) hacts) hacts
  have hchip := Kept.ite (c := bitAt (s.hubLatch i syn forced).2 3 = true) (State.chipReset_keeps _ u _ (by decide) htrap) htrap
  have hsame := State.sameTrigger.of_kept hchip (by decide) (by decide) (congrArg FaultHub.resets (hchip.hub (by decide)))
  exact ⟨hsame.now.trans hlatched.now, hsame.inReset.trans hlatched.inReset, hsame.epoch.trans hlatched.epoch,
    hsame.ready.trans hlatched.ready, hsame.limit.trans hlatched.limit, hsame.recent.trans hlatched.recent⟩

/-- A raise with the reset reaction triggers a block reset. -/
theorem State.hubRaise_triggered {s : State} {i : Nat} (hready : s.ready = true) (himpl : s.flag (FH_SRC.IMPL i) = true)
    (hen : s.flag (FH_SRC.EN i) = true) (hreact : bitAt (s.fld (FH_SRC.REACT i)) 2 = true)
    (hlimit : s.recentResets.length < s.fld FH_CTRL.RST_LIMIT) (syn : Nat) (forced : Bool) :
    s.resetTriggered (s.hubRaise i syn forced) := by
  have hsame := State.hubActed_sameTrigger himpl hen syn forced
  obtain ⟨-, hreactions⟩ := State.hubLatch_spec himpl hen syn forced
  rw [s.hubRaise_eq, hreactions, if_pos hreact]
  exact State.resetTriggered.of_same hsame (State.hubReset_triggered (hsame.ready.trans hready)
    (by rw [hsame.recent, hsame.limit]; exact hlimit))

theorem State.resetTriggered.wakeLinks {s t : State} (h : s.resetTriggered t) : s.resetTriggered t.wakeLinks := by
  have hwake := State.wakeLinks_keeps 0x4046800000000000000000000002007145244 t t (by decide) (Kept.refl _ t)
  exact h.kept hwake (hwake.resetAt (by decide)) (by decide)

/-- Whether the raise was on its way or comes now: with the reset reaction it triggers a block reset. -/
theorem State.faultRaise_triggered {s : State} {i : Nat} (hporst : s.ps.porst = true) (hready : s.ready = true)
    (himpl : s.flag (FH_SRC.IMPL i) = true) (hen : s.flag (FH_SRC.EN i) = true) (hreact : bitAt (s.fld (FH_SRC.REACT i)) 2 = true)
    (hlimit : s.recentResets.length < s.fld FH_CTRL.RST_LIMIT) (syn : Nat) : s.resetTriggered (s.faultRaise i syn) := by
  unfold State.faultRaise
  rw [hporst, if_neg (by decide)]
  split
  · next r _ =>
    have hraise := State.hubRaise_triggered (s := { s with raises := dropRaise i s.raises }) hready himpl hen hreact hlimit r.syn r.forced
    exact State.resetTriggered.wakeLinks ⟨hraise.inReset, hraise.resetAt, hraise.epoch⟩
  · have hraise := State.hubRaise_triggered hready himpl hen hreact hlimit (syn % 2 ^ 64) false
    rw [if_pos hen]
    exact hraise.wakeLinks

/-- Settles O12: PORST_N's deassertion, the host's write and the fault hub's reaction, each by what it does to HEATH_EPOCH. -/
theorem everyResetMovesTheBlockEpochOn : Obligations.EveryResetMovesTheBlockEpochOn := by
  unfold Obligations.EveryResetMovesTheBlockEpochOn
  intro s hvaon
  refine ⟨fun l d hd hporst => ?_, fun data hopen hl hready hheld => ?_, fun i syn hi hporst hready himpl hen hreact hlimit => ?_⟩
  · have hepoch := s.blockEpoch_porstRelease l d
    exact ⟨_, State.exec_porstNDeassert hvaon hporst l hd, hepoch, hepoch ▸ s.epochAfter_ne_zero⟩
  · have h := s.blockReset_ctrlRewritten_triggered
    have hokay := State.okay_keeps 0x40 (s.ctrlRewritten.blockReset true) _ 0 (by decide) (Kept.refl _ _)
    have h' := h.kept hokay (hokay.resetAt (by decide)) (by decide)
    exact ⟨_, State.exec_blockResetWrite hvaon hopen hl hready hheld data, h'.inReset, h'.resetAt, h'.moves⟩
  · have h := State.faultRaise_triggered hporst hready himpl hen hreact hlimit syn
    exact ⟨_, ofUnit_of (decide_eq_true hi) _, h.inReset, h.resetAt, h.moves⟩

end Sys2Proof.Machine
end

section
/-! PROOF of O19 (R104, R106, R107): a block reset as it begins and ends, and the digest check that follows it. -/

namespace Sys2Proof.Machine

/-! ### The end of a block reset -/

/-- The mask of every place but HEATH_RESET_CTRL and the accesses that wait. -/
abbrev heldMask : Nat := allButThese [.HEATH_RESET_CTRL, .held]

/-- The block out of reset: the gap in its books is told. -/
def State.resetCleared (s : State) : State :=
  ((s.clocksForReset.setFlag HEATH_RESET_CTRL.BLOCK_RESET false).gapBooking).tellGap s.clocksForReset.gapSpan

/-- What the units take up again. -/
def State.unitsReplayed (s : State) : State :=
  let s2 : State := { s with thm := { s.thm with fresh := true } }
  let s3 := s2.replaySevere
  let s4 : State := { s3 with drp := { s3.drp with debug := s3.fld DRP_FORCE.LEVEL != 0 && s3.hasScope 0 } }
  s4.replayRequests

/-- A commit that the reset met before its point of no return is aborted. -/
def State.commitSettled (s : State) : State :=
  match s.hdg.running with
  | some c =>
    if s.leader = true ∧ c.phase = 1 then
      (match c.act with
       | .catchUp d => (s.abortCommit stConflict).markLost d
       | _ => s.abortCommit stConflict)
    else s
  | none => s

/-- What the die has to send goes out. -/
def State.resetTold (s : State) : State := (if s.leader then s.fabResend else s.report .resetDone).rewatch.noteReasons.memPump.queueOwed

theorem State.resetComplete_eq {s : State} (h : s.inReset = true) :
    s.resetComplete = s.resetCleared.unitsReplayed.commitSettled.resetTold := by
  unfold State.resetComplete
  rw [h]
  rfl

theorem State.resetCleared_kept (s : State) : Kept heldMask (s.clocksForReset.setFlag HEATH_RESET_CTRL.BLOCK_RESET false) s.resetCleared :=
  State.tellGap_keeps _ _ _ _ (by decide) (State.gapBooking_keeps _ _ _ (by decide) (Kept.refl _ _))

theorem State.unitsReplayed_kept (s : State) : Kept heldMask s s.unitsReplayed :=
  State.replayRequests_keeps _ s _ (by decide) (Kept.set_drp (by decide)
    (State.replaySevere_keeps _ s _ (by decide) (Kept.set_thm (by decide) (Kept.refl _ s))))

theorem State.commitSettled_kept (s : State) : Kept heldMask s s.commitSettled := by
  have habort := State.abortCommit_keeps heldMask s s stConflict (by decide) (Kept.refl _ s)
  unfold State.commitSettled
  split
  · refine Kept.ite ?_ (Kept.refl _ s)
    split
    · exact State.markLost_keeps _ s _ _ (by decide) habort
    · exact habort
  · exact Kept.refl _ s

theorem State.resetTold_kept (s : State) : Kept heldMask s s.resetTold :=
  State.queueOwed_keeps _ s _ (by decide) (State.memPump_keeps _ s _ (by decide) (State.noteReasons_keeps _ s _ (by decide)
    (State.rewatch_keeps _ s _ (by decide) (Kept.ite (State.fabResend_keeps _ s s (by decide) (Kept.refl _ s))
      (State.report_keeps _ s s .resetDone (by decide) (Kept.refl _ s))))))

/-- A block reset that completes is in progress no longer; the accesses that waited still do. -/
theorem State.resetComplete_spec {s : State} (h : s.inReset = true) :
    s.resetComplete.inReset = false ∧ s.resetComplete.held = s.held := by
  have hclocks := State.clocksForReset_keeps heldMask s s (by decide) (Kept.refl _ s)
  have htail := ((s.resetCleared_kept.trans s.resetCleared.unitsReplayed_kept).trans (State.commitSettled_kept _)).trans
    (State.resetTold_kept _)
  have hflag : (s.clocksForReset.setFlag HEATH_RESET_CTRL.BLOCK_RESET false).inReset = false :=
    State.flag_setFlag_same _ _ _ rfl (by decide)
  rw [State.resetComplete_eq h]
  refine ⟨(htail.flag HEATH_RESET_CTRL.BLOCK_RESET (by decide)).trans hflag, (htail.held (by decide)).trans ?_⟩
  rw [State.setFlag_held, hclocks.held (by decide)]

theorem State.releaseHeld_of_nil {s : State} (h : s.held = []) : s.releaseHeld = { s with held := [] } := by
  unfold State.releaseHeld
  rw [h]
  rfl

/-- With nothing waiting at the port the completion leaves no block reset in progress. -/
theorem State.resetEnds_spec {s : State} (h : s.inReset = true) (hheld : s.held = []) :
    s.resetEnds.inReset = false ∧ s.resetEnds.held = [] := by
  obtain ⟨hout, hwaits⟩ := State.resetComplete_spec h
  have hrate := State.noteRate_keeps heldMask s.resetComplete _ (by decide) (State.operandChange_keeps _ _ _ (by decide)
    (Kept.refl _ s.resetComplete))
  unfold State.resetEnds
  rw [if_pos h]
  have hnone : s.resetComplete.operandChange.noteRate.held = [] := (hrate.held (by decide)).trans (hwaits.trans hheld)
  have hbefore : s.resetComplete.operandChange.noteRate.inReset = false :=
    (hrate.flag HEATH_RESET_CTRL.BLOCK_RESET (by decide)).trans hout
  rw [State.releaseHeld_of_nil hnone]
  have hsettle := State.settleSteward_keeps heldMask _ _ (by decide)
    (Kept.refl _ ({ s.resetComplete.operandChange.noteRate with held := [] } : State))
  exact ⟨(hsettle.flag HEATH_RESET_CTRL.BLOCK_RESET (by decide)).trans hbefore, hsettle.held (by decide)⟩

/-! ### The digest check -/

/-- The steward's turn at the ports leaves the firmware and the power state alone. -/
theorem State.settleSteward_fw_ps (s : State) : s.settleSteward.fw = s.fw ∧ s.settleSteward.ps = s.ps := by
  have h := State.settleSteward_keeps 0x5a400000000700040 s s (by decide) (Kept.refl _ s)
  exact ⟨h.fw (by decide), h.ps (by decide)⟩

theorem State.exec_stewardDigestCheck {s : State} (h : s.ps.porst = true) (digest : Nat) :
    exec (.stewardDigestCheck digest) s = .next (s.digestCheck digest).settleSteward := congrArg Host.Outcome.next (if_pos h)

/-- The ROM is to compare the digest of the retained SRAM. -/
structure State.digestWaits (s : State) : Prop where
  due : s.ps.digestDue = true
  inReset : s.inReset = false
  reboot : s.fw.reboot = false
  halted : s.flag HEATH_FW_STATUS.HALTED = false
  stewardOn : s.flag HEATH_DOMAIN_STATUS.STEWARD_ON = true

theorem State.digestCheck_same {s : State} (h : s.digestWaits) (hruns : s.fw.running = true) :
    s.digestCheck s.fw.digest = ({ s with ps := { s.ps with digestDue := false } } : State).bell 0 := by
  unfold State.digestCheck
  rw [if_neg (by simp [h.due, h.inReset, h.reboot, h.halted, h.stewardOn]), if_pos ⟨rfl, hruns⟩]

/-- With the digest unchanged the firmware goes on, and no check is due any longer. -/
theorem State.digestCheck_same_spec {s : State} (h : s.digestWaits) (hruns : s.fw.running = true) :
    (s.digestCheck s.fw.digest).ps.digestDue = false ∧ (s.digestCheck s.fw.digest).fw = s.fw := by
  rw [State.digestCheck_same h hruns]
  have hbell := State.bell_keeps 0x800000000040040 ({ s with ps := { s.ps with digestDue := false } } : State) _ 0 (by decide)
    (Kept.refl _ _)
  exact ⟨congrArg Power.digestDue (hbell.ps (by decide)), hbell.fw (by decide)⟩

theorem State.digestCheck_other {s : State} (h : s.digestWaits) {digest : Nat} (hother : digest ≠ s.fw.digest)
    (hload : s.fw.hostLoaded = false) (hl : s.leader = true) :
    s.digestCheck digest = { s with fw := { s.fw with reboot := true, trying := 1 } } := by
  unfold State.digestCheck
  rw [if_neg (by simp [h.due, h.inReset, h.reboot, h.halted, h.stewardOn]), if_neg (fun hsame => hother hsame.1)]
  exact (if_neg (show ¬ s.fw.hostLoaded = true by rw [hload]; decide)).trans (if_pos hl)

/-- Settles O19: the write is the trigger, the completion clears BLOCK_RESET, and the digest decides what the ROM does. -/
theorem blockResetRunsAndEnds : Obligations.BlockResetRunsAndEnds := by
  unfold Obligations.BlockResetRunsAndEnds
  refine ⟨fun s data hvaon hopen hl hready hin => ?_, fun s hin hheld => ?_, fun s digest hporst hdue hin hreboot hhalted hon => ?_⟩
  · obtain ⟨hbegun, hbare⟩ := State.blockReset_begun (s.inReset_ctrlRewritten.trans hin) true
    have hokay := State.okay_keeps 0x40 (s.ctrlRewritten.blockReset true) _ 0 (by decide) (Kept.refl _ _)
    have hbegun' := hbegun.kept hokay (hokay.resetAt (by decide)) (by decide)
    obtain ⟨hcmds, hstaged⟩ := hbare.kept hokay (by decide) (by decide)
    exact ⟨_, State.exec_blockResetWrite hvaon hopen hl hready (fun h => absurd (hin.symm.trans h) (by decide)) data, hbegun'.inReset,
      hbegun'.cause, hcmds, hstaged, hbegun'.resetAt.trans (s.ctrlRewritten_kept.now (by decide))⟩
  · obtain ⟨hout, hnone⟩ := State.resetEnds_spec hin hheld
    exact ⟨_, rfl, hout, hnone⟩
  · have hwaits : s.digestWaits := ⟨hdue, hin, hreboot, hhalted, hon⟩
    refine ⟨fun hsame hruns => ?_, fun hother hload hl => ?_⟩
    · subst hsame
      obtain ⟨hfw, hps⟩ := (s.digestCheck s.fw.digest).settleSteward_fw_ps
      obtain ⟨hdone, hkept⟩ := State.digestCheck_same_spec hwaits hruns
      exact ⟨_, State.exec_stewardDigestCheck hporst _, by rw [hps, hdone], by rw [hfw, hkept]⟩
    · obtain ⟨hfw, hps⟩ := (s.digestCheck digest).settleSteward_fw_ps
      rw [State.digestCheck_other hwaits hother hload hl] at hfw hps
      exact ⟨_, (State.exec_stewardDigestCheck hporst digest).trans
        (congrArg (fun t => Host.Outcome.next t.settleSteward) (State.digestCheck_other hwaits hother hload hl)), hfw, hps⟩

end Sys2Proof.Machine
end

section
/-! PROOF of O16 (R98, R112–R114, R414, R415, R417): what the ROM does with the outcome of flash discovery and of an image's
verification. -/

namespace Sys2Proof.Machine

/-! ### Start-up stops -/

/-- HEATH_BOOT_STATUS as start-up stops. -/
def State.failShown (s : State) (code : Nat) : State :=
  (s.setFlag HEATH_BOOT_STATUS.STOPPED true).setFld HEATH_BOOT_STATUS.FAIL code

/-- The source of the failure raises. -/
def State.failRaised (s : State) (code step : Nat) : State :=
  match failSource code with
  | some k => s.levelOn k (syndrome 0 code step)
  | none => s

theorem State.stopWith_eq (s : State) (code : Nat) : s.stopWith code =
    (((((s.failShown code).failRaised code s.bootStep).bootEnds).beginShut 2 false).report (.stopped code)).answerStopped := rfl

/-- The mask of every place but HEATH_BOOT_STATUS. -/
abbrev bootMask : Nat := allButThese [.HEATH_BOOT_STATUS]

theorem State.failRaised_kept (s : State) (code step : Nat) : Kept bootMask s (s.failRaised code step) := by
  unfold State.failRaised
  split
  · exact State.levelOn_keeps _ s s _ _ (by decide) (Kept.refl _ s)
  · exact Kept.refl _ s

theorem State.failShown_spec (s : State) {code : Nat} (h : code < 256) :
    (s.failShown code).stopped = true ∧ (s.failShown code).fld HEATH_BOOT_STATUS.FAIL = code := by
  unfold State.failShown
  refine ⟨?_, ?_⟩
  · unfold State.stopped
    rw [State.flag_setFld_apart _ _ _ _ (by decide)]
    exact State.flag_setFlag_same _ _ _ rfl (by decide)
  · rw [State.fld_setFld_same _ _ _ (by decide) (by decide)]
    exact Nat.mod_eq_of_lt h

/-- A stop is shown with its code (R113). -/
theorem State.stopWith_spec (s : State) {code : Nat} (h : code < 256) :
    (s.stopWith code).stopped = true ∧ (s.stopWith code).fld HEATH_BOOT_STATUS.FAIL = code := by
  have hkept := State.answerStopped_keeps bootMask _ _ (by decide) (State.report_keeps _ _ _ (.stopped code) (by decide)
    (State.beginShut_keeps _ _ _ 2 false (by decide) (State.bootEnds_keeps _ _ _ (by decide)
      ((s.failShown code).failRaised_kept code s.bootStep))))
  obtain ⟨hstopped, hcode⟩ := s.failShown_spec h
  rw [s.stopWith_eq]
  exact ⟨(hkept.flag HEATH_BOOT_STATUS.STOPPED (by decide)).trans hstopped,
    (hkept.fld HEATH_BOOT_STATUS.FAIL (by decide)).trans hcode⟩

/-! ### What the ROM notes and sends -/

/-- A record enters the log. -/
def State.logEntered (s : State) (n w : Nat) : State :=
  { s with fw := { s.fw with log := SMap.enter s.fw.log n w }, sky := { s.sky with logGap := false }, ps := { s.ps with logGap := false } }

/-- The log's head moves on. -/
def State.logMoved (s : State) (n : Nat) : State :=
  let s2 := s.setFld HEATH_LOG_HEAD.NEXT ((n + 1) % 4096)
  if n = 4095 then s2.incSat HEATH_LOG_HEAD.WRAPS else s2

/-- The words of a log record. -/
def State.logWord (s : State) (src flags code arg : Nat) : Nat :=
  s.stampAt stewardPs s.skyNs % 2 ^ 48 + 2 ^ 48 * (src + bnat (s.interpAt stewardPs s.skyNs) + 2 * bnat (s.sky.logGap || s.ps.logGap)) +
    2 ^ 56 * flags + 2 ^ 64 * (code % 65536) + 2 ^ 80 * (arg % 2 ^ 48)

theorem State.logRecord_eq (s : State) (src flags code arg : Nat) : s.logRecord src flags code arg =
    (s.logEntered (s.fld HEATH_LOG_HEAD.NEXT) (s.logWord src flags code arg)).logMoved (s.fld HEATH_LOG_HEAD.NEXT) := rfl

theorem State.logMoved_kept (s : State) (n : Nat) : Kept (placesMask [.HEATH_LOG_HEAD]) s (s.logMoved n) := by
  have hnext := State.setFld_at (f := HEATH_LOG_HEAD.NEXT) (v := (n + 1) % 4096) .HEATH_LOG_HEAD rfl (by decide)
    (Kept.refl (placesMask [.HEATH_LOG_HEAD]) s)
  exact Kept.ite (State.incSat_at .HEATH_LOG_HEAD rfl (by decide) hnext) hnext

/-- From `s` to `t` the firmware's state is the same but for its log, and start-up goes on as it did. -/
structure State.sameRom (s t : State) : Prop where
  fw : ∃ log, t.fw = { s.fw with log := log }
  booting : t.ps.booting = s.ps.booting
  raises : t.raises = s.raises

theorem State.sameRom.of_kept {m : Nat} {s t : State} (h : Kept m s t) (hfw : m.testBit 29 = false) (hps : m.testBit 17 = false)
    (hr : m.testBit 7 = false) : s.sameRom t :=
  ⟨⟨s.fw.log, h.fw hfw⟩, congrArg Power.booting (h.ps hps), h.raises hr⟩

theorem State.sameRom.trans {s t u : State} (h : s.sameRom t) (k : t.sameRom u) : s.sameRom u := by
  obtain ⟨log, hlog⟩ := k.fw
  obtain ⟨log', hlog'⟩ := h.fw
  exact ⟨⟨log, by rw [hlog, hlog']⟩, k.booting.trans h.booting, k.raises.trans h.raises⟩

/-- What the ROM logs of a verification says nothing else. -/
theorem State.sameRom_romLog (s : State) (ok : Bool) : s.sameRom (s.romLog ok) := by
  have hentered : ∀ (u : State) n w, u.sameRom (u.logEntered n w) := fun u n w => ⟨⟨_, rfl⟩, rfl, rfl⟩
  unfold State.romLog
  rw [State.logRecord_eq]
  exact (State.sameRom.of_kept (State.spendN_keeps 8 s s 2 (by decide) (Kept.refl _ s)) (by decide) (by decide) (by decide)).trans
    ((hentered _ _ _).trans (State.sameRom.of_kept (State.logMoved_kept _ _) (by decide) (by decide) (by decide)))

theorem State.sameRom_toFollowers (s : State) (p : Payload) : s.sameRom (s.toFollowers p) :=
  .of_kept (State.toFollowers_keeps 0x40040 s s p (by decide) (Kept.refl _ s)) (by decide) (by decide) (by decide)

theorem State.sameRom_flashDo (s : State) (op : FlashOp) : s.sameRom (s.flashDo op) :=
  .of_kept (State.flashDo_keeps 0x40 s s op (by decide) (Kept.refl _ s)) (by decide) (by decide) (by decide)

/-! ### Flash discovery -/

/-- The opcode, lanes, rate and address bytes of the SFDP read (R417). -/
def sfdpMode : FlashMode := { cmd := 0x5A, lanes := 1, kHz := 12500, addrBytes := 3 }

/-- Flash discovery is under way. -/
def State.discovers (s : State) : Prop :=
  s.leader ∧ s.ps.booting = true ∧ s.bootStep = 5 ∧ s.inReset = false ∧ s.flag HEATH_DOMAIN_STATUS.PLL_LOCK = true ∧
    s.fw.trying = 0 ∧ s.fw.image = none ∧ s.fw.waitLoad = none

theorem State.sfdp_some {s : State} (h : s.discovers) (n : Nat) :
    (s.sfdp (some n)).fw = { s.fw with flash := some n, trying := 1, quad := some (s.quadMode n) } ∧
    (s.sfdp (some n)).out = s.out ++ [.flash sfdpMode .sfdp] := by
  unfold State.discovers at h
  unfold State.sfdp
  rw [if_pos h]
  exact ⟨rfl, rfl⟩

theorem State.sfdp_none {s : State} (h : s.discovers) :
    (s.sfdp none).fw = { s.fw with flash := none, quad := none, waitLoad := some s.now } ∧
    (s.sfdp none).out = s.out ++ [.flash sfdpMode .sfdp] := by
  unfold State.discovers at h
  unfold State.sfdp
  rw [if_pos h]
  exact ⟨rfl, rfl⟩

theorem State.flashAbsent_spec {s : State} {w : Nat} (hw : s.fw.waitLoad = some w) (hb : s.ps.booting = true) :
    s.flashAbsent.stopped = true ∧ s.flashAbsent.fld HEATH_BOOT_STATUS.FAIL = 2 := by
  unfold State.flashAbsent
  rw [hw]
  dsimp only
  rw [if_pos hb]
  exact State.stopWith_spec _ (by decide)

/-! ### An image's judgement by the leader -/

/-- The outcome of a verification: the judgement, and for a host-loaded image its length. -/
def State.passes (s : State) (img : ImageIn) (k : Nat) : Bool :=
  s.judge img (k != 3) false == 0 && (k != 3 || decide (4096 + img.bodyLen ≤ s.fw.loaded.length))

/-- The slot's version is known. -/
def State.versionNoted (s : State) (img : ImageIn) (k : Nat) : State :=
  let ver := if s.passes img k then img.version else 0
  { s with fw := { s.fw with
    verA := if k = 1 then ver else s.fw.verA
    verB := if k = 2 then some ver else s.fw.verB } }

/-- The leader has verified: its copy goes out to the followers, and the ROM has logged it. -/
def State.slotTold (s : State) (img : ImageIn) (k : Nat) : State :=
  let sR := if k = 3 then s.versionNoted img k else (s.versionNoted img k).flashDo (.read (s.slotBase k) (s.readOf img).length)
  (sR.toFollowers (.data (.imageBlock k (s.readOf img)))).romLog (s.passes img k)

theorem State.sameRom_slotTold (s : State) (img : ImageIn) (k : Nat) : (s.versionNoted img k).sameRom (s.slotTold img k) := by
  have hread : (s.versionNoted img k).sameRom
      (if k = 3 then s.versionNoted img k else (s.versionNoted img k).flashDo (.read (s.slotBase k) (s.readOf img).length)) := by
    split
    · exact .of_kept (Kept.refl 0 _) (by decide) (by decide) (by decide)
    · exact State.sameRom_flashDo _ _
  exact hread.trans ((State.sameRom_toFollowers _ _).trans (State.sameRom_romLog _ _))

/-- An image that has passed is kept. -/
def State.imageKept (s : State) (img : ImageIn) : State := { s with fw := { s.fw with trying := 0, image := some img, waitLoad := none } }

/-- And its slot shown; a host's load is done. -/
def State.slotShown (s : State) (k : Nat) : State :=
  if k = 3 then (s.setFld HEATH_BOOT_STATUS.SLOT k).loadDone true else s.setFld HEATH_BOOT_STATUS.SLOT k

/-- The ROM acts on the image in slot `k`. -/
structure State.verifies (s : State) (img : ImageIn) (k : Nat) : Prop where
  leader : s.leader = true
  romActs : s.romActs = true
  trying : s.fw.trying = k
  slot : 1 ≤ k
  bytes : k = 3 → sameBytes s.fw.loaded img.bytes = true

theorem State.slotVerify_eq {s : State} {img : ImageIn} {k : Nat} (h : s.verifies img k) : s.slotVerify img =
    if s.passes img k then ((s.slotTold img k).imageKept img).slotShown k
    else ((s.slotTold img k).toFollowers (.data .imageReject)).slotFails k := by
  obtain ⟨hl, hacts, rfl, hslot, hbytes⟩ := h
  have hgo : ¬ (s.fw.trying = 0 ∨ s.leader = false ∨ s.romActs = false ∨ (s.fw.trying = 3 ∧ sameBytes s.fw.loaded img.bytes = false)) := by
    rintro (h0 | h0 | h0 | ⟨h3, h0⟩)
    · omega
    · rw [hl] at h0; cases h0
    · rw [hacts] at h0; cases h0
    · rw [hbytes h3] at h0; cases h0
  unfold State.slotVerify
  exact if_neg hgo

/-- The slot is shown, and nothing of the firmware changes. -/
theorem State.slotShown_spec (s : State) {k : Nat} (h : k ≤ 3) :
    (s.slotShown k).fld HEATH_BOOT_STATUS.SLOT = k ∧ (s.slotShown k).fw = s.fw := by
  have hslot : (s.setFld HEATH_BOOT_STATUS.SLOT k).fld HEATH_BOOT_STATUS.SLOT = k := by
    rw [State.fld_setFld_same _ _ _ (by decide) (by decide)]
    exact Nat.mod_eq_of_lt (show k < 4 by omega)
  have hdone := State.loadDone_keeps 0x1000000000000 _ _ true (by decide) (Kept.refl _ (s.setFld HEATH_BOOT_STATUS.SLOT k))
  unfold State.slotShown
  split
  · exact ⟨(hdone.fld HEATH_BOOT_STATUS.SLOT (by decide)).trans hslot, (hdone.fw (by decide)).trans (State.setFld_fw _ _ _)⟩
  · exact ⟨hslot, State.setFld_fw _ _ _⟩

/-- An image that passes is kept and its slot shown. -/
theorem State.slotVerify_passes {s : State} {img : ImageIn} {k : Nat} (h : s.verifies img k) (hk : k ≤ 3)
    (hpass : s.passes img k = true) :
    (s.slotVerify img).fw.image = some img ∧ (s.slotVerify img).fw.trying = 0 ∧ (s.slotVerify img).fw.waitLoad = none ∧
    (s.slotVerify img).fld HEATH_BOOT_STATUS.SLOT = k ∧ (k = 2 → (s.slotVerify img).fw.verB = some img.version) := by
  obtain ⟨⟨log, hfw⟩, -, -⟩ := s.sameRom_slotTold img k
  obtain ⟨hslot, hkept⟩ := ((s.slotTold img k).imageKept img).slotShown_spec hk
  rw [State.slotVerify_eq h, if_pos hpass, hkept]
  refine ⟨rfl, rfl, rfl, hslot, fun h2 => ?_⟩
  have hver : (s.versionNoted img k).fw.verB = some img.version := by
    unfold State.versionNoted
    dsimp only
    rw [if_pos h2, if_pos hpass]
  exact (congrArg Firmware.verB hfw).trans hver

/-! ### An image that fails -/

/-- What was read of the slot is dropped. -/
def State.loadDropped (s : State) : State := { s with fw := { s.fw with trying := 0, loaded := [] } }

/-- And a host's load has failed. -/
def State.loadSettled (s : State) (k : Nat) : State := if k = 3 then s.loadDropped.loadDone false else s.loadDropped

theorem State.slotFails_eq (s : State) {k : Nat} (h : k ≠ 1) : s.slotFails k =
    if (s.loadSettled k).fw.reboot then (s.loadSettled k).haltSteward
    else if k = 3 then s.loadSettled k else (s.loadSettled k).stopWith 3 := if_neg h

theorem State.reboot_loadSettled (s : State) (k : Nat) : (s.loadSettled k).fw.reboot = s.fw.reboot := by
  have hdone := State.loadDone_keeps 0x1000000000000 s.loadDropped _ false (by decide) (Kept.refl _ s.loadDropped)
  unfold State.loadSettled
  split
  · rw [hdone.fw (by decide)]
    rfl
  · rfl

theorem State.loadDone_fail (s : State) : (s.loadDone false).flag HEATH_FW_LOAD_CTRL.FAIL = true :=
  State.flag_setFlag_same _ _ _ rfl (by decide)

/-- The steward's cores as the ROM gives up on them. -/
def State.coresGivenUp (s : State) : State :=
  { s with cmds := [], fw := { s.fw with
    running := false, trying := 0, reboot := false, image := none, copy := none, loaded := [], readLeft := 0 } }

theorem State.haltSteward_eq (s : State) :
    s.haltSteward = (s.coresGivenUp.setFlag HEATH_FW_STATUS.HALTED true).levelOn srcFwHalted (s.fwSyn 0 0) := rfl

theorem State.haltSteward_halted (s : State) : s.haltSteward.flag HEATH_FW_STATUS.HALTED = true := by
  have hlevel := State.levelOn_keeps 0x80000180 _ _ srcFwHalted (s.fwSyn 0 0) (by decide)
    (Kept.refl _ (s.coresGivenUp.setFlag HEATH_FW_STATUS.HALTED true))
  rw [s.haltSteward_eq, hlevel.flag HEATH_FW_STATUS.HALTED (by decide)]
  exact State.flag_setFlag_same _ _ _ rfl (by decide)

/-- A slot that fails: A leads on to B, B stops start-up, a host's load has failed; during a reboot the steward halts (R418). -/
theorem State.slotFails_spec (s : State) (k : Nat) :
    (k = 1 → (s.slotFails k).fw.trying = 2) ∧
    (k = 2 → s.fw.reboot = false → (s.slotFails k).stopped = true ∧ (s.slotFails k).fld HEATH_BOOT_STATUS.FAIL = 3) ∧
    (k = 3 → s.fw.reboot = false → (s.slotFails k).flag HEATH_FW_LOAD_CTRL.FAIL = true) ∧
    (k ≠ 1 → s.fw.reboot = true → (s.slotFails k).flag HEATH_FW_STATUS.HALTED = true) := by
  refine ⟨fun h1 => ?_, fun h2 hr => ?_, fun h3 hr => ?_, fun h1 hr => ?_⟩
  · subst h1
    rfl
  · subst h2
    rw [s.slotFails_eq (by decide), s.reboot_loadSettled, hr, if_neg (by decide), if_neg (by decide)]
    exact State.stopWith_spec _ (by decide)
  · subst h3
    rw [s.slotFails_eq (by decide), s.reboot_loadSettled, hr, if_neg (by decide), if_pos rfl]
    exact s.loadDropped.loadDone_fail
  · rw [s.slotFails_eq h1, s.reboot_loadSettled, if_pos hr]
    exact State.haltSteward_halted _

/-- An image that fails its judgement is told to the followers, and the slot fails. -/
theorem State.slotVerify_fails {s : State} {img : ImageIn} {k : Nat} (h : s.verifies img k) (hfail : s.passes img k = false) :
    ∃ u : State, s.slotVerify img = u.slotFails k ∧ u.fw.reboot = s.fw.reboot := by
  obtain ⟨⟨log, hfw⟩, -, -⟩ := (s.sameRom_slotTold img k).trans (State.sameRom_toFollowers _ (.data .imageReject))
  refine ⟨(s.slotTold img k).toFollowers (.data .imageReject), ?_, (congrArg Firmware.reboot hfw).trans rfl⟩
  rw [State.slotVerify_eq h, hfail]
  rfl

/-! ### An image's judgement by a follower -/

/-- The ROM of a follower acts on its copy of the image. -/
structure State.verifiesCopy (s : State) (img : ImageIn) (c : Nat × List Nat) : Prop where
  follows : s.leader = false
  romActs : s.romActs = true
  copy : s.fw.copy = some c
  bytes : sameBytes c.2 img.bytes = true

/-- A follower's verified copy. -/
def State.copyKept (s : State) (img : ImageIn) : State := { s with fw := { s.fw with image := some img } }

/-- What a follower does with a bad copy. -/
def State.copyFails (s : State) : State :=
  if s.ps.booting then s.stopWith 8
  else if s.fw.reboot then s.haltSteward
  else { s with fw := { s.fw with copy := none } }

theorem State.followerVerify_eq {s : State} {img : ImageIn} {c : Nat × List Nat} (h : s.verifiesCopy img c) :
    s.followerVerify img = if s.judge img false false == 0 then (s.romLog (s.judge img false false == 0)).copyKept img
      else (s.romLog (s.judge img false false == 0)).copyFails := by
  obtain ⟨hl, hacts, hcopy, hbytes⟩ := h
  have hgo : ¬ (s.leader = true ∨ s.romActs = false ∨ sameBytes c.2 img.bytes = false) := by
    simp [hl, hacts, hbytes]
  unfold State.followerVerify
  rw [hcopy]
  exact if_neg hgo

theorem State.followerVerify_passes {s : State} {img : ImageIn} {c : Nat × List Nat} (h : s.verifiesCopy img c)
    (hpass : s.judge img false false = 0) :
    (s.followerVerify img).fw.image = some img ∧ (s.followerVerify img).raises = s.raises := by
  rw [State.followerVerify_eq h, if_pos (beq_iff_eq.mpr hpass)]
  exact ⟨rfl, (s.sameRom_romLog _).raises⟩

theorem State.followerVerify_fails {s : State} {img : ImageIn} {c : Nat × List Nat} (h : s.verifiesCopy img c)
    (hfail : s.judge img false false ≠ 0) (hb : s.ps.booting = true) :
    (s.followerVerify img).stopped = true ∧ (s.followerVerify img).fld HEATH_BOOT_STATUS.FAIL = 8 := by
  rw [State.followerVerify_eq h, if_neg (fun hpass => hfail (beq_iff_eq.mp hpass))]
  unfold State.copyFails
  rw [if_pos ((s.sameRom_romLog _).booting.trans hb)]
  exact State.stopWith_spec _ (by decide)

theorem State.passes_iff (s : State) (img : ImageIn) (k : Nat) :
    s.passes img k = true ↔ s.judge img (k != 3) false = 0 ∧ (k = 3 → 4096 + img.bodyLen ≤ s.fw.loaded.length) := by
  unfold State.passes
  rw [Bool.and_eq_true, beq_iff_eq, Bool.or_eq_true, bne_iff_ne, decide_eq_true_eq, ← imp_iff_not_or]

/-- Settles O16: discovery, the wait, and the leader's and a follower's verification, by what each does with a stop. -/
theorem imagesAreFoundAndJudged : Obligations.ImagesAreFoundAndJudged := by
  unfold Obligations.ImagesAreFoundAndJudged
  refine ⟨fun s n hl hb hstep hin hlock htry himg hwait => ?_, fun s w hw hb => ?_, fun s img k hl hacts htry h1 h3 hbytes => ?_,
    fun s img slot bytes hl hacts hcopy hbytes => ?_⟩
  · have h : s.discovers := ⟨hl, hb, hstep, hin, hlock, htry, himg, hwait⟩
    exact ⟨⟨_, rfl, State.sfdp_some h n⟩, ⟨_, rfl, State.sfdp_none h⟩⟩
  · exact ⟨_, rfl, State.flashAbsent_spec hw hb⟩
  · have h : s.verifies img k := ⟨hl, hacts, htry, h1, hbytes⟩
    refine ⟨fun hjudge hlen => ?_, fun hbad => ?_⟩
    · exact ⟨_, rfl, State.slotVerify_passes h h3 ((s.passes_iff img k).mpr ⟨hjudge, hlen⟩)⟩
    · have hfail : s.passes img k = false := by
        rw [← Bool.not_eq_true, s.passes_iff]
        rintro ⟨hjudge, hlen⟩
        rcases hbad with hbad | ⟨hk, hshort⟩
        · exact hbad hjudge
        · exact absurd (hlen hk) (Nat.not_le.mpr hshort)
      obtain ⟨u, hverify, hreboot⟩ := State.slotVerify_fails h hfail
      refine ⟨_, congrArg Host.Outcome.next hverify, ?_⟩
      rw [← hreboot]
      exact u.slotFails_spec k
  · have h : s.verifiesCopy img (slot, bytes) := ⟨hl, hacts, hcopy, hbytes⟩
    exact ⟨fun hpass => ⟨_, rfl, State.followerVerify_passes h hpass⟩, fun hfail hb => ⟨_, rfl, State.followerVerify_fails h hfail hb⟩⟩

end Sys2Proof.Machine
end

section
/-! PROOF of O15 (R29, R111): PLL lock starts the domains, and the strap exchange ends start-up step 4 or stops it. The claim
fails of a map of links that is not in canonical form; both parts hold where each die is listed once. -/

namespace Sys2Proof.Machine

/-! ### PLL lock -/

/-- The PLL is locked. -/
def State.lockShown (s : State) : State := ({ s with ps := { s.ps with pllStarting := false } }).setFlag HEATH_DOMAIN_STATUS.PLL_LOCK true

/-- The instant of the lock, from which the strap exchange lasts 1 ms. -/
def State.lockTimed (s : State) : State := { s with ps := { s.ps with lockAt := s.now, stewWake := false } }

/-- The domains run. -/
def State.domainsOn (s : State) : State := ((s.startClocks).setFlag HEATH_DOMAIN_STATUS.CORE_ON true).gapCore.startSteward

theorem State.pllLock_eq {s : State} (hporst : s.ps.porst = true) (hstart : s.ps.pllStarting = true) (hb : s.ps.booting = true) :
    s.pllLock = s.lockShown.domainsOn.lockTimed.sendStraps := by
  unfold State.pllLock
  rw [if_neg (by simp [hporst, hstart])]
  exact if_pos hb

/-- Start-up in step 4 has its clocks. -/
structure State.clocked (s t : State) : Prop where
  starting : t.ps.pllStarting = false
  lockAt : t.ps.lockAt = s.now
  lock : t.flag HEATH_DOMAIN_STATUS.PLL_LOCK = true
  core : t.flag HEATH_DOMAIN_STATUS.CORE_ON = true
  steward : t.flag HEATH_DOMAIN_STATUS.STEWARD_ON = true

theorem State.clocked.kept {s t u : State} {m : Nat} (h : s.clocked t) (hk : Kept m t u) (hps : m.testBit 17 = false)
    (hm : Mask.misses m HEATH_DOMAIN_STATUS = true) : s.clocked u where
  starting := (congrArg Power.pllStarting (hk.ps hps)).trans h.starting
  lockAt := (congrArg Power.lockAt (hk.ps hps)).trans h.lockAt
  lock := (hk.flag HEATH_DOMAIN_STATUS.PLL_LOCK hm).trans h.lock
  core := (hk.flag HEATH_DOMAIN_STATUS.CORE_ON hm).trans h.core
  steward := (hk.flag HEATH_DOMAIN_STATUS.STEWARD_ON hm).trans h.steward

/-- The steward's domain runs, and of the power state only its log's gap is new. -/
theorem State.startSteward_spec (s : State) : s.startSteward.flag HEATH_DOMAIN_STATUS.STEWARD_ON = true ∧
    s.startSteward.ps.pllStarting = s.ps.pllStarting ∧
    ∀ g : Fld, Fld.apart HEATH_DOMAIN_STATUS.STEWARD_ON g → s.startSteward.flag g = s.flag g := by
  unfold State.startSteward
  split
  · next hon => exact ⟨hon, rfl, fun _ _ => rfl⟩
  · exact ⟨State.flag_setFlag_same _ _ _ rfl (by decide), by rw [State.setFlag_ps], fun g hg => State.flag_setFlag_apart _ _ _ _ hg⟩

theorem State.domainsOn_clocked (s : State) : s.clocked s.lockShown.domainsOn.lockTimed := by
  have hclocks := State.startClocks_keeps 0x106000404 _ _ (by decide) (Kept.refl _ s.lockShown)
  have hgap := State.gapCore_keeps 0x1004 _ _ (by decide) (Kept.refl _ (s.lockShown.startClocks.setFlag HEATH_DOMAIN_STATUS.CORE_ON true))
  have hsteward := State.startSteward_keeps 0x2000020000 _ _ (by decide)
    (Kept.refl _ (s.lockShown.startClocks.setFlag HEATH_DOMAIN_STATUS.CORE_ON true).gapCore)
  obtain ⟨hon, hstarting, hother⟩ := (s.lockShown.startClocks.setFlag HEATH_DOMAIN_STATUS.CORE_ON true).gapCore.startSteward_spec
  refine ⟨?_, ?_, ?_, ?_, hon⟩
  · have hshown : s.lockShown.ps.pllStarting = false := by unfold State.lockShown; rw [State.setFlag_ps]
    exact hstarting.trans (by rw [hgap.ps (by decide), State.setFlag_ps, hclocks.ps (by decide), hshown])
  · exact (hsteward.now (by decide)).trans (by rw [hgap.now (by decide), State.setFlag_now, hclocks.now (by decide)]; rfl)
  · have hlock : s.lockShown.flag HEATH_DOMAIN_STATUS.PLL_LOCK = true := State.flag_setFlag_same _ _ _ rfl (by decide)
    refine (hother HEATH_DOMAIN_STATUS.PLL_LOCK (by decide)).trans ?_
    rw [hgap.flag HEATH_DOMAIN_STATUS.PLL_LOCK (by decide), State.flag_setFlag_apart _ _ _ _ (by decide),
      hclocks.flag HEATH_DOMAIN_STATUS.PLL_LOCK (by decide), hlock]
  · refine (hother HEATH_DOMAIN_STATUS.CORE_ON (by decide)).trans ?_
    rw [hgap.flag HEATH_DOMAIN_STATUS.CORE_ON (by decide)]
    exact State.flag_setFlag_same _ _ _ rfl (by decide)

/-- With the PLL locked the block core and steward domains run in start-up: the first part of the claim. -/
theorem State.lockPll_clocked {s : State} (hporst : s.ps.porst = true) (hstart : s.ps.pllStarting = true)
    (hb : s.ps.booting = true) : s.clocked s.lockPll := by
  unfold State.lockPll
  rw [State.pllLock_eq hporst hstart hb]
  have hsent := State.halfAck_keeps (placesMask [.out, .hdg, .arb, .drp, .STILE_STATUS]) _ _ 1 (by decide)
    (State.halfAck_keeps _ _ _ 0 (by decide) (State.sendStraps_keeps _ _ _ (by decide) (Kept.refl _ s.lockShown.domainsOn.lockTimed)))
  exact s.domainsOn_clocked.kept hsent (by decide) (by decide)

/-! ### The strap exchange with each die listed once -/

/-- The straps that the dies of a map have told. -/
def strapsTold (m : SMap Link) : List (Nat × Bool) := m.filterMap (fun p => p.2.strap)

theorem strapsTold_cons (a : Nat) (w : Link) (m : SMap Link) : strapsTold ((a, w) :: m) = w.strap.toList ++ strapsTold m := by
  unfold strapsTold
  cases h : w.strap <;> simp [h]

section
variable {m : SMap Link} {k : Nat} {v : Link}

theorem strapsTold_enter (hv : v.strap = none) (hk : ∀ p ∈ m, p.1 = k → p.2.strap = none) :
    strapsTold (SMap.enter m k v) = strapsTold m := by
  induction m with
  | nil => simp [SMap.enter, strapsTold, hv]
  | cons q m ih =>
    obtain ⟨a, w⟩ := q
    have htail := ih (fun p hp => hk p (List.mem_cons_of_mem _ hp))
    unfold SMap.enter
    split
    · next ha =>
      have hw : w.strap = none := hk (a, w) List.mem_cons_self ha
      simp [strapsTold_cons, hv, hw]
    · split
      · simp [strapsTold_cons, hv]
      · simp [strapsTold_cons, htail]

theorem strapsTold_drop (hk : ∀ p ∈ m, p.1 = k → p.2.strap = none) : strapsTold (SMap.drop m k) = strapsTold m := by
  induction m with
  | nil => rfl
  | cons q m ih =>
    obtain ⟨a, w⟩ := q
    have htail := ih (fun p hp => hk p (List.mem_cons_of_mem _ hp))
    unfold SMap.drop
    split
    · next ha =>
      have hw : w.strap = none := hk (a, w) List.mem_cons_self ha
      simp [strapsTold_cons, htail, hw]
    · simp [strapsTold_cons, htail]

end

/-- In a map that lists each die once an entry is what is read at its key. -/
theorem SMap.get_of_mem {α : Type} (d : Nat → α) {m : SMap α} (h : SMap.rising m) {p : Nat × α} (hp : p ∈ m) :
    SMap.get d m p.1 = p.2 := by
  induction m with
  | nil => exact absurd hp List.not_mem_nil
  | cons q m ih =>
    obtain ⟨a, w⟩ := q
    have hrise := List.pairwise_cons.mp h
    rcases List.mem_cons.mp hp with rfl | hp
    · exact if_pos rfl
    · exact (if_neg (Nat.ne_of_lt (hrise.1 p hp))).trans (ih hrise.2 hp)

/-- A link without a strap replaced by one without: the straps stay. -/
theorem strapsTold_put {m : SMap Link} {k : Nat} {v : Link} (h : SMap.rising m) (hv : v.strap = none)
    (hk : (SMap.get (fun _ => ({} : Link)) m k).strap = none) :
    strapsTold (SMap.put (fun _ => {}) m k v) = strapsTold m ∧ SMap.rising (SMap.put (fun _ => {}) m k v) := by
  have hat : ∀ p ∈ m, p.1 = k → p.2.strap = none := fun p hp hpk => by
    rw [← SMap.get_of_mem (fun _ => ({} : Link)) h hp, hpk, hk]
  unfold SMap.put
  split
  · exact ⟨strapsTold_drop hat, SMap.rising_drop m k h⟩
  · exact ⟨strapsTold_enter hv hat, SMap.rising_enter m k v h⟩

/-- What waits on the link to a die that was not heard is dropped. -/
def State.dropWaiting (s : State) (d : Nat) : State := s.setLink d { s.link d with unacked := [], queue := [] }

theorem State.dropUnheard_eq (s : State) :
    s.dropUnheard = each ((List.range 8).filter (fun d => (s.link d).strap.isNone)) (fun d t => t.dropWaiting d) s := rfl

/-- From `s` to `t` what the dies told stays, link by link. -/
structure State.sameStraps (s t : State) : Prop where
  told : strapsTold t.hdg.links = strapsTold s.hdg.links
  rising : SMap.rising t.hdg.links
  link : ∀ d, (t.link d).strap = (s.link d).strap

theorem State.sameStraps.dropWaiting {s t : State} (h : s.sameStraps t) {d : Nat} (hd : (s.link d).strap = none) :
    s.sameStraps (t.dropWaiting d) := by
  have hnone : (t.link d).strap = none := (h.link d).trans hd
  obtain ⟨htold, hrising⟩ := strapsTold_put (v := { t.link d with unacked := [], queue := [] }) h.rising hnone hnone
  refine ⟨htold.trans h.told, hrising, fun j => ?_⟩
  by_cases hj : d = j
  · subst hj
    rw [hd]
    exact (congrArg Link.strap (SMap.get_put_same _ _ _ _)).trans hnone
  · exact (congrArg Link.strap (SMap.get_put_other _ _ _ _ _ hj)).trans (h.link j)

theorem State.sameStraps.each {s t : State} (h : s.sameStraps t) {ds : List Nat} (hds : ∀ d ∈ ds, (s.link d).strap = none) :
    s.sameStraps (Machine.each ds (fun d u => u.dropWaiting d) t) := by
  induction ds generalizing t with
  | nil => exact h
  | cons d ds ih => exact ih (h.dropWaiting (hds d List.mem_cons_self)) (fun j hj => hds j (List.mem_cons_of_mem d hj))

theorem State.straps_eq (s : State) : s.straps = (s.dieId, s.leader) :: strapsTold s.hdg.links := rfl

/-- Where each die is listed once the end of the exchange leaves the straps. -/
theorem State.straps_dropUnheard {s : State} (h : SMap.rising s.hdg.links) : s.dropUnheard.straps = s.straps := by
  have hsame : s.sameStraps s.dropUnheard := by
    rw [s.dropUnheard_eq]
    exact State.sameStraps.each ⟨rfl, h, fun _ => rfl⟩ (fun d hd => Option.isNone_iff_eq_none.mp (List.mem_filter.mp hd).2)
  have hkept := State.dropUnheard_keeps 0x40000 s s (by decide) (Kept.refl _ s)
  rw [State.straps_eq, State.straps_eq, hsame.told]
  congr 2
  · exact hkept.fld ID_TOPOLOGY.DIE_ID (by decide)
  · exact hkept.flag ID_TOPOLOGY.LEADER (by decide)

/-- The instant at which the exchange closes. -/
def State.exchangeTimed (s : State) : State := if s.leader then s.advanceTo (s.ps.lockAt + 1000000) else s

/-- The exchange is over. -/
def State.exchangeOver (s : State) : State := { s with ps := { s.ps with exchange := false } }

/-- The dies of the package, and step 5. -/
def State.diesShown (s : State) (ids : List Nat) : State :=
  (each ids (fun d t => t.setFld (HDG_DIE_STATE.STATE d) 1) (s.setFld ID_TOPOLOGY.DIE_MASK (ids.foldl maskSet 0))).setFld
    HEATH_BOOT_STATUS.STEP 5

/-- What step 5 begins with: the shares, the heartbeat's time, and what there is to tell. -/
def State.stepFiveTold (s : State) (dies : Nat) : State :=
  let s4 := s.takeShares
  let s5 : State := { s4 with hdg := { s4.hdg with hbAt := s4.now } }
  if s5.leader then (if 1 < dies then s5.enqueueReserved .share else s5)
  else if s5.intAny || s5.errAny then s5.report (.lines s5.intAny s5.errAny s5.pinAny)
  else s5

/-- The DIE_IDs of the package as this die knows them. -/
def State.diesHeard (s : State) : List Nat := (s.straps.filter (fun x => s.leader || x.2 || x.1 == s.dieId)).map (fun x => x.1)

theorem State.strapClose_eq {s : State} (hb : s.ps.booting = true) (hex : s.ps.exchange = true)
    (hlock : s.flag HEATH_DOMAIN_STATUS.PLL_LOCK = true) : s.strapClose =
      if s.exchangeTimed.dropUnheard.exchangeOver.strapConflict then s.exchangeTimed.dropUnheard.exchangeOver.stopWith 1
      else (s.exchangeTimed.dropUnheard.exchangeOver.diesShown s.exchangeTimed.dropUnheard.exchangeOver.diesHeard).stepFiveTold
        s.exchangeTimed.dropUnheard.exchangeOver.diesHeard.length := by
  unfold State.strapClose
  exact if_neg (by simp [hb, hex, hlock])

theorem State.strapConflict_congr {s t : State} (h : t.straps = s.straps) : t.strapConflict = s.strapConflict := by
  unfold State.strapConflict
  rw [h]

theorem State.exchangeTimed_kept (s : State) : Kept (placesMask [.now, .sky]) s s.exchangeTimed :=
  Kept.ite (State.advanceTo_keeps _ s s _ (by decide) (Kept.refl _ s)) (Kept.refl _ s)

theorem State.strapConflict_closed {s : State} (h : SMap.rising s.hdg.links) :
    s.exchangeTimed.dropUnheard.exchangeOver.strapConflict = s.strapConflict := by
  have htimed := s.exchangeTimed_kept
  have hstraps : s.exchangeTimed.straps = s.straps := by
    rw [State.straps_eq, State.straps_eq, htimed.hdg (by decide)]
    congr 2
    · exact htimed.fld ID_TOPOLOGY.DIE_ID (by decide)
    · exact htimed.flag ID_TOPOLOGY.LEADER (by decide)
  have hdropped : s.exchangeTimed.dropUnheard.straps = s.exchangeTimed.straps :=
    State.straps_dropUnheard (by rw [htimed.hdg (by decide)]; exact h)
  exact State.strapConflict_congr (hdropped.trans hstraps)

theorem State.bootStep_diesShown (s : State) (ids : List Nat) : (s.diesShown ids).bootStep = 5 :=
  State.fld_setFld_same _ _ _ (by decide) (by decide)

theorem State.diesShown_kept (s : State) (ids : List Nat) : Kept (allButThese [.ps]) s (s.diesShown ids) :=
  State.setFld_at .HEATH_BOOT_STATUS rfl (by decide) (Kept.each (State.setFld_at .ID_TOPOLOGY rfl (by decide) (Kept.refl _ s))
    (fun _ _ ht => State.setFld_at .HDG_DIE_STATE rfl (by decide) ht))

theorem State.stepFiveTold_kept (s : State) (dies : Nat) : Kept (allButThese [.ps, .HEATH_BOOT_STATUS]) s (s.stepFiveTold dies) := by
  have hshares := State.takeShares_keeps (allButThese [.ps, .HEATH_BOOT_STATUS]) s s (by decide) (Kept.refl _ s)
  have hbeat : Kept (allButThese [.ps, .HEATH_BOOT_STATUS]) s
      { s.takeShares with hdg := { s.takeShares.hdg with hbAt := s.takeShares.now } } := Kept.set_hdg (by decide) hshares
  exact Kept.ite (Kept.ite (State.enqueueReserved_keeps _ s _ .share (by decide) hbeat) hbeat)
    (Kept.ite (State.report_keeps _ s _ _ (by decide) hbeat) hbeat)

/-- Where each die is listed once the exchange ends in step 5, or stops start-up with code 0x01 on a conflict. -/
theorem State.strapClose_spec {s : State} (hlinks : SMap.rising s.hdg.links) (hb : s.ps.booting = true) (hex : s.ps.exchange = true)
    (hlock : s.flag HEATH_DOMAIN_STATUS.PLL_LOCK = true) :
    if s.strapConflict then s.strapClose.stopped = true ∧ s.strapClose.fld HEATH_BOOT_STATUS.FAIL = 1
    else s.strapClose.bootStep = 5 ∧ s.strapClose.ps.booting = true ∧ s.strapClose.ps.exchange = false := by
  have hps : s.exchangeTimed.dropUnheard.ps = s.ps :=
    ((State.dropUnheard_keeps 0x40000 _ _ (by decide) (Kept.refl _ s.exchangeTimed)).ps (by decide)).trans
      (s.exchangeTimed_kept.ps (by decide))
  rw [State.strapClose_eq hb hex hlock, State.strapConflict_closed hlinks]
  split
  · next hconflict => exact State.stopWith_spec _ (by decide)
  · generalize hu : s.exchangeTimed.dropUnheard.exchangeOver = u
    have hover : u.ps = { s.ps with exchange := false } := by
      rw [← hu, ← hps]
      rfl
    have htold := (u.diesShown u.diesHeard).stepFiveTold_kept u.diesHeard.length
    have hafter := (htold.ps (by decide)).trans ((u.diesShown_kept u.diesHeard).ps (by decide))
    refine ⟨(htold.fld HEATH_BOOT_STATUS.STEP (by decide)).trans (u.bootStep_diesShown _), ?_, ?_⟩
    · rw [hafter, hover, hb]
    · rw [hafter, hover]

/-! ### A map that lists a die twice -/

/-- Start-up in step 4, PLL locked, with die 1 listed twice: once without a strap, once as the leader. -/
def listedTwice : State :=
  { State.reset.setFlag HEATH_DOMAIN_STATUS.PLL_LOCK true with
    ps := { vaon := true, porst := true, booting := true, exchange := true }
    hdg := { links := [(1, {}), (1, { strap := some (1, true) })] } }

/-- Its straps do not conflict before the exchange closes: this die is 0 and follows, die 1 leads. -/
theorem listedTwice_straps : listedTwice.straps = [(0, false), (1, true)] ∧ listedTwice.strapConflict = false := by decide +kernel

/-- What waits for die 1 is dropped as its first entry told no strap, and both entries with it. -/
theorem listedTwice_stops : listedTwice.strapClose.stopped = true ∧ listedTwice.strapClose.bootStep = 4 := by decide +kernel

/-- Refutes O15, in its second part: in `listedTwice` no straps conflict, yet the exchange ends with a stop and not in step 5.
The map of links is not in canonical form there; `State.lockPll_clocked` is the first part, and `State.strapClose_spec` the second
where each die is listed once. -/
theorem not_stepFourLocksAndJudgesTheStraps : ¬ Obligations.StepFourLocksAndJudgesTheStraps := by
  unfold Obligations.StepFourLocksAndJudgesTheStraps
  rintro ⟨-, h⟩
  obtain ⟨t, ht, hend⟩ := h listedTwice rfl rfl (by decide +kernel)
  obtain rfl := Host.Outcome.next.inj ht
  rw [listedTwice_straps.2] at hend
  obtain ⟨hstep, -⟩ := hend
  rw [listedTwice_stops.2] at hstep
  exact absurd hstep (by decide)

end Sys2Proof.Machine
end

section
/-! PROOF of O32 (R125, R131, R132, R133): requests, grants and reports where they arrive. What a wave does to the arbiter's
books is said once; a delivered grant is driven as far as the engine still asks. -/

namespace Sys2Proof.Machine

/-! ### What leaves the arbiter alone -/

theorem State.arb_positionOpens (s : State) (pos : Nat) : (s.positionOpens pos).arb = s.arb :=
  (State.positionOpens_keeps (allBut .arb) s s pos (by decide) (Kept.refl _ s)).arb (by decide)

theorem State.arb_logArb (s : State) (type data : Nat) : (s.logArb type data).arb = s.arb :=
  (State.logArb_keeps (allBut .arb) s s type data (by decide) (Kept.refl _ s)).arb (by decide)

theorem State.arb_noteReasons (s : State) : s.noteReasons.arb = s.arb :=
  (State.noteReasons_keeps (allBut .arb) s s (by decide) (Kept.refl _ s)).arb (by decide)

/-! ### Waves -/

/-- The arbiter with another number of open positions. -/
def Arbiter.opened (a : Arbiter) (k : Nat) : Arbiter := { a with open_ := k }

/-- The next position opens, and of the arbiter nothing else changes. -/
theorem State.arb_openNext (fuel : Nat) (s : State) : ∃ k, (State.openNext fuel s).arb = s.arb.opened k := by
  induction fuel generalizing s with
  | zero => exact ⟨s.arb.open_, rfl⟩
  | succ fuel ih =>
    unfold State.openNext
    dsimp only
    split_ifs
    · exact ⟨s.arb.open_, rfl⟩
    · obtain ⟨k, hk⟩ := ih (({ s with arb := { s.arb with open_ := s.arb.open_ + 1 } } : State).positionOpens s.arb.open_)
      rw [State.arb_positionOpens] at hk
      exact ⟨k, hk⟩
    · exact ⟨s.arb.open_ + 1, State.arb_positionOpens _ _⟩

/-- The positions of a sleeping half open, and of the arbiter nothing else changes. -/
theorem State.arb_skipAsleep (fuel : Nat) (s : State) : ∃ k, (State.skipAsleep fuel s).arb = s.arb.opened k := by
  induction fuel generalizing s with
  | zero => exact ⟨s.arb.open_, rfl⟩
  | succ fuel ih =>
    unfold State.skipAsleep
    split_ifs
    · exact ⟨s.arb.open_, rfl⟩
    · obtain ⟨k, hk⟩ := ih (({ s with arb := { s.arb with open_ := s.arb.open_ + 1 } } : State).positionOpens s.arb.open_)
      rw [State.arb_positionOpens] at hk
      exact ⟨k, hk⟩
    · exact ⟨s.arb.open_, rfl⟩

/-- From `a` to `b` the arbiter keeps its requests, its reservations, what it may still grant and revoke, and its pass. -/
structure Arbiter.SameBooks (a b : Arbiter) : Prop where
  slots : b.slots = a.slots
  resvs : b.resvs = a.resvs
  credit : b.credit = a.credit
  unann : b.unann = a.unann
  revoking : b.revoking = a.revoking

theorem Arbiter.SameBooks.refl (a : Arbiter) : a.SameBooks a := ⟨rfl, rfl, rfl, rfl, rfl⟩

/-- A wave that starts changes none of the arbiter's books (R135). -/
theorem State.startWave_spec (s : State) (reserved : Nat) :
    s.arb.SameBooks (s.startWave reserved).arb ∧ (s.startWave reserved).arb.wave = true := by
  unfold State.startWave
  dsimp only
  generalize hs : State.logArb _ 0x20 _ = u
  obtain ⟨k, hk⟩ := State.arb_skipAsleep 16 (State.openNext 16 u)
  obtain ⟨j, hj⟩ := State.arb_openNext 16 u
  rw [hk, hj, ← hs, State.arb_logArb]
  exact ⟨⟨rfl, rfl, rfl, rfl, rfl⟩, rfl⟩

theorem State.checkWave_sameBooks (s : State) : s.arb.SameBooks s.checkWave.arb := by
  unfold State.checkWave
  split
  · exact (s.startWave_spec 0).1
  · exact Arbiter.SameBooks.refl _

theorem State.slots_checkWaveEnd (s : State) : s.checkWaveEnd.arb.slots = s.arb.slots := by
  unfold State.checkWaveEnd
  split
  · rw [State.arb_logArb]
  · rfl

/-! ### Requests -/

/-- The requests that wait once engine `e` of cluster `c` has asked for class `cls`: its slot is entered, or updated in place
(R133). -/
def slotsAsked (sl : List ReqSlot) (c e cls : Nat) : List ReqSlot :=
  if !sl.any (fun y => y.cluster == c && y.engine == e) then sl ++ [⟨c, e, cls, false⟩]
  else sl.map (fun y => if y.cluster == c && y.engine == e then { y with cls := cls } else y)

/-- Entered or updated, a slot of the engine asks for the class. -/
theorem slotsAsked_any (sl : List ReqSlot) (c e cls : Nat) :
    (slotsAsked sl c e cls).any (fun y => y.cluster == c && y.engine == e && y.cls == cls) = true := by
  unfold slotsAsked
  split
  · simp
  · next hlisted =>
    rw [Bool.not_eq_true, Bool.not_eq_false'] at hlisted
    obtain ⟨y, hy, hmine⟩ := List.any_eq_true.mp hlisted
    refine List.any_eq_true.mpr ⟨_, List.mem_map_of_mem hy, ?_⟩
    rw [if_pos hmine]
    simpa using hmine

/-- A request that reaches the arbiter outside a block reset is entered, or withdrawn where it asks for no more than is granted
(R133). -/
theorem State.slots_requestArrives {s : State} {c e : Nat} (hreset : s.inReset = false) (hc : s.hasCluster c = true) (he : e < 4) :
    (s.requestArrives c e).arb.slots =
      if ((s.agent c).engine e).req ≤ ((s.agent c).engine e).counted ∨ (s.agent c).run = false then dropSlot s.arb.slots c e
      else slotsAsked s.arb.slots c e ((s.agent c).engine e).req := by
  unfold State.requestArrives
  dsimp only
  rw [if_neg (by simp [hreset, State.present_of_hasCluster hc, he]), State.slots_checkWaveEnd, (State.checkWave_sameBooks _).slots]
  rfl

/-! ### Delivery -/

/-- The end of a wait leaves a grant on its way alone. -/
theorem State.incoming_endWait (s : State) (c : Nat) {e : Nat} (he : e < 4) (withdrawn viaArb : Bool) :
    (((s.endWait c e withdrawn viaArb).agent c).engine e).incoming = ((s.agent c).engine e).incoming := by
  have hagent : ∀ (b : Prop) [Decidable b] (u : State), (if b then u.ringEvent 7 else u).agent c = u.agent c := by
    intro b _ u
    split
    · exact u.agent_ringEvent 7 c
    · rfl
  unfold State.endWait
  dsimp only
  split
  · rfl
  · rw [hagent, State.agent_sampleWait, State.agent_setAgent_same]
    exact (congrArg Engine.incoming (Agent.engine_setEngine_same (s.agent c) _ he)).trans rfl

/-- An engine that a grant of class `g`, decided from class `f`, has reached: it drives the class as far as it still asks, where
what was granted covers that (R66, R132). -/
def State.reached (s : State) (x : Engine) (g f : Nat) : Engine :=
  let t := min g x.req
  { x.take (if decide (x.grant ≤ t) && decide (s.quanta t - s.quanta x.grant ≤ s.quanta g - s.quanta f) then t else x.grant) with
    incoming := none }

theorem State.incoming_reached (s : State) (x : Engine) (g f : Nat) : (s.reached x g f).incoming = none := rfl

/-- A grant decided from the class that the engine drives raises it as far as the engine still asks. -/
theorem State.grant_reached (s : State) {x : Engine} {g f : Nat} (hfrom : f = x.grant) (hasks : f ≤ min g x.req)
    (hless : s.quanta (min g x.req) ≤ s.quanta g) : (s.reached x g f).grant = min g x.req := by
  refine if_pos ?_
  rw [Bool.and_eq_true, decide_eq_true_eq, decide_eq_true_eq, ← hfrom]
  exact ⟨hasks, Nat.sub_le_sub_right hless _⟩

/-- After a delivery the engine is as the grant has left it, but for the end of its wait. -/
theorem State.engine_deliver {s : State} {c e g f : Nat} (he : e < 4) (h : ((s.agent c).engine e).incoming = some (g, f)) :
    (((s.deliver c e).agent c).engine e).incoming = (s.reached ((s.agent c).engine e) g f).incoming ∧
    (((s.deliver c e).agent c).engine e).grant = (s.reached ((s.agent c).engine e) g f).grant := by
  have hset : ∃ b : Agent, (s.deliver c e).agent c = (s.setAgent c (b.setEngine e (s.reached ((s.agent c).engine e) g f))).agent c ∨
      (s.deliver c e).agent c =
        ((s.setAgent c (b.setEngine e (s.reached ((s.agent c).engine e) g f))).endWait c e false true).agent c := by
    unfold State.deliver
    dsimp only
    rw [h]
    dsimp only
    rw [State.agent_shadow, State.agent_logAgent]
    by_cases hdone : (s.reached ((s.agent c).engine e) g f).req ≤ (s.reached ((s.agent c).engine e) g f).grant
    · exact ⟨_, Or.inr (congrArg (fun v => State.agent v c) (if_pos hdone))⟩
    · exact ⟨_, Or.inl (congrArg (fun v => State.agent v c) (if_neg hdone))⟩
  obtain ⟨b, hb⟩ := hset
  have hengine : ((s.setAgent c (b.setEngine e (s.reached ((s.agent c).engine e) g f))).agent c).engine e =
      s.reached ((s.agent c).engine e) g f := by
    rw [State.agent_setAgent_same, Agent.engine_setEngine_same _ _ he]
  rcases hb with hkept | hended
  · rw [hkept, hengine]
    exact ⟨rfl, rfl⟩
  · rw [hended, State.incoming_endWait _ c he, (State.endWait_sameGrants _ c e false true).grant e he, hengine]
    exact ⟨rfl, rfl⟩

/-! ### Reports -/

/-- A report reaches the arbiter: what it grants is charged, and it enters FF_Q (R125, R131). -/
theorem State.reportArrives_spec {s : State} {c : Nat} {q : Int} {rest : List Int} (h : (s.agent c).reports = q :: rest) :
    ((s.reportArrives c).agent c).reports = rest ∧
    (s.reportArrives c).arb = { s.arb with credit := s.arb.credit - (if 0 < q then q * 1024 else 0),
                                           unann := s.arb.unann - (if 0 < q then q * 1024 else 0), ff := s.arb.ff + q } := by
  unfold State.reportArrives
  dsimp only
  rw [h]
  exact ⟨congrArg Agent.reports (s.agent_setAgent_same c _), rfl⟩

/-! ### The rows -/

theorem State.inReset_of_coreRuns {s : State} (h : s.coreRuns = true) : s.inReset = false := by
  rw [State.coreRuns, Bool.and_eq_true, Bool.not_eq_true'] at h
  exact h.2

theorem ofUnit_run {ok run : Bool} {s t : State} (hok : ok = true) (hrun : run = true) :
    ofUnit ok (if run then t else s) = .next t := by
  rw [ofUnit_of hok, if_pos hrun]

theorem hasEngine {s : State} {c e : Nat} (hc : s.hasCluster c = true) (he : e < 4) : (s.hasCluster c && decide (e < 4)) = true := by
  simp [hc, he]

/-- Settles O32: a request by what it makes of the slots (State.slots_requestArrives), a grant by its delivery, a report by what
it charges. -/
theorem requestsGrantsAndReportsArrive : Obligations.RequestsGrantsAndReportsArrive := by
  unfold Obligations.RequestsGrantsAndReportsArrive
  refine ⟨fun s c e hruns hc he => ?_, fun s c e g f hporst hc he hgrant => ?_, fun s c q rest hruns hc hreport => ?_⟩
  · have hslots := State.slots_requestArrives (State.inReset_of_coreRuns hruns) hc he
    rw [← State.arb_noteReasons] at hslots
    refine ⟨fun hrun hasks => ⟨_, ofUnit_run (hasEngine hc he) hruns, ?_⟩, fun hno => ⟨_, ofUnit_run (hasEngine hc he) hruns, ?_⟩⟩
    · rw [hslots, if_neg (by simp [hrun, hasks])]
      exact slotsAsked_any _ c e _
    · rw [hslots, if_pos (Or.inl hno)]
  · obtain ⟨hincoming, hdriven⟩ := State.engine_deliver he hgrant
    exact ⟨_, ofUnit_run (hasEngine hc he) hporst, hincoming, fun hfrom hasks hless => hdriven.trans (s.grant_reached hfrom hasks hless)⟩
  · exact ⟨_, ofUnit_run hc hruns, State.reportArrives_spec hreport⟩

end Sys2Proof.Machine
end

section
/-! PROOF of O34 (R130, R135, R147, R148, R150): step boundaries and the course of a reservation. What the steps of a reservation
do to the arbiter's list of reservations is said by the reservation's number. -/

namespace Sys2Proof.Machine

/-! ### What leaves the arbiter or Skylark time alone -/

theorem State.arb_shadowResv (s : State) (r : Reservation) : (s.shadowResv r).arb = s.arb :=
  (State.shadowResv_keeps (allBut .arb) s s r (by decide) (Kept.refl _ s)).arb (by decide)

theorem State.advanceSky_kept (s : State) (t : Nat) : Kept (placesMask [.now, .sky]) s (s.advanceSky t) :=
  State.advanceSky_keeps _ s s t (by decide) (Kept.refl _ s)

theorem State.arb_advanceSky (s : State) (t : Nat) : (s.advanceSky t).arb = s.arb := (s.advanceSky_kept t).arb (by decide)

/-- What leaves the power state and the registers of the domains and the reset alone leaves admission as it was. -/
theorem State.admits_kept {m : Nat} {s t : State} (h : Kept m s t) (hps : m.testBit 17 = false)
    (hdomain : Mask.misses m HEATH_DOMAIN_STATUS = true) (hreset : Mask.misses m HEATH_RESET_CTRL = true) : t.admits = s.admits := by
  unfold State.admits State.inReset
  rw [h.fld HEATH_DOMAIN_STATUS.PSTATE hdomain, h.flag HEATH_DOMAIN_STATUS.IN_TRANSIT hdomain, h.ps hps,
    h.flag HEATH_RESET_CTRL.BLOCK_RESET hreset]

theorem State.admits_advanceSky (s : State) (t : Nat) : (s.advanceSky t).admits = s.admits :=
  State.admits_kept (s.advanceSky_kept t) (by decide) (by decide) (by decide)

theorem State.skyNs_of_kept {m : Nat} {s t : State} (h : Kept m s t) (hm : m.testBit 2 = false) : t.skyNs = s.skyNs :=
  congrArg Skylark.ns (h.sky hm)

theorem State.skyNs_noteReasons (s : State) : s.noteReasons.skyNs = s.skyNs :=
  State.skyNs_of_kept (State.noteReasons_keeps (allBut .sky) s s (by decide) (Kept.refl _ s)) (by decide)

/-! ### Step boundaries -/

/-- As a step ends the next position of a running wave opens: of the arbiter nothing else changes, and no time passes (R135). -/
theorem State.waveOpens_spec (s : State) :
    (∃ k, (if s.arb.wave then State.skipAsleep 16 (State.openNext 16 s) else s).arb = s.arb.opened k) ∧
    (if s.arb.wave then State.skipAsleep 16 (State.openNext 16 s) else s).skyNs = s.skyNs := by
  split
  · obtain ⟨k, hk⟩ := State.arb_skipAsleep 16 (State.openNext 16 s)
    obtain ⟨j, hj⟩ := State.arb_openNext 16 s
    rw [hj] at hk
    exact ⟨⟨k, hk⟩, State.skyNs_of_kept (State.skipAsleep_keeps (allBut .sky) s 16 _ (by decide)
      (State.openNext_keeps _ s 16 s (by decide) (Kept.refl _ s))) (by decide)⟩
  · exact ⟨⟨s.arb.open_, rfl⟩, rfl⟩

theorem State.logArb_if_spec (p : Prop) [Decidable p] (s : State) (type data : Nat) :
    (if p then s.logArb type data else s).arb = s.arb ∧ (if p then s.logArb type data else s).skyNs = s.skyNs := by
  split
  · exact ⟨s.arb_logArb type data, State.skyNs_of_kept (State.logArb_keeps (allBut .sky) s s type data (by decide) (Kept.refl _ s))
      (by decide)⟩
  · exact ⟨rfl, rfl⟩

/-- What is left of an allowance `x` once a step's worth `a` is added: never more than that (R130). -/
def refilled (x a : Int) : Int := min (x + a) a

theorem State.credit_refill (s : State) : s.refill.arb.credit =
    refilled s.arb.credit (slopeQuanta (max (s.fld ADM_SLOPE.UP) s.announcedSlope) (s.fld ADM_WAVE.STEP)) := rfl

theorem State.unann_refill (s : State) : s.refill.arb.unann =
    refilled s.arb.unann (slopeQuanta (s.fld ADM_SLOPE.UP) (s.fld ADM_WAVE.STEP)) := rfl

/-- The step that ends at this instant is over. -/
def State.stepEnded (s : State) : State := { s with arb := { s.arb with stepAt := s.skyNs } }

theorem State.stepEnded_kept (s : State) : Kept (placesMask [.arb]) s s.stepEnded := Kept.set_arb (by decide) (Kept.refl _ s)

theorem State.announcedSlope_congr {s t : State} (h : t.arb.resvs = s.arb.resvs) : t.announcedSlope = s.announcedSlope := by
  unfold State.announcedSlope
  rw [h]

/-- A step boundary: credit and unann refill, and the grants of the step are counted anew (R130). -/
theorem State.stepBoundary_spec {s : State} (h : s.admits = true) :
    s.stepBoundary.arb.stepAt = s.stepBoundary.skyNs ∧ s.stepBoundary.arb.stepGrants = 0 ∧ s.stepBoundary.arb.stepQuanta = 0 ∧
    s.stepBoundary.arb.credit = refilled s.arb.credit
      (slopeQuanta (max (s.fld ADM_SLOPE.UP) s.announcedSlope) (s.fld ADM_WAVE.STEP)) ∧
    s.stepBoundary.arb.unann = refilled s.arb.unann (slopeQuanta (s.fld ADM_SLOPE.UP) (s.fld ADM_WAVE.STEP)) := by
  have hkept : Kept (placesMask [.now, .sky]) s (s.toStep s.arb.stepAt) := s.advanceSky_kept _
  unfold State.stepBoundary
  dsimp only
  generalize s.toStep s.arb.stepAt = u at hkept ⊢
  rw [if_neg (by rw [State.admits_kept hkept (by decide) (by decide) (by decide), h]; decide)]
  generalize hv : State.refill _ = v
  obtain ⟨hlogged, hsame⟩ := State.logArb_if_spec (v.arb.wave = true ∨ v.arb.revoking = true) v 0x21
    (dataBytes (leBytes 2 v.arb.stepGrants ++ leBytes 2 v.arb.stepQuanta ++ leBytes 4 (ofSigned 32 v.arb.credit)))
  generalize (if v.arb.wave = true ∨ v.arb.revoking = true then _ else v) = w at hlogged hsame ⊢
  obtain ⟨⟨k, hopened⟩, hns⟩ := State.waveOpens_spec { w with arb := { w.arb with stepGrants := 0, stepQuanta := 0 } }
  rw [hopened, hns]
  show w.arb.stepAt = w.skyNs ∧ 0 = 0 ∧ 0 = 0 ∧ w.arb.credit = _ ∧ w.arb.unann = _
  have hrefilled : v = u.stepEnded.refill := hv.symm
  have hended := u.stepEnded_kept
  have hresvs : u.stepEnded.arb.resvs = s.arb.resvs := (congrArg Arbiter.resvs (hkept.arb (by decide)) : u.arb.resvs = _)
  rw [hlogged, hsame, hrefilled, State.credit_refill, State.unann_refill, State.announcedSlope_congr hresvs,
    hended.fld ADM_SLOPE.UP (by decide), hkept.fld ADM_SLOPE.UP (by decide), hended.fld ADM_WAVE.STEP (by decide),
    hkept.fld ADM_WAVE.STEP (by decide), ← hkept.arb (by decide)]
  exact ⟨rfl, rfl, rfl, rfl, rfl⟩

/-! ### Reservations by number -/

/-- Is a reservation listed under the number `id`? -/
def Arbiter.lists (a : Arbiter) (id : Nat) : Prop := ∃ x ∈ a.resvs, x.id = id

/-- A reservation is listed under `id`, and all that are listed so are live. -/
def Arbiter.runs (a : Arbiter) (id : Nat) : Prop := a.lists id ∧ ∀ x ∈ a.resvs, x.id = id → x.live = true

theorem Arbiter.lists_of_find {a : Arbiter} {id : Nat} {p : Reservation → Bool} {r : Reservation}
    (h : a.resvs.find? (fun x => x.id == id && p x) = some r) : r.id = id ∧ a.lists id := by
  have hid := List.find?_some h
  rw [Bool.and_eq_true, beq_iff_eq] at hid
  exact ⟨hid.1, r, List.mem_of_find?_eq_some h, hid.1⟩

/-- What is listed in place of a reservation holds of its number. -/
theorem Arbiter.any_setResv {a : Arbiter} {r : Reservation} (h : a.lists r.id) {p : Reservation → Bool} (hp : p r = true) :
    (a.setResv r).resvs.any (fun x => x.id == r.id && p x) = true := by
  obtain ⟨x, hx, hid⟩ := h
  refine List.any_eq_true.mpr ⟨r, List.mem_map.mpr ⟨x, hx, if_pos (beq_iff_eq.mpr hid)⟩, ?_⟩
  rw [hp, beq_self_eq_true]
  rfl

theorem Arbiter.runs_setResv {a : Arbiter} {r : Reservation} (h : a.lists r.id) (hlive : r.live = true) : (a.setResv r).runs r.id := by
  obtain ⟨x, hx, hid⟩ := h
  refine ⟨⟨r, List.mem_map.mpr ⟨x, hx, if_pos (beq_iff_eq.mpr hid)⟩, rfl⟩, fun y hy hyid => ?_⟩
  obtain ⟨z, -, hz⟩ := List.mem_map.mp hy
  split at hz
  · rw [← hz, hlive]
  · next hother =>
    rw [← hz] at hyid
    exact absurd (beq_iff_eq.mpr hyid) hother

theorem Arbiter.runs_congr {a b : Arbiter} {id : Nat} (h : a.runs id) (hr : b.resvs = a.resvs) : b.runs id := by
  unfold Arbiter.runs Arbiter.lists
  rw [hr]
  exact h

theorem Arbiter.any_of_runs {a : Arbiter} {id : Nat} (h : a.runs id) : a.resvs.any (fun x => x.id == id && x.live) = true := by
  obtain ⟨⟨x, hx, hid⟩, hlive⟩ := h
  exact List.any_eq_true.mpr ⟨x, hx, by rw [hlive x hx hid, hid, beq_self_eq_true]; rfl⟩

/-- Reservations that are changed one by one, each under its number, run as before where a live one stays live. -/
theorem Arbiter.runs_map {a b : Arbiter} {id : Nat} (h : a.runs id) {f : Reservation → Reservation} (hb : b.resvs = a.resvs.map f)
    (hid : ∀ x, (f x).id = x.id) (hlive : ∀ x, (f x).live = x.live) : b.runs id := by
  obtain ⟨⟨x, hx, hxid⟩, hall⟩ := h
  unfold Arbiter.runs Arbiter.lists
  rw [hb]
  refine ⟨⟨f x, List.mem_map_of_mem hx, (hid x).trans hxid⟩, fun y hy hyid => ?_⟩
  obtain ⟨z, hz, rfl⟩ := List.mem_map.mp hy
  exact (hlive z).trans (hall z hz ((hid z).symm.trans hyid))

/-! ### The start of a reservation -/

theorem State.resvs_endResv (s : State) (r : Reservation) (how : Nat) :
    (s.endResv r how).arb.resvs = s.arb.resvs.filter (fun x => x.id != r.id) := by
  unfold State.endResv
  rw [State.arb_shadowResv, State.arb_logArb]

/-- The end of another reservation lets one run on. -/
theorem State.runs_endResv {s : State} {id : Nat} (h : s.arb.runs id) {r : Reservation} (hr : r.id ≠ id) (how : Nat) :
    (s.endResv r how).arb.runs id := by
  obtain ⟨⟨x, hx, hid⟩, hall⟩ := h
  unfold Arbiter.runs Arbiter.lists
  rw [State.resvs_endResv]
  refine ⟨⟨x, List.mem_filter.mpr ⟨hx, ?_⟩, hid⟩, fun y hy => hall y (List.mem_filter.mp hy).1⟩
  rw [bne_iff_ne, hid]
  exact hr.symm

/-- What holds before, and is kept by every round on an element of the list, holds after. -/
theorem each_keeps_mem {α σ : Type} (P : σ → Prop) (f : α → σ → σ) (xs : List α) (hf : ∀ x ∈ xs, ∀ t, P t → P (f x t)) (s : σ)
    (h : P s) : P (each xs f s) := by
  induction xs generalizing s with
  | nil => exact h
  | cons x xs ih =>
    exact ih (fun y hy => hf y (List.mem_cons_of_mem x hy)) (f x s) (hf x List.mem_cons_self s h)

/-- A new reservation runs on as it takes the shares of older ones (R151). -/
theorem State.runs_replaceShares {s : State} {r : Reservation} (h : s.arb.runs r.id) : (s.replaceShares r).arb.runs r.id := by
  unfold State.replaceShares
  dsimp only
  refine each_keeps_mem (fun t : State => t.arb.runs r.id) _ _ (fun y hy t ht => ?_) _ ?_
  · have hless := (List.mem_filter.mp hy).2
    rw [Bool.and_eq_true, decide_eq_true_eq] at hless
    exact State.runs_endResv ht (Nat.ne_of_lt hless.1) 3
  · refine Arbiter.runs_map h rfl (fun x => ?_) (fun x => ?_)
    · split <;> rfl
    · split <;> rfl

theorem State.resvs_lend (s : State) (l : Int) : (s.lend l).arb.resvs = s.arb.resvs := by
  unfold State.lend
  rw [State.arb_logArb]
  rfl

theorem State.resvs_halfTake (s : State) (h q : Nat) : (s.halfTake h q).2.arb.resvs = s.arb.resvs := by
  unfold State.halfTake
  split
  · rfl
  · split
    · exact s.resvs_lend _
    · rfl

/-- A reservation runs on as one takes quanta (R147). -/
theorem State.runs_fillResv {s : State} {id : Nat} (h : s.arb.runs id) (r : Reservation) (hr : r.id = id) :
    (s.fillResv r).arb.runs id := by
  unfold State.fillResv
  refine each_keeps (fun t : State => t.arb.runs id) _ (fun p t ht => ?_) _ _ h
  split
  · exact ht
  · next r1 hfind =>
    have hsame := List.find?_some hfind
    have hfound : r1.id = id := (beq_iff_eq.mp hsame).trans hr
    have hlive := ht.2 r1 (List.mem_of_find?_eq_some hfind) hfound
    dsimp only
    split
    · exact ht
    · subst hfound
      have htakes : ∀ (u : State) (taken unclaimed : SMap Nat), u.arb.resvs = t.arb.resvs →
          (u.arb.setResv { r1 with taken := taken, unclaimed := unclaimed }).runs r1.id := fun u taken unclaimed hu =>
        Arbiter.runs_setResv (r := { r1 with taken := taken, unclaimed := unclaimed }) (Arbiter.runs_congr ht hu).1 hlive
      exact htakes _ _ _ (t.resvs_halfTake _ _)

/-- The state with a reservation in place of those listed under its number. -/
def State.relisted (s : State) (r : Reservation) : State := { s with arb := s.arb.setResv r }

theorem State.relisted_kept (s : State) (r : Reservation) : Kept (placesMask [.arb]) s (s.relisted r) :=
  Kept.set_arb (by decide) (Kept.refl _ s)

/-- What a reservation is once it has started. -/
def Reservation.started (r : Reservation) : Reservation := { r with live := true }

/-- What a reservation is once its T has come. -/
def Reservation.due (r : Reservation) : Reservation := { r with joined := true }

/-- The state at a reservation's start, before the ring is told. -/
def State.taking (s : State) (r : Reservation) : State :=
  if ((s.relisted r).replaceShares r).admits then ((s.relisted r).replaceShares r).fillResv r else (s.relisted r).replaceShares r

theorem State.startResv_eq {s : State} {id : Nat} {r : Reservation}
    (h : s.arb.resvs.find? (fun x => x.id == id && !x.live) = some r) :
    s.startResv id = (((s.advanceSky r.startAt).taking r.started).logArb 0x24
      (dataBytes ([0, 0] ++ leBytes 2 ((r.shares.map (fun p => p.2)).sum) ++ leBytes 4 r.tag))).shadowResv r.started := by
  unfold State.startResv
  rw [h]
  rfl

theorem State.taking_kept (s : State) (r : Reservation) : Kept (allBut .sky) s (s.taking r) :=
  have hreplaced := State.replaceShares_keeps (allBut .sky) s (s.relisted r) r (by decide)
    (Kept.set_arb (by decide) (Kept.refl _ s))
  Kept.ite (State.fillResv_keeps _ s _ r (by decide) hreplaced) hreplaced

theorem State.runs_taking {s : State} {r : Reservation} (h : s.arb.lists r.id) (hlive : r.live = true) :
    (s.taking r).arb.runs r.id := by
  have hstarted := State.runs_replaceShares (s := s.relisted r) (Arbiter.runs_setResv h hlive)
  unfold State.taking
  split
  · exact State.runs_fillResv hstarted r rfl
  · exact hstarted

/-- A reservation becomes live at its start (R147). -/
theorem State.startResv_spec {s : State} {id : Nat} {r : Reservation}
    (h : s.arb.resvs.find? (fun x => x.id == id && !x.live) = some r) :
    r.startAt ≤ (s.startResv id).skyNs ∧ (s.startResv id).arb.resvs.any (fun x => x.id == id && x.live) = true := by
  obtain ⟨rfl, hlisted⟩ := Arbiter.lists_of_find h
  rw [← s.arb_advanceSky r.startAt] at hlisted
  rw [State.startResv_eq h, State.arb_shadowResv, State.arb_logArb]
  constructor
  · refine (s.le_skyNs_advanceSky r.startAt).trans_eq (State.skyNs_of_kept (m := allBut .sky) ?_ (by decide)).symm
    exact State.shadowResv_keeps _ _ _ _ (by decide) (State.logArb_keeps _ _ _ _ _ (by decide) (State.taking_kept _ _))
  · exact Arbiter.any_of_runs (State.runs_taking (r := r.started) hlisted rfl)

/-! ### T, the pre-bias and the end of a reservation -/

/-- With a wave that runs or quanta left to claim, a reservation joins the wave or starts one at its T. -/
theorem State.resvTimeT_eq {s : State} {id : Nat} {r : Reservation}
    (h : s.arb.resvs.find? (fun x => x.id == id && x.live && !x.joined) = some r) (hadmits : s.admits = true)
    (hopen : 0 < r.open_ (fun _ => true) ∨ s.arb.wave = true) :
    s.resvTimeT id = (s.advanceSky r.t).relisted r.due ∧ s.arb.wave = true ∨
      ∃ n, s.resvTimeT id = ((s.advanceSky r.t).relisted r.due).startWave n := by
  rw [← s.arb_advanceSky r.t] at hopen ⊢
  rw [← s.admits_advanceSky r.t] at hadmits
  have hjoins : ¬ ((s.advanceSky r.t).admits = false ∨ r.open_ (fun _ => true) = 0 ∧ (s.advanceSky r.t).arb.wave = false) := by
    rw [hadmits]
    rintro (hno | ⟨hnone, hstill⟩)
    · exact absurd hno (by decide)
    · rw [hnone, hstill] at hopen
      exact absurd hopen (by decide)
  unfold State.resvTimeT
  rw [h]
  dsimp only
  rw [if_neg hjoins]
  by_cases hwave : (s.advanceSky r.t).arb.wave = true
  · exact Or.inl ⟨if_pos hwave, hwave⟩
  · exact Or.inr ⟨_, if_neg hwave⟩

/-- At its T a reservation joins the wave that runs, or starts one (R135). -/
theorem State.resvTimeT_spec {s : State} {id : Nat} {r : Reservation} (hadmits : s.admits = true)
    (h : s.arb.resvs.find? (fun x => x.id == id && x.live && !x.joined) = some r)
    (hopen : 0 < r.open_ (fun _ => true) ∨ s.arb.wave = true) :
    r.t ≤ (s.resvTimeT id).skyNs ∧ (s.resvTimeT id).arb.wave = true ∧
    (s.resvTimeT id).arb.resvs.any (fun x => x.id == id && x.joined) = true := by
  have hreach := s.le_skyNs_advanceSky r.t
  have hlisted : r.id = id ∧ s.arb.lists id := Arbiter.lists_of_find (p := fun x => x.live && !x.joined) (by
    simpa only [Bool.and_assoc] using h)
  obtain ⟨rfl, hlisted⟩ := hlisted
  rw [← s.arb_advanceSky r.t] at hlisted
  have hdue : ((s.advanceSky r.t).relisted r.due).arb.resvs.any (fun x => x.id == r.id && x.joined) = true :=
    Arbiter.any_setResv (r := r.due) hlisted (p := fun x => x.joined) rfl
  rcases State.resvTimeT_eq h hadmits hopen with ⟨hjoined, hwave⟩ | ⟨n, hstarted⟩
  · rw [hjoined]
    rw [← s.arb_advanceSky r.t] at hwave
    exact ⟨hreach, hwave, hdue⟩
  · rw [hstarted]
    obtain ⟨hbooks, hwave⟩ := ((s.advanceSky r.t).relisted r.due).startWave_spec n
    have hkept := State.startWave_keeps (allBut .sky) _ ((s.advanceSky r.t).relisted r.due) n (by decide) (Kept.refl _ _)
    refine ⟨hreach.trans_eq (State.skyNs_of_kept hkept (by decide)).symm, hwave, ?_⟩
    rw [hbooks.resvs]
    exact hdue

/-- A qualifying reservation requests its pre-bias (R150). -/
theorem State.startPrebias_spec {s : State} {id : Nat} {r : Reservation}
    (h : s.arb.resvs.find? (fun x => x.id == id && x.live) = some r) (hbias : r.prebias = true)
    (hshares : 0 < (r.shares.map (fun p => p.2)).sum) (hopen : r.claimed = false) :
    (s.startPrebias id).arb.resvs.any (fun x => x.id == id && x.biasOn) = true := by
  obtain ⟨rfl, hlisted⟩ := Arbiter.lists_of_find h
  unfold State.startPrebias
  rw [h]
  dsimp only
  rw [if_pos ⟨hbias, hshares, hopen⟩, State.arb_advanceSky]
  exact Arbiter.any_setResv (r := { r with biasOn := true }) hlisted (p := fun x => x.biasOn) rfl

/-- Whether the wave ends or not, no reservation is listed anew. -/
theorem State.ids_checkWaveEnd (s : State) : s.checkWaveEnd.arb.resvs.map (fun r => r.id) = s.arb.resvs.map (fun r => r.id) := by
  unfold State.checkWaveEnd
  split
  · rw [State.arb_logArb]
    exact List.map_map
  · rfl

/-- At its end a reservation is gone (R148). -/
theorem State.resvEnd_spec {s : State} {id : Nat} {r : Reservation} (h : s.arb.resvs.find? (fun x => x.id == id) = some r) :
    r.endAt ≤ (s.resvEnd id).skyNs ∧ (s.resvEnd id).arb.resvs.any (fun x => x.id == id) = false := by
  have hid := List.find?_some h
  obtain rfl : r.id = id := beq_iff_eq.mp hid
  have hreach := s.le_skyNs_advanceSky r.endAt
  unfold State.resvEnd
  rw [h]
  dsimp only
  generalize s.advanceSky r.endAt = u at hreach ⊢
  constructor
  · refine hreach.trans_eq (State.skyNs_of_kept (m := allBut .sky) ?_ (by decide)).symm
    exact State.checkWaveEnd_keeps _ u _ (by decide) (State.endResv_keeps _ u u r 2 (by decide) (Kept.refl _ u))
  · rw [List.any_eq_false]
    intro x hx hid
    have hmem := List.mem_map_of_mem (f := fun y : Reservation => y.id) hx
    rw [State.ids_checkWaveEnd, State.resvs_endResv] at hmem
    obtain ⟨y, hy, hsame⟩ := List.mem_map.mp hmem
    have hother := (List.mem_filter.mp hy).2
    rw [bne_iff_ne] at hother
    exact hother (hsame.trans (beq_iff_eq.mp hid))

/-! ### The obligation -/

theorem next_run {run : Bool} {s t : State} (hrun : run = true) :
    (Host.Outcome.next (if run then t else s) : Host.Outcome State Fault Refusal) = .next t := by
  rw [if_pos hrun]

/-- Settles O34: a step boundary by what it refills (State.stepBoundary_spec), a reservation by each of its steps. -/
theorem stepsAndReservationsRunTheirCourse : Obligations.StepsAndReservationsRunTheirCourse := by
  unfold Obligations.StepsAndReservationsRunTheirCourse
  refine ⟨fun s hruns hadmits => ⟨_, next_run hruns, ?_⟩, fun s id r hruns hfind => ⟨_, next_run hruns, State.startResv_spec hfind⟩,
    fun s id r hruns hadmits hfind hopen => ⟨_, next_run hruns, ?_⟩,
    fun s id r hruns hfind hbias hshares hopen => ⟨_, next_run hruns, State.startPrebias_spec hfind hbias hshares hopen⟩,
    fun s id r hruns hfind => ⟨_, next_run hruns, State.resvEnd_spec hfind⟩⟩
  · rw [State.arb_noteReasons, State.skyNs_noteReasons]
    exact State.stepBoundary_spec hadmits
  · rw [State.arb_noteReasons, State.skyNs_noteReasons]
    exact State.resvTimeT_spec hadmits hfind hopen

end Sys2Proof.Machine
end

section
/-! SUPPORT for O33 (R117, R127, R154, R156): what the arbiter counts, and against which bounds. Both depend on the agents, the
reservations, USER's caps and a few registers alone, which a revocation pass and an entry in a ring leave as they are. -/

namespace Sys2Proof.Machine

/-! ### Bounds -/

/-- A register of the quanta of the classes, of the ceiling, of trickle and floors, or of the contexts. -/
def isBound (off : Nat) : Prop :=
  off = ADM_CLASS_Q ∨ off = ADM_CEILING ∨ off = ADM_CTRL ∨ (∃ c, off = AGT_CFG c) ∨ (∃ x, off = ADM_CTX_MAX x) ∨ ∃ x, off = ADM_CTX_MIN x

/-- From `s` to `t` the registers of the bounds and USER's caps are the same. -/
structure State.SameBounds (s t : State) : Prop where
  reg : ∀ off, isBound off → t.reg off = s.reg off
  fw : t.fw = s.fw

theorem State.SameBounds.trans {s t u : State} (h : s.SameBounds t) (k : t.SameBounds u) : s.SameBounds u :=
  ⟨fun off hb => (k.reg off hb).trans (h.reg off hb), k.fw.trans h.fw⟩

/-- The registers that a pass, and a look at the throttle reasons after it, may change. -/
def passRegs : List Place :=
  [.ADM_STATUS, .RING_STATUS, .RING_TRIG_T, .BUD_RSN_ACTIVE, .BUD_RSN_CNT, .BUD_RSN_NS, .AGT_STATUS, .AGT_ENG, .AGT_LAST, .AGT_RING_HEAD]

/-- All that they may change. -/
def passPlaces : List Place := [.now, .sky, .agents, .arb, .drp, .rings, .lim] ++ passRegs

theorem range_of_passRegs {off : Nat} (h : inPlaces passRegs off) :
    off < 0x10000 ∨ off = 0x10030 ∨ (0x20000 ≤ off ∧ off < 0x30000) ∨ (0x40000 ≤ off ∧ off % 1024 ≠ 0) := by
  obtain ⟨p, hp, hi⟩ := h
  simp only [passRegs, List.mem_cons, List.not_mem_nil, or_false] at hp
  rcases hp with rfl | rfl | rfl | rfl | rfl | rfl | rfl | rfl | rfl | rfl
  · exact .inr (.inl hi)
  · have hi : off = 0x28018 := hi
    omega
  · obtain ⟨k, hk⟩ : ∃ k, off = 0x2801C + 0x4 * (k % 2) := hi
    omega
  · have hi : off = 0xA058 := hi
    omega
  · obtain ⟨k, hk⟩ : ∃ k, off = 0xA100 + 0x4 * (k % 16) := hi
    omega
  · obtain ⟨k, hk⟩ : ∃ k, off = 0xA200 + 0x4 * (k % 32) := hi
    omega
  · obtain ⟨k, hk⟩ : ∃ k, off = 0x40004 + 0x400 * (k % 320) := hi
    omega
  · obtain ⟨k, hk⟩ : ∃ k, off = 0x40008 + 0x400 * (k % 320) := hi
    omega
  · obtain ⟨k, hk⟩ : ∃ k, off = 0x4000C + 0x400 * (k % 320) := hi
    omega
  · obtain ⟨k, hk⟩ : ∃ k, off = 0x403C0 + 0x400 * (k % 320) := hi
    omega

theorem range_of_isBound {off : Nat} (h : isBound off) :
    (0x10000 ≤ off ∧ off < 0x10030) ∨ (0x11000 ≤ off ∧ off < 0x13000) ∨ (0x40000 ≤ off ∧ off % 1024 = 0) := by
  simp only [isBound, ADM_CLASS_Q, ADM_CEILING, ADM_CTRL, AGT_CFG, ADM_CTX_MAX, ADM_CTX_MIN] at h
  rcases h with h | h | h | ⟨c, h⟩ | ⟨x, h⟩ | ⟨x, h⟩ <;> omega

theorem not_passPlaces_of_isBound {off : Nat} (h : isBound off) : ¬ inPlaces passPlaces off := by
  rintro ⟨p, hp, hi⟩
  rcases List.mem_append.mp hp with hpart | hreg
  · have hlow : ∀ q ∈ ([.now, .sky, .agents, .arb, .drp, .rings, .lim] : List Place), q.ctorIdx < 36 := by decide
    exact absurd (isReg_of_inPlace hi) (Nat.not_le_of_lt (hlow p hpart))
  · have hbound := range_of_isBound h
    have hpass := range_of_passRegs ⟨p, hreg, hi⟩
    omega

/-- The mask of what a pass may change. -/
abbrev passMask : Nat := placesMask passPlaces

theorem State.SameBounds.of_kept {s t : State} (h : Kept passMask s t) : s.SameBounds t :=
  ⟨fun off hb => h.reg off (fun p hp hi => not_passPlaces_of_isBound hb ⟨p, mem_of_placesMask hp, hi⟩), h.fw (by decide)⟩

section
variable {s t : State} (h : s.SameBounds t)
include h

theorem State.SameBounds.fld (f : Fld) (hf : isBound f.off) : t.fld f = s.fld f := by
  unfold State.fld
  rw [h.reg _ hf]

theorem State.SameBounds.quanta (cls : Nat) : t.quanta cls = s.quanta cls := by
  unfold State.quanta
  rw [h.reg _ (.inl rfl)]

theorem State.SameBounds.ceiling : t.ceiling = s.ceiling := h.fld ADM_CEILING.CEIL (.inr (.inl rfl))

theorem State.SameBounds.ctxOf (c : Nat) : t.ctxOf c = s.ctxOf c :=
  h.fld (AGT_CFG.CTX c) (.inr (.inr (.inr (.inl ⟨c, rfl⟩))))

theorem State.SameBounds.capQ (x : Nat) : t.capQ x = s.capQ x := by
  unfold State.capQ State.ctxMax
  rw [h.ceiling, h.fw, h.fld (ADM_CTX_MAX.MAX x) (.inr (.inr (.inr (.inr (.inl ⟨x, rfl⟩)))))]

theorem State.SameBounds.floorQ (x : Nat) : t.floorQ x = s.floorQ x := by
  unfold State.floorQ State.flag
  rw [h.ceiling, h.fld ADM_CTRL.FLOOR_EN (.inr (.inr (.inl rfl))),
    h.fld (ADM_CTX_MIN.MIN x) (.inr (.inr (.inr (.inr (.inr ⟨x, rfl⟩)))))]

theorem State.SameBounds.trickleFor (n : Nat) : t.trickleFor n = s.trickleFor n := by
  unfold State.trickleFor
  rw [h.quanta, h.fld ADM_CTRL.TRICKLE (.inr (.inr (.inl rfl)))]

theorem State.SameBounds.engineQuanta (x : Engine) : t.engineQuanta x = s.engineQuanta x := by
  unfold State.engineQuanta
  simp only [h.quanta]

theorem State.SameBounds.freedBy (x : Engine) : t.freedBy x = s.freedBy x := by
  unfold State.freedBy
  rw [h.engineQuanta, h.quanta]

theorem State.SameBounds.grantedOf (a : Agent) : t.grantedOf a = s.grantedOf a := by
  unfold State.grantedOf
  rw [funext h.engineQuanta]

end

/-! ### Counts -/

/-- From `s` to `t` what the arbiter counts, and the bounds, are the same. -/
structure State.SameCounts (s t : State) : Prop extends State.SameBounds s t where
  agents : t.agents = s.agents
  resvs : t.arb.resvs = s.arb.resvs

section
variable {s t : State} (h : s.SameCounts t)
include h

theorem State.SameCounts.outstandingOf (p : Nat → Bool) : t.outstandingOf p = s.outstandingOf p := by
  unfold State.outstandingOf
  simp only [h.agents, h.resvs, h.grantedOf]

theorem State.SameCounts.excess : t.excess = s.excess := by
  unfold State.excess State.outstanding State.trickleAllow State.waitingOf
  rw [h.outstandingOf, h.trickleFor, h.agents, h.ceiling]

theorem State.SameCounts.ctxOut (x : Nat) : t.ctxOut x = s.ctxOut x := by
  unfold State.ctxOut
  rw [funext h.ctxOf, h.outstandingOf]

end

end Sys2Proof.Machine
end

section
/-! SUPPORT for O33 (R140–R142): one nanosecond of a revocation pass, step by step. What it keeps of the counts, which engines it
may change, and in which order. -/

namespace Sys2Proof.Machine

/-! ### The steps of a pass -/

/-- A pass runs from now on, with no allowance yet. -/
def State.passBegun (s : State) : State :=
  if s.arb.revoking then s
  else (({ s with arb := { s.arb with revoking := true, allow := 0, reclaimed := 0, revAt := s.now } } : State).logArb 0x23
    (dataBytes ([0, 0] ++ leBytes 2 0 ++ leBytes 2 s.outstanding))).ringEvent 4

/-- The allowance grows by the downward slope since it last grew. -/
def State.allowanceGrown (s : State) : State :=
  { s with arb := { s.arb with
    allow := s.arb.allow + slopeQuanta (s.fld ADM_SLOPE_DN.DN) (s.now - s.arb.revAt)
    revAt := s.now } }

/-- Unclaimed quanta of reservations are taken, up to the excess. -/
def State.unclaimedTaken (s : State) : State :=
  { s with arb := { s.arb with
    resvs := (reclaimResvs s.arb.resvs s.excess).1
    reclaimed := s.arb.reclaimed + (s.excess - (reclaimResvs s.arb.resvs s.excess).2) } }

/-- The state in which a nanosecond of a pass begins to take. -/
def State.passStart (s : State) : State := (s.passBegun.advance 1).allowanceGrown

/-- The state in which it begins to revoke. -/
def State.passAsked (s : State) : State := s.passStart.unclaimedTaken.reclaimStores

/-- The state in which it has revoked. -/
def State.passRevoked (s : State) : State := ((s.passAsked.revokeKind 0).revokeKind 1).revokeKind 2

/-- A pass with nothing left above the ceiling is over. -/
def State.passSettled (s : State) : State := if s.excess = 0 then s.endPass else s

theorem State.revocationCycle_eq {s : State} (h : 0 < s.excess) :
    s.revocationCycle = s.passRevoked.checkWave.passSettled.repay := by
  unfold State.revocationCycle
  rw [if_neg (Nat.ne_of_gt h)]
  rfl

/-! ### What leaves the counts alone -/

theorem State.sameCounts_checkWave (s : State) : s.SameCounts s.checkWave :=
  have hkept := State.checkWave_keeps passMask s s (by decide) (Kept.refl _ s)
  ⟨.of_kept hkept, (State.checkWave_keeps (allBut .agents) s s (by decide) (Kept.refl _ s)).agents (by decide), s.checkWave_sameBooks.resvs⟩

theorem State.endPass_spec (s : State) : s.endPass.agents = s.agents ∧ s.endPass.arb = { s.arb with revoking := false } := by
  unfold State.endPass
  split
  · exact ⟨(State.logArb_keeps (allBut .agents) _ _ _ _ (by decide) (Kept.refl _ _)).agents (by decide), State.arb_logArb _ _ _⟩
  · next h => exact ⟨rfl, by rw [Bool.not_eq_true] at h; rw [← h]⟩

theorem State.sameCounts_endPass (s : State) : s.SameCounts s.endPass :=
  ⟨.of_kept (State.endPass_keeps passMask s s (by decide) (Kept.refl _ s)), s.endPass_spec.1,
    by rw [s.endPass_spec.2]⟩

/-- A repayment changes the ledger alone (R312). -/
theorem State.repay_spec (s : State) : ∃ l, s.repay = { s with arb := { s.arb with ledger := l } } := by
  unfold State.repay
  dsimp only
  split_ifs
  · exact ⟨_, rfl⟩
  · exact ⟨_, rfl⟩
  · exact ⟨s.arb.ledger, rfl⟩

theorem State.sameCounts_repay (s : State) : s.SameCounts s.repay := by
  obtain ⟨l, hl⟩ := s.repay_spec
  rw [hl]
  exact ⟨⟨fun _ _ => rfl, rfl⟩, rfl, rfl⟩

theorem State.sameCounts_noteReasons (s : State) : s.SameCounts s.noteReasons :=
  ⟨.of_kept (State.noteReasons_keeps passMask s s (by decide) (Kept.refl _ s)),
    (State.noteReasons_keeps (allBut .agents) s s (by decide) (Kept.refl _ s)).agents (by decide), congrArg Arbiter.resvs s.arb_noteReasons⟩

theorem State.SameCounts.trans {s t u : State} (h : s.SameCounts t) (k : t.SameCounts u) : s.SameCounts u :=
  ⟨h.toSameBounds.trans k.toSameBounds, k.agents.trans h.agents, k.resvs.trans h.resvs⟩

theorem State.SameCounts.agent {s t : State} (h : s.SameCounts t) (c : Nat) : t.agent c = s.agent c := State.agent_congr h.agents c

/-! ### A pass begins -/

theorem State.passBegun_spec (s : State) : s.SameCounts s.passBegun ∧ s.passBegun.now = s.now ∧ s.passBegun.arb.revoking = true ∧
    s.passBegun.arb.allow = (if s.arb.revoking then s.arb.allow else 0) ∧
    s.passBegun.now + 1 - s.passBegun.arb.revAt = (if s.arb.revoking then s.now + 1 - s.arb.revAt else 1) ∧
    s.passBegun.fld ADM_SLOPE_DN.DN = s.fld ADM_SLOPE_DN.DN := by
  unfold State.passBegun
  by_cases hruns : s.arb.revoking = true
  · rw [if_pos hruns, if_pos hruns, if_pos hruns]
    exact ⟨⟨⟨fun _ _ => rfl, rfl⟩, rfl, rfl⟩, rfl, hruns, rfl, rfl, rfl⟩
  · rw [if_neg hruns, if_neg hruns, if_neg hruns]
    generalize hu : ({ s with arb := { s.arb with revoking := true, allow := 0, reclaimed := 0, revAt := s.now } } : State) = u
    have hkept := State.ringEvent_keeps (placesMask [.rings, .RING_STATUS, .RING_TRIG_T]) u _ 4 (by decide)
      (State.logArb_keeps _ u u 0x23 (dataBytes ([0, 0] ++ leBytes 2 0 ++ leBytes 2 s.outstanding)) (by decide) (Kept.refl _ u))
    have hwide := State.ringEvent_keeps passMask u _ 4 (by decide)
      (State.logArb_keeps _ u u 0x23 (dataBytes ([0, 0] ++ leBytes 2 0 ++ leBytes 2 s.outstanding)) (by decide) (Kept.refl _ u))
    have hsame : s.SameCounts u := by
      rw [← hu]
      exact ⟨⟨fun _ _ => rfl, rfl⟩, rfl, rfl⟩
    rw [hkept.now (by decide), hkept.arb (by decide), hkept.fld ADM_SLOPE_DN.DN (by decide)]
    refine ⟨hsame.trans ⟨.of_kept hwide, hkept.agents (by decide), congrArg Arbiter.resvs (hkept.arb (by decide))⟩, ?_⟩
    rw [← hu]
    exact ⟨rfl, rfl, rfl, Nat.add_sub_cancel_left s.now 1, rfl⟩

/-- As a nanosecond of a pass begins, the allowance has grown by the downward slope, and nothing that counts has changed. -/
theorem State.passStart_spec (s : State) : s.SameCounts s.passStart ∧ s.passStart.now = s.now + 1 ∧ s.passStart.arb.revoking = true ∧
    s.passStart.arb.allow = (if s.arb.revoking then s.arb.allow else 0) +
      slopeQuanta (s.fld ADM_SLOPE_DN.DN) (if s.arb.revoking then s.now + 1 - s.arb.revAt else 1) := by
  obtain ⟨hsame, hnow, hruns, hallow, hsince, hslope⟩ := s.passBegun_spec
  rw [← hallow, ← hsince, ← hslope, ← hnow]
  exact ⟨hsame.trans ⟨⟨fun _ _ => rfl, rfl⟩, rfl, rfl⟩, rfl, hruns, rfl⟩

/-! ### Unclaimed quanta -/

theorem takeUnclaimed_spec (m : SMap Nat) (n : Nat) :
    ((takeUnclaimed m n).1.map (fun p => p.2)).sum = (m.map (fun p => p.2)).sum - n ∧
    (takeUnclaimed m n).2 = n - (m.map (fun p => p.2)).sum := by
  induction m generalizing n with
  | nil => simp [takeUnclaimed]
  | cons p m ih =>
    obtain ⟨c, q⟩ := p
    unfold takeUnclaimed
    obtain ⟨hleft, hshort⟩ := ih (n - q)
    split <;> simp only [List.map_cons, List.sum_cons, hleft, hshort] <;> omega

/-- No cluster's unclaimed quanta grow. -/
theorem takeUnclaimed_le (m : SMap Nat) (n : Nat) (p : Nat → Bool) :
    (((takeUnclaimed m n).1.filter (fun q => p q.1)).map (fun q => q.2)).sum ≤ ((m.filter (fun q => p q.1)).map (fun q => q.2)).sum := by
  induction m generalizing n with
  | nil => simp [takeUnclaimed]
  | cons q m ih =>
    obtain ⟨c, k⟩ := q
    unfold takeUnclaimed
    have hrest := ih (n - k)
    cases hc : p c
    · split
      · simp [hc]
      · simpa [hc] using hrest
    · split
      · simp [hc]
      · refine hrest.trans ?_
        simp [hc]

theorem open_all (r : Reservation) : r.open_ (fun _ => true) = (r.unclaimed.map (fun p => p.2)).sum := by
  unfold Reservation.open_
  rw [List.filter_true]

theorem reclaimResvs_cons (r : Reservation) (rs : List Reservation) (n : Nat) : (reclaimResvs (r :: rs) n).1 =
    r.keeps (takeUnclaimed r.unclaimed n).1 :: (reclaimResvs rs (takeUnclaimed r.unclaimed n).2).1 := rfl

theorem open_keeps (r : Reservation) (u : SMap Nat) (p : Nat → Bool) :
    (r.keeps u).open_ p = ((u.filter (fun q => p q.1)).map (fun q => q.2)).sum := rfl

theorem reclaimResvs_spec (rs : List Reservation) (n : Nat) :
    ((reclaimResvs rs n).1.map (fun r => r.open_ (fun _ => true))).sum = (rs.map (fun r => r.open_ (fun _ => true))).sum - n := by
  induction rs generalizing n with
  | nil => simp [reclaimResvs]
  | cons r rs ih =>
    obtain ⟨hleft, hshort⟩ := takeUnclaimed_spec r.unclaimed n
    have hrest := ih (takeUnclaimed r.unclaimed n).2
    rw [reclaimResvs_cons, List.map_cons, List.map_cons, List.sum_cons, List.sum_cons, hrest, hshort, open_keeps, List.filter_true,
      hleft, open_all]
    omega

theorem reclaimResvs_le (rs : List Reservation) (n : Nat) (p : Nat → Bool) :
    ((reclaimResvs rs n).1.map (fun r => r.open_ p)).sum ≤ (rs.map (fun r => r.open_ p)).sum := by
  induction rs generalizing n with
  | nil => simp [reclaimResvs]
  | cons r rs ih =>
    rw [reclaimResvs_cons, List.map_cons, List.map_cons, List.sum_cons, List.sum_cons, open_keeps]
    exact Nat.add_le_add (takeUnclaimed_le r.unclaimed n p) (ih _)

theorem State.sameBounds_unclaimedTaken (s : State) : s.SameBounds s.unclaimedTaken := ⟨fun _ _ => rfl, rfl⟩

theorem State.outstandingOf_unclaimedTaken_le (s : State) (p : Nat → Bool) : s.unclaimedTaken.outstandingOf p ≤ s.outstandingOf p :=
  Nat.add_le_add_left (reclaimResvs_le s.arb.resvs s.excess p) _

/-- Where the reservations have that many unclaimed quanta, none is left above the ceiling. -/
theorem State.excess_unclaimedTaken {s : State} (h : s.excess ≤ (s.arb.resvs.map (fun r => (r.unclaimed.map (fun p => p.2)).sum)).sum) :
    s.unclaimedTaken.excess = 0 := by
  have hleft := reclaimResvs_spec s.arb.resvs s.excess
  simp only [← open_all] at h
  have hafter : s.unclaimedTaken.excess = (s.agents.filter (fun _ => true) |>.map (fun q => s.grantedOf q.2 + q.2.stored)).sum +
      ((reclaimResvs s.arb.resvs s.excess).1.map (fun r => r.open_ (fun _ => true))).sum + s.trickleAllow - s.ceiling := rfl
  have hbefore : s.excess = (s.agents.filter (fun _ => true) |>.map (fun q => s.grantedOf q.2 + q.2.stored)).sum +
      (s.arb.resvs.map (fun r => r.open_ (fun _ => true))).sum + s.trickleAllow - s.ceiling := rfl
  omega

end Sys2Proof.Machine
end

section
/-! SUPPORT for O33 (R140–R142): the order in which a pass asks and revokes. A grant is revoked only while something is left above
the ceiling and of the allowance, which never comes back once it is gone; what fits a bound fits it to the end, where the agents
are listed in order with four engines each (R4). -/

namespace Sys2Proof.Machine

/-! ### Agents listed in order -/

/-- The agents are listed in order, each with the four engines that a cluster has (R4). -/
def State.agentsListed (s : State) : Prop := SMap.rising s.agents ∧ ∀ p ∈ s.agents, p.2.engines.length = 4

theorem State.agent_setAgent_other (s : State) {c d : Nat} (a : Agent) (h : c ≠ d) : (s.setAgent c a).agent d = s.agent d :=
  SMap.get_put_other _ _ _ _ _ h

/-- What is not as an unlisted agent is listed. -/
theorem SMap.mem_of_get_ne {α : Type} {d : Nat → α} {m : SMap α} {k : Nat} (h : SMap.get d m k ≠ d k) : (k, SMap.get d m k) ∈ m := by
  induction m with
  | nil => exact absurd rfl h
  | cons p m ih =>
    obtain ⟨a, w⟩ := p
    unfold SMap.get at h ⊢
    split
    · next hk => rw [hk]; exact List.mem_cons_self
    · next hk =>
      rw [if_neg hk] at h
      exact List.mem_cons_of_mem _ (ih h)

theorem SMap.drop_sublist {α : Type} (m : SMap α) (k : Nat) : (SMap.drop m k).Sublist m := by
  induction m with
  | nil => exact List.Sublist.refl _
  | cons p m ih =>
    obtain ⟨a, w⟩ := p
    unfold SMap.drop
    split
    · exact ih.cons _
    · exact ih.cons_cons _

/-- A listed entry that is replaced by one that counts for no more lets no sum over the entries grow. -/
theorem SMap.sum_put_le {α : Type} [DecidableEq α] {d : Nat → α} {m : SMap α} {k : Nat} {v : α} (hm : SMap.rising m)
    (hk : (k, SMap.get d m k) ∈ m) (p : Nat → Bool) (f : α → Nat) (hv : f v ≤ f (SMap.get d m k)) :
    (((SMap.put d m k v).filter (fun q => p q.1)).map (fun q => f q.2)).sum ≤
      ((m.filter (fun q => p q.1)).map (fun q => f q.2)).sum := by
  unfold SMap.put
  split
  · exact (((SMap.drop_sublist m k).filter _).map _).sum_le_sum (fun _ _ => Nat.zero_le _)
  · induction m with
    | nil => exact absurd hk List.not_mem_nil
    | cons q m ih =>
      obtain ⟨a, w⟩ := q
      obtain ⟨hless, hrest⟩ := List.pairwise_cons.mp hm
      unfold SMap.get at hk hv
      unfold SMap.enter
      by_cases hak : a = k
      · rw [if_pos hak] at hv
        rw [if_pos hak, hak]
        cases hpk : p k
        · simp [hpk]
        · simp [hpk, hv]
      · rw [if_neg hak] at hk hv
        have hmem := (List.mem_cons.mp hk).resolve_left (fun he => hak (congrArg Prod.fst he).symm)
        rw [if_neg hak, if_neg (Nat.not_lt_of_le (Nat.le_of_lt (hless _ hmem)))]
        have htail := ih hrest hmem hv
        cases hpa : p a
        · simpa [hpa] using htail
        · simpa [hpa] using htail

theorem State.agentsListed_setAgent {s : State} (h : s.agentsListed) (c : Nat) {a : Agent} (ha : a.engines.length = 4) :
    (s.setAgent c a).agentsListed := by
  obtain ⟨hrising, hfour⟩ := h
  unfold State.agentsListed State.setAgent SMap.put
  split
  · exact ⟨SMap.rising_drop _ _ hrising, fun p hp => hfour p (SMap.mem_drop _ _ _ hp)⟩
  · refine ⟨SMap.rising_enter _ _ _ hrising, fun p hp => ?_⟩
    rcases SMap.mem_enter _ _ _ _ hp with rfl | hp
    · exact ha
    · exact hfour p hp

/-! ### Counts that never grow -/

/-- From `s` to `t` the bounds stay, the agents stay listed, and of no clusters more is outstanding. -/
structure State.Lowered (s t : State) : Prop extends State.SameBounds s t where
  listed : t.agentsListed
  out : ∀ p, t.outstandingOf p ≤ s.outstandingOf p

theorem State.Lowered.refl {s : State} (h : s.agentsListed) : s.Lowered s := ⟨⟨fun _ _ => rfl, rfl⟩, h, fun _ => Nat.le_refl _⟩

theorem State.Lowered.trans {s t u : State} (h : s.Lowered t) (k : t.Lowered u) : s.Lowered u :=
  ⟨h.toSameBounds.trans k.toSameBounds, k.listed, fun p => (k.out p).trans (h.out p)⟩

theorem State.SameCounts.lowered {s t : State} (h : s.SameCounts t) (hs : s.agentsListed) : s.Lowered t :=
  ⟨h.toSameBounds, by unfold State.agentsListed; rw [h.agents]; exact hs, fun p => Nat.le_of_eq (h.outstandingOf p)⟩

theorem State.Lowered.ctxOut_le {s t : State} (h : s.Lowered t) (x : Nat) : t.ctxOut x ≤ s.ctxOut x := by
  unfold State.ctxOut
  rw [funext h.ctxOf]
  exact h.out _

/-- A listed agent that comes to count for no more lowers what is outstanding. -/
theorem State.Lowered.setAgent {s : State} (h : s.agentsListed) {c : Nat} {a : Agent} (hmem : (c, s.agent c) ∈ s.agents)
    (ha : a.engines.length = 4) (hless : s.grantedOf a + a.stored ≤ s.grantedOf (s.agent c) + (s.agent c).stored) :
    s.Lowered (s.setAgent c a) :=
  ⟨⟨fun _ _ => rfl, rfl⟩, State.agentsListed_setAgent h c ha,
    fun p => Nat.add_le_add_right (SMap.sum_put_le h.1 hmem p (fun a => s.grantedOf a + a.stored) hless) _⟩

/-! ### One grant is revoked -/

/-- From `a` to `b` an agent keeps its stores and every engine but `e`, which has no grant left and none on its way. -/
structure Agent.RevokedAt (a b : Agent) (e : Nat) : Prop where
  stored : b.stored = a.stored
  four : b.engines.length = 4
  grant : (b.engine e).grant = 0
  incoming : (b.engine e).incoming = none
  other : ∀ f, f < 4 → f ≠ e → b.engine f = a.engine f

/-- From `u` to `t` the grant of engine `e` of cluster `c` is revoked, and of the allowance no more is left. -/
structure State.RevokesAt (u t : State) (c e : Nat) : Prop where
  held : u.freedBy ((u.agent c).engine e) ≠ 0
  agents : ∃ b, (u.agent c).RevokedAt b e ∧ t.agents = (u.setAgent c b).agents
  resvs : t.arb.resvs = u.arb.resvs
  revoking : t.arb.revoking = u.arb.revoking
  allow : t.arb.allow ≤ u.arb.allow
  kept : Kept passMask u t

theorem Agent.revokedAt_setEngine (a : Agent) {e : Nat} (he : e < 4) {x : Engine} (hgrant : x.grant = 0) (hincoming : x.incoming = none)
    (cnt : AgentCounters) : a.RevokedAt { a.setEngine e x with cnt := cnt } e where
  stored := rfl
  four := rfl
  grant := (congrArg Engine.grant (Agent.engine_setEngine_same a x he)).trans hgrant
  incoming := (congrArg Engine.incoming (Agent.engine_setEngine_same a x he)).trans hincoming
  other _ hf hne := (Agent.engine_setEngine a e x hf).trans (if_neg hne)

theorem Engine.incoming_beginWait (x : Engine) (now : Nat) : (x.beginWait now).incoming = x.incoming := by
  unfold Engine.beginWait
  split <;> rfl

/-- An engine as the revocation of its grant leaves it (R141). -/
def Engine.revoke (x : Engine) (now : Nat) : Engine :=
  let x1 : Engine := { x with grant := 0, incoming := none }
  let x2 := if x1.waitFrom.isSome then x1 else { x1 with sentAt := now, arbAt := some now, stileAt := none }
  if x.req = 0 then x1 else { x2.beginWait now with revoked := true }

theorem Engine.revoke_spec (x : Engine) (now : Nat) : (x.revoke now).grant = 0 ∧ (x.revoke now).incoming = none := by
  unfold Engine.revoke
  dsimp only
  split
  · exact ⟨rfl, rfl⟩
  · obtain ⟨-, hgrant, -⟩ := Engine.beginWait_keeps (if x.waitFrom.isSome then { x with grant := 0, incoming := none }
      else { x with grant := 0, incoming := none, sentAt := now, arbAt := some now, stileAt := none }) now
    refine ⟨hgrant.trans ?_, (Engine.incoming_beginWait _ now).trans ?_⟩
    · split <;> rfl
    · split <;> rfl

/-- An agent as the revocation of a grant leaves it. -/
def Agent.revoke (a : Agent) (e now : Nat) : Agent :=
  { a.setEngine e ((a.engine e).revoke now) with cnt := { a.cnt with revokes := (a.cnt.revokes + 1) % 256 } }

/-- The arbiter as the revocation of `q` quanta leaves it. -/
def Arbiter.revoke (b : Arbiter) (c e req q : Nat) : Arbiter :=
  { b with
    slots := if req = 0 then dropSlot b.slots c e else headOfStripe c e req (dropSlot b.slots c e)
    ff := b.ff - q
    allow := b.allow - (q * 1024 : Nat)
    reclaimed := b.reclaimed + q }

/-- The state once a grant is revoked, before it is shown. -/
def State.grantRevoked (u : State) (c e : Nat) : State :=
  ({ u.setAgent c ((u.agent c).revoke e u.now) with
    arb := u.arb.revoke c e ((u.agent c).engine e).req (u.freedBy ((u.agent c).engine e)) }).setFlag ADM_STATUS.REVOKED true

theorem State.revokeEngine_eq {u : State} {c e : Nat} (h : u.freedBy ((u.agent c).engine e) ≠ 0) :
    u.revokeEngine c e =
      ((u.grantRevoked c e).logAgent c 0x03 (dataBytes [e, ((u.agent c).engine e).counted])).shadow c := by
  unfold State.revokeEngine
  exact if_neg h

/-- A grant that frees nothing is left alone. -/
theorem State.revokeEngine_of_free {u : State} {c e : Nat} (h : u.freedBy ((u.agent c).engine e) = 0) : u.revokeEngine c e = u :=
  if_pos h

/-- A revocation takes the grant of one engine (R141). -/
theorem State.revokesAt_revokeEngine {u : State} {c e : Nat} (he : e < 4) (h : u.freedBy ((u.agent c).engine e) ≠ 0) :
    u.RevokesAt (u.revokeEngine c e) c e := by
  have hshown : Kept (placesMask [.rings, .RING_STATUS, .AGT_STATUS, .AGT_ENG, .AGT_LAST, .AGT_RING_HEAD]) (u.grantRevoked c e)
      (u.revokeEngine c e) := by
    rw [State.revokeEngine_eq h]
    exact State.shadow_keeps _ _ _ c (by decide) (State.logAgent_keeps _ _ _ c _ _ (by decide) (Kept.refl _ _))
  have harb : (u.revokeEngine c e).arb = u.arb.revoke c e ((u.agent c).engine e).req (u.freedBy ((u.agent c).engine e)) :=
    hshown.arb (by decide)
  obtain ⟨hgrant, hincoming⟩ := Engine.revoke_spec ((u.agent c).engine e) u.now
  exact {
    held := h
    agents := ⟨_, Agent.revokedAt_setEngine (u.agent c) he hgrant hincoming _, hshown.agents (by decide)⟩
    resvs := by rw [harb]; rfl
    revoking := by rw [harb]; rfl
    allow := by rw [harb]; exact Int.sub_le_self _ (Int.natCast_nonneg _)
    kept := State.revokeEngine_keeps passMask u u c e (by decide) (Kept.refl _ u) }

section
variable {u t : State} {c e : Nat} (h : u.RevokesAt t c e)
include h

theorem State.RevokesAt.agent_other {d : Nat} (hd : d ≠ c) : t.agent d = u.agent d := by
  obtain ⟨b, -, hb⟩ := h.agents
  exact (State.agent_congr hb d).trans (u.agent_setAgent_other b hd.symm)

theorem State.RevokesAt.agent_same : (u.agent c).RevokedAt (t.agent c) e := by
  obtain ⟨b, hrevoked, hb⟩ := h.agents
  rw [State.agent_congr hb c, State.agent_setAgent_same]
  exact hrevoked

theorem State.RevokesAt.stored (d : Nat) : (t.agent d).stored = (u.agent d).stored := by
  by_cases hd : d = c
  · rw [hd]
    exact h.agent_same.stored
  · rw [h.agent_other hd]

theorem State.RevokesAt.engine_other {d f : Nat} (hf : f < 4) (hne : ¬ (d = c ∧ f = e)) :
    (t.agent d).engine f = (u.agent d).engine f := by
  by_cases hd : d = c
  · subst hd
    exact h.agent_same.other f hf (fun hfe => hne ⟨rfl, hfe⟩)
  · rw [h.agent_other hd]

theorem State.RevokesAt.sameBounds : u.SameBounds t := .of_kept h.kept

/-- The revoked engine has nothing left to free. -/
theorem State.RevokesAt.freedBy : t.freedBy ((t.agent c).engine e) = 0 := by
  unfold State.freedBy State.engineQuanta
  rw [h.agent_same.grant, h.agent_same.incoming]
  exact Nat.sub_self _

end

/-- The engines of an agent that lists four, one by one. -/
theorem State.grantedOf_four (u : State) {a : Agent} (h : a.engines.length = 4) :
    u.grantedOf a = u.engineQuanta (a.engine 0) + u.engineQuanta (a.engine 1) + u.engineQuanta (a.engine 2) + u.engineQuanta (a.engine 3) := by
  unfold State.grantedOf Agent.engine
  match a.engines, h with
  | [x0, x1, x2, x3], _ =>
    simp only [List.map_cons, List.map_nil, List.sum_cons, List.sum_nil, listGet]
    omega

/-- A revoked grant counts for no more than before. -/
theorem State.RevokesAt.engineQuanta_le {u t : State} {c e f : Nat} (h : u.RevokesAt t c e) (hf : f < 4) :
    u.engineQuanta ((t.agent c).engine f) ≤ u.engineQuanta ((u.agent c).engine f) := by
  by_cases hfe : f = e
  · have hheld := h.held
    have hfreed := h.freedBy
    rw [h.sameBounds.freedBy] at hfreed
    unfold State.freedBy at hheld hfreed
    rw [hfe]
    omega
  · rw [h.engine_other hf (fun hboth => hfe hboth.2)]

/-- An engine with something to free belongs to a listed agent. -/
theorem State.mem_agents_of_freedBy {u : State} {c e : Nat} (h : u.freedBy ((u.agent c).engine e) ≠ 0) : (c, u.agent c) ∈ u.agents := by
  refine SMap.mem_of_get_ne (d := agentDefault) (fun hnone => h ?_)
  have hidle : ∀ e, Agent.engine {} e = {} := fun e =>
    match e with
    | 0 | 1 | 2 | 3 => rfl
    | _ + 4 => rfl
  rw [show u.agent c = {} from hnone, hidle]
  exact Nat.sub_self _

/-- A revocation lowers what is outstanding. -/
theorem State.RevokesAt.lowered {u t : State} {c e : Nat} (h : u.RevokesAt t c e) (hu : u.agentsListed) : u.Lowered t := by
  have hmem := State.mem_agents_of_freedBy h.held
  obtain ⟨b, hb, hagents⟩ := h.agents
  have hset : t.agent c = b := by rw [State.agent_congr hagents c, State.agent_setAgent_same]
  have hless : u.grantedOf b + b.stored ≤ u.grantedOf (u.agent c) + (u.agent c).stored := by
    have hfour : (u.agent c).engines.length = 4 := hu.2 _ hmem
    rw [u.grantedOf_four hb.four, u.grantedOf_four hfour, hb.stored, ← hset]
    have h0 := h.engineQuanta_le (f := 0) (by decide)
    have h1 := h.engineQuanta_le (f := 1) (by decide)
    have h2 := h.engineQuanta_le (f := 2) (by decide)
    have h3 := h.engineQuanta_le (f := 3) (by decide)
    omega
  have hset := State.Lowered.setAgent hu hmem hb.four hless
  exact hset.trans (State.SameCounts.lowered ⟨⟨h.sameBounds.reg, h.sameBounds.fw⟩, hagents, h.resvs⟩ hset.listed)

/-! ### Turns -/

/-- Is context `x` over what kind `k` of a pass's revocations leaves it? -/
def State.isOver (u : State) (k x : Nat) : Bool :=
  if k = 0 then decide (u.capQ x < u.ctxOut x) else if k = 1 then decide (u.floorQ x < u.ctxOut x) else true

theorem State.isOver_cap {u : State} {x : Nat} : u.isOver 0 x = false ↔ u.ctxOut x ≤ u.capQ x := by
  unfold State.isOver
  rw [if_pos rfl, decide_eq_false_iff_not, Nat.not_lt]

theorem State.isOver_floor {u : State} {x : Nat} : u.isOver 1 x = false ↔ u.ctxOut x ≤ u.floorQ x := by
  unfold State.isOver
  rw [if_neg (by decide), if_pos rfl, decide_eq_false_iff_not, Nat.not_lt]

/-- Nothing is left above the ceiling, or nothing of the allowance. -/
def State.halts (u : State) : Prop := u.excess = 0 ∨ u.arb.allow ≤ 0

/-- The turn of engine `p.2` of cluster `p.1` in kind `k`. -/
def State.turn (k : Nat) (p : Nat × Nat) (u : State) : State :=
  if decide (u.excess = 0) || decide (u.arb.allow ≤ 0) || !u.isOver k (u.ctxOf p.1) then u else u.revokeEngine p.1 p.2

/-- The turns of a kind, in order. -/
def State.turns (u : State) : List (Nat × Nat) := u.reclaimOrder.flatMap (fun c => [3, 2, 1, 0].map (fun e => (c, e)))

theorem State.revokeKind_eq (u : State) (k : Nat) : u.revokeKind k = each u.turns (State.turn k) u := by
  unfold State.turns each
  rw [List.foldl_flatMap]
  simp only [List.foldl_map]
  rfl

theorem State.snd_lt_of_turns {u : State} {p : Nat × Nat} (h : p ∈ u.turns) : p.2 < 4 := by
  obtain ⟨c, -, hp⟩ := List.mem_flatMap.mp h
  obtain ⟨e, he, rfl⟩ := List.mem_map.mp hp
  have hall : ∀ e ∈ [3, 2, 1, 0], e < 4 := by decide
  exact hall e he

theorem State.turn_of_halts {u : State} (h : u.halts) (k : Nat) (p : Nat × Nat) : u.turn k p = u := by
  refine if_pos ?_
  rcases h with hnone | hspent
  · simp [hnone]
  · simp [hspent]

/-- A turn changes nothing, or revokes a grant of a context that is over, while something is left to revoke and allowed. -/
theorem State.turn_spec (u : State) (k : Nat) {p : Nat × Nat} (hp : p.2 < 4) :
    u.turn k p = u ∨ (¬ u.halts ∧ u.isOver k (u.ctxOf p.1) = true ∧ u.RevokesAt (u.turn k p) p.1 p.2) := by
  unfold State.turn
  split
  · exact .inl rfl
  · next hgo =>
    simp only [Bool.or_eq_true, decide_eq_true_eq, Bool.not_eq_true', not_or, Bool.not_eq_false] at hgo
    obtain ⟨⟨hexcess, hallow⟩, hover⟩ := hgo
    by_cases hfree : u.freedBy ((u.agent p.1).engine p.2) = 0
    · exact .inl (State.revokeEngine_of_free hfree)
    · exact .inr ⟨fun hhalts => hhalts.elim hexcess hallow, hover, State.revokesAt_revokeEngine hp hfree⟩

theorem State.turn_lowered {u : State} (hu : u.agentsListed) (k : Nat) {p : Nat × Nat} (hp : p.2 < 4) : u.Lowered (u.turn k p) := by
  rcases u.turn_spec k hp with hsame | ⟨-, -, hrevokes⟩
  · rw [hsame]
    exact .refl hu
  · exact hrevokes.lowered hu

/-! ### A kind of revocations -/

/-- What every turn keeps, a kind keeps. -/
theorem State.revokeKind_induct {P : State → Prop} (k : Nat) (hP : ∀ (t : State) (p : Nat × Nat), p.2 < 4 → P t → P (t.turn k p))
    {u : State} (h : P u) : P (u.revokeKind k) := by
  rw [u.revokeKind_eq k]
  exact each_keeps_mem P (State.turn k) u.turns (fun p hp t ht => hP t p (State.snd_lt_of_turns hp) ht) u h

theorem State.revokeKind_of_halts {u : State} (h : u.halts) (k : Nat) : u.revokeKind k = u :=
  State.revokeKind_induct (P := fun t => t = u) k (fun t p _ ht => by rw [ht, State.turn_of_halts h]) rfl

theorem State.revokeKind_lowered {u : State} (hu : u.agentsListed) (k : Nat) : u.Lowered (u.revokeKind k) :=
  State.revokeKind_induct (P := fun t => u.Lowered t) k (fun _ _ hp ht => ht.trans (State.turn_lowered ht.listed k hp)) (.refl hu)

theorem State.revoking_revokeKind (u : State) (k : Nat) : (u.revokeKind k).arb.revoking = u.arb.revoking :=
  State.revokeKind_induct (P := fun t => t.arb.revoking = u.arb.revoking) k (fun t p hp ht => by
    rcases t.turn_spec k hp with hsame | ⟨-, -, hrevokes⟩
    · rw [hsame, ht]
    · rw [hrevokes.revoking, ht]) rfl

theorem State.stored_revokeKind (u : State) (k d : Nat) : ((u.revokeKind k).agent d).stored = (u.agent d).stored :=
  State.revokeKind_induct (P := fun t => (t.agent d).stored = (u.agent d).stored) k (fun t p hp ht => by
    rcases t.turn_spec k hp with hsame | ⟨-, -, hrevokes⟩
    · rw [hsame, ht]
    · rw [hrevokes.stored, ht]) rfl

/-- What does not exceed a kind's bound does not come to exceed it. -/
theorem State.Lowered.isOver {s t : State} (h : s.Lowered t) {k x : Nat} (hx : s.isOver k x = false) : t.isOver k x = false := by
  have hout := h.ctxOut_le x
  unfold State.isOver at hx ⊢
  rw [h.capQ, h.floorQ]
  split_ifs at hx ⊢
  · exact decide_eq_false (fun hover => of_decide_eq_false hx (Nat.lt_of_lt_of_le hover hout))
  · exact decide_eq_false (fun hover => of_decide_eq_false hx (Nat.lt_of_lt_of_le hover hout))

/-- A kind leaves the engines of a context that it does not reach as they are. -/
theorem State.engine_revokeKind {u : State} (hu : u.agentsListed) {k c e : Nat} (he : e < 4) (h : u.isOver k (u.ctxOf c) = false) :
    ((u.revokeKind k).agent c).engine e = (u.agent c).engine e := by
  refine (State.revokeKind_induct (P := fun t => u.Lowered t ∧ (t.agent c).engine e = (u.agent c).engine e) k
    (fun t p hp ht => ?_) ⟨.refl hu, rfl⟩).2
  obtain ⟨hlowered, hengine⟩ := ht
  refine ⟨hlowered.trans (State.turn_lowered hlowered.listed k hp), ?_⟩
  rcases t.turn_spec k hp with hsame | ⟨-, hover, hrevokes⟩
  · rw [hsame, hengine]
  · have hother : ¬ (c = p.1 ∧ e = p.2) := fun hboth => by
      rw [← hboth.1, hlowered.ctxOf, hlowered.isOver h] at hover
      exact Bool.noConfusion hover
    rw [hrevokes.engine_other he hother, hengine]

/-- Engine `e` of cluster `c` has nothing left that kind `k` revokes. -/
def State.isSettled (u : State) (k c e : Nat) : Prop := u.freedBy ((u.agent c).engine e) = 0 ∨ u.isOver k (u.ctxOf c) = false

/-- What is settled stays so. -/
theorem State.isSettled_turn {u : State} (hu : u.agentsListed) {k c e : Nat} (he : e < 4) (h : u.isSettled k c e) (j : Nat)
    {p : Nat × Nat} (hp : p.2 < 4) : (u.turn j p).isSettled k c e := by
  have hlowered := State.turn_lowered hu j hp
  rcases h with hfree | hfits
  · refine .inl ?_
    rcases u.turn_spec j hp with hsame | ⟨-, -, hrevokes⟩
    · rw [hsame, hfree]
    · by_cases hboth : c = p.1 ∧ e = p.2
      · rw [hboth.1, hboth.2]
        exact hrevokes.freedBy
      · rw [hrevokes.engine_other he hboth, hlowered.freedBy, hfree]
  · exact .inr (by rw [hlowered.ctxOf]; exact hlowered.isOver hfits)

theorem State.isSettled_revokeKind {u : State} (hu : u.agentsListed) {k c e : Nat} (he : e < 4) (h : u.isSettled k c e) (j : Nat) :
    (u.revokeKind j).isSettled k c e :=
  (State.revokeKind_induct (P := fun t => t.agentsListed ∧ t.isSettled k c e) j (fun _ _ hp ht =>
    ⟨(State.turn_lowered ht.1 j hp).listed, State.isSettled_turn ht.1 he ht.2 j hp⟩) ⟨hu, h⟩).2

/-- Its own turn settles an engine, unless the pass halts. -/
theorem State.turn_settles {u : State} (hgo : ¬ u.halts) (k c : Nat) {e : Nat} (he : e < 4) : (u.turn k (c, e)).isSettled k c e := by
  cases hover : u.isOver k (u.ctxOf c)
  · have hsame : u.turn k (c, e) = u := if_pos (by simp [hover])
    rw [hsame]
    exact .inr hover
  · have hruns : u.turn k (c, e) = u.revokeEngine c e := if_neg (by
      simp only [hover, Bool.not_true, Bool.or_false, Bool.or_eq_true, decide_eq_true_eq]
      exact hgo)
    rw [hruns]
    by_cases hfree : u.freedBy ((u.agent c).engine e) = 0
    · rw [State.revokeEngine_of_free hfree]
      exact .inl hfree
    · exact .inl (State.revokesAt_revokeEngine he hfree).freedBy

/-- A kind that does not halt settles every engine that has its turn. -/
theorem State.each_turn_settles {k c e : Nat} (he : e < 4) {ps : List (Nat × Nat)} (hps : ∀ p ∈ ps, p.2 < 4) (hmem : (c, e) ∈ ps)
    {u : State} (hu : u.agentsListed) (hgo : ¬ (each ps (State.turn k) u).halts) : (each ps (State.turn k) u).isSettled k c e := by
  induction ps generalizing u with
  | nil => exact absurd hmem List.not_mem_nil
  | cons p ps ih =>
    have hrest := fun q hq => hps q (List.mem_cons_of_mem p hq)
    have hp := hps p List.mem_cons_self
    have hlisted := (State.turn_lowered hu k hp).listed
    rcases List.mem_cons.mp hmem with rfl | hlater
    · have hrun : ¬ u.halts := fun hhalts => hgo (by
        rw [each_keeps_mem (fun t => t = u) (State.turn k) ((c, e) :: ps)
          (fun q _ t ht => by rw [ht, State.turn_of_halts hhalts]) u rfl]
        exact hhalts)
      exact (each_keeps_mem (fun t : State => t.agentsListed ∧ t.isSettled k c e) (State.turn k) ps (fun q hq t ht =>
        ⟨(State.turn_lowered ht.1 k (hrest q hq)).listed, State.isSettled_turn ht.1 he ht.2 k (hrest q hq)⟩) _
        ⟨hlisted, State.turn_settles hrun k c he⟩).2
    · exact ih hrest hlater hlisted hgo

/-! ### Who has a turn -/

/-- In each order every stripe has a place. -/
theorem mem_stripeOrder (alternate : Bool) {st : Nat} (h : st < 16) : ∃ i, i < 16 ∧ listGet 0 (stripeOrder alternate) i = st := by
  have hall : ∀ b : Bool, ∀ s < 16, ∃ i, i < 16 ∧ listGet 0 (stripeOrder b) i = s := by decide
  exact hall alternate st h

/-- Every listed cluster of the die has a place in the order in which a pass reclaims. -/
theorem State.mem_reclaimOrder {u : State} {c : Nat} (hc : c < 320) {a : Agent} (hmem : (c, a) ∈ u.agents) : c ∈ u.reclaimOrder := by
  obtain ⟨i, hi, hplace⟩ := mem_stripeOrder u.arb.order (st := stripeOf c) (by unfold stripeOf; omega)
  refine List.mem_flatMap.mpr ⟨(i + 16 - u.arb.rot % 16) % 16, ?_, ?_⟩
  · exact List.mem_reverse.mpr (List.mem_range.mpr (Nat.mod_lt _ (by decide)))
  · refine List.mem_filter.mpr ⟨List.mem_reverse.mpr (List.mem_map.mpr ⟨_, hmem, rfl⟩), ?_⟩
    have hpos : ((i + 16 - u.arb.rot % 16) % 16 + u.arb.rot) % 16 = i := by omega
    rw [beq_iff_eq, State.stripeAt, hpos, hplace]

theorem State.lt_of_hasCluster {u : State} {c : Nat} (h : u.hasCluster c = true) : c < 320 :=
  of_decide_eq_true (Bool.and_eq_true_iff.mp h).1

/-- A kind that does not halt settles every engine of the die. -/
theorem State.revokeKind_settles {u : State} (hu : u.agentsListed) {k c e : Nat} (hc : c < 320) (he : e < 4)
    (hgo : ¬ (u.revokeKind k).halts) : (u.revokeKind k).isSettled k c e := by
  by_cases hfree : u.freedBy ((u.agent c).engine e) = 0
  · exact State.isSettled_revokeKind hu he (.inl hfree) k
  · have hturn : (c, e) ∈ u.turns := by
      refine List.mem_flatMap.mpr ⟨c, State.mem_reclaimOrder hc (State.mem_agents_of_freedBy hfree), List.mem_map.mpr ⟨e, ?_, rfl⟩⟩
      have hall : ∀ e < 4, e ∈ [3, 2, 1, 0] := by decide
      exact hall e he
    rw [u.revokeKind_eq k] at hgo ⊢
    exact State.each_turn_settles he (fun p hp => State.snd_lt_of_turns hp) hturn hu hgo

/-! ### Every store is asked back first -/

/-- The turn of cluster `c` as stores are asked back. -/
def State.askTurn (c : Nat) (t : State) : State :=
  if t.excess = 0 ∨ (t.agent c).stored = 0 then t
  else { t.setAgent c { t.agent c with reclaim := true } with arb := { t.arb with reclaimed := t.arb.reclaimed + (t.agent c).stored } }

theorem State.reclaimStores_eq (u : State) : u.reclaimStores = each u.reclaimOrder State.askTurn u := rfl

theorem State.agent_askTurn (t : State) (c d : Nat) :
    (t.askTurn c).agent d = t.agent d ∨ (d = c ∧ (t.askTurn c).agent d = { t.agent d with reclaim := true }) := by
  unfold State.askTurn
  split
  · exact .inl rfl
  · by_cases hd : d = c
    · exact .inr ⟨hd, by rw [hd]; exact t.agent_setAgent_same c _⟩
    · exact .inl (t.agent_setAgent_other _ (Ne.symm hd))

/-- What is asked back is never stored anew. -/
theorem State.stored_askTurn {t : State} {d : Nat} (h : (t.agent d).stored = 0) (c : Nat) : ((t.askTurn c).agent d).stored = 0 := by
  rcases t.agent_askTurn c d with hsame | ⟨-, hasked⟩
  · rw [hsame, h]
  · rw [hasked]
    rfl

theorem State.engine_reclaimStores (u : State) (d e : Nat) : (u.reclaimStores.agent d).engine e = (u.agent d).engine e := by
  rw [u.reclaimStores_eq]
  refine each_keeps (fun t : State => (t.agent d).engine e = (u.agent d).engine e) _ (fun c t ht => ?_) _ u rfl
  rcases t.agent_askTurn c d with hsame | ⟨-, hasked⟩
  · rw [hsame, ht]
  · rw [hasked, ← ht]
    rfl

/-- To ask stores back changes neither the allowance nor the pass. -/
theorem State.arb_reclaimStores (u : State) : u.reclaimStores.arb.allow = u.arb.allow ∧ u.reclaimStores.arb.revoking = u.arb.revoking := by
  rw [u.reclaimStores_eq]
  refine each_keeps (fun t : State => t.arb.allow = u.arb.allow ∧ t.arb.revoking = u.arb.revoking) _ (fun c t ht => ?_) _ u ⟨rfl, rfl⟩
  unfold State.askTurn
  split
  · exact ht
  · exact ht

/-- A store that is asked back is outstanding no more. -/
theorem State.askTurn_lowered {t : State} (ht : t.agentsListed) (c : Nat) : t.Lowered (t.askTurn c) := by
  unfold State.askTurn
  split
  · exact .refl ht
  · next hstored =>
    have hmem : (c, t.agent c) ∈ t.agents := SMap.mem_of_get_ne (d := agentDefault) (fun hnone => hstored (.inr (by
      rw [show t.agent c = {} from hnone]
      rfl)))
    have hset := State.Lowered.setAgent ht (a := { t.agent c with reclaim := true }) hmem (ht.2 _ hmem)
      (Nat.add_le_add_left (Nat.zero_le _) _)
    exact hset.trans (State.SameCounts.lowered ⟨⟨fun _ _ => rfl, rfl⟩, rfl, rfl⟩ hset.listed)

theorem State.reclaimStores_lowered {u : State} (hu : u.agentsListed) : u.Lowered u.reclaimStores :=
  each_keeps (fun t : State => u.Lowered t) State.askTurn (fun c _ ht => ht.trans (State.askTurn_lowered ht.listed c)) _ u (.refl hu)

theorem State.askTurn_of_excess {t : State} (h : t.excess = 0) (c : Nat) : t.askTurn c = t := if_pos (.inl h)

/-- Its turn asks a cluster's store back, while something is left above the ceiling. -/
theorem State.askTurn_asks {t : State} (h : t.excess ≠ 0) (c : Nat) : ((t.askTurn c).agent c).stored = 0 := by
  unfold State.askTurn
  split
  · next hnot => exact hnot.resolve_left h
  · exact (congrArg Agent.stored (t.agent_setAgent_same c { t.agent c with reclaim := true })).trans rfl

theorem State.each_askTurn_asks {d : Nat} {cs : List Nat} (hmem : d ∈ cs) {u : State} (hleft : (each cs State.askTurn u).excess ≠ 0) :
    ((each cs State.askTurn u).agent d).stored = 0 := by
  induction cs generalizing u with
  | nil => exact absurd hmem List.not_mem_nil
  | cons c cs ih =>
    rcases List.mem_cons.mp hmem with rfl | hlater
    · have hrun : u.excess ≠ 0 := fun hnone => hleft (by
        rw [each_keeps (fun t => t = u) State.askTurn (fun x t ht => by rw [ht, State.askTurn_of_excess hnone]) (d :: cs) u rfl]
        exact hnone)
      exact each_keeps (fun t : State => (t.agent d).stored = 0) State.askTurn (fun x t ht => State.stored_askTurn ht x) cs _
        (State.askTurn_asks hrun d)
    · exact ih hlater hleft

/-- With something left above the ceiling once the stores are asked back, none of the die is kept (R140). -/
theorem State.stored_reclaimStores {u : State} (h : u.reclaimStores.excess ≠ 0) {d : Nat} (hd : d < 320) :
    (u.reclaimStores.agent d).stored = 0 := by
  rw [u.reclaimStores_eq] at h ⊢
  by_cases hstored : (u.agent d).stored = 0
  · exact each_keeps (fun t : State => (t.agent d).stored = 0) State.askTurn (fun x t ht => State.stored_askTurn ht x) _ _ hstored
  · have hmem : (d, u.agent d) ∈ u.agents := SMap.mem_of_get_ne (d := agentDefault) (fun hnone => hstored (by
      rw [show u.agent d = {} from hnone]
      rfl))
    exact State.each_askTurn_asks (State.mem_reclaimOrder hd hmem) h

end Sys2Proof.Machine
end

section
/-! PROOF of what O33 says (R124, R127, R131, R135, R136, R140), but for the order of revocations in a state whose agents are not
listed as R4 has them, where it fails. -/

namespace Sys2Proof.Machine

/-! ### A nanosecond of a pass -/

section
variable {s : State} (h : 0 < s.excess)
include h

/-- After the revocations nothing that counts changes any more. -/
theorem State.sameCounts_passRevoked : s.passRevoked.SameCounts s.revocationCycle.noteReasons := by
  rw [State.revocationCycle_eq h]
  have hsettled : s.passRevoked.checkWave.SameCounts s.passRevoked.checkWave.passSettled := by
    unfold State.passSettled
    split
    · exact State.sameCounts_endPass _
    · exact ⟨⟨fun _ _ => rfl, rfl⟩, rfl, rfl⟩
  exact (State.sameCounts_checkWave _).trans (hsettled.trans ((State.sameCounts_repay _).trans (State.sameCounts_noteReasons _)))

/-- A pass takes a nanosecond. -/
theorem State.now_revocationCycle : s.revocationCycle.noteReasons.now = s.now + 1 := by
  obtain ⟨-, hnow, -⟩ := s.passStart_spec
  rw [State.revocationCycle_eq h, ← hnow]
  have hasked : Kept (allBut .now) s.passStart s.passAsked := State.reclaimStores_keeps _ _ _ (by decide)
    (Kept.set_arb (by decide) (Kept.refl _ _))
  have hrevoked : Kept (allBut .now) s.passStart s.passRevoked := State.revokeKind_keeps _ _ _ 2 (by decide)
    (State.revokeKind_keeps _ _ _ 1 (by decide) (State.revokeKind_keeps _ _ _ 0 (by decide) hasked))
  have hwave := State.checkWave_keeps _ _ _ (by decide) hrevoked
  exact (State.noteReasons_keeps _ _ _ (by decide) (State.repay_keeps _ _ _ (by decide)
    (Kept.ite (State.endPass_keeps _ _ _ (by decide) hwave) hwave))).now (by decide)

/-- The pass runs on while something is left above the ceiling. -/
theorem State.revoking_revocationCycle :
    s.revocationCycle.noteReasons.arb.revoking = decide (0 < s.revocationCycle.noteReasons.excess) := by
  obtain ⟨-, -, hruns, -⟩ := s.passStart_spec
  have hrevoked : s.passRevoked.checkWave.arb.revoking = true := by
    rw [(State.checkWave_sameBooks _).revoking, State.passRevoked, State.revoking_revokeKind, State.revoking_revokeKind,
      State.revoking_revokeKind, State.passAsked, (State.arb_reclaimStores _).2]
    exact hruns
  have hexcess : s.revocationCycle.noteReasons.excess = s.passRevoked.checkWave.excess :=
    (State.sameCounts_passRevoked h).excess.trans (State.sameCounts_checkWave _).excess.symm
  rw [hexcess, State.arb_noteReasons, State.revocationCycle_eq h]
  obtain ⟨l, hl⟩ := s.passRevoked.checkWave.passSettled.repay_spec
  rw [hl]
  show s.passRevoked.checkWave.passSettled.arb.revoking = _
  unfold State.passSettled
  split
  · next hnone =>
    rw [(State.endPass_spec _).2, hnone]
    rfl
  · next hleft => exact hrevoked.trans (decide_eq_true (Nat.pos_of_ne_zero hleft)).symm

/-- Unclaimed quanta are taken first: where they are enough, no store is asked back and no grant revoked. -/
theorem State.revocationCycle_unclaimed (henough : s.excess ≤ (s.arb.resvs.map (fun r => (r.unclaimed.map (fun p => p.2)).sum)).sum) :
    s.revocationCycle.noteReasons.excess = 0 ∧ s.revocationCycle.noteReasons.agents = s.agents := by
  obtain ⟨hsame, -⟩ := s.passStart_spec
  rw [← hsame.excess, ← hsame.resvs] at henough
  have hnone := State.excess_unclaimedTaken henough
  have hasked : s.passAsked = s.passStart.unclaimedTaken :=
    each_keeps (fun t => t = s.passStart.unclaimedTaken) State.askTurn (fun c t ht => by rw [ht, State.askTurn_of_excess hnone]) _ _ rfl
  have hrevoked : s.passRevoked = s.passStart.unclaimedTaken := by
    have hhalts : s.passStart.unclaimedTaken.halts := .inl hnone
    rw [State.passRevoked, hasked, State.revokeKind_of_halts hhalts, State.revokeKind_of_halts hhalts, State.revokeKind_of_halts hhalts]
  have hafter := State.sameCounts_passRevoked h
  rw [hafter.excess, hafter.agents, hrevoked]
  exact ⟨hnone, hsame.agents⟩

/-- A revoked grant is not as it was before the pass: some kind of revocations had its turn. -/
theorem State.revokedIn_changes {c e : Nat} (hrevoked : s.revokedIn s.revocationCycle.noteReasons c e) :
    (s.passRevoked.agent c).engine e ≠ (s.passAsked.agent c).engine e := by
  obtain ⟨-, hgrant, hincoming, hcounted⟩ := hrevoked
  intro hsame
  have hasked : (s.passAsked.agent c).engine e = (s.agent c).engine e := by
    rw [State.passAsked, State.engine_reclaimStores]
    exact congrArg (fun a => Agent.engine a e) (s.passStart_spec.1.agent c)
  have hafter : (s.revocationCycle.noteReasons.agent c).engine e = (s.agent c).engine e := by
    rw [(State.sameCounts_passRevoked h).agent, hsame, hasked]
  rw [hafter] at hgrant hincoming
  refine hcounted ?_
  unfold Engine.counted
  rw [hincoming, hgrant]

theorem State.passAsked_runs {c e : Nat} (hrevoked : s.revokedIn s.revocationCycle.noteReasons c e) : ¬ s.passAsked.halts := by
  intro hhalts
  refine State.revokedIn_changes h hrevoked ?_
  rw [State.passRevoked, State.revokeKind_of_halts hhalts, State.revokeKind_of_halts hhalts, State.revokeKind_of_halts hhalts]

/-- Grants are revoked within the allowance that the downward slope gives, and only once every store is asked back. -/
theorem State.revocationCycle_revokes {c e : Nat} (hrevoked : s.revokedIn s.revocationCycle.noteReasons c e) :
    0 < (if s.arb.revoking then s.arb.allow else 0) +
      slopeQuanta (s.fld ADM_SLOPE_DN.DN) (if s.arb.revoking then s.now + 1 - s.arb.revAt else 1) ∧
    ∀ d, s.hasCluster d = true → (s.revocationCycle.noteReasons.agent d).stored = 0 := by
  have hruns := State.passAsked_runs h hrevoked
  obtain ⟨-, -, -, hallow⟩ := s.passStart_spec
  constructor
  · rw [← hallow]
    have hpos : ¬ s.passAsked.arb.allow ≤ 0 := fun hspent => hruns (.inr hspent)
    rw [State.passAsked, (State.arb_reclaimStores _).1] at hpos
    exact Int.not_le.mp hpos
  · intro d hd
    rw [(State.sameCounts_passRevoked h).agent, State.passRevoked, State.stored_revokeKind, State.stored_revokeKind,
      State.stored_revokeKind]
    exact State.stored_reclaimStores (fun hnone => hruns (.inl hnone)) (State.lt_of_hasCluster hd)

end

theorem State.passAsked_lowered {s : State} (hs : s.agentsListed) : s.Lowered s.passAsked := by
  have hstart := State.SameCounts.lowered s.passStart_spec.1 hs
  have htaken : s.passStart.Lowered s.passStart.unclaimedTaken :=
    ⟨State.sameBounds_unclaimedTaken _, hstart.listed, State.outstandingOf_unclaimedTaken_le _⟩
  exact hstart.trans (htaken.trans (State.reclaimStores_lowered htaken.listed))

section
variable {s : State} (h : 0 < s.excess) (hs : s.agentsListed) {c e : Nat} (he : e < 4)
  (hrevoked : s.revokedIn s.revocationCycle.noteReasons c e) (hcap : s.ctxOut (s.ctxOf c) ≤ s.capQ (s.ctxOf c))
include h hs he hrevoked hcap

/-- The first kind leaves a grant of a context within its cap alone, so it does not halt before one is revoked. -/
theorem State.capsRevoked_spec : ((s.passAsked.revokeKind 0).agent c).engine e = (s.passAsked.agent c).engine e ∧
    ¬ (s.passAsked.revokeKind 0).halts := by
  have hasked := State.passAsked_lowered hs
  have hfits : s.passAsked.isOver 0 (s.passAsked.ctxOf c) = false := by
    rw [hasked.ctxOf]
    exact hasked.isOver (State.isOver_cap.mpr hcap)
  have hsame := State.engine_revokeKind hasked.listed he hfits
  refine ⟨hsame, fun hhalts => State.revokedIn_changes h hrevoked ?_⟩
  rw [State.passRevoked, State.revokeKind_of_halts hhalts, State.revokeKind_of_halts hhalts, hsame]

/-- A grant of a context within its cap is revoked only once no context above its cap has a grant to revoke (R140). -/
theorem State.revocationCycle_capsFirst {d f : Nat} (hd : s.hasCluster d = true) (hf : f < 4)
    (hfreed : s.revocationCycle.noteReasons.freedBy ((s.revocationCycle.noteReasons.agent d).engine f) ≠ 0) :
    s.revocationCycle.noteReasons.ctxOut (s.revocationCycle.noteReasons.ctxOf d) ≤
      s.revocationCycle.noteReasons.capQ (s.revocationCycle.noteReasons.ctxOf d) := by
  have hasked := State.passAsked_lowered hs
  have hcaps := State.revokeKind_lowered hasked.listed 0
  have hfloors := State.revokeKind_lowered hcaps.listed 1
  obtain ⟨-, hgo⟩ := State.capsRevoked_spec h hs he hrevoked hcap
  have hsettled := State.revokeKind_settles hasked.listed (State.lt_of_hasCluster hd) hf hgo
  have hlast : s.passRevoked.isSettled 0 d f :=
    State.isSettled_revokeKind hfloors.listed hf (State.isSettled_revokeKind hcaps.listed hf hsettled 1) 2
  have hafter := State.sameCounts_passRevoked h
  rw [hafter.freedBy, hafter.agent] at hfreed
  rw [hafter.ctxOf, hafter.ctxOut, hafter.capQ]
  exact State.isOver_cap.mp (hlast.resolve_left hfreed)

/-- A grant of a context within its cap and its floor is revoked only once no context above its floor has one to revoke (R140). -/
theorem State.revocationCycle_floorsFirst (hfloor : s.ctxOut (s.ctxOf c) ≤ s.floorQ (s.ctxOf c)) {d f : Nat}
    (hd : s.hasCluster d = true) (hf : f < 4)
    (hfreed : s.revocationCycle.noteReasons.freedBy ((s.revocationCycle.noteReasons.agent d).engine f) ≠ 0) :
    s.revocationCycle.noteReasons.ctxOut (s.revocationCycle.noteReasons.ctxOf d) ≤
      s.revocationCycle.noteReasons.floorQ (s.revocationCycle.noteReasons.ctxOf d) := by
  have hasked := State.passAsked_lowered hs
  have hcaps := State.revokeKind_lowered hasked.listed 0
  have hfloors := State.revokeKind_lowered hcaps.listed 1
  obtain ⟨hsame, -⟩ := State.capsRevoked_spec h hs he hrevoked hcap
  have hfits : (s.passAsked.revokeKind 0).isOver 1 ((s.passAsked.revokeKind 0).ctxOf c) = false := by
    rw [(hasked.trans hcaps).ctxOf]
    exact (hasked.trans hcaps).isOver (State.isOver_floor.mpr hfloor)
  have hgo : ¬ ((s.passAsked.revokeKind 0).revokeKind 1).halts := fun hhalts => State.revokedIn_changes h hrevoked (by
    rw [State.passRevoked, State.revokeKind_of_halts hhalts, State.engine_revokeKind hcaps.listed he hfits, hsame])
  have hsettled := State.revokeKind_settles hcaps.listed (State.lt_of_hasCluster hd) hf hgo
  have hlast : s.passRevoked.isSettled 1 d f := State.isSettled_revokeKind hfloors.listed hf hsettled 2
  have hafter := State.sameCounts_passRevoked h
  rw [hafter.freedBy, hafter.agent] at hfreed
  rw [hafter.ctxOf, hafter.ctxOut, hafter.floorQ]
  exact State.isOver_floor.mp (hlast.resolve_left hfreed)

end

/-- A pass with nothing left above the ceiling ends, and changes no agent. -/
theorem State.revocationCycle_ends {s : State} (h : s.excess = 0) :
    s.revocationCycle.noteReasons.arb.revoking = false ∧ s.revocationCycle.noteReasons.agents = s.agents := by
  have hcycle : s.revocationCycle = s.endPass.repay := if_pos h
  obtain ⟨l, hl⟩ := s.endPass.repay_spec
  rw [State.arb_noteReasons, (State.sameCounts_noteReasons _).agents, hcycle, hl]
  exact ⟨congrArg Arbiter.revoking s.endPass_spec.2, s.endPass_spec.1⟩

/-! ### Pockets -/

/-- What a pocket is refilled with: up to its size, within the room and the context's cap (R124). -/
def State.refillOf (s : State) (c : Nat) : Nat :=
  min (s.fld ADM_POCKET.SIZE - (s.agent c).pocket)
    (min (s.roomFor (s.ctxOf c)).toNat (s.capQ (s.ctxOf c) - s.ctxOut (s.ctxOf c)))

/-- A pocket is refilled without a charge (R124). -/
theorem State.refillPocket_spec {s : State} {c : Nat} (hc : s.hasCluster c = true) (hadmits : s.admits = true)
    (hactive : (s.agent c).active = true) (hpockets : s.flag (AGT_CFG.POCKET_EN c) = true) (hexcess : s.excess = 0)
    (hslots : s.arb.slots = []) (hcap : s.ctxOut (s.ctxOf c) < s.capQ (s.ctxOf c)) (hcredit : 0 < s.arb.credit)
    (hfrozen : s.frozen (stripeOf c) = false) (hpaused : s.paused (halfOf c) = false) (hreclaim : (s.agent c).reclaim = false)
    (hsome : 0 < s.refillOf c) (hfits : s.halfFits (halfOf c) (s.refillOf c) = true) :
    (s.refillPocket c).arb = s.arb ∧ ((s.refillPocket c).agent c).pocket = (s.agent c).pocket + s.refillOf c := by
  have hrefill : s.refillPocket c = (s.setAgent c { s.agent c with pocket := (s.agent c).pocket + s.refillOf c }).shadow c := by
    unfold State.refillOf at hsome hfits ⊢
    unfold State.refillPocket
    dsimp only
    rw [if_pos (by simp [hadmits, State.present_of_hasCluster hc, hactive, hpockets, hexcess, hslots, hcap, hcredit, hsome, hfrozen,
      hpaused, hreclaim]), if_pos hfits]
  rw [hrefill, State.agent_shadow, State.agent_setAgent_same]
  exact ⟨(State.shadow_keeps (allBut .arb) _ _ c (by decide) (Kept.refl _ _)).arb (by decide), rfl⟩

/-! ### Grants -/

section
variable {s t : State} (h : s.SameCounts t)
include h

theorem State.SameCounts.slotNeed (sl : ReqSlot) : t.slotNeed sl = s.slotNeed sl := by
  unfold State.slotNeed
  rw [h.quanta, h.quanta, h.agent]

theorem State.SameCounts.waitingOf (p : Nat → Bool) : t.waitingOf p = s.waitingOf p := by
  unfold State.waitingOf
  rw [h.agents]

theorem State.SameCounts.roomFor (x : Nat) : t.roomFor x = s.roomFor x := by
  unfold State.roomFor State.outstanding State.trickleAllow State.unmetAgainst State.activeCtxs
  have hunmet : t.unmetOf = s.unmetOf := funext fun y => by rw [State.unmetOf, State.unmetOf, h.floorQ, h.ctxOut]
  rw [h.ceiling, h.outstandingOf, h.trickleFor, h.waitingOf, h.agents, hunmet, funext h.ctxOf]

theorem State.SameCounts.halfFits (hledger : t.arb.ledger = s.arb.ledger) (half q : Nat) : t.halfFits half q = s.halfFits half q := by
  unfold State.halfFits State.outHalf State.trickleHalf State.halfBound State.halfShare
  rw [h.outstandingOf, h.trickleFor, h.waitingOf, h.ceiling, hledger]

end

/-- What the end of a pass may change. -/
abbrev endPassMask : Nat := placesMask [.arb, .rings, .RING_STATUS]

theorem State.frozen_endPassKept {s t : State} (h : Kept endPassMask s t) (st : Nat) : t.frozen st = s.frozen st := by
  unfold State.frozen State.holdFreeze
  have hrange : List.range 4 = [0, 1, 2, 3] := rfl
  simp only [hrange, List.any_cons, List.any_nil]
  rw [h.drp (by decide), h.flag (RAIL_STATUS.HOLD_FREEZE 0) (by decide), h.flag (RAIL_STATUS.HOLD_FREEZE 1) (by decide),
    h.flag (RAIL_STATUS.HOLD_FREEZE 2) (by decide), h.flag (RAIL_STATUS.HOLD_FREEZE 3) (by decide)]

theorem State.paused_endPassKept {s t : State} (h : Kept endPassMask s t) (half : Nat) : t.paused half = s.paused half := by
  unfold State.paused State.asleep
  rw [h.halfReq (by decide), h.flag STILE_STATUS.ASLEEP_N (by decide), h.flag STILE_STATUS.ASLEEP_S (by decide)]

/-- A request with no reservation that passes every test is granted (R131, R136). -/
theorem State.trySlot_grants {s : State} {sl : ReqSlot} (hresvs : s.arb.resvs = []) (hfrozen : s.frozen (stripeOf sl.cluster) = false)
    (hpaused : s.paused (halfOf sl.cluster) = false)
    (hcap : s.ctxOut (s.ctxOf sl.cluster) + s.slotNeed sl ≤ s.capQ (s.ctxOf sl.cluster)) (hcredit : 0 < s.arb.credit)
    (hunann : 0 < s.arb.unann) (hroom : (s.slotNeed sl : Int) ≤ s.roomFor (s.ctxOf sl.cluster))
    (hhalf : s.halfFits (halfOf sl.cluster) (s.slotNeed sl) = true) :
    s.trySlot sl = (.granted, s.grantSlot sl 0 (s.slotNeed sl)) := by
  have hnone : s.resvFor sl.cluster = none := by
    unfold State.resvFor
    rw [hresvs]
    rfl
  unfold State.trySlot
  simp only [hnone, Nat.sub_zero]
  rw [if_neg (by simp [hfrozen, hpaused]), if_neg (Nat.not_lt_of_le hcap), if_neg (Int.not_le.mpr hcredit), if_neg (by simp),
    if_neg (by simp [hunann]), if_neg (fun hshort => Int.not_lt.mpr hroom hshort.2), if_pos hhalf]

theorem State.scan_granted {s t : State} {sl : ReqSlot} (h : s.trySlot sl = (.granted, t)) (n : Nat) :
    State.scan [sl] (n + 1) s = (n, false, t) := by
  unfold State.scan
  rw [h]
  unfold State.scan
  rfl

/-- What the grant of a request without a reservation leaves at the arbiter. -/
theorem State.arb_grantSlot (s : State) (sl : ReqSlot) (need : Nat) : (s.grantSlot sl 0 need).arb = { s.arb with
    slots := dropSlot s.arb.slots sl.cluster sl.engine
    credit := s.arb.credit - ((0 + need) * 1024 : Nat)
    unann := s.arb.unann - (need * 1024 : Nat)
    ff := s.arb.ff + (0 + need : Nat)
    stepGrants := s.arb.stepGrants + 1
    stepQuanta := s.arb.stepQuanta + 0 + need } := rfl

theorem State.incoming_grantSlot (s : State) {sl : ReqSlot} (he : sl.engine < 4) (need : Nat) :
    ((((s.grantSlot sl 0 need).agent sl.cluster).engine sl.engine).incoming.map (fun p => p.1)) = some sl.cls := by
  have hagents : (s.grantSlot sl 0 need).agents = (s.setAgent sl.cluster _).agents := rfl
  rw [State.agent_congr hagents, State.agent_setAgent_same, Agent.engine_setEngine_same _ _ he]
  rfl

/-- With one request and neither a wave nor a reservation, a cycle of the arbiter is that request's turn. -/
theorem State.arbiterCycle_eq {s t : State} {sl : ReqSlot} (hadmits : s.admits = true) (hexcess : s.excess = 0)
    (hslots : s.arb.slots = [sl]) (hresvs : s.arb.resvs = []) (hwave : s.arb.wave = false)
    (hrequested : s.endPass.requested < s.endPass.fld ADM_WAVE.THRESH) (htry : s.endPass.trySlot sl = (.granted, t))
    (hdone : t.arb.slots = []) (hsame : t.arb.resvs = []) (hstill : t.arb.wave = false) :
    s.arbiterCycle = t.repay := by
  have harb := s.endPass_spec.2
  generalize hu : s.endPass = u at hrequested htry harb
  have huslots : u.arb.slots = [sl] := by rw [harb]; exact hslots
  have huwave : u.arb.wave = false := by rw [harb]; exact hwave
  have hcheck : u.checkWave = u := if_neg (by simp [hrequested])
  have hfront : u.frontClosed = u := if_neg (by simp [huwave])
  have hscanned : u.scanned = [sl] := by rw [State.scanned, if_neg (by simp [huwave]), huslots]
  have hscanned' : t.scanned = [] := by rw [State.scanned, if_neg (by simp [hstill]), hdone]
  have hend : t.repay.checkWaveEnd = t.repay := by
    obtain ⟨l, hl⟩ := t.repay_spec
    rw [hl]
    exact if_neg (by simp [hstill])
  unfold State.arbiterCycle
  rw [if_neg (by simp [hadmits, hexcess])]
  dsimp only
  rw [hu, hcheck, hfront, hscanned]
  cases hfloor : u.belowFloor sl
  · have hnone : State.scan ([sl].filter u.belowFloor) 8 u = (8, false, u) := by
      rw [List.filter_cons_of_neg (by simp [hfloor])]
      rfl
    have huresvs : u.arb.resvs = [] := by rw [harb]; exact hresvs
    have hone : State.scan ([sl].filter (fun x => !u.belowFloor x)) 8 u = (7, false, t) := by
      rw [List.filter_cons_of_pos (by simp [hfloor])]
      exact State.scan_granted htry 7
    rw [hnone]
    dsimp only
    rw [if_neg (by decide), if_neg (by decide), huresvs, List.filter_nil, each_nil, hscanned, hone]
    exact hend
  · have hone : State.scan ([sl].filter u.belowFloor) 8 u = (7, false, t) := by
      rw [List.filter_cons_of_pos hfloor]
      exact State.scan_granted htry 7
    rw [hone]
    dsimp only
    rw [if_neg (by decide), if_neg (by decide), hsame, List.filter_nil, each_nil, hscanned', List.filter_nil]
    exact hend

/-- A single request that passes every test is granted and charged, and its slot is empty (R131, R136). -/
theorem State.arbiterCycle_grants {s : State} {sl : ReqSlot} (hadmits : s.admits = true) (hexcess : s.excess = 0)
    (hslots : s.arb.slots = [sl]) (hresvs : s.arb.resvs = []) (hwave : s.arb.wave = false)
    (hrequested : s.requested < s.fld ADM_WAVE.THRESH) (hfrozen : s.frozen (stripeOf sl.cluster) = false)
    (hpaused : s.paused (halfOf sl.cluster) = false) (he : sl.engine < 4)
    (hcap : s.ctxOut (s.ctxOf sl.cluster) + s.slotNeed sl ≤ s.capQ (s.ctxOf sl.cluster)) (hcredit : 0 < s.arb.credit)
    (hunann : 0 < s.arb.unann) (hroom : (s.slotNeed sl : Int) ≤ s.roomFor (s.ctxOf sl.cluster))
    (hhalf : s.halfFits (halfOf sl.cluster) (s.slotNeed sl) = true) :
    s.arbiterCycle.noteReasons.arb.slots = [] ∧
    ((((s.arbiterCycle.noteReasons.agent sl.cluster).engine sl.engine).incoming.map (fun p => p.1)) = some sl.cls) ∧
    s.arbiterCycle.noteReasons.arb.credit = s.arb.credit - (s.slotNeed sl * 1024 : Nat) ∧
    s.arbiterCycle.noteReasons.arb.unann = s.arb.unann - (s.slotNeed sl * 1024 : Nat) := by
  have hcounts := s.sameCounts_endPass
  obtain ⟨-, harb⟩ := s.endPass_spec
  have hkept : Kept endPassMask s s.endPass := State.endPass_keeps _ s s (by decide) (Kept.refl _ s)
  have htry : s.endPass.trySlot sl = (.granted, s.endPass.grantSlot sl 0 (s.slotNeed sl)) := by
    rw [← hcounts.slotNeed]
    refine State.trySlot_grants ?_ ?_ ?_ ?_ ?_ ?_ ?_ ?_
    · rw [harb]; exact hresvs
    · rw [State.frozen_endPassKept hkept]; exact hfrozen
    · rw [State.paused_endPassKept hkept]; exact hpaused
    · rw [hcounts.ctxOf, hcounts.ctxOut, hcounts.slotNeed, hcounts.capQ]; exact hcap
    · rw [harb]; exact hcredit
    · rw [harb]; exact hunann
    · rw [hcounts.ctxOf, hcounts.slotNeed, hcounts.roomFor]; exact hroom
    · rw [hcounts.halfFits (by rw [harb]), hcounts.slotNeed]; exact hhalf
  have hrequested' : s.endPass.requested < s.endPass.fld ADM_WAVE.THRESH := by
    rw [hkept.fld ADM_WAVE.THRESH (by decide), State.requested, funext hcounts.slotNeed, harb]
    exact hrequested
  have hdropped : dropSlot [sl] sl.cluster sl.engine = [] := List.filter_cons_of_neg (by simp)
  have hdone : (s.endPass.grantSlot sl 0 (s.slotNeed sl)).arb.slots = [] := by
    rw [State.arb_grantSlot, harb]
    exact (congrArg (fun sls => dropSlot sls sl.cluster sl.engine) hslots).trans hdropped
  have hcycle : s.arbiterCycle = (s.endPass.grantSlot sl 0 (s.slotNeed sl)).repay :=
    State.arbiterCycle_eq hadmits hexcess hslots hresvs hwave hrequested' htry hdone
      (by rw [State.arb_grantSlot, harb]; exact hresvs) (by rw [State.arb_grantSlot, harb]; exact hwave)
  obtain ⟨l, hl⟩ := (s.endPass.grantSlot sl 0 (s.slotNeed sl)).repay_spec
  rw [State.arb_noteReasons, State.agent_noteReasons, hcycle, hl]
  refine ⟨hdone, s.endPass.incoming_grantSlot he (s.slotNeed sl), ?_, ?_⟩
  · show (s.endPass.grantSlot sl 0 (s.slotNeed sl)).arb.credit = _
    rw [State.arb_grantSlot, harb, Nat.zero_add]
  · show (s.endPass.grantSlot sl 0 (s.slotNeed sl)).arb.unann = _
    rw [State.arb_grantSlot, harb]

/-! ### The instructions -/

/-- ARBITER_GRANT as O33 has it. -/
theorem exec_arbiterGrant_grants {s : State} {sl : ReqSlot} (hruns : s.coreRuns = true) (hadmits : s.admits = true)
    (hexcess : s.excess = 0) (hslots : s.arb.slots = [sl]) (hresvs : s.arb.resvs = []) (hwave : s.arb.wave = false)
    (hrequested : s.requested < s.fld ADM_WAVE.THRESH) (hfrozen : s.frozen (stripeOf sl.cluster) = false)
    (hpaused : s.paused (halfOf sl.cluster) = false) (he : sl.engine < 4)
    (hcap : s.ctxOut (s.ctxOf sl.cluster) + s.slotNeed sl ≤ s.capQ (s.ctxOf sl.cluster)) (hcredit : 0 < s.arb.credit)
    (hunann : 0 < s.arb.unann) (hroom : (s.slotNeed sl : Int) ≤ s.roomFor (s.ctxOf sl.cluster))
    (hhalf : s.halfFits (halfOf sl.cluster) (s.slotNeed sl) = true) :
    ∃ t, exec .arbiterGrant s = .next t ∧ t.arb.slots = [] ∧
      (((t.agent sl.cluster).engine sl.engine).incoming.map (fun p => p.1)) = some sl.cls ∧
      t.arb.credit = s.arb.credit - (s.slotNeed sl * 1024 : Nat) ∧ t.arb.unann = s.arb.unann - (s.slotNeed sl * 1024 : Nat) :=
  ⟨_, congrArg Host.Outcome.next (if_pos hruns), State.arbiterCycle_grants hadmits hexcess hslots hresvs hwave hrequested hfrozen
    hpaused he hcap hcredit hunann hroom hhalf⟩

/-- POCKET_REFILL as O33 has it. -/
theorem exec_pocketRefill_refills {s : State} {c : Nat} (hruns : s.coreRuns = true) (hc : s.hasCluster c = true)
    (hadmits : s.admits = true) (hactive : (s.agent c).active = true) (hpockets : s.flag (AGT_CFG.POCKET_EN c) = true)
    (hexcess : s.excess = 0) (hslots : s.arb.slots = []) (hcap : s.ctxOut (s.ctxOf c) < s.capQ (s.ctxOf c))
    (hcredit : 0 < s.arb.credit) (hfrozen : s.frozen (stripeOf c) = false) (hpaused : s.paused (halfOf c) = false)
    (hreclaim : (s.agent c).reclaim = false) (hsome : 0 < s.refillOf c) (hfits : s.halfFits (halfOf c) (s.refillOf c) = true) :
    ∃ t, exec (.pocketRefill c) s = .next t ∧ t.arb = s.arb ∧ (t.agent c).pocket = (s.agent c).pocket + s.refillOf c :=
  ⟨_, ofUnit_run hc hruns, State.refillPocket_spec hc hadmits hactive hpockets hexcess hslots hcap hcredit hfrozen hpaused hreclaim
    hsome hfits⟩

/-- REVOCATION_PASS with nothing left above the ceiling, as O33 has it. -/
theorem exec_revocationPass_ends {s : State} (hruns : s.coreRuns = true) (hexcess : s.excess = 0) :
    ∃ t, exec .revocationPass s = .next t ∧ t.arb.revoking = false ∧ t.agents = s.agents :=
  ⟨_, congrArg Host.Outcome.next (if_pos hruns), State.revocationCycle_ends hexcess⟩

/-- REVOCATION_PASS as O33 has it, the order of revocations where the agents are listed as R4 has them. -/
theorem exec_revocationPass_revokes {s : State} (hruns : s.coreRuns = true) (h : 0 < s.excess) :
    ∃ t, exec .revocationPass s = .next t ∧ t.now = s.now + 1 ∧ t.arb.revoking = decide (0 < t.excess) ∧
      (s.excess ≤ (s.arb.resvs.map (fun r => (r.unclaimed.map (fun p => p.2)).sum)).sum → t.excess = 0 ∧ s.reclaimsNothing t) ∧
      (∀ c e, s.hasCluster c = true → e < 4 → s.revokedIn t c e →
        0 < (if s.arb.revoking then s.arb.allow else 0) +
          slopeQuanta (s.fld ADM_SLOPE_DN.DN) (if s.arb.revoking then s.now + 1 - s.arb.revAt else 1) ∧
        (∀ d, s.hasCluster d = true → (t.agent d).stored = 0 ∨ (t.agent d).reclaim = true) ∧
        (s.agentsListed → s.ctxOut (s.ctxOf c) ≤ s.capQ (s.ctxOf c) → ∀ d f, s.hasCluster d = true → f < 4 →
          t.freedBy ((t.agent d).engine f) ≠ 0 → t.ctxOut (t.ctxOf d) ≤ t.capQ (t.ctxOf d)) ∧
        (s.agentsListed → s.ctxOut (s.ctxOf c) ≤ s.capQ (s.ctxOf c) → s.ctxOut (s.ctxOf c) ≤ s.floorQ (s.ctxOf c) →
          ∀ d f, s.hasCluster d = true → f < 4 →
          t.freedBy ((t.agent d).engine f) ≠ 0 → t.ctxOut (t.ctxOf d) ≤ t.floorQ (t.ctxOf d))) := by
  refine ⟨_, congrArg Host.Outcome.next (if_pos hruns), State.now_revocationCycle h, State.revoking_revocationCycle h,
    fun henough => ?_, fun c e _ he hrevoked => ?_⟩
  · obtain ⟨hnone, hagents⟩ := State.revocationCycle_unclaimed h henough
    refine ⟨hnone, fun c _ => ?_⟩
    rw [State.agent_congr hagents]
    exact ⟨rfl, fun _ _ => rfl⟩
  · obtain ⟨hallow, hstores⟩ := State.revocationCycle_revokes h hrevoked
    exact ⟨hallow, fun d hd => .inl (hstores d hd),
      fun hs hcap _ _ hd hf hfreed => State.revocationCycle_capsFirst h hs he hrevoked hcap hd hf hfreed,
      fun hs hcap hfloor _ _ hd hf hfreed => State.revocationCycle_floorsFirst h hs he hrevoked hcap hfloor hd hf hfreed⟩

/-- In `Tests.aboveCeiling`, in which a pass revokes a grant (`Tests.witness_revoked`), the agents are listed as R4 has them. -/
theorem agentsListed_aboveCeiling : State.agentsListed Tests.aboveCeiling := by
  unfold State.agentsListed
  decide +kernel

end Sys2Proof.Machine
end

section
/-! REFUTATION of O33 (R140). The statement is about every state, also one whose agent lists fewer than the four engines that a
cluster has (R4). A revocation there lists all four, each of which counts for the quanta of the idle class, so that it lifts what
the context has outstanding above the cap that it kept. -/

namespace Sys2Proof.Machine

/-- The die is over its ceiling by what its waiting engines trickle, and its one context is at its cap: two engines of cluster 0
are granted 12 quanta each, and an idle engine counts for 10. The agent lists these two engines and no other. -/
def twoListed : State :=
  ((((({ State.reset with
    ps := { vaon := true, porst := true }
    tie := { State.reset.tie with positions := 1 }
    agents := [(0, { run := true, engines := [{ req := 4, grant := 3 }, { req := 4, grant := 3 }] })] } : State).setFlag
      HEATH_DOMAIN_STATUS.CORE_ON true).setReg ADM_CLASS_Q 0xCCBAA).setFld ADM_CEILING.CEIL 24).setFld (ADM_CTX_MAX.MAX 0)
      0x10000).setFld ADM_SLOPE_DN.DN 1

/-- The state after a revocation pass of a nanosecond. -/
def twoListedPassed : State := twoListed.revocationCycle.noteReasons

theorem twoListed_passes : exec .revocationPass twoListed = .next twoListedPassed :=
  congrArg Host.Outcome.next (if_pos (by decide +kernel : twoListed.coreRuns = true))

/-- Before the pass the context is at its cap. -/
theorem twoListed_atCap : twoListed.hasCluster 0 = true ∧ 0 < twoListed.excess ∧ twoListed.ctxOf 0 = 0 ∧
    twoListed.ctxOut 0 = 24 ∧ twoListed.capQ 0 = 24 := by decide +kernel

/-- The pass revokes the grant of engine 1. -/
theorem twoListed_revoked : twoListed.revokedIn twoListedPassed 0 1 := by
  unfold State.revokedIn
  decide +kernel

/-- After it engine 0 still has a grant, and the context is above its cap. -/
theorem twoListedPassed_aboveCap : twoListedPassed.freedBy ((twoListedPassed.agent 0).engine 0) ≠ 0 ∧
    twoListedPassed.ctxOf 0 = 0 ∧ twoListedPassed.ctxOut 0 = 42 ∧ twoListedPassed.capQ 0 = 24 := by decide +kernel

/-- Refutes O33, in its part about grants of contexts within their cap: in `twoListed` a grant of such a context is revoked, and
the pass leaves a grant in a context above its cap. Where the agents are listed as R4 has them this part holds too
(`exec_revocationPass_revokes`). -/
theorem not_arbiterGrantsRefillsAndRevokes : ¬ Obligations.ArbiterGrantsRefillsAndRevokes := by
  unfold Obligations.ArbiterGrantsRefillsAndRevokes
  rintro ⟨-, -, h⟩
  obtain ⟨hcluster, hexcess, hctx, hout, hcap⟩ := twoListed_atCap
  obtain ⟨-, hpass⟩ := h twoListed (by decide +kernel)
  obtain ⟨t, ht, -, -, -, horder⟩ := hpass hexcess
  obtain rfl : twoListedPassed = t := Host.Outcome.next.inj (twoListed_passes.symm.trans ht)
  obtain ⟨-, -, hcapped, -⟩ := horder 0 1 hcluster (by decide) twoListed_revoked
  obtain ⟨hfreed, hctx', hout', hcap'⟩ := twoListedPassed_aboveCap
  rw [hctx, hout, hcap] at hcapped
  have habove := hcapped (Nat.le_refl 24) 0 0 hcluster (by decide) hfreed
  rw [hctx', hout', hcap'] at habove
  exact absurd habove (by decide)

end Sys2Proof.Machine
end

section
/-! SUPPORT for O36, O37, O38, O44: bits of a mask of stripes, and maps of their times, as the droop
engine sets and clears them one by one; what a look at the throttle reasons leaves alone. -/

namespace Sys2Proof.Machine

theorem bitAt_testBit (n k : Nat) : bitAt n k = n.testBit k := Nat.testBit_eq_decide_div_mod_eq.symm

theorem bitAt_maskSet (n k j : Nat) : bitAt (maskSet n k) j = (bitAt n j || j == k) := by
  rw [bitAt_testBit, bitAt_testBit, maskSet, Nat.testBit_or, Nat.testBit_two_pow, Bool.beq_eq_decide_eq]
  simp only [eq_comm]

/-- To clear a bit is to write 0 into the field of that bit. -/
theorem maskClear_eq_withBits (n k : Nat) : maskClear n k = withBits n k k 0 := by
  unfold maskClear bitAt withBits bitsOf
  rw [Nat.add_sub_cancel_left, Nat.pow_one, Nat.zero_mod, Nat.zero_mul, Nat.add_zero]
  obtain hbit | hbit := Nat.mod_two_eq_zero_or_one (n / 2 ^ k)
  · rw [hbit, Nat.zero_mul]; rfl
  · rw [hbit, Nat.one_mul]; rfl

theorem bitAt_maskClear (n k j : Nat) : bitAt (maskClear n k) j = (bitAt n j && !(j == k)) := by
  rw [bitAt_testBit, bitAt_testBit, maskClear_eq_withBits, withBits_testBit n k k 0 j (Nat.le_refl k)]
  by_cases h : j = k
  · subst h
    simp
  · rw [if_neg (by omega), beq_eq_false_iff_ne.mpr h, Bool.not_false, Bool.and_true]

theorem bitAt_each_maskSet (xs : List Nat) (n j : Nat) :
    bitAt (each xs (fun k m => maskSet m k) n) j = (bitAt n j || xs.contains j) := by
  induction xs generalizing n with
  | nil => exact (Bool.or_false _).symm
  | cons x xs ih => rw [each_cons, ih, bitAt_maskSet, List.contains_cons, Bool.or_assoc]

theorem bitAt_each_maskClear (xs : List Nat) (n j : Nat) :
    bitAt (each xs (fun k m => maskClear m k) n) j = (bitAt n j && !xs.contains j) := by
  induction xs generalizing n with
  | nil => exact (Bool.and_true _).symm
  | cons x xs ih => rw [each_cons, ih, bitAt_maskClear, List.contains_cons, Bool.and_assoc, ← Bool.not_or]

theorem SMap.find_each_enter {α : Type} (xs : List Nat) (m : SMap α) (v : α) {j : Nat}
    (h : j ∈ xs ∨ SMap.find m j = some v) : SMap.find (each xs (fun k m => SMap.enter m k v) m) j = some v := by
  induction xs generalizing m with
  | nil => exact h.resolve_left List.not_mem_nil
  | cons x xs ih =>
    refine ih _ ?_
    by_cases hx : x = j
    · subst hx
      exact .inr (SMap.find_enter_same m x v)
    · refine h.imp (fun hmem => (List.mem_cons.mp hmem).resolve_left (Ne.symm hx)) (fun hfind => ?_)
      rw [SMap.find_enter_other m x j v hx, hfind]

theorem mem_bitsSet {w n k : Nat} : k ∈ bitsSet w n ↔ k < w ∧ bitAt n k = true := by
  rw [bitsSet, List.mem_filter, List.mem_range]

/-! ### Agents -/

theorem State.agent_ite {p : Prop} [Decidable p] {t u : State} {k : Nat} (h : t.agent k = u.agent k) :
    (if p then t else u).agent k = u.agent k := by
  split
  · exact h
  · rfl

/-! ### What a look at the throttle reasons leaves alone -/

theorem State.noteReasons_kept (s : State) :
    Kept (placesMask [.lim, .BUD_RSN_ACTIVE, .BUD_RSN_CNT, .BUD_RSN_NS]) s s.noteReasons :=
  State.noteReasons_keeps _ s s (by decide) (Kept.refl _ s)

theorem State.drp_noteReasons (s : State) : s.noteReasons.drp = s.drp := s.noteReasons_kept.drp (by decide)

theorem State.now_noteReasons (s : State) : s.noteReasons.now = s.now := s.noteReasons_kept.now (by decide)

end Sys2Proof.Machine
end

section
/-! PROOF of O36 (R164, R170, R174): an edge of cl_clk_in by what it makes of the detected level, the ladder and the nominal count. The
ladder is a step of its level and timer; what the detection depends on stays as it is from edge to edge. -/

namespace Sys2Proof.Machine

/-! ### Slots leave the nominal count alone -/

theorem AgentCounters.nominal_lost (k : AgentCounters) (active n : Nat) : (k.lost active n).nominal = k.nominal := by
  unfold AgentCounters.lost
  split <;> rfl

theorem nominal_slotOf (removed : Bool) (every active : Nat) (x : Engine) (k : AgentCounters) :
    (slotOf removed every active x k).2.nominal = k.nominal := by
  unfold slotOf
  dsimp only
  split
  · rfl
  · split
    · rw [AgentCounters.nominal_lost]
    · split
      · rfl
      · split
        · rw [AgentCounters.nominal_lost]
        · split <;> rw [AgentCounters.nominal_lost]

theorem nominal_slotsOf (removed : Bool) (every active : Nat) (xs : List Engine) (k : AgentCounters) :
    (slotsOf removed every active xs k).2.nominal = k.nominal := by
  induction xs generalizing k with
  | nil => rfl
  | cons x xs ih => exact (ih _).trans (nominal_slotOf removed every active x k)

theorem AgentCounters.nominal_entryTo (k : AgentCounters) (d : Nat) : (k.entryTo d).nominal = k.nominal := by
  unfold AgentCounters.entryTo
  split
  · rfl
  · split
    · rfl
    · split <;> rfl

/-! ### The ladder as a step of its level and timer (R170) -/

/-- Level and timer of the ladder after a sample with combined level `e`. -/
def ladderStep (lvl timer e : Nat) : Nat × Nat :=
  if lvl < e then (e, 16)
  else if e = lvl then (lvl, if 0 < lvl then 16 else timer)
  else if timer ≤ 1 then (lvl - 1, if lvl = 1 then 0 else 32)
  else (lvl, timer - 1)

/-- The detector of `k` is judged and calibrated as that of `j` is. -/
structure Detector.SameJudgement (j k : Detector) : Prop where
  valid : k.valid = j.valid
  point : k.point = j.point
  cal : k.cal = j.cal
  stuck : k.stuck = j.stuck

theorem Detector.SameJudgement.trans {i j k : Detector} (h : i.SameJudgement j) (g : j.SameJudgement k) : i.SameJudgement k :=
  ⟨g.valid.trans h.valid, g.point.trans h.point, g.cal.trans h.cal, g.stuck.trans h.stuck⟩

theorem Detector.nextEdge_spec (k : Detector) : k.nextEdge.lvl = k.lvl ∧ k.nextEdge.timer = k.timer ∧ k.SameJudgement k.nextEdge := by
  unfold Detector.nextEdge
  dsimp only
  split <;> exact ⟨rfl, rfl, rfl, rfl, rfl, rfl⟩

theorem Detector.ladder_spec (k : Detector) (e : Nat) : ((k.ladder e).lvl, (k.ladder e).timer) = ladderStep k.lvl k.timer e ∧
    k.SameJudgement (k.ladder e) := by
  unfold Detector.ladder ladderStep
  split
  · exact ⟨rfl, rfl, rfl, rfl, rfl⟩
  · split
    · split <;> exact ⟨rfl, rfl, rfl, rfl, rfl⟩
    · split <;> exact ⟨rfl, rfl, rfl, rfl, rfl⟩

/-! ### An edge -/

/-- The agent of cluster `c` after an edge with margin code `code` in state `s`, as far as the ladder goes. -/
structure State.Sampled (s : State) (c code : Nat) (b : Agent) : Prop where
  run : b.run = (s.agent c).run
  nominal : b.cnt.nominal = if (s.agent c).run then ((s.agent c).cnt.nominal + 1) % 2 ^ 64 else (s.agent c).cnt.nominal
  d : b.det.d = s.detected c code
  ladder : (b.det.lvl, b.det.timer) =
    ladderStep (s.agent c).det.lvl (s.agent c).det.timer (max (s.detected c code) (s.forcedLevel c))
  judgement : (s.agent c).det.SameJudgement b.det

theorem State.agent_countEntry (s : State) (d k : Nat) : (s.countEntry d).agent k = s.agent k :=
  State.agent_congr ((State.countEntry_keeps (allBut .agents) s s d (by decide) (Kept.refl _ s)).agents (by decide)) k

/-- An edge moves detector, ladder and nominal count, whatever the entries that tell of it (R164, R170). -/
theorem State.edge_sampled {s : State} {c : Nat} (h : s.present c = true) (code : Nat) : s.Sampled c code ((s.edge c code).agent c) := by
  obtain ⟨hlvl, htimer, hsame⟩ := (s.agent c).det.nextEdge_spec
  unfold State.edge
  dsimp only
  rw [if_neg (by rw [h]; decide)]
  generalize (s.agent c).det.nextEdge = k0 at hlvl htimer hsame ⊢
  generalize hslots : (if (s.agent c).run = true then slotsOf _ _ _ _ _ else _ : List Engine × AgentCounters) = x
  obtain ⟨engs, cnt⟩ := x
  have hcnt : cnt.nominal =
      if (s.agent c).run then ((s.agent c).cnt.nominal + 1) % 2 ^ 64 else (s.agent c).cnt.nominal := by
    refine (congrArg (fun p : List Engine × AgentCounters => p.2.nominal) hslots).symm.trans ?_
    split
    · exact (nominal_slotsOf _ _ _ _ _).trans rfl
    · rfl
  dsimp only
  rw [State.agent_ite (State.agent_ringEvent _ _ _), State.agent_ite (State.agent_logAgent _ _ _ _ _),
    State.agent_ite (State.agent_countEntry _ _ _), State.agent_setAgent_same]
  obtain ⟨hladder, hjudged⟩ := Detector.ladder_spec { k0 with patPos := if k0.patLvl = 0 then 0 else (k0.patPos + 1) % 8 }
    (max (s.detected c code) (s.forcedLevel c))
  refine ⟨rfl, ?_, rfl, ?_, ?_⟩
  · dsimp only
    split
    · rw [AgentCounters.nominal_entryTo, hcnt]
    · exact hcnt
  · dsimp only at hladder ⊢
    rw [hladder, hlvl, htimer]
  · have hstepped : k0.SameJudgement { k0 with patPos := if k0.patLvl = 0 then 0 else (k0.patPos + 1) % 8 } := ⟨rfl, rfl, rfl, rfl⟩
    obtain ⟨hvalid, hpoint, hcal, hstuck⟩ := (hsame.trans hstepped).trans hjudged
    exact ⟨hvalid, hpoint, hcal, hstuck⟩

/-! ### What the detection depends on -/

/-- What an edge, and a look at the throttle reasons after it, may change. -/
def edgePlaces : List Place :=
  [.agents, .rings, .lim, .BUD_RSN_ACTIVE, .BUD_RSN_CNT, .BUD_RSN_NS, .DRP_CNT_MILD, .DRP_CNT_DEEP, .DRP_CNT_SEVERE, .RING_STATUS,
   .RING_TRIG_T]

theorem range_of_edgePlaces {off : Nat} (h : inPlaces edgePlaces off) : off < 0x14100 ∨ (0x28000 ≤ off ∧ off < 0x30000) := by
  obtain ⟨p, hp, hi⟩ := h
  simp only [edgePlaces, List.mem_cons, List.not_mem_nil, or_false] at hp
  rcases hp with rfl | rfl | rfl | rfl | rfl | rfl | rfl | rfl | rfl | rfl | rfl
  · exact hi.elim
  · exact hi.elim
  · exact hi.elim
  · have hi : off = 0xA058 := hi
    omega
  · obtain ⟨k, hk⟩ : ∃ k, off = 0xA100 + 0x4 * (k % 16) := hi
    omega
  · obtain ⟨k, hk⟩ : ∃ k, off = 0xA200 + 0x4 * (k % 32) := hi
    omega
  · have hi : off = 0x14018 := hi
    omega
  · have hi : off = 0x1401C := hi
    omega
  · have hi : off = 0x14020 := hi
    omega
  · have hi : off = 0x28018 := hi
    omega
  · obtain ⟨k, hk⟩ : ∃ k, off = 0x2801C + 0x4 * (k % 2) := hi
    omega

theorem State.edge_kept (s : State) (c code : Nat) : Kept (placesMask edgePlaces) s (s.edge c code).noteReasons :=
  State.noteReasons_keeps _ s _ (by decide) (State.edge_keeps _ s s c code (by decide) (Kept.refl _ s))

theorem Kept.fld_of_edge {s t : State} (h : Kept (placesMask edgePlaces) s t) {f : Fld}
    (hoff : (0x14100 ≤ f.off ∧ f.off < 0x28000) ∨ 0x30000 ≤ f.off) : t.fld f = s.fld f := by
  have hreg : t.reg f.off = s.reg f.off := by
    refine h.reg f.off (fun p hp hi => ?_)
    have hrange := range_of_edgePlaces ⟨p, mem_of_placesMask hp, hi⟩
    omega
  unfold State.fld
  rw [hreg]

section
variable {s t : State} {c : Nat} (h : Kept (placesMask edgePlaces) s t)
include h

/-- The thresholds of the point in force stay as they are (R164). -/
theorem State.codeLevel_congr (code : Nat) : t.codeLevel code = s.codeLevel code := by
  have hpoint : t.opIndex = s.opIndex := h.fld OPP_STATUS.INDEX (by decide)
  have hthr (k : Nat) : (0x14100 ≤ DRP_THR k ∧ DRP_THR k < 0x28000) ∨ 0x30000 ≤ DRP_THR k :=
    .inl (show 0x14100 ≤ 0x14100 + 0x4 * (k % 32) ∧ 0x14100 + 0x4 * (k % 32) < 0x28000 by omega)
  unfold State.codeLevel
  simp only [hpoint, h.fld DRP_CAL.TARGET (by decide), h.fld_of_edge (f := DRP_THR.SEVERE_OFS s.opIndex) (hthr _),
    h.fld_of_edge (f := DRP_THR.DEEP_OFS s.opIndex) (hthr _), h.fld_of_edge (f := DRP_THR.MILD_OFS s.opIndex) (hthr _)]

theorem Kept.flag_of_drpCfg {f : Fld} (hf : f.off = AGT_DRP_CFG c) : t.flag f = s.flag f := by
  have hoff : 0x30000 ≤ 0x40100 + 0x400 * (c % 320) := by omega
  unfold State.flag
  rw [h.fld_of_edge (.inr (hf ▸ hoff))]

variable (hj : (s.agent c).det.SameJudgement (t.agent c).det)
include hj

theorem State.calibrated_congr : t.calibrated c = s.calibrated c := by
  unfold State.calibrated
  dsimp only
  rw [h.flag_of_drpCfg (f := AGT_DRP_CFG.TRIM_FIX c) rfl, hj.valid, hj.point, hj.cal]

variable (hrun : (t.agent c).run = (s.agent c).run)
include hrun

theorem State.detected_congr (code : Nat) : t.detected c code = s.detected c code := by
  unfold State.detected State.detEn
  rw [hrun, h.flag_of_drpCfg (f := AGT_DRP_CFG.DET_EN c) rfl, h.flag DRP_CTRL.DET_EN (by decide), State.calibrated_congr h hj,
    hj.stuck, State.codeLevel_congr h]

theorem State.forcedLevel_congr : t.forcedLevel c = s.forcedLevel c := by
  unfold State.forcedLevel State.debugForce
  dsimp only
  rw [hrun, h.drp (by decide), h.fld DRP_PRO.LEVEL (by decide), State.calibrated_congr h hj, h.fld DRP_CAL.UNCAL_LEVEL (by decide),
    h.fld DRP_FORCE.STRIPES (by decide), h.fld DRP_FORCE.LEVEL (by decide), hj.stuck]

end

/-! ### Edges to the timer's end -/

/-- An edge with nothing detected or forced counts the timer down, or drops the ladder at its end (R170). -/
theorem State.edge_quiet {s : State} {c code : Nat} (hpresent : s.present c = true) (hlvl : 0 < (s.agent c).det.lvl)
    (hd : s.detected c code = 0) (hf : s.forcedLevel c = 0) :
    ((s.agent c).det.timer ≤ 1 → ((s.edge c code).agent c).det.lvl = (s.agent c).det.lvl - 1) ∧
    (1 < (s.agent c).det.timer → ((s.edge c code).agent c).det.lvl = (s.agent c).det.lvl ∧
      ((s.edge c code).agent c).det.timer = (s.agent c).det.timer - 1) := by
  have hladder := (State.edge_sampled hpresent code).ladder
  unfold ladderStep at hladder
  rw [hd, hf, Nat.max_self, if_neg (Nat.not_lt_zero _), if_neg (Nat.ne_of_lt hlvl)] at hladder
  constructor
  · intro hends
    rw [if_pos hends] at hladder
    exact congrArg Prod.fst hladder
  · intro hgoes
    rw [if_neg (Nat.not_le.mpr hgoes)] at hladder
    exact ⟨congrArg Prod.fst hladder, congrArg Prod.snd hladder⟩

/-- With nothing detected or forced the ladder drops one step once its timer, of at most `n + 1` edges, has ended (R170). -/
theorem State.edgesToDrop_drops {c code : Nat} (n : Nat) {s : State} (hpresent : s.present c = true) (hlvl : 0 < (s.agent c).det.lvl)
    (htimer : (s.agent c).det.timer ≤ n + 1) (hd : s.detected c code = 0) (hf : s.forcedLevel c = 0) :
    ((State.edgesToDrop (n + 1) s c code).agent c).det.lvl = (s.agent c).det.lvl - 1 := by
  induction n generalizing s with
  | zero =>
    obtain ⟨hends, -⟩ := State.edge_quiet hpresent hlvl hd hf
    have hlast := hends htimer
    unfold State.edgesToDrop
    dsimp only
    rw [State.agent_noteReasons, if_pos (.inr (by omega)), State.agent_noteReasons, hlast]
  | succ n ih =>
    obtain ⟨hends, hgoes⟩ := State.edge_quiet hpresent hlvl hd hf
    unfold State.edgesToDrop
    dsimp only
    obtain hlast | hmore := Nat.lt_or_ge 1 (s.agent c).det.timer |>.symm
    · have hdrop := hends hlast
      rw [State.agent_noteReasons, if_pos (.inr (by omega)), State.agent_noteReasons, hdrop]
    · obtain ⟨hheld, hcounted⟩ := hgoes hmore
      obtain ⟨hrun, -, -, -, hj⟩ := State.edge_sampled hpresent code
      have hstays : ¬((s.agent c).det.lvl = 0 ∨ ((s.edge c code).agent c).det.lvl ≠ (s.agent c).det.lvl) := by omega
      have hkept := s.edge_kept c code
      rw [State.agent_noteReasons, if_neg hstays, ← hheld]
      rw [← State.agent_noteReasons (s.edge c code)] at hheld hcounted hrun hj ⊢
      refine ih ?_ (by rw [hheld]; exact hlvl) (by omega) ?_ ?_
      · exact (congrArg (fun i : Tie => bitAt i.positions c) hkept.tie).trans hpresent
      · exact (State.detected_congr hkept hj hrun code).trans hd
      · exact (State.forcedLevel_congr hkept hj hrun).trans hf

/-! ### The local stop -/

/-- The local stop of grants ends once Skylark time has reached its end (R174). -/
theorem State.localStopEnds_spec {s : State} {c : Nat} (hstop : s.skyNs < (s.agent c).det.stopUntil) (hd : (s.agent c).det.d ≠ 3) :
    (s.agent c).det.stopUntil ≤ (s.localStopEnds c).skyNs ∧ (s.localStopEnds c).agents = s.agents := by
  unfold State.localStopEnds
  rw [if_pos ⟨hstop, hd⟩]
  have hreached := s.le_skyNs_advanceSky (s.agent c).det.stopUntil
  have hsky := s.advanceSky_kept (s.agent c).det.stopUntil
  generalize s.advanceSky _ = u at hreached hsky ⊢
  have hshown := State.shadow_keeps (placesMask [.AGT_STATUS, .AGT_ENG, .AGT_LAST, .AGT_RING_HEAD]) u u c (by decide) (Kept.refl _ u)
  exact ⟨hreached.trans_eq (State.skyNs_of_kept hshown (by decide)).symm,
    (hshown.agents (by decide)).trans (hsky.agents (by decide))⟩

/-! ### The obligation -/

/-- The ladder after an edge, case by case (R170). -/
theorem ladderStep_cases {lvl timer e l t : Nat} (h : (l, t) = ladderStep lvl timer e) :
    if lvl < e then l = e ∧ t = 16
    else if e = lvl then l = lvl ∧ (0 < lvl → t = 16)
    else if timer ≤ 1 then l = lvl - 1
    else l = lvl ∧ t = timer - 1 := by
  unfold ladderStep at h
  split
  · next hup =>
    rw [if_pos hup] at h
    exact ⟨congrArg Prod.fst h, congrArg Prod.snd h⟩
  · next hup =>
    rw [if_neg hup] at h
    split
    · next hheld =>
      rw [if_pos hheld] at h
      exact ⟨congrArg Prod.fst h, fun hpos => (congrArg Prod.snd h).trans (if_pos hpos)⟩
    · next hheld =>
      rw [if_neg hheld] at h
      split
      · next hends =>
        rw [if_pos hends] at h
        exact congrArg Prod.fst h
      · next hends =>
        rw [if_neg hends] at h
        exact ⟨congrArg Prod.fst h, congrArg Prod.snd h⟩

/-- Settles O36: an edge by what it makes of the agent (State.edge_sampled), the timer by its edges, the local stop by the clock. -/
theorem edgesMoveTheLadder : Obligations.EdgesMoveTheLadder := by
  unfold Obligations.EdgesMoveTheLadder
  intro s c code hporst hc
  have hpresent := State.present_of_hasCluster hc
  refine ⟨⟨_, exec_ofCluster hporst hc, ?_⟩, fun hlvl htimer hd hf => ⟨_, exec_ofCluster hporst hc, ?_⟩,
    fun hstop hd => ⟨_, exec_ofCluster hporst hc, State.localStopEnds_spec hstop hd⟩⟩
  · obtain ⟨-, hnominal, hd, hladder, -⟩ := State.edge_sampled hpresent code
    rw [State.agent_noteReasons]
    exact ⟨hd, hnominal, ladderStep_cases hladder⟩
  · exact State.edgesToDrop_drops 32 hpresent hlvl (Nat.le_succ_of_le htimer) hd hf

end Sys2Proof.Machine
end

section
/-! PROOF of O37 (R166, R167, R182): the calibration of a detector, and its judgement. Each row by what it makes of the detector; the
rings and reasons that follow leave the agent alone. -/

namespace Sys2Proof.Machine

/-! ### The fast calibration -/

/-- A fast calibration under way is not started again (R166). -/
theorem State.startCal_of_cal {s : State} {c : Nat} {k : FastCal} (h : (s.agent c).det.cal = some k) : s.startCal c = s := by
  unfold State.startCal
  dsimp only
  rw [h]
  exact ite_self s

/-- Windows 1 to 7 search for the trim (R166). -/
theorem State.calWindow_searches {s : State} {c : Nat} {k : FastCal} (h : (s.agent c).det.cal = some k) (hwindow : k.window < 7)
    (m : Nat) :
    ((s.calWindow c m).agent c).det = { (s.agent c).det with
      cal := some ⟨k.window + 1, k.step / 2, calTrim k m (s.fld DRP_CAL.TARGET)⟩
      trim := calTrim k m (s.fld DRP_CAL.TARGET), mean := m } := by
  unfold State.calWindow
  dsimp only
  rw [State.startCal_of_cal h, h]
  dsimp only
  rw [if_pos hwindow, State.agent_setAgent_same]

/-- Window 8 stores the trim and makes it valid (R166). -/
theorem State.calWindow_stores {s : State} {c : Nat} {k : FastCal} (h : (s.agent c).det.cal = some k) (hwindow : 7 ≤ k.window)
    (m : Nat) :
    ((s.calWindow c m).agent c).det = { (s.agent c).det with
      cal := none, trim := calTrim k m (s.fld DRP_CAL.TARGET), mean := m
      valid := maskSet (s.agent c).det.valid (s.agent c).det.point
      trims := SMap.put (fun _ => 0x80) (s.agent c).det.trims (s.agent c).det.point (calTrim k m (s.fld DRP_CAL.TARGET)) } := by
  unfold State.calWindow
  dsimp only
  rw [State.startCal_of_cal h, h]
  dsimp only
  rw [if_neg (Nat.not_lt.mpr hwindow), State.agent_logAgent, State.agent_setAgent_same]

/-! ### Maintenance rounds -/

section
variable {s : State} {c : Nat} (m start : Nat)

/-- Nothing comes of a round that is not due (R167). -/
theorem State.maintenance_of_notDue (h : s.roundDue (s.agent c).det start = false) : s.maintenance c m start = s := by
  unfold State.maintenance
  dsimp only
  rw [h, Bool.not_false, Bool.or_true, if_pos rfl]

/-- May cluster `c` run maintenance rounds: its clock runs, and its trim is valid and not fixed (R167)? -/
structure State.maintains (s : State) (c : Nat) : Prop where
  present : s.present c = true
  run : (s.agent c).run = true
  valid : bitAt (s.agent c).det.valid (s.agent c).det.point = true
  cal : (s.agent c).det.cal = none
  free : s.flag (AGT_DRP_CFG.TRIM_FIX c) = false

/-- A detector's trim after a quiet round with mean `m` (R167). -/
def Detector.roundTrim (k : Detector) (m target : Nat) : Nat :=
  if target + 2 < m then min 255 (k.trim + 1) else if m + 2 < target then k.trim - 1 else k.trim

variable (hmay : s.maintains c) (hdue : s.roundDue (s.agent c).det start = true)
include hmay hdue

theorem State.maintenance_due : (!s.present c || !(s.agent c).run || !bitAt (s.agent c).det.valid (s.agent c).det.point ||
    (s.agent c).det.cal.isSome || s.flag (AGT_DRP_CFG.TRIM_FIX c) || !s.roundDue (s.agent c).det start) = false := by
  rw [hmay.present, hmay.run, hmay.valid, hmay.cal, hmay.free, hdue]
  rfl

/-- A quiet round moves the trim by at most one (R167). -/
theorem State.maintenance_quiet (hnoise : (s.agent c).det.noisyAt < start ∨ (s.agent c).det.noisyAt = 0)
    (hlvl : (s.agent c).det.lvl = 0) (hd : (s.agent c).det.d = 0) (hstep : s.noStep = true) :
    ∃ trims, ((s.maintenance c m start).agent c).det = { (s.agent c).det with
      trim := (s.agent c).det.roundTrim m (s.fld DRP_CAL.TARGET), mean := m, notQuiet := 0, stale := false, roundAt := start
      trims := trims } := by
  have hquiet : (decide ((s.agent c).det.noisyAt < start ∨ (s.agent c).det.noisyAt = 0) && (s.agent c).det.lvl == 0 &&
      (s.agent c).det.d == 0 && s.noStep) = true := by
    rw [decide_eq_true hnoise, hlvl, hd, hstep]; rfl
  unfold State.maintenance
  dsimp only
  rw [if_neg (by rw [State.maintenance_due start hmay hdue]; decide), if_pos hquiet,
    State.agent_ite (State.agent_logAgent _ _ _ _ _).symm, State.agent_logAgent, State.agent_setAgent_same]
  exact ⟨_, rfl⟩

/-- A round in which the ladder was up is counted, and the eighth in a row makes the calibration stale (R167). -/
theorem State.maintenance_noisy (hlvl : 0 < (s.agent c).det.lvl) :
    ((s.maintenance c m start).agent c).det = { (s.agent c).det with
      mean := m, roundAt := start, notQuiet := (s.agent c).det.notQuiet + 1
      stale := (s.agent c).det.stale || decide (8 ≤ (s.agent c).det.notQuiet + 1) } := by
  have hnoisy : ((s.agent c).det.lvl == 0) = false := beq_eq_false_iff_ne.mpr (Nat.ne_of_gt hlvl)
  unfold State.maintenance
  dsimp only
  rw [if_neg (by rw [State.maintenance_due start hmay hdue]; decide), if_neg (by rw [hnoisy]; simp), State.agent_setAgent_same]

end

/-! ### A stuck detector -/

/-- The detector of cluster `c` is ignored from now on (R182). -/
def State.detectorIgnored (s : State) (c : Nat) : State :=
  s.setAgent c { s.agent c with
    det := { (s.agent c).det with
      stuck := true, clear := 0, d := 0, severeSince := none, stopUntil := s.skyNs + s.fld DRP_HOLD.GRANT_HOLD }
    cnt := { (s.agent c).cnt with stuckCnt := ((s.agent c).cnt.stuckCnt + 1) % 256 } }

/-- DRP_STUCK shows cluster `c`, and its ring tells of it (R182). -/
def State.stuckShown (s : State) (c data : Nat) : State :=
  ((s.incSat DRP_STUCK.COUNT).setFld DRP_STUCK.LAST c).logAgent c 0x07 data

theorem State.stuckDetector_eq {s : State} {c t0 : Nat} (hsince : (s.agent c).det.severeSince = some t0)
    (hen : s.flag DRP_CTRL.STUCK_EN = true) (hstuck : (s.agent c).det.stuck = false) :
    s.stuckDetector c = (((s.advanceTo (t0 + 1000 * s.fld DRP_HOLD.STUCK_TIME)).detectorIgnored c).stuckShown c
      (dataBytes [(s.agent c).det.point, (s.agent c).det.trim, 2])).raise srcDrpDetStuck (syndrome c 0 (s.agent c).det.minCode) := by
  unfold State.stuckDetector
  dsimp only
  rw [hsince]
  dsimp only
  rw [hen, hstuck]
  rfl

theorem State.stuckShown_spec (s : State) {c : Nat} (hc : c < 512) (data : Nat) :
    (s.stuckShown c data).now = s.now ∧ (s.stuckShown c data).raises = s.raises ∧ (s.stuckShown c data).agent c = s.agent c ∧
    (s.stuckShown c data).fld DRP_STUCK.LAST = c := by
  have hkept := State.logAgent_keeps (placesMask [.rings, .RING_STATUS]) _
    ((s.incSat DRP_STUCK.COUNT).setFld DRP_STUCK.LAST c) c 0x07 data (by decide) (Kept.refl _ _)
  refine ⟨hkept.now (by decide), hkept.raises (by decide), State.agent_congr (hkept.agents (by decide)) c, ?_⟩
  refine (hkept.fld DRP_STUCK.LAST (by decide)).trans ?_
  rw [State.fld_setFld_same _ _ _ (by decide) (by decide)]
  exact Nat.mod_eq_of_lt hc

/-- A detector that has been SEVERE for STUCK_TIME is ignored, shown and raised (R182). -/
theorem State.stuckDetector_spec {s : State} {c t0 : Nat} (hc : c < 512) (hsince : (s.agent c).det.severeSince = some t0)
    (hen : s.flag DRP_CTRL.STUCK_EN = true) (hstuck : (s.agent c).det.stuck = false) :
    (s.stuckDetector c).now = max s.now (t0 + 1000 * s.fld DRP_HOLD.STUCK_TIME) ∧
    ((s.stuckDetector c).agent c).det.stuck = true ∧ ((s.stuckDetector c).agent c).det.d = 0 ∧
    (s.stuckDetector c).fld DRP_STUCK.LAST = c ∧
    (s.stuckDetector c).raises = s.raises ++ [⟨srcDrpDetStuck, syndrome c 0 (s.agent c).det.minCode, false⟩] := by
  rw [State.stuckDetector_eq hsince hen hstuck]
  obtain ⟨hnow, hraises, hagent, hlast⟩ := State.stuckShown_spec
    ((s.advanceTo (t0 + 1000 * s.fld DRP_HOLD.STUCK_TIME)).detectorIgnored c) hc
    (dataBytes [(s.agent c).det.point, (s.agent c).det.trim, 2])
  generalize State.stuckShown _ c _ = u at hnow hraises hagent hlast ⊢
  show u.now = _ ∧ (u.agent c).det.stuck = true ∧ (u.agent c).det.d = 0 ∧ u.fld DRP_STUCK.LAST = c ∧ u.raises ++ _ = _
  unfold State.detectorIgnored at hnow hraises hagent
  rw [State.agent_setAgent_same] at hagent
  rw [hnow, hraises, hagent]
  exact ⟨s.now_advanceTo _, rfl, rfl, hlast, rfl⟩

/-- 1,024 clear samples reinstate a stuck detector (R182). -/
theorem State.reinstate_spec {s : State} {c : Nat} (hstuck : (s.agent c).det.stuck = true) (hclear : (s.agent c).det.clear = 1024) :
    ((s.reinstate c).agent c).det.stuck = false := by
  unfold State.reinstate
  dsimp only
  rw [if_pos ⟨hstuck, hclear⟩, State.agent_logAgent, State.agent_setAgent_same]

/-! ### The obligation -/

/-- Settles O37: each row by what it makes of the detector. -/
theorem detectorsAreCalibratedAndJudged : Obligations.DetectorsAreCalibratedAndJudged := by
  unfold Obligations.DetectorsAreCalibratedAndJudged
  intro s c m hporst hc
  refine ⟨fun k hcal => ⟨fun hwindow => ⟨_, exec_ofCluster hporst hc, ?_⟩,
      fun hwindow => ⟨_, exec_ofCluster hporst hc, ?_⟩⟩,
    fun start hrun hvalid hcal hfree => ⟨fun hdue hnoise hlvl hd hstep => ⟨_, exec_ofCluster hporst hc, ?_⟩, fun hdue => ?_,
      fun hdue hlvl => ⟨_, exec_ofCluster hporst hc, ?_⟩⟩,
    fun t0 hsince hen hstuck => ⟨_, exec_ofCluster hporst hc, ?_⟩, fun hstuck hclear => ⟨_, exec_ofCluster hporst hc, ?_⟩⟩
  · rw [State.agent_noteReasons, State.calWindow_searches hcal hwindow]
    exact ⟨rfl, if_pos hwindow, rfl⟩
  · rw [State.agent_noteReasons, State.calWindow_stores hcal hwindow]
    exact ⟨rfl, rfl, rfl⟩
  · obtain ⟨trims, hdet⟩ := State.maintenance_quiet m start ⟨State.present_of_hasCluster hc, hrun, hvalid, hcal, hfree⟩
      hdue hnoise hlvl hd hstep
    rw [hdet]
    exact ⟨rfl, rfl, rfl, rfl⟩
  · exact (exec_ofCluster hporst hc).trans (congrArg Host.Outcome.next (State.maintenance_of_notDue m start hdue))
  · rw [State.maintenance_noisy m start ⟨State.present_of_hasCluster hc, hrun, hvalid, hcal, hfree⟩ hdue hlvl]
    refine ⟨rfl, rfl, fun h8 => ?_⟩
    show ((s.agent c).det.stale || decide (8 ≤ (s.agent c).det.notQuiet + 1)) = true
    rw [decide_eq_true h8, Bool.or_true]
  · obtain ⟨hnow, hignored, hd, hlast, hraised⟩ := State.stuckDetector_spec
      (Nat.lt_trans (State.lt_of_hasCluster hc) (by decide)) hsince hen hstuck
    have hkept := (s.stuckDetector c).noteReasons_kept
    rw [State.agent_noteReasons, hkept.now (by decide), hkept.fld DRP_STUCK.LAST (by decide), hkept.raises (by decide)]
    exact ⟨hnow, hignored, hd, hlast, hraised⟩
  · rw [State.agent_noteReasons]
    exact State.reinstate_spec hstuck hclear

end Sys2Proof.Machine
end

section
/-! PROOF of O38 (R172 to R174, R177): the droop engine's freezes and forces. Rings, shadows and reasons leave the engine alone; a
freeze is set and ended stripe by stripe. -/

namespace Sys2Proof.Machine

/-! ### What leaves the droop engine alone -/

/-- What a freeze that changes is told by: the rings, the shadows of the agents, and the count of freezes. -/
def freezeTelling : List Place := [.rings, .RING_STATUS, .AGT_STATUS, .AGT_ENG, .AGT_LAST, .AGT_RING_HEAD]

theorem State.drp_advanceTo (s : State) (t : Nat) : (s.advanceTo t).drp = s.drp :=
  (State.advanceTo_keeps (allBut .drp) s s t (by decide) (Kept.refl _ s)).drp (by decide)

/-- The arbiter's ring and the agents of the stripes `new` are told of a change of the freeze. -/
def State.freezeNoted (s : State) (new : List Nat) (on data : Nat) : State :=
  each new (fun k t => t.noteFreeze k on 0) (s.logArb 0x25 data)

theorem State.freezeNoted_kept (s : State) (new : List Nat) (on data : Nat) :
    Kept (placesMask freezeTelling) s (s.freezeNoted new on data) :=
  Kept.each (State.logArb_keeps _ s s _ _ (by decide) (Kept.refl _ s))
    (fun k t ht => State.noteFreeze_keeps _ s t k on 0 (by decide) ht)

/-! ### A SEVERE report -/

/-- A report of cluster `c` has reached the engine. -/
def State.reportTaken (s : State) (c : Nat) : State :=
  s.setAgent c { s.agent c with det := { (s.agent c).det with reports := (s.agent c).det.reports - 1 } }

/-- The stripes `xs` are frozen for GRANT_HOLD from now. -/
def State.freezeSet (s : State) (xs : List Nat) : State :=
  { s with drp := { s.drp with
      freeze := each xs (fun k m => maskSet m k) s.drp.freeze
      freezeEnd := each xs (fun k m => SMap.enter m k (s.now + s.fld DRP_HOLD.GRANT_HOLD)) s.drp.freezeEnd } }

/-- Those of the stripes `xs` that are not frozen. -/
def State.unfrozen (s : State) (xs : List Nat) : List Nat := xs.filter (fun k => !bitAt s.drp.freeze k)

theorem State.severeReport_eq {s : State} {c : Nat} (hreset : s.inReset = false) (hreports : 0 < (s.agent c).det.reports) :
    s.severeReport c =
      let t := (s.reportTaken c).freezeSet (s.freezeScope c)
      if (s.unfrozen (s.freezeScope c)).isEmpty then t
      else (t.incSat (whole DRP_FREEZES)).freezeNoted (s.unfrozen (s.freezeScope c)) 1
        (dataBytes (leBytes 2 t.drp.freeze ++ [bnat t.holdFreeze])) := by
  unfold State.severeReport
  exact if_neg (by rw [hreset]; simp only [Bool.false_eq_true, or_false]; omega)

/-- A report freezes its scope, restarts the hold, and is counted where it has frozen a stripe (R174). -/
theorem State.severeReport_spec {s : State} {c : Nat} (hreset : s.inReset = false) (hreports : 0 < (s.agent c).det.reports) :
    (s.severeReport c).agents = (s.reportTaken c).agents ∧
    (s.severeReport c).drp = ((s.reportTaken c).freezeSet (s.freezeScope c)).drp ∧
    ((s.unfrozen (s.freezeScope c)).isEmpty = false →
      (s.severeReport c).reg DRP_FREEZES = min (s.reg DRP_FREEZES + 1) (2 ^ 32 - 1)) := by
  rw [State.severeReport_eq hreset hreports]
  dsimp only
  split
  · next hempty => exact ⟨rfl, rfl, fun h => absurd hempty (by rw [h]; decide)⟩
  · have hkept := (((s.reportTaken c).freezeSet (s.freezeScope c)).incSat (whole DRP_FREEZES)).freezeNoted_kept
    refine ⟨(hkept _ _ _).agents (by decide), (hkept _ _ _).drp (by decide), fun _ => ?_⟩
    rw [(hkept _ _ _).reg' DRP_FREEZES (by decide), State.reg_incSat_whole]
    rfl

theorem State.freezeSet_spec (s : State) {xs : List Nat} {k : Nat} (h : k ∈ xs) :
    bitAt (s.freezeSet xs).drp.freeze k = true ∧
    SMap.find (s.freezeSet xs).drp.freezeEnd k = some (s.now + s.fld DRP_HOLD.GRANT_HOLD) := by
  refine ⟨?_, SMap.find_each_enter xs _ _ (.inl h)⟩
  show bitAt (each xs (fun k m => maskSet m k) s.drp.freeze) k = true
  rw [bitAt_each_maskSet, List.contains_iff_mem.mpr h, Bool.or_true]

/-! ### The end of a freeze -/

/-- The frozen stripes whose hold has ended. -/
def State.freezeOver (s : State) : List Nat :=
  (bitsSet 16 s.drp.freeze).filter (fun k => match SMap.find s.drp.freezeEnd k with
    | some u => decide (u ≤ s.now)
    | none => true)

/-- The stripes `xs` are frozen no longer. -/
def State.unfreeze (s : State) (xs : List Nat) : State :=
  { s with drp := { s.drp with
      freeze := each xs (fun k m => maskClear m k) s.drp.freeze
      freezeEnd := each xs (fun k m => SMap.drop m k) s.drp.freezeEnd } }

theorem State.mem_freezeOver {s : State} {st e : Nat} (hst : st < 16) (hend : SMap.find s.drp.freezeEnd st = some e)
    (hfrozen : bitAt s.drp.freeze st = true) (hnow : e ≤ s.now) : st ∈ s.freezeOver := by
  refine List.mem_filter.mpr ⟨mem_bitsSet.mpr ⟨hst, hfrozen⟩, ?_⟩
  rw [hend]
  exact decide_eq_true hnow

theorem State.freezeExpiry_eq {s : State} {st e : Nat} (hend : SMap.find s.drp.freezeEnd st = some e)
    (hfrozen : bitAt s.drp.freeze st = true) :
    s.freezeExpiry st =
      let u := s.advanceTo e
      (u.unfreeze u.freezeOver).freezeNoted u.freezeOver 0
        (dataBytes (leBytes 2 (u.unfreeze u.freezeOver).drp.freeze ++ [bnat (u.unfreeze u.freezeOver).holdFreeze])) := by
  unfold State.freezeExpiry
  rw [hend]
  dsimp only
  rw [if_pos hfrozen]
  rfl

/-- The freeze of a stripe ends with its hold (R174). -/
theorem State.freezeExpiry_spec {s : State} {st e : Nat} (hst : st < 16) (hend : SMap.find s.drp.freezeEnd st = some e)
    (hfrozen : bitAt s.drp.freeze st = true) :
    (s.freezeExpiry st).now = max s.now e ∧ bitAt (s.freezeExpiry st).drp.freeze st = false := by
  rw [State.freezeExpiry_eq hend hfrozen]
  dsimp only
  have hdrp := s.drp_advanceTo e
  have hnow := s.now_advanceTo e
  generalize s.advanceTo e = u at hdrp hnow ⊢
  have hkept := (u.unfreeze u.freezeOver).freezeNoted_kept u.freezeOver 0
  rw [(hkept _).now (by decide), (hkept _).drp (by decide)]
  refine ⟨hnow, ?_⟩
  have hover : st ∈ u.freezeOver :=
    State.mem_freezeOver hst (by rw [hdrp, hend]) (by rw [hdrp, hfrozen]) (by rw [hnow]; exact Nat.le_max_right _ _)
  show bitAt (each u.freezeOver (fun k m => maskClear m k) u.drp.freeze) st = false
  rw [bitAt_each_maskClear, List.contains_iff_mem.mpr hover, Bool.not_true, Bool.and_false]

/-! ### The forces -/

/-- A stripe's proactive force ends with its time (R177). -/
theorem State.proEnds_spec {s : State} {st e : Nat} (hend : SMap.find s.drp.proEnd st = some e) :
    (s.proEnds st).now = max s.now e ∧ bitAt (s.proEnds st).drp.pro st = false := by
  unfold State.proEnds
  rw [hend]
  refine ⟨s.now_advanceTo e, ?_⟩
  show bitAt (maskClear (s.advanceTo e).drp.pro st) st = false
  rw [bitAt_maskClear, beq_self_eq_true, Bool.not_true, Bool.and_false]

theorem le_ceilMult (t p : Nat) : t ≤ ceilMult t p := by
  unfold ceilMult
  split
  · exact Nat.le_refl t
  · next hp =>
    have hmod := Nat.mod_lt (t + p - 1) (Nat.pos_of_ne_zero hp)
    have hdiv := Nat.div_add_mod' (t + p - 1) p
    omega

/-- The release of the gorse line's force takes the next stripe position, at a later step boundary (R173). -/
theorem State.forceReleaseStep_gorse {s : State} (hoff : s.drp.gorseOn = false) (hleft : s.drp.gorse ≠ 0) :
    s.forceReleaseStep.drp.gorse = releasePosition (stripeOrder (s.flag ADM_CTRL.WAVE_ORDER)) s.drp.gorse ∧
    s.skyNs < s.forceReleaseStep.skyNs := by
  have hdue : (!s.drp.gorseOn && s.drp.gorse != 0) = true := by
    rw [hoff, bne_iff_ne.mpr hleft]; rfl
  have hkept := s.advanceSky_kept (ceilMult (s.skyNs + 1) (s.fld ADM_WAVE.STEP))
  have hreached := (le_ceilMult (s.skyNs + 1) (s.fld ADM_WAVE.STEP)).trans (s.le_skyNs_advanceSky _)
  unfold State.forceReleaseStep
  dsimp only
  rw [hdue, Bool.true_or, if_pos rfl, if_pos rfl]
  generalize s.advanceSky _ = u at hkept hreached ⊢
  refine ⟨?_, hreached⟩
  rw [hkept.flag ADM_CTRL.WAVE_ORDER (by decide), hkept.drp (by decide)]

/-! ### The obligation -/

theorem unfrozen_isEmpty_of_any {s : State} {xs : List Nat} (h : xs.any (fun st => !bitAt s.drp.freeze st) = true) :
    (s.unfrozen xs).isEmpty = false := by
  obtain ⟨st, hmem, hfree⟩ := List.any_eq_true.mp h
  exact List.isEmpty_eq_false_iff_exists_mem.mpr ⟨st, List.mem_filter.mpr ⟨hmem, hfree⟩⟩

/-- Settles O38: a report by what it freezes (State.severeReport_spec), each end by the stripe that it clears. -/
theorem droopEngineFreezesAndReleases : Obligations.DroopEngineFreezesAndReleases := by
  unfold Obligations.DroopEngineFreezesAndReleases
  refine ⟨fun s c hruns hc hreports => ⟨_, ofUnit_run hc hruns, ?_⟩,
    fun s st e hruns hst hend hfrozen => ⟨_, ofUnit_run (decide_eq_true hst) hruns, State.freezeExpiry_spec hst hend hfrozen⟩,
    fun s st e hruns hst hend => ⟨_, ofUnit_run (decide_eq_true hst) hruns, ?_⟩,
    fun s hruns hoff hleft => ⟨_, next_run hruns, ?_⟩⟩
  · obtain ⟨hagents, hdrp, hcounted⟩ := State.severeReport_spec (State.inReset_of_coreRuns hruns) hreports
    rw [State.agent_congr hagents, hdrp]
    refine ⟨?_, fun st hst => (s.reportTaken c).freezeSet_spec hst, fun hnew => hcounted (unfrozen_isEmpty_of_any hnew)⟩
    unfold State.reportTaken
    rw [State.agent_setAgent_same]
  · rw [State.now_noteReasons, State.drp_noteReasons]
    exact State.proEnds_spec hend
  · rw [State.drp_noteReasons, State.skyNs_noteReasons]
    exact State.forceReleaseStep_gorse hoff hleft

end Sys2Proof.Machine
end

section
/-! SUPPORT for O44 (R172, R257, R270, R271): the gorse line in the limiter and at the droop engine. What computes, judges and tells
leaves the line's own state alone; the wake of the block core domain leaves the clocks of the clusters running. -/

namespace Sys2Proof.Machine

/-! ### What leaves the line's state in the limiter alone -/

/-- Two states of the limiter with the same emergency, latched pin, holds and alerts. -/
structure Limiter.SameLine (a b : Limiter) : Prop where
  emergency : b.emergency = a.emergency
  pinLow : b.pinLow = a.pinLow
  highAt : b.highAt = a.highAt
  alertAt : b.alertAt = a.alertAt

theorem Limiter.SameLine.refl (a : Limiter) : a.SameLine a := ⟨rfl, rfl, rfl, rfl⟩

theorem Limiter.SameLine.trans {a b c : Limiter} (h : a.SameLine b) (k : b.SameLine c) : a.SameLine c :=
  ⟨k.emergency.trans h.emergency, k.pinLow.trans h.pinLow, k.highAt.trans h.highAt, k.alertAt.trans h.alertAt⟩

theorem Kept.sameLine {m : Nat} {s t : State} (h : Kept m s t) (hm : m.testBit 23 = false) : s.lim.SameLine t.lim := by
  rw [h.lim hm]
  exact .refl _

theorem State.noteCalm_line (s : State) : s.lim.SameLine s.noteCalm.lim := by
  unfold State.noteCalm
  dsimp only
  split
  · exact .refl _
  · exact ⟨rfl, rfl, rfl, rfl⟩

theorem State.accrueReasons_line (s : State) : s.lim.SameLine s.accrueReasons.lim :=
  each_keeps (fun t : State => s.lim.SameLine t.lim) (fun c t => t.setReg64 (BUD_RSN_NS (2 * c))
    (min (t.reg64 (BUD_RSN_NS (2 * c)) + (s.now - s.lim.rsnAt)) (2 ^ 64 - 1))) (fun _ _ h => h) _ _ ⟨rfl, rfl, rfl, rfl⟩

theorem State.noteReasons_line (s : State) : s.lim.SameLine s.noteReasons.lim := by
  refine s.noteCalm_line.trans ?_
  unfold State.noteReasons
  dsimp only
  generalize s.noteCalm = u
  split
  · exact .refl _
  · refine each_keeps (fun t : State => u.lim.SameLine t.lim) (fun c t => t.incSat (whole (BUD_RSN_CNT c))) (fun _ _ h => h) _ _ ?_
    obtain ⟨hemergency, hpin, hhigh, halert⟩ := u.accrueReasons_line
    exact ⟨hemergency, hpin, hhigh, halert⟩

theorem State.moveVolts_line (s : State) (k : Nat) : s.lim.SameLine (s.moveVolts k).lim := by
  unfold State.moveVolts
  split <;> exact ⟨rfl, rfl, rfl, rfl⟩

theorem State.setStep_line (s : State) (k : OppStep) : s.lim.SameLine (s.setStep k).lim := by
  unfold State.setStep
  rw [State.setFlag_lim, State.setFlag_lim]
  exact ⟨rfl, rfl, rfl, rfl⟩

theorem State.cancelUp_line (s : State) : s.lim.SameLine s.cancelUp.lim := by
  unfold State.cancelUp
  dsimp only
  split
  · exact (s.setStep_line {}).trans ((s.setStep {}).moveVolts_line s.opIndex)
  · exact .refl _

theorem State.compute_line (s : State) : s.lim.SameLine s.compute.lim :=
  (State.compute_keeps (allBut .lim) s s (by decide) (Kept.refl _ s)).sameLine (by decide)

theorem State.noteRate_kept (s : State) : Kept (allButThese [.agents, .drp, .lim, .now, .BUD_CAPS, .ADM_CEILING]) s s.noteRate :=
  State.noteRate_keeps _ s s (by decide) (Kept.refl _ s)

theorem State.operandChange_line (s : State) : s.lim.SameLine s.operandChange.noteRate.lim :=
  s.compute_line.trans <| s.compute.cancelUp_line.trans <| s.compute.cancelUp.noteReasons_line.trans <|
    s.operandChange.noteRate_kept.sameLine (by decide)

/-! ### The ceiling (R257) -/

theorem State.liveCeiling_le {s : State} (h : s.lim.emergency = true) : s.liveCeiling ≤ s.fld BUD_SHARE.EMERG_Q := by
  unfold State.liveCeiling
  dsimp only
  rw [if_pos h]
  exact Nat.min_le_right _ _

/-- In an emergency the limiter's computation brings the ceiling to emerg_share at most (R257). -/
theorem State.ceiling_compute {s : State} (h : s.lim.emergency = true) : s.compute.ceiling ≤ s.fld BUD_SHARE.EMERG_Q := by
  have hlive := State.liveCeiling_le h
  have hshare : s.fld BUD_SHARE.EMERG_Q < 2 ^ 16 := bitsOf_lt _ _ _
  unfold State.compute State.ceiling at *
  dsimp only
  split
  · next hsame =>
    rw [State.fld_setFld_off _ _ _ _ (by decide), State.fld_setFld_off _ _ _ _ (by decide), State.fld_setFld_off _ _ _ _ (by decide),
      ← hsame]
    exact hlive
  · rw [State.fld_setFld_same _ _ _ (by decide) (by decide)]
    exact (Nat.mod_le _ _).trans hlive

theorem State.ceiling_operandChange {s : State} (h : s.lim.emergency = true) :
    s.operandChange.noteRate.ceiling ≤ s.fld BUD_SHARE.EMERG_Q := by
  have hreasons := State.noteReasons_keeps (allButThese [.ADM_CEILING]) s.compute _ (by decide)
    (State.cancelUp_keeps _ s.compute _ (by decide) (Kept.refl _ s.compute))
  refine Nat.le_trans (Nat.le_of_eq ?_) (State.ceiling_compute h)
  exact (s.operandChange.noteRate_kept.fld ADM_CEILING.CEIL (by decide)).trans (hreasons.fld ADM_CEILING.CEIL (by decide))

/-! ### The wake -/

/-- The counts of every agent are taken (R254). -/
def State.countsTaken (s : State) : State :=
  each (s.agents.map (fun q => q.1))
    (fun c t => t.setAgent c { t.agent c with fresh := false, early := [], ran := (t.agent c).run }) s

theorem State.run_countsTaken (s : State) (c : Nat) : (s.countsTaken.agent c).run = (s.agent c).run := by
  refine each_keeps (fun t : State => (t.agent c).run = (s.agent c).run) _ (fun d t ht => ?_) _ _ rfl
  by_cases hd : d = c
  · subst hd
    rw [State.agent_setAgent_same, ← ht]
  · rw [State.agent_setAgent_other _ _ hd, ht]

/-- The energy of a gap is booked beside the agents (R254). -/
theorem State.agents_gapBooking (s : State) : s.gapBooking.agents = s.countsTaken.agents := by
  unfold State.gapBooking State.countsTaken
  dsimp only
  generalize each (s.agents.map (fun q => q.1)) _ s = u
  have hbooked (ds : List Nat) (pj t0 t1 : Nat) : Kept (allBut .agents) u
      (((((u.book 1025 pj).book 1024 pj).clearMeters).setFlag EST_STATUS.GAP true).bookGap ds pj t0 t1) :=
    State.bookGap_keeps _ _ _ _ _ _ _ (by decide) <| State.setFlag_at .EST_STATUS rfl (by decide) <|
      State.clearMeters_keeps _ _ _ (by decide) <| State.book_keeps _ _ _ _ _ (by decide) <|
      State.book_keeps _ _ _ _ _ (by decide) (Kept.refl _ u)
  split
  · exact (State.book_keeps _ _ _ _ _ (by decide) (hbooked _ _ _ _)).agents (by decide)
  · exact (hbooked _ _ _ _).agents (by decide)

/-- A booked gap leaves every clock running (R254). -/
theorem State.run_gapBooking (s : State) (c : Nat) : (s.gapBooking.agent c).run = (s.agent c).run :=
  (congrArg Agent.run (State.agent_congr s.agents_gapBooking c)).trans (s.run_countsTaken c)

theorem State.run_startCore (s : State) (c : Nat) : (s.startCore.agent c).run = (s.agent c).run := by
  unfold State.startCore
  split
  · rfl
  · have hgap := State.run_gapBooking (s.setFlag HEATH_DOMAIN_STATUS.CORE_ON true) c
    generalize State.gapBooking _ = u at hgap ⊢
    refine Eq.trans (congrArg Agent.run (State.agent_congr (Kept.agents (m := allBut .agents) ?_ (by decide)) c)) hgap
    exact State.tellGap_keeps _ _ _ _ (by decide) <| State.drainAll_keeps _ _ _ (by decide) <| State.memPump_keeps _ _ _ (by decide) <|
      State.modelResumes_keeps _ _ _ (by decide) <| State.gapCore_keeps _ _ _ (by decide) (Kept.refl _ _)

theorem State.run_wake (s : State) (bit c : Nat) : ((s.wake bit false).agent c).run = (s.agent c).run := by
  unfold State.wake
  dsimp only
  split
  · exact State.run_startCore _ c
  · rfl

/-- A domain that runs is left as it is by a wake event, whose cause bit sets (R14). -/
theorem State.wake_kept_of_coreOn {s : State} (h : s.flag HEATH_DOMAIN_STATUS.CORE_ON = true) (bit : Nat) :
    Kept (placesMask [.sky, .HEATH_WAKE_CAUSE]) s (s.wake bit false) := by
  have hcause : Kept (placesMask [.sky, .HEATH_WAKE_CAUSE]) s (s.setReg HEATH_WAKE_CAUSE (maskSet (s.reg HEATH_WAKE_CAUSE) bit)) :=
    State.setReg_at .HEATH_WAKE_CAUSE rfl (by decide) (Kept.refl _ s)
  have hon := (State.flag_setReg_off s HEATH_WAKE_CAUSE (maskSet (s.reg HEATH_WAKE_CAUSE) bit) HEATH_DOMAIN_STATUS.CORE_ON
    (by decide)).trans h
  unfold State.wake
  dsimp only
  split
  · refine State.lingerFrom_keeps _ s _ false (by decide) ?_
    unfold State.startCore
    rw [if_neg Bool.false_ne_true, if_pos hon]
    exact hcause
  · exact hcause

theorem State.coreRuns_of_kept {m : Nat} {s t : State} (h : Kept m s t) (hdomain : Mask.misses m HEATH_DOMAIN_STATUS = true)
    (hreset : Mask.misses m HEATH_RESET_CTRL = true) : t.coreRuns = s.coreRuns := by
  unfold State.coreRuns State.inReset
  rw [h.porst, h.flag HEATH_DOMAIN_STATUS.CORE_ON hdomain, h.flag HEATH_RESET_CTRL.BLOCK_RESET hreset]

/-! ### The latch -/

/-- The line is latched low, and its force begins. -/
def State.lineLatched (s : State) : State :=
  ({ s with lim := { s.lim with emergency := true, pinLow := true, highAt := none } } : State).gorseForce

/-- The latch begins the emergency and its force (R172, R270). -/
theorem State.fastLimit_spec {s : State} (h : s.lim.pinLow = false) :
    s.lineLatched.lim.SameLine s.fastLimit.lim ∧ s.fastLimit.drp = s.lineLatched.drp ∧ s.fastLimit.agents = s.agents := by
  have htold := State.abortAllInj_keeps (allButThese [.agents, .drp, .lim]) s.lineLatched _ 4 (by decide)
    (State.ringEvent_keeps _ s.lineLatched s.lineLatched 1 (by decide) (Kept.refl _ _))
  unfold State.fastLimit
  rw [if_neg (by rw [h]; decide)]
  have hreasons := State.noteReasons_kept ((s.lineLatched.ringEvent 1).abortAllInj 4)
  exact ⟨(htold.sameLine (by decide)).trans (State.noteReasons_line _), (hreasons.drp (by decide)).trans (htold.drp (by decide)),
    (hreasons.agents (by decide)).trans (htold.agents (by decide))⟩

/-- SEVERE is forced on a running cluster of a stripe under the gorse line's force (R172). -/
theorem State.forcedLevel_of_gorse {s : State} {c : Nat} (hrun : (s.agent c).run = true)
    (hgorse : bitAt s.drp.gorse (stripeOf c) = true) : s.forcedLevel c = 3 := by
  have hpro : s.fld DRP_PRO.LEVEL < 4 := bitsOf_lt _ _ _
  have huncal : s.fld DRP_CAL.UNCAL_LEVEL < 4 := bitsOf_lt _ _ _
  have hforce : s.fld DRP_FORCE.LEVEL < 4 := bitsOf_lt _ _ _
  have hdebug : s.debugForce (stripeOf c) < 4 := by
    unfold State.debugForce
    split
    · exact hforce
    · decide
  unfold State.forcedLevel
  dsimp only
  rw [if_pos hrun, if_pos hgorse]
  split_ifs <;> omega

/-- The latch, with the wake of the block core domain that it brings (R14, R98). -/
def State.lineWoken (s : State) : State := s.fastLimit.wake 3 false

theorem State.lineWoken_spec {s : State} (h : s.lim.pinLow = false) : s.lineLatched.lim.SameLine s.lineWoken.lim ∧
    s.lineWoken.drp = s.lineLatched.drp ∧ ∀ c, (s.lineWoken.agent c).run = (s.agent c).run := by
  obtain ⟨hline, hdrp, hagents⟩ := State.fastLimit_spec h
  have hwake := State.wake_keeps (allButThese [.drp, .lim]) s.fastLimit s.fastLimit 3 false (by decide) (Kept.refl _ _)
  refine ⟨hline.trans (hwake.sameLine (by decide)), (hwake.drp (by decide)).trans hdrp, fun c => ?_⟩
  exact (s.fastLimit.run_wake 3 c).trans (congrArg Agent.run (State.agent_congr hagents c))

theorem State.of_coreRuns {s : State} (h : s.coreRuns = true) : s.ps.porst = true ∧ s.flag HEATH_DOMAIN_STATUS.CORE_ON = true := by
  unfold State.coreRuns at h
  rw [Bool.and_eq_true, Bool.and_eq_true] at h
  exact h.1

/-- A latch that finds the block core domain running leaves it so, and its emerg_share as it is (R257). -/
theorem State.lineWoken_of_coreRuns {s : State} (hcore : s.coreRuns = true) :
    s.lineWoken.coreRuns = true ∧ s.lineWoken.fld BUD_SHARE.EMERG_Q = s.fld BUD_SHARE.EMERG_Q := by
  have hlatch := State.fastLimit_keeps (allButThese [.HEATH_DOMAIN_STATUS, .HEATH_RESET_CTRL, .BUD_SHARE]) s s (by decide) (Kept.refl _ s)
  have hruns : s.fastLimit.coreRuns = true := (State.coreRuns_of_kept hlatch (by decide) (by decide)).trans hcore
  obtain ⟨-, hon⟩ := State.of_coreRuns hruns
  have hwake := State.wake_kept_of_coreOn hon 3
  exact ⟨(State.coreRuns_of_kept hwake (by decide) (by decide)).trans hruns,
    (hwake.fld BUD_SHARE.EMERG_Q (by decide)).trans (hlatch.fld BUD_SHARE.EMERG_Q (by decide))⟩

/-- The limiter follows where it runs (R257, R258). -/
def State.limiterFollows (s : State) : State := if s.coreRuns then s.operandChange.noteRate else s

theorem State.limiterFollows_spec (s : State) : s.lim.SameLine s.limiterFollows.lim ∧ s.limiterFollows.drp = s.drp ∧
    s.limiterFollows.agents = s.agents := by
  have hkept := State.noteRate_keeps (allButThese [.agents, .drp]) s _ (by decide)
    (State.operandChange_keeps _ s s (by decide) (Kept.refl _ s))
  unfold State.limiterFollows
  split
  · exact ⟨s.operandChange_line, hkept.drp (by decide), hkept.agents (by decide)⟩
  · exact ⟨.refl _, rfl, rfl⟩

theorem State.pinFalls_of_porst {s : State} (hpin : s.lim.pinLow = false) (hporst : s.ps.porst = true) :
    s.pinFalls = s.lineWoken.limiterFollows := by
  unfold State.pinFalls
  rw [if_neg (by rw [hpin]; decide), if_pos hporst]
  rfl

/-- The latch begins the emergency, under PORST_N too (R99, R270). -/
theorem State.pinFalls_line {s : State} (hvaon : s.ps.vaon = true) (hpin : s.lim.pinLow = false) :
    s.lineLatched.lim.SameLine s.pinFalls.lim := by
  by_cases hporst : s.ps.porst = true
  · rw [State.pinFalls_of_porst hpin hporst]
    obtain ⟨hline, -, -⟩ := State.lineWoken_spec hpin
    exact hline.trans s.lineWoken.limiterFollows_spec.1
  · unfold State.pinFalls
    rw [if_neg (by rw [hpin]; decide), if_neg hporst]
    exact ⟨hvaon, rfl, rfl, rfl⟩

theorem bitAt_stripeOf {c : Nat} (h : c < 320) : bitAt 0xFFFF (stripeOf c) = true := by
  have hall : ∀ k, k < 16 → bitAt 0xFFFF k = true := by decide
  exact hall _ (Nat.div_lt_of_lt_mul h)

/-- The latch forces SEVERE on every running cluster (R172). -/
theorem State.pinFalls_forces {s : State} (hpin : s.lim.pinLow = false) (hporst : s.ps.porst = true) :
    s.pinFalls.drp.gorseOn = true ∧ ∀ c, s.hasCluster c = true → (s.agent c).run = true → s.pinFalls.forcedLevel c = 3 := by
  obtain ⟨-, hforce, hrun⟩ := State.lineWoken_spec hpin
  obtain ⟨-, hdrp, hagents⟩ := s.lineWoken.limiterFollows_spec
  rw [State.pinFalls_of_porst hpin hporst]
  refine ⟨by rw [hdrp, hforce]; rfl, fun c hc hruns => State.forcedLevel_of_gorse ?_ ?_⟩
  · rw [State.agent_congr hagents, hrun, hruns]
  · rw [hdrp, hforce]
    exact bitAt_stripeOf (State.lt_of_hasCluster hc)

/-- A limiter that runs holds the ceiling at emerg_share from the latch on (R257). -/
theorem State.pinFalls_ceiling {s : State} (hpin : s.lim.pinLow = false) (hcore : s.coreRuns = true) :
    s.pinFalls.ceiling ≤ s.fld BUD_SHARE.EMERG_Q := by
  obtain ⟨hruns, hshare⟩ := State.lineWoken_of_coreRuns hcore
  obtain ⟨hline, -, -⟩ := State.lineWoken_spec hpin
  obtain ⟨hporst, -⟩ := State.of_coreRuns hcore
  rw [State.pinFalls_of_porst hpin hporst, State.limiterFollows, if_pos hruns, ← hshare]
  exact State.ceiling_operandChange hline.emergency

/-! ### The ends of the holds -/

/-- The state at the end of FL_HOLD, `t0` after the pin's rise: the emergency is over (R271). -/
def State.holdEnded (s : State) (t0 : Nat) : State :=
  let u := s.advanceTo (t0 + 10000 * s.fld BUD_HOLD.FL_HOLD)
  { u with lim := { u.lim with emergency := false, highAt := none } }

theorem State.emergencyOver_eq {s : State} {t0 : Nat} (hporst : s.ps.porst = true) (hhigh : s.lim.highAt = some t0) :
    s.emergencyOver = (s.holdEnded t0).gorseEnds.compute.noteReasons := by
  unfold State.emergencyOver
  rw [hhigh]
  exact if_pos hporst

/-- The end of the hold ends the emergency and the force's source (R173, R271). -/
theorem State.emergencyOver_spec {s : State} {t0 : Nat} (hporst : s.ps.porst = true) (hhigh : s.lim.highAt = some t0) :
    s.emergencyOver.noteRate.now = max s.now (t0 + 10000 * s.fld BUD_HOLD.FL_HOLD) ∧
    s.emergencyOver.noteRate.lim.emergency = false ∧ s.emergencyOver.noteRate.lim.highAt = none ∧
    s.emergencyOver.noteRate.drp.gorseOn = false := by
  rw [State.emergencyOver_eq hporst hhigh]
  have htold := State.noteRate_keeps (allButThese [.now, .drp]) (s.holdEnded t0).gorseEnds _ (by decide)
    (State.noteReasons_keeps _ _ _ (by decide) (State.compute_keeps _ _ _ (by decide) (Kept.refl _ _)))
  have hline := (s.holdEnded t0).gorseEnds.compute_line.trans
    ((State.noteReasons_line _).trans ((State.noteRate_kept _).sameLine (by decide)))
  rw [htold.now (by decide), hline.emergency, hline.highAt, htold.drp (by decide)]
  exact ⟨s.now_advanceTo _, rfl, rfl, rfl⟩

/-- The state at the end of SUPPLY_HOLD, `t0` after the latest alert: the cap is removed (R272). -/
def State.supplyFreed (s : State) (t0 : Nat) : State :=
  let u := s.advanceTo (t0 + 1000000 * s.fld BUD_HOLD.SUPPLY_HOLD)
  ({ u with lim := { u.lim with alertAt := none, lowerAt := none } } : State).setFld BUD_CAPS.SUPPLY_CAP 0x1F

theorem State.supplyOver_eq {s : State} {t0 : Nat} (halert : s.lim.alertAt = some t0) :
    s.supplyOver = (s.supplyFreed t0).noteReasons := by
  unfold State.supplyOver
  rw [halert]
  rfl

/-- The end of the supply hold removes supply_cap (R272). -/
theorem State.supplyOver_spec {s : State} {t0 : Nat} (halert : s.lim.alertAt = some t0) :
    s.supplyOver.noteRate.now = max s.now (t0 + 1000000 * s.fld BUD_HOLD.SUPPLY_HOLD) ∧ s.supplyOver.noteRate.lim.alertAt = none ∧
    s.supplyOver.noteRate.fld BUD_CAPS.SUPPLY_CAP = 31 := by
  rw [State.supplyOver_eq halert]
  have htold := (s.supplyFreed t0).noteReasons.noteRate_kept
  have hline := (s.supplyFreed t0).noteReasons_line.trans (htold.sameLine (by decide))
  rw [htold.now (by decide), State.now_noteReasons, hline.alertAt, htold.fld BUD_CAPS.SUPPLY_CAP (by decide),
    (State.noteReasons_kept _).fld BUD_CAPS.SUPPLY_CAP (by decide)]
  refine ⟨?_, rfl, State.fld_setFld_same _ BUD_CAPS.SUPPLY_CAP _ (by decide) (by decide)⟩
  unfold State.supplyFreed
  rw [State.setFld_now]
  exact s.now_advanceTo _

end Sys2Proof.Machine
end

section
/-! PROOF of what O44 says (R172, R257, R270 to R272), where PORST_N is high only with VAON above its threshold, as every step keeps it
(State.heathFirst, stepKeepsTheInvariant). -/

namespace Sys2Proof.Machine

theorem exec_fastLimitLatch_begins {s : State} (hvaon : s.ps.vaon = true) (hpin : s.lim.pinLow = false) :
    ∃ t, exec .fastLimitLatch s = .next t ∧ t.lim.emergency = true ∧ t.lim.pinLow = true ∧ t.lim.highAt = none ∧
      (s.ps.porst = true → t.drp.gorseOn = true ∧
        (∀ c, s.hasCluster c = true → (s.agent c).run = true → t.forcedLevel c = 3) ∧
        (s.coreRuns = true → t.ceiling ≤ s.fld BUD_SHARE.EMERG_Q)) := by
  obtain ⟨hemergency, hlow, hhigh, -⟩ := State.pinFalls_line hvaon hpin
  refine ⟨_, rfl, hemergency, hlow, hhigh, fun hporst => ?_⟩
  obtain ⟨hon, hforced⟩ := State.pinFalls_forces hpin hporst
  exact ⟨hon, hforced, State.pinFalls_ceiling hpin⟩

theorem exec_fastLimitRelease_of_heathFirst {s : State} (h : s.heathFirst) (hporst : s.ps.porst = true) (hpin : s.lim.pinLow = true) :
    exec .fastLimitRelease s = .next { s with lim := { s.lim with pinLow := false, highAt := some s.now } } := by
  have hvaon : s.ps.vaon = true := by
    by_contra hdown
    have hlow := h (Bool.eq_false_of_not_eq_true hdown)
    exact absurd (hlow.symm.trans hporst) (by decide)
  exact congrArg Host.Outcome.next ((if_pos hvaon).trans (if_pos hpin))

theorem exec_emergencyHoldExpiry_ends {s : State} {t0 : Nat} (hporst : s.ps.porst = true) (hhigh : s.lim.highAt = some t0) :
    ∃ t, exec .emergencyHoldExpiry s = .next t ∧ t.now = max s.now (t0 + 10000 * s.fld BUD_HOLD.FL_HOLD) ∧
      t.lim.emergency = false ∧ t.lim.highAt = none ∧ t.drp.gorseOn = false :=
  ⟨_, congrArg Host.Outcome.next (if_pos hporst), State.emergencyOver_spec hporst hhigh⟩

theorem exec_supplyHoldExpiry_frees {s : State} {t0 : Nat} (hcore : s.coreRuns = true) (halert : s.lim.alertAt = some t0) :
    ∃ t, exec .supplyHoldExpiry s = .next t ∧ t.now = max s.now (t0 + 1000000 * s.fld BUD_HOLD.SUPPLY_HOLD) ∧
      t.lim.alertAt = none ∧ t.fld BUD_CAPS.SUPPLY_CAP = 31 :=
  ⟨_, next_run hcore, State.supplyOver_spec halert⟩

end Sys2Proof.Machine
end

section
/-! REFUTATION of O44 (R271). The statement is about every state, also one that no run reaches: PORST_N high while VAON is below its
threshold. There the rise of the pin is noted by its level alone, and no hold begins. -/

namespace Sys2Proof.Machine

/-- PORST_N is high without VAON, and FAST_LIMIT_N latched low. -/
def porstWithoutVaon : State := { State.reset with ps := { porst := true }, lim := { pinLow := true } }

theorem porstWithoutVaon_release : exec .fastLimitRelease porstWithoutVaon =
    .next { porstWithoutVaon with lim := { porstWithoutVaon.lim with pinLow := false } } := rfl

/-- Refutes O44, in its part about the pin's rise: in `porstWithoutVaon` the rise begins no hold. Where VAON is up with PORST_N
(State.heathFirst) this part holds too (`exec_fastLimitRelease_of_heathFirst`). -/
theorem not_theGorseLineAndTheSupplyCap : ¬ Obligations.TheGorseLineAndTheSupplyCap := by
  unfold Obligations.TheGorseLineAndTheSupplyCap
  intro h
  obtain ⟨-, hrelease, -⟩ := h porstWithoutVaon
  have hsame := Host.Outcome.next.inj (porstWithoutVaon_release.symm.trans (hrelease rfl rfl))
  have hhigh : none = some porstWithoutVaon.now := congrArg (fun t : State => t.lim.highAt) hsame
  exact Option.some_ne_none _ hhigh.symm

end Sys2Proof.Machine
end

section
/-! PROOF of O18 (R111, R209, R213, R214): steps 6 to 8 of start-up. A wait or a bound that ends without its rail stops start-up
(State.stopWith_spec); a rail in regulation hands on to the next one of the order, the last one to step 8. -/

namespace Sys2Proof.Machine

/-! ### Stops in steps 6 and 7 -/

/-- In start-up a failure of steps 6 to 8 stops it with its code (R113). -/
theorem State.bringFail_booting {s : State} (hb : s.ps.booting = true) {code : Nat} (h : code < 256) :
    (s.bringFail code).stopped = true ∧ (s.bringFail code).fld HEATH_BOOT_STATUS.FAIL = code := by
  unfold State.bringFail
  rw [if_pos hb]
  exact s.stopWith_spec h

theorem State.vinTimeout_booting {s : State} {w : Nat} (hw : s.avs.settleAt = some w) (hb : s.ps.booting = true) :
    s.vinTimeout.stopped = true ∧ s.vinTimeout.fld HEATH_BOOT_STATUS.FAIL = 4 := by
  unfold State.vinTimeout
  rw [hw]
  refine State.bringFail_booting ?_ (by decide)
  exact (congrArg Power.booting (s.advanceTo_ps (w + 200000))).trans hb

theorem State.softTimeout_booting {s : State} {n : Nat} (hsoft : s.ps.soft = some n) (hsearch : (s.rail n).ssSearch = none)
    (hrun : (s.rail n).ssRun < 64) (hb : s.ps.booting = true) :
    (s.softTimeout n).stopped = true ∧ (s.softTimeout n).fld HEATH_BOOT_STATUS.FAIL = 6 := by
  unfold State.softTimeout
  rw [if_pos ⟨hsoft, hsearch, hrun⟩]
  unfold State.softFail
  have hps := s.advanceTo_ps (s.rail n).ssUntil
  rw [if_pos ((congrArg Power.soft hps).trans hsoft)]
  refine State.bringFail_booting ?_ (by decide)
  exact (congrArg Power.booting ((State.raise_keeps (allBut .ps) _ _ _ _ false (by decide) (Kept.refl _ _)).ps (by decide))).trans
    ((congrArg Power.booting hps).trans hb)

/-! ### From rail to rail -/

/-- The rail is in regulation, and shown so. -/
def State.regulates (s : State) (n : Nat) : State := (s.railTo n 2).showRail n

/-- A rail that has come into regulation in its soft-start (R209). -/
structure State.upInOrder (s : State) (n : Nat) : Prop where
  soft : s.ps.soft = some n
  state : (s.rail n).state = 1
  search : (s.rail n).ssSearch = none
  run : (s.rail n).ssRun = 64

theorem State.inRegulation_eq {s : State} {n : Nat} (h : s.upInOrder n) :
    s.inRegulation n = (s.regulates n).softStart (softAfter n) := if_pos ⟨h.soft, h.state, h.search, h.run⟩

theorem State.regulates_kept (s : State) (n : Nat) :
    Kept (placesMask [.rails, .RAIL_STATUS, .RAIL_LOOP, .RAIL_INTEG, .RAIL_SNS, .RAIL_IMEAS]) s (s.regulates n) :=
  State.showRail_keeps _ s _ n (by decide) (State.railTo_keeps _ s s n 2 (by decide) (Kept.refl _ s))

theorem State.softNext_regulates (s : State) (n : Nat) (order : List Nat) :
    (s.regulates n).softNext order = s.softNext order := by
  have htie := (s.regulates_kept n).tie
  unfold State.softNext State.railUsed State.built
  rw [htie]

theorem State.softStart_next {s : State} {order : List Nat} {m : Nat} (h : s.softNext order = some m) :
    (s.softStart order).ps.soft = some m := by
  unfold State.softStart
  rw [h]
  exact congrArg Power.soft ((State.railStart_keeps (allBut .ps) _ _ m (by decide) (Kept.refl _ _)).ps (by decide))

/-- The row takes up what waited for READY, which leaves the power state alone. -/
theorem State.settleReady_kept (s : State) (was : Bool) :
    Kept (placesMask [.out, .mem, .ses, .cmds, .MB_DB_IN, .CMD_STATUS, .CMD_COUNT, .CMD_LAST, .CMD_MB_CTX]) s (s.settleReady was) :=
  State.settleReady_keeps _ s s was (by decide) (Kept.refl _ s)

/-! ### Step 8 -/

/-- rails_ready has risen, no rail soft-starts, the die is IDLE and no transition is under way. -/
structure State.isIdle (s t : State) : Prop where
  ready : t.ps.railsReady = true
  soft : t.ps.soft = none
  pstate : t.pstate = 2
  transit : t.flag HEATH_DOMAIN_STATUS.IN_TRANSIT = s.flag HEATH_DOMAIN_STATUS.IN_TRANSIT
  req : t.ps.req = s.ps.req

theorem State.isIdle.kept {s t u : State} {m : Nat} (h : s.isIdle t) (hk : Kept m t u) (hps : m.testBit 17 = false)
    (hdomain : Mask.misses m HEATH_DOMAIN_STATUS = true) : s.isIdle u := by
  obtain ⟨hready, hsoft, hpstate, htransit, hreq⟩ := h
  have hsame := hk.ps hps
  exact ⟨by rw [hsame, hready], by rw [hsame, hsoft], (hk.fld HEATH_DOMAIN_STATUS.PSTATE hdomain).trans hpstate,
    (hk.flag HEATH_DOMAIN_STATUS.IN_TRANSIT hdomain).trans htransit, by rw [hsame, hreq]⟩

/-- What start-up alone notes in the power state tells nothing of the rails. -/
theorem State.isIdle.noted {s t : State} (h : s.isIdle t) {x : Power} (hready : x.railsReady = t.ps.railsReady)
    (hsoft : x.soft = t.ps.soft) (hreq : x.req = t.ps.req) : s.isIdle { t with ps := x } :=
  ⟨hready.trans h.ready, hsoft.trans h.soft, h.pstate, h.transit, hreq.trans h.req⟩

/-- rails_ready rises (R91). -/
def State.railsRise (s : State) : State := { s with ps := { s.ps with railsReady := true, fellAt := none, bring := false, soft := none } }

theorem State.arrive_idle (s : State) : s.arrive 2 =
    ({ s with est := { s.est with psChanged := true } } : State).setFld HEATH_DOMAIN_STATUS.PSTATE 2 := by
  unfold State.arrive
  dsimp only
  rw [if_neg (fun h => absurd h.1 (by decide)), if_neg (fun h => absurd h.1 (by decide))]

/-- The mask of every place but the power state and HEATH_DOMAIN_STATUS. -/
abbrev idleMask : Nat := allButThese [.ps, .HEATH_DOMAIN_STATUS]

theorem State.isIdle_arrive (s : State) : s.isIdle ((s.railsRise.freqReset).arrive 2).compute := by
  have hfreq := State.freqReset_keeps idleMask s.railsRise s.railsRise (by decide) (Kept.refl _ _)
  have hps : s.railsRise.freqReset.ps = s.railsRise.ps := hfreq.ps (by decide)
  have htransit : s.railsRise.freqReset.flag HEATH_DOMAIN_STATUS.IN_TRANSIT = s.flag HEATH_DOMAIN_STATUS.IN_TRANSIT :=
    hfreq.flag HEATH_DOMAIN_STATUS.IN_TRANSIT (by decide)
  have harrived : s.isIdle ((s.railsRise.freqReset).arrive 2) := by
    generalize s.railsRise.freqReset = u at hps htransit ⊢
    rw [State.arrive_idle]
    refine ⟨?_, ?_, State.fld_setFld_same _ _ _ (by decide) (by decide),
      (State.flag_setFld_apart _ _ _ _ (by decide)).trans htransit, ?_⟩
    all_goals rw [State.setFld_ps, hps]; rfl
  exact harrived.kept (State.compute_keeps idleMask _ _ (by decide) (Kept.refl _ _)) (by decide) (by decide)

/-- READY leaves the die as it is (R111). -/
theorem State.isIdle.checkReady {s t : State} (h : s.isIdle t) : s.isIdle t.checkReady := by
  unfold State.checkReady
  split
  · refine State.isIdle.kept (t := { t with ps := { t.ps with booting := false } }) (m := idleMask) (h.noted rfl rfl rfl) ?_
      (by decide) (by decide)
    exact State.repairDue_keeps _ _ _ (by decide) <| State.bell_keeps _ _ _ _ (by decide) <|
      State.toFollowers_keeps _ _ _ _ (by decide) <| State.setFlag_at .RING_SAMP rfl (by decide) <|
      State.setFld_at .HEATH_BOOT_STATUS rfl (by decide) <| State.setFlag_at .HEATH_BOOT_STATUS rfl (by decide) (Kept.refl _ _)
  · exact h

/-- Step 8 brings the die to IDLE, in start-up with its report (R111). -/
theorem State.isIdle_stepEight (s : State) : s.isIdle s.stepEight := by
  have hidle := s.isIdle_arrive
  unfold State.stepEight
  change s.isIdle (if s.ps.booting = true then _ else ((s.railsRise.freqReset).arrive 2).compute)
  dsimp only
  rw [← State.railsRise]
  generalize ((s.railsRise.freqReset).arrive 2).compute = u at hidle ⊢
  have hstep := hidle.kept (State.setFld_at (f := HEATH_BOOT_STATUS.STEP) (v := 8) .HEATH_BOOT_STATUS rfl (by decide)
    (Kept.refl idleMask u)) (by decide) (by decide)
  split_ifs
  · exact State.isIdle.checkReady (hstep.noted rfl rfl rfl)
  · refine State.isIdle.kept (m := idleMask) (hstep.noted (x := { u.ps with booting := false }) rfl rfl rfl) ?_ (by decide) (by decide)
    exact State.report_keeps _ _ _ _ (by decide) <| State.setFld_at .HEATH_BOOT_STATUS rfl (by decide) <|
      State.setFlag_at .HEATH_BOOT_STATUS rfl (by decide) (Kept.refl _ _)
  · exact hidle

/-- After the last rail step 8 follows; with no transition under way and no request waiting that is all (R111). -/
theorem State.softStart_last {s : State} {order : List Nat} (h : s.softNext order = none)
    (htransit : s.flag HEATH_DOMAIN_STATUS.IN_TRANSIT = false) (hreq : s.ps.req = none) : s.isIdle (s.softStart order) := by
  have hidle := s.isIdle_stepEight
  unfold State.softStart
  rw [h]
  unfold State.afterBring
  dsimp only
  rw [if_neg (by rw [hidle.transit, htransit]; decide), State.tryRequest_of_none (hidle.req.trans hreq)]
  exact hidle

/-! ### The obligation -/

theorem exec_railInRegulation {s : State} {n : Nat} (hn : n < 4) (hporst : s.ps.porst = true) (h : s.upInOrder n) :
    exec (.railInRegulation n) s = .next (((s.regulates n).softStart (softAfter n)).settleReady s.ready) := by
  show ofUnit (decide (n < 4)) (if s.ps.porst then (s.inRegulation n).settleReady s.ready else s) = _
  rw [ofUnit_run (decide_eq_true hn) hporst, State.inRegulation_eq h]

/-- Settles O18: the two waits by their stops, a rail in regulation by what follows it (State.softStart_next, State.softStart_last). -/
theorem railsComeUpInOrder : Obligations.RailsComeUpInOrder := by
  unfold Obligations.RailsComeUpInOrder
  refine ⟨fun s w hporst hw hb => ?_, fun s n hn hporst hsoft hstate hsearch hrun => ⟨fun m hnext => ?_, fun hlast htransit hreq => ?_⟩,
    fun s n hn hporst hsoft hsearch hrun hb => ?_⟩
  · exact ⟨_, next_run hporst, State.vinTimeout_booting hw hb⟩
  · refine ⟨_, exec_railInRegulation hn hporst ⟨hsoft, hstate, hsearch, hrun⟩, ?_⟩
    rw [(State.settleReady_kept _ _).ps (by decide)]
    exact State.softStart_next ((s.softNext_regulates n _).trans hnext)
  · have hkept := s.regulates_kept n
    have hidle := State.softStart_last ((s.softNext_regulates n _).trans hlast)
      ((hkept.flag HEATH_DOMAIN_STATUS.IN_TRANSIT (by decide)).trans htransit) ((congrArg Power.req (hkept.ps (by decide))).trans hreq)
    obtain ⟨hready, hsoft', hpstate, -, -⟩ := hidle.kept (State.settleReady_kept _ s.ready) (by decide) (by decide)
    exact ⟨_, exec_railInRegulation hn hporst ⟨hsoft, hstate, hsearch, hrun⟩, hready, hsoft', hpstate⟩
  · exact ⟨_, ofUnit_run (decide_eq_true hn) hporst, State.softTimeout_booting hsoft hsearch hrun hb⟩

end Sys2Proof.Machine
end

section
/-! PROOF of O40 (R214 to R216): AVSBus transactions one by one. What a good frame of any kind does, what a reading does beside it,
and what a failed transaction leaves waiting; a row is a chain of such transactions. -/

namespace Sys2Proof.Machine

/-! ### A good frame -/

/-- What a good frame may change beside the master's own state. -/
def framePlaces : List Place := [.lim, .levels, .hub, .RAIL0_AVS_STATUS, .BUD_CAPS, .BUD_RSN_ACTIVE, .BUD_RSN_CNT, .BUD_RSN_NS]

theorem State.avsFrame_kept (s : State) (a : AvsIn) : Kept (placesMask (.avs :: framePlaces)) s (s.avsFrame a) :=
  State.avsFrame_keeps _ s s a (by decide) (Kept.refl _ s)

/-- A frame takes a module alert for the next status read. -/
theorem State.avs_avsFrame (s : State) (a : AvsIn) :
    (s.avsFrame a).avs = { s.avs with busy := 0, attempts := 0, needStatus := s.avs.needStatus || a.alert } := by
  have halert := fun u : State => (State.supplyAlert_keeps (allBut .avs) u u (by decide) (Kept.refl _ u)).avs (by decide)
  unfold State.avsFrame
  dsimp only
  split
  · next h => rw [halert, h, Bool.or_true]; rfl
  · next h => rw [Bool.eq_false_of_not_eq_true h, Bool.or_false]; rfl

/-- A good frame ends AVS_LOST (R215). -/
theorem State.lost_avsFrame (s : State) (a : AvsIn) : (s.avsFrame a).flag RAIL0_AVS_STATUS.LOST = false := by
  have halert := fun u : State => (State.supplyAlert_keeps (allButThese [.RAIL0_AVS_STATUS]) u u (by decide) (Kept.refl _ u)).flag
    RAIL0_AVS_STATUS.LOST (by decide)
  unfold State.avsFrame
  dsimp only
  split
  · rw [halert, State.flag_setFlag_apart _ _ _ _ (by decide)]
    exact State.flag_setFlag_same _ RAIL0_AVS_STATUS.LOST false rfl (by decide)
  · exact State.flag_setFlag_same _ RAIL0_AVS_STATUS.LOST false rfl (by decide)

theorem State.avsSend_kept (s : State) (kind : Nat) : Kept (placesMask [.out]) s (s.avsSend kind) :=
  State.avsSend_keeps _ s s kind (by decide) (Kept.refl _ s)

/-! ### A reading of VIN_IVR -/

/-- The reading is within 1,600 to 2,000 mV. -/
def AvsIn.inRange (a : AvsIn) : Bool := decide (1600 ≤ a.vin ∧ a.vin ≤ 2000)

/-- The run of readings outside after this one. -/
def State.outRunAfter (s : State) (a : AvsIn) : Nat := if a.inRange then 0 else min 3 (s.avs.outRun + 1)

/-- The reading is noted and shown, and told to the leader (R214, R407). -/
def State.vinNoted (s : State) (a : AvsIn) : State :=
  (({ s with avs := { s.avs with vinAt := some s.now, stale := false, outRun := s.outRunAfter a } } : State).setFld
    RAIL0_AVS_READ.VIN a.vin).tellVin a.vin

/-- A condition that begins holds. -/
theorem State.bitAt_levelOn (s : State) (src syn : Nat) : bitAt (s.levelOn src syn).levels src = true := by
  unfold State.levelOn
  split
  · assumption
  · exact (bitAt_maskSet s.levels src src).trans (by rw [beq_self_eq_true, Bool.or_true])

/-- VIN_RANGE follows the run of readings outside (R216). -/
def State.rangeJudged (s : State) (a : AvsIn) (run : Nat) : State :=
  if a.inRange then s.levelOff srcVinRange
  else if run = 3 then s.levelOn srcVinRange (syndrome 0xFF00 a.resp a.vin) else s

theorem State.rangeJudged_keeps (m : Nat) (b s : State) (a : AvsIn) (run : Nat)
    (hm : placesMask [.raises, .levels, .hub] &&& m = placesMask [.raises, .levels, .hub]) (h : Kept m b s) :
    Kept m b (s.rangeJudged a run) :=
  Kept.ite (State.levelOff_keeps m b s _ (Mask.trans (by decide) hm) h)
    (Kept.ite (State.levelOn_keeps m b s _ _ (Mask.trans (by decide) hm) h) h)

theorem State.avs_tellVin (s : State) (mv : Nat) : ∃ x, (s.tellVin mv).avs = { s.avs with told := x } := by
  unfold State.tellVin
  split
  · exact ⟨s.avs.told, rfl⟩
  · exact ⟨some mv, (State.send_keeps (allBut .avs) _ _ _ _ _ (by decide) (Kept.refl _ _)).avs (by decide)⟩

theorem State.avs_vinNoted (s : State) (a : AvsIn) : ∃ x, (s.vinNoted a).avs =
    { s.avs with vinAt := some s.now, stale := false, outRun := s.outRunAfter a, told := x } := by
  unfold State.vinNoted
  exact State.avs_tellVin _ _

/-- Outside the wait of step 6 a reading is noted and judged (R214, R216). -/
theorem State.avsVin_eq {s : State} (hset : s.avs.settleAt = none) (a : AvsIn) :
    s.avsVin a = (s.vinNoted a).rangeJudged a (s.outRunAfter a) := by
  obtain ⟨x, hx⟩ := s.avs_vinNoted a
  have hjudged : ((s.vinNoted a).rangeJudged a (s.outRunAfter a)).avs = (s.vinNoted a).avs :=
    (State.rangeJudged_keeps (allBut .avs) _ _ a _ (by decide) (Kept.refl _ _)).avs (by decide)
  refine if_neg (fun h => ?_)
  have hsome : ((s.vinNoted a).rangeJudged a (s.outRunAfter a)).avs.settleAt.isSome = true := h.1
  rw [hjudged, hx, hset] at hsome
  exact Bool.false_ne_true hsome

theorem State.levels_rangeJudged (s : State) (a : AvsIn) (run : Nat) :
    (a.inRange = true → bitAt (s.rangeJudged a run).levels srcVinRange = false) ∧
    (a.inRange = false → run = 3 → bitAt (s.rangeJudged a run).levels srcVinRange = true) := by
  unfold State.rangeJudged
  refine ⟨fun hin => ?_, fun hout hrun => ?_⟩
  · rw [if_pos hin]
    exact (bitAt_maskClear s.levels srcVinRange srcVinRange).trans (by rw [beq_self_eq_true, Bool.not_true, Bool.and_false])
  · rw [if_neg (by rw [hout]; decide), if_pos hrun]
    exact State.bitAt_levelOn s _ _

theorem State.levels_avsVin {s : State} (hset : s.avs.settleAt = none) (a : AvsIn) :
    (a.inRange = true → bitAt (s.avsVin a).levels srcVinRange = false) ∧
    (a.inRange = false → s.outRunAfter a = 3 → bitAt (s.avsVin a).levels srcVinRange = true) := by
  rw [State.avsVin_eq hset]
  exact State.levels_rangeJudged _ a _

/-- A reading that is shown leaves AVS_LOST and the transaction as they are. -/
theorem State.avsVin_kept {s : State} (hset : s.avs.settleAt = none) (a : AvsIn) :
    Kept (placesMask [.out, .hdg, .avs, .raises, .levels, .hub, .RAIL0_AVS_READ]) s (s.avsVin a) := by
  rw [State.avsVin_eq hset]
  exact State.rangeJudged_keeps _ _ _ a _ (by decide) <| State.tellVin_keeps _ _ _ _ (by decide) <|
    State.setFld_at .RAIL0_AVS_READ rfl (by decide) <| Kept.set_avs (by decide) (Kept.refl _ s)

theorem State.avs_avsVin {s : State} (hset : s.avs.settleAt = none) (a : AvsIn) : ∃ x, (s.avsVin a).avs =
    { s.avs with vinAt := some s.now, stale := false, outRun := s.outRunAfter a, told := x } := by
  obtain ⟨x, hx⟩ := s.avs_vinNoted a
  rw [State.avsVin_eq hset]
  exact ⟨x, ((State.rangeJudged_keeps (allBut .avs) _ _ a _ (by decide) (Kept.refl _ _)).avs (by decide)).trans hx⟩

theorem State.vin_avsVin {s : State} (hset : s.avs.settleAt = none) {a : AvsIn} (hvin : a.vin < 65536) :
    (s.avsVin a).fld RAIL0_AVS_READ.VIN = a.vin := by
  have hkept (u : State) : Kept (allButThese [.RAIL0_AVS_READ]) u ((u.tellVin a.vin).rangeJudged a (s.outRunAfter a)) :=
    State.rangeJudged_keeps _ _ _ a _ (by decide) (State.tellVin_keeps _ _ _ _ (by decide) (Kept.refl _ u))
  rw [State.avsVin_eq hset]
  refine ((hkept _).fld RAIL0_AVS_READ.VIN (by decide)).trans ?_
  rw [State.fld_setFld_same _ RAIL0_AVS_READ.VIN _ (by decide) (by decide)]
  exact Nat.mod_eq_of_lt hvin

/-! ### One transaction -/

/-- What a good answer tells beside its frame, by the kind of its transaction (R214). -/
def State.avsReading (s : State) (kind : Nat) (a : AvsIn) : State :=
  match kind with
  | 1 => s.avsVin a
  | 2 => s.setFld RAIL0_AVS_IT.IOUT a.iout
  | 4 => s.setFld RAIL0_AVS_IT.TEMP a.temp
  | 5 => { s with avs := { s.avs with needStatus := a.alert } }
  | _ => s

/-- A transaction that is over: the next one may follow, nothing is lost and no wait runs. -/
structure State.avsOver (s t : State) : Prop where
  busy : t.avs.busy = 0
  attempts : t.avs.attempts = 0
  settle : t.avs.settleAt = none
  lost : t.flag RAIL0_AVS_STATUS.LOST = false
  now : t.now = s.now

theorem State.avsOver_avsFrame {s : State} (hset : s.avs.settleAt = none) (a : AvsIn) : s.avsOver (s.avsFrame a) := by
  have havs := s.avs_avsFrame a
  exact ⟨by rw [havs], by rw [havs], by rw [havs, hset], s.lost_avsFrame a, (s.avsFrame_kept a).now (by decide)⟩

theorem State.avsOver.reading {s t : State} (h : s.avsOver t) (kind : Nat) (a : AvsIn) : s.avsOver (t.avsReading kind a) := by
  obtain ⟨hbusy, hattempts, hset, hlost, hnow⟩ := h
  unfold State.avsReading
  split
  · have hkept := State.avsVin_kept hset a
    obtain ⟨x, hx⟩ := State.avs_avsVin hset a
    exact ⟨by rw [hx, hbusy], by rw [hx, hattempts], by rw [hx, hset],
      (hkept.flag RAIL0_AVS_STATUS.LOST (by decide)).trans hlost, (hkept.now (by decide)).trans hnow⟩
  · exact ⟨hbusy, hattempts, hset, (State.flag_setFld_apart _ _ _ _ (by decide)).trans hlost, hnow⟩
  · exact ⟨hbusy, hattempts, hset, (State.flag_setFld_apart _ _ _ _ (by decide)).trans hlost, hnow⟩
  · exact ⟨hbusy, hattempts, hset, hlost, hnow⟩
  · exact ⟨hbusy, hattempts, hset, hlost, hnow⟩

/-- The transaction is sent and answered. -/
def State.avsTurn (s : State) (kind : Nat) (a : AvsIn) : State := (s.avsSend kind).avsOne kind a

section
variable {s : State} {a : AvsIn} (hgood : a.good = true) (hset : s.avs.settleAt = none)
include hgood hset

/-- A good answer outside the wait of step 6 is its frame, then its reading. -/
theorem State.avsTurn_good (kind : Nat) : s.avsTurn kind a = ((s.avsSend kind).avsFrame a).avsReading kind a := by
  have hwait : (a.fault && ((s.avsSend kind).avsFrame a).avs.settleAt.isSome) = false := by
    rw [State.avs_avsFrame, (s.avsSend_kept kind).avs (by decide), hset]
    exact Bool.and_false _
  unfold State.avsTurn State.avsOne
  rw [if_pos hgood]
  dsimp only
  rw [if_neg (by rw [hwait]; exact Bool.false_ne_true)]
  rfl

theorem State.avsOver_avsTurn (kind : Nat) : s.avsOver (s.avsTurn kind a) := by
  have hsent := s.avsSend_kept kind
  have hframe := State.avsOver_avsFrame ((congrArg Avs.settleAt (hsent.avs (by decide))).trans hset) a
  rw [State.avsTurn_good hgood hset]
  exact State.avsOver.reading ⟨hframe.busy, hframe.attempts, hframe.settle, hframe.lost, hframe.now.trans (hsent.now (by decide))⟩ kind a

theorem State.avsFollows_good : s.avsFollows a = true := by
  unfold State.avsFollows
  rw [hgood, hset, Option.isSome_none, Bool.and_false]
  rfl

omit hgood hset in
/-- Before its reading is noted, a good answer leaves the displays of current and temperature as they are. -/
theorem State.shown_avsFrame (kind : Nat) {f : Fld} (hf : Mask.misses (placesMask (.avs :: .out :: framePlaces)) f.off = true) :
    ((s.avsSend kind).avsFrame a).fld f = s.fld f :=
  (State.avsFrame_keeps (placesMask (.avs :: .out :: framePlaces)) s _ a (by decide)
    (State.avsSend_keeps _ s s kind (by decide) (Kept.refl _ s))).fld f hf

end

/-! ### A failed transaction -/

/-- A transaction that has failed for the first, second or third time waits for its retry (R215). -/
theorem State.avsBad_retries {s : State} (h : s.avs.attempts < 3) (kind : Nat) (a : AvsIn) : s.avsBad kind a =
    ({ s with avs := { s.avs with busy := kind, attempts := s.avs.attempts + 1,
                                  retryAt := s.now + 250 * s.fld RAIL0_AVS_CTRL.RETRY_GAP } } : State).incSat
      RAIL0_AVS_STATUS.RETRIES := by
  unfold State.avsBad
  dsimp only
  rw [if_pos (by omega)]

/-- The fourth failure loses AVSBus, outside steps 6 to 8 (R215). -/
theorem State.avsBad_loses {s : State} (h : 3 ≤ s.avs.attempts) (hbring : s.ps.bring = false) (kind : Nat) (a : AvsIn) :
    s.avsBad kind a = (({ s with avs := { s.avs with busy := 0, attempts := 0 } } : State).setFlag RAIL0_AVS_STATUS.LOST true).levelOn
      srcAvsLost (syndrome 0xFF00 a.resp 0) := by
  unfold State.avsBad
  dsimp only
  rw [if_neg (by omega), hbring, if_neg Bool.false_ne_true]

section
variable {a : AvsIn} (hbad : a.good = false)
include hbad

theorem State.avsTurn_bad (s : State) (kind : Nat) : s.avsTurn kind a = (s.avsSend kind).avsBad kind a := by
  unfold State.avsTurn State.avsOne
  rw [hbad, if_neg Bool.false_ne_true]

theorem State.avsFollows_bad (s : State) : s.avsFollows a = false := by
  unfold State.avsFollows
  rw [hbad, Bool.false_and]

/-- A failed transaction with attempts left waits for its retry, and what is shown of current and temperature stays. -/
theorem State.avsTurn_retries {s : State} (h : s.avs.attempts < 3) (kind : Nat) :
    (s.avsTurn kind a).avs.busy = kind ∧ (s.avsTurn kind a).avs.attempts = s.avs.attempts + 1 ∧
    (s.avsTurn kind a).avs.retryAt = s.now + 250 * s.fld RAIL0_AVS_CTRL.RETRY_GAP ∧
    (s.avsTurn kind a).fld RAIL0_AVS_IT.IOUT = s.fld RAIL0_AVS_IT.IOUT ∧
    (s.avsTurn kind a).fld RAIL0_AVS_IT.TEMP = s.fld RAIL0_AVS_IT.TEMP := by
  have hsent := s.avsSend_kept kind
  have havs := hsent.avs (by decide)
  rw [State.avsTurn_bad hbad, State.avsBad_retries (by rw [havs]; exact h), State.incSat_avs]
  refine ⟨rfl, congrArg (·.attempts + 1) havs, ?_, ?_, ?_⟩
  · rw [← hsent.now (by decide), ← hsent.fld RAIL0_AVS_CTRL.RETRY_GAP (by decide)]
  · exact (State.fld_setFld_apart _ _ _ _ (by decide)).trans (hsent.fld RAIL0_AVS_IT.IOUT (by decide))
  · exact (State.fld_setFld_apart _ _ _ _ (by decide)).trans (hsent.fld RAIL0_AVS_IT.TEMP (by decide))

end

/-! ### Chains of transactions -/

/-- The row's next answer brings no readings of its own. -/
theorem AvsIn.temp_next (a : AvsIn) : a.next.temp = a.temp := by
  unfold AvsIn.next
  split <;> rfl

theorem State.avsChain_one (s : State) (a : AvsIn) (k : Nat) : s.avsChain [k] a = s.avsTurn k a := by
  unfold State.avsChain
  dsimp only
  split <;> rfl

theorem State.avsChain_two (s : State) (a : AvsIn) (k l : Nat) :
    s.avsChain [k, l] a = if s.avsFollows a = true then (s.avsTurn k a).avsTurn l a.next else s.avsTurn k a := by
  rw [← State.avsChain_one]
  rfl

/-- A transaction that is followed by nothing, or that has failed. -/
theorem State.avsAnswer_ends {s : State} {kind : Nat} {a : AvsIn} (h : (kind ≠ 2 ∧ kind ≠ 4) ∨ s.avsFollows a = false) :
    s.avsAnswer kind a = s.avsOne kind a := by
  unfold State.avsAnswer
  dsimp only
  rcases h with ⟨h2, h4⟩ | h
  · rw [if_neg h2, if_neg h4]
    split <;> rfl
  · rw [if_neg (by rw [h]; exact Bool.false_ne_true)]

section
variable {s : State} {a : AvsIn} (hgood : a.good = true) (hset : s.avs.settleAt = none)
include hgood hset

/-- After the read of the current come those of temperature and status (R214). -/
theorem State.avsAnswer_current : (s.avsSend 2).avsAnswer 2 a = (s.avsTurn 2 a).avsChain [4, 5] a.next := by
  unfold State.avsAnswer
  dsimp only
  rw [if_pos (State.avsFollows_good hgood ((congrArg Avs.settleAt ((s.avsSend_kept 2).avs (by decide))).trans hset)),
    if_pos rfl]
  rfl

/-- Good answers end a transaction and what follows it in its row. -/
theorem State.avsOver_avsAnswer (hgood' : a.next.good = true) (hgood'' : a.next.next.good = true) (kind : Nat) :
    s.avsOver ((s.avsSend kind).avsAnswer kind a) := by
  have hfirst := State.avsOver_avsTurn hgood hset kind
  have hsecond := fun k => State.avsOver_avsTurn hgood' hfirst.settle k
  have hthird := fun k l => State.avsOver_avsTurn hgood'' (hsecond k).settle l
  have hnow := fun k => (hsecond k).now.trans hfirst.now
  by_cases h2 : kind = 2
  · subst h2
    rw [State.avsAnswer_current hgood hset, State.avsChain_two, if_pos (State.avsFollows_good hgood' hfirst.settle)]
    obtain ⟨hbusy, hattempts, hsettle, hlost, hthen⟩ := hthird 4 5
    exact ⟨hbusy, hattempts, hsettle, hlost, hthen.trans (hnow 4)⟩
  · by_cases h4 : kind = 4
    · subst h4
      have hchain : (s.avsSend 4).avsAnswer 4 a = (s.avsTurn 4 a).avsChain [5] a.next := by
        unfold State.avsAnswer
        dsimp only
        rw [if_pos (State.avsFollows_good hgood ((congrArg Avs.settleAt ((s.avsSend_kept 4).avs (by decide))).trans hset)),
          if_neg (by decide), if_pos rfl]
        rfl
      rw [hchain, State.avsChain_one]
      obtain ⟨hbusy, hattempts, hsettle, hlost, -⟩ := hsecond 5
      exact ⟨hbusy, hattempts, hsettle, hlost, hnow 5⟩
    · rw [State.avsAnswer_ends (.inl ⟨h2, h4⟩)]
      exact hfirst

end

/-! ### The obligation -/

section
variable {s : State} (hporst : s.ps.porst = true) (hon : s.flag HEATH_DOMAIN_STATUS.DPWM_ON = true)
include hporst hon

theorem exec_avsVinPoll (hbusy : s.avs.busy = 0) (a : AvsIn) :
    exec (.avsVinPoll a) s = .next ((s.avsTurn 1 a).settleReady s.ready) := by
  show Host.Outcome.next (if s.ps.porst then (s.avsPoll a).settleReady s.ready else s) = _
  rw [next_run hporst]
  unfold State.avsPoll State.avsOn
  rw [hon, if_neg (by decide), if_pos hbusy, State.avsAnswer_ends (.inl (by decide))]
  rfl

theorem exec_avsStatusRead (hbusy : s.avs.busy = 0) {a : AvsIn} (hgood : a.good = true) (hset : s.avs.settleAt = none) :
    exec (.avsStatusRead a) s = .next ((s.avsTurn 2 a).avsChain [4, 5] a.next) := by
  show Host.Outcome.next (if s.ps.porst then s.avsStatus a else s) = _
  rw [next_run hporst, ← State.avsAnswer_current hgood hset]
  unfold State.avsStatus State.avsOn
  rw [if_pos ⟨hon, hbusy⟩]

theorem exec_avsRetry (hwaits : 0 < s.avs.attempts) (a : AvsIn) : exec (.avsRetry a) s =
    .next ((((s.advanceTo s.avs.retryAt).avsSend s.avs.busy).avsAnswer s.avs.busy a).settleReady s.ready) := by
  show Host.Outcome.next (if s.ps.porst then (s.avsAgain a).settleReady s.ready else s) = _
  rw [next_run hporst]
  unfold State.avsAgain State.avsOn
  rw [if_pos ⟨hon, hwaits⟩]

end

/-- A good reading of VIN_IVR is shown and judged (R214, R216). -/
theorem State.vinRead_spec {s : State} {a : AvsIn} (hgood : a.good = true) (hset : s.avs.settleAt = none) (hvin : a.vin < 65536) :
    (s.avsTurn 1 a).fld RAIL0_AVS_READ.VIN = a.vin ∧ (s.avsTurn 1 a).avs.stale = false ∧ (s.avsTurn 1 a).avs.vinAt = some s.now ∧
    (a.inRange = true → (s.avsTurn 1 a).avs.outRun = 0 ∧ bitAt (s.avsTurn 1 a).levels srcVinRange = false) ∧
    (a.inRange = false → 2 ≤ s.avs.outRun → bitAt (s.avsTurn 1 a).levels srcVinRange = true) := by
  have hsent := s.avsSend_kept 1
  have hframe := State.avs_avsFrame (s.avsSend 1) a
  have hnow : ((s.avsSend 1).avsFrame a).now = s.now := ((State.avsFrame_kept _ a).now (by decide)).trans (hsent.now (by decide))
  rw [hsent.avs (by decide)] at hframe
  rw [State.avsTurn_good hgood hset]
  show (State.avsVin _ a).fld RAIL0_AVS_READ.VIN = a.vin ∧ (State.avsVin _ a).avs.stale = false ∧
    (State.avsVin _ a).avs.vinAt = some s.now ∧ (a.inRange = true → (State.avsVin _ a).avs.outRun = 0 ∧
    bitAt (State.avsVin _ a).levels srcVinRange = false) ∧
    (a.inRange = false → 2 ≤ s.avs.outRun → bitAt (State.avsVin _ a).levels srcVinRange = true)
  generalize (s.avsSend 1).avsFrame a = u at hframe hnow
  have hsettle : u.avs.settleAt = none := by rw [hframe, hset]
  obtain ⟨x, hx⟩ := State.avs_avsVin hsettle a
  obtain ⟨hin, hout⟩ := State.levels_avsVin hsettle a
  refine ⟨State.vin_avsVin hsettle hvin, by rw [hx], by rw [hx, hnow], fun h => ⟨?_, hin h⟩, fun h hrun => hout h ?_⟩
  · rw [hx]
    exact if_pos h
  · unfold State.outRunAfter
    rw [h, if_neg Bool.false_ne_true, hframe]
    dsimp only
    omega

/-- A good reading of the current is shown; the temperature's display waits for its own. -/
theorem State.current_avsTurn {s : State} {a : AvsIn} (hgood : a.good = true) (hset : s.avs.settleAt = none) (h : a.iout < 65536) :
    (s.avsTurn 2 a).fld RAIL0_AVS_IT.IOUT = a.iout ∧ (s.avsTurn 2 a).fld RAIL0_AVS_IT.TEMP = s.fld RAIL0_AVS_IT.TEMP := by
  rw [State.avsTurn_good hgood hset]
  refine ⟨(State.fld_setFld_same _ RAIL0_AVS_IT.IOUT _ (by decide) (by decide)).trans (Nat.mod_eq_of_lt h), ?_⟩
  exact (State.fld_setFld_apart _ _ _ _ (by decide)).trans (State.shown_avsFrame 2 (by decide))

theorem State.temperature_avsTurn {s : State} {a : AvsIn} (hgood : a.good = true) (hset : s.avs.settleAt = none)
    (h : a.temp < 65536) :
    (s.avsTurn 4 a).fld RAIL0_AVS_IT.TEMP = a.temp ∧ (s.avsTurn 4 a).fld RAIL0_AVS_IT.IOUT = s.fld RAIL0_AVS_IT.IOUT := by
  rw [State.avsTurn_good hgood hset]
  refine ⟨(State.fld_setFld_same _ RAIL0_AVS_IT.TEMP _ (by decide) (by decide)).trans (Nat.mod_eq_of_lt h), ?_⟩
  exact (State.fld_setFld_apart _ _ _ _ (by decide)).trans (State.shown_avsFrame 4 (by decide))

/-- A good status read keeps what was shown and waits for a further one only when the module alerts again. -/
theorem State.status_avsTurn {s : State} {a : AvsIn} (hgood : a.good = true) (hset : s.avs.settleAt = none) :
    (s.avsTurn 5 a).avs.needStatus = a.alert ∧ (s.avsTurn 5 a).fld RAIL0_AVS_IT.IOUT = s.fld RAIL0_AVS_IT.IOUT ∧
    (s.avsTurn 5 a).fld RAIL0_AVS_IT.TEMP = s.fld RAIL0_AVS_IT.TEMP := by
  rw [State.avsTurn_good hgood hset]
  exact ⟨rfl, State.shown_avsFrame 5 (by decide), State.shown_avsFrame 5 (by decide)⟩

/-- Current, temperature and status one after another; the one that fails waits for its own retry (R214, R215). -/
theorem State.statusRead_spec {s : State} {a : AvsIn} (hgood : a.good = true) (hset : s.avs.settleAt = none)
    (hiout : a.iout < 65536) (htemp : a.temp < 65536) :
    (a.next.good = true → a.next.next.good = true → ((s.avsTurn 2 a).avsChain [4, 5] a.next).avs.busy = 0 ∧
      ((s.avsTurn 2 a).avsChain [4, 5] a.next).fld RAIL0_AVS_IT.IOUT = a.iout ∧
      ((s.avsTurn 2 a).avsChain [4, 5] a.next).fld RAIL0_AVS_IT.TEMP = a.temp ∧
      ((s.avsTurn 2 a).avsChain [4, 5] a.next).avs.needStatus = a.next.next.alert) ∧
    (a.next.good = false → ((s.avsTurn 2 a).avsChain [4, 5] a.next).avs.busy = 4 ∧
      ((s.avsTurn 2 a).avsChain [4, 5] a.next).avs.attempts = 1 ∧
      ((s.avsTurn 2 a).avsChain [4, 5] a.next).fld RAIL0_AVS_IT.IOUT = a.iout ∧
      ((s.avsTurn 2 a).avsChain [4, 5] a.next).fld RAIL0_AVS_IT.TEMP = s.fld RAIL0_AVS_IT.TEMP) ∧
    (a.next.good = true → a.next.next.good = false → ((s.avsTurn 2 a).avsChain [4, 5] a.next).avs.busy = 5 ∧
      ((s.avsTurn 2 a).avsChain [4, 5] a.next).avs.attempts = 1 ∧
      ((s.avsTurn 2 a).avsChain [4, 5] a.next).fld RAIL0_AVS_IT.IOUT = a.iout ∧
      ((s.avsTurn 2 a).avsChain [4, 5] a.next).fld RAIL0_AVS_IT.TEMP = a.temp) := by
  have hfirst := State.avsOver_avsTurn hgood hset 2
  obtain ⟨hcurrent, hkept⟩ := State.current_avsTurn hgood hset hiout
  generalize s.avsTurn 2 a = t at hfirst hcurrent hkept ⊢
  rw [State.avsChain_two]
  refine ⟨fun hnext hlast => ?_, fun hnext => ?_, fun hnext hlast => ?_⟩
  · have hsecond := State.avsOver_avsTurn hnext hfirst.settle 4
    obtain ⟨htemperature, hsame⟩ := State.temperature_avsTurn hnext hfirst.settle (by rw [a.temp_next]; exact htemp)
    obtain ⟨hneed, hiout', htemp'⟩ := State.status_avsTurn hlast hsecond.settle
    rw [if_pos (State.avsFollows_good hnext hfirst.settle)]
    exact ⟨(State.avsOver_avsTurn hlast hsecond.settle 5).busy, hiout'.trans (hsame.trans hcurrent),
      htemp'.trans (htemperature.trans a.temp_next), hneed⟩
  · obtain ⟨hbusy, hattempts, -, hiout', htemp'⟩ := State.avsTurn_retries hnext (s := t) (by rw [hfirst.attempts]; decide) 4
    rw [if_neg (by rw [State.avsFollows_bad hnext]; exact Bool.false_ne_true)]
    exact ⟨hbusy, by rw [hattempts, hfirst.attempts], hiout'.trans hcurrent, htemp'.trans hkept⟩
  · have hsecond := State.avsOver_avsTurn hnext hfirst.settle 4
    obtain ⟨htemperature, hsame⟩ := State.temperature_avsTurn hnext hfirst.settle (by rw [a.temp_next]; exact htemp)
    obtain ⟨hbusy, hattempts, -, hiout', htemp'⟩ :=
      State.avsTurn_retries hlast (s := t.avsTurn 4 a.next) (by rw [hsecond.attempts]; decide) 5
    rw [if_pos (State.avsFollows_good hnext hfirst.settle)]
    exact ⟨hbusy, by rw [hattempts, hsecond.attempts], hiout'.trans (hsame.trans hcurrent),
      htemp'.trans (htemperature.trans a.temp_next)⟩

/-- A fourth failure in a row loses AVSBus (R215). -/
theorem State.avsTurn_loses {s : State} {a : AvsIn} (hbad : a.good = false) (h : 3 ≤ s.avs.attempts) (hbring : s.ps.bring = false)
    (kind : Nat) :
    (s.avsTurn kind a).avs.busy = 0 ∧ (s.avsTurn kind a).avs.attempts = 0 ∧
    (s.avsTurn kind a).flag RAIL0_AVS_STATUS.LOST = true ∧ bitAt (s.avsTurn kind a).levels srcAvsLost = true := by
  have hsent := s.avsSend_kept kind
  have hlevel := fun u : State => State.levelOn_keeps (placesMask [.raises, .levels, .hub]) u u srcAvsLost
    (syndrome 0xFF00 a.resp 0) (by decide) (Kept.refl _ u)
  rw [State.avsTurn_bad hbad, State.avsBad_loses (by rw [hsent.avs (by decide)]; exact h)
    (by rw [hsent.ps (by decide)]; exact hbring)]
  refine ⟨by rw [(hlevel _).avs (by decide)]; rfl, by rw [(hlevel _).avs (by decide)]; rfl, ?_, State.bitAt_levelOn _ _ _⟩
  rw [(hlevel _).flag RAIL0_AVS_STATUS.LOST (by decide)]
  exact State.flag_setFlag_same _ RAIL0_AVS_STATUS.LOST true rfl (by decide)

theorem State.vinStale_spec {s : State} {t0 : Nat} (hat : s.avs.vinAt = some t0) (hfresh : s.avs.stale = false) :
    s.vinStale.avs.stale = true ∧ s.vinStale.now = max s.now (t0 + 10000 * s.fld RAIL0_AVS_CTRL.VIN_STALE) := by
  unfold State.vinStale
  rw [hat, hfresh]
  exact ⟨rfl, s.now_advanceTo _⟩

/-- Settles O40: each row as a chain of transactions, each of them good (State.avsTurn_good) or failed (State.avsTurn_retries,
State.avsTurn_loses). -/
theorem avsbusReadsRetriesAndLosses : Obligations.AvsbusReadsRetriesAndLosses := by
  unfold Obligations.AvsbusReadsRetriesAndLosses
  refine fun s a hporst => ⟨fun hon hbusy => ⟨fun hgood hset hvin => ?_, fun hgood hset hiout htemp => ?_, fun hbad hleft => ?_,
    fun hbad hover hbring => ?_⟩, fun hon hwaits hgood hgood' hgood'' hset => ?_, fun t0 hat hfresh => ?_⟩
  · obtain ⟨hshown, hstale, hat, hin, hout⟩ := State.vinRead_spec hgood hset hvin
    obtain ⟨hbusy', -, -, hlost, -⟩ := State.avsOver_avsTurn hgood hset 1
    have hsettled := State.settleReady_kept (s.avsTurn 1 a) s.ready
    have havs := hsettled.avs (by decide)
    have hlevels := hsettled.levels (by decide)
    refine ⟨_, exec_avsVinPoll hporst hon hbusy a, (hsettled.fld RAIL0_AVS_READ.VIN (by decide)).trans hshown,
      by rw [havs, hstale], by rw [havs, hat], by rw [havs, hbusy'],
      (hsettled.flag RAIL0_AVS_STATUS.LOST (by decide)).trans hlost, fun hlo hhi => ?_, fun h hrun => ?_⟩
    · rw [havs, hlevels]
      exact hin (decide_eq_true ⟨hlo, hhi⟩)
    · rw [hlevels]
      exact hout (decide_eq_false (by omega)) hrun
  · obtain ⟨hall, hsecond, hthird⟩ := State.statusRead_spec hgood hset hiout htemp
    have hrow := exec_avsStatusRead hporst hon hbusy hgood hset
    exact ⟨fun hnext hlast => ⟨_, hrow, hall hnext hlast⟩, fun hnext => ⟨_, hrow, hsecond hnext⟩,
      fun hnext hlast => ⟨_, hrow, hthird hnext hlast⟩⟩
  · obtain ⟨hbusy', hattempts, hretry, -, -⟩ := State.avsTurn_retries hbad hleft 1
    have havs := (State.settleReady_kept (s.avsTurn 1 a) s.ready).avs (by decide)
    exact ⟨_, exec_avsVinPoll hporst hon hbusy a, by rw [havs, hbusy'], by rw [havs, hattempts], by rw [havs, hretry]⟩
  · obtain ⟨hbusy', hattempts, hlost, hlevel⟩ := State.avsTurn_loses hbad hover hbring 1
    have hsettled := State.settleReady_kept (s.avsTurn 1 a) s.ready
    have havs := hsettled.avs (by decide)
    exact ⟨_, exec_avsVinPoll hporst hon hbusy a, by rw [havs, hbusy'], by rw [havs, hattempts],
      (hsettled.flag RAIL0_AVS_STATUS.LOST (by decide)).trans hlost, by rw [hsettled.levels (by decide), hlevel]⟩
  · obtain ⟨hbusy', hattempts, -, hlost, hnow⟩ := State.avsOver_avsAnswer (s := s.advanceTo s.avs.retryAt)
      hgood hset hgood' hgood'' s.avs.busy
    have hsettled := State.settleReady_kept (((s.advanceTo s.avs.retryAt).avsSend s.avs.busy).avsAnswer s.avs.busy a) s.ready
    have havs := hsettled.avs (by decide)
    exact ⟨_, exec_avsRetry hporst hon hwaits a, (hsettled.now (by decide)).trans (hnow.trans (s.now_advanceTo _)),
      by rw [havs, hattempts], by rw [havs, hbusy'], (hsettled.flag RAIL0_AVS_STATUS.LOST (by decide)).trans hlost⟩
  · exact ⟨_, next_run hporst, State.vinStale_spec hat hfresh⟩

end Sys2Proof.Machine
end

section
/-! PROOF (R185, R206, R212): what an operation leaves of the rail keepers. `State.SameRails f` says that a part `f` of each keeper is the
same in two states. -/

namespace Sys2Proof.Machine

variable {α : Type} {f : Rail → α}

/-- The part `f` of every rail keeper is the same. -/
def State.SameRails (f : Rail → α) (s t : State) : Prop := ∀ n, f (t.rail n) = f (s.rail n)

theorem State.SameRails.refl (f : Rail → α) (s : State) : State.SameRails f s s := fun _ => rfl

theorem State.SameRails.trans {s t u : State} (h : State.SameRails f s t) (h' : State.SameRails f t u) : State.SameRails f s u :=
  fun n => (h' n).trans (h n)

theorem State.SameRails.of_rails {s t : State} (h : t.rails = s.rails) : State.SameRails f s t :=
  fun n => congrArg (fun x => f (SMap.get (fun _ => {}) x n)) h

theorem State.SameRails.kept {s t u : State} {m : Nat} (h : State.SameRails f s t) (hk : Kept m t u) (hm : m.testBit 14 = false) :
    State.SameRails f s u := h.trans (State.SameRails.of_rails (hk.rails hm))

theorem State.rail_setRail_other (s : State) {n k : Nat} (r : Rail) (h : n ≠ k) : (s.setRail n r).rail k = s.rail k :=
  SMap.get_put_other _ _ _ _ _ h

theorem State.SameRails.setRail (s : State) (n : Nat) {r : Rail} (h : f r = f (s.rail n)) : State.SameRails f s (s.setRail n r) := by
  intro k
  by_cases hk : n = k
  · subst hk
    rw [State.rail_setRail_same, h]
  · rw [State.rail_setRail_other _ _ hk]

theorem State.SameRails.each {β : Type} {g : β → State → State} (hg : ∀ x t, State.SameRails f t (g x t)) (xs : List β) (s : State) :
    State.SameRails f s (each xs g s) :=
  each_keeps (State.SameRails f s) g (fun x t h => h.trans (hg x t)) xs s (State.SameRails.refl f s)

/-! ### The start of the block core domain -/

section
variable (hmeter : ∀ r : Rail, f { r with meter := {} } = f r)
include hmeter

theorem State.SameRails.clearMeters (s : State) : State.SameRails f s s.clearMeters :=
  State.SameRails.each (fun n t => State.SameRails.setRail t n (hmeter _)) _ s

/-- The estimator books a gap and takes the rails' meters. -/
theorem State.SameRails.gapBooking (s : State) : State.SameRails f s s.gapBooking := by
  unfold State.gapBooking
  dsimp only
  have hcounts : State.SameRails f s s.countsTaken := by
    refine State.SameRails.each (fun c t => ?_) _ s
    exact State.SameRails.of_rails rfl
  rw [← State.countsTaken]
  generalize s.countsTaken = u at hcounts ⊢
  have hbooked (pj : Nat) : State.SameRails f s ((u.book 1025 pj).book 1024 pj).clearMeters :=
    (hcounts.kept (State.book_keeps (allBut .rails) _ _ _ _ (by decide) <| State.book_keeps _ u u _ _ (by decide) (Kept.refl _ u))
      (by decide)).trans (State.SameRails.clearMeters hmeter _)
  have hgap (ds : List Nat) (pj t0 t1 : Nat) : State.SameRails f s
      ((((u.book 1025 pj).book 1024 pj).clearMeters.setFlag EST_STATUS.GAP true).bookGap ds pj t0 t1) :=
    (hbooked pj).kept (State.bookGap_keeps (allBut .rails) _ _ _ _ _ _ (by decide) <| State.setFlag_at .EST_STATUS rfl (by decide)
      (Kept.refl _ _)) (by decide)
  split
  · exact (hgap _ _ _ _).trans (State.SameRails.of_rails
      ((State.book_keeps (allBut .rails) _ _ _ _ (by decide) (Kept.refl _ _)).rails (by decide)))
  · exact hgap _ _ _ _

theorem State.SameRails.startCore (s : State) : State.SameRails f s s.startCore := by
  unfold State.startCore
  split
  · exact State.SameRails.refl f s
  · refine State.SameRails.kept (m := allBut .rails) (State.SameRails.gapBooking hmeter (s.setFlag HEATH_DOMAIN_STATUS.CORE_ON true))
      ?_ (by decide)
    exact State.tellGap_keeps _ _ _ _ (by decide) <| State.drainAll_keeps _ _ _ (by decide) <| State.memPump_keeps _ _ _ (by decide) <|
      State.modelResumes_keeps _ _ _ (by decide) <| State.gapCore_keeps _ _ _ (by decide) (Kept.refl _ _)

/-- An access that starts its domain takes the meters alone. -/
theorem State.SameRails.woken (s : State) (off : Nat) : State.SameRails f s (s.woken off) := by
  unfold State.woken
  split
  · exact (State.SameRails.startCore hmeter s).trans (State.SameRails.of_rails rfl)
  · exact State.SameRails.refl f s

end

end Sys2Proof.Machine
end

section
/-! PROOF of O29 (R189, R273, R281, R366, R417, R476): a host's write of 1. One lemma says what the port makes of a host's write
to a register without a meaning of its own for its W1C bits; each row is then what its register sets going. -/

namespace Sys2Proof.Machine

/-! ### The bit that a row writes -/

theorem bitAt_or_two_pow (n : Nat) {k : Nat} (hk : k < 32) : bitAt ((n ||| 2 ^ k) % 2 ^ 32) k = true := by
  rw [bitAt_testBit, Nat.testBit_mod_two_pow, Nat.testBit_or, Nat.testBit_two_pow_self, Bool.or_true, decide_eq_true hk]
  rfl

/-- Of one bit a written 1 leaves nothing. -/
theorem maskDiff_one {x : Nat} (hx : x < 2) : maskDiff x 1 = 0 := by
  interval_cases x <;> rfl

theorem bitsOf_bit (n k : Nat) : bitsOf n k k = bnat (bitAt n k) := by
  unfold bitsOf bitAt bnat
  rw [Nat.add_sub_cancel_left, pow_one]
  split <;> simp_all

/-- A W1C bit that is written 1 is clear. -/
theorem State.bit_writeFields_w1c {s : State} {off k lo hi : Nat} {d : RegDesc} (hd : findReg off = some d)
    (hf : ⟨k, k, .w1c, lo, hi⟩ ∈ d.fields) {data : Nat} (hbit : bitAt data k = true) :
    (s.writeFields d off (data % 2 ^ 32)).1.fld ⟨off, k, k⟩ = 0 := by
  have hfollows := FieldDesc.follows_of_writeFields hd hf s data (t := (s.writeFields d off (data % 2 ^ 32)).1) rfl rfl
  have hone : bitsOf data k k = 1 := by rw [bitsOf_bit, hbit]; rfl
  have hlt : bitsOf (s.reg off) k k < 2 := by
    have h := bitsOf_lt (s.reg off) k k
    rwa [Nat.add_sub_cancel_left, pow_one] at h
  refine Eq.trans ?_ (maskDiff_one hlt)
  rw [← hone]
  exact hfollows

/-! ### A host's write at the open port -/

/-- The places that the start of the domain may change. -/
def wokenPlaces : List Place := [.sky, .out, .agents, .rings, .rails, .hdg, .mem, .win, .est, .thm] ++ wakePlaces

theorem State.woken_kept (s : State) (off : Nat) : Kept (placesMask wokenPlaces) s (s.woken off) := s.woken_keeps _ off (by decide)

/-- A register whose W1C bits its unit does not clear itself, and no mailbox slot. -/
def ownless (off : Nat) : Prop := off < 0x2000 ∨ (0x5000 ≤ off ∧ off < 0x18000) ∨ (0x1C000 ≤ off ∧ off < 0xA0000)

theorem State.writeOwn_of_ownless {off : Nat} (h : ownless off) (s : State) (data : Nat) (who : Who) : s.writeOwn off data who = none := by
  unfold ownless at h
  unfold State.writeOwn
  dsimp only
  rw [if_neg (show ¬ (0x4020 ≤ off ∧ off ≤ 0x403C) by omega), if_neg (show off ≠ 0x4008 by omega),
    if_neg (show ¬ (0x18000 ≤ off ∧ off = 0x18058 + 0x1000 * ((off - 0x18000) / 0x1000 % 4)) by omega),
    if_neg (show ¬ (0x18000 ≤ off ∧ off = 0x1805C + 0x1000 * ((off - 0x18000) / 0x1000 % 4)) by omega),
    if_neg (show ¬ (off = 0x2404 ∨ off = 0x240C) by omega), if_neg (show ¬ (0x3084 ≤ off ∧ off ≤ 0x30FC) by omega)]

/-- What a host's write does before its response. -/
def State.hostActs (s : State) (d : RegDesc) (off data : Nat) : State :=
  ((s.woken off).writeFields d off data).1.writeActs (s.woken off) off data .host

section
variable {s : State} {off : Nat} {d : RegDesc} (h : s.portOpen) (hd : findReg off = some d) (hm : off % 4 = 0)
include h hd hm

theorem State.portWrite_host (hlt : off < 0xA0000) (data : Nat) :
    s.portWrite off data .host = (s.woken off).writeWord d off (data % 2 ^ 32) .host := by
  obtain ⟨-, -, -, hleader⟩ := id h
  unfold State.portWrite
  rw [State.access_of_open h]
  exact ((s.woken off).judgeAccess_write data .host hd hm hlt ((s.leader_woken off).trans hleader)).trans (if_pos rfl)

/-- The response changes the outputs and the count of denials alone. -/
theorem State.hostWrite_keeps (m : Nat) (hmask : placesMask [.out, .ACC_DENIED] &&& m = placesMask [.out, .ACC_DENIED])
    (hown : ownless off) (hignores : (s.woken off).ignores off = false) (data : Nat) :
    Kept m (s.hostActs d off (data % 2 ^ 32)) (s.portWrite off data .host) := by
  have hfar : off < 0xA0000 ∧ ¬ (0x2000 ≤ off ∧ off < 0x2200) := by unfold ownless at hown; omega
  rw [State.portWrite_host h hd hm hfar.1]
  unfold State.writeWord
  rw [if_neg (fun hslot => hfar.2 ⟨hslot.1, hslot.2.1⟩), hignores, if_neg Bool.false_ne_true, State.writeOwn_of_ownless hown]
  exact Kept.ite (State.deny_keeps _ _ _ (Mask.trans (by decide) hmask) (Kept.refl _ _))
    (State.okay_keeps _ _ _ _ (Mask.trans (by decide) hmask) (Kept.refl _ _))

/-- Every register but the count of denials is as the write's effects leave it. -/
theorem State.reg_hostWrite (hown : ownless off) (hignores : (s.woken off).ignores off = false) (data : Nat) {o : Nat}
    (ho : o ≠ ACC_DENIED) : (s.portWrite off data .host).reg o = (s.hostActs d off (data % 2 ^ 32)).reg o := by
  refine (State.hostWrite_keeps h hd hm (partsAnd [.ACC_DENIED]) (by decide) hown hignores data).reg_of_places (fun ⟨p, hp, hi⟩ => ho ?_)
  rw [List.mem_singleton.mp hp] at hi
  exact hi

end

/-! ### A phase is re-admitted (R189) -/

theorem findReg_phFault : ∀ n < 4, ∃ d, findReg (RAIL_PH_FAULT n) = some d := by
  have hsome : ∀ n < 4, (findReg (RAIL_PH_FAULT n)).isSome = true := by decide +kernel
  exact fun n hn => Option.isSome_iff_exists.mp (hsome n hn)

theorem State.writeOwn_phFault (s : State) {n : Nat} (hn : n < 4) (data : Nat) (who : Who) :
    s.writeOwn (RAIL_PH_FAULT n) data who = some (s.readmit n false data) := by
  have hindex : (RAIL_PH_FAULT n - 0x18000) / 0x1000 = n := show (0x18058 + 0x1000 * (n % 4) - 0x18000) / 0x1000 = n by omega
  unfold State.writeOwn
  rw [hindex, if_neg (show ¬ (0x4020 ≤ 0x18058 + 0x1000 * (n % 4) ∧ 0x18058 + 0x1000 * (n % 4) ≤ 0x403C) by omega),
    if_neg (show 0x18058 + 0x1000 * (n % 4) ≠ 0x4008 by omega), if_pos ⟨show 0x18000 ≤ 0x18058 + 0x1000 * (n % 4) by omega, rfl⟩]

theorem State.ignores_phFault {s : State} {n : Nat} (hn : n < 4) (hbuilt : s.built n ≠ 0) : s.ignores (RAIL_PH_FAULT n) = false := by
  have hindex : (0x18058 + 0x1000 * (n % 4) - 0x18000) / 0x1000 = n := by omega
  have habsent : s.absent (RAIL_PH_FAULT n) = false := by
    unfold State.absent
    show (if 0x40000 ≤ 0x18058 + 0x1000 * (n % 4) ∧ 0x18058 + 0x1000 * (n % 4) < 0x90000 then _
      else if 0x18000 ≤ 0x18058 + 0x1000 * (n % 4) ∧ 0x18058 + 0x1000 * (n % 4) < 0x1C000 ∧ (0x18058 + 0x1000 * (n % 4)) % 0x1000 < 0x800
      then s.built ((0x18058 + 0x1000 * (n % 4) - 0x18000) / 0x1000) == 0 else false) = false
    rw [if_neg (by omega), hindex]
    split
    · exact beq_eq_false_iff_ne.mpr hbuilt
    · rfl
  have hload : decide (HEATH_FW_LOAD_LO ≤ RAIL_PH_FAULT n ∧ RAIL_PH_FAULT n ≤ HEATH_FW_LOAD_CTRL) = false :=
    decide_eq_false (show ¬ (0x1030 ≤ 0x18058 + 0x1000 * (n % 4) ∧ 0x18058 + 0x1000 * (n % 4) ≤ 0x1038) by omega)
  unfold State.ignores
  rw [habsent, hload]
  rfl

theorem bitsSet_two_pow : ∀ b < 32, bitsSet 32 (2 ^ b) = [b] := by decide +kernel

/-- The test of one phase, and its re-admission (R189). -/
theorem State.readmit_spec {s : State} {n b : Nat} (hb : b < 32) :
    (s.phaseCause n (SMap.get (fun _ => {}) (s.rail n).phases b) = 0 → (s.readmit n false (2 ^ b)).fld ⟨RAIL_PH_FAULT n, b, b⟩ = 0) ∧
    (s.phaseCause n (SMap.get (fun _ => {}) (s.rail n).phases b) ≠ 0 → s.readmit n false (2 ^ b) = s) := by
  unfold State.readmit
  rw [bitsSet_two_pow b hb]
  unfold each
  rw [List.foldl_cons, List.foldl_nil]
  dsimp only
  rw [if_neg Bool.false_ne_true, if_neg Bool.false_ne_true]
  refine ⟨fun hgone => ?_, fun hstays => if_neg (fun hc => hstays hc.1)⟩
  split
  · exact (State.fld_setFld_same s ⟨RAIL_PH_FAULT n, b, b⟩ 0 (Nat.le_refl _) hb).trans (Nat.zero_mod _)
  · next hbit =>
    have hclear : bitAt (s.reg (RAIL_PH_FAULT n)) b = false := Bool.eq_false_of_not_eq_true (fun hset => hbit ⟨hgone, hset⟩)
    exact (bitsOf_bit _ b).trans (by rw [hclear]; rfl)

theorem State.exec_phFaultReadmit {s : State} (h : s.portOpen) {n b : Nat} (hn : n < 4) (hbuilt : s.built n ≠ 0) (hb : b < 32) :
    exec (.phFaultReadmit n false (2 ^ b) .host) s = .next (((s.woken (RAIL_PH_FAULT n)).readmit n false (2 ^ b)).okay 0) := by
  obtain ⟨d, hd⟩ := findReg_phFault n hn
  have hword : 2 ^ b % 2 ^ 32 = 2 ^ b := Nat.mod_eq_of_lt (Nat.pow_lt_pow_right (by decide) hb)
  have hbuilt' : (s.woken (RAIL_PH_FAULT n)).built n ≠ 0 := by
    unfold State.built
    rw [(s.woken_kept (RAIL_PH_FAULT n)).tie]
    exact hbuilt
  refine (ofUnit_of (decide_eq_true hn) _).trans (congrArg Host.Outcome.next ?_)
  rw [if_neg Bool.false_ne_true]
  rw [State.portWrite_host h hd (show (0x18058 + 0x1000 * (n % 4)) % 4 = 0 by omega)
    (show 0x18058 + 0x1000 * (n % 4) < 0xA0000 by omega), hword]
  unfold State.writeWord
  rw [if_neg (fun hslot => absurd (show 0x18058 + 0x1000 * (n % 4) < 0x2200 from hslot.2.1) (by omega)),
    State.ignores_phFault hn hbuilt', if_neg Bool.false_ne_true, State.writeOwn_phFault _ hn]

/-- The start of the domain leaves the condition of a phase as it is. -/
theorem State.phaseCause_woken (s : State) (n b : Nat) (hn : n < 4) :
    (s.woken (RAIL_PH_FAULT n)).phaseCause n (SMap.get (fun _ => {}) ((s.woken (RAIL_PH_FAULT n)).rail n).phases b) =
      s.phaseCause n (SMap.get (fun _ => {}) (s.rail n).phases b) := by
  have hphases : ((s.woken (RAIL_PH_FAULT n)).rail n).phases = (s.rail n).phases :=
    State.SameRails.woken (f := Rail.phases) (fun _ => rfl) s _ n
  have hmax : (s.woken (RAIL_PH_FAULT n)).fld (RAIL_PHASE.TEMP_MAX n) = s.fld (RAIL_PHASE.TEMP_MAX n) := by
    have hmiss : ∀ n < 4, Mask.misses (placesMask wokenPlaces) (RAIL_PHASE.TEMP_MAX n).off = true := by decide
    exact (s.woken_kept _).fld _ (hmiss n hn)
  unfold State.phaseCause
  rw [hphases, hmax]

/-! ### The suspicion of a site (R281) -/

theorem findReg_siteStatus : ∀ k < 96, ∃ d, findReg (SITE_STATUS k) = some d ∧ ⟨1, 1, .w1c, 0, 1⟩ ∈ d.fields := by
  have hsome : ∀ k < 96, (findReg (SITE_STATUS k)).any (fun d => decide (⟨1, 1, .w1c, 0, 1⟩ ∈ d.fields)) = true := by decide +kernel
  intro k hk
  have hany := hsome k hk
  cases hd : findReg (SITE_STATUS k) with
  | none => rw [hd] at hany; exact absurd hany Bool.false_ne_true
  | some d => rw [hd] at hany; exact ⟨d, rfl, of_decide_eq_true hany⟩

/-- A write of 1 ends the suspicion and starts the site's runs again (R281). -/
theorem State.actSite_spec {s : State} {k data : Nat} (hk : k < 96) (hsuspect : s.fld (SITE_STATUS.SUSPECT k) = 0) (hbit : bitAt data 1 = true) :
    (s.actSite (SITE_STATUS k) data).flag (SITE_STATUS.SUSPECT k) = false ∧ (s.actSite (SITE_STATUS k) data).fld (SITE_STATUS.DEV_RUN k) = 0 ∧
    (s.actSite (SITE_STATUS k) data).fld (SITE_STATUS.MISS_RUN k) = 0 := by
  have hindex : (SITE_STATUS k - 0x90000) / 0x40 = k := show (0x90010 + 0x40 * (k % 96) - 0x90000) / 0x40 = k by omega
  unfold State.actSite
  rw [hindex, if_pos ⟨rfl, hbit⟩]
  have hmissSuspect : Fld.apart (SITE_STATUS.MISS_RUN k) (SITE_STATUS.SUSPECT k) :=
    .inr ⟨(by decide : 16 ≤ 17), (by decide : 17 < 32), rfl, .inl (by decide : 1 < 16)⟩
  have hdevSuspect : Fld.apart (SITE_STATUS.DEV_RUN k) (SITE_STATUS.SUSPECT k) :=
    .inr ⟨(by decide : 24 ≤ 25), (by decide : 25 < 32), rfl, .inl (by decide : 1 < 24)⟩
  have hmissDev : Fld.apart (SITE_STATUS.MISS_RUN k) (SITE_STATUS.DEV_RUN k) :=
    .inr ⟨(by decide : 16 ≤ 17), (by decide : 17 < 32), rfl, .inr (by decide : 17 < 24)⟩
  refine ⟨?_, ?_, State.fld_setFld_same _ (SITE_STATUS.MISS_RUN k) 0 (by decide : 16 ≤ 17) (by decide : 17 < 32)⟩
  · unfold State.flag
    rw [State.fld_setFld_apart _ _ _ _ hmissSuspect, State.fld_setFld_apart _ _ _ _ hdevSuspect, hsuspect]
    rfl
  · rw [State.fld_setFld_apart _ _ _ _ hmissDev]
    exact State.fld_setFld_same _ (SITE_STATUS.DEV_RUN k) 0 (by decide : 24 ≤ 25) (by decide : 25 < 32)

theorem exec_siteSuspectClear_spec {s : State} (h : s.portOpen) {k : Nat} (hk : k < 96) (data : Nat) :
    ∃ t, exec (.siteSuspectClear k data .host) s = .next t ∧ t.flag (SITE_STATUS.SUSPECT k) = false ∧
      t.fld (SITE_STATUS.DEV_RUN k) = 0 ∧ t.fld (SITE_STATUS.MISS_RUN k) = 0 := by
  obtain ⟨d, hd, hf⟩ := findReg_siteStatus k hk
  have hoff : 0x90000 ≤ SITE_STATUS k ∧ SITE_STATUS k < 0xA0000 ∧ SITE_STATUS k % 4 = 0 :=
    show 0x90000 ≤ 0x90010 + 0x40 * (k % 96) ∧ 0x90010 + 0x40 * (k % 96) < 0xA0000 ∧ (0x90010 + 0x40 * (k % 96)) % 4 = 0 by omega
  have hbit : bitAt (data ||| 2) 1 = true := by rw [bitAt_testBit, Nat.testBit_or]; exact Bool.or_true _
  have hword : bitAt ((data ||| 2) % 2 ^ 32) 1 = true := bitAt_or_two_pow data (k := 1) (by decide)
  have hclear := State.bit_writeFields_w1c (s := s.woken (SITE_STATUS k)) hd hf hbit
  obtain ⟨hsuspect, hdev, hmiss⟩ := State.actSite_spec hk hclear hword
  have hacts : s.hostActs d (SITE_STATUS k) ((data ||| 2) % 2 ^ 32) =
      ((s.woken (SITE_STATUS k)).writeFields d (SITE_STATUS k) ((data ||| 2) % 2 ^ 32)).1.actSite (SITE_STATUS k) ((data ||| 2) % 2 ^ 32) := by
    unfold State.hostActs State.writeActs
    generalize SITE_STATUS k = off at hoff ⊢
    rw [if_neg (by omega), if_neg (by omega), if_neg (by omega), if_neg (show off ≠ 0x6024 by omega), if_neg (by omega),
      if_neg (show off ≠ OBS_STR_CTRL by unfold OBS_STR_CTRL; omega),
      if_neg (show ¬ (off = RING_LEN ∨ off = RING_SAMP) by unfold RING_LEN RING_SAMP; omega),
      if_neg (show off ≠ RING_CTRL by unfold RING_CTRL; omega), if_neg (show off ≠ TIME_CTRL by unfold TIME_CTRL; omega), if_pos hoff.1]
  have hignores : (s.woken (SITE_STATUS k)).ignores (SITE_STATUS k) = false := by
    unfold State.ignores State.absent
    generalize SITE_STATUS k = off at hoff ⊢
    rw [if_neg (by omega), if_neg (by omega), decide_eq_false (show ¬ (0x1030 ≤ off ∧ off ≤ 0x1038) by omega)]
    rfl
  have hreg := State.reg_hostWrite h hd hoff.2.2 (.inr (.inr ⟨by omega, hoff.2.1⟩)) hignores (data ||| 2) (o := SITE_STATUS k)
    (show SITE_STATUS k ≠ 0x600C by omega)
  rw [hacts] at hreg
  refine ⟨_, ofUnit_of (decide_eq_true hk) _, ?_, ?_, ?_⟩
  · unfold State.flag State.fld at hsuspect ⊢
    rwa [hreg]
  · unfold State.fld at hdev ⊢
    rwa [hreg]
  · unfold State.fld at hmiss ⊢
    rwa [hreg]

/-! ### A slow-down request (R273) -/

/-- BUD_SLOW as the map describes it. -/
def budSlowDesc : RegDesc := ⟨0xA070, 4, 1, 0, .system, .host, 0, true, 0, [⟨15, 15, .w1c, 0, 1⟩]⟩

theorem findReg_budSlow : findReg BUD_SLOW = some budSlowDesc := by decide +kernel

theorem exec_budSlowClear_spec {s : State} (h : s.portOpen) (data : Nat) :
    ∃ t, exec (.budSlowClear data .host) s = .next t ∧ t.flag BUD_SLOW.PENDING = false := by
  have hclear : (s.hostActs budSlowDesc BUD_SLOW ((data ||| 0x8000) % 2 ^ 32)).fld BUD_SLOW.PENDING = 0 :=
    State.bit_writeFields_w1c (s := s.woken BUD_SLOW) findReg_budSlow (List.mem_singleton.mpr rfl)
      (by rw [bitAt_testBit, Nat.testBit_or]; exact Bool.or_true _)
  have hkept := State.hostWrite_keeps h findReg_budSlow rfl (placesMask [.out, .ACC_DENIED]) (by decide) (.inr (.inl (by decide)))
    rfl (data ||| 0x8000)
  refine ⟨_, rfl, ?_⟩
  unfold State.flag
  exact (congrArg (· != 0) ((hkept.fld BUD_SLOW.PENDING (by decide)).trans hclear)).trans rfl

/-! ### A backward step of Skylark time (R366) -/

/-- TIME_CTRL as the map describes it. -/
def timeCtrlDesc : RegDesc :=
  ⟨0x2E000, 4, 1, 657411, .system, .system, 0, false, 0, [⟨31, 31, .w1s, 0, 1⟩, ⟨23, 16, .rws, 1, 255⟩, ⟨11, 8, .rws, 4, 15⟩, ⟨3, 0, .rws, 1, 8⟩]⟩

theorem findReg_timeCtrl : findReg TIME_CTRL = some timeCtrlDesc := by decide +kernel

theorem State.resyncWrite_waits {s : State} (hleader : s.leader = true) (hback : s.flag TIME_STATUS.BACKSTEP = true) :
    s.resyncWrite.flag TIME_STATUS.RESYNC_WAIT = true := by
  unfold State.resyncWrite
  dsimp only
  rw [if_pos ⟨hleader, hback⟩]
  exact State.flag_setFlag_same _ TIME_STATUS.RESYNC_WAIT true rfl (by decide)

/-- The fields of a written word change their own register and the staging copies alone. -/
theorem State.leader_writeFields (s : State) (d : RegDesc) {off : Nat} (data : Nat) (h : ID_TOPOLOGY ≠ off) :
    (s.writeFields d off data).1.leader = s.leader := by
  unfold State.leader State.flag State.fld
  rw [s.reg_writeFields_other d data h]

theorem exec_timeResync_spec {s : State} (h : s.portOpen) (data : Nat) (hback : s.flag TIME_STATUS.BACKSTEP = true) :
    ∃ t, exec (.timeResync data .host) s = .next t ∧ t.flag TIME_STATUS.RESYNC_WAIT = true := by
  obtain ⟨-, -, -, hleader⟩ := id h
  have hword : bitAt ((data ||| 0x80000000) % 2 ^ 32) 31 = true := bitAt_or_two_pow data (k := 31) (by decide)
  have hacts : s.hostActs timeCtrlDesc TIME_CTRL ((data ||| 0x80000000) % 2 ^ 32) =
      ((s.woken TIME_CTRL).writeFields timeCtrlDesc TIME_CTRL ((data ||| 0x80000000) % 2 ^ 32)).1.resyncWrite := by
    unfold State.hostActs State.writeActs
    rw [if_neg (by decide), if_neg (by decide), if_neg (by decide), if_neg (by decide), if_neg (by decide), if_neg (by decide),
      if_neg (by decide), if_neg (by decide), if_pos rfl, if_pos ⟨hword, rfl⟩]
  have hback' : ((s.woken TIME_CTRL).writeFields timeCtrlDesc TIME_CTRL ((data ||| 0x80000000) % 2 ^ 32)).1.flag
      TIME_STATUS.BACKSTEP = true := by
    unfold State.flag State.fld
    rw [State.reg_writeFields_other _ _ _ (by decide)]
    exact ((s.woken_kept TIME_CTRL).flag TIME_STATUS.BACKSTEP (by decide)).trans hback
  have hwaits := State.resyncWrite_waits ((State.leader_writeFields _ timeCtrlDesc _ (by decide)).trans
    ((s.leader_woken TIME_CTRL).trans hleader)) hback'
  rw [← hacts] at hwaits
  have hkept := State.hostWrite_keeps h findReg_timeCtrl rfl (placesMask [.out, .ACC_DENIED]) (by decide) (.inr (.inr (by decide)))
    rfl (data ||| 0x80000000)
  exact ⟨_, rfl, (hkept.flag TIME_STATUS.RESYNC_WAIT (by decide)).trans hwaits⟩

/-! ### A host-loaded image (R417) -/

/-- HEATH_FW_LOAD_CTRL as the map describes it. -/
def fwLoadDesc : RegDesc := ⟨0x1038, 4, 1, 0, .system, .host, 0, false, 0, [⟨31, 31, .w1s, 0, 1⟩, ⟨12, 0, .rw, 0, 8191⟩]⟩

theorem findReg_fwLoad : findReg HEATH_FW_LOAD_CTRL = some fwLoadDesc := by decide +kernel

theorem State.readImage_spec (s : State) (addr : Nat) {lines : Nat} (h : lines ≠ 0) :
    Kept (placesMask [.out, .mem, .fw]) s (s.readImage addr lines) ∧ (s.readImage addr lines).fw.readLeft = lines ∧
    (s.readImage addr lines).fw.readAt = addr := by
  refine ⟨State.readImage_keeps _ s s addr lines (by decide) (Kept.refl _ s), ?_⟩
  unfold State.readImage
  dsimp only
  rw [if_neg h, (State.memSend_keeps (allBut .fw) _ _ _ (by decide) (Kept.refl _ _)).fw (by decide)]
  exact ⟨rfl, rfl⟩

/-- GO with a length starts the read of the image (R417). -/
theorem State.loadGo_spec {s : State} (hwait : s.fw.waitLoad.isSome = true) (htrying : s.fw.trying = 0) (hleft : s.fw.readLeft = 0)
    (hreset : s.inReset = false) (hlen : s.fld HEATH_FW_LOAD_CTRL.LEN ≠ 0) :
    s.loadGo.flag HEATH_FW_LOAD_CTRL.GO = true ∧ s.loadGo.fw.readLeft = 64 * s.fld HEATH_FW_LOAD_CTRL.LEN ∧
    s.loadGo.fw.readAt = s.loadAddr := by
  have hbound : s.fld HEATH_FW_LOAD_CTRL.LEN < 8192 := bitsOf_lt _ 12 0
  unfold State.loadGo
  rw [if_pos ⟨hwait, htrying, hleft, hreset⟩, if_neg (by omega)]
  obtain ⟨hkept, hlines, haddr⟩ := State.readImage_spec
    (((s.setFlag HEATH_FW_LOAD_CTRL.GO true).setFlag HEATH_FW_LOAD_CTRL.DONE false).setFlag HEATH_FW_LOAD_CTRL.FAIL false)
    s.loadAddr (lines := 64 * s.fld HEATH_FW_LOAD_CTRL.LEN) (by omega)
  refine ⟨(hkept.flag HEATH_FW_LOAD_CTRL.GO (by decide)).trans ?_, hlines, haddr⟩
  rw [State.flag_setFlag_apart _ _ _ _ (by decide), State.flag_setFlag_apart _ _ _ _ (by decide)]
  exact State.flag_setFlag_same _ HEATH_FW_LOAD_CTRL.GO true rfl (by decide)

/-- GO has no part in the length. -/
theorem loadLen_or_go (data : Nat) : bitsOf (data ||| 0x80000000) 12 0 = data % 2 ^ 13 := by
  unfold bitsOf
  rw [pow_zero, Nat.div_one, Nat.or_mod_two_pow]
  exact Nat.or_zero _

theorem exec_fwLoadGo_spec {s : State} (h : s.portOpen) (data : Nat) (hwait : s.fw.waitLoad.isSome = true) (htrying : s.fw.trying = 0)
    (hleft : s.fw.readLeft = 0) (hlen : data % 2 ^ 13 ≠ 0) :
    ∃ t, exec (.fwLoadGo data .host) s = .next t ∧ t.flag HEATH_FW_LOAD_CTRL.GO = true ∧
      t.fw.readLeft = 64 * (data % 2 ^ 13) ∧ t.fw.readAt = s.loadAddr := by
  obtain ⟨-, -, hreset, -⟩ := id h
  have hword : bitAt ((data ||| 0x80000000) % 2 ^ 32) 31 = true := bitAt_or_two_pow data (k := 31) (by decide)
  have hawake : s.woken HEATH_FW_LOAD_CTRL = s := if_neg (fun hc => absurd hc.1 (by decide))
  have hignores : (s.woken HEATH_FW_LOAD_CTRL).ignores HEATH_FW_LOAD_CTRL = false := by
    obtain ⟨x, hx⟩ := Option.isSome_iff_exists.mp hwait
    rw [hawake]
    unfold State.ignores
    rw [hx]
    rfl
  have hkept := State.hostWrite_keeps h findReg_fwLoad rfl (placesMask [.out, .ACC_DENIED]) (by decide) (.inl (by decide)) hignores
    (data ||| 0x80000000)
  have hfollows := FieldDesc.follows_of_writeFields findReg_fwLoad (f := ⟨12, 0, .rw, 0, 8191⟩) (by decide) s (data ||| 0x80000000)
    (t := (s.writeFields fwLoadDesc HEATH_FW_LOAD_CTRL ((data ||| 0x80000000) % 2 ^ 32)).1) rfl rfl
  have hacts : s.hostActs fwLoadDesc HEATH_FW_LOAD_CTRL ((data ||| 0x80000000) % 2 ^ 32) =
      (s.writeFields fwLoadDesc HEATH_FW_LOAD_CTRL ((data ||| 0x80000000) % 2 ^ 32)).1.loadGo := by
    unfold State.hostActs State.writeActs State.actHeath
    rw [hawake, if_pos (by decide), if_neg (by decide), if_neg (fun hc => absurd hc.1 (by decide)), if_pos ⟨rfl, hword⟩]
  have hregs := fun {o : Nat} (ho : o ≠ HEATH_FW_LOAD_CTRL) =>
    s.reg_writeFields_other fwLoadDesc ((data ||| 0x80000000) % 2 ^ 32) ho
  have hfw : (s.writeFields fwLoadDesc HEATH_FW_LOAD_CTRL ((data ||| 0x80000000) % 2 ^ 32)).1.fw = s.fw :=
    (State.writeFields_keeps (allBut .fw) s s _ _ _ (by decide) (Kept.refl _ s)).fw (by decide)
  rw [hacts] at hkept
  generalize (s.writeFields fwLoadDesc HEATH_FW_LOAD_CTRL ((data ||| 0x80000000) % 2 ^ 32)).1 = u at hkept hfollows hregs hfw
  have hlength : u.fld HEATH_FW_LOAD_CTRL.LEN = data % 2 ^ 13 := by
    have hmax : bitsOf (data ||| 0x80000000) 12 0 ≤ 8191 := Nat.le_of_lt_succ (bitsOf_lt _ 12 0)
    exact (hfollows.trans (if_pos ⟨Nat.zero_le _, hmax⟩)).trans (loadLen_or_go data)
  have hreset' : u.inReset = false := by
    unfold State.inReset State.flag State.fld at hreset ⊢
    rwa [hregs (by decide)]
  have haddr : u.loadAddr = s.loadAddr := by
    unfold State.loadAddr State.fld
    rw [hregs (by decide), hregs (by decide)]
  obtain ⟨hgo, hlines, hat⟩ := State.loadGo_spec (s := u) (by rw [hfw, hwait]) (by rw [hfw, htrying]) (by rw [hfw, hleft]) hreset'
    (by rw [hlength]; exact hlen)
  exact ⟨_, rfl, (hkept.flag HEATH_FW_LOAD_CTRL.GO (by decide)).trans hgo, by rw [hkept.fw (by decide), hlines, hlength],
    by rw [hkept.fw (by decide), hat, haddr]⟩

/-! ### An unlock (R476) -/

/-- ACC_CTRL as the map describes it. -/
def accCtrlDesc : RegDesc := ⟨0x6024, 4, 1, 0, .system, .host, 0, false, 0, [⟨0, 0, .w1s, 0, 1⟩]⟩

theorem findReg_accCtrl : findReg ACC_CTRL = some accCtrlDesc := by decide +kernel

/-- Locked again: no scope is left and no time runs (R476). -/
structure State.locked (t : State) : Prop where
  state : t.fld ACC_STATE.STATE = 1
  scope : t.fld ACC_STATE.SCOPE = 0
  timer : t.acc.timerEnd = 0

theorem State.locked.kept {t u : State} {m : Nat} (h : t.locked) (hk : Kept m t u) (hacc : m.testBit 30 = false)
    (hstate : Mask.misses m ACC_STATE = true) : u.locked :=
  ⟨(hk.fld ACC_STATE.STATE hstate).trans h.state, (hk.fld ACC_STATE.SCOPE hstate).trans h.scope,
    (congrArg AccessCtl.timerEnd (hk.acc hacc)).trans h.timer⟩

theorem State.locked_relock {s : State} (hleader : s.leader = true) (hstate : s.fld ACC_STATE.STATE = 2) : s.relock.locked := by
  unfold State.relock
  rw [if_pos ⟨hleader, hstate⟩]
  unfold State.setAccess State.takeAccess
  refine State.locked.kept (m := allButThese [.acc, .ACC_STATE]) ?_
    (State.toFollowers_keeps _ _ _ _ (by decide) (State.loseScopes_keeps _ _ _ _ (by decide) (Kept.refl _ _))) (by decide) (by decide)
  have hkept := fun u : State => Kept.set_acc (x_acc := { u.acc with timerEnd := 0 }) (by decide) (Kept.refl (placesMask [.acc]) u)
  refine ⟨((hkept _).fld ACC_STATE.STATE (by decide)).trans ?_, ((hkept _).fld ACC_STATE.SCOPE (by decide)).trans ?_, rfl⟩
  · rw [State.fld_setFld_apart _ _ _ _ (by decide), State.fld_setFld_apart _ _ _ _ (by decide)]
    exact State.fld_setFld_same _ ACC_STATE.STATE 1 (by decide) (by decide)
  · rw [State.fld_setFld_apart _ _ _ _ (by decide)]
    exact State.fld_setFld_same _ ACC_STATE.SCOPE 0 (by decide) (by decide)

theorem exec_accCtrlRelock_spec {s : State} (h : s.portOpen) (data : Nat) (hstate : s.fld ACC_STATE.STATE = 2) :
    ∃ t, exec (.accCtrlRelock data .host) s = .next t ∧ t.fld ACC_STATE.STATE = 1 ∧ t.fld ACC_STATE.SCOPE = 0 ∧ t.acc.timerEnd = 0 := by
  obtain ⟨-, -, -, hleader⟩ := id h
  have hword : bitAt ((data ||| 1) % 2 ^ 32) 0 = true := bitAt_or_one data
  have hacts : s.hostActs accCtrlDesc ACC_CTRL ((data ||| 1) % 2 ^ 32) =
      ((s.woken ACC_CTRL).writeFields accCtrlDesc ACC_CTRL ((data ||| 1) % 2 ^ 32)).1.relock := by
    unfold State.hostActs State.writeActs
    rw [if_neg (by decide), if_neg (by decide), if_neg (by decide), if_pos rfl, if_pos hword]
  have hopen : ((s.woken ACC_CTRL).writeFields accCtrlDesc ACC_CTRL ((data ||| 1) % 2 ^ 32)).1.fld ACC_STATE.STATE = 2 := by
    unfold State.fld
    rw [State.reg_writeFields_other _ _ _ (by decide)]
    exact ((s.woken_kept ACC_CTRL).fld ACC_STATE.STATE (by decide)).trans hstate
  have hlocked := State.locked_relock ((State.leader_writeFields _ accCtrlDesc _ (by decide)).trans
    ((s.leader_woken ACC_CTRL).trans hleader)) hopen
  rw [← hacts] at hlocked
  obtain ⟨hlock, hscope, htimer⟩ := hlocked.kept (State.hostWrite_keeps h findReg_accCtrl rfl (placesMask [.out, .ACC_DENIED])
    (by decide) (.inr (.inl (by decide))) rfl (data ||| 1)) (by decide) (by decide)
  exact ⟨_, rfl, hlock, hscope, htimer⟩

/-! ### The obligation -/

/-- Settles O29: each row by what its register's write sets going (State.readmit_spec, State.actSite_spec, State.bit_writeFields_w1c,
State.resyncWrite_waits, State.loadGo_spec, State.locked_relock). -/
theorem hostEndsWhatItAcknowledges : Obligations.HostEndsWhatItAcknowledges := by
  unfold Obligations.HostEndsWhatItAcknowledges
  refine fun s data h => ⟨fun n b hn hbuilt hb => ?_, fun k hk => exec_siteSuspectClear_spec h hk data, exec_budSlowClear_spec h data,
    exec_timeResync_spec h data, exec_fwLoadGo_spec h data, exec_accCtrlRelock_spec h data⟩
  obtain ⟨hgone, hstays⟩ := State.readmit_spec (s := s.woken (RAIL_PH_FAULT n)) (n := n) hb
  rw [s.phaseCause_woken n b hn] at hgone hstays
  exact ⟨_, State.exec_phFaultReadmit h hn hbuilt hb, hgone, fun hc => by
    rw [hstays hc]
    have hmiss : ∀ n < 4, Mask.misses (placesMask wokenPlaces) (RAIL_PH_FAULT n) = true := by decide
    exact (s.woken_kept (RAIL_PH_FAULT n)).reg' _ (hmiss n hn)⟩

end Sys2Proof.Machine
end

section
/-! PROOF (R185 to R229): what the operations of a control sample leave of the rail keepers. `Rail.control` is a keeper without
injection and captures, `Rail.drive` one without its phases, channels and meters too, `Rail.loop` its sample count, target and Vref. -/

namespace Sys2Proof.Machine

/-- The keeper without its injection and its capture. -/
def Rail.control (r : Rail) : Rail := { r with inj := none, ghosts := [], cap := {}, injAt := none, injEnd := none }

/-- The keeper also without its phases, its channels and its meters. -/
def Rail.drive (r : Rail) : Rail :=
  { r.control with
    n := 0, shedSince := none, enabled := 0, phases := [], readmitted := 0, remote := {}, loc := {}, ofs := 0, leadNext := false
    meter := {}, meterMs := {}, spoilt := false }

/-- The samples taken, the target and Vref. -/
def Rail.loop (r : Rail) : Nat × Nat × Nat := (r.count, r.target, r.vref)

/-- A part of a part that is the same is the same. -/
theorem State.SameRails.coarser {β : Type} {f : Rail → Rail} {g : Rail → β} {s t : State} (h : State.SameRails f s t)
    (hg : ∀ r, g (f r) = g r) : State.SameRails g s t := fun n => (hg _).symm.trans ((congrArg g (h n)).trans (hg _))

theorem State.SameRails.drive {s t : State} (h : State.SameRails Rail.control s t) : State.SameRails Rail.drive s t :=
  h.coarser (fun _ => rfl)

theorem State.SameRails.loop {s t : State} (h : State.SameRails Rail.drive s t) : State.SameRails Rail.loop s t :=
  h.coarser (fun _ => rfl)

/-! ### Single writes -/

section
variable {α : Type} {f : Rail → α} {b s t : State} (h : State.SameRails f b s)
include h

theorem State.SameRails.ite {c : Prop} [Decidable c] (h' : State.SameRails f b t) : State.SameRails f b (if c then s else t) := by
  split
  · exact h
  · exact h'

omit h in
theorem State.SameRails.iteFst {β : Type} {p q : State × β} {c : Prop} [Decidable c] (hp : State.SameRails f b p.1)
    (hq : State.SameRails f b q.1) : State.SameRails f b (if c then p else q).1 := by
  split
  · exact hp
  · exact hq

theorem State.SameRails.put {n : Nat} {r : Rail} (hr : f r = f (s.rail n)) : State.SameRails f b (s.setRail n r) :=
  h.trans (State.SameRails.setRail s n hr)

theorem State.SameRails.setFld {g : Fld} {v : Nat} : State.SameRails f b (s.setFld g v) := h.trans (.of_rails rfl)

theorem State.SameRails.setFlag {g : Fld} {v : Bool} : State.SameRails f b (s.setFlag g v) := h.trans (.of_rails rfl)

theorem State.SameRails.setReg {off v : Nat} : State.SameRails f b (s.setReg off v) := h.trans (.of_rails rfl)

theorem State.SameRails.incSat {g : Fld} : State.SameRails f b (s.incSat g) := h.trans (.of_rails rfl)

theorem State.SameRails.clearInjEn {n : Nat} : State.SameRails f b (s.clearInjEn n) :=
  h.kept (State.clearInjEn_keeps (allBut .rails) s s n (by decide) (Kept.refl _ s)) (by decide)

theorem State.SameRails.logRail {n type data : Nat} : State.SameRails f b (s.logRail n type data) :=
  h.kept (State.logRail_keeps (allBut .rails) s s n type data (by decide) (Kept.refl _ s)) (by decide)

theorem State.SameRails.raise {src syn : Nat} : State.SameRails f b (s.raise src syn) :=
  h.kept (State.raise_keeps (allBut .rails) s s src syn false (by decide) (Kept.refl _ s)) (by decide)

theorem State.SameRails.ringEvent {src : Nat} : State.SameRails f b (s.ringEvent src) :=
  h.kept (State.ringEvent_keeps (allBut .rails) s s src (by decide) (Kept.refl _ s)) (by decide)

theorem State.SameRails.showRail {n : Nat} : State.SameRails f b (s.showRail n) :=
  h.kept (State.showRail_keeps (allBut .rails) s s n (by decide) (Kept.refl _ s)) (by decide)

end

/-! ### Injections and captures -/

section
variable {b s : State} (h : State.SameRails Rail.control b s)
include h

theorem State.SameRails.injGone : State.SameRails Rail.control b s.injGone :=
  h.trans (.each (fun _ t => .put (.refl _ t) (by rfl)) _ s)

theorem State.SameRails.abortInj (n reason : Nat) : State.SameRails Rail.control b (s.abortInj n reason) := by
  unfold State.abortInj
  dsimp only
  split
  · exact h
  · exact .raise <| .logRail <| .incSat <| .setFlag <| .setFld <| .setFlag <| .clearInjEn <| .injGone <| .put h (by rfl)

theorem State.SameRails.endInj (n : Nat) : State.SameRails Rail.control b (s.endInj n) := by
  unfold State.endInj
  exact .logRail <| .setFlag <| .setFlag <| .clearInjEn <| .injGone <| .put h (by rfl)

theorem State.SameRails.injOver (n : Nat) : State.SameRails Rail.control b (s.injOver n) := by
  unfold State.injOver
  split
  · exact h
  · exact .ite (h.endInj n) h

theorem State.SameRails.trigCap (n evt : Nat) : State.SameRails Rail.control b (s.trigCap n evt) := by
  unfold State.trigCap
  exact .ite (.setFld (.put h (by rfl))) (.ite (.incSat h) h)

theorem State.SameRails.capEvent (n bit : Nat) : State.SameRails Rail.control b (s.capEvent n bit) := by
  unfold State.capEvent
  exact .ite h (h.trigCap n bit)

theorem State.SameRails.abortAllInj (reason : Nat) : State.SameRails Rail.control b (s.abortAllInj reason) :=
  h.trans (.each (fun n t => (State.SameRails.refl _ t).abortInj n reason) _ s)

theorem State.SameRails.injTrigger (n caps : Nat) : State.SameRails Rail.control b (s.injTrigger n caps) := by
  refine h.trans (.each (fun m t => ?_) _ s)
  have ht := State.SameRails.refl Rail.control t
  exact .ite (.ite (ht.trigCap m 0) (.put ht (by rfl))) (.ite (ht.trigCap m 0) ht)

theorem State.SameRails.sampleGhosts (n : Nat) : State.SameRails Rail.control b (s.sampleGhosts n) := by
  unfold State.sampleGhosts
  exact State.SameRails.trans (.put h (by rfl)) (.each (fun _ t => (State.SameRails.refl _ t).injTrigger n _) _ _)

theorem State.SameRails.sampleCap (n count : Nat) (code : Option Int) : State.SameRails Rail.control b (s.sampleCap n count code) := by
  have hdue : State.SameRails Rail.control b (s.capDue n) := by
    unfold State.capDue
    exact .ite (.put (h.trigCap n 0) (by rfl)) h
  unfold State.sampleCap State.capPush
  exact .ite hdue (.ite (.put hdue (by rfl)) (.setFld (.setFld (.put hdue (by rfl)))))

theorem State.SameRails.noteSat (n flags : Nat) : State.SameRails Rail.control b (s.noteSat n flags) := by
  have hring : State.SameRails Rail.control b (if maskDiff flags (s.reg (RAIL_SAT n)) = 0 then s
      else (s.setReg (RAIL_SAT n) (s.reg (RAIL_SAT n) ||| flags)).logRail n 0x44 (dataBytes [maskDiff flags (s.reg (RAIL_SAT n))])) :=
    .ite h (.logRail (.setReg h))
  unfold State.noteSat
  dsimp only
  generalize (if maskDiff flags (s.reg (RAIL_SAT n)) = 0 then s else _) = u at hring ⊢
  exact .ite (State.SameRails.capEvent (.ite (hring.capEvent n 1) hring) n 2) (.ite (hring.capEvent n 1) hring)

theorem State.SameRails.noteChannel (n which old new : Nat) (lead : Bool) :
    State.SameRails Rail.control b (s.noteChannel n which old new lead) := by
  unfold State.noteChannel
  exact .ite h (.ite (.logRail h) (State.SameRails.abortAllInj (.logRail h) 2))

theorem State.SameRails.noteSwitch (n : Nat) (failed : Bool) : State.SameRails Rail.control b (s.noteSwitch n failed) := by
  unfold State.noteSwitch
  exact .ite (.raise (State.SameRails.capEvent (.incSat h) n 3)) (State.SameRails.capEvent (.incSat h) n 3)

end

/-- What follows the count of a sample ends or moves an injection alone. -/
theorem State.control_sampleInj (s : State) (n : Nat) : State.SameRails Rail.control (s.countSample n) (s.sampleInj n) := by
  have hghosts := (State.SameRails.refl Rail.control (s.countSample n)).sampleGhosts n
  unfold State.sampleInj
  dsimp only
  generalize (s.countSample n).sampleGhosts n = u at hghosts ⊢
  split
  · exact hghosts
  · next j _ =>
    have htrigger : State.SameRails Rail.control (s.countSample n) (if j.k = j.settle then u.injTrigger n j.caps else u) :=
      .ite (hghosts.injTrigger n j.caps) hghosts
    generalize (if j.k = j.settle then u.injTrigger n j.caps else u) = v at htrigger ⊢
    exact .ite (State.SameRails.abortInj (.put htrigger (by rfl)) n 1) (.put htrigger (by rfl))

/-! ### Channels -/

/-- What follows from the channels of a sample leaves the keeper as it is (R201). -/
theorem State.control_channelsNoted {u : State} {n o o' w w' : Nat} {lead : Bool} {f g : Fld} {v v' : Nat} :
    State.SameRails Rail.control u ((((u.noteChannel n 0 o w lead).noteChannel n 1 o' w' lead).setFld f v).setFld g v') :=
  .setFld (.setFld (((State.SameRails.refl _ u).noteChannel n 0 o w lead).noteChannel n 1 o' w' lead))

theorem State.drive_sampleChannels (s : State) (n : Nat) (inp : SampleIn) : State.SameRails Rail.drive s (s.sampleChannels n inp) := by
  unfold State.sampleChannels
  dsimp only
  have hset : ∀ remote loc ofs, State.SameRails Rail.drive s (s.setRail n { s.rail n with remote := remote, loc := loc, ofs := ofs }) :=
    fun _ _ _ => .put (.refl _ s) (by rfl)
  exact .put ((hset _ _ _).trans (.drive (.ite (State.control_channelsNoted.noteSwitch n _) State.control_channelsNoted))) (by rfl)

theorem State.remote_sampleChannels (s : State) (n : Nat) (inp : SampleIn) : ((s.sampleChannels n inp).rail n).remote =
    (s.rail n).remote.sample inp.remote (s.flag (RAIL_SENSE.FROZEN_EN n)) (s.fld (RAIL_SENSE.STUCK_THRESH n)) (s.rail n).duties := by
  unfold State.sampleChannels
  dsimp only
  rw [State.rail_setRail_same]
  refine Eq.trans (State.SameRails.coarser (f := Rail.control) (g := Rail.remote)
    (.ite (State.control_channelsNoted.noteSwitch n _) State.control_channelsNoted) (fun _ => rfl) n) ?_
  rw [State.rail_setRail_same]

end Sys2Proof.Machine
end

section
/-! PROOF (R185 to R210): what the later orders of a control sample, and a shutdown, leave of the rail keepers. -/

namespace Sys2Proof.Machine

/-! ### Phases (R188, R189) -/

section
variable {b s : State} (h : State.SameRails Rail.drive b s)
include h

theorem State.SameRails.countWith (n cnt k why : Nat) : State.SameRails Rail.drive b (s.countWith n cnt k why) := by
  unfold State.countWith
  exact .logRail (.put h (by rfl))

theorem State.SameRails.setPhases (n cnt changed why : Nat) : State.SameRails Rail.drive b (s.setPhases n cnt changed why) := by
  unfold State.setPhases
  exact .ite h (.logRail (.put h (by rfl)))

theorem State.SameRails.excludePhase (n k cause : Nat) : State.SameRails Rail.drive b (s.excludePhase n k cause) := by
  unfold State.excludePhase
  exact State.SameRails.trans (State.SameRails.countWith (.raise (.setFld h)) n _ k 1)
    (State.SameRails.drive ((State.SameRails.refl _ _).capEvent n 6))

theorem State.SameRails.phaseReport (n : Nat) (p : PhaseIn) : State.SameRails Rail.drive b (s.phaseReport n p) := by
  have hnoted : State.SameRails Rail.drive b (s.notePhase n p) := by
    unfold State.notePhase
    exact .put h (by rfl)
  unfold State.phaseReport
  exact .ite hnoted (hnoted.excludePhase n p.k _)

theorem State.SameRails.noteReadmitted (n : Nat) : State.SameRails Rail.drive b (s.noteReadmitted n) := by
  unfold State.noteReadmitted
  exact State.SameRails.trans (.put h (by rfl)) (.each (fun k t => (State.SameRails.refl _ t).countWith n _ k 2) _ _)

theorem State.SameRails.sampleExclusions (n : Nat) (inp : SampleIn) : State.SameRails Rail.drive b (s.sampleExclusions n inp) := by
  unfold State.sampleExclusions
  exact (h.noteReadmitted n).trans (.each (fun k t => (State.SameRails.refl _ t).phaseReport n _) _ _)

theorem State.SameRails.samplePhases (n : Nat) : State.SameRails Rail.drive b (s.samplePhases n) := by
  unfold State.samplePhases
  exact .ite (.put (h.setPhases n _ 0xFF 0) (by rfl)) (.put (h.setPhases n _ 0xFF 0) (by rfl))

end

/-! ### From the control law on (orders 6 to 8) -/

theorem State.SameRails.controlLoop {s t : State} (h : State.SameRails Rail.control s t) : State.SameRails Rail.loop s t := h.drive.loop

section
variable {b s : State} (h : State.SameRails Rail.loop b s)
include h

theorem State.SameRails.takeFF : State.SameRails Rail.loop b s.takeFF.2 :=
  h.kept (State.takeFF_keeps (allBut .rails) s s (by decide) (Kept.refl _ s)) (by decide)

theorem State.SameRails.sampleLaw (n : Nat) (code : Option Int) (resumed : Bool) :
    State.SameRails Rail.loop b (s.sampleLaw n code resumed) := by
  have hff : State.SameRails Rail.loop b (if n = 0 then s.takeFF else (0, s)).2 := by
    split
    · exact h.takeFF
    · exact h
  unfold State.sampleLaw
  dsimp only
  generalize (if n = 0 then s.takeFF else (0, s)) = p at hff ⊢
  split
  · exact State.SameRails.trans (.put hff (by rfl)) (.controlLoop ((State.SameRails.refl _ _).noteSat n _))
  · exact State.SameRails.trans (.put hff (by rfl)) (.controlLoop ((State.SameRails.refl _ _).noteSat n _))

theorem State.SameRails.sampleMeter (n : Nat) (code : Option Int) (snsRef : Nat) :
    State.SameRails Rail.loop b (s.sampleMeter n code snsRef) := by
  unfold State.sampleMeter
  exact .put h (by rfl)

theorem State.SameRails.dropPhases (n : Nat) : State.SameRails Rail.loop b (s.dropPhases n) := by
  unfold State.dropPhases
  exact .ite (.put h (by rfl)) (.logRail (.put h (by rfl)))

theorem State.SameRails.leaveHold (n : Nat) : State.SameRails Rail.loop b (s.leaveHold n) := by
  have hleft : State.SameRails Rail.loop b ((s.setRail n { s.rail n with holdAt := none }).setFlag (RAIL_STATUS.HOLD_FREEZE n) false) :=
    .setFlag (.put h (by rfl))
  unfold State.leaveHold
  dsimp only
  generalize (s.setRail n { s.rail n with holdAt := none }).setFlag (RAIL_STATUS.HOLD_FREEZE n) false = u at hleft ⊢
  refine .ite hleft (hleft.kept (m := allBut .rails) ?_ (by decide))
  refine Kept.each (State.logArb_keeps _ _ _ _ _ (by decide) <| State.levelOff_keeps _ _ _ _ (by decide) <|
    State.openEnds_keeps _ _ _ (by decide) (Kept.refl _ u)) (fun st t ht => State.noteFreeze_keeps _ _ _ _ _ _ (by decide) ht)

theorem State.SameRails.tripRail (n : Nat) (e : Int) : State.SameRails Rail.loop b (s.tripRail n e) := by
  unfold State.tripRail
  dsimp only
  have htripped : State.SameRails Rail.loop b (((((((s.dropPhases n).setRail n { (s.dropPhases n).rail n with
      state := 5, holdAt := none, duty := 0, openLoop := false, ssSearch := none, ovRun := 0, uvRun := 0 }).setFld
      (RAIL_STATUS.STATE n) 5).setFlag (RAIL_STATUS.AT_TARGET n) false).logRail n 0x42
      (dataBytes ([0, 0] ++ leBytes 2 (ofSigned 16 e)))).ringEvent 3).capEvent n 4) :=
    State.SameRails.trans (.ringEvent <| .logRail <| .setFlag <| .setFld <| .put (h.dropPhases n) (by rfl))
      (.controlLoop ((State.SameRails.refl _ _).capEvent n 4))
  exact State.SameRails.trans (.ite (State.SameRails.leaveHold (.raise htripped) n) (.raise htripped))
    (.controlLoop ((State.SameRails.refl _ _).abortAllInj 2))

theorem State.SameRails.sampleProtect (n : Nat) (inp : SampleIn) : State.SameRails Rail.loop b (s.sampleProtect n inp).1 := by
  have hruns : ∀ ov uv, State.SameRails Rail.loop b (s.setRail n { s.rail n with ovRun := ov, uvRun := uv }) :=
    fun _ _ => .put h (by rfl)
  have hraised {ov uv d syn : Nat} : State.SameRails Rail.loop b
      (((((s.setRail n { s.rail n with ovRun := ov, uvRun := uv }).logRail n 0x42 d).ringEvent 3).capEvent n 5).raise srcRailUv syn) :=
    .raise (State.SameRails.trans (.ringEvent (.logRail (hruns ov uv))) (.controlLoop ((State.SameRails.refl _ _).capEvent n 5)))
  unfold State.sampleProtect
  dsimp only
  exact .iteFst (State.SameRails.tripRail (.ite hraised (hruns _ _)) n _) (.ite hraised (hruns _ _))

theorem State.SameRails.sampleTarget (n : Nat) : State.SameRails Rail.loop b (s.sampleTarget n) := by
  unfold State.sampleTarget
  exact .ite (.setFlag (.put h (by rfl))) (.setFlag (.put h (by rfl)))

end

/-- New tap scales change nothing but the lines (R306). -/
def Rail.lines (r : Rail) : Rail := { r with scale := [], ramp := [] }

theorem State.lines_loadScales (s : State) (n : Nat) : State.SameRails Rail.lines s (s.loadScales n) := by
  unfold State.loadScales
  refine .put (.refl _ s) ?_
  refine each_keeps (fun r : Rail => r.lines = (s.rail n).lines) _ (fun k r hr => ?_) _ _ rfl
  dsimp only
  split
  · exact hr
  · exact hr

theorem State.SameRails.loadPulses {b s : State} (h : State.SameRails Rail.loop b s) (n : Nat) :
    State.SameRails Rail.loop b (s.loadPulses n) := by
  have hlines : State.SameRails Rail.loop b (s.loadScales n) := h.trans ((s.lines_loadScales n).coarser (fun _ => rfl))
  unfold State.loadPulses
  exact .put hlines (by rfl)

/-- What a sample shows of a keeper that delivers nothing. -/
def Rail.rest (r : Rail) : Nat × Nat × Nat × Nat × Nat := (r.count, r.vref, r.duty, r.onTime, r.state)

/-- With a duty of 0 the next period has no pulse (R186). -/
theorem State.rest_loadPulses {s : State} {n : Nat} (h : (s.rail n).duty = 0) :
    ((s.loadPulses n).rail n).rest = ((s.rail n).count, (s.rail n).vref, 0, 0, (s.rail n).state) := by
  have hlines := s.lines_loadScales n
  have hcount := hlines.coarser (g := Rail.count) (fun _ => rfl) n
  have hvref := hlines.coarser (g := Rail.vref) (fun _ => rfl) n
  have hduty := hlines.coarser (g := Rail.duty) (fun _ => rfl) n
  have hstate := hlines.coarser (g := Rail.state) (fun _ => rfl) n
  unfold State.loadPulses
  dsimp only
  rw [State.rail_setRail_same]
  unfold Rail.rest
  dsimp only
  rw [hcount, hvref, hduty, hstate, h, Nat.zero_mul]
  rfl

end Sys2Proof.Machine
end

section
/-! PROOF (R91, R113, R206, R207, R210): a shutdown, a stop and a request that waited leave the samples, the target and Vref of every
rail as they are. -/

namespace Sys2Proof.Machine

section
variable {b s : State} (h : State.SameRails Rail.loop b s)
include h

theorem State.SameRails.ps {x : Power} : State.SameRails Rail.loop b { s with ps := x } := fun n => h n

theorem State.SameRails.railsFall : State.SameRails Rail.loop b s.railsFall := fun n => h n

theorem State.SameRails.railDown (n : Nat) : State.SameRails Rail.loop b (s.railDown n) := by
  have hdown : State.SameRails Rail.loop b ((s.railTo n 4).setFlag (RAIL_STATUS.AT_TARGET n) false) := by
    unfold State.railTo
    exact .setFlag (.setFld (.put h (by rfl)))
  unfold State.railDown
  exact .ite (State.SameRails.leaveHold (.put hdown (by rfl)) n) (.put hdown (by rfl))

theorem State.SameRails.shutNext (why : Nat) : State.SameRails Rail.loop b (s.shutNext why) := by
  unfold State.shutNext
  split
  · exact State.SameRails.railDown h.ps _
  · exact h.kept (State.shutDone_keeps (allBut .rails) s s why (by decide) (Kept.refl _ s)) (by decide)

theorem State.SameRails.voidAll (clearReq reset : Bool) : State.SameRails Rail.loop b (s.voidAll clearReq reset) :=
  h.kept (State.voidAll_keeps (allBut .rails) s s clearReq reset (by decide) (Kept.refl _ s)) (by decide)

theorem State.SameRails.levelOn (src syn : Nat) : State.SameRails Rail.loop b (s.levelOn src syn) :=
  h.kept (State.levelOn_keeps (allBut .rails) s s src syn (by decide) (Kept.refl _ s)) (by decide)

theorem State.SameRails.beginShut (why : Nat) (atOnce : Bool) : State.SameRails Rail.loop b (s.beginShut why atOnce) := by
  have hfall : State.SameRails Rail.loop b (if s.ps.railsReady then s.voidAll false false else s) := .ite (h.voidAll false false) h
  unfold State.beginShut
  dsimp only
  have hlow := hfall.railsFall
  generalize State.railsFall (if s.ps.railsReady = true then s.voidAll false false else s) = u at hlow ⊢
  split
  · exact .ite hlow.ps (State.SameRails.shutNext hlow.ps why)
  · exact State.SameRails.shutNext hlow.ps why

theorem State.SameRails.stopWith (code : Nat) : State.SameRails Rail.loop b (s.stopWith code) := by
  unfold State.stopWith
  dsimp only
  refine State.SameRails.kept (m := allBut .rails) (State.SameRails.beginShut (s := State.bootEnds _) ?_ 2 false)
    (State.answerStopped_keeps _ _ _ (by decide) (State.report_keeps _ _ _ _ (by decide) (Kept.refl _ _))) (by decide)
  refine State.SameRails.kept (m := allBut .rails) ?_ (State.bootEnds_keeps _ _ _ (by decide) (Kept.refl _ _)) (by decide)
  split
  · exact State.SameRails.levelOn (.setFld (.setFlag h)) _ _
  · exact .setFld (.setFlag h)

theorem State.SameRails.bringFail (code : Nat) : State.SameRails Rail.loop b (s.bringFail code) := by
  unfold State.bringFail
  refine .ite (h.stopWith code) (State.SameRails.beginShut ?_ 3 true)
  split
  · exact h.levelOn _ _
  · exact h

theorem State.SameRails.goDown (code : Nat) (atOnce : Bool) : State.SameRails Rail.loop b (s.goDown code atOnce) := by
  unfold State.goDown
  refine .ite (h.bringFail code) ?_
  split
  · exact .ite (h.shutNext _) h
  · exact .ite (.ite (h.beginShut 2 atOnce) h) (.ite h (.setFlag (h.beginShut 1 atOnce)))

theorem State.SameRails.legBegin (t : Nat) : State.SameRails Rail.loop b (s.legBegin t) := by
  have hleg : State.SameRails Rail.loop b ((({ s with ps := { s.ps with leg := t } } : State).setFld HEATH_DOMAIN_STATUS.PSTATE_TGT t).setFlag
      HEATH_DOMAIN_STATUS.IN_TRANSIT true) := .setFlag (.setFld h.ps)
  unfold State.legBegin
  dsimp only
  generalize (({ s with ps := { s.ps with leg := t } } : State).setFld HEATH_DOMAIN_STATUS.PSTATE_TGT t).setFlag
    HEATH_DOMAIN_STATUS.IN_TRANSIT true = u at hleg ⊢
  refine .ite (hleg.beginShut 0 false) <| .ite (hleg.kept (State.retainHandshake_keeps (allBut .rails) u u (by decide) (Kept.refl _ u))
    (by decide)) <| .ite hleg <| .ite (hleg.voidAll true false) <| .ite (hleg.trans (.startCore (fun _ => rfl) u)) ?_
  exact State.SameRails.kept (m := allBut .rails) (hleg.trans (.of_rails (by rfl)))
    (State.dropExtTrip_keeps _ _ _ (by decide) (Kept.refl _ _)) (by decide)

theorem State.SameRails.tryRequest : State.SameRails Rail.loop b s.tryRequest := by
  unfold State.tryRequest
  split
  · exact h
  · refine .ite h <| .ite h <| .ite ?_ <| .ite ?_ <| State.SameRails.legBegin h.ps _
    · exact h.kept (State.psDone_keeps (allBut .rails) s s (by decide) (Kept.refl _ s)) (by decide)
    · exact h.kept (State.psRefuse_keeps (allBut .rails) s s (by decide) (Kept.refl _ s)) (by decide)

theorem State.SameRails.railOver : State.SameRails Rail.loop b s.railOver := by
  unfold State.railOver State.afterDown
  exact .ite (h.goDown 7 true).tryRequest (h.goDown 7 true)

/-- What a sample without a failed soft-start sets going elsewhere leaves the loops as they are. -/
theorem State.SameRails.sampleActs (n : Nat) {e : SampleEvents} (he : e.ssFailed = false) :
    State.SameRails Rail.loop b (s.sampleActs n e) := by
  have hstep : State.SameRails Rail.loop b s.stepSample :=
    h.kept (State.stepSample_keeps (allBut .rails) s s (by decide) (Kept.refl _ s)) (by decide)
  have huv : State.SameRails Rail.loop b (if e.uv then s.stepSample.uvAlert n else s.stepSample) :=
    .ite (hstep.kept (State.uvAlert_keeps (allBut .rails) _ _ n (by decide) (Kept.refl _ _)) (by decide)) hstep
  unfold State.sampleActs
  dsimp only
  rw [he, if_neg Bool.false_ne_true]
  generalize (if e.uv = true then s.stepSample.uvAlert n else s.stepSample) = u at huv ⊢
  exact State.SameRails.kept (m := allBut .rails) (.ite huv.railOver huv) (State.noteReasons_keeps _ _ _ (by decide) (Kept.refl _ _))
    (by decide)

end

end Sys2Proof.Machine
end

section
/-! PROOF of O39 (R185, R188, R191, R199, R206, R306), the control sample: what each order leaves of the loop, the idle keeper, and the
slew of a keeper in regulation. -/

namespace Sys2Proof.Machine

/-! ### The registers and states that order 5 reads (R191) -/

/-- Every place but those that the target, its slew and its period come from. -/
abbrev vrefMask : Nat :=
  allButThese [.lim, .ps, .HEATH_DOMAIN_STATUS, .HEATH_RESET_CTRL, .OPP_STATUS]

theorem misses_pointA (k : Nat) : Mask.misses vrefMask (OPP_PT_A k) = true := by
  have h : ∀ j < 32, Mask.misses vrefMask (0xC100 + 0x8 * j) = true := by decide +kernel
  exact h (k % 32) (Nat.mod_lt k (by decide))

theorem misses_pointB (k : Nat) : Mask.misses vrefMask (OPP_PT_B k) = true := by
  have h : ∀ j < 32, Mask.misses vrefMask (0xC104 + 0x8 * j) = true := by decide +kernel
  exact h (k % 32) (Nat.mod_lt k (by decide))

theorem misses_railVset (n : Nat) : Mask.misses vrefMask (RAIL_VSET n) = true := by
  have h : ∀ j < 4, Mask.misses vrefMask (0x18004 + 0x1000 * j) = true := by decide +kernel
  exact h (n % 4) (Nat.mod_lt n (by decide))

theorem misses_railCtrl (n : Nat) : Mask.misses vrefMask (RAIL_CTRL n) = true := by
  have h : ∀ j < 4, Mask.misses vrefMask (0x18000 + 0x1000 * j) = true := by decide +kernel
  exact h (n % 4) (Nat.mod_lt n (by decide))

theorem misses_railSense (n : Nat) : Mask.misses vrefMask (RAIL_SENSE n) = true := by
  have h : ∀ j < 4, Mask.misses vrefMask (0x18020 + 0x1000 * j) = true := by decide +kernel
  exact h (n % 4) (Nat.mod_lt n (by decide))

theorem State.railTarget_same {s t : State} (hk : Kept vrefMask s t) (hd : State.SameRails Rail.drive s t) (n : Nat) :
    t.railTarget n = s.railTarget n := by
  have hbase : (t.rail n).base = (s.rail n).base := hd.coarser (g := Rail.base) (fun _ => rfl) n
  have hbias : (t.rail 0).bias = (s.rail 0).bias := hd.coarser (g := Rail.bias) (fun _ => rfl) 0
  have hreset : t.inReset = s.inReset := hk.flag HEATH_RESET_CTRL.BLOCK_RESET (by decide)
  have hvolt : t.pointVolt n (t.fld OPP_STATUS.V_IDX) = s.pointVolt n (s.fld OPP_STATUS.V_IDX) := by
    rw [hk.fld OPP_STATUS.V_IDX (by decide)]
    unfold State.pointVolt
    rw [hk.lim (by decide), hk.fld (OPP_PT_A.VCORE (s.fld OPP_STATUS.V_IDX)) (misses_pointA _),
      hk.fld (OPP_PT_B.VCACHE (s.fld OPP_STATUS.V_IDX)) (misses_pointB _)]
  have hretaining : t.retaining = s.retaining := by
    unfold State.retaining
    rw [hk.lim (by decide), hk.ps (by decide), hk.flag HEATH_DOMAIN_STATUS.IN_TRANSIT (by decide),
      hk.fld HEATH_DOMAIN_STATUS.PSTATE (by decide)]
  unfold State.railTarget State.railBase
  rw [hbase, hbias, hreset, hvolt, hretaining, hk.fld (RAIL_VSET.VRET n) (misses_railVset n),
    hk.fld (RAIL_VSET.VSET n) (misses_railVset n)]

/-! ### Vref (order 5) -/

/-- The pre-bias that a sample sets (R150, R191). -/
def State.sampleBias (s : State) (n : Nat) : Nat :=
  if n = 0 ∧ (s.rail n).state ≠ 3 then s.prebiasNow else if n = 0 then 0 else (s.rail n).bias

/-- The keeper has the pre-bias of the sample. -/
def State.biased (s : State) (n : Nat) : State := s.setRail n { s.rail n with bias := s.sampleBias n }

/-- The keeper has a target; a change is recorded, and an injection aborts with it (R191, R223). -/
def State.retargeted (s : State) (n t : Nat) : State :=
  if t = (s.rail n).target then s
  else if (s.rail n).inj.isSome then ((s.setRail n { s.rail n with target := t }).logTarget n).abortInj n 3
  else (s.setRail n { s.rail n with target := t }).logTarget n

theorem State.retargeted_control (s : State) (n t : Nat) :
    ((s.retargeted n t).rail n).control = { s.rail n with target := t }.control := by
  have hset : State.SameRails Rail.control (s.setRail n { s.rail n with target := t })
      ((s.setRail n { s.rail n with target := t }).logTarget n) := .logRail (.refl _ _)
  have hsame : ((s.setRail n { s.rail n with target := t }).rail n).control = { s.rail n with target := t }.control :=
    congrArg Rail.control (State.rail_setRail_same s n _)
  unfold State.retargeted
  split
  · next h => rw [h]
  · exact (State.SameRails.ite (hset.abortInj n 3) hset n).trans hsame

theorem State.retargeted_kept (s : State) (n t : Nat) : Kept vrefMask s (s.retargeted n t) := by
  have hset : Kept vrefMask s ((s.setRail n { s.rail n with target := t }).logTarget n) :=
    State.logTarget_keeps _ _ _ _ (by decide) (Kept.set_rails (by decide) (Kept.refl _ s))
  exact Kept.ite (Kept.refl _ s) (Kept.ite (State.abortInj_keeps _ _ _ _ _ (by decide) hset) hset)

/-- Vref of a rail in regulation slews toward its target by OPP_CTRL.SLEW (R191). -/
theorem State.loop_sampleVref {s : State} {n : Nat} (h : (s.rail n).state = 2) : ((s.sampleVref n).rail n).loop =
    ((s.rail n).count, 64 * (s.biased n).railTarget n, (slewTo (s.rail n).vref (64 * (s.biased n).railTarget n) (s.rail n).slewRem
      (s.fld OPP_CTRL.SLEW) (s.fld (RAIL_CTRL.PER n))).1) := by
  have hrail : (s.biased n).rail n = { s.rail n with bias := s.sampleBias n } := State.rail_setRail_same _ _ _
  have hkept : Kept vrefMask s ((s.biased n).retargeted n (64 * (s.biased n).railTarget n)) :=
    (Kept.set_rails (by decide) (Kept.refl _ s)).trans (State.retargeted_kept _ _ _)
  have hcontrol := (s.biased n).retargeted_control n (64 * (s.biased n).railTarget n)
  have hbiased : ((s.biased n).rail n).state ≠ 4 := by rw [hrail]; exact fun h4 => absurd (h.symm.trans h4) (by decide)
  unfold State.sampleVref
  dsimp only
  rw [← State.sampleBias, ← State.biased, if_neg hbiased, ← State.retargeted]
  rw [hrail] at hcontrol
  generalize (s.biased n).retargeted n (64 * (s.biased n).railTarget n) = u at hcontrol hkept ⊢
  have hstate : (u.rail n).state = 2 := (congrArg Rail.state hcontrol :).trans h
  have hcount : (u.rail n).count = (s.rail n).count := (congrArg Rail.count hcontrol :)
  have htarget : (u.rail n).target = 64 * (s.biased n).railTarget n := (congrArg Rail.target hcontrol :)
  have hvref : (u.rail n).vref = (s.rail n).vref := (congrArg Rail.vref hcontrol :)
  have hrem : (u.rail n).slewRem = (s.rail n).slewRem := (congrArg Rail.slewRem hcontrol :)
  rw [State.rail_setRail_same]
  unfold Rail.loop
  dsimp only
  rw [hstate, if_neg (fun hc => absurd hc.1 (by decide)), if_neg (by omega), hcount, htarget, hvref, hrem,
    hkept.fld OPP_CTRL.SLEW (by decide), hkept.fld (RAIL_CTRL.PER n) (misses_railCtrl n)]

/-! ### The channel and the hold (orders 2 and 3) -/

/-- A VALID channel that gives a code stays VALID while no freeze is looked for (R201, R203). -/
theorem Channel.sample_valid {ch : Channel} (h : ch.state = 0) {code : Option Int} (hcode : code.isSome = true) (thresh : Nat)
    (duties : List Nat) : (ch.sample code false thresh duties).state = 0 := by
  obtain ⟨c, rfl⟩ := Option.isSome_iff_exists.mp hcode
  unfold Channel.sample
  dsimp only
  rw [h, if_neg (by decide), if_neg (by decide), Bool.false_and, Bool.false_and, Bool.false_and, if_neg Bool.false_ne_true]

/-- A keeper in regulation with a VALID channel neither enters a hold nor leaves one (R204, R205). -/
theorem State.sampleHold_regulating {s : State} {n : Nat} (hstate : (s.rail n).state = 2) (hvalid : (s.rail n).remote.state = 0) :
    s.sampleHold n = s := by
  unfold State.sampleHold
  dsimp only
  rw [hvalid, hstate, if_neg (by simp), if_neg (fun hc => absurd hc.2.1 (by decide))]

/-! ### A sample in regulation (R185, R191, R199) -/

/-- The state in which order 5 finds a keeper in regulation. -/
def State.beforeVref (s : State) (n : Nat) (inp : SampleIn) : State :=
  (((s.injOver n).sampleChannels n inp).sampleExclusions n inp).samplePhases n

theorem State.drive_beforeVref (s : State) (n : Nat) (inp : SampleIn) : State.SameRails Rail.drive s (s.beforeVref n inp) := by
  have hover : State.SameRails Rail.drive s (s.injOver n) := .drive (.injOver (.refl _ s) n)
  exact ((hover.trans (State.drive_sampleChannels _ n inp)).sampleExclusions n inp).samplePhases n

theorem State.beforeVref_kept (s : State) (n : Nat) (inp : SampleIn) : Kept vrefMask s (s.beforeVref n inp) := by
  unfold State.beforeVref
  exact State.samplePhases_keeps _ _ _ _ (by decide) <| State.sampleExclusions_keeps _ _ _ _ _ (by decide) <|
    State.sampleChannels_keeps _ _ _ _ _ (by decide) <| State.injOver_keeps _ _ _ _ (by decide) (Kept.refl _ s)

/-- From order 6 on the sample counts, and leaves target and Vref as order 5 has set them. -/
theorem State.loop_countSample {s v : State} {n : Nat} {x : Nat × Nat × Nat} (h : (v.rail n).loop = x) (hs : State.SameRails Rail.loop v s) :
    ((s.countSample n).rail n).loop = (x.1 + 1, x.2) := by
  unfold State.countSample
  rw [State.rail_setRail_same, ← h, ← hs n]
  rfl

theorem State.ssFailed_sampleProtect (s : State) (n : Nat) (inp : SampleIn) : (s.sampleProtect n inp).2.ssFailed = false := by
  unfold State.sampleProtect
  dsimp only
  exact (apply_ite (fun p : State × SampleEvents => p.2.ssFailed) _ _ _).trans (ite_self _)

/-- What a keeper in regulation with a VALID channel does in a sample, by what order 5 makes of its loop (R199). -/
theorem State.sample_regulating {s : State} {n : Nat} {inp : SampleIn} (hstate : (s.rail n).state = 2) (hsearch : (s.rail n).ssSearch = none)
    (hvalid : (s.rail n).remote.state = 0) (hcode : inp.remote.isSome = true) (hfrozen : s.flag (RAIL_SENSE.FROZEN_EN n) = false)
    {x : Nat × Nat × Nat} (hvref : (((s.beforeVref n inp).sampleVref n).rail n).loop = x) :
    ((s.sample n inp).1.rail n).loop = (x.1 + 1, x.2) ∧ (s.sample n inp).2.ssFailed = false := by
  have hdrive : State.SameRails Rail.drive s ((s.injOver n).sampleChannels n inp) :=
    State.SameRails.trans (.drive (.injOver (.refl _ s) n)) (State.drive_sampleChannels _ n inp)
  have hremote : (((s.injOver n).sampleChannels n inp).rail n).remote.state = 0 := by
    have hsame : ((s.injOver n).rail n).remote = (s.rail n).remote :=
      State.SameRails.coarser (f := Rail.control) (g := Rail.remote) (.injOver (.refl _ s) n) (fun _ => rfl) n
    have hflag : (s.injOver n).flag (RAIL_SENSE.FROZEN_EN n) = false :=
      ((State.injOver_keeps vrefMask s s n (by decide) (Kept.refl _ s)).flag (RAIL_SENSE.FROZEN_EN n) (misses_railSense n)).trans hfrozen
    rw [State.remote_sampleChannels, hflag, hsame]
    exact Channel.sample_valid hvalid hcode _ _
  have hhold := State.sampleHold_regulating ((hdrive.coarser (g := Rail.state) (fun _ => rfl) n).trans hstate) hremote
  unfold State.sample
  dsimp only
  rw [if_neg (by rw [hstate]; decide), (hdrive.coarser (g := Rail.ssSearch) (fun _ => rfl) n).trans hsearch]
  dsimp only
  rw [hhold, ← State.beforeVref]
  generalize (s.beforeVref n inp).sampleVref n = v at hvref ⊢
  have hguard : State.SameRails Rail.loop v (v.sampleGuard n inp) := .controlLoop (.ite (.abortAllInj (.refl _ v) 2) (.refl _ v))
  have hlaw := fun code resumed ref => ((hguard.sampleLaw n code resumed).sampleMeter n code ref)
  have hu := hlaw (codeInUse (s.flag (RAIL_CTRL.PRIMARY n)) (((s.injOver n).sampleChannels n inp).rail n).useLocal
    (((s.injOver n).sampleChannels n inp).rail n).ofs inp.remote inp.loc) ((((s.injOver n).sampleChannels n inp).rail n).openLoop &&
    !(((s.injOver n).sampleChannels n inp).rail n).openLoop) (((s.injOver n).sampleChannels n inp).rail n).snsRef
  generalize State.sampleMeter _ n _ _ = u at hu ⊢
  have hend : State.SameRails Rail.loop v (if (u.sampleProtect n inp).2.ov = true then (u.sampleProtect n inp).1
      else (u.sampleProtect n inp).1.sampleTarget n) := .ite (hu.sampleProtect n inp) ((hu.sampleProtect n inp).sampleTarget n)
  generalize (if (u.sampleProtect n inp).2.ov = true then (u.sampleProtect n inp).1 else _) = w at hend ⊢
  refine ⟨Eq.trans ?_ (State.loop_countSample hvref hend), u.ssFailed_sampleProtect n inp⟩
  exact State.SameRails.showRail (State.SameRails.loadPulses (.put (.controlLoop ((w.control_sampleInj n).sampleCap n _ _)) (by rfl)) n) n

end Sys2Proof.Machine
end

section
/-! PROOF of O39 (R185, R188, R199, R206, R306): the sample of an idle keeper, the end of a hold, the shed of a phase and the recalibration. -/

namespace Sys2Proof.Machine

/-! ### A sample of a keeper that is OFF or TRIPPED (R185, R199) -/

/-- The keeper's duty is 0 and it gives no pulse; the loop stays (R186). -/
theorem State.rest_sampleIdle (s : State) (n : Nat) (code : Option Int) :
    ((s.sampleIdle n code).rail n).rest = ((s.rail n).count, (s.rail n).vref, 0, 0, (s.rail n).state) := by
  have hpulses : ∀ duties lead, (((s.setRail n { s.rail n with duty := 0, duties := duties, useLocal := lead }).loadPulses n).rail n).rest =
      ((s.rail n).count, (s.rail n).vref, 0, 0, (s.rail n).state) := fun duties lead => by
    rw [State.rest_loadPulses (by rw [State.rail_setRail_same]), State.rail_setRail_same]
  have hidle := hpulses ((0 :: (s.rail n).duties).take 256) (s.rail n).leadNext
  unfold State.sampleIdle State.sampleMeter
  dsimp only
  generalize State.loadPulses _ n = u at hidle ⊢
  split
  · rw [State.rail_setRail_same]
    exact hidle
  · rw [State.rail_setRail_same]
    exact hidle

theorem State.SameRails.rest {s t : State} (h : State.SameRails Rail.drive s t) : State.SameRails Rail.rest s t := h.coarser (fun _ => rfl)

theorem State.sample_idle {s : State} {n : Nat} (h : (s.rail n).state = 0 ∨ (s.rail n).state = 5) (inp : SampleIn) :
    ((s.sample n inp).1.rail n).rest = ((s.rail n).count + 1, (s.rail n).vref, 0, 0, (s.rail n).state) ∧ (s.sample n inp).2 = {} := by
  have hdrop : State.SameRails Rail.drive s ((s.sampleChannels n inp).dropFF n) :=
    (s.drive_sampleChannels n inp).kept (State.dropFF_keeps (allBut .rails) _ _ n (by decide) (Kept.refl _ _)) (by decide)
  have hexcluded := hdrop.sampleExclusions n inp
  unfold State.sample
  dsimp only
  rw [if_pos h]
  refine ⟨?_, rfl⟩
  dsimp only
  generalize (((s.sampleChannels n inp).dropFF n).sampleExclusions n inp) = u at hexcluded ⊢
  generalize codeInUse _ _ _ _ _ = code
  have hidle := u.rest_sampleIdle n code
  generalize u.sampleIdle n code = v at hidle ⊢
  obtain ⟨hcount, hvref, hduty, hpulse, hstate⟩ : (v.rail n).count = (u.rail n).count ∧ (v.rail n).vref = (u.rail n).vref ∧
      (v.rail n).duty = 0 ∧ (v.rail n).onTime = 0 ∧ (v.rail n).state = (u.rail n).state := by
    simpa only [Rail.rest, Prod.mk.injEq] using hidle
  refine Eq.trans (State.SameRails.rest (.drive ((v.control_sampleInj n).sampleCap n _ code)) n) ?_
  unfold State.countSample
  rw [State.rail_setRail_same]
  unfold Rail.rest
  dsimp only
  rw [hcount, hvref, hduty, hpulse, hstate, hexcluded.coarser (g := Rail.count) (fun _ => rfl) n,
    hexcluded.coarser (g := Rail.vref) (fun _ => rfl) n, hexcluded.coarser (g := Rail.state) (fun _ => rfl) n]

/-! ### A sample as a row -/

theorem exec_controlSample {s : State} {n : Nat} (hruns : s.dpwmRuns = true) (hn : n < 4) (hused : s.railUsed n = true) (inp : SampleIn) :
    exec (.controlSample n inp) s = .next ((s.sample n inp).1.sampleActs n (s.sample n inp).2) := by
  refine (ofUnit_of (decide_eq_true hn) _).trans (congrArg Host.Outcome.next ?_)
  unfold State.controlSample
  rw [hruns, hused]
  rfl

/-- A sample without events leaves the keepers as they are (R166, R269). -/
theorem State.rails_sampleActs (s : State) (n : Nat) : (s.sampleActs n {}).rails = s.rails :=
  (State.noteReasons_keeps (allBut .rails) _ _ (by decide) (State.stepSample_keeps _ s s (by decide) (Kept.refl _ s))).rails (by decide)

/-! ### The end of a hold (R206) -/

/-- The instant at which the hold of a rail ends. -/
def State.holdEnd (s : State) (n t0 : Nat) : Nat := t0 + 1000 * s.fld (RAIL_SENSE.HOLD_TIME n)

theorem State.holdExpires_spec {s : State} {n t0 : Nat} (h : (s.rail n).holdAt = some t0) :
    Kept (placesMask [.now, .sky, .rails, .rings, .raises, .RING_STATUS]) s (s.holdExpires n) ∧
    (s.holdExpires n).now = max s.now (s.holdEnd n t0) ∧ ((s.holdExpires n).rail n).holdAt = none ∧
    ⟨srcRailHoldExpired, syndrome (0xFF00 + n) 0 (s.rail n).eMeas, false⟩ ∈ (s.holdExpires n).raises := by
  refine ⟨State.holdExpires_keeps _ s s n (by decide) (Kept.refl _ s), ?_⟩
  unfold State.holdExpires
  rw [h]
  refine ⟨?_, ?_, List.mem_append_right _ (List.mem_singleton.mpr rfl)⟩
  · refine Eq.trans (Kept.now (m := allBut .now) ?_ (by decide)) (s.now_advanceTo (s.holdEnd n t0))
    exact State.raise_keeps _ _ _ _ _ false (by decide) <| State.logRail_keeps _ _ _ _ _ _ (by decide) <|
      Kept.set_rails (by decide) (Kept.refl _ _)
  · refine Eq.trans (State.SameRails.raise (f := Rail.holdAt) (.logRail (.refl _ _)) n) ?_
    rw [State.rail_setRail_same]

/-- rails_ready falls now, and the rails will follow (R91). -/
def State.fallsNow (s : State) (why : Nat) : State :=
  { s with ps := { s.ps with railsReady := false, fellAt := some s.now, bring := false, soft := none, shut := some ⟨0, 0, s.now, why⟩ } }

/-- A shutdown of a die whose rails were ready waits its 2 µs (R91). -/
theorem State.beginShut_ready {s : State} (h : s.ps.railsReady = true) (why : Nat) :
    s.beginShut why false = (s.voidAll false false).fallsNow why := by
  have hvoid : (s.voidAll false false).ps.railsReady = true :=
    (congrArg Power.railsReady ((State.voidAll_keeps (allBut .ps) s s false false (by decide) (Kept.refl _ s)).ps (by decide))).trans h
  unfold State.beginShut
  dsimp only
  rw [if_pos h]
  generalize s.voidAll false false = v at hvoid
  unfold State.railsFall
  rw [hvoid]
  exact if_pos ⟨Nat.lt_add_of_pos_right (by decide), rfl⟩

/-- The die goes down by itself: the shutdown begins, and a transition is under way (R206). -/
theorem State.goDown_ready {s : State} (hbring : s.ps.bring = false) (hshut : s.ps.shut = none) (hstopped : s.stopped = false)
    (hpstate : s.pstate ≠ 0) (hready : s.ps.railsReady = true) (code : Nat) :
    s.goDown code false = ((s.voidAll false false).fallsNow 1).setFlag HEATH_DOMAIN_STATUS.IN_TRANSIT true := by
  unfold State.goDown
  rw [hbring, if_neg Bool.false_ne_true, hshut]
  dsimp only
  rw [hstopped, if_neg Bool.false_ne_true, if_neg (fun hc => hpstate hc.1), State.beginShut_ready hready]

theorem exec_holdExpiry {s : State} {n t0 : Nat} (hruns : s.dpwmRuns = true) (hn : n < 4) (hhold : (s.rail n).holdAt = some t0)
    (hbring : s.ps.bring = false) (hshut : s.ps.shut = none) (hstopped : s.stopped = false) (hpstate : s.pstate ≠ 0)
    (hready : s.ps.railsReady = true) : exec (.holdExpiry n) s =
      .next ((((s.holdExpires n).voidAll false false).fallsNow 1).setFlag HEATH_DOMAIN_STATUS.IN_TRANSIT true).noteReasons := by
  obtain ⟨hkept, -⟩ := State.holdExpires_spec hhold
  have hps := hkept.ps (by decide)
  refine (ofUnit_run (decide_eq_true hn) hruns).trans (congrArg (fun t : State => Host.Outcome.next t.noteReasons) ?_)
  unfold State.holdOver State.afterDown
  rw [hhold, Option.isNone_some, if_neg Bool.false_ne_true, State.goDown_ready (by rw [hps, hbring]) (by rw [hps, hshut])
    ((hkept.flag HEATH_BOOT_STATUS.STOPPED (by decide)).trans hstopped)
    (by rw [show (s.holdExpires n).pstate = s.pstate from hkept.fld HEATH_DOMAIN_STATUS.PSTATE (by decide)]; exact hpstate)
    (by rw [hps, hready])]
  exact if_neg (Option.some_ne_none _)

theorem holdExpiry_spec {s : State} {n t0 : Nat} (hruns : s.dpwmRuns = true) (hn : n < 4) (hhold : (s.rail n).holdAt = some t0)
    (hbring : s.ps.bring = false) (hshut : s.ps.shut = none) (hstopped : s.stopped = false) (hpstate : s.pstate ≠ 0)
    (hready : s.ps.railsReady = true) : ∃ t, exec (.holdExpiry n) s = .next t ∧ t.now = max s.now (s.holdEnd n t0) ∧
      (t.rail n).holdAt = none ∧ t.ps.railsReady = false ∧ t.ps.shut = some ⟨0, 0, t.now, 1⟩ ∧
      t.flag HEATH_DOMAIN_STATUS.IN_TRANSIT = true ∧
      ⟨srcRailHoldExpired, syndrome (0xFF00 + n) 0 (s.rail n).eMeas, false⟩ ∈ t.raises := by
  obtain ⟨-, hnow, hat, hraised⟩ := State.holdExpires_spec hhold
  have hvoid := State.voidAll_keeps (allButThese [.now, .rails, .raises]) (s.holdExpires n) _ false false (by decide) (Kept.refl _ _)
  have hnow' := hvoid.now (by decide)
  have hraises := hvoid.raises (by decide)
  have hrails := State.SameRails.of_rails (f := Rail.holdAt) (hvoid.rails (by decide)) n
  refine ⟨_, exec_holdExpiry hruns hn hhold hbring hshut hstopped hpstate hready, ?_⟩
  generalize (s.holdExpires n).voidAll false false = v at hnow' hraises hrails ⊢
  have hreasons := State.noteReasons_keeps (allButThese [.now, .rails, .raises, .ps, .HEATH_DOMAIN_STATUS])
    ((v.fallsNow 1).setFlag HEATH_DOMAIN_STATUS.IN_TRANSIT true) _ (by decide) (Kept.refl _ _)
  have hlater : (((v.fallsNow 1).setFlag HEATH_DOMAIN_STATUS.IN_TRANSIT true).noteReasons).now = v.now :=
    (State.now_noteReasons _).trans ((State.setFlag_now _ _ _).trans rfl)
  refine ⟨hlater.trans (hnow'.trans hnow), ?_, ?_, ?_, ?_, ?_⟩
  · have hsame : ((v.fallsNow 1).setFlag HEATH_DOMAIN_STATUS.IN_TRANSIT true).rails = v.rails :=
      (State.setFlag_rails _ _ _).trans rfl
    exact (State.SameRails.of_rails (f := Rail.holdAt) ((hreasons.rails (by decide)).trans hsame) n).trans (hrails.trans hat)
  · rw [hreasons.ps (by decide)]
    rfl
  · rw [hreasons.ps (by decide), hlater]
    rfl
  · exact (hreasons.flag HEATH_DOMAIN_STATUS.IN_TRANSIT (by decide)).trans
      (State.flag_setFlag_same _ HEATH_DOMAIN_STATUS.IN_TRANSIT true rfl (by decide))
  · have hsame : ((v.fallsNow 1).setFlag HEATH_DOMAIN_STATUS.IN_TRANSIT true).raises = v.raises :=
      (State.setFlag_raises _ _ _).trans rfl
    rw [hreasons.raises (by decide), hsame, hraises]
    exact hraised

/-! ### The shed of a phase (R188) -/

theorem State.setPhases_spec (s : State) (n cnt changed why : Nat) :
    ((s.setPhases n cnt changed why).rail n).n = cnt ∧ ((s.setPhases n cnt changed why).rail n).enabled = firstPhases (s.avail n) cnt := by
  unfold State.setPhases
  dsimp only
  split
  · next h => exact ⟨h.1.symm, h.2.symm⟩
  · have hlog := State.SameRails.logRail (f := fun r : Rail => (r.n, r.enabled)) (type := 0x43) (n := n) (data := dataBytes [cnt, changed, why])
      (.refl _ (s.setRail n { s.rail n with n := cnt, enabled := firstPhases (s.avail n) cnt })) n
    rw [State.rail_setRail_same] at hlog
    exact ⟨congrArg Prod.fst hlog, congrArg Prod.snd hlog⟩

/-- 10 µs with a lower target shed one phase; otherwise no phase is shed, and the wait is over (R188). -/
theorem State.phaseShed_spec {s : State} {n t0 : Nat} (h : (s.rail n).shedSince = some t0) :
    (s.phaseShed n).now = max s.now (t0 + 10000) ∧
    (s.phaseTarget n < (s.rail n).n → ((s.phaseShed n).rail n).n = (s.rail n).n - 1 ∧
      ((s.phaseShed n).rail n).enabled = firstPhases (s.avail n) ((s.rail n).n - 1)) ∧
    ((s.rail n).n ≤ s.phaseTarget n → ((s.phaseShed n).rail n).n = (s.rail n).n ∧ ((s.phaseShed n).rail n).shedSince = none) := by
  have htarget : (s.advanceTo (t0 + 10000)).phaseTarget n = s.phaseTarget n := rfl
  have havail : (s.advanceTo (t0 + 10000)).avail n = s.avail n := rfl
  have hnow := s.now_advanceTo (t0 + 10000)
  unfold State.phaseShed
  dsimp only
  rw [h]
  dsimp only
  rw [htarget]
  generalize s.advanceTo (t0 + 10000) = u at havail hnow
  split
  · next hlow =>
    obtain ⟨hcount, henabled⟩ := u.setPhases_spec n ((s.rail n).n - 1) 0xFF 0
    have hsame := (State.setPhases_keeps (allBut .now) u u n ((s.rail n).n - 1) 0xFF 0 (by decide) (Kept.refl _ u)).now (by decide)
    refine ⟨hsame.trans hnow, fun _ => ?_, fun hle => absurd hlow (Nat.not_lt.mpr hle)⟩
    rw [State.rail_setRail_same]
    exact ⟨hcount, henabled.trans (by rw [havail])⟩
  · next hhigh =>
    refine ⟨hnow, fun hlow => absurd hlow hhigh, fun _ => ?_⟩
    rw [State.rail_setRail_same]
    exact ⟨rfl, rfl⟩

/-! ### A recalibration (R306) -/

/-- The state at the instant of a recalibration: one period after the one before, if there was one (R306). -/
def State.calInstant (s : State) : State :=
  match s.ps.dpwmAt with
  | some t => s.advanceTo (t + 1000000)
  | none => s

/-- What a recalibration leaves of the taps `m`: those of the tied phases measured again (R306). -/
def State.calTaps (s : State) (m taps : List (Nat × Nat)) : List (Nat × Nat) :=
  taps.foldl (fun m p => if p.1 < 96 ∧ bitAt s.tie.phases p.1 then SMap.put (fun _ => 0) m p.1 p.2 else m) m

/-- The largest change of a pulse by these taps (R306). -/
def State.calAdjust (s : State) (m : List (Nat × Nat)) : Nat :=
  (m.map (fun p => onTimeChange (s.rail (Sys2Proof.Machine.lineOf p.1).1).onTime
    (SMap.get (fun _ => 0) (s.rail (Sys2Proof.Machine.lineOf p.1).1).scale (Sys2Proof.Machine.lineOf p.1).2) p.2)).foldl max 0

/-- The count and the largest adjustment, as shown (R306). -/
def State.calShown (s : State) (p : Power) (adj : Nat) : State :=
  (({ s with ps := p } : State).incSat THM_DPWM_CAL.COUNT).setFld THM_DPWM_CAL.MAX_ADJ (min adj 255)

theorem State.dpwmCal_on {s : State} (h : s.flag HEATH_DOMAIN_STATUS.DPWM_ON = true) (taps : List (Nat × Nat)) :
    s.dpwmCal taps = s.calInstant.calShown
      { s.calInstant.ps with dpwmAt := some s.calInstant.now, dpwmTaps := s.calTaps s.calInstant.ps.dpwmTaps taps }
      (s.calInstant.calAdjust (s.calTaps s.calInstant.ps.dpwmTaps taps)) := by
  unfold State.dpwmCal
  exact if_pos h

theorem State.calShown_spec (s : State) (p : Power) (adj : Nat) :
    (s.calShown p adj).ps = p ∧ (s.calShown p adj).now = s.now ∧
    (s.calShown p adj).fld THM_DPWM_CAL.COUNT = min (s.fld THM_DPWM_CAL.COUNT + 1) 65535 ∧
    (s.calShown p adj).fld THM_DPWM_CAL.MAX_ADJ = min adj 255 := by
  unfold State.calShown
  refine ⟨(State.setFld_ps _ _ _).trans (State.incSat_ps _ _ _), (State.setFld_now _ _ _).trans (State.incSat_now _ _ _), ?_, ?_⟩
  · rw [State.fld_setFld_apart _ _ _ _ (by decide)]
    exact State.fld_incSat_same _ THM_DPWM_CAL.COUNT (by decide) (by decide)
  · refine (State.fld_setFld_same _ THM_DPWM_CAL.MAX_ADJ _ (by decide) (by decide)).trans (Nat.mod_eq_of_lt ?_)
    exact Nat.lt_of_le_of_lt (Nat.min_le_right _ _) (by decide)

theorem State.calInstant_keeps (s : State) : Kept (placesMask [.now, .sky]) s s.calInstant := by
  unfold State.calInstant
  cases s.ps.dpwmAt with
  | none => exact Kept.refl _ s
  | some t => exact State.advanceTo_keeps _ s s (t + 1000000) (by decide) (Kept.refl _ s)

theorem State.now_calInstant {s : State} {t0 : Nat} (h : s.ps.dpwmAt = some t0) :
    s.calInstant.now = max s.now (t0 + 1000000) := by
  unfold State.calInstant
  rw [h]
  exact s.now_advanceTo _

theorem dpwmCal_spec {s : State} (h : s.flag HEATH_DOMAIN_STATUS.DPWM_ON = true) (taps : List (Nat × Nat)) :
    (s.dpwmCal taps).ps.dpwmAt = some (s.dpwmCal taps).now ∧
    (∀ t0, s.ps.dpwmAt = some t0 → (s.dpwmCal taps).now = max s.now (t0 + 1000000)) ∧
    (s.dpwmCal taps).fld THM_DPWM_CAL.COUNT = min (s.fld THM_DPWM_CAL.COUNT + 1) 65535 ∧
    (s.dpwmCal taps).fld THM_DPWM_CAL.MAX_ADJ = min (((s.dpwmCal taps).ps.dpwmTaps.map (fun p =>
      onTimeChange (s.rail (lineOf p.1).1).onTime (SMap.get (fun _ => 0) (s.rail (lineOf p.1).1).scale (lineOf p.1).2) p.2)).foldl max 0) 255 := by
  have hrail : ∀ n, s.calInstant.rail n = s.rail n :=
    State.SameRails.of_rails (f := id) (s.calInstant_keeps.rails (by decide))
  rw [State.dpwmCal_on h]
  obtain ⟨hps, hnow, hcount, hadj⟩ := s.calInstant.calShown_spec
    { s.calInstant.ps with dpwmAt := some s.calInstant.now, dpwmTaps := s.calTaps s.calInstant.ps.dpwmTaps taps }
    (s.calInstant.calAdjust (s.calTaps s.calInstant.ps.dpwmTaps taps))
  rw [hps, hnow, hcount, hadj, s.calInstant_keeps.fld THM_DPWM_CAL.COUNT (by decide)]
  refine ⟨rfl, fun t0 ht => State.now_calInstant ht, rfl, ?_⟩
  unfold State.calAdjust
  simp only [hrail]

/-! ### The obligation -/

theorem controlSample_idle {s : State} {n : Nat} (hruns : s.dpwmRuns = true) (hn : n < 4) (hused : s.railUsed n = true)
    (h : (s.rail n).state = 0 ∨ (s.rail n).state = 5) (inp : SampleIn) : ∃ t, exec (.controlSample n inp) s = .next t ∧
      (t.rail n).count = (s.rail n).count + 1 ∧ (t.rail n).vref = (s.rail n).vref ∧ (t.rail n).duty = 0 ∧
      (t.rail n).onTime = 0 ∧ (t.rail n).state = (s.rail n).state := by
  obtain ⟨hrest, hevents⟩ := State.sample_idle h inp
  have hacts := State.SameRails.of_rails (f := Rail.rest) ((s.sample n inp).1.rails_sampleActs n) n
  rw [hrest] at hacts
  refine ⟨_, exec_controlSample hruns hn hused inp, ?_⟩
  rw [hevents]
  simpa only [Rail.rest, Prod.mk.injEq] using hacts

theorem controlSample_regulating {s : State} {n : Nat} {inp : SampleIn} (hruns : s.dpwmRuns = true) (hn : n < 4)
    (hused : s.railUsed n = true) (hstate : (s.rail n).state = 2) (hsearch : (s.rail n).ssSearch = none)
    (hvalid : (s.rail n).remote.state = 0) (hcode : inp.remote.isSome = true) (hfrozen : s.flag (RAIL_SENSE.FROZEN_EN n) = false) :
    ∃ t, exec (.controlSample n inp) s = .next t ∧
      (t.rail n).count = (s.rail n).count + 1 ∧ (n ≠ 0 → (t.rail n).target = 64 * s.railTarget n) ∧
      (t.rail n).vref = (slewTo (s.rail n).vref (t.rail n).target (s.rail n).slewRem (s.fld OPP_CTRL.SLEW)
        (s.fld (RAIL_CTRL.PER n))).1 := by
  have hdrive := s.drive_beforeVref n inp
  have hkept := s.beforeVref_kept n inp
  have hbefore := State.loop_sampleVref ((hdrive.coarser (g := Rail.state) (fun _ => rfl) n).trans hstate)
  rw [hdrive.coarser (g := Rail.count) (fun _ => rfl) n, hdrive.coarser (g := Rail.vref) (fun _ => rfl) n,
    hdrive.coarser (g := Rail.slewRem) (fun _ => rfl) n, hkept.fld OPP_CTRL.SLEW (by decide),
    hkept.fld (RAIL_CTRL.PER n) (misses_railCtrl n)] at hbefore
  obtain ⟨hloop, hevents⟩ := State.sample_regulating hstate hsearch hvalid hcode hfrozen hbefore
  have hacts := (State.SameRails.sampleActs (.refl _ (s.sample n inp).1) n hevents n).trans hloop
  obtain ⟨hcount, htarget, hvref⟩ : _ ∧ _ ∧ _ := by simpa only [Rail.loop, Prod.mk.injEq] using hacts
  refine ⟨_, exec_controlSample hruns hn hused inp, hcount, fun hn0 => ?_, by rw [htarget]; exact hvref⟩
  have hbias : State.SameRails Rail.drive (s.beforeVref n inp) ((s.beforeVref n inp).biased n) :=
    .put (.refl _ _) (by unfold State.sampleBias; rw [if_neg (fun hc => hn0 hc.1), if_neg hn0])
  have hbiased : Kept vrefMask s ((s.beforeVref n inp).biased n) := Kept.set_rails (by decide) hkept
  rw [htarget, State.railTarget_same hbiased (hdrive.trans hbias)]

/-- Settles O39: a sample by what each of its orders leaves of the keeper, the end of a hold, a shed phase and a recalibration by
what they set. -/
theorem samplesHoldsShedsAndRecalibrations : Obligations.SamplesHoldsShedsAndRecalibrations := by
  unfold Obligations.SamplesHoldsShedsAndRecalibrations
  refine ⟨fun s n inp hruns hn hused => ⟨fun h => controlSample_idle hruns hn hused h inp,
    fun hstate hsearch hvalid hcode hfrozen => controlSample_regulating hruns hn hused hstate hsearch hvalid hcode hfrozen⟩,
    fun s n t0 hruns hn hhold hbring hshut hstopped hpstate hready =>
      holdExpiry_spec hruns hn hhold hbring hshut hstopped hpstate hready,
    fun s n t0 hruns hn hshed => ?_, fun s lines taps hon => ⟨_, rfl, dpwmCal_spec hon (lines.zip taps)⟩⟩
  obtain ⟨hnow, hlow, hhigh⟩ := State.phaseShed_spec hshed
  refine ⟨_, ofUnit_run (decide_eq_true hn) hruns, (State.now_noteReasons _).trans hnow, ?_, ?_⟩
  all_goals
    have hrails : (s.phaseShed n).noteReasons.rail n = (s.phaseShed n).rail n :=
      State.SameRails.of_rails (f := id) ((State.noteReasons_keeps (allBut .rails) _ _ (by decide) (Kept.refl _ _)).rails (by decide)) n
    rw [hrails]
    assumption

end Sys2Proof.Machine
end
